-- ==== Sys2Proof/Syntax.lean ====
section
/-!
DEFINITION. Syntax.lean: the commands of the block, one constructor per row of the spec's table of operations and
events (opcode_table.json).  The hardware is a block without an instruction memory: a command is a register access, a
protocol event, a ball edge, or the coming of a tick at which the spec has something happen.  A command carries what the
outside fixes about it (the unit, the value written, the quantity measured); what the block itself knows is read
from the state.
-/

namespace Sys2Proof

/-- Who makes a register access: the host over PCIe, or the cascade tunnel (R32, R66). -/
inductive Req where
  | host | tunnel
  deriving DecidableEq, Repr

/-- A register write: who makes it, its byte enables (R44) and the value. -/
structure Wr where
  req : Req
  be : BitVec 4
  val : Word
  deriving DecidableEq, Repr

/-- What an ECC-protected read finds: no error, a corrected single-bit error, or an uncorrectable one (R222). Upsets come
from outside, so a command that reads the store or the step memory carries what its read meets. -/
inductive Ecc where
  | clean | corrected | uncorrectable
  deriving DecidableEq, Repr

/-- What the host has set up for MSI-X (R63): the vectors it masks, and the address and data of the table's entries. -/
structure MsixTable where
  mask : BitVec 256
  entries : List (BitVec 64 × BitVec 32)
  deriving DecidableEq, Repr

/-- An equaliser step (R317): toward the code above or below, and the eye height the monitor measures at that code, in mV. -/
structure EqMove where
  up : Bool
  height : BitVec 10
  deriving DecidableEq, Repr

/-- An island and its clock as it is measured, in MHz (R97, R114). -/
structure IslClock where
  isl : Fin 33
  mhz : Fin 2048
  deriving DecidableEq, Repr

/-- What an engine fetches (R124, R182, R240, R564): the entry step with its staging, the successor of the step presented, the
target of entry `k` of its branch set or of its successor's, granule `n` of its segment or stream or of the bridge that stands in for
it, the bridge buffer, or item `k` of the redirect slot (R192): 0 the target, 1 its successor, 2 to 5 its targets. -/
inductive Fetch where
  | entry | succ | target (k : Fin 4) | succTarget (k : Fin 4) | granule (n : Nat) | bridge | redirect (k : Fin 6)
  deriving DecidableEq, Repr


/-- The commands of the block, one per row of the spec's table of operations and events. -/
inductive Instr where
  /-- EPOCH_TICK (R11): On every TB tick the hub epoch counter advances by exactly one. -/
  | epochTick
  /-- TB_EPOCH_LO_READ (R32): A read of TB_EPOCH_LO returns epoch bits [31:0] and latches bits [63:32] for that requester. -/
  | tbEpochLoRead (req : Req)
  /-- PPS_IN_EDGE (R33): A PPS_IN edge of the selected polarity is stamped while PPS_EN is 1. -/
  | ppsInEdge (falling : Bool) (sub : Fin 8)
  /-- PPS_MISSING (R34): No capture arrives within 1.5 s of the previous capture or of PPS_EN being set, and PPS_MISSING is raised once. -/
  | ppsMissing
  /-- PPS_ENABLE (R33): A write that changes PPS_EN from 0 to 1 forgets the previous capture, so PPS_INTERVAL and PPS_COUNT become 0. -/
  | ppsEnable (w : Wr)
  /-- PPS_STAMP_LO_READ (R37): A read of PPS_STAMP_LO returns tick bits [31:0] and latches PPS_HI and SUB. -/
  | ppsStampLoRead (req : Req)
  /-- TB_STAT_CLR (R37): A write of TB_CTRL.STAT_CLR clears H_STAT.LATE_COUNT and MAX_AGE. -/
  | tbStatClr (w : Wr)
  /-- TB_CONFIRM (R36): A write of TB_CTRL.CONFIRM ends UNCERTAIN when the TPLL is LOCKED on a standalone device or a master; it is refused when the TPLL is not LOCKED. -/
  | tbConfirm (w : Wr)
  /-- H_LOCAL_WRITE (R38): A write of H_LOCAL.H is applied, or refused when it is below 96 or while an engine is busy. -/
  | hLocalWrite (w : Wr)
  /-- REGISTER_WRITE (R563): A window A register write with no behaviour of its own is applied field by field, under the access codes, the lock, the shadow lock, value checks and not-ready pages. -/
  | registerWrite (w : Wr) (addr : BitVec 22)
  /-- WINDOW_B_WRITE (R49): A window B write updates the enabled bytes and the SECDED bits, or is dropped while the Facet is busy or not ON. -/
  | windowBWrite (w : Wr) (addr : BitVec 30)
  /-- WINDOW_B_READ (R49): A window B read is served in the refill-write slot class and returns whole dwords, poisoned for an uncorrectable line. -/
  | windowBRead (req : Req) (addr : BitVec 30) (ecc : Ecc)
  /-- PERST_N_ASSERT (R42): PERST_N resets the endpoint, its configuration space, MSI-X and MSIX_MAP, takes the link down and leaves the rest of the device running. -/
  | perstNAssert
  /-- PERST_N_RELEASE (R41): The endpoint leaves reset and enters link training within 20 ms. -/
  | perstNRelease
  /-- FUNCTION_LEVEL_RESET (R42): An FLR returns configuration space, MSI-X, DEV_INT_CTRL and MSIX_MAP to reset and stops host refill channels. -/
  | functionLevelReset
  /-- D3HOT_ENTRY (R42): Entry into D3hot raises HOST_LINK_DOWN, and from then on only configuration requests are answered. -/
  | d3hotEntry
  /-- D0_RETURN (R63): On a return from D3hot to D0, the PBA bit of every vector with a pending group is set. -/
  | d0Return
  /-- HOST_LINK_LOSS (R42): The PCIe data link goes down; DL_UP falls and LINKDOWN_COUNT advances. -/
  | hostLinkLoss
  /-- HOST_LINK_UP (R498): The data link comes up; DL_UP returns to 1 and the journal writer resumes C63. -/
  | hostLinkUp (width : Fin 16) (speed : Fin 16)
  /-- COMMIT_ARM (R56): A write of COMMIT.ARM runs the page's commit checks, sets PENDING and takes the shadow lock, or is refused. -/
  | commitArm (p : Fin 1024) (w : Wr)
  /-- COMMIT_HANDOVER (R57): At an owner's snapshot tick the owner takes its dirty shadows; PENDING clears after the last snapshot. -/
  | commitHandover (p : Fin 1024) (n : Nat)
  /-- LOCK_KEY_WRITE (R55): A write of LOCK.KEY opens the page lock for 0x5AFE and closes it for any other value. -/
  | lockKeyWrite (p : Fin 1024) (w : Wr)
  /-- LOCK_TIMEOUT (R55): 100 ms after it opened, LOCK.OPEN returns to 0. -/
  | lockTimeout (p : Fin 1024)
  /-- IRQ_FORCE (R53): A write of IRQ_FORCE sets the matching IRQ_STAT bits only. -/
  | irqForce (p : Fin 1024) (w : Wr)
  /-- DEV_EOI (R63): A write of DEV_EOI sets the vector's PBA bit when a group mapped to it is still pending. -/
  | devEoi (w : Wr)
  /-- MSIX_ENABLE (R63): MSI-X Enable changes from 0 to 1 in configuration space, and the PBA bits of pending groups are set. -/
  | msixEnable (busMaster : Bool) (funcMask : Bool) (table : MsixTable)
  /-- MSIX_MESSAGE_SEND (R63): When every send condition holds for a vector whose PBA bit is set, the endpoint sends its message and clears the bit. -/
  | msixMessageSend (v : Fin 256)
  /-- ERR_CLEAR (R61): A write of ERR_COUNT.CLR clears COUNT, FIRST and LAST. -/
  | errClear (p : Fin 1024) (w : Wr)
  /-- HOST_DROP_CLR (R68): A write of HOST_DROP.CLR clears COUNT and HOST_DROP_ADDR. -/
  | hostDropClr (w : Wr)
  /-- TUNNEL_ACCESS_EXEC (R66): A tunnelled request is executed on the target as a window A or window B access by the requester TUNNEL. -/
  | tunnelAccessExec (target : Fin 16) (winB : Bool) (write : Bool) (addr : BitVec 30) (val : Word) (ecc : Ecc)
  /-- TPLL_LOCKED (R70): The phase error has held below 1 ns for 1 ms with the reference qualified, and the TPLL enters LOCKED. -/
  | tpllLocked
  /-- REF_QUAL_GATE (R71): Each 1 ms gate measures REF_IN and updates qualification, loss and the frequency-step test. -/
  | refQualGate (ofs : Int) (phase : Int) (aux : Option Int)
  /-- REF_EDGE_TIMEOUT (R71): No REF_IN edge arrives within 4 reference periods. -/
  | refEdgeTimeout
  /-- TPLL_ACQUIRE_TIMEOUT (R70): No lock within 50 ms of qualification takes the TPLL to FAILED. -/
  | tpllAcquireTimeout
  /-- SLEW_COMPLETE (R76): The residual in SLEW falls below 1 ns and the TPLL enters LOCKED. -/
  | slewComplete
  /-- TPLL_CYCLE_SLIP (R80): A phase error beyond ±16 ns in LOCKED or SLEW takes the TPLL to FAILED. -/
  | tpllCycleSlip
  /-- FINE_CODE_LIMIT (R80): The fine code reaches an end of its range and the TPLL enters FAILED. -/
  | fineCodeLimit
  /-- TB_SUPERVISOR_FAULT (R80): The hub supervisor measures TB outside ±1000 ppm over 10 µs, and the TPLL enters FAILED. -/
  | tbSupervisorFault
  /-- TPLL_FINE_MARGIN (R80): The fine code comes within 10 % of a range end; the event is raised once and FINE_MARGIN is set. -/
  | tpllFineMargin
  /-- HOLDOVER_TEMP_CORRECT (R73): Every 10 ms in HOLDOVER with HOLD_SRC DCO, the DCO is corrected for temperature by at most 0.01 ppm. -/
  | holdoverTempCorrect
  /-- AUX_LOST (R74): REF_AUX is lost during HOLDOVER; the TPLL holds its present fine code and continues under temperature correction. -/
  | auxLost
  /-- TPLL_RESTART (R70): A write of TPLL_CTRL.RESTART takes a FAILED TPLL to ACQUIRE and requalifies the reference afresh. -/
  | tpllRestart (w : Wr)
  /-- PHASE_SNAP (R78): A write of PHASE_SNAP in SLEW, with no engine or drive running, starts the stepped removal of the residual. -/
  | phaseSnap (w : Wr)
  /-- PHASE_SNAP_STEP (R78): Every 16 tk during a snap, TB phase moves 1 st toward zero. -/
  | phaseSnapStep
  /-- SWEEP (R91): A write of TPLL_CTRL.SWEEP starts a band sweep while TB is not running or the TPLL is FAILED. -/
  | sweep (w : Wr)
  /-- SWEEP_BAND_GATE (R91): A 100 µs gate ends and FMID of one band is written to TPLL_SWEEP_RES. -/
  | sweepBandGate (fmid : BitVec 24) (mid : Bool)
  /-- BAND_ENTRY_WRITE (R90): A write of a TPLL_BAND or QPLL_BAND entry goes to the inactive bank and clears BUILD_DONE and CHECK_OK. -/
  | bandEntryWrite (quad : Option (Fin 64)) (n : Fin 64) (w : Wr)
  /-- BAND_CLOSE (R90): A write of BAND_CTL.CLOSE checks the inactive bank's CRC and sets BUILD_DONE and CHECK_OK. -/
  | bandClose (quad : Option (Fin 64)) (w : Wr)
  /-- BAND_SWAP_ATTEMPT (R90): At a lane grid boundary with REQ_BANK differing from ACTIVE_BANK, the bank swaps when it is built and checked. -/
  | bandSwapAttempt (quad : Option (Fin 64))
  /-- QPLL_ENABLE (R84): A write of QPLL_CTRL.EN starts acquisition when the domain is ON, or takes the quad OFF. -/
  | qpllEnable (q : Fin 64) (w : Wr)
  /-- QUAD_LOCKED (R84): The quad meets its frequency and no-slip criteria and declares LOCKED. -/
  | quadLocked (q : Fin 64)
  /-- QUAD_VTUNE_WARN (R84): VT comes within 10 % of a rail; the warning is raised once and VT_WARN is set. -/
  | quadVtuneWarn (q : Fin 64)
  /-- QUAD_UNLOCK (R85): An unlock is detected; the quad enters RELOCK, its lanes go DARK, and the event is fired and journalled. -/
  | quadUnlock (q : Fin 64)
  /-- QPLL_RELOCK (R85): A write of QPLL_CTRL.RELOCK from LOCKED or FAILED starts a relock. -/
  | qpllRelock (q : Fin 64) (w : Wr)
  /-- RELOCK_ATTEMPT_TIMEOUT (R86): An 8 µs relock attempt fails and the next band is tried. -/
  | relockAttemptTimeout (q : Fin 64)
  /-- AF_TB_EDGE_LOSS (R82): The AF supervisor sees no TB edge for 4 tk. -/
  | afTbEdgeLoss
  /-- FACET_FLL_UNLOCK (R97): An island clock has been outside ±2 % for more than 10 µs; the event is raised and a journal record is written. -/
  | facetFllUnlock (clk : IslClock)
  /-- LANE_OUTPUT_TICK (R100): On each tick the lane output stage takes the Bezel entry for ball tick t + 10 and presents the word with its markers. -/
  | laneOutputTick (l : Fin 256)
  /-- ENG_BEZEL_WRITE (R119): An engine writes its next computed entry into a Bezel once the Bezel has room. -/
  | engBezelWrite (e : Fin 512)
  /-- FCT_POINT_MOVE (R108): At a Bezel-safe moment the island starts moving to its requested point, raising V first when needed. -/
  | fctPointMove (isl : Fin 33)
  /-- VMEAS_SETTLED (R108): VMEAS reaches the new V − 5 mV and the frequency steps begin. -/
  | vmeasSettled (isl : Fin 33) (vmeas : Fin 1024)
  /-- FCT_FREQ_STEP (R108): Every 1 µs of a move, F moves one 10 MHz step toward the target. -/
  | fctFreqStep (isl : Fin 33)
  /-- FCT_POINT_DEFERRED (R108): No Bezel-safe moment comes within 1 ms, or VMEAS does not settle within 200 µs, and the island keeps its old point. -/
  | fctPointDeferred (isl : Fin 33)
  /-- FCT_OVR_WRITE (R109): A write of FCT_OVR applies or removes the override point, refused while an engine of the Facet runs. -/
  | fctOvrWrite (isl : Fin 33) (w : Wr)
  /-- FCT_BEZEL_CLR (R114): A write of FCT_BEZEL_CLR.CLR clears the Bezel statistics and FCT_STORE_ARB. -/
  | fctBezelClr (f : Fin 32) (w : Wr)
  /-- GIRDLE_CENSUS (R112): At each period start the census flit collects stream counts, and each stop adds its quanta to its deficit counters. -/
  | girdleCensus (ctl : List Nat) (bulk : List Nat)
  /-- GIRDLE_FLIT_INSERT (R112): On each Girdle cycle a stop inserts a flit into a free slot under its deficit counters and rotating priority. -/
  | girdleFlitInsert (stop : Fin 34) (c : Fin 3) (dir : Bool) (spare : Bool)
  /-- STORE_BANK_GRANT (R113): On each Facet cycle each store bank grants one line access, to an engine read or to a refill write. -/
  | storeBankGrant (f : Fin 32) (bank : Fin 4) (ports : BitVec 16) (refill : Bool) (part : Bool)
  /-- ENG_VERIFY (R146): A write of ENG_CTRL.VERIFY starts a scan of the window and clears PROG_OK. -/
  | engVerify (e : Fin 512) (w : Wr)
  /-- ENG_VERIFY_DONE (R147): The scan completes or stops at the first failing step, sets REASON, FIRST_BAD and PROG_OK, and raises ENG_VERIFY_DONE. -/
  | engVerifyDone (e : Fin 512) (ecc : Option (Fin 65536)) (becc : Option (Fin 65536))
  /-- ENG_ARM (R140): A write of ENG_CTRL.ARM checks its conditions, closes the loops, clears the counts and stages the entry step. -/
  | engArm (e : Fin 512) (w : Wr)
  /-- ENG_START (R141): A write of ENG_CTRL.START fixes the start tick of an ARMED engine with SRC SOFTWARE. -/
  | engStart (e : Fin 512) (w : Wr)
  /-- ENG_START_TICK (R141): The start tick is reached with the entry step spliced, and the engine enters RUNNING. -/
  | engStartTick (e : Fin 512)
  /-- ENG_STOP (R142): A write of ENG_CTRL.STOP fixes the stop tick by STOP_MODE, or stops an ARMED engine at once. -/
  | engStop (e : Fin 512) (w : Wr)
  /-- ENG_PARK (R139): A write of ENG_CTRL.PARK takes an ARMED, STOPPED or FAULT engine to PARKED and releases its marker balls. -/
  | engPark (e : Fin 512) (w : Wr)
  /-- ENG_CTRL_GATE (R135): A write of ENG_CTRL.GATE is a software gate, stamped at acceptance. -/
  | engCtrlGate (e : Fin 512) (w : Wr)
  /-- GATE_ARRIVE (R135): A gate reaches an engine; it sets or coalesces the gate pending bit, or is ignored and counted. -/
  | gateArrive (e : Fin 512)
  /-- ENG_STEP_BOUNDARY (R125): At a step's end boundary the successor starts by loop-back or NEXT, or the engine enters GATED. -/
  | engStepBoundary (e : Fin 512)
  /-- ENG_FETCH (R564): At a fetch tick the engine fetches step words and granules from the store and checks them. -/
  | engFetch (e : Fin 512) (item : Fetch) (word : Ecc) (data : Ecc) (ln : Fin 4)
  /-- ENG_FAULT (R144): At D_f − 66 after a runtime fault the engine enters FAULT, sets CODE and STEP, and raises and journals the fault. -/
  | engFault (e : Fin 512)
  /-- ENG_DRAIN_START (R142): At the splice deadline of the stop tick the engine enters DRAINING and discards its entries from the stop tick on. -/
  | engDrainStart (e : Fin 512)
  /-- ENG_STOP_TICK (R142): At the stop tick a DRAINING engine enters STOPPED, or PARKED for LANE_LOSS. -/
  | engStopTick (e : Fin 512)
  /-- ENG_EVENT_RELEASE (R133): At an event's stamp tick the engine releases ENG_STEP_START, ENG_LOOP_END or ENG_MARK to its Fire port, when ENG_EVT enables it. -/
  | engEventRelease (e : Fin 512)
  /-- BRANCH_INPUT_ARRIVE (R172): An event reaches a branch input and sets or coalesces its pending record. -/
  | branchInputArrive (e : Fin 512) (n : Fin 4)
  /-- DECISION_RESOLVE (R175): At the resolution tick D − 76 the engine evaluates its branch set, redirect, gate, advance and stream presence for decision point D. -/
  | decisionResolve (e : Fin 512)
  /-- ENG_REDIR_GO (R192): A write of ENG_REDIR.GO accepts a redirect, sets PENDING and starts staging the target. -/
  | engRedirGo (e : Fin 512) (w : Wr)
  /-- ENG_REDIR_CANCEL (R193): A write of ENG_REDIR.CANCEL withdraws a pending redirect whose resolution tick has not passed. -/
  | engRedirCancel (e : Fin 512) (w : Wr)
  /-- REDIRECT_STAGED (R192): Staging of the redirect target completes and STAGED is set. -/
  | redirectStaged (e : Fin 512)
  /-- ENG_BR_CLR (R194): A write of ENG_BR_CTRL.CLR clears ENG_BIN_CNT, ENG_BIN_LOSS and ENG_BR_LAST. -/
  | engBrClr (e : Fin 512) (w : Wr)
  /-- FIRE_PORT_ENQUEUE (R198): A producer event enters its island's sending port queue, or is discarded when the queue is full. -/
  | firePortEnqueue
  /-- FIRE_ROUTER_MATCH (R202): The router matches an event to its route slots and channels, merging same-cycle events per channel. -/
  | fireRouterMatch (ports : List (Fin 34))
  /-- FIRE_PORT_DELIVER (R197): The receiving port crosses an event into its island to the named consumer, and DELIVERED advances. -/
  | firePortDeliver (p : Fin 34)
  /-- FIRE_SW (R207): A write of FIRE_SW fires a channel with a stamp taken at acceptance. -/
  | fireSw (w : Wr)
  /-- EVT_IN_EDGE (R206): An enabled EVT_IN edge of the selected polarity is stamped and produces an EVT_IN event of generation 0. -/
  | evtInEdge (n : Fin 16) (falling : Bool) (sub : Fin 8)
  /-- TIMER_ENABLE (R208): A write of timer EN = 1 starts the timer, refused when START is past. -/
  | timerEnable (t : Fin 32) (w : Wr)
  /-- TIMER_DISABLE (R208): A write of timer EN = 0 stops every event after the acceptance tick. -/
  | timerDisable (t : Fin 32) (w : Wr)
  /-- TIMER_EVENT (R208): At START + k × PERIOD the timer produces an event, and clears EN after COUNT events. -/
  | timerEvent (t : Fin 32)
  /-- SCHED_ARM (R210): A write of ARM = 1 arms a scheduled-fire slot, refused when AT is past. -/
  | schedArm (k : Fin 64) (w : Wr)
  /-- SCHED_CANCEL (R210): A write of ARM = 0 before AT cancels the slot's event. -/
  | schedCancel (k : Fin 64) (w : Wr)
  /-- SCHED_FIRE (R210): At tick AT the slot produces its event, clears ARM and sets FIRED. -/
  | schedFire (k : Fin 64)
  /-- ROUTE_SLOT_WRITE (R201): A write of a route slot sets EN, SPAN and CHANNEL for the selected producer and starts a cycle check. -/
  | routeSlotWrite (slot : Fin 2) (w : Wr)
  /-- FIRE_CH_WRITE (R204): A write of FIRE_CH sets a channel's consumer and starts a cycle check. -/
  | fireChWrite (c : Fin 1024) (w : Wr)
  /-- ROUTE_CHECK_DONE (R214): The route-graph cycle check completes and sets or clears CYCLE and CYCLE_CH. -/
  | routeCheckDone
  /-- FIRE_OUT_CFG_WRITE (R209): A write that changes EN, MODE or POL sets the EVT_OUT ball to idle and ends any active pulse. -/
  | fireOutCfgWrite (n : Fin 16) (w : Wr)
  /-- EVT_OUT_ACT (R209): At an event's due tick the EVT_OUT ball starts or extends a pulse, or toggles. -/
  | evtOutAct (n : Fin 16)
  /-- EVT_OUT_PULSE_END (R209): WIDTH ticks after its last due event an active pulse ends. -/
  | evtOutPulseEnd (n : Fin 16)
  /-- FIRE_GCLR (R218): A write of FIRE_GCLR.CLR clears FIRE_GSTAT, FIRE_LOOP_LAST and the port statistics. -/
  | fireGclr (w : Wr)
  /-- FAR_TX (R483): A far-fire event at a FAR_TX consumer is delivered to the local FAR_RX and sent on each port in SERVICE. -/
  | farTx (k : Fin 64)
  /-- FAR_MESSAGE_RECEIVE (R483): A received FAR message rebuilds its stamp, is delivered as FAR_RX and is repeated on the other port. -/
  | farMessageReceive (down : Bool) (ff : Fin 64) (origin : Fin 16) (stamp : Word) (sub : Fin 8) (gen : Fin 16) (unc : Bool) (hops : Fin 16)
  /-- APG_ADV_ARRIVE (R297): An event reaches an APG_ADV consumer and sets or coalesces the advance pending bit. -/
  | apgAdvArrive (a : Fin 128)
  /-- SCRUB_STEP (R223): Every GAP Facet cycles the scrubber reads one line and writes back a corrected single-bit error. -/
  | scrubStep (f : Fin 32) (ecc : Ecc) (other : Bool)
  /-- SEG_DIR_READ (R225): SEG_DIR_CMD READ copies a directory entry into W0 to W2. -/
  | segDirRead (f : Fin 32) (w : Wr)
  /-- SEG_DIR_WRITE (R225): SEG_DIR_CMD WRITE invalidates the entry and stores W0 to W2 with CHK_OK 0, after its checks. -/
  | segDirWrite (f : Fin 32) (w : Wr)
  /-- SEG_DIR_CHECK (R226): SEG_DIR_CMD CHECK starts the CRC-32C check of a VALID resident entry. -/
  | segDirCheck (f : Fin 32) (w : Wr)
  /-- SEG_DIR_INVALIDATE (R225): SEG_DIR_CMD INVALIDATE clears VALID and CHK_OK and unseals granules that no other entry covers. -/
  | segDirInvalidate (f : Fin 32) (w : Wr)
  /-- SEG_DIR_DONE (R225): A directory command completes; RESULT is set, BUSY clears and SEG_DIR_DONE is raised. -/
  | segDirDone (f : Fin 32) (errs : List (Nat × Ecc))
  /-- WIN_ENABLE (R234): A write of window EN = 1 resets WP, POS and RP and starts tag initialisation, after the overlap and mark checks. -/
  | winEnable (f : Fin 32) (w : Fin 32) (x : Wr)
  /-- WIN_DISABLE (R234): A write of window EN = 0 disables the window, refused while its owner is busy. -/
  | winDisable (f : Fin 32) (w : Fin 32) (x : Wr)
  /-- WIN_INIT_DONE (R234): Tag initialisation ends, INIT clears and refill may proceed. -/
  | winInitDone (f : Fin 32) (w : Fin 32)
  /-- SEG_CLR (R251): A write of SEG_CLR.CLR clears the ECC, skip, shift and window counts. -/
  | segClr (f : Fin 32) (w : Wr)
  /-- TABLE_CLOSE (R247): A write of CLOSE takes an inactive table bank to CLOSING and starts its CRC. -/
  | tableClose (t : Fin 392) (w : Wr)
  /-- TABLE_CLOSE_DONE (R247): The CRC completes; the bank becomes CLOSED with BUILD_DONE 1, and with CHECK_OK 1 on a match. -/
  | tableCloseDone (t : Fin 392)
  /-- TABLE_REOPEN (R247): A write of REOPEN is accepted and takes effect LEAD ticks later. -/
  | tableReopen (t : Fin 392) (w : Wr)
  /-- TABLE_REOPEN_EFFECT (R247): At a + LEAD the inactive bank returns to OPEN. -/
  | tableReopenEffect (t : Fin 392)
  /-- TABLE_SWAP (R248): At a requested boundary the table swaps when the bank was CLOSED with CHECK_OK at the sample tick, or the swap is deferred. -/
  | tableSwap (t : Fin 392)
  /-- RFL_ENABLE (R281): A write of RFL_CFG.EN = 1 takes a STOPPED channel to IDLE. -/
  | rflEnable (c : Fin 64) (w : Wr)
  /-- RFL_DISABLE (R281): A write of EN = 0 takes an IDLE or HALTED channel to STOPPED and discards SHADOW. -/
  | rflDisable (c : Fin 64) (w : Wr)
  /-- RFL_POST (R264): RFL_CTRL.POST marks SHADOW full in register mode. -/
  | rflPost (c : Fin 64) (w : Wr)
  /-- RFL_CLEAR_SHADOW (R282): RFL_CTRL.CLEAR_SHADOW discards a full SHADOW in register mode. -/
  | rflClearShadow (c : Fin 64) (w : Wr)
  /-- RFL_TRIG (R267): RFL_CTRL.TRIG sets or coalesces the trigger pending bit, due at its stamp + H_LOCAL. -/
  | rflTrig (c : Fin 64) (w : Wr)
  /-- RFL_CLEAR_TRIG (R267): RFL_CTRL.CLEAR_TRIG clears the trigger pending bit. -/
  | rflClearTrig (c : Fin 64) (w : Wr)
  /-- RFL_STAT_CLR (R282): RFL_CTRL.STAT_CLR clears RFL_CNT and RFL_TRIG_CNT. -/
  | rflStatClr (c : Fin 64) (w : Wr)
  /-- RFL_RESUME (R281): RFL_CTRL.RESUME takes a HALTED channel to IDLE, refused while the host link is down for host channels. -/
  | rflResume (c : Fin 64) (w : Wr)
  /-- RFL_ABORT (R278): RFL_CTRL.ABORT stops reads, completes the write-stage burst, ends the descriptor ABORTED and halts the channel. -/
  | rflAbort (c : Fin 64) (w : Wr)
  /-- RFL_START_ARRIVE (R267): An RFL_START Fire event sets or coalesces the channel's trigger pending bit. -/
  | rflStartArrive (c : Fin 64)
  /-- RFL_TAIL_WRITE (R265): A write of RFL_RING_TAIL posts descriptors and lets the channel fetch again. -/
  | rflTailWrite (c : Fin 64) (w : Wr)
  /-- RING_FETCH_DONE (R265): A ring entry fetch completes; an OWN entry fills SHADOW and HEAD advances, or the entry is discarded or the channel halts. -/
  | ringFetchDone (c : Fin 64) (entry : Option (List Word))
  /-- DESC_ACTIVATE (R261): SHADOW becomes ACTIVE and the descriptor is checked, binding a window when it names one. -/
  | descActivate (c : Fin 64)
  /-- BURST_GRANT (R274): On each hub cycle the burst scheduler grants one candidate channel one burst. -/
  | burstGrant
  /-- SOURCE_READ_DONE (R262): A source read completes and its bytes enter the funnel, decrypted when DECRYPT is set. -/
  | sourceReadDone (c : Fin 64) (data : Option (List Byte)) (errs : List (Nat × Ecc))
  /-- BURST_WRITE (R263): The write stage writes one burst to its destination, or fails it as BAD. -/
  | burstWrite (c : Fin 64)
  /-- BARRIER_MET (R271): Every written byte of the descriptor has arrived at its target. -/
  | barrierMet (c : Fin 64) (err : Bool)
  /-- DESC_COMPLETE (R269): A descriptor completes with its CRC, close, stamp, write-back and REFILL_DONE, and the channel goes on. -/
  | descComplete (c : Fin 64) (wbFail : Bool)
  /-- APG_IDX_WRITE (R306): A write of APG_IDX loads DATA0 and DATA1 from the selected element or user entry. -/
  | apgIdxWrite (a : Fin 128) (w : Wr)
  /-- APG_DATA1_WRITE (R306): A write of APG_DATA1 stores DATA0 and DATA1 to the entry and advances INDEX. -/
  | apgData1Write (a : Fin 128) (w : Wr)
  /-- LANE_ENABLE (R321): A write of LANE_CTRL.EN = 1 lets the lane leave DARK for SEARCH or RETRAIN. -/
  | laneEnable (l : Fin 256) (w : Wr)
  /-- LANE_DISABLE (R321): A write of EN = 0 takes the lane to DARK with CAUSE DISABLED. -/
  | laneDisable (l : Fin 256) (w : Wr)
  /-- LANE_ADMIT (R327): LANE_CTRL.ADMIT lets a lane waiting in ALIGN enter SERVICE. -/
  | laneAdmit (l : Fin 256) (w : Wr)
  /-- LANE_RETRAIN_CMD (R321): LANE_CTRL.RETRAIN takes a lane from SERVICE to RETRAIN. -/
  | laneRetrainCmd (l : Fin 256) (w : Wr)
  /-- LANE_RESEARCH (R321): LANE_CTRL.RESEARCH returns a lane to SEARCH with CAUSE SOFTWARE. -/
  | laneResearch (l : Fin 256) (w : Wr)
  /-- LANE_CLR (R333): LANE_CTRL.CLR clears LANE_ERR, LANE_CNT and CAUSE. -/
  | laneClr (l : Fin 256) (w : Wr)
  /-- RXDET_START (R322): Every LANE_RXDET.PERIOD in SEARCH, or 10 µs after a positive detect, a receiver detect starts. -/
  | rxdetStart (l : Fin 256)
  /-- RXDET_DONE (R322): A detect completes, and a confirmed pair of positives takes the lane to NEGOTIATE. -/
  | rxdetDone (l : Fin 256) (term : Bool)
  /-- SQUELCH_TIMEOUT (R321): Squelch has been asserted for 1 µs and the lane goes to SEARCH with SIGNAL_LOST. -/
  | squelchTimeout (l : Fin 256)
  /-- INBOUND_BLOCK (R314): An inbound block is checked for its header, updates block lock and is handled as control or data. -/
  | inboundBlock (l : Fin 260) (hdr : BitVec 4) (payload : BitVec 128)
  /-- LANE_STATE_TIMEOUT (R321): The time limit of NEGOTIATE, TRAIN, ALIGN or RETRAIN expires and the lane returns to SEARCH. -/
  | laneStateTimeout (l : Fin 256)
  /-- LANE_EYE_CRITERIA_MET (R324): The eye criteria have held 100 µs with the partner ready, and the lane enters ALIGN. -/
  | laneEyeCriteriaMet (l : Fin 256)
  /-- LANE_ECHO_RECEIVE (R325): A probe echo arrives and the round trip is measured; a complete round agrees, repeats or fails. -/
  | laneEchoReceive (l : Fin 256) (id : BitVec 16) (rtt : BitVec 32)
  /-- LANE_SERVICE_ENTRY (R328): At the entry tick the lane enters SERVICE and presents composed words. -/
  | laneServiceEntry (l : Fin 256)
  /-- LANE_LEAVE_SERVICE (R321): At the first outbound block boundary after a detected cause, the lane leaves SERVICE. -/
  | laneLeaveService (l : Fin 256)
  /-- LANE_ERR_INTERVAL (R329): A 1 ms interval of header-error counting ends in SERVICE. -/
  | laneErrInterval (l : Fin 256)
  /-- LANE_ERR_LIMIT (R329): The count in one interval reaches LIMIT; LANE_ERR_LIMIT is raised and the lane enters RETRAIN. -/
  | laneErrLimit (l : Fin 256)
  /-- EQ_ADAPT_STEP (R317): A background adaptation step moves a DFE tap or the CTLE at an inbound block boundary. -/
  | eqAdaptStep (l : Fin 256) (tap : Fin 9) (move : EqMove)
  /-- EQ_STEP_REVERT (R317): 10 µs after a step the eye height is checked, and a step that lost more than 10 % is reverted. -/
  | eqStepRevert (l : Fin 256) (height : BitVec 10)
  /-- EYE_MONITOR (R318): Every 100 µs the eye monitor writes height and width to LANE_EYE. -/
  | eyeMonitor (l : Fin 256) (height : BitVec 10) (width : BitVec 8)
  /-- EQ_STATE_STORE (R319): On SERVICE entry and every 1 s in SERVICE the equaliser state is stored. -/
  | eqStateStore (l : Fin 256) (cdr : BitVec 32)
  /-- CMP_RECORD (R352): An inbound record completes at the compare block; it is stamped, placed by tag and accepted or discarded. -/
  | cmpRecord (f : Fin 32)
  /-- CMP_CAPTURE_ARM (R355): A write of CMP_CAP_CTL.ARM arms a capture window, after its checks. -/
  | cmpCaptureArm (l : Fin 256) (w : Wr)
  /-- CMP_CAPTURE_TIMEOUT (R355): 1 ms after the window closes, or on leaving SERVICE, the capture ends SHORT. -/
  | cmpCaptureTimeout (l : Fin 256)
  /-- CMP_CLR (R357): A write of CMP_CLR.CLR clears LOST, the lane counters and CMP_FIRST. -/
  | cmpClr (f : Fin 32) (w : Wr)
  /-- DRV_START (R367): DRV_CTRL.START fixes the entry tick and, for a group with no grid, its origin, after its checks. -/
  | drvStart (d : Fin 64) (w : Wr)
  /-- DRV_SOFT_STOP (R368): DRV_CTRL.SOFT_STOP fixes T0 at the first drive granule boundary at or after a + H_LOCAL. -/
  | drvSoftStop (d : Fin 64) (w : Wr)
  /-- DRV_ACK (R366): DRV_CTRL.ACK takes a CLEARED channel to IDLE. -/
  | drvAck (d : Fin 64) (w : Wr)
  /-- DRV_CNT_CLR (R388): DRV_CTRL.CNT_CLR clears DRV_CNT, DRV_BEZEL and DAC_CNT.OVERWRITE. -/
  | drvCntClr (d : Fin 64) (w : Wr)
  /-- DRV_STOP_ARRIVE (R368): A DRV_STOP Fire event fixes the channel's T0, cancels a pending START, or is ignored. -/
  | drvStopArrive (d : Fin 64)
  /-- DRV_ENTRY_TICK (R364): At its entry tick the channel enters ACTIVE, the grid exists and the entry fade begins. -/
  | drvEntryTick (d : Fin 64)
  /-- DRV_TAPER_START (R368): At T0 an ACTIVE channel enters RAMPDOWN and DRV_RAMPDOWN is raised. -/
  | drvTaperStart (d : Fin 64)
  /-- DRV_TAPER_END (R366): At the first sample tick at or after T0 + T the channel enters CLEARED and DRV_CLEARED is raised. -/
  | drvTaperEnd (d : Fin 64)
  /-- DRIVE_SAMPLE_TICK (R361): At each sample tick the output stage forms Y from the source contributions, tapers and limits, and writes DIN. -/
  | driveSampleTick (d : Fin 64)
  /-- TSET_IDX_WRITE (R387): A write of TSET_IDX loads TSET_D0 to TSET_D7 from the tone set. -/
  | tsetIdxWrite (w : Wr)
  /-- TSET_D7_WRITE (R387): A write of TSET_D7 stores all eight dwords to the tone set and advances INDEX, after its checks. -/
  | tsetD7Write (w : Wr)
  /-- DAC_UNCLAMP (R400): DAC_CTL.UNCLAMP starts the unclamp sequence of a CLAMPED channel. -/
  | dacUnclamp (d : Fin 64) (w : Wr)
  /-- UNCLAMP_PHASE_END (R400): A timed phase of the unclamp sequence ends and the next begins. -/
  | unclampPhaseEnd (d : Fin 64)
  /-- DAC_CLAMP (R401): DAC_CTL.CLAMP starts the clamp sequence of an IDLE or CLEARED channel. -/
  | dacClamp (d : Fin 64) (w : Wr)
  /-- CLAMP_PHASE_END (R401): A phase of the clamp sequence ends, and the channel enters CLAMPED at the last. -/
  | clampPhaseEnd (d : Fin 64)
  /-- DAC_RANGE_SET (R403): DAC_CTL.RANGE_SET starts the range-change sequence, or completes at once for the same range. -/
  | dacRangeSet (d : Fin 64) (w : Wr)
  /-- RANGE_PHASE_END (R403): A timed phase of the range sequence ends. -/
  | rangePhaseEnd (d : Fin 64)
  /-- DAC_SW_LOAD (R395): DAC_CTL.SW_LOAD requests a software strobe of the group at a + H_LOCAL. -/
  | dacSwLoad (d : Fin 64) (w : Wr)
  /-- SW_LOAD_APPLY (R395): At a + H_LOCAL, DOUT is loaded for every SOFTWARE channel of the group. -/
  | swLoadApply (g : Fin 8)
  /-- LDAC_N_EDGE (R395): A falling LDAC_N edge is stamped to select the DIN it loads. -/
  | ldacNEdge (g : Fin 8) (sub : Fin 8)
  /-- LDAC_LOAD (R395): At s + 8, DOUT of each BALL channel loads the last DIN at or before s. -/
  | ldacLoad (g : Fin 8)
  /-- LDAC_MISSING (R396): 2·N ticks pass without a load, and the channel loads as SAMPLE and raises LDAC_MISSING. -/
  | ldacMissing (d : Fin 64)
  /-- TH_HOLD_END (R398): 150 ns after a major transition the track-and-hold tracks again. -/
  | thHoldEnd (d : Fin 64)
  /-- CLR_N_ASSERT (R404): CLR_N has been low 40 ns; every unclamped DOUT is forced to C and ACTIVE or RAMPDOWN channels enter CLEARED. -/
  | clrNAssert
  /-- CLR_N_RELEASE (R404): CLR_N is released and the force ends, with channels left where they are. -/
  | clrNRelease
  /-- VDDA_HV_LOSS (R399): VDDA_HV falls below valid; the clamps engage and channels enter CLAMPED. -/
  | vddaHvLoss
  /-- LOUPE_READ (R405): Every 125 tk the Loupe reads one node and compares it with its model or window. -/
  | loupeRead (reading : BitVec 16)
  /-- DAC_TRIM_DATA_WRITE (R410): A write of DAC_TRIM_DATA stores the trim to ITEM and advances ITEM. -/
  | dacTrimDataWrite (d : Fin 64) (w : Wr)
  /-- LOUPE_CNT_CLR (R413): LOUPE_CTRL.CNT_CLR clears every Loupe count. -/
  | loupeCntClr (w : Wr)
  /-- SNS_BANK_ENABLE (R415): A write of SNS_BANK_CFG.EN sets the bank's grid origin and starts conversion. -/
  | snsBankEnable (b : Fin 8) (w : Wr)
  /-- SENSE_SAMPLE (R414): At each sample tick a channel delivers a trimmed sample to the checkers, the capture ring and the Crown. -/
  | senseSample (c : Fin 64) (raw : BitVec 24) (ovr : Bool)
  /-- CROWN_START (R421): CROWN_CTRL.START fixes T_s after the membership and capacity checks. -/
  | crownStart (k : Fin 8) (w : Wr)
  /-- CROWN_STOP (R423): CROWN_CTRL.STOP fixes T0 for STOPPING. -/
  | crownStop (k : Fin 8) (w : Wr)
  /-- CROWN_HOLD_CMD (R423): CROWN_CTRL.HOLD takes a RUNNING group to HOLD. -/
  | crownHoldCmd (k : Fin 8) (w : Wr)
  /-- CROWN_RESUME (R423): CROWN_CTRL.RESUME returns a HOLD group to RUNNING at the next frame boundary. -/
  | crownResume (k : Fin 8) (w : Wr)
  /-- CROWN_CMD_ARRIVE (R423): A CROWN_CMD Fire event starts or stops a group at its decision point. -/
  | crownCmdArrive (k : Fin 8) (stop : Bool)
  /-- CROWN_START_TICK (R424): At T_s the group enters RUNNING and its fade-in begins. -/
  | crownStartTick (k : Fin 8)
  /-- CROWN_BEZEL_WRITE (R424): The Crown writes its synthesised drive samples into the drive Bezels ahead of time. -/
  | crownBezelWrite (k : Fin 8)
  /-- CROWN_FRAME_BOUNDARY (R425): At each frame boundary the Crown analyses, updates control, builds and swaps its bank, and produces its frame event. -/
  | crownFrameBoundary (k : Fin 8) (late : Bool)
  /-- CROWN_STOP_TICK (R423): At T0 the group enters STOPPING and its taper begins. -/
  | crownStopTick (k : Fin 8)
  /-- CROWN_TAPER_DONE (R423): The taper completes, or no channel remains active, and the group enters STOPPED. -/
  | crownTaperDone (k : Fin 8)
  /-- CAL_RUN (R442): CAL_CTRL RUN checks the preconditions and starts the first of two measurement runs. -/
  | calRun (w : Wr) (meas : BitVec 32)
  /-- CAL_RUN_PHASE_END (R442): A measurement run ends; after the second the results are compared and accepted or rejected. -/
  | calRunPhaseEnd (values : List Int)
  /-- CAL_TC_RECORD (R445): Every 10 s of a TPLL_TC run the fine code and hub temperature are recorded. -/
  | calTcRecord (fine : Int)
  /-- CAL_STORE (R452): CAL_CTRL STORE starts writing the image to the older calibration slot. -/
  | calStore (w : Wr)
  /-- CAL_ABORT (R447): CAL_CTRL ABORT ends a run with ABORTED and returns its unit without loading results. -/
  | calAbort (w : Wr)
  /-- FLASH_OP_DONE (R452): A flash erase, program or read completes and the store or software command moves on. -/
  | flashOpDone (err : Bool)
  /-- VDD_IO_MONITOR_TRIP (R453): VDD_IO falls below 1.74 V and no new flash program or erase is issued. -/
  | vddIoMonitorTrip
  /-- VDD_IO_MONITOR_RELEASE (R453): VDD_IO rises above 1.76 V and the monitor releases. -/
  | vddIoMonitorRelease
  /-- FL_READ (R456): CAL_FL_CMD READ copies 256 bytes from ADDR into the buffer. -/
  | flRead (w : Wr)
  /-- FL_PROGRAM (R456): CAL_FL_CMD PROGRAM writes the buffer to a page, after the lock and protection checks. -/
  | flProgram (w : Wr)
  /-- FL_ERASE4K (R456): CAL_FL_CMD ERASE4K erases the 4 KiB sector holding ADDR. -/
  | flErase4k (w : Wr)
  /-- FL_ERASE64K (R456): CAL_FL_CMD ERASE64K erases the 64 KiB sector holding ADDR. -/
  | flErase64k (w : Wr)
  /-- CALCHECK_COMPLETE (R454): The calibration slot is selected, the image and band tables are loaded, and the device enters CLOCKING. -/
  | calcheckComplete
  /-- LUS_PLAN_TIMER (R463): Every PERIOD_MIN minutes a plan starts, or is skipped while one runs. -/
  | lusPlanTimer
  /-- LUS_REPLAN (R463): LUS_CTRL.REPLAN starts a plan now. -/
  | lusReplan (w : Wr)
  /-- LUS_PLAN_COMPLETE (R463): A plan completes; points are reported and requested, and reports are raised and journalled. -/
  | lusPlanComplete (ages : List Nat) (dlys : List Nat)
  /-- CAS_PORT_DETECT (R470): A cascade port that is enabled, addressed and locked detects its receivers and enters TRAIN. -/
  | casPortDetect (down : Bool)
  /-- CAS_PORT_TRAINED (R470): Both lanes meet the eye criteria and are deskewed; the port enters SERVICE and CAS_LINK_UP is raised. -/
  | casPortTrained (down : Bool)
  /-- CAS_TRAIN_TIMEOUT (R470): 10 ms in TRAIN returns the port to DOWN. -/
  | casTrainTimeout (down : Bool)
  /-- CAS_SQUELCH_TIMEOUT (R470): Squelch has held 1 µs on a port lane, and the port goes DOWN with CAS_UP_LOST or CAS_DN_LOST. -/
  | casSquelchTimeout (down : Bool)
  /-- CAS_RETRAIN_UP (R470): CAS_CTRL.RETRAIN_UP returns the UP port to TRAIN. -/
  | casRetrainUp (w : Wr)
  /-- CAS_RETRAIN_DN (R470): CAS_CTRL.RETRAIN_DN returns the DOWN port to TRAIN. -/
  | casRetrainDn (w : Wr)
  /-- CAS_BLOCK_SEND (R471): At each port block boundary the first queued message by class priority is sent. -/
  | casBlockSend (down : Bool)
  /-- ENUM_FRAME_SEND (R473): Every 100 µs an addressed device sends its ENUM_OUT frame. -/
  | enumFrameSend
  /-- ENUM_FRAME_RECEIVE (R473): A frame on ENUM_IN is taken, and two agreeing frames set or change the address. -/
  | enumFrameReceive (value : Fin 32) (good : Bool)
  /-- CAS_TIME_SEND (R477): At each tick with E mod 65,536 = 0 a device sends TIME on its DOWN port and STATUS upward. -/
  | casTimeSend
  /-- CAS_TIME_RECEIVE (R477): A received TIME message gives θ, which drives the phase correction, alignment progress and loss of alignment. -/
  | casTimeReceive (ttx : BitVec 64) (epochState : Fin 3) (tpll : Fin 5) (aligned : Bool) (frac : Int)
  /-- CAS_STATUS_RECEIVE (R485): A STATUS message updates neighbour, reach, interrupt and alignment results on the way to the master. -/
  | casStatusReceive (down : Bool) (addr : Fin 16) (pend : Bool) (result : Fin 4) (turn : Nat)
  /-- CAS_ALIGN (R478): CAS_CTRL.ALIGN on the master fixes S and sends ALIGN(S) to the targets. -/
  | casAlign (w : Wr)
  /-- CAS_ALIGN_MSG_RECEIVE (R478): A target receives ALIGN(S) and takes the slew path or the step path, or reports BUSY. -/
  | casAlignMsgReceive (target : Fin 16) (at' : BitVec 64)
  /-- SYNC_OUT_PULSE (R476): At S the master drives its 64 tk SYNC_OUT pulse. -/
  | syncOutPulse
  /-- SYNC_IN_EDGE (R478): A SYNC_IN edge sets the epoch of a step-path target, or is counted as stray. -/
  | syncInEdge (sub : Fin 8)
  /-- SYNC_WAIT_TIMEOUT (R478): No SYNC_IN edge arrives within 5 ms of ALIGN(S) and the target fails. -/
  | syncWaitTimeout
  /-- CAS_THETA_STEP (R478): Every 16 tk, 10 ps of θ are removed on the step path. -/
  | casThetaStep
  /-- CAS_ALIGN_TIMEOUT (R478): 50 ms after S the master raises CAS_ALIGNED, and targets that have not reported read FAIL. -/
  | casAlignTimeout
  /-- CAS_HOLD_TIMEOUT (R487): The UP port has been out of SERVICE for HOLD_S and the slave loses alignment. -/
  | casHoldTimeout
  /-- CAS_TUN_GO (R484): CAS_TUN_CTL.GO on the master issues a tunnelled read or write. -/
  | casTunGo (w : Wr)
  /-- CAS_TUN_RESPONSE (R484): The tunnel response arrives, RESULT is set and TUN_DONE is raised. -/
  | casTunResponse (result : Fin 4) (rdata : Word)
  /-- CAS_TUN_TIMEOUT (R484): No tunnel response arrives within 100 µs and RESULT reads TIMEOUT. -/
  | casTunTimeout
  /-- CAS_JRN_RECEIVE (R486): A forwarded journal record is received and relayed up, or placed by the master. -/
  | casJrnReceive (record : BitVec 256)
  /-- CAS_PROBE_RECEIVE (R482): A skew PROBE is answered with an ECHO after the fixed turnaround. -/
  | casProbeReceive (down : Bool)
  /-- CAS_ECHO_RECEIVE (R482): A skew ECHO arrives and its round trip is recorded for the run. -/
  | casEchoReceive (down : Bool) (rtt : Nat)
  /-- CAS_CLR (R489): A write of the CAS clear bit clears θ statistics, FF and link counts, and STRAY. -/
  | casClr (w : Wr)
  /-- JRN_RECORD (R494): A record reaches the journal writer and is filtered, placed in the open block, or discarded. -/
  | jrnRecord
  /-- JRN_FLUSH (R497): JRN_CTRL.FLUSH seals the open block. -/
  | jrnFlush (w : Wr)
  /-- JRN_SEAL_TIMER (R497): SEAL_MS after its first record, the open block is sealed. -/
  | jrnSealTimer
  /-- JRN_SEAL_DONE (R497): A block seal completes with its MAC, or UNSEALED without a key. -/
  | jrnSealDone
  /-- JRN_CNT_CLR (R506): JRN_CTRL.CNT_CLR clears JRN_LOST. -/
  | jrnCntClr (w : Wr)
  /-- JRN_ENABLE (R497): The first enable after POR starts a new chain with a fresh CHAIN_ID. -/
  | jrnEnable (w : Wr)
  /-- SEC_UNWRAP (R502): SEC CMD UNWRAP unwraps SEC_BLOB into a slot, or fails its integrity check. -/
  | secUnwrap (w : Wr)
  /-- SEC_WRAP (R502): SEC CMD WRAP wraps SEC_KEY_IN into SEC_BLOB and zeroes KEY_IN. -/
  | secWrap (w : Wr)
  /-- SEC_ERASE (R503): SEC CMD ERASE seals the open block, zeroes both key slots and raises SEC_ERASED. -/
  | secErase (w : Wr) (verified : Bool)
  /-- SEC_DBG_SESSION (R504): SEC CMD DBG_SESSION journals the open, erases the vault, blocks the root key and enters DEBUG. -/
  | secDbgSession (w : Wr) (verified : Bool)
  /-- SEC_DBG_PERMANENT (R505): SEC CMD DBG_PERMANENT is taken as the first request, or as the confirming second request that revokes the root key. -/
  | secDbgPermanent (w : Wr) (verified : Bool)
  /-- TAP_DBG_REQ (R504): The TAP instruction DBG_REQ requests a debug open as a register request does. -/
  | tapDbgReq (permanent : Bool) (confirm : BitVec 64) (verified : Bool)
  /-- DBG_CONFIRM_TIMEOUT (R505): 10 s pass without a valid confirmation and the first permanent request lapses. -/
  | dbgConfirmTimeout
  /-- RESET_N_ASSERT (R510): RESET_N low for 10 µs resets the whole device and clears the key vault. -/
  | resetNAssert
  /-- SUPPLY_MONITOR_RESET (R510): VDD_CORE or VDD_IO falls below its range and the device resets to POR. -/
  | supplyMonitorReset
  /-- POR_COMPLETE (R513): 1 ms after RESET_N release the straps and role are sampled, OTP is read and BOOT begins. -/
  | porComplete (testN : Bool) (hostSel : Bool) (masterSel : Bool) (enumHigh : Bool) (mode : Fin 4) (flashOk : Bool) (jedec : BitVec 24) (log2 : Fin 256)
  /-- BOOT_RECORD (R518): The loader executes the next boot-script record. -/
  | bootRecord
  /-- BOOT_POLL_TIMEOUT (R518): A POLL record fails after 2^TMO µs. -/
  | bootPollTimeout
  /-- BOOT_DELAY_END (R518): A DELAY record's wait ends. -/
  | bootDelayEnd
  /-- TRAINING_SETTLED (R513): Every ON island and every enabled quad has settled; the device enters READY and raises DEV_READY. -/
  | trainingSettled
  /-- TRAINING_TIMEOUT (R513): 5 ms in TRAINING; the device enters READY and raises DEV_TRAIN_TIMEOUT. -/
  | trainingTimeout
  /-- DEV_CLOCK_WAIT (R516): The device is still in CLOCKING 80 ms after RESET_N release and raises DEV_CLOCK_WAIT once. -/
  | devClockWait
  /-- DEV_ENTER_SAFE (R522): DEV_CTRL.ENTER_SAFE takes the device to SAFE. -/
  | devEnterSafe (w : Wr)
  /-- THERMAL_SAFE (R522): The hottest sensor has been above SAFE_C for 10 ms and the device enters SAFE. -/
  | thermalSafe
  /-- DEV_EXIT_SAFE (R524): DEV_CTRL.EXIT_SAFE returns the device to its previous state when the conditions hold. -/
  | devExitSafe (w : Wr)
  /-- PWR_REQUEST (R528): A write of PWR_REQ.GO requests a domain state change and starts quiescing, or forces, or is refused. -/
  | pwrRequest (w : Wr)
  /-- PWR_QUIESCE_DONE (R529): Quiescence completes within 4 µs, and the domain is gated with PWR_DONE. -/
  | pwrQuiesceDone (d : Fin 98)
  /-- PWR_QUIESCE_TIMEOUT (R529): Quiescence does not complete in 4 µs; the request is DEFERRED and PWR_DEFERRED is raised. -/
  | pwrQuiesceTimeout (d : Fin 98)
  /-- PWR_RETRY (R529): Every 100 µs a deferred request is checked and retried. -/
  | pwrRetry (d : Fin 98)
  /-- PWR_RESTORE_DONE (R531): A domain returns to ON and its units resume, with a journal record. -/
  | pwrRestoreDone (d : Fin 98)
  /-- AVS_WRITE_RETRY (R542): An unacknowledged AVSBus Voltage Write is retried every 20 µs. -/
  | avsWriteRetry (rail : Fin 10) (acked : Bool)
  /-- RESET_N_RELEASE (R510): RESET_N is released after the board has held it low, and the 1 ms count to the strap and role sample, and the READY timing of R516, start. -/
  | resetNRelease
  /-- COMPLETION_TIMEOUT (R276): A HOST read, whether a source read or a ring fetch, gets no completion within the completion timeout set in configuration space, and it ends the descriptor BAD with BUS_ERROR_SRC or halts the channel with RING_ERROR. -/
  | completionTimeout (c : Fin 64) (ring : Bool)
  /-- VDDA_HV_VALID (R399): VDDA_HV rises back through its valid threshold, LOUPE_STAT.VDDA_HV_OK returns to 1, and the supply no longer forces the clamps, while the channels stay CLAMPED until an UNCLAMP. -/
  | vddaHvValid
  /-- FLL_LOCK (R97): An island clock comes within ±2 % of F, FLL_LOCK reads 1, and after 1 ms back within range FACET_FLL_UNLOCK is re-armed. -/
  | fllLock (clk : IslClock)
  deriving DecidableEq, Repr

end Sys2Proof
end

