-- ==== Sys2Proof/Decode.lean ====
section
/-!
DEFINITION. Decode.lean: the command a word spells by the table's bits. No row of the spec's table gives bits: the
hardware is a block, its commands are register accesses and events, and none is an encoded word.
-/

namespace Sys2Proof

/-- The command spelled by a word of the table: none, since no row of the table has bits. -/
def decodeTableWord (_nbits _w : Nat) : Option Instr := none

end Sys2Proof
end

