-- ==== Sys2Proof/Config.lean ====
section
/-!
DEFINITION. Config.lean: what the spec leaves open. Each constant here has no body: no proof can see a value of it, and
a claim holds whatever it is.
-/

namespace Sys2Proof

/-- A free value: the number the spec does not fix, drawn for the `n`th time (State.draw). -/
opaque Config.free : Nat → Nat

/-- The contribution of an APG step whose APG does not serve the engine (R287): the APG, the ball tick. -/
opaque Config.unserved : Nat → Nat → Nat

/-! The Crown's arithmetic (R426 to R435): the spec gives its formulas and the formats of what they give, and not how a value is rounded
into its format. -/

/-- The binary32 pattern in which a value is held (R431). -/
opaque Config.f32 : Rat → BitVec 32
/-- What a transform holds of its values (R431): the block exponent and the mantissas of the real and imaginary parts. -/
opaque Config.block : List Cx → Int × List (BitVec 32 × BitVec 32)
/-- The `n`th phase drawn from a group's LFSR since it was seeded (R430), in 2⁻¹⁶ turns: the seed, n. -/
opaque Config.crownPhase : Nat → Nat → Nat
/-- What R427 takes for an element of the inverse of a matrix that has none: the matrix, the row, the column. -/
opaque Config.crownSingular : List (List Cx) → Nat → Nat → Cx
/-- The two-pole low-pass of a tracking filter (R432): its two states, the input sample, the bandwidth and the sample rate in Hz; the
second state is its output. -/
opaque Config.crownLowpass : Cx × Cx → Cx → Rat → Rat → Cx × Cx
/-- The log2, with 16 fraction bits, of a reference amplitude where its block gives none (R432): the breakpoints, the frequency. -/
opaque Config.crownRefOpen : List (Rat × Rat) → Rat → Int
/-- The error of R435, in 0.01 dB with 40 further fraction bits, where its ratio has no logarithm: the two sums. -/
opaque Config.crownErrOpen : Rat → Rat → Int

/-! The device's own constants. -/

/-- The OTP device identifier, which is the device serial number (R40). -/
opaque Config.devid : Nat
/-- The voltage-delay table k of R461, at 700 mV + 5 mV · i. -/
opaque Config.kv : Nat → Nat
/-- Data dword `i` of an item's record in the OTP baseline (R454, R455): item, unit and sub as a key, i. -/
opaque Config.otp : Nat → Nat → Nat
/-- Coefficient `i` (1 or 2) of the fit of R73 to records of fine code and temperature, around T0 (R445). -/
opaque Config.tcFit : List (Int × Int) → Int → Nat → Int
/-- The device's internal path constant K of a skew run, in ps (R482), and its fixed turnaround. -/
opaque Config.skewK : Int
opaque Config.turnaround : Nat
/-- The boot-key hash in OTP (R519), a 256-bit number whose first byte is the lowest. -/
opaque Config.bootHash : Nat
/-- The root key in OTP (R501), a 256-bit number whose first byte is the lowest. -/
opaque Config.rootKey : Nat
/-- The PCIe Vendor ID assigned to the maker (R40). -/
opaque Config.vendorId : Nat
/-- The die sensor nearest to a quad (R89), one of eight. -/
opaque Config.quadSensor : Nat → Nat
/-- The die sensors that lie in the hub (R73), among the eight. -/
opaque Config.hubSensor : Nat → Bool

end Sys2Proof
end

