-- ==== Sys2Proof/Machine/Fld.lean ====
section
/-!
DEFINITION. Machine/Fld.lean: what a stored register field is: where it lies, how wide it is, how software may write it
(R8), and what it reads after reset.
-/

namespace Sys2Proof.Machine

/-- The access codes of R8. -/
inductive Acc where
  | ro | rw | rws | rwl | w1c | wo
  deriving DecidableEq, Repr

/-- A stored register field: block (PAGE_ID.TYPE code), offset in the block, low bit, width, access code, reset value
(`rst + mul * (i % md)` for instance `i`), and its repetition in one block: `cnt` times at `step` bytes. -/
structure Fld where
  blk : Nat
  off : Nat
  lo : Nat
  w : Nat
  acc : Acc
  rst : Nat
  mul : Nat
  md : Nat
  cnt : Nat
  step : Nat
  deriving DecidableEq, Repr

/-- The number of a field: no two fields of the spec's tables have the same block, offset and low bit. -/
def Fld.id (f : Fld) : Nat := (f.blk * 4096 + f.off) * 32 + f.lo

/-- The key of instance `i` of field `f` in the register store. -/
def Fld.key (f : Fld) (i : Nat) : Nat := f.id * 65536 + i % 65536

/-- What instance `i` of the field reads after reset. -/
def Fld.reset (f : Fld) (i : Nat) : Nat := (f.rst + f.mul * (i % f.md)) % 2 ^ f.w

/-- The largest number the field holds. -/
def Fld.max (f : Fld) : Nat := 2 ^ f.w - 1

end Sys2Proof.Machine
end

