-- ==== Sys2Proof/Machine/Regs.lean ====
section
/-!
DEFINITION. Machine/Regs.lean: every stored register field of window A, from the register tables of the spec: its
block (the PAGE_ID.TYPE code of R51; 0xFF for the common page header of R50 to R61), offset, low bit, width, access
code (R8), reset value, and how often and at what step it repeats within the block.  Fields the hardware computes on a
read (PAGE_ID, PAGE_STAT, DIRTY, the interrupt sums, banked table entries) are not stored: Machine/Access.lean reads them.
A register the spec lays out without a name of its own carries a name of this model.
-/

namespace Sys2Proof.Machine

/-! ### HDR registers (R50) -/

def IRQ_STAT.BITS : Fld := ⟨0xFF, 0x010, 0, 32, .w1c, 0x0, 0, 1, 1, 4⟩
def IRQ_EN.BITS : Fld := ⟨0xFF, 0x014, 0, 32, .rw, 0x0, 0, 1, 1, 4⟩
def IRQ_FORCE.BITS : Fld := ⟨0xFF, 0x018, 0, 32, .wo, 0x0, 0, 1, 1, 4⟩
def COMMIT.BSEL : Fld := ⟨0xFF, 0x01C, 4, 2, .rw, 0x0, 0, 1, 1, 4⟩
def COMMIT.ARM : Fld := ⟨0xFF, 0x01C, 0, 1, .wo, 0x0, 0, 1, 1, 4⟩
def SHADOW_STAT.REJ_COUNT : Fld := ⟨0xFF, 0x020, 16, 16, .ro, 0x0, 0, 1, 1, 4⟩
def SHADOW_STAT.FAILED : Fld := ⟨0xFF, 0x020, 2, 1, .w1c, 0x0, 0, 1, 1, 4⟩
def SHADOW_STAT.REJECT : Fld := ⟨0xFF, 0x020, 1, 1, .w1c, 0x0, 0, 1, 1, 4⟩
def LOCK.KEY : Fld := ⟨0xFF, 0x024, 16, 16, .wo, 0x0, 0, 1, 1, 4⟩
def LOCK.OPEN : Fld := ⟨0xFF, 0x024, 0, 1, .ro, 0x0, 0, 1, 1, 4⟩
def ERR_CODE.FIRST : Fld := ⟨0xFF, 0x028, 16, 16, .ro, 0x0, 0, 1, 1, 4⟩
def ERR_CODE.LAST : Fld := ⟨0xFF, 0x028, 0, 16, .ro, 0x0, 0, 1, 1, 4⟩
def ERR_COUNT.CLR : Fld := ⟨0xFF, 0x02C, 31, 1, .wo, 0x0, 0, 1, 1, 4⟩
def ERR_COUNT.COUNT : Fld := ⟨0xFF, 0x02C, 0, 16, .ro, 0x0, 0, 1, 1, 4⟩

/-! ### DEV registers (R532) -/

def DEV_ID.PART : Fld := ⟨0x01, 0x040, 16, 16, .ro, 0x5256, 0, 1, 1, 4⟩
def DEV_ID.STEP : Fld := ⟨0x01, 0x040, 8, 8, .ro, 0xB0, 0, 1, 1, 4⟩
def DEV_ID.GRADE : Fld := ⟨0x01, 0x040, 0, 8, .ro, 0x1, 0, 1, 1, 4⟩
def DEV_STATE.SAFE_COUNT : Fld := ⟨0x01, 0x044, 24, 8, .ro, 0x0, 0, 1, 1, 4⟩
def DEV_STATE.SAFE_CAUSE : Fld := ⟨0x01, 0x044, 16, 3, .ro, 0x0, 0, 1, 1, 4⟩
def DEV_STATE.PREV : Fld := ⟨0x01, 0x044, 8, 4, .ro, 0x0, 0, 1, 1, 4⟩
def DEV_STATE.STATE : Fld := ⟨0x01, 0x044, 0, 4, .ro, 0x1, 0, 1, 1, 4⟩
def DEV_CTRL.EXIT_SAFE : Fld := ⟨0x01, 0x048, 1, 1, .wo, 0x0, 0, 1, 1, 4⟩
def DEV_CTRL.ENTER_SAFE : Fld := ⟨0x01, 0x048, 0, 1, .wo, 0x0, 0, 1, 1, 4⟩
def DEV_STRAP.STRAPS : Fld := ⟨0x01, 0x04C, 0, 5, .ro, 0x0, 0, 1, 1, 4⟩
def DEV_BOOT.RECORDS : Fld := ⟨0x01, 0x050, 16, 16, .ro, 0x0, 0, 1, 1, 4⟩
def DEV_BOOT.SLOT : Fld := ⟨0x01, 0x050, 4, 1, .ro, 0x0, 0, 1, 1, 4⟩
def DEV_BOOT.SIGNED : Fld := ⟨0x01, 0x050, 3, 1, .ro, 0x0, 0, 1, 1, 4⟩
def DEV_BOOT.RESULT : Fld := ⟨0x01, 0x050, 0, 3, .ro, 0x0, 0, 1, 1, 4⟩
def DEV_BOOT_ERR.CAUSE : Fld := ⟨0x01, 0x054, 16, 3, .ro, 0x0, 0, 1, 1, 4⟩
def DEV_BOOT_ERR.INDEX : Fld := ⟨0x01, 0x054, 0, 16, .ro, 0x0, 0, 1, 1, 4⟩
def DEV_READY_US.READY_US : Fld := ⟨0x01, 0x058, 0, 24, .ro, 0x0, 0, 1, 1, 4⟩
def DEV_THERM.TEMP_MAX : Fld := ⟨0x01, 0x05C, 24, 8, .ro, 0x0, 0, 1, 1, 4⟩
def DEV_THERM.SAFE_C : Fld := ⟨0x01, 0x05C, 16, 8, .rwl, 0x6E, 0, 1, 1, 4⟩
def DEV_THERM.WARN_C : Fld := ⟨0x01, 0x05C, 8, 8, .rw, 0x64, 0, 1, 1, 4⟩
def DEV_EOI.VEC : Fld := ⟨0x01, 0x108, 0, 8, .wo, 0x0, 0, 1, 1, 4⟩
def DEV_INT_CTRL.INTN_EN : Fld := ⟨0x01, 0x10C, 0, 1, .rw, 0x0, 0, 1, 1, 4⟩
def DEV_MSIX_MAP.EN : Fld := ⟨0x01, 0x280, 8, 1, .rw, 0x1, 0, 1, 40, 4⟩
def DEV_MSIX_MAP.VEC : Fld := ⟨0x01, 0x280, 0, 8, .rw, 0x0, 1, 40, 40, 4⟩

/-! ### TB registers (R37) -/

def TB_STAT.UNC_COUNT : Fld := ⟨0x02, 0x048, 8, 8, .ro, 0x0, 0, 1, 1, 4⟩
def TB_STAT.SLEW : Fld := ⟨0x02, 0x048, 4, 1, .ro, 0x0, 0, 1, 1, 4⟩
def TB_STAT.HOLDOVER : Fld := ⟨0x02, 0x048, 3, 1, .ro, 0x0, 0, 1, 1, 4⟩
def TB_STAT.TB_RUN : Fld := ⟨0x02, 0x048, 2, 1, .ro, 0x0, 0, 1, 1, 4⟩
def TB_STAT.EPOCH_STATE : Fld := ⟨0x02, 0x048, 0, 2, .ro, 0x0, 0, 1, 1, 4⟩
def TB_CTRL.STAT_CLR : Fld := ⟨0x02, 0x04C, 3, 1, .wo, 0x0, 0, 1, 1, 4⟩
def TB_CTRL.PPS_EDGE : Fld := ⟨0x02, 0x04C, 2, 1, .rw, 0x0, 0, 1, 1, 4⟩
def TB_CTRL.PPS_EN : Fld := ⟨0x02, 0x04C, 1, 1, .rw, 0x0, 0, 1, 1, 4⟩
def TB_CTRL.CONFIRM : Fld := ⟨0x02, 0x04C, 0, 1, .wo, 0x0, 0, 1, 1, 4⟩
def H_LOCAL.H : Fld := ⟨0x02, 0x050, 0, 12, .rw, 0x60, 0, 1, 1, 4⟩
def H_STAT.MAX_AGE : Fld := ⟨0x02, 0x054, 16, 12, .ro, 0x0, 0, 1, 1, 4⟩
def H_STAT.LATE_COUNT : Fld := ⟨0x02, 0x054, 0, 16, .ro, 0x0, 0, 1, 1, 4⟩
def PPS_STAMP_LO.PPS_LO : Fld := ⟨0x02, 0x058, 0, 32, .ro, 0x0, 0, 1, 1, 4⟩
def PPS_STAMP_HI.PPS_HI : Fld := ⟨0x02, 0x05C, 0, 32, .ro, 0x0, 0, 1, 1, 4⟩
def PPS_STAT.PPS_COUNT : Fld := ⟨0x02, 0x060, 8, 24, .ro, 0x0, 0, 1, 1, 4⟩
def PPS_STAT.OVERRUN : Fld := ⟨0x02, 0x060, 4, 1, .w1c, 0x0, 0, 1, 1, 4⟩
def PPS_STAT.VALID : Fld := ⟨0x02, 0x060, 3, 1, .ro, 0x0, 0, 1, 1, 4⟩
def PPS_STAT.SUB : Fld := ⟨0x02, 0x060, 0, 3, .ro, 0x0, 0, 1, 1, 4⟩
def PPS_INTERVAL.INTERVAL : Fld := ⟨0x02, 0x064, 0, 32, .ro, 0x0, 0, 1, 1, 4⟩

/-! ### TPLL registers (R92) -/

def TPLL_CTRL.TBOUT_SEL : Fld := ⟨0x03, 0x040, 8, 4, .rw, 0x0, 0, 1, 1, 4⟩
def TPLL_CTRL.HOLD_SRC : Fld := ⟨0x03, 0x040, 4, 2, .rw, 0x0, 0, 1, 1, 4⟩
def TPLL_CTRL.SWEEP : Fld := ⟨0x03, 0x040, 3, 1, .wo, 0x0, 0, 1, 1, 4⟩
def TPLL_CTRL.PHASE_SNAP : Fld := ⟨0x03, 0x040, 2, 1, .wo, 0x0, 0, 1, 1, 4⟩
def TPLL_CTRL.RESTART : Fld := ⟨0x03, 0x040, 1, 1, .wo, 0x0, 0, 1, 1, 4⟩
def TPLL_STAT.BAND : Fld := ⟨0x03, 0x044, 16, 8, .ro, 0x0, 0, 1, 1, 4⟩
def TPLL_STAT.SWEEP_BUSY : Fld := ⟨0x03, 0x044, 11, 1, .ro, 0x0, 0, 1, 1, 4⟩
def TPLL_STAT.FINE_MARGIN : Fld := ⟨0x03, 0x044, 10, 1, .ro, 0x0, 0, 1, 1, 4⟩
def TPLL_STAT.AUX_OK : Fld := ⟨0x03, 0x044, 9, 1, .ro, 0x0, 0, 1, 1, 4⟩
def TPLL_STAT.REF_OK : Fld := ⟨0x03, 0x044, 8, 1, .ro, 0x0, 0, 1, 1, 4⟩
def TPLL_STAT.STATE : Fld := ⟨0x03, 0x044, 0, 3, .ro, 0x0, 0, 1, 1, 4⟩
def TPLL_FCW_INT.FCW_INT : Fld := ⟨0x03, 0x048, 0, 9, .rws, 0x190, 0, 1, 1, 4⟩
def TPLL_FCW_NUM.FCW_NUM : Fld := ⟨0x03, 0x04C, 0, 24, .rws, 0x0, 0, 1, 1, 4⟩
def TPLL_FCW_DEN.FCW_DEN : Fld := ⟨0x03, 0x050, 0, 24, .rws, 0x1, 0, 1, 1, 4⟩
def TPLL_SLEW.SLEW_MAX : Fld := ⟨0x03, 0x054, 0, 9, .rws, 0x14, 0, 1, 1, 4⟩
def TPLL_QUAL.QUAL_MS : Fld := ⟨0x03, 0x058, 0, 10, .rw, 0xA, 0, 1, 1, 4⟩
def TPLL_PHASE.RESIDUAL : Fld := ⟨0x03, 0x05C, 0, 32, .ro, 0x0, 0, 1, 1, 4⟩
def TPLL_JUMP.JUMP : Fld := ⟨0x03, 0x060, 0, 32, .ro, 0x0, 0, 1, 1, 4⟩
def TPLL_FOFS.FOFS : Fld := ⟨0x03, 0x064, 0, 32, .ro, 0x0, 0, 1, 1, 4⟩
def TPLL_TC_T0.T0 : Fld := ⟨0x03, 0x068, 0, 16, .rwl, 0x190, 0, 1, 1, 4⟩
def TPLL_TC_C1.C1 : Fld := ⟨0x03, 0x06C, 0, 32, .rwl, 0x0, 0, 1, 1, 4⟩
def TPLL_TC_C2.C2 : Fld := ⟨0x03, 0x070, 0, 32, .rwl, 0x0, 0, 1, 1, 4⟩
def TPLL_BAND_CTL.REQ_BANK : Fld := ⟨0x03, 0x074, 16, 1, .rws, 0x0, 0, 1, 1, 4⟩
def TPLL_BAND_CTL.CHECK_OK : Fld := ⟨0x03, 0x074, 9, 1, .ro, 0x0, 0, 1, 1, 4⟩
def TPLL_BAND_CTL.BUILD_DONE : Fld := ⟨0x03, 0x074, 8, 1, .ro, 0x0, 0, 1, 1, 4⟩
def TPLL_BAND_CTL.CLOSE : Fld := ⟨0x03, 0x074, 1, 1, .wo, 0x0, 0, 1, 1, 4⟩
def TPLL_BAND_CTL.ACTIVE_BANK : Fld := ⟨0x03, 0x074, 0, 1, .ro, 0x0, 0, 1, 1, 4⟩
def TPLL_BAND_CHECK.CHECK : Fld := ⟨0x03, 0x078, 0, 32, .rw, 0x0, 0, 1, 1, 4⟩
def TPLL_SWEEP_RES.VALID : Fld := ⟨0x03, 0x200, 31, 1, .ro, 0x0, 0, 1, 64, 4⟩
def TPLL_SWEEP_RES.FMID : Fld := ⟨0x03, 0x200, 0, 24, .ro, 0x0, 0, 1, 64, 4⟩

/-! ### PWR registers (R534) -/

def PWR_REQ.GO : Fld := ⟨0x04, 0x040, 31, 1, .wo, 0x0, 0, 1, 1, 4⟩
def PWR_REQ.FORCE : Fld := ⟨0x04, 0x040, 30, 1, .rw, 0x0, 0, 1, 1, 4⟩
def PWR_REQ.TARGET : Fld := ⟨0x04, 0x040, 28, 2, .rw, 0x0, 0, 1, 1, 4⟩
def PWR_REQ.DOM : Fld := ⟨0x04, 0x040, 0, 7, .rw, 0x0, 0, 1, 1, 4⟩
def PWR_STAT.BUSY : Fld := ⟨0x04, 0x044, 31, 1, .ro, 0x0, 0, 1, 1, 4⟩
def PWR_STAT.DOM : Fld := ⟨0x04, 0x044, 16, 7, .ro, 0x0, 0, 1, 1, 4⟩
def PWR_STAT.RESULT : Fld := ⟨0x04, 0x044, 0, 3, .ro, 0x0, 0, 1, 1, 4⟩
def PWR_CNT.DEFER_COUNT : Fld := ⟨0x04, 0x048, 16, 16, .ro, 0x0, 0, 1, 1, 4⟩
def PWR_CNT.FORCED_COUNT : Fld := ⟨0x04, 0x048, 0, 16, .ro, 0x0, 0, 1, 1, 4⟩

/-! ### CAL registers (R457) -/

def CAL_CTRL.CMD : Fld := ⟨0x05, 0x040, 0, 3, .wo, 0x0, 0, 1, 1, 4⟩
def CAL_RUN.ITEM : Fld := ⟨0x05, 0x044, 24, 8, .rw, 0x0, 0, 1, 1, 4⟩
def CAL_RUN.SUB : Fld := ⟨0x05, 0x044, 16, 3, .rw, 0x0, 0, 1, 1, 4⟩
def CAL_RUN.APPLY : Fld := ⟨0x05, 0x044, 8, 1, .rw, 0x0, 0, 1, 1, 4⟩
def CAL_RUN.UNIT : Fld := ⟨0x05, 0x044, 0, 8, .rw, 0x0, 0, 1, 1, 4⟩
def CAL_STAT.BUSY : Fld := ⟨0x05, 0x048, 31, 1, .ro, 0x0, 0, 1, 1, 4⟩
def CAL_STAT.STORING : Fld := ⟨0x05, 0x048, 30, 1, .ro, 0x0, 0, 1, 1, 4⟩
def CAL_STAT.PARTIAL : Fld := ⟨0x05, 0x048, 29, 1, .ro, 0x0, 0, 1, 1, 4⟩
def CAL_STAT.FLASH_OK : Fld := ⟨0x05, 0x048, 28, 1, .ro, 0x0, 0, 1, 1, 4⟩
def CAL_STAT.CAL_STATE : Fld := ⟨0x05, 0x048, 26, 2, .ro, 0x0, 0, 1, 1, 4⟩
def CAL_STAT.IMAGE_PEND : Fld := ⟨0x05, 0x048, 16, 8, .ro, 0x0, 0, 1, 1, 4⟩
def CAL_STAT.STORE_RES : Fld := ⟨0x05, 0x048, 4, 4, .ro, 0x0, 0, 1, 1, 4⟩
def CAL_STAT.RUN_RES : Fld := ⟨0x05, 0x048, 0, 4, .ro, 0x0, 0, 1, 1, 4⟩
def CAL_RES1.RES1 : Fld := ⟨0x05, 0x04C, 0, 32, .ro, 0x0, 0, 1, 1, 4⟩
def CAL_RES2.RES2 : Fld := ⟨0x05, 0x050, 0, 32, .ro, 0x0, 0, 1, 1, 4⟩
def CAL_DIFF.WORST : Fld := ⟨0x05, 0x054, 16, 16, .ro, 0x0, 0, 1, 1, 4⟩
def CAL_DIFF.DIFF : Fld := ⟨0x05, 0x054, 0, 16, .ro, 0x0, 0, 1, 1, 4⟩
def CAL_MEAS.MEAS : Fld := ⟨0x05, 0x058, 0, 32, .ro, 0x0, 0, 1, 1, 4⟩
def CAL_GEN.GEN : Fld := ⟨0x05, 0x05C, 0, 32, .ro, 0x0, 0, 1, 1, 4⟩
def CAL_SLOT_STAT.COMMIT_OK : Fld := ⟨0x05, 0x060, 8, 2, .ro, 0x0, 0, 1, 1, 4⟩
def CAL_SLOT_STAT.CHECK_OK : Fld := ⟨0x05, 0x060, 4, 2, .ro, 0x0, 0, 1, 1, 4⟩
def CAL_SLOT_STAT.VALID : Fld := ⟨0x05, 0x060, 0, 2, .ro, 0x0, 0, 1, 1, 4⟩
def CAL_SLOT_GEN.GEN : Fld := ⟨0x05, 0x064, 0, 32, .ro, 0x0, 0, 1, 2, 4⟩
def CAL_SUPPLY.TRIPS : Fld := ⟨0x05, 0x06C, 0, 16, .ro, 0x0, 0, 1, 1, 4⟩
def CAL_FL_ADDR.ADDR : Fld := ⟨0x05, 0x070, 0, 32, .rwl, 0x0, 0, 1, 1, 4⟩
def CAL_FL_CMD.CMD : Fld := ⟨0x05, 0x074, 0, 3, .wo, 0x0, 0, 1, 1, 4⟩
def CAL_FL_STAT.BUSY : Fld := ⟨0x05, 0x078, 31, 1, .ro, 0x0, 0, 1, 1, 4⟩
def CAL_FL_STAT.RESULT : Fld := ⟨0x05, 0x078, 0, 4, .ro, 0x0, 0, 1, 1, 4⟩
def CAL_FL_ID.JEDEC : Fld := ⟨0x05, 0x07C, 8, 24, .ro, 0x0, 0, 1, 1, 4⟩
def CAL_FL_ID.LOG2_SIZE : Fld := ⟨0x05, 0x07C, 0, 8, .ro, 0x0, 0, 1, 1, 4⟩
def CAL_FL_BUF.DATA : Fld := ⟨0x05, 0x100, 0, 32, .rw, 0x0, 0, 1, 64, 4⟩

/-! ### SEC registers (R507) -/

def SEC_STAT.REVOKED : Fld := ⟨0x06, 0x040, 31, 1, .ro, 0x0, 0, 1, 1, 4⟩
def SEC_STAT.SESSION : Fld := ⟨0x06, 0x040, 30, 1, .ro, 0x0, 0, 1, 1, 4⟩
def SEC_STAT.RK_BLOCKED : Fld := ⟨0x06, 0x040, 29, 1, .ro, 0x0, 0, 1, 1, 4⟩
def SEC_STAT.LIB_PRESENT : Fld := ⟨0x06, 0x040, 1, 1, .ro, 0x0, 0, 1, 1, 4⟩
def SEC_STAT.JRN_PRESENT : Fld := ⟨0x06, 0x040, 0, 1, .ro, 0x0, 0, 1, 1, 4⟩
def SEC_CMD.SLOT : Fld := ⟨0x06, 0x044, 8, 1, .wo, 0x0, 0, 1, 1, 4⟩
def SEC_CMD.CMD : Fld := ⟨0x06, 0x044, 0, 4, .wo, 0x0, 0, 1, 1, 4⟩
def SEC_KEY_IN.KEY_IN : Fld := ⟨0x06, 0x050, 0, 32, .wo, 0x0, 0, 1, 8, 4⟩
def SEC_BLOB.BLOB : Fld := ⟨0x06, 0x080, 0, 32, .rw, 0x0, 0, 1, 10, 4⟩
def SEC_KEYID.KEYID : Fld := ⟨0x06, 0x0B0, 0, 32, .ro, 0x0, 0, 1, 2, 4⟩
def SEC_CONFIRM.CONFIRM : Fld := ⟨0x06, 0x0C0, 0, 32, .wo, 0x0, 0, 1, 2, 4⟩

/-! ### JRN registers (R506) -/

def JRN_CFG.EN : Fld := ⟨0x07, 0x040, 31, 1, .rw, 0x0, 0, 1, 1, 4⟩
def JRN_CFG.RING_EN : Fld := ⟨0x07, 0x040, 30, 1, .rw, 0x0, 0, 1, 1, 4⟩
def JRN_CFG.FWD : Fld := ⟨0x07, 0x040, 29, 1, .rw, 0x0, 0, 1, 1, 4⟩
def JRN_CFG.WIN_EN : Fld := ⟨0x07, 0x040, 28, 1, .rw, 0x0, 0, 1, 1, 4⟩
def JRN_CFG.SEAL_MS : Fld := ⟨0x07, 0x040, 0, 16, .rw, 0x3E8, 0, 1, 1, 4⟩
def JRN_CTRL.FLUSH : Fld := ⟨0x07, 0x044, 1, 1, .wo, 0x0, 0, 1, 1, 4⟩
def JRN_CTRL.CNT_CLR : Fld := ⟨0x07, 0x044, 0, 1, .wo, 0x0, 0, 1, 1, 4⟩
def JRN_CLASS_EN.CLASS_EN : Fld := ⟨0x07, 0x048, 0, 16, .rw, 0xFFFF, 0, 1, 1, 4⟩
def JRN_WIN_OPEN.TICK : Fld := ⟨0x07, 0x04C, 0, 32, .rw, 0x0, 0, 1, 2, 4⟩
def JRN_WIN_CLOSE.TICK : Fld := ⟨0x07, 0x054, 0, 32, .rw, 0xFFFFFFFF, 0, 1, 2, 4⟩
def JRN_RING_BASE_LO.BASE : Fld := ⟨0x07, 0x05C, 12, 20, .rw, 0x0, 0, 1, 1, 4⟩
def JRN_RING_BASE_HI.BASE : Fld := ⟨0x07, 0x060, 0, 32, .rw, 0x0, 0, 1, 1, 4⟩
def JRN_RING_SIZE.LOG2 : Fld := ⟨0x07, 0x064, 0, 5, .rw, 0x4, 0, 1, 1, 4⟩
def JRN_RING_WP.WP : Fld := ⟨0x07, 0x068, 0, 32, .ro, 0x0, 0, 1, 1, 4⟩
def JRN_RING_RP.RP : Fld := ⟨0x07, 0x06C, 0, 32, .rw, 0x0, 0, 1, 1, 4⟩
def JRN_WP_ADDR_LO.ADDR : Fld := ⟨0x07, 0x070, 3, 29, .rw, 0x0, 0, 1, 1, 4⟩
def JRN_WP_ADDR_HI.ADDR : Fld := ⟨0x07, 0x074, 0, 32, .rw, 0x0, 0, 1, 1, 4⟩
def JRN_STAT.UNSEALED : Fld := ⟨0x07, 0x078, 31, 1, .ro, 0x0, 0, 1, 1, 4⟩
def JRN_STAT.RING_HALT : Fld := ⟨0x07, 0x078, 30, 1, .ro, 0x0, 0, 1, 1, 4⟩
def JRN_STAT.FILL : Fld := ⟨0x07, 0x078, 16, 11, .ro, 0x0, 0, 1, 1, 4⟩
def JRN_BSEQ.BSEQ : Fld := ⟨0x07, 0x07C, 0, 32, .ro, 0x0, 0, 1, 2, 4⟩
def JRN_LOST.LOST : Fld := ⟨0x07, 0x084, 0, 32, .ro, 0x0, 0, 1, 1, 4⟩
def JRN_RSEQ.RSEQ : Fld := ⟨0x07, 0x088, 0, 32, .ro, 0x0, 0, 1, 1, 4⟩
def JRN_CHAIN_ID.ID : Fld := ⟨0x07, 0x08C, 0, 32, .ro, 0x0, 0, 1, 2, 4⟩

/-! ### CAS registers (R489) -/

def CAS_CFG.DN_EN : Fld := ⟨0x08, 0x040, 31, 1, .rw, 0x0, 0, 1, 1, 4⟩
def CAS_CFG.UP_EN : Fld := ⟨0x08, 0x040, 30, 1, .rw, 0x1, 0, 1, 1, 4⟩
def CAS_CFG.ALIGN_TOL : Fld := ⟨0x08, 0x040, 16, 8, .rw, 0x64, 0, 1, 1, 4⟩
def CAS_CFG.HOLD_S : Fld := ⟨0x08, 0x040, 0, 12, .rw, 0x3C, 0, 1, 1, 4⟩
def CAS_CTRL.RETRAIN_DN : Fld := ⟨0x08, 0x044, 3, 1, .wo, 0x0, 0, 1, 1, 4⟩
def CAS_CTRL.RETRAIN_UP : Fld := ⟨0x08, 0x044, 2, 1, .wo, 0x0, 0, 1, 1, 4⟩
def CAS_CTRL.ALIGN : Fld := ⟨0x08, 0x044, 0, 1, .wo, 0x0, 0, 1, 1, 4⟩
def CAS_MASK.MASK : Fld := ⟨0x08, 0x048, 1, 15, .rw, 0x0, 0, 1, 1, 4⟩
def CAS_STAT.MASTER : Fld := ⟨0x08, 0x04C, 31, 1, .ro, 0x0, 0, 1, 1, 4⟩
def CAS_STAT.ADDR_VALID : Fld := ⟨0x08, 0x04C, 30, 1, .ro, 0x0, 0, 1, 1, 4⟩
def CAS_STAT.ADDR : Fld := ⟨0x08, 0x04C, 24, 4, .ro, 0x0, 0, 1, 1, 4⟩
def CAS_STAT.UP_STATE : Fld := ⟨0x08, 0x04C, 20, 2, .ro, 0x0, 0, 1, 1, 4⟩
def CAS_STAT.DN_STATE : Fld := ⟨0x08, 0x04C, 16, 2, .ro, 0x0, 0, 1, 1, 4⟩
def CAS_STAT.ALIGNED : Fld := ⟨0x08, 0x04C, 12, 1, .ro, 0x0, 0, 1, 1, 4⟩
def CAS_STAT.SKEW_VALID : Fld := ⟨0x08, 0x04C, 11, 1, .ro, 0x0, 0, 1, 1, 4⟩
def CAS_STAT.MEASURED : Fld := ⟨0x08, 0x04C, 10, 1, .ro, 0x0, 0, 1, 1, 4⟩
def CAS_STAT.ALIGN_BUSY : Fld := ⟨0x08, 0x04C, 9, 1, .ro, 0x0, 0, 1, 1, 4⟩
def CAS_STAT.CHAIN_LEN : Fld := ⟨0x08, 0x04C, 0, 5, .ro, 0x0, 0, 1, 1, 4⟩
def CAS_SYNC_DLY.SYNC_DLY : Fld := ⟨0x08, 0x050, 0, 12, .rw, 0x0, 0, 1, 1, 4⟩
def CAS_SKEW_UP.VALID : Fld := ⟨0x08, 0x054, 31, 1, .rwl, 0x0, 0, 1, 1, 4⟩
def CAS_SKEW_UP.D_PS : Fld := ⟨0x08, 0x054, 0, 16, .rwl, 0x0, 0, 1, 1, 4⟩
def CAS_SKEW_DN.D_PS : Fld := ⟨0x08, 0x058, 0, 16, .ro, 0x0, 0, 1, 1, 4⟩
def CAS_THETA.MAX_ABS : Fld := ⟨0x08, 0x05C, 16, 16, .ro, 0x0, 0, 1, 1, 4⟩
def CAS_THETA.THETA : Fld := ⟨0x08, 0x05C, 0, 16, .ro, 0x0, 0, 1, 1, 4⟩
def CAS_REACH.REACH : Fld := ⟨0x08, 0x060, 0, 16, .ro, 0x1, 0, 1, 1, 4⟩
def CAS_PEND.PEND : Fld := ⟨0x08, 0x064, 1, 15, .ro, 0x0, 0, 1, 1, 4⟩
def CAS_RES.RES : Fld := ⟨0x08, 0x068, 0, 32, .ro, 0x0, 0, 1, 1, 4⟩
def CAS_FF.FF_LOST : Fld := ⟨0x08, 0x06C, 16, 16, .ro, 0x0, 0, 1, 1, 4⟩
def CAS_FF.FF_TX : Fld := ⟨0x08, 0x06C, 0, 16, .ro, 0x0, 0, 1, 1, 4⟩
def CAS_LINK.UP_DOWNS : Fld := ⟨0x08, 0x070, 16, 16, .ro, 0x0, 0, 1, 1, 4⟩
def CAS_LINK.DN_DOWNS : Fld := ⟨0x08, 0x070, 0, 16, .ro, 0x0, 0, 1, 1, 4⟩
def CAS_CLR.CLR : Fld := ⟨0x08, 0x074, 31, 1, .wo, 0x0, 0, 1, 1, 4⟩
def CAS_CLR.STRAY : Fld := ⟨0x08, 0x074, 0, 16, .ro, 0x0, 0, 1, 1, 4⟩
def CAS_TUN_CTL.GO : Fld := ⟨0x08, 0x080, 31, 1, .wo, 0x0, 0, 1, 1, 4⟩
def CAS_TUN_CTL.WIN : Fld := ⟨0x08, 0x080, 24, 1, .rw, 0x0, 0, 1, 1, 4⟩
def CAS_TUN_CTL.TARGET : Fld := ⟨0x08, 0x080, 16, 4, .rw, 0x0, 0, 1, 1, 4⟩
def CAS_TUN_CTL.WRITE : Fld := ⟨0x08, 0x080, 8, 1, .rw, 0x0, 0, 1, 1, 4⟩
def CAS_TUN_ADDR.ADDR : Fld := ⟨0x08, 0x084, 0, 30, .rw, 0x0, 0, 1, 1, 4⟩
def CAS_TUN_WDATA.WDATA : Fld := ⟨0x08, 0x088, 0, 32, .rw, 0x0, 0, 1, 1, 4⟩
def CAS_TUN_RDATA.RDATA : Fld := ⟨0x08, 0x08C, 0, 32, .ro, 0x0, 0, 1, 1, 4⟩
def CAS_TUN_STAT.BUSY : Fld := ⟨0x08, 0x090, 31, 1, .ro, 0x0, 0, 1, 1, 4⟩
def CAS_TUN_STAT.RESULT : Fld := ⟨0x08, 0x090, 0, 3, .ro, 0x0, 0, 1, 1, 4⟩

/-! ### HOST registers (R68) -/

def HOST_LINK.DL_UP : Fld := ⟨0x09, 0x040, 12, 1, .ro, 0x0, 0, 1, 1, 4⟩
def HOST_LINK.WIDTH : Fld := ⟨0x09, 0x040, 8, 4, .ro, 0x0, 0, 1, 1, 4⟩
def HOST_LINK.SPEED : Fld := ⟨0x09, 0x040, 0, 4, .ro, 0x0, 0, 1, 1, 4⟩
def HOST_STAT.LINKDOWN_COUNT : Fld := ⟨0x09, 0x044, 16, 16, .ro, 0x0, 0, 1, 1, 4⟩
def HOST_STAT.FLR_COUNT : Fld := ⟨0x09, 0x044, 8, 8, .ro, 0x0, 0, 1, 1, 4⟩
def HOST_STAT.COLLIDE_COUNT : Fld := ⟨0x09, 0x044, 0, 8, .ro, 0x0, 0, 1, 1, 4⟩
def HOST_DROP.CLR : Fld := ⟨0x09, 0x048, 31, 1, .wo, 0x0, 0, 1, 1, 4⟩
def HOST_DROP.COUNT : Fld := ⟨0x09, 0x048, 0, 16, .ro, 0x0, 0, 1, 1, 4⟩
def HOST_DROP_ADDR.WIN : Fld := ⟨0x09, 0x04C, 31, 1, .ro, 0x0, 0, 1, 1, 4⟩
def HOST_DROP_ADDR.TUN : Fld := ⟨0x09, 0x04C, 30, 1, .ro, 0x0, 0, 1, 1, 4⟩
def HOST_DROP_ADDR.ADDR : Fld := ⟨0x09, 0x04C, 0, 30, .ro, 0x0, 0, 1, 1, 4⟩

/-! ### LUS registers (R467) -/

def LUS_CTRL.EN : Fld := ⟨0x0A, 0x040, 31, 1, .rw, 0x1, 0, 1, 1, 4⟩
def LUS_CTRL.REPLAN : Fld := ⟨0x0A, 0x040, 16, 1, .wo, 0x0, 0, 1, 1, 4⟩
def LUS_CTRL.PERIOD_MIN : Fld := ⟨0x0A, 0x040, 0, 11, .rw, 0x3C, 0, 1, 1, 4⟩
def LUS_CFG.GUARD_PS : Fld := ⟨0x0A, 0x044, 24, 8, .rwl, 0x3C, 0, 1, 1, 4⟩
def LUS_CFG.EYE_WARN : Fld := ⟨0x0A, 0x044, 16, 8, .rw, 0x1E, 0, 1, 1, 4⟩
def LUS_CFG.DRIFT_LIM : Fld := ⟨0x0A, 0x044, 0, 16, .rw, 0x800, 0, 1, 1, 4⟩
def LUS_STAT.BUSY : Fld := ⟨0x0A, 0x048, 31, 1, .ro, 0x0, 0, 1, 1, 4⟩
def LUS_STAT.SKIPPED : Fld := ⟨0x0A, 0x048, 16, 8, .ro, 0x0, 0, 1, 1, 4⟩
def LUS_STAT.PLANS : Fld := ⟨0x0A, 0x048, 0, 16, .ro, 0x0, 0, 1, 1, 4⟩
def LUS_PROJ_MIN.ISLAND : Fld := ⟨0x0A, 0x04C, 26, 6, .ro, 0x0, 0, 1, 1, 4⟩
def LUS_PROJ_MIN.PROJ_H : Fld := ⟨0x0A, 0x04C, 0, 24, .ro, 0xFFFFFF, 0, 1, 1, 4⟩
def LUS_PROJ_WARN.PROJ_WARN_H : Fld := ⟨0x0A, 0x050, 0, 24, .rw, 0x2238, 0, 1, 1, 4⟩
def LUS_FLAG.KIND : Fld := ⟨0x0A, 0x054, 31, 1, .ro, 0x0, 0, 1, 1, 4⟩
def LUS_FLAG.INDEX : Fld := ⟨0x0A, 0x054, 0, 8, .ro, 0x0, 0, 1, 1, 4⟩
def LUS_LAST.TICK : Fld := ⟨0x0A, 0x058, 0, 32, .ro, 0x0, 0, 1, 2, 4⟩
def LUS_ISL_CFG.F_TGT : Fld := ⟨0x0A, 0x100, 0, 11, .rw, 0x3E8, 0, 1, 34, 16⟩
def LUS_ISL_PLAN.F_MHZ : Fld := ⟨0x0A, 0x104, 16, 11, .ro, 0x3E8, 0, 1, 34, 16⟩
def LUS_ISL_PLAN.V_MV : Fld := ⟨0x0A, 0x104, 0, 10, .ro, 0x320, 0, 1, 34, 16⟩
def LUS_ISL_MARGIN.HEADROOM : Fld := ⟨0x0A, 0x108, 24, 8, .ro, 0x0, 0, 1, 34, 16⟩
def LUS_ISL_MARGIN.SLACK_MIN : Fld := ⟨0x0A, 0x108, 12, 12, .ro, 0x0, 0, 1, 34, 16⟩
def LUS_ISL_MARGIN.AGE : Fld := ⟨0x0A, 0x108, 0, 12, .ro, 0x0, 0, 1, 34, 16⟩
def LUS_ISL_PROJ.PROJ_H : Fld := ⟨0x0A, 0x10C, 0, 32, .ro, 0xFFFFFFFF, 0, 1, 34, 16⟩

/-! ### FIRE registers (R217) -/

def FIRE_CH.EN : Fld := ⟨0x10, 0x040, 31, 1, .rw, 0x0, 0, 1, 128, 4⟩
def FIRE_CH.CLASS : Fld := ⟨0x10, 0x040, 16, 4, .rw, 0x0, 0, 1, 128, 4⟩
def FIRE_CH.INDEX : Fld := ⟨0x10, 0x040, 0, 12, .rw, 0x0, 0, 1, 128, 4⟩
def FIRE_CH_CNT.DELIVERED : Fld := ⟨0x10, 0x240, 8, 24, .ro, 0x0, 0, 1, 128, 4⟩
def FIRE_CH_CNT.COINC : Fld := ⟨0x10, 0x240, 0, 8, .ro, 0x0, 0, 1, 128, 4⟩

/-! ### FIREG registers (R218) -/

def FIRE_GCTRL.GEN_LIMIT : Fld := ⟨0x11, 0x040, 0, 3, .rw, 0x3, 0, 1, 1, 4⟩
def FIRE_GSTAT.LOOP_COUNT : Fld := ⟨0x11, 0x044, 16, 16, .ro, 0x0, 0, 1, 1, 4⟩
def FIRE_GSTAT.UNROUTED : Fld := ⟨0x11, 0x044, 0, 16, .ro, 0x0, 0, 1, 1, 4⟩
def FIRE_GCLR.CLR : Fld := ⟨0x11, 0x048, 0, 1, .wo, 0x0, 0, 1, 1, 4⟩
def FIRE_SW.CHANNEL : Fld := ⟨0x11, 0x04C, 0, 10, .wo, 0x0, 0, 1, 1, 4⟩
def FIRE_ROUTE_SEL.PROD : Fld := ⟨0x11, 0x050, 0, 16, .rw, 0x0, 0, 1, 1, 4⟩
def FIRE_ROUTE_STAT.CYCLE : Fld := ⟨0x11, 0x05C, 31, 1, .ro, 0x0, 0, 1, 1, 4⟩
def FIRE_ROUTE_STAT.CHECK_BUSY : Fld := ⟨0x11, 0x05C, 30, 1, .ro, 0x0, 0, 1, 1, 4⟩
def FIRE_ROUTE_STAT.CYCLE_CH : Fld := ⟨0x11, 0x05C, 0, 10, .ro, 0x0, 0, 1, 1, 4⟩
def FIRE_LOOP_LAST.GEN : Fld := ⟨0x11, 0x060, 16, 4, .ro, 0x0, 0, 1, 1, 4⟩
def FIRE_LOOP_LAST.PROD : Fld := ⟨0x11, 0x060, 0, 16, .ro, 0x0, 0, 1, 1, 4⟩
def FIRE_PORT_STAT.DROP : Fld := ⟨0x11, 0x080, 16, 16, .ro, 0x0, 0, 1, 34, 4⟩
def FIRE_PORT_STAT.MAX_DEPTH : Fld := ⟨0x11, 0x080, 0, 6, .ro, 0x0, 0, 1, 34, 4⟩
def FIRE_IN_CFG.GLITCH : Fld := ⟨0x11, 0x140, 16, 16, .ro, 0x0, 0, 1, 16, 4⟩
def FIRE_IN_CFG.EDGE : Fld := ⟨0x11, 0x140, 1, 2, .rw, 0x0, 0, 1, 16, 4⟩
def FIRE_IN_CFG.EN : Fld := ⟨0x11, 0x140, 0, 1, .rw, 0x0, 0, 1, 16, 4⟩
def FIRE_OUT_CFG.EN : Fld := ⟨0x11, 0x180, 31, 1, .rw, 0x0, 0, 1, 16, 4⟩
def FIRE_OUT_CFG.MODE : Fld := ⟨0x11, 0x180, 16, 2, .rw, 0x0, 0, 1, 16, 4⟩
def FIRE_OUT_CFG.POL : Fld := ⟨0x11, 0x180, 8, 1, .rw, 0x0, 0, 1, 16, 4⟩
def FIRE_OUT_CFG.WIDTH : Fld := ⟨0x11, 0x180, 0, 8, .rw, 0x1, 0, 1, 16, 4⟩
def TIMER_CTRL.EN : Fld := ⟨0x11, 0x200, 0, 1, .rw, 0x0, 0, 1, 32, 32⟩
def TIMER_PERIOD.PERIOD : Fld := ⟨0x11, 0x204, 0, 32, .rw, 0x10, 0, 1, 32, 32⟩
def TIMER_START_LO.START : Fld := ⟨0x11, 0x208, 0, 32, .rw, 0x0, 0, 1, 32, 32⟩
def TIMER_START_HI.START : Fld := ⟨0x11, 0x20C, 0, 32, .rw, 0x0, 0, 1, 32, 32⟩
def TIMER_COUNT.COUNT : Fld := ⟨0x11, 0x210, 0, 32, .rw, 0x0, 0, 1, 32, 32⟩
def TIMER_DONE.DONE : Fld := ⟨0x11, 0x214, 0, 32, .ro, 0x0, 0, 1, 32, 32⟩
def SCHED_CTRL.FIRED : Fld := ⟨0x11, 0x600, 1, 1, .w1c, 0x0, 0, 1, 64, 16⟩
def SCHED_CTRL.ARM : Fld := ⟨0x11, 0x600, 0, 1, .rw, 0x0, 0, 1, 64, 16⟩
def SCHED_AT_LO.AT : Fld := ⟨0x11, 0x604, 0, 32, .rw, 0x0, 0, 1, 64, 16⟩
def SCHED_AT_HI.AT : Fld := ⟨0x11, 0x608, 0, 32, .rw, 0x0, 0, 1, 64, 16⟩
def FIRE_FAR_CFG.MODE : Fld := ⟨0x11, 0xA00, 4, 1, .rw, 0x0, 0, 1, 64, 4⟩
def FIRE_FAR_CFG.HOPS : Fld := ⟨0x11, 0xA00, 0, 4, .rw, 0x0, 0, 1, 64, 4⟩

/-! ### RFLG registers (R285) -/

def RFL_GUARD_CNT.GUARD : Fld := ⟨0x12, 0x04C, 0, 32, .ro, 0x0, 0, 1, 3, 4⟩
def RFL_GCLR.CLR : Fld := ⟨0x12, 0x05C, 0, 1, .wo, 0x0, 0, 1, 1, 4⟩

/-! ### RFL registers (R282) -/

def RFL_CFG.EN : Fld := ⟨0x13, 0x040, 31, 1, .rw, 0x0, 0, 1, 1, 4⟩
def RFL_CFG.PACE_EN : Fld := ⟨0x13, 0x040, 8, 1, .rw, 0x1, 0, 1, 1, 4⟩
def RFL_CFG.PRIO : Fld := ⟨0x13, 0x040, 4, 2, .rw, 0x2, 0, 1, 1, 4⟩
def RFL_CFG.MODE : Fld := ⟨0x13, 0x040, 0, 1, .rw, 0x0, 0, 1, 1, 4⟩
def RFL_CTRL.STAT_CLR : Fld := ⟨0x13, 0x044, 6, 1, .wo, 0x0, 0, 1, 1, 4⟩
def RFL_CTRL.CLEAR_TRIG : Fld := ⟨0x13, 0x044, 5, 1, .wo, 0x0, 0, 1, 1, 4⟩
def RFL_CTRL.TRIG : Fld := ⟨0x13, 0x044, 4, 1, .wo, 0x0, 0, 1, 1, 4⟩
def RFL_CTRL.CLEAR_SHADOW : Fld := ⟨0x13, 0x044, 3, 1, .wo, 0x0, 0, 1, 1, 4⟩
def RFL_CTRL.POST : Fld := ⟨0x13, 0x044, 2, 1, .wo, 0x0, 0, 1, 1, 4⟩
def RFL_CTRL.RESUME : Fld := ⟨0x13, 0x044, 1, 1, .wo, 0x0, 0, 1, 1, 4⟩
def RFL_CTRL.ABORT : Fld := ⟨0x13, 0x044, 0, 1, .wo, 0x0, 0, 1, 1, 4⟩
def RFL_STAT.WAIT : Fld := ⟨0x13, 0x048, 20, 4, .ro, 0x0, 0, 1, 1, 4⟩
def RFL_STAT.TRIG_PEND : Fld := ⟨0x13, 0x048, 16, 1, .ro, 0x0, 0, 1, 1, 4⟩
def RFL_STAT.GCM_HELD : Fld := ⟨0x13, 0x048, 9, 1, .ro, 0x0, 0, 1, 1, 4⟩
def RFL_STAT.SHADOW_FULL : Fld := ⟨0x13, 0x048, 8, 1, .ro, 0x0, 0, 1, 1, 4⟩
def RFL_STAT.STATE : Fld := ⟨0x13, 0x048, 0, 3, .ro, 0x0, 0, 1, 1, 4⟩
def RFL_RING_BASE_LO.BASE : Fld := ⟨0x13, 0x04C, 7, 25, .rw, 0x0, 0, 1, 1, 4⟩
def RFL_RING_BASE_HI.BASE : Fld := ⟨0x13, 0x050, 0, 32, .rw, 0x0, 0, 1, 1, 4⟩
def RFL_RING_SIZE.LOG2 : Fld := ⟨0x13, 0x054, 0, 5, .rw, 0x1, 0, 1, 1, 4⟩
def RFL_RING_HEAD.HEAD : Fld := ⟨0x13, 0x058, 0, 16, .ro, 0x0, 0, 1, 1, 4⟩
def RFL_RING_TAIL.TAIL : Fld := ⟨0x13, 0x05C, 0, 16, .rw, 0x0, 0, 1, 1, 4⟩
def RFL_RESIDUE.RESIDUE : Fld := ⟨0x13, 0x060, 0, 32, .ro, 0x0, 0, 1, 1, 4⟩
def RFL_CRC.CRC : Fld := ⟨0x13, 0x064, 0, 32, .ro, 0x0, 0, 1, 1, 4⟩
def RFL_LAST_STAT.STATUS : Fld := ⟨0x13, 0x068, 0, 32, .ro, 0x0, 0, 1, 1, 4⟩
def RFL_LAST_RES.RESIDUE : Fld := ⟨0x13, 0x06C, 0, 32, .ro, 0x0, 0, 1, 1, 4⟩
def RFL_DONE.T : Fld := ⟨0x13, 0x070, 0, 32, .ro, 0x0, 0, 1, 2, 4⟩
def RFL_CNT.BAD_COUNT : Fld := ⟨0x13, 0x078, 16, 16, .ro, 0x0, 0, 1, 1, 4⟩
def RFL_CNT.DONE_COUNT : Fld := ⟨0x13, 0x078, 0, 16, .ro, 0x0, 0, 1, 1, 4⟩
def RFL_TRIG_CNT.COINC : Fld := ⟨0x13, 0x07C, 16, 16, .ro, 0x0, 0, 1, 1, 4⟩
def RFL_TRIG_CNT.TAKEN : Fld := ⟨0x13, 0x07C, 0, 16, .ro, 0x0, 0, 1, 1, 4⟩
def RFL_SH.SH : Fld := ⟨0x13, 0x080, 0, 32, .rw, 0x0, 0, 1, 32, 4⟩
def RFL_ACT.ACT : Fld := ⟨0x13, 0x100, 0, 32, .ro, 0x0, 0, 1, 32, 4⟩

/-! ### QPLL registers (R94) -/

def QPLL_CTRL.RELOCK : Fld := ⟨0x14, 0x040, 2, 1, .wo, 0x0, 0, 1, 1, 4⟩
def QPLL_CTRL.EN : Fld := ⟨0x14, 0x040, 0, 1, .rw, 0x0, 0, 1, 1, 4⟩
def QPLL_STAT.RELOCK_COUNT : Fld := ⟨0x14, 0x044, 24, 8, .ro, 0x0, 0, 1, 1, 4⟩
def QPLL_STAT.BAND : Fld := ⟨0x14, 0x044, 16, 7, .ro, 0x0, 0, 1, 1, 4⟩
def QPLL_STAT.TBIN : Fld := ⟨0x14, 0x044, 8, 3, .ro, 0x0, 0, 1, 1, 4⟩
def QPLL_STAT.ATTEMPT : Fld := ⟨0x14, 0x044, 4, 3, .ro, 0x0, 0, 1, 1, 4⟩
def QPLL_STAT.VT_WARN : Fld := ⟨0x14, 0x044, 3, 1, .ro, 0x0, 0, 1, 1, 4⟩
def QPLL_STAT.STATE : Fld := ⟨0x14, 0x044, 0, 3, .ro, 0x0, 0, 1, 1, 4⟩
def QPLL_BAND_CTL.REQ_BANK : Fld := ⟨0x14, 0x048, 16, 1, .rws, 0x0, 0, 1, 1, 4⟩
def QPLL_BAND_CTL.CHECK_OK : Fld := ⟨0x14, 0x048, 9, 1, .ro, 0x0, 0, 1, 1, 4⟩
def QPLL_BAND_CTL.BUILD_DONE : Fld := ⟨0x14, 0x048, 8, 1, .ro, 0x0, 0, 1, 1, 4⟩
def QPLL_BAND_CTL.CLOSE : Fld := ⟨0x14, 0x048, 1, 1, .wo, 0x0, 0, 1, 1, 4⟩
def QPLL_BAND_CTL.ACTIVE_BANK : Fld := ⟨0x14, 0x048, 0, 1, .ro, 0x0, 0, 1, 1, 4⟩
def QPLL_BAND_CHECK.CHECK : Fld := ⟨0x14, 0x04C, 0, 32, .rw, 0x0, 0, 1, 1, 4⟩
def QPLL_LAST_LOCK.TICKS : Fld := ⟨0x14, 0x050, 0, 24, .ro, 0x0, 0, 1, 1, 4⟩

/-! ### AF registers (R387) -/

def AF_CLK_STAT.FREQ_MHZ : Fld := ⟨0x20, 0x040, 16, 11, .ro, 0x3E8, 0, 1, 1, 4⟩
def AF_CLK_STAT.FLL_LOCK : Fld := ⟨0x20, 0x040, 3, 1, .ro, 0x0, 0, 1, 1, 4⟩
def AF_CLK_STAT.AVS_OK : Fld := ⟨0x20, 0x040, 2, 1, .ro, 0x0, 0, 1, 1, 4⟩
def AF_CLK_STAT.POINT_PEND : Fld := ⟨0x20, 0x040, 1, 1, .ro, 0x0, 0, 1, 1, 4⟩
def AF_CLK_STAT.OVR_ACTIVE : Fld := ⟨0x20, 0x040, 0, 1, .ro, 0x0, 0, 1, 1, 4⟩
def AF_POINT.F_MHZ : Fld := ⟨0x20, 0x044, 16, 11, .ro, 0x3E8, 0, 1, 1, 4⟩
def AF_POINT.V_MV : Fld := ⟨0x20, 0x044, 0, 10, .ro, 0x320, 0, 1, 1, 4⟩
def AF_OVR.OVR_EN : Fld := ⟨0x20, 0x048, 31, 1, .rwl, 0x0, 0, 1, 1, 4⟩
def AF_OVR.F_MHZ : Fld := ⟨0x20, 0x048, 16, 11, .rwl, 0x3E8, 0, 1, 1, 4⟩
def AF_OVR.V_MV : Fld := ⟨0x20, 0x048, 0, 10, .rwl, 0x320, 0, 1, 1, 4⟩
def AF_VMEAS.VMEAS : Fld := ⟨0x20, 0x04C, 0, 10, .ro, 0x0, 0, 1, 1, 4⟩
def AF_BEZEL_WARN.LOW_SMP : Fld := ⟨0x20, 0x050, 0, 6, .rw, 0x2, 0, 1, 1, 4⟩
def AF_STAT.FALLBACK : Fld := ⟨0x20, 0x054, 0, 1, .ro, 0x0, 0, 1, 1, 4⟩
def TSET_IDX.INDEX : Fld := ⟨0x20, 0x060, 0, 10, .rw, 0x0, 0, 1, 1, 4⟩
def TSET_D.D : Fld := ⟨0x20, 0x068, 0, 32, .rw, 0x0, 0, 1, 8, 4⟩
def DRV_GRP_CFG.MODE : Fld := ⟨0x20, 0x100, 31, 1, .rw, 0x0, 0, 1, 8, 16⟩
def DRV_GRP_CFG.PERIOD : Fld := ⟨0x20, 0x100, 0, 20, .rw, 0xFA, 0, 1, 8, 16⟩
def DRV_GRP_ORIGIN_LO.ORIGIN : Fld := ⟨0x20, 0x104, 0, 32, .rw, 0x0, 0, 1, 8, 16⟩
def DRV_GRP_ORIGIN_HI.ORIGIN : Fld := ⟨0x20, 0x108, 0, 32, .rw, 0x0, 0, 1, 8, 16⟩
def DRV_GRP_STAT.GRID_VALID : Fld := ⟨0x20, 0x10C, 31, 1, .ro, 0x0, 0, 1, 8, 16⟩
def DRV_GRP_STAT.RUNNING : Fld := ⟨0x20, 0x10C, 0, 4, .ro, 0x0, 0, 1, 8, 16⟩
def DRV_GRP_O_LO.O : Fld := ⟨0x20, 0x180, 0, 32, .ro, 0x0, 0, 1, 8, 8⟩
def DRV_GRP_O_HI.O : Fld := ⟨0x20, 0x184, 0, 32, .ro, 0x0, 0, 1, 8, 8⟩

/-! ### DRV registers (R388) -/

def PT_CFG.INTERP : Fld := ⟨0x21, 0x040, 8, 1, .rw, 0x0, 0, 1, 1, 4⟩
def PT_CFG.LOG2L : Fld := ⟨0x21, 0x040, 0, 5, .rw, 0x8, 0, 1, 1, 4⟩
def PT_BANK.REQ_BANK : Fld := ⟨0x21, 0x044, 16, 1, .rws, 0x0, 0, 1, 1, 4⟩
def PT_BANK.CHECK_OK : Fld := ⟨0x21, 0x044, 9, 1, .ro, 0x0, 0, 1, 1, 4⟩
def PT_BANK.BUILD_DONE : Fld := ⟨0x21, 0x044, 8, 1, .ro, 0x0, 0, 1, 1, 4⟩
def PT_BANK.BANK_STATE : Fld := ⟨0x21, 0x044, 4, 2, .ro, 0x0, 0, 1, 1, 4⟩
def PT_BANK.REOPEN : Fld := ⟨0x21, 0x044, 2, 1, .wo, 0x0, 0, 1, 1, 4⟩
def PT_BANK.CLOSE : Fld := ⟨0x21, 0x044, 1, 1, .wo, 0x0, 0, 1, 1, 4⟩
def PT_BANK.ACTIVE_BANK : Fld := ⟨0x21, 0x044, 0, 1, .ro, 0x0, 0, 1, 1, 4⟩
def PT_CHECK.CHECK : Fld := ⟨0x21, 0x048, 0, 32, .rw, 0x0, 0, 1, 1, 4⟩
def PT_ACT_CFG.INTERP : Fld := ⟨0x21, 0x04C, 8, 1, .ro, 0x0, 0, 1, 1, 4⟩
def PT_ACT_CFG.LOG2L : Fld := ⟨0x21, 0x04C, 0, 5, .ro, 0x8, 0, 1, 1, 4⟩
def DRV_SRC_A.KIND : Fld := ⟨0x21, 0x100, 28, 4, .rws, 0x0, 0, 1, 8, 256⟩
def DRV_SRC_A.INDEX : Fld := ⟨0x21, 0x100, 16, 10, .rws, 0x0, 0, 1, 8, 256⟩
def DRV_SRC_A.PH_OFS : Fld := ⟨0x21, 0x100, 0, 16, .rws, 0x0, 0, 1, 8, 256⟩
def DRV_SRC_B.KIND : Fld := ⟨0x21, 0x104, 28, 4, .rws, 0x0, 0, 1, 8, 256⟩
def DRV_SRC_B.INDEX : Fld := ⟨0x21, 0x104, 16, 10, .rws, 0x0, 0, 1, 8, 256⟩
def DRV_SRC_B.PH_OFS : Fld := ⟨0x21, 0x104, 0, 16, .rws, 0x0, 0, 1, 8, 256⟩
def DRV_GAIN_A.GAIN : Fld := ⟨0x21, 0x108, 0, 24, .rws, 0x400000, 0, 1, 8, 256⟩
def DRV_GAIN_B.GAIN : Fld := ⟨0x21, 0x10C, 0, 24, .rws, 0x400000, 0, 1, 8, 256⟩
def DRV_TRIM_A.TRIM : Fld := ⟨0x21, 0x110, 0, 24, .ro, 0x400000, 0, 1, 8, 256⟩
def DRV_TRIM_B.TRIM : Fld := ⟨0x21, 0x114, 0, 24, .ro, 0x400000, 0, 1, 8, 256⟩
def DRV_RAMP.RAMP_US : Fld := ⟨0x21, 0x118, 0, 24, .rws, 0xF4240, 0, 1, 8, 256⟩
def DRV_LIMIT.LIMIT : Fld := ⟨0x21, 0x11C, 0, 23, .rws, 0x7FFFFF, 0, 1, 8, 256⟩
def DRV_CTRL.CNT_CLR : Fld := ⟨0x21, 0x120, 3, 1, .wo, 0x0, 0, 1, 8, 256⟩
def DRV_CTRL.ACK : Fld := ⟨0x21, 0x120, 2, 1, .wo, 0x0, 0, 1, 8, 256⟩
def DRV_CTRL.SOFT_STOP : Fld := ⟨0x21, 0x120, 1, 1, .wo, 0x0, 0, 1, 8, 256⟩
def DRV_CTRL.START : Fld := ⟨0x21, 0x120, 0, 1, .wo, 0x0, 0, 1, 8, 256⟩
def DRV_STAT.SRC_TAPER : Fld := ⟨0x21, 0x124, 10, 2, .ro, 0x0, 0, 1, 8, 256⟩
def DRV_STAT.FADE : Fld := ⟨0x21, 0x124, 9, 1, .ro, 0x0, 0, 1, 8, 256⟩
def DRV_STAT.START_PEND : Fld := ⟨0x21, 0x124, 8, 1, .ro, 0x0, 0, 1, 8, 256⟩
def DRV_STAT.STOP_CAUSE : Fld := ⟨0x21, 0x124, 4, 4, .ro, 0x0, 0, 1, 8, 256⟩
def DRV_STAT.STATE : Fld := ⟨0x21, 0x124, 0, 3, .ro, 0x0, 0, 1, 8, 256⟩
def DRV_CNT.STOP_IGNORED : Fld := ⟨0x21, 0x128, 16, 16, .ro, 0x0, 0, 1, 8, 256⟩
def DRV_CNT.SAT : Fld := ⟨0x21, 0x128, 0, 16, .ro, 0x0, 0, 1, 8, 256⟩
def DRV_BEZEL.UNDERRUN_COUNT : Fld := ⟨0x21, 0x12C, 24, 8, .ro, 0x0, 0, 1, 8, 256⟩
def DRV_BEZEL.MIN_FILL : Fld := ⟨0x21, 0x12C, 0, 7, .ro, 0x7F, 0, 1, 8, 256⟩
def DRV_DDS_F_A.F : Fld := ⟨0x21, 0x130, 0, 32, .ro, 0x0, 0, 1, 8, 256⟩
def DRV_DDS_F_B.F : Fld := ⟨0x21, 0x134, 0, 32, .ro, 0x0, 0, 1, 8, 256⟩
def DRV_DDS_A_A.A : Fld := ⟨0x21, 0x138, 0, 24, .ro, 0x0, 0, 1, 8, 256⟩
def DRV_DDS_A_B.A : Fld := ⟨0x21, 0x13C, 0, 24, .ro, 0x0, 0, 1, 8, 256⟩
def DRV_ACTIVE_AT_LO.TICK : Fld := ⟨0x21, 0x140, 0, 32, .ro, 0x0, 0, 1, 8, 256⟩
def DRV_ACTIVE_AT_HI.TICK : Fld := ⟨0x21, 0x144, 0, 32, .ro, 0x0, 0, 1, 8, 256⟩
def DRV_STOP_AT_LO.TICK : Fld := ⟨0x21, 0x148, 0, 32, .ro, 0x0, 0, 1, 8, 256⟩
def DRV_STOP_AT_HI.TICK : Fld := ⟨0x21, 0x14C, 0, 32, .ro, 0x0, 0, 1, 8, 256⟩
def DAC_CFG.LDSRC : Fld := ⟨0x21, 0x180, 20, 2, .rws, 0x0, 0, 1, 8, 256⟩
def DAC_CFG.CLEAR_CODE : Fld := ⟨0x21, 0x180, 0, 20, .rws, 0x80000, 0, 1, 8, 256⟩
def DAC_GTHR.THR : Fld := ⟨0x21, 0x184, 0, 20, .rws, 0x1000, 0, 1, 8, 256⟩
def DAC_CTL.RANGE_NEW : Fld := ⟨0x21, 0x188, 8, 1, .wo, 0x0, 0, 1, 8, 256⟩
def DAC_CTL.SW_LOAD : Fld := ⟨0x21, 0x188, 3, 1, .wo, 0x0, 0, 1, 8, 256⟩
def DAC_CTL.RANGE_SET : Fld := ⟨0x21, 0x188, 2, 1, .wo, 0x0, 0, 1, 8, 256⟩
def DAC_CTL.CLAMP : Fld := ⟨0x21, 0x188, 1, 1, .wo, 0x0, 0, 1, 8, 256⟩
def DAC_CTL.UNCLAMP : Fld := ⟨0x21, 0x188, 0, 1, .wo, 0x0, 0, 1, 8, 256⟩
def DAC_STAT.CLR_FORCED : Fld := ⟨0x21, 0x18C, 28, 1, .ro, 0x0, 0, 1, 8, 256⟩
def DAC_STAT.LDSRC_EFF : Fld := ⟨0x21, 0x18C, 26, 2, .ro, 0x0, 0, 1, 8, 256⟩
def DAC_STAT.UNCLAMP_BUSY : Fld := ⟨0x21, 0x18C, 25, 1, .ro, 0x0, 0, 1, 8, 256⟩
def DAC_STAT.RANGE_BUSY : Fld := ⟨0x21, 0x18C, 24, 1, .ro, 0x0, 0, 1, 8, 256⟩
def DAC_STAT.CLAMP_ON : Fld := ⟨0x21, 0x18C, 23, 1, .ro, 0x1, 0, 1, 8, 256⟩
def DAC_STAT.RANGE : Fld := ⟨0x21, 0x18C, 20, 1, .ro, 0x0, 0, 1, 8, 256⟩
def DAC_STAT.DOUT : Fld := ⟨0x21, 0x18C, 0, 20, .ro, 0x80000, 0, 1, 8, 256⟩
def DAC_CNT.OVERWRITE : Fld := ⟨0x21, 0x190, 16, 16, .ro, 0x0, 0, 1, 8, 256⟩
def DAC_CNT.MAJOR : Fld := ⟨0x21, 0x190, 0, 16, .ro, 0x0, 0, 1, 8, 256⟩
def DAC_TRIM_IDX.RANGE : Fld := ⟨0x21, 0x194, 16, 1, .rwl, 0x0, 0, 1, 8, 256⟩
def DAC_TRIM_IDX.ITEM : Fld := ⟨0x21, 0x194, 0, 11, .rwl, 0x0, 0, 1, 8, 256⟩
def DAC_TRIM_DATA.VALUE : Fld := ⟨0x21, 0x198, 0, 16, .rwl, 0x0, 0, 1, 8, 256⟩
def LOUPE_CH_CFG.EN : Fld := ⟨0x21, 0x1A4, 31, 1, .rw, 0x1, 0, 1, 8, 256⟩
def LOUPE_CH_CFG.ACTION : Fld := ⟨0x21, 0x1A4, 30, 1, .rw, 0x0, 0, 1, 8, 256⟩
def LOUPE_CH_CFG.MISS_N : Fld := ⟨0x21, 0x1A4, 24, 4, .rw, 0x3, 0, 1, 8, 256⟩
def LOUPE_CH_CFG.TOL : Fld := ⟨0x21, 0x1A4, 0, 16, .rw, 0x40, 0, 1, 8, 256⟩
def LOUPE_CH_TAU.TAU_NS : Fld := ⟨0x21, 0x1A8, 0, 16, .rw, 0x3E8, 0, 1, 8, 256⟩
def LOUPE_CH_LAST.RESID : Fld := ⟨0x21, 0x1AC, 16, 16, .ro, 0x0, 0, 1, 8, 256⟩
def LOUPE_CH_LAST.READING : Fld := ⟨0x21, 0x1AC, 0, 16, .ro, 0x0, 0, 1, 8, 256⟩
def LOUPE_CH_CNT.MISMATCH : Fld := ⟨0x21, 0x1B0, 16, 16, .ro, 0x0, 0, 1, 8, 256⟩
def LOUPE_CH_CNT.OUT_TOL : Fld := ⟨0x21, 0x1B0, 0, 16, .ro, 0x0, 0, 1, 8, 256⟩
def LOUPE_CH_DRIFT.DRIFT : Fld := ⟨0x21, 0x1B4, 0, 32, .ro, 0x0, 0, 1, 8, 256⟩

/-! ### LOUPE registers (R413) -/

def LOUPE_CTRL.EN : Fld := ⟨0x22, 0x040, 31, 1, .rw, 0x1, 0, 1, 1, 4⟩
def LOUPE_CTRL.CNT_CLR : Fld := ⟨0x22, 0x040, 0, 1, .wo, 0x0, 0, 1, 1, 4⟩
def LOUPE_STAT.FRAMES : Fld := ⟨0x22, 0x044, 16, 16, .ro, 0x0, 0, 1, 1, 4⟩
def LOUPE_STAT.VDDA_HV_OK : Fld := ⟨0x22, 0x044, 0, 1, .ro, 0x0, 0, 1, 1, 4⟩
def LOUPE_CLR_STAT.HARD_CLEAR_COUNT : Fld := ⟨0x22, 0x048, 16, 16, .ro, 0x0, 0, 1, 1, 4⟩
def LOUPE_CLR_STAT.CLR_N_ASSERTED : Fld := ⟨0x22, 0x048, 0, 1, .ro, 0x0, 0, 1, 1, 4⟩
def LOUPE_NODE_CFG.EN : Fld := ⟨0x22, 0x100, 31, 1, .rw, 0x0, 0, 1, 34, 4⟩
def LOUPE_NODE_CFG.ACTION : Fld := ⟨0x22, 0x100, 30, 1, .rw, 0x0, 0, 1, 34, 4⟩
def LOUPE_NODE_CFG.MISS_N : Fld := ⟨0x22, 0x100, 24, 4, .rw, 0x3, 0, 1, 34, 4⟩
def LOUPE_NODE_LIM.HI : Fld := ⟨0x22, 0x200, 16, 16, .rw, 0x7FFF, 0, 1, 34, 4⟩
def LOUPE_NODE_LIM.LO : Fld := ⟨0x22, 0x200, 0, 16, .rw, 0x8000, 0, 1, 34, 4⟩
def LOUPE_NODE_VAL.MISMATCH : Fld := ⟨0x22, 0x300, 16, 16, .ro, 0x0, 0, 1, 34, 4⟩
def LOUPE_NODE_VAL.READING : Fld := ⟨0x22, 0x300, 0, 16, .ro, 0x0, 0, 1, 34, 4⟩

/-! ### SNS registers (R437) -/

def SNS_BANK_CFG.EN : Fld := ⟨0x23, 0x040, 31, 1, .rw, 0x0, 0, 1, 1, 4⟩
def SNS_BANK_CFG.MODE : Fld := ⟨0x23, 0x040, 30, 1, .rw, 0x0, 0, 1, 1, 4⟩
def SNS_BANK_CFG.GROUP : Fld := ⟨0x23, 0x040, 24, 3, .rw, 0x0, 0, 1, 1, 4⟩
def SNS_BANK_CFG.PERIOD : Fld := ⟨0x23, 0x040, 0, 20, .rw, 0x7A2, 0, 1, 1, 4⟩
def SNS_BANK_STAT.GRID_VALID : Fld := ⟨0x23, 0x044, 31, 1, .ro, 0x0, 0, 1, 1, 4⟩
def SNS_BANK_STAT.SETTLED : Fld := ⟨0x23, 0x044, 30, 1, .ro, 0x0, 0, 1, 1, 4⟩
def SNS_BANK_O_LO.O : Fld := ⟨0x23, 0x048, 0, 32, .ro, 0x0, 0, 1, 1, 4⟩
def SNS_BANK_O_HI.O : Fld := ⟨0x23, 0x04C, 0, 32, .ro, 0x0, 0, 1, 1, 4⟩
def SNS_CFG.EN : Fld := ⟨0x23, 0x100, 31, 1, .rw, 0x0, 0, 1, 8, 128⟩
def SNS_CFG.FILT : Fld := ⟨0x23, 0x100, 30, 1, .rw, 0x0, 0, 1, 8, 128⟩
def SNS_CFG.HPF : Fld := ⟨0x23, 0x100, 28, 2, .rw, 0x0, 0, 1, 8, 128⟩
def SNS_CFG.CAP_EN : Fld := ⟨0x23, 0x100, 27, 1, .rw, 0x0, 0, 1, 8, 128⟩
def SNS_CFG.CAP_MODE : Fld := ⟨0x23, 0x100, 26, 1, .rw, 0x0, 0, 1, 8, 128⟩
def SNS_CFG.LIM_GROUP : Fld := ⟨0x23, 0x100, 16, 3, .rw, 0x0, 0, 1, 8, 128⟩
def SNS_LIM_CFG.RMS_K : Fld := ⟨0x23, 0x104, 24, 5, .rw, 0xA, 0, 1, 8, 128⟩
def SNS_LIM_CFG.ACTION : Fld := ⟨0x23, 0x104, 4, 4, .rw, 0x0, 0, 1, 8, 128⟩
def SNS_LIM_CFG.LIM_EN : Fld := ⟨0x23, 0x104, 0, 4, .rw, 0x0, 0, 1, 8, 128⟩
def SNS_PEAK.PEAK_THR : Fld := ⟨0x23, 0x108, 0, 23, .rw, 0x7FFFFF, 0, 1, 8, 128⟩
def SNS_RMS_LIM.RMS_THR : Fld := ⟨0x23, 0x10C, 0, 23, .rw, 0x7FFFFF, 0, 1, 8, 128⟩
def SNS_SLOPE.SLOPE_THR : Fld := ⟨0x23, 0x110, 0, 24, .rw, 0xFFFFFF, 0, 1, 8, 128⟩
def SNS_BAND.BAND_HI : Fld := ⟨0x23, 0x114, 16, 14, .rw, 0x0, 0, 1, 8, 128⟩
def SNS_BAND.BAND_LO : Fld := ⟨0x23, 0x114, 0, 14, .rw, 0x0, 0, 1, 8, 128⟩
def SNS_BAND_LIM.BAND_THR : Fld := ⟨0x23, 0x118, 0, 23, .rw, 0x7FFFFF, 0, 1, 8, 128⟩
def SNS_LIM_CNT.CNT3 : Fld := ⟨0x23, 0x11C, 24, 8, .ro, 0x0, 0, 1, 8, 128⟩
def SNS_LIM_CNT.CNT2 : Fld := ⟨0x23, 0x11C, 16, 8, .ro, 0x0, 0, 1, 8, 128⟩
def SNS_LIM_CNT.CNT1 : Fld := ⟨0x23, 0x11C, 8, 8, .ro, 0x0, 0, 1, 8, 128⟩
def SNS_LIM_CNT.CNT0 : Fld := ⟨0x23, 0x11C, 0, 8, .ro, 0x0, 0, 1, 8, 128⟩
def SNS_SAMPLE.OVR : Fld := ⟨0x23, 0x120, 31, 1, .ro, 0x0, 0, 1, 8, 128⟩
def SNS_SAMPLE.SAMPLE : Fld := ⟨0x23, 0x120, 0, 24, .ro, 0x0, 0, 1, 8, 128⟩
def SNS_RMS.RMS : Fld := ⟨0x23, 0x124, 0, 23, .ro, 0x0, 0, 1, 8, 128⟩
def SNS_CAP_WP.WP : Fld := ⟨0x23, 0x128, 0, 32, .ro, 0x0, 0, 1, 8, 128⟩
def SNS_CAP_RP.RP : Fld := ⟨0x23, 0x12C, 0, 32, .rw, 0x0, 0, 1, 8, 128⟩
def SNS_CAP_OPEN_LO.TICK : Fld := ⟨0x23, 0x130, 0, 32, .rw, 0x0, 0, 1, 8, 128⟩
def SNS_CAP_OPEN_HI.TICK : Fld := ⟨0x23, 0x134, 0, 32, .rw, 0x0, 0, 1, 8, 128⟩
def SNS_CAP_CLOSE_LO.TICK : Fld := ⟨0x23, 0x138, 0, 32, .rw, 0xFFFFFFFF, 0, 1, 8, 128⟩
def SNS_CAP_CLOSE_HI.TICK : Fld := ⟨0x23, 0x13C, 0, 32, .rw, 0xFFFFFFFF, 0, 1, 8, 128⟩
def SNS_CAP_T0_LO.TICK : Fld := ⟨0x23, 0x140, 0, 32, .ro, 0x0, 0, 1, 8, 128⟩
def SNS_CAP_T0_HI.TICK : Fld := ⟨0x23, 0x144, 0, 32, .ro, 0x0, 0, 1, 8, 128⟩
def SNS_CAP_LOST.LOST : Fld := ⟨0x23, 0x148, 0, 32, .ro, 0x0, 0, 1, 8, 128⟩
def SNS_TRIM_OFS.OFS : Fld := ⟨0x23, 0x14C, 0, 24, .rwl, 0x0, 0, 1, 8, 128⟩
def SNS_TRIM_GAIN.GAIN : Fld := ⟨0x23, 0x150, 0, 24, .rwl, 0x400000, 0, 1, 8, 128⟩
def SNS_GD.GD : Fld := ⟨0x23, 0x154, 0, 20, .ro, 0x0, 0, 1, 8, 128⟩

/-! ### CROWN registers (R439) -/

def CROWN_CFG.MODE : Fld := ⟨0x24, 0x040, 30, 2, .rws, 0x0, 0, 1, 1, 4⟩
def CROWN_CFG.LINES : Fld := ⟨0x24, 0x040, 26, 3, .rws, 0x0, 0, 1, 1, 4⟩
def CROWN_CFG.AVG : Fld := ⟨0x24, 0x040, 23, 3, .rws, 0x2, 0, 1, 1, 4⟩
def CROWN_CFG.MU : Fld := ⟨0x24, 0x040, 0, 16, .rws, 0x1000, 0, 1, 1, 4⟩
def CROWN_SIZE.NC : Fld := ⟨0x24, 0x044, 16, 7, .rws, 0x1, 0, 1, 1, 4⟩
def CROWN_SIZE.ND : Fld := ⟨0x24, 0x044, 0, 7, .rws, 0x1, 0, 1, 1, 4⟩
def CROWN_INIT.INIT_FRAMES : Fld := ⟨0x24, 0x048, 24, 8, .rws, 0x8, 0, 1, 1, 4⟩
def CROWN_INIT.INIT_RMS : Fld := ⟨0x24, 0x048, 0, 23, .rws, 0x0, 0, 1, 1, 4⟩
def CROWN_RAMP.RAMP_US : Fld := ⟨0x24, 0x04C, 0, 24, .rws, 0xF4240, 0, 1, 1, 4⟩
def CROWN_REG.REG : Fld := ⟨0x24, 0x050, 0, 16, .rws, 0x10, 0, 1, 1, 4⟩
def CROWN_REF.REF_SEL : Fld := ⟨0x24, 0x054, 31, 1, .rws, 0x0, 0, 1, 1, 4⟩
def CROWN_REF.LEVEL : Fld := ⟨0x24, 0x054, 0, 16, .rws, 0x0, 0, 1, 1, 4⟩
def CROWN_SEED_LO.SEED : Fld := ⟨0x24, 0x058, 0, 32, .rws, 0x1, 0, 1, 1, 4⟩
def CROWN_SEED_HI.SEED : Fld := ⟨0x24, 0x05C, 0, 32, .rws, 0x0, 0, 1, 1, 4⟩
def CROWN_ALARM.ABORT_N : Fld := ⟨0x24, 0x060, 24, 8, .rws, 0x4, 0, 1, 1, 4⟩
def CROWN_ALARM.ABORT_DB : Fld := ⟨0x24, 0x060, 16, 8, .rws, 0x1E, 0, 1, 1, 4⟩
def CROWN_ALARM.ACTION : Fld := ⟨0x24, 0x060, 14, 2, .rws, 0x0, 0, 1, 1, 4⟩
def CROWN_DRVMAX.DRV_MAX : Fld := ⟨0x24, 0x064, 0, 23, .rws, 0x7FFFFF, 0, 1, 1, 4⟩
def CROWN_TRACK.BW_PCT : Fld := ⟨0x24, 0x068, 24, 8, .rws, 0xA, 0, 1, 1, 4⟩
def CROWN_TRACK.BW_MIN : Fld := ⟨0x24, 0x068, 0, 16, .rws, 0x64, 0, 1, 1, 4⟩
def CROWN_PULSES.PULSES : Fld := ⟨0x24, 0x06C, 0, 16, .rws, 0x0, 0, 1, 1, 4⟩
def CROWN_BASE_REF.BASE : Fld := ⟨0x24, 0x070, 0, 21, .rws, 0x0, 0, 1, 2, 4⟩
def CROWN_TWR_BASE.TWR_BASE : Fld := ⟨0x24, 0x078, 0, 21, .rws, 0x0, 0, 1, 1, 4⟩
def CROWN_RD.RD_EN : Fld := ⟨0x24, 0x07C, 31, 1, .rws, 0x0, 0, 1, 1, 4⟩
def CROWN_RD.RD_BASE : Fld := ⟨0x24, 0x07C, 0, 20, .rws, 0x0, 0, 1, 1, 4⟩
def CROWN_CTRL.RESUME : Fld := ⟨0x24, 0x080, 3, 1, .wo, 0x0, 0, 1, 1, 4⟩
def CROWN_CTRL.HOLD : Fld := ⟨0x24, 0x080, 2, 1, .wo, 0x0, 0, 1, 1, 4⟩
def CROWN_CTRL.STOP : Fld := ⟨0x24, 0x080, 1, 1, .wo, 0x0, 0, 1, 1, 4⟩
def CROWN_CTRL.START : Fld := ⟨0x24, 0x080, 0, 1, .wo, 0x0, 0, 1, 1, 4⟩
def CROWN_STAT.DRV_LIMITED : Fld := ⟨0x24, 0x084, 31, 1, .ro, 0x0, 0, 1, 1, 4⟩
def CROWN_STAT.STOP_CAUSE : Fld := ⟨0x24, 0x084, 16, 3, .ro, 0x0, 0, 1, 1, 4⟩
def CROWN_STAT.PHASE : Fld := ⟨0x24, 0x084, 8, 2, .ro, 0x0, 0, 1, 1, 4⟩
def CROWN_STAT.STATE : Fld := ⟨0x24, 0x084, 0, 3, .ro, 0x0, 0, 1, 1, 4⟩
def CROWN_FRAMES.FRAMES : Fld := ⟨0x24, 0x088, 0, 32, .ro, 0x0, 0, 1, 1, 4⟩
def CROWN_ERR.ERR : Fld := ⟨0x24, 0x08C, 0, 16, .ro, 0x0, 0, 1, 1, 4⟩
def CROWN_TS_LO.TICK : Fld := ⟨0x24, 0x090, 0, 32, .ro, 0x0, 0, 1, 1, 4⟩
def CROWN_TS_HI.TICK : Fld := ⟨0x24, 0x094, 0, 32, .ro, 0x0, 0, 1, 1, 4⟩
def CROWN_BANK.DEFER_COUNT : Fld := ⟨0x24, 0x098, 16, 16, .ro, 0x0, 0, 1, 1, 4⟩
def CROWN_BANK.SWAP_COUNT : Fld := ⟨0x24, 0x098, 1, 15, .ro, 0x0, 0, 1, 1, 4⟩
def CROWN_BANK.ACTIVE_BANK : Fld := ⟨0x24, 0x098, 0, 1, .ro, 0x0, 0, 1, 1, 4⟩
def CROWN_SDRV.EN : Fld := ⟨0x24, 0x100, 31, 1, .rws, 0x0, 0, 1, 64, 4⟩
def CROWN_SDRV.SRC : Fld := ⟨0x24, 0x100, 30, 1, .rws, 0x0, 0, 1, 64, 4⟩
def CROWN_SDRV.CHAN : Fld := ⟨0x24, 0x100, 24, 6, .rws, 0x0, 0, 1, 64, 4⟩
def CROWN_SDRV.TRIM_INIT : Fld := ⟨0x24, 0x100, 0, 24, .rws, 0x400000, 0, 1, 64, 4⟩
def CROWN_CP.EN : Fld := ⟨0x24, 0x200, 31, 1, .rws, 0x0, 0, 1, 64, 4⟩
def CROWN_CP.CP_DRV : Fld := ⟨0x24, 0x200, 16, 6, .rws, 0x0, 0, 1, 64, 4⟩
def CROWN_CP.SENSE : Fld := ⟨0x24, 0x200, 0, 6, .rws, 0x0, 0, 1, 64, 4⟩

/-! ### FCT registers (R114) -/

def FCT_CLK_STAT.FREQ_MHZ : Fld := ⟨0x30, 0x040, 16, 11, .ro, 0x3E8, 0, 1, 1, 4⟩
def FCT_CLK_STAT.FLL_LOCK : Fld := ⟨0x30, 0x040, 3, 1, .ro, 0x0, 0, 1, 1, 4⟩
def FCT_CLK_STAT.AVS_OK : Fld := ⟨0x30, 0x040, 2, 1, .ro, 0x0, 0, 1, 1, 4⟩
def FCT_CLK_STAT.POINT_PEND : Fld := ⟨0x30, 0x040, 1, 1, .ro, 0x0, 0, 1, 1, 4⟩
def FCT_CLK_STAT.OVR_ACTIVE : Fld := ⟨0x30, 0x040, 0, 1, .ro, 0x0, 0, 1, 1, 4⟩
def FCT_POINT.F_MHZ : Fld := ⟨0x30, 0x044, 16, 11, .ro, 0x3E8, 0, 1, 1, 4⟩
def FCT_POINT.V_MV : Fld := ⟨0x30, 0x044, 0, 10, .ro, 0x320, 0, 1, 1, 4⟩
def FCT_OVR.OVR_EN : Fld := ⟨0x30, 0x048, 31, 1, .rwl, 0x0, 0, 1, 1, 4⟩
def FCT_OVR.F_MHZ : Fld := ⟨0x30, 0x048, 16, 11, .rwl, 0x3E8, 0, 1, 1, 4⟩
def FCT_OVR.V_MV : Fld := ⟨0x30, 0x048, 0, 10, .rwl, 0x320, 0, 1, 1, 4⟩
def FCT_VMEAS.VMEAS : Fld := ⟨0x30, 0x04C, 0, 10, .ro, 0x0, 0, 1, 1, 4⟩
def FCT_BEZEL_WARN.LOW_TK : Fld := ⟨0x30, 0x050, 0, 9, .rw, 0x48, 0, 1, 1, 4⟩
def FCT_BEZEL_CLR.CLR : Fld := ⟨0x30, 0x054, 0, 1, .wo, 0x0, 0, 1, 1, 4⟩
def FCT_BEZEL_STAT.UNDERRUN_COUNT : Fld := ⟨0x30, 0x060, 24, 8, .ro, 0x0, 0, 1, 8, 4⟩
def FCT_BEZEL_STAT.LOW_COUNT : Fld := ⟨0x30, 0x060, 16, 8, .ro, 0x0, 0, 1, 8, 4⟩
def FCT_BEZEL_STAT.MIN_FILL : Fld := ⟨0x30, 0x060, 0, 10, .ro, 0x3FF, 0, 1, 8, 4⟩
def FCT_GIRDLE_N.BULK : Fld := ⟨0x30, 0x080, 16, 8, .ro, 0x0, 0, 1, 1, 4⟩
def FCT_GIRDLE_N.STREAM : Fld := ⟨0x30, 0x080, 8, 8, .ro, 0x0, 0, 1, 1, 4⟩
def FCT_GIRDLE_N.CONTROL : Fld := ⟨0x30, 0x080, 0, 8, .ro, 0x0, 0, 1, 1, 4⟩
def FCT_GIRDLE_TOT.BULK : Fld := ⟨0x30, 0x084, 16, 8, .ro, 0x0, 0, 1, 1, 4⟩
def FCT_GIRDLE_TOT.STREAM : Fld := ⟨0x30, 0x084, 8, 8, .ro, 0x0, 0, 1, 1, 4⟩
def FCT_GIRDLE_TOT.CONTROL : Fld := ⟨0x30, 0x084, 0, 8, .ro, 0x0, 0, 1, 1, 4⟩
def FCT_STORE_ARB.REFILL_FORCED : Fld := ⟨0x30, 0x088, 16, 16, .ro, 0x0, 0, 1, 1, 4⟩
def FCT_STORE_ARB.ENG_WAIT_MAX : Fld := ⟨0x30, 0x088, 0, 8, .ro, 0x0, 0, 1, 1, 4⟩

/-! ### SEG registers (R251) -/

def SEG_DIR_IDX.INDEX : Fld := ⟨0x31, 0x040, 0, 13, .rw, 0x0, 0, 1, 1, 4⟩
def SEG_DIR_W0.W : Fld := ⟨0x31, 0x044, 0, 32, .rw, 0x0, 0, 1, 1, 4⟩
def SEG_DIR_W1.W : Fld := ⟨0x31, 0x048, 0, 32, .rw, 0x0, 0, 1, 1, 4⟩
def SEG_DIR_W2.W : Fld := ⟨0x31, 0x04C, 0, 32, .rw, 0x0, 0, 1, 1, 4⟩
def SEG_DIR_CMD.CMD : Fld := ⟨0x31, 0x050, 0, 3, .wo, 0x0, 0, 1, 1, 4⟩
def SEG_DIR_STAT.BUSY : Fld := ⟨0x31, 0x054, 31, 1, .ro, 0x0, 0, 1, 1, 4⟩
def SEG_DIR_STAT.RESULT : Fld := ⟨0x31, 0x054, 0, 4, .ro, 0x0, 0, 1, 1, 4⟩
def SEG_DIR_CRC.CRC : Fld := ⟨0x31, 0x058, 0, 32, .ro, 0x0, 0, 1, 1, 4⟩
def SEG_ECC_CNT.UNCORR : Fld := ⟨0x31, 0x05C, 16, 16, .ro, 0x0, 0, 1, 1, 4⟩
def SEG_ECC_CNT.CORR : Fld := ⟨0x31, 0x05C, 0, 16, .ro, 0x0, 0, 1, 1, 4⟩
def SEG_ECC_ADDR.VALID : Fld := ⟨0x31, 0x060, 31, 1, .ro, 0x0, 0, 1, 1, 4⟩
def SEG_ECC_ADDR.UNC : Fld := ⟨0x31, 0x060, 30, 1, .ro, 0x0, 0, 1, 1, 4⟩
def SEG_ECC_ADDR.LINE : Fld := ⟨0x31, 0x060, 0, 18, .ro, 0x0, 0, 1, 1, 4⟩
def SEG_SCRUB.EN : Fld := ⟨0x31, 0x064, 31, 1, .rw, 0x1, 0, 1, 1, 4⟩
def SEG_SCRUB.GAP : Fld := ⟨0x31, 0x064, 0, 16, .rw, 0x100, 0, 1, 1, 4⟩
def SEG_SCRUB_STAT.PASSES : Fld := ⟨0x31, 0x068, 0, 16, .ro, 0x0, 0, 1, 1, 4⟩
def SEG_CLR.CLR : Fld := ⟨0x31, 0x06C, 0, 1, .wo, 0x0, 0, 1, 1, 4⟩
def SEG_STARVE.BRIDGE_EN : Fld := ⟨0x31, 0x080, 31, 1, .rw, 0x0, 0, 1, 16, 4⟩
def SEG_STARVE.BRIDGE_SEG : Fld := ⟨0x31, 0x080, 16, 13, .rw, 0x0, 0, 1, 16, 4⟩
def SEG_STARVE.RESUME_MODE : Fld := ⟨0x31, 0x080, 2, 1, .rw, 0x0, 0, 1, 16, 4⟩
def SEG_STARVE.POLICY : Fld := ⟨0x31, 0x080, 0, 2, .rw, 0x0, 0, 1, 16, 4⟩
def SEG_SKIPPED.SKIPPED : Fld := ⟨0x31, 0x0C0, 0, 32, .ro, 0x0, 0, 1, 16, 4⟩
def SEG_SHIFT.SHIFT : Fld := ⟨0x31, 0x100, 0, 32, .ro, 0x0, 0, 1, 16, 4⟩
def WIN_CFG.EN : Fld := ⟨0x31, 0x200, 31, 1, .rw, 0x0, 0, 1, 32, 32⟩
def WIN_CFG.OWNER : Fld := ⟨0x31, 0x200, 24, 4, .rw, 0x0, 0, 1, 32, 32⟩
def WIN_CFG.BASE : Fld := ⟨0x31, 0x200, 0, 17, .rw, 0x0, 0, 1, 32, 32⟩
def WIN_SIZE.SIZE : Fld := ⟨0x31, 0x204, 0, 16, .rw, 0x20, 0, 1, 32, 32⟩
def WIN_MARKS.HIGH_MARK : Fld := ⟨0x31, 0x208, 16, 16, .rw, 0x10, 0, 1, 32, 32⟩
def WIN_MARKS.LOW_MARK : Fld := ⟨0x31, 0x208, 0, 16, .rw, 0x8, 0, 1, 32, 32⟩
def WIN_RESUME.WARN : Fld := ⟨0x31, 0x20C, 16, 16, .rw, 0x0, 0, 1, 32, 32⟩
def WIN_RESUME.RESUME_MARK : Fld := ⟨0x31, 0x20C, 0, 16, .rw, 0x8, 0, 1, 32, 32⟩
def WIN_WP.WP : Fld := ⟨0x31, 0x210, 0, 32, .ro, 0x0, 0, 1, 32, 32⟩
def WIN_POS.POS : Fld := ⟨0x31, 0x214, 0, 32, .ro, 0x0, 0, 1, 32, 32⟩
def WIN_STAT.INIT : Fld := ⟨0x31, 0x218, 31, 1, .ro, 0x0, 0, 1, 32, 32⟩
def WIN_STAT.REQ : Fld := ⟨0x31, 0x218, 30, 1, .ro, 0x0, 0, 1, 32, 32⟩
def WIN_STAT.PINNED : Fld := ⟨0x31, 0x218, 29, 1, .ro, 0x0, 0, 1, 32, 32⟩
def WIN_STAT.STARVING : Fld := ⟨0x31, 0x218, 28, 1, .ro, 0x0, 0, 1, 32, 32⟩
def WIN_STAT.FILL : Fld := ⟨0x31, 0x218, 0, 16, .ro, 0x0, 0, 1, 32, 32⟩
def WIN_CNT.STARVE_COUNT : Fld := ⟨0x31, 0x21C, 16, 16, .ro, 0x0, 0, 1, 32, 32⟩
def WIN_CNT.STALE_COUNT : Fld := ⟨0x31, 0x21C, 0, 16, .ro, 0x0, 0, 1, 32, 32⟩

/-! ### ENG registers (R148) -/

def ENG_CFG.PERIOD : Fld := ⟨0x32, 0x040, 12, 20, .rws, 0xFA, 0, 1, 1, 4⟩
def ENG_CFG.MARK_LANE : Fld := ⟨0x32, 0x040, 4, 3, .rws, 0x0, 0, 1, 1, 4⟩
def ENG_CFG.LANE_LOSS : Fld := ⟨0x32, 0x040, 3, 1, .rws, 0x0, 0, 1, 1, 4⟩
def ENG_CFG.MODE : Fld := ⟨0x32, 0x040, 2, 1, .rws, 0x0, 0, 1, 1, 4⟩
def ENG_CFG.LCLASS : Fld := ⟨0x32, 0x040, 1, 1, .rws, 0x0, 0, 1, 1, 4⟩
def ENG_CFG.KIND : Fld := ⟨0x32, 0x040, 0, 1, .rws, 0x0, 0, 1, 1, 4⟩
def ENG_WIN.SIZE_M1 : Fld := ⟨0x32, 0x044, 16, 16, .rws, 0xFFF, 0, 1, 1, 4⟩
def ENG_WIN.BASE : Fld := ⟨0x32, 0x044, 0, 16, .rws, 0x0, 4096, 16, 1, 4⟩
def ENG_START.SRC : Fld := ⟨0x32, 0x048, 16, 2, .rws, 0x0, 0, 1, 1, 4⟩
def ENG_START.ENTRY : Fld := ⟨0x32, 0x048, 0, 16, .rws, 0x0, 0, 1, 1, 4⟩
def ENG_START_AT_LO.START_AT : Fld := ⟨0x32, 0x04C, 0, 32, .rws, 0x0, 0, 1, 1, 4⟩
def ENG_START_AT_HI.START_AT : Fld := ⟨0x32, 0x050, 0, 32, .rws, 0x0, 0, 1, 1, 4⟩
def ENG_CTRL.GATE : Fld := ⟨0x32, 0x054, 8, 1, .wo, 0x0, 0, 1, 1, 4⟩
def ENG_CTRL.STOP_MODE : Fld := ⟨0x32, 0x054, 6, 2, .wo, 0x0, 0, 1, 1, 4⟩
def ENG_CTRL.STOP : Fld := ⟨0x32, 0x054, 5, 1, .wo, 0x0, 0, 1, 1, 4⟩
def ENG_CTRL.PARK : Fld := ⟨0x32, 0x054, 4, 1, .wo, 0x0, 0, 1, 1, 4⟩
def ENG_CTRL.START : Fld := ⟨0x32, 0x054, 3, 1, .wo, 0x0, 0, 1, 1, 4⟩
def ENG_CTRL.ARM : Fld := ⟨0x32, 0x054, 2, 1, .wo, 0x0, 0, 1, 1, 4⟩
def ENG_CTRL.VERIFY : Fld := ⟨0x32, 0x054, 0, 1, .wo, 0x0, 0, 1, 1, 4⟩
def ENG_STAT.CAUSE : Fld := ⟨0x32, 0x058, 20, 4, .ro, 0x0, 0, 1, 1, 4⟩
def ENG_STAT.LOPEN : Fld := ⟨0x32, 0x058, 16, 4, .ro, 0x0, 0, 1, 1, 4⟩
def ENG_STAT.GATE_WAIT : Fld := ⟨0x32, 0x058, 7, 1, .ro, 0x0, 0, 1, 1, 4⟩
def ENG_STAT.PROG_OK : Fld := ⟨0x32, 0x058, 6, 1, .ro, 0x0, 0, 1, 1, 4⟩
def ENG_STAT.MODE : Fld := ⟨0x32, 0x058, 5, 1, .ro, 0x0, 0, 1, 1, 4⟩
def ENG_STAT.STATE : Fld := ⟨0x32, 0x058, 0, 3, .ro, 0x0, 0, 1, 1, 4⟩
def ENG_POS.STEP : Fld := ⟨0x32, 0x05C, 0, 16, .ro, 0x0, 0, 1, 1, 4⟩
def ENG_ITER.ITER : Fld := ⟨0x32, 0x060, 0, 24, .ro, 0x0, 0, 1, 1, 4⟩
def ENG_LCNT.LCNT : Fld := ⟨0x32, 0x064, 0, 32, .ro, 0x0, 0, 1, 4, 4⟩
def ENG_VERIFY.BUSY : Fld := ⟨0x32, 0x074, 31, 1, .ro, 0x0, 0, 1, 1, 4⟩
def ENG_VERIFY.REASON : Fld := ⟨0x32, 0x074, 16, 8, .ro, 0x0, 0, 1, 1, 4⟩
def ENG_VERIFY.FIRST_BAD : Fld := ⟨0x32, 0x074, 0, 16, .ro, 0x0, 0, 1, 1, 4⟩
def ENG_FAULT.CODE : Fld := ⟨0x32, 0x078, 16, 8, .ro, 0x0, 0, 1, 1, 4⟩
def ENG_FAULT.STEP : Fld := ⟨0x32, 0x078, 0, 16, .ro, 0x0, 0, 1, 1, 4⟩
def ENG_DROP.DROPPED : Fld := ⟨0x32, 0x07C, 0, 32, .ro, 0x0, 0, 1, 1, 4⟩
def ENG_LREG.COUNT : Fld := ⟨0x32, 0x080, 0, 32, .rws, 0x1, 0, 1, 16, 4⟩
def ENG_RUN_LO.RUN : Fld := ⟨0x32, 0x0C0, 0, 32, .ro, 0x0, 0, 1, 1, 4⟩
def ENG_RUN_HI.RUN : Fld := ⟨0x32, 0x0C4, 0, 32, .ro, 0x0, 0, 1, 1, 4⟩
def ENG_MARK_LO.SLOT1 : Fld := ⟨0x32, 0x0C8, 16, 16, .rws, 0x0, 0, 1, 1, 4⟩
def ENG_MARK_LO.SLOT0 : Fld := ⟨0x32, 0x0C8, 0, 16, .rws, 0x0, 0, 1, 1, 4⟩
def ENG_MARK_HI.SLOT3 : Fld := ⟨0x32, 0x0CC, 16, 16, .rws, 0x0, 0, 1, 1, 4⟩
def ENG_MARK_HI.SLOT2 : Fld := ⟨0x32, 0x0CC, 0, 16, .rws, 0x0, 0, 1, 1, 4⟩
def ENG_EVT.MARK_EN : Fld := ⟨0x32, 0x0D0, 10, 1, .rw, 0x0, 0, 1, 1, 4⟩
def ENG_EVT.MARK_BIT : Fld := ⟨0x32, 0x0D0, 8, 2, .rw, 0x0, 0, 1, 1, 4⟩
def ENG_EVT.LOOP_MASK : Fld := ⟨0x32, 0x0D0, 4, 4, .rw, 0x0, 0, 1, 1, 4⟩
def ENG_EVT.STEP_EN : Fld := ⟨0x32, 0x0D0, 0, 1, .rw, 0x0, 0, 1, 1, 4⟩
def ENG_GATE_CNT.COINC : Fld := ⟨0x32, 0x0D4, 16, 16, .ro, 0x0, 0, 1, 1, 4⟩
def ENG_GATE_CNT.IGNORED : Fld := ⟨0x32, 0x0D4, 0, 16, .ro, 0x0, 0, 1, 1, 4⟩
def ENG_BIN_CFG.CMP_KIND : Fld := ⟨0x32, 0x100, 17, 1, .rws, 0x0, 0, 1, 4, 4⟩
def ENG_BIN_CFG.CMP_EN : Fld := ⟨0x32, 0x100, 16, 1, .rws, 0x0, 0, 1, 4, 4⟩
def ENG_BIN_CFG.LANE_MASK : Fld := ⟨0x32, 0x100, 8, 8, .rws, 0x0, 0, 1, 4, 4⟩
def ENG_BIN_CFG.FIRE_EN : Fld := ⟨0x32, 0x100, 0, 1, .rws, 0x1, 0, 1, 4, 4⟩
def ENG_BIN_STAT.UNC : Fld := ⟨0x32, 0x110, 8, 4, .ro, 0x0, 0, 1, 1, 4⟩
def ENG_BIN_STAT.DUE : Fld := ⟨0x32, 0x110, 4, 4, .ro, 0x0, 0, 1, 1, 4⟩
def ENG_BIN_STAT.PEND : Fld := ⟨0x32, 0x110, 0, 4, .ro, 0x0, 0, 1, 1, 4⟩
def ENG_BIN_DUE_LO.DUE : Fld := ⟨0x32, 0x120, 0, 32, .ro, 0x0, 0, 1, 4, 8⟩
def ENG_BIN_DUE_HI.DUE : Fld := ⟨0x32, 0x124, 0, 32, .ro, 0x0, 0, 1, 4, 8⟩
def ENG_BIN_CNT.COINC : Fld := ⟨0x32, 0x140, 16, 16, .ro, 0x0, 0, 1, 4, 4⟩
def ENG_BIN_CNT.TAKEN : Fld := ⟨0x32, 0x140, 0, 16, .ro, 0x0, 0, 1, 4, 4⟩
def ENG_BIN_LOSS.ECLIPSED : Fld := ⟨0x32, 0x150, 16, 16, .ro, 0x0, 0, 1, 4, 4⟩
def ENG_BIN_LOSS.EXPIRED : Fld := ⟨0x32, 0x150, 0, 16, .ro, 0x0, 0, 1, 4, 4⟩
def ENG_BR_LAST.VALID : Fld := ⟨0x32, 0x160, 31, 1, .ro, 0x0, 0, 1, 1, 4⟩
def ENG_BR_LAST.REDIR : Fld := ⟨0x32, 0x160, 30, 1, .ro, 0x0, 0, 1, 1, 4⟩
def ENG_BR_LAST.MODE : Fld := ⟨0x32, 0x160, 28, 2, .ro, 0x0, 0, 1, 1, 4⟩
def ENG_BR_LAST.INPUT : Fld := ⟨0x32, 0x160, 26, 2, .ro, 0x0, 0, 1, 1, 4⟩
def ENG_BR_LAST.ENTRY : Fld := ⟨0x32, 0x160, 24, 2, .ro, 0x0, 0, 1, 1, 4⟩
def ENG_BR_LAST.TARGET : Fld := ⟨0x32, 0x160, 0, 16, .ro, 0x0, 0, 1, 1, 4⟩
def ENG_BR_TICK_LO.TICK : Fld := ⟨0x32, 0x164, 0, 32, .ro, 0x0, 0, 1, 1, 4⟩
def ENG_BR_TICK_HI.TICK : Fld := ⟨0x32, 0x168, 0, 32, .ro, 0x0, 0, 1, 1, 4⟩
def ENG_BR_STAGE.RESTAGE : Fld := ⟨0x32, 0x16C, 8, 1, .ro, 0x0, 0, 1, 1, 4⟩
def ENG_BR_STAGE.SUCC_RDY : Fld := ⟨0x32, 0x16C, 4, 1, .ro, 0x0, 0, 1, 1, 4⟩
def ENG_BR_STAGE.SLOT_RDY : Fld := ⟨0x32, 0x16C, 0, 4, .ro, 0x0, 0, 1, 1, 4⟩
def ENG_REDIR.GO : Fld := ⟨0x32, 0x170, 31, 1, .wo, 0x0, 0, 1, 1, 4⟩
def ENG_REDIR.CANCEL : Fld := ⟨0x32, 0x170, 30, 1, .wo, 0x0, 0, 1, 1, 4⟩
def ENG_REDIR.MODE : Fld := ⟨0x32, 0x170, 16, 2, .rw, 0x0, 0, 1, 1, 4⟩
def ENG_REDIR.TARGET : Fld := ⟨0x32, 0x170, 0, 16, .rw, 0x0, 0, 1, 1, 4⟩
def ENG_REDIR_STAT.STAGED : Fld := ⟨0x32, 0x174, 1, 1, .ro, 0x0, 0, 1, 1, 4⟩
def ENG_REDIR_STAT.PENDING : Fld := ⟨0x32, 0x174, 0, 1, .ro, 0x0, 0, 1, 1, 4⟩
def ENG_REDIR_AT_LO.AT : Fld := ⟨0x32, 0x178, 0, 32, .ro, 0x0, 0, 1, 1, 4⟩
def ENG_REDIR_AT_HI.AT : Fld := ⟨0x32, 0x17C, 0, 32, .ro, 0x0, 0, 1, 1, 4⟩
def ENG_BR_CTRL.CLR : Fld := ⟨0x32, 0x180, 0, 1, .wo, 0x0, 0, 1, 1, 4⟩

/-! ### APG registers (R306) -/

def APG_CFG.REQ_BANK : Fld := ⟨0x33, 0x040, 16, 1, .rws, 0x0, 0, 1, 1, 4⟩
def APG_CFG.EN : Fld := ⟨0x33, 0x040, 4, 1, .rws, 0x0, 0, 1, 1, 4⟩
def APG_CFG.OWNER : Fld := ⟨0x33, 0x040, 0, 4, .rws, 0x0, 0, 1, 1, 4⟩
def APG_STAT.ELEM : Fld := ⟨0x33, 0x044, 16, 7, .ro, 0x0, 0, 1, 1, 4⟩
def APG_STAT.PROG : Fld := ⟨0x33, 0x044, 12, 4, .ro, 0x0, 0, 1, 1, 4⟩
def APG_STAT.ADV_PEND : Fld := ⟨0x33, 0x044, 11, 1, .ro, 0x0, 0, 1, 1, 4⟩
def APG_STAT.STATE : Fld := ⟨0x33, 0x044, 0, 3, .ro, 0x0, 0, 1, 1, 4⟩
def APG_BANK.BANK_STATE : Fld := ⟨0x33, 0x048, 16, 2, .ro, 0x0, 0, 1, 1, 4⟩
def APG_BANK.CHECK_OK : Fld := ⟨0x33, 0x048, 9, 1, .ro, 0x0, 0, 1, 1, 4⟩
def APG_BANK.BUILD_DONE : Fld := ⟨0x33, 0x048, 8, 1, .ro, 0x0, 0, 1, 1, 4⟩
def APG_BANK.REOPEN : Fld := ⟨0x33, 0x048, 2, 1, .wo, 0x0, 0, 1, 1, 4⟩
def APG_BANK.CLOSE : Fld := ⟨0x33, 0x048, 1, 1, .wo, 0x0, 0, 1, 1, 4⟩
def APG_BANK.ACTIVE_BANK : Fld := ⟨0x33, 0x048, 0, 1, .ro, 0x0, 0, 1, 1, 4⟩
def APG_BANK_CHECK.CHECK : Fld := ⟨0x33, 0x04C, 0, 32, .rw, 0x0, 0, 1, 1, 4⟩
def APG_ADV_CNT.COINC : Fld := ⟨0x33, 0x050, 16, 16, .ro, 0x0, 0, 1, 1, 4⟩
def APG_ADV_CNT.TAKEN : Fld := ⟨0x33, 0x050, 0, 16, .ro, 0x0, 0, 1, 1, 4⟩
def APG_POS.Y : Fld := ⟨0x33, 0x054, 16, 16, .ro, 0x0, 0, 1, 1, 4⟩
def APG_POS.X : Fld := ⟨0x33, 0x054, 0, 16, .ro, 0x0, 0, 1, 1, 4⟩
def APG_IDX.TAB : Fld := ⟨0x33, 0x058, 16, 1, .rw, 0x0, 0, 1, 1, 4⟩
def APG_IDX.INDEX : Fld := ⟨0x33, 0x058, 0, 7, .rw, 0x0, 0, 1, 1, 4⟩
def APG_DATA0.D : Fld := ⟨0x33, 0x05C, 0, 32, .rw, 0x0, 0, 1, 1, 4⟩
def APG_DATA1.D : Fld := ⟨0x33, 0x060, 0, 32, .rw, 0x0, 0, 1, 1, 4⟩
def PH_CTL.VALID : Fld := ⟨0x33, 0x080, 31, 1, .rw, 0x0, 0, 1, 16, 16⟩
def PH_CTL.WRAP : Fld := ⟨0x33, 0x080, 30, 1, .rw, 0x0, 0, 1, 16, 16⟩
def PH_CTL.FIRST : Fld := ⟨0x33, 0x080, 16, 7, .rw, 0x0, 0, 1, 16, 16⟩
def PH_CTL.COUNT_M1 : Fld := ⟨0x33, 0x080, 0, 6, .rw, 0x0, 0, 1, 16, 16⟩
def PH_DATA.BASE : Fld := ⟨0x33, 0x084, 16, 16, .rw, 0x0, 0, 1, 16, 16⟩
def PH_DATA.ASCR_EN : Fld := ⟨0x33, 0x084, 9, 1, .rw, 0x0, 0, 1, 16, 16⟩
def PH_DATA.DSCR_EN : Fld := ⟨0x33, 0x084, 8, 1, .rw, 0x0, 0, 1, 16, 16⟩
def PH_DATA.PINV : Fld := ⟨0x33, 0x084, 4, 3, .rw, 0x0, 0, 1, 16, 16⟩
def PH_DATA.BG : Fld := ⟨0x33, 0x084, 0, 3, .rw, 0x0, 0, 1, 16, 16⟩
def SH_ORG.Y0 : Fld := ⟨0x33, 0x180, 16, 16, .rw, 0x0, 0, 1, 4, 32⟩
def SH_ORG.X0 : Fld := ⟨0x33, 0x180, 0, 16, .rw, 0x0, 0, 1, 4, 32⟩
def SH_BITS.YBITS : Fld := ⟨0x33, 0x184, 8, 5, .rw, 0x1, 0, 1, 4, 32⟩
def SH_BITS.XBITS : Fld := ⟨0x33, 0x184, 0, 5, .rw, 0x1, 0, 1, 4, 32⟩
def SH_CNT12.CNT2_M1 : Fld := ⟨0x33, 0x188, 16, 16, .rw, 0x0, 0, 1, 4, 32⟩
def SH_CNT12.CNT1_M1 : Fld := ⟨0x33, 0x188, 0, 16, .rw, 0x0, 0, 1, 4, 32⟩
def SH_CNT3.CNT3_M1 : Fld := ⟨0x33, 0x18C, 0, 16, .rw, 0x0, 0, 1, 4, 32⟩
def SH_STEP1.YSTEP : Fld := ⟨0x33, 0x190, 16, 16, .rw, 0x0, 0, 1, 4, 32⟩
def SH_STEP1.XSTEP : Fld := ⟨0x33, 0x190, 0, 16, .rw, 0x0, 0, 1, 4, 32⟩
def SH_STEP2.YSTEP : Fld := ⟨0x33, 0x194, 16, 16, .rw, 0x0, 0, 1, 4, 32⟩
def SH_STEP2.XSTEP : Fld := ⟨0x33, 0x194, 0, 16, .rw, 0x0, 0, 1, 4, 32⟩
def SH_STEP3.YSTEP : Fld := ⟨0x33, 0x198, 16, 16, .rw, 0x0, 0, 1, 4, 32⟩
def SH_STEP3.XSTEP : Fld := ⟨0x33, 0x198, 0, 16, .rw, 0x0, 0, 1, 4, 32⟩

/-! ### LANE registers (R333) -/

def LANE_CFG.VER_MASK : Fld := ⟨0x34, 0x040, 24, 3, .rws, 0x7, 0, 1, 1, 4⟩
def LANE_CFG.ATTACH : Fld := ⟨0x34, 0x040, 16, 1, .rws, 0x0, 0, 1, 1, 4⟩
def LANE_CFG.RX_POL : Fld := ⟨0x34, 0x040, 13, 1, .rws, 0x0, 0, 1, 1, 4⟩
def LANE_CFG.TX_POL : Fld := ⟨0x34, 0x040, 12, 1, .rws, 0x0, 0, 1, 1, 4⟩
def LANE_CFG.TX_DESKEW : Fld := ⟨0x34, 0x040, 0, 12, .rws, 0x0, 0, 1, 1, 4⟩
def LANE_CTRL.EQ_FREEZE : Fld := ⟨0x34, 0x044, 5, 1, .rw, 0x0, 0, 1, 1, 4⟩
def LANE_CTRL.ADMIT : Fld := ⟨0x34, 0x044, 4, 1, .wo, 0x0, 0, 1, 1, 4⟩
def LANE_CTRL.RETRAIN : Fld := ⟨0x34, 0x044, 3, 1, .wo, 0x0, 0, 1, 1, 4⟩
def LANE_CTRL.RESEARCH : Fld := ⟨0x34, 0x044, 2, 1, .wo, 0x0, 0, 1, 1, 4⟩
def LANE_CTRL.CLR : Fld := ⟨0x34, 0x044, 1, 1, .wo, 0x0, 0, 1, 1, 4⟩
def LANE_CTRL.EN : Fld := ⟨0x34, 0x044, 0, 1, .rw, 0x0, 0, 1, 1, 4⟩
def LANE_STAT.CAUSE : Fld := ⟨0x34, 0x048, 24, 4, .ro, 0x0, 0, 1, 1, 4⟩
def LANE_STAT.VER : Fld := ⟨0x34, 0x048, 18, 2, .ro, 0x0, 0, 1, 1, 4⟩
def LANE_STAT.EQ_VALID : Fld := ⟨0x34, 0x048, 17, 1, .ro, 0x0, 0, 1, 1, 4⟩
def LANE_STAT.ADMIT_WAIT : Fld := ⟨0x34, 0x048, 16, 1, .ro, 0x0, 0, 1, 1, 4⟩
def LANE_STAT.BLOCK_LOCK : Fld := ⟨0x34, 0x048, 10, 1, .ro, 0x0, 0, 1, 1, 4⟩
def LANE_STAT.SIG_DET : Fld := ⟨0x34, 0x048, 9, 1, .ro, 0x0, 0, 1, 1, 4⟩
def LANE_STAT.RX_TERM : Fld := ⟨0x34, 0x048, 8, 1, .ro, 0x0, 0, 1, 1, 4⟩
def LANE_STAT.STATE : Fld := ⟨0x34, 0x048, 0, 3, .ro, 0x0, 0, 1, 1, 4⟩
def LANE_RTT.RTT : Fld := ⟨0x34, 0x04C, 0, 32, .ro, 0x0, 0, 1, 1, 4⟩
def LANE_TURN.TURN : Fld := ⟨0x34, 0x050, 0, 32, .ro, 0x0, 0, 1, 1, 4⟩
def LANE_EQ_TX.CPOST : Fld := ⟨0x34, 0x054, 16, 5, .ro, 0x0, 0, 1, 1, 4⟩
def LANE_EQ_TX.CMAIN : Fld := ⟨0x34, 0x054, 8, 6, .ro, 0x0, 0, 1, 1, 4⟩
def LANE_EQ_TX.CPRE : Fld := ⟨0x34, 0x054, 0, 3, .ro, 0x0, 0, 1, 1, 4⟩
def LANE_EQ_RX.CTLE : Fld := ⟨0x34, 0x058, 24, 4, .ro, 0x0, 0, 1, 1, 4⟩
def LANE_EQ_RX.DFE1 : Fld := ⟨0x34, 0x058, 0, 8, .ro, 0x0, 0, 1, 1, 4⟩
def LANE_DFE_A.DFE5 : Fld := ⟨0x34, 0x05C, 24, 8, .ro, 0x0, 0, 1, 1, 4⟩
def LANE_DFE_A.DFE4 : Fld := ⟨0x34, 0x05C, 16, 8, .ro, 0x0, 0, 1, 1, 4⟩
def LANE_DFE_A.DFE3 : Fld := ⟨0x34, 0x05C, 8, 8, .ro, 0x0, 0, 1, 1, 4⟩
def LANE_DFE_A.DFE2 : Fld := ⟨0x34, 0x05C, 0, 8, .ro, 0x0, 0, 1, 1, 4⟩
def LANE_DFE_B.DFE8 : Fld := ⟨0x34, 0x060, 16, 8, .ro, 0x0, 0, 1, 1, 4⟩
def LANE_DFE_B.DFE7 : Fld := ⟨0x34, 0x060, 8, 8, .ro, 0x0, 0, 1, 1, 4⟩
def LANE_DFE_B.DFE6 : Fld := ⟨0x34, 0x060, 0, 8, .ro, 0x0, 0, 1, 1, 4⟩
def LANE_EYE.HEIGHT : Fld := ⟨0x34, 0x064, 16, 10, .ro, 0x0, 0, 1, 1, 4⟩
def LANE_EYE.WIDTH : Fld := ⟨0x34, 0x064, 0, 8, .ro, 0x0, 0, 1, 1, 4⟩
def LANE_EYE_MIN.H_MIN : Fld := ⟨0x34, 0x068, 16, 10, .rw, 0x28, 0, 1, 1, 4⟩
def LANE_EYE_MIN.W_MIN : Fld := ⟨0x34, 0x068, 0, 8, .rw, 0x14, 0, 1, 1, 4⟩
def LANE_ERR.HDR_ERR : Fld := ⟨0x34, 0x06C, 16, 16, .ro, 0x0, 0, 1, 1, 4⟩
def LANE_ERR.LOCK_LOSS : Fld := ⟨0x34, 0x06C, 0, 16, .ro, 0x0, 0, 1, 1, 4⟩
def LANE_ERR_LIM.LIMIT : Fld := ⟨0x34, 0x070, 0, 16, .rw, 0x10, 0, 1, 1, 4⟩
def LANE_CNT.SVC : Fld := ⟨0x34, 0x074, 16, 16, .ro, 0x0, 0, 1, 1, 4⟩
def LANE_CNT.RETRAINS : Fld := ⟨0x34, 0x074, 0, 16, .ro, 0x0, 0, 1, 1, 4⟩
def LANE_PARTNER_ID_LO.ID : Fld := ⟨0x34, 0x078, 0, 32, .ro, 0x0, 0, 1, 1, 4⟩
def LANE_PARTNER_ID_HI.ID : Fld := ⟨0x34, 0x07C, 0, 32, .ro, 0x0, 0, 1, 1, 4⟩
def LANE_PARTNER_CAP.CAP : Fld := ⟨0x34, 0x080, 0, 32, .ro, 0x0, 0, 1, 1, 4⟩
def LANE_HOLD.WORD : Fld := ⟨0x34, 0x084, 0, 32, .rws, 0x0, 0, 1, 1, 4⟩
def LANE_SVC_AT_LO.TICK : Fld := ⟨0x34, 0x088, 0, 32, .ro, 0x0, 0, 1, 1, 4⟩
def LANE_SVC_AT_HI.TICK : Fld := ⟨0x34, 0x08C, 0, 32, .ro, 0x0, 0, 1, 1, 4⟩
def LANE_RXDET.PERIOD : Fld := ⟨0x34, 0x090, 0, 16, .rw, 0x64, 0, 1, 1, 4⟩
def LANE_SRC.B_EN : Fld := ⟨0x34, 0x200, 31, 1, .rws, 0x0, 0, 1, 1, 4⟩
def LANE_SRC.ENG_B : Fld := ⟨0x34, 0x200, 24, 4, .rws, 0x0, 0, 1, 1, 4⟩
def LANE_SRC.A_EN : Fld := ⟨0x34, 0x200, 15, 1, .rws, 0x0, 0, 1, 1, 4⟩
def LANE_SRC.ENG_A : Fld := ⟨0x34, 0x200, 8, 4, .rws, 0x0, 0, 1, 1, 4⟩
def LANE_COMP_CTL.REQ_BANK : Fld := ⟨0x34, 0x204, 16, 1, .rws, 0x0, 0, 1, 1, 4⟩
def LANE_COMP_CTL.CHECK_OK : Fld := ⟨0x34, 0x204, 9, 1, .ro, 0x0, 0, 1, 1, 4⟩
def LANE_COMP_CTL.BUILD_DONE : Fld := ⟨0x34, 0x204, 8, 1, .ro, 0x0, 0, 1, 1, 4⟩
def LANE_COMP_CTL.BANK_STATE : Fld := ⟨0x34, 0x204, 4, 2, .ro, 0x0, 0, 1, 1, 4⟩
def LANE_COMP_CTL.REOPEN : Fld := ⟨0x34, 0x204, 2, 1, .wo, 0x0, 0, 1, 1, 4⟩
def LANE_COMP_CTL.CLOSE : Fld := ⟨0x34, 0x204, 1, 1, .wo, 0x0, 0, 1, 1, 4⟩
def LANE_COMP_CTL.ACTIVE_BANK : Fld := ⟨0x34, 0x204, 0, 1, .ro, 0x0, 0, 1, 1, 4⟩
def LANE_COMP_CHECK.CHECK : Fld := ⟨0x34, 0x208, 0, 32, .rw, 0x0, 0, 1, 1, 4⟩
def LANE_COMP_CNT.DEFER_COUNT : Fld := ⟨0x34, 0x20C, 16, 16, .ro, 0x0, 0, 1, 1, 4⟩
def LANE_COMP_CNT.SWAP_COUNT : Fld := ⟨0x34, 0x20C, 0, 16, .ro, 0x0, 0, 1, 1, 4⟩

/-! ### CMP registers (R357) -/

def CMP_RING_STAT.LOST : Fld := ⟨0x35, 0x040, 16, 16, .ro, 0x0, 0, 1, 1, 4⟩
def CMP_RING_STAT.FILL : Fld := ⟨0x35, 0x040, 0, 11, .ro, 0x0, 0, 1, 1, 4⟩
def CMP_RING_CFG.EN : Fld := ⟨0x35, 0x044, 31, 1, .rw, 0x0, 0, 1, 1, 4⟩
def CMP_RING_CFG.TYPES : Fld := ⟨0x35, 0x044, 0, 4, .rw, 0x0, 0, 1, 1, 4⟩
def CMP_CLR.CLR : Fld := ⟨0x35, 0x048, 0, 1, .wo, 0x0, 0, 1, 1, 4⟩
def CMP_SEQ.SEQ : Fld := ⟨0x35, 0x04C, 0, 32, .ro, 0x0, 0, 1, 1, 4⟩
def CMP_LCFG.EN : Fld := ⟨0x35, 0x100, 31, 1, .rw, 0x0, 0, 1, 8, 64⟩
def CMP_LCFG.WIN_EN : Fld := ⟨0x35, 0x100, 30, 1, .rw, 0x0, 0, 1, 8, 64⟩
def CMP_LCFG.EVT_KIND : Fld := ⟨0x35, 0x100, 28, 2, .rw, 0x0, 0, 1, 8, 64⟩
def CMP_WIN_OPEN_LO.TICK : Fld := ⟨0x35, 0x104, 0, 32, .rw, 0x0, 0, 1, 8, 64⟩
def CMP_WIN_OPEN_HI.TICK : Fld := ⟨0x35, 0x108, 0, 32, .rw, 0x0, 0, 1, 8, 64⟩
def CMP_WIN_CLOSE_LO.TICK : Fld := ⟨0x35, 0x10C, 0, 32, .rw, 0x0, 0, 1, 8, 64⟩
def CMP_WIN_CLOSE_HI.TICK : Fld := ⟨0x35, 0x110, 0, 32, .rw, 0x0, 0, 1, 8, 64⟩
def CMP_CAP_AT_LO.TICK : Fld := ⟨0x35, 0x114, 0, 32, .rw, 0x0, 0, 1, 8, 64⟩
def CMP_CAP_AT_HI.TICK : Fld := ⟨0x35, 0x118, 0, 32, .rw, 0x0, 0, 1, 8, 64⟩
def CMP_CAP_CTL.ARM : Fld := ⟨0x35, 0x11C, 31, 1, .wo, 0x0, 0, 1, 8, 64⟩
def CMP_CAP_CTL.ACTIVE : Fld := ⟨0x35, 0x11C, 30, 1, .ro, 0x0, 0, 1, 8, 64⟩
def CMP_CAP_CTL.SHORT : Fld := ⟨0x35, 0x11C, 29, 1, .w1c, 0x0, 0, 1, 8, 64⟩
def CMP_CAP_CTL.NGRAN : Fld := ⟨0x35, 0x11C, 0, 16, .rw, 0x1, 0, 1, 8, 64⟩
def CMP_CNT_FAIL.REC_FAIL : Fld := ⟨0x35, 0x120, 16, 16, .ro, 0x0, 0, 1, 8, 64⟩
def CMP_CNT_FAIL.SUM_FAIL : Fld := ⟨0x35, 0x120, 0, 16, .ro, 0x0, 0, 1, 8, 64⟩
def CMP_CNT_DISC.BAD_REC : Fld := ⟨0x35, 0x124, 24, 8, .ro, 0x0, 0, 1, 8, 64⟩
def CMP_CNT_DISC.STALE : Fld := ⟨0x35, 0x124, 16, 8, .ro, 0x0, 0, 1, 8, 64⟩
def CMP_CNT_DISC.UNQUAL : Fld := ⟨0x35, 0x124, 0, 16, .ro, 0x0, 0, 1, 8, 64⟩
def CMP_FIRST_LO.FIRST : Fld := ⟨0x35, 0x128, 0, 32, .ro, 0x0, 0, 1, 8, 64⟩
def CMP_FIRST_HI.FIRST : Fld := ⟨0x35, 0x12C, 0, 32, .ro, 0x0, 0, 1, 8, 64⟩
def CMP_PSTAT.DROPPED : Fld := ⟨0x35, 0x130, 16, 16, .ro, 0x0, 0, 1, 8, 64⟩
def CMP_PSTAT.TEMP : Fld := ⟨0x35, 0x130, 8, 8, .ro, 0x0, 0, 1, 8, 64⟩
def CMP_PSTAT.FLAGS : Fld := ⟨0x35, 0x130, 0, 8, .ro, 0x0, 0, 1, 8, 64⟩
def CMP_PERR.RX_HDR_ERR : Fld := ⟨0x35, 0x134, 16, 16, .ro, 0x0, 0, 1, 8, 64⟩

/-- The stored fields of block HDR (R50). -/
def fieldsHDR : List Fld :=
  [IRQ_STAT.BITS, IRQ_EN.BITS, IRQ_FORCE.BITS, COMMIT.BSEL, COMMIT.ARM, SHADOW_STAT.REJ_COUNT, SHADOW_STAT.FAILED, SHADOW_STAT.REJECT, LOCK.KEY, LOCK.OPEN, ERR_CODE.FIRST, ERR_CODE.LAST, ERR_COUNT.CLR, ERR_COUNT.COUNT]

/-- The stored fields of block DEV (R532). -/
def fieldsDEV : List Fld :=
  [DEV_ID.PART, DEV_ID.STEP, DEV_ID.GRADE, DEV_STATE.SAFE_COUNT, DEV_STATE.SAFE_CAUSE, DEV_STATE.PREV, DEV_STATE.STATE, DEV_CTRL.EXIT_SAFE, DEV_CTRL.ENTER_SAFE, DEV_STRAP.STRAPS, DEV_BOOT.RECORDS, DEV_BOOT.SLOT, DEV_BOOT.SIGNED, DEV_BOOT.RESULT, DEV_BOOT_ERR.CAUSE, DEV_BOOT_ERR.INDEX, DEV_READY_US.READY_US, DEV_THERM.TEMP_MAX, DEV_THERM.SAFE_C, DEV_THERM.WARN_C, DEV_EOI.VEC, DEV_INT_CTRL.INTN_EN, DEV_MSIX_MAP.EN, DEV_MSIX_MAP.VEC]

/-- The stored fields of block TB (R37). -/
def fieldsTB : List Fld :=
  [TB_STAT.UNC_COUNT, TB_STAT.SLEW, TB_STAT.HOLDOVER, TB_STAT.TB_RUN, TB_STAT.EPOCH_STATE, TB_CTRL.STAT_CLR, TB_CTRL.PPS_EDGE, TB_CTRL.PPS_EN, TB_CTRL.CONFIRM, H_LOCAL.H, H_STAT.MAX_AGE, H_STAT.LATE_COUNT, PPS_STAMP_LO.PPS_LO, PPS_STAMP_HI.PPS_HI, PPS_STAT.PPS_COUNT, PPS_STAT.OVERRUN, PPS_STAT.VALID, PPS_STAT.SUB, PPS_INTERVAL.INTERVAL]

/-- The stored fields of block TPLL (R92). -/
def fieldsTPLL : List Fld :=
  [TPLL_CTRL.TBOUT_SEL, TPLL_CTRL.HOLD_SRC, TPLL_CTRL.SWEEP, TPLL_CTRL.PHASE_SNAP, TPLL_CTRL.RESTART, TPLL_STAT.BAND, TPLL_STAT.SWEEP_BUSY, TPLL_STAT.FINE_MARGIN, TPLL_STAT.AUX_OK, TPLL_STAT.REF_OK, TPLL_STAT.STATE, TPLL_FCW_INT.FCW_INT, TPLL_FCW_NUM.FCW_NUM, TPLL_FCW_DEN.FCW_DEN, TPLL_SLEW.SLEW_MAX, TPLL_QUAL.QUAL_MS, TPLL_PHASE.RESIDUAL, TPLL_JUMP.JUMP, TPLL_FOFS.FOFS, TPLL_TC_T0.T0, TPLL_TC_C1.C1, TPLL_TC_C2.C2, TPLL_BAND_CTL.REQ_BANK, TPLL_BAND_CTL.CHECK_OK] ++
  [TPLL_BAND_CTL.BUILD_DONE, TPLL_BAND_CTL.CLOSE, TPLL_BAND_CTL.ACTIVE_BANK, TPLL_BAND_CHECK.CHECK, TPLL_SWEEP_RES.VALID, TPLL_SWEEP_RES.FMID]

/-- The stored fields of block PWR (R534). -/
def fieldsPWR : List Fld :=
  [PWR_REQ.GO, PWR_REQ.FORCE, PWR_REQ.TARGET, PWR_REQ.DOM, PWR_STAT.BUSY, PWR_STAT.DOM, PWR_STAT.RESULT, PWR_CNT.DEFER_COUNT, PWR_CNT.FORCED_COUNT]

/-- The stored fields of block CAL (R457). -/
def fieldsCAL : List Fld :=
  [CAL_CTRL.CMD, CAL_RUN.ITEM, CAL_RUN.SUB, CAL_RUN.APPLY, CAL_RUN.UNIT, CAL_STAT.BUSY, CAL_STAT.STORING, CAL_STAT.PARTIAL, CAL_STAT.FLASH_OK, CAL_STAT.CAL_STATE, CAL_STAT.IMAGE_PEND, CAL_STAT.STORE_RES, CAL_STAT.RUN_RES, CAL_RES1.RES1, CAL_RES2.RES2, CAL_DIFF.WORST, CAL_DIFF.DIFF, CAL_MEAS.MEAS, CAL_GEN.GEN, CAL_SLOT_STAT.COMMIT_OK, CAL_SLOT_STAT.CHECK_OK, CAL_SLOT_STAT.VALID, CAL_SLOT_GEN.GEN, CAL_SUPPLY.TRIPS] ++
  [CAL_FL_ADDR.ADDR, CAL_FL_CMD.CMD, CAL_FL_STAT.BUSY, CAL_FL_STAT.RESULT, CAL_FL_ID.JEDEC, CAL_FL_ID.LOG2_SIZE, CAL_FL_BUF.DATA]

/-- The stored fields of block SEC (R507). -/
def fieldsSEC : List Fld :=
  [SEC_STAT.REVOKED, SEC_STAT.SESSION, SEC_STAT.RK_BLOCKED, SEC_STAT.LIB_PRESENT, SEC_STAT.JRN_PRESENT, SEC_CMD.SLOT, SEC_CMD.CMD, SEC_KEY_IN.KEY_IN, SEC_BLOB.BLOB, SEC_KEYID.KEYID, SEC_CONFIRM.CONFIRM]

/-- The stored fields of block JRN (R506). -/
def fieldsJRN : List Fld :=
  [JRN_CFG.EN, JRN_CFG.RING_EN, JRN_CFG.FWD, JRN_CFG.WIN_EN, JRN_CFG.SEAL_MS, JRN_CTRL.FLUSH, JRN_CTRL.CNT_CLR, JRN_CLASS_EN.CLASS_EN, JRN_WIN_OPEN.TICK, JRN_WIN_CLOSE.TICK, JRN_RING_BASE_LO.BASE, JRN_RING_BASE_HI.BASE, JRN_RING_SIZE.LOG2, JRN_RING_WP.WP, JRN_RING_RP.RP, JRN_WP_ADDR_LO.ADDR, JRN_WP_ADDR_HI.ADDR, JRN_STAT.UNSEALED, JRN_STAT.RING_HALT, JRN_STAT.FILL, JRN_BSEQ.BSEQ, JRN_LOST.LOST, JRN_RSEQ.RSEQ, JRN_CHAIN_ID.ID]

/-- The stored fields of block CAS (R489). -/
def fieldsCAS : List Fld :=
  [CAS_CFG.DN_EN, CAS_CFG.UP_EN, CAS_CFG.ALIGN_TOL, CAS_CFG.HOLD_S, CAS_CTRL.RETRAIN_DN, CAS_CTRL.RETRAIN_UP, CAS_CTRL.ALIGN, CAS_MASK.MASK, CAS_STAT.MASTER, CAS_STAT.ADDR_VALID, CAS_STAT.ADDR, CAS_STAT.UP_STATE, CAS_STAT.DN_STATE, CAS_STAT.ALIGNED, CAS_STAT.SKEW_VALID, CAS_STAT.MEASURED, CAS_STAT.ALIGN_BUSY, CAS_STAT.CHAIN_LEN, CAS_SYNC_DLY.SYNC_DLY, CAS_SKEW_UP.VALID, CAS_SKEW_UP.D_PS, CAS_SKEW_DN.D_PS, CAS_THETA.MAX_ABS, CAS_THETA.THETA] ++
  [CAS_REACH.REACH, CAS_PEND.PEND, CAS_RES.RES, CAS_FF.FF_LOST, CAS_FF.FF_TX, CAS_LINK.UP_DOWNS, CAS_LINK.DN_DOWNS, CAS_CLR.CLR, CAS_CLR.STRAY, CAS_TUN_CTL.GO, CAS_TUN_CTL.WIN, CAS_TUN_CTL.TARGET, CAS_TUN_CTL.WRITE, CAS_TUN_ADDR.ADDR, CAS_TUN_WDATA.WDATA, CAS_TUN_RDATA.RDATA, CAS_TUN_STAT.BUSY, CAS_TUN_STAT.RESULT]

/-- The stored fields of block HOST (R68). -/
def fieldsHOST : List Fld :=
  [HOST_LINK.DL_UP, HOST_LINK.WIDTH, HOST_LINK.SPEED, HOST_STAT.LINKDOWN_COUNT, HOST_STAT.FLR_COUNT, HOST_STAT.COLLIDE_COUNT, HOST_DROP.CLR, HOST_DROP.COUNT, HOST_DROP_ADDR.WIN, HOST_DROP_ADDR.TUN, HOST_DROP_ADDR.ADDR]

/-- The stored fields of block LUS (R467). -/
def fieldsLUS : List Fld :=
  [LUS_CTRL.EN, LUS_CTRL.REPLAN, LUS_CTRL.PERIOD_MIN, LUS_CFG.GUARD_PS, LUS_CFG.EYE_WARN, LUS_CFG.DRIFT_LIM, LUS_STAT.BUSY, LUS_STAT.SKIPPED, LUS_STAT.PLANS, LUS_PROJ_MIN.ISLAND, LUS_PROJ_MIN.PROJ_H, LUS_PROJ_WARN.PROJ_WARN_H, LUS_FLAG.KIND, LUS_FLAG.INDEX, LUS_LAST.TICK, LUS_ISL_CFG.F_TGT, LUS_ISL_PLAN.F_MHZ, LUS_ISL_PLAN.V_MV, LUS_ISL_MARGIN.HEADROOM, LUS_ISL_MARGIN.SLACK_MIN, LUS_ISL_MARGIN.AGE, LUS_ISL_PROJ.PROJ_H]

/-- The stored fields of block FIRE (R217). -/
def fieldsFIRE : List Fld :=
  [FIRE_CH.EN, FIRE_CH.CLASS, FIRE_CH.INDEX, FIRE_CH_CNT.DELIVERED, FIRE_CH_CNT.COINC]

/-- The stored fields of block FIREG (R218). -/
def fieldsFIREG : List Fld :=
  [FIRE_GCTRL.GEN_LIMIT, FIRE_GSTAT.LOOP_COUNT, FIRE_GSTAT.UNROUTED, FIRE_GCLR.CLR, FIRE_SW.CHANNEL, FIRE_ROUTE_SEL.PROD, FIRE_ROUTE_STAT.CYCLE, FIRE_ROUTE_STAT.CHECK_BUSY, FIRE_ROUTE_STAT.CYCLE_CH, FIRE_LOOP_LAST.GEN, FIRE_LOOP_LAST.PROD, FIRE_PORT_STAT.DROP, FIRE_PORT_STAT.MAX_DEPTH, FIRE_IN_CFG.GLITCH, FIRE_IN_CFG.EDGE, FIRE_IN_CFG.EN, FIRE_OUT_CFG.EN, FIRE_OUT_CFG.MODE, FIRE_OUT_CFG.POL, FIRE_OUT_CFG.WIDTH, TIMER_CTRL.EN, TIMER_PERIOD.PERIOD, TIMER_START_LO.START, TIMER_START_HI.START] ++
  [TIMER_COUNT.COUNT, TIMER_DONE.DONE, SCHED_CTRL.FIRED, SCHED_CTRL.ARM, SCHED_AT_LO.AT, SCHED_AT_HI.AT, FIRE_FAR_CFG.MODE, FIRE_FAR_CFG.HOPS]

/-- The stored fields of block RFLG (R285). -/
def fieldsRFLG : List Fld :=
  [RFL_GUARD_CNT.GUARD, RFL_GCLR.CLR]

/-- The stored fields of block RFL (R282). -/
def fieldsRFL : List Fld :=
  [RFL_CFG.EN, RFL_CFG.PACE_EN, RFL_CFG.PRIO, RFL_CFG.MODE, RFL_CTRL.STAT_CLR, RFL_CTRL.CLEAR_TRIG, RFL_CTRL.TRIG, RFL_CTRL.CLEAR_SHADOW, RFL_CTRL.POST, RFL_CTRL.RESUME, RFL_CTRL.ABORT, RFL_STAT.WAIT, RFL_STAT.TRIG_PEND, RFL_STAT.GCM_HELD, RFL_STAT.SHADOW_FULL, RFL_STAT.STATE, RFL_RING_BASE_LO.BASE, RFL_RING_BASE_HI.BASE, RFL_RING_SIZE.LOG2, RFL_RING_HEAD.HEAD, RFL_RING_TAIL.TAIL, RFL_RESIDUE.RESIDUE, RFL_CRC.CRC, RFL_LAST_STAT.STATUS] ++
  [RFL_LAST_RES.RESIDUE, RFL_DONE.T, RFL_CNT.BAD_COUNT, RFL_CNT.DONE_COUNT, RFL_TRIG_CNT.COINC, RFL_TRIG_CNT.TAKEN, RFL_SH.SH, RFL_ACT.ACT]

/-- The stored fields of block QPLL (R94). -/
def fieldsQPLL : List Fld :=
  [QPLL_CTRL.RELOCK, QPLL_CTRL.EN, QPLL_STAT.RELOCK_COUNT, QPLL_STAT.BAND, QPLL_STAT.TBIN, QPLL_STAT.ATTEMPT, QPLL_STAT.VT_WARN, QPLL_STAT.STATE, QPLL_BAND_CTL.REQ_BANK, QPLL_BAND_CTL.CHECK_OK, QPLL_BAND_CTL.BUILD_DONE, QPLL_BAND_CTL.CLOSE, QPLL_BAND_CTL.ACTIVE_BANK, QPLL_BAND_CHECK.CHECK, QPLL_LAST_LOCK.TICKS]

/-- The stored fields of block AF (R387). -/
def fieldsAF : List Fld :=
  [AF_CLK_STAT.FREQ_MHZ, AF_CLK_STAT.FLL_LOCK, AF_CLK_STAT.AVS_OK, AF_CLK_STAT.POINT_PEND, AF_CLK_STAT.OVR_ACTIVE, AF_POINT.F_MHZ, AF_POINT.V_MV, AF_OVR.OVR_EN, AF_OVR.F_MHZ, AF_OVR.V_MV, AF_VMEAS.VMEAS, AF_BEZEL_WARN.LOW_SMP, AF_STAT.FALLBACK, TSET_IDX.INDEX, TSET_D.D, DRV_GRP_CFG.MODE, DRV_GRP_CFG.PERIOD, DRV_GRP_ORIGIN_LO.ORIGIN, DRV_GRP_ORIGIN_HI.ORIGIN, DRV_GRP_STAT.GRID_VALID, DRV_GRP_STAT.RUNNING, DRV_GRP_O_LO.O, DRV_GRP_O_HI.O]

/-- The stored fields of block DRV (R388). -/
def fieldsDRV : List Fld :=
  [PT_CFG.INTERP, PT_CFG.LOG2L, PT_BANK.REQ_BANK, PT_BANK.CHECK_OK, PT_BANK.BUILD_DONE, PT_BANK.BANK_STATE, PT_BANK.REOPEN, PT_BANK.CLOSE, PT_BANK.ACTIVE_BANK, PT_CHECK.CHECK, PT_ACT_CFG.INTERP, PT_ACT_CFG.LOG2L, DRV_SRC_A.KIND, DRV_SRC_A.INDEX, DRV_SRC_A.PH_OFS, DRV_SRC_B.KIND, DRV_SRC_B.INDEX, DRV_SRC_B.PH_OFS, DRV_GAIN_A.GAIN, DRV_GAIN_B.GAIN, DRV_TRIM_A.TRIM, DRV_TRIM_B.TRIM, DRV_RAMP.RAMP_US, DRV_LIMIT.LIMIT] ++
  [DRV_CTRL.CNT_CLR, DRV_CTRL.ACK, DRV_CTRL.SOFT_STOP, DRV_CTRL.START, DRV_STAT.SRC_TAPER, DRV_STAT.FADE, DRV_STAT.START_PEND, DRV_STAT.STOP_CAUSE, DRV_STAT.STATE, DRV_CNT.STOP_IGNORED, DRV_CNT.SAT, DRV_BEZEL.UNDERRUN_COUNT, DRV_BEZEL.MIN_FILL, DRV_DDS_F_A.F, DRV_DDS_F_B.F, DRV_DDS_A_A.A, DRV_DDS_A_B.A, DRV_ACTIVE_AT_LO.TICK, DRV_ACTIVE_AT_HI.TICK, DRV_STOP_AT_LO.TICK, DRV_STOP_AT_HI.TICK, DAC_CFG.LDSRC, DAC_CFG.CLEAR_CODE, DAC_GTHR.THR] ++
  [DAC_CTL.RANGE_NEW, DAC_CTL.SW_LOAD, DAC_CTL.RANGE_SET, DAC_CTL.CLAMP, DAC_CTL.UNCLAMP, DAC_STAT.CLR_FORCED, DAC_STAT.LDSRC_EFF, DAC_STAT.UNCLAMP_BUSY, DAC_STAT.RANGE_BUSY, DAC_STAT.CLAMP_ON, DAC_STAT.RANGE, DAC_STAT.DOUT, DAC_CNT.OVERWRITE, DAC_CNT.MAJOR, DAC_TRIM_IDX.RANGE, DAC_TRIM_IDX.ITEM, DAC_TRIM_DATA.VALUE, LOUPE_CH_CFG.EN, LOUPE_CH_CFG.ACTION, LOUPE_CH_CFG.MISS_N, LOUPE_CH_CFG.TOL, LOUPE_CH_TAU.TAU_NS, LOUPE_CH_LAST.RESID, LOUPE_CH_LAST.READING] ++
  [LOUPE_CH_CNT.MISMATCH, LOUPE_CH_CNT.OUT_TOL, LOUPE_CH_DRIFT.DRIFT]

/-- The stored fields of block LOUPE (R413). -/
def fieldsLOUPE : List Fld :=
  [LOUPE_CTRL.EN, LOUPE_CTRL.CNT_CLR, LOUPE_STAT.FRAMES, LOUPE_STAT.VDDA_HV_OK, LOUPE_CLR_STAT.HARD_CLEAR_COUNT, LOUPE_CLR_STAT.CLR_N_ASSERTED, LOUPE_NODE_CFG.EN, LOUPE_NODE_CFG.ACTION, LOUPE_NODE_CFG.MISS_N, LOUPE_NODE_LIM.HI, LOUPE_NODE_LIM.LO, LOUPE_NODE_VAL.MISMATCH, LOUPE_NODE_VAL.READING]

/-- The stored fields of block SNS (R437). -/
def fieldsSNS : List Fld :=
  [SNS_BANK_CFG.EN, SNS_BANK_CFG.MODE, SNS_BANK_CFG.GROUP, SNS_BANK_CFG.PERIOD, SNS_BANK_STAT.GRID_VALID, SNS_BANK_STAT.SETTLED, SNS_BANK_O_LO.O, SNS_BANK_O_HI.O, SNS_CFG.EN, SNS_CFG.FILT, SNS_CFG.HPF, SNS_CFG.CAP_EN, SNS_CFG.CAP_MODE, SNS_CFG.LIM_GROUP, SNS_LIM_CFG.RMS_K, SNS_LIM_CFG.ACTION, SNS_LIM_CFG.LIM_EN, SNS_PEAK.PEAK_THR, SNS_RMS_LIM.RMS_THR, SNS_SLOPE.SLOPE_THR, SNS_BAND.BAND_HI, SNS_BAND.BAND_LO, SNS_BAND_LIM.BAND_THR, SNS_LIM_CNT.CNT3] ++
  [SNS_LIM_CNT.CNT2, SNS_LIM_CNT.CNT1, SNS_LIM_CNT.CNT0, SNS_SAMPLE.OVR, SNS_SAMPLE.SAMPLE, SNS_RMS.RMS, SNS_CAP_WP.WP, SNS_CAP_RP.RP, SNS_CAP_OPEN_LO.TICK, SNS_CAP_OPEN_HI.TICK, SNS_CAP_CLOSE_LO.TICK, SNS_CAP_CLOSE_HI.TICK, SNS_CAP_T0_LO.TICK, SNS_CAP_T0_HI.TICK, SNS_CAP_LOST.LOST, SNS_TRIM_OFS.OFS, SNS_TRIM_GAIN.GAIN, SNS_GD.GD]

/-- The stored fields of block CROWN (R439). -/
def fieldsCROWN : List Fld :=
  [CROWN_CFG.MODE, CROWN_CFG.LINES, CROWN_CFG.AVG, CROWN_CFG.MU, CROWN_SIZE.NC, CROWN_SIZE.ND, CROWN_INIT.INIT_FRAMES, CROWN_INIT.INIT_RMS, CROWN_RAMP.RAMP_US, CROWN_REG.REG, CROWN_REF.REF_SEL, CROWN_REF.LEVEL, CROWN_SEED_LO.SEED, CROWN_SEED_HI.SEED, CROWN_ALARM.ABORT_N, CROWN_ALARM.ABORT_DB, CROWN_ALARM.ACTION, CROWN_DRVMAX.DRV_MAX, CROWN_TRACK.BW_PCT, CROWN_TRACK.BW_MIN, CROWN_PULSES.PULSES, CROWN_BASE_REF.BASE, CROWN_TWR_BASE.TWR_BASE, CROWN_RD.RD_EN] ++
  [CROWN_RD.RD_BASE, CROWN_CTRL.RESUME, CROWN_CTRL.HOLD, CROWN_CTRL.STOP, CROWN_CTRL.START, CROWN_STAT.DRV_LIMITED, CROWN_STAT.STOP_CAUSE, CROWN_STAT.PHASE, CROWN_STAT.STATE, CROWN_FRAMES.FRAMES, CROWN_ERR.ERR, CROWN_TS_LO.TICK, CROWN_TS_HI.TICK, CROWN_BANK.DEFER_COUNT, CROWN_BANK.SWAP_COUNT, CROWN_BANK.ACTIVE_BANK, CROWN_SDRV.EN, CROWN_SDRV.SRC, CROWN_SDRV.CHAN, CROWN_SDRV.TRIM_INIT, CROWN_CP.EN, CROWN_CP.CP_DRV, CROWN_CP.SENSE]

/-- The stored fields of block FCT (R114). -/
def fieldsFCT : List Fld :=
  [FCT_CLK_STAT.FREQ_MHZ, FCT_CLK_STAT.FLL_LOCK, FCT_CLK_STAT.AVS_OK, FCT_CLK_STAT.POINT_PEND, FCT_CLK_STAT.OVR_ACTIVE, FCT_POINT.F_MHZ, FCT_POINT.V_MV, FCT_OVR.OVR_EN, FCT_OVR.F_MHZ, FCT_OVR.V_MV, FCT_VMEAS.VMEAS, FCT_BEZEL_WARN.LOW_TK, FCT_BEZEL_CLR.CLR, FCT_BEZEL_STAT.UNDERRUN_COUNT, FCT_BEZEL_STAT.LOW_COUNT, FCT_BEZEL_STAT.MIN_FILL, FCT_GIRDLE_N.BULK, FCT_GIRDLE_N.STREAM, FCT_GIRDLE_N.CONTROL, FCT_GIRDLE_TOT.BULK, FCT_GIRDLE_TOT.STREAM, FCT_GIRDLE_TOT.CONTROL, FCT_STORE_ARB.REFILL_FORCED, FCT_STORE_ARB.ENG_WAIT_MAX]

/-- The stored fields of block SEG (R251). -/
def fieldsSEG : List Fld :=
  [SEG_DIR_IDX.INDEX, SEG_DIR_W0.W, SEG_DIR_W1.W, SEG_DIR_W2.W, SEG_DIR_CMD.CMD, SEG_DIR_STAT.BUSY, SEG_DIR_STAT.RESULT, SEG_DIR_CRC.CRC, SEG_ECC_CNT.UNCORR, SEG_ECC_CNT.CORR, SEG_ECC_ADDR.VALID, SEG_ECC_ADDR.UNC, SEG_ECC_ADDR.LINE, SEG_SCRUB.EN, SEG_SCRUB.GAP, SEG_SCRUB_STAT.PASSES, SEG_CLR.CLR, SEG_STARVE.BRIDGE_EN, SEG_STARVE.BRIDGE_SEG, SEG_STARVE.RESUME_MODE, SEG_STARVE.POLICY, SEG_SKIPPED.SKIPPED, SEG_SHIFT.SHIFT, WIN_CFG.EN] ++
  [WIN_CFG.OWNER, WIN_CFG.BASE, WIN_SIZE.SIZE, WIN_MARKS.HIGH_MARK, WIN_MARKS.LOW_MARK, WIN_RESUME.WARN, WIN_RESUME.RESUME_MARK, WIN_WP.WP, WIN_POS.POS, WIN_STAT.INIT, WIN_STAT.REQ, WIN_STAT.PINNED, WIN_STAT.STARVING, WIN_STAT.FILL, WIN_CNT.STARVE_COUNT, WIN_CNT.STALE_COUNT]

/-- The stored fields of block ENG (R148). -/
def fieldsENG : List Fld :=
  [ENG_CFG.PERIOD, ENG_CFG.MARK_LANE, ENG_CFG.LANE_LOSS, ENG_CFG.MODE, ENG_CFG.LCLASS, ENG_CFG.KIND, ENG_WIN.SIZE_M1, ENG_WIN.BASE, ENG_START.SRC, ENG_START.ENTRY, ENG_START_AT_LO.START_AT, ENG_START_AT_HI.START_AT, ENG_CTRL.GATE, ENG_CTRL.STOP_MODE, ENG_CTRL.STOP, ENG_CTRL.PARK, ENG_CTRL.START, ENG_CTRL.ARM, ENG_CTRL.VERIFY, ENG_STAT.CAUSE, ENG_STAT.LOPEN, ENG_STAT.GATE_WAIT, ENG_STAT.PROG_OK, ENG_STAT.MODE] ++
  [ENG_STAT.STATE, ENG_POS.STEP, ENG_ITER.ITER, ENG_LCNT.LCNT, ENG_VERIFY.BUSY, ENG_VERIFY.REASON, ENG_VERIFY.FIRST_BAD, ENG_FAULT.CODE, ENG_FAULT.STEP, ENG_DROP.DROPPED, ENG_LREG.COUNT, ENG_RUN_LO.RUN, ENG_RUN_HI.RUN, ENG_MARK_LO.SLOT1, ENG_MARK_LO.SLOT0, ENG_MARK_HI.SLOT3, ENG_MARK_HI.SLOT2, ENG_EVT.MARK_EN, ENG_EVT.MARK_BIT, ENG_EVT.LOOP_MASK, ENG_EVT.STEP_EN, ENG_GATE_CNT.COINC, ENG_GATE_CNT.IGNORED, ENG_BIN_CFG.CMP_KIND] ++
  [ENG_BIN_CFG.CMP_EN, ENG_BIN_CFG.LANE_MASK, ENG_BIN_CFG.FIRE_EN, ENG_BIN_STAT.UNC, ENG_BIN_STAT.DUE, ENG_BIN_STAT.PEND, ENG_BIN_DUE_LO.DUE, ENG_BIN_DUE_HI.DUE, ENG_BIN_CNT.COINC, ENG_BIN_CNT.TAKEN, ENG_BIN_LOSS.ECLIPSED, ENG_BIN_LOSS.EXPIRED, ENG_BR_LAST.VALID, ENG_BR_LAST.REDIR, ENG_BR_LAST.MODE, ENG_BR_LAST.INPUT, ENG_BR_LAST.ENTRY, ENG_BR_LAST.TARGET, ENG_BR_TICK_LO.TICK, ENG_BR_TICK_HI.TICK, ENG_BR_STAGE.RESTAGE, ENG_BR_STAGE.SUCC_RDY, ENG_BR_STAGE.SLOT_RDY, ENG_REDIR.GO] ++
  [ENG_REDIR.CANCEL, ENG_REDIR.MODE, ENG_REDIR.TARGET, ENG_REDIR_STAT.STAGED, ENG_REDIR_STAT.PENDING, ENG_REDIR_AT_LO.AT, ENG_REDIR_AT_HI.AT, ENG_BR_CTRL.CLR]

/-- The stored fields of block APG (R306). -/
def fieldsAPG : List Fld :=
  [APG_CFG.REQ_BANK, APG_CFG.EN, APG_CFG.OWNER, APG_STAT.ELEM, APG_STAT.PROG, APG_STAT.ADV_PEND, APG_STAT.STATE, APG_BANK.BANK_STATE, APG_BANK.CHECK_OK, APG_BANK.BUILD_DONE, APG_BANK.REOPEN, APG_BANK.CLOSE, APG_BANK.ACTIVE_BANK, APG_BANK_CHECK.CHECK, APG_ADV_CNT.COINC, APG_ADV_CNT.TAKEN, APG_POS.Y, APG_POS.X, APG_IDX.TAB, APG_IDX.INDEX, APG_DATA0.D, APG_DATA1.D, PH_CTL.VALID, PH_CTL.WRAP] ++
  [PH_CTL.FIRST, PH_CTL.COUNT_M1, PH_DATA.BASE, PH_DATA.ASCR_EN, PH_DATA.DSCR_EN, PH_DATA.PINV, PH_DATA.BG, SH_ORG.Y0, SH_ORG.X0, SH_BITS.YBITS, SH_BITS.XBITS, SH_CNT12.CNT2_M1, SH_CNT12.CNT1_M1, SH_CNT3.CNT3_M1, SH_STEP1.YSTEP, SH_STEP1.XSTEP, SH_STEP2.YSTEP, SH_STEP2.XSTEP, SH_STEP3.YSTEP, SH_STEP3.XSTEP]

/-- The stored fields of block LANE (R333). -/
def fieldsLANE : List Fld :=
  [LANE_CFG.VER_MASK, LANE_CFG.ATTACH, LANE_CFG.RX_POL, LANE_CFG.TX_POL, LANE_CFG.TX_DESKEW, LANE_CTRL.EQ_FREEZE, LANE_CTRL.ADMIT, LANE_CTRL.RETRAIN, LANE_CTRL.RESEARCH, LANE_CTRL.CLR, LANE_CTRL.EN, LANE_STAT.CAUSE, LANE_STAT.VER, LANE_STAT.EQ_VALID, LANE_STAT.ADMIT_WAIT, LANE_STAT.BLOCK_LOCK, LANE_STAT.SIG_DET, LANE_STAT.RX_TERM, LANE_STAT.STATE, LANE_RTT.RTT, LANE_TURN.TURN, LANE_EQ_TX.CPOST, LANE_EQ_TX.CMAIN, LANE_EQ_TX.CPRE] ++
  [LANE_EQ_RX.CTLE, LANE_EQ_RX.DFE1, LANE_DFE_A.DFE5, LANE_DFE_A.DFE4, LANE_DFE_A.DFE3, LANE_DFE_A.DFE2, LANE_DFE_B.DFE8, LANE_DFE_B.DFE7, LANE_DFE_B.DFE6, LANE_EYE.HEIGHT, LANE_EYE.WIDTH, LANE_EYE_MIN.H_MIN, LANE_EYE_MIN.W_MIN, LANE_ERR.HDR_ERR, LANE_ERR.LOCK_LOSS, LANE_ERR_LIM.LIMIT, LANE_CNT.SVC, LANE_CNT.RETRAINS, LANE_PARTNER_ID_LO.ID, LANE_PARTNER_ID_HI.ID, LANE_PARTNER_CAP.CAP, LANE_HOLD.WORD, LANE_SVC_AT_LO.TICK, LANE_SVC_AT_HI.TICK] ++
  [LANE_RXDET.PERIOD, LANE_SRC.B_EN, LANE_SRC.ENG_B, LANE_SRC.A_EN, LANE_SRC.ENG_A, LANE_COMP_CTL.REQ_BANK, LANE_COMP_CTL.CHECK_OK, LANE_COMP_CTL.BUILD_DONE, LANE_COMP_CTL.BANK_STATE, LANE_COMP_CTL.REOPEN, LANE_COMP_CTL.CLOSE, LANE_COMP_CTL.ACTIVE_BANK, LANE_COMP_CHECK.CHECK, LANE_COMP_CNT.DEFER_COUNT, LANE_COMP_CNT.SWAP_COUNT]

/-- The stored fields of block CMP (R357). -/
def fieldsCMP : List Fld :=
  [CMP_RING_STAT.LOST, CMP_RING_STAT.FILL, CMP_RING_CFG.EN, CMP_RING_CFG.TYPES, CMP_CLR.CLR, CMP_SEQ.SEQ, CMP_LCFG.EN, CMP_LCFG.WIN_EN, CMP_LCFG.EVT_KIND, CMP_WIN_OPEN_LO.TICK, CMP_WIN_OPEN_HI.TICK, CMP_WIN_CLOSE_LO.TICK, CMP_WIN_CLOSE_HI.TICK, CMP_CAP_AT_LO.TICK, CMP_CAP_AT_HI.TICK, CMP_CAP_CTL.ARM, CMP_CAP_CTL.ACTIVE, CMP_CAP_CTL.SHORT, CMP_CAP_CTL.NGRAN, CMP_CNT_FAIL.REC_FAIL, CMP_CNT_FAIL.SUM_FAIL, CMP_CNT_DISC.BAD_REC, CMP_CNT_DISC.STALE, CMP_CNT_DISC.UNQUAL] ++
  [CMP_FIRST_LO.FIRST, CMP_FIRST_HI.FIRST, CMP_PSTAT.DROPPED, CMP_PSTAT.TEMP, CMP_PSTAT.FLAGS, CMP_PERR.RX_HDR_ERR]

/-- The stored fields of a block, by its PAGE_ID.TYPE code (R51). -/
def fieldsOf (blk : Nat) : List Fld :=
  if blk = 0xFF then fieldsHDR
  else if blk = 0x01 then fieldsDEV
  else if blk = 0x02 then fieldsTB
  else if blk = 0x03 then fieldsTPLL
  else if blk = 0x04 then fieldsPWR
  else if blk = 0x05 then fieldsCAL
  else if blk = 0x06 then fieldsSEC
  else if blk = 0x07 then fieldsJRN
  else if blk = 0x08 then fieldsCAS
  else if blk = 0x09 then fieldsHOST
  else if blk = 0x0A then fieldsLUS
  else if blk = 0x10 then fieldsFIRE
  else if blk = 0x11 then fieldsFIREG
  else if blk = 0x12 then fieldsRFLG
  else if blk = 0x13 then fieldsRFL
  else if blk = 0x14 then fieldsQPLL
  else if blk = 0x20 then fieldsAF
  else if blk = 0x21 then fieldsDRV
  else if blk = 0x22 then fieldsLOUPE
  else if blk = 0x23 then fieldsSNS
  else if blk = 0x24 then fieldsCROWN
  else if blk = 0x30 then fieldsFCT
  else if blk = 0x31 then fieldsSEG
  else if blk = 0x32 then fieldsENG
  else if blk = 0x33 then fieldsAPG
  else if blk = 0x34 then fieldsLANE
  else if blk = 0x35 then fieldsCMP
  else []

end Sys2Proof.Machine
end

