-- ==== Sys2Proof/Machine/Sparse.lean ====
section
/-!
DEFINITION. Machine/Sparse.lean: sparse data by a number (a register field, a unit, an address), as a list of pairs in
rising order of key. Reading a key that is not listed gives the default `d`. `Sparse.put` is the canonical write: it
lists no entry equal to the default, so that equal contents are equal lists.
-/

namespace Sys2Proof.Machine

variable {α : Type}

/-- The value at key `k`, or `d` when it is not listed. -/
def Sparse.get (d : α) : List (Nat × α) → Nat → α
  | [], _ => d
  | (j, v) :: r, k => if j = k then v else Sparse.get d r k

/-- The list without key `k`. -/
def Sparse.erase : List (Nat × α) → Nat → List (Nat × α)
  | [], _ => []
  | (j, v) :: r, k => if j = k then Sparse.erase r k else (j, v) :: Sparse.erase r k

/-- `(k, v)` placed before the first larger key. -/
def Sparse.insert : List (Nat × α) → Nat → α → List (Nat × α)
  | [], k, v => [(k, v)]
  | (j, w) :: r, k, v => if k < j then (k, v) :: (j, w) :: r else (j, w) :: Sparse.insert r k v

/-- The list with key `k` holding `v`. -/
def Sparse.set (l : List (Nat × α)) (k : Nat) (v : α) : List (Nat × α) :=
  Sparse.insert (Sparse.erase l k) k v

/-- The list with key `k` reading `v`, an entry equal to the default `d` being left out. -/
def Sparse.put [DecidableEq α] (d : α) (l : List (Nat × α)) (k : Nat) (v : α) : List (Nat × α) :=
  if v = d then Sparse.erase l k else Sparse.insert (Sparse.erase l k) k v

/-- The keys rise strictly. -/
def Sparse.rising : List (Nat × α) → Bool
  | [] => true
  | [_] => true
  | (j, _) :: (k, w) :: r => decide (j < k) && Sparse.rising ((k, w) :: r)

/-- The canonical form: keys strictly rising, and no entry equal to the default. -/
def Sparse.wf [DecidableEq α] (d : α) (l : List (Nat × α)) : Bool :=
  Sparse.rising l && l.all (fun p => !decide (p.2 = d))

end Sys2Proof.Machine
end

