-- ==== Sys2Proof/Machine/Units.lean ====
section
/-!
DEFINITION. Machine/Units.lean: the state the spec gives the units beside their registers: pending records, staged steps,
queues, latches, table banks, protocol progress.  Every structure's default is its state after reset.
Times are counted in ticks: `epoch` times are values of the epoch counter, `tb` times are counts of TB periods since
reset (they measure durations, and a cascade alignment does not move them).
-/

namespace Sys2Proof.Machine

/-- A stamp (R14 to R18): tick, sub-tick 0 to 7, and the uncertain flag. -/
structure Stamp where
  t : Nat := 0
  sub : Nat := 0
  unc : Bool := false
  deriving DecidableEq, Repr

/-- The timebase: the epoch latches of R32, the capture of R33 and the watch of R34. -/
structure Tb where
  /-- The holding registers of TB_EPOCH_HI, one per requester. -/
  eLatchHost : Nat := 0
  eLatchTunnel : Nat := 0
  /-- The last PPS capture: tick and sub-tick. -/
  capT : Nat := 0
  capSub : Nat := 0
  /-- Software has not read PPS_STAMP_LO since the last capture. -/
  unread : Bool := false
  /-- A capture has been made since PPS_EN was set. -/
  since : Bool := false
  /-- The tick from which the 1.5 s of R34 are counted (TB count). -/
  watchFrom : Nat := 0
  /-- PPS_MISSING has been raised and no capture has occurred since. -/
  missed : Bool := false
  deriving DecidableEq, Repr

/-- The register writes of one page cycle, by address and requester (R67). -/
structure Cycle where
  tb : Nat := 0
  byHost : List Nat := []
  byTunnel : List Nat := []
  deriving DecidableEq, Repr

/-- The host attachment: configuration space and MSI-X (R40 to R42, R63). -/
structure HostPort where
  /-- PERST_N is asserted. -/
  perst : Bool := true
  /-- The function is in D3hot. -/
  d3hot : Bool := false
  /-- MSI-X Enable, Bus Master Enable and the function mask of configuration space (R63). -/
  msixEn : Bool := false
  busMaster : Bool := false
  funcMask : Bool := false
  /-- Per-vector mask bits of the MSI-X table. -/
  vecMask : BitVec 256 := BitVec.allOnes 256
  /-- The message address and message data of each vector, by vector (R41). -/
  table : List (Nat × Nat × Nat) := []
  /-- The message-pending bits. -/
  pba : BitVec 256 := 0
  /-- The link entered training (R41). -/
  training : Bool := false
  /-- The register writes of the present page cycle (R67). -/
  wrote : Cycle := {}
  deriving DecidableEq, Repr

/-- The owners of shadowed values (R56, R57). -/
inductive Owner where
  | eng (e : Nat) | drv (d : Nat) | pt (g : Nat) | apg (a : Nat) | lane (l : Nat) | crown (k : Nat)
  | tpll | qpll (q : Nat)
  deriving DecidableEq, Repr

/-- What a page holds of a commit (R56 to R58) and of its lock (R55). -/
structure PageSt where
  /-- The owners that still hand over: the owner, its hand-over tick D, its snapshot tick, and the owner's state code
  when ARM was accepted (R59). -/
  waits : List (Owner × Nat × Nat × Nat) := []
  /-- The shadow lock holds through this tick. -/
  lockedTo : Nat := 0
  /-- A commit has been accepted and its last snapshot has not been passed. -/
  pending : Bool := false
  /-- The TB count at which LOCK.OPEN last became 1. -/
  openedAt : Nat := 0
  /-- The code with which the present commit has failed a recheck, and whether that refusal was the page's first (R59, R562). -/
  failed : Option (Nat × Bool) := none
  deriving DecidableEq, Repr

/-- A journal record in the writer (R492, R493). -/
structure Rec where
  stamp : Nat
  sub : Nat
  unc : Bool
  origin : Nat
  cls : Nat
  index : Nat
  code : Nat
  /-- The four dwords of DATA. -/
  data : List Nat
  /-- RSEQ, once the record has been counted; a record another device forwards brings its own (R500). -/
  rseq : Nat := 0
  forwarded : Bool := false
  deriving DecidableEq, Repr

/-- An event in the Fire network or at a producer (R196 to R205): producer identifier (0xFFFF for a software fire),
stamp, generation, and the extra horizon of a far-fire event. -/
structure Event where
  prod : Nat
  st : Stamp
  gen : Nat := 0
  /-- The hops a far-fire event is charged with (R216), none for a local event. -/
  hops : Option Nat := none
  deriving DecidableEq, Repr

/-- What leaves the block. -/
inductive Out where
  /-- The completion of a register or memory read (R32, R49). -/
  | readData (tunnel : Bool) (value : Nat) (poisoned : Bool)
  /-- An MSI-X message (R63). -/
  | msix (vec addr data : Nat)
  /-- A level of a ball, with its tick. -/
  | ball (name : String) (n : Nat) (level : Bool) (tick : Nat)
  /-- A word at a lane's balls (R100): lane, ball tick, word. -/
  | word (lane tick word : Nat)
  /-- A block at a lane's balls (R311, R312, R331): lane, the tick, TX_DESKEW, by whose steps of 0.947 ps the first header UI
  follows the tick, and the block's 132 UI as sent, the first in bit 0. -/
  | block (lane tick skew wire : Nat)
  /-- A write to host memory. -/
  | hostWrite (addr : Nat) (bytes : List Byte)
  /-- A read request to host memory: refill channel, address, bytes. -/
  | hostRead (chan addr len : Nat)
  /-- A message on a cascade port (R471): 1 FAR, 2 TIME, 3 STATUS, 4 PROBE, 5 ECHO, 6 and 7 a tunnelled request and response,
  8 half a journal record, 9 ALIGN. -/
  | cascade (down : Bool) (kind : Nat) (payload : List Nat)
  /-- An AVSBus Voltage Write: rail and millivolts (R542). -/
  | avs (rail mv : Nat)
  /-- A frame on ENUM_OUT (R473). -/
  | enum (bits : List Nat)
  /-- A command to the flash (R448, R456). -/
  | flash (op : String) (addr : Nat) (bytes : List Byte)
  deriving DecidableEq, Repr

/-- A power domain (R526 to R531). -/
structure Dom where
  /-- 0 ON, 1 IDLE, 2 RET, 3 OFF. -/
  st : Nat := 0
  /-- A request that leaves ON is accepted and quiescence runs; the TB count of its start. -/
  quiesceFrom : Option Nat := none
  /-- The request was deferred: DEFERRED, with the TB count of the last try. -/
  deferredAt : Option Nat := none
  /-- The state requested. -/
  target : Nat := 0
  /-- A request to ON is being carried out, from this TB count. -/
  restoreFrom : Option Nat := none
  deriving DecidableEq, Repr

/-- A pin on a stream body (R236). -/
structure Pin where
  first : Nat
  len : Nat
  /-- The loop level whose closing releases it; none when no level was open. -/
  level : Option Nat
  /-- The window-local step that took it. -/
  step : Nat
  deriving DecidableEq, Repr

/-- A stream window (R229 to R237): sequence numbers and the arming of STARVE_WARN; the pin stands in the owner's
timeline. -/
structure Win where
  wp : Nat := 0
  /-- POS as the owner's last run left it; while the owner runs, its timeline gives POS. -/
  pos : Nat := 0
  warned : Bool := false
  /-- Granules found uncorrectable (R231). -/
  bad : List Nat := []
  /-- The tick at which EN was set, while tag initialisation runs. -/
  initFrom : Option Nat := none
  deriving DecidableEq, Repr

/-- An entry of the segment directory: its three words (R224). -/
structure DirEnt where
  w0 : Nat := 0
  w1 : Nat := 0
  w2 : Nat := 0
  deriving DecidableEq, Repr

/-- The store of a Facet beside its registers: the directory command in progress, with the entry it acts on, whether a
refill close issued it, and the scrubber's next line with a corrected line it holds for write-back. -/
structure Store where
  cmd : Option (Nat × Nat) := none
  scrub : Nat := 0
  hold : Option Nat := none
  /-- The refill channel whose CLOSE_SEG runs the command (R272). -/
  closer : Option Nat := none
  /-- The lines that hold an error, and whether it is uncorrectable: a line stays as it is until the scrubber or a write replaces it
  (R222). -/
  errs : List (Nat × Bool) := []
  deriving DecidableEq, Repr

/-- A double-banked table that software builds (R246 to R250): both banks (index, value), the ticks since which the
inactive bank has been CLOSED with CHECK_OK, the last such span, the tick at which a REOPEN takes effect, the swaps steps
have requested (boundary, engine), and the first boundary of a swap a commit requests. -/
structure Tab where
  bank0 : List (Nat × Nat) := []
  bank1 : List (Nat × Nat) := []
  okSince : Option Nat := none
  okWas : Option (Nat × Nat) := none
  reopenAt : Option Nat := none
  reqs : List (Nat × Nat) := []
  commitFrom : Option Nat := none
  /-- TABLE_SWAP_DEFERRED has been raised for the commit's request. -/
  told : Bool := false
  deriving DecidableEq, Repr

/-- Where an APG stands (R289): program, element, vectors of the element already presented, the last X and Y presented,
and whether the program has ended. -/
structure ApgSt where
  prog : Nat := 0
  elem : Nat := 0
  off : Nat := 0
  lx : Nat := 0
  ly : Nat := 0
  /-- The tick at which the element's first vector is presented, for R298. -/
  since : Nat := 0
  /-- 0 RESET, 1 RUNNING, 4 DONE: whether a program has been started and whether it has ended. -/
  st : Nat := 0
  deriving DecidableEq, Repr

/-- An event waiting at an input (R172): due tick, generation, uncertain flag. -/
structure Pend where
  due : Nat
  /-- The tick of the stamp that gives the due tick. -/
  stamp : Nat
  gen : Nat := 0
  unc : Bool := false
  /-- The decision point from which a late event takes part (R24). -/
  notBefore : Nat := 0
  deriving DecidableEq, Repr

/-- An APG beside its registers: the held state and the pending advance (R297). -/
structure Apg where
  held : ApgSt := {}
  adv : Option Pend := none
  /-- The element memory (R295) and the user table (R293), by index. -/
  elems : List (Nat × (Nat × Nat)) := []
  user : List (Nat × Nat) := []
  /-- APG_DONE has been raised for the program's present end. -/
  told : Bool := false
  deriving DecidableEq, Repr

/-- A DDS instruction that a TONE step sends in place of samples (R375). -/
structure Tone where
  tset : Nat
  first : Bool
  fromCurrent : Bool
  phaseReset : Bool
  /-- First sample of a run (R377). -/
  runStart : Bool
  deriving DecidableEq, Repr

/-- What an engine presents for one ball tick (R116, R301): its 64-bit contribution or 24-bit sample and its marker
bits.  `hold` stands for the HOLD idle word (R330), and on a DRIVE engine for each source's own last contribution. -/
structure Entry where
  tick : Nat
  word : Nat := 0
  mark : Nat := 0
  apg : Bool := false
  hold : Bool := false
  tone : Option Tone := none
  deriving DecidableEq, Repr

/-- What a position of an engine's timeline presents. -/
inductive PosKind where
  /-- A step. -/
  | play
  /-- The hold of the state GATED (R135), before `step` starts. -/
  | gateWait
  /-- An underrun episode (R240) of `step`. -/
  | starve
  deriving DecidableEq, Repr

/-- A stretch of an engine's timeline, decided at the resolution tick of its first decision point (R174). -/
structure Pos where
  kind : PosKind := .play
  /-- The decision point from which it is presented. -/
  start : Nat := 0
  /-- The tick the step's schedule is counted from (R125; R241 moves it under CONTINUE). -/
  org : Nat := 0
  step : Nat := 0
  /-- The four loop counts, 0 while closed, and the head step of each open level (R126). -/
  lcnt : List Nat := [0, 0, 0, 0]
  head : List Nat := [0, 0, 0, 0]
  /-- The generation of the step's events (R189). -/
  gen : Nat := 0
  /-- Entered by the loop-back of a level. -/
  loopBack : Bool := false
  /-- The step starts at `start`; a resumed or an advanced stretch of a step does not. -/
  fresh : Bool := false
  /-- Entered by a branch or a redirect, and the decision point at which it was taken (R184). -/
  jumped : Bool := false
  jumpAt : Nat := 0
  /-- Entered by a redirect: its events carry generation 0 (R192). -/
  redir : Bool := false
  /-- The step's start tick (R168). -/
  began : Nat := 0
  /-- The fetch tick of its successor and the successor's targets, and of its own targets (R564). -/
  ftS : Nat := 0
  ftT : Nat := 0
  /-- The loop registers with which a step that waits for a gate is entered (R564). -/
  lrE : List Nat := []
  /-- The iteration that a resume under CONTINUE went on with, by index, and its start tick (R168, R241). -/
  iterAt : Option (Nat × Nat) := none
  /-- The step took its pin as it was entered (R236). -/
  took : Bool := false
  /-- The first step of the run. -/
  entry : Bool := false
  /-- The loop registers as read at the fetch tick of the successor, and of the branch targets (R564). -/
  lrS : List Nat := []
  lrT : List Nat := []
  /-- The first stream granule of the step's schedule (R230). -/
  sbase : Nat := 0
  /-- The stream positions of the owner's windows, by window, and the states of its APGs, by APG, at `start`. -/
  wpos : List (Nat × Nat) := []
  apgs : List (Nat × ApgSt) := []
  /-- The loop levels whose count reached 0 on the way in, told when the step starts (R133). -/
  ends : List Nat := []
  /-- The pins held, by window of the Facet (R236). -/
  pins : List (Nat × Pin) := []
  /-- An underrun: the granule missing, whether the body of a pinned step is missing, the entries of the last granule
  before it. -/
  missing : Nat := 0
  pinned : Bool := false
  last : List Entry := []
  deriving DecidableEq, Repr

/-- A redirect (R192): target, loop mode, acceptance tick, and the tick at which staging completed. -/
structure Redir where
  target : Nat
  mode : Nat
  a : Nat
  staged : Option Nat := none
  /-- The loop registers at the fetch tick of the target (R564). -/
  regs : List Nat := []
  deriving DecidableEq, Repr

/-- An engine's event computed ahead of its stamp (R133): producer class, stamp tick, generation. -/
structure EngEv where
  cls : Nat
  t : Nat
  gen : Nat
  /-- For a loop end, its level. -/
  level : Nat := 0
  deriving DecidableEq, Repr

/-- An engine beside its registers. -/
structure Eng where
  /-- The fetch tick of the entry step: the acceptance tick of ARM, or the hand-over tick of a change of ENG_START in ARMED (R564), and
  the loop registers at it. -/
  armAt : Nat := 0
  armRegs : List Nat := []
  /-- The acceptance tick of the first START, and the first gate to arrive, since the acceptance of ARM (R141). -/
  startA : Option Nat := none
  gate1 : Option Pend := none
  /-- The start tick D, once fixed, and the one intended first (R141). -/
  startD : Option Nat := none
  intended : Nat := 0
  /-- The entry step's staging is complete; R179 has been applied at the start. -/
  staged : Bool := false
  carried : Bool := false
  /-- The timeline: what is presented now and what is decided for later ticks, oldest first. -/
  line : List Pos := []
  /-- The entries written and not yet past: the engine's contribution in every Bezel it writes (R119). -/
  q : List Entry := []
  /-- The ball tick of the next entry to write. -/
  next : Nat := 0
  /-- The gate event that waits (R141). -/
  gate : Option Pend := none
  /-- The decision point at which the gate last taken starts the successor and clears the pending bit (R135). -/
  gateTo : Option Nat := none
  /-- The four branch inputs' pending records (R172). -/
  ins : List (Option Pend) := [none, none, none, none]
  /-- The end of the last restaging and of the one before it (R184), and the redirect under way (R192). -/
  restageEnd : Nat := 0
  restagePrev : Nat := 0
  redir : Option Redir := none
  /-- A STOP with AT_STEP_END waits, from its acceptance tick (R142). -/
  stopFrom : Option Nat := none
  /-- The stop tick and its cause. -/
  stopD : Option (Nat × Nat) := none
  /-- A runtime fault: D_f, code, step (R144, R564). -/
  fault : Option (Nat × Nat × Nat) := none
  /-- A lane of the feed set has been in SERVICE since the start tick (R120). -/
  served : Bool := false
  /-- Slot SUCC: the successor of the presented step has been staged, and, one bit each, the targets of the successor's branch set
  (R182). -/
  fetched : Bool := false
  succT : Nat := 0
  /-- The staged targets found faulty: slot (0 to 3 the step's own, 4 to 7 its successor's), code, step (R185). -/
  bads : List (Nat × Nat × Nat) := []
  /-- The bridge buffer: the fetch tick of its staging, and whether it is staged (R240). -/
  bridgeAt : Nat := 0
  bridgeIn : Bool := false
  /-- D_f of the fault that ended the run: the entries before it are still presented (R144, R230). -/
  cut : Option Nat := none
  /-- Events computed and not yet released. -/
  evs : List EngEv := []
  /-- The loop levels that close as the run reaches END (R133). -/
  endEnds : List Nat := []
  /-- The loop counts after the step that reaches END (R126). -/
  endLcnt : List Nat := []
  /-- A write reached the window or its branch-set area while a scan ran (R166). -/
  scanHit : Bool := false
  /-- The highest BSET, the used set, the tone sets and the failing check of the last scan (R146, R165, R228, R384). -/
  bsetMax : Nat := 0
  used : List Nat := []
  tsets : List Nat := []
  /-- One more than the ball tick of the last word counted in ENG_DROP (R120). -/
  dropped : Nat := 0
  deriving DecidableEq, Repr

/-- A lane beside its registers, as the output stage sees it. -/
structure LaneOut where
  /-- The stretches of ball ticks that R105 withholds from the engines' words: first tick, and the one past the last. -/
  unders : List (Nat × Nat) := []
  /-- SAFE: HOLD idle words from this ball tick (R523), until that one (R524). -/
  safeFrom : Option Nat := none
  safeTo : Option Nat := none
  /-- The fill was at LOW_TK or above when last seen: BEZEL_LOW marks a crossing downward (R104). -/
  ample : Bool := false
  /-- The sideband byte G of the present granule (R343), the present frame and its first tick (R345). -/
  side : Nat := 0
  frame : Nat := 0
  frameAt : Nat := 0
  /-- The outbound LFSR (R313). -/
  lfsr : Nat := 0x7FFFFF
  deriving DecidableEq, Repr

/-- A drive group's grid (R364): the origin a pending START or an ACTIVE channel has fixed. -/
structure Grp where
  fixed : Bool := false
  o : Nat := 0
  /-- Edges of LDAC_N_g whose load is due: their stamp ticks; and the last edge, in sub-ticks (R395). -/
  ldac : List Nat := []
  edge : Option Nat := none
  /-- The ticks at which software strobes load. -/
  sw : List Nat := []
  deriving DecidableEq, Repr

/-- An event at its consumer (R203, R205): consumer class and index, the channel that delivered it, the event. -/
structure Arrival where
  cls : Nat
  index : Nat
  chan : Nat := 0
  ev : Event
  deriving DecidableEq, Repr

/-- A source's DDS (R376 to R382). -/
structure Dds where
  /-- The phase accumulator P, 48 bits. -/
  p : Nat := 0
  /-- The frequency register as the law gives it: the tuning word with 16 fraction bits. -/
  reg : Nat := 0
  /-- The tuning word in use, as limited by R381. -/
  ftw : Nat := 0
  /-- The present amplitude, with 23 + 16 fraction bits. -/
  amp : Nat := 0
  /-- The tone set that runs. -/
  tset : Option Nat := none
  /-- The step's first sample is still to be presented (R377). -/
  fresh : Bool := false
  /-- The ideal start frequency, times 2^48 N in units of 2^-16 Hz, the amplitude at the step's first sample, and the samples since. -/
  f0 : Nat := 0
  a0 : Nat := 0
  k : Nat := 0
  /-- DDS_FCLAMP has been raised for the step. -/
  told : Bool := false
  deriving DecidableEq, Repr

/-- A source of a drive channel (R360, R372). -/
structure Src where
  /-- The last value presented. -/
  last : Int := 0
  /-- An entry of the present run has been presented. -/
  fed : Bool := false
  /-- A source taper: T0, T and the value h. -/
  taper : Option (Nat × Nat × Int) := none
  dds : Dds := {}
  deriving DecidableEq, Repr

/-- A sequence of R400 (1), R401 (2) or R403 (3): its phase, the TB count at which the phase ends, and the range of a
range change. -/
structure Seq where
  kind : Nat
  phase : Nat
  ends : Nat
  range : Nat := 0
  deriving DecidableEq, Repr

/-- A drive channel beside its registers. -/
structure Drv where
  /-- The entry tick of a pending START. -/
  entry : Option Nat := none
  /-- Soft stops to come: T0 and cause. -/
  stops : List (Nat × Nat) := []
  /-- The sample tick last presented; on the fallback oscillator it advances by one period a sample (R82). -/
  vt : Nat := 0
  /-- The entry fade and the channel taper: T0 and T. -/
  fade : Option (Nat × Nat) := none
  ramp : Option (Nat × Nat) := none
  /-- The last sample was limited by sat24. -/
  limited : Bool := false
  /-- The sources A and B (R360). -/
  a : Src := {}
  b : Src := {}
  /-- The sample tick that was last found missing as the Bezel fell below its floor (R106). -/
  under : Option Nat := none
  /-- The drive Bezel covered LOW_SMP samples or more when last seen (R104, R387). -/
  ample : Bool := false
  /-- DIN with its ball tick, the DIN before it, and whether DIN was written since the last load (R397). -/
  din : Nat × Nat := (0x80000, 0)
  din0 : Nat × Nat := (0x80000, 0)
  fresh : Bool := false
  /-- The tick from which R396 counts, and whether LDAC_MISSING is in force. -/
  loadAt : Nat := 0
  missing : Bool := false
  /-- The track-and-hold holds until this tick (R398). -/
  holdTo : Option Nat := none
  /-- A move of C in IDLE or CLEARED: from sample, to sample, T0, T (R400 to R402). -/
  move : Option (Int × Int × Nat × Nat) := none
  seq : Option Seq := none
  /-- The TB count at which the last sequence ended. -/
  seqEnd : Nat := 0
  /-- The Loupe's model (R406), in 2^-16 Loupe LSB: its value at tick `mAt`, and the input it moves toward. -/
  m0 : Int := 0
  mAt : Nat := 0
  mIn : Int := 0
  /-- The running mean of R409, in 2^-24 Loupe LSB. -/
  drift : Int := 0
  /-- The DAC trims, by 2048 times the range plus the item (R393). -/
  trims : List (Nat × Nat) := []
  deriving DecidableEq, Repr

/-- A Loupe node (R407): out-of-tolerance reads in a row, and whether it has reported since its last read in tolerance. -/
structure Node where
  run : Nat := 0
  told : Bool := false
  deriving DecidableEq, Repr

/-- The Loupe (R405): the node the last odd slot read, and whether DEV_THERM_WARN has been raised (R522). -/
structure Loupe where
  node : Nat := 127
  warned : Bool := false
  /-- The TB count since which the hottest sensor has been above SAFE_C (R522). -/
  hot : Option Nat := none
  deriving DecidableEq, Repr

/-- A complex binary32 value, its real and its imaginary part (R431), and a matrix of them. -/
abbrev C32 := BitVec 32 × BitVec 32
abbrev Mat := List (List C32)

/-- A Crown coefficient set (R434): at each line the synthesis factors C, or those of the next pulse X as a column, together with
H⁺. -/
structure CSet where
  pulse : Bool := false
  fac : List Mat := []
  hp : List Mat := []
  deriving DecidableEq, Repr

/-- A swap of a Crown coefficient bank requested for a frame boundary (R434): the boundary's index, the set, and whether the
bank was built and checked at the sample tick. -/
structure CSwap where
  m : Nat
  set : CSet
  ok : Bool := false
  deriving DecidableEq, Repr

/-- A Crown group beside its registers (R421 to R435). -/
structure Crown where
  /-- An accepted start: its start tick. -/
  start : Option Nat := none
  /-- An accepted stop: T0 and cause. -/
  stop : Option (Nat × Nat) := none
  /-- T0 and T of the stop taper of STOPPING, T_s and T of the fade-in. -/
  taper : Option (Nat × Nat) := none
  fade : Option (Nat × Nat) := none
  /-- RESUME waits for the next frame boundary. -/
  resume : Bool := false
  /-- T_s and the index of the frame boundary last reached. -/
  ts : Nat := 0
  m : Nat := 0
  /-- The generation of the first frame's event (R212). -/
  gen : Nat := 0
  /-- The drive samples written and not yet past, before the ramps: tick, one sample per drive; and the tick of the next to
  write. -/
  q : List (Nat × List Int) := []
  next : Nat := 0
  /-- Analysis frames averaged since START or RESUME, and since START. -/
  avg : Nat := 0
  frames : Nat := 0
  /-- The coefficient set in the active bank, the one before the last swap with the swap's tick, and the swaps to come. -/
  set : CSet := {}
  old : Option (CSet × Nat) := none
  swaps : List CSwap := []
  /-- Consecutive boundaries at which ERR exceeded ABORT_DB; whether an alarm of each kind has been raised since its condition
  was last absent for a frame; whether a sample of this frame saturated. -/
  exceeded : Nat := 0
  errTold : Bool := false
  clipTold : Bool := false
  clipNow : Bool := false
  /-- SINE: the trims of the present granule and those they ramp from, per drive. -/
  trim : List Nat := []
  trim0 : List Nat := []
  /-- The samples that the next frames analyse (R426): the drive samples as written, one for each drive, with their ticks; and those of
  the control points, with their ticks and numbers. -/
  sent : List (Nat × List Int) := []
  resp : List (Nat × Nat × Int) := []
  /-- The averaged spectra Gxx, Gyx and Gyy, H, H⁺ and D, at each line (R426, R427, R429), and the LEVEL at which D stands (R428). -/
  gxx : List Mat := []
  gyx : List Mat := []
  gyy : List Mat := []
  h : List Mat := []
  hp : List Mat := []
  d : List Mat := []
  level : Int := 0
  /-- SINE: the tracking filters of the control points (R432). -/
  track : List (Nat × (Cx × Cx)) := []
  deriving DecidableEq, Repr

/-- A sense bank (R415): the sample tick its grid started with. -/
structure Bank where
  first : Option Nat := none
  deriving DecidableEq, Repr

/-- A sense channel beside its registers (R416 to R419). -/
structure Sense where
  /-- The last sample, and whether the modulator had saturated. -/
  y : Int := 0
  ovr : Bool := false
  /-- m of R418, with 32 fraction bits. -/
  m : Nat := 0
  /-- The checkers that have crossed and not re-armed. -/
  crossed : List Nat := []
  /-- The last sample was lost (R417). -/
  losing : Bool := false
  /-- CAP_EN has been set and no sample has been captured since. -/
  cap0 : Bool := true
  deriving DecidableEq, Repr

/-- An equaliser state (R315, R316, R319): CPRE, CPOST, the CTLE code, the eight DFE taps as 8-bit patterns, the CDR phase. -/
structure EqState where
  cpre : Nat := 0
  cpost : Nat := 0
  ctle : Nat := 0
  dfe : List Nat := [0, 0, 0, 0, 0, 0, 0, 0]
  cdr : Nat := 0
  deriving DecidableEq, Repr

/-- An adaptation step that may be reverted (R317): tap (0 CTLE, 1 to 8 DFE), up, TB count, the eye height before it. -/
structure EqStep where
  tap : Nat
  up : Bool
  t : Nat
  height : Nat
  deriving DecidableEq, Repr

/-- A lane's link side beside its registers (R310 to R334). -/
structure LanePhy where
  /-- The TB count of the entry into the present state. -/
  since : Nat := 0
  /-- The departure from SERVICE under way: the boundary, the state it leads to, and the cause (R321). -/
  leave : Option (Nat × Nat × Nat) := none
  /-- The TB count at which its cause was detected. -/
  leaveAt : Nat := 0
  /-- The entry tick, once the alignment or the retrain is complete (R328). -/
  entry : Option Nat := none
  /-- The last departure for DARK was QUAD_DARK from SERVICE or RETRAIN. -/
  fromQuad : Bool := false
  /-- Calibration holds the lane in DARK. -/
  calHold : Bool := false
  /-- Receiver detect (R322): when the running detect started, when the attempt started, whether the next or running detect
  confirms. -/
  detFrom : Option Nat := none
  attempt : Nat := 0
  confirm : Bool := false
  /-- Block lock (R314): blocks with a valid header in a row, and which of the last 64 headers were errors. -/
  okRun : Nat := 0
  bad : List Bool := []
  /-- The interval of R329: its first TB count and the header errors in it. -/
  ivFrom : Nat := 0
  ivErr : Nat := 0
  /-- NEGOTIATE (R339): the lane's offer, the partner's VER blocks, the lane's SEL, the partner's blocks in a row that agree,
  and the TB count at which the agreed rate is taken up. -/
  offer : Nat := 0
  vers : Nat := 0
  sel : Nat := 0
  agree : Nat := 0
  toTrain : Option Nat := none
  /-- The partner has reported its eye as ready (R324, R326); the last REQ_SEQ served (R341). -/
  rdy : Bool := false
  ack : Nat := 0
  /-- The partner's request that waits for an outbound block boundary: PRE, POST, REQ_SEQ; and NAK of the last one (R341). -/
  req : Option (Nat × Nat × Nat) := none
  nak : Bool := false
  /-- The control blocks that wait to be sent, as bytes from P0 on, and the ticks of an outbound block outside SERVICE (R310). -/
  tx : List (List Nat) := []
  rate : Nat := 8
  /-- The TB count since which the inbound eye has met its criteria (R324). -/
  eyeFrom : Option Nat := none
  /-- Round-trip probes (R325): the round, the next probe's identifier, those that wait for their echo, the values of the
  round in 1/64 UI, whether the round trip is agreed, and whether CAPS has been received. -/
  round : Nat := 0
  probe : Nat := 0
  asked : List Nat := []
  rtts : List Nat := []
  agreed : Bool := false
  caps : Bool := false
  /-- The partner identifier held from the last entry into SERVICE (R327). -/
  held : Option Nat := none
  /-- The stored equaliser state and when it was stored (R319); the calibration engine's seeds (R316). -/
  stored : Option EqState := none
  storedAt : Option Nat := none
  seed : EqState := {}
  /-- R317: inbound blocks counted, the count at each DFE tap's last step, the TB count of the last CTLE step, the steps
  under watch, and the steps not to be retried, with the TB count until which. -/
  blocks : Nat := 0
  dfeAt : List (Nat × Nat) := []
  ctleAt : Option Nat := none
  steps : List EqStep := []
  barred : List (Nat × Bool × Nat) := []
  /-- The TB count of the last eye measurement. -/
  eyeAt : Option Nat := none
  /-- The inbound LFSR, and whether a block of SERVICE has been received (R337). -/
  lfsr : Nat := 0x7FFFFF
  inSvc : Bool := false
  /-- The qualifier history (R350): granule start and Q, newest first, at most 4096. -/
  qhist : List (Nat × Nat) := []
  deriving DecidableEq, Repr

/-- A lane of the compare block (R350 to R356): the records that are complete, with their stamps; whether a failing result
has come since CLR; the capture: its tick, its granules, whether its frame has been sent. -/
structure CmpLane where
  recs : List (Stamp × List Nat) := []
  failed : Bool := false
  cap : Option (Nat × Nat) := none
  sent : Bool := false
  deriving DecidableEq, Repr

/-- The fail ring of a Facet (R354): the units queued for the Girdle, the ring, each unit sixteen dwords, and the units
dropped since one was last stored. -/
structure Cmp where
  queue : List (List Nat) := []
  ring : List (List Nat) := []
  lost : Nat := 0
  deriving DecidableEq, Repr

/-- An island's operating point beside its registers (R97, R108): the point requested with the TB count of the request, how far
its move has come (0 waits for a Bezel-safe moment, 1 waits for VMEAS, 2 steps the frequency) and since when, the voltage
commanded, whether FCT_POINT_DEFERRED has been raised for the request, whether FACET_FLL_UNLOCK is armed, and the TB count
since which the clock is back within range; F, the frequency set. -/
structure Isl where
  freq : Nat := 1000
  target : Option (Nat × Nat) := none
  reqAt : Nat := 0
  phase : Nat := 0
  at' : Nat := 0
  volt : Nat := 800
  told : Bool := false
  spent : Bool := false
  back : Option Nat := none
  deriving DecidableEq, Repr

/-- A supply rail (R542): the last voltage written in mV, and the TB count of a write that waits for its acknowledgement. -/
structure Rail where
  mv : Nat := 800
  wait : Option Nat := none
  deriving DecidableEq, Repr

/-- A Girdle stop (R112): its active streams in the three classes, as it gave them to the last census; its deficit counters, by
class plus three times the direction, in 1/256 slot; the stream served last in each class; the slots of each class and direction that
have come by in the period (R111); and the window B accesses queued at it. -/
structure Stop where
  n : List Nat := [0, 0, 0]
  slots : List Nat := [0, 0, 0, 0, 0, 0]
  winB : Nat := 0
  deficit : List Nat := [0, 0, 0, 0, 0, 0]
  last : List Nat := [0, 0, 0]
  deriving DecidableEq, Repr

/-- A bank of a segment store (R113): the port served last, the cycles each port has waited, the cycles a refill write has
waited, and whether the next slot is the second of a read-modify-write. -/
structure StoreBank where
  last : Nat := 0
  waits : List (Nat × Nat) := []
  refill : Nat := 0
  second : Bool := false
  deriving DecidableEq, Repr

/-- The TPLL beside its registers (R69 to R91). Residual phase is kept in 1/5000 ps as of a TB count, and the loop moves it in
SLEW. -/
structure Tpll where
  /-- The device has entered CLOCKING. -/
  started : Bool := false
  /-- Gates passed in a row, and the TB count at which the reference qualified in ACQUIRE. -/
  gates : Nat := 0
  qualAt : Option Nat := none
  /-- The gates of the present LOCKED interval, newest first, at most 1002, in 0.001 ppm. -/
  means : List Int := []
  /-- The TB count of the entry into the present state, or of the present selection of a band. -/
  since : Nat := 0
  res : Int := 0
  resAt : Nat := 0
  /-- A snap: the TB count of its next step, and whether a step has been made. -/
  snap : Option (Nat × Bool) := none
  /-- A sweep: the band and the TB count at which its gate began. -/
  sweep : Option (Nat × Nat) := none
  /-- The mean hub temperature at the entry into HOLDOVER, in 1/64 °C of the sum; the correction made, in 10^-5 / 4096 ppm; the
  TB count of the last correction. -/
  tEntry : Int := 0
  corr : Int := 0
  corrAt : Nat := 0
  /-- Gates REF_AUX has passed in a row; REF_AUX was lost in this HOLDOVER. -/
  auxGates : Nat := 0
  /-- The ratio of REF_AUX to TB at the gates of the present LOCKED interval, newest first, as an offset in 0.001 ppm; and the mean
  that HOLDOVER keeps it at (R74). -/
  ratios : List Int := []
  ratio : Option Int := none
  auxGone : Bool := false
  /-- A slave holds on the UP link (R79); the TPLL state its neighbour last reported. -/
  follow : Bool := false
  upState : Nat := 1
  deriving DecidableEq, Repr

/-- A quad PLL beside its registers (R84 to R86): the TB counts of the entry into ACQUIRE or RELOCK and of the present attempt,
the bands of the relock, with the index of the present one, and whether a calibration run holds the quad OFF (R446). -/
structure Quad where
  since : Nat := 0
  tryAt : Nat := 0
  bands : List Nat := []
  k : Nat := 0
  hold : Bool := false
  deriving DecidableEq, Repr

/-- Bring-up beside its registers (R509 to R521). -/
structure Bring where
  /-- RESET_N is low; the TB count of its release. -/
  held : Bool := false
  released : Option Nat := some 0
  /-- The stage of bring-up that goes on in DEBUG: 4 CLOCKING, 5 TRAINING, 6 none left. -/
  stage : Nat := 4
  trainFrom : Nat := 0
  /-- DEV_CLOCK_WAIT has been raised. -/
  told : Bool := false
  /-- The lane grid tick at which the AF leaves the fallback oscillator (R524). -/
  afBack : Option Nat := none
  /-- The epoch starts at the next tick (R12). -/
  epochNext : Bool := false
  /-- The boot script: its records, the index of the next one, and a POLL or DELAY in progress with the TB count of its end. -/
  script : List (Nat × Nat × Nat) := []
  index : Nat := 0
  whole : Bool := true
  /-- The script's GEN. -/
  gen : Nat := 0
  busy : Option Nat := none
  deriving DecidableEq, Repr

/-- Lustre beside its registers (R460 to R466): the epoch at which a running plan started, the TB count of the next periodic
plan, each island's slack at the plans, newest first, with the plan ticks, and what has been told. -/
structure Lustre where
  start : Option Nat := none
  next : Option Nat := none
  slack : List (Nat × List (Nat × Int)) := []
  projTold : Bool := false
  drifts : List Nat := []
  eyes : List Nat := []
  deriving DecidableEq, Repr

/-- A Fire port (R196, R198): the events queued toward the router, those queued toward its consumers, and whether the last event
that arrived was discarded. Port 0 is the hub: its producers enter the router directly. -/
structure Port where
  send : List Event := []
  recv : List Arrival := []
  /-- Events matched for the port that the router holds until its receiving queue has room. -/
  held : List Arrival := []
  dropping : Bool := false
  deriving DecidableEq, Repr

/-- The event balls `n`: the last edge EVT_IN_n accepted, in sub-ticks; the due ticks of the events that have reached EVT_OUT_n,
and the end of its active pulse (R206, R209). -/
structure EvtBall where
  last : Option Nat := none
  dues : List Nat := []
  stop : Option Nat := none
  deriving DecidableEq, Repr

/-- A journal block (R496): its records, each as the eight dwords of R492, and its trailer. -/
structure Blk where
  recs : List (List Nat) := []
  bseq : Nat := 0
  chain : Nat := 0
  unsealed : Bool := false
  keyId : Nat := 0
  mac : Nat := 0
  deriving DecidableEq, Repr

/-- The journal writer beside its registers (R494 to R500). -/
structure Jrn where
  /-- The chain of this power-on has been started. -/
  started : Bool := false
  chain : Nat := 0
  bseq : Nat := 0
  /-- The records of the block being filled, and the TB count of its first one. -/
  fill : List (List Nat) := []
  since : Nat := 0
  /-- Blocks whose seal is in progress, and sealed blocks not yet consumed, oldest first. -/
  sealing : List Blk := []
  blocks : List Blk := []
  /-- The MAC of the last block, 0 when it is UNSEALED or there is none. -/
  prev : Nat := 0
  /-- A run of UNSEALED blocks has been reported. -/
  told : Bool := false
  /-- Records discarded and not yet reported: their number, the first and the last stamp, the mask of their classes. -/
  lost : Nat := 0
  first : Nat := 0
  last : Nat := 0
  classes : Nat := 0
  /-- Records of a forwarding slave on their way up the chain (R500). -/
  up : List (List Nat) := []
  /-- The bytes of the oldest block that its readers have taken. -/
  taken : Nat := 0
  deriving DecidableEq, Repr

/-- The key vault and debug access beside the SEC registers (R501 to R505): the two keys, the TB count of a first permanent
request, the refusal code the DBG_REQ data register holds. -/
structure Sec where
  jrn : Option Nat := none
  lib : Option Nat := none
  first : Option Nat := none
  tap : Nat := 0
  deriving DecidableEq, Repr

/-- A source read that is outstanding (R254, R262): its first byte in the stream, its length, whether it goes to the host, and the lines
of a Facet's store that it reads: Facet, first and last. -/
structure RflRead where
  k : Nat
  n : Nat
  host : Bool := false
  lines : Option (Nat × Nat × Nat) := none
  deriving DecidableEq, Repr

/-- A refill channel beside its registers (R254 to R281). -/
structure Rfl where
  /-- A ring entry fetch is outstanding; the ring showed an entry without OWN (R265). -/
  fetch : Bool := false
  dry : Bool := false
  /-- Fetches that are still to complete, and whose entry nothing takes. -/
  lateFetch : Nat := 0
  /-- A write-back has been made to the ring, which may still fail on the bus (R266). -/
  wb : Bool := false
  /-- The ring entries that hold SHADOW and ACTIVE. -/
  shSlot : Nat := 0
  slot : Nat := 0
  /-- A descriptor is ACTIVE. -/
  active : Bool := false
  /-- The trigger pending bit: due tick and generation of what set it; software's trigger has none (R267). -/
  trig : Option (Nat × Option Nat) := none
  /-- The ACTIVE descriptor has its trigger, or needs none; the generation its REFILL_DONE carries. -/
  go : Bool := false
  gen : Nat := 0
  /-- The window ACTIVE is bound to, as 32 times the Facet plus the window. -/
  bound : Option Nat := none
  /-- Source bytes asked for; the reads outstanding, oldest first; and those of descriptors that have ended, which are discarded when
  they complete (R277). -/
  asked : Nat := 0
  reads : List RflRead := []
  stale : List RflRead := []
  /-- The funnel: source bytes read and not yet granted a burst; the burst in the write stage. -/
  buf : List Nat := []
  stage : Option (List Nat) := none
  /-- Destination bytes written, and the bytes of a window granule that is not complete. -/
  written : Nat := 0
  part : List Nat := []
  /-- The running CRC (R270). -/
  crc : Nat := 0xFFFFFFFF
  /-- Decryption (R273): GHASH over the whole blocks and the bytes of the block begun; the tag's bytes read; the tag matches. -/
  ghash : Nat × List Nat := (0, [])
  tag : List Nat := []
  tagOk : Bool := false
  /-- The barrier is met; the CRC word is written; the close has been issued, with its result. -/
  barrier : Bool := false
  crcSent : Bool := false
  closing : Bool := false
  closed : Option Nat := none
  /-- The write-back held back by HOST_LOST (R279): the ring entry and the dwords STATUS, RESIDUE, CRC_RESULT, DONE_LO, DONE_HI. -/
  held : Option (Nat × List Nat) := none
  /-- The cause that halted the channel last. -/
  cause : Nat := 0
  deriving DecidableEq, Repr

/-- The burst scheduler (R274): the channel served last and the guard counter, of each class. -/
structure Bursts where
  last : List Nat := [63, 63, 63, 63]
  guard : List Nat := [0, 0, 0, 0]
  deriving DecidableEq, Repr

/-- A calibration run (R441 to R447): what it measures, the run it is in (1, 2; 3 while a channel returns to IDLE), the TB count of
its start and of the present run, what run 1 gave, the records of a TPLL_TC run, the quad's bin at the start, and whether a precondition
that holds throughout has failed meanwhile. -/
structure CalRun where
  item : Nat
  unit : Nat
  sub : Nat
  apply : Bool
  phase : Nat := 1
  since : Nat
  from' : Nat
  wasIdle : Bool := false
  first : List Int := []
  recs : List (Int × Int) := []
  bin : Nat := 0
  lost : Bool := false
  deriving DecidableEq, Repr

/-- A store (R452): the slot, its GEN, the payload, the flash command it waits for, and whether that has been issued. -/
structure CalStore where
  slot : Nat
  gen : Nat
  payload : List Nat
  k : Nat := 0
  issued : Bool := false
  deriving DecidableEq, Repr

/-- The calibration engine beside its registers: the image and the trims in force that no register shows, by item, unit and sub;
the accepted results that wait for their unit, by item and unit (R446);
the software flash command in progress, with its address; whether the supply monitor has tripped. -/
structure Cal where
  run : Option CalRun := none
  image : List (Nat × List Nat) := []
  work : List (Nat × List Nat) := []
  later : List (Nat × Nat × List Nat) := []
  store : Option CalStore := none
  fl : Option (Nat × Nat) := none
  low : Bool := false
  deriving DecidableEq, Repr

/-- A cascade port (R470, R471): the TB count of its state's start, the TB count before which it does not detect, the messages
queued (kind, payload), the blocks sent since the last JRN block, whether half of a record has gone, whether the neighbour has
named its address, the neighbour's turnaround, and for each lane whether its last 64 headers were errors, newest first (R314). -/
structure CasPort where
  since : Nat := 0
  notBefore : Nat := 0
  queue : List (Nat × List Nat) := []
  noJrn : Nat := 0
  half : Bool := false
  named : Bool := false
  turn : Nat := 0
  hdrs0 : List Bool := []
  hdrs1 : List Bool := []
  deriving DecidableEq, Repr

/-- A target of an alignment (R478): S, its path, its phase (0 waits for SYNC_IN, 1 for the TIME message of step 5, 2 removes θ,
3 waits for the last TIME message), the TB counts of ALIGN(S) and of the last step, the ticks it stepped by, and the θ still to be
removed, in ps. -/
structure CasAlign where
  sAt : Nat
  slew : Bool
  phase : Nat
  since : Nat
  stepAt : Nat := 0
  jump : Int := 0
  rest : Int := 0
  deriving DecidableEq, Repr

/-- The cascade beside its registers (R469 to R491). -/
structure Cas where
  /-- The value of the last good frame on ENUM_IN; the TB count of the last frame sent. -/
  frame : Option Nat := none
  frameAt : Nat := 0
  /-- The TB count at which TIME and STATUS were last sent. -/
  timeAt : Option Nat := none
  /-- Bit n: the STATUS of address n has come in this TIME interval, and in the one before. -/
  heard : Nat := 0
  heardWas : Nat := 0
  /-- The master's alignment: S, the mask of its targets, the mask of those that have reported, whether SYNC_OUT has pulsed. -/
  align : Option (Nat × Nat × Nat × Bool) := none
  target : Option CasAlign := none
  /-- The result the slave reports in STATUS. -/
  result : Nat := 0
  /-- The last θ in ps; TIME messages in a row with |θ| above ALIGN_TOL. -/
  theta : Option Int := none
  exceeded : Nat := 0
  /-- The TB count at which the UP port left SERVICE. -/
  outAt : Option Nat := none
  /-- The TB count of the tunnelled access outstanding. -/
  tunAt : Option Nat := none
  /-- Echoes of the probes of a skew run, or of d_UP's own measurement: their number, and the sum of RTT − turnaround − K. -/
  echoes : Nat := 0
  sum : Int := 0
  measuring : Bool := false
  /-- How far the alignment has moved the TB phase, in ps (R478, R481). -/
  moved : Int := 0
  /-- A stepped target counts before its alignment completes (R478). -/
  counting : Bool := false
  deriving DecidableEq, Repr
end Sys2Proof.Machine
end

