-- ==== Sys2Proof/Machine/State.lean ====
section
/-!
DEFINITION. Machine/State.lean: the state of the block as plain data, the reasons it can stop, and its state after reset.
`epoch` and `tb` are time, `mem` the addressed memories, `chip` every register, queue, table and mode, and `pending` the
queue of waiting commands.
-/

namespace Sys2Proof.Machine

/-- The reasons a step could fault.  None is raised by any meaning: the spec gives every command an effect or says that
it has none. -/
inductive Fault where
  /-- Reserved for an access the spec calls impossible; no meaning raises it.  Safe. -/
  | impossible
  deriving DecidableEq, Repr

/-- The reasons a command has no meaning here. -/
inductive Refusal where
  /-- Raised only by an arm of `exec` whose command is not modelled yet.  Safe: nothing is claimed of it. -/
  | notModelled (mnemonic : String)
  deriving DecidableEq, Repr

/-- The addressed memories, each a canonical list of bytes (R48, R255, R448). An unlisted byte of window B and of the
AF buffers reads 0, an unlisted byte of the flash reads 0xFF (erased). -/
structure Mem where
  /-- Window B: store payload, side bits and step memory of the 32 Facets (R48). -/
  winB : List Host.Cell := []
  /-- The AF buffer space (R255). -/
  af : List Host.Cell := []
  /-- The SPI flash (R449). -/
  flash : List Host.Cell := []
  deriving DecidableEq, Repr

/-- Every register, queue, table and mode of the block. -/
structure Chip where
  /-- The stored register fields that do not read their reset value, by field key. -/
  regs : List (Nat × Nat) := []
  /-- The active copies of shadowed (RWS) fields, by field key. -/
  acts : List (Nat × Nat) := []
  /-- The keys of the dirty shadowed fields (R54). -/
  dirty : List Nat := []
  /-- Commit and lock state, by page number. -/
  pages : List (Nat × PageSt) := []
  /-- The holding registers of LO/HI pairs, by twice the address of the LO register, plus 1 for the tunnel (R32). -/
  latch : List (Nat × Nat) := []
  /-- The timebase. -/
  tbu : Tb := {}
  /-- The host attachment. -/
  hostp : HostPort := {}
  /-- The journal records on their way to the writer, oldest first. -/
  recs : List Rec := []
  /-- The events producers have stamped, on their way to their sending port, oldest first. -/
  prodq : List Event := []
  /-- What the block has sent out, oldest first. -/
  out : List Out := []
  /-- The model's own counter of free values drawn (no state of the spec). -/
  freeCtr : Nat := 0
  /-- The power domains, by number (R526). -/
  dom : List (Nat × Dom) := []
  /-- The segment directory, by 8192 times the Facet plus the entry (R224). -/
  dir : List (Nat × DirEnt) := []
  /-- The segment stores, by Facet. -/
  store : List (Nat × Store) := []
  /-- The stream windows, by 32 times the Facet plus the window. -/
  win : List (Nat × Win) := []
  /-- The double-banked tables: APG a at a, lane l at 128 + l, phase table g at 384 + g. -/
  tab : List (Nat × Tab) := []
  /-- The APGs. -/
  apg : List (Nat × Apg) := []
  /-- The sequence engines. -/
  eng : List (Nat × Eng) := []
  /-- The lanes' output stages. -/
  lout : List (Nat × LaneOut) := []
  /-- The drive groups' grids. -/
  grp : List (Nat × Grp) := []
  /-- The marker balls: 0 free, else 1 plus 4 times the engine plus the marker bit that claims it (R130). -/
  ballClaim : List (Nat × Nat) := []
  /-- The marker balls: 1 plus the hand-over tick at which the present claim is released, 0 for none (R130). -/
  ballOut : List (Nat × Nat) := []
  /-- The marker balls: 1 plus the TB count of the COMMIT.ARM that claimed it, 0 for none (R130). -/
  ballTb : List (Nat × Nat) := []
  /-- The events delivered to their consumers and not yet taken by them, oldest first. -/
  arrivals : List Arrival := []
  /-- The drive channels. -/
  drv : List (Nat × Drv) := []
  /-- The Loupe nodes. -/
  node : List (Nat × Node) := []
  /-- The Loupe. -/
  loupe : Loupe := {}
  /-- The Crown groups. -/
  crown : List (Nat × Crown) := []
  /-- The sense banks. -/
  bank : List (Nat × Bank) := []
  /-- The sense channels. -/
  sense : List (Nat × Sense) := []
  /-- The level of the outbound pins: marker ball n at n (R132), EVT_OUT_n at 16 + n (R212), SYNC_OUT at 32 (R476). -/
  pin : List (Nat × Nat) := []
  /-- The lanes' links. -/
  lphy : List (Nat × LanePhy) := []
  /-- The compare blocks, by lane. -/
  cmpl : List (Nat × CmpLane) := []
  /-- The fail rings, by Facet. -/
  cmp : List (Nat × Cmp) := []
  /-- The operating points, by island (0 to 31 the Facets, 32 the AF). -/
  isl : List (Nat × Isl) := []
  /-- The supply rails. -/
  rail : List (Nat × Rail) := []
  /-- The Girdle stops. -/
  stop : List (Nat × Stop) := []
  /-- The ring totals of the last census, by class (R112). -/
  totals : List (Nat × Nat) := []
  /-- The banks of the segment stores, by 4 times the Facet plus the bank. -/
  sbank : List (Nat × StoreBank) := []
  /-- The TPLL. -/
  tpll : Tpll := {}
  /-- The quad PLLs. -/
  quad : List (Nat × Quad) := []
  /-- Bring-up. -/
  bring : Bring := {}
  /-- Lustre. -/
  lustre : Lustre := {}
  /-- The Fire ports, by Girdle stop. -/
  port : List (Nat × Port) := []
  /-- The event balls. -/
  evtb : List (Nat × EvtBall) := []
  /-- The route slots, by twice the producer identifier plus the slot: EN in bit 31, SPAN in bits 14 to 12, CHANNEL in bits 9 to 0 (R201). -/
  route : List (Nat × Nat) := []
  /-- The software fires accepted and not yet matched, oldest first (R207). -/
  swq : List Arrival := []
  /-- The next tick of a periodic timer (R208). -/
  timer : List (Nat × Nat) := []
  /-- The journal writer. -/
  journal : Jrn := {}
  /-- The key vault and debug access. -/
  sec : Sec := {}
  /-- The refill channels. -/
  rflc : List (Nat × Rfl) := []
  /-- The burst scheduler. -/
  bursts : Bursts := {}
  /-- The calibration engine. -/
  cal : Cal := {}
  /-- The cascade ports: 0 UP, 1 DOWN. -/
  casPort : List (Nat × CasPort) := []
  /-- The cascade. -/
  cas : Cas := {}
  /-- Shadowed fields that their owner has taken before its hand-over tick: the field's key, the hand-over tick D, and the value in force before D (R57). -/
  lags : List (Nat × Nat × Nat) := []
  deriving DecidableEq, Repr

/-- The state of the block. -/
structure State where
  /-- The epoch counter of R11 (64 bits). -/
  epoch : Nat := 0
  /-- TB periods since reset: the measure of every duration. -/
  tb : Nat := 0
  mem : Mem := {}
  chip : Chip := {}
  /-- The commands that wait, first in, first out. -/
  pending : List Instr := []
  deriving DecidableEq, Repr

/-- The block right after reset: no register is written, so each reads its reset value; the memories list nothing; no
command waits. -/
def State.reset : State := {}

end Sys2Proof.Machine
end

