-- ==== Sys2Proof/Machine/Cells.lean ====
section
/-!
DEFINITION. Machine/Cells.lean: the accessors of State, one reader and one writer per piece of state; every meaning reads
and writes the state through them.
-/

namespace Sys2Proof.Machine

/-- The state with regs replaced. -/
def State.withRegs (s : State) (x : List (Nat × Nat)) : State :=
  { s with chip := { s.chip with regs := x } }

/-- The state with acts replaced. -/
def State.withActs (s : State) (x : List (Nat × Nat)) : State :=
  { s with chip := { s.chip with acts := x } }

/-- The keys of the dirty shadowed fields (R54). -/
def State.dirty (s : State) : List Nat := s.chip.dirty

/-- The state with dirty replaced. -/
def State.setDirty (s : State) (x : List Nat) : State :=
  { s with chip := { s.chip with dirty := x } }

/-- Commit and lock state, by page number: the one of unit `i`. -/
def State.pages (s : State) (i : Nat) : PageSt := Sparse.get {} s.chip.pages i

/-- The state with pages of unit `i` replaced. -/
def State.setPages (s : State) (i : Nat) (x : PageSt) : State :=
  { s with chip := { s.chip with pages := Sparse.set s.chip.pages i x } }

/-- The state with pages of unit `i` changed by `f`. -/
def State.modPages (s : State) (i : Nat) (f : PageSt → PageSt) : State := s.setPages i (f (s.pages i))

/-- The holding registers of LO/HI pairs, by twice the address of the LO register, plus 1 for the tunnel (R32): the one of unit `i`. -/
def State.latch (s : State) (i : Nat) : Nat := Sparse.get 0 s.chip.latch i

/-- The state with latch of unit `i` replaced. -/
def State.setLatch (s : State) (i : Nat) (x : Nat) : State :=
  { s with chip := { s.chip with latch := Sparse.set s.chip.latch i x } }

/-- The state with latch of unit `i` changed by `f`. -/
def State.modLatch (s : State) (i : Nat) (f : Nat → Nat) : State := s.setLatch i (f (s.latch i))

/-- The timebase. -/
def State.tbu (s : State) : Tb := s.chip.tbu

/-- The state with tbu replaced. -/
def State.setTbu (s : State) (x : Tb) : State :=
  { s with chip := { s.chip with tbu := x } }

/-- The state with tbu changed by `f`. -/
def State.modTbu (s : State) (f : Tb → Tb) : State := s.setTbu (f s.tbu)

/-- The host attachment. -/
def State.hostp (s : State) : HostPort := s.chip.hostp

/-- The state with hostp replaced. -/
def State.setHostp (s : State) (x : HostPort) : State :=
  { s with chip := { s.chip with hostp := x } }

/-- The state with hostp changed by `f`. -/
def State.modHostp (s : State) (f : HostPort → HostPort) : State := s.setHostp (f s.hostp)

/-- The journal records on their way to the writer, oldest first. -/
def State.recs (s : State) : List Rec := s.chip.recs

/-- The state with recs replaced. -/
def State.setRecs (s : State) (x : List Rec) : State :=
  { s with chip := { s.chip with recs := x } }

/-- The events producers have stamped, on their way to their sending port, oldest first. -/
def State.prodq (s : State) : List Event := s.chip.prodq

/-- The state with prodq replaced. -/
def State.setProdq (s : State) (x : List Event) : State :=
  { s with chip := { s.chip with prodq := x } }

/-- What the block has sent out, oldest first. -/
def State.out (s : State) : List Out := s.chip.out

/-- The state with out replaced. -/
def State.setOut (s : State) (x : List Out) : State :=
  { s with chip := { s.chip with out := x } }

/-- The model's own counter of free values drawn (no state of the spec). -/
def State.freeCtr (s : State) : Nat := s.chip.freeCtr

/-- The state with freeCtr replaced. -/
def State.setFreeCtr (s : State) (x : Nat) : State :=
  { s with chip := { s.chip with freeCtr := x } }

/-- The power domains, by number (R526): the one of unit `i`. -/
def State.dom (s : State) (i : Nat) : Dom := Sparse.get {} s.chip.dom i

/-- The state with dom of unit `i` replaced. -/
def State.setDom (s : State) (i : Nat) (x : Dom) : State :=
  { s with chip := { s.chip with dom := Sparse.set s.chip.dom i x } }

/-- The state with dom of unit `i` changed by `f`. -/
def State.modDom (s : State) (i : Nat) (f : Dom → Dom) : State := s.setDom i (f (s.dom i))

/-- The segment directory, by 8192 times the Facet plus the entry (R224): the one of unit `i`. -/
def State.dir (s : State) (i : Nat) : DirEnt := Sparse.get {} s.chip.dir i

/-- The state with dir of unit `i` replaced. -/
def State.setDir (s : State) (i : Nat) (x : DirEnt) : State :=
  { s with chip := { s.chip with dir := Sparse.set s.chip.dir i x } }

/-- The state with dir of unit `i` changed by `f`. -/
def State.modDir (s : State) (i : Nat) (f : DirEnt → DirEnt) : State := s.setDir i (f (s.dir i))

/-- The segment stores, by Facet: the one of unit `i`. -/
def State.store (s : State) (i : Nat) : Store := Sparse.get {} s.chip.store i

/-- The state with store of unit `i` replaced. -/
def State.setStore (s : State) (i : Nat) (x : Store) : State :=
  { s with chip := { s.chip with store := Sparse.set s.chip.store i x } }

/-- The state with store of unit `i` changed by `f`. -/
def State.modStore (s : State) (i : Nat) (f : Store → Store) : State := s.setStore i (f (s.store i))

/-- The stream windows, by 32 times the Facet plus the window: the one of unit `i`. -/
def State.win (s : State) (i : Nat) : Win := Sparse.get {} s.chip.win i

/-- The state with win of unit `i` replaced. -/
def State.setWin (s : State) (i : Nat) (x : Win) : State :=
  { s with chip := { s.chip with win := Sparse.set s.chip.win i x } }

/-- The state with win of unit `i` changed by `f`. -/
def State.modWin (s : State) (i : Nat) (f : Win → Win) : State := s.setWin i (f (s.win i))

/-- The double-banked tables: APG a at a, lane l at 128 + l, phase table g at 384 + g: the one of unit `i`. -/
def State.tab (s : State) (i : Nat) : Tab := Sparse.get {} s.chip.tab i

/-- The state with tab of unit `i` replaced. -/
def State.setTab (s : State) (i : Nat) (x : Tab) : State :=
  { s with chip := { s.chip with tab := Sparse.set s.chip.tab i x } }

/-- The state with tab of unit `i` changed by `f`. -/
def State.modTab (s : State) (i : Nat) (f : Tab → Tab) : State := s.setTab i (f (s.tab i))

/-- The APGs: the one of unit `i`. -/
def State.apg (s : State) (i : Nat) : Apg := Sparse.get {} s.chip.apg i

/-- The state with apg of unit `i` replaced. -/
def State.setApg (s : State) (i : Nat) (x : Apg) : State :=
  { s with chip := { s.chip with apg := Sparse.set s.chip.apg i x } }

/-- The state with apg of unit `i` changed by `f`. -/
def State.modApg (s : State) (i : Nat) (f : Apg → Apg) : State := s.setApg i (f (s.apg i))

/-- The sequence engines: the one of unit `i`. -/
def State.eng (s : State) (i : Nat) : Eng := Sparse.get {} s.chip.eng i

/-- The state with eng of unit `i` replaced. -/
def State.setEng (s : State) (i : Nat) (x : Eng) : State :=
  { s with chip := { s.chip with eng := Sparse.set s.chip.eng i x } }

/-- The state with eng of unit `i` changed by `f`. -/
def State.modEng (s : State) (i : Nat) (f : Eng → Eng) : State := s.setEng i (f (s.eng i))

/-- The lanes' output stages: the one of unit `i`. -/
def State.lout (s : State) (i : Nat) : LaneOut := Sparse.get {} s.chip.lout i

/-- The state with lout of unit `i` replaced. -/
def State.setLout (s : State) (i : Nat) (x : LaneOut) : State :=
  { s with chip := { s.chip with lout := Sparse.set s.chip.lout i x } }

/-- The state with lout of unit `i` changed by `f`. -/
def State.modLout (s : State) (i : Nat) (f : LaneOut → LaneOut) : State := s.setLout i (f (s.lout i))

/-- The drive groups' grids: the one of unit `i`. -/
def State.grp (s : State) (i : Nat) : Grp := Sparse.get {} s.chip.grp i

/-- The state with grp of unit `i` replaced. -/
def State.setGrp (s : State) (i : Nat) (x : Grp) : State :=
  { s with chip := { s.chip with grp := Sparse.set s.chip.grp i x } }

/-- The state with grp of unit `i` changed by `f`. -/
def State.modGrp (s : State) (i : Nat) (f : Grp → Grp) : State := s.setGrp i (f (s.grp i))

/-- The marker balls: 0 free, else 1 plus 4 times the engine plus the marker bit that claims it (R130): the one of unit `i`. -/
def State.ballClaim (s : State) (i : Nat) : Nat := Sparse.get 0 s.chip.ballClaim i

/-- The state with ballClaim of unit `i` replaced. -/
def State.setBallClaim (s : State) (i : Nat) (x : Nat) : State :=
  { s with chip := { s.chip with ballClaim := Sparse.set s.chip.ballClaim i x } }

/-- The state with ballClaim of unit `i` changed by `f`. -/
def State.modBallClaim (s : State) (i : Nat) (f : Nat → Nat) : State := s.setBallClaim i (f (s.ballClaim i))

/-- The marker balls: 1 plus the hand-over tick at which the present claim is released, 0 for none (R130): the one of unit `i`. -/
def State.ballOut (s : State) (i : Nat) : Nat := Sparse.get 0 s.chip.ballOut i

/-- The state with ballOut of unit `i` replaced. -/
def State.setBallOut (s : State) (i : Nat) (x : Nat) : State :=
  { s with chip := { s.chip with ballOut := Sparse.set s.chip.ballOut i x } }

/-- The state with ballOut of unit `i` changed by `f`. -/
def State.modBallOut (s : State) (i : Nat) (f : Nat → Nat) : State := s.setBallOut i (f (s.ballOut i))

/-- The marker balls: 1 plus the TB count of the COMMIT.ARM that claimed it, 0 for none (R130): the one of unit `i`. -/
def State.ballTb (s : State) (i : Nat) : Nat := Sparse.get 0 s.chip.ballTb i

/-- The state with ballTb of unit `i` replaced. -/
def State.setBallTb (s : State) (i : Nat) (x : Nat) : State :=
  { s with chip := { s.chip with ballTb := Sparse.set s.chip.ballTb i x } }

/-- The state with ballTb of unit `i` changed by `f`. -/
def State.modBallTb (s : State) (i : Nat) (f : Nat → Nat) : State := s.setBallTb i (f (s.ballTb i))

/-- The events delivered to their consumers and not yet taken by them, oldest first. -/
def State.arrivals (s : State) : List Arrival := s.chip.arrivals

/-- The state with arrivals replaced. -/
def State.setArrivals (s : State) (x : List Arrival) : State :=
  { s with chip := { s.chip with arrivals := x } }

/-- The drive channels: the one of unit `i`. -/
def State.drv (s : State) (i : Nat) : Drv := Sparse.get {} s.chip.drv i

/-- The state with drv of unit `i` replaced. -/
def State.setDrv (s : State) (i : Nat) (x : Drv) : State :=
  { s with chip := { s.chip with drv := Sparse.set s.chip.drv i x } }

/-- The state with drv of unit `i` changed by `f`. -/
def State.modDrv (s : State) (i : Nat) (f : Drv → Drv) : State := s.setDrv i (f (s.drv i))

/-- The Loupe nodes: the one of unit `i`. -/
def State.node (s : State) (i : Nat) : Node := Sparse.get {} s.chip.node i

/-- The state with node of unit `i` replaced. -/
def State.setNode (s : State) (i : Nat) (x : Node) : State :=
  { s with chip := { s.chip with node := Sparse.set s.chip.node i x } }

/-- The state with node of unit `i` changed by `f`. -/
def State.modNode (s : State) (i : Nat) (f : Node → Node) : State := s.setNode i (f (s.node i))

/-- The Loupe. -/
def State.loupe (s : State) : Loupe := s.chip.loupe

/-- The state with loupe replaced. -/
def State.setLoupe (s : State) (x : Loupe) : State :=
  { s with chip := { s.chip with loupe := x } }

/-- The state with loupe changed by `f`. -/
def State.modLoupe (s : State) (f : Loupe → Loupe) : State := s.setLoupe (f s.loupe)

/-- The Crown groups: the one of unit `i`. -/
def State.crown (s : State) (i : Nat) : Crown := Sparse.get {} s.chip.crown i

/-- The state with crown of unit `i` replaced. -/
def State.setCrown (s : State) (i : Nat) (x : Crown) : State :=
  { s with chip := { s.chip with crown := Sparse.set s.chip.crown i x } }

/-- The state with crown of unit `i` changed by `f`. -/
def State.modCrown (s : State) (i : Nat) (f : Crown → Crown) : State := s.setCrown i (f (s.crown i))

/-- The sense banks: the one of unit `i`. -/
def State.bank (s : State) (i : Nat) : Bank := Sparse.get {} s.chip.bank i

/-- The state with bank of unit `i` replaced. -/
def State.setBank (s : State) (i : Nat) (x : Bank) : State :=
  { s with chip := { s.chip with bank := Sparse.set s.chip.bank i x } }

/-- The state with bank of unit `i` changed by `f`. -/
def State.modBank (s : State) (i : Nat) (f : Bank → Bank) : State := s.setBank i (f (s.bank i))

/-- The sense channels: the one of unit `i`. -/
def State.sense (s : State) (i : Nat) : Sense := Sparse.get {} s.chip.sense i

/-- The state with sense of unit `i` replaced. -/
def State.setSense (s : State) (i : Nat) (x : Sense) : State :=
  { s with chip := { s.chip with sense := Sparse.set s.chip.sense i x } }

/-- The state with sense of unit `i` changed by `f`. -/
def State.modSense (s : State) (i : Nat) (f : Sense → Sense) : State := s.setSense i (f (s.sense i))

/-- The level of the outbound pins: marker ball n at n (R132), EVT_OUT_n at 16 + n (R212), SYNC_OUT at 32 (R476): the one of unit `i`. -/
def State.pin (s : State) (i : Nat) : Nat := Sparse.get 0 s.chip.pin i

/-- The state with pin of unit `i` replaced. -/
def State.setPin (s : State) (i : Nat) (x : Nat) : State :=
  { s with chip := { s.chip with pin := Sparse.set s.chip.pin i x } }

/-- The state with pin of unit `i` changed by `f`. -/
def State.modPin (s : State) (i : Nat) (f : Nat → Nat) : State := s.setPin i (f (s.pin i))

/-- The lanes' links: the one of unit `i`. -/
def State.lphy (s : State) (i : Nat) : LanePhy := Sparse.get {} s.chip.lphy i

/-- The state with lphy of unit `i` replaced. -/
def State.setLphy (s : State) (i : Nat) (x : LanePhy) : State :=
  { s with chip := { s.chip with lphy := Sparse.set s.chip.lphy i x } }

/-- The state with lphy of unit `i` changed by `f`. -/
def State.modLphy (s : State) (i : Nat) (f : LanePhy → LanePhy) : State := s.setLphy i (f (s.lphy i))

/-- The compare blocks, by lane: the one of unit `i`. -/
def State.cmpl (s : State) (i : Nat) : CmpLane := Sparse.get {} s.chip.cmpl i

/-- The state with cmpl of unit `i` replaced. -/
def State.setCmpl (s : State) (i : Nat) (x : CmpLane) : State :=
  { s with chip := { s.chip with cmpl := Sparse.set s.chip.cmpl i x } }

/-- The state with cmpl of unit `i` changed by `f`. -/
def State.modCmpl (s : State) (i : Nat) (f : CmpLane → CmpLane) : State := s.setCmpl i (f (s.cmpl i))

/-- The fail rings, by Facet: the one of unit `i`. -/
def State.cmp (s : State) (i : Nat) : Cmp := Sparse.get {} s.chip.cmp i

/-- The state with cmp of unit `i` replaced. -/
def State.setCmp (s : State) (i : Nat) (x : Cmp) : State :=
  { s with chip := { s.chip with cmp := Sparse.set s.chip.cmp i x } }

/-- The state with cmp of unit `i` changed by `f`. -/
def State.modCmp (s : State) (i : Nat) (f : Cmp → Cmp) : State := s.setCmp i (f (s.cmp i))

/-- The operating points, by island (0 to 31 the Facets, 32 the AF): the one of unit `i`. -/
def State.isl (s : State) (i : Nat) : Isl := Sparse.get {} s.chip.isl i

/-- The state with isl of unit `i` replaced. -/
def State.setIsl (s : State) (i : Nat) (x : Isl) : State :=
  { s with chip := { s.chip with isl := Sparse.set s.chip.isl i x } }

/-- The state with isl of unit `i` changed by `f`. -/
def State.modIsl (s : State) (i : Nat) (f : Isl → Isl) : State := s.setIsl i (f (s.isl i))

/-- The supply rails: the one of unit `i`. -/
def State.rail (s : State) (i : Nat) : Rail := Sparse.get {} s.chip.rail i

/-- The state with rail of unit `i` replaced. -/
def State.setRail (s : State) (i : Nat) (x : Rail) : State :=
  { s with chip := { s.chip with rail := Sparse.set s.chip.rail i x } }

/-- The state with rail of unit `i` changed by `f`. -/
def State.modRail (s : State) (i : Nat) (f : Rail → Rail) : State := s.setRail i (f (s.rail i))

/-- The Girdle stops: the one of unit `i`. -/
def State.stop (s : State) (i : Nat) : Stop := Sparse.get {} s.chip.stop i

/-- The state with stop of unit `i` replaced. -/
def State.setStop (s : State) (i : Nat) (x : Stop) : State :=
  { s with chip := { s.chip with stop := Sparse.set s.chip.stop i x } }

/-- The state with stop of unit `i` changed by `f`. -/
def State.modStop (s : State) (i : Nat) (f : Stop → Stop) : State := s.setStop i (f (s.stop i))

/-- The ring totals of the last census, by class (R112): the one of unit `i`. -/
def State.totals (s : State) (i : Nat) : Nat := Sparse.get 0 s.chip.totals i

/-- The state with totals of unit `i` replaced. -/
def State.setTotals (s : State) (i : Nat) (x : Nat) : State :=
  { s with chip := { s.chip with totals := Sparse.set s.chip.totals i x } }

/-- The state with totals of unit `i` changed by `f`. -/
def State.modTotals (s : State) (i : Nat) (f : Nat → Nat) : State := s.setTotals i (f (s.totals i))

/-- The banks of the segment stores, by 4 times the Facet plus the bank: the one of unit `i`. -/
def State.sbank (s : State) (i : Nat) : StoreBank := Sparse.get {} s.chip.sbank i

/-- The state with sbank of unit `i` replaced. -/
def State.setSbank (s : State) (i : Nat) (x : StoreBank) : State :=
  { s with chip := { s.chip with sbank := Sparse.set s.chip.sbank i x } }

/-- The state with sbank of unit `i` changed by `f`. -/
def State.modSbank (s : State) (i : Nat) (f : StoreBank → StoreBank) : State := s.setSbank i (f (s.sbank i))

/-- The TPLL. -/
def State.tpll (s : State) : Tpll := s.chip.tpll

/-- The state with tpll replaced. -/
def State.setTpll (s : State) (x : Tpll) : State :=
  { s with chip := { s.chip with tpll := x } }

/-- The state with tpll changed by `f`. -/
def State.modTpll (s : State) (f : Tpll → Tpll) : State := s.setTpll (f s.tpll)

/-- The quad PLLs: the one of unit `i`. -/
def State.quad (s : State) (i : Nat) : Quad := Sparse.get {} s.chip.quad i

/-- The state with quad of unit `i` replaced. -/
def State.setQuad (s : State) (i : Nat) (x : Quad) : State :=
  { s with chip := { s.chip with quad := Sparse.set s.chip.quad i x } }

/-- The state with quad of unit `i` changed by `f`. -/
def State.modQuad (s : State) (i : Nat) (f : Quad → Quad) : State := s.setQuad i (f (s.quad i))

/-- Bring-up. -/
def State.bring (s : State) : Bring := s.chip.bring

/-- The state with bring replaced. -/
def State.setBring (s : State) (x : Bring) : State :=
  { s with chip := { s.chip with bring := x } }

/-- The state with bring changed by `f`. -/
def State.modBring (s : State) (f : Bring → Bring) : State := s.setBring (f s.bring)

/-- Lustre. -/
def State.lustre (s : State) : Lustre := s.chip.lustre

/-- The state with lustre replaced. -/
def State.setLustre (s : State) (x : Lustre) : State :=
  { s with chip := { s.chip with lustre := x } }

/-- The state with lustre changed by `f`. -/
def State.modLustre (s : State) (f : Lustre → Lustre) : State := s.setLustre (f s.lustre)

/-- The Fire ports, by Girdle stop: the one of unit `i`. -/
def State.port (s : State) (i : Nat) : Port := Sparse.get {} s.chip.port i

/-- The state with port of unit `i` replaced. -/
def State.setPort (s : State) (i : Nat) (x : Port) : State :=
  { s with chip := { s.chip with port := Sparse.set s.chip.port i x } }

/-- The state with port of unit `i` changed by `f`. -/
def State.modPort (s : State) (i : Nat) (f : Port → Port) : State := s.setPort i (f (s.port i))

/-- The event balls: the one of unit `i`. -/
def State.evtb (s : State) (i : Nat) : EvtBall := Sparse.get {} s.chip.evtb i

/-- The state with evtb of unit `i` replaced. -/
def State.setEvtb (s : State) (i : Nat) (x : EvtBall) : State :=
  { s with chip := { s.chip with evtb := Sparse.set s.chip.evtb i x } }

/-- The state with evtb of unit `i` changed by `f`. -/
def State.modEvtb (s : State) (i : Nat) (f : EvtBall → EvtBall) : State := s.setEvtb i (f (s.evtb i))

/-- The route slots, by twice the producer identifier plus the slot: EN in bit 31, SPAN in bits 14 to 12, CHANNEL in bits 9 to 0 (R201): the one of unit `i`. -/
def State.route (s : State) (i : Nat) : Nat := Sparse.get 0 s.chip.route i

/-- The state with route of unit `i` replaced. -/
def State.setRoute (s : State) (i : Nat) (x : Nat) : State :=
  { s with chip := { s.chip with route := Sparse.set s.chip.route i x } }

/-- The state with route of unit `i` changed by `f`. -/
def State.modRoute (s : State) (i : Nat) (f : Nat → Nat) : State := s.setRoute i (f (s.route i))

/-- The software fires accepted and not yet matched, oldest first (R207). -/
def State.swq (s : State) : List Arrival := s.chip.swq

/-- The state with swq replaced. -/
def State.setSwq (s : State) (x : List Arrival) : State :=
  { s with chip := { s.chip with swq := x } }

/-- The next tick of a periodic timer (R208): the one of unit `i`. -/
def State.timer (s : State) (i : Nat) : Nat := Sparse.get 0 s.chip.timer i

/-- The state with timer of unit `i` replaced. -/
def State.setTimer (s : State) (i : Nat) (x : Nat) : State :=
  { s with chip := { s.chip with timer := Sparse.set s.chip.timer i x } }

/-- The state with timer of unit `i` changed by `f`. -/
def State.modTimer (s : State) (i : Nat) (f : Nat → Nat) : State := s.setTimer i (f (s.timer i))

/-- The journal writer. -/
def State.journal (s : State) : Jrn := s.chip.journal

/-- The state with journal replaced. -/
def State.setJournal (s : State) (x : Jrn) : State :=
  { s with chip := { s.chip with journal := x } }

/-- The state with journal changed by `f`. -/
def State.modJournal (s : State) (f : Jrn → Jrn) : State := s.setJournal (f s.journal)

/-- The key vault and debug access. -/
def State.sec (s : State) : Sec := s.chip.sec

/-- The state with sec replaced. -/
def State.setSec (s : State) (x : Sec) : State :=
  { s with chip := { s.chip with sec := x } }

/-- The state with sec changed by `f`. -/
def State.modSec (s : State) (f : Sec → Sec) : State := s.setSec (f s.sec)

/-- The refill channels: the one of unit `i`. -/
def State.rflc (s : State) (i : Nat) : Rfl := Sparse.get {} s.chip.rflc i

/-- The state with rflc of unit `i` replaced. -/
def State.setRflc (s : State) (i : Nat) (x : Rfl) : State :=
  { s with chip := { s.chip with rflc := Sparse.set s.chip.rflc i x } }

/-- The state with rflc of unit `i` changed by `f`. -/
def State.modRflc (s : State) (i : Nat) (f : Rfl → Rfl) : State := s.setRflc i (f (s.rflc i))

/-- The burst scheduler. -/
def State.bursts (s : State) : Bursts := s.chip.bursts

/-- The state with bursts replaced. -/
def State.setBursts (s : State) (x : Bursts) : State :=
  { s with chip := { s.chip with bursts := x } }

/-- The state with bursts changed by `f`. -/
def State.modBursts (s : State) (f : Bursts → Bursts) : State := s.setBursts (f s.bursts)

/-- The calibration engine. -/
def State.cal (s : State) : Cal := s.chip.cal

/-- The state with cal replaced. -/
def State.setCal (s : State) (x : Cal) : State :=
  { s with chip := { s.chip with cal := x } }

/-- The state with cal changed by `f`. -/
def State.modCal (s : State) (f : Cal → Cal) : State := s.setCal (f s.cal)

/-- The cascade ports: 0 UP, 1 DOWN: the one of unit `i`. -/
def State.casPort (s : State) (i : Nat) : CasPort := Sparse.get {} s.chip.casPort i

/-- The state with casPort of unit `i` replaced. -/
def State.setCasPort (s : State) (i : Nat) (x : CasPort) : State :=
  { s with chip := { s.chip with casPort := Sparse.set s.chip.casPort i x } }

/-- The state with casPort of unit `i` changed by `f`. -/
def State.modCasPort (s : State) (i : Nat) (f : CasPort → CasPort) : State := s.setCasPort i (f (s.casPort i))

/-- The cascade. -/
def State.cas (s : State) : Cas := s.chip.cas

/-- The state with cas replaced. -/
def State.setCas (s : State) (x : Cas) : State :=
  { s with chip := { s.chip with cas := x } }

/-- The state with cas changed by `f`. -/
def State.modCas (s : State) (f : Cas → Cas) : State := s.setCas (f s.cas)

/-- Shadowed fields that their owner has taken before its hand-over tick: the field's key, the hand-over tick D, and the value in force before D (R57). -/
def State.lags (s : State) : List (Nat × Nat × Nat) := s.chip.lags

/-- The state with lags replaced. -/
def State.setLags (s : State) (x : List (Nat × Nat × Nat)) : State :=
  { s with chip := { s.chip with lags := x } }

/-- Instance `i` of register field `f`: what it holds (for a shadowed field, its shadow copy, R54). -/
def State.rd (s : State) (f : Fld) (i : Nat) : Nat := Sparse.get (f.reset i) s.chip.regs (f.key i)

/-- Instance `i` of field `f` set to `v`, cut to the field's width. -/
def State.wr (s : State) (f : Fld) (i v : Nat) : State :=
  s.withRegs (Sparse.put (f.reset i) s.chip.regs (f.key i) (v % 2 ^ f.w))

/-- The active copy of instance `i` of shadowed field `f` (R54). -/
def State.rdA (s : State) (f : Fld) (i : Nat) : Nat := Sparse.get (f.reset i) s.chip.acts (f.key i)

/-- The active copy of instance `i` of field `f` set to `v`. -/
def State.wrA (s : State) (f : Fld) (i v : Nat) : State :=
  s.withActs (Sparse.put (f.reset i) s.chip.acts (f.key i) (v % 2 ^ f.w))

/-- Instance `i` of field `f` read as a flag. -/
def State.on (s : State) (f : Fld) (i : Nat) : Bool := s.rd f i == 1

/-- A flag as a number. -/
def flag (b : Bool) : Nat := if b then 1 else 0

/-- A counter advanced by `n`, saturating at the largest number its field holds. -/
def State.incBy (s : State) (f : Fld) (i n : Nat) : State := s.wr f i (min f.max (s.rd f i + n))

/-- A counter advanced by one, saturating. -/
def State.inc (s : State) (f : Fld) (i : Nat) : State := s.incBy f i 1

/-- A counter advanced by one, wrapping. -/
def State.incW (s : State) (f : Fld) (i : Nat) : State := s.wr f i (s.rd f i + 1)

/-- The 64-bit number held in a LO and a HI field. -/
def State.rd64 (s : State) (lo hi : Fld) (i : Nat) : Nat := s.rd lo i + 2 ^ 32 * s.rd hi i

/-- A 64-bit number written to a LO and a HI field. -/
def State.wr64 (s : State) (lo hi : Fld) (i v : Nat) : State := (s.wr lo i v).wr hi i (v / 2 ^ 32)

/-- The first multiple of `n` at or after `x`. -/
def ceilTo (n x : Nat) : Nat := if n = 0 then x else (x + n - 1) / n * n

/-- The next state in which only registers, queues, tables and modes have changed: time, memories and the queue of
commands are those of `s`, whatever `t` holds. -/
def chipOnly (s t : State) : Host.Outcome State Fault Refusal := .next { s with chip := t.chip }

/-- The next state in which the memories may have changed too. -/
def chipMem (s t : State) : Host.Outcome State Fault Refusal := .next { s with chip := t.chip, mem := t.mem }

/-- The next state in which the epoch may have changed too (R12, R476, R479). -/
def chipEpoch (s t : State) : Host.Outcome State Fault Refusal := .next { s with chip := t.chip, epoch := t.epoch }

end Sys2Proof.Machine
end

