-- ==== Sys2Proof/Machine/Ops.lean ====
section
/-!
DEFINITION. Machine/Ops.lean: the operations every family shares: where a unit's page lies (R43), which pages are ready
(R47), raising an event and the interrupt roll-up (R62 to R64), writing a journal record (R492), refusing (R61, R562),
stamping and lateness (R14 to R24), producing Fire events (R200), and register reads and writes field by field (R563).
-/

namespace Sys2Proof.Machine

/-! ### Pages -/

/-- The FCT page of Facet `f`. -/
def pgFct (f : Nat) : Nat := 0x100 + 16 * f
/-- The SEG page of Facet `f`. -/
def pgSeg (f : Nat) : Nat := 0x101 + 16 * f
/-- The ENG page of engine `e`. -/
def pgEng (e : Nat) : Nat := 0x102 + 16 * (e / 16) + (e % 16) / 2
/-- The APG page of APG `a`. -/
def pgApg (a : Nat) : Nat := 0x10A + 16 * (a / 4) + (a % 4) / 2
/-- The LANE page of lane `l`. -/
def pgLane (l : Nat) : Nat := 0x10C + 16 * (l / 8) + (l % 8) / 4
/-- The CMP page of Facet `f`. -/
def pgCmp (f : Nat) : Nat := 0x10E + 16 * f
/-- The QPLL page of quad `q`. -/
def pgQpll (q : Nat) : Nat := 0x040 + q
/-- The RFL page of channel `c`. -/
def pgRfl (c : Nat) : Nat := 0x020 + c / 2
/-- The DRV page of drive channel `d`. -/
def pgDrv (d : Nat) : Nat := 0x081 + d / 8
/-- The SNS page of sense channel `c`. -/
def pgSns (c : Nat) : Nat := 0x08A + c / 8
/-- The CROWN page of group `k`. -/
def pgCrown (k : Nat) : Nat := 0x092 + k
def pgDev : Nat := 0x000
def pgTb : Nat := 0x001
def pgTpll : Nat := 0x002
def pgPwr : Nat := 0x003
def pgCal : Nat := 0x004
def pgSec : Nat := 0x005
def pgJrn : Nat := 0x006
def pgCas : Nat := 0x007
def pgHost : Nat := 0x008
def pgLus : Nat := 0x00A
def pgFire : Nat := 0x018
def pgAf : Nat := 0x080
def pgLoupe : Nat := 0x089

/-- A page's block (PAGE_ID.TYPE, R51; 0 for a reserved page), the number of its first unit, how many units it holds
and the distance between them (R43). -/
def pageMap (p : Nat) : Nat × Nat × Nat × Nat :=
  if p = 0x000 then (0x01, 0, 1, 4096)
  else if p = 0x001 then (0x02, 0, 1, 4096)
  else if p = 0x002 then (0x03, 0, 1, 4096)
  else if p = 0x003 then (0x04, 0, 1, 4096)
  else if p = 0x004 then (0x05, 0, 1, 4096)
  else if p = 0x005 then (0x06, 0, 1, 4096)
  else if p = 0x006 then (0x07, 0, 1, 4096)
  else if p = 0x007 then (0x08, 0, 1, 4096)
  else if p = 0x008 then (0x09, 0, 1, 4096)
  else if p = 0x00A then (0x0A, 0, 1, 4096)
  else if 0x010 ≤ p ∧ p ≤ 0x017 then (0x10, p - 0x010, 1, 4096)
  else if p = 0x018 then (0x11, 0, 1, 4096)
  else if p = 0x01F then (0x12, 0, 1, 4096)
  else if 0x020 ≤ p ∧ p ≤ 0x03F then (0x13, 2 * (p - 0x020), 2, 0x400)
  else if 0x040 ≤ p ∧ p ≤ 0x07F then (0x14, p - 0x040, 1, 4096)
  else if p = 0x080 then (0x20, 0, 1, 4096)
  else if 0x081 ≤ p ∧ p ≤ 0x088 then (0x21, p - 0x081, 1, 4096)
  else if p = 0x089 then (0x22, 0, 1, 4096)
  else if 0x08A ≤ p ∧ p ≤ 0x091 then (0x23, p - 0x08A, 1, 4096)
  else if 0x092 ≤ p ∧ p ≤ 0x099 then (0x24, p - 0x092, 1, 4096)
  else if 0x100 ≤ p ∧ p ≤ 0x2FF then
    let f := (p - 0x100) / 16
    let k := (p - 0x100) % 16
    if k = 0 then (0x30, f, 1, 4096)
    else if k = 1 then (0x31, f, 1, 4096)
    else if k ≤ 9 then (0x32, 16 * f + 2 * (k - 2), 2, 0x400)
    else if k ≤ 11 then (0x33, 4 * f + 2 * (k - 10), 2, 0x800)
    else if k ≤ 13 then (0x34, 8 * f + 4 * (k - 12), 4, 0x400)
    else if k = 14 then (0x35, f, 1, 4096)
    else (0, 0, 0, 4096)
  else (0, 0, 0, 4096)

/-- PAGE_ID.INSTANCE (R50): the lowest-numbered resource on the page. -/
def pageInstance (p : Nat) : Nat :=
  let (b, u, _, _) := pageMap p
  if b = 0x10 then 128 * u else if b = 0x21 ∨ b = 0x23 then 8 * u else u

/-- The power domain whose state decides whether a page is ready (R526). -/
def pageDomain (p : Nat) : Nat :=
  if 0x100 ≤ p ∧ p ≤ 0x2FF then (p - 0x100) / 16
  else if 0x080 ≤ p ∧ p ≤ 0x091 then 32
  else if 0x092 ≤ p ∧ p ≤ 0x099 then 33
  else if 0x040 ≤ p ∧ p ≤ 0x07F then 34 + (p - 0x040)
  else 98

/-- The implemented IRQ bits of a page, as a mask (the IRQ lists of the blocks' chapters). -/
def irqMask (p : Nat) : Nat :=
  let b := (pageMap p).1
  if b = 0x01 then 0x7F else if b = 0x02 then 0xF else if b = 0x03 then 0x3FF else if b = 0x04 then 0xF
  else if b = 0x05 then 0x1FF else if b = 0x06 then 0x1F else if b = 0x07 then 0x7 else if b = 0x08 then 0x1FFF
  else if b = 0x09 then 0x7 else if b = 0x0A then 0x1F else if b = 0x11 then 0x7 else if b = 0x13 then 0x001F001F
  else if b = 0x14 then 0x1F else if b = 0x20 then 0x3F else if b = 0x21 then 0x3FFFFFFF else if b = 0x22 then 0x7
  else if b = 0x23 then 0xFFFFFF else if b = 0x24 then 0x3F else if b = 0x30 then 0x1F else if b = 0x31 then 0x7
  else if b = 0x32 then 0xFFFFFFFF else if b = 0x33 then 0x00070007 else if b = 0x34 then 0xFFFFFFFF
  else if b = 0x35 then 0x03FFFFFF else 0

/-! ### Readiness -/

/-- The device state of R512: 1 POR, 2 BOOT, 3 CALCHECK, 4 CLOCKING, 5 TRAINING, 6 READY, 7 RUN, 8 SAFE, 9 DEBUG. -/
def State.dev (s : State) : Nat := s.rd DEV_STATE.STATE 0

/-- Domain `d` is ON and no accepted request to leave ON is being carried out (R527, R528). -/
def State.domOn (s : State) (d : Nat) : Bool :=
  (s.dom d).st == 0 && (s.dom d).quiesceFrom.isNone

/-- A page is ready: it is implemented, its block has come up, and its domain is ON (R47, R517, R528). -/
def State.ready (s : State) (p : Nat) : Bool :=
  (pageMap p).1 != 0 && s.dev != 1 && s.domOn (pageDomain p)

/-! ### Stamps, records and refusals -/

/-- EPOCH_STATE is UNCERTAIN (R18). -/
def State.unc (s : State) : Bool := s.rd TB_STAT.EPOCH_STATE 0 == 2

/-- The stamp of an event that is stamped now (R15, R17, R18). -/
def State.now (s : State) : Stamp := { t := s.epoch, sub := 0, unc := s.unc }

/-- The stamp of an external edge at sub-tick `b` of the present tick (R15). -/
def State.edge (s : State) (b : Nat) : Stamp := { t := s.epoch, sub := b, unc := s.unc }

/-- A stamp as a count of sub-ticks (R29). -/
def Stamp.st (x : Stamp) : Nat := x.t * 8 + x.sub

/-- Whether a stamp lies in the half-open window [lo, hi) of ticks (R29). -/
def Stamp.inside (x : Stamp) (lo hi : Nat) : Bool := decide (lo * 8 ≤ x.st ∧ x.st < hi * 8)

/-- An item of a journal record's DATA: a 64-bit tick, or a 4-byte item (R493). -/
inductive Item where
  | tick (n : Nat) | word (n : Nat)
  deriving DecidableEq, Repr

/-- The four dwords of DATA: the items in order, the rest 0, cut at 16 bytes (R493). -/
def packItems (xs : List Item) : List Nat :=
  let ws := xs.flatMap fun x => match x with
    | .tick n => [n % 2 ^ 32, n / 2 ^ 32 % 2 ^ 32]
    | .word n => [n % 2 ^ 32]
  (ws ++ [0, 0, 0, 0]).take 4

/-- A journal record sent to the writer, with the given stamp (R492, R493, R557). -/
def State.jrnAt (s : State) (st : Stamp) (cls index code : Nat) (xs : List Item) : State :=
  s.setRecs (s.recs ++
    [{ stamp := st.t, sub := st.sub, unc := st.unc, origin := s.rd CAS_STAT.ADDR 0, cls := cls, index := index,
       code := code, data := packItems xs }])

/-- A journal record stamped now. -/
def State.jrn (s : State) (cls index code : Nat) (xs : List Item) : State := s.jrnAt s.now cls index code xs

/-- The causes of highest rank first (R562): a common code ranks above the block's own, and a lower code above a
higher one of its range. -/
def worst (codes : List Nat) : Option Nat :=
  let common := codes.filter (fun c => decide (0x100 ≤ c))
  match common.min? with
  | some c => some c
  | none => codes.min?

/-- A refusal on page `p` with code `c` (R61). -/
def State.refuse (s : State) (p c : Nat) : State :=
  ((s.wr ERR_CODE.LAST p c).wr ERR_CODE.FIRST p
    (if s.rd ERR_CODE.FIRST p = 0 then c else s.rd ERR_CODE.FIRST p)).inc ERR_COUNT.COUNT p

/-- `k s` when no refusal cause holds; else one refusal with the cause of highest rank (R562). -/
def State.orRefuse (s : State) (p : Nat) (codes : List Nat) (k : State → State) : State :=
  match worst codes with
  | some c => s.refuse p c
  | none => k s

/-- `[c]` when `b` holds: one refusal cause. -/
def cause (b : Bool) (c : Nat) : List Nat := if b then [c] else []

/-! ### Interrupts -/

/-- The pages of interrupt group `g`, in ascending order (R62). -/
def groupPages (g : Nat) : List Nat :=
  if g = 0 then [0x000, 0x001, 0x002] else if g = 1 then [0x003, 0x004, 0x00A]
  else if g = 2 then [0x005, 0x006, 0x008] else if g = 3 then [0x007]
  else if g = 4 then (List.range 9).map (0x010 + ·) else if g = 5 then (List.range 33).map (0x01F + ·)
  else if g = 6 then (List.range 64).map (0x040 + ·) else if g = 7 then (List.range 26).map (0x080 + ·)
  else if g < 40 then (List.range 15).map (0x100 + 16 * (g - 8) + ·) else []

/-- The interrupt group of a page (R62). -/
def pageGroup (p : Nat) : Nat :=
  if 0x100 ≤ p then 8 + (p - 0x100) / 16 else if 0x080 ≤ p then 7 else if 0x040 ≤ p then 6
  else if 0x01F ≤ p then 5 else if 0x010 ≤ p then 4 else if p = 7 then 3
  else if p = 5 ∨ p = 6 ∨ p = 8 then 2 else if p ≤ 2 then 0 else 1

/-- A page is pending (R62). -/
def State.pagePending (s : State) (p : Nat) : Bool := s.rd IRQ_STAT.BITS p &&& s.rd IRQ_EN.BITS p != 0

/-- Group `g` is pending (R62). -/
def State.groupPending (s : State) (g : Nat) : Bool := (groupPages g).any s.pagePending

/-- A pending group is mapped to vector `v` (R63, DEV_MSIX_MAP). -/
def State.vecPending (s : State) (v : Nat) : Bool :=
  (List.range 40).any fun g => s.on DEV_MSIX_MAP.EN g && s.rd DEV_MSIX_MAP.VEC g == v && s.groupPending g

/-- INT_N is driven low (R64). -/
def State.intN (s : State) : Bool := s.on DEV_INT_CTRL.INTN_EN 0 && (List.range 40).any s.groupPending

/-- The message-pending bit of vector `v` set (R63). -/
def State.setPba (s : State) (v : Nat) : State :=
  s.modHostp fun h => { h with pba := h.pba ||| (1#256 <<< v) }

/-- `t`, with the message-pending bit of the vectors in `vs` set where the OR of their pending groups has changed from 0
to 1 between `s` and `t` (R63). -/
def pbaEdges (s t : State) (vs : List Nat) : State :=
  vs.foldl (fun u v => if !s.vecPending v && t.vecPending v then u.setPba v else u) t

/-- IRQ_STAT bits `m` of page `p` set, with the roll-up to the vector of the page's group (R62, R63). -/
def State.raiseBits (s : State) (p m : Nat) : State :=
  pbaEdges s (s.wr IRQ_STAT.BITS p (s.rd IRQ_STAT.BITS p ||| m)) [s.rd DEV_MSIX_MAP.VEC (pageGroup p)]

/-- IRQ_STAT bit `b` of page `p` set: the event of that bit is raised. -/
def State.raise (s : State) (p b : Nat) : State := s.raiseBits p (2 ^ b)

/-! ### Fire producers and lateness -/

/-- The identifier of producer `i` of a class (R200). -/
def prodId (cls i : Nat) : Nat := cls * 4096 + i

/-- An event of a producer, stamped (R200): it enters the queue toward its sending port. -/
def State.produce (s : State) (prod : Nat) (st : Stamp) (gen : Nat) : State :=
  s.setProdq (s.prodq ++ [{ prod := prod, st := st, gen := gen }])

/-- The local horizon (R20). -/
def State.h (s : State) : Nat := s.rd H_LOCAL.H 0

/-- An event's due tick (R19): stamp + H, with the far-fire growth of R216 for an event that came over a cascade. -/
def State.due (s : State) (ev : Event) : Nat :=
  match ev.hops with
  | none => ev.st.t + s.h
  | some n => ev.st.t + s.h + 24 * n + 8

/-- HORIZON_LATE for a consumer of the given CLASS and INDEX (R24): raised, counted, and journalled with the stamp and
the decision point from which the event takes effect. -/
def State.late (s : State) (cls index : Nat) (st : Stamp) (d : Nat) : State :=
  ((s.inc H_STAT.LATE_COUNT 0).raise pgTb 2).jrnAt st cls index 0x0103 [.tick st.t, .tick d]

/-- H_STAT.MAX_AGE kept at the largest age of an event at its consumer's splice (R37). The rule names no tick of the splice: an
age is taken when the consumer decides, at a resolution or on arrival (DESIGN CHOICE, log entry 47). -/
def State.age (s : State) (st : Stamp) : State :=
  s.wr H_STAT.MAX_AGE 0 (max (s.rd H_STAT.MAX_AGE 0) (min 0xFFF (s.epoch - st.t)))

/-- Something sent out of the block. -/
def State.emit (s : State) (o : Out) : State := s.setOut (s.out ++ [o])

/-- A free value: a number nothing constrains, and the state in which the next one is another. -/
def State.draw (s : State) : Nat × State := (Config.free s.freeCtr, s.setFreeCtr (s.freeCtr + 1))

/-! ### Unit states read across chapters -/

/-- Engine state (R139): 0 PARKED, 1 ARMED, 2 GATED, 3 RUNNING, 4 DRAINING, 5 STOPPED, 6 FAULT. -/
def State.engState (s : State) (e : Nat) : Nat := s.rd ENG_STAT.STATE e

/-- The engine is ARMED, GATED, RUNNING or DRAINING. -/
def State.engBusy (s : State) (e : Nat) : Bool := 1 ≤ s.engState e && s.engState e ≤ 4

/-- An engine of Facet `f` is ARMED, GATED, RUNNING or DRAINING. -/
def State.facetBusy (s : State) (f : Nat) : Bool := (List.range 16).any fun k => s.engBusy (16 * f + k)

/-- An engine of the device is ARMED, GATED, RUNNING or DRAINING. -/
def State.anyEngBusy (s : State) : Bool := (List.range 512).any s.engBusy

/-- Drive channel state (R366): 0 CLAMPED, 1 IDLE, 2 ACTIVE, 3 RAMPDOWN, 4 CLEARED. -/
def State.drvState (s : State) (d : Nat) : Nat := s.rd DRV_STAT.STATE d

/-- The drive channel is ACTIVE or RAMPDOWN. -/
def State.drvBusy (s : State) (d : Nat) : Bool := s.drvState d == 2 || s.drvState d == 3

/-- A drive channel is ACTIVE or RAMPDOWN. -/
def State.anyDrvBusy (s : State) : Bool := (List.range 64).any s.drvBusy

/-- Lane state (R321): 0 DARK, 1 SEARCH, 2 NEGOTIATE, 3 TRAIN, 4 ALIGN, 5 SERVICE, 6 RETRAIN. -/
def State.laneState (s : State) (l : Nat) : Nat := s.rd LANE_STAT.STATE l

/-- Crown group state (R423): 0 IDLE, 1 RUNNING, 2 HOLD, 3 STOPPING, 4 STOPPED. -/
def State.crownState (s : State) (k : Nat) : Nat := s.rd CROWN_STAT.STATE k

/-- The Crown group is RUNNING, HOLD or STOPPING. -/
def State.crownBusy (s : State) (k : Nat) : Bool := 1 ≤ s.crownState k && s.crownState k ≤ 3

/-- A run condition holds (R514). -/
def State.runCondition (s : State) : Bool :=
  s.anyEngBusy || s.anyDrvBusy || (List.range 8).any s.crownBusy

/-- The device state follows the run conditions (R513, R514): READY to RUN when the first begins, RUN to READY when the
last ends; the entry into READY writes a journal record. -/
def State.settleRun (s : State) : State :=
  if s.dev = 6 ∧ s.runCondition = true then s.wr DEV_STATE.STATE 0 7
  else if s.dev = 7 ∧ s.runCondition = false then (s.wr DEV_STATE.STATE 0 6).jrn 0x0E 0 0x1501 []
  else s

/-- "In READY or RUN" (R514): READY or RUN, with EPOCH_STATE not STOPPED. -/
def State.runnable (s : State) : Bool :=
  (s.dev == 6 || s.dev == 7) && s.rd TB_STAT.EPOCH_STATE 0 != 0

/-- A calibration run holds unit `u` of an item (R446). -/
def State.calHolds (s : State) (item u : Nat) : Bool :=
  match s.cal.run with
  | some r => r.item == item && r.unit == u
  | none => false

/-- The key of an item's values for a unit and sub. -/
def calKey (item unit sub : Nat) : Nat := (item * 65536 + unit) * 8 + sub

/-- A precondition that must hold throughout the run of the item on unit `u` fails (R441). -/
def State.calTaint (s : State) (item u : Nat) : State :=
  if s.calHolds item u then s.modCal fun c => { c with run := c.run.map fun r => { r with lost := true } } else s

/-- The result that waits for unit `u` of an item, and the state without it (R446). -/
def State.calTake (s : State) (item u : Nat) : Option (List Nat) × State :=
  match s.cal.later.find? fun x => x.1 == item && x.2.1 == u with
  | some x => (some x.2.2, s.modCal fun c => { c with later := c.later.filter fun y => !(y.1 == item && y.2.1 == u) })
  | none => (none, s)

/-! ### Register writes -/

/-- The write `w` with the bits of `m` set: a write whose command bits `m` are 1. -/
def orBits (w : Wr) (m : Word) : Wr := { w with val := w.val ||| m }

/-- A write whose command bits `m` are 0. -/
def clearBits (w : Wr) (m : Word) : Wr := { w with val := w.val &&& ~~~m }

/-- A write dropped under R47 to R49: counted, its address kept, WRITE_DROPPED raised. -/
def State.drop (s : State) (win : Nat) (req : Req) (addr : Nat) : State :=
  ((((s.inc HOST_DROP.COUNT 0).wr HOST_DROP_ADDR.WIN 0 win).wr HOST_DROP_ADDR.TUN 0
    (if req = .tunnel then 1 else 0)).wr HOST_DROP_ADDR.ADDR 0 addr).raise pgHost 1

/-- The refusal causes an access itself meets (R44, R66): partial byte enables, and a tunnelled write to the SEC or HOST
page. -/
def accessCodes (w : Wr) (p : Nat) : List Nat :=
  cause (w.be != 0xF) 0x0106 ++ cause (decide (w.req = .tunnel) && (p == pgSec || p == pgHost)) 0x0107

/-- Whether a memory request of this requester reaches the function: in D3hot a host request is completed as
Unsupported Request (R42). -/
def State.reaches (s : State) (req : Req) : Bool := !(decide (req = .host) && s.hostp.d3hot)

/-- A register write of a requester is noted in the writes of its page cycle. -/
def Cycle.add (x : Cycle) (req : Req) (addr : Nat) : Cycle :=
  match req with
  | .host => { x with byHost := addr :: x.byHost }
  | .tunnel => { x with byTunnel := addr :: x.byTunnel }

/-- The write is the first of its requester to a register that the other requester has written in the page cycle (R67). -/
def Cycle.meets (x : Cycle) (req : Req) (addr : Nat) : Bool :=
  match req with
  | .host => x.byTunnel.contains addr && !x.byHost.contains addr
  | .tunnel => x.byHost.contains addr && !x.byTunnel.contains addr

/-- A host write and a tunnelled write that reach one register in one page cycle are counted once for the cycle (R67). -/
def State.collide (s : State) (req : Req) (addr : Nat) : State :=
  let x : Cycle := if s.hostp.wrote.tb = s.tb then s.hostp.wrote else { tb := s.tb }
  let t := s.modHostp fun h => { h with wrote := x.add req addr }
  if x.meets req addr then t.inc HOST_STAT.COLLIDE_COUNT 0 else t

/-- A write to a register of page `p` at offset `off`: in D3hot it has no effect (R42); on a page that is not ready it is
dropped (R47); it is refused with its access causes or `codes` (R562); else it acts as `k` says. -/
def State.write (s : State) (w : Wr) (p off : Nat) (codes : List Nat) (k : State → State) : State :=
  if s.reaches w.req then
    if s.ready p then (s.collide w.req (p * 4096 + off)).orRefuse p (accessCodes w p ++ codes) k else s.drop 0 w.req (p * 4096 + off)
  else s

/-- The epoch counts: EPOCH_STATE is not STOPPED, or a stepped cascade target counts before it is VALID (R12, R478). -/
def State.counting (s : State) : Bool := s.rd TB_STAT.EPOCH_STATE 0 != 0 || s.cas.counting

/-- The shadow lock holds on page `p` (R58). -/
def State.shadowLocked (s : State) (p : Nat) : Bool :=
  (s.pages p).pending && ((s.pages p).waits != [] || (s.counting && decide (s.epoch ≤ (s.pages p).lockedTo)))

/-- A shadowed field written (R54): its shadow copy takes the value and becomes dirty. -/
def State.wrShadow (s : State) (f : Fld) (i v : Nat) : State :=
  let t := s.wr f i v
  t.setDirty (if s.dirty.contains (f.key i) then s.dirty else f.key i :: s.dirty)

/-- A field is dirty (R54). -/
def State.isDirty (s : State) (f : Fld) (i : Nat) : Bool := s.dirty.contains (f.key i)

/-- An owner takes the shadow of a field for hand-over tick `d`: the active copy becomes the shadow copy and the field is clean
(R54); outputs before `d` keep the value they had (R57). -/
def State.takeShadow (s : State) (d : Nat) (fi : Fld × Nat) : State :=
  let t := if s.rdA fi.1 fi.2 = s.rd fi.1 fi.2 then s else
    s.setLags (s.lags ++ [(fi.1.key fi.2, d, s.rdA fi.1 fi.2)])
  (t.wrA fi.1 fi.2 (s.rd fi.1 fi.2)).setDirty (s.dirty.filter (· != fi.1.key fi.2))

/-- One field of a register write that is not refused (R8, R563). -/
def State.wrField (s : State) (f : Fld) (i v : Nat) : State :=
  match f.acc with
  | .ro => s
  | .wo => s
  | .rw => s.wr f i v
  | .rwl => s.wr f i v
  | .rws => s.wrShadow f i v
  | .w1c => s.wr f i (s.rd f i &&& (f.max ^^^ (v % 2 ^ f.w)))

/-- The value of a shadowed field that the output for tick `x` reflects: the active copy, or until the hand-over tick the value
before it (R57). -/
def State.rdAt (s : State) (f : Fld) (i x : Nat) : Nat :=
  match s.lags.find? fun l => l.1 == f.key i && decide (x < l.2.1) with
  | some l => l.2.2
  | none => s.rdA f i

/-- The value that the output of the present tick reflects. -/
def State.rdX (s : State) (f : Fld) (i : Nat) : Nat := s.rdAt f i s.epoch

/-- The part of a register word that belongs to field `f`. -/
def Fld.ofWord (f : Fld) (v : Nat) : Nat := bits v f.lo f.w

/-- The instance of field `f` that lies at offset `off` of unit `u` of its block, if one does. -/
def Fld.inst (f : Fld) (u off : Nat) : Option Nat :=
  if f.off ≤ off ∧ (off - f.off) % f.step = 0 ∧ (off - f.off) / f.step < f.cnt
  then some (u * f.cnt + (off - f.off) / f.step) else none

/-- The unit of a page an offset belongs to, and the offset within the unit's block. -/
def unitAt (p off : Nat) : Nat × Nat :=
  let (_, u0, n, stride) := pageMap p
  let j := min (off / stride) (n - 1)
  (u0 + j, off - j * stride)

/-- The stored fields at byte offset `off` of page `p`, each with its instance (R43, R50). -/
def fieldsAt (p off : Nat) : List (Fld × Nat) :=
  if off < 0x40 then
    fieldsHDR.filterMap fun f => if f.off = off then some (f, p) else none
  else
    let (u, o) := unitAt p off
    (fieldsOf (pageMap p).1).filterMap fun f => (f.inst u o).map fun i => (f, i)

/-- The reads and writes of one register, field by field (R563): RO fields and reserved bits are ignored, RWL fields are
refused while the lock is closed, RWS fields are rejected during a shadow lock, the others act; `codes` are the value
checks of the register, which refuse the whole write. -/
def State.plainWrite (s : State) (p : Nat) (fs : List (Fld × Nat)) (v : Nat) (codes : List Nat) : State :=
  let lockedOut := fs.any (fun fi => fi.1.acc = .rwl) && !s.on LOCK.OPEN p
  let rejected := fs.any (fun fi => fi.1.acc = .rws) && s.shadowLocked p
  let applied := fs.filter fun fi =>
    !(fi.1.acc = .rwl && lockedOut) && !(fi.1.acc = .rws && rejected)
  match worst codes with
  | some c => s.refuse p (if lockedOut then 0x0101 else c)
  | none =>
    let t := applied.foldl (fun t fi => t.wrField fi.1 fi.2 (fi.1.ofWord v)) s
    let t := if lockedOut then t.refuse p 0x0101 else t
    if rejected then (t.wr SHADOW_STAT.REJECT p 1).inc SHADOW_STAT.REJ_COUNT p else t

/-- A write to the register at `off` of page `p`, whose fields it changes one by one (R563); `codes` are its value checks. -/
def State.plainReg (s : State) (w : Wr) (p off : Nat) (codes : List Nat) : State :=
  s.write w p off [] fun s => s.plainWrite p (fieldsAt p off) w.val.toNat codes

end Sys2Proof.Machine
end

