-- ==== Sys2Proof/Machine/StoreOps.lean ====
section
/-!
DEFINITION. Machine/StoreOps.lean: what the segment store, the directory, the stream windows and the double-banked tables
hold, and the reads of them that other blocks make (R220 to R250).
-/

namespace Sys2Proof.Machine

/-! ### CRC-32C: the reflected polynomial 0x82F63B78 with initial and final value 0xFFFFFFFF (PRESUMED: the name's
common definition, log entry 5) -/

/-- One bit of the reflected CRC-32C register. -/
def crcBit (c : Nat) : Nat := if c % 2 = 1 then (c / 2) ^^^ 0x82F63B78 else c / 2

/-- One byte into the CRC register. -/
def crcByte (c b : Nat) : Nat :=
  crcBit (crcBit (crcBit (crcBit (crcBit (crcBit (crcBit (crcBit (c ^^^ b))))))))

/-- CRC-32C of a byte string. -/
def crc32c (bs : List Nat) : Nat := (bs.foldl crcByte 0xFFFFFFFF) ^^^ 0xFFFFFFFF

/-- The four little-endian bytes of a dword. -/
def dwordBytes (v : Nat) : List Nat := [v % 256, v / 256 % 256, v / 65536 % 256, v / 16777216 % 256]

/-! ### Window B memory (R48) -/

/-- The byte of window B at address `a`. -/
def State.memB (s : State) (a : Nat) : Nat := (Sparse.get (0 : BitVec 8) s.mem.winB a).toNat

/-- The dword of window B at byte address `a`, little-endian. -/
def State.dwordB (s : State) (a : Nat) : Nat :=
  s.memB a + 256 * s.memB (a + 1) + 65536 * s.memB (a + 2) + 16777216 * s.memB (a + 3)

/-- The region of Facet `f` in window B. -/
def facetBase (f : Nat) : Nat := 0x02000000 * f

/-- The 32 payload bits of store word `w` of Facet `f`. -/
def State.payload (s : State) (f w : Nat) : Nat := s.dwordB (facetBase f + 4 * w)

/-- The side byte of store word `w` of Facet `f`: marker bits in [1:0], spare bits in [3:2]. -/
def State.side (s : State) (f w : Nat) : Nat := s.memB (facetBase f + 0x00800000 + w)

/-- A byte of window B set. -/
def State.setMemB (s : State) (a v : Nat) : State :=
  { s with mem := { s.mem with winB := Sparse.put (0 : BitVec 8) s.mem.winB a (BitVec.ofNat 8 v) } }

/-- Bytes of window B set from address `a` on. -/
def State.setBytesB (s : State) (a : Nat) : List Nat → State
  | [] => s
  | b :: r => (s.setMemB a b).setBytesB (a + 1) r

/-- The byte of the AF buffer space at offset `a` (R255). -/
def State.afB (s : State) (a : Nat) : Nat := (Sparse.get (0 : BitVec 8) s.mem.af a).toNat

/-- The dword of the AF buffer space at offset `a`, little-endian. -/
def State.afDword (s : State) (a : Nat) : Nat :=
  s.afB a + 256 * s.afB (a + 1) + 65536 * s.afB (a + 2) + 16777216 * s.afB (a + 3)

/-- Bytes of the AF buffer space set from offset `a` on. -/
def State.setAf (s : State) (a : Nat) : List Nat → State
  | [] => s
  | b :: r =>
    State.setAf { s with mem := { s.mem with af := Sparse.put (0 : BitVec 8) s.mem.af a (BitVec.ofNat 8 b) } } (a + 1) r

/-- The 128 bits of absolute step `n` of Facet `f` (R152). -/
def State.stepWord (s : State) (f n : Nat) : Nat :=
  let a := facetBase f + 0x01000000 + 16 * n
  s.dwordB a + 2 ^ 32 * s.dwordB (a + 4) + 2 ^ 64 * s.dwordB (a + 8) + 2 ^ 96 * s.dwordB (a + 12)

/-! ### The directory (R224) -/

/-- Directory entry `n` of Facet `f`. -/
def State.dirEnt (s : State) (f n : Nat) : DirEnt := s.dir (f * 8192 + n)

def DirEnt.valid (d : DirEnt) : Bool := bit d.w1 31
def DirEnt.chkOk (d : DirEnt) : Bool := bit d.w1 30
def DirEnt.kind (d : DirEnt) : Nat := bits d.w1 28 2
def DirEnt.stream (d : DirEnt) : Bool := bit d.w1 27
def DirEnt.isPin (d : DirEnt) : Bool := bit d.w1 26
def DirEnt.length (d : DirEnt) : Nat := bits d.w1 0 18
def DirEnt.base (d : DirEnt) : Nat := bits d.w2 0 17
/-- The window a stream entry names. -/
def DirEnt.window (d : DirEnt) : Nat := bits d.w2 0 5

/-- An entry is valid for playing (R227). -/
def DirEnt.playable (d : DirEnt) : Bool := d.valid && (d.stream || d.chkOk)

/-- The entry with CHK_OK set to `b`. -/
def DirEnt.withChk (d : DirEnt) (b : Bool) : DirEnt :=
  { d with w1 := d.w1 - 2 ^ 30 * bits d.w1 30 1 + 2 ^ 30 * flag b }

/-- The entry with VALID and CHK_OK cleared. -/
def DirEnt.invalidated (d : DirEnt) : DirEnt := { d with w1 := d.w1 % 2 ^ 30 }

/-- The directory of Facet `f`: the entries that have been written, with their numbers. -/
def State.dirOf (s : State) (f : Nat) : List (Nat × DirEnt) :=
  (s.chip.dir.filter fun p => p.1 / 8192 = f).map fun p => (p.1 % 8192, p.2)

/-- Granule `g` of Facet `f` is sealed: an entry with CHK_OK 1 covers it (R227). -/
def State.sealed (s : State) (f g : Nat) : Bool :=
  (s.dirOf f).any fun p => p.2.chkOk && !p.2.stream && decide (p.2.base ≤ g ∧ g < p.2.base + p.2.length)

/-- The bytes a segment's words contribute to its check word (R226). -/
def State.segBytes (s : State) (f first n : Nat) : List Nat :=
  (List.range n).flatMap fun k => dwordBytes (s.payload f (first + k)) ++ [s.side f (first + k) % 4]

/-- CRC-32C over the content of a resident entry (R226). -/
def State.segCrc (s : State) (f : Nat) (d : DirEnt) : Nat := crc32c (s.segBytes f (16 * d.base) (16 * d.length))

/-! ### Stream windows (R229 to R233) -/

/-- The number of window `w` of Facet `f`. -/
def winId (f w : Nat) : Nat := 32 * f + w

/-- The engine of Facet `f` that owns window `w`. -/
def State.winOwner (s : State) (f w : Nat) : Nat := 16 * f + s.rd WIN_CFG.OWNER (winId f w)

/-- The store granule that holds stream granule `n` of window `w` (R230). -/
def State.winSlot (s : State) (f w n : Nat) : Nat :=
  s.rd WIN_CFG.BASE (winId f w) + n % max 1 (s.rd WIN_SIZE.SIZE (winId f w))

/-- The tag half in eight side bytes from word `w0` on (R231). -/
def State.tagHalf (s : State) (f w0 : Nat) : Nat :=
  (List.range 8).foldl (fun acc i => acc + bits (s.side f (w0 + i)) 2 2 * 4 ^ i) 0

/-- Both tag halves of the slot of stream granule `n` read its tag (R231). -/
def State.tagOk (s : State) (f w n : Nat) : Bool :=
  let g := s.winSlot f w n
  s.tagHalf f (16 * g) == n % 65536 && s.tagHalf f (16 * g + 8) == n % 65536

/-- Stream granule `n` of window `w` is present (R231). -/
def State.present (s : State) (f w n : Nat) : Bool :=
  decide (n < (s.win (winId f w)).wp) && s.tagOk f w n && !(s.win (winId f w)).bad.contains n

/-- A granule that was written and fails its tag or ECC test: stale (R231). -/
def State.stale (s : State) (f w n : Nat) : Bool :=
  decide (n < (s.win (winId f w)).wp) && !s.present f w n

/-! ### ECC counters (R222) -/

/-- What a read of line `l` of Facet `f`'s store finds, when it meets `ecc` there: an error that the line holds is found again. -/
def State.lineEcc (s : State) (f l : Nat) (ecc : Ecc) : Ecc :=
  match (s.store f).errs.find? fun x => x.1 == l with
  | some (_, true) => .uncorrectable
  | some (_, false) => if ecc = .clean then .corrected else ecc
  | none => ecc

/-- What the reads of the lines [`lo`, `hi`) of Facet `f` find that are not clean, when they meet `errs`. -/
def State.linesEcc (s : State) (f lo hi : Nat) (errs : List (Nat × Ecc)) : List (Nat × Ecc) :=
  let held := ((s.store f).errs.filter fun x => !errs.any fun y => y.1 == x.1).map fun x => (x.1, Ecc.clean)
  ((errs ++ held).filter fun x => decide (lo ≤ x.1 ∧ x.1 < hi)).map fun x => (x.1, s.lineEcc f x.1 x.2)

/-- Line `l` of Facet `f` holds an error from now on: it stays as it is until the scrubber or a write replaces it. -/
def State.lineFails (s : State) (f l : Nat) (unc : Bool) : State :=
  s.modStore f fun x => { x with errs := (l, unc) :: x.errs.filter fun y => y.1 != l }

/-- Line `l` of Facet `f` is written: a write of the whole line replaces it; one of a part, by read-modify-write, replaces what the read
corrects. -/
def State.lineWritten (s : State) (f l : Nat) (whole : Bool) : State :=
  if (s.store f).errs.any fun y => y.1 == l && (whole || !y.2) then
    s.modStore f fun x => { x with errs := x.errs.filter fun y => !(y.1 == l && (whole || !y.2)) }
  else s

/-- `n` lines of Facet `f` from line `l` on are written. -/
def State.linesWritten (s : State) (f l n : Nat) (whole : Bool) : State :=
  (List.range n).foldl (fun t i => t.lineWritten f (l + i) whole) s

/-- The store line of offset `o` of a Facet's region, below 0x00A00000 (R48). -/
def lineAt (o : Nat) : Nat := if o < 0x00800000 then o / 32 else (o - 0x00800000) / 8

/-- A read of line `l` of Facet `f`'s store that meets `ecc` (R222): a corrected or an uncorrectable one is counted and recorded, and
raised. -/
def State.eccRead (s : State) (f l : Nat) (ecc : Ecc) : State :=
  match s.lineEcc f l ecc with
  | .clean => s
  | .corrected =>
    (((((s.lineFails f l false).inc SEG_ECC_CNT.CORR f).wr SEG_ECC_ADDR.VALID f 1).wr SEG_ECC_ADDR.UNC f 0).wr SEG_ECC_ADDR.LINE f
      l).raise (pgSeg f) 1
  | .uncorrectable =>
    (((((s.lineFails f l true).inc SEG_ECC_CNT.UNCORR f).wr SEG_ECC_ADDR.VALID f 1).wr SEG_ECC_ADDR.UNC f 1).wr SEG_ECC_ADDR.LINE f
      l).raise (pgSeg f) 2

/-! ### Double-banked tables (R246 to R250) -/

/-- The table of APG `a`, of lane `l`, and of drive group `g`. -/
def tabApg (a : Nat) : Nat := a
def tabLane (l : Nat) : Nat := 128 + l
def tabPt (g : Nat) : Nat := 384 + g

/-- What entry `i` of table `t` reads at reset: the identity scramble (R299), engine A on every bit (R302), 0 (R385). -/
def tabReset (t i : Nat) : Nat :=
  if t < 128 then (if i < 32 then i else i - 32)
  else if t < 384 then (if i < 8 then 0x40404040 else 0)
  else 0

/-- Entry `i` of bank `b` of table `t`. -/
def State.tabEntry (s : State) (t b i : Nat) : Nat :=
  Sparse.get (tabReset t i) (if b = 0 then (s.tab t).bank0 else (s.tab t).bank1) i

/-- Entry `i` of bank `b` of table `t` set to `v`. -/
def State.setTabEntry (s : State) (t b i v : Nat) : State :=
  s.modTab t fun x =>
    if b = 0 then { x with bank0 := Sparse.put (tabReset t i) x.bank0 i v }
    else { x with bank1 := Sparse.put (tabReset t i) x.bank1 i v }

/-- The register fields of a table: its fields' instance, and ACTIVE_BANK, BANK_STATE, BUILD_DONE, CHECK_OK, the expected
check word and REQ_BANK. -/
structure TabRegs where
  i : Nat
  active : Fld
  state : Fld
  done : Fld
  ok : Fld
  check : Fld
  req : Fld

/-- The registers of table `t` (R306, R308, R388). -/
def tabRegs (t : Nat) : TabRegs :=
  if t < 128 then
    { i := t, active := APG_BANK.ACTIVE_BANK, state := APG_BANK.BANK_STATE, done := APG_BANK.BUILD_DONE,
      ok := APG_BANK.CHECK_OK, check := APG_BANK_CHECK.CHECK, req := APG_CFG.REQ_BANK }
  else if t < 384 then
    { i := t - 128, active := LANE_COMP_CTL.ACTIVE_BANK, state := LANE_COMP_CTL.BANK_STATE,
      done := LANE_COMP_CTL.BUILD_DONE, ok := LANE_COMP_CTL.CHECK_OK, check := LANE_COMP_CHECK.CHECK,
      req := LANE_COMP_CTL.REQ_BANK }
  else
    { i := t - 384, active := PT_BANK.ACTIVE_BANK, state := PT_BANK.BANK_STATE, done := PT_BANK.BUILD_DONE,
      ok := PT_BANK.CHECK_OK, check := PT_CHECK.CHECK, req := PT_BANK.REQ_BANK }

/-- The active bank of table `t`. -/
def State.tabActive (s : State) (t : Nat) : Nat := s.rd (tabRegs t).active (tabRegs t).i

/-- The inactive bank is OPEN (R247). -/
def State.tabOpen (s : State) (t : Nat) : Bool := s.rd (tabRegs t).state (tabRegs t).i == 0

/-- The inactive bank was CLOSED with CHECK_OK 1 at tick `x` (R248). -/
def Tab.closedAt (x : Tab) (t : Nat) : Bool :=
  (match x.okSince with | some a => decide (a ≤ t) | none => false) ||
  (match x.okWas with | some (a, b) => decide (a ≤ t ∧ t < b) | none => false)

/-- A swap requested by a step happens at or before ball tick `x`, at a boundary of `reqs`. -/
def Tab.stepSwap (tb : Tab) (lead x : Nat) : Bool :=
  tb.reqs.any fun r => decide (r.1 ≤ x) && tb.closedAt (r.1 - lead)

/-- A swap requested by a commit happens at or before ball tick `x`: at the first boundary, a multiple of `g` ticks from
`o`, at which the bank was closed LEAD ticks before (R249); a REOPEN that takes effect after that tick does not undo it (R248). -/
def Tab.commitSwap (tb : Tab) (lead o g x : Nat) : Bool :=
  match tb.commitFrom with
  | some d =>
    let first := fun a => o + ceilTo g (max d (a + lead) - o)
    (match tb.okSince with | some a => decide (first a ≤ x) | none => false) ||
    (match tb.okWas with | some (a, b) => decide (first a ≤ x ∧ first a < b + lead) | none => false)
  | none => false

/-- The bank of table `t` that entries of ball tick `x` are computed from (R248), on a grid of `g` ticks from `o`; `more` are requests
that a step to come will make, of which entries are written ahead (R119). -/
def State.tabBankAt (s : State) (t lead o g x : Nat) (more : List (Nat × Nat)) : Nat :=
  let act := s.tabActive t
  let tb := s.tab t
  if ({ tb with reqs := tb.reqs ++ more } : Tab).stepSwap lead x || tb.commitSwap lead o g x then 1 - act else act

end Sys2Proof.Machine
end

