-- ==== Sys2Proof/Machine/ApgOps.lean ====
section
/-!
DEFINITION. Machine/ApgOps.lean: the vectors an algorithmic pattern generator computes (R286 to R298): addresses, data,
march programs, and the state after any number of vectors.
-/

namespace Sys2Proof.Machine

/-- Element `i` of APG `a`'s element memory: its two dwords (R295). -/
def State.apgElem (s : State) (a i : Nat) : Nat × Nat := Sparse.get (0, 0) (s.apg a).elems i

/-- The element program `p` of APG `a` runs at its index `k` (R294). -/
def State.progElem (s : State) (a p k : Nat) : Nat × Nat := s.apgElem a (s.rd PH_CTL.FIRST (16 * a + p) + k)

/-- The counts C1, C2, C3 of shape `h` of APG `a` (R291). -/
def State.shapeCnt (s : State) (a h : Nat) : Nat × Nat × Nat :=
  (s.rd SH_CNT12.CNT1_M1 (4 * a + h) + 1, s.rd SH_CNT12.CNT2_M1 (4 * a + h) + 1, s.rd SH_CNT3.CNT3_M1 (4 * a + h) + 1)

/-- K, the addresses of a shape (R291). -/
def State.shapeLen (s : State) (a h : Nat) : Nat :=
  let (c1, c2, c3) := s.shapeCnt a h
  c1 * c2 * c3

/-- The loop counters i1, i2, i3 of index `n` (R291). -/
def State.loops (s : State) (a h n : Nat) : Nat × Nat × Nat :=
  let (c1, c2, _) := s.shapeCnt a h
  (n % c1, n / c1 % c2, n / (c1 * c2))

/-- The logical address (X, Y) of index `n` of shape `h` (R291). -/
def State.logical (s : State) (a h n : Nat) : Nat × Nat :=
  let i := 4 * a + h
  let (i1, i2, i3) := s.loops a h n
  let f := fun (o : Nat) (p q r : Nat) (w : Nat) =>
    unsigned w ((o : Int) + i1 * signed 16 p + i2 * signed 16 q + i3 * signed 16 r)
  (f (s.rd SH_ORG.X0 i) (s.rd SH_STEP1.XSTEP i) (s.rd SH_STEP2.XSTEP i) (s.rd SH_STEP3.XSTEP i) (s.rd SH_BITS.XBITS i),
   f (s.rd SH_ORG.Y0 i) (s.rd SH_STEP1.YSTEP i) (s.rd SH_STEP2.YSTEP i) (s.rd SH_STEP3.YSTEP i) (s.rd SH_BITS.YBITS i))

/-- The XOR of the low `w` bits of `x`. -/
def parity : Nat → Nat → Nat
  | 0, _ => 0
  | w + 1, x => (x + parity w (x / 2)) % 2

/-- The scramble bank in force for ball tick `x`, on the owner's granule `g` (R299, LEAD 1024). -/
def State.apgBank (s : State) (a g : Nat) (more : List (Nat × Nat)) (x : Nat) : Nat := s.tabBankAt (tabApg a) 1024 0 g x more

/-- Address scramble of the logical address (R292). -/
def State.scrambleAddr (s : State) (a bank h : Nat) (xy : Nat × Nat) : Nat × Nat :=
  let l := xy.1 + 65536 * xy.2
  let xb := s.rd SH_BITS.XBITS (4 * a + h)
  let yb := s.rd SH_BITS.YBITS (4 * a + h)
  let o := fun b =>
    let e := s.tabEntry (tabApg a) bank b
    (bits l (bits e 0 5) 1 + bits e 14 1 * bits l (bits e 8 5) 1 + bits e 15 1) % 2
  ((List.range 16).foldl (fun acc b => if b < xb then acc + o b * 2 ^ b else acc) 0,
   (List.range 16).foldl (fun acc b => if b < yb then acc + o (16 + b) * 2 ^ b else acc) 0)

/-- Data scramble (R293). -/
def State.scrambleData (s : State) (a bank d l : Nat) : Nat :=
  (List.range 16).foldl (fun acc b =>
    let e := s.tabEntry (tabApg a) bank (32 + b)
    acc + (bits d (bits e 0 4) 1 + bits e 14 1 * bits l (bits e 8 5) 1 + bits e 15 1) % 2 * 2 ^ b) 0

/-- The address fields X, Y a MARCH vector of index `n` of shape `h` carries (R292). -/
def State.vectorXY (s : State) (a p bank h n : Nat) : Nat × Nat :=
  let xy := s.logical a h n
  if s.on PH_DATA.ASCR_EN (16 * a + p) then s.scrambleAddr a bank h xy else xy

/-- The background of R293 for the logical address, before polarity. -/
def State.background (s : State) (a p : Nat) (xy : Nat × Nat) : Nat :=
  let b := s.rd PH_DATA.BASE (16 * a + p)
  let inv := match s.rd PH_DATA.BG (16 * a + p) with
    | 1 => (xy.1 + xy.2) % 2
    | 2 => xy.2 % 2
    | 3 => xy.1 % 2
    | _ => 0
  if inv = 1 then 0xFFFF - b else b

/-- APAR: the XOR of the logical X and Y bits within XBITS and YBITS (R286). -/
def State.apar (s : State) (a h : Nat) (xy : Nat × Nat) : Nat :=
  (parity (s.rd SH_BITS.XBITS (4 * a + h)) xy.1 + parity (s.rd SH_BITS.YBITS (4 * a + h)) xy.2) % 2

/-- LPAR: the parity of the loop PINV selects (R286). -/
def State.lpar (s : State) (a p h n : Nat) : Nat :=
  let (i1, i2, i3) := s.loops a h n
  match s.rd PH_DATA.PINV (16 * a + p) with
  | 1 => i1 % 2
  | 2 => i2 % 2
  | 3 => i3 % 2
  | _ => 0

/-- The condition PINV selects (R293). -/
def State.pinv (s : State) (a p h n : Nat) (xy : Nat × Nat) : Nat :=
  match s.rd PH_DATA.PINV (16 * a + p) with
  | 4 => s.apar a h xy
  | 5 => parity 16 xy.1
  | 6 => parity 16 xy.2
  | _ => s.lpar a p h n

/-- The operations of an element per address (R295). -/
def elemOps (d0 : Nat) : Nat := bits d0 24 3 + 1

/-- The vectors of an element (R296): none when it lasts until an advance. -/
def State.elemLen (s : State) (a : Nat) (e : Nat × Nat) : Option Nat :=
  match bits e.1 30 2 with
  | 1 => none
  | 2 => some (bits e.1 0 24)
  | _ => some (s.shapeLen a (bits e.1 27 2) * elemOps e.1)

/-- The index an element visits at its `k`th address (R291). -/
def State.elemIndex (s : State) (a d0 k : Nat) : Nat :=
  if bit d0 29 then s.shapeLen a (bits d0 27 2) - 1 - k else k

/-- The vector of a MARCH element at vector number `off` (R286, R293). -/
def State.marchVector (s : State) (a p k bank off : Nat) (e : Nat × Nat) : Nat :=
  let ops := elemOps e.1
  let h := bits e.1 27 2
  let n := s.elemIndex a e.1 (off / ops)
  let op := bits e.2 (4 * (off % ops)) 4
  let cmd := bits op 2 2
  let xy := s.logical a h n
  let out := s.vectorXY a p bank h n
  let d0 := if bit op 0 then Sparse.get 0 (s.apg a).user (xy.1 % 8 + 8 * (xy.2 % 8)) else s.background a p xy
  let d1 := if bit op 1 then 0xFFFF - d0 else d0
  let d2 := if s.pinv a p h n xy = 1 then 0xFFFF - d1 else d1
  let d3 := if s.on PH_DATA.DSCR_EN (16 * a + p) then s.scrambleData a bank d2 (xy.1 + 65536 * xy.2) else d2
  let data := if cmd = 0 then 0 else d3
  k * 2 ^ 58 + (off % ops) * 2 ^ 55 + s.lpar a p h n * 2 ^ 54 + s.apar a h xy * 2 ^ 53 +
    flag (cmd == 2) * 2 ^ 52 + cmd * 2 ^ 48 + data * 2 ^ 32 + out.2 * 2 ^ 16 + out.1

/-- The vector an APG in state `st` presents (R286, R290, R296): a march vector, a PAUSE vector, or after the program's
end a NOP vector. -/
def State.vector (s : State) (a bank : Nat) (st : ApgSt) : Nat :=
  if st.st = 4 then st.ly * 2 ^ 16 + st.lx
  else
    let e := s.progElem a st.prog st.elem
    match bits e.1 30 2 with
    | 0 => s.marchVector a st.prog st.elem bank st.off e
    | _ => st.elem * 2 ^ 58 + 3 * 2 ^ 48 + st.ly * 2 ^ 16 + st.lx

/-- The logical address of the vector in state `st` (APG_POS, R306). -/
def State.vectorLogical (s : State) (a : Nat) (st : ApgSt) : Nat × Nat :=
  let e := s.progElem a st.prog st.elem
  if st.st ≠ 4 ∧ bits e.1 30 2 = 0 then
    s.logical a (bits e.1 27 2) (s.elemIndex a e.1 (st.off / elemOps e.1))
  else (s.rd APG_POS.X a, s.rd APG_POS.Y a)

/-- The first vector of program `p`, presented at tick `t` (R289). -/
def apgRestart (p t : Nat) (old : ApgSt) : ApgSt := { prog := p, lx := old.lx, ly := old.ly, since := t, st := 1 }

/-- The state in the element after the present one, whose first vector is presented at `t` (R290). -/
def State.nextElem (s : State) (a bank t : Nat) (st : ApgSt) : ApgSt :=
  let e := s.progElem a st.prog st.elem
  let xy := if bits e.1 30 2 = 0 then
      s.vectorXY a st.prog bank (bits e.1 27 2)
        (s.elemIndex a e.1 (s.shapeLen a (bits e.1 27 2) - 1))
    else (st.lx, st.ly)
  if st.elem < s.rd PH_CTL.COUNT_M1 (16 * a + st.prog) then
    { st with elem := st.elem + 1, off := 0, lx := xy.1, ly := xy.2, since := t }
  else if s.on PH_CTL.WRAP (16 * a + st.prog) then
    { st with elem := 0, off := 0, lx := xy.1, ly := xy.2, since := t }
  else { st with off := 0, lx := xy.1, ly := xy.2, since := t, st := 4 }

/-- The state with the X and Y of the last vector presented, which a PAUSE or a NOP vector holds (R290, R296): `bank` is the one it was
computed from. -/
def State.lastXY (s : State) (a bank : Nat) (st : ApgSt) : ApgSt :=
  let e := s.progElem a st.prog st.elem
  if st.st = 1 ∧ bits e.1 30 2 = 0 ∧ 0 < st.off then
    let xy := s.vectorXY a st.prog bank (bits e.1 27 2) (s.elemIndex a e.1 ((st.off - 1) / elemOps e.1))
    { st with lx := xy.1, ly := xy.2 }
  else st

/-- The vectors of a whole program, counted as far as its first PAUSE_ADV element; none when it has one. -/
def State.progLen (s : State) (a p : Nat) : Option Nat :=
  (List.range (s.rd PH_CTL.COUNT_M1 (16 * a + p) + 1)).foldl
    (fun acc k => match acc, s.elemLen a (s.progElem a p k) with
      | some x, some y => some (x + y)
      | _, _ => none) (some 0)

/-- The state after `n` vectors from tick `t` on, `per` ticks each, walking element by element (R289, R290); whole passes
of a wrapping program are taken off at once. `bank` gives the scramble bank of each tick. -/
def State.apgWalk (s : State) (a : Nat) (bank : Nat → Nat) (per : Nat) : Nat → Nat → Nat → ApgSt → ApgSt
  | 0, _, _, st => st
  | fuel + 1, n, t, st =>
    if st.st ≠ 1 then st
    else match s.elemLen a (s.progElem a st.prog st.elem) with
      | none => { st with off := st.off + n }
      | some len =>
        if st.off + n < len then { st with off := st.off + n }
        else
          let r := len - st.off
          let st' := s.nextElem a (bank (t + r * per - per)) (t + r * per) st
          let left := n - r
          let left := if st'.elem = 0 ∧ st'.st = 1 then
              (match s.progLen a st.prog with | some l => if l = 0 then 0 else left % l | none => left)
            else left
          s.apgWalk a bank per fuel left (t + r * per) st'

/-- The state after `n` vectors. -/
def State.apgAfter (s : State) (a : Nat) (bank : Nat → Nat) (per n t : Nat) (st : ApgSt) : ApgSt := s.apgWalk a bank per 132 n t st

end Sys2Proof.Machine
end

