-- ==== Sys2Proof/Machine/EngineOps.lean ====
section
/-!
DEFINITION. Machine/EngineOps.lean: what a sequence engine presents at each tick, as the program and the events applied to
it fix it (R116 to R192): step words and branch sets, grids, loops, the entries of a step, and the passage to a successor.
-/

namespace Sys2Proof.Machine

/-! ### Configuration and grid -/

/-- The Facet of engine `e`. -/
def engFacet (e : Nat) : Nat := e / 16

/-- The engine has KIND DRIVE. -/
def State.engDrive (s : State) (e : Nat) : Bool := s.rdA ENG_CFG.KIND e == 1

/-- Ticks per entry (R116). -/
def State.engPer (s : State) (e : Nat) : Nat :=
  if s.engDrive e then s.rdA ENG_CFG.PERIOD e else if s.rdA ENG_CFG.LCLASS e = 1 then 2 else 1

/-- The granule in ticks. -/
def State.engGran (s : State) (e : Nat) : Nat := 16 * s.engPer e

/-- The lanes of the Facet that name the engine: its feed set (R117). -/
def State.feedSet (s : State) (e : Nat) : List Nat :=
  if s.engDrive e then []
  else ((List.range 8).map (8 * engFacet e + ·)).filter fun l =>
    (s.rdA LANE_SRC.A_EN l == 1 && s.rdA LANE_SRC.ENG_A l == e % 16) ||
    (s.rdA LANE_SRC.B_EN l == 1 && s.rdA LANE_SRC.ENG_B l == e % 16)

/-- KIND and INDEX of source A (0) or B (1) of drive channel `d`, as in force (R359). -/
def State.drvSrc (s : State) (d src : Nat) : Nat × Nat :=
  if src = 0 then (s.rdX DRV_SRC_A.KIND d, s.rdX DRV_SRC_A.INDEX d)
  else (s.rdX DRV_SRC_B.KIND d, s.rdX DRV_SRC_B.INDEX d)

/-- The channels and sources that select the engine (R118). -/
def State.feedChans (s : State) (e : Nat) : List (Nat × Nat) :=
  if s.engDrive e then
    (List.range 64).flatMap fun d => ([0, 1].filter fun x => s.drvSrc d x == (1, e)).map fun x => (d, x)
  else []

/-- The drive group of a channel. -/
def grpOf (d : Nat) : Nat := d / 8

/-- The origin the engine's decision points are counted from (R26, R118): 0 on the lane grid, O_g on a drive grid. -/
def State.engOrigin (s : State) (e : Nat) : Nat :=
  match s.feedChans e with
  | [] => 0
  | (d, _) :: _ => (s.grp (grpOf d)).o

/-- Tick `x` is a decision point of the engine (R26). -/
def State.engDP (s : State) (e x : Nat) : Bool :=
  decide (s.engOrigin e ≤ x) && (x - s.engOrigin e) % max 1 (s.engGran e) == 0

/-- The engine's first decision point at or after `x`. -/
def State.engDPFrom (s : State) (e x : Nat) : Nat :=
  s.engOrigin e + ceilTo (s.engGran e) (x - s.engOrigin e)

/-- A tick is a lane granule boundary of the lane `l`: E mod 16 = 0, or E mod 32 = 0 at GLP1 (R26, R310). -/
def State.laneGran (s : State) (l : Nat) : Nat := if s.rd LANE_STAT.VER l = 1 then 32 else 16

/-- The lane's negotiated protocol matches the engine's LCLASS (R117). -/
def State.classMatch (s : State) (e l : Nat) : Bool :=
  (s.rd LANE_STAT.VER l == 1) == (s.rdA ENG_CFG.LCLASS e == 1)

/-! ### Step words and branch sets (R151 to R169) -/

def stOp (w : Nat) : Nat := bits w 124 4
def stNextAbs (w : Nat) : Bool := bit w 123
def stBrAtEnd (w : Nat) : Bool := bit w 122
def stLatch (w : Nat) : Bool := bit w 121
def stMarkOvr (w : Nat) : Bool := bit w 120
def stPhaseReset (w : Nat) : Bool := bit w 119
def stSwap (w : Nat) : Bool := bit w 118
def stPin (w : Nat) : Bool := bit w 117
def stIdle (w : Nat) : Bool := bit w 116
def stQuiet (w : Nat) : Bool := bit w 115
def stSwapSel (w : Nat) : Nat := bits w 113 2
def stSeg (w : Nat) : Nat := bits w 96 16
def stRepeat (w : Nat) : Nat := bits w 72 24
def stAction (w : Nat) : Nat := bits w 70 2
def stLevel (w : Nat) : Nat := bits w 68 2
def stReg (w : Nat) : Nat := bits w 64 4
def stNext (w : Nat) : Nat := bits w 48 16
def stBset (w : Nat) : Nat := bits w 40 8
def stMark (w : Nat) : Nat := bits w 32 8
def stParam (w : Nat) : Nat := bits w 0 32

/-- The step opens its level (R126). -/
def stOpens (w : Nat) : Bool := stAction w == 1 || stAction w == 3
/-- The step closes its level. -/
def stCloses (w : Nat) : Bool := stAction w == 2 || stAction w == 3

/-- The word of window-local step `j` of engine `e` (R121). -/
def State.engStep (s : State) (e j : Nat) : Nat := s.stepWord (engFacet e) (s.rdA ENG_WIN.BASE e + j)

/-- Entry `k` of branch set `b` of the engine, 64 bits (R165, R167). -/
def State.bsetEntry (s : State) (e b k : Nat) : Nat :=
  bits (s.stepWord (engFacet e) (s.rdA ENG_WIN.BASE e + s.rdA ENG_WIN.SIZE_M1 e + 2 * b - 1 + k / 2)) (64 * (k % 2)) 64

def brValid (x : Nat) : Bool := bit x 63
def brInput (x : Nat) : Nat := bits x 61 2
def brMode (x : Nat) : Nat := bits x 59 2
def brWinEn (x : Nat) : Bool := bit x 58
def brWinRef (x : Nat) : Nat := bits x 57 1
def brTarget (x : Nat) : Nat := bits x 40 16
def brOpen (x : Nat) : Nat := bits x 20 20
def brClose (x : Nat) : Nat := bits x 0 20

/-- The four entries of the branch set a step names, all 0 when it names none or is END (R161, R165). -/
def State.stepEntries (s : State) (e w : Nat) : List Nat :=
  if stBset w = 0 ∨ stOp w = 7 then [0, 0, 0, 0] else (List.range 4).map (s.bsetEntry e (stBset w))

/-- The step's branch set holds a VALID entry on input `n`, or it is a WAIT on `n` (R179). -/
def State.stepUses (s : State) (e w n : Nat) : Bool :=
  (s.stepEntries e w).any (fun x => brValid x && brInput x == n) ||
  (stOp w == 6 && bits (stParam w) 30 2 == n)

/-- The directory entry a PLAY or STREAM step names. -/
def State.stepSeg (s : State) (e w : Nat) : DirEnt := s.dirEnt (engFacet e) (stSeg w)

/-- Granules per iteration (R124, R154). -/
def State.iterLen (s : State) (e w : Nat) : Nat :=
  if stOp w = 0 ∨ stOp w = 1 then max 1 (s.stepSeg e w).length else 1

/-- Granules of a step, less a WAIT's wait for its input (R124). -/
def State.stepLen (s : State) (e w : Nat) : Nat :=
  if stOp w = 7 then 0 else stRepeat w * s.iterLen e w

/-- The window-local successor NEXT gives, none outside the window (R160). -/
def State.nextOf (s : State) (e j w : Nat) : Option Nat :=
  let n : Int := if stNextAbs w then (stNext w : Int) else (j : Int) + signed 16 (stNext w)
  if 0 ≤ n ∧ n ≤ (s.rdA ENG_WIN.SIZE_M1 e : Int) then some n.toNat else none

/-- The APG a step names, as a device number (R163). -/
def stApg (e w : Nat) : Nat := 4 * engFacet e + bits (stParam w) 16 2

/-- The stream window a step names. -/
def stWindow (w : Nat) : Nat := bits (stParam w) 0 8

/-! ### Positions -/

/-- The value under a key, or `d`. -/
def lookup {α : Type} (l : List (Nat × α)) (k : Nat) (d : α) : α := Sparse.get d l k

/-- The end boundary of the step at position `p` (R125); of a WAIT, the earliest one. -/
def State.posEnd (s : State) (e : Nat) (p : Pos) : Nat :=
  p.org + s.stepLen e (s.engStep e p.step) * s.engGran e

/-- The state of APG `a` at the start of position `p`. -/
def State.posApg (s : State) (p : Pos) (a : Nat) : ApgSt := lookup p.apgs a (s.apg a).held

/-- The APG that step word `w` of the engine runs: it serves only the engine that OWNER names, and only while EN is 1 (R287). -/
def State.servedApg (s : State) (e w : Nat) : Option Nat :=
  let a := stApg e w
  if stOp w = 3 ∧ s.rdA APG_CFG.EN a = 1 ∧ s.rdA APG_CFG.OWNER a = e % 16 then some a else none

/-- Step word `w` requests a swap of the scramble tables of its APG (R157). -/
def stSwapsApg (w : Nat) : Bool := stSwap w && stOp w == 3 && (stSwapSel w == 0 || stSwapSel w == 2)

/-- The scramble bank of each ball tick of position `p` on APG `a`: the swap that its step requests counts also while the position is not
decided yet, so that entries written ahead are those of the run as it unfolds (R119, R248). -/
def State.posBank (s : State) (e : Nat) (p : Pos) (a : Nat) : Nat → Nat :=
  s.apgBank a (s.engGran e)
    (if stSwapsApg (s.engStep e p.step) && !p.loopBack && decide (s.epoch < p.start) then [(p.start, e)] else [])

/-- The state of APG `a` at ball tick `x` of position `p`, which runs it. -/
def State.apgStAt (s : State) (e : Nat) (p : Pos) (a x : Nat) : ApgSt :=
  let per := max 1 (s.engPer e)
  s.apgAfter a (s.posBank e p a) per ((x - p.start) / per) p.start (s.posApg p a)

/-- The states of the APGs when position `p` is left at `x` (R289). -/
def State.apgsAt (s : State) (e : Nat) (p : Pos) (x : Nat) : List (Nat × ApgSt) :=
  match p.kind, s.servedApg e (s.engStep e p.step) with
  | .play, some a => Sparse.set p.apgs a (s.lastXY a (s.posBank e p a (x - max 1 (s.engPer e))) (s.apgStAt e p a x))
  | _, _ => p.apgs

/-- The position of stream window `w` of the Facet at the start of `p`. -/
def State.posWin (s : State) (e : Nat) (p : Pos) (w : Nat) : Nat := lookup p.wpos w (s.win (winId (engFacet e) w)).pos

/-- RESUME_MODE of the engine: 0 CATCHUP, 1 CONTINUE (R241). -/
def State.resumeMode (s : State) (e : Nat) : Nat := s.rd SEG_STARVE.RESUME_MODE e

/-- The stream positions when position `p` is left at `x` (R230, R240): granules presented are consumed; an underrun
leaves POS where its resume mode would place it. -/
def State.wposAt (s : State) (e : Nat) (p : Pos) (x : Nat) : List (Nat × Nat) :=
  let w := s.engStep e p.step
  if stOp w = 1 ∧ !stPin w ∧ p.kind ≠ .gateWait then
    let n := p.sbase + (x - p.org) / max 1 (s.engGran e)
    Sparse.set p.wpos (stWindow w) (if p.kind = .starve ∧ s.resumeMode e = 1 then p.missing else n)
  else p.wpos

/-- A list of four numbers with entry `i` replaced. -/
def set4 (l : List Nat) (i v : Nat) : List Nat := l.set i v

/-- Entry `i` of a list of numbers. -/
def nth (l : List Nat) (i : Nat) : Nat := (l[i]?).getD 0

/-- Level `L` and every deeper level closed. -/
def closeFrom (l : List Nat) (lv : Nat) : List Nat := (l.take lv) ++ List.replicate (4 - min 4 lv) 0

/-- The innermost open level. -/
def innermost (l : List Nat) : Option Nat := ([3, 2, 1, 0] : List Nat).find? fun i => nth l i != 0

/-- The loop counts a taken branch leaves (R167): JUMP keeps them, JUMP_RESET closes all, EXIT_LOOP the innermost. -/
def branchLoops (mode : Nat) (l : List Nat) : List Nat :=
  match mode with
  | 1 => [0, 0, 0, 0]
  | 2 => (match innermost l with | some i => set4 l i 0 | none => l)
  | _ => l

/-- What leaving a step at its end boundary gives: the successor, whether by loop-back, the loop counts and the level whose
count reached 0; or a fault (R126, R127, R144). -/
structure Exit where
  step : Nat
  back : Bool
  lcnt : List Nat
  ends : List Nat
  fault : Option Nat
  deriving DecidableEq, Repr

/-- The exit of position `p` at its end boundary (R126, R128). -/
def State.naturalExit (s : State) (e : Nat) (p : Pos) : Exit :=
  let w := s.engStep e p.step
  let l := stLevel w
  let nxt := s.nextOf e p.step w
  let byNext : List Nat → List Nat → Exit := fun lc ends =>
    { step := nxt.getD 0, back := false, lcnt := lc, ends := ends, fault := if nxt.isNone then some 0x03 else none }
  if stCloses w then
    let c := nth p.lcnt l
    if c = 0 then { byNext p.lcnt [] with fault := some 0x01 }
    else if c - 1 ≠ 0 then
      { step := nth p.head l, back := true, lcnt := set4 p.lcnt l (c - 1), ends := [],
        fault := if nth p.head l ≤ s.rdA ENG_WIN.SIZE_M1 e then none else some 0x03 }
    else byNext (closeFrom p.lcnt l) [l]
  else byNext p.lcnt []

/-- The levels open in `a` and closed in `b`. -/
def closedLevels (a b : List Nat) : List Nat := (List.range 4).filter fun i => nth a i != 0 && nth b i == 0

/-- The outermost open level. -/
def outermost (l : List Nat) : Option Nat := ([0, 1, 2, 3] : List Nat).find? fun i => nth l i != 0

/-- A step that starts as position `p` takes a pin on the `n` granules of window `k` from `f` on, and POS advances past them (R236). -/
def Pos.takePin (p : Pos) (k f n : Nat) : Pos :=
  { p with sbase := f, took := true, wpos := Sparse.set p.wpos k (f + n)
           pins := p.pins ++ [(k, { first := f, len := n, level := outermost p.lcnt, step := p.step })] }

/-- An APG step starts its program from the first element: RESTART, or a program other than the one the APG stands in (R289). -/
def apgRestarts (w : Nat) (old : ApgSt) : Bool :=
  bit (stParam w) 15 || old.prog != bits (stParam w) 0 6 || old.st == 0

/-- What entering step `j` at `x` from position `p` gives: a position, or a fault. `p` carries the loop counts, APG states,
stream positions and pins as the exit leaves them; `p.loopBack` says that the entry is a loop-back (R126, R127, R236). A step
that opens or closes a level against R127 is faulty as it is fetched. -/
def State.enterStep (s : State) (e : Nat) (p : Pos) (j x : Nat) (regs : List Nat) : Pos × Option Nat :=
  let w := s.engStep e j
  let l := stLevel w
  let opens := stOpens w && !p.loopBack
  let lc := if opens then set4 (closeFrom p.lcnt l) l (nth regs (stReg w)) else p.lcnt
  let bad := (opens && decide (l ≠ 0) && nth p.lcnt (l - 1) == 0) || (stCloses w && nth lc l == 0)
  let hd := if opens then set4 p.head l j else p.head
  let p1 : Pos := { p with kind := .play, start := x, org := x, began := x, step := j, lcnt := lc, head := hd, fresh := true,
                           iterAt := none, took := false, ftT := if p.jumped then p.jumpAt else p.ftS,
                           ftS := if p.jumped then p.jumpAt else x, lrT := if p.jumped then p.lrT else p.lrS,
                           lrS := if p.jumped then p.lrS else [], lrE := [] }
  let pins := p1.pins.filter fun q => match q.2.level with
    | some lv => nth p.lcnt lv != 0 && (!opens || decide (lv ≤ l))
    | none => false
  let p2 := { p1 with pins := pins }
  let p3 : Pos × Option Nat :=
    if stOp w = 1 then
      let k := stWindow w
      if stPin w then
        match pins.find? (fun q => q.1 == k) with
        | some q => ({ p2 with sbase := q.2.first }, if q.2.step = j then none else some 0x11)
        | none =>
          (p2.takePin k (s.posWin e p k) (s.stepSeg e w).length, none)
      else ({ p2 with sbase := s.posWin e p k }, none)
    else match s.servedApg e w with
      | some a =>
        let old := s.posApg p a
        ({ p2 with apgs := Sparse.set p2.apgs a (if apgRestarts w old then apgRestart (bits (stParam w) 0 6) x old else old) }, none)
      | none => (p2, none)
  (p3.1, if bad then some 0x01 else p3.2)

/-- The sixteen loop registers' active copies as tick `x` finds them (R126), and now. -/
def State.lregsAt (s : State) (e x : Nat) : List Nat := (List.range 16).map fun r => s.rdAt ENG_LREG.COUNT (16 * e + r) x
def State.lregs (s : State) (e : Nat) : List Nat := s.lregsAt e s.epoch

/-! ### Entries -/

/-- The marker bits of an entry after MARK_OVR (R162): `k` entries into the step, `n` entries per iteration. -/
def markOf (w base k n : Nat) : Nat :=
  if stMarkOvr w then
    let mask := bits (stMark w) 4 4
    let one := match bits (stMark w) 2 2 with
      | 1 => true
      | 2 => k == 0
      | 3 => k % max 1 n == 0
      | _ => false
    (base &&& (0xF ^^^ mask)) ||| (if one then mask else 0)
  else base

/-- Word `k` of store granule `g` as an engine presents it: payload and marker bits (R221). -/
def State.storeEntry (s : State) (e g k x : Nat) : Entry :=
  let f := engFacet e
  let v := s.payload f (16 * g + k)
  if s.engDrive e then { tick := x, word := v % 2 ^ 24, mark := bits v 24 4 }
  else { tick := x, word := v, mark := s.side f (16 * g + k) % 4 }

/-- The store granule granule `n` of the step at `p` is read from (R156, R230). -/
def State.stepGranule (s : State) (e : Nat) (p : Pos) (w n : Nat) : Nat :=
  let d := s.stepSeg e w
  if stOp w = 0 then d.base + n % max 1 d.length
  else if stPin w then s.winSlot (engFacet e) (stWindow w) (p.sbase + n % max 1 d.length)
  else s.winSlot (engFacet e) (stWindow w) (p.sbase + n)

/-- The bridge segment of the engine, when one is declared (R240). -/
def State.bridge (s : State) (e : Nat) : Option DirEnt :=
  if s.on SEG_STARVE.BRIDGE_EN e then some (s.dirEnt (engFacet e) (s.rd SEG_STARVE.BRIDGE_SEG e)) else none

/-- The policy in force (R239): 1 BRIDGE, 2 HOLD_LAST, 3 SOFT_STOP. -/
def State.starvePolicy (s : State) (e : Nat) : Nat :=
  let p := s.rd SEG_STARVE.POLICY e
  if p = 0 then (if s.engDrive e then 3 else 1) else p

/-- What position `p` presents at ball tick `x` (R124, R135, R163, R164, R240). -/
def State.entryAt (s : State) (e : Nat) (p : Pos) (x : Nat) : Entry :=
  let per := max 1 (s.engPer e)
  let w := s.engStep e p.step
  let k := (x - p.org) / per
  match p.kind with
  | .gateWait => { tick := x, hold := true }
  | .starve =>
    let k' := (x - p.start) / per
    if s.starvePolicy e = 2 then
      match p.last[k' % 16]? with
      | some en => { en with tick := x, mark := 0 }
      | none => { tick := x, hold := true }
    else match s.bridge e with
      | some d => s.storeEntry e (d.base + k' / 16 % max 1 d.length) (k' % 16) x
      | none => { tick := x, hold := true }
  | .play =>
    let base : Entry :=
      match stOp w with
      | 0 => s.storeEntry e (s.stepGranule e p w (k / 16)) (k % 16) x
      | 1 => s.storeEntry e (s.stepGranule e p w (k / 16)) (k % 16) x
      | 2 => { tick := x, tone := some { tset := bits (stParam w) 0 10, first := k == 0,
                                         fromCurrent := bit (stParam w) 16, phaseReset := stPhaseReset w,
                                         runStart := p.entry && k == 0 } }
      | 3 =>
        { tick := x, apg := true,
          word := match s.servedApg e w with
            | some a => s.vector a (s.posBank e p a x) (s.apgStAt e p a x)
            | none => Config.unserved (stApg e w) x }
      | 4 => if stIdle w then { tick := x, hold := true }
             else { tick := x, word := if s.engDrive e then bits (stParam w) 0 24 else stParam w }
      | _ => if stIdle w then { tick := x, hold := true } else { tick := x, word := bits (stParam w) 0 24 }
    { base with mark := markOf w base.mark k (16 * s.iterLen e w) }

/-- The entries of the two granules from `x` on: what a splice appends (R186). -/
def State.landing (s : State) (e : Nat) (p : Pos) (x : Nat) : List Entry :=
  (List.range 32).map fun i => s.entryAt e p (x + i * s.engPer e)

/-- APG_STAT and APG_POS show the vector of ball tick `x`, the last one written; the last vector of a program that does not wrap ends it:
STATE reads DONE, and APG_DONE is raised once (R290, R306). -/
def State.showApg (s : State) (e : Nat) (p : Pos) (x : Nat) : State :=
  match p.kind, s.servedApg e (s.engStep e p.step) with
  | .play, some a =>
    let st := s.apgStAt e p a x
    let xy := s.vectorLogical a st
    let done := (s.apgStAt e p a (x + max 1 (s.engPer e))).st == 4
    let adv := bits (s.progElem a st.prog st.elem).1 30 2 == 1
    let s1 := ((s.wr APG_STAT.ELEM a (s.rd PH_CTL.FIRST (16 * a + st.prog) + st.elem)).wr APG_STAT.PROG a st.prog).wr
      APG_STAT.STATE a (if done then 4 else if adv then 2 else 1)
    let s2 := (s1.wr APG_POS.X a xy.1).wr APG_POS.Y a xy.2
    if done then
      if (s.apg a).told then s2 else (s2.modApg a fun u => { u with told := true }).raise (pgApg a) (16 * (a % 2))
    else s2.modApg a fun u => { u with told := false }
  | _, _ => s

/-- The registers that follow the entry of ball tick `x`, the last one written (R148, R306). -/
def State.showWritten (s : State) (e : Nat) (p : Pos) (x : Nat) : State :=
  let w := s.engStep e p.step
  let it := (x - p.org) / max 1 (s.engGran e * s.iterLen e w)
  ((s.wr ENG_POS.STEP e p.step).wr ENG_ITER.ITER e (stRepeat w - it)).showApg e p x

/-- The splice at `x` (R102, R186): the entries for `x` and later are withdrawn and the two landing granules of `p` take
their place. -/
def State.splice (s : State) (e : Nat) (p : Pos) (x : Nat) : State :=
  (s.modEng e fun g => { g with
    q := (g.q.filter fun en => decide (en.tick < x)) ++ s.landing e p x
    next := x + 32 * s.engPer e }).showWritten e p (x + 31 * s.engPer e)

/-- The entries for `x` and later withdrawn, and nothing appended (R142, R190). -/
def State.withdraw (s : State) (e x : Nat) : State :=
  s.modEng e fun g => { g with q := g.q.filter fun en => decide (en.tick < x), next := x }

/-- A runtime fault found in a fetch (R144, R564): kept unless an earlier D_f is already known. -/
def State.foundFault (s : State) (e df code step : Nat) : State :=
  s.modEng e fun g => { g with fault := match g.fault with
    | some (d, c, j) => if d ≤ df then some (d, c, j) else some (df, code, step)
    | none => some (df, code, step) }

/-- A stop tick fixed for the engine: the earliest one stands (R142). -/
def State.planStop (s : State) (e d cause : Nat) : State :=
  s.modEng e fun g => { g with stopD := match g.stopD with
    | some (d', c) => if d' ≤ d then some (d', c) else some (d, cause)
    | none => some (d, cause) }

/-- The engine's output ends at or before `x` (R180). -/
def Eng.endsBy (g : Eng) (x : Nat) : Bool :=
  (match g.stopD with | some (d, _) => decide (d ≤ x) | none => false) ||
  (match g.fault with | some (d, _, _) => decide (d ≤ x) | none => false)

/-! ### Branch inputs (R172 to R180) -/

/-- Input `n`'s pending record. -/
def Eng.input (g : Eng) (n : Nat) : Option Pend := (g.ins[n]?).getD none

/-- The pending record of input `n` replaced, and ENG_BIN_STAT and ENG_BIN_DUE brought in line (R194). -/
def State.setInput (s : State) (e n : Nat) (p : Option Pend) : State :=
  let t := s.modEng e fun g => { g with ins := g.ins.set n p }
  let m := fun (f : Pend → Bool) => (List.range 4).foldl (fun acc i =>
    match (t.eng e).input i with
    | some q => if f q then acc + 2 ^ i else acc
    | none => acc) 0
  let t := (t.wr ENG_BIN_STAT.PEND e (m fun _ => true)).wr ENG_BIN_STAT.UNC e (m fun q => q.unc)
  match p with
  | some q => t.wr64 ENG_BIN_DUE_LO.DUE ENG_BIN_DUE_HI.DUE (4 * e + n) q.due
  | none => t

/-- A pending record is due at decision point `x` (R173), and a late one takes part there (R24). -/
def Pend.dueAt (p : Pend) (x : Nat) : Bool := decide (p.due ≤ x) && decide (p.notBefore ≤ x)

/-- The inputs due at `x`. -/
def Eng.dueInputs (g : Eng) (x : Nat) : List Nat :=
  (List.range 4).filter fun n => match g.input n with
    | some p => p.dueAt x
    | none => false

/-- The tick from which a record takes part in the decisions: its due tick, or for a late one the decision point of R24. -/
def Pend.from (p : Pend) : Nat := max p.due p.notBefore

/-- Two records of one input as one (R172): the earlier due tick, the higher generation, either uncertain flag. The earlier of the two
that can still take part decides from when it does (R24). -/
def Pend.merge (p q : Pend) : Pend :=
  let due := min p.due q.due
  let act := min p.from q.from
  { due := due, stamp := if q.due < p.due then q.stamp else p.stamp, gen := max p.gen q.gen,
    unc := p.unc || q.unc, notBefore := if act ≤ due then 0 else act }

/-- Every pending bit cleared without being counted (R180). -/
def State.clearInputs (s : State) (e : Nat) : State := (List.range 4).foldl (fun t n => t.setInput e n none) s

/-- Eclipsed inputs (R176): cleared and counted unless the step carries LATCH, with one ENG_ECLIPSE. -/
def State.eclipse (s : State) (e w : Nat) (ns : List Nat) : State :=
  if stLatch w || ns.isEmpty then s
  else (ns.foldl (fun t n => (t.setInput e n none).inc ENG_BIN_LOSS.ECLIPSED (4 * e + n)) s).raise (pgEng e)
    (16 * (e % 2) + 7)

/-- The records carried to successor `j` or expired at a step exit (R179). -/
def State.exitCarry (s : State) (e : Nat) (latch : Bool) (j : Nat) : State :=
  (List.range 4).foldl (fun t n =>
    if ((t.eng e).input n).isSome && !(latch || t.stepUses e (t.engStep e j) n) then
      ((t.setInput e n none).inc ENG_BIN_LOSS.EXPIRED (4 * e + n)).raise (pgEng e) (16 * (e % 2) + 8)
    else t) s

/-- The IRQ bit `n` of engine `e` raised on its page (R148, R195, R252). -/
def State.raiseEng (s : State) (e n : Nat) : State := s.raise (pgEng e) (16 * (e % 2) + n)

/-- The engine's state set; ENG_STAT.MODE shows the active mode, GATE_WAIT the state GATED (R148). -/
def State.setEngState (s : State) (e v : Nat) : State :=
  (s.wr ENG_STAT.STATE e v).wr ENG_STAT.GATE_WAIT e (flag (v == 2))

/-- The registers ENG_LCNT and LOPEN show the loop counts of `l` (R148). -/
def State.showLoops (s : State) (e : Nat) (l : List Nat) : State :=
  let t := (List.range 4).foldl (fun t i => t.wr ENG_LCNT.LCNT (4 * e + i) (nth l i)) s
  t.wr ENG_STAT.LOPEN e ((List.range 4).foldl (fun acc i => if nth l i = 0 then acc else acc + 2 ^ i) 0)

/-! ### Windows as their owner's timeline shows them (R230) -/

/-- The position presented at tick `x`: the last one of the timeline that has started. -/
def Eng.presented (g : Eng) (x : Nat) : Option Pos :=
  (g.line.filter fun p => decide (p.start ≤ x)).getLast?

/-- The engine's entries for the present tick are presented: it is busy, or in FAULT before D_f (R144). -/
def State.engLive (s : State) (e : Nat) : Bool :=
  match (s.eng e).cut with
  | some d => decide (s.epoch < d)
  | none => s.engBusy e

/-- POS of a window at the present tick (R230): the first granule whose first entry has not been presented; after a fault, as D_f
leaves it. -/
def State.winPosNow (s : State) (f w : Nat) : Nat :=
  let e := s.winOwner f w
  let x := match (s.eng e).cut with | some d => min d s.epoch | none => s.epoch
  if s.engBusy e || (s.eng e).cut.isSome then
    match (s.eng e).presented x with
    | some p =>
      let st := s.engStep e p.step
      if s.engLive e = true ∧ p.kind = .play ∧ stOp st = 1 ∧ !stPin st ∧ stWindow st = w then
        p.sbase + (x - p.org) / max 1 (s.engGran e) + 1
      else lookup (s.wposAt e p x) w (s.win (winId f w)).pos
    | none => (s.win (winId f w)).pos
  else (s.win (winId f w)).pos

/-- The pin held on a window now. -/
def State.winPin (s : State) (f w : Nat) : Option Pin :=
  let e := s.winOwner f w
  if s.engLive e then
    match (s.eng e).presented s.epoch with
    | some p => (p.pins.find? fun q => q.1 == w).map (·.2)
    | none => none
  else none

/-- RP of a window (R230): the first granule not yet released: not before its last entry is past, not while it is pinned. -/
def State.winRp (s : State) (f w : Nat) : Nat :=
  let e := s.winOwner f w
  let pos := s.winPosNow f w
  let playing : Bool := s.engLive e && (match (s.eng e).presented s.epoch with
    | some p =>
      let st := s.engStep e p.step
      decide (p.kind = .play) && stOp st == 1 && !stPin st && stWindow st == w
    | none => false)
  let r := if playing then pos - 1 else pos
  match s.winPin f w with
  | some q => min r q.first
  | none => r

/-- FILL of a window (R230). -/
def State.winFill (s : State) (f w : Nat) : Nat := (s.win (winId f w)).wp - s.winPosNow f w

/-- WIN_STAT.REQ follows FILL (R233), and STARVE_WARN its threshold while the owner presents a non-pinned STREAM step of
the window or holds one as successor (R237). -/
def State.settleWin (s : State) (f w : Nat) : State :=
  let i := winId f w
  if !s.on WIN_CFG.EN i then s else
  let fill := s.winFill f w
  let s1 := if fill < s.rd WIN_MARKS.LOW_MARK i then s.wr WIN_STAT.REQ i 1
    else if s.rd WIN_MARKS.HIGH_MARK i ≤ fill then s.wr WIN_STAT.REQ i 0 else s
  let e := s.winOwner f w
  let uses := fun (j : Nat) => let st := s.engStep e j
    stOp st == 1 && !stPin st && stWindow st == w
  let live := s.engLive e && (match (s.eng e).presented s.epoch with
    | some p => uses p.step || uses (s.naturalExit e p).step
    | none => false)
  let warn := s.rd WIN_RESUME.WARN i
  if live && warn != 0 && decide (fill < warn) && !(s.win i).warned then
    (s1.modWin i fun x => { x with warned := true }).raiseEng e 10
  else if decide (2 * warn ≤ fill) then s1.modWin i fun x => { x with warned := false }
  else s1

/-- The windows that engine `e` owns follow what it presents (R233, R237). -/
def State.settleWins (s : State) (e : Nat) : State :=
  (List.range 32).foldl (fun t w =>
    if t.on WIN_CFG.EN (winId (engFacet e) w) && t.winOwner (engFacet e) w == e then t.settleWin (engFacet e) w else t) s

/-- The granules that an underrun episode at `p` under CATCHUP has passed over by `x` (R241). -/
def State.skipped (s : State) (e : Nat) (p : Pos) (x : Nat) : Nat :=
  if p.kind = .starve ∧ p.pinned = false ∧ s.resumeMode e = 0 then (x - p.start) / max 1 (s.engGran e) else 0

end Sys2Proof.Machine
end

