-- ==== Sys2Proof/Machine/Branch.lean ====
section
/-!
DEFINITION. Machine/Branch.lean: branch resolution, gates, redirects and stream presence at a decision point (R134 to R136,
R171 to R195, R238 to R244).
-/

namespace Sys2Proof.Machine

/-- Offset `o` of engine `e`'s block on its page (R148). -/
def engOff (e o : Nat) : Nat := 0x400 * (e % 2) + o

/-! ### The passage at a decision point -/

/-- A position added to the engine's timeline. -/
def State.pushPos (s : State) (e : Nat) (p : Pos) : State := s.modEng e fun g => { g with line := g.line ++ [p] }

/-- The advance of APG `a` that is taken at `x`, when its state there is `st` (R298): its state after it. -/
def State.advAt (s : State) (a x : Nat) (st : ApgSt) : Option ApgSt :=
  match (s.apg a).adv with
  | some q =>
    if q.dueAt x && st.st == 1 && bits (s.progElem a st.prog st.elem).1 30 2 == 1 && decide (st.since < x) then
      some (s.nextElem a (s.tabActive (tabApg a)) x st)
    else none
  | none => none

/-- The pending bit of APG `a`'s advance input clears (R289, R297). -/
def State.clearAdv (s : State) (a : Nat) : State := (s.modApg a fun u => { u with adv := none }).wr APG_STAT.ADV_PEND a 0

/-- The advance is taken: the pending bit clears, TAKEN advances, APG_ADV_TAKEN is raised (R298). -/
def State.advTaken (s : State) (a : Nat) : State :=
  let s1 := match (s.apg a).adv with | some q => s.age { t := q.stamp } | none => s
  ((s1.clearAdv a).inc APG_ADV_CNT.TAKEN a).raise (pgApg a) (16 * (a % 2) + 1)

/-- What the start of step `j` at `x`, entered with the APG states of `lv`, does to the advance input of the APG it runs: a start of the
program from its first element clears it (R289, R297), else an advance due at `x` is taken first (R298). The state after it, the APG
states with which the step is entered, and whether an advance was taken. -/
def State.enterAdv (s : State) (e : Nat) (lv : Pos) (j x : Nat) : State × List (Nat × ApgSt) × Bool :=
  let w := s.engStep e j
  match s.servedApg e w with
  | some a =>
    let st := s.posApg lv a
    if apgRestarts w st then (s.clearAdv a, lv.apgs, false)
    else match s.advAt a x st with
      | some st' => (s.advTaken a, Sparse.set lv.apgs a st', true)
      | none => (s, lv.apgs, false)
  | none => (s, lv.apgs, false)

/-- The condition under which position `p` is left at `x`: loop counts, heads, APG states and stream positions, and for a branch or a
redirect that it was one (R184). -/
def State.leave (s : State) (e : Nat) (p : Pos) (x : Nat) (lcnt ends : List Nat) (back jumped : Bool) : Pos :=
  { p with lcnt := lcnt, ends := ends, loopBack := back, jumped := jumped, jumpAt := if jumped then x else p.jumpAt, redir := false,
           entry := false, apgs := s.apgsAt e p x, wpos := s.wposAt e p x,
           ftS := if jumped then x else p.ftS, ftT := if jumped then x else p.ftT,
           lrS := if jumped then [] else p.lrS, lrT := if jumped then [] else p.lrT }

/-- Step `j` requests the bank swaps its SWAP_SEL names for its start tick (R157, R385); a loop-back makes none. -/
def State.swapRequest (s : State) (e j x : Nat) (back : Bool) : State :=
  let w := s.engStep e j
  if stSwap w && !back then
    let sel := stSwapSel w
    let ask := fun (t : State) (n : Nat) => t.modTab n fun b => { b with reqs := b.reqs ++ [(x, e)] }
    let s1 := if (sel = 0 ∨ sel = 2) ∧ stOp w = 3 then ask s (tabApg (stApg e w)) else s
    let s2 := if sel = 0 ∧ stOp w = 2 ∧ bits (Sparse.get (0 : BitVec 8) s.mem.af (0x00200000 + 32 * bits (stParam w) 0 10 + 7)).toNat 2 2 = 1 then
        (List.range 8).foldl (fun t g =>
          if (s.feedChans e).any (fun dx => grpOf dx.1 == g) then ask t (tabPt g) else t) s1
      else s1
    if sel = 1 ∨ sel = 2 then (s.feedSet e).foldl (fun t l => ask t (tabLane l)) s2 else s2
  else s

/-- The bank swaps that engine `e` has requested for boundaries at or after `x` lapse, since no step of its starts there (R157). -/
def State.dropReqs (s : State) (e x : Nat) : State :=
  let f := engFacet e
  ((List.range 4).map (fun k => tabApg (4 * f + k)) ++ (List.range 8).map (fun k => tabLane (8 * f + k)) ++
    (List.range 8).map tabPt).foldl
    (fun t n => t.modTab n fun b => { b with reqs := b.reqs.filter fun r => !(r.2 == e && decide (x ≤ r.1)) }) s

/-- The stream granules that position `p` presents from `x` on, when it plays a STREAM step: window, first granule, and
how many must be present: the whole body where a pinned step starts, else the granule (R231, R236, R238). -/
def State.streamNeed (s : State) (e : Nat) (p : Pos) (x : Nat) : Option (Nat × Nat × Nat) :=
  let w := s.engStep e p.step
  let n := (x - p.org) / max 1 (s.engGran e)
  let len := (s.stepSeg e w).length
  if stOp w = 1 ∧ p.kind = .play then
    if stPin w then (if x = p.org then some (stWindow w, p.sbase, len) else some (stWindow w, p.sbase + n % max 1 len, 1))
    else some (stWindow w, p.sbase + n, 1)
  else none

/-- `n` granules from `k` on are present. -/
def State.allPresent (s : State) (f w k n : Nat) : Bool := (List.range n).all fun i => s.present f w (k + i)

/-- An underrun begins at `x` (R239, R240, R242 to R244): raised, counted and journalled, and SOFT_STOP stops the engine. A pinned
step that cannot start has no pin, and POS stays at its first body granule (R236, R241). -/
def State.starveAt (s : State) (e : Nat) (p : Pos) (x w k : Nat) : State :=
  let pol := s.starvePolicy e
  let pinned := stPin (s.engStep e p.step)
  let unborn := pinned && p.took && x == p.org
  let s1 := if pinned && x == p.org then s.raiseEng e 14 else s
  let st : Stamp := { t := x, unc := s.unc }
  let s2 := ((s1.inc WIN_CNT.STARVE_COUNT (winId (engFacet e) w)).raiseEng e 11).jrnAt st 0x02 e 0x0905
    [.word e, .word w, .word k, .tick x, .word pol]
  if pol = 3 then s2.planStop e x 5
  else
    let lastG := (s.eng e).q.filter fun en => decide (x - s.engGran e ≤ en.tick ∧ en.tick < x)
    let q : Pos := { p with kind := .starve, start := x, missing := k, pinned := pinned, last := lastG,
                            fresh := p.fresh && p.start == x && !pinned,
                            pins := if unborn then p.pins.filter (fun z => z.1 != w) else p.pins,
                            wpos := if unborn then Sparse.set p.wpos w p.sbase else s.wposAt e p x }
    (s2.pushPos e q).splice e q x

/-- At `x` position `p` is to be presented: its stream granules must be present, or an underrun begins (R238). -/
def State.needStream (s : State) (e : Nat) (p : Pos) (x : Nat) : State :=
  match s.streamNeed e p x with
  | some (w, k, n) => if s.allPresent (engFacet e) w k n then s else s.starveAt e p x w k
  | none => s

/-- Step `j` starts at `x`, left as `lv` says (R125, R135, R181, R190): END ends the run; in GATED mode without a due gate the
engine waits; else the step starts, spliced when the passage is no natural one. -/
def State.goTo (s : State) (e : Nat) (lv : Pos) (j x gen : Nat) (regs : List Nat) (natural : Bool) : State :=
  let g := s.eng e
  let regs := if regs.isEmpty then s.lregs e else regs
  if stOp (s.engStep e j) = 7 then
    let s1 := s.modEng e fun g => { g with endEnds := lv.ends, endLcnt := lv.lcnt }
    (s1.withdraw e x).planStop e x 1
  else
    let gated := s.rdA ENG_CFG.MODE e == 1
    let gateDue := match g.gate with | some q => q.dueAt x | none => false
    if gated && !gateDue then
      let held := lv.pins.filter fun z => match z.2.level with | some l => nth lv.lcnt l != 0 | none => false
      let q : Pos := { lv with kind := .gateWait, fresh := false, start := x, org := x, step := j, gen := gen, lrE := regs, pins := held }
      (s.pushPos e q).splice e q x
    else
      let gen' := if lv.redir then 0 else match gated, g.gate with
        | true, some q => max gen (min 15 (q.gen + 1))
        | _, _ => gen
      let s1 := match gated, g.gate with
        | true, some q => (s.modEng e fun g => { g with gate := none, gateTo := some x }).age { t := q.stamp }
        | _, _ => s
      let (s2, apgs, adv) := s1.enterAdv e lv j x
      let (p, fault) := s2.enterStep e { lv with gen := gen', apgs := apgs } j x regs
      match fault with
      | some c => s2.foundFault e x c j
      | none =>
        let s3 := (s2.swapRequest e j x lv.loopBack).pushPos e p
        let s4 := if natural && !gated && !adv then s3 else s3.splice e p x
        s4.needStream e p x

/-! ### Resolution -/

/-- A redirect can be taken at decision point `x` (R192). -/
def State.redirReady (s : State) (g : Eng) (x : Nat) : Option Redir :=
  match g.redir with
  | some r => match r.staged with
    | some t => if t < s.epoch ∧ r.a + s.h ≤ x ∧ g.restageEnd ≤ x then some r else none
    | none => none
  | none => none

/-- The step's schedule stands still in the underrun episode at `p`: under CONTINUE, or while a pinned body is awaited (R241, R242). -/
def State.stands (s : State) (e : Nat) (p : Pos) : Bool := p.kind == .starve && (p.pinned || s.resumeMode e == 1)

/-- Whether entry `en` of the step at `p` is armed at `x` (R168): its window counts from the step's start tick, or from the start tick of
the iteration that contains tick x − 1, which a shift of R241 does not move. -/
def State.armedAt (s : State) (e : Nat) (p : Pos) (en x : Nat) : Bool :=
  if brWinEn en then
    let gr := s.engGran e
    let it := s.iterLen e (s.engStep e p.step) * gr
    let still := s.stands e p
    let i := ((if still then p.start else x) - 1 - p.org) / max 1 it
    let r := if brWinRef en = 0 then p.began
      else match p.iterAt with
        | some (k, t) => if i = k then t else p.org + i * it
        | none => p.org + i * it
    let last := if still then max x (s.posEnd e p) else if brWinRef en = 0 then s.posEnd e p else p.org + (i + 1) * it
    let close := if brClose en = 0xFFFFF then last + gr else r + brClose en * gr
    decide (r + brOpen en * gr ≤ x ∧ x < close)
  else true

/-- The candidate of lowest number at `x` (R175). -/
def State.candidate (s : State) (e : Nat) (p : Pos) (due : List Nat) (x : Nat) : Option (Nat × Nat) :=
  let es := s.stepEntries e (s.engStep e p.step)
  (List.range 4).findSome? fun k =>
    let en := nth es k
    if brValid en && due.contains (brInput en) && s.armedAt e p en x then some (k, en) else none

/-- Tick `x` ends the step at `p` (R125, R136, R241). -/
def State.endsAt (s : State) (e : Nat) (p : Pos) (due : List Nat) (x : Nat) : Bool :=
  let w := s.engStep e p.step
  match p.kind with
  | .play => if stOp w = 6 then decide (s.posEnd e p ≤ x) && due.contains (bits (stParam w) 30 2)
             else s.posEnd e p == x
  | .starve => !p.pinned && s.resumeMode e == 0 && s.posEnd e p == x
  | .gateWait => false

/-- Tick `x` ends an iteration of the step (R154, R177); none ends while the schedule stands still. -/
def State.iterEnd (s : State) (e : Nat) (p : Pos) (x : Nat) : Bool :=
  !s.stands e p && (x - p.org) % max 1 (s.iterLen e (s.engStep e p.step) * s.engGran e) == 0

/-- The registers of the last branch or redirect (R194). -/
def State.recordBranch (s : State) (e : Nat) (redir : Bool) (mode input entry target x : Nat) : State :=
  ((((((s.wr ENG_BR_LAST.VALID e 1).wr ENG_BR_LAST.REDIR e (flag redir)).wr ENG_BR_LAST.MODE e mode).wr
    ENG_BR_LAST.INPUT e input).wr ENG_BR_LAST.ENTRY e entry).wr ENG_BR_LAST.TARGET e target).wr64
    ENG_BR_TICK_LO.TICK ENG_BR_TICK_HI.TICK e x

/-- A branch or a redirect taken at `x` begins a restage interval of 16 granules (R184). -/
def State.restage (s : State) (e x : Nat) : State :=
  s.modEng e fun g => { g with restagePrev := g.restageEnd, restageEnd := x + 16 * s.engGran e }

/-- A branch of entry `k` taken at `x` (R175, R176, R178, R179, R184); its target starts there unless the run stops at the
boundary the branch makes (`stops`, R142), or the staged target is faulty, so that the output ends there (R185, R564). -/
def State.takeBranch (s : State) (e : Nat) (p : Pos) (k en : Nat) (due : List Nat) (x : Nat) (stops : Bool) : State :=
  let w := s.engStep e p.step
  let n := brInput en
  let g := s.eng e
  let pd : Pend := (g.input n).getD { due := x, stamp := x }
  let s1 := ((s.setInput e n none).inc ENG_BIN_CNT.TAKEN (4 * e + n)).raiseEng e 6
  let s2 := (s1.age { t := pd.stamp }).eclipse e w (due.filter (· != n))
  let s3 := s2.exitCarry e (stLatch w) (brTarget en)
  let s4 := s3.recordBranch e false (brMode en) n k (brTarget en) x
  if stops then s4.planStop e x 2 else
  match g.bads.find? fun b => b.1 == k with
  | some (_, c, j) => s4.foundFault e x c j
  | none =>
    (s4.restage e x).goTo e (s4.leave e p x (branchLoops (brMode en) p.lcnt) [] false true) (brTarget en) x (min 15 (pd.gen + 1)) p.lrT
      false

/-- A redirect taken at `x` (R192); its target starts there unless the run stops at the boundary the redirect makes (`stops`,
R142). -/
def State.takeRedirect (s : State) (e : Nat) (p : Pos) (r : Redir) (due : List Nat) (x : Nat) (stops : Bool) : State :=
  let w := s.engStep e p.step
  let s1 := s.eclipse e w due
  let s2 := s1.exitCarry e (stLatch w) r.target
  let s3 := s2.recordBranch e true r.mode 0 0 r.target x
  let s4 := ((s3.wr64 ENG_REDIR_AT_LO.AT ENG_REDIR_AT_HI.AT e x).wr ENG_REDIR_STAT.PENDING e 0).wr
    ENG_REDIR_STAT.STAGED e 0
  let s5 := (s4.raiseEng e 9).jrnAt { t := x, unc := s.unc } 0x02 e 0x0704 [.word r.target, .tick r.a, .tick x]
  let s6 := s5.modEng e fun g => { g with redir := none }
  if stops then s6.planStop e x 2 else
  (s6.restage e x).goTo e { s6.leave e p x (branchLoops r.mode p.lcnt) [] false true with redir := true } r.target x 0 r.regs false

/-- The step at `p` ends at `x` and its successor starts by loop-back or NEXT (R126, R128, R136). -/
def State.takeSuccessor (s : State) (e : Nat) (p : Pos) (x : Nat) : State :=
  let w := s.engStep e p.step
  let s1 := if stOp w = 6 then
      let n := bits (stParam w) 30 2
      let s0 := match (s.eng e).input n with | some q => s.age { t := q.stamp } | none => s
      (s0.setInput e n none).inc ENG_BIN_CNT.TAKEN (4 * e + n)
    else s
  let ex := s1.naturalExit e p
  match ex.fault with
  | some c => s1.foundFault e x c p.step
  | none =>
    let s2 := s1.exitCarry e (stLatch w) ex.step
    s2.goTo e (s2.leave e p x ex.lcnt ex.ends ex.back false) ex.step x 0 p.lrS (p.kind = .play)

/-- Within a step, at `x`: an advance is taken, a starved stream resumes, or the next stream granule is missing (R298, R238,
R241). -/
def State.withinStep (s : State) (e : Nat) (p : Pos) (x : Nat) : State :=
  match p.kind with
  | .starve =>
    let w := stWindow (s.engStep e p.step)
    let i := winId (engFacet e) w
    let gr := max 1 (s.engGran e)
    let wp := (s.win i).wp
    let mark := s.rd WIN_RESUME.RESUME_MARK i
    let len := (s.stepSeg e (s.engStep e p.step)).length
    let shift := x - p.start
    let st : Stamp := { t := x, unc := s.unc }
    if x < p.start + 2 * gr then s
    else if p.pinned then
      if max len mark ≤ wp - p.sbase ∧ s.allPresent (engFacet e) w p.sbase len = true then
        let q0 := { p with kind := .play, fresh := true, start := x, org := x, began := x, iterAt := none,
                           ftS := if p.entry || p.jumped then p.ftS else x }
        let q := if p.pins.any (fun z => z.1 == w) then q0 else q0.takePin w p.sbase len
        let s1 := ((s.incBy SEG_SHIFT.SHIFT e shift).raiseEng e 12).jrnAt st 0x02 e 0x0906 [.tick x, .word shift]
        (s1.pushPos e q).splice e q x
      else s
    else if s.resumeMode e = 1 then
      if mark ≤ wp - p.missing ∧ s.present (engFacet e) w p.missing = true then
        let it := max 1 (s.iterLen e (s.engStep e p.step) * gr)
        let i := (p.start - p.org) / it
        let at0 := if (p.start - p.org) % it = 0 then x else match p.iterAt with
          | some (k, t) => if k = i then t else p.org + i * it
          | none => p.org + i * it
        let q := { p with kind := .play, fresh := false, start := x, org := p.org + shift, iterAt := some (i, at0) }
        let s1 := ((s.incBy SEG_SHIFT.SHIFT e shift).raiseEng e 12).jrnAt st 0x02 e 0x0906 [.tick x, .word shift]
        (s1.pushPos e q).splice e q x
      else s
    else
      let k := p.missing + shift / gr
      if k + mark ≤ wp ∧ s.present (engFacet e) w k = true then
        let q := { p with kind := .play, fresh := false, start := x }
        let s1 := (s.raiseEng e 12).jrnAt st 0x02 e 0x0906 [.tick x, .word (shift / gr)]
        (s1.pushPos e q).splice e q x
      else s
  | _ =>
    let taken := match s.servedApg e (s.engStep e p.step) with
      | some a => (s.advAt a x (s.apgStAt e p a x)).map fun st => (a, st)
      | none => none
    match taken with
    | some (a, st) =>
      let q := { p with fresh := false, start := x, apgs := Sparse.set (s.apgsAt e p x) a st }
      ((s.advTaken a).pushPos e q).splice e q x
    | none => s.needStream e p x

/-- R179 at the start tick of a run: the entry step is the successor, LATCH is 0. -/
def State.startCarry (s : State) (e : Nat) : State :=
  if (s.eng e).carried then s
  else match (s.eng e).line with
    | p :: _ => (s.exitCarry e false p.step).modEng e fun g => { g with carried := true }
    | [] => s

/-- What happens at decision point `x` to the step at `p` (the procedure after R181): a redirect, else the lowest candidate,
else the successor at the end boundary, else the step goes on. A stop at step ends comes first at the step's own end boundary
(R142, R180), and at the boundary that a branch or a redirect makes it follows them (R142). While the engine is still GATED no branch
set is evaluated (R181). -/
def State.resolveStep (s : State) (e : Nat) (p : Pos) (x : Nat) : State :=
  let g := s.eng e
  let w := s.engStep e p.step
  let due := g.dueInputs x
  let ends := s.endsAt e p due x
  let evalOk := decide (g.restageEnd ≤ x) && (!stBrAtEnd w || s.iterEnd e p x || ends)
  let redir := if evalOk then s.redirReady g x else none
  let cand := if evalOk && s.engState e != 2 then s.candidate e p due x else none
  let stops := match g.stopFrom with
    | some a => decide (a + s.h ≤ x)
    | none => false
  if stops && ends then s.planStop e x 2
  else match redir, cand with
    | some r, _ => s.takeRedirect e p r due x stops
    | none, some (k, en) => s.takeBranch e p k en due x stops
    | none, none => if ends then s.takeSuccessor e p x else s.withinStep e p x

/-- What happens at decision point `x` in the state GATED (R135, R142, R181, R193): a redirect replaces the step that
waits; a due gate starts it. -/
def State.resolveGate (s : State) (e : Nat) (p : Pos) (x : Nat) : State :=
  let g := s.eng e
  let stops := match g.stopFrom with | some a => decide (a + s.h ≤ x) | none => false
  if stops then s.planStop e x 2
  else match s.redirReady g x with
    | some r => s.takeRedirect e p r (g.dueInputs x) x false
    | none =>
      match g.gate with
      | some q => if q.dueAt x then s.goTo e p p.step x p.gen p.lrS false else s
      | none => s

/-- The resolution of decision point `x` (R174, R175): nothing at a tick that is none, or at which the output has ended. -/
def State.resolveAt (s : State) (e x : Nat) : State :=
  if s.engDP e x && !(s.eng e).endsBy x then
    match (s.eng e).line.getLast? with
    | some p =>
      if p.start < x then
        let s := s.wr ENG_BIN_STAT.DUE e (((s.eng e).dueInputs x).foldl (fun acc n => acc + 2 ^ n) 0)
        match p.kind with
        | .gateWait => s.resolveGate e p x
        | _ => s.resolveStep e p x
      else s
    | none => s
  else s

/-- The resolution of the start tick `x` of a run, when it is the resolution tick of `x` or the staging ends after it: an advance of the
entry step's APG is cleared or taken (R297, R298), and its stream granules must be present (R236, R238). -/
def State.resolveEntry (s : State) (e x : Nat) : State :=
  match (s.eng e).line with
  | [p] =>
    if p.start = x ∧ (s.eng e).staged ∧ !(s.eng e).endsBy x then
      let (s1, apgs, adv) := s.enterAdv e { p with apgs := [] } p.step x
      let q := if adv then { p with apgs := apgs } else p
      let s2 := if adv then (s1.modEng e fun g => { g with line := [q] }).splice e q x else s1
      s2.needStream e q x
    else s
  | _ => s

/-- The resolution at tick D − 76 of decision point D = `s.epoch + 76` (R174, R175): in ARMED only that of the start tick, and nothing
in DRAINING (R180). -/
def State.resolve (s : State) (e : Nat) : State :=
  if s.engState e = 2 ∨ s.engState e = 3 then s.resolveAt e (s.epoch + 76)
  else if s.engState e = 1 ∧ (s.eng e).startD = some (s.epoch + 76) then s.resolveEntry e (s.epoch + 76)
  else s

/-- The decision points after the start tick whose resolution tick fell in ARMED are resolved at the start tick (R175, R179,
R180). -/
def State.resolveStart (s : State) (e : Nat) : State :=
  (List.range 75).foldl (fun t k => t.resolveAt e (s.epoch + 1 + k)) s

/-- DECISION_RESOLVE (R174, R175): at tick D − 76 of decision point D of the engine; at any other tick nothing. -/
def execDecisionResolve (e : Fin 512) (s : State) : Host.Outcome State Fault Refusal :=
  chipOnly s (s.resolve e.val)

/-! ### Arrivals -/

/-- The due tick of an arrived event (R19). -/
def State.pendOf (s : State) (ev : Event) (dp : Nat → Nat) (lead : Nat) : Pend :=
  let due := s.due ev
  { due := due, stamp := ev.st.t, gen := ev.gen, unc := ev.st.unc,
    notBefore := if s.epoch ≤ dp due - lead then 0 else dp (s.epoch + lead) }

/-- The events of one cycle as one event (R172): the earliest due tick with its stamp, the highest generation. -/
def mergePends : List Pend → Option Pend
  | [] => none
  | p :: r => some (r.foldl Pend.merge p)

/-- The arrivals of consumer `index` of class `cls`, taken off the list. -/
def State.takeArrivals (s : State) (cls index : Nat) : List Arrival × State :=
  (s.arrivals.filter (fun a => a.cls == cls && a.index == index),
   s.setArrivals (s.arrivals.filter fun a => !(a.cls == cls && a.index == index)))

/-- HORIZON_LATE for each late arrival (R24). -/
def State.lateEach (s : State) (cls index : Nat) (evs : List Arrival) (ps : List Pend) : State :=
  (evs.zip ps).foldl (fun t x => if x.2.notBefore = 0 then t else t.late cls index x.1.ev.st x.2.notBefore) s

/-- Branch input `n` of engine `e` takes the events of one cycle as one event, and COINC advances once when they are several or meet a
pending record (R171, R172, R180). -/
def State.inputArrive (s : State) (e n : Nat) (evs : List Arrival) : State :=
  let ps := evs.map fun a => s.pendOf a.ev (s.engDPFrom e) 76
  match mergePends ps with
  | none => s
  | some p =>
    if s.engState e = 0 ∨ s.engState e = 5 ∨ s.engState e = 6 then s.inc ENG_BIN_LOSS.EXPIRED (4 * e + n)
    else
      let s1 := s.lateEach 0x02 e evs ps
      match (s.eng e).input n with
      | none =>
        let s2 := s1.setInput e n (some p)
        if 1 < evs.length then s2.inc ENG_BIN_CNT.COINC (4 * e + n) else s2
      | some q => (s1.setInput e n (some (q.merge p))).inc ENG_BIN_CNT.COINC (4 * e + n)

/-- BRANCH_INPUT_ARRIVE (R171, R172): the events delivered to input `n` of the engine in this cycle reach it as one event; with
FIRE_EN 0 they are discarded. -/
def execBranchInputArrive (e : Fin 512) (n : Fin 4) (s : State) : Host.Outcome State Fault Refusal :=
  chipOnly s <|
    let (evs, t) := s.takeArrivals 1 (4 * e.val + n.val)
    if s.rdX ENG_BIN_CFG.FIRE_EN (4 * e.val + n.val) = 1 then t.inputArrive e.val n.val evs else t

/-! ### Redirect and clears -/

/-- A write of ENG_REDIR (R192, R193). -/
def State.writeEngRedir (s : State) (e : Nat) (w : Wr) : State :=
  let v := w.val.toNat
  let go := bit v 31
  let cancel := bit v 30
  let mode := bits v 16 2
  let target := bits v 0 16
  let st := s.engState e
  let codes :=
    cause (go && (cancel || mode == 3)) 0x0002 ++
    cause (go && decide (s.rdA ENG_WIN.SIZE_M1 e < target)) 0x0003 ++
    cause (go && (!(st == 2 || st == 3) || s.on ENG_REDIR_STAT.PENDING e)) 0x0004
  s.write w (pgEng e) (engOff e 0x170) codes fun s =>
    let s1 := (s.wr ENG_REDIR.MODE e mode).wr ENG_REDIR.TARGET e target
    if go then
      ((s1.modEng e fun g => { g with redir := some { target := target, mode := mode, a := s.epoch, regs := s.lregs e } }).wr
        ENG_REDIR_STAT.PENDING e 1).wr ENG_REDIR_STAT.STAGED e 0
    else if cancel then
      ((s1.modEng e fun g => { g with redir := none }).wr ENG_REDIR_STAT.PENDING e 0).wr ENG_REDIR_STAT.STAGED e 0
    else s1

/-- ENG_REDIR_GO (R192): a write of ENG_REDIR with GO 1. -/
def execEngRedirGo (e : Fin 512) (w : Wr) (s : State) : Host.Outcome State Fault Refusal :=
  chipOnly s (s.writeEngRedir e.val (orBits w 0x80000000))

/-- ENG_REDIR_CANCEL (R193): a write of ENG_REDIR with CANCEL 1. -/
def execEngRedirCancel (e : Fin 512) (w : Wr) (s : State) : Host.Outcome State Fault Refusal :=
  chipOnly s (s.writeEngRedir e.val (orBits w 0x40000000))

/-- A pending redirect withdrawn without ENG_REDIRECT_DONE (R193). -/
def State.dropRedirect (s : State) (e : Nat) : State :=
  ((s.modEng e fun g => { g with redir := none }).wr ENG_REDIR_STAT.PENDING e 0).wr ENG_REDIR_STAT.STAGED e 0

/-- ENG_BIN_CNT, ENG_BIN_LOSS and ENG_BR_LAST cleared (R194). -/
def State.clearBranchCounts (s : State) (e : Nat) : State :=
  let t := (List.range 4).foldl (fun t n =>
    (((t.wr ENG_BIN_CNT.COINC (4 * e + n) 0).wr ENG_BIN_CNT.TAKEN (4 * e + n) 0).wr ENG_BIN_LOSS.ECLIPSED (4 * e + n) 0).wr
      ENG_BIN_LOSS.EXPIRED (4 * e + n) 0) s
  (((((t.wr ENG_BR_LAST.VALID e 0).wr ENG_BR_LAST.REDIR e 0).wr ENG_BR_LAST.MODE e 0).wr ENG_BR_LAST.INPUT e 0).wr
    ENG_BR_LAST.ENTRY e 0).wr ENG_BR_LAST.TARGET e 0

/-- A write of ENG_BR_CTRL. -/
def State.writeEngBrCtrl (s : State) (e : Nat) (w : Wr) : State :=
  s.write w (pgEng e) (engOff e 0x180) [] fun s => if bit w.val.toNat 0 then s.clearBranchCounts e else s

/-- ENG_BR_CLR (R194): a write of ENG_BR_CTRL with CLR 1. -/
def execEngBrClr (e : Fin 512) (w : Wr) (s : State) : Host.Outcome State Fault Refusal :=
  chipOnly s (s.writeEngBrCtrl e.val (orBits w 0x1))

end Sys2Proof.Machine
end

