-- ==== Sys2Proof/Machine/Engine.lean ====
section
/-!
DEFINITION. Machine/Engine.lean: the engine's states, commands, fetches, verification and output (R116 to R150).
-/

namespace Sys2Proof.Machine

/-! ### What the commit and the ARM look at -/

/-- The shadowed fields of engine `e` (R148, R194). -/
def engFlds (e : Nat) : List (Fld × Nat) :=
  [(ENG_CFG.PERIOD, e), (ENG_CFG.MARK_LANE, e), (ENG_CFG.LANE_LOSS, e), (ENG_CFG.MODE, e), (ENG_CFG.LCLASS, e),
   (ENG_CFG.KIND, e), (ENG_WIN.SIZE_M1, e), (ENG_WIN.BASE, e), (ENG_START.SRC, e), (ENG_START.ENTRY, e),
   (ENG_START_AT_LO.START_AT, e), (ENG_START_AT_HI.START_AT, e), (ENG_MARK_LO.SLOT0, e), (ENG_MARK_LO.SLOT1, e),
   (ENG_MARK_HI.SLOT2, e), (ENG_MARK_HI.SLOT3, e)] ++
  (List.range 16).map (fun r => (ENG_LREG.COUNT, 16 * e + r)) ++
  (List.range 4).flatMap fun n => [(ENG_BIN_CFG.CMP_KIND, 4 * e + n), (ENG_BIN_CFG.CMP_EN, 4 * e + n),
    (ENG_BIN_CFG.LANE_MASK, 4 * e + n), (ENG_BIN_CFG.FIRE_EN, 4 * e + n)]

/-- The marker route slot of bit `b` of engine `e`, as in force (R130). -/
def State.markSlot (s : State) (e b : Nat) : Nat :=
  match b with
  | 0 => s.rdX ENG_MARK_LO.SLOT0 e
  | 1 => s.rdX ENG_MARK_LO.SLOT1 e
  | 2 => s.rdX ENG_MARK_HI.SLOT2 e
  | _ => s.rdX ENG_MARK_HI.SLOT3 e

/-- START_AT in force (R141). -/
def State.startAt (s : State) (e : Nat) : Nat :=
  s.rdA ENG_START_AT_LO.START_AT e + 2 ^ 32 * s.rdA ENG_START_AT_HI.START_AT e

/-- The engine has a valid marker source (R131). -/
def State.markSourceOk (s : State) (e : Nat) : Bool :=
  if s.engDrive e then (s.feedChans e).any fun dx => dx.2 == 0
  else
    let l := 8 * engFacet e + s.rdA ENG_CFG.MARK_LANE e
    s.rdA LANE_SRC.A_EN l == 1 && s.rdA LANE_SRC.ENG_A l == e % 16

/-- The drive channels that select the engine share its period and one grid, and are ACTIVE (R118, R140). -/
def State.drvGridOk (s : State) (e : Nat) : Bool :=
  let chans := (s.feedChans e).map (·.1)
  !chans.isEmpty && chans.all fun d => s.drvState d == 2 &&
    s.rd DRV_GRP_CFG.PERIOD (grpOf d) == s.rdA ENG_CFG.PERIOD e && (s.grp (grpOf d)).o == s.engOrigin e

/-- SEG_STARVE of a DRIVE engine breaks R239 (R253). -/
def State.starveBad (s : State) (e : Nat) : Bool :=
  let p := s.rd SEG_STARVE.POLICY e
  p == 2 || (p == 1 && !s.on SEG_STARVE.BRIDGE_EN e)

/-- The refusal causes of ARM (R140, R150, R253). -/
def State.armCodes (s : State) (e : Nat) : List Nat :=
  let st := s.engState e
  cause (s.engDrive e && s.starveBad e) 0x0002 ++
  cause (!(st == 0 || st == 5)) 0x0004 ++
  cause (!s.on ENG_STAT.PROG_OK e) 0x0005 ++
  cause ((List.range 4).any (fun b => bit (s.markSlot e b) 15) && !s.markSourceOk e) 0x0007 ++
  cause (!s.runnable) 0x0008 ++
  cause (s.engDrive e && !s.drvGridOk e) 0x0009 ++
  cause (s.rdA ENG_START.SRC e == 1 && decide (s.startAt e < s.epoch + s.h)) 0x000A ++
  cause (s.on ENG_VERIFY.BUSY e) 0x000B ++
  cause ((engFlds e).any fun fi => s.isDirty fi.1 fi.2) 0x000C

/-! ### Marker balls (R130) -/

/-- The ball a marker route slot names. -/
def slotBall (v : Nat) : Nat := bits v 8 4

/-- The claim in force on ball `n`: a claim that a hand-over releases holds until the hand-over tick. -/
def State.ballOwner (s : State) (n : Nat) : Nat :=
  if s.ballOut n ≠ 0 ∧ s.ballOut n ≤ s.epoch + 1 then 0 else s.ballClaim n

/-- Ball `n` is claimed by marker bit `b` of engine `e`. -/
def State.claimBall (s : State) (n e b : Nat) : State := (s.setBallClaim n (1 + 4 * e + b)).setBallOut n 0

/-- Free balls that the engine's enabled routes name are claimed. -/
def State.claimBalls (s : State) (e : Nat) : State :=
  (List.range 4).foldl (fun t b =>
    let v := s.markSlot e b
    if bit v 15 ∧ t.ballOwner (slotBall v) = 0 then t.claimBall (slotBall v) e b else t) s

/-- The level of a marker ball, seen outside when it changes (R132). -/
def State.setMark (s : State) (n : Nat) (level : Bool) (x : Nat) : State :=
  if (s.pin n == 1) == level then s else (s.setPin n (flag level)).emit (.ball "MARK" n level x)

/-- The engine's claims are released, and their balls driven low. -/
def State.releaseBalls (s : State) (e : Nat) : State :=
  (List.range 16).foldl (fun t n =>
    if t.ballClaim n ≠ 0 ∧ (t.ballClaim n - 1) / 4 = e then ((t.setBallClaim n 0).setBallOut n 0).setMark n false t.epoch else t) s

/-- The marker balls of engine `e` for ball tick `x` (R131, R132): the marker bits of the entry its marker source presents,
low where it holds none or R105 withholds it, and low from the hand-over that releases its claim. -/
def State.showMarks (s : State) (e x : Nat) (under : Bool) : State :=
  let en := (s.eng e).q.find? fun en => decide (en.tick ≤ x ∧ x < en.tick + s.engPer e)
  let m := match en with | some en => if under then 0 else en.mark | none => 0
  let s1 := (List.range 4).foldl (fun t b =>
    let v := s.markSlot e b
    if bit v 15 ∧ t.ballClaim (slotBall v) = 1 + 4 * e + b then t.setMark (slotBall v) (bit m b) x else t) s
  (List.range 16).foldl (fun t n =>
    if t.ballClaim n ≠ 0 ∧ (t.ballClaim n - 1) / 4 = e ∧ t.ballOut n ≠ 0 ∧ t.ballOut n ≤ x + 1 then
      ((t.setBallClaim n 0).setBallOut n 0).setMark n false x
    else t) s1

/-! ### Leaving a run -/

/-- The stream positions of the timeline at `x` go back to the windows, and the granules that an episode under CATCHUP passed over are
counted (R230, R241). -/
def State.settlePos (s : State) (e x : Nat) : State :=
  match (s.eng e).presented x with
  | some p =>
    (s.wposAt e p x).foldl (fun t wn => t.modWin (winId (engFacet e) wn.1) fun u => { u with pos := wn.2 })
      (s.incBy SEG_SKIPPED.SKIPPED e (s.skipped e p x))
  | none => s

/-- The APG states of the timeline at `x` go back to the APGs (R289). -/
def State.settleApgs (s : State) (e x : Nat) : State :=
  match (s.eng e).presented x with
  | some p =>
    (s.apgsAt e p x).foldl (fun t an =>
      (t.modApg an.1 fun u => { u with held := an.2 }).wr APG_STAT.STATE an.1 (if an.2.st = 4 then 4 else 3)) s
  | none => s

/-- What a run that a fault has cut at D_f leaves is settled (R144, R230): nothing where no fault has. -/
def State.settleCut (s : State) (e : Nat) : State :=
  match (s.eng e).cut with
  | some d => (s.settlePos e d).modEng e fun g => { g with line := [], q := g.q.filter (fun en => decide (en.tick < d)), cut := none }
  | none => s

/-- The run is over at `x`: its timeline is settled and its entries go. Those that a fault left good, for ticks before D_f, are still
presented (R144). -/
def State.closeLine (s : State) (e x : Nat) : State :=
  match (s.eng e).cut with
  | some d => if s.epoch < d then s else (s.settleCut e).modEng e fun g => { g with q := [] }
  | none => ((s.settleApgs e x).settlePos e x).modEng e fun g => { g with line := [], q := [] }

/-- The engine returns to STOPPED or PARKED (R139, R145, R180, R193): the registers, the event, the record. -/
def State.endRun (s : State) (e st cse x code : Nat) : State :=
  let s1 := (((s.closeLine e x).dropReqs e x).clearInputs e).dropRedirect e
  let s2 := s1.modEng e fun g => { g with gate := none, gateTo := none, stopFrom := none, stopD := none, fault := none,
                                          startD := none, fetched := false, succT := 0, bads := [] }
  let s3 := (s2.setEngState e st).wr ENG_STAT.CAUSE e cse
  let s4 := s3.jrn 0x02 e code [.word e, .tick x, .word cse]
  s4.settleRun

/-- ENG_STOPPED raised, and the engine in STOPPED, or PARKED for LANE_LOSS (R139). -/
def State.stopped (s : State) (e cse x : Nat) : State :=
  let t := (s.endRun e (if cse = 4 then 0 else 5) cse x 0x0502).raiseEng e 1
  if cse = 4 then t.releaseBalls e else t

/-! ### Start -/

/-- The position of the entry step, started at `x` (R141): its loop registers, and those of its successor and of the targets of both,
are read at its fetch tick (R127, R564). -/
def State.entryPos (s : State) (e x gen : Nat) : Pos × Option Nat :=
  let g := s.eng e
  let r := s.enterStep e { entry := true, gen := gen } (s.rdA ENG_START.ENTRY e) x g.armRegs
  ({ r.1 with ftS := g.armAt, ftT := g.armAt, lrS := g.armRegs, lrT := g.armRegs }, r.2)

/-- D_f of a fault found now in a fetch with fetch tick `ft`, of an item first presented at `pres` (R564). -/
def State.faultTick (s : State) (e ft pres : Nat) : Nat :=
  let d := min (s.engDPFrom e (ft + 8 * s.engGran e)) pres
  if s.epoch + 66 ≤ d then d else s.engDPFrom e (s.epoch + 66)

/-- The entries still to be presented that stand before the start tick of the run: what a fault left good of the run before (R144). -/
def Eng.before (g : Eng) : List Entry :=
  match g.startD with
  | some d => g.q.filter fun en => decide (en.tick < d)
  | none => g.q

/-- The start tick is fixed at `d` (R141): the timeline begins there, and the entry step's swaps are requested. -/
def State.fixStart (s : State) (e d gen : Nat) : State :=
  let (p, f) := s.entryPos e d gen
  let s1 := s.modEng e fun g => { g with startD := some d, intended := d, line := [p], q := g.before, next := d }
  let s2 := s1.swapRequest e p.step d false
  match f with
  | some c => s2.foundFault e (s.faultTick e (s.eng e).armAt d) c p.step
  | none => if stOp (s.engStep e p.step) = 7 then s2.planStop e d 1 else s2

/-- The start moves to a later decision point, since staging was complete only at the present tick (R141). -/
def State.lateStart (s : State) (e : Nat) : State :=
  let g := s.eng e
  match g.startD with
  | some d =>
    if s.epoch + 66 ≤ d then s
    else
      let d' := s.engDPFrom e (s.epoch + 66)
      let gen := match g.line with | p :: _ => p.gen | [] => 0
      let t := ((s.modEng e fun g => { g with stopD := none }).dropReqs e d).fixStart e d' gen
      ((t.modEng e fun g => { g with intended := d }).raiseEng e 4).jrn 0x02 e 0x0505 [.tick d, .tick d']
  | none => s

/-- ENG_CLASS_MISMATCH at ARM: a lane of the feed set is in SERVICE at the other class (R117). -/
def State.armMismatch (s : State) (e : Nat) : State :=
  if (s.feedSet e).any fun l => s.laneState l == 5 && !s.classMatch e l then s.raiseEng e 5 else s

/-- The start trigger of R141 with the values in force: START_AT, the first START accepted, or the first gate to arrive, since the
acceptance of ARM. -/
def State.startTrigger (s : State) (e : Nat) : State :=
  let g := s.eng e
  match s.rdA ENG_START.SRC e with
  | 0 => match g.startA with
    | some a => s.fixStart e (s.engDPFrom e (a + s.h)) 0
    | none => s
  | 1 => s.fixStart e (s.engDPFrom e (s.startAt e)) 0
  | 2 => match g.gate1 with
    | some p => (s.age { t := p.stamp }).fixStart e (s.engDPFrom e p.from) (min 15 (p.gen + 1))
    | none => s
  | _ => s

/-- The engine has nothing staged: the entry step's staging begins with its fetch tick at `x` (R149, R182, R564). -/
def State.unstage (s : State) (e x : Nat) : State :=
  ((s.wr ENG_BR_STAGE.SUCC_RDY e 0).wr ENG_BR_STAGE.SLOT_RDY e 0).modEng e fun g =>
    { g with armAt := x, armRegs := s.lregsAt e x, startD := none, intended := 0, staged := false, fetched := false, succT := 0, bads := [],
             line := [], next := 0, stopD := none, q := g.before }

/-- What the acceptance of ARM does (R140, R180, R297). -/
def State.arm (s : State) (e : Nat) : State :=
  let s0 := (s.settleCut e).unstage e s.epoch
  let s1 := s0.modEng e fun g =>
    { g with startA := none, gate1 := none, carried := false, gate := none, gateTo := none, restageEnd := 0, restagePrev := 0,
             redir := none, stopFrom := none, fault := none, served := false, evs := [], endEnds := [], endLcnt := [],
             bridgeAt := s.epoch, bridgeIn := false }
  let s2 := (((s1.clearInputs e).clearBranchCounts e).wr ENG_DROP.DROPPED e 0).wr ENG_GATE_CNT.COINC e 0
  let s3 := ((s2.wr ENG_GATE_CNT.IGNORED e 0).wr ENG_ITER.ITER e 0).wr ENG_STAT.CAUSE e 0
  let s4 := (List.range 4).foldl (fun t k =>
    let a := 4 * engFacet e + k
    if s.rdA APG_CFG.OWNER a = e % 16 ∧ s.rdA APG_CFG.EN a = 1 then
      (t.modApg a fun u => { u with adv := none }).wr APG_STAT.ADV_PEND a 0
    else t) s3
  let s5 := ((s4.showLoops e [0, 0, 0, 0]).claimBalls e).setEngState e 1
  ((s5.armMismatch e).settleRun).startTrigger e

/-- The start trigger of SRC SOFTWARE (R141): the first START fixes D. -/
def State.startNow (s : State) (e : Nat) : State :=
  if (s.eng e).startA.isSome then s else (s.modEng e fun g => { g with startA := some s.epoch }).startTrigger e

/-! ### Stop -/

/-- A STOP accepted now (R139, R142). -/
def State.engStop (s : State) (e mode : Nat) : State :=
  if s.engState e = 1 then s.stopped e 2 s.epoch
  else if mode = 1 then s.modEng e fun g => { g with stopFrom := some (g.stopFrom.getD s.epoch) }
  else s.planStop e (s.engDPFrom e (s.epoch + s.h)) 2

/-- The stop of SAFE (R142): an ARMED engine stops at once, the others at the first decision point whose splice deadline is
still to come. -/
def State.engSafe (s : State) (e : Nat) : State :=
  if s.engState e = 1 then s.stopped e 3 s.epoch
  else if s.engState e = 2 ∨ s.engState e = 3 then s.planStop e (s.engDPFrom e (s.epoch + 66)) 3
  else s

/-- PARK: to PARKED, with the claims released (R130, R139). -/
def State.engPark (s : State) (e : Nat) : State :=
  (s.endRun e 0 (s.rd ENG_STAT.CAUSE e) s.epoch 0x050A).releaseBalls e

/-! ### Gates -/

/-- A gate reaches the engine (R134, R135, R141). The pending bit of a gate that is taken clears at the decision point at which
the successor starts, so a gate before it is coalesced. -/
def State.gateIn (s : State) (e : Nat) (p : Pend) : State :=
  let st := s.engState e
  let s := if st = 1 ∧ (s.eng e).gate1.isNone then s.modEng e fun g => { g with gate1 := some p } else s
  let g := s.eng e
  let gated := s.rdA ENG_CFG.MODE e == 1
  let pendIt := match g.gate with
    | none =>
      if g.gateTo.any fun d => decide (s.epoch < d) then s.inc ENG_GATE_CNT.COINC e
      else s.modEng e fun g => { g with gate := some p, gateTo := none }
    | some q => (s.modEng e fun g => { g with gate := some (q.merge p) }).inc ENG_GATE_CNT.COINC e
  if st = 1 ∧ s.rdA ENG_START.SRC e = 2 ∧ g.startD.isNone then
    (s.modEng e fun g => { g with gate1 := some p }).startTrigger e
  else if gated && (st == 1 || st == 2 || st == 3) then pendIt
  else s.inc ENG_GATE_CNT.IGNORED e

/-- GATE_ARRIVE (R134, R135): the gates delivered to the engine in this cycle reach it as one event. -/
def execGateArrive (e : Fin 512) (s : State) : Host.Outcome State Fault Refusal :=
  chipOnly s <|
    let (evs, t) := s.takeArrivals 2 e.val
    let ps := evs.map fun a => t.pendOf a.ev (t.engDPFrom e.val) 76
    match mergePends ps with
    | some p =>
      if 1 ≤ t.engState e.val ∧ t.engState e.val ≤ 3 then (t.lateEach 0x02 e.val evs ps).gateIn e.val p
      else t.gateIn e.val p
    | none => t

/-! ### ENG_CTRL -/

/-- A write of ENG_CTRL (R139 to R142, R146, R148, R150). -/
def State.writeEngCtrl (s : State) (e : Nat) (w : Wr) : State :=
  let v := w.val.toNat
  let verify := bit v 0
  let arm := bit v 2
  let start := bit v 3
  let park := bit v 4
  let stop := bit v 5
  let gate := bit v 8
  let mode := bits v 6 2
  let st := s.engState e
  let n := [verify, arm, start, park, stop, gate].countP (· == true)
  let codes :=
    cause (decide (1 < n) || (stop && decide (1 < mode))) 0x0002 ++
    cause (verify && !(st == 0 || st == 5 || st == 6)) 0x0004 ++
    cause (verify && s.on ENG_VERIFY.BUSY e) 0x000B ++
    (if arm then s.armCodes e else []) ++
    cause (start && (st != 1 || s.rdA ENG_START.SRC e != 0)) 0x0004 ++
    cause (park && !(st == 1 || st == 5 || st == 6)) 0x0004 ++
    cause (stop && !(st == 1 || st == 2 || st == 3)) 0x0004
  s.write w (pgEng e) (engOff e 0x054) codes fun s =>
    if verify then
      ((s.wr ENG_VERIFY.BUSY e 1).wr ENG_STAT.PROG_OK e 0).modEng e fun g => { g with scanHit := false }
    else if arm then s.arm e
    else if start then s.startNow e
    else if park then s.engPark e
    else if stop then s.engStop e mode
    else if gate then s.gateIn e { due := s.epoch + s.h, stamp := s.epoch, unc := s.unc }
    else s

/-- ENG_VERIFY (R146): a write of ENG_CTRL with VERIFY 1. -/
def execEngVerify (e : Fin 512) (w : Wr) (s : State) : Host.Outcome State Fault Refusal :=
  chipOnly s (s.writeEngCtrl e.val (orBits w 0x001))

/-- ENG_ARM (R140): a write of ENG_CTRL with ARM 1. -/
def execEngArm (e : Fin 512) (w : Wr) (s : State) : Host.Outcome State Fault Refusal :=
  chipOnly s (s.writeEngCtrl e.val (orBits w 0x004))

/-- ENG_START (R141): a write of ENG_CTRL with START 1. -/
def execEngStart (e : Fin 512) (w : Wr) (s : State) : Host.Outcome State Fault Refusal :=
  chipOnly s (s.writeEngCtrl e.val (orBits w 0x008))

/-- ENG_STOP (R142): a write of ENG_CTRL with STOP 1. -/
def execEngStop (e : Fin 512) (w : Wr) (s : State) : Host.Outcome State Fault Refusal :=
  chipOnly s (s.writeEngCtrl e.val (orBits w 0x020))

/-- ENG_PARK (R139): a write of ENG_CTRL with PARK 1. -/
def execEngPark (e : Fin 512) (w : Wr) (s : State) : Host.Outcome State Fault Refusal :=
  chipOnly s (s.writeEngCtrl e.val (orBits w 0x010))

/-- ENG_CTRL_GATE (R135): a write of ENG_CTRL with GATE 1. -/
def execEngCtrlGate (e : Fin 512) (w : Wr) (s : State) : Host.Outcome State Fault Refusal :=
  chipOnly s (s.writeEngCtrl e.val (orBits w 0x100))

/-! ### Ticks of a run -/

/-- A lane of the feed set is in SERVICE (R120). -/
def State.feedServed (s : State) (e : Nat) : Bool := (s.feedSet e).any fun l => s.laneState l == 5

/-- The events of the step that starts now, as ENG_EVT enables them at their stamp tick (R133). -/
def State.stepEvents (s : State) (e : Nat) (p : Pos) : List EngEv :=
  let ends := (p.ends.filter fun l => bit (s.rd ENG_EVT.LOOP_MASK e) l).map fun l =>
    ({ cls := 4, t := s.epoch, gen := 0, level := l } : EngEv)
  let st : List EngEv := if s.on ENG_EVT.STEP_EN e && !stQuiet (s.engStep e p.step) && stOp (s.engStep e p.step) != 7 then
      [{ cls := 3, t := s.epoch, gen := p.gen }] else []
  ends ++ st

/-- What becomes of the staging as position `p` begins at its start (R182, R184): `jumped` when a branch or a redirect is taken there, so
that every slot is discarded; `moved` when a step starts by loop-back or NEXT, so that the staging of slot SUCC becomes its own. -/
def Pos.discards (p : Pos) : Bool := p.jumped && p.start == p.jumpAt
def Pos.moves (p : Pos) : Bool := p.fresh && !p.entry && !p.jumped

/-- The VALID entries of the branch set a step names, one bit each (R194). -/
def State.validMask (s : State) (e w : Nat) : Nat :=
  (s.stepEntries e w).zipIdx.foldl (fun acc x => if brValid x.1 then acc + 2 ^ x.2 else acc) 0

/-- The presented position `p` begins now: what the registers show, the events, the loop registers of the fetches whose fetch tick this
is, the slots, the granules that an episode has passed over (R125, R126, R139, R182, R194, R241, R564). -/
def State.showPos (s : State) (e : Nat) (p : Pos) : State :=
  let regs := s.lregs e
  let s : State := match (s.eng e).line with
    | old :: _ =>
      let t := s.incBy SEG_SKIPPED.SKIPPED e (s.skipped e old s.epoch)
      if old.kind = .starve ∧ p.kind ≠ .starve then t.modEng e fun g => { g with bridgeAt := s.epoch, bridgeIn := false } else t
    | [] => s
  let g := s.eng e
  let ready := if p.discards then 0 else if p.moves then g.succT &&& s.validMask e (s.engStep e p.step)
    else s.rd ENG_BR_STAGE.SLOT_RDY e
  let renew := p.discards || p.moves
  let s1 := s.modEng e fun g => { g with
    line := ((g.line.filter fun q => decide (s.epoch < q.start)).cons p).map fun q =>
      { q with lrS := if q.ftS = s.epoch then regs else q.lrS, lrT := if q.ftT = s.epoch then regs else q.lrT }
    fetched := g.fetched && !renew
    succT := if renew then 0 else g.succT
    bads := if p.discards then [] else if p.moves then (g.bads.filter fun b => decide (4 ≤ b.1)).map fun b => (b.1 - 4, b.2) else g.bads
    evs := g.evs ++ (if p.fresh then s.stepEvents e p else []) }
  let s2 := (s1.showLoops e p.lcnt).wr ENG_BR_STAGE.SLOT_RDY e ready
  let s3 := if renew then s2.wr ENG_BR_STAGE.SUCC_RDY e 0 else s2
  if p.kind = .gateWait then s3.setEngState e 2 else s3.setEngState e 3

/-- ENG_START_TICK (R139, R141): at the start tick, with the entry staged by its splice deadline, the engine enters
RUNNING. -/
def execEngStartTick (e : Fin 512) (s : State) : Host.Outcome State Fault Refusal :=
  chipOnly s <|
    let g := s.eng e.val
    if s.engState e.val = 1 ∧ g.startD = some s.epoch ∧ g.staged = true then
      match g.presented s.epoch with
      | some p =>
        let s1 := ((s.startCarry e.val).showPos e.val p).wr64 ENG_RUN_LO.RUN ENG_RUN_HI.RUN e.val s.epoch
        let s2 := s1.modEng e.val fun g => { g with served := s.feedServed e.val }
        ((s2.raiseEng e.val 0).jrn 0x02 e.val 0x0501 [.word e.val, .tick s.epoch, .word (s.rd ENG_STAT.CAUSE e.val)]).resolveStart
          e.val
      | none => s
    else s

/-- APGs of the position that ends are HELD unless the next one runs them (R289, R306). -/
def State.holdApg (s : State) (e : Nat) (old new : Pos) : State :=
  match old.kind, s.servedApg e (s.engStep e old.step) with
  | .play, some a =>
    if (new.kind = .play ∧ s.servedApg e (s.engStep e new.step) = some a) ∨ s.rd APG_STAT.STATE a = 4 then s
    else s.wr APG_STAT.STATE a 3
  | _, _ => s

/-- ENG_STEP_BOUNDARY (R125, R135): at the tick at which a decided position starts, it is presented: the successor starts
by loop-back, NEXT, branch or redirect, or the engine enters GATED or leaves it. -/
def execEngStepBoundary (e : Fin 512) (s : State) : Host.Outcome State Fault Refusal :=
  chipOnly s <|
    let g := s.eng e.val
    if s.engState e.val = 2 ∨ s.engState e.val = 3 then
      match g.line, g.presented s.epoch with
      | old :: _, some p =>
        if p.start = s.epoch ∧ p ≠ old then (s.holdApg e.val old p).showPos e.val p else s
      | _, _ => s
    else s

/-- ENG_DRAIN_START (R139, R142): at the splice deadline of the stop tick the engine enters DRAINING and its entries for
the stop tick and later go. -/
def execEngDrainStart (e : Fin 512) (s : State) : Host.Outcome State Fault Refusal :=
  chipOnly s <|
    match (s.eng e.val).stopD with
    | some (d, c) =>
      if (s.engState e.val = 2 ∨ s.engState e.val = 3) ∧ d ≤ s.epoch + 66 then
        ((((s.withdraw e.val d).dropReqs e.val d).dropRedirect e.val).setEngState e.val 4).wr ENG_STAT.CAUSE e.val c
      else s
    | none => s

/-- The loop ends of a run that reached END, stamped at the tick after its last entry, and the loop counts it leaves (R126,
R133). -/
def State.endEvents (s : State) (e d : Nat) : State :=
  (s.showLoops e (s.eng e).endLcnt).modEng e fun g => { g with
    evs := g.evs ++ (g.endEnds.filter fun l => bit (s.rd ENG_EVT.LOOP_MASK e) l).map fun l =>
      { cls := 4, t := d, gen := 0, level := l }
    endEnds := [] }

/-- ENG_STOP_TICK (R139, R142): at the stop tick a DRAINING engine enters STOPPED, or PARKED for LANE_LOSS. -/
def execEngStopTick (e : Fin 512) (s : State) : Host.Outcome State Fault Refusal :=
  chipOnly s <|
    match (s.eng e.val).stopD with
    | some (d, c) =>
      if s.engState e.val = 4 ∧ d ≤ s.epoch then
        (if c = 1 then s.endEvents e.val d else s).stopped e.val c d
      else s
    | none => s

/-- ENG_FAULT (R144): at D_f − 66 the engine enters FAULT; what it has written for ticks before D_f stays good, and its windows' POS goes
on to D_f (R230). -/
def execEngFault (e : Fin 512) (s : State) : Host.Outcome State Fault Refusal :=
  chipOnly s <|
    match (s.eng e.val).fault with
    | some (d, c, j) =>
      if s.engBusy e.val ∧ d ≤ s.epoch + 66 then
        let s1 := ((((s.settleApgs e.val d).dropReqs e.val d).clearInputs e.val).dropRedirect e.val).modEng e.val fun g =>
          { g with line := g.line.filter (fun p => decide (p.start < d)), q := g.q.filter (fun en => decide (en.tick < d)), cut := some d,
                   gate := none, gateTo := none, stopFrom := none, stopD := none, fault := none, startD := none }
        let s2 := (((s1.setEngState e.val 6).wr ENG_STAT.CAUSE e.val 6).wr ENG_FAULT.CODE e.val c).wr ENG_FAULT.STEP e.val j
        ((s2.raiseEng e.val 2).jrn 0x02 e.val 0x0503 []).settleRun
      else s
    | none => s

/-! ### Output -/

/-- What the engine presents at `x`: the position, which beyond the end boundary of the last decided one is its natural
successor (R119); none where the engine has to wait. -/
def State.writePos (s : State) (e x : Nat) : Option Pos :=
  let g := s.eng e
  match (g.line.filter fun p => decide (p.start ≤ x)).getLast? with
  | none => none
  | some p =>
    let w := s.engStep e p.step
    if p.kind ≠ .play ∨ stOp w = 6 ∨ x < s.posEnd e p then some p
    else if s.rdA ENG_CFG.MODE e = 1 ∨ !g.fetched ∨ !(p.entry || decide (p.start ≤ s.epoch)) then none
    else
      let ex := s.naturalExit e p
      let lv := s.leave e p (s.posEnd e p) ex.lcnt ex.ends ex.back false
      let (q, f) := s.enterStep e lv ex.step (s.posEnd e p) p.lrS
      if ex.fault.isSome || f.isSome || stOp (s.engStep e ex.step) == 7 || decide (s.posEnd e q ≤ x) then none else some q

/-- A Bezel that holds 256 words, or 64 samples, has room for ball tick `x` (R99, R100, R103): in the tick in which the output stage takes
the entry of ball tick `epoch` + 10 its place is free, so that an empty lane Bezel takes ball tick D from tick D − 266 on (R141). -/
def State.bezelRoom (s : State) (e x : Nat) : Bool :=
  decide (x ≤ s.epoch + 10 + (if s.engDrive e then 64 else 256) * s.engPer e)

/-- ENG_BEZEL_WRITE (R119): the engine writes its next entry into the Bezels of its feed set, or into its drive Bezels, once
there is room and the entry is known. An entry that reaches a Bezel below its floor is not taken (R105, R106); a lane's word is then
counted as dropped. -/
def execEngBezelWrite (e : Fin 512) (s : State) : Host.Outcome State Fault Refusal :=
  chipOnly s <|
    let g := s.eng e.val
    let x := g.next
    if (1 ≤ s.engState e.val ∧ s.engState e.val ≤ 3) ∧ g.startD.isSome ∧ g.staged ∧ s.bezelRoom e.val x ∧ !g.endsBy x then
      match s.writePos e.val x with
      | none => s
      | some p =>
        let missing := match s.streamNeed e.val p x with
          | some (k, n, m) => !s.allPresent (engFacet e.val) k n m
          | none => false
        if missing then s
        else
          let keep := g.q.filter fun en => decide (s.epoch ≤ en.tick + 2 * s.engPer e.val)
          let late := decide (x < s.epoch + 66)
          let en := if late then [] else [s.entryAt e.val p x]
          let s1 := s.modEng e.val fun g => { g with q := keep ++ en, next := x + s.engPer e.val }
          let s2 := if late && s.feedSet e.val != [] then s1.inc ENG_DROP.DROPPED e.val else s1
          s2.showWritten e.val p x
    else s

/-- The marker event of the entry whose ball tick is now (R133, R189): MARK_BIT changes from 0 to 1. -/
def State.markEvent (s : State) (e : Nat) : List EngEv :=
  let g := s.eng e
  let b := s.rd ENG_EVT.MARK_BIT e
  let bitAt := fun x => match g.q.find? (fun en => en.tick == x) with
    | some en => bit en.mark b
    | none => false
  let per := s.engPer e
  if s.on ENG_EVT.MARK_EN e && bitAt s.epoch && !(decide (per ≤ s.epoch) && bitAt (s.epoch - per)) then
    [{ cls := 5, t := s.epoch, gen := match g.presented s.epoch with
        | some p => if p.start = s.epoch ∧ p.fresh = true then p.gen else 0
        | none => 0 }]
  else []

/-- ENG_EVENT_RELEASE (R133): the engine releases the events whose stamp tick has come to its Fire port. -/
def execEngEventRelease (e : Fin 512) (s : State) : Host.Outcome State Fault Refusal :=
  chipOnly s <|
    let g := s.eng e.val
    let due := (g.evs.filter fun v => decide (v.t ≤ s.epoch)) ++ s.markEvent e.val
    let s1 := s.modEng e.val fun g => { g with evs := g.evs.filter fun v => decide (s.epoch < v.t) }
    due.foldl (fun t v => t.produce (prodId v.cls e.val) { t := v.t, unc := s.unc } v.gen) s1

/-! ### Fetches -/

/-- The check of a segment at the fetch of its first granule (R123): what a PLAY or STREAM step names can be played. -/
def State.segPlayable (s : State) (e w : Nat) : Bool :=
  let d := s.stepSeg e w
  !(stOp w == 0 || stOp w == 1) ||
    (d.playable && d.kind == s.rdA ENG_CFG.KIND e && decide (8 ≤ d.length) && d.stream == (stOp w == 1))

/-- The fault a fetch of step `j` finds (R144, R169, R185): an uncorrectable step or branch-set word, an invalid segment, an
uncorrectable line of a resident segment. -/
def State.fetchFault (s : State) (e j : Nat) (word data : Ecc) : Option Nat :=
  let w := s.engStep e j
  if word = .uncorrectable then some 0x02
  else if !s.segPlayable e w then some 0x04
  else if data = .uncorrectable ∧ stOp w = 0 then some 0x10
  else none

/-- The bridge segment fails SEG_RANGE, SEG_KIND or SEG_LENGTH (R240). -/
def State.bridgeReason (s : State) (e : Nat) : Nat :=
  match s.bridge e with
  | none => 0
  | some d =>
    if !d.playable || d.stream then 0x06
    else if d.kind ≠ s.rdA ENG_CFG.KIND e then 0x07
    else if d.length < 8 then 0x08
    else 0

/-- The granule and the stream granule a step's data begin with, from index `n` of position `p`. -/
def State.fetchPlace (s : State) (e : Nat) (p : Pos) (n : Nat) : Nat × Option (Nat × Nat) :=
  let w := s.engStep e p.step
  (s.stepGranule e p w n, if stOp w = 1 then
    some (stWindow w, if stPin w then p.sbase + n % max 1 (s.stepSeg e w).length else p.sbase + n) else none)

/-- The store side of a fetch of granule `n` of position `p`, and of the one after it: line `ln` of the four is corrected or uncorrectable
(R222), and a stream granule that fails its tag or ECC test is stale (R231). What the read of that line finds, and the state after it. -/
def State.fetchData (s : State) (e : Nat) (p : Pos) (n : Nat) (data : Ecc) (ln : Nat) : Ecc × State :=
  let f := engFacet e
  let pl := s.fetchPlace e p (n + ln / 2)
  let found := s.lineEcc f (2 * pl.1 + ln % 2) data
  let s1 := s.eccRead f (2 * pl.1 + ln % 2) data
  match pl.2 with
  | some (k, m) =>
    let s2 := if found = .uncorrectable then s1.modWin (winId f k) fun u => { u with bad := m :: u.bad } else s1
    (found, if s2.stale f k m = true then (s2.inc WIN_CNT.STALE_COUNT (winId f k)).raiseEng e 13 else s2)
  | none => (found, s1)

/-- The fetch of a step, entered as position `q`, and of its first two granules, with what its reads meet: the fault it finds, and the
state after it (R123, R144, R185). -/
def State.fetchItem (s : State) (e : Nat) (q : Pos) (word data : Ecc) (ln : Nat) : Option Nat × State :=
  let w := s.engStep e q.step
  if stOp w = 0 ∨ stOp w = 1 then
    let r := s.fetchData e q 0 data ln
    (s.fetchFault e q.step word r.1, r.2)
  else (s.fetchFault e q.step word data, s)

/-- The position whose successor and targets the engine stages: the one presented, in ARMED the entry step's, and while a target waits
for its gate the target's (R182, R184). -/
def State.fetchFrom (s : State) (e : Nat) : Option Pos :=
  let g := s.eng e
  let p := if s.engState e = 1 ∧ g.line = [] then some (s.entryPos e s.epoch 0).1
    else g.presented (max s.epoch (g.startD.getD s.epoch))
  match p with
  | some p =>
    if p.kind = .gateWait then (if p.jumped then some (s.enterStep e p p.step p.start p.lrE).1 else none) else some p
  | none => none

/-- The successor of position `p`, entered where its schedule ends, the fault of the exit that leads to it, and that of the entry. -/
def State.succOf (s : State) (e : Nat) (p : Pos) : Pos × Option Nat × Option Nat :=
  let ex := s.naturalExit e p
  let lv := s.leave e p (s.posEnd e p) ex.lcnt ex.ends ex.back false
  let r := s.enterStep e lv ex.step (s.posEnd e p) (if p.lrS.isEmpty then s.lregs e else p.lrS)
  (r.1, ex.fault, r.2)

/-- The target of branch-set entry `en`, entered now from position `p`. -/
def State.targetOf (s : State) (e : Nat) (p : Pos) (en : Nat) : Pos :=
  (s.enterStep e (s.leave e p s.epoch (branchLoops (brMode en) p.lcnt) [] false true) (brTarget en) s.epoch
    (if p.lrT.isEmpty then s.lregs e else p.lrT)).1

/-- SUCC_RDY reads 1 once slot SUCC holds the next step and the targets of its branch set (R194). -/
def State.showSucc (s : State) (e : Nat) (q : Pos) : State :=
  let m := s.validMask e (s.engStep e q.step)
  s.wr ENG_BR_STAGE.SUCC_RDY e (flag ((s.eng e).fetched && (s.eng e).succT &&& m == m))

/-- The staging of the target of entry `en` of the set that position `p` carries into slot `slot`, with fetch tick `ft` (R182, R185): a
fault is acted on at D_f, which is the point of presentation when the branch is taken before (R564). -/
def State.fetchTarget (s : State) (e : Nat) (p : Pos) (en slot ft : Nat) (word data : Ecc) (ln : Nat) : State :=
  let q := s.targetOf e p en
  match s.fetchItem e q word data ln with
  | (some c, t) => (t.modEng e fun g => { g with bads := g.bads ++ [(slot, c, q.step)] }).foundFault e
      (s.faultTick e ft (s.engDPFrom e (ft + 8 * s.engGran e))) c q.step
  | (none, t) => t

/-- What the redirect slot holds: the target, its successor and its targets, each as the position in which it is entered (R192). -/
def State.redirItems (s : State) (e : Nat) (p : Pos) (r : Redir) : List (Nat × Pos) :=
  let q := (s.enterStep e (s.leave e p s.epoch (branchLoops r.mode p.lcnt) [] false true) r.target s.epoch r.regs).1
  if stOp (s.engStep e r.target) = 7 then [(0, q)] else
  let n := s.succOf e q
  (0, q) :: (if n.2.1.isNone then [(1, n.1)] else []) ++
    ((List.range 4).filter fun k => brValid (nth (s.stepEntries e (s.engStep e q.step)) k)).map fun k =>
      (2 + k, s.targetOf e q (nth (s.stepEntries e (s.engStep e q.step)) k))

/-- The redirect slot's items that `pick` selects are fetched, and meet `word`, `data`: the first fault found, with its step, and the
state after the reads. -/
def State.redirFetch (s : State) (e : Nat) (p : Pos) (r : Redir) (pick : Nat → Bool) (word data : Ecc) (ln : Nat) :
    Option (Nat × Nat) × State :=
  ((s.redirItems e p r).filter fun iq => pick iq.1).foldl (fun acc iq =>
    let f := acc.2.fetchItem e iq.2 word data ln
    (acc.1 <|> f.1.map fun c => (c, iq.2.step), f.2)) (none, s)

/-- A fault found in the redirect slot is a runtime fault, whose fetch tick is the acceptance of the redirect (R185, R564). -/
def State.redirFault (s : State) (e : Nat) (r : Redir) (c j : Nat) : State :=
  s.foundFault e (s.faultTick e r.a (s.engDPFrom e (r.a + 8 * s.engGran e))) c j

/-- Item `k` of the redirect slot is fetched (R192). -/
def State.redirItem (s : State) (e k : Nat) (word data : Ecc) (ln : Nat) : State :=
  match (s.eng e).redir, (s.eng e).presented s.epoch with
  | some r, some p =>
    if r.staged.isNone then
      let (bad, t) := s.redirFetch e p r (fun i => i == k) word data ln
      match bad with
      | some (c, j) => t.redirFault e r c j
      | none => t
    else s
  | _, _ => s

/-- ENG_FETCH (R564): the engine fetches an item, with what its reads of the step memory and of line `ln` of the store meet,
and checks it; a fault is acted on at D_f, and an item without one counts as staged. -/
def State.engFetch (s : State) (e : Nat) (item : Fetch) (word data : Ecc) (ln : Nat) : State :=
  let g := s.eng e
  let st := s.engState e
  let by8 := fun ft => s.engDPFrom e (ft + 8 * s.engGran e)
  if !(1 ≤ st && st ≤ 3) then s
  else
    match item with
    | .redirect k => s.redirItem e k.val word data ln
    | .entry =>
      if st = 1 ∧ g.staged = false then
        let en := s.entryPos e s.epoch 0
        let p : Pos := match g.line with | p :: _ => p | [] => en.1
        let r := s.fetchItem e p word data ln
        match r.1 <|> en.2 with
        | some c => r.2.foundFault e (s.faultTick e g.armAt (g.startD.getD (by8 g.armAt))) c p.step
        | none =>
          let t := (r.2.modEng e fun g => { g with staged := true }).lateStart e
          match (t.eng e).startD with
          | some d => if d < s.epoch + 76 then t.resolveEntry e d else t
          | none => t
      else s
    | .succ =>
      match s.fetchFrom e with
      | some p =>
        if g.fetched || (p.kind == .starve && p.pinned) then s
        else
          let (q, bad, worse) := s.succOf e p
          let df := s.faultTick e p.ftS (if g.line = [] then by8 g.armAt else s.posEnd e p)
          match bad with
          | some c => s.foundFault e df c p.step
          | none =>
            let r := s.fetchItem e q word data ln
            match r.1 <|> worse with
            | some c => r.2.foundFault e df c q.step
            | none => (r.2.modEng e fun g => { g with fetched := true }).showSucc e q
      | none => s
    | .target k =>
      match s.fetchFrom e with
      | some p =>
        let en := nth (s.stepEntries e (s.engStep e p.step)) k.val
        if brValid en then
          let t := s.fetchTarget e p en k.val p.ftT word data ln
          if (t.eng e).bads.any (fun b => b.1 == k.val) then t
          else t.wr ENG_BR_STAGE.SLOT_RDY e (s.rd ENG_BR_STAGE.SLOT_RDY e ||| 2 ^ k.val)
        else s
      | none => s
    | .succTarget k =>
      match s.fetchFrom e with
      | some p =>
        let (q, bad, worse) := s.succOf e p
        let en := nth (s.stepEntries e (s.engStep e q.step)) k.val
        if bad.isNone && worse.isNone && brValid en && !(p.kind == .starve && p.pinned) then
          let t := s.fetchTarget e q en (4 + k.val) p.ftS word data ln
          if (t.eng e).bads.any (fun b => b.1 == 4 + k.val) then t
          else (t.modEng e fun g => { g with succT := g.succT ||| 2 ^ k.val }).showSucc e q
        else s
      | none => s
    | .granule n =>
      match g.presented (max s.epoch (g.startD.getD s.epoch)) with
      | some p =>
        let w := s.engStep e p.step
        let seg : Bool := stOp w == 0 || stOp w == 1
        match p.kind with
        | .play =>
          if seg then
            let x := p.org + n * s.engGran e
            let r := s.fetchData e p n data ln
            match s.fetchFault e p.step word r.1 with
            | some c => r.2.foundFault e (s.faultTick e (x - 8 * s.engGran e) x) c p.step
            | none => r.2
          else s
        | .starve =>
          match s.bridge e with
          | some d =>
            if s.starvePolicy e = 1 then
              let l := 2 * (d.base + (n + ln / 2) % max 1 d.length) + ln % 2
              let x := p.start + n * s.engGran e
              let t := s.eccRead (engFacet e) l data
              if s.lineEcc (engFacet e) l data = .uncorrectable then t.foundFault e (s.faultTick e (x - 8 * s.engGran e) x) 0x10 p.step else t
            else s
          | none => s
        | .gateWait => s
      | none => s
    | .bridge =>
      match s.bridge e with
      | some d =>
        if g.bridgeIn then s
        else
          let l := 2 * (d.base + ln / 2 % max 1 d.length) + ln % 2
          let j := match s.fetchFrom e with | some p => p.step | none => s.rdA ENG_START.ENTRY e
          let t := s.eccRead (engFacet e) l data
          let df := s.faultTick e g.bridgeAt (by8 g.bridgeAt)
          if s.bridgeReason e ≠ 0 then t.foundFault e df 0x04 j
          else if s.lineEcc (engFacet e) l data = .uncorrectable then t.foundFault e df 0x10 j
          else t.modEng e fun g => { g with bridgeIn := true }
      | none => s

/-- ENG_FETCH (R564). -/
def execEngFetch (e : Fin 512) (item : Fetch) (word data : Ecc) (ln : Fin 4) (s : State) :
    Host.Outcome State Fault Refusal :=
  chipOnly s (s.engFetch e.val item word data ln.val)

/-- REDIRECT_STAGED (R192): staging of the redirect slot ends: the slot holds what its items' reads deliver; where one of them is at
fault (R185), it is not staged. With nothing pending, nothing. -/
def execRedirectStaged (e : Fin 512) (s : State) : Host.Outcome State Fault Refusal :=
  chipOnly s <|
    match (s.eng e.val).redir, (s.eng e.val).presented s.epoch with
    | some r, some p =>
      if r.staged.isNone ∧ (s.eng e.val).fault.isNone then
        let (bad, t) := s.redirFetch e.val p r (fun _ => true) .clean .clean 0
        match bad with
        | some (c, j) => t.redirFault e.val r c j
        | none => (t.modEng e.val fun g => { g with redir := some { r with staged := some s.epoch } }).wr ENG_REDIR_STAT.STAGED e.val 1
      else s
    | _, _ => s

/-! ### Verification (R146, R147) -/

/-- FLAGS break R155. -/
def flagsBad (drive : Bool) (w : Nat) : Bool :=
  let op := stOp w
  bit w 112 ||
  ((stNextAbs w || stMarkOvr w || stQuiet w) && op == 7) ||
  ((stBrAtEnd w || stLatch w) && decide (4 < op)) ||
  (stPhaseReset w && op != 2) || (stPin w && op != 1) || (stIdle w && !(op == 4 || op == 6)) ||
  (!stSwap w && stSwapSel w != 0) || stSwapSel w == 3 ||
  (stSwap w && stSwapSel w == 0 && !(op == 2 || op == 3)) ||
  (stSwap w && stSwapSel w == 1 && (drive || op == 7)) ||
  (stSwap w && stSwapSel w == 2 && op != 3)

/-- LOOPCTL breaks R159. -/
def loopctlBad (w : Nat) : Bool :=
  (stAction w == 0 && (stLevel w != 0 || stReg w != 0)) || (stAction w == 2 && stReg w != 0) ||
  (stOp w == 7 && stAction w != 0)

/-- MARK breaks R162. -/
def markBad (drive : Bool) (w : Nat) : Bool :=
  stOp w != 7 && ((!stMarkOvr w && stMark w != 0) || bits (stMark w) 0 2 != 0 || (!drive && bits (stMark w) 6 2 != 0))

/-- PARAM breaks R163, R164, R229, R287 or R384. -/
def State.paramBad (s : State) (e w : Nat) : Bool :=
  let p := stParam w
  let drive := s.engDrive e
  match stOp w with
  | 0 => p != 0
  | 1 => bits p 8 24 != 0 || decide (31 < p)
  | 2 => bits p 17 15 != 0 || bits p 10 6 != 0 ||
         !bit (Sparse.get (0 : BitVec 8) s.mem.af (0x00200000 + 32 * bits p 0 10 + 7)).toNat 7
  | 3 =>
    let a := stApg e w
    bits p 18 14 != 0 || bits p 6 9 != 0 || decide (15 < bits p 0 6) || s.rdA APG_CFG.EN a != 1 ||
    s.rdA APG_CFG.OWNER a != e % 16 || s.rd PH_CTL.VALID (16 * a + bits p 0 6 % 16) != 1
  | 4 => if stIdle w then p != 0 else drive && bits p 24 8 != 0
  | 6 => bits p 24 6 != 0 || (stIdle w && bits p 0 24 != 0)
  | _ => false

/-- The segment of a PLAY or STREAM step fails SEG_RANGE (R147, R229). -/
def State.segRangeBad (s : State) (e w : Nat) : Bool :=
  let d := s.stepSeg e w
  let f := engFacet e
  decide (8191 < stSeg w) || !d.playable || d.stream != (stOp w == 1) ||
  (stOp w == 1 && (d.window != stWindow w || s.rd WIN_CFG.EN (winId f (stWindow w)) != 1 ||
    s.winOwner f (stWindow w) != e))

/-- The branch set of a step fails a check of R169. -/
def State.bsetBad (s : State) (e w : Nat) (ecc : Bool) : Bool :=
  let b := stBset w
  if stOp w = 7 ∨ b = 0 then false
  else
    let es := s.stepEntries e w
    stOp w == 6 || ecc ||
    decide (0xFFFF < s.rdA ENG_WIN.BASE e + s.rdA ENG_WIN.SIZE_M1 e + 2 * b) || !es.any brValid ||
    es.any fun x =>
      if brValid x then
        brMode x == 3 || bit x 56 || decide (s.rdA ENG_WIN.SIZE_M1 e < brTarget x) ||
        (if brWinEn x then decide (brClose x ≤ brOpen x) else brWinRef x != 0 || brOpen x != 0 || brClose x != 0)
      else x != 0

/-- A STREAM step breaks R235. -/
def State.pinBad (s : State) (e w : Nat) : Bool :=
  let d := s.stepSeg e w
  stOp w == 1 && (stPin w != d.isPin ||
    (stPin w && decide (s.rd WIN_SIZE.SIZE (winId (engFacet e) (stWindow w)) < d.length + 32)))

/-- The first check of R147 that step `j` fails, in table order; 0 when none does. `ecc` says that its word is
uncorrectable, `becc` that a word of its branch set is. -/
def State.stepReason (s : State) (e j : Nat) (ecc becc : Bool) : Nat :=
  let w := s.engStep e j
  let op := stOp w
  let drive := s.engDrive e
  let seg := op == 0 || op == 1
  if ecc then 0x01
  else if op = 5 ∨ 8 ≤ op then 0x02
  else if flagsBad drive w || loopctlBad w || markBad drive w || s.paramBad e w then 0x03
  else if op = 6 ∧ s.rdA ENG_CFG.MODE e = 0 then 0x04
  else if (op = 2 ∧ drive = false) ∨ (op = 3 ∧ drive = true) then 0x05
  else if seg && s.segRangeBad e w then 0x06
  else if seg && (s.stepSeg e w).kind != s.rdA ENG_CFG.KIND e then 0x07
  else if seg && decide ((s.stepSeg e w).length < 8) then 0x08
  else if stRepeat w = 0 ∨ (2 ≤ op ∧ op ≤ 6 ∧ stRepeat w < 8) then 0x09
  else if op ≠ 7 ∧ (s.nextOf e j w).isNone then 0x0A
  else if stOpens w && nth (s.lregs e) (stReg w) == 0 then 0x0B
  else if s.bsetBad e w becc then 0x0C
  else if s.pinBad e w then 0x0D
  else 0

/-- The scan of the window in ascending order: the first failing step with its reason (R146). -/
def State.scan (s : State) (e : Nat) (ecc becc : Option Nat) : Nat → Nat → Nat × Nat
  | 0, _ => (s.bridgeReason e, 0xFFFF)
  | n + 1, j =>
    let r := s.stepReason e j (ecc == some j) (becc == some j)
    if r = 0 then s.scan e ecc becc n (j + 1) else (r, j)

/-- ENG_VERIFY_DONE (R146): the scan ends. `ecc` and `becc` name a step whose word, or whose branch set's words, are read with
an uncorrectable error. -/
def execEngVerifyDone (e : Fin 512) (ecc becc : Option (Fin 65536)) (s : State) : Host.Outcome State Fault Refusal :=
  chipOnly s <|
    if s.on ENG_VERIFY.BUSY e.val then
      let n := s.rdA ENG_WIN.SIZE_M1 e.val + 1
      let (r, j) := s.scan e.val (ecc.map (·.val)) (becc.map (·.val)) n 0
      let ws := (List.range n).map fun k => s.engStep e.val k
      let used := (ws.filter fun w => stOp w ≤ 1).map stSeg ++
        (if s.on SEG_STARVE.BRIDGE_EN e.val then [s.rd SEG_STARVE.BRIDGE_SEG e.val] else [])
      let tsets := (ws.filter fun w => stOp w = 2).map fun w => bits (stParam w) 0 10
      let bmax := (ws.filter fun w => stOp w ≠ 7).foldl (fun a w => max a (stBset w)) 0
      let hit := (s.eng e.val).scanHit
      let s1 := s.modEng e.val fun g => { g with used := used, tsets := tsets, bsetMax := bmax, scanHit := false }
      let s2 := ((s1.wr ENG_VERIFY.BUSY e.val 0).wr ENG_VERIFY.REASON e.val r).wr ENG_VERIFY.FIRST_BAD e.val
        (if r = 0 then 0 else j)
      (s2.wr ENG_STAT.PROG_OK e.val (flag (r == 0 && !hit))).raiseEng e.val 3
    else s

/-! ### Protection of a busy window (R122, R166) -/

/-- Absolute step `n` of Facet `f` lies in the window or the branch-set area of engine `e`. -/
def State.inProgram (s : State) (e n : Nat) : Bool :=
  let b := s.rdA ENG_WIN.BASE e
  decide (b ≤ n ∧ n ≤ b + s.rdA ENG_WIN.SIZE_M1 e + 2 * (s.eng e).bsetMax)

/-- A write applied to step `n` clears PROG_OK of every engine of the Facet whose window or area holds it, and ends a scan
with PROG_OK 0 (R122, R166). -/
def State.stepTouched (s : State) (f n : Nat) : State :=
  (List.range 16).foldl (fun t k =>
    let e := 16 * f + k
    if s.inProgram e n then (t.wr ENG_STAT.PROG_OK e 0).modEng e fun g => { g with scanHit := s.on ENG_VERIFY.BUSY e } else t) s

end Sys2Proof.Machine
end

