-- ==== Sys2Proof/Machine/Fixed.lean ====
section
/-!
DEFINITION. Machine/Fixed.lean: the arithmetic of the drive outputs: rounding (R361), and the sine, cosine and power
functions that the tables of R370 and R378 and the laws of R379 and R406 name, in fixed point with 120 fraction bits.
Each function sums its power series well past the last bit any rule keeps.
-/

namespace Sys2Proof.Machine

/-- `a / b` rounded to nearest, ties away from zero (R361). -/
def roundDiv (a : Int) (b : Nat) : Int :=
  let q := (2 * a.natAbs + b) / (2 * max 1 b)
  if a < 0 then -(q : Int) else (q : Int)

/-- 1.0 with 120 fraction bits. -/
def one120 : Nat := 2 ^ 120
/-- π with 120 fraction bits. -/
def pi120 : Int := 4175892906503776358826876457663557747
/-- The natural logarithm of 2 with 120 fraction bits. -/
def ln2_120 : Int := 921350637599661305226344307672478455
/-- The binary logarithm of e with 120 fraction bits. -/
def log2e_120 : Nat := 1917670637729674084946755258930051709

/-- The power series of the sine from its term `t` of order `k` on. -/
def sinSum (x2 : Int) : Nat → Nat → Int → Int
  | 0, _, _ => 0
  | n + 1, k, t => t + sinSum x2 n (k + 2) (-(t * x2 / ((k + 1) * (k + 2) * one120 : Nat)))

/-- The sine of `x`, within half a turn. -/
def sin120 (x : Int) : Int := sinSum (x * x / (one120 : Int)) 26 1 x

/-- Entry `i` of the quarter-wave sine table (R378), `i` from 0 to 4096. -/
def sineEntry (i : Nat) : Int := roundDiv (sin120 (pi120 * i / 8192) * (2 ^ 23 - 1)) one120

/-- Entry `i` of the cosine table of R370: (1 + cos(π i / 4096)) / 2, and 0 at 4096. -/
def cosEntry (i : Nat) : Int :=
  if i < 4096 then ((one120 : Int) + sin120 (pi120 * (2048 - (i : Int)) / 4096)) / 2 else 0

/-- The weight w of R370, with 23 fraction bits, `k` ticks into a taper of `t` ticks. -/
def taperW (k t : Nat) : Int :=
  if t ≤ k then 0
  else
    let i := 4096 * k / t
    let fr := 4096 * k % t
    roundDiv ((cosEntry i * t + (cosEntry (i + 1) - cosEntry i) * fr) * 2 ^ 23) (t * one120)

/-- The power series of the exponential from its term `t` of order `k` on. -/
def expSum (x : Int) : Nat → Nat → Int → Int
  | 0, _, _ => 0
  | n + 1, k, t => t + expSum x n (k + 1) (t * x / ((k + 1) * one120 : Nat))

/-- 2 to the power `a / b`, with 120 fraction bits. -/
def pow2Q (a b : Nat) : Nat :=
  let b := max 1 b
  let fr : Int := ((a % b) * one120 / b : Nat)
  (expSum (fr * ln2_120 / one120) 44 0 one120).toNat * 2 ^ (a / b)

/-- 2 to the power `-a / b`, with 120 fraction bits. -/
def pow2Neg (a b : Nat) : Nat := one120 * one120 / max 1 (pow2Q a b)

/-- e to the power `-a / b`, with 120 fraction bits. -/
def expNeg (a b : Nat) : Nat := pow2Neg (a * log2e_120) (b * one120)

/-- The value limited to 24 bits (sat24, R361). -/
def sat24 (z : Int) : Int := satInt 24 z

end Sys2Proof.Machine
end

