-- ==== Sys2Proof/Machine/DriveOps.lean ====
section
/-!
DEFINITION. Machine/DriveOps.lean: what the drive channels, the Crown groups and the sense banks share: membership, grids,
state changes, soft stops, the load of a code, and the Loupe's model (R359 to R409, R415, R421, R423).
-/

namespace Sys2Proof.Machine

/-! ### Grids -/

/-- N_g, the sample period of drive group `g` (R363). -/
def State.grpPer (s : State) (g : Nat) : Nat := s.rd DRV_GRP_CFG.PERIOD g

/-- The group has a grid (R364). -/
def State.gridOn (s : State) (g : Nat) : Bool := s.on DRV_GRP_STAT.GRID_VALID g

/-- The channels of group `g`. -/
def grpChans (g : Nat) : List Nat := (List.range 8).map (8 * g + ·)

/-- The first drive granule boundary of channel `d`'s grid at or after `x` (R363). -/
def State.drvGran (s : State) (d x : Nat) : Nat :=
  let g := grpOf d
  let o := (s.grp g).o
  o + ceilTo (16 * s.grpPer g) (x - o)

/-- The AF runs on its fallback oscillator (R82). -/
def State.fallback (s : State) : Bool := s.on AF_STAT.FALLBACK 0

/-- The present tick as channel `d` counts it: on the fallback oscillator, its own sample count (R82, R374). -/
def State.drvNow (s : State) (d : Nat) : Nat := if s.fallback then (s.drv d).vt else s.epoch

/-- The first sample tick of channel `d` strictly after now (R368). -/
def State.nextSample (s : State) (d : Nat) : Nat :=
  let g := grpOf d
  let n := max 1 (s.grpPer g)
  if s.fallback then (s.drv d).vt + n
  else (s.grp g).o + ((s.epoch - (s.grp g).o) / n + 1) * n

/-- Sense bank `b` begins anew on a grid whose first sample tick is `first`, or without a grid (R415, R418): nothing is settled, and
its channels have no sample behind them. -/
def State.bankStart (s : State) (b : Nat) (first : Option Nat) : State :=
  (List.range 8).foldl (fun u i => u.modSense (8 * b + i) fun x => { x with m := 0, y := 0, ovr := false })
    ((s.wr SNS_BANK_STAT.SETTLED b 0).setBank b { first := first })

/-- The grid of sense bank `b` follows drive group `g` (R415). -/
def State.followGrid (s : State) (g : Nat) : State :=
  (List.range 8).foldl (fun t b =>
    if t.on SNS_BANK_CFG.EN b && t.on SNS_BANK_CFG.MODE b && t.rd SNS_BANK_CFG.GROUP b == g then
      let v := t.gridOn g && decide (1954 ≤ t.grpPer g)
      let t1 := (t.wr SNS_BANK_STAT.GRID_VALID b (flag v)).wr64 SNS_BANK_O_LO.O SNS_BANK_O_HI.O b (t.grp g).o
      if v == t.on SNS_BANK_STAT.GRID_VALID b then t1
      else t1.bankStart b (if v then some ((t.grp g).o + ceilTo (t.grpPer g) (t.epoch - (t.grp g).o)) else none)
    else t) s

/-- Group `g` after a channel's state or pending START has changed (R364): RUNNING, GRID_VALID and the fixed origin. -/
def State.settleGrp (s : State) (g : Nat) : State :=
  let n := (grpChans g).countP s.drvBusy
  let pend := (grpChans g).any fun d => (s.drv d).entry.isSome
  let s1 := (s.wr DRV_GRP_STAT.RUNNING g n).wr DRV_GRP_STAT.GRID_VALID g (flag (n != 0))
  let s2 := s1.modGrp g fun x => { x with fixed := n != 0 || pend }
  let s3 := if n ≠ 0 then s2.wr64 DRV_GRP_O_LO.O DRV_GRP_O_HI.O g (s2.grp g).o else s2
  s3.followGrid g

/-! ### Crown groups: membership and the states channels bring about (R420, R421, R423) -/

/-- The active MODE of group `k` is SINE. -/
def State.crownSine (s : State) (k : Nat) : Bool := s.rdA CROWN_CFG.MODE k == 1

/-- ND of group `k`. -/
def State.crownND (s : State) (k : Nat) : Nat := s.rdA CROWN_SIZE.ND k

/-- The channel and source that drive `j` of a SINE group names, when it is enabled. -/
def State.crownSdrv (s : State) (k j : Nat) : Option (Nat × Nat) :=
  if s.rdA CROWN_SDRV.EN (64 * k + j) = 1 then
    some (s.rdA CROWN_SDRV.CHAN (64 * k + j), s.rdA CROWN_SDRV.SRC (64 * k + j)) else none

/-- The drive outputs of group `k` that channel `d`'s sources name. -/
def State.crownOuts (s : State) (k d : Nat) : List Nat :=
  ([0, 1].filter fun x => (s.drvSrc d x).1 == 3 && (s.drvSrc d x).2 / 64 == k).map fun x => (s.drvSrc d x).2 % 64

/-- The channels of group `k` (R420). -/
def State.crownChans (s : State) (k : Nat) : List Nat :=
  if s.crownSine k then
    (List.range 64).filter fun d => (List.range 64).any fun j => (s.crownSdrv k j).map (·.1) == some d
  else (List.range 64).filter fun d => !(s.crownOuts k d).isEmpty

/-- The reference channel of group `k` (R421): drive channel 0 for a group that has no channel, whose boundary no rule names
(R57; DESIGN CHOICE, log 40). -/
def State.crownRef (s : State) (k : Nat) : Nat := (s.crownChans k).headD 0

/-- The weight of the group's ramps at tick `x`, with 23 fraction bits each: fade-in and stop taper (R423, R424). -/
def Crown.ramps (c : Crown) (x : Nat) : Int × Int :=
  (match c.fade with | some (t0, t) => 2 ^ 23 - taperW (x - t0) t | none => 2 ^ 23,
   match c.taper with | some (t0, t) => taperW (x - t0) t | none => 2 ^ 23)

/-- A value after the group's ramps. -/
def Crown.ramped (c : Crown) (v : Int) (x : Nat) : Int :=
  let (a, b) := c.ramps x
  roundDiv (v * a * b) (2 ^ 46)

/-- A state change of group `k` (R423): the state, its journal record, and the event's IRQ bit. -/
def State.crownTo (s : State) (k st code : Nat) (irq : Option Nat) : State :=
  let s1 := (s.wr CROWN_STAT.STATE k st).jrn 0x0B (64 + k) code [.word k, .word st, .word (s.rd CROWN_STAT.STOP_CAUSE k)]
  let s2 := match irq with | some b => s1.raise (pgCrown k) b | none => s1
  s2.settleRun

/-- TRIM of source `src` of channel `d` (R378). -/
def State.setTrim (s : State) (d src v : Nat) : State :=
  if src = 0 then s.wr DRV_TRIM_A.TRIM d v else s.wr DRV_TRIM_B.TRIM d v

/-- Group `k` in STOPPED (R423): its output has ended. -/
def State.crownStopped (s : State) (k cse : Nat) : State :=
  let s1 := (s.wr CROWN_STAT.STOP_CAUSE k cse).modCrown k fun c =>
    { c with start := none, stop := none, taper := none, resume := false, swaps := [], q := [] }
  (s1.wr CROWN_STAT.PHASE k 0).crownTo k 4 0x1005 (some 1)

/-- Group `k` after one of its channels has left ACTIVE (R423). -/
def State.crownFollow (s : State) (k : Nat) : State :=
  let chans := s.crownChans k
  let s1 := if s.crownState k = 1 ∧ (chans.any fun d => s.drvState d != 2) = true then
      (s.wr CROWN_STAT.STOP_CAUSE k 4).crownTo k 2 0x1006 (some 2) else s
  if (s1.crownState k = 2 ∨ s1.crownState k = 3) ∧ (chans.any s1.drvBusy) = false then
    s1.crownStopped k (if s1.crownState k = 3 then s1.rd CROWN_STAT.STOP_CAUSE k else 4)
  else s1

/-- The Crown groups that channel `d` belongs to follow its state. -/
def State.crownsFollow (s : State) (d : Nat) : State :=
  (List.range 8).foldl (fun t k => if (t.crownChans k).contains d then t.crownFollow k else t) s

/-! ### Channel states (R365 to R369) -/

/-- C as a sample (R361). -/
def State.drvC (s : State) (d : Nat) : Int := ((s.rdA DAC_CFG.CLEAR_CODE d : Int) - 0x80000) * 16

/-- T of a taper of channel `d` that starts now (R370). -/
def State.rampT (s : State) (d : Nat) : Nat := s.rdX DRV_RAMP.RAMP_US d * 500

/-- A new state of channel `d`, and what follows it in its group, its Crown groups and the device (R364, R423, R514). -/
def State.setDrvState (s : State) (d st : Nat) : State :=
  let s1 := (s.wr DRV_STAT.STATE d st).wr DAC_STAT.LDSRC_EFF d (if st = 2 then s.rdA DAC_CFG.LDSRC d else 0)
  let s2 := if st = 2 ∨ st = 3 then s1 else (s1.setTrim d 0 0x400000).setTrim d 1 0x400000
  ((s2.settleGrp (grpOf d)).crownsFollow d).settleRun

/-- A pending START cancelled (R366, R368, R404). -/
def State.cancelStart (s : State) (d cse : Nat) : State :=
  let s1 := s.modDrv d fun x => { x with entry := none, stops := [] }
  (((s1.wr DRV_STAT.START_PEND d 0).wr DRV_STAT.STOP_CAUSE d cse).settleGrp (grpOf d)).settleRun

/-- Channel `d` enters RAMPDOWN at T0 (R366, R368). -/
def State.rampDown (s : State) (d t0 cse : Nat) : State :=
  let s1 := s.modDrv d fun x =>
    { x with ramp := some (t0, s.rampT d), stops := [], fade := none, missing := false }
  let s2 := ((s1.wr DRV_STAT.STOP_CAUSE d cse).wr DRV_STAT.FADE d 0).wr64 DRV_STOP_AT_LO.TICK DRV_STOP_AT_HI.TICK d t0
  let s3 := (s2.raise (pgDrv d) (3 * (d % 8))).jrn 0x0A d 0x0E02 [.word d, .tick t0, .word cse]
  s3.setDrvState d 3

/-- Channel `d` enters CLEARED at `t` (R366, R404). -/
def State.drvCleared (s : State) (d t cse : Nat) : State :=
  let endSrc := fun (x : Src) => { x with taper := none, fed := false }
  let s1 := s.modDrv d fun x => { x with ramp := none, fade := none, stops := [], missing := false, move := none, under := none,
                                         a := endSrc x.a, b := endSrc x.b }
  let s2 := ((s1.wr DRV_STAT.STOP_CAUSE d cse).wr DRV_STAT.FADE d 0).wr DRV_STAT.SRC_TAPER d 0
  let s3 := (s2.raise (pgDrv d) (3 * (d % 8) + 1)).jrn 0x0A d 0x0E03 [.word d, .tick t, .word cse]
  s3.setDrvState d 4

/-- A soft stop of channel `d` with its cause and T0 (R368). -/
def State.softStop (s : State) (d cse t0 : Nat) : State :=
  let st := s.drvState d
  match (s.drv d).entry with
  | some e =>
    if cse = 3 ∨ t0 ≤ e then s.cancelStart d cse
    else s.modDrv d fun x => { x with stops := x.stops ++ [(t0, cse)] }
  | none =>
    if st = 2 then s.modDrv d fun x => { x with stops := x.stops ++ [(t0, cse)] }
    else s.inc DRV_CNT.STOP_IGNORED d

/-- The soft stop of SAFE or of the change to the fallback oscillator reaches every ACTIVE channel and every pending START
(R81, R82, R523), but for a channel that a stop of this cause has already reached. -/
def State.softStopAll (s : State) : State :=
  (List.range 64).foldl (fun t d =>
    if (t.drvState d = 2 ∧ (t.drv d).stops.all (fun p => p.2 != 3)) ∨ (t.drv d).entry.isSome then
      t.softStop d 3 (t.nextSample d)
    else t) s

/-- The first of the stops that are due at `x`: the earliest T0, and at one T0 the lower cause (R369). -/
def dueStop (stops : List (Nat × Nat)) (x : Nat) : Option (Nat × Nat) :=
  (stops.filter fun p => decide (p.1 ≤ x)).foldl (fun acc p => match acc with
    | none => some p
    | some q => if p.1 < q.1 ∨ (p.1 = q.1 ∧ p.2 < q.2) then some p else some q) none

/-- An ACTIVE channel with a stop due at `x` enters RAMPDOWN (R366). -/
def State.taperStartAt (s : State) (d x : Nat) : State :=
  match dueStop (s.drv d).stops x with
  | some (t0, cse) => if s.drvState d = 2 then s.rampDown d t0 cse else s
  | none => s

/-- A channel in RAMPDOWN whose taper is complete at sample tick `x` enters CLEARED (R366). -/
def State.taperEndAt (s : State) (d x : Nat) : State :=
  match (s.drv d).ramp with
  | some (t0, t) =>
    if s.drvState d = 3 ∧ t0 + t ≤ x then s.drvCleared d x (s.rd DRV_STAT.STOP_CAUSE d) else s
  | none => s

/-- Channel `d` enters CLAMPED, whatever it was doing (R399). -/
def State.clampNow (s : State) (d : Nat) : State :=
  let endSrc := fun (x : Src) => { x with taper := none, fed := false }
  let s1 := s.modDrv d fun x =>
    { x with entry := none, stops := [], fade := none, ramp := none, missing := false, move := none, seq := none,
             seqEnd := s.tb, a := endSrc x.a, b := endSrc x.b }
  let s2 := (((s1.wr DRV_STAT.START_PEND d 0).wr DRV_STAT.FADE d 0).wr DRV_STAT.SRC_TAPER d 0).wr DAC_STAT.CLAMP_ON d 1
  ((s2.wr DAC_STAT.UNCLAMP_BUSY d 0).wr DAC_STAT.RANGE_BUSY d 0).setDrvState d 0

/-- Every channel enters CLAMPED (R399). -/
def State.clampAll (s : State) : State :=
  (List.range 64).foldl (fun t d => if t.drvState d = 0 ∧ (t.drv d).seq.isNone then t else t.clampNow d) s

/-! ### The Loupe's model (R406) -/

/-- The ideal output of a code in a range, in 2^-16 Loupe LSB: 32 DAC LSB of range 0, or 16 of range 1, make one (R392,
R405). -/
def idealOut (range code : Nat) : Int := ((code : Int) - 0x80000) * (if range = 0 then 2048 else 4096)

/-- A first-order lag from `m0` toward `m1` after `k` ticks, with time constant `tau` ns (R406). -/
def lag (m0 m1 : Int) (k tau : Nat) : Int := m1 + roundDiv ((m0 - m1) * (expNeg (2 * k) tau : Int)) one120

/-- The model's output m of channel `d` at tick `x`, in 2^-16 Loupe LSB. -/
def State.loupeModel (s : State) (d x : Nat) : Int :=
  let c := s.drv d
  let tau := s.rd LOUPE_CH_TAU.TAU_NS d
  let tgt := idealOut (s.rd DAC_STAT.RANGE d) (s.rd DAC_STAT.DOUT d)
  match c.holdTo with
  | some h => if x ≤ h then lag c.m0 c.mIn (x - c.mAt) tau else lag (lag c.m0 c.mIn (h - c.mAt) tau) tgt (x - h) tau
  | none => lag c.m0 c.mIn (x - c.mAt) tau

/-! ### Loads (R395 to R398) -/

/-- DOUT takes a code at tick `x` (R395, R398). -/
def State.loadCode (s : State) (d code x : Nat) : State :=
  let old := s.rd DAC_STAT.DOUT d
  let thr := s.rdX DAC_GTHR.THR d
  let diff := ((code : Int) - (old : Int)).natAbs
  let major := code / 1024 != old / 1024 || decide (thr < diff) || thr == 0
  let m := s.loupeModel d x
  let inp := match (s.drv d).holdTo with
    | some h => if x < h then (s.drv d).mIn else idealOut (s.rd DAC_STAT.RANGE d) old
    | none => idealOut (s.rd DAC_STAT.RANGE d) old
  let s1 := s.wr DAC_STAT.DOUT d code
  let s2 := s1.modDrv d fun c =>
    { c with fresh := false, loadAt := x, m0 := m, mAt := x,
             mIn := if major then inp else idealOut (s.rd DAC_STAT.RANGE d) code,
             holdTo := if major then some (x + 75) else none }
  if major then s2.incW DAC_CNT.MAJOR d else s2

/-- A CLAMP sequence runs on channel `d` (R401). -/
def State.clampSeq (s : State) (d : Nat) : Bool := match (s.drv d).seq with | some q => q.kind == 2 | none => false

/-- A load strobe copies DIN into DOUT (R395, R397); a second one without a DIN write between them has no effect there. While CLR_N
forces it, DOUT takes CLEAR_CODE in every state but CLAMPED, a CLAMP sequence included (R404). -/
def State.load (s : State) (d code x : Nat) : State :=
  let v := if s.on DAC_STAT.CLR_FORCED d && s.drvState d != 0 then s.rdA DAC_CFG.CLEAR_CODE d else code
  if !(s.drv d).fresh && s.rd DAC_STAT.DOUT d == v then s.modDrv d fun c => { c with loadAt := x } else s.loadCode d v x

/-- The DAC code of a sample (R362). -/
def codeOf (y : Int) : Nat := (max 0 (min 0xFFFFF (0x80000 + roundDiv y 16))).toNat

/-- DIN takes a code whose ball tick is `x`; two writes without a load between them count (R394, R397). -/
def State.writeDin (s : State) (d code x : Nat) : State :=
  let s1 := if (s.drv d).fresh then s.inc DAC_CNT.OVERWRITE d else s
  s1.modDrv d fun c => { c with din0 := c.din, din := (code, x), fresh := true }

/-- The strobe source in effect: 0 SAMPLE, 1 BALL, 2 SOFTWARE (R395, R396). -/
def State.ldsrc (s : State) (d : Nat) : Nat := s.rd DAC_STAT.LDSRC_EFF d

end Sys2Proof.Machine
end

