-- ==== Sys2Proof/Machine/Drive.lean ====
section
/-!
DEFINITION. Machine/Drive.lean: drive synthesis (R359 to R391): the DDS and its tone sets, the sources, the sample, the
channel's states and commands.
-/

namespace Sys2Proof.Machine

/-! ### Tone sets (R383) -/

/-- Dword `n` of tone set `t`. -/
def State.tsetD (s : State) (t n : Nat) : Nat := s.afDword (0x00200000 + 32 * t + 4 * n)

def State.tsFStart (s : State) (t : Nat) : Nat := s.tsetD t 0 + 2 ^ 32 * bits (s.tsetD t 1) 0 4
def State.tsFEnd (s : State) (t : Nat) : Nat := s.tsetD t 2 + 2 ^ 32 * bits (s.tsetD t 1) 16 4
def State.tsWave (s : State) (t : Nat) : Nat := bits (s.tsetD t 1) 26 2
def State.tsLaw (s : State) (t : Nat) : Nat := bits (s.tsetD t 1) 24 2
def State.tsAEnd (s : State) (t : Nat) : Nat := bits (s.tsetD t 5) 0 24

/-- The dwords of a tone set are refused (R383): a reserved value, an amplitude above 1.0, a frequency above 1 MHz. -/
def tsetBad (d : List Nat) : Bool :=
  let x := nth d
  let d1 := x 1
  bits d1 28 3 != 0 || decide (1 < bits d1 26 2) || bits d1 24 2 == 3 || bits d1 20 4 != 0 || bits d1 4 12 != 0 ||
  bits (x 4) 24 8 != 0 || bits (x 5) 24 8 != 0 || bits (x 7) 16 16 != 0 || decide (0x800000 < x 4) ||
  decide (0x800000 < x 5) || decide (0xF42400000 < x 0 + 2 ^ 32 * bits d1 0 4) ||
  decide (0xF42400000 < x 2 + 2 ^ 32 * bits d1 16 4)

/-- Tone set `t` is in use (R384): an engine that records it is busy, or a DDS source runs it. -/
def State.tsetInUse (s : State) (t : Nat) : Bool :=
  ((List.range 512).any fun e => s.engBusy e && (s.eng e).tsets.contains t) ||
  (List.range 64).any fun d => s.drvBusy d && ([0, 1].any fun x => s.drvSrc d x == (2, t))

/-- An applied write to tone set `t` clears PROG_OK of every engine that records it (R384). -/
def State.tsetTouched (s : State) (t : Nat) : State :=
  (List.range 512).foldl (fun u e => if (u.eng e).tsets.contains t then u.wr ENG_STAT.PROG_OK e 0 else u) s

/-! ### The DDS (R376 to R382) -/

/-- FTW of a frequency of `f` units of 2^-16 Hz at period `n` (R376). -/
def ftwOf (f n : Nat) : Nat := (roundDiv (f * 2 ^ 32 * n : Nat) 500000000).toNat

/-- The tuning word in use for a frequency register (R381), and whether the limit acts. -/
def limitFtw (reg : Nat) : Nat × Bool :=
  if 9 * 2 ^ 64 < 20 * reg then ((roundDiv (9 * 2 ^ 48 : Nat) 20).toNat, true) else (reg / 2 ^ 16, false)

/-- The DDS takes the tuning word of its frequency register (R381). -/
def Dds.tuned (x : Dds) : Dds := { x with ftw := (limitFtw x.reg).1 }

/-- A frequency of `f` units, or that of the frequency register `reg`, as the ideal law of R379 takes it: times 2^48 N, in units of
2^-16 Hz. -/
def idealF (f n : Nat) : Nat := f * 2 ^ 48 * n
def idealReg (reg : Nat) : Nat := reg * 500000000

/-- A tone step begins on a DDS (R377, R379, R380), at period `n`: its first sample takes the start values. -/
def State.toneStart (s : State) (t n : Nat) (fromCur phaseReset : Bool) (x : Dds) : Dds :=
  let reg := if fromCur then x.reg else ftwOf (s.tsFStart t) n * 2 ^ 16
  let a0 := if fromCur then x.amp else bits (s.tsetD t 4) 0 24 * 2 ^ 16
  Dds.tuned { x with
    tset := some t, f0 := if fromCur then idealReg x.reg else idealF (s.tsFStart t) n, a0 := a0, k := 0, reg := reg, told := false
    fresh := true
    amp := if s.tsetD t 6 = 0 then s.tsAEnd t * 2 ^ 16 else a0
    p := if phaseReset then bits (s.tsetD t 7) 0 16 * 2 ^ 32 else x.p }

/-- The frequency register `k` samples into a step (R379): the law as the DDS steps it, up to the first sample at or past the ideal
crossing of F_END. -/
def State.lawReg (s : State) (t n k : Nat) (x : Dds) : Nat :=
  let fe := ftwOf (s.tsFEnd t) n * 2 ^ 16
  let ie := idealF (s.tsFEnd t) n
  let up := decide (x.f0 < ie)
  let rate := s.tsetD t 3
  if s.tsLaw t ≠ 0 ∧ (x.f0 = ie ∨ (x.k = 0 ∧ x.reg = fe)) then fe
  else match s.tsLaw t with
    | 1 =>
      if (x.f0.max ie - x.f0.min ie) * 500000000 ≤ rate * 2 ^ 48 * n * n * k then fe
      else
        let inc := (roundDiv (rate * 2 ^ 48 * n * n : Nat) 250000000000000000).toNat
        if up then x.reg + inc else x.reg - inc
    | 2 =>
      if x.f0 = 0 then 0
      else
        let den := 2 ^ 24 * 500000000
        let crossed : Bool :=
          if ie = 0 then false
          else if up then decide (ie * one120 ≤ x.f0 * pow2Q (rate * k * n) den)
          else decide (x.f0 * pow2Neg (rate * k * n) den ≤ ie * one120)
        if crossed then fe
        else
          let ratio := roundDiv (if up then pow2Q (rate * n) den else pow2Neg (rate * n) den : Nat) (2 ^ 57)
          (roundDiv (x.reg * ratio) (2 ^ 63)).toNat
    | _ => x.reg

/-- The amplitude, with 16 further fraction bits, `k` samples into a step (R380). -/
def State.lawAmp (s : State) (t n k : Nat) (x : Dds) : Nat :=
  let ae := s.tsAEnd t * 2 ^ 16
  let len := s.tsetD t 6 * 500
  if len ≤ k * n then ae else ((x.a0 : Int) + k * roundDiv (((ae : Int) - x.a0) * n) len).toNat

/-- P advances at the tuning word in use, after a sample as between TONE steps (R376, R377). -/
def Dds.next (x : Dds) : Dds := { x with p := (x.p + x.ftw) % 2 ^ 48 }

/-- A running step's law comes to the sample to be presented: the first has the start values (R379, R380). -/
def State.ddsLaw (s : State) (n : Nat) (x : Dds) : Dds :=
  match x.tset with
  | some t =>
    if x.fresh then { x with fresh := false }
    else Dds.tuned { x with k := x.k + 1, reg := s.lawReg t n (x.k + 1) x, amp := s.lawAmp t n (x.k + 1) x }
  | none => x

/-- The waveform value of a sine at phase φ (R378). -/
def sineAt (phi : Nat) : Int :=
  let q := phi / 2 ^ 46 % 4
  let pos0 := phi / 2 ^ 24 % 2 ^ 22
  let pos := if q % 2 = 1 then 2 ^ 22 - pos0 else pos0
  let i := pos / 1024
  let v := sineEntry i + roundDiv ((sineEntry (i + 1) - sineEntry i) * (pos % 1024 : Nat)) 1024
  if q < 2 then v else -v

/-- The waveform value of phase table `g` at phase φ for tick `x` (R385, R386). -/
def State.tableAt (s : State) (g x phi : Nat) : Int :=
  let n := s.grpPer g
  let b := s.tabBankAt (tabPt g) (512 * n) (s.grp g).o (16 * n) x []
  let act := b == s.tabActive (tabPt g)
  let lg := if act then s.rd PT_ACT_CFG.LOG2L g else s.rd PT_CFG.LOG2L g
  let interp := if act then s.on PT_ACT_CFG.INTERP g else s.on PT_CFG.INTERP g
  let i := phi / 2 ^ (48 - lg) % 2 ^ lg
  let e := fun (j : Nat) => signed 24 (s.tabEntry (tabPt g) b (j % 2 ^ lg))
  if interp then e i + roundDiv ((e (i + 1) - e i) * (phi / 2 ^ (38 - lg) % 1024 : Nat)) 1024 else e i

/-- PH_OFS of a source. -/
def State.phOfs (s : State) (d src : Nat) : Nat := if src = 0 then s.rdX DRV_SRC_A.PH_OFS d else s.rdX DRV_SRC_B.PH_OFS d

/-- TRIM in force of a source (R378). -/
def State.trimOf (s : State) (d src : Nat) : Nat := if src = 0 then s.rd DRV_TRIM_A.TRIM d else s.rd DRV_TRIM_B.TRIM d

/-- The contribution of a DDS that runs a tone set (R378). -/
def State.ddsValue (s : State) (d src x : Nat) (u : Dds) : Int :=
  match u.tset with
  | some t =>
    let phi := (u.p + s.phOfs d src * 2 ^ 32) % 2 ^ 48
    let v := if s.tsWave t = 1 then s.tableAt (grpOf d) x phi else sineAt phi
    sat24 (roundDiv (roundDiv u.amp (2 ^ 16) * v * s.trimOf d src) (2 ^ 45))
  | none => 0

/-! ### Sources (R359, R360, R372) -/

/-- What a source gives for a sample: its value before the taper, whether an entry was there, and how it stands after. -/
structure SrcOut where
  v : Int
  src : Src
  /-- The limit of R381 acts for the first time in the step. -/
  clamp : Bool := false
  deriving DecidableEq, Repr

/-- The DDS presents a sample of its tone set and goes on. -/
def State.ddsSample (s : State) (d src n x : Nat) (c : Src) (u0 : Dds) : SrcOut :=
  let u := s.ddsLaw n u0
  let v := s.ddsValue d src x u
  let lim := (limitFtw u.reg).2
  { v := v, src := { c with last := v, fed := true, dds := Dds.next { u with told := u.told || lim } }, clamp := lim && !u.told }

/-- A source of KIND ENGINE or CROWN without an entry for sample tick `x` (R360, R372): when its run has ended, its last value
tapers; while its run goes on, the last value stands. -/
def State.srcMissing (s : State) (d x : Nat) (c : Src) (ended : Bool) : SrcOut :=
  let dds := c.dds.next
  if ended then
    if c.fed then
      let old := match c.taper with
        | some (t0, t, h) => roundDiv (h * taperW (x - t0) t) (2 ^ 23)
        | none => 0
      { v := 0, src := { c with last := 0, fed := false, taper := some (x, s.rampT d, c.last + old), dds := dds } }
    else { v := 0, src := { c with last := 0, dds := dds } }
  else { v := c.last, src := { c with dds := dds } }

/-- The engine's start tick is known and is not after `x`. -/
def Eng.startedBy (g : Eng) (x : Nat) : Bool := match g.startD with | some t => decide (t ≤ x) | none => false

/-- The contribution of source `src` of channel `d` for sample tick `x`, before its taper (R359). -/
def State.srcSample (s : State) (d src x : Nat) (c : Src) : SrcOut :=
  let n := s.grpPer (grpOf d)
  let (kind, idx) := s.drvSrc d src
  match kind with
  | 1 =>
    if s.engDrive idx then
      let g := s.eng idx
      let st := s.engState idx
      let c := if g.startD = some x then { c with dds := { c.dds with p := 0, reg := 0, ftw := 0, amp := 0, tset := none, fresh := false } } else c
      match g.q.find? fun en => en.tick == x with
      | some en =>
        match en.tone with
        | some t => s.ddsSample d src n x c (if t.first then s.toneStart t.tset n t.fromCurrent t.phaseReset c.dds else c.dds)
        | none =>
          let v := if en.hold then c.last else signed 24 en.word
          { v := v, src := { c with last := v, fed := true, dds := c.dds.next } }
      | none => s.srcMissing d x c (!(1 ≤ st && st ≤ 4) || g.endsBy x || !g.startedBy x)
    else { v := 0, src := c }
  | 2 => s.ddsSample d src n x c (if c.dds.tset = some idx then c.dds else s.toneStart idx n true false c.dds)
  | 3 =>
    let k := idx / 64
    let u := s.crown k
    match u.q.find? fun p => p.1 == x with
    | some (_, ys) =>
      let v := u.ramped ((ys[idx % 64]?).getD 0) x
      { v := v, src := { c with last := v, fed := true, dds := c.dds.next } }
    | none => if s.crownSine k then { v := 0, src := c } else s.srcMissing d x c (!s.crownBusy k)
  | _ => { v := 0, src := c }

/-- The source's contribution with its taper's remainder (R372). -/
def Src.tapered (c : Src) (v : Int) (x : Nat) : Int :=
  match c.taper with
  | some (t0, t, h) => v + roundDiv (h * taperW (x - t0) t) (2 ^ 23)
  | none => v

/-- A taper that has ended is dropped. -/
def Src.settled (c : Src) (x : Nat) : Src :=
  match c.taper with
  | some (t0, t, _) => if t0 + t ≤ x then { c with taper := none } else c
  | none => c

/-! ### The sample (R361, R362) -/

/-- S of R361 before sat24, from the two contributions. -/
def State.drvSum (s : State) (d : Nat) (a b : Int) : Int :=
  roundDiv (signed 24 (s.rdX DRV_GAIN_A.GAIN d) * a + signed 24 (s.rdX DRV_GAIN_B.GAIN d) * b) (2 ^ 22)

/-- The value limited to the range from -l to l. -/
def clampTo (l : Nat) (z : Int) : Int := max (-(l : Int)) (min l z)

/-- Y of R361 for sample tick `x`: entry fade in ACTIVE, taper to C in RAMPDOWN. -/
def State.drvY (s : State) (d x : Nat) (sp : Int) : Int :=
  let c := s.drvC d
  if s.drvState d = 3 then
    match (s.drv d).ramp with
    | some (t0, t) => c + roundDiv ((sp - c) * taperW (x - t0) t) (2 ^ 23)
    | none => c
  else match (s.drv d).fade with
    | some (t0, t) => sp + roundDiv (c * taperW (x - t0) t) (2 ^ 23)
    | none => sp

/-- DRV_DDS_F in 2^-8 Hz (R388). -/
def ddsF (reg n : Nat) : Nat := (roundDiv (reg * 500000000 * 2 ^ 8 : Nat) (max 1 n * 2 ^ 64)).toNat

/-- The registers of a channel after a sample: present frequencies and amplitudes, SRC_TAPER, FADE. -/
def State.showDrv (s : State) (d x : Nat) : State :=
  let c := s.drv d
  let n := s.grpPer (grpOf d)
  let s1 := (s.wr DRV_DDS_F_A.F d (ddsF c.a.dds.reg n)).wr DRV_DDS_F_B.F d (ddsF c.b.dds.reg n)
  let s2 := (s1.wr DRV_DDS_A_A.A d (roundDiv c.a.dds.amp (2 ^ 16)).toNat).wr DRV_DDS_A_B.A d
    (roundDiv c.b.dds.amp (2 ^ 16)).toNat
  let s3 := s2.wr DRV_STAT.SRC_TAPER d (flag c.a.taper.isSome + 2 * flag c.b.taper.isSome)
  match c.fade with
  | some (t0, t) => if t0 + t ≤ x then (s3.modDrv d fun c => { c with fade := none }).wr DRV_STAT.FADE d 0 else s3
  | none => s3

/-- Source `src` of channel `d` is to feed sample tick `x` through the drive Bezel: its engine's run, or its Crown group's, goes on
there. -/
def State.srcFeeds (s : State) (d src x : Nat) : Bool :=
  let (kind, idx) := s.drvSrc d src
  match kind with
  | 1 => s.engDrive idx && s.engBusy idx && (s.eng idx).startedBy x && !(s.eng idx).endsBy x
  | 3 => s.crownBusy (idx / 64) && !s.crownSine (idx / 64) && decide ((s.crown (idx / 64)).ts ≤ x) &&
    (match (s.crown (idx / 64)).taper with | some (t0, t) => decide (x < t0 + t) | none => true)
  | _ => false

/-- The sample ticks of the entries that source `src` has in the drive Bezel (R99). -/
def State.srcTicks (s : State) (d src : Nat) : List Nat :=
  let (kind, idx) := s.drvSrc d src
  if kind = 1 then (s.eng idx).q.map (·.tick) else if kind = 3 then (s.crown (idx / 64)).q.map (·.1) else []

/-- FILL of source `src` at tick `t`, in ticks (R100), while it feeds the channel. -/
def State.drvFill (s : State) (d src t : Nat) : Option Nat :=
  if s.srcFeeds d src (t + 66) then
    some ((match (s.srcTicks d src).max? with | some x => x + s.grpPer (grpOf d) | none => 0) - (t + 10))
  else none

/-- The Bezel's fill at tick `t` is kept in DRV_BEZEL, in whole samples, and BEZEL_LOW raised at a crossing downward (R104, R387,
R388). -/
def State.drvBezel (s : State) (d t : Nat) : State :=
  let n := s.grpPer (grpOf d)
  match ([0, 1].filterMap fun i => s.drvFill d i t).min? with
  | some f =>
    let s1 := s.wr DRV_BEZEL.MIN_FILL d (min (s.rd DRV_BEZEL.MIN_FILL d) (f / max 1 n))
    let low := decide (f < s.rd AF_BEZEL_WARN.LOW_SMP 0 * n)
    let s2 := s1.modDrv d fun c => { c with ample := !low }
    if low && (s.drv d).ample then s2.raise pgAf 0 else s2
  | none => s.modDrv d fun c => { c with ample := false }

/-- The floor of the drive Bezel for sample tick `x` (R100, R106): where a source that feeds it has no entry there, the Bezel has fallen
below its floor. That is raised, counted and recorded once, and is a soft stop whose T0 is the sample tick (R368). -/
def State.drvFloor (s : State) (d x : Nat) : State :=
  let n := s.grpPer (grpOf d)
  if s.drvBusy d && [0, 1].any (fun i => s.srcFeeds d i x && !(s.srcTicks d i).contains x) && (s.drv d).under != some x then
    let s1 := s.modDrv d fun c => { c with under := some x }
    if (s.drv d).under = some (x - n) then s1
    else (((s1.inc DRV_BEZEL.UNDERRUN_COUNT d).raise pgAf 1).jrn 0x06 17 0x0402 [.word d, .tick x]).softStop d 4 x
  else s

/-- The sample of an ACTIVE or RAMPDOWN channel at tick `x` (R361). -/
def State.drvSample (s : State) (d x : Nat) : State :=
  let oa := s.srcSample d 0 x (s.drv d).a
  let ob := s.srcSample d 1 x (s.drv d).b
  let a := oa.src.tapered oa.v x
  let b := ob.src.tapered ob.v x
  let sum := s.drvSum d a b
  let lim := sat24 sum != sum
  let s1 := s.modDrv d fun c => { c with a := oa.src.settled x, b := ob.src.settled x, limited := lim }
  let s2 := if lim then s1.inc DRV_CNT.SAT d else s1
  let s3 := if lim && !(s.drv d).limited then
      (s2.raise (pgDrv d) (3 * (d % 8) + 2)) else s2
  let s4 := if oa.clamp || ob.clamp then s3.raise (pgDrv d) 24 else s3
  let y := s4.drvY d x (clampTo (s.rdX DRV_LIMIT.LIMIT d) (sat24 sum))
  let s5 := (s4.writeDin d (codeOf y) x).showDrv d x
  let strobe := s5.ldsrc d == 0 || (s5.ldsrc d == 2 && (s5.drv d).loadAt == x && s5.rd DAC_STAT.DOUT d != codeOf y)
  if strobe then s5.load d (codeOf y) x else s5

/-- The output of a channel that presents no sample of its sources (R365, R400 to R402): C, a move of C, or 0 V. -/
def State.idleY (s : State) (d x : Nat) : Int :=
  match (s.drv d).move with
  | some (y0, y1, t0, t) => y1 + roundDiv ((y0 - y1) * taperW (x - t0) t) (2 ^ 23)
  | none =>
    if s.drvState d = 0 || s.clampSeq d then 0 else s.drvC d

/-- The DIN write of such a channel. -/
def State.idleSample (s : State) (d x : Nat) : State :=
  let code := codeOf (s.idleY d x)
  let s1 := s.modDrv d fun c => match c.move with
    | some (_, _, t0, t) => if t0 + t ≤ x then { c with move := none } else c
    | none => c
  (s1.writeDin d code x).load d code x

/-- The sample tick that channel `d` comes to now, when now is one (R363, R394). -/
def State.sampleTick (s : State) (d : Nat) : Option Nat :=
  let g := grpOf d
  let n := max 1 (s.grpPer g)
  if s.gridOn g then
    if s.fallback && s.drvBusy d then some ((s.drv d).vt + n)
    else if decide ((s.grp g).o ≤ s.epoch) && (s.epoch - (s.grp g).o) % n == 0 && (s.drv d).vt != s.epoch then some s.epoch
    else none
  else if s.epoch % 16 = 0 ∧ (s.drv d).vt ≠ s.epoch then some s.epoch else none

/-- The marker balls of the engine on source A, when the channel is its marker source (R131). -/
def State.drvMarks (s : State) (d x : Nat) : State :=
  let (kind, e) := s.drvSrc d 0
  if kind = 1 ∧ (((s.feedChans e).filter fun c => c.2 == 0).map (·.1)).head? = some d then s.showMarks e x false else s

/-- The drive Bezel of channel `d` is watched at tick `t`: its fill, and its floor for the sample tick that lies 66 ticks on (R100,
R104, R106). -/
def State.drvWatch (s : State) (d t : Nat) : State :=
  let g := grpOf d
  let o := (s.grp g).o
  let s1 := if s.drvBusy d then s.drvBezel d t else s
  if s.gridOn g && !s.fallback && decide (o ≤ t + 66) && (t + 66 - o) % max 1 (s.grpPer g) == 0 then s1.drvFloor d (t + 66) else s1

/-- The stream windows of the engines that feed channel `d` are watched as its samples are presented (R233, R237). -/
def State.drvWindows (s : State) (d : Nat) : State :=
  [0, 1].foldl (fun t i => if (t.drvSrc d i).1 = 1 ∧ t.engDrive (t.drvSrc d i).2 = true then t.settleWins (t.drvSrc d i).2 else t) s

/-- DRIVE_SAMPLE_TICK (R361, R394): the drive output stage's tick. Its Bezel is watched at every tick at which the command comes; at a
sample tick the sample leaves, and a soft stop or a taper's end that falls due there comes first. -/
def execDriveSampleTick (d : Fin 64) (s : State) : Host.Outcome State Fault Refusal :=
  chipOnly s <|
    let s0 := s.drvWatch d.val s.epoch
    match s.sampleTick d.val with
    | some x =>
      let s1 := (((s0.drvFloor d.val x).taperStartAt d.val x).taperEndAt d.val x).modDrv d.val fun c => { c with vt := x }
      let s2 := if s1.drvBusy d.val then s1.drvSample d.val x else s1.idleSample d.val x
      (s2.drvMarks d.val x).drvWindows d.val
    | none => s0

/-! ### Channel commands (R364 to R369) -/

/-- The entry tick a START accepted now is given (R364). -/
def State.entryTick (s : State) (d : Nat) : Nat :=
  let g := grpOf d
  let a := s.epoch + s.h
  if (s.grp g).fixed then s.drvGran d a
  else if s.on DRV_GRP_CFG.MODE g then s.rd64 DRV_GRP_ORIGIN_LO.ORIGIN DRV_GRP_ORIGIN_HI.ORIGIN g
  else ceilTo 16 a

/-- CLR_N is asserted (R404). -/
def State.clrN (s : State) : Bool := s.on LOUPE_CLR_STAT.CLR_N_ASSERTED 0

/-- The refusal causes of START (R364, R367, R412). -/
def State.startCodes (s : State) (d : Nat) : List Nat :=
  cause (s.drvState d != 1 || !s.runnable || (s.drv d).entry.isSome) 0x0003 ++
  cause ([0, 1].any fun x => (s.drvSrc d x).1 == 1 && s.engBusy (s.drvSrc d x).2) 0x0004 ++
  cause (!(s.grp (grpOf d)).fixed && s.on DRV_GRP_CFG.MODE (grpOf d) && decide (s.entryTick d < s.epoch + s.h)) 0x0005 ++
  cause s.clrN 0x0011 ++ cause (s.drv d).seq.isSome 0x0013

/-- A START accepted now (R364). -/
def State.drvStart (s : State) (d : Nat) : State :=
  let e := s.entryTick d
  let g := grpOf d
  let s1 := s.modDrv d fun c => { c with entry := some e, stops := [] }
  let s2 := if (s.grp g).fixed then s1 else s1.modGrp g fun x => { x with fixed := true, o := e }
  s2.wr DRV_STAT.START_PEND d 1

/-- A write of DRV_CTRL (R366 to R368, R388). -/
def State.writeDrvCtrl (s : State) (d : Nat) (w : Wr) : State :=
  let v := bits w.val.toNat 0 4
  let n := ([bit v 0, bit v 1, bit v 2, bit v 3]).countP (· == true)
  let codes := cause (decide (1 < n)) 0x0001 ++ (if bit v 0 then s.startCodes d else []) ++
    (if bit v 2 then cause (s.drvState d != 4) 0x0003 ++ cause s.clrN 0x0011 else [])
  s.write w (pgDrv d) (0x120 + 0x100 * (d % 8)) codes fun s =>
    if bit v 0 then s.drvStart d
    else if bit v 1 then s.softStop d 1 (s.drvGran d (s.epoch + s.h))
    else if bit v 2 then s.setDrvState d 1
    else if bit v 3 then
      ((((s.wr DRV_CNT.SAT d 0).wr DRV_CNT.STOP_IGNORED d 0).wr DRV_BEZEL.UNDERRUN_COUNT d 0).wr DRV_BEZEL.MIN_FILL d
        0x7F).wr DAC_CNT.OVERWRITE d 0
    else s

/-- DRV_START (R364, R367): a write of DRV_CTRL with START 1. -/
def execDrvStart (d : Fin 64) (w : Wr) (s : State) : Host.Outcome State Fault Refusal :=
  chipOnly s (s.writeDrvCtrl d.val (orBits w 0x1))

/-- DRV_SOFT_STOP (R368): a write of DRV_CTRL with SOFT_STOP 1. -/
def execDrvSoftStop (d : Fin 64) (w : Wr) (s : State) : Host.Outcome State Fault Refusal :=
  chipOnly s (s.writeDrvCtrl d.val (orBits w 0x2))

/-- DRV_ACK (R366): a write of DRV_CTRL with ACK 1. -/
def execDrvAck (d : Fin 64) (w : Wr) (s : State) : Host.Outcome State Fault Refusal :=
  chipOnly s (s.writeDrvCtrl d.val (orBits w 0x4))

/-- DRV_CNT_CLR (R388): a write of DRV_CTRL with CNT_CLR 1. -/
def execDrvCntClr (d : Fin 64) (w : Wr) (s : State) : Host.Outcome State Fault Refusal :=
  chipOnly s (s.writeDrvCtrl d.val (orBits w 0x8))

/-- DRV_STOP_ARRIVE (R205, R368): the events delivered to the channel in this cycle are one soft stop of cause FIRE. -/
def execDrvStopArrive (d : Fin 64) (s : State) : Host.Outcome State Fault Refusal :=
  chipOnly s <|
    let (evs, t) := s.takeArrivals 4 d.val
    let ps := evs.map fun a => t.pendOf a.ev (t.drvGran d.val) 66
    match mergePends ps with
    | some p => ((t.lateEach 0x0A d.val evs ps).age { t := p.stamp }).softStop d.val 2 (t.drvGran d.val (max p.due p.notBefore))
    | none => t

/-- A source of KIND DDS takes up its tone set at the entry tick (R382); every other source starts from 0 (R360). -/
def State.srcEntry (s : State) (d src : Nat) : Src :=
  if (s.drvSrc d src).1 = 2 then
    { dds := s.toneStart (s.drvSrc d src).2 (s.grpPer (grpOf d)) false true {} }
  else {}

/-- Channel `d` enters ACTIVE at its entry tick `e` (R364, R366, R373). -/
def State.drvEnter (s : State) (d e : Nat) : State :=
  let s1 := s.modDrv d fun c =>
    { c with entry := none, fade := some (e, s.rampT d), ramp := none, limited := false, a := s.srcEntry d 0,
             b := s.srcEntry d 1, loadAt := e, missing := false, ample := false, move := none }
  let s2 := ((s1.wr DRV_STAT.START_PEND d 0).wr DRV_STAT.FADE d 1).wr64 DRV_ACTIVE_AT_LO.TICK DRV_ACTIVE_AT_HI.TICK d e
  (s2.jrn 0x0A d 0x0E01 [.word d, .tick e, .word (s.rd DRV_STAT.STOP_CAUSE d)]).setDrvState d 2

/-- DRV_ENTRY_TICK (R364): the channel's entry tick is reached. -/
def execDrvEntryTick (d : Fin 64) (s : State) : Host.Outcome State Fault Refusal :=
  chipOnly s <|
    match (s.drv d.val).entry with
    | some e => if e ≤ s.epoch ∧ s.drvState d.val = 1 then s.drvEnter d.val e else s
    | none => s

/-- DRV_TAPER_START (R366, R368): T0 is reached. -/
def execDrvTaperStart (d : Fin 64) (s : State) : Host.Outcome State Fault Refusal :=
  chipOnly s (s.taperStartAt d.val (s.drvNow d.val))

/-- DRV_TAPER_END (R366): the first sample tick at or after T0 + T is reached. -/
def execDrvTaperEnd (d : Fin 64) (s : State) : Host.Outcome State Fault Refusal :=
  chipOnly s <|
    match s.sampleTick d.val with
    | some x => s.taperEndAt d.val x
    | none => s

/-! ### Tone set registers (R383, R387) -/

/-- A write of TSET_IDX loads TSET_D0 to TSET_D7 from the tone set (R387). -/
def State.writeTsetIdx (s : State) (w : Wr) : State :=
  s.write w pgAf 0x060 [] fun s =>
    let t := bits w.val.toNat 0 10
    (List.range 8).foldl (fun u n => u.wr TSET_D.D n (s.tsetD t n)) (s.wr TSET_IDX.INDEX 0 t)

/-- TSET_IDX_WRITE (R387). -/
def execTsetIdxWrite (w : Wr) (s : State) : Host.Outcome State Fault Refusal := chipOnly s (s.writeTsetIdx w)

/-- A write of TSET_D7 stores the eight dwords to the tone set and advances INDEX (R383, R384, R387). -/
def State.writeTsetD7 (s : State) (w : Wr) : State :=
  let t := s.rd TSET_IDX.INDEX 0
  let ds := (List.range 7).map (fun n => s.rd TSET_D.D n) ++ [w.val.toNat]
  s.write w pgAf 0x084 (cause (tsetBad ds) 0x0001 ++ cause (s.tsetInUse t) 0x0004) fun s =>
    let s1 := (s.setAf (0x00200000 + 32 * t) (ds.flatMap dwordBytes)).tsetTouched t
    (s1.wr TSET_D.D 7 w.val.toNat).wr TSET_IDX.INDEX 0 (t + 1)

/-- TSET_D7_WRITE (R383). -/
def execTsetD7Write (w : Wr) (s : State) : Host.Outcome State Fault Refusal := chipMem s (s.writeTsetD7 w)

end Sys2Proof.Machine
end

