-- ==== Sys2Proof/Machine/Dac.lean ====
section
/-!
DEFINITION. Machine/Dac.lean: load strobes, the clamp, range changes, the hard clear and the Loupe (R392 to R413).
-/

namespace Sys2Proof.Machine

/-! ### DAC_CTL: clamp, unclamp, range, software strobe (R395, R400, R401, R403) -/

/-- The refusal causes of a DAC_CTL write of value `v` (R412). -/
def State.dacCodes (s : State) (d v : Nat) : List Nat :=
  let st := s.drvState d
  let pend := (s.drv d).entry.isSome
  let n := ([bit v 0, bit v 1, bit v 2, bit v 3]).countP (· == true)
  cause ((bit v 0 && st != 0) || (bit v 1 && !(st == 4 || (st == 1 && !pend))) || (bit v 2 && (st != 1 || pend))) 0x0010 ++
  cause ((bit v 0 || bit v 2) && s.clrN) 0x0011 ++
  cause (bit v 2 && s.rdA DAC_CFG.CLEAR_CODE d != 0x80000) 0x0012 ++
  cause ((bit v 0 || bit v 1 || bit v 2 || bit v 3) && (s.drv d).seq.isSome) 0x0013 ++
  cause (decide (1 < n)) 0x0014

/-- A sequence enters a phase that lasts `t` ticks. -/
def State.seqPhase (s : State) (d kind phase t range : Nat) : State :=
  s.modDrv d fun c => { c with seq := some { kind := kind, phase := phase, ends := s.tb + t, range := range } }

/-- A sequence ends. -/
def State.seqDone (s : State) (d : Nat) : State :=
  ((s.modDrv d fun c => { c with seq := none, seqEnd := s.tb }).wr DAC_STAT.UNCLAMP_BUSY d 0).wr DAC_STAT.RANGE_BUSY d 0

/-- UNCLAMP accepted (R400): the buffer powers up driving 0 V behind the clamp for 50 µs. -/
def State.dacUnclamp (s : State) (d : Nat) : State :=
  ((s.wr DAC_STAT.UNCLAMP_BUSY d 1).loadCode d 0x80000 s.epoch).seqPhase d 1 1 25000 0

/-- CLAMP accepted (R401): the output tapers from C to 0 V when C is not 0 V; then the clamp engages over 5 µs. -/
def State.dacClamp (s : State) (d : Nat) : State :=
  let s1 := s.wr DAC_STAT.UNCLAMP_BUSY d 1
  let y := s.idleY d s.epoch
  if s.drvC d = 0 ∧ y = 0 then s1.seqPhase d 2 2 2500 0
  else (s1.modDrv d fun c => { c with move := some (y, 0, s.epoch, s.rampT d) }).seqPhase d 2 1 (s.rampT d) 0

/-- RANGE_SET accepted (R403). -/
def State.dacRange (s : State) (d r : Nat) : State :=
  if s.rd DAC_STAT.RANGE d = r then s.raise (pgDrv d) 27
  else (s.wr DAC_STAT.RANGE_BUSY d 1).seqPhase d 3 1 2500 r

/-- A software strobe accepted (R395): it loads at a + H_LOCAL. -/
def State.dacStrobe (s : State) (d : Nat) : State :=
  s.modGrp (grpOf d) fun g => { g with sw := g.sw ++ [s.epoch + s.h] }

/-- A write of DAC_CTL (R410). -/
def State.writeDacCtl (s : State) (d : Nat) (w : Wr) : State :=
  let v := w.val.toNat
  s.write w (pgDrv d) (0x188 + 0x100 * (d % 8)) (s.dacCodes d v) fun s =>
    if bit v 0 then s.dacUnclamp d
    else if bit v 1 then s.dacClamp d
    else if bit v 2 then s.dacRange d (bits v 8 1)
    else if bit v 3 then s.dacStrobe d
    else s

/-- DAC_UNCLAMP (R400): a write of DAC_CTL with UNCLAMP 1. -/
def execDacUnclamp (d : Fin 64) (w : Wr) (s : State) : Host.Outcome State Fault Refusal :=
  chipOnly s (s.writeDacCtl d.val (orBits w 0x1))

/-- DAC_CLAMP (R401): a write of DAC_CTL with CLAMP 1. -/
def execDacClamp (d : Fin 64) (w : Wr) (s : State) : Host.Outcome State Fault Refusal :=
  chipOnly s (s.writeDacCtl d.val (orBits w 0x2))

/-- DAC_RANGE_SET (R403): a write of DAC_CTL with RANGE_SET 1. -/
def execDacRangeSet (d : Fin 64) (w : Wr) (s : State) : Host.Outcome State Fault Refusal :=
  chipOnly s (s.writeDacCtl d.val (orBits w 0x4))

/-- DAC_SW_LOAD (R395): a write of DAC_CTL with SW_LOAD 1. -/
def execDacSwLoad (d : Fin 64) (w : Wr) (s : State) : Host.Outcome State Fault Refusal :=
  chipOnly s (s.writeDacCtl d.val (orBits w 0x8))

/-- The sequence of channel `d`, of the given kind, whose phase has run its time. -/
def State.seqDue (s : State) (d kind : Nat) : Option Seq :=
  match (s.drv d).seq with
  | some q => if q.kind = kind ∧ q.ends ≤ s.tb then some q else none
  | none => none

/-- UNCLAMP_PHASE_END (R400): the clamp releases after 50 µs and over 5 µs; the channel enters IDLE; the output moves to C. The
clamp does not release while VDDA_HV is not valid (R399), and under CLR_N the output is C as soon as the channel is IDLE (R404). -/
def execUnclampPhaseEnd (d : Fin 64) (s : State) : Host.Outcome State Fault Refusal :=
  chipOnly s <|
    match s.seqDue d.val 1 with
    | some q =>
      if q.phase = 1 then (if s.on LOUPE_STAT.VDDA_HV_OK 0 then s.seqPhase d.val 1 2 2500 0 else s)
      else if q.phase = 2 then
        let s1 := ((s.wr DAC_STAT.CLAMP_ON d.val 0).raise (pgDrv d.val) 28).setDrvState d.val 1
        if s.drvC d.val = 0 then s1.seqDone d.val
        else if s.clrN then
          (s1.loadCode d.val (s.rdA DAC_CFG.CLEAR_CODE d.val) s.epoch).seqPhase d.val 1 3 (s.rampT d.val) 0
        else (s1.modDrv d.val fun c => { c with move := some (0, s.drvC d.val, s.epoch, s.rampT d.val) }).seqPhase d.val 1 3
          (s.rampT d.val) 0
      else s.seqDone d.val
    | none => s

/-- CLAMP_PHASE_END (R401): after the taper the clamp engages; then the channel enters CLAMPED. -/
def execClampPhaseEnd (d : Fin 64) (s : State) : Host.Outcome State Fault Refusal :=
  chipOnly s <|
    match s.seqDue d.val 2 with
    | some q =>
      if q.phase = 1 then (s.modDrv d.val fun c => { c with move := none }).seqPhase d.val 2 2 2500 0
      else ((s.wr DAC_STAT.CLAMP_ON d.val 1).seqDone d.val).setDrvState d.val 0
    | none => s

/-- RANGE_PHASE_END (R403): clamp engaged; range switched and settled; trims loaded; clamp released. -/
def execRangePhaseEnd (d : Fin 64) (s : State) : Host.Outcome State Fault Refusal :=
  chipOnly s <|
    match s.seqDue d.val 3 with
    | some q =>
      if q.phase = 1 then ((s.wr DAC_STAT.CLAMP_ON d.val 1).wr DAC_STAT.RANGE d.val q.range).seqPhase d.val 3 2 10000 q.range
      else if q.phase = 2 then (s.loadCode d.val 0x80000 s.epoch).seqPhase d.val 3 3 2500 q.range
      else ((s.wr DAC_STAT.CLAMP_ON d.val 0).seqDone d.val).raise (pgDrv d.val) 27
    | none => s

/-! ### Load strobes (R395, R396) -/

/-- The configured strobe source of an ACTIVE channel. -/
def State.cfgLdsrc (s : State) (d : Nat) : Nat := if s.drvState d = 2 then s.rdA DAC_CFG.LDSRC d else 0

/-- A strobe of source `src` reaches channel `d` with a code: the channel loads it, and returns to its source if it had left it
(R396). -/
def State.strobe (s : State) (d src code : Nat) : State :=
  if s.cfgLdsrc d = src then
    ((s.wr DAC_STAT.LDSRC_EFF d src).modDrv d fun c => { c with missing := false }).load d code s.epoch
  else s

/-- SW_LOAD_APPLY (R395): the software strobe of the group at a + H_LOCAL. -/
def execSwLoadApply (g : Fin 8) (s : State) : Host.Outcome State Fault Refusal :=
  chipOnly s <|
    if (s.grp g.val).sw.any (fun t => decide (t ≤ s.epoch)) then
      (grpChans g.val).foldl (fun t d => t.strobe d 2 (t.drv d).din.1)
        (s.modGrp g.val fun x => { x with sw := x.sw.filter fun t => decide (s.epoch < t) })
    else s

/-- LDAC_N_EDGE (R395): a falling edge of LDAC_N_g at sub-tick `sub`; one less than 8 ns after the edge before is ignored. -/
def execLdacNEdge (g : Fin 8) (sub : Fin 8) (s : State) : Host.Outcome State Fault Refusal :=
  chipOnly s <|
    let st := (s.edge sub.val).st
    let near := match (s.grp g.val).edge with
      | some p => decide (p ≤ st ∧ st < p + 32)
      | none => false
    s.modGrp g.val fun x => { x with edge := some st, ldac := if near then x.ldac else x.ldac ++ [s.epoch] }

/-- The last DIN whose ball tick is at or before `x` (R395). -/
def Drv.dinBy (c : Drv) (x : Nat) : Nat := if c.din.2 ≤ x then c.din.1 else c.din0.1

/-- LDAC_LOAD (R395): at s + 8 the edge stamped s loads the BALL channels of the group. -/
def execLdacLoad (g : Fin 8) (s : State) : Host.Outcome State Fault Refusal :=
  chipOnly s <|
    match (s.grp g.val).ldac.filter (fun t => decide (t + 8 ≤ s.epoch)) with
    | [] => s
    | e :: _ =>
      (grpChans g.val).foldl (fun t d => t.strobe d 1 ((t.drv d).dinBy e))
        (s.modGrp g.val fun x => { x with ldac := x.ldac.drop 1 })

/-- LDAC_MISSING (R396): 2·N_g ticks without a load; the channel loads as SAMPLE. -/
def execLdacMissing (d : Fin 64) (s : State) : Host.Outcome State Fault Refusal :=
  chipOnly s <|
    if s.cfgLdsrc d.val ≠ 0 ∧ (s.drv d.val).missing = false ∧
        (s.drv d.val).loadAt + 2 * s.grpPer (grpOf d.val) ≤ s.epoch then
      ((s.modDrv d.val fun c => { c with missing := true }).wr DAC_STAT.LDSRC_EFF d.val 0).raise (pgDrv d.val) 29
    else s

/-- TH_HOLD_END (R398): the track-and-hold tracks the settled string. -/
def execThHoldEnd (d : Fin 64) (s : State) : Host.Outcome State Fault Refusal :=
  chipOnly s <|
    match (s.drv d.val).holdTo with
    | some h =>
      if h ≤ s.epoch then
        s.modDrv d.val fun c => { c with
          m0 := s.loupeModel d.val h, mAt := h, holdTo := none
          mIn := idealOut (s.rd DAC_STAT.RANGE d.val) (s.rd DAC_STAT.DOUT d.val) }
      else s
    | none => s

/-! ### Hard clear and supply (R399, R404) -/

/-- CLR_N takes hold of channel `d` (R404): a move of C ends at C, but for the taper of a CLAMP sequence. -/
def State.clrForce (s : State) (d : Nat) : State :=
  let st := s.drvState d
  if st = 0 then s.wr DAC_STAT.CLR_FORCED d 1
  else
    let c := s.rdA DAC_CFG.CLEAR_CODE d
    let s1 := if (s.drv d).entry.isSome then s.cancelStart d 7 else s
    let s2 := ((s1.loadCode d c s.epoch).modDrv d fun x =>
      { x with din := (c, s.epoch), fresh := false, move := if s.clampSeq d then x.move else none }).wr
      DAC_STAT.CLR_FORCED d 1
    if st = 2 ∨ st = 3 then s2.drvCleared d s.epoch 7 else s2

/-- CLR_N_ASSERT (R404): CLR_N has been low for 40 ns. -/
def execClrNAssert (s : State) : Host.Outcome State Fault Refusal :=
  chipOnly s <|
    if s.clrN then s
    else
      let s1 := (List.range 64).foldl State.clrForce (s.wr LOUPE_CLR_STAT.CLR_N_ASSERTED 0 1)
      ((s1.inc LOUPE_CLR_STAT.HARD_CLEAR_COUNT 0).raise pgLoupe 2).jrn 0x0A 0xFFFF 0x0F05 [.tick s.epoch]

/-- CLR_N_RELEASE (R404): channels stay where they are. -/
def execClrNRelease (s : State) : Host.Outcome State Fault Refusal :=
  chipOnly s <|
    (List.range 64).foldl (fun t d => t.wr DAC_STAT.CLR_FORCED d 0) (s.wr LOUPE_CLR_STAT.CLR_N_ASSERTED 0 0)

/-- VDDA_HV_LOSS (R399): the clamps engage; DAC_SUPPLY_FAIL when a channel was out of CLAMPED. -/
def execVddaHvLoss (s : State) : Host.Outcome State Fault Refusal :=
  chipOnly s <|
    let s1 := s.wr LOUPE_STAT.VDDA_HV_OK 0 0
    if (List.range 64).any (fun d => s.drvState d != 0) then
      (s1.clampAll.raise pgLoupe 1).jrn 0x0A 0xFFFF 0x0F06 [.tick s.epoch]
    else s1.clampAll

/-- VDDA_HV_VALID (R399): the supply is above its threshold. -/
def execVddaHvValid (s : State) : Host.Outcome State Fault Refusal := chipOnly s (s.wr LOUPE_STAT.VDDA_HV_OK 0 1)

/-! ### The Loupe (R405 to R409) -/

/-- The next enabled non-DAC node after node `n`, in ascending order with wrapping (R405). -/
def State.nextNode (s : State) (n : Nat) : Option Nat :=
  (((List.range 34).map (64 + ·)).filter fun k => s.on LOUPE_NODE_CFG.EN (k - 64)).foldr
    (fun k acc => if n < k then some k else acc) none |>.orElse fun _ =>
  ((List.range 34).map (64 + ·)).find? fun k => s.on LOUPE_NODE_CFG.EN (k - 64)

/-- LOUPE_MISMATCH of a node (R407, R408): the event, the count, the record and the node's ACTION. -/
def State.loupeMiss (s : State) (n reading : Nat) (r : Int) : State :=
  let s1 := (s.produce (prodId 7 n) s.now 0).jrn 0x0A n 0x0F01 [.word n, .word reading, .word (unsigned 32 r)]
  if n < 64 then
    let s2 := (s1.inc LOUPE_CH_CNT.MISMATCH n).raise (pgDrv n) 26
    if s.on LOUPE_CH_CFG.ACTION n then s2.softStop n 6 (s.drvGran n (s.epoch + s.h)) else s2
  else
    let s2 := (s1.inc LOUPE_NODE_VAL.MISMATCH (n - 64)).raise pgLoupe 0
    if s.on LOUPE_NODE_CFG.ACTION (n - 64) then
      (List.range 64).foldl (fun t d =>
        if s.drvState d = 2 then t.softStop d 6 (s.drvGran d (s.epoch + s.h)) else t) s2
    else s2

/-- A compared read of node `n` (R407): the run counter, and the mismatch when it reaches MISS_N. -/
def State.loupeJudge (s : State) (n reading : Nat) (r : Int) (out : Bool) (missN : Nat) : State :=
  if out then
    let k := (s.node n).run + 1
    let s1 := if n < 64 then s.inc LOUPE_CH_CNT.OUT_TOL n else s
    let s2 := s1.setNode n { (s.node n) with run := k }
    if missN ≤ k ∧ (s.node n).told = false then (s2.setNode n { run := k, told := true }).loupeMiss n reading r else s2
  else s.setNode n {}

/-- A DAC node read (R406, R409). -/
def State.loupeDac (s : State) (d reading : Nat) : State :=
  let m := roundDiv (s.loupeModel d s.epoch) 65536
  let r := signed 16 reading - m
  let s1 := (s.wr LOUPE_CH_LAST.READING d reading).wr LOUPE_CH_LAST.RESID d (unsigned 16 (satInt 16 r))
  let st := s.drvState d
  let compared := s.on LOUPE_CH_CFG.EN d && st != 0 && (s.drv d).seq.isNone && decide ((s.drv d).seqEnd + 1000 ≤ s.tb)
  if compared then
    let s2 := if st = 1 ∨ st = 4 then
        let x := (s.drv d).drift + roundDiv (r * 2 ^ 24 - (s.drv d).drift) 4096
        (s1.modDrv d fun c => { c with drift := x }).wr LOUPE_CH_DRIFT.DRIFT d (unsigned 32 (roundDiv x 65536))
      else s1
    s2.loupeJudge d reading r (decide (s.rd LOUPE_CH_CFG.TOL d < r.natAbs)) (s.rd LOUPE_CH_CFG.MISS_N d)
  else s1

/-- The hottest die sensor in 1/64 °C (R522). -/
def State.hottest (s : State) : Int :=
  ((List.range 8).map fun i => signed 16 (s.rd LOUPE_NODE_VAL.READING (25 + i))).foldl max
    (signed 16 (s.rd LOUPE_NODE_VAL.READING 25))

/-- DEV_THERM follows a temperature reading: TEMP_MAX, DEV_THERM_WARN, and the time above SAFE_C (R522). -/
def State.thermal (s : State) : State :=
  let t := s.hottest
  let warn : Int := (s.rd DEV_THERM.WARN_C 0 : Nat) * 64
  let s1 := s.wr DEV_THERM.TEMP_MAX 0 (unsigned 8 (t / 64))
  let s2 := if warn < t ∧ s.loupe.warned = false then
      ((s1.modLoupe fun x => { x with warned := true }).raise pgDev 5).jrn 0x0E 0 0x1507 []
    else if t < warn - 320 then s1.modLoupe fun x => { x with warned := false }
    else s1
  s2.modLoupe fun x => { x with
    hot := if ((s.rd DEV_THERM.SAFE_C 0 : Nat) * 64 : Int) < t then some (x.hot.getD s.tb) else none }

/-- The temperature bin of the quad's die sensor (R88). -/
def State.quadBin (s : State) (q : Nat) : Nat :=
  let t := signed 16 (s.rd LOUPE_NODE_VAL.READING (25 + Config.quadSensor q % 8))
  if t < -1280 then 0 else if 6400 ≤ t then 7 else ((t + 2560) / 1280).toNat

/-- TBIN, the current bin, of the quads whose die sensor is node `n` (R88, R94). A change of it fails a run of the quad (R441). -/
def State.showBins (s : State) (n : Nat) : State :=
  (List.range 64).foldl (fun t q =>
    if 89 + Config.quadSensor q % 8 = n then
      let u := t.wr QPLL_STAT.TBIN q (s.quadBin q)
      match u.cal.run with
      | some r => if r.bin = s.quadBin q then u else u.calTaint 7 q
      | none => u
    else t) s

/-- A non-DAC node read (R406); a die sensor's reading moves the bins of its quads and the thermal checks. -/
def State.loupeOther (s : State) (n reading : Nat) : State :=
  let i := n - 64
  let v := signed 16 reading
  let s1 := (s.wr LOUPE_NODE_VAL.READING i reading).modLoupe fun x => { x with node := n }
  let s2 := if 89 ≤ n ∧ n ≤ 96 then (s1.showBins n).thermal else s1
  let out := decide (v < signed 16 (s.rd LOUPE_NODE_LIM.LO i)) || decide (signed 16 (s.rd LOUPE_NODE_LIM.HI i) ≤ v)
  s2.loupeJudge n reading v out (s.rd LOUPE_NODE_CFG.MISS_N i)

/-- LOUPE_READ (R405, R446): at a tick with E mod 125 = 0 the Loupe reads its slot's node and finds `reading` there. A LOUPE run
takes the odd slots, and its result is loaded at the next frame. -/
def execLoupeRead (reading : BitVec 16) (s : State) : Host.Outcome State Fault Refusal :=
  chipOnly s <|
    if s.on LOUPE_CTRL.EN 0 && s.epoch % 125 == 0 then
      let j := s.epoch / 125 % 128
      let s0 := if j = 127 then s.incW LOUPE_STAT.FRAMES 0 else s
      let s1 := match (if j = 0 then s0.calTake 4 0 else (none, s0)) with
        | (some ds, t) => t.modCal fun c => { c with work := Sparse.put [] c.work (calKey 4 0 0) ds }
        | (none, t) => t
      if j % 2 = 0 then s1.loupeDac (j / 2) reading.toNat
      else if s1.calHolds 4 0 then s1
      else match s.nextNode s.loupe.node with
        | some n => s1.loupeOther n reading.toNat
        | none => s1
    else s

/-- A write of DAC_TRIM_DATA (R410): the value goes to the trim ITEM names, and ITEM advances within its 11 bits. -/
def State.writeTrim (s : State) (d : Nat) (w : Wr) : State :=
  let item := s.rd DAC_TRIM_IDX.ITEM d
  s.write w (pgDrv d) (0x198 + 0x100 * (d % 8))
      (cause (!s.on LOCK.OPEN (pgDrv d)) 0x0101 ++ cause (decide (1025 < item)) 0x0014) fun s =>
    let v := bits w.val.toNat 0 16
    ((s.wr DAC_TRIM_DATA.VALUE d v).wr DAC_TRIM_IDX.ITEM d (item + 1)).modDrv d fun c =>
      { c with trims := Sparse.put 0 c.trims (2048 * s.rd DAC_TRIM_IDX.RANGE d + item) v }

/-- DAC_TRIM_DATA_WRITE (R393, R410). -/
def execDacTrimDataWrite (d : Fin 64) (w : Wr) (s : State) : Host.Outcome State Fault Refusal :=
  chipOnly s (s.writeTrim d.val w)

/-- A write of LOUPE_CTRL (R413). -/
def State.writeLoupeCtrl (s : State) (w : Wr) : State :=
  let v := w.val.toNat
  s.write w pgLoupe 0x040 [] fun s =>
    let s1 := s.wr LOUPE_CTRL.EN 0 (bits v 31 1)
    if bit v 0 then
      let s2 := (List.range 34).foldl (fun t i => t.wr LOUPE_NODE_VAL.MISMATCH i 0) s1
      let s3 := (List.range 64).foldl (fun t d => (t.wr LOUPE_CH_CNT.MISMATCH d 0).wr LOUPE_CH_CNT.OUT_TOL d 0) s2
      (s3.wr LOUPE_STAT.FRAMES 0 0).wr LOUPE_CLR_STAT.HARD_CLEAR_COUNT 0 0
    else s1

/-- LOUPE_CNT_CLR (R413): a write of LOUPE_CTRL with CNT_CLR 1. -/
def execLoupeCntClr (w : Wr) (s : State) : Host.Outcome State Fault Refusal :=
  chipOnly s (s.writeLoupeCtrl (orBits w 0x1))

end Sys2Proof.Machine
end

