-- ==== Sys2Proof/Machine/LaneOps.lean ====
section
/-!
DEFINITION. Machine/LaneOps.lean: a lane's state changes and what each brings with it (R311 to R332), shared by the lane's
commands, the quads, the clock and the power domains.
-/

namespace Sys2Proof.Machine

/-! ### Blocks and the scrambler (R311 to R313, R337) -/

/-- One step of the LFSR of R313, x^23 + x^21 + x^16 + x^8 + x^5 + x^2 + 1: its output bit leaves at the top and is added at
the taps (PRESUMED form, log entry 17). -/
def lfsrStep (r : Nat) : Nat :=
  if bit r 22 then (r * 2 % 2 ^ 23) ^^^ 0x210125 else r * 2

/-- `n` steps of the LFSR: the output bits, first in bit 0, and the register after. -/
def lfsrRun : Nat → Nat → Nat × Nat
  | 0, r => (0, r)
  | n + 1, r =>
    let (b, r') := lfsrRun n (lfsrStep r)
    (bits r 22 1 + 2 * b, r')

/-- The seed of R313 and R337. -/
def lfsrSeed : Nat := 0x7FFFFF

/-- Byte `k` of a block's payload. -/
def pbyte (p k : Nat) : Nat := bits p (8 * k) 8

/-- A header error (R311). -/
def headerBad (h : Nat) : Bool := !(bits h 2 2 == 1 || (bits h 2 2 == 2 && bits h 0 2 == 0))

/-! ### Places -/

/-- The Facet and the quad of a lane. -/
def laneFacet (l : Nat) : Nat := l / 8
def quadOf (l : Nat) : Nat := l / 4

/-- Offset `o` of lane `l`'s block on its page (R333). -/
def laneOff (l o : Nat) : Nat := 0x400 * (l % 4) + o

/-- IRQ bit `n` of lane `l` raised (R334). -/
def State.raiseLane (s : State) (l n : Nat) : State := s.raise (pgLane l) (8 * (l % 4) + n)

/-- The lane runs GLP1. -/
def State.glp1 (s : State) (l : Nat) : Bool := s.rd LANE_STAT.VER l == 1

/-- Ticks per word, and per block, of the lane in SERVICE (R310). -/
def State.laneWord (s : State) (l : Nat) : Nat := if s.glp1 l then 2 else 1
def State.laneBlock (s : State) (l : Nat) : Nat := 4 * s.laneWord l

/-- The first outbound block boundary strictly after `t` (R321). -/
def State.blockAfter (s : State) (l t : Nat) : Nat := (t / s.laneBlock l + 1) * s.laneBlock l

/-- What keeps a lane out of DARK (R321, R521): the device state, EN, the power domains of its Facet and quad, the quad LOCKED; calibration may hold
it in DARK. -/
def State.lanePowered (s : State) (l : Nat) : Bool :=
  decide (5 ≤ s.dev) && s.on LANE_CTRL.EN l && s.domOn (laneFacet l) && s.domOn (34 + quadOf l) && !(s.lphy l).calHold

/-- The quad of the lane is LOCKED (R84). -/
def State.quadLocked (s : State) (l : Nat) : Bool := s.rd QPLL_STAT.STATE (quadOf l) == 2

/-! ### Outbound blocks (R311, R313, R320, R331, R337 to R341) -/

/-- A block leaves the lane at `x` (R311, R312, R331): H[0] first, inverted by TX_POL, TX_DESKEW after the tick. -/
def State.sendWire (s : State) (l x h payload : Nat) : State :=
  let u := h + 16 * payload
  s.emit (.block l x (s.rdAt LANE_CFG.TX_DESKEW l x) (if s.rdAt LANE_CFG.TX_POL l x = 1 then 2 ^ 132 - 1 - u else u))

/-- The 128 bits of a payload given as bytes from P0 on; the bytes not given are 0 (R338). -/
def payloadOf (bs : List Nat) : Nat := (List.range 16).foldl (fun acc k => acc + nth bs k * 2 ^ (8 * k)) 0

/-- A control block leaves the lane at `x` (R311, R337, R338): its payload is scrambled from the seed. -/
def State.sendControl (s : State) (l x : Nat) (bs : List Nat) : State :=
  s.sendWire l x 8 (payloadOf bs ^^^ (lfsrRun 128 lfsrSeed).1)

/-- A control block waits for its turn to be sent. -/
def State.queueControl (s : State) (l : Nat) (bs : List Nat) : State := s.modLphy l fun p => { p with tx := p.tx ++ [bs] }

/-- The same control block `n` times. -/
def State.queueMany (s : State) (n l : Nat) (bs : List Nat) : State :=
  s.modLphy l fun p => { p with tx := p.tx ++ List.replicate n bs }

/-- The outbound side starts anew, with blocks of `rate` ticks and nothing waiting. -/
def State.txReset (s : State) (l rate : Nat) : State := s.modLphy l fun p => { p with tx := [], rate := rate, req := none }

/-- The lane's own eye meets its criteria, as last measured (R324, R339). -/
def State.eyeOk (s : State) (l : Nat) : Bool :=
  decide (s.rd LANE_EYE_MIN.H_MIN l ≤ s.rd LANE_EYE.HEIGHT l) && decide (s.rd LANE_EYE_MIN.W_MIN l ≤ s.rd LANE_EYE.WIDTH l)

/-- The eye has held its criteria for `n` ticks without interruption (R324). -/
def State.eyeHeld (s : State) (l n : Nat) : Bool :=
  s.eyeOk l && (match (s.lphy l).eyeFrom with | some t => decide (t + n ≤ s.tb) | none => false)

/-- The lane's TRAIN block (R338, R339, R341): RDY, and the answer to the partner's last request. -/
def State.trainBlock (s : State) (l : Nat) : List Nat :=
  [0x02, 16 * flag (s.eyeOk l) + 32 * flag (s.lphy l).nak, 0, (s.lphy l).ack]

/-- The block that the lane's state sends when no other waits (R320, R339). -/
def State.fillBlock (s : State) (l : Nat) : Option (List Nat) :=
  match s.laneState l with
  | 2 => some [0x01, (s.lphy l).offer, (s.lphy l).sel]
  | 3 => some (s.trainBlock l)
  | 4 => some [0x06]
  | 6 => some [0x08, 16 * flag (s.eyeOk l)]
  | _ => none

/-- A tap after a request (R315, R341): 0 hold, 1 up, 2 down; none when it would leave its range. -/
def tapAfter (v req hi : Nat) : Option Nat :=
  match req with
  | 1 => if v < hi then some (v + 1) else none
  | 2 => if 0 < v then some (v - 1) else none
  | _ => some v

/-- At an outbound block boundary the partner's request is applied, or refused with NAK, and answered (R315, R341): in RETRAIN by
a TRAIN block of its own. -/
def State.serveTap (s : State) (l : Nat) : State :=
  match (s.lphy l).req with
  | some (pre, post, seq) =>
    let r := match tapAfter (s.rd LANE_EQ_TX.CPRE l) pre 7, tapAfter (s.rd LANE_EQ_TX.CPOST l) post 15 with
      | some a, some b => if pre ≠ 0 ∧ post ≠ 0 then none else some (a, b)
      | _, _ => none
    let s1 := s.modLphy l fun p => { p with req := none, ack := seq, nak := r.isNone }
    let s2 := match r with
      | some (a, b) => ((s1.wr LANE_EQ_TX.CPRE l a).wr LANE_EQ_TX.CPOST l b).wr LANE_EQ_TX.CMAIN l (32 - a - b)
      | none => s1
    if s.laneState l = 6 then s2.queueControl l (s2.trainBlock l) else s2
  | none => s

/-! ### Engines that feed the lane -/

/-- The engines the lane names (R300): A, then B. -/
def State.laneEngs (s : State) (l : Nat) : List Nat :=
  (if s.rdA LANE_SRC.A_EN l = 1 then [16 * laneFacet l + s.rdA LANE_SRC.ENG_A l] else []) ++
  (if s.rdA LANE_SRC.B_EN l = 1 then [16 * laneFacet l + s.rdA LANE_SRC.ENG_B l] else [])

/-- LANE_LOSS PARK (R120): the last lane of an engine's feed set has left SERVICE at `t`, in a run that has been served. -/
def State.lanesLost (s : State) (l t : Nat) : State :=
  (s.laneEngs l).foldl (fun u e =>
    if u.rdA ENG_CFG.LANE_LOSS e = 1 ∧ (u.engState e = 2 ∨ u.engState e = 3) ∧ (u.eng e).served = true ∧
        u.feedServed e = false then
      u.planStop e (u.engDPFrom e (t + u.h)) 4
    else u) s

/-- A lane of the feed set enters SERVICE (R117, R120): running engines have been served; a busy engine of the other class is
told. -/
def State.lanesFound (s : State) (l : Nat) : State :=
  (s.laneEngs l).foldl (fun u e =>
    let u1 := if 2 ≤ u.engState e ∧ u.engState e ≤ 4 then u.modEng e fun g => { g with served := true } else u
    if u1.engBusy e && !u1.classMatch e l then u1.raiseEng e 5 else u1) s

/-! ### Captures of the compare block (R355) -/

/-- The IRQ bit `n` of local lane `l` raised on its CMP page. -/
def State.raiseCmp (s : State) (l n : Nat) : State := s.raise (pgCmp (laneFacet l)) (3 * (l % 8) + n)

/-- A capture ends. -/
def State.captureEnd (s : State) (l : Nat) (short : Bool) : State :=
  if s.on CMP_CAP_CTL.ACTIVE l then
    let s1 := ((s.wr CMP_CAP_CTL.ACTIVE l 0).modCmpl l fun c => { c with cap := none, sent := false }).raiseCmp l 1
    if short then s1.wr CMP_CAP_CTL.SHORT l 1 else s1
  else s

/-! ### State changes (R320, R321, R332) -/

/-- The lane's state set, with its Fire event (R332). -/
def State.laneTo (s : State) (l st : Nat) : State :=
  let s1 := (s.wr LANE_STAT.STATE l st).wr LANE_STAT.ADMIT_WAIT l 0
  let s2 := s1.modLphy l fun p => { p with since := s.tb, leave := none, entry := none }
  s2.produce (prodId 0xB l) s2.now 0

/-- Block lock is sought anew: the receiver is off or changes its rate. -/
def State.dropLock (s : State) (l : Nat) : State :=
  (s.wr LANE_STAT.BLOCK_LOCK l 0).modLphy l fun p => { p with okRun := 0, bad := [] }

/-- The equaliser's registers take a state (R315, R316). -/
def State.showEq (s : State) (l : Nat) (q : EqState) : State :=
  let d := fun i => nth q.dfe i
  let s1 := ((s.wr LANE_EQ_TX.CPRE l q.cpre).wr LANE_EQ_TX.CPOST l q.cpost).wr LANE_EQ_TX.CMAIN l (32 - q.cpre - q.cpost)
  let s2 := (s1.wr LANE_EQ_RX.CTLE l q.ctle).wr LANE_EQ_RX.DFE1 l (d 0)
  let s3 := (((s2.wr LANE_DFE_A.DFE2 l (d 1)).wr LANE_DFE_A.DFE3 l (d 2)).wr LANE_DFE_A.DFE4 l (d 3)).wr LANE_DFE_A.DFE5 l (d 4)
  ((s3.wr LANE_DFE_B.DFE6 l (d 5)).wr LANE_DFE_B.DFE7 l (d 6)).wr LANE_DFE_B.DFE8 l (d 7)

/-- DFE tap `i` (1 to 8) as its register holds it. -/
def dfeFld (i : Nat) : Fld :=
  match i with
  | 1 => LANE_EQ_RX.DFE1
  | 2 => LANE_DFE_A.DFE2
  | 3 => LANE_DFE_A.DFE3
  | 4 => LANE_DFE_A.DFE4
  | 5 => LANE_DFE_A.DFE5
  | 6 => LANE_DFE_B.DFE6
  | 7 => LANE_DFE_B.DFE7
  | _ => LANE_DFE_B.DFE8

/-- The equaliser state in the registers, with a CDR phase. -/
def State.eqNow (s : State) (l cdr : Nat) : EqState :=
  { cpre := s.rd LANE_EQ_TX.CPRE l, cpost := s.rd LANE_EQ_TX.CPOST l, ctle := s.rd LANE_EQ_RX.CTLE l,
    dfe := (List.range 8).map fun i => s.rd (dfeFld (i + 1)) l, cdr := cdr }

/-- The stored equaliser state goes (R319). -/
def State.clearEq (s : State) (l : Nat) : State :=
  (s.wr LANE_STAT.EQ_VALID l 0).modLphy l fun p => { p with stored := none, storedAt := none }

/-- Entry into SEARCH (R319, R322): the first detect starts at once. -/
def State.enterSearch (s : State) (l : Nat) : State :=
  let s1 := (((s.laneTo l 1).dropLock l).clearEq l).wr LANE_STAT.VER l 0
  s1.modLphy l fun p => { p with detFrom := some s.tb, attempt := s.tb, confirm := false, fromQuad := false }

/-- Entry into NEGOTIATE (R323, R339): the lane offers its versions. -/
def State.enterNegotiate (s : State) (l : Nat) : State :=
  let offer := s.rdA LANE_CFG.VER_MASK l
  let s1 := ((s.laneTo l 2).dropLock l).modLphy l fun p =>
    { p with detFrom := none, offer := offer, vers := 0, sel := 0, agree := 0, toTrain := none }
  s1.txReset l 8

/-- Entry into TRAIN with the version agreed (R315, R316, R324). -/
def State.enterTrain (s : State) (l ver : Nat) : State :=
  let s1 := (((s.laneTo l 3).wr LANE_STAT.VER l ver).dropLock l).showEq l { (s.lphy l).seed with cpre := 0, cpost := 4 }
  (s1.txReset l (s1.laneBlock l)).modLphy l fun p =>
    { p with rdy := false, ack := 0, nak := false, dfeAt := [], ctleAt := none, steps := [], barred := [], eyeAt := none,
             eyeFrom := none }

/-- A probe sent (R325). -/
def State.sendProbe (s : State) (l : Nat) : State :=
  let n := (s.lphy l).probe
  (s.modLphy l fun p => { p with probe := (n + 1) % 65536, asked := p.asked ++ [n] }).queueControl l [0x03, n % 256, n / 256]

/-- A round of eight probes (R325). -/
def State.sendRound (s : State) (l : Nat) : State :=
  (List.range 8).foldl (fun t _ => t.sendProbe l) (s.modLphy l fun p => { p with asked := [], rtts := [] })

/-- Entry into ALIGN (R325): the first round of probes. -/
def State.enterAlign (s : State) (l : Nat) : State :=
  let s1 := (s.laneTo l 4).modLphy l fun p => { p with round := 0, agreed := false, caps := false }
  (s1.txReset l (s1.laneBlock l)).sendRound l

/-- Entry into RETRAIN (R326, R334): the stored equaliser state is loaded. -/
def State.enterRetrain (s : State) (l : Nat) : State :=
  let q := ((s.lphy l).stored).getD {}
  let s1 := ((((s.laneTo l 6).dropLock l).showEq l q).inc LANE_CNT.RETRAINS l).raiseLane l 2
  (s1.txReset l (s1.laneBlock l)).modLphy l fun p =>
    { p with rdy := false, asked := [], rtts := [], fromQuad := false, eyeAt := none, eyeFrom := none }

/-- Entry into DARK. -/
def State.enterDark (s : State) (l : Nat) (quad : Bool) : State :=
  let s1 := ((s.laneTo l 0).dropLock l).wr LANE_STAT.SIG_DET l 0
  (s1.txReset l 8).modLphy l fun p => { p with detFrom := none, fromQuad := quad }

/-- The reason of an ABORT block for a cause (R338). -/
def abortReason (cse : Nat) : Nat :=
  if cse = 8 ∨ cse = 10 ∨ cse = 11 ∨ cse = 12 then 1 else if cse = 9 then 2 else 3

/-- The lane leaves its state for `st` (0 DARK, 1 SEARCH, 6 RETRAIN) with a cause: the cause, the record and the event of the
departure (R321, R332, R334), the ABORT blocks (R340), and what the engines and the compare block see of it. -/
def State.laneOut (s : State) (l st cse : Nat) : State :=
  let old := s.laneState l
  let s1 := s.wr LANE_STAT.CAUSE l cse
  let s2 :=
    if old = 5 then
      if st = 6 then s1.jrn 0x03 l 0x0C03 [.word cse] else (s1.raiseLane l 1).jrn 0x03 l 0x0C02 [.word cse]
    else if st = 1 ∧ 2 ≤ old then (s1.raiseLane l 3).jrn 0x03 l 0x0C04 [.word cse]
    else s1
  let s3 := if st = 1 ∧ 2 ≤ old ∧ old ≠ 5 ∧ cse ≠ 3 then
      (if cse = 9 then (s2.txReset l 8).queueMany 16 l [0x01, (s.lphy l).offer, 0xFF]
        else s2.txReset l (s.lphy l).rate).queueMany 16 l [0x0F, abortReason cse]
    else s2.txReset l (s.lphy l).rate
  let s4 := if st = 0 then s3.enterDark l (cse == 2 && (old == 5 || old == 6)) else if st = 1 then s3.enterSearch l
    else s3.enterRetrain l
  if old = 5 then
    ((s4.captureEnd l true).calTaint 8 l).lanesLost l s.epoch
  else s4

/-- The place in the table of R321 of a row that leaves SERVICE for `st` with a cause. -/
def leaveRow (st cse : Nat) : Nat :=
  match st, cse with
  | 1, 3 => 0
  | 1, _ => 1
  | _, c => c

/-- A condition of R321 takes the lane to `st`: from SERVICE at the next block boundary (the first such condition stands, and
among those of one tick the highest row), else at once. -/
def State.laneGo (s : State) (l st cse : Nat) : State :=
  let go := s.modLphy l fun p => { p with leave := some (s.blockAfter l s.epoch, st, cse), leaveAt := s.tb }
  if s.laneState l = 5 then
    match (s.lphy l).leave with
    | some (_, st', cse') => if (s.lphy l).leaveAt = s.tb ∧ leaveRow st cse < leaveRow st' cse' then go else s
    | none => go
  else s.laneOut l st cse

/-- DARK, in the tick of its cause (R321, R85). -/
def State.laneDark (s : State) (l cse : Nat) : State :=
  if s.laneState l = 0 then s else s.laneOut l 0 cse

/-- A lane in DARK leaves it when nothing keeps it there (R321): RETRAIN after a quad's unlock with a stored state, else
SEARCH. -/
def State.laneWake (s : State) (l : Nat) : State :=
  if s.laneState l = 0 ∧ s.lanePowered l = true ∧ s.quadLocked l = true then
    if (s.lphy l).fromQuad && s.on LANE_STAT.EQ_VALID l then s.enterRetrain l else s.enterSearch l
  else s

/-! ### Joining the epoch (R327, R328) -/

/-- The bank of the lane's template in force at ball tick `x` (R303). -/
def State.laneBank (s : State) (l x : Nat) : Nat := s.tabBankAt (tabLane l) 1024 0 (s.laneGran l) x []

/-- The tick tag of the granule that starts at `d` (R342). -/
def tickTag (d : Nat) : Nat := bits d 4 16

/-- The alignment or the retrain is complete at `r` (R328): the entry tick is fixed. -/
def State.laneJoin (s : State) (l r : Nat) : State :=
  (s.wr LANE_STAT.ADMIT_WAIT l 0).modLphy l fun p => { p with entry := some (ceilTo (s.laneGran l) (r + s.laneBlock l)) }

/-- ALIGN_START for the entry tick `d` (R328, R338, R342): the tag of the first granule, the active bank and its mask. -/
def State.joinBlock (s : State) (l d : Nat) : List Nat :=
  let b := s.laneBank l d
  let m := s.tabEntry (tabLane l) b 9
  let t := tickTag d
  [0x07, t % 256, t / 256, b, m % 256, m / 256 % 256, m / 65536 % 256, m / 16777216 % 256]

/-- The partner identifier the lane has read (R325). -/
def State.partnerId (s : State) (l : Nat) : Nat := s.rd64 LANE_PARTNER_ID_LO.ID LANE_PARTNER_ID_HI.ID l

/-- Alignment is complete once the round trip is agreed, CAPS received and the lane's own CAPS sent (R327, R339). -/
def State.alignDone (s : State) (l : Nat) : State :=
  let p := s.lphy l
  if s.laneState l = 4 ∧ p.agreed = true ∧ p.caps = true ∧ p.tx = [] ∧ p.entry.isNone ∧ s.on LANE_STAT.ADMIT_WAIT l = false then
    let s1 := if p.held = some (s.partnerId l) then s else s.raiseLane l 5
    if s.rdA LANE_CFG.ATTACH l = 0 then s1.laneJoin l s.epoch
    else (s1.wr LANE_STAT.ADMIT_WAIT l 1).raiseLane l 4
  else s

/-- The agreed rate is taken up after 16 blocks from the agreement (R339). -/
def State.settleVersion (s : State) (l : Nat) : State :=
  match (s.lphy l).toTrain with
  | some t =>
    if s.laneState l = 2 ∧ t ≤ s.tb then
      (s.modLphy l fun p => { p with toTrain := none }).enterTrain l (s.lphy l).sel
    else s
  | none => s

/-- The outbound block boundary `x` outside SERVICE (R320, R328, R339): ALIGN_START in the last block before the entry tick,
else the oldest block that waits, else the block of the state. The blocks that end an attempt go out in SEARCH (R340). -/
def State.controlOut (s : State) (l x : Nat) : State :=
  if x % (s.lphy l).rate = 0 ∧ s.laneState l ≠ 0 ∧ s.laneState l ≠ 5 then
    let s1 := s.serveTap l
    let p := s1.lphy l
    match p.entry with
    | some d => s1.sendControl l x (if d = x + p.rate then s1.joinBlock l d else (s1.fillBlock l).getD [])
    | none =>
      match p.tx with
      | b :: r => ((s1.modLphy l fun p => { p with tx := r }).sendControl l x b).alignDone l
      | [] => match s1.fillBlock l with
        | some b => s1.sendControl l x b
        | none => s1
  else s

end Sys2Proof.Machine
end

