-- ==== Sys2Proof/Machine/Lane.lean ====
section
/-!
DEFINITION. Machine/Lane.lean: a lane's commands, receiver detect, inbound blocks, training, alignment, entry into SERVICE,
and equalisation (R310 to R335, R338 to R341).
-/

namespace Sys2Proof.Machine

/-! ### LANE_CTRL -/

/-- LANE_ERR, LANE_CNT and CAUSE cleared (R333). -/
def State.clearLane (s : State) (l : Nat) : State :=
  ((((s.wr LANE_ERR.HDR_ERR l 0).wr LANE_ERR.LOCK_LOSS l 0).wr LANE_CNT.SVC l 0).wr LANE_CNT.RETRAINS l 0).wr
    LANE_STAT.CAUSE l 0

/-- A write of LANE_CTRL (R321, R327, R333, R335). -/
def State.writeLaneCtrl (s : State) (l : Nat) (w : Wr) : State :=
  let v := w.val.toNat
  let letIn := bit v 4
  let retrain := bit v 3
  let research := bit v 2
  let clr := bit v 1
  let st := s.laneState l
  let codes :=
    cause (decide (1 < [letIn, retrain, research, clr].countP (· == true))) 0x0001 ++
    cause ((letIn && !s.on LANE_STAT.ADMIT_WAIT l) || (retrain && st != 5) || (research && decide (st ≤ 1))) 0x0003
  s.write w (pgLane l) (laneOff l 0x044) codes fun s =>
    let s1 := (s.wr LANE_CTRL.EQ_FREEZE l (flag (bit v 5))).wr LANE_CTRL.EN l (flag (bit v 0))
    let s2 := if clr then s1.clearLane l else s1
    if !bit v 0 then s2.laneDark l 1
    else if letIn then s2.laneJoin l s.epoch
    else if retrain then s2.laneGo l 6 6
    else if research then s2.laneGo l 1 6
    else s2.laneWake l

/-- LANE_ENABLE (R321): a write of LANE_CTRL with EN 1. -/
def execLaneEnable (l : Fin 256) (w : Wr) (s : State) : Host.Outcome State Fault Refusal :=
  chipOnly s (s.writeLaneCtrl l.val (orBits w 0x01))

/-- LANE_DISABLE (R321): a write of LANE_CTRL with EN 0. -/
def execLaneDisable (l : Fin 256) (w : Wr) (s : State) : Host.Outcome State Fault Refusal :=
  chipOnly s (s.writeLaneCtrl l.val (clearBits w 0x01))

/-- LANE_ADMIT (R327): a write of LANE_CTRL with ADMIT 1. -/
def execLaneAdmit (l : Fin 256) (w : Wr) (s : State) : Host.Outcome State Fault Refusal :=
  chipOnly s (s.writeLaneCtrl l.val (orBits w 0x10))

/-- LANE_RETRAIN_CMD (R321): a write of LANE_CTRL with RETRAIN 1. -/
def execLaneRetrainCmd (l : Fin 256) (w : Wr) (s : State) : Host.Outcome State Fault Refusal :=
  chipOnly s (s.writeLaneCtrl l.val (orBits w 0x08))

/-- LANE_RESEARCH (R321): a write of LANE_CTRL with RESEARCH 1. -/
def execLaneResearch (l : Fin 256) (w : Wr) (s : State) : Host.Outcome State Fault Refusal :=
  chipOnly s (s.writeLaneCtrl l.val (orBits w 0x04))

/-- LANE_CLR (R333): a write of LANE_CTRL with CLR 1. -/
def execLaneClr (l : Fin 256) (w : Wr) (s : State) : Host.Outcome State Fault Refusal :=
  chipOnly s (s.writeLaneCtrl l.val (orBits w 0x02))

/-! ### Receiver detect (R322) -/

/-- RXDET_START (R322): PERIOD after the start of the attempt before, or 5000 tk after a positive first detect, a detect
starts. -/
def execRxdetStart (l : Fin 256) (s : State) : Host.Outcome State Fault Refusal :=
  chipOnly s <|
    let p := s.lphy l.val
    if s.laneState l.val = 1 ∧ p.detFrom.isNone then
      if p.confirm then
        if p.attempt + 5000 ≤ s.tb then s.modLphy l.val fun p => { p with detFrom := some s.tb } else s
      else if p.attempt + 5000 * s.rd LANE_RXDET.PERIOD l.val ≤ s.tb then
        s.modLphy l.val fun p => { p with detFrom := some s.tb, attempt := s.tb }
      else s
    else s

/-- RXDET_DONE (R322): 2500 tk after its start a detect ends; `term` says that it found a termination. -/
def execRxdetDone (l : Fin 256) (term : Bool) (s : State) : Host.Outcome State Fault Refusal :=
  chipOnly s <|
    match (s.lphy l.val).detFrom with
    | some t =>
      if s.laneState l.val = 1 ∧ t + 2500 ≤ s.tb then
        let s1 := (s.wr LANE_STAT.RX_TERM l.val (flag term)).modLphy l.val fun p =>
          { p with detFrom := none, confirm := term && !p.confirm }
        if term && (s.lphy l.val).confirm then s1.enterNegotiate l.val else s1
      else s
    | none => s

/-- SQUELCH_TIMEOUT (R321): squelch has been asserted for 500 tk. -/
def execSquelchTimeout (l : Fin 256) (s : State) : Host.Outcome State Fault Refusal :=
  chipOnly s <|
    if 2 ≤ s.laneState l.val then (s.wr LANE_STAT.SIG_DET l.val 0).laneGo l.val 1 3 else s

/-! ### Inbound blocks -/

/-- Block lock follows the header (R314): the lane after it, and whether lock was lost. -/
def State.trackLock (s : State) (l : Nat) (bad : Bool) : State × Bool :=
  let p := s.lphy l
  let run := if bad then 0 else p.okRun + 1
  let hist := (bad :: p.bad).take 64
  let s1 := if bad then s.inc LANE_ERR.HDR_ERR l else s
  let s2 := s1.modLphy l fun p =>
    { p with okRun := run, bad := hist, blocks := p.blocks + 1, ivErr := p.ivErr + flag (bad && s.laneState l == 5) }
  if s.on LANE_STAT.BLOCK_LOCK l then
    if 16 ≤ hist.countP (· == true) then ((s2.dropLock l).inc LANE_ERR.LOCK_LOSS l, true) else (s2, false)
  else if 64 ≤ run then (s2.wr LANE_STAT.BLOCK_LOCK l 1, false) else (s2, false)

/-- The block's payload, descrambled, and the LFSR after it (R313, R337): outside SERVICE every block is seeded; in SERVICE
the partner's first data block, each with sideband SYNC, and the control blocks still on their way when the lane enters. -/
def State.descramble (s : State) (l hdr payload : Nat) : Nat × Nat :=
  let p := s.lphy l
  let svc := s.laneState l == 5
  let seed := !svc || !p.inSvc || hdr == 7
  let (bitsOut, r) := lfsrRun 128 (if seed then lfsrSeed else p.lfsr)
  (payload ^^^ bitsOut, r)

/-- The highest version in both offers, or 0xFF (R339). -/
def commonVersion (a b : Nat) : Nat :=
  let m := a &&& b
  if bit m 2 then 3 else if bit m 1 then 2 else if bit m 0 then 1 else 0xFF

/-- A VER block in NEGOTIATE (R323, R339). -/
def State.recvVer (s : State) (l offer sel : Nat) : State :=
  let p := s.lphy l
  if 7 < offer ∨ (3 < sel ∧ sel ≠ 0xFF) ∨ p.toTrain.isSome = true then s
  else if p.sel = 0 then
    let s1 := s.modLphy l fun p => { p with vers := p.vers + 1 }
    if p.vers + 1 < 4 then s1
    else
      let v := commonVersion p.offer offer
      if v = 0xFF then s1.laneOut l 1 9
      else s1.modLphy l fun p => { p with sel := v }
  else
    let a := if sel = p.sel then p.agree + 1 else 0
    s.modLphy l fun p => { p with
      agree := a, toTrain := if 8 ≤ a then some (s.tb + (8 - s.epoch % 8) + 128) else none }

/-- A TRAIN block in TRAIN or RETRAIN (R339, R341): the partner's report, and its request, once for each REQ_SEQ. -/
def State.recvTrain (s : State) (l b1 seq : Nat) : State :=
  let pre := bits b1 0 2
  let post := bits b1 2 2
  if pre = 3 ∨ post = 3 then s
  else
    let s1 := s.modLphy l fun p => { p with rdy := bit b1 4 }
    if seq = (s.lphy l).ack then s1 else s1.modLphy l fun p => { p with req := some (pre, post, seq) }

/-- A CAPS block with a reserved value in OFFER or in the capability word (R338). -/
def capsBad (p : Nat) : Bool := decide (7 < pbyte p 1) || (bits p 80 32 &&& 0xFF0000E8) != 0

/-- A CAPS block in ALIGN (R325, R338). -/
def State.recvCaps (s : State) (l p : Nat) : State :=
  let s1 := s.wr64 LANE_PARTNER_ID_LO.ID LANE_PARTNER_ID_HI.ID l (bits p 16 64)
  let s2 := (s1.wr LANE_PARTNER_CAP.CAP l (bits p 80 32)).wr LANE_TURN.TURN l (bits p 112 16)
  (s2.modLphy l fun p => { p with caps := true }).alignDone l

/-- A control block with its descrambled payload (R338). -/
def State.recvControl (s : State) (l p : Nat) : State :=
  let st := s.laneState l
  let t := pbyte p 0
  if t = 0x0F ∧ st ≠ 5 then (if 1 ≤ pbyte p 1 ∧ pbyte p 1 ≤ 3 then s.laneGo l 1 14 else s)
  else if t = 0x01 ∧ st = 2 then s.recvVer l (pbyte p 1) (pbyte p 2)
  else if t = 0x02 ∧ (st = 3 ∨ st = 6) then s.recvTrain l (pbyte p 1) (pbyte p 2)
  else if t = 0x05 ∧ st = 4 then (if capsBad p then s else s.recvCaps l p)
  else if t = 0x08 ∧ st = 6 then s.modLphy l fun q => { q with rdy := bit p 12 }
  else s

/-- A bad record of the lane's compare block (R347, R348). -/
def State.badRecord (s : State) (l : Nat) : State :=
  (s.inc CMP_CNT_DISC.BAD_REC l).raise (pgCmp (laneFacet l)) 25

/-- A data block in SERVICE, by its sideband (R347): a record is complete at the compare block. -/
def State.recvData (s : State) (l hdr p : Nat) : State :=
  match hdr % 4 with
  | 1 => s.modCmpl l fun c => { c with recs := c.recs ++ [(s.now, (List.range 16).map (pbyte p))] }
  | 2 => s.badRecord l
  | _ => s

/-- A header and a payload of the wire as the receiver takes them (R311): RX_POL inverts every bit. -/
def State.rxHeader (s : State) (l hdr : Nat) : Nat := if s.rdA LANE_CFG.RX_POL l = 1 then 15 - hdr else hdr
def State.rxPayload (s : State) (l payload : Nat) : Nat :=
  if s.rdA LANE_CFG.RX_POL l = 1 then 2 ^ 128 - 1 - payload else payload

/-- A block arrives at lane `l` with header and payload as they stand on the wire (R311, R313, R314, R336 to R348). -/
def State.laneBlockIn (s : State) (l hdr payload : Nat) : State :=
  let s := s.settleVersion l
  if s.laneState l < 2 then s
  else
    let h := s.rxHeader l hdr
    let bad := headerBad h
    let (p, r) := s.descramble l h (s.rxPayload l payload)
    let s0 := (s.wr LANE_STAT.SIG_DET l 1).modLphy l fun q =>
      { q with lfsr := r, inSvc := s.laneState l == 5 && (q.inSvc || bits h 2 2 == 1) }
    let (s1, lost) := s0.trackLock l bad
    if lost then (if s1.laneState l = 5 then s1.laneGo l 6 4 else s1)
    else if bad || !s1.on LANE_STAT.BLOCK_LOCK l then s1
    else if h = 8 then s1.recvControl l p
    else if s1.laneState l = 5 then s1.recvData l h p
    else s1

/-- LANE_STATE_TIMEOUT (R321). -/
def execLaneStateTimeout (l : Fin 256) (s : State) : Host.Outcome State Fault Refusal :=
  chipOnly s <|
    let s := s.settleVersion l.val
    let p := s.lphy l.val
    let passed := fun n => decide (p.since + n ≤ s.tb)
    let waits := p.entry.isSome || s.on LANE_STAT.ADMIT_WAIT l.val
    match s.laneState l.val with
    | 2 => if passed 1000000 then s.laneOut l.val 1 8 else s
    | 3 => if passed 4000000 then s.laneOut l.val 1 10 else s
    | 4 => if passed 500000 && !waits then s.laneOut l.val 1 11 else s
    | 6 => if passed 50000 && !waits then s.laneOut l.val 1 12 else s
    | _ => s

/-! ### Training and alignment -/

/-- LANE_EYE_CRITERIA_MET (R324, R326): the eye criteria have held 50,000 tk in TRAIN, or 500 tk in RETRAIN, and the partner
has reported its own eye as ready. -/
def execLaneEyeCriteriaMet (l : Fin 256) (s : State) : Host.Outcome State Fault Refusal :=
  chipOnly s <|
    let p := s.lphy l.val
    if p.rdy && s.on LANE_STAT.BLOCK_LOCK l.val then
      if s.laneState l.val = 3 ∧ s.eyeHeld l.val 50000 = true then s.enterAlign l.val
      else if s.laneState l.val = 6 ∧ s.eyeHeld l.val 500 = true ∧ p.asked.isEmpty = true ∧ p.entry.isNone then
        s.sendProbe l.val
      else s
    else s

/-- A round trip in 1/64 UI, in units of 1/2112 ps: one UI is 2000/33 ps (R325). -/
def rttScaled (u : Nat) : Nat := 2000 * u

/-- The mean of eight round trips in ps, to nearest (R325). -/
def rttMean (us : List Nat) : Nat := (rttScaled (us.foldl (· + ·) 0) + 8448) / 16896

/-- The lane's CAPS block (R338). -/
def State.sendCaps (s : State) (l : Nat) : State :=
  let v := s.rdA LANE_CFG.VER_MASK l
  s.queueControl l (0x05 :: v :: (List.range 8).map (fun k => bits Config.devid (8 * k) 8) ++ [v])

/-- LANE_ECHO_RECEIVE (R325, R326): the echo of probe `id` arrives `rtt` 1/64 UI after the probe left. -/
def execLaneEchoReceive (l : Fin 256) (id : BitVec 16) (rtt : BitVec 32) (s : State) : Host.Outcome State Fault Refusal :=
  chipOnly s <|
    let p := s.lphy l.val
    let st := s.laneState l.val
    if p.asked.contains id.toNat && p.entry.isNone then
      let us := p.rtts ++ [rtt.toNat]
      let s1 := s.modLphy l.val fun q => { q with asked := q.asked.filter (· != id.toNat), rtts := us }
      if st = 4 then
        if us.length < 8 then s1
        else if us.foldl max 0 - us.foldl min rtt.toNat ≤ 64 then
          (((s1.wr LANE_RTT.RTT l.val (rttMean us)).modLphy l.val fun q => { q with agreed := true }).sendCaps l.val).alignDone
            l.val
        else if p.round + 1 < 3 then (s1.modLphy l.val fun q => { q with round := p.round + 1 }).sendRound l.val
        else s1.laneOut l.val 1 13
      else if st = 6 then
        if ((rttScaled rtt.toNat : Int) - 2112 * s.rd LANE_RTT.RTT l.val).natAbs ≤ 61 * 2112 then s1.laneJoin l.val s.epoch
        else s1.laneOut l.val 1 13
      else s1
    else s

/-! ### SERVICE -/

/-- LANE_SERVICE_ENTRY (R328): at its entry tick the lane enters SERVICE. -/
def execLaneServiceEntry (l : Fin 256) (s : State) : Host.Outcome State Fault Refusal :=
  chipOnly s <|
    match (s.lphy l.val).entry with
    | some d =>
      if d ≤ s.epoch ∧ (s.laneState l.val = 4 ∨ s.laneState l.val = 6) then
        let s1 := ((s.laneTo l.val 5).wr64 LANE_SVC_AT_LO.TICK LANE_SVC_AT_HI.TICK l.val d).inc LANE_CNT.SVC l.val
        let s2 := s1.modLphy l.val fun p =>
          { p with held := some (s.partnerId l.val), ivFrom := s.tb, ivErr := 0, storedAt := none, inSvc := false, qhist := [] }
        let s3 := s2.modLout l.val fun o =>
          { o with lfsr := (lfsrRun 128 lfsrSeed).2, frame := 0, frameAt := d, side := 0 }
        let s4 := (s3.raiseLane l.val 0).jrn 0x03 l.val 0x0C01
          [.word (s.rd LANE_STAT.VER l.val), .word (s.rd LANE_RTT.RTT l.val), .tick (s.partnerId l.val)]
        s4.lanesFound l.val
      else s
    | none => s

/-- LANE_LEAVE_SERVICE (R321): at the block boundary after a detected cause the lane leaves SERVICE. -/
def execLaneLeaveService (l : Fin 256) (s : State) : Host.Outcome State Fault Refusal :=
  chipOnly s <|
    match (s.lphy l.val).leave with
    | some (b, st, cse) => if b ≤ s.epoch ∧ s.laneState l.val = 5 then s.laneOut l.val st cse else s
    | none => s

/-- LANE_ERR_INTERVAL (R329): an interval of 500,000 tk ends. -/
def execLaneErrInterval (l : Fin 256) (s : State) : Host.Outcome State Fault Refusal :=
  chipOnly s <|
    if s.laneState l.val = 5 ∧ (s.lphy l.val).ivFrom + 500000 ≤ s.tb then
      s.modLphy l.val fun p => { p with ivFrom := p.ivFrom + 500000, ivErr := 0 }
    else s

/-- LANE_ERR_LIMIT (R329): the count of the interval has reached LIMIT. -/
def execLaneErrLimit (l : Fin 256) (s : State) : Host.Outcome State Fault Refusal :=
  chipOnly s <|
    let lim := s.rd LANE_ERR_LIM.LIMIT l.val
    let p := s.lphy l.val
    if s.laneState l.val = 5 ∧ lim ≠ 0 ∧ lim ≤ p.ivErr ∧ (p.leave.isNone = true ∨ p.leaveAt = s.tb) then (s.raiseLane l.val 6).laneGo l.val 6 5 else s

/-! ### Equalisation (R316 to R319) -/

/-- Tap 0 (CTLE) or 1 to 8 (DFE) moved by one code; none when it would leave its range (R316). -/
def State.eqMoved (s : State) (l tap : Nat) (up : Bool) : Option State :=
  if tap = 0 then
    let v := s.rd LANE_EQ_RX.CTLE l
    if up then (if v < 15 then some (s.wr LANE_EQ_RX.CTLE l (v + 1)) else none)
    else (if 0 < v then some (s.wr LANE_EQ_RX.CTLE l (v - 1)) else none)
  else
    let v := signed 8 (s.rd (dfeFld tap) l)
    let lim : Int := if tap = 1 then 127 else 63
    let n := if up then v + 1 else v - 1
    if -lim ≤ n ∧ n ≤ lim then some (s.wr (dfeFld tap) l (unsigned 8 n)) else none

/-- The background limits allow a step of the tap now (R317). -/
def State.eqFree (s : State) (l tap : Nat) (up : Bool) : Bool :=
  let p := s.lphy l
  let barred := p.barred.any fun b => b.1 == tap && b.2.1 == up && decide (s.tb < b.2.2)
  !s.on LANE_CTRL.EQ_FREEZE l && !barred &&
    (if tap = 0 then (match p.ctleAt with | some t => decide (t + 50000 ≤ s.tb) | none => true)
     else match p.dfeAt.find? (fun x => x.1 == tap) with
       | some x => decide (x.2 + 1024 ≤ p.blocks)
       | none => true)

/-- EQ_ADAPT_STEP (R316, R317): in TRAIN without limit, later under the background limits, a tap moves by one code; the CTLE then
moves only toward a code that measures a larger eye height than the present one. -/
def execEqAdaptStep (l : Fin 256) (tap : Fin 9) (move : EqMove) (s : State) : Host.Outcome State Fault Refusal :=
  chipOnly s <|
    let st := s.laneState l.val
    let up := move.up
    if st = 3 then (s.eqMoved l.val tap.val up).getD s
    else if 4 ≤ st ∧ s.eqFree l.val tap.val up = true ∧ (tap.val = 0 → s.rd LANE_EYE.HEIGHT l.val < move.height.toNat) then
      match s.eqMoved l.val tap.val up with
      | some t =>
        t.modLphy l.val fun p =>
          { p with
            ctleAt := if tap.val = 0 then some s.tb else p.ctleAt
            dfeAt := if tap.val = 0 then p.dfeAt else (tap.val, p.blocks) :: p.dfeAt.filter (·.1 != tap.val)
            steps := p.steps ++ [{ tap := tap.val, up := up, t := s.tb, height := s.rd LANE_EYE.HEIGHT l.val }] }
      | none => s
    else s

/-- EQ_STEP_REVERT (R317): 5000 tk after a step the eye height is `height`; a step that lost more than 10 % is reverted and not
retried for 5,000,000 tk. -/
def execEqStepRevert (l : Fin 256) (height : BitVec 10) (s : State) : Host.Outcome State Fault Refusal :=
  chipOnly s <|
    match (s.lphy l.val).steps with
    | q :: rest =>
      if q.t + 5000 ≤ s.tb ∧ 4 ≤ s.laneState l.val then
        let s1 := s.modLphy l.val fun p => { p with steps := rest }
        if 10 * height.toNat < 9 * q.height then
          ((s1.eqMoved l.val q.tap (!q.up)).getD s1).modLphy l.val fun p =>
            { p with barred := (q.tap, q.up, s.tb + 5000000) :: p.barred.filter fun b => !(b.1 == q.tap && b.2.1 == q.up) }
        else s1
      else s
    | [] => s

/-- EYE_MONITOR (R318, R324): every 50,000 tk the eye height and width are written, and held against the criteria. -/
def execEyeMonitor (l : Fin 256) (height : BitVec 10) (width : BitVec 8) (s : State) : Host.Outcome State Fault Refusal :=
  chipOnly s <|
    let due := match (s.lphy l.val).eyeAt with | some t => decide (t + 50000 ≤ s.tb) | none => true
    if 3 ≤ s.laneState l.val ∧ due = true then
      let s1 := (s.wr LANE_EYE.HEIGHT l.val height.toNat).wr LANE_EYE.WIDTH l.val width.toNat
      s1.modLphy l.val fun p =>
        { p with eyeAt := some s.tb, eyeFrom := if s1.eyeOk l.val then some (p.eyeFrom.getD s.tb) else none }
    else s

/-- EQ_STATE_STORE (R319): at an entry into SERVICE and every 500,000,000 tk in SERVICE the equaliser state is stored; `cdr` is
the CDR phase. -/
def execEqStateStore (l : Fin 256) (cdr : BitVec 32) (s : State) : Host.Outcome State Fault Refusal :=
  chipOnly s <|
    let due := match (s.lphy l.val).storedAt with | some t => decide (t + 500000000 ≤ s.tb) | none => true
    if s.laneState l.val = 5 ∧ due = true then
      (s.wr LANE_STAT.EQ_VALID l.val 1).modLphy l.val fun p =>
        { p with stored := some (s.eqNow l.val cdr.toNat), storedAt := some s.tb }
    else s

end Sys2Proof.Machine
end

