-- ==== Sys2Proof/Machine/Compare.lean ====
section
/-!
DEFINITION. Machine/Compare.lean: the compare block of a Facet: records on the epoch, failing results, the fail ring, captures
(R347 to R358).
-/

namespace Sys2Proof.Machine

/-! ### The fail ring (R354) -/

/-- A unit dropped. -/
def State.dropUnit (s : State) (f : Nat) : State :=
  ((s.modCmp f fun c => { c with lost := c.lost + 1 }).inc CMP_RING_STAT.LOST f).raise (pgCmp f) 24

/-- A unit queued for the Girdle, at most 64. -/
def State.queueUnit (s : State) (f : Nat) (u : List Nat) : State :=
  if 64 ≤ (s.cmp f).queue.length then s.dropUnit f else s.modCmp f fun c => { c with queue := c.queue ++ [u] }

/-- A unit stored in the ring with its SEQ. -/
def State.storeUnit (s : State) (f : Nat) (u : List Nat) : State :=
  let seq := s.rd CMP_SEQ.SEQ f
  let s1 := s.modCmp f fun c => { c with ring := c.ring ++ [u.set 10 seq] }
  (s1.incW CMP_SEQ.SEQ f).wr CMP_RING_STAT.FILL f ((s.cmp f).ring.length + 1)

/-- The LOSS unit of `n` dropped units. -/
def lossUnit (st : Stamp) (n : Nat) : List Nat :=
  [0, 0, st.t % 2 ^ 32, st.t / 2 ^ 32, 0x80 * 2 ^ 16 + 128 * flag st.unc, 0, 0, 0, 0, n, 0, 0, 0, 0, 0, 0]

/-- The oldest queued unit has crossed the Girdle: it is stored, after a LOSS unit when units were dropped before it, or
dropped when the ring, of 1024 units, is full. -/
def State.spillUnit (s : State) (f : Nat) : State :=
  match (s.cmp f).queue with
  | [] => s
  | u :: r =>
    let s1 := s.modCmp f fun c => { c with queue := r }
    let n := (s1.cmp f).lost
    let room := 1024 - (s1.cmp f).ring.length
    if n = 0 then (if 1 ≤ room then s1.storeUnit f u else s1.dropUnit f)
    else if 2 ≤ room then
      let s2 := ((s1.modCmp f fun c => { c with lost := 0 }).storeUnit f (lossUnit s.now n)).storeUnit f u
      s2.jrn 0x04 (bits (nth u 4) 8 8) 0x0D04 [.word n]
    else s1.dropUnit f

/-! ### Records -/

/-- A record's unit (R354): V or Dg, the stamp, W, type, lane, version, the payload, and the word at 0x24. -/
def ringUnit (l ver v w x : Nat) (st : Stamp) (p : List Nat) : List Nat :=
  let d := fun k => nth p (4 * k) + 256 * nth p (4 * k + 1) + 65536 * nth p (4 * k + 2) + 16777216 * nth p (4 * k + 3)
  [v % 2 ^ 32, v / 2 ^ 32, st.t % 2 ^ 32, st.t / 2 ^ 32,
   w * 2 ^ 24 + nth p 0 * 2 ^ 16 + l * 2 ^ 8 + 128 * flag st.unc + ver, d 0, d 1, d 2, d 3, x, 0, 0, 0, 0, 0, 0]

/-- A unit of record type `ty` goes to the ring when CMP_RING_CFG selects it. -/
def State.toRing (s : State) (l ty : Nat) (u : List Nat) : State :=
  let f := laneFacet l
  if s.on CMP_RING_CFG.EN f && bit (s.rd CMP_RING_CFG.TYPES f) (ty - 1) then s.queueUnit f u else s

/-- The granule start of a record stamped `a` with a tag of `k` bits (R351), none when no such tick has come. -/
def tagGranule (a k tag : Nat) : Option Nat :=
  let m := 16 * 2 ^ k
  let base := 16 * (tag % 2 ^ k)
  if base < a then some (base + (a - 1 - base) / m * m) else none

/-- The granule's qualifier bits, none when the record is stale (R350, R351). -/
def State.qualifier (s : State) (l : Nat) (dg : Option Nat) : Option Nat :=
  match dg with
  | some d =>
    if d < s.rd64 LANE_SVC_AT_LO.TICK LANE_SVC_AT_HI.TICK l then none
    else ((s.lphy l).qhist.find? fun q => q.1 == d).map (·.2)
  | none => none

/-- The lane accepts records stamped `st` (R352). -/
def State.accepts (s : State) (l : Nat) (st : Stamp) : Bool :=
  s.laneState l == 5 && s.on CMP_LCFG.EN l &&
  (!s.on CMP_LCFG.WIN_EN l || st.inside (s.rd64 CMP_WIN_OPEN_LO.TICK CMP_WIN_OPEN_HI.TICK l)
    (s.rd64 CMP_WIN_CLOSE_LO.TICK CMP_WIN_CLOSE_HI.TICK l))

/-- A failing result with vector tick `v` (R352). -/
def State.failing (s : State) (l : Nat) (st : Stamp) (isRec : Bool) (v : Nat) : State :=
  let first := !(s.cmpl l).failed
  let s1 := (s.inc (if isRec then CMP_CNT_FAIL.REC_FAIL else CMP_CNT_FAIL.SUM_FAIL) l).raiseCmp l 0
  let fire : Bool := match s.rd CMP_LCFG.EVT_KIND l with
    | 0 => true
    | 1 => isRec
    | _ => first
  let s2 := if fire then s1.produce (prodId 6 l) { st with sub := 0 } 0 else s1
  if first then (s2.modCmpl l fun c => { c with failed := true }).wr64 CMP_FIRST_LO.FIRST CMP_FIRST_HI.FIRST l v else s2

/-- The ones of a 16-bit map. -/
def ones16 (m : Nat) : Nat := (List.range 16).foldl (fun acc i => acc + bits m i 1) 0

/-- The lowest set bit of a 16-bit map. -/
def lowest16 (m : Nat) : Nat := ((List.range 16).find? fun i => bit m i).getD 0

/-- The record types a version allows (R348). -/
def recordAllowed (ver ty : Nat) : Bool := (ver == 3 && 1 ≤ ty && ty ≤ 4) || (ver == 2 && (ty == 1 || ty == 4))

/-- A STATUS record (R356). -/
def State.statusRecord (s : State) (l : Nat) (p : List Nat) : State :=
  let d := fun k => nth p k + 256 * nth p (k + 1)
  let w := fun k => d k + 65536 * d (k + 2)
  let old := s.rd CMP_PSTAT.FLAGS l
  let s1 := ((s.wr CMP_PSTAT.DROPPED l (d 6)).wr CMP_PSTAT.TEMP l (nth p 8)).wr CMP_PSTAT.FLAGS l (nth p 1)
  let s2 := s1.wr CMP_PERR.RX_HDR_ERR l (d 4)
  if ([0, 1, 3] : List Nat).any fun i => bit (nth p 1) i && !bit old i then
    (s2.raiseCmp l 2).jrn 0x04 l 0x0D03 [.word l, .word (w 0), .word (w 4), .word (w 8)]
  else s2

/-- A CAPTURE record of the granule at `d`, words `w` on, `n` of them (R355). -/
def State.captureRecord (s : State) (l d w n : Nat) (u : List Nat) : State :=
  match (s.cmpl l).cap with
  | some (a, g) =>
    if a ≤ d + w ∧ d + w < a + 16 * g then
      let s1 := s.toRing l 3 u
      if d + 16 = a + 16 * g ∧ 16 ≤ w + n then s1.captureEnd l false else s1
    else s
  | none => s

/-- One record of lane `l` (R348 to R353), and the results it reports: whether each is a FAIL record. A stale SUMMARY or FAIL is
counted whether or not the lane accepts records (R351). -/
def State.record (s : State) (l : Nat) (st : Stamp) (p : List Nat) : State × List Bool :=
  let ver := s.rd LANE_STAT.VER l
  let ty := nth p 0
  let bad := ((s.inc CMP_CNT_DISC.BAD_REC l).raise (pgCmp (laneFacet l)) 25, [])
  let u16 := fun k => nth p k + 256 * nth p (k + 1)
  if s.laneState l ≠ 5 then (s, [])
  else if !recordAllowed ver ty then bad
  else if ty = 4 then
    if s.accepts l st then ((s.toRing l 4 (ringUnit l ver 0 0 0 st p)).statusRecord l p, []) else (s, [])
  else
    let dg := if ver = 2 then tagGranule st.t 8 (nth p 2) else tagGranule st.t 16 (u16 2)
    match dg, s.qualifier l dg with
    | some d, some q =>
      let w := nth p 1 % 16
      if !s.accepts l st then (s, [])
      else if ty = 1 then
        let fmap := u16 4
        let qmap := fmap &&& q
        let s1 := s.incBy CMP_CNT_DISC.UNQUAL l (ones16 (fmap &&& (0xFFFF ^^^ q)))
        let s2 := s1.toRing l 1 (ringUnit l ver d 0 qmap st p)
        if qmap ≠ 0 then (s2.failing l st false (d + lowest16 qmap), [false]) else (s2, [])
      else if ty = 2 then
        let s1 := s.toRing l 2 (ringUnit l ver (d + w) w (bits q w 1) st p)
        if bit q w && (u16 12 != 0 || u16 14 != 0) then (s1.failing l st true (d + w), [true])
        else (s1.inc CMP_CNT_DISC.UNQUAL l, [])
      else (s.captureRecord l d w (bits (nth p 1) 4 2) (ringUnit l ver (d + w) w 0 st p), [])
    | _, _ => (if ty = 3 then s else s.inc CMP_CNT_DISC.STALE l, [])

/-- The records of lane `l` in the order they came, with the results they report. -/
def State.laneRecords (s : State) (l : Nat) : State × List (Nat × Stamp × Bool) :=
  let rs := (s.cmpl l).recs
  rs.foldl (fun acc r =>
    let (t, res) := acc.1.record l r.1 r.2
    (t, acc.2 ++ res.map fun b => (l, r.1, b))) (s.modCmpl l fun c => { c with recs := [] }, [])

/-- The results of one cycle reach input `n` of engine `e` directly (R171, R191). -/
def State.directResults (s : State) (e n : Nat) (rs : List (Nat × Stamp × Bool)) : State :=
  let i := 4 * e + n
  if s.rdX ENG_BIN_CFG.CMP_EN i = 1 ∧ s.engDrive e = false then
    let sel := rs.filter fun r => bit (s.rdX ENG_BIN_CFG.LANE_MASK i) (r.1 % 8) &&
      (s.rdX ENG_BIN_CFG.CMP_KIND i == 0 || r.2.2)
    s.inputArrive e n (sel.map fun r =>
      { cls := 1, index := i, ev := { prod := prodId 6 r.1, st := { r.2.1 with sub := 0 } } })
  else s

/-- CMP_RECORD (R352, R353): the records of the Facet's lanes that are complete are processed in ascending lane order, and
their results reach the engines that take them directly. -/
def execCmpRecord (f : Fin 32) (s : State) : Host.Outcome State Fault Refusal :=
  chipOnly s <|
    let (t, rs) := (List.range 8).foldl (fun acc k =>
      let (u, r) := acc.1.laneRecords (8 * f.val + k)
      (u, acc.2 ++ r)) (s, [])
    if rs.isEmpty then t
    else (List.range 16).foldl (fun u k =>
      (List.range 4).foldl (fun v n => v.directResults (16 * f.val + k) n rs) u) t

/-! ### Captures and clears -/

/-- A write of CMP_CAP_CTL (R355, R357). -/
def State.writeCmpCap (s : State) (l : Nat) (w : Wr) : State :=
  let v := w.val.toNat
  let arm := bit v 31
  let n := bits v 0 16
  let at' := s.rd64 CMP_CAP_AT_LO.TICK CMP_CAP_AT_HI.TICK l
  let gran := bits (s.rd LANE_PARTNER_CAP.CAP l) 16 8
  let codes := if arm then
      cause (at' % 16 != 0) 0x0001 ++
      cause (s.on CMP_CAP_CTL.ACTIVE l || s.laneState l != 5 || s.rd LANE_STAT.VER l != 3 || gran == 0) 0x0002 ++
      cause (decide (at' < s.epoch + 1536)) 0x0003 ++ cause (n == 0 || decide (gran < n)) 0x0004
    else []
  s.write w (pgCmp (laneFacet l)) (0x11C + 0x40 * (l % 8)) codes fun s =>
    let s1 := (s.wr CMP_CAP_CTL.NGRAN l n).wr CMP_CAP_CTL.SHORT l
      (if bit v 29 then 0 else s.rd CMP_CAP_CTL.SHORT l)
    if arm then (s1.wr CMP_CAP_CTL.ACTIVE l 1).modCmpl l fun c => { c with cap := some (at', n), sent := false } else s1

/-- CMP_CAPTURE_ARM (R355): a write of CMP_CAP_CTL with ARM 1. -/
def execCmpCaptureArm (l : Fin 256) (w : Wr) (s : State) : Host.Outcome State Fault Refusal :=
  chipOnly s (s.writeCmpCap l.val (orBits w 0x80000000))

/-- CMP_CAPTURE_TIMEOUT (R355): 500,000 tk after its window closes a capture ends short. -/
def execCmpCaptureTimeout (l : Fin 256) (s : State) : Host.Outcome State Fault Refusal :=
  chipOnly s <|
    match (s.cmpl l.val).cap with
    | some (a, n) => if a + 16 * n + 500000 ≤ s.epoch then s.captureEnd l.val true else s
    | none => s

/-- A write of CMP_CLR (R357). -/
def State.writeCmpClr (s : State) (f : Nat) (w : Wr) : State :=
  s.write w (pgCmp f) 0x048 [] fun s =>
    if bit w.val.toNat 0 then
      (List.range 8).foldl (fun t k =>
        let l := 8 * f + k
        let t1 := ((t.wr CMP_CNT_FAIL.REC_FAIL l 0).wr CMP_CNT_FAIL.SUM_FAIL l 0).wr CMP_CNT_DISC.BAD_REC l 0
        let t2 := ((t1.wr CMP_CNT_DISC.STALE l 0).wr CMP_CNT_DISC.UNQUAL l 0).wr64 CMP_FIRST_LO.FIRST CMP_FIRST_HI.FIRST l 0
        t2.modCmpl l fun c => { c with failed := false }) (s.wr CMP_RING_STAT.LOST f 0)
    else s

/-- CMP_CLR (R357): a write of CMP_CLR with CLR 1. -/
def execCmpClr (f : Fin 32) (w : Wr) (s : State) : Host.Outcome State Fault Refusal :=
  chipOnly s (s.writeCmpClr f.val (orBits w 0x1))

end Sys2Proof.Machine
end

