-- ==== Sys2Proof/Machine/Composer.lean ====
section
/-!
DEFINITION. Machine/Composer.lean: the word composer and a lane's output stage: the word of each ball tick, hold words, the
sideband, dropped words and the Bezel's fill (R99 to R105, R120, R300 to R305, R312, R313, R330, R342 to R346, R350).
-/

namespace Sys2Proof.Machine

/-! ### Words -/

/-- The HOLD idle word in force (R330). -/
def State.holdWord (s : State) (l x : Nat) : Nat := s.rdAt LANE_HOLD.WORD l x

/-- An engine's contribution for ball tick `x` (R301): 64 bits, and whether an APG step gives it; none when the engine is
absent. -/
def State.contribution (s : State) (l e x : Nat) (en : Bool) : Option (Nat × Bool) :=
  if en && s.classMatch e l then
    match (s.eng e).q.find? fun q => q.tick == x with
    | some q => some (if q.hold then s.holdWord l x else q.word, q.apg)
    | none => none
  else none

/-- A composed word (R304, R305): the word, its compare mask, and whether it is a hold word. -/
structure Composed where
  word : Nat
  mask : Nat
  hold : Bool
  deriving DecidableEq, Repr

/-- Bit `i` of the word, from the selector byte and the contributions (R302, R304). -/
def composeBit (sel tconst i : Nat) (a b g : Option (Nat × Bool)) : Nat :=
  let k := bits tconst i 1
  match sel / 64 with
  | 1 => (match a with | some v => bits v.1 i 1 | none => k)
  | 2 => (match b with | some v => bits v.1 i 1 | none => k)
  | 3 => (match g with | some v => bits v.1 (sel % 64) 1 | none => k)
  | _ => k

/-- Ball tick `x` is withheld by R105. -/
def State.underAt (s : State) (l x : Nat) : Bool := (s.lout l).unders.any fun u => decide (u.1 ≤ x ∧ x < u.2)

/-- SAFE makes the lane present HOLD idle words at `x` (R523, R524). -/
def State.safeAt (s : State) (l x : Nat) : Bool :=
  match (s.lout l).safeFrom, (s.lout l).safeTo with
  | some a, some b => decide (a ≤ x ∧ x < b)
  | some a, none => decide (a ≤ x)
  | none, _ => false

/-- What lane `l` presents at ball tick `x` in SERVICE (R301 to R305, R330). -/
def State.compose (s : State) (l x : Nat) : Composed :=
  let f := laneFacet l
  let a := s.contribution l (16 * f + s.rdAt LANE_SRC.ENG_A l x) x (s.rdAt LANE_SRC.A_EN l x == 1)
  let b := s.contribution l (16 * f + s.rdAt LANE_SRC.ENG_B l x) x (s.rdAt LANE_SRC.B_EN l x == 1)
  if (a.isNone && b.isNone) || s.underAt l x || s.safeAt l x then { word := s.holdWord l x, mask := 0, hold := true }
  else
    let bank := s.laneBank l x
    let t := fun i => s.tabEntry (tabLane l) bank i
    let ctl := t 10
    let g := if bit ctl 4 then b else a
    let word := (List.range 32).foldl (fun acc i =>
      acc + composeBit (bits (t (i / 4)) (8 * (i % 4)) 8) (t 8) i a b g * 2 ^ i) 0
    let mask := match bits ctl 0 2 with
      | 1 => t 9
      | 2 => (match g with | some v => if v.2 && bit v.1 52 then t 9 else 0 | none => 0)
      | _ => 0
    { word := word, mask := mask, hold := false }

/-! ### The sideband (R343 to R346) -/

/-- The inactive bank of the lane's template is CLOSED with CHECK_OK (R247). -/
def State.maskReady (s : State) (l : Nat) : Bool :=
  s.rd LANE_COMP_CTL.BANK_STATE l == 2 && s.on LANE_COMP_CTL.CHECK_OK l

/-- LANE_FRAME_FILL (R346): the frame that starts with the granule at `x`. -/
def State.fillFrame (s : State) (l x : Nat) : State :=
  let b := 1 - s.tabActive (tabLane l)
  let mask := 1 * 2 ^ 60 + b * 2 ^ 32 + s.tabEntry (tabLane l) b 9
  let fresh := s.maskReady l && (match (s.tab (tabLane l)).okSince with
    | some a => decide ((s.lout l).frameAt < a)
    | none => false)
  let set := fun (t : State) (v : Nat) => t.modLout l fun o => { o with frame := v, frameAt := x }
  if fresh then set s mask
  else match (s.cmpl l).cap, (s.cmpl l).sent with
    | some (at', n), false =>
      set (s.modCmpl l fun c => { c with sent := true }) (2 * 2 ^ 60 + tickTag at' * 2 ^ 32 + n)
    | _, _ => if s.maskReady l then set s mask else set s (tickTag x * 2 ^ 32)

/-- The words of the granule at `x`. -/
def State.granuleWords (s : State) (l x : Nat) : List Composed :=
  (List.range 16).map fun w => s.compose l (x + w * s.laneWord l)

/-- The start of a granule in SERVICE (R343, R345, R350): the frame, the sideband byte, and the qualifier bits. -/
def State.startGranule (s : State) (l x : Nat) : State :=
  let s1 := if !s.glp1 l && tickTag x % 32 == 0 then s.fillFrame l x else s
  let ws := s.granuleWords l x
  let from' := ws.length - (ws.reverse.takeWhile (·.hold)).length
  let k := tickTag x % 32
  let g := if s.glp1 l then from'
    else bits (s1.lout l).frame (2 * k) 2 * 64 + s.laneBank l x * 32 + from'
  let q := ws.zipIdx.foldl (fun acc c => if c.1.mask = 0 then acc else acc + 2 ^ c.2) 0
  (s1.modLout l fun o => { o with side := g }).modLphy l fun p => { p with qhist := ((x, q) :: p.qhist).take 4096 }

/-- A data block sent at `x` (R311 to R313, R331, R343). -/
def State.sendBlock (s : State) (l x : Nat) : State :=
  let per := s.laneWord l
  let b := x % s.laneGran l / s.laneBlock l
  let plain := (List.range 4).foldl (fun acc w => acc + (s.compose l (x + w * per)).word * 2 ^ (32 * w)) 0
  let r0 := if x % (if s.glp1 l then 32768 else 16384) = 0 then lfsrSeed else (s.lout l).lfsr
  let (key, r) := lfsrRun 128 r0
  (s.modLout l fun o => { o with lfsr := r }).sendWire l x (4 + bits (s.lout l).side (2 * b) 2) (plain ^^^ key)

/-- The lane carries composed words at ball tick `x` (R304, R321, R328). -/
def State.carries (s : State) (l x : Nat) : Bool :=
  match s.laneState l, (s.lphy l).leave, (s.lphy l).entry with
  | 5, some (b, _, _), _ => decide (x < b)
  | 5, none, _ => true
  | _, _, some d => decide (d ≤ x)
  | _, _, none => false

/-- The word of ball tick `x` leaves, with its granule and block (R312). -/
def State.presentWord (s : State) (l x : Nat) : State :=
  if x % s.laneWord l = 0 then
    let s1 := if x % s.laneGran l = 0 then s.startGranule l x else s
    let s2 := if x % s.laneBlock l = 0 then s1.sendBlock l x else s1
    s2.emit (.word l x (s.compose l x).word)
  else s

/-! ### Dropped words (R120) -/

/-- A word of engine `e` for ball tick `x` counted as dropped, once. -/
def State.dropWord (s : State) (e x : Nat) : State :=
  if (s.eng e).dropped = x + 1 then s
  else (s.inc ENG_DROP.DROPPED e).modEng e fun g => { g with dropped := x + 1 }

/-- The words of the lane's engines for ball tick `x` that it does not carry. -/
def State.dropsAt (s : State) (l x : Nat) : State :=
  (s.laneEngs l).foldl (fun t e =>
    if (t.eng e).q.any (fun q => q.tick == x) && (!s.carries l x || !s.classMatch e l || s.underAt l x) then t.dropWord e x
    else t) s

/-! ### The Bezel's fill (R100, R104, R105) -/

/-- The engine is to have an entry for ball tick `x`. -/
def State.feeds (s : State) (e x : Nat) : Bool :=
  let g := s.eng e
  s.engBusy e && !s.engDrive e && g.staged && !g.endsBy x && (match g.startD with | some d => decide (d ≤ x) | none => false)

/-- C of R100 for an engine: the ball tick just past the last entry it has written. -/
def State.covered (s : State) (e : Nat) : Nat := (s.eng e).next

/-- The stop number of a Facet on the Girdle (R110). -/
def islandOf (f : Nat) : Nat := if f < 16 then f + 1 else f + 2

/-- The fill of the lane's Bezel at tick `t`: MIN_FILL and BEZEL_LOW (R100, R104, R114). -/
def State.laneFill (s : State) (l t : Nat) : State :=
  let es := (s.laneEngs l).filter fun e => s.feeds e (t + 66)
  match (es.map s.covered).min? with
  | some c =>
    let fill := c - (t + 10)
    let f := laneFacet l
    let low := decide (fill < s.rd FCT_BEZEL_WARN.LOW_TK f)
    let s1 := (s.wr FCT_BEZEL_STAT.MIN_FILL l (min (s.rd FCT_BEZEL_STAT.MIN_FILL l) fill)).modLout l fun o => { o with ample := !low }
    if low && (s.lout l).ample then (s1.inc FCT_BEZEL_STAT.LOW_COUNT l).raise (pgFct f) 0 else s1
  | none => s.modLout l fun o => { o with ample := false }

/-- BEZEL_UNDERRUN (R105): the word for ball tick `d` is missing at `d` − 66; from there to the end of its granule the lane
sends hold words. -/
def State.laneUnder (s : State) (l d : Nat) : State :=
  let missing := (s.laneEngs l).any fun e =>
    s.feeds e d && s.classMatch e l && d % s.engPer e == 0 && !(s.eng e).q.any (fun q => q.tick == d)
  let us := (s.lout l).unders.filter fun u => decide (d < u.2 + 66)
  if missing && !s.underAt l d then
    let g := s.laneGran l
    let stop := (d / g + 1) * g
    let s1 := s.modLout l fun o => { o with unders := us ++ [(d, stop)] }
    if us.any (fun u => u.2 == d) then s1
    else
      let f := laneFacet l
      ((s1.inc FCT_BEZEL_STAT.UNDERRUN_COUNT l).raise (pgFct f) 1).jrn 0x06 (islandOf f) 0x0402
        [.word l, .tick d, .word ((stop - d) / s.laneWord l)]
  else if us.length = (s.lout l).unders.length then s
  else s.modLout l fun o => { o with unders := us }

/-- The windows of the lane's engines are watched (R233, R237). -/
def State.laneStarve (s : State) (l t : Nat) : State :=
  (s.laneEngs l).foldl (fun u e => if u.engBusy e && u.engDP e t then u.settleWins e else u) s

/-- The marker balls of engine A, when the lane is its marker source (R131). -/
def State.laneMarks (s : State) (l t : Nat) : State :=
  let e := 16 * laneFacet l + s.rdX LANE_SRC.ENG_A l
  if s.rdX LANE_SRC.A_EN l = 1 ∧ s.engDrive e = false ∧ s.rdA ENG_CFG.MARK_LANE e = l % 8 then s.showMarks e t (s.underAt l t)
  else s

/-- LANE_OUTPUT_TICK (R100, R320): the lane's output stage at the present tick t. Outside SERVICE the control block of the tick
leaves, if a block begins at it. The word whose ball tick is t, taken at t − 10,
leaves with its markers, or is dropped; the fill is that of the Bezel from t + 10 on; and the word for t + 66 must be in the
Bezel by now. -/
def execLaneOutputTick (l : Fin 256) (s : State) : Host.Outcome State Fault Refusal :=
  chipOnly s <|
    let t := s.epoch
    let s0 := s.settleVersion l.val
    let s1 := if s0.carries l.val t then s0.presentWord l.val t else s0.controlOut l.val t
    let s2 := (s1.dropsAt l.val t).laneMarks l.val t
    ((s2.laneFill l.val t).laneUnder l.val (t + 66)).laneStarve l.val t

end Sys2Proof.Machine
end

