-- ==== Sys2Proof/Machine/Facet.lean ====
section
/-!
DEFINITION. Machine/Facet.lean: the islands' clocks and operating points (R97, R108, R109, R542) and the Bezel statistics' clear
(R114). Island 32 is the AF.
-/

namespace Sys2Proof.Machine

/-! ### Places -/

/-- A register of island `i`: of the FCT page of a Facet, or of the AF global page. -/
def islFld (f a : Fld) (i : Nat) : Fld × Nat := if i < 32 then (f, i) else (a, 0)

/-- The island's value of a register that the FCT page and the AF global page both have. -/
def State.rdI (s : State) (f a : Fld) (i : Nat) : Nat := s.rd (islFld f a i).1 (islFld f a i).2

/-- That register written. -/
def State.wrI (s : State) (f a : Fld) (i v : Nat) : State := s.wr (islFld f a i).1 (islFld f a i).2 v

/-- The island's page, and the index of its journal records: its Girdle stop (R110, R557). -/
def pgIsl (i : Nat) : Nat := if i < 32 then pgFct i else pgAf
def islStop (i : Nat) : Nat := if i < 32 then islandOf i else 17

/-! ### Rails (R542) -/

/-- The rail that feeds island `i`: its group's, or the AF rail. -/
def railOf (i : Nat) : Nat := if i < 32 then i / 4 else 8

/-- The highest voltage among the ON Facets of group `g`, 800 mV with none; the AF's own on rail 8. -/
def State.railVolts (s : State) (g : Nat) : Nat :=
  if g = 8 then (s.isl 32).volt
  else ((((List.range 4).map (4 * g + ·)).filter s.domOn).map fun i => (s.isl i).volt).max?.getD 800

/-- The rail takes what its islands need: a Voltage Write when that has changed, from TRAINING on. -/
def State.settleRail (s : State) (g : Nat) : State :=
  let v := s.railVolts g
  if (s.rail g).mv = v ∨ s.dev < 5 then s
  else (s.setRail g { mv := v, wait := some s.tb }).emit (.avs g v)

/-- AVS_WRITE_RETRY (R542): the write that waits on the rail is acknowledged, or 20 µs after it was sent it is sent again. -/
def execAvsWriteRetry (rail : Fin 10) (acked : Bool) (s : State) : Host.Outcome State Fault Refusal :=
  chipOnly s <|
    match (s.rail rail.val).wait with
    | some t =>
      if acked then s.modRail rail.val fun r => { r with wait := none }
      else if t + 10000 ≤ s.tb then
        (s.modRail rail.val fun r => { r with wait := some s.tb }).emit (.avs rail.val (s.rail rail.val).mv)
      else s
    | none => s

/-! ### The frequency-locked loop (R97) -/

/-- A clock of `mhz` MHz is within ±2 % of `f`. -/
def withinF (f mhz : Nat) : Bool := decide (50 * (max f mhz - min f mhz) ≤ f)

/-- The clock of island `i` is out of range: FLL_LOCK reads 0, and the event is armed again when the clock had been back within range for
1 ms. -/
def State.fllOut (s : State) (i : Nat) : State :=
  (s.wrI FCT_CLK_STAT.FLL_LOCK AF_CLK_STAT.FLL_LOCK i 0).modIsl i fun x =>
    { x with back := none, spent := x.spent && !(match x.back with | some t => decide (t + 500000 ≤ s.tb) | none => false) }

/-- FLL_LOCK (R97, R114): the clock is measured, which FREQ_MHZ shows: FLL_LOCK reads 1 while it is within ±2 % of F, and 0 otherwise. -/
def execFllLock (c : IslClock) (s : State) : Host.Outcome State Fault Refusal :=
  chipOnly s <|
    let i := c.isl.val
    if s.domOn i && s.dev ≥ 5 then
      let s1 := s.wrI FCT_CLK_STAT.FREQ_MHZ AF_CLK_STAT.FREQ_MHZ i c.mhz.val
      if !withinF (s.isl i).freq c.mhz.val then s1.fllOut i
      else if s.rdI FCT_CLK_STAT.FLL_LOCK AF_CLK_STAT.FLL_LOCK i == 0 then
        (s1.wrI FCT_CLK_STAT.FLL_LOCK AF_CLK_STAT.FLL_LOCK i 1).modIsl i fun x => { x with back := some s.tb }
      else s1
    else s

/-- FACET_FLL_UNLOCK (R97, R515): the clock, as measured, has been outside ±2 % of F for more than 10 µs. The event is raised again only
after 1 ms back within range, and not before READY. -/
def execFacetFllUnlock (c : IslClock) (s : State) : Host.Outcome State Fault Refusal :=
  chipOnly s <|
    let i := c.isl.val
    if s.domOn i && s.dev ≥ 5 && !withinF (s.isl i).freq c.mhz.val then
      let s1 := (s.wrI FCT_CLK_STAT.FREQ_MHZ AF_CLK_STAT.FREQ_MHZ i c.mhz.val).fllOut i
      if !(s1.isl i).spent && s.dev ≥ 6 then
        ((s1.modIsl i fun x => { x with spent := true }).raise (pgIsl i) 2).jrn 0x06 (islStop i) 0x0403 [.word i]
      else s1
    else s

/-! ### Operating points (R108, R109) -/

/-- The point in force, as F and V. -/
def State.pointOf (s : State) (i : Nat) : Nat × Nat :=
  (s.rdI FCT_POINT.F_MHZ AF_POINT.F_MHZ i, s.rdI FCT_POINT.V_MV AF_POINT.V_MV i)

/-- A tick is Bezel-safe for the island (R108): the Bezels that its busy engines feed hold 128 tk; one that its engine, while ARMED, has
not begun to fill holds nothing. -/
def State.bezelSafe (s : State) (i : Nat) : Bool :=
  let es := if i < 32 then (List.range 16).map (16 * i + ·) else List.range 512
  es.all fun e =>
    !(s.engBusy e && (if i < 32 then s.feedSet e != [] else s.feedChans e != [])) ||
      decide (s.epoch + 10 + 128 ≤ s.covered e)

/-- The voltage commanded for the island. -/
def State.setVolt (s : State) (i v : Nat) : State := (s.modIsl i fun x => { x with volt := v }).settleRail (railOf i)

/-- The supply of island `i` is at least `v` − 5 mV at the remote sense. -/
def State.voltOk (s : State) (i v : Nat) : Bool := decide (v ≤ s.rdI FCT_VMEAS.VMEAS AF_VMEAS.VMEAS i + 5)

/-- The move's voltage step (R108 rules 1 and 3): where the new V is higher than the V in force, it is raised first and the frequency
waits until VMEAS has reached it, also in a move whose target has been replaced; V is not lowered before F has reached its target. -/
def State.moveVolt (s : State) (i v : Nat) : State :=
  let raise := decide ((s.isl i).volt < v)
  let s1 := if raise then (s.setVolt i v).wrI FCT_CLK_STAT.AVS_OK AF_CLK_STAT.AVS_OK i (flag (s.voltOk i v)) else s
  let next := if (s.pointOf i).2 < v ∧ s.voltOk i v = false then 1 else 2
  s1.modIsl i fun x => { x with phase := next, at' := if x.phase = next ∧ raise = false then x.at' else s.tb }

/-- The move is complete (R108 rules 3 and 5). -/
def State.pointDone (s : State) (i f v : Nat) : State :=
  let old := s.pointOf i
  let s1 := (s.wrI FCT_POINT.F_MHZ AF_POINT.F_MHZ i f).wrI FCT_POINT.V_MV AF_POINT.V_MV i v
  let s2 := (s1.modIsl i fun x => { x with target := none, phase := 0, told := false }).setVolt i v
  let s3 := (s2.wrI FCT_CLK_STAT.POINT_PEND AF_CLK_STAT.POINT_PEND i 0).wrI FCT_CLK_STAT.AVS_OK AF_CLK_STAT.AVS_OK i
    (flag (s.voltOk i v))
  (s3.raise (pgIsl i) 3).jrn 0x06 (islStop i) 0x0404 [.word (old.1 * 65536 + old.2), .word (f * 65536 + v)]

/-- The frequency phase is over as soon as F has reached its target. -/
def State.moveFreq (s : State) (i : Nat) : State :=
  match (s.isl i).target with
  | some (f, v) =>
    if (s.isl i).phase = 2 ∧ (s.isl i).freq = f then s.pointDone i f v else s
  | none => s

/-- A point requested of the island (R108): it replaces the target of a move in progress, which still raises V first. -/
def State.requestPoint (s : State) (i f v : Nat) : State :=
  let x := s.isl i
  if x.target.isNone && s.pointOf i == (f, v) then s
  else
    let s1 := (s.modIsl i fun x => { x with target := some (f, v) }).wrI FCT_CLK_STAT.POINT_PEND AF_CLK_STAT.POINT_PEND i 1
    if x.phase = 0 then
      if x.target.isNone then s1.modIsl i fun x => { x with reqAt := s.tb, told := false } else s1
    else (s1.moveVolt i v).moveFreq i

/-- FCT_POINT_MOVE (R108): a Bezel-safe moment; the island starts toward its requested point. -/
def execFctPointMove (i : Fin 33) (s : State) : Host.Outcome State Fault Refusal :=
  chipOnly s <|
    match (s.isl i.val).target with
    | some (_, v) =>
      if s.domOn i.val && (s.isl i.val).phase == 0 && s.bezelSafe i.val then (s.moveVolt i.val v).moveFreq i.val else s
    | none => s

/-- VMEAS_SETTLED (R108, R542): the supply reads `vmeas` at the remote sense; the frequency steps begin when that is at least
the new V − 5 mV. -/
def execVmeasSettled (i : Fin 33) (vmeas : Fin 1024) (s : State) : Host.Outcome State Fault Refusal :=
  chipOnly s <|
    if s.domOn i.val then
      let ok := decide ((s.isl i.val).volt ≤ vmeas.val + 5)
      let s1 := (s.wrI FCT_VMEAS.VMEAS AF_VMEAS.VMEAS i.val vmeas.val).wrI FCT_CLK_STAT.AVS_OK AF_CLK_STAT.AVS_OK i.val (flag ok)
      let s2 := if ok then s1.modRail (railOf i.val) fun r => { r with wait := none } else s1
      match (s.isl i.val).target with
      | some (_, v) =>
        if (s.isl i.val).phase = 1 ∧ s2.voltOk i.val v = true then
          (s2.modIsl i.val fun x => { x with phase := 2, at' := s.tb }).moveFreq i.val
        else s2
      | none => s2
    else s

/-- FCT_FREQ_STEP (R108 rule 4): 1 µs after the last step, F moves 10 MHz toward its target. -/
def execFctFreqStep (i : Fin 33) (s : State) : Host.Outcome State Fault Refusal :=
  chipOnly s <|
    let x := s.isl i.val
    match x.target with
    | some (f, _) =>
      if s.domOn i.val && x.phase == 2 && decide (x.at' + 500 ≤ s.tb) then
        let next := if x.freq < f then min f (x.freq + 10) else max f (x.freq - 10)
        (s.setIsl i.val { x with freq := next, at' := s.tb }).moveFreq i.val
      else s
    | none => s

/-- FCT_POINT_DEFERRED (R108): no Bezel-safe moment within 1 ms of the request, or VMEAS has not settled within 200 µs. The
event is raised once; the island keeps its old point and keeps trying. -/
def execFctPointDeferred (i : Fin 33) (s : State) : Host.Outcome State Fault Refusal :=
  chipOnly s <|
    let x := s.isl i.val
    let late := (x.phase == 0 && decide (x.reqAt + 500000 ≤ s.tb)) || (x.phase == 1 && decide (x.at' + 100000 ≤ s.tb))
    if x.target.isSome && late && !x.told then
      (s.setIsl i.val { x with told := true }).raise (pgIsl i.val) 4
    else s

/-- A point outside its range or off its step (R114, R115). -/
def pointBad (v : Nat) : Bool :=
  let f := bits v 16 11
  let mv := bits v 0 10
  decide (f < 800 ∨ 1300 < f ∨ f % 10 ≠ 0 ∨ mv < 700 ∨ 850 < mv ∨ mv % 5 ≠ 0)

/-- The plan's point of island `i` (R463). -/
def State.planPoint (s : State) (i : Nat) : Nat × Nat :=
  (s.rd LUS_ISL_PLAN.F_MHZ (islStop i), s.rd LUS_ISL_PLAN.V_MV (islStop i))

/-- What would refuse the override while it runs (R109, R388): an engine of the Facet, or a drive channel. -/
def State.islBusy (s : State) (i : Nat) : Bool := if i < 32 then s.facetBusy i else s.anyDrvBusy

/-- A write of FCT_OVR or AF_OVR (R109). -/
def State.writeOvr (s : State) (i : Nat) (w : Wr) : State :=
  let v := w.val.toNat
  let p := pgIsl i
  s.write w p 0x048 (cause (!s.on LOCK.OPEN p) 0x0101 ++ cause (pointBad v) 0x0001 ++ cause (bit v 31 && s.islBusy i) 0x0002)
    fun s =>
      let s1 := ((s.wrI FCT_OVR.OVR_EN AF_OVR.OVR_EN i (bits v 31 1)).wrI FCT_OVR.F_MHZ AF_OVR.F_MHZ i (bits v 16 11)).wrI
        FCT_OVR.V_MV AF_OVR.V_MV i (bits v 0 10)
      let s2 := s1.wrI FCT_CLK_STAT.OVR_ACTIVE AF_CLK_STAT.OVR_ACTIVE i (bits v 31 1)
      if bit v 31 then s2.requestPoint i (bits v 16 11) (bits v 0 10)
      else if s.rdI FCT_OVR.OVR_EN AF_OVR.OVR_EN i = 1 then s2.requestPoint i (s.planPoint i).1 (s.planPoint i).2
      else s2

/-- FCT_OVR_WRITE (R109). -/
def execFctOvrWrite (i : Fin 33) (w : Wr) (s : State) : Host.Outcome State Fault Refusal := chipOnly s (s.writeOvr i.val w)

/-! ### Statistics (R114) -/

/-- A write of FCT_BEZEL_CLR: CLR clears the Bezel statistics of the Facet and FCT_STORE_ARB. -/
def State.writeBezelClr (s : State) (f : Nat) (w : Wr) : State :=
  s.write w (pgFct f) 0x054 [] fun s =>
    if bit w.val.toNat 0 then
      let s1 := (List.range 8).foldl (fun t k =>
        let l := 8 * f + k
        ((t.wr FCT_BEZEL_STAT.UNDERRUN_COUNT l 0).wr FCT_BEZEL_STAT.LOW_COUNT l 0).wr FCT_BEZEL_STAT.MIN_FILL l 0x3FF) s
      (s1.wr FCT_STORE_ARB.REFILL_FORCED f 0).wr FCT_STORE_ARB.ENG_WAIT_MAX f 0
    else s

/-- FCT_BEZEL_CLR (R114). -/
def execFctBezelClr (f : Fin 32) (w : Wr) (s : State) : Host.Outcome State Fault Refusal :=
  chipOnly s (s.writeBezelClr f.val (orBits w 0x1))

end Sys2Proof.Machine
end

