-- ==== Sys2Proof/Machine/Segment.lean ====
section
/-!
DEFINITION. Machine/Segment.lean: the segment directory and its commands (R224 to R228), the scrubber (R223), stream window
configuration (R234) and the double-banked tables' states and swaps (R246 to R250).
-/

namespace Sys2Proof.Machine

/-! ### The directory (R224 to R228) -/

/-- Entry `n` of Facet `f` replaced. -/
def State.setDirEnt (s : State) (f n : Nat) (d : DirEnt) : State := s.setDir (f * 8192 + n) d

/-- An entry is a VALID resident one. -/
def DirEnt.resident (d : DirEnt) : Bool := d.valid && !d.stream

/-- The engines of Facet `f` whose used set holds entry `n` (R228). -/
def State.usersOf (s : State) (f n : Nat) : List Nat :=
  ((List.range 16).map (16 * f + ·)).filter fun e => (s.eng e).used.contains n

/-- The entry is in the used set of a busy engine. -/
def State.segInUse (s : State) (f n : Nat) : Bool := (s.usersOf f n).any s.engBusy

/-- PROG_OK of the engines that use the entry clears (R228). -/
def State.segChanged (s : State) (f n : Nat) : State := (s.usersOf f n).foldl (fun t e => t.wr ENG_STAT.PROG_OK e 0) s

/-- The phase-indexed table lengths, in granules (R225). -/
def tableLens : List Nat := [16, 32, 64, 128, 256, 512, 1024, 2048, 4096]

/-- An entry that WRITE refuses with VALUE_RANGE (R225). -/
def DirEnt.bad (d : DirEnt) : Bool :=
  d.kind == 3 || bits d.w1 18 8 != 0 || bits d.w2 17 15 != 0 || (d.isPin && !d.stream) || (d.stream && d.kind == 2) ||
    d.length == 0 || (d.stream && bits d.w2 5 12 != 0) || (!d.stream && decide (131072 < d.base + d.length)) ||
    (d.kind == 2 && !tableLens.contains d.length)

/-- Granules [b, b + n) meet an enabled window of the Facet, other than `but` (R225, R234). -/
def State.meetsWindow (s : State) (f b n but : Nat) : Bool :=
  (List.range 32).any fun w =>
    let i := winId f w
    w != but && s.on WIN_CFG.EN i && decide (s.rd WIN_CFG.BASE i < b + n ∧ b < s.rd WIN_CFG.BASE i + s.rd WIN_SIZE.SIZE i)

/-- The entry as SEG_DIR_W0 to W2 hold it. -/
def State.dirRegs (s : State) (f : Nat) : DirEnt :=
  { w0 := s.rd SEG_DIR_W0.W f, w1 := s.rd SEG_DIR_W1.W f, w2 := s.rd SEG_DIR_W2.W f }

/-- A command is taken up: BUSY, with RESULT NONE (R225). -/
def State.dirStart (s : State) (f cmd n : Nat) : State :=
  ((s.wr SEG_DIR_STAT.BUSY f 1).wr SEG_DIR_STAT.RESULT f 0).modStore f fun x => { x with cmd := some (cmd, n) }

/-- INVALIDATE: VALID and CHK_OK clear (R225, R228). -/
def State.dirInvalidate (s : State) (f n : Nat) : State := (s.setDirEnt f n (s.dirEnt f n).invalidated).segChanged f n

/-- A write of SEG_DIR_CMD (R225, R228, R253). -/
def State.writeDirCmd (s : State) (f : Nat) (w : Wr) : State :=
  let cmd := bits w.val.toNat 0 3
  let n := s.rd SEG_DIR_IDX.INDEX f
  let d := s.dirRegs f
  s.write w (pgSeg f) 0x050
    (cause (s.on SEG_DIR_STAT.BUSY f) 0x0005 ++ cause (cmd == 0 || decide (4 < cmd)) 0x0001 ++
      cause (cmd == 2 && d.bad) 0x0001 ++ cause (cmd == 3 && !(s.dirEnt f n).resident) 0x0001 ++
      cause ((cmd == 2 || cmd == 3 || cmd == 4) && s.segInUse f n) 0x0002 ++
      cause (cmd == 2 && d.resident && s.meetsWindow f d.base d.length 32) 0x0004)
    fun s =>
      let s1 := s.dirStart f cmd n
      if cmd = 2 then (s1.dirInvalidate f n).setDirEnt f n (d.withChk false)
      else if cmd = 4 then s1.dirInvalidate f n
      else s1

/-- SEG_DIR_CMD with its command replaced. -/
def dirWr (w : Wr) (cmd : Nat) : Wr := { w with val := BitVec.ofNat 32 cmd }

/-- SEG_DIR_READ (R225). -/
def execSegDirRead (f : Fin 32) (w : Wr) (s : State) : Host.Outcome State Fault Refusal := chipOnly s (s.writeDirCmd f.val (dirWr w 1))

/-- SEG_DIR_WRITE (R225). -/
def execSegDirWrite (f : Fin 32) (w : Wr) (s : State) : Host.Outcome State Fault Refusal := chipOnly s (s.writeDirCmd f.val (dirWr w 2))

/-- SEG_DIR_CHECK (R226). -/
def execSegDirCheck (f : Fin 32) (w : Wr) (s : State) : Host.Outcome State Fault Refusal := chipOnly s (s.writeDirCmd f.val (dirWr w 3))

/-- SEG_DIR_INVALIDATE (R225). -/
def execSegDirInvalidate (f : Fin 32) (w : Wr) (s : State) : Host.Outcome State Fault Refusal :=
  chipOnly s (s.writeDirCmd f.val (dirWr w 4))

/-- CHECK completes (R226): `errs` are the lines of the segment read with an error. The result and the new state. -/
def State.dirCheck (s : State) (f n : Nat) (errs : List (Nat × Ecc)) : Nat × State :=
  let d := s.dirEnt f n
  let hits := s.linesEcc f (2 * d.base) (2 * (d.base + d.length)) errs
  let s1 := hits.foldl (fun t x => t.eccRead f x.1 x.2) s
  let crc := s.segCrc f d
  let r := if hits.any (fun x => x.2 == .uncorrectable) then 3 else if crc = d.w0 then 1 else 2
  let s2 := (s1.wr SEG_DIR_CRC.CRC f crc).setDirEnt f n (d.withChk (r == 1))
  (r, if d.chkOk && r != 1 then s2.segChanged f n else s2)

/-- SEG_DIR_DONE (R225, R226): the command in progress completes. -/
def execSegDirDone (f : Fin 32) (errs : List (Nat × Ecc)) (s : State) : Host.Outcome State Fault Refusal :=
  chipOnly s <|
    match (s.store f.val).cmd with
    | some (cmd, n) =>
      let d := s.dirEnt f.val n
      let (r, s1) := if cmd = 3 then s.dirCheck f.val n errs
        else if cmd = 1 then (1, ((s.wr SEG_DIR_W0.W f.val d.w0).wr SEG_DIR_W1.W f.val d.w1).wr SEG_DIR_W2.W f.val d.w2)
        else (1, s)
      let s2 := ((s1.wr SEG_DIR_STAT.BUSY f.val 0).wr SEG_DIR_STAT.RESULT f.val r).modStore f.val fun x =>
        { x with cmd := none, closer := none }
      let s3 := match (s.store f.val).closer with
        | some c => s2.modRflc c fun x => { x with closed := some r }
        | none => s2
      s3.raise (pgSeg f.val) 0
    | none => s

/-! ### The scrubber (R223) -/

/-- SCRUB_STEP (R223): GAP Facet cycles after the last line the scrubber reads the next one, and meets `ecc` there. `other` says
that another write reached the line before its write-back. The line a correction leaves is the one it read, since the
model's memory holds corrected data. -/
def execScrubStep (f : Fin 32) (ecc : Ecc) (other : Bool) (s : State) : Host.Outcome State Fault Refusal :=
  chipOnly s <|
    if s.on SEG_SCRUB.EN f.val && s.domOn f.val then
      let l := (s.store f.val).scrub
      let s1 := s.eccRead f.val l ecc
      let fixed := s.lineEcc f.val l ecc == .corrected && !other
      let held := if s.lineEcc f.val l ecc == .corrected && other then some l else none
      let s2 := (if fixed then s1.lineWritten f.val l true else s1).modStore f.val fun x => { x with scrub := (l + 1) % 262144, hold := held }
      if l = 262143 then s2.incW SEG_SCRUB_STAT.PASSES f.val else s2
    else s

/-! ### Stream windows (R229 to R237) -/

/-- The marks of a window break R233, or RESUME_MARK or WARN is out of range (R251, R253). -/
def State.marksBad (s : State) (i : Nat) : Bool :=
  let n := s.rd WIN_SIZE.SIZE i
  let hi := s.rd WIN_MARKS.HIGH_MARK i
  let r := s.rd WIN_RESUME.RESUME_MARK i
  decide (hi ≤ s.rd WIN_MARKS.LOW_MARK i ∨ n < hi + 16 ∨ r < 1 ∨ hi < r ∨ n < s.rd WIN_RESUME.WARN i)

/-- [b, b + n) meets a VALID resident entry of the Facet. -/
def State.meetsEntry (s : State) (f b n : Nat) : Bool :=
  (s.dirOf f).any fun p => p.2.resident && decide (p.2.base < b + n ∧ b < p.2.base + p.2.length)

/-- A write of WIN_CFG (R234, R253). -/
def State.writeWinCfg (s : State) (f w : Nat) (x : Wr) : State :=
  let v := x.val.toNat
  let i := winId f w
  let en := s.on WIN_CFG.EN i
  let base := bits v 0 17
  let size := s.rd WIN_SIZE.SIZE i
  let changes := bits v 24 4 != s.rd WIN_CFG.OWNER i || base != s.rd WIN_CFG.BASE i
  s.write x (pgSeg f) (0x200 + 0x20 * w)
    (cause (bit v 31 && !en && (s.marksBad i || decide (131072 < base + size))) 0x0001 ++
      cause (en && (changes || (!bit v 31 && s.engBusy (s.winOwner f w)))) 0x0003 ++
      cause (bit v 31 && !en && (s.meetsWindow f base size w || s.meetsEntry f base size)) 0x0004)
    fun s =>
      let s1 := ((s.wr WIN_CFG.EN i (bits v 31 1)).wr WIN_CFG.OWNER i (bits v 24 4)).wr WIN_CFG.BASE i base
      if bit v 31 && !en then
        ((s1.setWin i { initFrom := some s.tb }).wr WIN_STAT.INIT i 1).wr WIN_STAT.REQ i 0
      else if en && !bit v 31 then
        ((s1.modWin i fun u => { u with initFrom := none }).wr WIN_STAT.INIT i 0).wr WIN_STAT.REQ i 0
      else s1

/-- WIN_ENABLE (R234): a write of WIN_CFG with EN 1. -/
def execWinEnable (f w : Fin 32) (x : Wr) (s : State) : Host.Outcome State Fault Refusal :=
  chipOnly s (s.writeWinCfg f.val w.val (orBits x 0x80000000))

/-- WIN_DISABLE (R234): a write of WIN_CFG with EN 0. -/
def execWinDisable (f w : Fin 32) (x : Wr) (s : State) : Host.Outcome State Fault Refusal :=
  chipOnly s (s.writeWinCfg f.val w.val (clearBits x 0x80000000))

/-- The side bytes of a granule with its stream tag (R231): the marker bits stay. -/
def State.tagGranule (s : State) (f g tag : Nat) : State :=
  ((List.range 16).foldl (fun t k =>
    t.setMemB (facetBase f + 0x00800000 + 16 * g + k) (s.side f (16 * g + k) % 4 + 4 * bits tag (2 * (k % 8)) 2)) s).linesWritten
      f (2 * g) 2 false

/-- WIN_INIT_DONE (R234): every slot's tag has become 0xFFFF; refill may proceed. -/
def execWinInitDone (f w : Fin 32) (s : State) : Host.Outcome State Fault Refusal :=
  chipMem s <|
    let i := winId f.val w.val
    if (s.win i).initFrom.isSome then
      let s1 := (List.range (s.rd WIN_SIZE.SIZE i)).foldl (fun t k => t.tagGranule f.val (s.rd WIN_CFG.BASE i + k) 0xFFFF) s
      ((s1.modWin i fun u => { u with initFrom := none }).wr WIN_STAT.INIT i 0).settleWin f.val w.val
    else s

/-- A write of SEG_CLR (R251). -/
def State.writeSegClr (s : State) (f : Nat) (w : Wr) : State :=
  s.write w (pgSeg f) 0x06C [] fun s =>
    if bit w.val.toNat 0 then
      let s1 := (((s.wr SEG_ECC_CNT.UNCORR f 0).wr SEG_ECC_CNT.CORR f 0).wr SEG_ECC_ADDR.VALID f 0).wr SEG_ECC_ADDR.UNC f 0
      let s2 := (List.range 16).foldl (fun t k => (t.wr SEG_SKIPPED.SKIPPED (16 * f + k) 0).wr SEG_SHIFT.SHIFT (16 * f + k) 0)
        (s1.wr SEG_ECC_ADDR.LINE f 0)
      (List.range 32).foldl (fun t k => (t.wr WIN_CNT.STARVE_COUNT (winId f k) 0).wr WIN_CNT.STALE_COUNT (winId f k) 0) s2
    else s

/-- SEG_CLR (R251): a write with CLR 1. -/
def execSegClr (f : Fin 32) (w : Wr) (s : State) : Host.Outcome State Fault Refusal := chipOnly s (s.writeSegClr f.val (orBits w 0x1))

/-! ### Double-banked tables (R246 to R250) -/

/-- The page of table `t`, and its control register's offset there. -/
def tabPage (t : Nat) : Nat := if t < 128 then pgApg t else if t < 384 then pgLane (t - 128) else pgDrv (8 * (t - 384))
def tabCtl (t : Nat) : Nat :=
  if t < 128 then 0x800 * (t % 2) + 0x048 else if t < 384 then laneOff (t - 128) 0x204 else 0x044

/-- The IRQ bit TABLE_SWAP_DEFERRED of the table (R306, R308, R389). -/
def tabIrq (t : Nat) : Nat := if t < 128 then 16 * (t % 2) + 2 else if t < 384 then 8 * (t % 4) + 7 else 25

/-- The CLASS and INDEX of the table's records (R492). -/
def tabClass (t : Nat) : Nat × Nat := if t < 128 then (0x02, 512 + t) else if t < 384 then (0x03, t - 128) else (0x0A, 8 * (t - 384))

/-- The refusal code TABLE_CLOSED of the page. -/
def tabClosedCode (t : Nat) : Nat := if t < 128 then 0x0003 else if t < 384 then 0x0012 else 0x0006

/-- The entries of the inactive bank that the check is taken over (R299, R303, R386). -/
def State.tabSize (s : State) (t : Nat) : Nat := if t < 128 then 48 else if t < 384 then 11 else 2 ^ s.rd PT_CFG.LOG2L (t - 384)

/-- LEAD, and the origin and step of the grid of the table's boundaries (R57, R299, R303, R386): for an APG the granule boundaries
of its owner; for an owner that is a DRIVE engine, which feeds no lane, as `engGran` says (DESIGN CHOICE, log 40). -/
def State.tabGrid (s : State) (t : Nat) : Nat × Nat × Nat :=
  if t < 128 then (1024, 0, s.engGran (16 * (t / 4) + s.rdA APG_CFG.OWNER t))
  else if t < 384 then (1024, 0, s.laneGran (t - 128))
  else if s.gridOn (t - 384) then (512 * s.grpPer (t - 384), (s.grp (t - 384)).o, 16 * s.grpPer (t - 384))
  else (1024, 0, 16)

/-- An entry of the inactive bank written: the bank must be OPEN, and a write during CLOSING aborts the close (R247). -/
def State.tabWrite (s : State) (t i v : Nat) : State :=
  (s.wr (tabRegs t).state (tabRegs t).i 0).setTabEntry t (1 - s.tabActive t) i v

/-- A write to the inactive bank is refused (R247, R303, R307, R386): it is not OPEN, or a REOPEN has not taken effect yet. -/
def State.tabClosed (s : State) (t : Nat) : Bool := !s.tabOpen t || (s.tab t).reopenAt.isSome

/-- A write that reaches the inactive bank of table `t` in CLOSING aborts the close (R247). -/
def State.tabAbort (s : State) (t : Nat) : State :=
  if s.rd (tabRegs t).state (tabRegs t).i = 1 then s.wr (tabRegs t).state (tabRegs t).i 0 else s

/-- A register write of the inactive bank of table `t` on page `p` at `off`, whose answer is `u`: a close under way is aborted unless
the write was dropped (R247). -/
def State.tabReg (s u : State) (w : Wr) (t p : Nat) : State :=
  if s.reaches w.req && s.ready p then u.tabAbort t else u

/-- The inactive bank becomes OPEN (R247, R250). -/
def State.tabOpenUp (s : State) (t : Nat) : State :=
  let r := tabRegs t
  ((s.wr r.state r.i 0).wr r.done r.i 0).wr r.ok r.i 0

/-- A write of the table's control register: REQ_BANK is shadowed, CLOSE and REOPEN act (R247). -/
def State.writeTabCtl (s : State) (t : Nat) (w : Wr) : State :=
  let v := w.val.toNat
  s.write w (tabPage t) (tabCtl t) [] fun s =>
    let s1 := if t < 128 then s else s.plainWrite (tabPage t) [((tabRegs t).req, (tabRegs t).i)] v []
    let s2 := if bit v 1 && s1.tabOpen t then s1.wr (tabRegs t).state (tabRegs t).i 1 else s1
    if bit v 2 then s2.modTab t fun x => { x with reopenAt := some (s.epoch + (s.tabGrid t).1) } else s2

/-- TABLE_CLOSE (R247): a write with CLOSE 1. -/
def execTableClose (t : Fin 392) (w : Wr) (s : State) : Host.Outcome State Fault Refusal :=
  chipOnly s (s.writeTabCtl t.val (orBits w 0x2))

/-- TABLE_REOPEN (R247): a write with REOPEN 1. -/
def execTableReopen (t : Fin 392) (w : Wr) (s : State) : Host.Outcome State Fault Refusal :=
  chipOnly s (s.writeTabCtl t.val (orBits w 0x4))

/-- The CRC-32C of the inactive bank (R247). -/
def State.tabCrc (s : State) (t : Nat) : Nat :=
  crc32c ((List.range (s.tabSize t)).flatMap fun i => dwordBytes (s.tabEntry t (1 - s.tabActive t) i))

/-- TABLE_CLOSE_DONE (R247): the CRC of a CLOSING bank completes. -/
def execTableCloseDone (t : Fin 392) (s : State) : Host.Outcome State Fault Refusal :=
  chipOnly s <|
    let r := tabRegs t.val
    if s.rd r.state r.i = 1 then
      let ok := s.tabCrc t.val == s.rd r.check r.i
      let s1 := ((s.wr r.state r.i 2).wr r.done r.i 1).wr r.ok r.i (flag ok)
      s1.modTab t.val fun x => { x with okSince := if ok then some s.epoch else none }
    else s

/-- TABLE_REOPEN_EFFECT (R247): LEAD after the REOPEN, the bank that is inactive then becomes OPEN. -/
def execTableReopenEffect (t : Fin 392) (s : State) : Host.Outcome State Fault Refusal :=
  chipOnly s <|
    match (s.tab t.val).reopenAt with
    | some a =>
      if a ≤ s.epoch then
        (s.tabOpenUp t.val).modTab t.val fun x => { x with
          reopenAt := none, okSince := none,
          okWas := match x.okSince with | some b => some (b, s.epoch) | none => x.okWas }
      else s
    | none => s

/-- The APG's state is taken at `x`, so that what has been presented by then stays as the bank before a swap gave it: the held address
of a PAUSE or a NOP vector among it (R290, R296). -/
def State.anchorApg (s : State) (a x : Nat) : State :=
  let e := 16 * (a / 4) + s.rdA APG_CFG.OWNER a
  match (s.eng e).presented x with
  | some p =>
    if p.kind = .play ∧ s.servedApg e (s.engStep e p.step) = some a ∧ p.start < x then
      let q : Pos := { p with start := x, fresh := false, apgs := s.apgsAt e p x }
      s.modEng e fun g => { g with line := g.line.flatMap fun r => if r = p then [r, q] else [r] }
    else s
  | none => s

/-- The swap happens (R248, R250): with a phase table its LOG2L and INTERP swap too (R386). -/
def State.tabSwap (s : State) (t : Nat) : State :=
  let r := tabRegs t
  let s1 := (s.wr r.active r.i (1 - s.tabActive t)).tabOpenUp t
  let s2 := s1.modTab t fun x => { x with okSince := none, okWas := none, commitFrom := none, told := false }
  if t < 128 then s2
  else if t < 384 then s2.inc LANE_COMP_CNT.SWAP_COUNT (t - 128)
  else
    let g := t - 384
    (((s2.wr PT_ACT_CFG.LOG2L g (s.rd PT_CFG.LOG2L g)).wr PT_ACT_CFG.INTERP g (s.rd PT_CFG.INTERP g)).wr PT_CFG.LOG2L g
      (s.rd PT_ACT_CFG.LOG2L g)).wr PT_CFG.INTERP g (s.rd PT_ACT_CFG.INTERP g)

/-- The swap of boundary `d` is deferred (R249): raised and journalled on the page, and on the engine that asked. -/
def State.tabDefer (s : State) (t d : Nat) (e : Option Nat) : State :=
  let s1 := (s.raise (tabPage t) (tabIrq t)).jrn (tabClass t).1 (tabClass t).2 0x030F [.tick d]
  let s2 := if 128 ≤ t ∧ t < 384 then s1.inc LANE_COMP_CNT.DEFER_COUNT (t - 128) else s1
  match e with
  | some e => s2.raiseEng e 15
  | none => s2

/-- TABLE_SWAP (R248, R249): a boundary of the table with a swap requested, by steps or by a commit. All requests that fall on
it make one swap. -/
def execTableSwap (t : Fin 392) (s : State) : Host.Outcome State Fault Refusal :=
  chipOnly s <|
    let (lead, o, g) := s.tabGrid t.val
    let x := s.tab t.val
    let due := x.reqs.filter fun r => decide (r.1 ≤ s.epoch)
    let onGrid : Bool := decide (o ≤ s.epoch) && (s.epoch - o) % max 1 g == 0
    let asked := onGrid && (match x.commitFrom with | some d => decide (d ≤ s.epoch) | none => false)
    let s1 := s.modTab t.val fun x => { x with reqs := x.reqs.filter fun r => decide (s.epoch < r.1) }
    if due.any (fun r => x.closedAt (r.1 - lead)) || (asked && x.closedAt (s.epoch - lead)) then
      (if t.val < 128 then s1.anchorApg t.val s.epoch else s1).tabSwap t.val
    else
      let s2 := due.foldl (fun u r => u.tabDefer t.val r.1 (some r.2)) s1
      if asked && !x.told then (s2.modTab t.val fun x => { x with told := true }).tabDefer t.val s.epoch none else s2

end Sys2Proof.Machine
end

