-- ==== Sys2Proof/Machine/Band.lean ====
section
/-!
DEFINITION. Machine/Band.lean: the band tables of the TPLL and the quads (R88 to R90), and the quad PLLs (R83 to R87, R94, R95).
-/

namespace Sys2Proof.Machine

/-! ### Band tables (R88 to R90) -/

/-- The table of the TPLL, and of quad `q`. -/
def tabTpll : Nat := 392
def tabQuad (q : Nat) : Nat := 400 + q

/-- A loop: the TPLL, or a quad. Its page, its table, the entries of a bank, and the mask of an entry's bits. -/
def loopPage (q : Option Nat) : Nat := match q with | none => pgTpll | some q => pgQpll q
def loopTab (q : Option Nat) : Nat := match q with | none => tabTpll | some q => tabQuad q
def loopSize (q : Option Nat) : Nat := match q with | none => 64 | some _ => 8
def loopMask (q : Option Nat) : Nat := match q with | none => 0x80FFFFFF | some _ => 0x8000007F

/-- The field of the loop: the TPLL's, or the quad's. -/
def loopFld (q : Option Nat) (t f : Fld) : Fld × Nat := match q with | none => (t, 0) | some q => (f, q)

/-- ACTIVE_BANK of the loop. -/
def State.loopActive (s : State) (q : Option Nat) : Nat :=
  let f := loopFld q TPLL_BAND_CTL.ACTIVE_BANK QPLL_BAND_CTL.ACTIVE_BANK
  s.rd f.1 f.2

/-- The IRQ TABLE_SWAP_DEFERRED of the loop's page. -/
def loopDefer (q : Option Nat) : Nat := match q with | none => 6 | some _ => 4

/-- BUILD_DONE and CHECK_OK of the loop set. -/
def State.setBuilt (s : State) (q : Option Nat) (done ok : Nat) : State :=
  let d := loopFld q TPLL_BAND_CTL.BUILD_DONE QPLL_BAND_CTL.BUILD_DONE
  let o := loopFld q TPLL_BAND_CTL.CHECK_OK QPLL_BAND_CTL.CHECK_OK
  (s.wr d.1 d.2 done).wr o.1 o.2 ok

/-- A write of a TPLL_BAND or QPLL_BAND entry (R90). -/
def State.writeBand (s : State) (q : Option Nat) (i : Nat) (w : Wr) : State :=
  let off := match q with | none => 0x100 + 4 * i | some _ => 0x060 + 4 * i
  s.write w (loopPage q) off [] fun s =>
    (s.setTabEntry (loopTab q) (1 - s.loopActive q) i (w.val.toNat &&& loopMask q)).setBuilt q 0 0

/-- BAND_ENTRY_WRITE (R90): entry `i` of the TPLL's table, or, modulo 8, of a quad's. -/
def execBandEntryWrite (quad : Option (Fin 64)) (i : Fin 64) (w : Wr) (s : State) : Host.Outcome State Fault Refusal :=
  chipOnly s (s.writeBand (quad.map (·.val)) (if quad.isNone then i.val else i.val % 8) w)

/-- The CRC-32C of a bank of the loop's table (R90). -/
def State.bankCrc (s : State) (q : Option Nat) (b : Nat) : Nat :=
  crc32c ((List.range (loopSize q)).flatMap fun i => dwordBytes (s.tabEntry (loopTab q) b i))

/-- CLOSE (R90). -/
def State.closeBand (s : State) (q : Option Nat) : State :=
  let c := loopFld q TPLL_BAND_CHECK.CHECK QPLL_BAND_CHECK.CHECK
  s.setBuilt q 1 (flag (s.bankCrc q (1 - s.loopActive q) == s.rd c.1 c.2))

/-- A write of TPLL_BAND_CTL or QPLL_BAND_CTL: REQ_BANK is shadowed, CLOSE acts. -/
def State.writeBandCtl (s : State) (q : Option Nat) (w : Wr) : State :=
  let off := match q with | none => 0x074 | some _ => 0x048
  s.write w (loopPage q) off [] fun s =>
    let s1 := s.plainWrite (loopPage q) [loopFld q TPLL_BAND_CTL.REQ_BANK QPLL_BAND_CTL.REQ_BANK] w.val.toNat []
    if bit w.val.toNat 1 then s1.closeBand q else s1

/-- BAND_CLOSE (R90): a write of BAND_CTL with CLOSE 1. -/
def execBandClose (quad : Option (Fin 64)) (w : Wr) (s : State) : Host.Outcome State Fault Refusal :=
  chipOnly s (s.writeBandCtl (quad.map (·.val)) (orBits w 0x2))

/-- The banks of the loop swap (R90): the new inactive bank reads its old content, not built. -/
def State.swapBand (s : State) (q : Option Nat) : State :=
  let a := loopFld q TPLL_BAND_CTL.ACTIVE_BANK QPLL_BAND_CTL.ACTIVE_BANK
  ((s.wr a.1 a.2 (1 - s.rd a.1 a.2)).setBuilt q 0 0).modTab (loopTab q) fun t => { t with told := false }

/-! ### Quads (R83 to R87) -/

/-- QPLL_STAT.STATE: 0 OFF, 1 ACQUIRE, 2 LOCKED, 3 RELOCK, 4 FAILED. -/
def State.quadState (s : State) (q : Nat) : Nat := s.rd QPLL_STAT.STATE q

/-- The state set: its event (R200), and the lanes, which are DARK outside LOCKED (R85, R321). -/
def State.quadTo (s : State) (q st : Nat) : State :=
  let old := s.quadState q
  let s1 := (s.wr QPLL_STAT.STATE q st).wr QPLL_STAT.ATTEMPT q (if st = 3 then s.rd QPLL_STAT.ATTEMPT q else 0)
  let s2 := if old = st then s1 else s1.produce (prodId 0xC q) s1.now 0
  if old = 2 ∧ st ≠ 2 then (List.range 4).foldl (fun t k => t.laneDark (4 * q + k) 2) s2
  else if st = 2 then (List.range 4).foldl (fun t k => t.laneWake (4 * q + k)) s2
  else s2

/-- The band the quad selects (R89): of its bin, or of the nearest bin whose entry is VALID, the lower on a tie. -/
def State.quadBand (s : State) (q : Nat) : Option Nat :=
  let e := fun i => s.tabEntry (tabQuad q) (s.loopActive (some q)) i
  let i := s.quadBin q
  let tries := i :: (List.range 7).flatMap fun d => (if d + 1 ≤ i then [i - (d + 1)] else []) ++ [i + d + 1]
  (tries.find? fun j => decide (j < 8) && bit (e j) 31).map fun j => bits (e j) 0 7

/-- FAILED (R86, R89). -/
def State.quadFailed (s : State) (q : Nat) : State := (s.quadTo q 4).raise (pgQpll q) 2

/-- ACQUIRE begins (R84, R89). Before CLOCKING the tables are not loaded and TB does not run: the band is selected at the end of
CALCHECK (DEDUCED). -/
def State.quadAcquire (s : State) (q : Nat) : State :=
  let s1 := ((s.wr QPLL_STAT.TBIN q (s.quadBin q)).wr QPLL_STAT.VT_WARN q 0).modQuad q fun x => { x with since := s.tb }
  if s.dev < 4 then s1.quadTo q 1
  else match s.quadBand q with
    | some b => (s1.wr QPLL_STAT.BAND q b).quadTo q 1
    | none => s1.quadFailed q

/-- The bands of a RELOCK that begins are selected (R86, R89). -/
def State.relockBands (s : State) (q : Nat) : State :=
  let s1 := (s.wr QPLL_STAT.TBIN q (s.quadBin q)).wr QPLL_STAT.VT_WARN q 0
  match s.quadBand q with
  | some b =>
    let bs := ([b, b + 1] ++ (if 1 ≤ b then [b - 1] else []) ++ [b + 2] ++ (if 2 ≤ b then [b - 2] else [])).filter (· ≤ 127)
    let s2 := (s1.wr QPLL_STAT.BAND q b).wr QPLL_STAT.ATTEMPT q 1
    (s2.modQuad q fun _ => { since := s.tb, tryAt := s.tb, bands := bs, k := 0 }).quadTo q 3
  | none => (s1.quadTo q 3).quadFailed q

/-- RELOCK begins (R85, R86, R89). -/
def State.quadRelock (s : State) (q : Nat) : State := (s.inc QPLL_STAT.RELOCK_COUNT q).relockBands q

/-- The band the TPLL selects (R89): the VALID entry nearest 0 ppm, the lower on a tie. -/
def State.tpllBand (s : State) : Option Nat :=
  (List.range 64).foldl (fun best b =>
    let e := fun i => s.tabEntry tabTpll (s.loopActive none) i
    if bit (e b) 31 then
      match best with
      | some c => if (signed 24 (e b)).natAbs < (signed 24 (e c)).natAbs then some b else best
      | none => some b
    else best) none

/-- A selection that started in the tick of a swap reads the new bank (R90). -/
def State.reselect (s : State) (q : Option Nat) : State :=
  match q with
  | some q =>
    if (s.quad q).since ≠ s.tb then s
    else if s.quadState q = 1 then s.quadAcquire q
    else if s.quadState q = 3 then s.relockBands q
    else s
  | none =>
    if s.tpll.started = true ∧ s.tpll.since = s.tb ∧ s.rd TPLL_STAT.STATE 0 = 0 then
      match s.tpllBand with
      | some b => s.wr TPLL_STAT.BAND 0 b
      | none => s
    else s

/-- BAND_SWAP_ATTEMPT (R90): a lane grid boundary with REQ_BANK, as committed, other than ACTIVE_BANK. -/
def execBandSwapAttempt (quad : Option (Fin 64)) (s : State) : Host.Outcome State Fault Refusal :=
  let q := quad.map (·.val)
  chipOnly s <|
    let r := loopFld q TPLL_BAND_CTL.REQ_BANK QPLL_BAND_CTL.REQ_BANK
    let d := loopFld q TPLL_BAND_CTL.BUILD_DONE QPLL_BAND_CTL.BUILD_DONE
    let o := loopFld q TPLL_BAND_CTL.CHECK_OK QPLL_BAND_CTL.CHECK_OK
    if s.epoch % 16 = 0 ∧ s.rdX r.1 r.2 ≠ s.loopActive q then
      if s.on d.1 d.2 && s.on o.1 o.2 then (s.swapBand q).reselect q
      else if (s.tab (loopTab q)).told then s
      else (s.modTab (loopTab q) fun t => { t with told := true }).raise (loopPage q) (loopDefer q)
    else s

/-- The quad goes OFF or, when it may, acquires (R84). -/
def State.settleQuad (s : State) (q : Nat) : State :=
  if s.on QPLL_CTRL.EN q && s.domOn (34 + q) && !(s.quad q).hold then (if s.quadState q = 0 then s.quadAcquire q else s)
  else if s.quadState q = 0 then s else s.quadTo q 0

/-- A LOCKED quad unlocks (R85). -/
def State.quadUnlock (s : State) (q : Nat) : State :=
  ((s.quadRelock q).raise (pgQpll q) 1).jrn 0x05 q 0x030C [.word q]

/-- A write of QPLL_CTRL (R84, R85, R95). EN 0 in the write of a RELOCK takes the quad to OFF, and there is nothing left to relock
(DESIGN CHOICE, log entry 23). -/
def State.writeQpllCtrl (s : State) (q : Nat) (w : Wr) : State :=
  let v := w.val.toNat
  let st := s.quadState q
  s.write w (pgQpll q) 0x040 (cause (bit v 2 && (st == 0 || st == 1 || st == 3)) 0x0001) fun s =>
    let s1 := (s.wr QPLL_CTRL.EN q (bits v 0 1)).settleQuad q
    if bit v 2 && bit v 0 then (if st = 2 then s1.quadUnlock q else if st = 4 then s1.quadRelock q else s1) else s1

/-- QPLL_ENABLE (R84): a write of QPLL_CTRL. -/
def execQpllEnable (q : Fin 64) (w : Wr) (s : State) : Host.Outcome State Fault Refusal := chipOnly s (s.writeQpllCtrl q.val w)

/-- QPLL_RELOCK (R85, R86): a write of QPLL_CTRL with RELOCK 1. -/
def execQpllRelock (q : Fin 64) (w : Wr) (s : State) : Host.Outcome State Fault Refusal :=
  chipOnly s (s.writeQpllCtrl q.val (orBits w 0x4))

/-- QUAD_LOCKED (R84): the frequency and slip criteria are met. -/
def execQuadLocked (q : Fin 64) (s : State) : Host.Outcome State Fault Refusal :=
  chipOnly s <|
    let st := s.quadState q.val
    if (st = 1 ∨ st = 3) ∧ s.on TB_STAT.TB_RUN 0 = true then
      ((s.wr QPLL_LAST_LOCK.TICKS q.val (min 0xFFFFFF (s.tb - (s.quad q.val).since))).quadTo q.val 2).raise (pgQpll q.val) 0
    else s

/-- QUAD_VTUNE_WARN (R84): VT comes within 10 % of a rail; raised once. -/
def execQuadVtuneWarn (q : Fin 64) (s : State) : Host.Outcome State Fault Refusal :=
  chipOnly s <|
    let st := s.quadState q.val
    if 1 ≤ st ∧ st ≤ 3 ∧ s.rd QPLL_STAT.VT_WARN q.val = 0 then (s.wr QPLL_STAT.VT_WARN q.val 1).raise (pgQpll q.val) 3 else s

/-- QUAD_UNLOCK (R84, R85): an unlock of a LOCKED quad is detected. -/
def execQuadUnlock (q : Fin 64) (s : State) : Host.Outcome State Fault Refusal :=
  chipOnly s (if s.quadState q.val = 2 then s.quadUnlock q.val else s)

/-- RELOCK_ATTEMPT_TIMEOUT (R86): the attempt's 8 µs are over; the next band is tried, or the quad has failed. -/
def execRelockAttemptTimeout (q : Fin 64) (s : State) : Host.Outcome State Fault Refusal :=
  chipOnly s <|
    let x := s.quad q.val
    if s.quadState q.val = 3 ∧ x.tryAt + 4000 ≤ s.tb then
      match x.bands[x.k + 1]? with
      | some b =>
        ((s.wr QPLL_STAT.BAND q.val b).wr QPLL_STAT.ATTEMPT q.val (x.k + 2)).setQuad q.val { x with k := x.k + 1, tryAt := s.tb }
      | none => s.quadFailed q.val
    else s

end Sys2Proof.Machine
end

