-- ==== Sys2Proof/Machine/CalOps.lean ====
section
/-!
DEFINITION. Machine/CalOps.lean: the calibration set's items and data (R441, R451), and the end of a calibration run with the
return of its unit (R442, R443, R446, R447).
-/

namespace Sys2Proof.Machine

/-! ### Items (R441, R451) -/

/-- The number of data dwords of a record (R451); none for an item the engine does not know. -/
def calCount (item sub : Nat) : Option Nat :=
  match item with
  | 1 => some 513 | 2 => some 1 | 3 => some 1 | 4 => some 2 | 5 => some 64 | 6 => some 3 | 7 => some 8
  | 8 => some (if sub = 0 then 1 else 3) | 9 => some 1 | _ => none

/-- ITEM, UNIT and SUB lie in the table of R441. -/
def calKnown (item unit sub : Nat) : Bool :=
  match item with
  | 1 => unit < 64 && sub < 2
  | 2 => unit < 64 && sub == 0
  | 3 => unit < 64 && sub == 0
  | 4 => unit == 0 && sub == 0
  | 5 => unit == 0 && sub == 0
  | 6 => unit == 0 && sub == 0
  | 7 => unit < 64 && sub == 0
  | 8 => unit < 256 && sub < 2
  | 9 => unit < 2 && sub == 0
  | _ => false

/-- The units of an item, and its subs. -/
def calUnits (item : Nat) : Nat :=
  match item with
  | 1 => 64 | 2 => 64 | 3 => 64 | 7 => 64 | 8 => 256 | 9 => 2 | _ => 1
def calSubs (item : Nat) : Nat := if item = 1 ∨ item = 8 then 2 else 1

/-- Every item, unit and sub in the order of R451. -/
def calAll : List (Nat × Nat × Nat) :=
  (List.range 9).flatMap fun i => (List.range (calUnits (i + 1))).flatMap fun u => (List.range (calSubs (i + 1))).map fun k =>
    (i + 1, u, k)

/-- The data dwords the image holds for an item (R454): the accepted or stored ones, else those of the OTP baseline. -/
def State.imageData (s : State) (item unit sub : Nat) : List Nat :=
  match Sparse.get [] s.cal.image (calKey item unit sub) with
  | [] => (List.range ((calCount item sub).getD 0)).map fun i => Config.otp (calKey item unit sub) i % 2 ^ 32
  | ds => ds

/-- The agreement of each value of an item (R441); 20 ppm of GAIN is 83 counts of 2^-22. -/
def calAgree (item sub n : Nat) : List Nat :=
  match item with
  | 1 => 4 :: 20 :: List.replicate (n - 2) 4
  | 2 => [32] | 3 => [83] | 4 => [32, 500] | 5 => (List.range n).map fun i => if i % 2 = 0 then 0 else 5
  | 7 => [0] | 8 => if sub = 0 then [2, 2] else 1 :: 4 :: List.replicate 7 2
  | 9 => [10] | _ => []

/-- The values a run of the item gives. -/
def calValues (item sub : Nat) : Nat :=
  match item with
  | 1 => 1026 | 4 => 2 | 5 => 128 | 8 => if sub = 0 then 2 else 9 | _ => 1

/-- The worst value: its index, its difference, and whether every difference lies within its agreement. -/
def calWorst (a b : List Int) (agree : List Nat) : Nat × Nat × Bool :=
  let xs := ((a.zip b).zip agree).map fun x => ((x.1.1 - x.1.2).natAbs, x.2)
  let worst := xs.zipIdx.foldl (fun w x => if w.2.1 * x.1.2 < x.1.1 * w.2.2 then (x.2, x.1.1, x.1.2) else w) (0, 0, 1)
  (worst.1, worst.2.1, xs.all fun x => decide (x.1 ≤ x.2))

/-- The accepted values (R442): the mean of the runs to nearest, ties away from zero, or their common value. -/
def calMean (a b : List Int) : List Int := (a.zip b).map fun x => roundDiv (x.1 + x.2) 2

/-- The data dwords of accepted values (R451); of a quad, `table` with entry `bin` replaced. -/
def calData (item sub : Nat) (v : List Int) (table : List Nat) (bin : Nat) : List Nat :=
  let x := fun i => (v[i]?).getD 0
  let u := fun w i => unsigned w (x i)
  match item with
  | 1 => (List.range 513).map fun w => u 16 (2 * w) + 65536 * u 16 (2 * w + 1)
  | 2 => [u 24 0] | 3 => [u 24 0] | 4 => [u 32 0, u 32 1]
  | 5 => (List.range 64).map fun b => 2 ^ 31 * u 1 (2 * b) + u 24 (2 * b + 1)
  | 6 => [u 16 0, u 32 1, u 32 2]
  | 7 => table.set bin (2 ^ 31 + u 7 0)
  | 8 =>
    if sub = 0 then [256 * u 8 0 + u 8 1]
    else [2 ^ 24 * u 4 0 + u 8 1, u 8 2 + 2 ^ 8 * u 8 3 + 2 ^ 16 * u 8 4 + 2 ^ 24 * u 8 5, u 8 6 + 2 ^ 8 * u 8 7 + 2 ^ 16 * u 8 8]
  | _ => [u 32 0]

/-- The active bank's entries of quad `q`. -/
def State.quadTable (s : State) (q : Nat) : List Nat :=
  (List.range 8).map fun i => s.tabEntry (tabQuad q) (s.loopActive (some q)) i

/-! ### Working registers (R410, R437, R446, R454) -/

/-- The entries of the loop's inactive bank written and closed (R90, R446). -/
def State.fillBand (s : State) (q : Option Nat) (ds : List Nat) : State :=
  let s1 := (List.range (loopSize q)).foldl (fun t i =>
    t.setTabEntry (loopTab q) (1 - s.loopActive q) i (((ds[i]?).getD 0) &&& loopMask q)) s
  let c := loopFld q TPLL_BAND_CHECK.CHECK QPLL_BAND_CHECK.CHECK
  (s1.wr c.1 c.2 (s1.bankCrc q (1 - s.loopActive q))).closeBand q

/-- REQ_BANK of the loop committed for the inactive bank (R446). -/
def State.requestBand (s : State) (q : Option Nat) : State :=
  let r := loopFld q TPLL_BAND_CTL.REQ_BANK QPLL_BAND_CTL.REQ_BANK
  let b := 1 - s.loopActive q
  (s.wr r.1 r.2 b).wrA r.1 r.2 b

/-- The equaliser state of seed dwords (R451). -/
def seedOf (ds : List Nat) : EqState :=
  let d := fun i => (ds[i]?).getD 0
  { ctle := bits (d 0) 24 4
    dfe := bits (d 0) 0 8 :: ((List.range 4).map fun i => bits (d 1) (8 * i) 8) ++ (List.range 3).map fun i => bits (d 2) (8 * i) 8 }

/-- A skew result (R475, R482): UP loads CAS_SKEW_UP with VALID as given, DOWN CAS_SKEW_DN; a link above 20 ns is reported. -/
def State.loadSkew (s : State) (unit ps valid : Nat) : State :=
  let s1 := if unit = 0 then
      ((s.wr CAS_SKEW_UP.D_PS 0 (ps % 65536)).wr CAS_SKEW_UP.VALID 0 valid).wr CAS_STAT.SKEW_VALID 0 valid
    else s.wr CAS_SKEW_DN.D_PS 0 (ps % 65536)
  if 20000 < signed 32 ps then s1.raise pgCas 12 else s1

/-- Data loaded into the working registers of its unit. -/
def State.loadWorking (s : State) (item unit sub : Nat) (ds : List Nat) : State :=
  let d := fun i => (ds[i]?).getD 0
  match item with
  | 1 =>
    let put := fun (l : List (Nat × Nat)) (w : Nat) =>
      Sparse.put 0 (Sparse.put 0 l (2048 * sub + 2 * w) (d w % 65536)) (2048 * sub + 2 * w + 1) (d w / 65536)
    s.modDrv unit fun c => { c with trims := (List.range 513).foldl put c.trims }
  | 2 => s.wr SNS_TRIM_OFS.OFS unit (d 0)
  | 3 => s.wr SNS_TRIM_GAIN.GAIN unit (d 0)
  | 5 => s.fillBand none ds
  | 6 => ((s.wr TPLL_TC_T0.T0 0 (d 0)).wr TPLL_TC_C1.C1 0 (d 1)).wr TPLL_TC_C2.C2 0 (d 2)
  | 7 => (s.fillBand (some unit) ds).requestBand (some unit)
  | 8 =>
    if sub = 0 then s.modCal fun c => { c with work := Sparse.put [] c.work (calKey 8 unit 0) ds }
    else s.modLphy unit fun p => { p with seed := seedOf ds }
  | 9 => s.loadSkew unit (d 0) 1
  | _ => s.modCal fun c => { c with work := Sparse.put [] c.work (calKey item unit sub) ds }

/-! ### The probes of a skew run (R482) -/

/-- 256 PROBE messages queued on the run's port. -/
def State.queueProbes (s : State) (port : Nat) : State :=
  s.modCasPort port fun c => { c with queue := c.queue ++ List.replicate 256 (4, []) }

/-- The PROBE messages that still wait on a port are withdrawn. -/
def State.dropProbes (s : State) (port : Nat) : State :=
  s.modCasPort port fun c => { c with queue := c.queue.filter fun m => m.1 != 4 }

/-! ### The end of a run -/

/-- The unit is returned (R443, R446). A channel that was IDLE unclamps. -/
def State.calRelease (s : State) (r : CalRun) : State :=
  match r.item with
  | 1 => if r.wasIdle && r.phase != 3 then s.dacUnclamp r.unit else if r.wasIdle then s else s.seqDone r.unit
  | 5 => s.wr TPLL_STAT.SWEEP_BUSY 0 0
  | 7 => (s.modQuad r.unit fun x => { x with hold := false }).settleQuad r.unit
  | 8 => if r.sub = 0 then (s.modLphy r.unit fun p => { p with calHold := false }).laneWake r.unit else s
  | 9 => s.dropProbes r.unit
  | _ => s

/-- RUN_RES codes: 1 DONE, 2 CAL_PRECONDITION, 3 CAL_DISAGREE, 4 ABORTED; the IRQ bit of the first three is one less (R458). -/
def calCode (res : Nat) : Nat := if res = 4 then 0x110A else 0x1100 + res

/-- The result of a run that has ended is told and recorded (R442, R458). -/
def State.calReport (s : State) (r : CalRun) (res : Nat) : State :=
  let s1 := if res ≤ 3 then s.raise pgCal (res - 1) else s
  s1.jrn 0x08 r.item (calCode res)
    [.word r.item, .word r.unit, .word r.sub, .word res, .word (s.rd CAL_MEAS.MEAS 0), .word (s.rd CAL_DIFF.DIFF 0)]

/-- No run is in progress, and RUN_RES gives the result of the last. -/
def State.calClose (s : State) (res : Nat) : State :=
  ((s.modCal fun c => { c with run := none }).wr CAL_STAT.BUSY 0 0).wr CAL_STAT.RUN_RES 0 res

/-- A run ends with a result (R442): its unit is returned, and its record is written. -/
def State.calEnd (s : State) (r : CalRun) (res : Nat) : State := ((s.calClose res).calRelease r).calReport r res

/-- The run in progress ends, if there is one (R447): ABORT, SAFE, or the unit's domain. A channel on its way back to IDLE goes on. -/
def State.calAbort (s : State) : State :=
  match s.cal.run with
  | some r => s.calEnd r (if r.phase = 3 then 1 else 4)
  | none => s

/-- The power domain of a run's unit (R526). -/
def CalRun.domain (r : CalRun) : Nat :=
  match r.item with
  | 1 => 32 | 2 => 32 | 3 => 32 | 4 => 32 | 7 => 34 + r.unit | 8 => r.unit / 8 | _ => 98

/-- A domain leaves ON: a run of a unit in it ends (R447). A lane lies in its Facet and in its quad. -/
def State.calDomain (s : State) (d : Nat) : State :=
  match s.cal.run with
  | some r => if r.domain = d ∨ (r.item = 8 ∧ 34 + r.unit / 4 = d) then s.calEnd r 4 else s
  | none => s

/-- A skew run whose link is disturbed fails its precondition (R482). -/
def State.skewFail (s : State) : State :=
  match s.cal.run with
  | some r => if r.item = 9 then s.calEnd r 2 else s
  | none => s

end Sys2Proof.Machine
end

