-- ==== Sys2Proof/Machine/Timebase.lean ====
section
/-!
DEFINITION. Machine/Timebase.lean: the epoch, the PPS capture and the TB page (R11 to R39).
-/

namespace Sys2Proof.Machine

/-- EPOCH_STATE set; a change produces a CLK_STATE event of index 65 (R17, R200). -/
def State.setEpochState (s : State) (v : Nat) : State :=
  if s.rd TB_STAT.EPOCH_STATE 0 = v then s
  else let t := s.wr TB_STAT.EPOCH_STATE 0 v; t.produce (prodId 0xC 65) t.now 0

/-- The AF leaves the fallback oscillator when its lane grid tick has come (R524). -/
def State.afBack (s : State) : State :=
  match s.bring.afBack with
  | some e => if e ≤ s.epoch then (s.wr AF_STAT.FALLBACK 0 0).modBring fun b => { b with afBack := none } else s
  | none => s

/-- EPOCH_TICK (R11, R12): the TB period is counted, and the epoch advances by one unless EPOCH_STATE is STOPPED (a stepped
cascade target counts before it is VALID, R478); on the first tick after the TPLL first locks in CLOCKING it starts at 0. An AF that
leaves the fallback oscillator does so at its lane grid tick (R524). -/
def execEpochTick (s : State) : Host.Outcome State Fault Refusal :=
  let s1 : State := { s with
    tb := s.tb + 1
    epoch := if s.counting then (s.epoch + 1) % 2 ^ 64 else s.epoch }
  if s.bring.epochNext then
    .next ((({ s1 with epoch := 0 } : State).modBring fun b => { b with epochNext := false }).setEpochState 1)
  else .next s1.afBack

/-- Entry to UNCERTAIN (R35): EPOCH_UNCERTAIN raised, UNC_COUNT advanced, a record written; the count is not stepped.
An epoch that has not started stays STOPPED. -/
def State.enterUncertain (s : State) : State :=
  if s.rd TB_STAT.EPOCH_STATE 0 = 1 then
    (((s.setEpochState 2).inc TB_STAT.UNC_COUNT 0).raise pgTb 1).jrn 0x05 65 0x0104 [.tick s.epoch]
  else s

/-- A read of TB_EPOCH_LO (R32): the low half of the epoch; the high half is latched for the requester. -/
def State.readEpochLo (s : State) (req : Req) : State :=
  s.modTbu fun r => match req with
    | .host => { r with eLatchHost := s.epoch / 2 ^ 32 }
    | .tunnel => { r with eLatchTunnel := s.epoch / 2 ^ 32 }

/-- TB_EPOCH_LO_READ (R32). A page that is not ready reads 0 (R47). -/
def execTbEpochLoRead (req : Req) (s : State) : Host.Outcome State Fault Refusal :=
  chipOnly s <|
    if s.reaches req then
      if s.ready pgTb then
        (s.readEpochLo req).emit (.readData (decide (req = .tunnel)) (s.epoch % 2 ^ 32) false)
      else s.emit (.readData (decide (req = .tunnel)) 0 false)
    else s

/-- A PPS capture (R33): the stamp and interval are stored, PPS_COUNT advances, OVERRUN is judged, PPS_CAPTURE is raised
and a record carrying the stamp is written. The interval is counted from the previous capture since PPS_EN was set. -/
def State.ppsCapture (s : State) (st : Stamp) : State :=
  let r := s.tbu
  let iv := if r.since then min 0xFFFFFFFF (st.st - (r.capT * 8 + r.capSub)) else 0
  let s1 := s.wr PPS_STAMP_LO.PPS_LO 0 st.t
  let s2 := s1.wr PPS_INTERVAL.INTERVAL 0 iv
  let s3 := (s2.incW PPS_STAT.PPS_COUNT 0).wr PPS_STAT.VALID 0 1
  let s4 := if r.unread then s3.wr PPS_STAT.OVERRUN 0 1 else s3
  let s5 := s4.setTbu { r with
    capT := st.t, capSub := st.sub, unread := true, since := true, watchFrom := s.tb, missed := false }
  (s5.raise pgTb 0).jrnAt st 0x05 66 0x0101 [.tick st.t]

/-- PPS_IN_EDGE (R33): a capture when PPS_EN is 1 and the edge has the selected polarity. -/
def execPpsInEdge (falling : Bool) (sub : Fin 8) (s : State) : Host.Outcome State Fault Refusal :=
  chipOnly s <|
    if s.on TB_CTRL.PPS_EN 0 && s.on TB_CTRL.PPS_EDGE 0 == falling then s.ppsCapture (s.edge sub.val) else s

/-- PPS_MISSING (R34): 1.5 s (750,000,000 tk) after the last capture or the setting of PPS_EN, once. -/
def execPpsMissing (s : State) : Host.Outcome State Fault Refusal :=
  chipOnly s <|
    if s.on TB_CTRL.PPS_EN 0 && !s.tbu.missed && decide (s.tbu.watchFrom + 750000000 ≤ s.tb) then
      (s.modTbu fun r => { r with missed := true }).raise pgTb 3
    else s

/-- PPS_EN changes from 0 to 1 (R33, R34): the previous capture is forgotten for the interval. A PPS_MISSING raised before stands
for the time until another capture. -/
def State.ppsRestart (s : State) : State :=
  ((s.wr PPS_INTERVAL.INTERVAL 0 0).wr PPS_STAT.PPS_COUNT 0 0).modTbu fun r =>
    { r with since := false, watchFrom := s.tb }

/-- UNCERTAIN ends on the master or a standalone device (R36), with its EPOCH_RESYNC record; in VALID, and on a slave,
CONFIRM has no effect. -/
def State.confirm (s : State) : State :=
  if s.rd TB_STAT.EPOCH_STATE 0 = 2 ∧ s.on CAS_STAT.MASTER 0 = true then
    (s.setEpochState 1).jrn 0x05 65 0x0105 [.tick s.epoch]
  else s

/-- A write of TB_CTRL (R33, R36, R37): CONFIRM is refused while the TPLL is not LOCKED. -/
def State.writeTbCtrl (s : State) (w : Wr) : State :=
  let v := w.val.toNat
  s.write w pgTb 0x04C (cause (bit v 0 && s.rd TPLL_STAT.STATE 0 != 1) 0x0003) fun s =>
    let s1 := if bit v 3 then (s.wr H_STAT.LATE_COUNT 0 0).wr H_STAT.MAX_AGE 0 0 else s
    let s2 := if bit v 1 && !s1.on TB_CTRL.PPS_EN 0 then s1.ppsRestart else s1
    let s3 := (s2.wr TB_CTRL.PPS_EDGE 0 (flag (bit v 2))).wr TB_CTRL.PPS_EN 0 (flag (bit v 1))
    if bit v 0 then s3.confirm else s3

/-- PPS_ENABLE (R33): a write of TB_CTRL with PPS_EN 1. -/
def execPpsEnable (w : Wr) (s : State) : Host.Outcome State Fault Refusal :=
  chipOnly s (s.writeTbCtrl (orBits w 0x2))

/-- A read of PPS_STAMP_LO (R37): PPS_HI and SUB take the capture the read returns. -/
def State.readPpsLo (s : State) : State :=
  ((s.wr PPS_STAMP_HI.PPS_HI 0 (s.tbu.capT / 2 ^ 32)).wr PPS_STAT.SUB 0 s.tbu.capSub).modTbu
    fun r => { r with unread := false }

/-- PPS_STAMP_LO_READ (R37). -/
def execPpsStampLoRead (req : Req) (s : State) : Host.Outcome State Fault Refusal :=
  chipOnly s <|
    if s.reaches req then
      if s.ready pgTb then
        s.readPpsLo.emit (.readData (decide (req = .tunnel)) (s.rd PPS_STAMP_LO.PPS_LO 0) false)
      else s.emit (.readData (decide (req = .tunnel)) 0 false)
    else s

/-- TB_STAT_CLR (R37): a write of TB_CTRL with STAT_CLR 1. -/
def execTbStatClr (w : Wr) (s : State) : Host.Outcome State Fault Refusal :=
  chipOnly s (s.writeTbCtrl (orBits w 0x8))

/-- TB_CONFIRM (R36): a write of TB_CTRL with CONFIRM 1. -/
def execTbConfirm (w : Wr) (s : State) : Host.Outcome State Fault Refusal :=
  chipOnly s (s.writeTbCtrl (orBits w 0x1))

/-- A write of H_LOCAL (R38): refused below 96 and while an engine is busy. -/
def State.writeHLocal (s : State) (w : Wr) : State :=
  let v := bits w.val.toNat 0 12
  s.write w pgTb 0x050 (cause (decide (v < 96)) 0x0001 ++ cause s.anyEngBusy 0x0002) fun s => s.wr H_LOCAL.H 0 v

/-- H_LOCAL_WRITE (R38). -/
def execHLocalWrite (w : Wr) (s : State) : Host.Outcome State Fault Refusal :=
  chipOnly s (s.writeHLocal w)

end Sys2Proof.Machine
end

