-- ==== Sys2Proof/Machine/SafeOps.lean ====
section
/-!
DEFINITION. Machine/SafeOps.lean: SAFE and the return from it (R522 to R524), the analogue Facet's fallback (R82), and the
progress of bring-up when the TPLL locks (R12, R513).
-/

namespace Sys2Proof.Machine

/-! ### Entry into SAFE -/

/-- Every lane in SERVICE presents HOLD idle words from its first granule boundary whose splice deadline is still to come
(R523). -/
def State.lanesHold (s : State) : State :=
  (List.range 256).foldl (fun t l =>
    if t.laneState l = 5 then
      t.modLout l fun o => { o with safeFrom := some (ceilTo (t.laneGran l) (t.epoch + 66)), safeTo := none }
    else t) s

/-- The device enters SAFE for cause bit `b` (R522, R523); in SAFE the cause is only added. -/
def State.enterSafe (s : State) (b : Nat) : State :=
  let dev := s.dev
  if 4 ≤ dev then
    let s1 := s.wr DEV_STATE.SAFE_CAUSE 0 (s.rd DEV_STATE.SAFE_CAUSE 0 ||| 2 ^ b)
    if dev = 8 then s1
    else
      let s2 := ((s1.wr DEV_STATE.STATE 0 8).wr DEV_STATE.PREV 0 dev).inc DEV_STATE.SAFE_COUNT 0
      let s3 := (List.range 512).foldl (fun t e => t.engSafe e) s2
      (s3.lanesHold.softStopAll.calAbort.raise pgDev 1).jrn 0x0E 0 0x1502 []
  else s

/-- The analogue Facet changes to its fallback oscillator and soft-stops its channels (R82), each at the first sample of its
epoch grid after the tick of the change (R368). -/
def State.afFallback (s : State) : State :=
  if s.fallback then s.modBring fun b => { b with afBack := none }
  else if !s.domOn 32 then s
  else (s.softStopAll.wr AF_STAT.FALLBACK 0 1).raise pgAf 5

/-! ### Bring-up at lock -/

/-- The lanes and the quads see that the device has come to TRAINING (R521). -/
def State.lanesWake (s : State) : State := (List.range 256).foldl (fun t l => t.laneWake l) s

/-- The epoch starts at the next tick (R12): on a standalone device or a master whose epoch is STOPPED. -/
def State.epochArm (s : State) : State :=
  if s.on CAS_STAT.MASTER 0 && s.rd TB_STAT.EPOCH_STATE 0 == 0 then s.modBring fun b => { b with epochNext := true } else s

/-- The TPLL has reached LOCKED (R12, R513, R525): CLOCKING passes to TRAINING, in DEBUG too. -/
def State.devLocked (s : State) : State :=
  if s.dev = 4 then
    ((s.epochArm.wr DEV_STATE.STATE 0 5).modBring fun b => { b with stage := 5, trainFrom := s.tb }).lanesWake
  else if s.dev = 9 ∧ s.bring.stage = 4 then
    (s.epochArm.modBring fun b => { b with stage := 5, trainFrom := s.tb }).lanesWake
  else s

/-! ### Leaving SAFE -/

/-- The effects of SAFE hold (R523, R525): in SAFE, and in DEBUG entered from it, where SAFE_CAUSE keeps its bits. -/
def State.safeHolds (s : State) : Bool := s.dev == 8 || (s.dev == 9 && s.rd DEV_STATE.SAFE_CAUSE 0 != 0)

/-- EXIT_SAFE may be accepted (R524). -/
def State.safeExitOk (s : State) : Bool :=
  s.dev == 8 && s.rd TPLL_STAT.STATE 0 == 1 && s.rd TB_STAT.EPOCH_STATE 0 != 2 &&
    decide (s.hottest < ((s.rd DEV_THERM.SAFE_C 0 : Nat) : Int) * 64 - 640) &&
    !s.anyDrvBusy && !(List.range 512).any (fun e => s.engState e == 4)

/-- The latest plan requested for every island that follows it (R464). -/
def State.replanAll (s : State) : State :=
  (List.range 33).foldl (fun t i =>
    if t.domOn i && t.rdI FCT_CLK_STAT.OVR_ACTIVE AF_CLK_STAT.OVR_ACTIVE i == 0 then
      t.requestPoint i (t.planPoint i).1 (t.planPoint i).2
    else t) s

/-- The lanes' HOLD of SAFE lifts (R524). -/
def State.lanesLift (s : State) : State :=
  (List.range 256).foldl (fun t l =>
    if (t.lout l).safeFrom.isSome && (t.lout l).safeTo.isNone then
      t.modLout l fun o => { o with safeTo := some (ceilTo (t.laneGran l) (t.epoch + 66)) }
    else t) s

/-- The AF leaves the fallback oscillator at the next lane grid tick (R524), at once while the epoch does not count. -/
def State.afLeave (s : State) : State :=
  if s.fallback && s.counting then s.modBring fun b => { b with afBack := some (ceilTo 16 (s.epoch + 1)) }
  else s.wr AF_STAT.FALLBACK 0 0

/-- EXIT_SAFE accepted (R524): back to READY, DEBUG or CLOCKING; bring-up that has not ended resumes (R525). -/
def State.exitSafe (s : State) : State :=
  let prev := s.rd DEV_STATE.PREV 0
  let s1 := (s.wr DEV_STATE.SAFE_CAUSE 0 0).afLeave
  let s2 := (s1.lanesLift.wr DEV_STATE.STATE 0 (if prev = 6 ∨ prev = 7 then 6 else if prev = 9 then 9 else 4)).raise pgDev 2
  let s3 := s2.replanAll
  if prev = 6 ∨ prev = 7 then (s3.jrn 0x0E 0 0x1503 []).settleRun
  else if prev = 9 then (s3.jrn 0x0E 0 0x1503 []).devLocked
  else s3.devLocked

/-! ### DEV_CTRL -/

/-- A write of DEV_CTRL (R522, R524, R533). -/
def State.writeDevCtrl (s : State) (w : Wr) : State :=
  let v := w.val.toNat
  s.write w pgDev 0x048
    (cause (bit v 0 && bit v 1) 0x0001 ++ cause (bit v 1 && !bit v 0 && !s.safeExitOk) 0x0002 ++
      cause (bit v 0 && !bit v 1 && decide (s.dev < 4)) 0x0003)
    fun s => if bit v 0 then s.enterSafe 1 else if bit v 1 then s.exitSafe else s

/-- DEV_ENTER_SAFE (R522): a write of DEV_CTRL with ENTER_SAFE 1. -/
def execDevEnterSafe (w : Wr) (s : State) : Host.Outcome State Fault Refusal := chipOnly s (s.writeDevCtrl (orBits w 0x1))

/-- DEV_EXIT_SAFE (R524): a write of DEV_CTRL with EXIT_SAFE 1. -/
def execDevExitSafe (w : Wr) (s : State) : Host.Outcome State Fault Refusal := chipOnly s (s.writeDevCtrl (orBits w 0x2))

/-- THERMAL_SAFE (R522): the hottest sensor has been above SAFE_C for 10 ms. -/
def execThermalSafe (s : State) : Host.Outcome State Fault Refusal :=
  chipOnly s <|
    match s.loupe.hot with
    | some t => if t + 5000000 ≤ s.tb then s.enterSafe 2 else s
    | none => s

end Sys2Proof.Machine
end

