-- ==== Sys2Proof/Machine/Clock.lean ====
section
/-!
DEFINITION. Machine/Clock.lean: the TPLL (R69 to R82, R91 to R93).
-/

namespace Sys2Proof.Machine

/-! ### TPLL states (R70) -/

/-- TPLL_STAT.STATE: 0 ACQUIRE, 1 LOCKED, 2 HOLDOVER, 3 SLEW, 4 FAILED. -/
def State.tpllState (s : State) : Nat := s.rd TPLL_STAT.STATE 0

/-- The state set, with its mirrors in TB_STAT and its CLK_STATE event (R200). -/
def State.tpllSet (s : State) (st : Nat) : State :=
  let s1 := ((s.wr TPLL_STAT.STATE 0 st).wr TB_STAT.HOLDOVER 0 (flag (st == 2))).wr TB_STAT.SLEW 0 (flag (st == 3))
  let s2 := (if st = 1 then s1 else s1.calTaint 6 0).modTpll fun p => { p with since := s.tb }
  s2.produce (prodId 0xC 64) s2.now 0

/-- A transition with its record (R70): the code of its event, the old and the new state. -/
def State.tpllTo (s : State) (st code : Nat) : State :=
  (s.tpllSet st).jrn 0x05 64 code [.word s.tpllState, .word st]

/-- The mean of a list, none of an empty one. -/
def meanOf (xs : List Int) : Option Int := if xs = [] then none else some (roundDiv xs.sum xs.length)

/-- The mean of the last LOCKED interval over 1 s that ends 2 ms before the entry into HOLDOVER (R73), as a TB offset: without the
`n` gates that ended within those 2 ms. -/
def Tpll.held (p : Tpll) (n : Nat) : Option Int := (meanOf ((p.means.drop n).take 1000)).map fun x => -x

/-- The mean temperature of the hub's die sensors in 1/64 °C (R73). -/
def State.hubTemp (s : State) : Int :=
  let xs := ((List.range 8).filter Config.hubSensor).map fun i => signed 16 (s.rd LOUPE_NODE_VAL.READING (25 + i))
  roundDiv xs.sum (max 1 xs.length)

/-- A slave whose UP link is in service (R79). -/
def State.slaveLinked (s : State) : Bool := !s.on CAS_STAT.MASTER 0 && s.rd CAS_STAT.UP_STATE 0 == 2

/-- TPLL_FOFS takes the mean fine code that the loop holds, leaving out `n` gates. A LOCKED interval without other gates has no
mean, and the loop holds what it measured last (DESIGN CHOICE, log entry 23). -/
def State.holdCode (s : State) (n : Nat) : State :=
  match s.tpll.held n with
  | some f => s.wr TPLL_FOFS.FOFS 0 (unsigned 32 f)
  | none => s

/-- REF_AUX is the hold source (R74). -/
def State.holdsAux (s : State) : Bool := s.rd TPLL_CTRL.HOLD_SRC 0 == 1 && s.on TPLL_STAT.AUX_OK 0

/-- What HOLDOVER holds from its entry on (R73, R74, R79): the mean fine code without the `n` gates that ended within the last 2 ms
or, with REF_AUX, the mean of its ratio to TB over the last 1 s, at which TB has the mean offset of that second. -/
def State.hold (s : State) (n : Nat) : State :=
  let s1 := s.holdCode (if s.holdsAux then 0 else n)
  s1.modTpll fun p => { p with
    snap := none, tEntry := s.hubTemp, corr := 0, corrAt := s.tb, gates := 0, follow := s.slaveLinked
    ratio := if s.holdsAux then meanOf (p.ratios.take 1000) else none
    auxGone := !s.on TPLL_STAT.AUX_OK 0 }

/-- The reference is lost (R70, R71): HOLDOVER from LOCKED and SLEW; in ACQUIRE qualification starts afresh. `n` gates ended within
the last 2 ms. -/
def State.refLost (s : State) (n : Nat) : State :=
  let s1 := (s.wr TPLL_STAT.REF_OK 0 0).modTpll fun p => { p with gates := 0, qualAt := none }
  if s.tpllState = 1 ∨ s.tpllState = 3 then ((s1.tpllTo 2 0x0302).raise pgTpll 1).hold n else s1

/-- A reference step beyond ±10 ppm in LOCKED (R72). -/
def State.refStep (s : State) : State :=
  let s1 := (s.wr TPLL_STAT.REF_OK 0 0).modTpll fun p => { p with gates := 0, qualAt := none }
  ((s1.tpllTo 2 0x0303).raise pgTpll 4).hold 1

/-- LOCKED begins: its gates are counted from here (R73), and bring-up goes on (R12, R513). -/
def State.lockedFrom (s : State) : State :=
  ((s.modTpll fun p => { p with means := [], ratios := [], ratio := none, snap := none, follow := false }).raise pgTpll 0).devLocked

/-- FAILED (R80, R81): the loop holds its last holdover fine code and runs free, the epoch becomes UNCERTAIN, the AF falls back and
the device enters SAFE. -/
def State.tpllFailed (s : State) : State :=
  let s0 := if s.tpllState = 1 ∨ s.tpllState = 3 then s.holdCode 2 else s
  let s1 := ((s0.tpllTo 4 0x0307).raise pgTpll 3).modTpll fun p =>
    { p with snap := none, follow := false, corr := 0, ratio := none }
  (s1.enterUncertain.afFallback).enterSafe 0

/-- ACQUIRE begins: the band is selected and qualification starts afresh (R70, R89). The device waits for REF_IN here (R509): the
50 ms of R70 run from the qualification only. -/
def State.tpllAcquire (s : State) : State :=
  let s1 := ((s.wr TPLL_STAT.REF_OK 0 0).wr TPLL_STAT.SWEEP_BUSY 0 0).modTpll fun p =>
    { p with started := true, gates := 0, qualAt := none, sweep := none, since := s.tb }
  match s1.tpllBand with
  | some b => (s1.wr TPLL_STAT.BAND 0 b).wr TPLL_STAT.FINE_MARGIN 0 0
  | none => s1.tpllFailed

/-- TPLL_LOCKED (R70): the phase error has been below 1 ns for 1 ms since qualification. In the tick in which the 50 ms end, FAILED
takes precedence. -/
def execTpllLocked (s : State) : Host.Outcome State Fault Refusal :=
  chipOnly s <|
    match s.tpll.qualAt with
    | some t =>
      if s.tpllState = 0 ∧ s.on TPLL_STAT.REF_OK 0 = true ∧ t + 500000 ≤ s.tb ∧ s.tb < t + 25000000 then (s.tpllTo 1 0x0301).lockedFrom else s
    | none => s

/-- TPLL_ACQUIRE_TIMEOUT (R70): no lock within 50 ms of qualification. -/
def execTpllAcquireTimeout (s : State) : Host.Outcome State Fault Refusal :=
  chipOnly s <|
    match s.tpll.qualAt with
    | some t => if s.tpllState = 0 ∧ t + 25000000 ≤ s.tb then s.tpllFailed else s
    | none => s

/-! ### The reference (R71, R72, R75) -/

/-- The residual phase in 1/5000 ps (R76): in SLEW the loop moves it toward 0 at SLEW_MAX, unless a snap does. -/
def State.residual (s : State) : Int :=
  let p := s.tpll
  if s.tpllState = 3 ∧ p.snap = none then
    let n := s.tb - p.resAt
    -- A SLEW_MAX handed over at D acts from D on; the old one acted before (R76).
    let (new, old) := match s.lags.find? fun l => l.1 == TPLL_SLEW.SLEW_MAX.key 0 with
      | some l => (min n (s.epoch - l.2.1), l.2.2)
      | none => (n, 0)
    let moved : Int := (new * s.rdA TPLL_SLEW.SLEW_MAX 0 + (n - new) * old : Nat)
    if 0 ≤ p.res then max 0 (p.res - moved) else min 0 (p.res + moved)
  else p.res

/-- The residual fixed as of now. -/
def State.settleResidual (s : State) : State :=
  let r := s.residual
  (s.modTpll fun p => { p with res := r, resAt := s.tb }).wr TPLL_PHASE.RESIDUAL 0 (unsigned 32 (r.tdiv 5000))

/-- A time in ps reduced into (−P/2, P/2], P the reference period (R75). -/
def State.reduceJ (s : State) (x : Int) : Int :=
  let den := max 1 (s.rdA TPLL_FCW_DEN.FCW_DEN 0)
  let p : Int := 250 * (s.rdA TPLL_FCW_INT.FCW_INT 0 * den + s.rdA TPLL_FCW_NUM.FCW_NUM 0 : Nat)
  let r := (x * den) % p
  roundDiv (if 2 * r ≤ p then r else r - p) den

/-- J in the layout of TPLL_JUMP and the ticks spent in HOLDOVER, as DATA of the REF_RETURN record (R75). -/
def State.returnData (s : State) (new : Nat) (j : Int) : List Item :=
  [.word (2 + 256 * new), .word (unsigned 32 j), .tick (s.tb - s.tpll.since)]

/-- The reference requalifies in HOLDOVER with jump `j` (R70, R75, R79). -/
def State.refReturn (s : State) (j : Int) : State :=
  let s1 := (s.wr TPLL_JUMP.JUMP 0 (unsigned 32 j)).raise pgTpll 2
  if s.tpll.follow then s1
  else if 1000 ≤ j.natAbs then
    ((s1.tpllSet 3).jrn 0x05 64 0x0304 (s.returnData 3 j)).modTpll fun p => { p with res := j * 5000, resAt := s.tb }
  else ((s1.tpllSet 1).jrn 0x05 64 0x0304 (s.returnData 1 j)).lockedFrom

/-- A slave on its UP link returns to REF_IN (R79). -/
def State.followEnd (s : State) (phase : Int) : State :=
  if s.tpllState = 2 ∧ s.tpll.follow = true ∧ s.on TPLL_STAT.REF_OK 0 = true ∧ s.tpll.upState = 1 ∧ phase.natAbs < 1000 then
    ((s.tpllSet 1).jrn 0x05 64 0x0304 (s.returnData 1 phase)).lockedFrom
  else s

/-- A gate that passes: qualification counts up (R71), and what it brings with it. -/
def State.gatePass (s : State) (ofs phase : Int) (aux : Option Int) : State :=
  let s1 := s.modTpll fun p => { p with gates := min 1000 (p.gates + 1) }
  if s1.on TPLL_STAT.REF_OK 0 = false then
    if s.rd TPLL_QUAL.QUAL_MS 0 ≤ s1.tpll.gates then
      let s2 := s1.wr TPLL_STAT.REF_OK 0 1
      if s.tpllState = 0 then s2.modTpll fun p => { p with qualAt := some s.tb }
      else if s.tpllState = 2 then s2.refReturn (s.reduceJ phase) else s2
    else s1
  else if s.tpllState = 1 then
    let xs := s.tpll.means.take 100
    let mean := roundDiv xs.sum (max 1 xs.length)
    if xs ≠ [] ∧ 10000 < (ofs - mean).natAbs then s1.refStep
    else s1.modTpll fun p => { p with
      means := (ofs :: p.means).take 1002
      ratios := match aux with | some a => (a :: p.ratios).take 1000 | none => p.ratios }
  else s1.followEnd phase

/-- REF_AUX is lost (R74): in HOLDOVER on it, AUX_LOST is raised, the fine code is held as it is, and temperature correction goes on
from here. -/
def State.auxLost (s : State) : State :=
  if s.tpllState = 2 ∧ s.rd TPLL_CTRL.HOLD_SRC 0 = 1 ∧ s.tpll.auxGone = false then
    ((s.wr TPLL_STAT.AUX_OK 0 0).modTpll fun p =>
      { p with auxGone := true, auxGates := 0, ratio := none, tEntry := s.hubTemp, corr := 0, corrAt := s.tb }).raise pgTpll 7
  else (s.wr TPLL_STAT.AUX_OK 0 0).modTpll fun p => { p with auxGates := 0 }

/-- What a gate shows: the TB offset and the phase against REF_IN, and REF_AUX's qualification by its ratio to TB (R74). -/
def State.gateShow (s : State) (ofs phase : Int) (aux : Option Int) : State :=
  let s1 := if s.tpllState = 2 then s else s.wr TPLL_FOFS.FOFS 0 (unsigned 32 (-ofs))
  let s2 := if s.tpllState = 3 then s1 else
    (s1.wr TPLL_PHASE.RESIDUAL 0 (unsigned 32 phase)).modTpll fun p => { p with res := phase * 5000, resAt := s.tb }
  if aux.any fun a => decide (a.natAbs ≤ 100000) then
    let n := min 1000 (s.tpll.auxGates + 1)
    (s2.modTpll fun p => { p with auxGates := n }).wr TPLL_STAT.AUX_OK 0
      (if s.rd TPLL_QUAL.QUAL_MS 0 ≤ n then 1 else s.rd TPLL_STAT.AUX_OK 0)
  else s2.auxLost

/-- REF_QUAL_GATE (R71, R72): a 1 ms gate measures REF_IN at `ofs` (in 0.001 ppm from 4.000 GHz / FCW) and `phase` (in ps,
positive when TB is late), and the ratio of REF_AUX to TB at `aux` (its offset in 0.001 ppm, none without REF_AUX). -/
def execRefQualGate (ofs phase : Int) (aux : Option Int) (s : State) : Host.Outcome State Fault Refusal :=
  chipOnly s <|
    if s.tpll.started then
      let s1 := s.gateShow ofs phase aux
      if ofs.natAbs ≤ 100000 then s1.gatePass ofs phase aux else s1.refLost 1
    else s

/-- REF_EDGE_TIMEOUT (R71): no edge of REF_IN within 4 reference periods. -/
def execRefEdgeTimeout (s : State) : Host.Outcome State Fault Refusal :=
  chipOnly s (if s.tpll.started then s.refLost 2 else s)

/-! ### SLEW and snaps (R76, R78) -/

/-- The residual has fallen to 1 ns: LOCKED (R70). -/
def State.slewDone (s : State) : State := (s.settleResidual.tpllTo 1 0x0301).lockedFrom

/-- SLEW_COMPLETE (R76). -/
def execSlewComplete (s : State) : Host.Outcome State Fault Refusal :=
  chipOnly s (if s.tpllState = 3 ∧ s.tpll.snap = none ∧ s.residual.natAbs ≤ 5000000 then s.slewDone else s)

/-- PHASE_SNAP_STEP (R78): 16 tk after the last step the phase moves 250 ps toward 0. -/
def execPhaseSnapStep (s : State) : Host.Outcome State Fault Refusal :=
  chipOnly s <|
    match s.tpll.snap with
    | some (next, begun) =>
      if next ≤ s.tb then
        let s1 := if begun then s else
          (List.range 256).foldl (fun t l => if t.laneState l = 5 then t.laneGo l 6 7 else t) s
        let r := s.tpll.res
        let r' := if 0 ≤ r then r - 1250000 else r + 1250000
        let s2 := s1.modTpll fun p => { p with res := r', resAt := s.tb, snap := some (next + 16, true) }
        if r'.natAbs < 5000000 then s2.slewDone.raise pgTpll 8 else s2.settleResidual
      else s
    | none => s

/-! ### Failure and margins (R80) -/

/-- TPLL_CYCLE_SLIP (R80): a phase error beyond ±16 ns in LOCKED or SLEW. In the tick in which a loss has led to HOLDOVER, FAILED
takes precedence (R70). -/
def execTpllCycleSlip (s : State) : Host.Outcome State Fault Refusal :=
  chipOnly s (if s.tpllState = 1 ∨ s.tpllState = 3 ∨ (s.tpllState = 2 ∧ s.tpll.since = s.tb) then s.tpllFailed else s)

/-- FINE_CODE_LIMIT (R80): the fine code reaches an end of its range, in any state. -/
def execFineCodeLimit (s : State) : Host.Outcome State Fault Refusal :=
  chipOnly s (if s.tpll.started && s.tpllState != 4 then s.tpllFailed else s)

/-- TB_SUPERVISOR_FAULT (R80): TB outside ±1000 ppm over 10 µs. R80 names no state and R70's row LOCKED, SLEW and HOLDOVER: in
ACQUIRE, where the loop has no frequency to keep yet, the fault has no effect (DEDUCED, log entry 23). -/
def execTbSupervisorFault (s : State) : Host.Outcome State Fault Refusal :=
  chipOnly s (if 1 ≤ s.tpllState ∧ s.tpllState ≤ 3 then s.tpllFailed else s)

/-- TPLL_FINE_MARGIN (R80): the fine code comes within 10 % of an end; raised once. -/
def execTpllFineMargin (s : State) : Host.Outcome State Fault Refusal :=
  chipOnly s <|
    if s.tpll.started && s.rd TPLL_STAT.FINE_MARGIN 0 == 0 then
      (s.wr TPLL_STAT.FINE_MARGIN 0 1).raise pgTpll 5
    else s

/-- AF_TB_EDGE_LOSS (R82): the analogue Facet sees no TB edge for 4 tk. -/
def execAfTbEdgeLoss (s : State) : Host.Outcome State Fault Refusal := chipOnly s s.afFallback

/-! ### Holdover (R73, R74) -/

/-- −(e(T) − e(T_entry)) of R73, in 10^-5 / 4096 ppm. -/
def State.tempCorr (s : State) : Int :=
  let t := s.hubTemp
  let t0 := signed 16 (s.rd TPLL_TC_T0.T0 0) * 4
  let c1 := signed 32 (s.rd TPLL_TC_C1.C1 0)
  let c2 := signed 32 (s.rd TPLL_TC_C2.C2 0)
  let te := s.tpll.tEntry
  c1 * 6400 * (te - t) + c2 * ((te - t0) * (te - t0) - (t - t0) * (t - t0))

/-- HOLDOVER_TEMP_CORRECT (R73): every 10 ms in HOLDOVER, by at most 0.01 ppm. -/
def execHoldoverTempCorrect (s : State) : Host.Outcome State Fault Refusal :=
  chipOnly s <|
    let p := s.tpll
    if s.tpllState = 2 ∧ p.follow = false ∧ (s.rd TPLL_CTRL.HOLD_SRC 0 = 0 ∨ p.auxGone = true) ∧
        p.corrAt + 5000000 ≤ s.tb then
      s.setTpll { p with corr := p.corr + max (-4096000) (min 4096000 (s.tempCorr - p.corr)), corrAt := s.tb }
    else s

/-- AUX_LOST (R74): REF_AUX is lost in HOLDOVER with HOLD_SRC AUX. -/
def execAuxLost (s : State) : Host.Outcome State Fault Refusal :=
  chipOnly s (if s.tpllState = 2 ∧ s.rd TPLL_CTRL.HOLD_SRC 0 = 1 ∧ s.tpll.auxGone = false then s.auxLost else s)

/-! ### TPLL_CTRL (R92, R93) -/

/-- A write of TPLL_CTRL. A PHASE_SNAP written while a snap runs is accepted and changes nothing (DESIGN CHOICE, log entry 23). -/
def State.writeTpllCtrl (s : State) (w : Wr) : State :=
  let v := w.val.toNat
  let st := s.tpllState
  s.write w pgTpll 0x040
    (cause (bit v 3 && s.on TB_STAT.TB_RUN 0 && st != 4) 0x0001 ++
      cause (bit v 2 && (s.anyEngBusy || s.anyDrvBusy)) 0x0002 ++ cause (bit v 2 && st != 3) 0x0003 ++
      cause (decide (4 < bits v 8 4) || decide (1 < bits v 4 2)) 0x0004 ++ cause (bit v 1 && st != 4) 0x0005)
    fun s =>
      let s1 := (s.wr TPLL_CTRL.TBOUT_SEL 0 (bits v 8 4)).wr TPLL_CTRL.HOLD_SRC 0 (bits v 4 2)
      let s2 := if bit v 3 then
          (s1.wr TPLL_STAT.SWEEP_BUSY 0 1).modTpll fun p => { p with sweep := some (0, s.tb) }
        else s1
      let s3 := if bit v 2 && s.tpll.snap.isNone then
          s2.settleResidual.modTpll fun p => { p with snap := some (s.tb + 16, false) }
        else s2
      if bit v 1 then (s3.tpllTo 0 0x030E).tpllAcquire else s3

/-- TPLL_RESTART (R70): a write of TPLL_CTRL with RESTART 1. -/
def execTpllRestart (w : Wr) (s : State) : Host.Outcome State Fault Refusal := chipOnly s (s.writeTpllCtrl (orBits w 0x2))

/-- PHASE_SNAP (R78): a write of TPLL_CTRL with PHASE_SNAP 1. -/
def execPhaseSnap (w : Wr) (s : State) : Host.Outcome State Fault Refusal := chipOnly s (s.writeTpllCtrl (orBits w 0x4))

/-- SWEEP (R91): a write of TPLL_CTRL with SWEEP 1. -/
def execSweep (w : Wr) (s : State) : Host.Outcome State Fault Refusal := chipOnly s (s.writeTpllCtrl (orBits w 0x8))

/-- SWEEP_BAND_GATE (R91): the 100 µs gate of a band ends with `fmid`; VALID when the band reached mid fine code. -/
def execSweepBandGate (fmid : BitVec 24) (mid : Bool) (s : State) : Host.Outcome State Fault Refusal :=
  chipOnly s <|
    match s.tpll.sweep with
    | some (b, t) =>
      if t + 50000 ≤ s.tb then
        let s1 := (s.wr TPLL_SWEEP_RES.FMID b fmid.toNat).wr TPLL_SWEEP_RES.VALID b (flag mid)
        if b = 63 then ((s1.modTpll fun p => { p with sweep := none }).wr TPLL_STAT.SWEEP_BUSY 0 0).raise pgTpll 9
        else s1.modTpll fun p => { p with sweep := some (b + 1, s.tb) }
      else s
    | none => s

/-! ### TB_OUT (R92) -/

/-- The ticks from one rising edge of TB_OUT to the next, by TBOUT_SEL: 500, 250, 100 and 10 MHz. -/
def tbOutPeriod (sel : Nat) : Option Nat :=
  match sel with
  | 1 => some 1
  | 2 => some 2
  | 3 => some 5
  | 4 => some 50
  | _ => none

/-- TB_OUT rises at the present tick: E mod (500 MHz / f) is 0 (R92). -/
def State.tbOutRises (s : State) : Bool :=
  match tbOutPeriod (s.rd TPLL_CTRL.TBOUT_SEL 0) with
  | some n => s.on TB_STAT.TB_RUN 0 && s.epoch % n == 0
  | none => false

end Sys2Proof.Machine
end

