-- ==== Sys2Proof/Machine/Lustre.lean ====
section
/-!
DEFINITION. Machine/Lustre.lean: the ageing and margin engine (R460 to R468). Islands are numbered by Girdle stop: 0 the hub,
17 the AF.
-/

namespace Sys2Proof.Machine

/-! ### Slack and points (R461, R462) -/

/-- k at `mv` millivolts (R461). -/
def kAt (mv : Nat) : Nat := max 1 (Config.kv ((mv - 700) / 5))

/-- The slack at (F, V) of an island with delay `dly` at `now` millivolts is at least `g` ps (R461). -/
def passes (dly now g f v : Nat) : Bool := decide (g * f * kAt now + dly * kAt v * f ≤ 1000000 * kAt now)

/-- The slack at 800 MHz and 850 mV, in ps (R465). -/
def slackMin (dly now : Nat) : Int := roundDiv ((1250 * kAt now : Nat) - (dly * kAt 850 : Nat) : Int) (kAt now)

/-- The lowest voltage at which F passes (R462 step 1). -/
def stepOne (dly now g f : Nat) : Option Nat := ((List.range 31).map (700 + 5 * ·)).find? (passes dly now g f)

/-- The highest F below the target that passes at 850 mV (R462 step 2). -/
def stepTwo (dly now g tgt : Nat) : Option Nat :=
  (((List.range 50).map (fun i => 1290 - 10 * i)).filter (· < tgt)).find? fun f => passes dly now g f 850

/-- The plan's point and the step it comes from (R462). -/
def planOf (hub : Bool) (dly now g tgt : Nat) : Nat × Nat × Nat :=
  if hub then (1200, (stepOne dly now g 1200).getD 850, 1)
  else match stepOne dly now g tgt with
    | some v => (tgt, v, 1)
    | none => match stepTwo dly now g tgt with
      | some f => (f, 850, 2)
      | none => (800, 850, 3)

/-- The domain of the island at stop `n`, and its number as an island of Machine/Facet.lean. -/
def stopIsl (n : Nat) : Nat := if n = 17 then 32 else if n < 17 then n - 1 else n - 2
def stopDomain (n : Nat) : Nat := if n = 0 then 98 else stopIsl n

/-- The voltage the island at stop `n` runs at. -/
def State.stopVolt (s : State) (n : Nat) : Nat := if n = 0 then (s.rail 9).mv else (s.isl (stopIsl n)).volt

/-! ### Projection (R465) -/

/-- PROJ_H of an island's slacks, newest first with their plan ticks: the hours until the least-squares line through them falls
below GUARD_PS. -/
def projH (g now : Nat) (xs : List (Nat × Int)) : Nat :=
  match xs with
  | [] => 0xFFFFFFFF
  | (_, y0) :: _ =>
    if y0 < g then 0
    else if xs.length < 8 then 0xFFFFFFFF
    else
      let n : Int := xs.length
      let t0 := xs.foldl (fun m x => min m x.1) now
      let sx : Int := (xs.map fun x => ((x.1 - t0 : Nat) : Int)).sum
      let sy : Int := (xs.map (·.2)).sum
      let sxx : Int := (xs.map fun x => ((x.1 - t0 : Nat) : Int) * ((x.1 - t0 : Nat) : Int)).sum
      let sxy : Int := (xs.map fun x => ((x.1 - t0 : Nat) : Int) * x.2).sum
      let num := n * sxy - sx * sy
      let den := n * sxx - sx * sx
      if 0 ≤ num ∨ den ≤ 0 then 0xFFFFFFFF
      else
        -- the line is at g when n · (x · num / den) = n · g − sy + sx · num / den
        let cross := (sy - n * g) * den - sx * num
        let rest := cross - ((now - t0 : Nat) : Int) * n * (-num)
        if rest ≤ 0 then 0 else min 0xFFFFFFFE (rest / (n * (-num) * 1800000000000)).toNat

/-! ### Plans (R463) -/

/-- A plan starts. -/
def State.planStart (s : State) : State :=
  if s.on LUS_STAT.BUSY 0 then s
  else (s.wr LUS_STAT.BUSY 0 1).modLustre fun x => { x with start := some s.epoch }

/-- The epoch of the next periodic plan. -/
def State.planDue (s : State) : Nat := s.lustre.next.getD (30000000000 * s.rd LUS_CTRL.PERIOD_MIN 0)

/-- LUS_PLAN_TIMER (R463): PERIOD_MIN minutes have passed; a plan starts, or is skipped while one runs. -/
def execLusPlanTimer (s : State) : Host.Outcome State Fault Refusal :=
  chipOnly s <|
    if s.on LUS_CTRL.EN 0 && decide (s.planDue ≤ s.epoch) then
      let s1 := s.modLustre fun x => { x with next := some (s.planDue + 30000000000 * s.rd LUS_CTRL.PERIOD_MIN 0) }
      if s.on LUS_STAT.BUSY 0 then s1.inc LUS_STAT.SKIPPED 0 else s1.planStart
    else s

/-- A write of LUS_CTRL (R463, R468). -/
def State.writeLusCtrl (s : State) (w : Wr) : State :=
  let v := w.val.toNat
  let p := bits v 0 11
  s.write w pgLus 0x040 (cause (decide (p < 1 ∨ 1440 < p)) 0x0001 ++ cause (bit v 16 && s.on LUS_STAT.BUSY 0) 0x0002) fun s =>
    let s1 := (s.wr LUS_CTRL.EN 0 (bits v 31 1)).wr LUS_CTRL.PERIOD_MIN 0 p
    let s2 := if bit v 31 && !s.on LUS_CTRL.EN 0 then s1.modLustre fun x => { x with next := some (s.epoch + 30000000000 * p) } else s1
    if bit v 16 then s2.planStart else s2

/-- LUS_REPLAN (R463): a write of LUS_CTRL with REPLAN 1. -/
def execLusReplan (w : Wr) (s : State) : Host.Outcome State Fault Refusal := chipOnly s (s.writeLusCtrl (orBits w 0x10000))

/-- The island at stop `n` is planned from its AGE and DLY (R461 to R465), and its point is requested. -/
def State.planIsland (s : State) (n age dly : Nat) : State :=
  if !s.domOn (stopDomain n) then s
  else
    let g := s.rd LUS_CFG.GUARD_PS 0
    let now := s.stopVolt n
    let (f, v, step) := planOf (n == 0) dly now g (s.rd LUS_ISL_CFG.F_TGT n)
    let sl := slackMin dly now
    let t := s.lustre.start.getD s.epoch
    let xs := ((t, sl) :: Sparse.get [] s.lustre.slack n).take 64
    let s1 := (((s.wr LUS_ISL_PLAN.F_MHZ n f).wr LUS_ISL_PLAN.V_MV n v).wr LUS_ISL_MARGIN.HEADROOM n
      (if step = 1 then 850 - v else 0)).wr LUS_ISL_MARGIN.SLACK_MIN n (unsigned 12 (satInt 12 sl))
    let s2 := ((s1.wr LUS_ISL_MARGIN.AGE n (min 0xFFF age)).wr LUS_ISL_PROJ.PROJ_H n (projH g t xs)).modLustre fun x =>
      { x with slack := Sparse.put [] x.slack n xs }
    let s3 := if step = 1 then s2 else s2.raise pgLus 1
    let s4 := if step = 3 then s3.jrn 0x09 n 0x1202 [.word 1] else s3
    let hold := s.safeHolds
    if n = 0 then
      if hold || (s.rail 9).mv == v || decide (s.dev < 5) then s4
      else (s4.setRail 9 { mv := v, wait := some s.tb }).emit (.avs 9 v)
    else
      let i := stopIsl n
      if hold || s.rdI FCT_CLK_STAT.OVR_ACTIVE AF_CLK_STAT.OVR_ACTIVE i == 1 then s4 else s4.requestPoint i f v

/-- The record of an island whose plan differs from `old`, the point in force when the plan was made (R463): both points, and AGE. -/
def State.planRecord (s : State) (n age : Nat) (old : Nat × Nat) : State :=
  let new := (s.rd LUS_ISL_PLAN.F_MHZ n, s.rd LUS_ISL_PLAN.V_MV n)
  if n = 0 ∨ old = new ∨ s.domOn (stopDomain n) = false then s
  else s.jrn 0x09 n 0x1206 [.word (old.1 * 65536 + old.2), .word (new.1 * 65536 + new.2), .word age]

/-- LUS_PROJ_MIN and LUS_PROJ_LOW (R465). -/
def State.planProj (s : State) : State :=
  let best := (List.range 34).foldl (fun b n =>
    let h := s.rd LUS_ISL_PROJ.PROJ_H n
    if h < b.2 then (n, h) else b) (0, 0xFFFFFFFF)
  let s1 := (s.wr LUS_PROJ_MIN.ISLAND 0 best.1).wr LUS_PROJ_MIN.PROJ_H 0 (min best.2 0xFFFFFF)
  if best.2 < s.rd LUS_PROJ_WARN.PROJ_WARN_H 0 then
    if s.lustre.projTold then s1 else (s1.modLustre fun x => { x with projTold := true }).raise pgLus 4
  else s1.modLustre fun x => { x with projTold := false }

/-- A flag of R466. -/
def State.planFlag (s : State) (kind i : Nat) : State :=
  ((s.wr LUS_FLAG.KIND 0 kind).wr LUS_FLAG.INDEX 0 i).raise pgLus (if kind = 0 then 3 else 2)

/-- The quantities that have newly passed their limit (R466). -/
def State.planFlags (s : State) : State :=
  let drifts := (List.range 64).filter fun d =>
    decide (s.rd LUS_CFG.DRIFT_LIM 0 < (signed 32 (s.rd LOUPE_CH_DRIFT.DRIFT d)).natAbs)
  let eyes := (List.range 256).filter fun l =>
    s.laneState l == 5 && decide (s.rd LANE_EYE.HEIGHT l < s.rd LUS_CFG.EYE_WARN 0)
  let s1 := (drifts.filter fun d => !s.lustre.drifts.contains d).foldl (fun t d => t.planFlag 0 d) s
  let s2 := (eyes.filter fun l => !s.lustre.eyes.contains l).foldl (fun t l => t.planFlag 1 l) s1
  s2.modLustre fun x => { x with drifts := drifts, eyes := eyes }

/-- LUS_PLAN_COMPLETE (R460 to R466): the running plan completes with the AGE and DLY of the 34 islands. -/
def execLusPlanComplete (ages dlys : List Nat) (s : State) : Host.Outcome State Fault Refusal :=
  chipOnly s <|
    match s.lustre.start with
    | some t =>
      let s1 := (s.incW LUS_STAT.PLANS 0).wr LUS_STAT.BUSY 0 0
      let s2 := (List.range 34).foldl (fun u n => u.planIsland n ((ages[n]?).getD 0) ((dlys[n]?).getD 0)) s1
      let s3 := (((s2.planProj.planFlags.modLustre fun x => { x with start := none }).wr LUS_LAST.TICK 0 (t % 2 ^ 32)).wr
        LUS_LAST.TICK 1 (t / 2 ^ 32)).raise pgLus 0
      (List.range 34).foldl (fun u n => u.planRecord n ((ages[n]?).getD 0) (s.pointOf (stopIsl n)))
        (s3.jrn 0x09 0 0x1201 [.word (s3.rd LUS_STAT.PLANS 0)])
    | none => s

/-- A write of LUS_ISL_CFG or LUS_CFG (R468). -/
def State.writeLusReg (s : State) (off : Nat) (w : Wr) : State :=
  let v := w.val.toNat
  let f := bits v 0 11
  s.plainReg w pgLus off
    (cause (off == 0x044 && decide (bits v 24 8 < 10)) 0x0001 ++
      cause (decide (0x100 ≤ off) && decide (f < 800 ∨ 1300 < f ∨ f % 10 ≠ 0)) 0x0001)

end Sys2Proof.Machine
end

