-- ==== Sys2Proof/Machine/CrownMath.lean ====
section
/-!
DEFINITION. Machine/CrownMath.lean: the Crown's arithmetic (R426 to R435). Each formula is taken at its exact value over what the
Crown holds, and what it gives is held in the format of R431. How the hardware rounds into that format is open (`Config.f32`,
`Config.block`). Roots, powers and circular functions are taken with 120 fraction bits or more.
-/

namespace Sys2Proof

/-! ### Complex numbers -/

def Cx.add (a b : Cx) : Cx := ⟨a.re + b.re, a.im + b.im⟩
def Cx.sub (a b : Cx) : Cx := ⟨a.re - b.re, a.im - b.im⟩
def Cx.mul (a b : Cx) : Cx := ⟨a.re * b.re - a.im * b.im, a.re * b.im + a.im * b.re⟩
def Cx.conj (a : Cx) : Cx := ⟨a.re, -a.im⟩
def Cx.scale (r : Rat) (a : Cx) : Cx := ⟨r * a.re, r * a.im⟩
/-- |a|². -/
def Cx.sq (a : Cx) : Rat := a.re * a.re + a.im * a.im
def Cx.sum (xs : List Cx) : Cx := xs.foldl Cx.add {}

end Sys2Proof

namespace Sys2Proof.Machine

/-! ### Numbers -/

/-- The value of a binary32 pattern. -/
def f32Val (b : BitVec 32) : Rat :=
  let e := bits b.toNat 23 8
  let m : Rat := ((if e = 0 then 2 * bits b.toNat 0 23 else 2 ^ 23 + bits b.toNat 0 23 : Nat) : Rat)
  let v := if 150 ≤ e then m * (2 ^ (e - 150) : Nat) else m / (2 ^ (150 - e) : Nat)
  if bit b.toNat 31 then -v else v

/-- A rational to the nearest whole number, ties away from zero (R361). -/
def roundRat (q : Rat) : Int := roundDiv q.num q.den

/-- The whole part of the square root of `n`, bit by bit. -/
def rootNat (n : Nat) : Nat :=
  (List.range (n.log2 / 2 + 1)).foldr (fun i r => if (r + 2 ^ i) * (r + 2 ^ i) ≤ n then r + 2 ^ i else r) 0

/-- The square root of a rational that is not negative, with 240 fraction bits. -/
def sqrtRat (q : Rat) : Rat := ((rootNat (q.num.toNat * q.den * 2 ^ 480) : Nat) : Rat) / ((q.den * 2 ^ 240 : Nat) : Rat)

/-- log2 of 10 and log10 of 2 with 120 fraction bits. -/
def log2Ten : Nat := 4415599823708732494820352040231157613
def log10Two : Nat := 400137497807575639648484801758215752

/-- 10 to the power `a / b`. -/
def tenPow (a : Int) (b : Nat) : Rat :=
  ((if 0 ≤ a then pow2Q (a.natAbs * log2Ten) (b * one120) else pow2Neg (a.natAbs * log2Ten) (b * one120) : Nat) : Rat) / (one120 : Rat)

/-- Squaring `x`, a number from 1 to 2 with 120 fraction bits, gives the next bit of its binary logarithm: `n` bits of it. -/
def logBits : Nat → Nat → Nat
  | 0, _ => 0
  | n + 1, x =>
    let y := x * x / one120
    if 2 * one120 ≤ y then 2 ^ n + logBits n (y / 2) else logBits n y

/-- The binary logarithm of a positive rational with `w` fraction bits, to nearest. -/
def log2Rat (w : Nat) (q : Rat) : Int :=
  let a := q.num.toNat
  let e : Int := (a.log2 : Int) - (q.den.log2 : Int)
  let x := if 0 ≤ e then a * one120 / (q.den * 2 ^ e.natAbs) else a * one120 * 2 ^ e.natAbs / q.den
  let (e', x') := if x < one120 then (e - 1, 2 * x) else (e, x)
  (e' * 2 ^ (w + 1) + logBits (w + 1) x' + 1) / 2

/-! ### Matrices -/

/-- The sum of a list. -/
def ratSum (xs : List Rat) : Rat := xs.foldl (· + ·) 0

/-- sin of `k / den` turns. -/
def sinTurn (k : Int) (den : Nat) : Rat :=
  let r := k % (max 1 den : Nat)
  let c := if 2 * r ≤ den then r else r - den
  (sin120 (2 * pi120 * c / (max 1 den : Nat)) : Rat) / (one120 : Rat)

/-- e to the power j·2π·`k / den`. -/
def cis (k : Int) (den : Nat) : Cx := ⟨sinTurn (4 * k + den) (4 * den), sinTurn k den⟩

/-- The element of a matrix in row `i` and column `j`; 0 where it has none. -/
def mAt (a : List (List Cx)) (i j : Nat) : Cx := (((a[i]?).getD [])[j]?).getD {}
/-- The matrix of `r` rows and `c` columns whose elements `f` gives. -/
def mTab (r c : Nat) (f : Nat → Nat → Cx) : List (List Cx) := (List.range r).map fun i => (List.range c).map (f i)
/-- The product of an n × m and an m × p matrix. -/
def mMul (n m p : Nat) (a b : List (List Cx)) : List (List Cx) :=
  mTab n p fun i j => Cx.sum ((List.range m).map fun t => (mAt a i t).mul (mAt b t j))
/-- The conjugate transpose, of `r` rows and `c` columns. -/
def mHerm (r c : Nat) (a : List (List Cx)) : List (List Cx) := mTab r c fun i j => (mAt a j i).conj
/-- The sum of two r × c matrices, the second scaled. -/
def mAdd (r c : Nat) (a : List (List Cx)) (x : Rat) (b : List (List Cx)) : List (List Cx) :=
  mTab r c fun i j => (mAt a i j).add ((mAt b i j).scale x)

/-- One step of Gauss and Jordan's elimination on n rows of `w` elements: column `p` is cleared but for a 1 in row `p`; none when the
matrix has no inverse. -/
def elimStep (n w p : Nat) (a : List (List Cx)) : Option (List (List Cx)) :=
  match (List.range n).find? fun i => p ≤ i && (mAt a i p).sq != 0 with
  | none => none
  | some q =>
    let b := mTab n w fun i j => mAt a (if i = p then q else if i = q then p else i) j
    let d := mAt b p p
    let row := fun j => ((mAt b p j).mul d.conj).scale (1 / d.sq)
    some (mTab n w fun i j => if i = p then row j else (mAt b i j).sub ((mAt b i p).mul (row j)))

/-- The inverse of an n × n matrix. R427 gives none for a singular one: its elements are free values. -/
def mInv (n : Nat) (a : List (List Cx)) : List (List Cx) :=
  let start := mTab n (2 * n) fun i j => if j < n then mAt a i j else if j - n = i then ⟨1, 0⟩ else {}
  match (List.range n).foldl (fun x p => x.bind (elimStep n (2 * n) p)) (some start) with
  | some r => mTab n n fun i j => mAt r i (n + j)
  | none => mTab n n fun i j => Config.crownSingular a i j

/-- A complex value as binary32 holds it, and what it holds (R431). -/
def hold (a : Cx) : C32 := (Config.f32 a.re, Config.f32 a.im)
def held (a : C32) : Cx := ⟨f32Val a.1, f32Val a.2⟩
def mHold (a : List (List Cx)) : Mat := a.map fun r => r.map hold
def mHeld (a : Mat) : List (List Cx) := a.map fun r => r.map held

/-! ### Transforms (R426, R430, R431, R433) -/

/-- What a transform holds of its values: 32-bit mantissas with one block exponent. -/
def blockHeld (xs : List Cx) : List Cx :=
  let (e, ms) := Config.block xs
  let k : Rat := if 0 ≤ e then ((2 ^ e.natAbs : Nat) : Rat) else 1 / ((2 ^ e.natAbs : Nat) : Rat)
  ms.map fun p => ⟨k * (p.1.toInt : Rat), k * (p.2.toInt : Rat)⟩

/-- Lines 0 to `n` − 1 of the transform of a record. -/
def transform (n : Nat) (xs : List Rat) : List Cx :=
  blockHeld <| (List.range n).map fun l =>
    Cx.sum ((xs.zipIdx).map fun p => (cis (-((l * p.2 : Nat) : Int)) xs.length).scale p.1)

/-- The `b` real samples of a spectrum of lines, the inverse transform without its scale. -/
def inverse (b : Nat) (xs : List Cx) : List Rat :=
  (blockHeld <| (List.range b).map fun n =>
    Cx.sum ((xs.zipIdx).map fun p => p.1.mul (cis ((p.2 * n : Nat) : Int) b))).map (·.re)

/-- The analysis Hann and the synthesis sine window of `b` samples, with 18 fraction bits. -/
def hann (b n : Nat) : Int := roundRat (((2 : Rat) ^ 17) * (1 - (cis (n : Int) b).re))
def sineWin (b n : Nat) : Int := roundRat (((2 : Rat) ^ 18) * sinTurn ((2 * n + 1 : Nat) : Int) (4 * b))

/-- The Hann-windowed transform of a record of samples: lines 0 to `n` − 1. -/
def analysis (n : Nat) (xs : List Int) : List Cx :=
  transform n ((xs.zipIdx).map fun p => ((p.1 * hann xs.length p.2 : Int) : Rat) / ((2 ^ 18 : Nat) : Rat))

/-- The scale of line `l` of a one-sided spectrum from Hann-windowed records of `b` samples (R426): the sum of a record's auto-spectrum
over all lines is its mean square. -/
def lineScale (b l : Nat) : Rat :=
  let w2 := ratSum ((List.range b).map fun n => ((hann b n * hann b n : Int) : Rat) / ((2 ^ 36 : Nat) : Rat))
  (if l = 0 ∨ 2 * l = b then 1 else 2) / ((b : Rat) * w2)

/-- The spectra G of two sets of transformed records at line `l` (R426): the element i, j is x_i times the conjugate of y_j. -/
def crossAt (b l : Nat) (xs ys : List (List Cx)) : List (List Cx) :=
  mTab xs.length ys.length fun i j =>
    (((((xs[i]?).getD [])[l]?).getD {}).mul ((((ys[j]?).getD [])[l]?).getD {}).conj).scale (lineScale b l)

/-- The average after one more frame (R426): `n` divides its step. -/
def average (n r c : Nat) (g : Mat) (frame : List (List Cx)) : Mat :=
  mHold (mAdd r c (mHeld g) (1 / (n : Rat)) (mAdd r c frame (-1) (mHeld g)))

/-! ### Estimation and control (R427 to R430, R433) -/

/-- H1 at a line (R427): Gyx × Gxx⁻¹. -/
def estimate (nc nd : Nat) (gyx gxx : Mat) : Mat := mHold (mMul nc nd nd (mHeld gyx) (mInv nd (mHeld gxx)))

/-- H⁺ at a line (R427): (HᴴH + εI)⁻¹Hᴴ, ε = REG × 2⁻¹⁶ × trace(HᴴH) / ND. -/
def pseudo (nc nd reg : Nat) (h : Mat) : Mat :=
  let a := mHeld h
  let ah := mHerm nd nc a
  let g := mMul nd nc nd ah a
  let tr := ratSum ((List.range nd).map fun i => (mAt g i i).re)
  let eps := (reg : Rat) / ((2 ^ 16 : Nat) : Rat) * tr / (nd : Rat)
  mHold (mMul nd nd nc (mInv nd (mAdd nd nd g eps (mTab nd nd fun i j => if i = j then ⟨1, 0⟩ else {}))) ah)

/-- D after the update of R429 at a line, before it is made admissible: D + μ · H⁺ · (R′ − Y) · H⁺ᴴ. -/
def updated (nc nd mu : Nat) (d hp : Mat) (r : List (List Cx)) (y : Mat) : List (List Cx) :=
  let p := mHeld hp
  mAdd nd nd (mHeld d) ((mu : Rat) / ((2 ^ 15 : Nat) : Rat))
    (mMul nd nc nd (mMul nd nc nc p (mAdd nc nc r (-1) (mHeld y))) (mHerm nc nd p))

/-- Steps 1 and 2 of R429 at a line: no D_jj is below 0, and no |D_jk|² above D_jj · D_kk. The elements below the diagonal give those
above it. -/
def admissible (nd : Nat) (d : List (List Cx)) : List (List Cx) :=
  let dia := fun j => max 0 (mAt d j j).re
  let low := fun j k =>
    let x := mAt d j k
    if dia j * dia k < x.sq then x.scale (sqrtRat (dia j * dia k / x.sq)) else x
  mTab nd nd fun j k => if j = k then ⟨dia j, 0⟩ else if k < j then low j k else (low k j).conj

/-- Step 3 of R429 over the lines: rows and columns of a drive whose lines sum to more than DRV_MAX² are scaled to it; and whether one
was. -/
def limited (nd drvMax : Nat) (ds : List (List (List Cx))) : List (List (List Cx)) × Bool :=
  let cap : Rat := ((drvMax * drvMax : Nat) : Rat)
  let sum := fun j => ratSum (ds.map fun d => (mAt d j j).re)
  let excess := fun j => decide (cap < sum j)
  let f := fun j => if excess j then sqrtRat (cap / sum j) else 1
  (ds.map fun d => mTab nd nd fun j k =>
      if j = k then ⟨(mAt d j j).re * (if excess j then cap / sum j else 1), 0⟩ else (mAt d j k).scale (f j * f k),
    (List.range nd).any excess)

/-- The lower triangular factor C of a line (R430): D = C·Cᴴ, with zero columns for zero pivots. -/
def factor (nd : Nat) (d : Mat) : Mat :=
  let a := mHeld d
  let cols := (List.range nd).foldl (fun (cs : List (List Cx)) p =>
    let rest := fun i => (mAt a i p).sub (Cx.sum (cs.map fun col => ((col[i]?).getD {}).mul ((col[p]?).getD {}).conj))
    let piv := (rest p).re
    let root := sqrtRat piv
    cs ++ [(List.range nd).map fun i => if piv ≤ 0 ∨ i < p then {} else if i = p then ⟨root, 0⟩ else (rest i).scale (1 / root)]) []
  mHold (mTab nd nd fun i j => mAt cols j i)

/-- The controlled lines are 1 to this number less one (R425). -/
def linesTo (l b : Nat) : Nat := min l ((45 * b + 99) / 100)

/-- The spectrum of drive `j` in a synthesis frame (R430): C·e^(jθ) at each controlled line, with one phase drawn for each drive. -/
def drawn (seed frame nd lc : Nat) (fac : List Mat) (j : Nat) : List Cx :=
  (fac.zipIdx).map fun p =>
    if p.2 = 0 ∨ lc ≤ p.2 then {}
    else Cx.sum ((List.range nd).map fun q =>
      (mAt (mHeld p.1) j q).mul (cis ((Config.crownPhase seed ((frame * (lc - 1) + (p.2 - 1)) * nd + q) % 2 ^ 16 : Nat) : Int) (2 ^ 16)))

/-- Sample `n` of drive `j` of the synthesis frame `frame`, after the sine window (R430). -/
def frameSample (seed frame nd lc b : Nat) (fac : List Mat) (j n : Nat) : Rat :=
  sqrtRat 2 * (((inverse b (drawn seed frame nd lc fac j))[n]?).getD 0) * (sineWin b n : Rat) / ((2 ^ 18 : Nat) : Rat)

/-- Sample `i` since T_s of drive `j` of a random set (R430): the overlap-add of the frames that cover it. -/
def randomSample (seed nd lc b : Nat) (fac : List Mat) (j i : Nat) : Rat :=
  let h := b / 2
  frameSample seed (i / h) nd lc b fac j (i % h) +
    (if h ≤ i then frameSample seed (i / h - 1) nd lc b fac j (i % h + h) else 0)

/-- Sample `n` of drive `j` of a pulse (R433): the inverse transform of its controlled lines. -/
def pulseSample (lc b : Nat) (xs : List Mat) (j n : Nat) : Rat :=
  let ls := (xs.zipIdx).map fun p => if p.2 = 0 ∨ lc ≤ p.2 then {} else mAt (mHeld p.1) j 0
  2 * (((inverse b ls)[n]?).getD 0) / (b : Rat)

/-- The next pulse at a line (R433): X + μ · H⁺ · (T − Y). -/
def nextPulse (nc nd : Nat) (mu : Rat) (x hp : Mat) (t y : List (List Cx)) : Mat :=
  mHold (mAdd nd 1 (mHeld x) mu (mMul nd nc 1 (mHeld hp) (mAdd nc 1 t (-1) y)))

/-! ### The error and the sine loop (R432, R435) -/

/-- 10 · log10 of the ratio of two mean squares, in 0.01 dB with 40 further fraction bits (R435). The spec gives none when either is 0:
a free value. -/
def errOf (y r : Rat) : Int :=
  if 0 < y ∧ 0 < r then log2Rat 40 (y / r) * 1000 * log10Two / 2 ^ 120 else Config.crownErrOpen y r

/-- The log2 of a reference amplitude at `f` Hz (R432), with 16 fraction bits: between breakpoints log-log, constant beyond them. The
spec gives none for a block without breakpoints or with a value that has no logarithm: a free value. -/
def refLog (pts : List (Rat × Rat)) (f : Rat) : Int :=
  if pts == [] || pts.any (fun p => decide (p.1 ≤ 0) || decide (p.2 ≤ 0)) then Config.crownRefOpen pts f
  else
    let below := (pts.filter fun p => decide (p.1 ≤ f)).getLast?
    let above := pts.find? fun p => decide (f < p.1)
    match below, above with
    | some p, some q =>
      let x0 := log2Rat 16 p.1
      let y0 := log2Rat 16 p.2
      y0 + roundDiv ((log2Rat 16 q.2 - y0) * (log2Rat 16 f - x0)) (log2Rat 16 q.1 - x0).toNat
    | some p, none => log2Rat 16 p.2
    | none, some q => log2Rat 16 q.2
    | none, none => Config.crownRefOpen pts f

/-- The trim of R432 after a frame: TRIM × q^(−μ), at most TRIM_MAX; `lq` is log2 q with 16 fraction bits, none for q = 0. -/
def trimNext (trim mu trimMax : Nat) (lq : Option Int) : Nat :=
  if trim = 0 then 0
  else match lq with
    | none => trimMax
    | some l =>
      let x := log2Rat 16 ((trim : Rat) / ((2 ^ 22 : Nat) : Rat)) - roundDiv (l * mu) (2 ^ 15) + 22 * 2 ^ 16
      if x < 0 then 0 else min trimMax (roundDiv (pow2Q x.toNat (2 ^ 16) : Nat) one120).toNat

end Sys2Proof.Machine
end

