-- ==== Sys2Proof/Machine/CrownOps.lean ====
section
/-!
DEFINITION. Machine/CrownOps.lean: what a Crown group is made of and how its frames run: control points, frame sizes, the
reference, the ramps, alarms (R420 to R436).
-/

namespace Sys2Proof.Machine

/-- The group is neither IDLE nor STOPPED, or a start is accepted. -/
def State.crownActive (s : State) (k : Nat) : Bool := s.crownBusy k || (s.crown k).start.isSome

/-- NC of group `k`. -/
def State.crownNC (s : State) (k : Nat) : Nat := s.rdA CROWN_SIZE.NC k

/-- The control points of group `k`: their numbers and sense channels. -/
def State.crownCPs (s : State) (k : Nat) : List (Nat × Nat) :=
  ((List.range (s.crownNC k)).filter fun i => s.rdA CROWN_CP.EN (64 * k + i) == 1).map fun i =>
    (i, s.rdA CROWN_CP.SENSE (64 * k + i))

/-- Sense channel `c` is a control point of a group that is not IDLE or STOPPED. -/
def State.cpInUse (s : State) (c : Nat) : Bool :=
  (List.range 8).any fun k => s.crownActive k && (s.crownCPs k).any fun p => p.2 == c

/-- L and B of R425. -/
def crownLB (lines : Nat) : Nat × Nat :=
  match lines with
  | 0 => (400, 1024) | 1 => (800, 2048) | 2 => (1600, 4096) | 3 => (3200, 8192) | 4 => (6400, 16384) | _ => (8192, 16384)

/-- L of group `k`. -/
def State.crownL (s : State) (k : Nat) : Nat := (crownLB (s.rdA CROWN_CFG.LINES k)).1
/-- B of group `k`. -/
def State.crownB (s : State) (k : Nat) : Nat := (crownLB (s.rdA CROWN_CFG.LINES k)).2

/-- N of the group's reference channel. -/
def State.crownN (s : State) (k : Nat) : Nat := s.grpPer (grpOf (s.crownRef k))

/-- The frame period F in ticks: B/2 samples, or in SINE a drive granule (R425). -/
def State.crownF (s : State) (k : Nat) : Nat := (if s.crownSine k then 16 else s.crownB k / 2) * s.crownN k

/-- Storage W of R422; a SINE group uses no coefficient bank. -/
def State.crownW (s : State) (k : Nat) : Nat :=
  let d := s.crownND k
  let c := s.crownNC k
  if s.crownSine k then 0 else s.crownL k * (2 * d * d + 2 * c * d + c * c)

/-- Work M of a frame (R422). -/
def State.crownWork (s : State) (k : Nat) : Nat :=
  let d := s.crownND k
  let c := s.crownNC k
  if s.crownSine k then 0 else s.crownL k * (d + c) ^ 3 + 4 * s.crownB k * (2 * d + c)

/-- The work per tick of the groups together (R422), as a fraction. -/
def State.crownLoad (s : State) (gs : List Nat) : Nat × Nat :=
  gs.foldl (fun x k => (x.1 * max 1 (s.crownF k) + s.crownWork k * x.2, x.2 * max 1 (s.crownF k))) (0, 1)

/-- Bytes of the reference in the group's slot (R428, R432). -/
def State.crownRefBytes (s : State) (k : Nat) : Nat :=
  let c := s.crownNC k
  if s.crownSine k then 520 * c else 4 * (c * s.crownL k + c * (c - 1) / 2)

/-- The slot REF_SEL selects: its offset in the reference pool. -/
def State.crownSlot (s : State) (k : Nat) : Nat := s.rdA CROWN_BASE_REF.BASE (2 * k + s.rdX CROWN_REF.REF_SEL k)

/-- Bytes of a readout block (R436). -/
def State.crownRdBytes (s : State) (k : Nat) : Nat := 4 * (1 + (s.crownNC k + s.crownND k) * s.crownL k)

/-! ### What the group measures with (R426, R428, R430 to R433) -/

/-- The controlled lines of group `k` are 1 to this number less one (R425). -/
def State.crownLc (s : State) (k : Nat) : Nat := linesTo (s.crownL k) (s.crownB k)

/-- SEED of group `k`. -/
def State.crownSeed (s : State) (k : Nat) : Nat := s.rdA CROWN_SEED_LO.SEED k + 2 ^ 32 * s.rdA CROWN_SEED_HI.SEED k

/-- LEVEL in force, in 0.01 dB. -/
def State.crownLevel (s : State) (k : Nat) : Int := signed 16 (s.rdX CROWN_REF.LEVEL k)

/-- The reference in force R′ at line `l` (R428). -/
def State.crownTarget (s : State) (k l : Nat) : List (List Cx) :=
  let nc := s.crownNC k
  let base := 0x00400000 + s.crownSlot k
  let dia := fun i => f32Val (BitVec.ofNat 32 (s.afDword (base + 4 * (i * s.crownL k + l))))
  let pair := fun i j =>
    let w := s.afDword (base + 4 * (nc * s.crownL k + (i * nc - i * (i + 1) / 2 + (j - i - 1))))
    (cis (bits w 0 16 : Nat) (2 ^ 16)).scale ((bits w 16 16 : Nat) / (2 ^ 16 : Nat) * sqrtRat (dia i * dia j))
  mTab nc nc fun i j =>
    (if i = j then ⟨dia i, 0⟩ else if i < j then pair i j else (pair j i).conj).scale (tenPow (s.crownLevel k) 1000)

/-- The record of drive `j` that ends at boundary `b` (R426): the samples written, after the ramps. -/
def State.crownDrive (s : State) (k b j : Nat) : List Int :=
  let c := s.crown k
  let n := s.crownN k
  (List.range (s.crownB k)).map fun i =>
    let x := b + i * n - s.crownB k * n
    match c.sent.find? fun p => p.1 == x with
    | some p => c.ramped ((p.2[j]?).getD 0) x
    | none => 0

/-- The record of control point `i` that ends at boundary `b` (R426, R433). -/
def State.crownResp (s : State) (k b i : Nat) : List Int :=
  let n := s.crownN k
  (List.range (s.crownB k)).map fun a =>
    match (s.crown k).resp.find? fun p => p.1 == b + a * n - s.crownB k * n && p.2.1 == i with
    | some p => p.2.2
    | none => 0

/-- D of the INIT phase (R429): each drive's mean square INIT_RMS² spread equally over the controlled lines. -/
def State.crownDInit (s : State) (k : Nat) : List Mat :=
  let nd := s.crownND k
  let ms : Rat := (s.rdA CROWN_INIT.INIT_RMS k ^ 2 : Nat) / (s.crownLc k - 1 : Nat)
  (List.range (s.crownL k)).map fun l =>
    mHold (mTab nd nd fun i j => if i = j ∧ 1 ≤ l ∧ l < s.crownLc k then ⟨ms, 0⟩ else {})

/-- The mean squares of the control points over the lines, and their reference (R435). -/
def State.crownSums (s : State) (k : Nat) : Rat × Rat :=
  let nc := s.crownNC k
  let tr := fun (a : List (List Cx)) => ratSum ((List.range nc).map fun i => (mAt a i i).re)
  (ratSum ((s.crown k).gyy.map fun g => tr (mHeld g)), ratSum ((List.range (s.crownL k)).map fun l => tr (s.crownTarget k l)))

/-- The error of R435, in 0.01 dB with 40 further fraction bits. -/
def State.crownErr (s : State) (k : Nat) : Int := errOf (s.crownSums k).1 (s.crownSums k).2

/-- That error to the nearest 0.01 dB. -/
def State.crownErrReg (s : State) (k : Nat) : Int := roundDiv (s.crownErr k) (2 ^ 40)

/-! ### Tracking (R432) -/

/-- The DDS that control point `i` of a SINE group is tracked at: the drive channel and source, and its phase. -/
def State.crownDds (s : State) (k i : Nat) : Option (Nat × Dds × Nat) :=
  (s.crownSdrv k (s.rdA CROWN_CP.CP_DRV (64 * k + i))).map fun p =>
    let u := if p.2 = 0 then (s.drv p.1).a.dds else (s.drv p.1).b.dds
    (p.1, u, (u.p + s.phOfs p.1 p.2 * 2 ^ 32) % 2 ^ 48)

/-- The frequency of a DDS of channel `d` in Hz (R376). -/
def State.ddsHz (s : State) (d : Nat) (u : Dds) : Rat :=
  ((u.reg * 500000000 : Nat) : Rat) / ((2 ^ 64 * max 1 (s.grpPer (grpOf d)) : Nat) : Rat)

/-- The tracking filter of control point `i` takes sample `y` (R432). -/
def State.crownTrack (s : State) (k i : Nat) (y : Int) : State :=
  match s.crownDds k i with
  | some (d, u, phi) =>
    let bw : Rat := max ((s.rdX CROWN_TRACK.BW_MIN k : Nat) / (100 : Nat)) ((s.rdX CROWN_TRACK.BW_PCT k : Nat) / (100 : Nat) * s.ddsHz d u)
    let fs : Rat := (500000000 : Nat) / (max 1 (s.crownN k) : Nat)
    let z := Config.crownLowpass (Sparse.get ({}, {}) (s.crown k).track i) ((cis (-(phi : Int)) (2 ^ 48)).scale y) bw fs
    s.modCrown k fun c => { c with track := Sparse.put ({}, {}) c.track i z }
  | none => s

/-- A running group takes sample `y` of channel `ch` for its control points: into their records, or in SINE into their filters. -/
def State.crownHear (s : State) (k ch : Nat) (y : Int) : State :=
  ((s.crownCPs k).filter fun p => p.2 == ch).foldl (fun t p =>
    if t.crownSine k then t.crownTrack k p.1 y
    else t.modCrown k fun c => { c with resp := c.resp ++ [(t.epoch, p.1, y)] }) s

/-- Y_i of control point `i` (R431, R432): 2|z| in counts with 8 fraction bits. -/
def State.crownAmp (s : State) (k i : Nat) : Nat :=
  min 0xFFFFFFFF (roundRat (2 ^ 9 * sqrtRat (Sparse.get (({}, {}) : Cx × Cx) (s.crown k).track i).2.sq)).toNat

/-- The breakpoints of control point `i` of a SINE group (R432): frequency and amplitude. -/
def State.crownPoints (s : State) (k i : Nat) : List (Rat × Rat) :=
  let a := 0x00400000 + s.crownSlot k + 520 * i
  let v := fun n => f32Val (BitVec.ofNat 32 (s.afDword (a + 4 * n)))
  (List.range (min 64 (s.afDword a))).map fun n => (v (2 * n + 1), v (2 * n + 2))

/-- log2 of Y_i / R_i(f), with 16 fraction bits (R432); none when Y_i is 0. -/
def State.crownRatio (s : State) (k i : Nat) : Option Int :=
  match s.crownAmp k i, s.crownDds k i with
  | 0, _ => none
  | y, some (d, u, _) => some (log2Rat 16 ((y : Rat) / ((2 ^ 8 : Nat) : Rat)) - refLog (s.crownPoints k i) (s.ddsHz d u))
  | _, none => none

/-- An alarm of group `k` (R435): kind 0 ERR, 1 CLIP, stamped at tick `x`. -/
def State.crownAlarm (s : State) (k kind x : Nat) (err : Int) : State :=
  let st : Stamp := { t := x, unc := s.unc }
  let s1 := ((s.produce (prodId 9 (2 * k + 1)) st 0).raise (pgCrown k) 3).jrnAt st 0x0B (64 + k) 0x1007
    [.word kind, .word (unsigned 32 err)]
  match s.rdX CROWN_ALARM.ACTION k with
  | 1 =>
    if s.crownState k = 1 then (s1.wr CROWN_STAT.STOP_CAUSE k 3).crownTo k 2 0x1006 (some 2) else s1
  | 2 =>
    if s.crownState k = 1 ∨ s.crownState k = 2 then
      let t0 := s.drvGran (s.crownRef k) (x + s.h)
      s1.modCrown k fun c => { c with stop := match c.stop with
        | some (t, cse) => if t ≤ t0 then some (t, cse) else some (t0, 3)
        | none => some (t0, 3) }
    else s1
  | _ => s1

end Sys2Proof.Machine
end

