-- ==== Sys2Proof/Machine/Crypto.lean ====
section
/-!
DEFINITION. Machine/Crypto.lean: the cryptography that the spec names by its standards: SHA-256, HMAC-SHA-256 (R496, R497, R501), AES-256
(FIPS 197), AES-256-GCM (R273), AES Key Wrap with the default IV (R502, RFC 3394) and ECDSA over P-256 (R519). PRESUMED: what the
standards' names say (log entry 5). Byte strings are lists, the first byte first.
-/

namespace Sys2Proof.Machine

/-! ### Byte strings -/

/-- A number's `n` little-endian bytes. -/
def leBytes : Nat → Nat → List Nat
  | 0, _ => []
  | n + 1, v => v % 256 :: leBytes n (v / 256)

/-- A number's `n` big-endian bytes. -/
def beBytes (n v : Nat) : List Nat := (leBytes n v).reverse

/-- The number that a byte string spells, big-endian. -/
def beNat (bs : List Nat) : Nat := bs.foldl (fun v b => 256 * v + b) 0

/-- The number that a byte string spells, little-endian. -/
def leNat (bs : List Nat) : Nat := beNat bs.reverse

/-- A byte string cut into pieces of `n` bytes, the last one as long as it comes. -/
def pieces (n : Nat) (bs : List Nat) : List (List Nat) :=
  (List.range ((bs.length + n - 1) / n)).map fun i => (bs.drop (n * i)).take n

/-! ### SHA-256 and HMAC -/

/-- The round constants of SHA-256. -/
def shaK : List Nat :=
  [0x428a2f98, 0x71374491, 0xb5c0fbcf, 0xe9b5dba5, 0x3956c25b, 0x59f111f1, 0x923f82a4, 0xab1c5ed5,
   0xd807aa98, 0x12835b01, 0x243185be, 0x550c7dc3, 0x72be5d74, 0x80deb1fe, 0x9bdc06a7, 0xc19bf174,
   0xe49b69c1, 0xefbe4786, 0x0fc19dc6, 0x240ca1cc, 0x2de92c6f, 0x4a7484aa, 0x5cb0a9dc, 0x76f988da,
   0x983e5152, 0xa831c66d, 0xb00327c8, 0xbf597fc7, 0xc6e00bf3, 0xd5a79147, 0x06ca6351, 0x14292967,
   0x27b70a85, 0x2e1b2138, 0x4d2c6dfc, 0x53380d13, 0x650a7354, 0x766a0abb, 0x81c2c92e, 0x92722c85,
   0xa2bfe8a1, 0xa81a664b, 0xc24b8b70, 0xc76c51a3, 0xd192e819, 0xd6990624, 0xf40e3585, 0x106aa070,
   0x19a4c116, 0x1e376c08, 0x2748774c, 0x34b0bcb5, 0x391c0cb3, 0x4ed8aa4a, 0x5b9cca4f, 0x682e6ff3,
   0x748f82ee, 0x78a5636f, 0x84c87814, 0x8cc70208, 0x90befffa, 0xa4506ceb, 0xbef9a3f7, 0xc67178f2]

/-- The initial hash value of SHA-256. -/
def shaInit : List Nat :=
  [0x6a09e667, 0xbb67ae85, 0x3c6ef372, 0xa54ff53a, 0x510e527f, 0x9b05688c, 0x1f83d9ab, 0x5be0cd19]

/-- A 32-bit word rotated right. -/
def rotr (n x : Nat) : Nat := (x >>> n ||| x <<< (32 - n)) % 2 ^ 32

/-- The message schedule of a block of sixteen words: the words so far, newest first, `n` more to come. -/
def shaSchedule : Nat → List Nat → List Nat
  | 0, ws => ws.reverse
  | n + 1, ws =>
    let w := fun i => (ws[i]?).getD 0
    let s1 := rotr 17 (w 1) ^^^ rotr 19 (w 1) ^^^ (w 1 >>> 10)
    let s0 := rotr 7 (w 14) ^^^ rotr 18 (w 14) ^^^ (w 14 >>> 3)
    shaSchedule n ((s1 + w 6 + s0 + w 15) % 2 ^ 32 :: ws)

/-- One round of SHA-256 on its eight working variables: a constant and a word of the schedule. -/
def shaRound (v : List Nat) (kw : Nat × Nat) : List Nat :=
  match v with
  | [a, b, c, d, e, f, g, h] =>
    let t1 := h + (rotr 6 e ^^^ rotr 11 e ^^^ rotr 25 e) + ((e &&& f) ^^^ ((2 ^ 32 - 1 - e) &&& g)) + kw.1 + kw.2
    let t2 := (rotr 2 a ^^^ rotr 13 a ^^^ rotr 22 a) + ((a &&& b) ^^^ (a &&& c) ^^^ (b &&& c))
    [(t1 + t2) % 2 ^ 32, a, b, c, (d + t1) % 2 ^ 32, e, f, g]
  | v => v

/-- The hash value after a block of 64 bytes. -/
def shaBlock (h : List Nat) (bs : List Nat) : List Nat :=
  let ws := shaSchedule 48 ((pieces 4 bs).map beNat).reverse
  (h.zip ((shaK.zip ws).foldl shaRound h)).map fun p => (p.1 + p.2) % 2 ^ 32

/-- SHA-256 of a byte string. -/
def sha256 (bs : List Nat) : List Nat :=
  let n := bs.length
  let padded := bs ++ [0x80] ++ List.replicate ((119 - n % 64) % 64) 0 ++ beBytes 8 (8 * n)
  ((pieces 64 padded).foldl shaBlock shaInit).flatMap (beBytes 4)

/-- HMAC-SHA-256 under a key of at most 64 bytes. -/
def hmacSha256 (key bs : List Nat) : List Nat :=
  let k := key ++ List.replicate (64 - key.length) 0
  sha256 (k.map (· ^^^ 0x5C) ++ sha256 (k.map (· ^^^ 0x36) ++ bs))

/-! ### AES-256 -/

/-- The S-box of AES. -/
def aesSbox : List Nat :=
  [0x63, 0x7c, 0x77, 0x7b, 0xf2, 0x6b, 0x6f, 0xc5, 0x30, 0x01, 0x67, 0x2b, 0xfe, 0xd7, 0xab, 0x76,
   0xca, 0x82, 0xc9, 0x7d, 0xfa, 0x59, 0x47, 0xf0, 0xad, 0xd4, 0xa2, 0xaf, 0x9c, 0xa4, 0x72, 0xc0,
   0xb7, 0xfd, 0x93, 0x26, 0x36, 0x3f, 0xf7, 0xcc, 0x34, 0xa5, 0xe5, 0xf1, 0x71, 0xd8, 0x31, 0x15,
   0x04, 0xc7, 0x23, 0xc3, 0x18, 0x96, 0x05, 0x9a, 0x07, 0x12, 0x80, 0xe2, 0xeb, 0x27, 0xb2, 0x75] ++
  [0x09, 0x83, 0x2c, 0x1a, 0x1b, 0x6e, 0x5a, 0xa0, 0x52, 0x3b, 0xd6, 0xb3, 0x29, 0xe3, 0x2f, 0x84,
   0x53, 0xd1, 0x00, 0xed, 0x20, 0xfc, 0xb1, 0x5b, 0x6a, 0xcb, 0xbe, 0x39, 0x4a, 0x4c, 0x58, 0xcf,
   0xd0, 0xef, 0xaa, 0xfb, 0x43, 0x4d, 0x33, 0x85, 0x45, 0xf9, 0x02, 0x7f, 0x50, 0x3c, 0x9f, 0xa8,
   0x51, 0xa3, 0x40, 0x8f, 0x92, 0x9d, 0x38, 0xf5, 0xbc, 0xb6, 0xda, 0x21, 0x10, 0xff, 0xf3, 0xd2] ++
  [0xcd, 0x0c, 0x13, 0xec, 0x5f, 0x97, 0x44, 0x17, 0xc4, 0xa7, 0x7e, 0x3d, 0x64, 0x5d, 0x19, 0x73,
   0x60, 0x81, 0x4f, 0xdc, 0x22, 0x2a, 0x90, 0x88, 0x46, 0xee, 0xb8, 0x14, 0xde, 0x5e, 0x0b, 0xdb,
   0xe0, 0x32, 0x3a, 0x0a, 0x49, 0x06, 0x24, 0x5c, 0xc2, 0xd3, 0xac, 0x62, 0x91, 0x95, 0xe4, 0x79,
   0xe7, 0xc8, 0x37, 0x6d, 0x8d, 0xd5, 0x4e, 0xa9, 0x6c, 0x56, 0xf4, 0xea, 0x65, 0x7a, 0xae, 0x08] ++
  [0xba, 0x78, 0x25, 0x2e, 0x1c, 0xa6, 0xb4, 0xc6, 0xe8, 0xdd, 0x74, 0x1f, 0x4b, 0xbd, 0x8b, 0x8a,
   0x70, 0x3e, 0xb5, 0x66, 0x48, 0x03, 0xf6, 0x0e, 0x61, 0x35, 0x57, 0xb9, 0x86, 0xc1, 0x1d, 0x9e,
   0xe1, 0xf8, 0x98, 0x11, 0x69, 0xd9, 0x8e, 0x94, 0x9b, 0x1e, 0x87, 0xe9, 0xce, 0x55, 0x28, 0xdf,
   0x8c, 0xa1, 0x89, 0x0d, 0xbf, 0xe6, 0x42, 0x68, 0x41, 0x99, 0x2d, 0x0f, 0xb0, 0x54, 0xbb, 0x16]

/-- A byte through the S-box, and back. -/
def aesSub (b : Nat) : Nat := (aesSbox[b]?).getD 0
def aesUnsub (b : Nat) : Nat := aesSbox.idxOf b

/-- Product by x in the field of AES, and the product of two bytes. -/
def aesX (b : Nat) : Nat := if 128 ≤ b then (2 * b) % 256 ^^^ 0x1B else 2 * b
def aesMul (a b : Nat) : Nat :=
  ((List.range 8).foldl (fun acc i => (if bit b i then acc.1 ^^^ acc.2 else acc.1, aesX acc.2)) (0, a)).1

/-- The key schedule of AES-256: the words so far, newest first, `n` more to come. -/
def aesSchedule : Nat → List (List Nat) → List (List Nat)
  | 0, ws => ws.reverse
  | n + 1, ws =>
    let i := ws.length
    let t := (ws[0]?).getD []
    let rcon := (List.range (i / 8 - 1)).foldl (fun r _ => aesX r) 1
    let t' := if i % 8 = 0 then
        (match (t.drop 1 ++ t.take 1).map aesSub with | b :: r => (b ^^^ rcon) :: r | [] => [])
      else if i % 8 = 4 then t.map aesSub else t
    aesSchedule n (((((ws[7]?).getD []).zip t').map fun p => p.1 ^^^ p.2) :: ws)

/-- The fifteen round keys, sixteen bytes each. -/
def aesKeys (key : List Nat) : List (List Nat) := pieces 16 (aesSchedule 52 (pieces 4 key).reverse).flatten

/-- The bytewise sum of two strings. -/
def xorBytes (a b : List Nat) : List Nat := (a.zip b).map fun p => p.1 ^^^ p.2

/-- The rows of a state rotated: byte `i` comes from column i / 4 plus `k` times its row. -/
def aesShift (k : Nat) (st : List Nat) : List Nat :=
  (List.range 16).map fun i => (st[(i + 4 * k * (i % 4)) % 16]?).getD 0

/-- The columns of a state multiplied by the matrix with first row `row`. -/
def aesMix (row : List Nat) (st : List Nat) : List Nat :=
  (List.range 16).map fun i =>
    (List.range 4).foldl (fun v j => v ^^^ aesMul ((st[i / 4 * 4 + j]?).getD 0) ((row[(4 + j - i % 4) % 4]?).getD 0)) 0

/-- AES-256 of a block of sixteen bytes, and its inverse. -/
def aesEnc (key block : List Nat) : List Nat :=
  let ks := aesKeys key
  let k := fun i => (ks[i]?).getD []
  let mid := (List.range 13).foldl (fun st i => xorBytes (aesMix [2, 3, 1, 1] (aesShift 1 (st.map aesSub))) (k (i + 1)))
    (xorBytes block (k 0))
  xorBytes (aesShift 1 (mid.map aesSub)) (k 14)
def aesDec (key block : List Nat) : List Nat :=
  let ks := aesKeys key
  let k := fun i => (ks[i]?).getD []
  let mid := (List.range 13).foldl (fun st i => aesMix [14, 11, 13, 9] (xorBytes ((aesShift 3 st).map aesUnsub) (k (13 - i))))
    (xorBytes block (k 14))
  xorBytes ((aesShift 3 mid).map aesUnsub) (k 0)

/-! ### AES-256-GCM (R273) -/

/-- Product in the field of GHASH, of two blocks as big-endian numbers. -/
def ghashMul (x y : Nat) : Nat :=
  ((List.range 128).foldl (fun acc i =>
    (if bit x (127 - i) then acc.1 ^^^ acc.2 else acc.1, if acc.2 % 2 = 1 then (acc.2 / 2) ^^^ (0xE1 * 2 ^ 120) else acc.2 / 2)) (0, y)).1

/-- Block `n` of the counter: the IV followed by `n`; J0 is block 1. -/
def gcmCounter (iv : List Nat) (n : Nat) : List Nat := iv ++ beBytes 4 (n % 2 ^ 32)

/-- The key stream for the bytes from `k` on, `n` of them. -/
def gcmStream (key iv : List Nat) (k n : Nat) : List Nat :=
  (((List.range ((k + n + 15) / 16 - k / 16)).flatMap fun i => aesEnc key (gcmCounter iv (k / 16 + i + 2))).drop (k % 16)).take n

/-- GHASH with one more ciphertext byte: the value over the whole blocks, and the bytes of the block begun. -/
def gcmFold (key : List Nat) (g : Nat × List Nat) (b : Nat) : Nat × List Nat :=
  let part := g.2 ++ [b]
  if part.length = 16 then (ghashMul (g.1 ^^^ beNat part) (beNat (aesEnc key (List.replicate 16 0))), []) else (g.1, part)

/-- The tag of a ciphertext of `n` bytes, without additional data, from its GHASH so far. -/
def gcmTag (key iv : List Nat) (g : Nat × List Nat) (n : Nat) : List Nat :=
  let h := beNat (aesEnc key (List.replicate 16 0))
  let y := if g.2 = [] then g.1 else ghashMul (g.1 ^^^ beNat (g.2 ++ List.replicate (16 - g.2.length) 0)) h
  xorBytes (beBytes 16 (ghashMul (y ^^^ (8 * n)) h)) (aesEnc key (gcmCounter iv 1))

/-! ### AES Key Wrap (R502) -/

/-- The default initial value of RFC 3394. -/
def wrapIv : List Nat := List.replicate 8 0xA6

/-- A key of 32 bytes wrapped under a key-encryption key. -/
def keyWrap (kek key : List Nat) : List Nat :=
  let r := (List.range 24).foldl (fun st t =>
    let b := aesEnc kek (st.1 ++ (st.2[t % 4]?).getD [])
    (xorBytes (b.take 8) (beBytes 8 (t + 1)), st.2.set (t % 4) (b.drop 8))) (wrapIv, pieces 8 key)
  r.1 ++ r.2.flatten

/-- The key that a blob of 40 bytes holds, none when the integrity check fails. -/
def keyUnwrap (kek blob : List Nat) : Option (List Nat) :=
  let r := (List.range 24).foldl (fun st i =>
    let t := 23 - i
    let b := aesDec kek (xorBytes st.1 (beBytes 8 (t + 1)) ++ (st.2[t % 4]?).getD [])
    (b.take 8, st.2.set (t % 4) (b.drop 8))) (blob.take 8, pieces 8 (blob.drop 8))
  if r.1 = wrapIv then some r.2.flatten else none

/-! ### ECDSA over P-256 (R519) -/

/-- The field, the curve's coefficient b, its order and its base point. -/
def p256P : Nat := 0xffffffff00000001000000000000000000000000ffffffffffffffffffffffff
def p256B : Nat := 0x5ac635d8aa3a93e7b3ebbd55769886bc651d06b0cc53b0f63bce3c3e27d2604b
def p256N : Nat := 0xffffffff00000000ffffffffffffffffbce6faada7179e84f3b9cac2fc632551
def p256G : Nat × Nat :=
  (0x6b17d1f2e12c4247f8bce6e563a440f277037d812deb33a0f4a13945d898c296,
   0x4fe342e2fe1a7f9b8ee7eb4a7c0f9e162bce33576b315ececbb6406837bf51f5)

/-- `b` to the power `e` modulo `m`, by the low `n` bits of `e`. -/
def powMod (m : Nat) : Nat → Nat → Nat → Nat
  | 0, _, _ => 1
  | n + 1, b, e => (if e % 2 = 1 then b else 1) * powMod m n (b * b % m) (e / 2) % m

/-- A point in Jacobian coordinates, with Z = 0 at infinity: its double. -/
def p256Double (q : Nat × Nat × Nat) : Nat × Nat × Nat :=
  let (x, y, z) := q
  let p := p256P
  let zz := z * z % p
  let m := 3 * ((x + p - zz) % p) * ((x + zz) % p) % p
  let yy := y * y % p
  let t := 4 * x * yy % p
  let x' := (m * m + 2 * p - 2 * t % p) % p
  (x', (m * ((t + p - x') % p) + p - 8 * yy * yy % p) % p, 2 * y * z % p)

/-- The sum of two points. -/
def p256Add (a b : Nat × Nat × Nat) : Nat × Nat × Nat :=
  let (x1, y1, z1) := a
  let (x2, y2, z2) := b
  let p := p256P
  if z1 = 0 then b
  else if z2 = 0 then a
  else
    let u1 := x1 * z2 * z2 % p
    let u2 := x2 * z1 * z1 % p
    let s1 := y1 * z2 * z2 % p * z2 % p
    let s2 := y2 * z1 * z1 % p * z1 % p
    if u1 = u2 then (if s1 = s2 then p256Double a else (1, 1, 0))
    else
      let h := (u2 + p - u1) % p
      let r := (s2 + p - s1) % p
      let hh := h * h % p
      let hhh := h * hh % p
      let v := u1 * hh % p
      let x' := (r * r + 3 * p - hhh - 2 * v) % p
      (x', (r * ((v + p - x') % p) + p - s1 * hhh % p) % p, z1 * z2 * h % p)

/-- `k` times a point, by the low `n` bits of `k`. -/
def p256Mul : Nat → Nat → Nat × Nat × Nat → Nat × Nat × Nat
  | 0, _, _ => (1, 1, 0)
  | n + 1, k, q =>
    let r := p256Mul n (k / 2) (p256Double q)
    if k % 2 = 1 then p256Add r q else r

/-- The signature (r, s) of a hash checks under the public key (x, y). -/
def ecdsaOk (x y hash r s : Nat) : Bool :=
  let p := p256P
  let n := p256N
  if x < p ∧ y < p ∧ (y * y) % p = (x * x * x + (p - 3) * x + p256B) % p ∧ 1 ≤ r ∧ r < n ∧ 1 ≤ s ∧ s < n then
    let w := powMod n 256 s (n - 2)
    let q := p256Add (p256Mul 256 (hash * w % n) (p256G.1, p256G.2, 1)) (p256Mul 256 (r * w % n) (x, y, 1))
    if q.2.2 = 0 then false
    else
      let zi := powMod p 256 q.2.2 (p - 2)
      q.1 * (zi * zi % p) % p % n == r
  else false

end Sys2Proof.Machine
end

