-- ==== Sys2Proof/Machine/JrnOps.lean ====
section
/-!
DEFINITION. Machine/JrnOps.lean: the journal's blocks: records placed and discarded, blocks sealed and freed (R492 to R500).
-/

namespace Sys2Proof.Machine

/-! ### Records -/

/-- The eight dwords of a record (R492). -/
def Rec.dwords (r : Rec) : List Nat :=
  [r.stamp % 2 ^ 32, r.stamp / 2 ^ 32 % 2 ^ 32,
   2 ^ 29 * (r.sub % 8) + 2 ^ 28 * flag r.unc + 2 ^ 24 * (r.origin % 16) + 2 ^ 16 * (r.cls % 256) + r.index % 65536,
   65536 * (r.code % 65536) + r.rseq % 65536] ++ (r.data ++ [0, 0, 0, 0]).take 4

/-- A record of CLASS JOURNAL, CLOCK or SEC (R495). -/
def clsAlways (c : Nat) : Bool := c == 0 || c == 5 || c == 7

/-- A LO and HI register pair as one number. -/
def State.pair (s : State) (f : Fld) (lo : Nat) : Nat := s.rd f lo + 2 ^ 32 * s.rd f (lo + 1)

/-- R495 lets the record through. -/
def State.jrnPasses (s : State) (r : Rec) : Bool :=
  clsAlways r.cls ||
    (bit (s.rd JRN_CLASS_EN.CLASS_EN 0) r.cls &&
      (!s.on JRN_CFG.WIN_EN 0 ||
        ({ t := r.stamp, sub := r.sub, unc := r.unc } : Stamp).inside (s.pair JRN_WIN_OPEN.TICK 0) (s.pair JRN_WIN_CLOSE.TICK 0)))

/-- A slave that forwards its records (R500). -/
def State.jrnFwd (s : State) : Bool := s.on JRN_CFG.FWD 0 && !s.on CAS_STAT.MASTER 0

/-! ### Blocks -/

/-- The record blocks that stand in the buffer beside the open one (R496). -/
def State.jrnUsed (s : State) : Nat := s.journal.blocks.length + s.journal.sealing.length

/-- JRN_STAT.FILL: the blocks of the buffer that hold a record. -/
def State.jrnFill (s : State) : Nat := s.jrnUsed + flag (s.journal.fill != [])

/-- The open block goes to be sealed (R497), if it holds a record. -/
def State.jrnSeal (s : State) : State :=
  if s.journal.fill = [] then s
  else s.modJournal fun j => { j with
    sealing := j.sealing ++ [{ recs := j.fill, bseq := j.bseq, chain := j.chain }]
    fill := [], bseq := (j.bseq + 1) % 2 ^ 64 }

/-- A record placed in the open block, which is sealed when it is the 126th (R497). -/
def State.jrnPlace (s : State) (r : Rec) : State :=
  let t := s.modJournal fun j => { j with
    fill := j.fill ++ [r.dwords], since := if j.fill = [] then s.tb else j.since }
  if t.journal.fill.length = 126 then t.jrnSeal else t

/-- A record of class `c` finds room among those that wait to go up the chain (R499, R500): after a discard, only once a whole block
is free again. -/
def State.jrnUpRoom (s : State) (c : Nat) : Bool :=
  (s.journal.lost == 0 && decide (s.journal.up.length < 1023 * 126)) ||
    ((c == 0 || c == 7) && decide (s.journal.up.length < 1024 * 126))

/-- A record of class `c` finds room (R499): the last block of the buffer is reserved for CLASS JOURNAL and SEC. -/
def State.jrnRoom (s : State) (c : Nat) : Bool :=
  if s.jrnFwd then s.jrnUpRoom c
  else decide (s.jrnUsed < 1023) || ((c == 0 || c == 7) && decide (s.jrnUsed < 1024))

/-- A record is discarded (R499): counted, its stamp and class noted, JOURNAL_LOSS raised at the first of a run. -/
def State.jrnDiscard (s : State) (r : Rec) : State :=
  let j := s.journal
  let t := (s.inc JRN_LOST.LOST 0).setJournal { j with
    lost := j.lost + 1, first := if j.lost = 0 then r.stamp else j.first, last := r.stamp
    classes := j.classes ||| 2 ^ r.cls }
  if j.lost = 0 then t.raise pgJrn 1 else t

/-- A record that has passed R495: counted unless another device has counted it, and placed, sent up the chain, or discarded
(R492, R499, R500). -/
def State.jrnTake (s : State) (r : Rec) : State :=
  let n := s.rd JRN_RSEQ.RSEQ 0
  let (r, s) := if r.forwarded then (r, s) else ({ r with rseq := n }, s.incW JRN_RSEQ.RSEQ 0)
  if s.jrnRoom r.cls then
    if s.jrnFwd then s.modJournal fun j => { j with up := j.up ++ [r.dwords] } else s.jrnPlace r
  else s.jrnDiscard r

/-- The JOURNAL_LOSS record of a run of discards, placed before any other record once a whole block is free (R499). -/
def State.jrnReportLoss (s : State) : State :=
  let j := s.journal
  if j.lost = 0 then s
  else
    let t := s.setJournal { j with lost := 0, first := 0, last := 0, classes := 0 }
    t.jrnTake { stamp := s.epoch, sub := 0, unc := s.unc, origin := s.rd CAS_STAT.ADDR 0, cls := 0, index := 0, code := 0x1402,
                data := packItems [.tick j.first, .tick j.last, .word j.lost, .word j.classes] }

/-- The oldest record that waits to go up the chain has gone (R499, R500): a run of discards is reported once a whole block is free. -/
def State.jrnUpGone (s : State) : State :=
  let t := s.modJournal fun j => { j with up := j.up.drop 1 }
  if t.journal.up.length ≤ 1022 * 126 then t.jrnReportLoss else t

/-- The oldest sealed block is freed. -/
def State.jrnFree (s : State) : State :=
  (s.modJournal fun j => { j with blocks := j.blocks.drop 1, taken := 0 }).jrnReportLoss

/-- The KEYID of a key (R496): bytes 0 to 3 of its SHA-256. A key's 32 bytes lie little-endian in its number, as in the registers'
dwords. -/
def keyIdOf (key : Nat) : Nat := leNat ((sha256 (leBytes 32 key)).take 4)

/-- Bytes 0x000 to 0xFDF of a block (R496): record slots, BSEQ, CHAIN_ID, DEVID, NREC, FLAGS, KEYID. -/
def Blk.content (b : Blk) : List Nat :=
  let rs := b.recs.flatMap fun r => r.flatMap dwordBytes
  rs ++ List.replicate (4032 - rs.length) 0 ++ leBytes 8 b.bseq ++ leBytes 8 b.chain ++ leBytes 8 Config.devid ++
    leBytes 2 b.recs.length ++ leBytes 2 (flag b.unsealed) ++ leBytes 4 b.keyId

/-- The 4096 bytes of a block (R496). -/
def Blk.bytes (b : Blk) : List Nat := b.content ++ leBytes 32 b.mac

/-- The seal of the oldest waiting block completes (R497): its MAC under the journal key, or UNSEALED without one. -/
def State.jrnSealOne (s : State) : State :=
  match s.journal.sealing with
  | [] => s
  | b :: r =>
    match s.sec.jrn with
    | some key =>
      let b1 := { b with keyId := keyIdOf key }
      let mac := leNat (hmacSha256 (leBytes 32 key) (leBytes 32 s.journal.prev ++ b1.content))
      (s.modJournal fun j => { j with
        sealing := r, blocks := j.blocks ++ [{ b1 with mac := mac }], prev := mac, told := false }).wr JRN_STAT.UNSEALED 0 0
    | none =>
      let t := (s.modJournal fun j => { j with
        sealing := r, blocks := j.blocks ++ [{ b with unsealed := true }], prev := 0, told := true }).wr JRN_STAT.UNSEALED 0 1
      if s.journal.told then t else t.raise pgJrn 0

/-- Every seal in progress completes, and the open block is sealed too: the order R503 gives to an erase of the vault. -/
def State.jrnSealAll (s : State) : State :=
  let t := if s.jrnFwd then s else s.jrnSeal
  (List.range t.journal.sealing.length).foldl (fun u _ => u.jrnSealOne) t

/-! ### The host ring (R498) -/

/-- The blocks of the host ring that the host has not consumed. -/
def State.jrnInRing (s : State) : Nat := (s.rd JRN_RING_WP.WP 0 + 2 ^ 32 - s.rd JRN_RING_RP.RP 0) % 2 ^ 32

/-- The host address of ring slot `n`. -/
def State.jrnSlot (s : State) (n : Nat) : Nat :=
  4096 * s.rd JRN_RING_BASE_LO.BASE 0 + 2 ^ 32 * s.rd JRN_RING_BASE_HI.BASE 0 + 4096 * (n % 2 ^ s.rd JRN_RING_SIZE.LOG2 0)

/-- The descriptor that copies a block from the JOURNAL space to a ring slot, with a barrier (R257, R498). -/
def blockDesc (bseq dst : Nat) : List Nat :=
  [0x10000000 + bseq % 65536, 0, 0, 0, dst % 2 ^ 32, dst / 2 ^ 32 % 2 ^ 32, 0x60000000, 4096, 0x00010001, 1, 0, 0, 0,
   4096, 0x00010001, 1] ++ List.replicate 16 0

/-- The writer posts the oldest sealed block on C63 (R498): with RING_EN 1, room in the ring and the channel free. -/
def State.jrnPump (s : State) : State :=
  if s.on JRN_CFG.RING_EN 0 && s.rd RFL_STAT.STATE 63 == 1 && !s.on RFL_STAT.SHADOW_FULL 63 && !(s.rflc 63).active &&
      decide (s.jrnInRing < 2 ^ s.rd JRN_RING_SIZE.LOG2 0) then
    match s.journal.blocks with
    | b :: _ =>
      let ds := blockDesc b.bseq (s.jrnSlot b.bseq)
      ((List.range 32).foldl (fun t n => t.wr RFL_SH.SH (32 * 63 + n) ((ds[n]?).getD 0)) s).wr RFL_STAT.SHADOW_FULL 63 1
    | [] => s
  else s

/-- After the barrier of a block (R498): WP advances and is written to WP_ADDR, the block is freed, a full ring is reported
(R506). -/
def State.jrnCopied (s : State) : State :=
  let wp := (s.rd JRN_RING_WP.WP 0 + 1) % 2 ^ 32
  let addr := 8 * s.rd JRN_WP_ADDR_LO.ADDR 0 + 2 ^ 32 * s.rd JRN_WP_ADDR_HI.ADDR 0
  let s1 := s.wr JRN_RING_WP.WP 0 wp
  let s2 := if addr = 0 then s1 else s1.emit (.hostWrite addr ((leBytes 8 wp).map (BitVec.ofNat 8)))
  let s3 := s2.jrnFree
  if s3.jrnInRing = 2 ^ s3.rd JRN_RING_SIZE.LOG2 0 then s3.raise pgJrn 2 else s3

end Sys2Proof.Machine
end

