-- ==== Sys2Proof/Machine/Cal.lean ====
section
/-!
DEFINITION. Machine/Cal.lean: calibration runs (R441 to R447), the store, and the flash (R448 to R459).
-/

namespace Sys2Proof.Machine

/-! ### Runs (R441 to R447) -/

/-- Every cascade port that CAS_CFG enables is in SERVICE, and the link of the run among them (R482). -/
def State.linksServe (s : State) (unit : Nat) : Bool :=
  let up := s.on CAS_CFG.UP_EN 0 && !s.on CAS_STAT.MASTER 0
  let dn := s.on CAS_CFG.DN_EN 0
  (!up || s.rd CAS_STAT.UP_STATE 0 == 2) && (!dn || s.rd CAS_STAT.DN_STATE 0 == 2) && (if unit = 0 then up else dn)

/-- The preconditions of a run (R441); `held` says that the run already holds its unit. One that must hold throughout has not failed
in between. -/
def State.calOk (s : State) (r : CalRun) (held : Bool) : Bool :=
  let u := r.unit
  let b := u / 8
  s.domOn r.domain && !r.lost &&
  match r.item with
  | 1 =>
    !s.clrN && (if held then s.drvState u == 0 else
      (s.drv u).seq.isNone &&
        (s.drvState u == 0 || (s.drvState u == 1 && s.rdA DAC_CFG.CLEAR_CODE u == 0x80000 && (s.drv u).entry.isNone)))
  | 4 => s.on LOUPE_CTRL.EN 0
  | 5 => !s.on TB_STAT.TB_RUN 0 || s.tpllState == 4
  | 6 => s.tpllState == 1
  | 7 =>
    !s.on QPLL_CTRL.EN u && (List.range 4).all (fun k => s.laneState (4 * u + k) == 0) && s.tpllState == 1 &&
      (!held || s.quadBin u == r.bin)
  | 8 =>
    if r.sub = 0 then s.laneState u == 0 && !s.on LANE_CTRL.EN u && s.quadLocked u
    else s.laneState u == 5 && s.on LANE_STAT.EQ_VALID u
  | 9 => s.linksServe u
  | _ =>
    s.on SNS_CFG.EN u && s.on SNS_BANK_CFG.EN b && s.on SNS_BANK_STAT.SETTLED b && !s.cpInUse u &&
      s.rd SNS_LIM_CFG.LIM_EN u == 0 && !s.on SNS_CFG.CAP_EN u

/-- What a run does with its unit at its start (R443, R446). -/
def State.calHold (s : State) (r : CalRun) : State :=
  match r.item with
  | 1 =>
    let s1 := if r.wasIdle then (s.wr DAC_STAT.CLAMP_ON r.unit 1).setDrvState r.unit 0 else s
    s1.seqPhase r.unit 4 0 0 0
  | 5 => s.wr TPLL_STAT.SWEEP_BUSY 0 1
  | 7 => s.modQuad r.unit fun x => { x with hold := true }
  | 8 => if r.sub = 0 then s.modLphy r.unit fun p => { p with calHold := true } else s
  | 9 => (s.modCas fun c => { c with echoes := 0, sum := 0 }).queueProbes r.unit
  | _ => s

/-- The second run of a skew sends its own probes. -/
def State.calHold2 (s : State) (r : CalRun) : State := if r.item = 9 then s.calHold r else s

/-- The reading that a DAC or SNS_OFS run takes first allows it (R443, R444): at most 200 µA, below 50 µV. -/
def measOk (item meas : Nat) : Bool := (item != 1 || meas ≤ 200000) && (item != 2 || decide (meas < 50000))

/-- The run that CAL_RUN selects (R441), as it starts now. -/
def State.calNew (s : State) : CalRun :=
  let item := s.rd CAL_RUN.ITEM 0
  let u := s.rd CAL_RUN.UNIT 0
  { item := item, unit := u, sub := s.rd CAL_RUN.SUB 0, apply := s.on CAL_RUN.APPLY 0, since := s.tb, from' := s.tb
    wasIdle := item == 1 && s.drvState u == 1, bin := s.quadBin u }

/-- A run of CAL_RUN starts (R442): `meas` is the reading taken first, in nA or nV. A run whose preconditions fail leaves its unit as
it is. -/
def State.calStart (s : State) (meas : Nat) : State :=
  let r := s.calNew
  let s1 := if r.item = 1 ∨ r.item = 2 then s.wr CAL_MEAS.MEAS 0 meas else s
  if !s.calOk r false then (s1.calClose 2).calReport r 2
  else
    let s3 := (((s1.wr CAL_STAT.BUSY 0 1).wr CAL_STAT.RUN_RES 0 0).modCal fun c => { c with run := some r }).calHold r
    if measOk r.item meas then s3 else s3.calEnd r 2

/-- The image holds an accepted result, and with APPLY the working registers do (R442, R446): of a sense channel at its next sample,
of the Loupe at its next frame, else at once. -/
def State.calAccept (s : State) (r : CalRun) (v : List Int) : State :=
  let ds := calData r.item r.sub v (s.quadTable r.unit) r.bin
  let s1 := (s.modCal fun c => { c with image := Sparse.put [] c.image (calKey r.item r.unit r.sub) ds }).inc CAL_STAT.IMAGE_PEND 0
  if !r.apply then s1
  else if r.item = 2 ∨ r.item = 3 ∨ r.item = 4 then
    s1.modCal fun c => { c with later := c.later.filter (fun x => !(x.1 == r.item && x.2.1 == r.unit)) ++ [(r.item, r.unit, ds)] }
  else s1.loadWorking r.item r.unit r.sub ds

/-- The first value of a result, in the units of R451. -/
def calShown (r : CalRun) (v : List Int) : Nat :=
  if r.item = 5 then ((calData 5 0 v [] 0)[0]?).getD 0 else unsigned 32 ((v[0]?).getD 0)

/-- The two runs are compared, and the result is accepted or rejected (R442). A channel that was IDLE returns there before the run
ends (R443). -/
def State.calJudge (s : State) (r : CalRun) (a b : List Int) : State :=
  let w := calWorst a b (calAgree r.item r.sub a.length)
  let s1 := ((s.wr CAL_RES2.RES2 0 (calShown r b)).wr CAL_DIFF.WORST 0 w.1).wr CAL_DIFF.DIFF 0 (min 65535 w.2.1)
  if w.2.2 then
    let s2 := s1.calAccept r (calMean a b)
    if r.item = 1 ∧ r.wasIdle = true then
      (s2.dacUnclamp r.unit).modCal fun c => { c with run := some { r with phase := 3 } }
    else s2.calEnd r 1
  else s1.calEnd r 3

/-- e(T) of a fit (R73) in 10^-5 / 4096 ppm, T in 1/64 °C and T0 in 1/16 °C. -/
def tcErr (c1 c2 t0 t : Int) : Int := c1 * 6400 * (t - 4 * t0) + c2 * ((t - 4 * t0) * (t - 4 * t0))

/-- A TPLL_TC run ends (R445): the fits to the odd- and to the even-numbered records are compared at every recorded temperature. -/
def State.calTcEnd (s : State) (r : CalRun) : State :=
  let ts := r.recs.map (·.2)
  let span := (ts.foldl max (ts.headD 0)) - (ts.foldl min (ts.headD 0))
  let s1 := s.wr CAL_MEAS.MEAS 0 (span / 4).toNat
  if span < (640 : Int) ∨ s.calOk r true = false then s1.calEnd r 2
  else
    let t0 := roundDiv ts.sum (4 * max 1 ts.length)
    let part := fun (k : Nat) => ((List.range r.recs.length).filter fun i => i % 2 == k).filterMap fun i => r.recs[i]?
    let c := fun k i => Config.tcFit (part k) t0 i
    let ds := ts.map fun t => (tcErr (c 0 1) (c 0 2) t0 t - tcErr (c 1 1) (c 1 2) t0 t).natAbs
    let worst := ds.foldl max 0
    let s2 := (((s1.wr CAL_RES1.RES1 0 (unsigned 32 t0)).wr CAL_RES2.RES2 0 (unsigned 32 t0)).wr CAL_DIFF.WORST 0
      (ds.findIdx (· == worst))).wr CAL_DIFF.DIFF 0 (min 65535 (worst / 409600))
    if 8192000 < worst then s2.calEnd r 3
    else (s2.calAccept r [t0, roundDiv (c 0 1 + c 1 1) 2, roundDiv (c 0 2 + c 1 2) 2]).calEnd r 1

/-- The values of a run's end: of a lane's seeds the equaliser state stored since the run began, of a skew the mean of its echoes,
else what was measured; none while the run is not at its end. -/
def State.calResult (s : State) (r : CalRun) (values : List Int) : Option (List Int) :=
  if r.item = 8 ∧ r.sub = 1 then
    match (s.lphy r.unit).stored, (s.lphy r.unit).storedAt with
    | some q, some t => if r.from' < t then some ((q.ctle : Int) :: q.dfe.map fun x => signed 8 x) else none
    | _, _ => none
  else if r.item = 9 then (if s.cas.echoes = 256 then some [roundDiv s.cas.sum 512] else none)
  else if values.length = calValues r.item r.sub then some values
  else none

/-- The end of run 1 or 2 (R442): the preconditions, then the second run or the judgement. -/
def State.calPhase (s : State) (r : CalRun) (values : List Int) : State :=
  if !s.calOk r true then s.calEnd r 2
  else
    match s.calResult r values with
    | some v =>
      if r.phase = 1 then
        ((s.wr CAL_RES1.RES1 0 (calShown r v)).modCal fun c =>
          { c with run := some { r with phase := 2, first := v, from' := s.tb } }).calHold2 r
      else s.calJudge r r.first v
    | none => s

/-- CAL_RUN_PHASE_END (R442, R445): a measurement run ends with `values`; a channel that returns to IDLE ends its run there. -/
def execCalRunPhaseEnd (values : List Int) (s : State) : Host.Outcome State Fault Refusal :=
  chipOnly s <|
    match s.cal.run with
    | some r =>
      if r.phase = 3 then (if (s.drv r.unit).seq.isNone then s.calEnd r 1 else s)
      else if r.item = 6 then (if r.since + 43200000000000 ≤ s.tb then s.calTcEnd r else s)
      else s.calPhase r values
    | none => s

/-- CAL_TC_RECORD (R445): every 10 s (5,000,000,000 tk) of a TPLL_TC run; the run ends when the span reaches 15 °C. -/
def execCalTcRecord (fine : Int) (s : State) : Host.Outcome State Fault Refusal :=
  chipOnly s <|
    match s.cal.run with
    | some r =>
      if r.item = 6 ∧ r.from' + 5000000000 ≤ s.tb then
        let r1 := { r with recs := r.recs ++ [(fine, s.hubTemp)], from' := s.tb }
        let ts := r1.recs.map (·.2)
        let s1 := s.modCal fun c => { c with run := some r1 }
        if s.tpllState ≠ 1 then s1.calEnd r1 2
        else if (960 : Int) ≤ ts.foldl max (ts.headD 0) - ts.foldl min (ts.headD 0) then s1.calTcEnd r1 else s1
      else s
    | none => s

/-! ### The flash (R448 to R452) -/

/-- The base of calibration slot `k`, and of boot slot `k`. -/
def calSlotBase (k : Nat) : Nat := 0x200000 + 0x200000 * k

/-- The byte of the flash at `a`; erased bytes read 0xFF. -/
def State.flashB (s : State) (a : Nat) : Nat := (Sparse.get (255 : BitVec 8) s.mem.flash a).toNat

/-- `n` bytes of the flash from `a` on. -/
def State.flashBytes (s : State) (a n : Nat) : List Nat := (List.range n).map fun i => s.flashB (a + i)

/-- A little-endian dword of the flash. -/
def State.flashD (s : State) (a : Nat) : Nat :=
  s.flashB a + 256 * s.flashB (a + 1) + 65536 * s.flashB (a + 2) + 16777216 * s.flashB (a + 3)

/-- `n` bytes of the flash from `a` on erased. -/
def State.flashErase (s : State) (a n : Nat) : State :=
  { s with mem := { s.mem with flash := s.mem.flash.filter fun c => !decide (a ≤ c.1 ∧ c.1 < a + n) } }

/-- Bytes programmed into the flash from `a` on: a program only clears bits. -/
def State.flashProg (s : State) (a : Nat) : List Nat → State
  | [] => s
  | b :: r =>
    State.flashProg { s with mem := { s.mem with
      flash := Sparse.put (255 : BitVec 8) s.mem.flash a (BitVec.ofNat 8 (s.flashB a &&& b)) } } (a + 1) r

/-- The tests of R454 on a slot at `base` of `size` bytes, with its KIND: VALID but for the DEVID test, CHECK matches, COMMIT. -/
def State.slotTest (s : State) (base size kind : Nat) : Bool × Bool × Bool :=
  let len := s.flashD (base + 8)
  let fits := len % 4 == 0 && decide (len + 0x100 ≤ size)
  let check := fits && crc32c (s.flashBytes base 0xF8 ++ s.flashBytes (base + 0x100) len) == s.flashD (base + 0xF8)
  let commit := s.flashD (base + 0xFC) == 0x3C5AA5C3
  (s.flashD base == kind && check && commit, check, commit)

/-- Calibration slot `k` belongs to this device. -/
def State.slotMine (s : State) (k : Nat) : Bool :=
  s.flashD (calSlotBase k + 0xC) + 2 ^ 32 * s.flashD (calSlotBase k + 0x10) == Config.devid % 2 ^ 64

/-- CAL_SLOT_STAT and CAL_SLOT_GEN as the flash stands (R457). -/
def State.slotShow (s : State) : State :=
  let t := fun k => s.slotTest (calSlotBase k) 0x200000 0x02010000
  let both := fun (f : Nat → Bool) => flag (f 0) + 2 * flag (f 1)
  ((((s.wr CAL_SLOT_STAT.VALID 0 (both fun k => (t k).1 && s.slotMine k)).wr CAL_SLOT_STAT.CHECK_OK 0
    (both fun k => (t k).2.1)).wr CAL_SLOT_STAT.COMMIT_OK 0 (both fun k => (t k).2.2)).wr CAL_SLOT_GEN.GEN 0
    (s.flashD (calSlotBase 0 + 4))).wr CAL_SLOT_GEN.GEN 1 (s.flashD (calSlotBase 1 + 4))

/-- Slot `k` was valid at the last boot or store. -/
def State.slotValid (s : State) (k : Nat) : Bool := bit (s.rd CAL_SLOT_STAT.VALID 0) k

/-- The slot a store goes to, and its GEN (R452). -/
def State.storeTarget (s : State) : Nat × Nat :=
  let g := fun k => s.rd CAL_SLOT_GEN.GEN k
  let v := s.slotValid
  let slot := if !v 0 then 0 else if !v 1 then 1 else if g 0 ≤ g 1 then 0 else 1
  (slot, max (if v 0 then g 0 else 0) (if v 1 then g 1 else 0) + 1)

/-- The payload of the image (R451). -/
def State.imagePayload (s : State) : List Nat :=
  calAll.flatMap fun x =>
    let ds := s.imageData x.1 x.2.1 x.2.2
    ([2 ^ 24 * x.1 + 2 ^ 16 * x.2.2 + x.2.1, ds.length] ++ ds).flatMap dwordBytes

/-- Header bytes 0x00 to 0xF7 of a store (R450). -/
def CalStore.header (st : CalStore) : List Nat :=
  leBytes 4 0x02010000 ++ leBytes 4 st.gen ++ leBytes 4 st.payload.length ++ leBytes 8 Config.devid ++ List.replicate 228 255

/-- CHECK of a store. -/
def CalStore.check (st : CalStore) : Nat := crc32c (st.header ++ st.payload)

/-- The erases and the pages of a store. -/
def CalStore.erases (st : CalStore) : Nat := (256 + st.payload.length + 65535) / 65536
def CalStore.pages (st : CalStore) : Nat := (st.payload.length + 255) / 256

/-- A flash command of a store (R452): its kind (3 READ back, 2 PROGRAM, 4 ERASE64K), address, bytes; none after the last. -/
def CalStore.op (st : CalStore) : Option (Nat × Nat × List Nat) :=
  let b := calSlotBase st.slot
  let e := st.erases
  let p := st.pages
  if st.k < e then some (4, b + 65536 * st.k, [])
  else if st.k = e then some (2, b, st.header)
  else if st.k ≤ e + p then some (2, b + 256 * (st.k - e), (st.payload.drop (256 * (st.k - e - 1))).take 256)
  else if st.k = e + p + 1 then some (2, b + 0xF8, leBytes 4 st.check)
  else if st.k = e + p + 2 then some (3, b, [])
  else if st.k = e + p + 3 then some (2, b + 0xFC, leBytes 4 0x3C5AA5C3)
  else none

/-- The name of a flash command. -/
def flashName (kind : Nat) : String := if kind = 2 then "PROGRAM" else if kind = 4 then "ERASE64K" else if kind = 5 then "ERASE4K" else "READ"

/-- A store ends (R452, R453): 1 STORED, 2 VERIFY, 3 SUPPLY, 4 FLASH_ERROR. -/
def State.storeEnd (s : State) (st : CalStore) (res : Nat) : State :=
  let s1 := (((s.modCal fun c => { c with store := none }).wr CAL_STAT.STORING 0 0).wr CAL_STAT.STORE_RES 0 res).slotShow
  if res = 1 then ((s1.wr CAL_STAT.IMAGE_PEND 0 0).raise pgCal 3).jrn 0x08 0 0x1104 [.word st.slot, .word st.gen]
  else (s1.raise pgCal 4).jrn 0x08 0 0x1105 [.word res]

/-- The store's next flash command is issued, unless a software command runs; the supply monitor stops a program or an erase. -/
def State.storeIssue (s : State) : State :=
  match s.cal.store with
  | some st =>
    if st.issued || s.cal.fl.isSome then s
    else match st.op with
      | some (kind, a, bs) =>
        if kind ≠ 3 ∧ s.cal.low = true then s.storeEnd st 3
        else (s.modCal fun c => { c with store := some { st with issued := true } }).emit
          (.flash (flashName kind) a (bs.map (BitVec.ofNat 8)))
      | none => s.storeEnd st 1
  | none => s

/-- A write of CAL_CTRL (R441, R447, R452, R459); `meas` is the reading a DAC or SNS_OFS run takes first. -/
def State.writeCalCtrl (s : State) (w : Wr) (meas : Nat) : State :=
  let cmd := bits w.val.toNat 0 3
  let run := cmd == 1
  let store := cmd == 2
  let none' := s.rd CAL_STAT.CAL_STATE 0 == 0
  s.write w pgCal 0x040
    (cause (cmd == 0 || decide (3 < cmd)) 0x0001 ++
      cause (run && !calKnown (s.rd CAL_RUN.ITEM 0) (s.rd CAL_RUN.UNIT 0) (s.rd CAL_RUN.SUB 0)) 0x0001 ++
      cause (store && decide (0xFFFFFFFF ≤ s.storeTarget.2)) 0x0001 ++ cause (run && s.on CAL_STAT.BUSY 0) 0x0002 ++
      cause (store && s.on CAL_STAT.STORING 0) 0x0002 ++ cause ((run || store) && none') 0x0004 ++
      cause (store && !s.on CAL_STAT.FLASH_OK 0) 0x0004)
    fun s =>
      if run then s.calStart meas
      else if store then
        ((s.wr CAL_STAT.STORING 0 1).modCal fun c => { c with
          store := some { slot := s.storeTarget.1, gen := s.storeTarget.2, payload := s.imagePayload } }).storeIssue
      else s.calAbort

/-- CAL_CTRL written with command `c`. -/
def calWr (w : Wr) (c : Nat) : Wr := { w with val := BitVec.ofNat 32 c }

/-- CAL_RUN (R442): CAL_CTRL with CMD 1. -/
def execCalRun (w : Wr) (meas : BitVec 32) (s : State) : Host.Outcome State Fault Refusal :=
  chipOnly s (s.writeCalCtrl (calWr w 1) meas.toNat)

/-- CAL_STORE (R452): CAL_CTRL with CMD 2. -/
def execCalStore (w : Wr) (s : State) : Host.Outcome State Fault Refusal := chipOnly s (s.writeCalCtrl (calWr w 2) 0)

/-- CAL_ABORT (R447): CAL_CTRL with CMD 3. -/
def execCalAbort (w : Wr) (s : State) : Host.Outcome State Fault Refusal := chipOnly s (s.writeCalCtrl (calWr w 3) 0)

/-! ### Software flash commands (R453, R456) -/

/-- The range a command changes: 2 PROGRAM, 3 ERASE4K, 4 ERASE64K. -/
def flRange (cmd a : Nat) : Nat × Nat :=
  if cmd = 2 then (a, 256) else if cmd = 3 then (a / 4096 * 4096, 4096) else (a / 65536 * 65536, 65536)

/-- A software flash command ends (R456): 1 DONE, 2 SUPPLY, 3 FLASH_ERROR. A store that waited goes on. -/
def State.flEnd (s : State) (res : Nat) : State :=
  ((((s.modCal fun c => { c with fl := none }).wr CAL_FL_STAT.BUSY 0 0).wr CAL_FL_STAT.RESULT 0 res).raise pgCal 6).storeIssue

/-- A write of CAL_FL_CMD (R453, R456, R459). -/
def State.writeFlCmd (s : State) (w : Wr) : State :=
  let cmd := bits w.val.toNat 0 3
  let a := s.rd CAL_FL_ADDR.ADDR 0
  let (lo, n) := flRange cmd a
  let alters := 2 ≤ cmd && cmd ≤ 4
  s.write w pgCal 0x074
    (cause (cmd == 0 || decide (4 < cmd)) 0x0001 ++ cause (cmd == 2 && a % 256 != 0) 0x0001 ++
      cause (alters && !s.on LOCK.OPEN pgCal) 0x0101 ++ cause (s.on CAL_STAT.STORING 0 || s.on CAL_FL_STAT.BUSY 0) 0x0002 ++
      cause (alters && decide (lo < 0x600000 ∧ 0x200000 < lo + n)) 0x0003)
    fun s =>
      let s1 := (s.wr CAL_FL_STAT.BUSY 0 1).wr CAL_FL_STAT.RESULT 0 0
      if alters && s.cal.low then s1.flEnd 2
      else
        let bs := if cmd = 2 then (List.range 64).flatMap fun i => dwordBytes (s.rd CAL_FL_BUF.DATA i) else []
        (s1.modCal fun c => { c with fl := some (cmd, a) }).emit
          (.flash (if cmd = 3 then "ERASE4K" else flashName cmd) (if cmd = 1 then a else lo) (bs.map (BitVec.ofNat 8)))

/-- FL_READ (R456): CAL_FL_CMD with CMD 1. -/
def execFlRead (w : Wr) (s : State) : Host.Outcome State Fault Refusal := chipOnly s (s.writeFlCmd (calWr w 1))

/-- FL_PROGRAM (R456): CAL_FL_CMD with CMD 2. -/
def execFlProgram (w : Wr) (s : State) : Host.Outcome State Fault Refusal := chipOnly s (s.writeFlCmd (calWr w 2))

/-- FL_ERASE4K (R456): CAL_FL_CMD with CMD 3. -/
def execFlErase4k (w : Wr) (s : State) : Host.Outcome State Fault Refusal := chipOnly s (s.writeFlCmd (calWr w 3))

/-- FL_ERASE64K (R456): CAL_FL_CMD with CMD 4. -/
def execFlErase64k (w : Wr) (s : State) : Host.Outcome State Fault Refusal := chipOnly s (s.writeFlCmd (calWr w 4))

/-- A software command's effect when it is done. -/
def State.flDo (s : State) (cmd a : Nat) : State :=
  let (lo, n) := flRange cmd a
  if cmd = 1 then (List.range 64).foldl (fun t i => t.wr CAL_FL_BUF.DATA i (s.flashD (a + 4 * i))) s
  else if cmd = 2 then s.flashProg a ((List.range 64).flatMap fun i => dwordBytes (s.rd CAL_FL_BUF.DATA i))
  else s.flashErase lo n

/-- The store's flash command is done: its effect, or the verdict of the read-back, and the next command. -/
def State.storeDo (s : State) (st : CalStore) : State :=
  let next := fun (t : State) => (t.modCal fun c => { c with store := some { st with k := st.k + 1, issued := false } }).storeIssue
  match st.op with
  | some (kind, a, bs) =>
    if kind = 4 then next (s.flashErase a 65536)
    else if kind = 2 then next (s.flashProg a bs)
    else if crc32c (s.flashBytes a 0xF8 ++ s.flashBytes (a + 0x100) st.payload.length) = st.check then next s
    else s.storeEnd st 2
  | none => s

/-- FLASH_OP_DONE (R448, R452, R456): the flash command in progress completes; `err` says that it returned an error status. -/
def execFlashOpDone (err : Bool) (s : State) : Host.Outcome State Fault Refusal :=
  chipMem s <|
    match s.cal.fl with
    | some (cmd, a) => if err then (s.raise pgCal 7).flEnd 3 else (s.flDo cmd a).flEnd 1
    | none =>
      match s.cal.store with
      | some st =>
        if st.issued then (if err then (s.raise pgCal 7).storeEnd st 4 else s.storeDo st) else s
      | none => s

/-- VDD_IO_MONITOR_TRIP (R453): VDD_IO falls below 1.74 V. -/
def execVddIoMonitorTrip (s : State) : Host.Outcome State Fault Refusal :=
  chipOnly s (if s.cal.low then s else (s.modCal fun c => { c with low := true }).inc CAL_SUPPLY.TRIPS 0)

/-- VDD_IO_MONITOR_RELEASE (R453): VDD_IO rises above 1.76 V. -/
def execVddIoMonitorRelease (s : State) : Host.Outcome State Fault Refusal :=
  chipOnly s (s.modCal fun c => { c with low := false })

end Sys2Proof.Machine
end

