-- ==== Sys2Proof/Machine/Sense.lean ====
section
/-!
DEFINITION. Machine/Sense.lean: sense banks, samples, capture and limit checkers (R414 to R420, R437, R438).
-/

namespace Sys2Proof.Machine

/-- The bank of sense channel `c`. -/
def bankOf (c : Nat) : Nat := c / 8

/-- The sample grid of bank `b`: origin and period, when it has one (R415). -/
def State.bankGrid (s : State) (b : Nat) : Option (Nat × Nat) :=
  if s.on SNS_BANK_CFG.EN b && s.on SNS_BANK_STAT.GRID_VALID b then
    if s.on SNS_BANK_CFG.MODE b then
      some ((s.grp (s.rd SNS_BANK_CFG.GROUP b)).o, s.grpPer (s.rd SNS_BANK_CFG.GROUP b))
    else some (s.rd64 SNS_BANK_O_LO.O SNS_BANK_O_HI.O b, s.rd SNS_BANK_CFG.PERIOD b)
  else none

/-- A write of SNS_BANK_CFG (R415, R438). While EN is 1 only a write that clears EN and changes nothing else is accepted. -/
def State.writeBankCfg (s : State) (b : Nat) (w : Wr) : State :=
  let v := w.val.toNat
  let en := bit v 31
  let was := s.on SNS_BANK_CFG.EN b
  let same := decide (bits v 30 1 = s.rd SNS_BANK_CFG.MODE b ∧ bits v 24 3 = s.rd SNS_BANK_CFG.GROUP b ∧
    bits v 0 20 = s.rd SNS_BANK_CFG.PERIOD b)
  let codes := cause (decide (bits v 0 20 < 1954)) 0x0001 ++ cause (was && (en || !same)) 0x0002 ++
    cause (was && !en && (List.range 8).any fun i => s.cpInUse (8 * b + i)) 0x0003
  s.write w (0x08A + b) 0x040 codes fun s =>
    let s1 := (((s.wr SNS_BANK_CFG.EN b (bits v 31 1)).wr SNS_BANK_CFG.MODE b (bits v 30 1)).wr SNS_BANK_CFG.GROUP b
      (bits v 24 3)).wr SNS_BANK_CFG.PERIOD b (bits v 0 20)
    if en then
      if bit v 30 then ((s1.wr SNS_BANK_STAT.GRID_VALID b 0).bankStart b none).followGrid (bits v 24 3)
      else
        let o := ceilTo 16 (s.epoch + s.h)
        ((s1.bankStart b (some o)).wr SNS_BANK_STAT.GRID_VALID b 1).wr64 SNS_BANK_O_LO.O SNS_BANK_O_HI.O b o
    else (s1.wr SNS_BANK_STAT.GRID_VALID b 0).bankStart b none

/-- SNS_BANK_ENABLE (R415): a write of SNS_BANK_CFG with EN 1. -/
def execSnsBankEnable (b : Fin 8) (w : Wr) (s : State) : Host.Outcome State Fault Refusal :=
  chipOnly s (s.writeBankCfg b.val (orBits w 0x80000000))

/-- The count of checker `c` of SNS_LIM_CNT. -/
def limCnt (c : Nat) : Fld :=
  match c with
  | 0 => SNS_LIM_CNT.CNT0 | 1 => SNS_LIM_CNT.CNT1 | 2 => SNS_LIM_CNT.CNT2 | _ => SNS_LIM_CNT.CNT3

/-- Checker `c` of channel `ch` (R419, R420): `hit` says that its quantity `q` has reached the threshold, `below` that it lies
below 7/8 of it; the sample that decides it has tick `x`. -/
def State.checker (s : State) (ch c : Nat) (hit below : Bool) (q x : Nat) : State :=
  let st : Stamp := { t := x, unc := s.unc }
  let crossed := (s.sense ch).crossed
  if !bit (s.rd SNS_LIM_CFG.LIM_EN ch) c || below then
    s.modSense ch fun u => { u with crossed := u.crossed.filter (· != c) }
  else if hit && !crossed.contains c then
    let s1 := s.modSense ch fun u => { u with crossed := c :: u.crossed }
    let s2 := ((s1.produce (prodId 8 (4 * ch + c)) st 0).inc (limCnt c) ch).raise (pgSns ch) (3 * (ch % 8))
    let s3 := s2.jrnAt st 0x0B ch 0x1001 [.word ch, .word c, .word q, .tick x]
    if bit (s.rd SNS_LIM_CFG.ACTION ch) c then
      (s.crownChans (s.rd SNS_CFG.LIM_GROUP ch)).foldl (fun t d => t.softStop d 5 (s.drvGran d (x + s.h))) s3
    else s3
  else s

/-- The whole part of the square root of `n`, below 2^24, bit by bit. -/
def isqrt (n : Nat) : Nat :=
  (List.range 24).foldr (fun i r => if (r + 2 ^ i) * (r + 2 ^ i) ≤ n then r + 2 ^ i else r) 0

/-- The three checkers a sample evaluates (R418): peak, RMS, slope; none before SETTLED (R415). -/
def State.checkSample (s : State) (ch : Nat) (y y0 : Int) (m : Nat) : State :=
  if s.on SNS_BANK_STAT.SETTLED (bankOf ch) then
    let a := y.natAbs
    let p := s.rd SNS_PEAK.PEAK_THR ch
    let r := s.rd SNS_RMS_LIM.RMS_THR ch
    let sl := s.rd SNS_SLOPE.SLOPE_THR ch
    let d := (y - y0).natAbs
    let s1 := s.checker ch 0 (decide (p ≤ a)) (decide (8 * a < 7 * p)) a s.epoch
    let s2 := s1.checker ch 1 (decide (r * r * 2 ^ 32 ≤ m)) (decide (64 * m < 49 * r * r * 2 ^ 32)) (isqrt (m / 2 ^ 32))
      s.epoch
    s2.checker ch 3 (decide (sl ≤ d)) (decide (8 * d < 7 * sl)) d s.epoch
  else s

/-- The capture of a sample (R417); CAP_WP and CAP_RP count modulo 2^32. -/
def State.capture (s : State) (ch : Nat) (y : Int) (ovr : Bool) : State :=
  let lo := s.rd64 SNS_CAP_OPEN_LO.TICK SNS_CAP_OPEN_HI.TICK ch
  let hi := s.rd64 SNS_CAP_CLOSE_LO.TICK SNS_CAP_CLOSE_HI.TICK ch
  if s.on SNS_CFG.CAP_EN ch && s.now.inside lo hi then
    let s1 := if (s.sense ch).cap0 then
        ((s.wr SNS_CAP_WP.WP ch 0).wr64 SNS_CAP_T0_LO.TICK SNS_CAP_T0_HI.TICK ch s.epoch).modSense ch fun u =>
          { u with cap0 := false }
      else s
    let i := s1.rd SNS_CAP_WP.WP ch
    let v := unsigned 24 y + 2 ^ 30 * flag s.unc + 2 ^ 31 * flag ovr
    let s2 := s1.wr SNS_CAP_WP.WP ch (i + 1)
    if s.rd SNS_CFG.CAP_MODE ch = 0 ∧ 32768 ≤ (i + 2 ^ 32 - s.rd SNS_CAP_RP.RP ch) % 2 ^ 32 then
      let s3 := (s2.inc SNS_CAP_LOST.LOST ch).modSense ch fun u => { u with losing := true }
      if (s.sense ch).losing then s3 else s3.raise (pgSns ch) (3 * (ch % 8) + 2)
    else
      (s2.setAf (0x00800000 + 0x20000 * ch + 4 * (i % 32768)) (dwordBytes v)).modSense ch fun u => { u with losing := false }
  else s

/-- At the 64th sample tick after its grid started the bank of `n` ticks a sample is settled (R415). -/
def State.bankSettle (s : State) (b n : Nat) : State :=
  match (s.bank b).first with
  | some t => if t + 63 * n ≤ s.epoch then s.wr SNS_BANK_STAT.SETTLED b 1 else s
  | none => s

/-- The sample of channel `ch` that the filter delivers now as `raw` (R416): trims, OVR, checkers, capture, and the record of
the Crown groups that measure with the channel. -/
def State.sample (s : State) (ch : Nat) (raw : Int) (ovr : Bool) : State :=
  let y := sat24 (roundDiv ((raw - signed 24 (s.rd SNS_TRIM_OFS.OFS ch)) * signed 24 (s.rd SNS_TRIM_GAIN.GAIN ch)) (2 ^ 22))
  let m0 := (s.sense ch).m
  let m := ((m0 : Int) + roundDiv (y * y * 2 ^ 32 - m0) (2 ^ s.rd SNS_LIM_CFG.RMS_K ch)).toNat
  let s2 := (s.modSense ch fun u => { u with y := y, ovr := ovr, m := m }).wr SNS_RMS.RMS ch (isqrt (m / 2 ^ 32))
  let s3 := (s2.wr SNS_SAMPLE.SAMPLE ch (unsigned 24 y)).wr SNS_SAMPLE.OVR ch (flag ovr)
  let s4 := if ovr && !(s.sense ch).ovr then s3.raise (pgSns ch) (3 * (ch % 8) + 1) else s3
  let s5 := (s4.checkSample ch y (s.sense ch).y m).capture ch y ovr
  (List.range 8).foldl (fun t k =>
    if t.crownBusy k then t.crownHear k ch y else t) s5

/-- The OFS and the GAIN that wait for channel `c` come into force (R446). -/
def State.takeTrims (s : State) (c : Nat) : State :=
  let (ofs, s1) := s.calTake 2 c
  let (gain, s2) := s1.calTake 3 c
  let s3 := match ofs with | some ds => s2.wr SNS_TRIM_OFS.OFS c (nth ds 0) | none => s2
  match gain with | some ds => s3.wr SNS_TRIM_GAIN.GAIN c (nth ds 0) | none => s3

/-- SENSE_SAMPLE (R414, R415): at a sample tick of its bank an enabled channel delivers what the filter gives, `raw`; `ovr` says that
the modulator had saturated. A SNS_GAIN run makes the sample 0 with OVR 1 (R444). -/
def execSenseSample (c : Fin 64) (raw : BitVec 24) (ovr : Bool) (s : State) : Host.Outcome State Fault Refusal :=
  chipMem s <|
    match s.bankGrid (bankOf c.val) with
    | some (o, n) =>
      if decide (o ≤ s.epoch) && ((s.epoch - o) % max 1 n == 0 || s.fallback) then
        let t := s.bankSettle (bankOf c.val) n
        if !s.on SNS_CFG.EN c.val then t
        else if s.calHolds 3 c.val then t.sample c.val 0 true
        else (t.takeTrims c.val).sample c.val raw.toInt ovr
      else s
    | none => s

end Sys2Proof.Machine
end

