-- ==== Sys2Proof/Machine/Crown.lean ====
section
/-!
DEFINITION. Machine/Crown.lean: the Crown groups' commands, states, frames and output (R420 to R436, R439, R440).
-/

namespace Sys2Proof.Machine

/-! ### Start, stop, hold, resume (R421 to R423) -/

/-- The control point's bank samples on the grid of the group's channels, and is settled (R421). -/
def State.crownBankOk (s : State) (k c : Nat) : Bool :=
  let g := grpOf (s.crownRef k)
  match s.bankGrid (bankOf c) with
  | some (o, n) => s.on SNS_BANK_STAT.SETTLED (bankOf c) && n == s.grpPer g &&
      (max o (s.grp g).o - min o (s.grp g).o) % max 1 n == 0
  | none => false

/-- The members of the group break R421. -/
def State.crownMembersBad (s : State) (k : Nat) : Bool :=
  let chans := s.crownChans k
  let nd := s.crownND k
  let outs := if s.crownSine k then (List.range 64).filter fun j => (s.crownSdrv k j).isSome
    else chans.flatMap (s.crownOuts k)
  let cps := s.crownCPs k
  let others := (List.range 8).filter fun j => j != k && s.crownActive j
  let g := grpOf (s.crownRef k)
  (!s.crownSine k && (List.range nd).any fun j => !outs.contains j) || outs.any (fun j => decide (nd ≤ j)) ||
  chans.isEmpty || chans.any (fun d => s.drvState d != 2 || s.grpPer (grpOf d) != s.grpPer g ||
    (s.grp (grpOf d)).o != (s.grp g).o) ||
  cps.any (fun p => !s.crownBankOk k p.2 || others.any fun j => (s.crownCPs j).any fun q => q.2 == p.2) ||
  decide (64 < (nd :: others.map s.crownND).sum) || decide (64 < (s.crownNC k :: others.map s.crownNC).sum)

/-- The capacity of R422 is exceeded; 2.0 × 10^10 units a second are 40 a tick. -/
def State.crownOverCap (s : State) (k : Nat) : Bool :=
  let gs := k :: (List.range 8).filter fun j => j != k && s.crownActive j
  decide (8388608 < (gs.map s.crownW).sum) || decide (40 * (s.crownLoad gs).2 < (s.crownLoad gs).1)

/-- A slot, a target block or a readout block extends beyond its pool (R436). -/
def State.crownPoolBad (s : State) (k : Nat) : Bool :=
  decide (0x200000 < s.crownSlot k + s.crownRefBytes k) ||
  (s.rdA CROWN_CFG.MODE k == 2 && decide (0x100000 < s.rdA CROWN_TWR_BASE.TWR_BASE k + 4 * s.crownB k * s.crownNC k)) ||
  (s.rdA CROWN_RD.RD_EN k == 1 && decide (0x100000 < s.rdA CROWN_RD.RD_BASE k + s.crownRdBytes k))

/-- The refusal causes of a start (R421, R422, R436). -/
def State.crownStartCodes (s : State) (k : Nat) : List Nat :=
  cause (s.crownPoolBad k) 0x0001 ++ cause (s.crownActive k || !s.runnable || !s.domOn 33) 0x0003 ++
  cause (s.crownMembersBad k) 0x0004 ++ cause (s.crownOverCap k) 0x0005

/-- A start accepted with start tick T_s (R423, R424): D and the bank are those of INIT (R429). `gen` is the generation of the first
frame's event (R212). -/
def State.crownStartAt (s : State) (k ts gen : Nat) : State :=
  let trims := (List.range 64).map fun j => s.rdA CROWN_SDRV.TRIM_INIT (64 * k + j)
  let d := if s.crownSine k then [] else s.crownDInit k
  s.setCrown k { start := some ts, ts := ts, gen := gen, next := ts, trim := trims, trim0 := trims, level := s.crownLevel k, d := d,
                 set := { fac := d.map (factor (s.crownND k)) } }

/-- A stop accepted with T0 and cause: the earliest T0 stands (R423). -/
def State.crownStopAt (s : State) (k t0 cse : Nat) : State :=
  s.modCrown k fun c => { c with stop := match c.stop with
    | some (t, x) => if t ≤ t0 then some (t, x) else some (t0, cse)
    | none => some (t0, cse) }

/-- The group's first decision point at or after `x` (R421). -/
def State.crownDP (s : State) (k x : Nat) : Nat := s.drvGran (s.crownRef k) x

/-- A stop command with T0 `d` (R423): an accepted start whose start tick is not before `d` loses to it and is refused. -/
def State.crownStopCmd (s : State) (k d cse : Nat) : State :=
  match (s.crown k).start with
  | some ts => if d ≤ ts then (s.modCrown k fun c => { c with start := none }).refuse (pgCrown k) 0x0003 else s.crownStopAt k d cse
  | none => s.crownStopAt k d cse

/-- A write of CROWN_CTRL (R423, R439). -/
def State.writeCrownCtrl (s : State) (k : Nat) (w : Wr) : State :=
  let v := bits w.val.toNat 0 4
  let st := s.crownState k
  let n := ([bit v 0, bit v 1, bit v 2, bit v 3]).countP (· == true)
  let codes := cause (decide (1 < n)) 0x0001 ++ (if bit v 0 then s.crownStartCodes k else []) ++
    cause (bit v 1 && !(st == 1 || st == 2 || (s.crown k).start.isSome)) 0x0003 ++ cause (bit v 2 && st != 1) 0x0003 ++
    cause (bit v 3 && (st != 2 || (s.crownChans k).any fun d => s.drvState d != 2)) 0x0003
  s.write w (pgCrown k) 0x080 codes fun s =>
    if bit v 0 then s.crownStartAt k (s.crownDP k (s.epoch + s.h)) 0
    else if bit v 1 then s.crownStopCmd k (s.crownDP k (s.epoch + s.h)) 1
    else if bit v 2 then (s.wr CROWN_STAT.STOP_CAUSE k 1).crownTo k 2 0x1006 (some 2)
    else if bit v 3 then s.modCrown k fun c => { c with resume := true }
    else s

/-- CROWN_START (R421): a write of CROWN_CTRL with START 1. -/
def execCrownStart (k : Fin 8) (w : Wr) (s : State) : Host.Outcome State Fault Refusal :=
  chipOnly s (s.writeCrownCtrl k.val (orBits w 0x1))

/-- CROWN_STOP (R423): a write of CROWN_CTRL with STOP 1. -/
def execCrownStop (k : Fin 8) (w : Wr) (s : State) : Host.Outcome State Fault Refusal :=
  chipOnly s (s.writeCrownCtrl k.val (orBits w 0x2))

/-- CROWN_HOLD_CMD (R423): a write of CROWN_CTRL with HOLD 1. -/
def execCrownHoldCmd (k : Fin 8) (w : Wr) (s : State) : Host.Outcome State Fault Refusal :=
  chipOnly s (s.writeCrownCtrl k.val (orBits w 0x4))

/-- CROWN_RESUME (R423): a write of CROWN_CTRL with RESUME 1. -/
def execCrownResume (k : Fin 8) (w : Wr) (s : State) : Host.Outcome State Fault Refusal :=
  chipOnly s (s.writeCrownCtrl k.val (orBits w 0x8))

/-- A Fire command to the group (R205, R423) of generation `gen`, with the decision point at which it takes effect. -/
def State.crownFire (s : State) (k : Nat) (stop : Bool) (d gen : Nat) : State :=
  if stop then
    if (s.crown k).start.isSome ∨ s.crownState k = 1 ∨ s.crownState k = 2 then s.crownStopCmd k d 2 else s
  else s.orRefuse (pgCrown k) (s.crownStartCodes k) fun s => s.crownStartAt k d (min 15 (gen + 1))

/-- CROWN_CMD_ARRIVE (R205, R423): the events delivered to the group's start (`stop` false) or stop input in this cycle. -/
def execCrownCmdArrive (k : Fin 8) (stop : Bool) (s : State) : Host.Outcome State Fault Refusal :=
  chipOnly s <|
    let (evs, t) := s.takeArrivals 5 (2 * k.val + flag stop)
    let ps := evs.map fun a => t.pendOf a.ev (t.crownDP k.val) 66
    match mergePends ps with
    | some p =>
      ((t.lateEach 0x0B (64 + k.val) evs ps).age { t := p.stamp }).crownFire k.val stop
        (t.crownDP k.val (max p.due p.notBefore)) p.gen
    | none => t

/-- CROWN_START_TICK (R423, R424): T_s is reached. A group one of whose channels has left ACTIVE goes on to HOLD. -/
def execCrownStartTick (k : Fin 8) (s : State) : Host.Outcome State Fault Refusal :=
  chipOnly s <|
    match (s.crown k.val).start with
    | some ts =>
      if ts ≤ s.epoch then
        let t := s.rdX CROWN_RAMP.RAMP_US k.val * 500
        let s1 := s.modCrown k.val fun c => { c with start := none, fade := some (ts, t), taper := none }
        let s2 := ((s1.wr64 CROWN_TS_LO.TICK CROWN_TS_HI.TICK k.val ts).wr CROWN_FRAMES.FRAMES k.val 0).wr
          CROWN_STAT.DRV_LIMITED k.val 0
        let s3 := (s2.wr CROWN_STAT.PHASE k.val (if s.crownSine k.val then 0 else 1)).wr CROWN_STAT.STOP_CAUSE k.val 0
        (s3.crownTo k.val 1 0x1004 (some 0)).crownFollow k.val
      else s
    | none => s

/-- CROWN_STOP_TICK (R423): T0 is reached. -/
def execCrownStopTick (k : Fin 8) (s : State) : Host.Outcome State Fault Refusal :=
  chipOnly s <|
    match (s.crown k.val).stop with
    | some (t0, cse) =>
      if t0 ≤ s.epoch ∧ (s.crownState k.val = 1 ∨ s.crownState k.val = 2) then
        let t := s.rdX CROWN_RAMP.RAMP_US k.val * 500
        ((s.modCrown k.val fun c => { c with stop := none, taper := some (t0, t) }).wr CROWN_STAT.STOP_CAUSE k.val cse).crownTo
          k.val 3 0x1009 none
      else s
    | none => s

/-- CROWN_TAPER_DONE (R423): the taper is complete, or no channel of the group is ACTIVE or RAMPDOWN. -/
def execCrownTaperDone (k : Fin 8) (s : State) : Host.Outcome State Fault Refusal :=
  chipOnly s <|
    match (s.crown k.val).taper with
    | some (t0, t) =>
      if s.crownState k.val = 3 ∧ t0 + t ≤ s.epoch then s.crownStopped k.val (s.rd CROWN_STAT.STOP_CAUSE k.val)
      else s.crownFollow k.val
    | none => s.crownFollow k.val

/-! ### Output (R424, R430, R432 to R434) -/

/-- The coefficient set in force at tick `x`, and the set it is crossfaded from with the swap's tick (R434). -/
def State.crownSetAt (s : State) (k x : Nat) : CSet × Option (CSet × Nat) :=
  let c := s.crown k
  let f := s.crownF k
  match (c.swaps.filter fun p => p.ok && decide (c.ts + p.m * f ≤ x)).getLast? with
  | some p => (p.set, some (c.set, c.ts + p.m * f))
  | none => (c.set, c.old)

/-- Sample `i` since T_s of drive `j` as coefficient set `set` gives it: overlapping random frames (R430), or pulses of B samples, each
followed by B samples of 0 (R433). -/
def State.crownSetSample (s : State) (k : Nat) (set : CSet) (i j : Nat) : Rat :=
  let b := s.crownB k
  if set.pulse then
    let p0 := (s.rdA CROWN_INIT.INIT_FRAMES k + 3) * (b / 2)
    let pulses := s.rdA CROWN_PULSES.PULSES k
    if p0 ≤ i ∧ (i - p0) % (2 * b) < b ∧ (pulses = 0 ∨ (i - p0) / (2 * b) < pulses) then
      pulseSample (s.crownLc k) b set.fac j ((i - p0) % (2 * b))
    else 0
  else randomSample (s.crownSeed k) (s.crownND k) (s.crownLc k) b set.fac j i

/-- A synthesis sample of drive `j` at tick `x` (R430, R433, R434), before limiting: crossfaded over the 64 samples from a swap. -/
def State.crownRaw (s : State) (k j x : Nat) : Int :=
  let c := s.crown k
  let n := max 1 (s.crownN k)
  let i := (x - c.ts) / n
  let (set, old) := s.crownSetAt k x
  let y := s.crownSetSample k set i j
  match old with
  | some (o, b) =>
    let q := (x - b) / n
    if b ≤ x ∧ q < 64 then roundRat ((((64 - q : Nat) : Rat) * s.crownSetSample k o i j + (q : Rat) * y) / ((64 : Nat) : Rat))
    else roundRat y
  | none => roundRat y

/-- The trim a SINE group presents on drive `j` at tick `x` (R424, R432): ramped over the granule, and by the group's ramps. -/
def State.crownTrimAt (s : State) (k j x : Nat) : Nat :=
  let c := s.crown k
  let n := max 1 (s.crownN k)
  let i := (x - c.ts) / n % 16
  let a := nth c.trim0 j
  let b := nth c.trim j
  (c.ramped ((a : Int) + roundDiv (((b : Int) - a) * i) 16) x).toNat

/-- CROWN_BEZEL_WRITE (R424): the group writes its next samples into the drive Bezels, which below their floor do not take them (R106),
or in SINE presents its trims at the sample tick. A sample that saturates in CONTROL is an alarm of kind CLIP (R435). -/
def execCrownBezelWrite (k : Fin 8) (s : State) : Host.Outcome State Fault Refusal :=
  chipOnly s <|
    let c := s.crown k.val
    let n := max 1 (s.crownN k.val)
    if s.crownActive k.val then
      if s.crownSine k.val then
        if c.ts ≤ s.epoch ∧ (s.epoch - c.ts) % n = 0 ∧ s.crownBusy k.val = true then
          (List.range 64).foldl (fun t j => match s.crownSdrv k.val j with
            | some (d, src) => t.setTrim d src (s.crownTrimAt k.val j s.epoch)
            | none => t) s
        else s
      else if c.next ≤ s.epoch + 10 + 64 * n then
        let x := c.next
        let raw := (List.range (s.crownND k.val)).map fun j => s.crownRaw k.val j x
        let ys := raw.map sat24
        let taken := if s.epoch + 66 ≤ x then [(x, ys)] else []
        let s1 := s.modCrown k.val fun u => { u with
          q := (u.q.filter fun p => decide (s.epoch ≤ p.1 + 2 * n)) ++ taken, next := x + n, sent := u.sent ++ taken }
        if ys != raw && s.rd CROWN_STAT.PHASE k.val == 2 then
          let s2 := s1.modCrown k.val fun u => { u with clipNow := true, clipTold := true }
          if c.clipTold then s2 else s2.crownAlarm k.val 1 x (s.crownErrReg k.val)
        else s1
      else s
    else s

/-! ### Frames (R425 to R435) -/

/-- The swap whose boundary is frame boundary `m` (R434): it happens when the bank was built at its sample tick, and lapses
otherwise. -/
def State.crownSwap (s : State) (k m : Nat) : State :=
  let c := s.crown k
  let b := c.ts + m * s.crownF k
  match c.swaps.find? fun p => p.m == m with
  | some p =>
    let rest := c.swaps.filter fun q => q.m != m
    if p.ok then
      let act := s.rd CROWN_BANK.ACTIVE_BANK k
      ((s.modCrown k fun u => { u with swaps := rest, old := some (c.set, b), set := p.set }).wr CROWN_BANK.ACTIVE_BANK k
        (1 - act)).inc CROWN_BANK.SWAP_COUNT k
    else
      (((s.modCrown k fun u => { u with swaps := rest }).inc CROWN_BANK.DEFER_COUNT k).raise (pgCrown k) 4).jrn 0x0B (64 + k)
        0x030F [.tick b]
  | none => s

/-- The analysis frame that ends at boundary `m` (R426, R427): its spectra are averaged as the `n`th, and H and H⁺ estimated from them,
which a TWR group keeps from the end of INIT on (R433). -/
def State.crownAnalyse (s : State) (k m n : Nat) : State :=
  let c := s.crown k
  let nd := s.crownND k
  let nc := s.crownNC k
  let b := s.crownB k
  let lines := List.range (s.crownL k)
  let xs := (List.range nd).map fun j => analysis (s.crownL k) (s.crownDrive k (c.ts + m * s.crownF k) j)
  let ys := (List.range nc).map fun i => analysis (s.crownL k) (s.crownResp k (c.ts + m * s.crownF k) i)
  let avg := fun (r q : Nat) (g : List Mat) (us vs : List (List Cx)) =>
    lines.map fun l => average n r q ((g[l]?).getD []) (crossAt b l us vs)
  let gxx := avg nd nd c.gxx xs xs
  let gyx := avg nc nd c.gyx ys xs
  let h := if s.rdA CROWN_CFG.MODE k = 2 ∧ s.rd CROWN_STAT.PHASE k = 2 then c.h
    else lines.map fun l => estimate nc nd ((gyx[l]?).getD []) ((gxx[l]?).getD [])
  s.modCrown k fun u => { u with
    gxx := gxx, gyx := gyx, gyy := avg nc nc c.gyy ys ys, h := h, hp := h.map (pseudo nc nd (s.rdX CROWN_REG.REG k))
    avg := c.avg + 1, frames := c.frames + 1 }

/-- The update of R429 from the averages at this boundary: D made admissible, with its factors as the next bank. -/
def State.crownUpdate (s : State) (k : Nat) : List Mat × Bool :=
  let c := s.crown k
  let nd := s.crownND k
  let nc := s.crownNC k
  let at' := fun (xs : List Mat) (l : Nat) => (xs[l]?).getD []
  let ds := (List.range (s.crownL k)).map fun l =>
    if 1 ≤ l ∧ l < s.crownLc k then
      admissible nd (updated nc nd (s.rdX CROWN_CFG.MU k) (at' c.d l) (at' c.hp l) (s.crownTarget k l) (at' c.gyy l))
    else mTab nd nd fun _ _ => {}
  let (d, excess) := limited nd (s.rdX CROWN_DRVMAX.DRV_MAX k) ds
  (d.map mHold, excess)

/-- The transform of the target of control point `i`, at LEVEL (R433). -/
def State.crownWave (s : State) (k i : Nat) : List Cx :=
  let a := 0x00600000 + s.rdA CROWN_TWR_BASE.TWR_BASE k + 4 * s.crownB k * i
  (transform (s.crownL k) ((List.range (s.crownB k)).map fun n => (signed 24 (s.afDword (a + 4 * n)) : Rat))).map
    (·.scale (tenPow (s.crownLevel k) 2000))

/-- The next pulse at boundary `b` (R433): X⁽⁰⁾ = H⁺·T, and after a pulse X + μ·H⁺·(T − Y) with the response from its start. -/
def State.crownPulse (s : State) (k b : Nat) : List Mat :=
  let c := s.crown k
  let nc := s.crownNC k
  let ts := (List.range nc).map (s.crownWave k)
  let ys := (List.range nc).map fun i => transform (s.crownL k) ((s.crownResp k b i).map fun (y : Int) => (y : Rat))
  let col := fun (xs : List (List Cx)) (l : Nat) => mTab nc 1 fun i _ => (((xs[i]?).getD [])[l]?).getD {}
  let first := !c.set.pulse
  (List.range (s.crownL k)).map fun l =>
    if 1 ≤ l ∧ l < s.crownLc k then
      nextPulse nc (s.crownND k) (if first then 1 else (s.rdX CROWN_CFG.MU k : Nat) / (2 ^ 15 : Nat))
        (if first then [] else (c.set.fac[l]?).getD []) ((c.hp[l]?).getD []) (col ts l) (if first then [] else col ys l)
    else []

/-- A new coefficient set is built from the spectra, and its swap requested for boundary `m + 2` (R429, R433, R434). -/
def State.crownBuild (s : State) (k m : Nat) : State :=
  let c := s.crown k
  if s.rdA CROWN_CFG.MODE k = 2 then
    let set : CSet := { pulse := true, fac := s.crownPulse k (c.ts + m * s.crownF k), hp := c.hp }
    s.modCrown k fun u => { u with swaps := u.swaps ++ [{ m := m + 2, set := set }] }
  else
    let (d, excess) := s.crownUpdate k
    let set : CSet := { fac := d.map (factor (s.crownND k)), hp := c.hp }
    (s.modCrown k fun u => { u with d := d, swaps := u.swaps ++ [{ m := m + 2, set := set }] }).wr CROWN_STAT.DRV_LIMITED k
      (flag excess)

/-- The error of R435 at a boundary in CONTROL, and its alarm. -/
def State.crownJudge (s : State) (k m : Nat) : State :=
  let c := s.crown k
  let s1 := s.wr CROWN_ERR.ERR k (unsigned 16 (satInt 16 (s.crownErrReg k)))
  if s.rdX CROWN_ALARM.ABORT_DB k * 10 * 2 ^ 40 < (s.crownErr k).natAbs then
    let n := c.exceeded + 1
    let s2 := s1.modCrown k fun u => { u with exceeded := n }
    if s.rdX CROWN_ALARM.ABORT_N k ≤ n ∧ c.errTold = false then
      (s2.modCrown k fun u => { u with errTold := true }).crownAlarm k 0 (c.ts + m * s.crownF k) (s.crownErrReg k)
    else s2
  else s1.modCrown k fun u => { u with exceeded := 0, errTold := false }

/-- The mean square of lines [lo, hi) of the frame's own spectrum of a control point (R418). -/
def State.crownBand (s : State) (k m i lo hi : Nat) : Rat :=
  let b := s.crownB k
  let ys := analysis (b / 2 + 1) (s.crownResp k ((s.crown k).ts + m * s.crownF k) i)
  ratSum (((ys.zipIdx).filter fun p => lo ≤ p.2 && p.2 < hi).map fun p => p.1.sq * lineScale b p.2)

/-- The band-RMS checkers of the group's control points at the end of an analysis frame (R418). -/
def State.crownBands (s : State) (k m : Nat) : State :=
  (s.crownCPs k).foldl (fun t p =>
    let ch := p.2
    if t.on SNS_BANK_STAT.SETTLED (bankOf ch) then
      let q := s.crownBand k m p.1 (s.rd SNS_BAND.BAND_LO ch) (s.rd SNS_BAND.BAND_HI ch)
      let thr : Rat := (s.rd SNS_BAND_LIM.BAND_THR ch : Nat)
      t.checker ch 2 (decide (thr * thr ≤ q)) (decide (64 * q < 49 * (thr * thr))) (isqrt (q.num.toNat / q.den))
        ((s.crown k).ts + m * s.crownF k - s.crownN k)
    else t) s

/-- The readout block of R436: the frame count, Y_ii of each control point and D_jj of each drive over the lines. -/
def State.crownReadout (s : State) (k : Nat) : State :=
  if s.rdA CROWN_RD.RD_EN k = 1 then
    let c := s.crown k
    let dia := fun (n : Nat) (xs : List Mat) => (List.range n).flatMap fun i => (List.range (s.crownL k)).flatMap fun l =>
      dwordBytes (((((((xs[l]?).getD [])[i]?).getD [])[i]?).map fun (x : C32) => x.1.toNat).getD 0)
    s.setAf (0x00700000 + s.rdA CROWN_RD.RD_BASE k)
      (dwordBytes (s.rd CROWN_FRAMES.FRAMES k) ++ dia (s.crownNC k) c.gyy ++ dia (s.crownND k) c.d)
  else s

/-- D follows a LEVEL that has changed at a hand-over (R428): it is multiplied by the ratio of the two factors. -/
def State.crownRelevel (s : State) (k : Nat) : State :=
  let r := tenPow (s.crownLevel k - (s.crown k).level) 1000
  if s.crownLevel k = (s.crown k).level then s
  else s.modCrown k fun c => { c with
    level := s.crownLevel k, d := c.d.map fun g => mHold ((mHeld g).map fun row => row.map (·.scale r)) }

/-- Samples that no later frame analyses go: those before the frame that ends at the next boundary after `b`. -/
def State.crownForget (s : State) (k b : Nat) : State :=
  let from' := b + s.crownF k - s.crownB k * s.crownN k
  s.modCrown k fun c => { c with
    sent := c.sent.filter fun p => decide (from' ≤ p.1), resp := c.resp.filter fun p => decide (from' ≤ p.1) }

/-- The frame boundary `m` of a RANDOM or TWR group (R426, R429, R433 to R436). In HOLD the group builds no bank and keeps its
spectra (R423). -/
def State.crownFrame (s : State) (k m : Nat) (late : Bool) : State :=
  let run := s.crownState k == 1
  let twr := s.rdA CROWN_CFG.MODE k == 2
  let initF := s.rdA CROWN_INIT.INIT_FRAMES k
  let s1 := (s.crownRelevel k).crownSwap k m
  let s2 := s1.modCrown k fun c => { c with
    swaps := c.swaps.map (fun p => if p.m = m + 1 then { p with ok := !late } else p)
    clipTold := c.clipTold && c.clipNow, clipNow := false }
  let s3 := if run && decide (2 ≤ m) then
      s2.crownAnalyse k m (min ((s2.crown k).avg + 1) (2 ^ s.rdX CROWN_CFG.AVG k))
    else s2
  let s4 := if !twr && (s.crownState k == 1 || s.crownState k == 2) && decide (2 ≤ m) then s3.crownBands k m else s3
  let ctl := run && decide (initF ≤ (s4.crown k).frames)
  let s5 := if ctl then s4.wr CROWN_STAT.PHASE k 2 else s4
  let p0 := initF + 3
  let build : Bool :=
    if twr then m + 2 == p0 || (decide (p0 + 2 ≤ m) && (m - p0 - 2) % 4 == 0) else true
  let s6 := if ctl && !twr then s5.crownJudge k m else s5
  let s7 := if ctl && build && s6.crownState k == 1 then s6.crownBuild k m else s6
  let s8 := (s7.crownReadout k).crownForget k ((s.crown k).ts + m * s.crownF k)
  let pulses := s.rdA CROWN_PULSES.PULSES k
  if twr && run && pulses != 0 && decide (p0 + 4 * pulses ≤ m) then s8.crownStopped k 5 else s8

/-- The frame's end of a SINE group (R432): new trims, to be ramped to over the next granule. -/
def State.crownSineFrame (s : State) (k : Nat) : State :=
  let c := s.crown k
  let upd := fun (j : Nat) =>
    match s.crownSdrv k j with
    | some _ =>
      let cps := (s.crownCPs k).filter fun p => s.rdA CROWN_CP.CP_DRV (64 * k + p.1) == j
      if cps == [] then nth c.trim j
      else trimNext (nth c.trim j) (s.rdX CROWN_CFG.MU k) (4 * s.rdA CROWN_SDRV.TRIM_INIT (64 * k + j))
        ((cps.filterMap fun p => s.crownRatio k p.1).max?)
    | none => nth c.trim j
  if s.crownState k = 1 then s.modCrown k fun u => { u with trim0 := c.trim, trim := (List.range 64).map upd }
  else s.modCrown k fun u => { u with trim0 := c.trim }

/-- CROWN_FRAME_BOUNDARY (R212, R425): the group's next frame boundary is reached. `late` says that the inactive bank is not yet built
and checked, which counts when the boundary is a swap's sample tick (R434). -/
def execCrownFrameBoundary (k : Fin 8) (late : Bool) (s : State) : Host.Outcome State Fault Refusal :=
  chipMem s <|
    let c := s.crown k.val
    let m := c.m + 1
    let b := c.ts + m * s.crownF k.val
    if s.crownBusy k.val ∧ b ≤ s.epoch then
      let s1 := s.modCrown k.val fun u => { u with m := m, gen := 0 }
      let s2 := ((s1.produce (prodId 9 (2 * k.val)) { t := b, unc := s.unc } c.gen).raise (pgCrown k.val) 5).incW
        CROWN_FRAMES.FRAMES k.val
      let s3 := if c.resume && s.crownState k.val == 2 && (s.crownChans k.val).all (fun d => s.drvState d == 2) then
          (s2.modCrown k.val fun u => { u with resume := false, avg := 0 }).crownTo k.val 1 0x1009 none
        else s2
      if s.crownSine k.val then s3.crownSineFrame k.val else s3.crownFrame k.val m late
    else s

end Sys2Proof.Machine
end

