-- ==== Sys2Proof/Machine/Cascade.lean ====
section
/-!
DEFINITION. Machine/Cascade.lean: the cascade ports, enumeration, epoch alignment, far-fire transport, tunnels and journal
forwarding (R469 to R491). A port is named by `down`: false the UP port, true the DOWN port.
-/

namespace Sys2Proof.Machine

/-! ### The device and its ports (R469 to R475) -/

/-- The device is the cascade master, or standalone (R472). -/
def State.master (s : State) : Bool := s.on CAS_STAT.MASTER 0

/-- The device's own address. -/
def State.ownAddr (s : State) : Nat := s.rd CAS_STAT.ADDR 0

/-- The fields of a port: its state and its count of exits from SERVICE. -/
def casState (down : Bool) : Fld := if down then CAS_STAT.DN_STATE else CAS_STAT.UP_STATE
def casExits (down : Bool) : Fld := if down then CAS_LINK.DN_DOWNS else CAS_LINK.UP_DOWNS

/-- The number of a port among the port cells. -/
def portNo (down : Bool) : Nat := flag down

/-- The state of a port: 0 DOWN, 1 TRAIN, 2 SERVICE. -/
def State.portState (s : State) (down : Bool) : Nat := s.rd (casState down) 0

/-- A port's neighbour has named itself: its messages are used (R470). -/
def State.portUsed (s : State) (down : Bool) : Bool := s.portState down == 2 && (s.casPort (portNo down)).named

/-- A port is enabled; the master's UP port is never used (R472, R489). -/
def State.portEnabled (s : State) (down : Bool) : Bool :=
  if down then s.on CAS_CFG.DN_EN 0 else s.on CAS_CFG.UP_EN 0 && !s.master

/-- The cascade PLL is LOCKED: TB runs and the device has come to TRAINING or a later state (R469, R521). -/
def State.casPll (s : State) : Bool := s.on TB_STAT.TB_RUN 0 && decide (5 ≤ s.dev)

/-- A record of the cascade (R492): its INDEX is the device's own address. -/
def State.casRec (s : State) (code : Nat) (xs : List Item) : State := s.jrn 0x0D s.ownAddr code xs

/-- A message queued on a port. -/
def State.casQueue (s : State) (down : Bool) (kind : Nat) (payload : List Nat) : State :=
  s.modCasPort (portNo down) fun c => { c with queue := c.queue ++ [(kind, payload)] }

/-- A FAR message offered to a port (R471, R483): discarded when the port is not in SERVICE or holds 64 of them. -/
def State.casFar (s : State) (down : Bool) (payload : List Nat) : State :=
  if s.portState down = 2 ∧ ((s.casPort (portNo down)).queue.filter fun m => m.1 == 1).length < 64 then s.casQueue down 1 payload
  else (s.inc CAS_FF.FF_LOST 0).raise pgCas 10

/-- A message relayed on a port, if it is in SERVICE. -/
def State.casRelay (s : State) (down : Bool) (kind : Nat) (payload : List Nat) : State :=
  if s.portState down = 2 then s.casQueue down kind payload else s

/-- The master's CAS_REACH and CHAIN_LEN set. -/
def State.setReach (s : State) (m : Nat) : State :=
  (s.wr CAS_REACH.REACH 0 m).wr CAS_STAT.CHAIN_LEN 0 ((List.range 16).filter fun n => bit m n).length

/-- A slave loses its alignment (R35, R487). -/
def State.loseAlign (s : State) : State :=
  if s.on CAS_STAT.ALIGNED 0 then
    (((s.wr CAS_STAT.ALIGNED 0 0).modCas fun c => { c with exceeded := 0 }).enterUncertain).casRec 0x130E [.tick s.epoch]
  else s

/-- The hold source of a slave whose UP link has left SERVICE (R79, R488): it no longer follows the link, and returns to REF_IN
when that is qualified. -/
def State.unfollow (s : State) : State :=
  if s.tpll.follow then
    let t := s.modTpll fun p => { p with follow := false }
    if t.tpllState = 2 ∧ t.on TPLL_STAT.REF_OK 0 = true then t.refReturn (t.reduceJ (t.tpll.res / 5000)) else t
  else s

/-- The queue of a port that leaves SERVICE: its FAR messages are lost (R483), the rest is dropped. -/
def State.casFlush (s : State) (down : Bool) : State :=
  let n := ((s.casPort (portNo down)).queue.filter fun m => m.1 == 1).length
  let t := s.modCasPort (portNo down) fun c => { c with queue := [], half := false, named := false, noJrn := 0 }
  if n = 0 then t else (t.incBy CAS_FF.FF_LOST 0 n).raise pgCas 10

/-- What leaving SERVICE brings on the slave's UP port (R487, R488) and the master's DOWN port (R488). -/
def State.casOut (s : State) (down : Bool) : State :=
  if down then (if s.master then (s.setReach 1).modCas fun c => { c with heard := 0, heardWas := 0 } else s)
  else
    let t := s.modCas fun c => { c with outAt := some s.tb }
    (if t.tpllState ≠ 1 then t.loseAlign else t).unfollow

/-- A port enters a state (R470): leaving SERVICE is counted, ends a skew run (R482), and raises LOST when `lost`. -/
def State.casTo (s : State) (down : Bool) (st : Nat) (lost : Bool) : State :=
  let was := s.portState down
  let s1 := (s.wr (casState down) 0 st).modCasPort (portNo down) fun c => { c with since := s.tb, hdrs0 := [], hdrs1 := [] }
  if was = 2 ∧ st ≠ 2 then
    let s2 := (((s1.inc (casExits down) 0).casFlush down).skewFail).casOut down
    if lost then s2.raise pgCas (flag down) else s2
  else s1

/-- The ports that R470's first row sends to DOWN. -/
def State.casDowns (s : State) : State :=
  [false, true].foldl (fun t d =>
    if t.portState d ≠ 0 ∧ (t.portEnabled d && t.on CAS_STAT.ADDR_VALID 0 && t.casPll) = false then t.casTo d 0 false else t) s

/-- CAS_PORT_DETECT (R470): receiver detect is positive on both lanes of an enabled, addressed port in DOWN. -/
def execCasPortDetect (down : Bool) (s : State) : Host.Outcome State Fault Refusal :=
  chipOnly s <|
    if s.portState down = 0 ∧ (s.portEnabled down && s.on CAS_STAT.ADDR_VALID 0 && s.casPll) = true ∧
        (s.casPort (portNo down)).notBefore ≤ s.tb then s.casTo down 1 false
    else s

/-- The STATUS message of this device (R470, R482, R485): its address, its pending bit, its alignment result, its turnaround. -/
def State.ownStatus (s : State) : List Nat :=
  [s.ownAddr, flag ((List.range 40).any s.groupPending), s.cas.result, Config.turnaround]

/-- A slave in HOLDOVER takes its UP link, which enters SERVICE, as its hold source (R79). -/
def State.takeLink (s : State) : State :=
  if s.tpllState = 2 ∧ s.slaveLinked = true then s.modTpll fun p => { p with follow := true, ratio := none } else s

/-- CAS_PORT_TRAINED (R470): SERVICE, whose first STATUS names this device; a slave whose UP link returns resumes (R487). -/
def execCasPortTrained (down : Bool) (s : State) : Host.Outcome State Fault Refusal :=
  chipOnly s <|
    if s.portState down = 1 then
      let t := ((s.casTo down 2 false).casQueue down 3 s.ownStatus).raise pgCas 2
      if down then t else (t.modCas fun c => { c with outAt := none }).takeLink
    else s

/-- CAS_TRAIN_TIMEOUT (R470): 10 ms in TRAIN; no detect for 10 ms. -/
def execCasTrainTimeout (down : Bool) (s : State) : Host.Outcome State Fault Refusal :=
  chipOnly s <|
    if s.portState down = 1 ∧ (s.casPort (portNo down)).since + 5000000 ≤ s.tb then
      (s.casTo down 0 false).modCasPort (portNo down) fun c => { c with notBefore := s.tb + 5000000 }
    else s

/-- CAS_SQUELCH_TIMEOUT (R470): squelch has held 1 µs on a lane of a port in TRAIN or SERVICE. -/
def execCasSquelchTimeout (down : Bool) (s : State) : Host.Outcome State Fault Refusal :=
  chipOnly s (if s.portState down = 0 then s else s.casTo down 0 true)

/-- A port in SERVICE goes back to TRAIN with its LOST event (R470). -/
def State.casRetrain (s : State) (down : Bool) : State := if s.portState down = 2 then s.casTo down 1 true else s

/-- A header arrives on lane `k` of a port in SERVICE (R314): 16 errors in 64 blocks lose block lock. -/
def State.casHeader (s : State) (down : Bool) (k : Nat) (bad : Bool) : State :=
  if s.portState down = 2 then
    let c := s.casPort (portNo down)
    let hs := (bad :: (if k = 0 then c.hdrs0 else c.hdrs1)).take 64
    if 16 ≤ (hs.filter id).length then s.casRetrain down
    else s.setCasPort (portNo down) (if k = 0 then { c with hdrs0 := hs } else { c with hdrs1 := hs })
  else s

/-- INBOUND_BLOCK (R311 to R314, R336 to R348, R470): a block arrives at a lane, or at a lane of a cascade port: 256 and 257 are
UP's, 258 and 259 DOWN's. What a cascade block carries arrives as its message. -/
def execInboundBlock (l : Fin 260) (hdr : BitVec 4) (payload : BitVec 128) (s : State) : Host.Outcome State Fault Refusal :=
  chipOnly s <|
    if l.val < 256 then s.laneBlockIn l.val hdr.toNat payload.toNat
    else s.casHeader (decide (258 ≤ l.val)) (l.val % 2) (headerBad hdr.toNat)

/-! ### Sending (R471, R477) -/

/-- The class of a message: 1 FAR, 2 HEALTH, 3 TUN. -/
def casClass (kind : Nat) : Nat := if kind = 1 then 1 else if kind = 6 ∨ kind = 7 then 3 else 2

/-- The first queued message of a class, with its place. -/
def casFirst (q : List (Nat × List Nat)) (cls : Nat) : Option Nat :=
  (List.range q.length).find? fun i => match q[i]? with
    | some m => casClass m.1 == cls
    | none => false

/-- A JRN block waits on the port: the UP port carries the records of this device and of those below it (R486). -/
def State.casJrn (s : State) (down : Bool) : Bool := !down && s.journal.up != []

/-- Half of the oldest record goes up (R471, R486). -/
def State.casSendJrn (s : State) : State :=
  let c := s.casPort 0
  match s.journal.up with
  | r :: _ =>
    let t := (s.setCasPort 0 { c with half := !c.half, noJrn := 0 }).emit
      (.cascade false 8 (if c.half then r.drop 4 else r.take 4))
    if c.half then t.jrnUpGone else t
  | [] => s

/-- The queued message at place `i` goes out; a TIME message takes the tick of its block (R477). -/
def State.casSendAt (s : State) (down : Bool) (i : Nat) : State :=
  let c := s.casPort (portNo down)
  match c.queue[i]? with
  | some (k, xs) =>
    let t := (s.setCasPort (portNo down) { c with queue := c.queue.eraseIdx i, noJrn := c.noJrn + 1 }).emit
      (.cascade down k (if k = 2 then s.epoch :: xs.drop 1 else xs))
    if k = 1 then t.inc CAS_FF.FF_TX 0 else t
  | none => s

/-- CAS_BLOCK_SEND (R471): at a block boundary of a port in SERVICE the first queued message goes, by class; JRN has one block in
every 16. -/
def execCasBlockSend (down : Bool) (s : State) : Host.Outcome State Fault Refusal :=
  chipOnly s <|
    let c := s.casPort (portNo down)
    if s.portState down ≠ 2 then s
    else if s.casJrn down && decide (15 ≤ c.noJrn) then s.casSendJrn
    else
      match (casFirst c.queue 1).orElse fun _ => (casFirst c.queue 2).orElse fun _ => casFirst c.queue 3 with
      | some i => s.casSendAt down i
      | none => if s.casJrn down then s.casSendJrn else s

/-- The tick is one at which TIME and STATUS are sent, and they have not been. -/
def State.timeDue (s : State) : Bool :=
  s.epoch % 65536 == 0 &&
    match s.cas.timeAt with
    | some t => if s.counting then t != s.tb else decide (t + 65536 ≤ s.tb)
    | none => true

/-- CAS_TIME_SEND (R477, R485, R488): TIME downward, STATUS upward; the master's CAS_REACH follows the STATUS it has heard. -/
def execCasTimeSend (s : State) : Host.Outcome State Fault Refusal :=
  chipOnly s <|
    if s.timeDue then
      let s1 := (s.modCas fun c => { c with timeAt := some s.tb, heard := 0, heardWas := c.heard }).casRelay true 2
        [s.epoch, s.rd TB_STAT.EPOCH_STATE 0, s.tpllState, flag (s.master || s.on CAS_STAT.ALIGNED 0)]
      if s.master then s1.setReach (1 ||| s.cas.heard ||| s.cas.heardWas) else s1.casRelay false 3 s1.ownStatus
    else s

/-! ### Enumeration (R472 to R474) -/

/-- The bits of a frame for value `v`: start, five bits, even parity, and the line low again (R473). -/
def enumBits (v : Nat) : List Nat :=
  let five := (List.range 5).map fun i => bits v (4 - i) 1
  1 :: five ++ [five.sum % 2, 0]

/-- ENUM_FRAME_SEND (R473): every 100 µs, with an address. -/
def execEnumFrameSend (s : State) : Host.Outcome State Fault Refusal :=
  chipOnly s <|
    if s.on CAS_STAT.ADDR_VALID 0 = true ∧ s.cas.frameAt + 50000 ≤ s.tb then
      (s.modCas fun c => { c with frameAt := s.tb }).emit (.enum (enumBits (s.ownAddr + 1)))
    else s

/-- The chain is longer than 16 devices (R474): no address, both ports DOWN. -/
def State.chainLong (s : State) : State :=
  (((if s.on CAS_STAT.ADDR_VALID 0 then s.loseAlign else s).wr CAS_STAT.ADDR_VALID 0 0).casDowns).raise pgCas 7

/-- A slave takes an address (R473, R474). -/
def State.takeAddr (s : State) (a : Nat) : State :=
  if s.on CAS_STAT.ADDR_VALID 0 = false then
    ((s.wr CAS_STAT.ADDR 0 a).wr CAS_STAT.ADDR_VALID 0 1).modCas fun c => { c with frameAt := s.tb }
  else if s.ownAddr = a then s
  else
    let s1 := ((s.wr CAS_STAT.ADDR 0 a).raise pgCas 5).casRec 0x1306 [.word s.ownAddr, .word a]
    ((s1.wr CAS_SKEW_UP.VALID 0 0).wr CAS_STAT.SKEW_VALID 0 0).loseAlign.modCas fun c => { c with target := none }

/-- ENUM_FRAME_RECEIVE (R472 to R474): a frame with its value, and whether its parity is good. -/
def execEnumFrameReceive (value : Fin 32) (good : Bool) (s : State) : Host.Outcome State Fault Refusal :=
  chipOnly s <|
    let v := value.val
    if s.master then
      if good then ((s.wr CAS_CFG.UP_EN 0 0).raise pgCas 6) else s
    else
      let s1 := s.modCas fun c => { c with frame := if good then some v else none }
      if good && s.cas.frame == some v then
        if v = 16 then s1.chainLong else if 1 ≤ v ∧ v ≤ 15 then s1.takeAddr v else s1
      else s1

/-! ### Alignment (R476 to R481, R487) -/

/-- A failed or refused target reports its result (R478). -/
def State.alignEnd (s : State) (result : Nat) : State := s.modCas fun c => { c with target := none, result := result }

/-- A target fails (R478): its EPOCH_STATE stays as it was. -/
def State.alignFail (s : State) (a : CasAlign) (theta : Int) : State :=
  (((s.alignEnd 3).modCas fun c => { c with counting := false }).raise pgCas 4).casRec 0x1305
    [.word (flag !a.slew), .word (unsigned 32 a.jump), .word (unsigned 32 theta)]

/-- A target is aligned (R36, R478). -/
def State.aligned (s : State) (a : CasAlign) (theta : Int) : State :=
  let s1 := ((s.alignEnd 1).modCas fun c => { c with counting := false, exceeded := 0 }).wr CAS_STAT.ALIGNED 0 1
  ((s1.setEpochState 1).raise pgCas 3).casRec 0x1304
    [.word (flag !a.slew), .word (unsigned 32 a.jump), .word (unsigned 32 theta)]

/-- The target's progress at a TIME message (R478): the time of its sending, its ALIGNED flag, and θ in ps. -/
def State.alignTime (s : State) (ttx : Nat) (flagged : Bool) (theta : Int) : State :=
  match s.cas.target with
  | none => s
  | some a =>
    if a.phase = 1 then
      if a.sAt < ttx ∧ flagged = true then
        if a.slew = true then s.modCas fun c => { c with target := some { a with phase := 3 } }
        else if 1000 < theta.natAbs then s.alignFail a theta
        else s.modCas fun c => { c with
          target := some { a with phase := if 5 < theta.natAbs then 2 else 3, stepAt := s.tb, rest := theta } }
      else s
    else if a.phase = 0 then s
    else if theta.natAbs ≤ 5 then s.aligned a theta
    else s

/-- An aligned slave judges θ (R481, R487): within ALIGN_TOL its TB phase moves by −θ, at most 2 ps. -/
def State.judgeTheta (s : State) (theta : Int) : State :=
  if s.on CAS_STAT.ALIGNED 0 then
    if theta.natAbs ≤ s.rd CAS_CFG.ALIGN_TOL 0 then
      s.modCas fun c => { c with exceeded := 0, moved := c.moved - max (-2) (min 2 theta) }
    else if s.cas.exceeded + 1 < 8 then s.modCas fun c => { c with exceeded := c.exceeded + 1 }
    else s.loseAlign
  else s

/-- What a slave on its UP link makes of its neighbour's TPLL state (R79). -/
def State.followUp (s : State) (up : Nat) : State :=
  let t := s.modTpll fun p => { p with upState := up }
  if (up = 2 ∨ up = 3) ∧ (t.tpllState = 1 ∨ t.tpllState = 3) then (t.tpllTo 2 0x030E).hold 2 else t

/-- θ of a TIME message, in ps (R477): `frac` is where in its tick the block's first UI arrived. -/
def State.thetaOf (s : State) (ttx : Nat) (frac : Int) : Int :=
  ((s.epoch : Int) - (ttx : Int)) * 2000 + frac - (s.rd CAS_SKEW_UP.D_PS 0 : Nat)

/-- CAS_TIME_RECEIVE (R477 to R481, R487): a TIME message on the UP port. -/
def execCasTimeReceive (ttx : BitVec 64) (epochState : Fin 3) (tpll : Fin 5) (aligned : Bool) (frac : Int) (s : State) :
    Host.Outcome State Fault Refusal :=
  chipOnly s <|
    if s.portUsed false && !s.master then
      let th := s.thetaOf ttx.toNat frac
      let s1 := ((s.wr CAS_THETA.THETA 0 (unsigned 16 (satInt 16 th))).wr CAS_THETA.MAX_ABS 0
        (max (s.rd CAS_THETA.MAX_ABS 0) (min 65535 th.natAbs))).modCas fun c => { c with theta := some th }
      let s2 := s1.followUp tpll.val
      let s3 := if epochState.val = 2 then s2.loseAlign else s2.judgeTheta th
      s3.alignTime ttx.toNat aligned th
    else s

/-- The master's alignment is complete (R478). -/
def State.chainAligned (s : State) : State := (s.wr CAS_STAT.ALIGN_BUSY 0 0).raise pgCas 3

/-- CAS_RES of address `n` set. -/
def State.setRes (s : State) (n r : Nat) : State :=
  let v := s.rd CAS_RES.RES 0
  s.wr CAS_RES.RES 0 (v - bits v (2 * n) 2 * 4 ^ n + r * 4 ^ n)

/-- The master takes a slave's result (R478). -/
def State.takeResult (s : State) (n result : Nat) : State :=
  match s.cas.align with
  | some (at', targets, done, pulsed) =>
    if s.on CAS_STAT.ALIGN_BUSY 0 && bit targets n && !bit done n && result != 0 then
      let done' := done ||| 2 ^ n
      let t := (s.setRes n result).modCas fun c => { c with align := some (at', targets, done', pulsed) }
      if done' = targets then t.chainAligned else t
    else s
  | none => s

/-- The master hears a slave's STATUS (R485, R488). -/
def State.heardFrom (s : State) (n : Nat) (pend : Bool) (result : Nat) : State :=
  let s1 := s.modCas fun c => { c with heard := c.heard ||| 2 ^ n }
  let s2 := s1.setReach (s1.rd CAS_REACH.REACH 0 ||| 2 ^ n)
  -- PEND holds bits 15 to 1 of the register.
  let was := s2.rd CAS_PEND.PEND 0
  let now := if pend then was ||| 2 ^ (n - 1) else was &&& (0x7FFF ^^^ 2 ^ (n - 1))
  let s3 := s2.wr CAS_PEND.PEND 0 now
  (if pend && !bit was (n - 1) then s3.raise pgCas 9 else s3).takeResult n result

/-- CAS_STATUS_RECEIVE (R470, R478, R482, R485): the first STATUS of a port must name the neighbour; the others are relayed to the
master. -/
def execCasStatusReceive (down : Bool) (addr : Fin 16) (pend : Bool) (result : Fin 4) (turn : Nat) (s : State) :
    Host.Outcome State Fault Refusal :=
  chipOnly s <|
    let a := addr.val
    let c := s.casPort (portNo down)
    let s1 := if a = (if down then s.ownAddr + 1 else s.ownAddr - 1) then
        s.setCasPort (portNo down) { c with named := true, turn := turn }
      else s
    if s.portState down ≠ 2 then s
    else if c.named = false ∧ ¬(if down then a = s.ownAddr + 1 else a + 1 = s.ownAddr) then (s.raise pgCas 6).casTo down 1 false
    else if !down then s1
    else if s.master then (if a = 0 then s1 else s1.heardFrom a pend result.val)
    else s1.casRelay false 3 [a, flag pend, result.val, turn]

/-- The master starts an alignment (R478). -/
def State.alignStart (s : State) : State :=
  let at' := ceilTo 65536 (s.epoch + 2000000)
  let targets := 2 * s.rd CAS_MASK.MASK 0
  let s1 := ((s.wr CAS_RES.RES 0 0).wr CAS_STAT.ALIGN_BUSY 0 1).modCas fun c => { c with align := some (at', targets, 0, false) }
  let s2 := (List.range 16).foldl (fun t n => if bit targets n then t.casRelay true 9 [n, at'] else t) s1
  if targets = 0 then s2.chainAligned else s2

/-- A write of CAS_CTRL (R470, R478, R491). -/
def State.writeCasCtrl (s : State) (w : Wr) : State :=
  let v := w.val.toNat
  let skew := match s.cal.run with
    | some r => r.item == 9
    | none => false
  s.write w pgCas 0x044
    (cause (bit v 0 && !s.master) 0x0002 ++
      cause (bit v 0 && (s.on CAS_STAT.ALIGN_BUSY 0 || s.tpllState != 1 || s.rd TB_STAT.EPOCH_STATE 0 != 1 || skew)) 0x0004)
    fun s =>
      let s1 := if bit v 2 then s.casRetrain false else s
      let s2 := if bit v 3 then s1.casRetrain true else s1
      if bit v 0 then s2.alignStart else s2

/-- CAS_RETRAIN_UP (R470): a write of CAS_CTRL with RETRAIN_UP 1. -/
def execCasRetrainUp (w : Wr) (s : State) : Host.Outcome State Fault Refusal := chipOnly s (s.writeCasCtrl (orBits w 0x4))

/-- CAS_RETRAIN_DN (R470): a write of CAS_CTRL with RETRAIN_DN 1. -/
def execCasRetrainDn (w : Wr) (s : State) : Host.Outcome State Fault Refusal := chipOnly s (s.writeCasCtrl (orBits w 0x8))

/-- CAS_ALIGN (R478): a write of CAS_CTRL with ALIGN 1. -/
def execCasAlign (w : Wr) (s : State) : Host.Outcome State Fault Refusal := chipOnly s (s.writeCasCtrl (orBits w 0x1))

/-- The step path is closed (R13, R478, R479). -/
def State.alignBusy (s : State) : Bool := s.anyEngBusy || s.anyDrvBusy || (List.range 8).any s.crownBusy

/-- A target whose d_UP is not known measures it by a single run of 256 probes (R482). -/
def State.measureUp (s : State) : State :=
  if s.on CAS_SKEW_UP.VALID 0 then s
  else
    let t := ((s.wr CAS_STAT.MEASURED 0 1).raise pgCas 8).modCas fun c => { c with measuring := true, echoes := 0, sum := 0 }
    (t.dropProbes 0).queueProbes 0

/-- ALIGN(S) reaches its target (R478). -/
def State.alignTake (s : State) (at' : Nat) : State :=
  let s1 := (s.modCas fun c => { c with result := 0, target := none }).measureUp
  let slew := s.rd TB_STAT.EPOCH_STATE 0 != 0 && (match s.cas.theta with | some th => decide (th.natAbs ≤ 1000) | none => false)
  if !slew && s.alignBusy then s1.alignEnd 2
  else s1.modCas fun c => { c with target := some { sAt := at', slew := slew, phase := flag slew, since := s.tb } }

/-- CAS_ALIGN_MSG_RECEIVE (R478): ALIGN(S) on the UP port, for this device or for one below it. -/
def execCasAlignMsgReceive (target : Fin 16) (at' : BitVec 64) (s : State) : Host.Outcome State Fault Refusal :=
  chipOnly s <|
    if s.portUsed false && !s.master then
      if target.val = s.ownAddr then s.alignTake at'.toNat else s.casRelay true 9 [target.val, at'.toNat]
    else s

/-- SYNC_OUT_PULSE (R476, R478): at S the master's SYNC_OUT rises for 64 tk. -/
def execSyncOutPulse (s : State) : Host.Outcome State Fault Refusal :=
  chipOnly s <|
    match s.cas.align with
    | some (at', targets, done, false) =>
      if s.master = true ∧ at' ≤ s.epoch then
        ((s.modCas fun c => { c with align := some (at', targets, done, true) }).emit (.ball "SYNC_OUT" 0 true at')).emit
          (.ball "SYNC_OUT" 0 false (at' + 64))
      else s
    | _ => s

/-- An enabled sense bank in OWN mode restarts its grid (R415, R479). -/
def State.banksRestart (s : State) : State :=
  (List.range 8).foldl (fun t b =>
    if t.on SNS_BANK_CFG.EN b && !t.on SNS_BANK_CFG.MODE b then
      let o := ceilTo 16 (t.epoch + t.h)
      ((t.bankStart b (some o)).wr SNS_BANK_STAT.GRID_VALID b 1).wr64 SNS_BANK_O_LO.O SNS_BANK_O_HI.O b o
    else t) s

/-- The epoch has been stepped under lane `l` (R479): from SERVICE it goes to RETRAIN, at a block boundary of the new count; a lane
that leaves or joins already does so on the new count. -/
def State.laneStep (s : State) (l : Nat) : State :=
  let s1 := s.modLphy l fun p => { p with
    leave := p.leave.map fun x => (s.blockAfter l s.epoch, x.2)
    entry := p.entry.map fun _ => ceilTo (s.laneGran l) (s.epoch + s.laneBlock l) }
  if s.laneState l = 5 then s1.laneGo l 6 7 else s1

/-- The step path's step (R478, R479): the stamp of the edge at sub-tick `sub` comes to read S + CAS_SYNC_DLY. -/
def State.alignStep (s : State) (a : CasAlign) (sub : Nat) : State :=
  let new := a.sAt * 8 + s.rd CAS_SYNC_DLY.SYNC_DLY 0
  let now := new / 8 % 2 ^ 64
  let s1 : State := { s with epoch := now }
  let s2 := if new = s.epoch * 8 + sub then s1 else (List.range 256).foldl (fun t l => t.laneStep l) s1
  let s3 := s2.banksRestart.modCas fun c => { c with
    counting := true, moved := c.moved + 250 * (((new % 8 : Nat) : Int) - (sub : Int))
    target := some { a with phase := 1, jump := (now : Int) - (s.epoch : Int) } }
  s3.casRec 0x130E [.tick s.epoch, .tick now]

/-- SYNC_IN_EDGE (R476, R478, R479, R482). -/
def execSyncInEdge (sub : Fin 8) (s : State) : Host.Outcome State Fault Refusal :=
  chipEpoch s <|
    let t := s.skewFail
    if s.master then t
    else
      match s.cas.target with
      | some a =>
        if a.phase = 0 ∧ s.tb ≤ a.since + 2500000 then
          if s.alignBusy then t.alignEnd 2 else t.alignStep a sub.val
        else t.inc CAS_CLR.STRAY 0
      | none => t.inc CAS_CLR.STRAY 0

/-- SYNC_WAIT_TIMEOUT (R478): no edge within 5 ms of ALIGN(S). -/
def execSyncWaitTimeout (s : State) : Host.Outcome State Fault Refusal :=
  chipOnly s <|
    match s.cas.target with
    | some a => if a.phase = 0 ∧ a.since + 2500000 < s.tb then s.alignFail a (s.cas.theta.getD 0) else s
    | none => s

/-- CAS_THETA_STEP (R478): every 16 tk, 10 ps of θ go. -/
def execCasThetaStep (s : State) : Host.Outcome State Fault Refusal :=
  chipOnly s <|
    match s.cas.target with
    | some a =>
      if a.phase = 2 ∧ a.stepAt + 16 ≤ s.tb then
        let r := if 0 ≤ a.rest then a.rest - 10 else a.rest + 10
        s.modCas fun c => { c with
          moved := c.moved + (r - a.rest), target := some { a with rest := r, stepAt := s.tb, phase := if 5 < r.natAbs then 2 else 3 } }
      else s
    | none => s

/-- CAS_ALIGN_TIMEOUT (R478): 50 ms (25,000,000 tk) after S, targets that have not reported read FAIL. -/
def execCasAlignTimeout (s : State) : Host.Outcome State Fault Refusal :=
  chipOnly s <|
    match s.cas.align with
    | some (at', targets, done, _) =>
      if s.on CAS_STAT.ALIGN_BUSY 0 = true ∧ at' + 25000000 ≤ s.epoch then
        ((List.range 16).foldl (fun t n => if bit targets n && !bit done n then t.setRes n 3 else t) s).chainAligned
      else s
    | none => s

/-- CAS_HOLD_TIMEOUT (R487): the UP port has been out of SERVICE for HOLD_S. -/
def execCasHoldTimeout (s : State) : Host.Outcome State Fault Refusal :=
  chipOnly s <|
    match s.cas.outAt with
    | some t =>
      if t + s.rd CAS_CFG.HOLD_S 0 * 500000000 ≤ s.tb then s.loseAlign.modCas fun c => { c with outAt := none } else s
    | none => s

/-! ### Probes (R482) -/

/-- CAS_PROBE_RECEIVE (R482): a PROBE is answered by an ECHO on its port. -/
def execCasProbeReceive (down : Bool) (s : State) : Host.Outcome State Fault Refusal :=
  chipOnly s (if s.portUsed down then s.casQueue down 5 [] else s)

/-- The skew run of this port is collecting echoes. -/
def State.skewOn (s : State) (down : Bool) : Bool :=
  match s.cal.run with
  | some r => r.item == 9 && r.unit == portNo down
  | none => false

/-- CAS_ECHO_RECEIVE (R482): an ECHO whose round trip took `rtt` ps. d_UP's own measurement ends with its 256th. -/
def execCasEchoReceive (down : Bool) (rtt : Nat) (s : State) : Host.Outcome State Fault Refusal :=
  chipOnly s <|
    let own := s.cas.measuring && !down
    if s.portUsed down && (s.skewOn down || own) && decide (s.cas.echoes < 256) then
      let t := s.modCas fun c => { c with
        echoes := c.echoes + 1, sum := c.sum + ((rtt : Int) - ((s.casPort (portNo down)).turn : Nat) - Config.skewK) }
      if own && !s.skewOn down && t.cas.echoes == 256 then
        (t.modCas fun c => { c with measuring := false }).loadSkew 0 (unsigned 32 (roundDiv t.cas.sum 512)) 0
      else t
    else s

/-! ### Far-fire (R483) -/

/-- FAR_RX of channel `k` (R212, R215, R216): the event with its generation one higher, charged with its hops. -/
def State.farRx (s : State) (k : Nat) (st : Stamp) (gen hops : Nat) : State :=
  let n := if s.rd FIRE_FAR_CFG.MODE k = 1 then s.rd FIRE_FAR_CFG.HOPS k else hops
  s.setProdq (s.prodq ++ [{ prod := prodId 0xD k, st := st, gen := min 15 (gen + 1), hops := some n }])

/-- The FAR message of an event (R483). -/
def farMsg (k origin : Nat) (st : Stamp) (gen hops : Nat) : List Nat :=
  [k, origin, st.t % 2 ^ 32, st.sub, gen, flag st.unc, hops]

/-- A port that far-fire events are meant to cross. -/
def State.farPort (s : State) (down : Bool) : Bool := s.portEnabled down && s.on CAS_STAT.ADDR_VALID 0

/-- An event at FAR_TX `k` (R483): to FAR_RX here, and on each port. -/
def State.farTx (s : State) (k : Nat) (ev : Event) : State :=
  let m := farMsg k s.ownAddr ev.st ev.gen 0
  [false, true].foldl (fun t d => if t.farPort d then t.casFar d m else t) (s.farRx k ev.st ev.gen 0)

/-- FAR_TX (R215, R483): the events at FAR_TX consumer `k`. -/
def execFarTx (k : Fin 64) (s : State) : Host.Outcome State Fault Refusal :=
  chipOnly s <|
    let (evs, t) := s.takeArrivals 9 k.val
    evs.foldl (fun u a => u.farTx k.val a.ev) t

/-- The full stamp with the low bits `low` in the 2^31 tk that end now (R483); none when there is no such stamp. -/
def State.fullStamp (s : State) (low : Nat) : Option Nat :=
  let d := (s.epoch + 2 ^ 32 - low) % 2 ^ 32
  if d < 2 ^ 31 then some ((s.epoch + 2 ^ 64 - d) % 2 ^ 64) else none

/-- FAR_MESSAGE_RECEIVE (R483): the event is delivered here with one hop more, and repeated on the other port. A stamp that R483
does not rebuild is a free value. -/
def execFarMessageReceive (down : Bool) (ff : Fin 64) (origin : Fin 16) (stamp : Word) (sub : Fin 8) (gen : Fin 16) (unc : Bool)
    (hops : Fin 16) (s : State) : Host.Outcome State Fault Refusal :=
  chipOnly s <|
    if s.portUsed down then
      let (x, s1) := s.draw
      let st : Stamp := { t := (s.fullStamp stamp.toNat).getD (x % 2 ^ 64), sub := sub.val, unc := unc }
      let s2 := (if (s.fullStamp stamp.toNat).isSome then s else s1).farRx ff.val st gen.val (hops.val + 1)
      if s2.farPort (!down) then s2.casFar (!down) (farMsg ff.val origin.val st gen.val (hops.val + 1)) else s2
    else s

/-! ### Tunnels (R484) and journal forwarding (R486) -/

/-- A tunnelled access ends with a result (R484). -/
def State.tunEnd (s : State) (result : Nat) : State :=
  (((s.wr CAS_TUN_STAT.BUSY 0 0).wr CAS_TUN_STAT.RESULT 0 result).modCas fun c => { c with tunAt := none }).raise pgCas 11

/-- A write of CAS_TUN_CTL (R484, R491). -/
def State.writeTunCtl (s : State) (w : Wr) : State :=
  let v := w.val.toNat
  let go := bit v 31
  let addr := s.rd CAS_TUN_ADDR.ADDR 0
  s.write w pgCas 0x080
    (cause (go && (bits v 16 4 == 0 || (!bit v 24 && decide (2 ^ 22 ≤ addr)))) 0x0001 ++ cause (go && !s.master) 0x0002 ++
      cause (go && s.on CAS_TUN_STAT.BUSY 0) 0x0003)
    fun s =>
      let t := ((s.wr CAS_TUN_CTL.WIN 0 (bits v 24 1)).wr CAS_TUN_CTL.TARGET 0 (bits v 16 4)).wr CAS_TUN_CTL.WRITE 0 (bits v 8 1)
      if !go then t
      else if t.portUsed true then
        (((t.wr CAS_TUN_STAT.BUSY 0 1).wr CAS_TUN_STAT.RESULT 0 0).modCas fun c => { c with tunAt := some s.tb }).casQueue true 6
          [bits v 16 4, bits v 24 1, bits v 8 1, addr, t.rd CAS_TUN_WDATA.WDATA 0]
      else t.tunEnd 3

/-- CAS_TUN_GO (R484): a write of CAS_TUN_CTL with GO 1. -/
def execCasTunGo (w : Wr) (s : State) : Host.Outcome State Fault Refusal := chipOnly s (s.writeTunCtl (orBits w 0x80000000))

/-- CAS_TUN_RESPONSE (R484): a response on the DOWN port: 1 DONE, 2 DROPPED, 3 UNREACHABLE; a slave passes it up. -/
def execCasTunResponse (result : Fin 4) (rdata : Word) (s : State) : Host.Outcome State Fault Refusal :=
  chipOnly s <|
    if !s.portUsed true then s
    else if s.master then
      if s.cas.tunAt.isSome && result.val != 0 then
        (if result.val = 1 ∧ s.on CAS_TUN_CTL.WRITE 0 = false then s.wr CAS_TUN_RDATA.RDATA 0 rdata.toNat else s).tunEnd result.val
      else s
    else s.casRelay false 7 [result.val, rdata.toNat]

/-- CAS_TUN_TIMEOUT (R484): no response within 100 µs (50,000 tk). -/
def execCasTunTimeout (s : State) : Host.Outcome State Fault Refusal :=
  chipOnly s <|
    match s.cas.tunAt with
    | some t => if t + 50000 ≤ s.tb then s.tunEnd 4 else s
    | none => s

/-- A record of eight dwords, as the journal takes it (R492). -/
def recOf (d : List Nat) : Rec :=
  let x := fun i => nth d i
  { stamp := x 0 + 2 ^ 32 * x 1, sub := bits (x 2) 29 3, unc := bit (x 2) 28, origin := bits (x 2) 24 4, cls := bits (x 2) 16 8
    index := bits (x 2) 0 16, code := bits (x 3) 16 16, rseq := bits (x 3) 0 16, data := (d.drop 4).take 4, forwarded := true }

/-- CAS_JRN_RECEIVE (R486, R499, R500): a record from below; a slave relays it through its buffer, the master places it in its own
blocks. -/
def execCasJrnReceive (record : BitVec 256) (s : State) : Host.Outcome State Fault Refusal :=
  chipOnly s <|
    let d := (List.range 8).map fun i => record.toNat / 2 ^ (32 * i) % 2 ^ 32
    if !s.portUsed true then s
    else if s.master then s.setRecs (s.recs ++ [recOf d])
    else if s.jrnUpRoom (recOf d).cls then s.modJournal fun j => { j with up := j.up ++ [d] }
    else s.jrnDiscard (recOf d)

/-! ### Registers (R489, R491) -/

/-- A write of CAS_CLR (R489): CLR. -/
def State.writeCasClr (s : State) (w : Wr) : State :=
  s.write w pgCas 0x074 [] fun s =>
    if bit w.val.toNat 31 then
      ([(CAS_THETA.THETA), CAS_THETA.MAX_ABS, CAS_FF.FF_LOST, CAS_FF.FF_TX, CAS_LINK.UP_DOWNS, CAS_LINK.DN_DOWNS,
        CAS_CLR.STRAY]).foldl (fun t f => t.wr f 0 0) s
    else s

/-- CAS_CLR (R489): a write with CLR 1. -/
def execCasClr (w : Wr) (s : State) : Host.Outcome State Fault Refusal := chipOnly s (s.writeCasClr (orBits w 0x80000000))

/-- A write of CAS_CFG (R470, R489, R491). -/
def State.writeCasCfg (s : State) (w : Wr) : State :=
  let v := w.val.toNat
  let tol := bits v 16 8
  let hold := bits v 0 12
  s.write w pgCas 0x040
    (cause (decide (tol < 10) || hold == 0 || decide (3600 < hold)) 0x0001 ++
      cause ((!bit v 31 && s.on CAS_CFG.DN_EN 0 && s.skewOn true) || (!bit v 30 && s.on CAS_CFG.UP_EN 0 && s.skewOn false)) 0x0005)
    fun s =>
      ((((s.wr CAS_CFG.DN_EN 0 (bits v 31 1)).wr CAS_CFG.UP_EN 0 (bits v 30 1)).wr CAS_CFG.ALIGN_TOL 0 tol).wr CAS_CFG.HOLD_S 0
        hold).casDowns

/-- A write of the CAS page. -/
def State.writeCas (s : State) (off : Nat) (w : Wr) : State :=
  if off = 0x040 then s.writeCasCfg w
  else if off = 0x044 then s.writeCasCtrl w
  else if off = 0x054 then
    let t := s.plainReg w pgCas off []
    t.wr CAS_STAT.SKEW_VALID 0 (t.rd CAS_SKEW_UP.VALID 0)
  else if off = 0x074 then s.writeCasClr w
  else if off = 0x080 then s.writeTunCtl w
  else s.plainReg w pgCas off (cause (off == 0x048 && bit w.val.toNat 0) 0x0001)

end Sys2Proof.Machine
end

