-- ==== Sys2Proof/Machine/Fire.lean ====
section
/-!
DEFINITION. Machine/Fire.lean: the Fire network (R196 to R214, R217 to R219): ports, router, channels, route slots, the hub's
sources, the event balls and the cycle check.
-/

namespace Sys2Proof.Machine

/-! ### Producers and consumers (R200, R205) -/

/-- The Fire port of a producer: the Girdle stop of its island; 0 is the hub (R200). -/
def prodPort (prod : Nat) : Nat :=
  let cls := prod / 4096
  let i := prod % 4096
  if cls = 3 ∨ cls = 4 ∨ cls = 5 then islandOf (i / 16)
  else if cls = 6 ∨ cls = 0xB then islandOf (i / 8)
  else if cls = 7 ∨ cls = 8 ∨ cls = 9 then 17
  else if cls = 0xC ∧ i < 64 then islandOf (i / 2)
  else 0

/-- The identifiers that name a producer (R200). -/
def prodOk (prod : Nat) : Bool :=
  let i := prod % 4096
  let top := match prod / 4096 with
    | 0 => 16 | 1 => 32 | 2 => 64 | 3 => 512 | 4 => 512 | 5 => 512 | 6 => 256 | 7 => 128 | 8 => 256 | 9 => 16
    | 0xA => 64 | 0xB => 256 | 0xC => 66 | 0xD => 64 | _ => 0
  decide (i < top)

/-- How many indexes a consumer class has, 0 for a reserved class (R205). -/
def consRange (cls : Nat) : Nat :=
  match cls with
  | 0 => 1 | 1 => 2048 | 2 => 512 | 3 => 128 | 4 => 64 | 5 => 16 | 6 => 64 | 7 => 256 | 8 => 16 | 9 => 64 | _ => 0

/-- The Fire port of a consumer, and the power domain of its island. -/
def consPort (cls i : Nat) : Nat :=
  if cls = 1 then islandOf (i / 64) else if cls = 2 then islandOf (i / 16) else if cls = 3 then islandOf (i / 4)
  else if cls = 4 ∨ cls = 5 then 17 else 0
def consDomain (cls i : Nat) : Nat :=
  if cls = 1 then i / 64 else if cls = 2 then i / 16 else if cls = 3 then i / 4
  else if cls = 4 then 32 else if cls = 5 then 33 else 98

/-! ### Sending ports (R198) -/

/-- An event is discarded at port `p`: counted; the first of a run is raised and journalled. -/
def State.portDrop (s : State) (p : Nat) (ev : Event) : State :=
  let s1 := s.inc FIRE_PORT_STAT.DROP p
  if (s.port p).dropping then s1
  else ((s1.modPort p fun q => { q with dropping := true }).raise pgFire 2).jrn 0x01 p 0x0801
    [.word p, .word ev.prod, .tick ev.st.t]

/-- FIRE_PORT_ENQUEUE (R197, R198): the oldest produced event enters its port's queue, of 32 events. An event of the hub enters
the router directly. -/
def execFirePortEnqueue (s : State) : Host.Outcome State Fault Refusal :=
  chipOnly s <|
    match s.prodq with
    | [] => s
    | ev :: r =>
      let p := prodPort ev.prod
      let s1 := s.setProdq r
      if p ≠ 0 ∧ 32 ≤ (s.port p).send.length then s1.portDrop p ev
      else
        let s2 := s1.modPort p fun q => { q with send := q.send ++ [ev], dropping := false }
        if p = 0 then s2
        else s2.wr FIRE_PORT_STAT.MAX_DEPTH p (max (s2.rd FIRE_PORT_STAT.MAX_DEPTH p) (s2.port p).send.length)

/-! ### The router (R199 to R203, R213) -/

/-- The channels an event of the producer is delivered to (R201): each once. -/
def State.routesOf (s : State) (prod : Nat) : List Nat :=
  let span := fun k =>
    let x := s.route (2 * prod + k)
    if bit x 31 then (List.range (bits x 12 3 + 1)).map (bits x 0 10 + ·) else []
  (span 0 ++ (span 1).filter fun c => !(span 0).contains c).filter (· < 1024)

/-- An event whose generation exceeds GEN_LIMIT is discarded (R213). -/
def State.loopDrop (s : State) (ev : Event) : State :=
  let s1 := (s.inc FIRE_GSTAT.LOOP_COUNT 0).wr FIRE_LOOP_LAST.PROD 0 ev.prod
  ((s1.wr FIRE_LOOP_LAST.GEN 0 ev.gen).raise pgFire 0).jrn 0x01 ev.prod 0x0803 [.word ev.prod, .tick ev.st.t, .word ev.gen]

/-- An event discarded for want of a route or a consumer (R199, R201). -/
def State.unrouted (s : State) : State := s.inc FIRE_GSTAT.UNROUTED 0

/-- Two events matched for one channel in a cycle (R202): the earlier due tick, the earlier stamp on a tie, the highest
generation, the OR of the uncertain flags. -/
def State.mergeEv (s : State) (a b : Event) : Event :=
  let first := if s.due b < s.due a ∨ (s.due b = s.due a ∧ b.st.st < a.st.st) then b else a
  { first with gen := max a.gen b.gen, st := { first.st with unc := a.st.unc || b.st.unc } }

/-- A matched event put to the receiving queue of port `p`, of 32 events, and counted as delivered to it (R217); the router
holds it, behind those it holds already, while the queue has no room (R198). -/
def State.toPort (s : State) (p : Nat) (a : Arrival) : State :=
  if (s.port p).held = [] ∧ (s.port p).recv.length < 32 then
    (s.modPort p fun q => { q with recv := q.recv ++ [a] }).incW FIRE_CH_CNT.DELIVERED a.chan
  else s.modPort p fun q => { q with held := q.held ++ [a] }

/-- The oldest event the router holds for port `p` enters the room that has come free (R198). -/
def State.letGo (s : State) (p : Nat) : State :=
  match (s.port p).held with
  | [] => s
  | a :: r =>
    if (s.port p).recv.length < 32 then
      (s.modPort p fun q => { q with recv := q.recv ++ [a], held := r }).incW FIRE_CH_CNT.DELIVERED a.chan
    else s

/-- The events matched in one cycle for channel `c` (R199, R202). A domain that is quiescing is ON still (R529). -/
def State.toChannel (s : State) (c : Nat) (evs : List Event) : State :=
  let cls := s.rd FIRE_CH.CLASS c
  let i := s.rd FIRE_CH.INDEX c
  if !s.on FIRE_CH.EN c || cls == 0 || (s.dom (consDomain cls i)).st != 0 then evs.foldl (fun t _ => t.unrouted) s
  else match evs with
    | [] => s
    | e :: r =>
      let ev := r.foldl s.mergeEv e
      let s1 := if r = [] then s else s.inc FIRE_CH_CNT.COINC c
      s1.toPort (consPort cls i) { cls := cls, index := i, chan := c, ev := ev }

/-- The pairs of a channel and an event that the match makes of an event. -/
def State.matchEv (s : State) (acc : State × List (Nat × Event)) (ev : Event) : State × List (Nat × Event) :=
  if s.rd FIRE_GCTRL.GEN_LIMIT 0 < ev.gen then (acc.1.loopDrop ev, acc.2)
  else match s.routesOf ev.prod with
    | [] => (acc.1.unrouted, acc.2)
    | cs => (acc.1, acc.2 ++ cs.map fun c => (c, ev))

/-- The oldest event of each port named is taken from its queue, in order. -/
def State.takeSent (s : State) (ports : List Nat) : List Event × State :=
  ports.foldl (fun acc p =>
    match (acc.2.port p).send with
    | [] => acc
    | ev :: r => (acc.1 ++ [ev], acc.2.modPort p fun q => { q with send := r })) ([], s)

/-- FIRE_ROUTER_MATCH (R197, R199 to R203, R213): a cycle of the router. The events that have reached it, the oldest of each port
named and at most four, are matched with the software fires accepted since the last cycle. -/
def execFireRouterMatch (ports : List (Fin 34)) (s : State) : Host.Outcome State Fault Refusal :=
  chipOnly s <|
    let (evs, s1) := s.takeSent ((ports.take 4).map (·.val))
    let (s2, pairs) := evs.foldl s1.matchEv (s1.setSwq [], s1.swq.map fun a => (a.chan, a.ev))
    let chans := (pairs.map (·.1)).foldl (fun acc c => if acc.contains c then acc else acc ++ [c]) []
    chans.foldl (fun t c => t.toChannel c ((pairs.filter fun x => x.1 == c).map (·.2))) s2

/-! ### Receiving ports (R205, R209, R493) -/

/-- The stamp that a receiving consumer rebuilds at tick `now` from the low 16 bits (R25): the tick of the 32,768 that end at
`now` which has them. -/
def Stamp.rebuilt (x : Stamp) (now : Nat) : Stamp :=
  let back := (now + 65536 - x.t % 65536) % 65536
  if back < 32768 ∧ back ≤ now then { x with t := now - back } else x

/-- An event reaches EVT_OUT_n (R24, R209): it is judged against its splice deadline. With EN 0 it is discarded and not judged
(log 47). -/
def State.outArrive (s : State) (a : Arrival) : State :=
  if s.on FIRE_OUT_CFG.EN a.index then
    let p := s.pendOf a.ev (fun x => x) 66
    let s1 := if p.notBefore = 0 then s else s.late 0x01 a.chan a.ev.st p.notBefore
    (s1.age { t := p.stamp }).modEvtb a.index fun b => { b with dues := b.dues ++ [max p.due p.notBefore] }
  else s

/-- FIRE_PORT_DELIVER (R25, R197, R198, R205): the oldest event queued at the port crosses to its consumer, which rebuilds
the stamp of an event from another island. A journal marker is written at once; the other consumers take the event by their own
commands. -/
def execFirePortDeliver (p : Fin 34) (s : State) : Host.Outcome State Fault Refusal :=
  chipOnly s <|
    match (s.port p.val).recv with
    | [] => s
    | x :: r =>
      let st := if prodPort x.ev.prod = p.val then x.ev.st else x.ev.st.rebuilt s.epoch
      let a := { x with ev := { x.ev with st := st } }
      let s1 := (s.modPort p.val fun q => { q with recv := r }).letGo p.val
      if a.cls = 7 then s1.jrnAt a.ev.st 0x01 a.index 0x0804 []
      else if a.cls = 8 then s1.outArrive a
      else s1.setArrivals (s1.arrivals ++ [a])

/-! ### Sources in the hub (R206 to R210) -/

/-- A write of FIRE_SW fires a channel (R207). -/
def State.writeFireSw (s : State) (w : Wr) : State :=
  s.write w pgFire 0x04C [] fun s =>
    s.setSwq (s.swq ++
      [{ cls := 0, index := 0, chan := bits w.val.toNat 0 10, ev := { prod := 0xFFFF, st := s.now, gen := 0 } }])

/-- FIRE_SW (R207). -/
def execFireSw (w : Wr) (s : State) : Host.Outcome State Fault Refusal := chipOnly s (s.writeFireSw w)

/-- EVT_IN_EDGE (R206): an edge at ball `n` at sub-tick `sub` of the present tick. -/
def execEvtInEdge (n : Fin 16) (falling : Bool) (sub : Fin 8) (s : State) : Host.Outcome State Fault Refusal :=
  chipOnly s <|
    let e := s.rd FIRE_IN_CFG.EDGE n.val
    if s.on FIRE_IN_CFG.EN n.val && (e == 2 || e == flag falling) then
      let st := s.edge sub.val
      match (s.evtb n.val).last with
      | some t =>
        if st.st < t + 32 then s.inc FIRE_IN_CFG.GLITCH n.val
        else (s.modEvtb n.val fun b => { b with last := some st.st }).produce (prodId 0 n.val) st 0
      | none => (s.modEvtb n.val fun b => { b with last := some st.st }).produce (prodId 0 n.val) st 0
    else s

/-- START of a timer. -/
def State.timerStart (s : State) (t : Nat) : Nat := s.rd64 TIMER_START_LO.START TIMER_START_HI.START t

/-- A running timer whose next tick has come produces its event (R208). -/
def State.timerRun (s : State) (t : Nat) : State :=
  if s.on TIMER_CTRL.EN t && decide (s.timer t ≤ s.epoch) then
    let s1 := (s.produce (prodId 1 t) { t := s.timer t, sub := 0, unc := s.unc } 0).incW TIMER_DONE.DONE t
    let s2 := s1.setTimer t (s.timer t + s.rd TIMER_PERIOD.PERIOD t)
    if s.rd TIMER_COUNT.COUNT t ≠ 0 ∧ s1.rd TIMER_DONE.DONE t = s.rd TIMER_COUNT.COUNT t then s2.wr TIMER_CTRL.EN t 0 else s2
  else s

/-- A write of a timer's EN (R208, R219): 0 lets an event of the acceptance tick be produced. -/
def State.writeTimerCtrl (s : State) (t : Nat) (w : Wr) : State :=
  let en := bit w.val.toNat 0
  let start := en && !s.on TIMER_CTRL.EN t
  s.write w pgFire (0x200 + 0x20 * t) (cause (start && decide (s.timerStart t ≤ s.epoch)) 0x0003) fun s =>
    if start then ((s.wr TIMER_CTRL.EN t 1).wr TIMER_DONE.DONE t 0).setTimer t (s.timerStart t)
    else if en then s else (s.timerRun t).wr TIMER_CTRL.EN t 0

/-- TIMER_ENABLE (R208): a write of a timer's EN with 1. -/
def execTimerEnable (t : Fin 32) (w : Wr) (s : State) : Host.Outcome State Fault Refusal :=
  chipOnly s (s.writeTimerCtrl t.val (orBits w 0x1))

/-- TIMER_DISABLE (R208): a write of a timer's EN with 0. -/
def execTimerDisable (t : Fin 32) (w : Wr) (s : State) : Host.Outcome State Fault Refusal :=
  chipOnly s (s.writeTimerCtrl t.val (clearBits w 0x1))

/-- TIMER_EVENT (R208). -/
def execTimerEvent (t : Fin 32) (s : State) : Host.Outcome State Fault Refusal := chipOnly s (s.timerRun t.val)

/-- A write of PERIOD, START or COUNT (R208, R219). -/
def State.writeTimerReg (s : State) (t : Nat) (f : Fld) (w : Wr) : State :=
  let v := w.val.toNat
  s.write w pgFire (f.off + 0x20 * t)
    (cause (f.off == 0x204 && decide (v < 16)) 0x0001 ++ cause (s.on TIMER_CTRL.EN t) 0x0002) fun s => s.wr f t v

/-- AT of a scheduled-fire slot. -/
def State.schedAt (s : State) (k : Nat) : Nat := s.rd64 SCHED_AT_LO.AT SCHED_AT_HI.AT k

/-- An armed slot whose tick has come produces its event (R210). -/
def State.schedRun (s : State) (k : Nat) : State :=
  if s.on SCHED_CTRL.ARM k && decide (s.schedAt k ≤ s.epoch) then
    ((s.produce (prodId 2 k) { t := s.schedAt k, sub := 0, unc := s.unc } 0).wr SCHED_CTRL.ARM k 0).wr SCHED_CTRL.FIRED k 1
  else s

/-- A write of SCHED_CTRL (R210, R219). -/
def State.writeSchedCtrl (s : State) (k : Nat) (w : Wr) : State :=
  let v := w.val.toNat
  let arm := bit v 0 && !s.on SCHED_CTRL.ARM k
  s.write w pgFire (0x600 + 0x10 * k) (cause (arm && decide (s.schedAt k ≤ s.epoch)) 0x0003) fun s =>
    let s1 := if bit v 1 then s.wr SCHED_CTRL.FIRED k 0 else s
    if arm then s1.wr SCHED_CTRL.ARM k 1 else if bit v 0 then s1 else (s1.schedRun k).wr SCHED_CTRL.ARM k 0

/-- SCHED_ARM (R210): a write of ARM with 1. -/
def execSchedArm (k : Fin 64) (w : Wr) (s : State) : Host.Outcome State Fault Refusal :=
  chipOnly s (s.writeSchedCtrl k.val (orBits w 0x1))

/-- SCHED_CANCEL (R210): a write of ARM with 0. -/
def execSchedCancel (k : Fin 64) (w : Wr) (s : State) : Host.Outcome State Fault Refusal :=
  chipOnly s (s.writeSchedCtrl k.val (clearBits w 0x1))

/-- SCHED_FIRE (R210). -/
def execSchedFire (k : Fin 64) (s : State) : Host.Outcome State Fault Refusal := chipOnly s (s.schedRun k.val)

/-- A write of SCHED_AT_LO or SCHED_AT_HI (R210, R219). -/
def State.writeSchedAt (s : State) (k : Nat) (f : Fld) (w : Wr) : State :=
  s.write w pgFire (f.off + 0x10 * k) (cause (s.on SCHED_CTRL.ARM k) 0x0004) fun s => s.wr f k w.val.toNat

/-! ### Routes and channels (R201, R204, R205, R214) -/

/-- The cycle check starts (R214). -/
def State.routeCheck (s : State) : State := s.wr FIRE_ROUTE_STAT.CHECK_BUSY 0 1

/-- A write of FIRE_ROUTE_SEL (R200). -/
def State.writeRouteSel (s : State) (w : Wr) : State :=
  let v := bits w.val.toNat 0 16
  s.write w pgFire 0x050 (cause (!prodOk v) 0x0001) fun s => s.wr FIRE_ROUTE_SEL.PROD 0 v

/-- A write of FIRE_ROUTE_SLOT0 or 1 (R201). -/
def State.writeRouteSlot (s : State) (k : Nat) (w : Wr) : State :=
  let v := w.val.toNat
  s.write w pgFire (0x054 + 4 * k) (cause (decide (1023 < bits v 0 10 + bits v 12 3)) 0x0001) fun s =>
    (s.setRoute (2 * s.rd FIRE_ROUTE_SEL.PROD 0 + k) (v &&& 0x800073FF)).routeCheck

/-- ROUTE_SLOT_WRITE (R201). -/
def execRouteSlotWrite (slot : Fin 2) (w : Wr) (s : State) : Host.Outcome State Fault Refusal :=
  chipOnly s (s.writeRouteSlot slot.val w)

/-- A write of FIRE_CH (R204, R205, R217). -/
def State.writeFireCh (s : State) (c : Nat) (w : Wr) : State :=
  let v := w.val.toNat
  s.write w (0x010 + c / 128) (0x040 + 4 * (c % 128)) (cause (decide (consRange (bits v 16 4) ≤ bits v 0 12)) 0x0001) fun s =>
    (((s.wr FIRE_CH.EN c (bits v 31 1)).wr FIRE_CH.CLASS c (bits v 16 4)).wr FIRE_CH.INDEX c (bits v 0 12)).routeCheck

/-- FIRE_CH_WRITE (R204). -/
def execFireChWrite (c : Fin 1024) (w : Wr) (s : State) : Host.Outcome State Fault Refusal := chipOnly s (s.writeFireCh c.val w)

/-- The producers a consumer can cause (R214). -/
def causes (cls i : Nat) : List Nat :=
  match cls with
  | 1 => [prodId 3 (i / 4), prodId 5 (i / 4)]
  | 2 => [prodId 3 i, prodId 5 i]
  | 6 => [prodId 0xA i]
  | 5 => [prodId 9 (2 * (i / 2))]
  | 9 => [prodId 0xD i]
  | _ => []

/-- The enabled channels that channel `c`'s consumer can reach in one step (R214). -/
def State.channelNext (s : State) (c : Nat) : List Nat :=
  if s.on FIRE_CH.EN c then
    ((causes (s.rd FIRE_CH.CLASS c) (s.rd FIRE_CH.INDEX c)).flatMap s.routesOf).filter fun d =>
      s.on FIRE_CH.EN d && s.rd FIRE_CH.CLASS d != 0
  else []

/-- The channels reached from those of `front` within the fuel, with those seen before. -/
def State.reachFrom (s : State) : Nat → List Nat → List Nat → List Nat
  | 0, _, seen => seen
  | n + 1, front, seen =>
    let new := (front.flatMap s.channelNext).foldl (fun acc c => if seen.contains c || acc.contains c then acc else acc ++ [c]) []
    if new = [] then seen else s.reachFrom n new (seen ++ new)

/-- Channel `c` lies on a cycle (R214). -/
def State.onCycle (s : State) (c : Nat) : Bool := s.channelNext c != [] && (s.reachFrom 1024 [c] []).contains c

/-- ROUTE_CHECK_DONE (R214): the check of the route graph completes. -/
def execRouteCheckDone (s : State) : Host.Outcome State Fault Refusal :=
  chipOnly s <|
    if s.on FIRE_ROUTE_STAT.CHECK_BUSY 0 then
      let s1 := s.wr FIRE_ROUTE_STAT.CHECK_BUSY 0 0
      match (List.range 1024).find? s.onCycle with
      | some c =>
        let s2 := (s1.wr FIRE_ROUTE_STAT.CYCLE_CH 0 c).wr FIRE_ROUTE_STAT.CYCLE 0 1
        if s.on FIRE_ROUTE_STAT.CYCLE 0 then s2 else s2.raise pgFire 1
      | none => s1.wr FIRE_ROUTE_STAT.CYCLE 0 0
    else s

/-! ### EVT_OUT (R209) -/

/-- The ball EVT_OUT_n takes a level. -/
def State.outLevel (s : State) (n v : Nat) : State :=
  if s.pin (16 + n) = v then s else (s.setPin (16 + n) v).emit (.ball "EVT_OUT" n (v == 1) s.epoch)

/-- A write of FIRE_OUT_CFG (R209, R219). -/
def State.writeOutCfg (s : State) (n : Nat) (w : Wr) : State :=
  let v := w.val.toNat
  s.write w pgFire (0x180 + 4 * n) (cause (decide (1 < bits v 16 2) || bits v 0 8 == 0) 0x0001) fun s =>
    let same := s.rd FIRE_OUT_CFG.EN n = bits v 31 1 ∧ s.rd FIRE_OUT_CFG.MODE n = bits v 16 2 ∧
      s.rd FIRE_OUT_CFG.POL n = bits v 8 1
    let s1 := ((s.wr FIRE_OUT_CFG.EN n (bits v 31 1)).wr FIRE_OUT_CFG.MODE n (bits v 16 2)).wr FIRE_OUT_CFG.POL n (bits v 8 1)
    let s2 := s1.wr FIRE_OUT_CFG.WIDTH n (bits v 0 8)
    if same then s2 else (s2.modEvtb n fun b => { b with stop := none }).outLevel n (bits v 8 1)

/-- FIRE_OUT_CFG_WRITE (R209). -/
def execFireOutCfgWrite (n : Fin 16) (w : Wr) (s : State) : Host.Outcome State Fault Refusal := chipOnly s (s.writeOutCfg n.val w)

/-- An active pulse whose end has come ends (R209). -/
def State.outEnd (s : State) (n : Nat) : State :=
  match (s.evtb n).stop with
  | some e =>
    if e ≤ s.epoch then (s.modEvtb n fun b => { b with stop := none }).outLevel n (s.rd FIRE_OUT_CFG.POL n) else s
  | none => s

/-- EVT_OUT_ACT (R209): the events due at the present tick act once on the ball. -/
def execEvtOutAct (n : Fin 16) (s : State) : Host.Outcome State Fault Refusal :=
  chipOnly s <|
    let b := s.evtb n.val
    if b.dues.any (· ≤ s.epoch) then
      let s1 := s.setEvtb n.val { b with dues := b.dues.filter (s.epoch < ·) }
      if s.on FIRE_OUT_CFG.EN n.val then
        if s.rd FIRE_OUT_CFG.MODE n.val = 0 then
          (s1.modEvtb n.val fun b => { b with stop := some (s.epoch + s.rd FIRE_OUT_CFG.WIDTH n.val) }).outLevel n.val
            (1 - s.rd FIRE_OUT_CFG.POL n.val)
        else s1.outLevel n.val (1 - s.pin (16 + n.val))
      else s1
    else s

/-- EVT_OUT_PULSE_END (R209). -/
def execEvtOutPulseEnd (n : Fin 16) (s : State) : Host.Outcome State Fault Refusal := chipOnly s (s.outEnd n.val)

/-! ### Clears -/

/-- A write of FIRE_GCLR (R218). -/
def State.writeFireGclr (s : State) (w : Wr) : State :=
  s.write w pgFire 0x048 [] fun s =>
    if bit w.val.toNat 0 then
      let s1 := (((s.wr FIRE_GSTAT.LOOP_COUNT 0 0).wr FIRE_GSTAT.UNROUTED 0 0).wr FIRE_LOOP_LAST.GEN 0 0).wr FIRE_LOOP_LAST.PROD 0 0
      (List.range 34).foldl (fun t p => (t.wr FIRE_PORT_STAT.DROP p 0).wr FIRE_PORT_STAT.MAX_DEPTH p 0) s1
    else s

/-- FIRE_GCLR (R218): a write with CLR 1. -/
def execFireGclr (w : Wr) (s : State) : Host.Outcome State Fault Refusal := chipOnly s (s.writeFireGclr (orBits w 0x1))

end Sys2Proof.Machine
end

