-- ==== Sys2Proof/Machine/RefillOps.lean ====
section
/-!
DEFINITION. Machine/RefillOps.lean: what a refill channel does with its descriptor (R254 to R281): address streams, the check of
a descriptor, reads, bursts, waiting, completion and halting.
-/

namespace Sys2Proof.Machine

/-! ### Descriptors and address streams (R257 to R260) -/

/-- One side of a descriptor: its space and selectors, its address, its loop. -/
structure Side where
  space : Nat
  facet : Nat
  fmt : Nat
  win : Nat
  sel : Nat
  addr : Nat
  run : Nat
  c1 : Nat
  c2 : Nat
  c3 : Nat
  s1 : Int
  s2 : Int
  s3 : Int
  deriving DecidableEq, Repr

/-- Dword `n` of the ACTIVE descriptor of channel `c`. -/
def State.actD (s : State) (c n : Nat) : Nat := s.rd RFL_ACT.ACT (32 * c + n)

/-- CTL of the ACTIVE descriptor has bit `b` (R258). -/
def State.ctl (s : State) (c b : Nat) : Bool := bit (s.actD c 0) b

/-- A side of the ACTIVE descriptor (R257, R259). -/
def State.rflSide (s : State) (c : Nat) (dst : Bool) : Side :=
  let d := s.actD c
  let sel := if dst then bits (d 6) 0 16 else bits (d 6) 16 16
  let o := if dst then 13 else 7
  let a := if dst then 4 else 2
  { space := bits sel 12 4, facet := bits sel 7 5, fmt := bits sel 6 1, win := bits sel 0 5, sel := sel
    addr := d a + 2 ^ 32 * d (a + 1), run := bits (d o) 0 17
    c1 := bits (d (o + 1)) 0 16, c2 := bits (d (o + 1)) 16 16, c3 := bits (d (o + 2)) 0 16
    s1 := signed 32 (d (o + 3)), s2 := signed 32 (d (o + 4)), s3 := signed 32 (d (o + 5)) }

/-- The bytes of a side's stream (R260). -/
def Side.total (x : Side) : Nat := x.run * x.c1 * x.c2 * x.c3

/-- The address of byte `k` of a side's stream (R260). -/
def Side.pos (x : Side) (k : Nat) : Int :=
  let q := k / max 1 x.run
  x.addr + ((q / (max 1 x.c1 * max 1 x.c2) : Nat) : Int) * x.s3 + ((q / max 1 x.c1 % max 1 x.c2 : Nat) : Int) * x.s2 +
    ((q % max 1 x.c1 : Nat) : Int) * x.s1 + ((k % max 1 x.run : Nat) : Int)

/-- The same as a number. -/
def Side.at' (x : Side) (k : Nat) : Nat := (x.pos k).toNat

/-- The space has addresses (R255). -/
def Side.addressed (x : Side) : Bool := x.space ≤ 2 || x.space == 4

/-- The extent of an addressed space (R255). -/
def Side.extent (x : Side) : Nat :=
  if x.space = 0 then 2 ^ 64 else if x.space = 1 then (if x.fmt = 0 then 0x800000 else 8912896) else if x.space = 2 then 0x100000
  else 0x1000000

/-- Bytes per granule of a side's format (R256). -/
def Side.granule (x : Side) : Nat := if x.fmt = 0 then 64 else 68

/-- The lowest and the highest address of the eight corners (R261). -/
def Side.range (x : Side) : Int × Int :=
  let ext := fun (n : Nat) (st : Int) => let e : Int := ((n - 1 : Nat) : Int) * st; (min 0 e, max 0 e)
  let e1 := ext x.c1 x.s1
  let e2 := ext x.c2 x.s2
  let e3 := ext x.c3 x.s3
  (x.addr + e1.1 + e2.1 + e3.1, x.addr + e1.2 + e2.2 + e3.2 + ((x.run - 1 : Nat) : Int))

/-- The power domain of a side (R255, R526): of an AF side that reaches both regions, every one. -/
def Side.domains (x : Side) : List Nat :=
  if x.space = 1 ∨ x.space = 2 ∨ x.space = 3 then [x.facet]
  else if x.space = 4 then
    let r := x.range
    (if r.1 < 0x400000 ∨ 0x800000 ≤ r.2 then [32] else []) ++ (if 0x400000 ≤ r.2 ∧ r.1 < 0x800000 then [33] else [])
  else []

/-- A side breaks R255, R256 or its extent (R261). -/
def Side.bad (x : Side) (dst : Bool) : Bool :=
  decide (6 < x.space) || (if dst then x.space == 5 || x.space == 6 else x.space == 3) || bit x.sel 5 ||
  ((x.space == 0 || x.space == 4 || x.space == 6) && x.facet != 0) || (x.space != 1 && x.space != 3 && x.fmt != 0) ||
  (x.space != 3 && x.win != 0) ||
  decide (x.run = 0 ∨ 65536 < x.run) || x.c1 == 0 || x.c2 == 0 || x.c3 == 0 ||
  (x.addressed && decide (x.range.1 < 0 ∨ (x.extent : Int) ≤ x.range.2)) ||
  ((x.space == 1 || x.space == 3) && x.fmt == 1 &&
    (x.addr % 68 != 0 || x.run % 68 != 0 || x.s1 % 68 != 0 || x.s2 % 68 != 0 || x.s3 % 68 != 0)) ||
  (x.space == 3 && (x.addr != 0 || x.s1 != 0 || x.s2 != 0 || x.s3 != 0 || x.total % x.granule != 0))

/-- The ACTIVE descriptor is DESC_INVALID (R261, R498). -/
def State.descInvalid (s : State) (c : Nat) : Bool :=
  let src := s.rflSide c false
  let dst := s.rflSide c true
  let d := s.actD c
  let close := s.ctl c 22
  let idx := bits (d 25) 0 13
  s.ctl c 30 || bits (d 0) 16 6 != 0 || bits (d 25) 13 19 != 0 || src.bad false || dst.bad true ||
  src.total != dst.total || decide (0xFFFFFFFF < src.total) || (src.space == 0 && dst.space == 0) ||
  (s.ctl c 25 && decide (2 ^ 64 ≤ d 20 + 2 ^ 32 * d 21 + 3)) ||
  (close && (dst.space != 1 || !(s.dirEnt dst.facet idx).resident)) || (s.ctl c 23 && !close) ||
  (src.space == 6 && c != 63 && s.on JRN_CFG.RING_EN 0)

/-- The cause R261 gives to the ACTIVE descriptor, 0 for none. -/
def State.descCause (s : State) (c : Nat) : Nat :=
  let dst := s.rflSide c true
  if s.descInvalid c then 1
  else if ((s.rflSide c false).domains ++ dst.domains).any (fun d => !s.domOn d) then 2
  else if dst.space = 3 ∧ s.on WIN_CFG.EN (winId dst.facet dst.win) = false then 3
  else 0

/-- The stream lengths of a channel's descriptor: the destination bytes to move, and the bytes to read, tag included (R273). -/
def State.rflTotal (s : State) (c : Nat) : Nat := (s.rflSide c true).total
def State.rflToRead (s : State) (c : Nat) : Nat := s.rflTotal c + (if s.ctl c 23 then 16 else 0)

/-- The source address of byte `k` to read: the tag follows the last source byte (R273). -/
def State.srcPos (s : State) (c k : Nat) : Nat :=
  let x := s.rflSide c false
  if k < x.total then x.at' k else x.at' (x.total - 1) + 1 + (k - x.total)

/-! ### The funnel (R254, R262, R263) -/

/-- Destination bytes handed to the write stage or written. -/
def State.rflMoved (s : State) (c : Nat) : Nat :=
  (s.rflc c).written + (match (s.rflc c).stage with | some b => b.length | none => 0)

/-- The length of the burst from destination byte `k` on (R254): within its run and its 256-byte boundary. -/
def State.burstLen (s : State) (c k : Nat) : Nat :=
  let x := s.rflSide c true
  let rest := s.rflTotal c - k
  if x.addressed then min rest (min (256 - x.at' k % 256) (x.run - k % max 1 x.run)) else min rest (256 - k % 256)

/-- The length of the next burst. -/
def State.rflNext (s : State) (c : Nat) : Nat := s.burstLen c (s.rflMoved c)

/-- Both sides lie in one internal space and their address ranges meet (R263). -/
def State.rflOverlap (s : State) (c : Nat) : Bool :=
  let a := s.rflSide c false
  let b := s.rflSide c true
  a.space != 0 && a.space == b.space && a.addressed && a.facet == b.facet &&
    decide (a.range.1 ≤ b.range.2 ∧ b.range.1 ≤ a.range.2)

/-- The bytes that the model's funnel reads ahead. -/
def funnelMax : Nat := 16384

/-- The window's granule that source byte `k` becomes part of, when it will be granule WP on from here (R231). -/
def State.winGranuleOf (s : State) (c k : Nat) : Nat :=
  let x := s.rflSide c true
  (s.win (winId x.facet x.win)).wp + (k - ((s.rflc c).written - (s.rflc c).part.length)) / x.granule

/-- The window has room for granule `g` (R232). -/
def State.winRoom (s : State) (f w g : Nat) : Bool := decide (g + 1 ≤ s.winRp f w + s.rd WIN_SIZE.SIZE (winId f w))

/-- The bytes a source holds ready: none is without limit (R255). -/
def State.srcReady (s : State) (c : Nat) : Option Nat :=
  let x := s.rflSide c false
  if x.space = 5 then some (64 * (s.cmp x.facet).ring.length)
  else if x.space = 6 then some (4096 * s.journal.blocks.length - s.journal.taken)
  else none

/-- The host reads outstanding in the device (R40, R254). -/
def State.hostReads (s : State) : Nat :=
  ((List.range 64).map fun c =>
    ((s.rflc c).reads ++ (s.rflc c).stale).countP (·.host) + flag (s.rflc c).fetch + (s.rflc c).lateFetch).sum

/-- The channel may have one more read outstanding (R254): of at most 64, and 256 of the device to the host. A FAILRING or a JOURNAL
source, whose reads consume, is read one unit at a time. -/
def State.mayRead (s : State) (c : Nat) : Bool :=
  let x := s.rflSide c false
  decide ((s.rflc c).reads.length + (s.rflc c).stale.length < 64) && (x.space != 0 || decide (s.hostReads < 256)) &&
    (!(x.space == 5 || x.space == 6) || (s.rflc c).reads == [])

/-- The length of the next source read (R262); 0 when the funnel is full. A FAILRING source gives whole units (R255); where both sides
overlap, the burst before has been written (R263). -/
def State.readLen (s : State) (c : Nat) : Nat :=
  let x := s.rflSide c false
  let k := (s.rflc c).asked
  let a := s.srcPos c k
  let total := s.rflTotal c
  let limit := if s.rflOverlap c then (s.rflc c).written + s.burstLen c (s.rflc c).written else s.rflMoved c + funnelMax
  let n := min 256 (if k < total then total - k else s.rflToRead c - k)
  let n := if x.addressed && decide (k < total) then min n (x.run - k % max 1 x.run) else n
  let n := if x.space = 0 then min n (4096 - a % 4096) else n
  let n := if x.space = 6 then min n (4096 - s.journal.taken % 4096) else n
  let dst := s.rflSide c true
  let n := if dst.space = 3 then min n (dst.granule - k % dst.granule) else n
  if x.space = 5 then (if k < limit then min 64 (total - k) else 0)
  else if k < total then min n (limit - k) else n

/-- The lines of a Facet's store that a read of `n` source bytes at `a` covers (R222). -/
def Side.readLines (x : Side) (a n : Nat) : Option (Nat × Nat × Nat) :=
  if x.space ≠ 1 then none
  else if x.fmt = 0 then some (x.facet, a / 32, (a + n - 1) / 32)
  else some (x.facet, 2 * (a / 68), 2 * ((a + n - 1) / 68) + 1)

/-- A read issued: for a host source its request leaves the block. -/
def State.issueRead (s : State) (c n : Nat) : State :=
  let k := (s.rflc c).asked
  let side := s.rflSide c false
  let t := s.modRflc c fun x => { x with
    asked := x.asked + n
    reads := x.reads ++ [{ k := k, n := n, host := side.space == 0, lines := side.readLines (s.srcPos c k) n }] }
  if side.space = 0 then t.emit (.hostRead c (s.srcPos c k) n) else t

/-! ### Spaces (R255, R256) -/

/-- The offsets of the phase tables' inactive banks in the AF space (R385): table and entry of a byte. -/
def ptByte (a : Nat) : Option (Nat × Nat) := if a < 0x200000 then some (a / 0x40000, a % 0x40000 / 4) else none

/-- The byte a source of an internal space delivers (R255, R256). -/
def State.spaceByte (s : State) (x : Side) (a : Nat) : Nat :=
  if x.space = 1 then
    if x.fmt = 0 then s.memB (facetBase x.facet + a)
    else
      let o := a % 68
      if o < 64 then s.memB (facetBase x.facet + 64 * (a / 68) + o)
      else (List.range 4).foldl (fun v i => v + s.side x.facet (16 * (a / 68) + 4 * (o - 64) + i) % 4 * 4 ^ i) 0
  else if x.space = 2 then s.memB (facetBase x.facet + 0x01000000 + a)
  else match ptByte a with
    | some (g, i) => s.tabEntry (tabPt g) (1 - s.tabActive (tabPt g)) i / 256 ^ (a % 4) % 256
    | none => s.afB a

/-- One byte written to the store (R256): spare bits 0, in W32 marker bits 0. The line's check bits are written with it. -/
def State.storePut (s0 : State) (x : Side) (a v : Nat) : State :=
  let s := s0.lineWritten x.facet (if x.fmt = 0 then a / 32 else 2 * (a / 68) + (if a % 68 < 64 then a % 68 / 32 else (a % 68 - 64) / 2)) false
  let side := facetBase x.facet + 0x00800000
  if x.fmt = 0 then (s.setMemB (facetBase x.facet + a) v).setMemB (side + a / 4) 0
  else
    let o := a % 68
    let w := 16 * (a / 68)
    if o < 64 then
      (s.setMemB (facetBase x.facet + 64 * (a / 68) + o) v).setMemB (side + w + o / 4) (s.side x.facet (w + o / 4) % 4)
    else (List.range 4).foldl (fun t i => t.setMemB (side + w + 4 * (o - 64) + i) (bits v (2 * i) 2)) s

/-- One byte written to an internal space. -/
def State.spacePut (s : State) (x : Side) (a v : Nat) : State :=
  if x.space = 1 then s.storePut x a v
  else if x.space = 2 then s.setMemB (facetBase x.facet + 0x01000000 + a) v
  else match ptByte a with
    | some (g, i) =>
      let t := tabPt g
      let old := s.tabEntry t (1 - s.tabActive t) i
      let new := old - old / 256 ^ (a % 4) % 256 * 256 ^ (a % 4) + v * 256 ^ (a % 4)
      s.tabWrite t i (new % 2 ^ 24)
    | none => s.setAf a [v]

/-- Bytes written to an internal space from address `a` on. -/
def State.spacePuts (s : State) (x : Side) (a : Nat) : List Nat → State
  | [] => s
  | b :: r => (s.spacePut x a b).spacePuts x (a + 1) r

/-- [a, b) meets [p, p + n). -/
def meets (a b p n : Nat) : Bool := decide (a < p + n ∧ p < b ∧ a < b)

/-- A burst of Crown pool bytes [a, b) meets what its chapter marks as in use (R436). -/
def State.crownBlocked (s : State) (a b : Nat) : Bool :=
  (List.range 8).any fun k =>
    let n := s.crownRefBytes k
    let sel := fun (r : Nat) (base : Nat → Nat) => meets a b (0x00400000 + base (2 * k + r)) n
    (s.crownBusy k && (sel (s.rdA CROWN_REF.REF_SEL k) (s.rdA CROWN_BASE_REF.BASE) ||
      (s.rdA CROWN_CFG.MODE k == 2 && meets a b (0x00600000 + s.rdA CROWN_TWR_BASE.TWR_BASE k) (4 * s.crownNC k * s.crownB k)))) ||
    ((s.pages (pgCrown k)).pending && sel (s.rd CROWN_REF.REF_SEL k) (s.rd CROWN_BASE_REF.BASE))

/-- A burst of `bs` at address `a` is TARGET_BLOCKED (R276): a busy engine's step or branch-set area, a sealed granule, a tone set
that is in use or would hold a refused value, a phase table that is not OPEN, a Crown pool or capture region in use. -/
def State.blocked (s : State) (x : Side) (a : Nat) (bs : List Nat) : Bool :=
  let b := a + bs.length
  if x.space = 1 then
    (List.range (bs.length / 64 + 2)).any fun i =>
      decide ((a / x.granule + i) * x.granule < b) && s.sealed x.facet (a / x.granule + i)
  else if x.space = 2 then
    (List.range (bs.length / 16 + 2)).any fun i =>
      decide ((a / 16 + i) * 16 < b) && (List.range 16).any fun e =>
        s.engBusy (16 * x.facet + e) && s.inProgram (16 * x.facet + e) (a / 16 + i)
  else if x.space = 4 then
    let t := s.spacePuts x a bs
    ((List.range 8).any fun g => meets a b (0x40000 * g) 0x40000 && s.tabClosed (tabPt g)) ||
      ((List.range (bs.length / 32 + 2)).any fun i =>
        let n := (a - 0x200000) / 32 + i
        meets a b (0x200000 + 32 * n) 32 && decide (n < 1024) &&
          (s.tsetInUse n || tsetBad ((List.range 8).map (t.tsetD n)))) ||
      meets a b 0x700000 0x900000 || s.crownBlocked a b
  else false

/-- A burst that reaches a phase table in CLOSING aborts the close (R247). -/
def State.burstAborts (s : State) (x : Side) (a n : Nat) : State :=
  if x.space = 4 then
    (List.range 8).foldl (fun t g => if meets a (a + n) (0x40000 * g) 0x40000 then t.tabAbort (tabPt g) else t) s
  else s

/-- What a written burst clears (R122, R384): PROG_OK of the engines whose steps or tone sets it reached. -/
def State.burstTouched (s : State) (x : Side) (a n : Nat) : State :=
  if x.space = 2 then
    (List.range (n / 16 + 2)).foldl (fun t i =>
      if (a / 16 + i) * 16 < a + n then t.stepTouched x.facet (a / 16 + i) else t) s
  else if x.space = 4 then
    (List.range (n / 32 + 2)).foldl (fun t i =>
      let j := (a - 0x200000) / 32 + i
      if meets a (a + n) (0x200000 + 32 * j) 32 && decide (j < 1024) then t.tsetTouched j else t) s
  else s

/-- A whole granule delivered to a window becomes granule WP, with its tag (R231). -/
def State.winDeliver (s : State) (x : Side) (g : List Nat) : State :=
  let i := winId x.facet x.win
  let n := (s.win i).wp
  let slot := s.winSlot x.facet x.win n
  let s1 := s.setBytesB (facetBase x.facet + 64 * slot) (g.take 64)
  let s2 := (List.range 16).foldl (fun t k =>
    t.setMemB (facetBase x.facet + 0x00800000 + 16 * slot + k)
      ((if x.fmt = 0 then 0 else bits ((g[64 + k / 4]?).getD 0) (2 * (k % 4)) 2) + 4 * bits n (2 * (k % 8)) 2)) s1
  ((s2.linesWritten x.facet (2 * slot) 2 true).modWin i fun w => { w with wp := n + 1 }).settleWin x.facet x.win

/-! ### The end of a descriptor (R266, R269, R276, R281) -/

/-- A cause of kind BAD (R276). -/
def causeBad (cse : Nat) : Bool := 1 ≤ cse && decide (cse < 0x20)

/-- The host address of ring entry `n` of channel `c` (R265). -/
def State.ringEntry (s : State) (c n : Nat) : Nat :=
  128 * s.rd RFL_RING_BASE_LO.BASE c + 2 ^ 32 * s.rd RFL_RING_BASE_HI.BASE c + 128 * n

/-- Dword `v` written to host memory. -/
def State.hostDword (s : State) (a v : Nat) : State := s.emit (.hostWrite a ((dwordBytes v).map (BitVec.ofNat 8)))

/-- The write-back to a ring entry, in the order of R266. -/
def State.ringWriteBack (s : State) (a : Nat) (ds : List Nat) (ctl : Nat) : State :=
  let d := fun n => (ds[n]?).getD 0
  (((((s.hostDword (a + 4) (d 0)).hostDword (a + 0x68) (d 1)).hostDword (a + 0x6C) (d 2)).hostDword (a + 0x70) (d 3)).hostDword
    (a + 0x74) (d 4)).hostDword a (ctl % 2 ^ 31)

/-- The page's IRQ bit `n` of channel `c` (R283). -/
def State.rflIrq (s : State) (c n : Nat) : State := s.raise (pgRfl c) (16 * (c % 2) + n)

/-- The journal writer drives this channel (R498). -/
def State.rflOwned (s : State) (c : Nat) : Bool := c == 63 && s.on JRN_CFG.RING_EN 0

/-- The channel is in ring mode with descriptors of its own in host memory. -/
def State.rflRing (s : State) (c : Nat) : Bool := s.on RFL_CFG.MODE c && !s.rflOwned c

/-- The channel halts (R281). -/
def State.rflHalt (s : State) (c cse : Nat) : State :=
  let t := ((s.wr RFL_STAT.STATE c 4).wr RFL_STAT.WAIT c 0).modRflc c fun x => { x with cause := cse }
  (t.rflIrq c 2).jrn 0x0C c 0x0A03 []

/-- A ring entry fetch is issued when R265 asks for one. -/
def State.ringFetch (s : State) (c : Nat) : State :=
  let st := s.rd RFL_STAT.STATE c
  if s.rflRing c && !s.on RFL_STAT.SHADOW_FULL c && s.rd RFL_RING_HEAD.HEAD c != s.rd RFL_RING_TAIL.TAIL c && st != 0 && st != 4 &&
      !(s.rflc c).fetch && !(s.rflc c).dry then
    (s.modRflc c fun x => { x with fetch := true }).emit (.hostRead c (s.ringEntry c (s.rd RFL_RING_HEAD.HEAD c)) 128)
  else s

/-- CLOSE_IDX's entry is invalidated (R273). -/
def State.rflInvalidate (s : State) (c : Nat) : State := s.dirInvalidate (s.rflSide c true).facet (bits (s.actD c 25) 0 13)

/-- RESIDUE (R257, R277): the destination bytes not written, those of an incomplete window granule among them. -/
def State.rflResidue (s : State) (c : Nat) : Nat := (s.rflTotal c - ((s.rflc c).written - (s.rflc c).part.length)) % 2 ^ 32

/-- The channel's record of a finished descriptor is cleared of it. -/
def State.rflDrop (s : State) (c : Nat) : State :=
  let t := s.modRflc c fun x => { x with
    active := false, go := false, bound := none, asked := 0, reads := [], stale := x.stale ++ x.reads, buf := [], stage := none, written := 0, part := []
    closing := false, closed := none, barrier := false, crcSent := false, tag := [], tagOk := false }
  ((List.range 32).foldl (fun u f => if (u.store f).closer = some c then u.modStore f fun x => { x with closer := none } else u)
    t).wr RFL_STAT.GCM_HELD c 0

/-- The ACTIVE descriptor finishes with a cause (R266, R269, R276): status, counts, write-back, REFILL_DONE, then the next
descriptor or the halt. A HOST_LOST write-back is held (R279). -/
def State.rflFinish (s : State) (c cse : Nat) (wbFail : Bool) : State :=
  let seq := bits (s.actD c 0) 0 16
  let res := s.rflResidue c
  let status := 2 ^ 31 + 2 ^ 30 * flag (causeBad cse) + 2 ^ 24 * cse + seq
  let crc := (s.rflc c).crc ^^^ 0xFFFFFFFF
  let T := s.epoch
  let s1 := ((((((s.wr RFL_LAST_STAT.STATUS c status).wr RFL_LAST_RES.RESIDUE c res).wr RFL_RESIDUE.RESIDUE c res).wr RFL_CRC.CRC c
    crc).wr RFL_DONE.T (2 * c) (T % 2 ^ 32)).wr RFL_DONE.T (2 * c + 1) (T / 2 ^ 32)).inc RFL_CNT.DONE_COUNT c
  let ds := [status, res, crc, T % 2 ^ 32, T / 2 ^ 32]
  let entry := s.ringEntry c (s.rflc c).slot
  let s2 := if s.rflRing c then
      if cse = 0x21 then s1.modRflc c fun x => { x with held := some (entry, ds ++ [s.actD c 0]) }
      else (s1.ringWriteBack entry ds (s.actD c 0)).modRflc c fun x => { x with wb := !wbFail }
    else s1
  let s3 := if causeBad cse then
      ((s2.inc RFL_CNT.BAD_COUNT c).rflIrq c 1).jrn 0x0C c 0x0A02 [.word c, .word seq, .word cse, .word res]
    else s2
  let s4 := if s.ctl c 27 then s3.rflIrq c 0 else s3
  let s5 := if s.ctl c 26 then s4.produce (prodId 0xA c) s.now (s.rflc c).gen else s4
  let s6 := s5.rflDrop c
  if 0x20 ≤ cse then s6.rflHalt c cse
  else if wbFail && s.rflRing c then s6.rflHalt c 0x24
  else if s6.on RFL_STAT.SHADOW_FULL c then s6.wr RFL_STAT.WAIT c 0
  else
    let s7 := (s6.wr RFL_STAT.STATE c 1).wr RFL_STAT.WAIT c 0
    if s7.rflRing c && s7.rd RFL_RING_HEAD.HEAD c == s7.rd RFL_RING_TAIL.TAIL c then s7.rflIrq c 4 else s7.ringFetch c

/-- A RUNNING or WAITING channel meets a HALT cause: its descriptor, if it has one, ends with it, and it halts. -/
def State.rflStop (s : State) (c cse : Nat) : State :=
  if (s.rflc c).active then s.rflFinish c cse false else s.rflHalt c cse

/-! ### The write stage (R263, R277) -/

/-- The burst in the write stage is written (R254, R262, R263, R270). -/
def State.burstPut (s : State) (c : Nat) (bs : List Nat) : State :=
  let x := s.rflSide c true
  let k := (s.rflc c).written
  let s1 := s.modRflc c fun r => { r with stage := none, written := k + bs.length, crc := bs.foldl crcByte r.crc }
  let s2 :=
    if x.space = 0 then s1.emit (.hostWrite (x.at' k) (bs.map (BitVec.ofNat 8)))
    else if x.space = 3 then
      let all := (s.rflc c).part ++ bs
      let n := all.length / x.granule
      ((List.range n).foldl (fun t i => t.winDeliver x ((all.drop (i * x.granule)).take x.granule)) s1).modRflc c fun r =>
        { r with part := all.drop (n * x.granule) }
    else (s1.spacePuts x (x.at' k) bs).burstTouched x (x.at' k) bs.length
  (s2.wr RFL_RESIDUE.RESIDUE c (s2.rflResidue c)).wr RFL_CRC.CRC c (s2.rflc c).crc

/-- The write stage acts on its burst: TARGET_BLOCKED ends the descriptor and nothing of the burst is written (R277). -/
def State.writeStage (s : State) (c : Nat) : State :=
  match (s.rflc c).stage with
  | some bs =>
    let x := s.rflSide c true
    let a := x.at' (s.rflc c).written
    if x.space != 0 && x.space != 3 && s.blocked x a bs then (s.burstAborts x a bs.length).rflFinish c 7 false
    else s.burstPut c bs
  | none => s

/-- The burst in the write stage completes before the channel stops (R278 to R280); one that would be blocked is not written. -/
def State.drainStage (s : State) (c : Nat) : State :=
  match (s.rflc c).stage with
  | some bs =>
    let x := s.rflSide c true
    let a := x.at' (s.rflc c).written
    if x.space != 0 && x.space != 3 && s.blocked x a bs then s.burstAborts x a bs.length else s.burstPut c bs
  | none => s

/-! ### Running, waiting (R267, R268, R272, R273) -/

/-- The GCM units held. -/
def State.gcmHeld (s : State) : Nat := ((List.range 64).filter (fun c => s.on RFL_STAT.GCM_HELD c)).length

/-- The reason the channel issues no read, 0 for none (R268). -/
def State.readWait (s : State) (c : Nat) : Nat :=
  let x := s.rflSide c true
  let k := (s.rflc c).asked
  if x.space = 3 ∧ k < s.rflTotal c ∧ s.on RFL_CFG.PACE_EN c = true ∧ s.on WIN_STAT.REQ (winId x.facet x.win) = false then 2
  else if x.space = 3 ∧ k < s.rflTotal c ∧
      (s.winRoom x.facet x.win (s.winGranuleOf c k) = false ∨ (s.win (winId x.facet x.win)).initFrom.isSome = true) then 3
  else match s.srcReady c with
    | some n => if n = 0 ∧ (s.rflc c).reads = [] then 7 else 0
    | none => 0

/-- State and wait reason shown. -/
def State.rflShow (s : State) (c reason : Nat) : State :=
  (s.wr RFL_STAT.STATE c (if reason = 0 then 3 else 2)).wr RFL_STAT.WAIT c reason

/-- The channel with its descriptor written moves on toward its completion (R269, R271, R272). -/
def State.rflClose (s : State) (c : Nat) : State :=
  let x := s.rflSide c true
  let s1 := if s.ctl c 25 && !(s.rflc c).crcSent then
      (s.hostDword (s.actD c 20 + 2 ^ 32 * s.actD c 21) ((s.rflc c).crc ^^^ 0xFFFFFFFF)).modRflc c fun r => { r with crcSent := true }
    else s
  if s.ctl c 22 && (s.rflc c).barrier && !(s.rflc c).closing then
    let n := bits (s.actD c 25) 0 13
    if s1.on SEG_DIR_STAT.BUSY x.facet then s1.rflShow c 6
    else if !(s1.dirEnt x.facet n).resident || s1.segInUse x.facet n then
      (s1.modRflc c fun r => { r with closing := true, closed := some 0 }).rflShow c 0
    else
      (((s1.dirStart x.facet 3 n).modStore x.facet fun y => { y with closer := some c }).modRflc c fun r =>
        { r with closing := true }).rflShow c 0
  else s1.rflShow c 0

/-- A zero-length read to the last written address of a HOST destination (R271). -/
def State.barrierRead (s : State) (c : Nat) : State :=
  let x := s.rflSide c true
  if x.space = 0 ∧ (s.ctl c 28 || s.ctl c 22) = true then s.emit (.hostRead c (x.at' (x.total - 1)) 0) else s

/-- The window that channel `c` names becomes bound to it, unless another channel holds it (R268). -/
def State.rflBind (s : State) (c : Nat) : State :=
  let x := s.rflSide c true
  let i := winId x.facet x.win
  if x.space = 3 ∧ (s.rflc c).bound = none ∧ (List.range 64).any (fun k => (s.rflc k).bound == some i) = false then
    s.modRflc c fun r => { r with bound := some i }
  else s

/-- The channel binds its window, takes its trigger, holds its GCM unit, and issues its next read, or shows why it does not
(R267, R268, R273, R281). -/
def State.rflSettle (s0 : State) (c : Nat) : State :=
  let st := s0.rd RFL_STAT.STATE c
  if !(s0.rflc c).active || !(st == 2 || st == 3) then s0
  else
    let s := s0.rflBind c
    let x := s.rflSide c true
    let i := winId x.facet x.win
    let due := match (s.rflc c).trig with
      | some (d, _) => decide (d ≤ s.epoch)
      | none => false
    let waits := s.ctl c 29 && !(s.rflc c).go
    if x.space = 3 ∧ s.on WIN_CFG.EN i = false then s.rflFinish c 3 false
    else if waits && !due then s.rflShow c 1
    else
      let s1 := if waits then
          ((s.modRflc c fun r => { r with
            go := true, trig := none
            gen := match r.trig with | some (_, some g) => g + 1 | _ => 0 }).wr RFL_STAT.TRIG_PEND c 0).inc RFL_TRIG_CNT.TAKEN c
        else s
      if x.space = 3 ∧ (s1.rflc c).bound = none then s1.rflShow c 4
      else if s1.ctl c 23 && !s1.on RFL_STAT.GCM_HELD c && (s1.rflc c).asked == 0 && s1.gcmHeld == 2 then s1.rflShow c 5
      else if s1.ctl c 23 && !s1.on RFL_STAT.GCM_HELD c && (s1.rflc c).asked == 0 && s1.sec.lib.isNone then s1.rflFinish c 10 false
      else
        let s2 := if s1.ctl c 23 && (s1.rflc c).asked == 0 then s1.wr RFL_STAT.GCM_HELD c 1 else s1
        let r := s2.rflc c
        if r.asked = s2.rflToRead c then
          if r.reads = [] ∧ r.written = s2.rflTotal c ∧ (r.tagOk || !s2.ctl c 23) = true then s2.rflClose c else s2.rflShow c 0
        else
          let w := s2.readWait c
          let n := s2.readLen c
          if w ≠ 0 then s2.rflShow c w
          else if n = 0 ∨ s2.mayRead c = false then s2.rflShow c 0
          else (s2.rflShow c 0).issueRead c n

/-! ### Events that stop channels (R279, R280, R503) -/

/-- The channel uses HOST, in its ACTIVE descriptor or through its ring (R279). -/
def State.rflUsesHost (s : State) (c : Nat) : Bool :=
  s.rflRing c || ((s.rflc c).active && ((s.rflSide c false).space == 0 || (s.rflSide c true).space == 0 || s.ctl c 25))

/-- The host is lost (R279): every channel that uses it finishes the burst in its write stage, discards it when it comes from
HOST, and halts with HOST_LOST. -/
def State.rflHostLost (s : State) : State :=
  (List.range 64).foldl (fun t c =>
    let st := t.rd RFL_STAT.STATE c
    if t.rflUsesHost c && st != 0 && st != 4 then
      let u := if (t.rflc c).active && (t.rflSide c false).space != 0 then t.drainStage c else t
      ((u.modRflc c fun x => { x with fetch := false, lateFetch := 0 }).rflStop c 0x21).modRflc c fun x =>
        { x with stale := x.stale.filter (!·.host) }
    else t.modRflc c fun x => { x with stale := x.stale.filter (!·.host), lateFetch := 0 }) s

/-- A domain leaves ON (R280): every channel whose ACTIVE descriptor touches it halts; a forced power-down does not wait. -/
def State.rflDomain (s : State) (d : Nat) (forced : Bool) : State :=
  (List.range 64).foldl (fun t c =>
    let st := t.rd RFL_STAT.STATE c
    if (t.rflc c).active && (st == 2 || st == 3) && ((t.rflSide c false).domains ++ (t.rflSide c true).domains).contains d then
      let u := (if forced then t else t.drainStage c).rflStop c (if forced then 0x23 else 0x22)
      if forced then u.modRflc c fun x => { x with stale := x.stale.filter (·.host) } else u
    else t) s

/-- The vault is erased (R273): a decryption that has begun ends after the burst in its write stage, and its entry is invalidated. -/
def State.rflKeyGone (s : State) : State :=
  (List.range 64).foldl (fun t c =>
    if (t.rflc c).active && t.ctl c 23 && (t.on RFL_STAT.GCM_HELD c || (t.rflc c).asked != 0) then
      let u := t.drainStage c
      (u.rflInvalidate c).rflFinish c 10 false
    else t) s

/-- C63 resumes when the link returns (R498). -/
def State.jrnResume (s : State) : State :=
  if s.on JRN_CFG.RING_EN 0 && s.rd RFL_STAT.STATE 63 == 4 then (s.wr RFL_STAT.STATE 63 1).jrnPump else s

end Sys2Proof.Machine
end

