-- ==== Sys2Proof/Machine/Refill.lean ====
section
/-!
DEFINITION. Machine/Refill.lean: the refill channels' registers and events (R264 to R285).
-/

namespace Sys2Proof.Machine

/-! ### Registers (R264, R265, R267, R278 to R284) -/

/-- Offset `o` of channel `c`'s block on its page. -/
def rflOff (c o : Nat) : Nat := 0x400 * (c % 2) + o

/-- The channel is RUNNING or WAITING. -/
def State.rflBusy (s : State) (c : Nat) : Bool := s.rd RFL_STAT.STATE c == 2 || s.rd RFL_STAT.STATE c == 3

/-- CH_BUSY of a register the journal writer owns (R498). -/
def State.rflOwnedCode (s : State) (c : Nat) : List Nat := cause (s.rflOwned c) 0x0002

/-- A write of RFL_CFG (R281). -/
def State.writeRflCfg (s : State) (c : Nat) (w : Wr) : State :=
  let v := w.val.toNat
  s.write w (pgRfl c) (rflOff c 0x040) (cause (s.rflBusy c) 0x0002 ++ s.rflOwnedCode c) fun s =>
    let s1 := (((s.wr RFL_CFG.EN c (bits v 31 1)).wr RFL_CFG.PACE_EN c (bits v 8 1)).wr RFL_CFG.PRIO c (bits v 4 2)).wr RFL_CFG.MODE c
      (bits v 0 1)
    let st := s.rd RFL_STAT.STATE c
    if bit v 31 && st == 0 then (s1.wr RFL_STAT.STATE c 1).ringFetch c
    else if bit v 31 then s1.ringFetch c
    else if !bit v 31 && (st == 1 || st == 4) then
      ((s1.wr RFL_STAT.STATE c 0).wr RFL_STAT.SHADOW_FULL c 0).modRflc c fun x =>
        { x with held := none, fetch := false, lateFetch := x.lateFetch + flag x.fetch, dry := false, wb := false }
    else s1

/-- RFL_ENABLE (R281): a write of RFL_CFG with EN 1. -/
def execRflEnable (c : Fin 64) (w : Wr) (s : State) : Host.Outcome State Fault Refusal :=
  chipOnly s (s.writeRflCfg c.val (orBits w 0x80000000))

/-- RFL_DISABLE (R281): a write of RFL_CFG with EN 0. -/
def execRflDisable (c : Fin 64) (w : Wr) (s : State) : Host.Outcome State Fault Refusal :=
  chipOnly s (s.writeRflCfg c.val (clearBits w 0x80000000))

/-- The trigger pending bit is set, or the trigger is coalesced with the one pending (R172, R267): the earlier due tick and the higher
generation are kept, and COINC advances by one. `more` says that several events are this one trigger. -/
def State.rflTrigger (s : State) (c due : Nat) (gen : Option Nat) (more : Bool) : State :=
  match (s.rflc c).trig with
  | some (d, g) =>
    let g' := match g, gen with | some a, some b => some (max a b) | some a, none => some a | none, b => b
    (s.modRflc c fun x => { x with trig := some (min d due, g') }).inc RFL_TRIG_CNT.COINC c
  | none =>
    let t := (s.modRflc c fun x => { x with trig := some (due, gen) }).wr RFL_STAT.TRIG_PEND c 1
    if more then t.inc RFL_TRIG_CNT.COINC c else t

/-- RESUME (R279, R281): the held write-back is made, and the channel goes on from IDLE. -/
def State.rflResume (s : State) (c : Nat) : State :=
  let s1 := match (s.rflc c).held with
    | some (a, ds) => (s.ringWriteBack a ds ((ds[5]?).getD 0)).modRflc c fun x => { x with wb := true }
    | none => s
  ((s1.modRflc c fun x => { x with held := none }).wr RFL_STAT.STATE c 1).ringFetch c

/-- ABORT (R278): of a RUNNING or WAITING channel. -/
def State.rflAbort (s : State) (c : Nat) : State := if s.rflBusy c then (s.drainStage c).rflStop c 0x20 else s

/-- A write of RFL_CTRL (R264, R265, R267, R278, R279, R281, R282). -/
def State.writeRflCtrl (s : State) (c : Nat) (w : Wr) : State :=
  let v := bits w.val.toNat 0 7
  let n := ((List.range 7).filter (bit v)).length
  let st := s.rd RFL_STAT.STATE c
  let ring := s.on RFL_CFG.MODE c
  s.write w (pgRfl c) (rflOff c 0x044)
    (cause (decide (1 < n)) 0x0001 ++ s.rflOwnedCode c ++ cause (bit v 2 && s.on RFL_STAT.SHADOW_FULL c) 0x0003 ++
      cause ((bit v 2 || bit v 3) && ring) 0x0004 ++ cause (bit v 2 && !s.on RFL_CFG.EN c) 0x0005 ++
      cause (bit v 1 && (st != 4 || !s.on HOST_LINK.DL_UP 0)) 0x0005)
    fun s =>
      if bit v 0 then s.rflAbort c
      else if bit v 1 then s.rflResume c
      else if bit v 2 then s.wr RFL_STAT.SHADOW_FULL c 1
      else if bit v 3 then s.wr RFL_STAT.SHADOW_FULL c 0
      else if bit v 4 then s.rflTrigger c (s.epoch + s.h) none false
      else if bit v 5 then (s.modRflc c fun x => { x with trig := none }).wr RFL_STAT.TRIG_PEND c 0
      else if bit v 6 then
        (((s.wr RFL_CNT.BAD_COUNT c 0).wr RFL_CNT.DONE_COUNT c 0).wr RFL_TRIG_CNT.COINC c 0).wr RFL_TRIG_CNT.TAKEN c 0
      else s

/-- RFL_POST (R264): a write of RFL_CTRL with POST 1. -/
def execRflPost (c : Fin 64) (w : Wr) (s : State) : Host.Outcome State Fault Refusal := chipMem s (s.writeRflCtrl c.val (orBits w 0x4))

/-- RFL_CLEAR_SHADOW (R282): a write of RFL_CTRL with CLEAR_SHADOW 1. -/
def execRflClearShadow (c : Fin 64) (w : Wr) (s : State) : Host.Outcome State Fault Refusal :=
  chipMem s (s.writeRflCtrl c.val (orBits w 0x8))

/-- RFL_TRIG (R267): a write of RFL_CTRL with TRIG 1. -/
def execRflTrig (c : Fin 64) (w : Wr) (s : State) : Host.Outcome State Fault Refusal := chipMem s (s.writeRflCtrl c.val (orBits w 0x10))

/-- RFL_CLEAR_TRIG (R267): a write of RFL_CTRL with CLEAR_TRIG 1. -/
def execRflClearTrig (c : Fin 64) (w : Wr) (s : State) : Host.Outcome State Fault Refusal :=
  chipMem s (s.writeRflCtrl c.val (orBits w 0x20))

/-- RFL_STAT_CLR (R282): a write of RFL_CTRL with STAT_CLR 1. -/
def execRflStatClr (c : Fin 64) (w : Wr) (s : State) : Host.Outcome State Fault Refusal :=
  chipMem s (s.writeRflCtrl c.val (orBits w 0x40))

/-- RFL_RESUME (R281): a write of RFL_CTRL with RESUME 1. -/
def execRflResume (c : Fin 64) (w : Wr) (s : State) : Host.Outcome State Fault Refusal := chipMem s (s.writeRflCtrl c.val (orBits w 0x2))

/-- RFL_ABORT (R278): a write of RFL_CTRL with ABORT 1. -/
def execRflAbort (c : Fin 64) (w : Wr) (s : State) : Host.Outcome State Fault Refusal := chipMem s (s.writeRflCtrl c.val (orBits w 0x1))

/-- A write of RFL_RING_TAIL (R265). -/
def State.writeRflTail (s : State) (c : Nat) (w : Wr) : State :=
  let v := bits w.val.toNat 0 16
  s.write w (pgRfl c) (rflOff c 0x05C)
    (cause (decide (2 ^ s.rd RFL_RING_SIZE.LOG2 c ≤ v)) 0x0001 ++ cause (!s.on RFL_CFG.MODE c) 0x0004) fun s =>
    ((s.wr RFL_RING_TAIL.TAIL c v).modRflc c fun x => { x with dry := false }).ringFetch c

/-- RFL_TAIL_WRITE (R265). -/
def execRflTailWrite (c : Fin 64) (w : Wr) (s : State) : Host.Outcome State Fault Refusal := chipOnly s (s.writeRflTail c.val w)

/-- A write of a ring base or size register, or of RFL_SH (R264, R265, R281, R284). -/
def State.writeRflReg (s : State) (c o : Nat) (w : Wr) : State :=
  let v := w.val.toNat
  let sh := decide (0x080 ≤ o ∧ o < 0x100)
  s.write w (pgRfl c) (rflOff c o)
    (if sh then cause (s.on RFL_STAT.SHADOW_FULL c) 0x0003 ++ cause (s.on RFL_CFG.MODE c) 0x0004 ++ s.rflOwnedCode c
      else cause (o == 0x04C && bits v 0 7 != 0) 0x0001 ++
        cause (o == 0x054 && decide (bits v 0 5 < 1 ∨ 16 < bits v 0 5)) 0x0001 ++ cause (s.rflBusy c) 0x0002)
    fun s => (fieldsAt (pgRfl c) (rflOff c o)).foldl (fun t fi => t.wrField fi.1 fi.2 (fi.1.ofWord v)) s

/-- A write of RFL_GCLR (R285). -/
def State.writeRflGclr (s : State) (w : Wr) : State :=
  s.write w 0x01F 0x05C [] fun s =>
    if bit w.val.toNat 0 then (List.range 3).foldl (fun t c => t.wr RFL_GUARD_CNT.GUARD c 0) s else s

/-! ### Triggers and ring entries -/

/-- RFL_START_ARRIVE (R199, R267): the events delivered to the channel in this cycle are one trigger, with the earliest due tick and the
highest generation. -/
def execRflStartArrive (c : Fin 64) (s : State) : Host.Outcome State Fault Refusal :=
  chipOnly s <|
    let (evs, t) := s.takeArrivals 6 c.val
    match (evs.map fun a => t.due a.ev).min?, (evs.map fun a => a.ev.gen).max? with
    | some d, some g => t.rflTrigger c.val d (some g) (decide (1 < evs.length))
    | _, _ => t

/-- RING_FETCH_DONE (R265): the entry at HEAD has been read, or its read has failed (`none`); what a fetch from before the channel was
disabled brings is discarded. -/
def execRingFetchDone (c : Fin 64) (entry : Option (List Word)) (s : State) : Host.Outcome State Fault Refusal :=
  chipOnly s <|
    let k := c.val
    if (s.rflc k).lateFetch ≠ 0 then s.modRflc k fun x => { x with lateFetch := x.lateFetch - 1 }
    else if (s.rflc k).fetch then
      let s1 := s.modRflc k fun x => { x with fetch := false }
      match entry with
      | none => s1.rflStop k 0x24
      | some ds =>
        let d := fun n => match ds[n]? with | some v => v.toNat | none => 0
        if bit (d 0) 31 then
          let h := s.rd RFL_RING_HEAD.HEAD k
          let s2 := (List.range 32).foldl (fun t n => t.wr RFL_SH.SH (32 * k + n) (d n)) s1
          ((s2.wr RFL_STAT.SHADOW_FULL k 1).wr RFL_RING_HEAD.HEAD k ((h + 1) % 2 ^ s.rd RFL_RING_SIZE.LOG2 k)).modRflc k fun x =>
            { x with shSlot := h }
        else (s1.modRflc k fun x => { x with dry := true }).rflIrq k 4
    else s

/-! ### A descriptor's course -/

/-- SHADOW becomes ACTIVE and is checked (R261, R264, R268). -/
def State.rflActivate (s : State) (c : Nat) : State :=
  let s1 := (List.range 32).foldl (fun t n => t.wr RFL_ACT.ACT (32 * c + n) (s.rd RFL_SH.SH (32 * c + n))) s
  let s2 := (s1.rflDrop c).modRflc c fun x => { x with active := true, slot := x.shSlot, crc := 0xFFFFFFFF, gen := 0, ghash := (0, []) }
  let s3 := ((s2.wr RFL_STAT.SHADOW_FULL c 0).rflShow c 0).wr RFL_CRC.CRC c 0xFFFFFFFF
  let s4 := if s3.on RFL_CFG.MODE c || s3.rflOwned c then s3.ringFetch c else s3.rflIrq c 3
  let s5 := if s4.rflOwned c then s4.modJournal fun j => { j with taken := 0 } else s4
  let cse := s5.descCause c
  if cse ≠ 0 then s5.rflFinish c cse false else (s5.wr RFL_RESIDUE.RESIDUE c (s5.rflResidue c)).rflSettle c

/-- DESC_ACTIVATE (R261, R264): a full SHADOW, no ACTIVE descriptor, and the channel neither STOPPED nor HALTED. -/
def execDescActivate (c : Fin 64) (s : State) : Host.Outcome State Fault Refusal :=
  chipOnly s <|
    let st := s.rd RFL_STAT.STATE c.val
    if s.on RFL_STAT.SHADOW_FULL c.val && !(s.rflc c.val).active && st != 0 && st != 4 then s.rflActivate c.val else s

/-- The bytes an internal source delivers for a read of `n` bytes from stream byte `k` on, and the source without what the read consumes
(R255). -/
def State.internalRead (s : State) (c k n : Nat) : List Nat × State :=
  let x := s.rflSide c false
  if x.space = 5 then
    match (s.cmp x.facet).ring with
    | u :: r => ((u.flatMap dwordBytes).take n,
        (s.modCmp x.facet fun y => { y with ring := r }).wr CMP_RING_STAT.FILL x.facet r.length)
    | [] => (List.replicate n 0, s)
  else if x.space = 6 then
    match s.journal.blocks with
    | b :: _ =>
      let t := s.journal.taken
      let bs := (b.bytes.drop t).take n
      let s1 := s.modJournal fun j => { j with taken := t + n }
      (bs, if 4096 ≤ t + n ∧ s.rflOwned c = false then s1.jrnFree else s1)
    | [] => (List.replicate n 0, s)
  else ((List.range n).map fun i => s.spaceByte x (s.srcPos c (k + i)), s)

/-- A BAD cause met in the middle of a transfer (R277): an earlier burst that is in the write stage is written, and the descriptor ends. -/
def State.rflBad (s : State) (c cse : Nat) : State := (s.drainStage c).rflFinish c cse false

/-- The bytes of the oldest read, from stream byte `k` on, enter the funnel (R262), decrypted when DECRYPT is set (R273); the tag is
checked when it is whole. -/
def State.readTake (s : State) (c k : Nat) (bs : List Nat) : State :=
  let total := s.rflTotal c
  let s1 := s.modRflc c fun x => { x with reads := x.reads.drop 1 }
  if s.ctl c 23 then
    let key := leBytes 32 (s.sec.lib.getD 0)
    let iv := [22, 23, 24].flatMap fun i => beBytes 4 (s.actD c i)
    if k < total then
      s1.modRflc c fun x => { x with
        buf := x.buf ++ xorBytes bs (gcmStream key iv k bs.length), ghash := bs.foldl (gcmFold key) x.ghash }
    else
      let tag := (s.rflc c).tag ++ bs
      let s2 := s1.modRflc c fun x => { x with tag := tag }
      if tag.length < 16 then s2
      else if tag = gcmTag key iv (s.rflc c).ghash total then
        (s2.modRflc c fun x => { x with tagOk := true }).wr RFL_STAT.GCM_HELD c 0
      else (s2.rflInvalidate c).rflBad c 9
  else s1.modRflc c fun x => { x with buf := x.buf ++ bs }

/-- What the lines that a STORE read covers are found with, and the state with that counted (R222): whether one is uncorrectable. -/
def State.readEcc (s : State) (r : RflRead) (errs : List (Nat × Ecc)) : Bool × State :=
  match r.lines with
  | some (f, lo, hi) =>
    let hits := s.linesEcc f lo (hi + 1) errs
    (hits.any fun e => e.2 == .uncorrectable, hits.foldl (fun t e => t.eccRead f e.1 e.2) s)
  | none => (false, s)

/-- SOURCE_READ_DONE (R262, R273, R276, R277): the channel's oldest outstanding read completes. `data` is what the host returns, none for
an error; `errs` the lines of a STORE source read with an error. What a read of a descriptor that has ended brings is discarded. -/
def execSourceReadDone (c : Fin 64) (data : Option (List Byte)) (errs : List (Nat × Ecc)) (s : State) :
    Host.Outcome State Fault Refusal :=
  chipMem s <|
    let k := c.val
    match (s.rflc k).stale, (s.rflc k).reads with
    | r :: rest, _ => (s.readEcc r errs).2.modRflc k fun x => { x with stale := rest }
    | [], r :: rest =>
      if !(s.rflc k).active then s
      else
        let gone := fun (t : State) => t.modRflc k fun x => { x with reads := rest }
        if r.host then
          match data with
          | none => (gone s).rflBad k 4
          | some bs => if bs.length = r.n then (s.readTake k r.k (bs.map BitVec.toNat)).rflSettle k else s
        else
          let (bad, s1) := s.readEcc r errs
          if bad then (gone s1).rflBad k 6
          else
            let (bs, s2) := s1.internalRead k r.k r.n
            (s2.readTake k r.k bs).rflSettle k
    | [], [] => s

/-- COMPLETION_TIMEOUT (R265, R276): a HOST read gets no completion: the ring fetch, or the source read. -/
def execCompletionTimeout (c : Fin 64) (ring : Bool) (s : State) : Host.Outcome State Fault Refusal :=
  chipMem s <|
    let k := c.val
    if ring then
      if (s.rflc k).lateFetch ≠ 0 then s.modRflc k fun x => { x with lateFetch := x.lateFetch - 1 }
      else if (s.rflc k).fetch then (s.modRflc k fun x => { x with fetch := false }).rflStop k 0x24 else s
    else match (s.rflc k).stale, (s.rflc k).reads with
      | r :: rest, _ => if r.host then s.modRflc k fun x => { x with stale := rest } else s
      | [], r :: rest =>
        if (s.rflc k).active && r.host then (s.modRflc k fun x => { x with reads := rest }).rflBad k 4 else s
      | [], [] => s

/-- The channel has a burst the scheduler can move (R274). -/
def State.rflCandidate (s : State) (c : Nat) : Bool :=
  let r := s.rflc c
  r.active && s.rflBusy c && r.stage.isNone && r.buf != [] && (decide (s.rflNext c ≤ r.buf.length) || r.reads == [])

/-- The candidate of a class that rotating priority serves: the first one after the winner before (R274). -/
def nextAfter (last : Nat) (cs : List Nat) : Option Nat :=
  match cs.find? (fun c => decide (last < c)) with
  | some c => some c
  | none => cs.head?

/-- One grant (R274): the class a full guard counter names, or the highest with a candidate; within it, rotating priority. -/
def State.burstGrant (s : State) : State :=
  let cands := (List.range 64).filter s.rflCandidate
  let of := fun (p : Nat) => cands.filter fun c => s.rd RFL_CFG.PRIO c == p
  let guarded := ((List.range 4).filter fun p => p != 0 && decide (13 ≤ (s.bursts.guard[p]?).getD 0) && of p != []).head?
  let cls := match guarded with
    | some p => some p
    | none => ((List.range 4).filter fun p => of p != []).head?
  match cls with
  | some p =>
    match nextAfter ((s.bursts.last[p]?).getD 63) (of p) with
    | some c =>
      let guard := (List.range 4).map fun q =>
        if q = 0 ∨ q = p ∨ of q = [] then 0 else (s.bursts.guard[q]?).getD 0 + 1
      let s1 := s.setBursts { last := s.bursts.last.set p c, guard := guard }
      let s2 := if guarded.isSome then s1.inc RFL_GUARD_CNT.GUARD (p - 1) else s1
      let n := min (s.rflNext c) (s.rflc c).buf.length
      (s2.modRflc c fun x => { x with buf := x.buf.drop n, stage := some (x.buf.take n) }).rflSettle c
    | none => s
  | none => s.setBursts { s.bursts with guard := [0, 0, 0, 0] }

/-- BURST_GRANT (R274): a hub cycle: every channel's waits are looked at again, and one candidate is granted one burst. -/
def execBurstGrant (s : State) : Host.Outcome State Fault Refusal :=
  chipOnly s ((List.range 64).foldl (fun t c => t.rflSettle c) s).burstGrant

/-- The write stage can act: a window's granules find room (R232). -/
def State.stageReady (s : State) (c : Nat) : Bool :=
  let x := s.rflSide c true
  match (s.rflc c).stage with
  | some bs =>
    x.space != 3 || ((s.rflc c).part.length + bs.length < x.granule) ||
      s.winRoom x.facet x.win
        ((s.win (winId x.facet x.win)).wp + ((s.rflc c).part.length + bs.length) / x.granule - 1)
  | none => false

/-- BURST_WRITE (R263, R277): the burst in the channel's write stage is written, or ends its descriptor; a window that has been
disabled ends it with WINDOW_OFF. -/
def execBurstWrite (c : Fin 64) (s : State) : Host.Outcome State Fault Refusal :=
  chipMem s <|
    let k := c.val
    let x := s.rflSide k true
    if (s.rflc k).active && (s.rflc k).stage.isSome then
      if x.space = 3 ∧ s.on WIN_CFG.EN (winId x.facet x.win) = false then s.rflFinish k 3 false
      else if s.stageReady k then
        let t := (s.writeStage k).rflSettle k
        if (t.rflc k).active && (t.rflc k).written == t.rflTotal k && (s.rflc k).written != t.rflTotal k then t.barrierRead k else t
      else s
    else s

/-- The descriptor has been written whole, and its tag is good (R269, R273). -/
def State.rflWritten (s : State) (c : Nat) : Bool :=
  let r := s.rflc c
  r.active && s.rflBusy c && r.stage.isNone && r.written == s.rflTotal c && (r.tagOk || !s.ctl c 23)

/-- BARRIER_MET (R271, R498): every written byte has arrived; `err` says that the read of a HOST destination failed. -/
def execBarrierMet (c : Fin 64) (err : Bool) (s : State) : Host.Outcome State Fault Refusal :=
  chipOnly s <|
    let k := c.val
    if s.rflWritten k && (s.ctl k 28 || s.ctl k 22) && !(s.rflc k).barrier then
      if err && (s.rflSide k true).space == 0 then s.rflFinish k 5 false
      else
        let s1 := s.modRflc k fun x => { x with barrier := true }
        let s2 := if s.rflOwned k then s1.jrnCopied else s1
        s2.rflSettle k
    else s

/-- The descriptor may complete (R269): the barrier is met and the close has its outcome, where they are asked for. -/
def State.rflDone (s : State) (c : Nat) : Bool :=
  s.rflWritten c && ((s.rflc c).barrier || !(s.ctl c 28 || s.ctl c 22)) && ((s.rflc c).closed.isSome || !s.ctl c 22)

/-- The cause a written descriptor completes with (R269, R270, R272). -/
def State.rflOutcome (s : State) (c : Nat) : Nat :=
  if s.ctl c 22 ∧ (s.rflc c).closed ≠ some 1 then 11
  else if s.ctl c 24 ∧ (s.rflc c).crc ^^^ 0xFFFFFFFF ≠ s.actD c 19 then 8
  else 0

/-- DESC_COMPLETE (R269): `wbFail` says that the write-back to the ring entry failed on the bus (R266). A descriptor that ended earlier
has its write-back's failure reported so too: with nothing to complete, the command says only that. -/
def execDescComplete (c : Fin 64) (wbFail : Bool) (s : State) : Host.Outcome State Fault Refusal :=
  chipOnly s <|
    if s.rflDone c.val then
      let t := s.rflFinish c.val (s.rflOutcome c.val) wbFail
      if s.rflOwned c.val then t.jrnPump else t
    else if wbFail && (s.rflc c.val).wb && s.rd RFL_STAT.STATE c.val != 0 && s.rd RFL_STAT.STATE c.val != 4 then
      (s.modRflc c.val fun x => { x with wb := false }).rflStop c.val 0x24
    else s

end Sys2Proof.Machine
end

