-- ==== Sys2Proof/Machine/Power.lean ====
section
/-!
DEFINITION. Machine/Power.lean: the power domains (R526 to R531, R534, R535).
-/

namespace Sys2Proof.Machine

/-! ### What lies in a domain (R526) -/

/-- The field that a register key names, if there is one. -/
def keyFld (k : Nat) : Option Fld := (fieldsOf (k / 65536 / 32 / 4096)).find? fun f => f.id == k / 65536

/-- The domain of unit `u` of a block. -/
def blockDomain (blk u : Nat) : Nat :=
  if blk = 0xFF then pageDomain u
  else if blk = 0x14 then 34 + u
  else if 0x20 ≤ blk ∧ blk ≤ 0x23 then 32
  else if blk = 0x24 then 33
  else if blk = 0x30 ∨ blk = 0x31 ∨ blk = 0x35 then u
  else if blk = 0x32 then u / 16
  else if blk = 0x33 then u / 4
  else if blk = 0x34 then u / 8
  else 98

/-- The register field with this key lies in domain `d`. -/
def keyIn (d k : Nat) : Bool :=
  match keyFld k with
  | some f => blockDomain f.blk (k % 65536 / max 1 f.cnt) == d
  | none => false

/-- The domain of a table. -/
def tabDomain (t : Nat) : Nat :=
  if t < 128 then t / 4 else if t < 384 then (t - 128) / 8 else if t < 392 then 32 else if 400 ≤ t ∧ t < 464 then 34 + (t - 400) else 98

/-- The lanes of a Facet's or a quad's domain. -/
def domLanes (d : Nat) : List Nat :=
  if d < 32 then (List.range 8).map (8 * d + ·) else if 34 ≤ d ∧ d < 98 then (List.range 4).map (4 * (d - 34) + ·) else []

/-- A list of units without those of domain `d`. -/
def dropUnits {α : Type} (l : List (Nat × α)) (dom : Nat → Nat) (d : Nat) : List (Nat × α) := l.filter fun p => dom p.1 != d

/-- The chip with nothing kept in domain `d` (R527): every register and unit of it stands as after reset. -/
def Chip.lose (c : Chip) (d : Nat) : Chip :=
  let quadDom := fun q => 34 + q
  let all := fun (n : Nat) (_ : Nat) => n
  { c with
    regs := c.regs.filter fun p => !keyIn d p.1
    acts := c.acts.filter fun p => !keyIn d p.1
    dirty := c.dirty.filter fun k => !keyIn d k
    pages := dropUnits c.pages pageDomain d
    latch := dropUnits c.latch (fun k => pageDomain (k / 2 / 4096)) d
    dir := dropUnits c.dir (· / 8192) d
    store := dropUnits c.store id d
    win := dropUnits c.win (· / 32) d
    tab := dropUnits c.tab tabDomain d
    apg := dropUnits c.apg (· / 4) d
    eng := dropUnits c.eng (· / 16) d
    lout := dropUnits c.lout (· / 8) d
    grp := dropUnits c.grp (all 32) d
    ballClaim := c.ballClaim.filter fun p => !decide (p.2 ≠ 0 ∧ (p.2 - 1) / 64 = d)
    drv := dropUnits c.drv (all 32) d
    node := dropUnits c.node (all 32) d
    loupe := if d = 32 then {} else c.loupe
    crown := dropUnits c.crown (all 33) d
    bank := dropUnits c.bank (all 32) d
    sense := dropUnits c.sense (all 32) d
    lphy := dropUnits c.lphy (fun l => if l < 256 then l / 8 else 98) d
    cmpl := dropUnits c.cmpl (· / 8) d
    cmp := dropUnits c.cmp id d
    isl := dropUnits c.isl id d
    sbank := dropUnits c.sbank (· / 4) d
    quad := dropUnits c.quad quadDom d }

/-- The memories with nothing kept in domain `d` (R48, R255, R527). -/
def Mem.lose (m : Mem) (d : Nat) : Mem :=
  { m with
    winB := m.winB.filter fun c => !decide (facetBase d ≤ c.1 ∧ c.1 < facetBase (d + 1) ∧ d < 32)
    af := m.af.filter fun c => !decide ((d = 32 ∧ (c.1 < 0x400000 ∨ 0x800000 ≤ c.1)) ∨ (d = 33 ∧ 0x400000 ≤ c.1 ∧ c.1 < 0x800000)) }

/-! ### Gating and restoring (R527 to R531) -/

/-- The record of a transition (R531): domain, old and new state, result. -/
def State.domRec (s : State) (d old new res code : Nat) : State := s.jrn 0x0E 0 code [.word d, .word old, .word new, .word res]

/-- RESULT of a domain's request, shown while it is the last request. -/
def State.pwrResult (s : State) (d res : Nat) : State :=
  if s.rd PWR_STAT.DOM 0 = d then s.wr PWR_STAT.RESULT 0 res else s

/-- The island's clock stops: its loop must lock again (R97, R527). -/
def State.clockOff (s : State) (d : Nat) : State :=
  if d ≤ 32 then (s.wrI FCT_CLK_STAT.FLL_LOCK AF_CLK_STAT.FLL_LOCK d 0).modIsl d fun x => { x with back := none } else s

/-- Domain `d` is gated into state `st`: nothing is kept in OFF. -/
def State.gate (s : State) (d st : Nat) : State :=
  let s1 := s.setDom d { st := st, target := st }
  let s2 := if 34 ≤ d ∧ d < 98 then s1.settleQuad (d - 34) else s1
  let s3 : State := if st = 3 then { s2 with chip := s2.chip.lose d, mem := s2.mem.lose d } else s2
  let s4 := s3.clockOff d
  if d < 32 then s4.settleRail (railOf d) else s4

/-- A forced power-down stops what runs in the domain (R530). -/
def State.powerStop (s : State) (d : Nat) : State :=
  if d < 32 then
    (List.range 16).foldl (fun t k => if t.engBusy (16 * d + k) then t.stopped (16 * d + k) 7 t.epoch else t) s
  else if d = 33 then
    (List.range 8).foldl (fun t k => if t.crownBusy k then t.crownStopped k (t.rd CROWN_STAT.STOP_CAUSE k) else t) s
  else s

/-- The lanes of the domain go DARK (R321, R529). -/
def State.lanesOff (s : State) (d : Nat) : State := (domLanes d).foldl (fun t l => t.laneDark l 1) s

/-- The lanes of the domain may leave DARK. -/
def State.lanesOn (s : State) (d : Nat) : State := (domLanes d).foldl (fun t l => t.laneWake l) s

/-! ### Requests (R528 to R531) -/

/-- R527 forbids the request: the AF leaves ON only without the Crown, and the Crown comes ON only with the AF. -/
def State.pwrDepend (s : State) (d target : Nat) : Bool :=
  (d == 32 && target != 0 && (s.dom 33).st == 0) || (d == 33 && target == 0 && (s.dom 32).st != 0)

/-- The conditions of R528 that refuse a request to leave ON. -/
def State.pwrRefused (s : State) (d : Nat) (force : Bool) : Bool :=
  if d = 32 then (List.range 64).any fun c => s.drvState c != 0
  else if force then false
  else if d < 32 then s.facetBusy d
  else if d = 33 then (List.range 8).any s.crownBusy
  else (List.range 4).any fun k => s.laneState (4 * (d - 34) + k) == 5

/-- Quiescence of domain `d` toward `target` starts (R528, R529). -/
def State.quiesce (s : State) (d target : Nat) : State :=
  let s1 := s.modDom d fun x => { x with quiesceFrom := some s.tb, target := target }
  let s2 := ((s1.rflDomain d false).calDomain d).lanesOff d
  s2.wr PWR_STAT.BUSY 0 1

/-- A forced request gates the domain at once (R530). -/
def State.forceOff (s : State) (d target : Nat) : State :=
  let s1 := (((s.powerStop d).rflDomain d true).calDomain d).lanesOff d
  (((s1.gate d target).raise pgPwr 3).inc PWR_CNT.FORCED_COUNT 0).pwrResult d 5 |>.domRec d 0 target 5 0x150C

/-- A request to ON of a domain that is not ON. -/
def State.restore (s : State) (d : Nat) : State :=
  s.modDom d fun x => { x with target := 0, restoreFrom := some s.tb, deferredAt := none }

/-- A request without anything left to do ends, cancelling a deferred one (R529). -/
def State.pwrIdle (s : State) (d : Nat) : State :=
  if (s.dom d).deferredAt.isSome then (s.modDom d fun x => { x with deferredAt := none }).pwrResult d 4
  else s.pwrResult d 1

/-- A domain outside ON moves to another state outside ON. -/
def State.regate (s : State) (d target : Nat) : State :=
  (((s.gate d target).pwrResult d 1).raise pgPwr 0).domRec d (s.dom d).st target 1 0x1509

/-- An accepted request (R528 to R531). -/
def State.pwrGo (s : State) (d target : Nat) (force : Bool) : State :=
  let s1 := (s.wr PWR_STAT.DOM 0 d).wr PWR_STAT.RESULT 0 0
  let st := (s.dom d).st
  if target = st ∧ (s.dom d).restoreFrom = none then s1.pwrIdle d
  else if st = 0 then
    let s2 := s1.modDom d fun x => { x with deferredAt := none }
    if force then s2.forceOff d target else s2.quiesce d target
  else if target = 0 then s1.restore d
  else s1.regate d target

/-- A write of PWR_REQ (R528, R534, R535). -/
def State.writePwrReq (s : State) (w : Wr) : State :=
  let v := w.val.toNat
  let d := bits v 0 7
  let target := bits v 28 2
  let go := bit v 31
  let leaves := go && decide (d ≤ 97) && (s.dom d).st == 0 && target != 0
  let codes := cause (decide (97 < d)) 0x0001 ++ cause (go && s.on PWR_STAT.BUSY 0) 0x0002 ++
    cause (leaves && s.pwrRefused d (bit v 30)) 0x0003 ++ cause (go && s.pwrDepend d target) 0x0004
  let t := s.write w pgPwr 0x040 codes fun s =>
    let s1 := ((s.wr PWR_REQ.FORCE 0 (bits v 30 1)).wr PWR_REQ.TARGET 0 target).wr PWR_REQ.DOM 0 d
    if go then s1.pwrGo d target (bit v 30) else s1
  if s.reaches w.req && s.ready pgPwr && worst (accessCodes w pgPwr ++ codes) == some 0x0003 then
    ((t.wr PWR_STAT.DOM 0 d).wr PWR_STAT.RESULT 0 3).raise pgPwr 2
  else t

/-- PWR_REQUEST (R528): a write of PWR_REQ with GO 1. -/
def execPwrRequest (w : Wr) (s : State) : Host.Outcome State Fault Refusal := chipMem s (s.writePwrReq (orBits w 0x80000000))

/-- PWR_QUIESCE_DONE (R529): the domain is quiescent within 2000 tk, and is gated. -/
def execPwrQuiesceDone (d : Fin 98) (s : State) : Host.Outcome State Fault Refusal :=
  chipMem s <|
    match (s.dom d.val).quiesceFrom with
    | some t =>
      if s.tb ≤ t + 2000 then
        let target := (s.dom d.val).target
        let s1 := ((s.gate d.val target).wr PWR_STAT.BUSY 0 0).pwrResult d.val 1
        (s1.raise pgPwr 0).domRec d.val 0 target 1 0x1509
      else s
    | none => s

/-- PWR_QUIESCE_TIMEOUT (R529): the domain stays ON and the request is deferred; a retry that fails is counted. -/
def execPwrQuiesceTimeout (d : Fin 98) (s : State) : Host.Outcome State Fault Refusal :=
  chipOnly s <|
    match (s.dom d.val).quiesceFrom with
    | some t =>
      if t + 2000 ≤ s.tb then
        let retry := (s.dom d.val).deferredAt.isSome
        let s1 := (s.modDom d.val fun x => { x with quiesceFrom := none, deferredAt := some s.tb }).wr PWR_STAT.BUSY 0 0
        let s2 := (s1.lanesOn d.val).pwrResult d.val 2
        if retry then s2.inc PWR_CNT.DEFER_COUNT 0 else s2.raise pgPwr 1
      else s
    | none => s

/-- PWR_RETRY (R529): 100 µs after the last try a deferred request is checked and quiesces again. -/
def execPwrRetry (d : Fin 98) (s : State) : Host.Outcome State Fault Refusal :=
  chipMem s <|
    match (s.dom d.val).deferredAt with
    | some t =>
      if t + 50000 ≤ s.tb ∧ (s.dom d.val).quiesceFrom = none ∧ s.on PWR_STAT.BUSY 0 = false then
        if s.pwrRefused d.val false || s.pwrDepend d.val (s.dom d.val).target then
          ((s.modDom d.val fun x => { x with deferredAt := none }).pwrResult d.val 3).raise pgPwr 2
        else s.quiesce d.val (s.dom d.val).target
      else s
    | none => s

/-- The time a domain takes back to ON (R527): from IDLE, RET, OFF. -/
def restoreTime (st : Nat) : Nat := if st = 1 then 500 else if st = 2 then 25000 else 250000

/-- PWR_RESTORE_DONE (R527, R531): the domain is ON; a quad acquires, lanes may leave DARK. R531 raises no event here. -/
def execPwrRestoreDone (d : Fin 98) (s : State) : Host.Outcome State Fault Refusal :=
  chipOnly s <|
    match (s.dom d.val).restoreFrom with
    | some t =>
      let old := (s.dom d.val).st
      if t + restoreTime old ≤ s.tb then
        let s1 := s.setDom d.val {}
        let s2 := if 34 ≤ d.val then s1.settleQuad (d.val - 34) else s1
        let s3 := if d.val < 32 then s2.settleRail (railOf d.val) else s2
        ((s3.lanesOn d.val).pwrResult d.val 1).domRec d.val old 0 1 0x150D
      else s
    | none => s

end Sys2Proof.Machine
end

