-- ==== Sys2Proof/Machine/HostPages.lean ====
section
/-!
DEFINITION. Machine/HostPages.lean: the PCIe endpoint (R40 to R42), interrupts (R53, R62 to R65), the page locks (R55), the
refusal and drop registers (R61, R68).
-/

namespace Sys2Proof.Machine

/-! ### Configuration space (R40) -/

/-- The extended capabilities of the function (R40), and no others. -/
inductive ExtCap where
  | aer | serialNumber | secondaryPcie | dataLinkFeature | phy16 | phy32 | laneMargining
  deriving DecidableEq, Repr

/-- What configuration space holds for good (R40): Device ID, Revision ID, class code, header type, and the largest payload,
read request and number of outstanding requests. -/
structure Endpoint where
  vendor : Nat
  device : Nat := 0x5256
  revision : Nat := 0xB0
  classCode : Nat := 0x118000
  headerType : Nat := 0
  maxPayload : Nat := 512
  maxReadRequest : Nat := 4096
  outstanding : Nat := 256
  vectors : Nat := 256
  /-- The Device Serial Number, from the OTP device identifier. -/
  serial : Nat
  caps : List ExtCap := [.aer, .serialNumber, .secondaryPcie, .dataLinkFeature, .phy16, .phy32, .laneMargining]
  deriving DecidableEq, Repr

/-- The endpoint of this device. -/
def endpoint : Endpoint := { vendor := Config.vendorId % 2 ^ 16, serial := Config.devid }

/-- A negotiated width and speed that the link can have (R40, R68). -/
def linkMode (width speed : Nat) : Bool := [1, 2, 4, 8].contains width && decide (1 ≤ speed ∧ speed ≤ 5)

/-- What a dword of the MSI-X BAR reads (R41): an entry's message address, its upper half, its data and its mask bit at 16 times
the vector, and the message-pending bits from 0x2000 on. -/
def State.msixBar (s : State) (off : Nat) : Nat :=
  if off < 0x1000 then
    let v := off / 16
    let e := Sparse.get (0, 0) s.hostp.table v
    match off % 16 / 4 with
    | 0 => e.1 % 2 ^ 32
    | 1 => e.1 / 2 ^ 32
    | 2 => e.2
    | _ => flag (s.hostp.vecMask.getLsbD v)
  else if 0x2000 ≤ off ∧ off < 0x2020 then bits s.hostp.pba.toNat (8 * (off - 0x2000) / 32 * 32) 32
  else 0

/-! ### The endpoint (R41, R42) -/

/-- The host is gone (R42, R279): HOST_LINK_DOWN, its record, and the refill channels that use the host. -/
def State.hostDown (s : State) : State := ((s.raise pgHost 0).jrn 0x0E 0 0x0201 []).rflHostLost

/-- DL_UP falls (R42, R68). A loss of the link, or PERST_N, that finds DL_UP at 0 already has nothing to report: R42 raises
HOST_LINK_DOWN when DL_UP falls (DEDUCED, log entry 47). -/
def State.linkDown (s : State) : State :=
  if s.on HOST_LINK.DL_UP 0 then
    ((((s.wr HOST_LINK.DL_UP 0 0).wr HOST_LINK.WIDTH 0 0).wr HOST_LINK.SPEED 0 0).inc HOST_STAT.LINKDOWN_COUNT 0).hostDown
  else s

/-- Every DEV_MSIX_MAP entry at its reset value (R42). -/
def State.mapReset (s : State) : State :=
  (List.range 40).foldl (fun t g =>
    (t.wr DEV_MSIX_MAP.EN g (DEV_MSIX_MAP.EN.reset g)).wr DEV_MSIX_MAP.VEC g (DEV_MSIX_MAP.VEC.reset g)) s

/-- PERST_N_ASSERT (R42): configuration space, MSI-X and DEV_MSIX_MAP return to reset, and the link goes down. -/
def execPerstNAssert (s : State) : Host.Outcome State Fault Refusal :=
  chipMem s <|
    if s.hostp.perst then s
    else ((s.setHostp { wrote := s.hostp.wrote }).mapReset).linkDown

/-- PERST_N_RELEASE (R41): the endpoint enters link training; it stays in reset with HOST_SEL 0 (R511). -/
def execPerstNRelease (s : State) : Host.Outcome State Fault Refusal :=
  chipOnly s (s.modHostp fun h => { h with perst := false, training := true })

/-- FUNCTION_LEVEL_RESET (R42): the link stays up. -/
def execFunctionLevelReset (s : State) : Host.Outcome State Fault Refusal :=
  chipMem s <|
    if s.hostp.perst then s
    else
      let s1 := ((s.setHostp { perst := false, training := s.hostp.training, wrote := s.hostp.wrote }).mapReset).wr
        DEV_INT_CTRL.INTN_EN 0 0
      (((s1.inc HOST_STAT.FLR_COUNT 0).raise pgHost 2).jrn 0x0E 0 0x0202 []).rflHostLost

/-- D3HOT_ENTRY (R42). -/
def execD3hotEntry (s : State) : Host.Outcome State Fault Refusal :=
  chipMem s <|
    if s.hostp.d3hot || s.hostp.perst then s else (s.modHostp fun h => { h with d3hot := true }).hostDown

/-- The message-pending bit of every vector with a pending group set (R63). -/
def State.pbaAll (s : State) : State :=
  (List.range 256).foldl (fun t v => if s.vecPending v then t.setPba v else t) s

/-- D0_RETURN (R63): the function is in D0 again. -/
def execD0Return (s : State) : Host.Outcome State Fault Refusal :=
  chipOnly s <|
    if s.hostp.d3hot then (s.modHostp fun h => { h with d3hot := false }).pbaAll else s

/-- HOST_LINK_LOSS (R42). -/
def execHostLinkLoss (s : State) : Host.Outcome State Fault Refusal := chipMem s s.linkDown

/-- The endpoint is out of reset: PERST_N is released, and the strap HOST_SEL, once sampled, is 1 (R42, R511). -/
def State.endpointOn (s : State) : Bool := !s.hostp.perst && (s.dev == 1 || bit (s.rd DEV_STRAP.STRAPS 0) 3)

/-- HOST_LINK_UP (R68, R498): the data link comes up with the negotiated width and speed, and the journal writer resumes C63. -/
def execHostLinkUp (width : Fin 16) (speed : Fin 16) (s : State) : Host.Outcome State Fault Refusal :=
  chipOnly s <|
    if s.endpointOn && !s.on HOST_LINK.DL_UP 0 && linkMode width.val speed.val then
      (((s.wr HOST_LINK.DL_UP 0 1).wr HOST_LINK.WIDTH 0 width.val).wr HOST_LINK.SPEED 0 speed.val).jrnResume
    else s

/-! ### Interrupts (R53, R63) -/

/-- IRQ_FORCE (R53): the implemented bits written 1 are set in IRQ_STAT. -/
def State.writeIrqForce (s : State) (p : Nat) (w : Wr) : State :=
  s.write w p 0x18 [] fun s => s.raiseBits p (w.val.toNat &&& irqMask p)

/-- IRQ_FORCE (R53). -/
def execIrqForce (p : Fin 1024) (w : Wr) (s : State) : Host.Outcome State Fault Refusal := chipOnly s (s.writeIrqForce p.val w)

/-- A write of DEV_EOI (R63): the vector's message is sent again while a group mapped to it is pending. -/
def State.writeDevEoi (s : State) (w : Wr) : State :=
  s.write w pgDev 0x108 [] fun s =>
    let v := bits w.val.toNat 0 8
    if s.vecPending v then s.setPba v else s

/-- DEV_EOI (R63). -/
def execDevEoi (w : Wr) (s : State) : Host.Outcome State Fault Refusal := chipOnly s (s.writeDevEoi w)

/-- MSIX_ENABLE (R41, R63): configuration space sets MSI-X Enable, Bus Master Enable and the function mask; with it come the vector
masks and the message address and data of the vectors, in order, that the host has written to the MSI-X table. -/
def execMsixEnable (busMaster : Bool) (funcMask : Bool) (table : MsixTable) (s : State) :
    Host.Outcome State Fault Refusal :=
  chipOnly s <|
    if s.hostp.perst then s
    else
      let t := s.modHostp fun h => { h with
        msixEn := true, busMaster := busMaster, funcMask := funcMask, vecMask := table.mask
        table := ((table.entries.take 256).zipIdx).foldl (fun m e => Sparse.put (0, 0) m e.2 (e.1.1.toNat, e.1.2.toNat)) h.table }
      if s.hostp.msixEn then t else t.pbaAll

/-- Every condition of R63 to send vector `v`'s message holds. -/
def State.msixReady (s : State) (v : Nat) : Bool :=
  let h := s.hostp
  h.msixEn && h.busMaster && !h.funcMask && !h.vecMask.getLsbD v && !h.d3hot && s.on HOST_LINK.DL_UP 0 && h.pba.getLsbD v

/-- MSIX_MESSAGE_SEND (R63): the message goes, and the pending bit clears. -/
def execMsixMessageSend (v : Fin 256) (s : State) : Host.Outcome State Fault Refusal :=
  chipOnly s <|
    if s.msixReady v.val then
      (s.modHostp fun h => { h with pba := h.pba &&& ~~~(1#256 <<< v.val) }).emit
        (.msix v.val (Sparse.get (0, 0) s.hostp.table v.val).1 (Sparse.get (0, 0) s.hostp.table v.val).2)
    else s

/-! ### Locks (R55) -/

/-- A write of LOCK (R55): 0x5AFE opens the page's lock, any other KEY closes it. A second 0x5AFE starts the 100 ms afresh
(DESIGN CHOICE, log entry 47). -/
def State.writeLock (s : State) (p : Nat) (w : Wr) : State :=
  s.write w p 0x24 [] fun s =>
    if bits w.val.toNat 16 16 = 0x5AFE then
      (s.wr LOCK.OPEN p 1).modPages p fun x => { x with openedAt := s.tb }
    else s.wr LOCK.OPEN p 0

/-- LOCK_KEY_WRITE (R55). -/
def execLockKeyWrite (p : Fin 1024) (w : Wr) (s : State) : Host.Outcome State Fault Refusal := chipOnly s (s.writeLock p.val w)

/-- LOCK_TIMEOUT (R55): 100 ms (50,000,000 tk) after it opened. -/
def execLockTimeout (p : Fin 1024) (s : State) : Host.Outcome State Fault Refusal :=
  chipOnly s <|
    if s.on LOCK.OPEN p.val = true ∧ (s.pages p.val).openedAt + 50000000 ≤ s.tb then s.wr LOCK.OPEN p.val 0 else s

/-! ### Refusals and drops (R61, R68) -/

/-- A write of ERR_COUNT (R61). -/
def State.writeErrCount (s : State) (p : Nat) (w : Wr) : State :=
  s.write w p 0x2C [] fun s =>
    if bit w.val.toNat 31 then ((s.wr ERR_COUNT.COUNT p 0).wr ERR_CODE.FIRST p 0).wr ERR_CODE.LAST p 0 else s

/-- ERR_CLEAR (R61): a write of ERR_COUNT with CLR 1. -/
def execErrClear (p : Fin 1024) (w : Wr) (s : State) : Host.Outcome State Fault Refusal :=
  chipOnly s (s.writeErrCount p.val (orBits w 0x80000000))

/-- A write of HOST_DROP (R68). -/
def State.writeHostDrop (s : State) (w : Wr) : State :=
  s.write w pgHost 0x048 [] fun s =>
    if bit w.val.toNat 31 then
      (((s.wr HOST_DROP.COUNT 0 0).wr HOST_DROP_ADDR.WIN 0 0).wr HOST_DROP_ADDR.TUN 0 0).wr HOST_DROP_ADDR.ADDR 0 0
    else s

/-- HOST_DROP_CLR (R68): a write of HOST_DROP with CLR 1. -/
def execHostDropClr (w : Wr) (s : State) : Host.Outcome State Fault Refusal :=
  chipOnly s (s.writeHostDrop (orBits w 0x80000000))

end Sys2Proof.Machine
end

