-- ==== Sys2Proof/Machine/Commit.lean ====
section
/-!
DEFINITION. Machine/Commit.lean: COMMIT.ARM, its checks, and the hand-over of shadowed fields (R54, R56 to R60, R149, R287, R300,
R335, R390, R402, R439, R93).
-/

namespace Sys2Proof.Machine

/-! ### Owners (R57) -/

/-- The shadowed fields of unit `u` of a block. -/
def unitShadow (blk u : Nat) : List (Fld × Nat) :=
  ((fieldsOf blk).filter fun f => decide (f.acc = .rws)).flatMap fun f => (List.range f.cnt).map fun i => (f, u * f.cnt + i)

/-- The shadowed fields of an owner. -/
def ownerFlds : Owner → List (Fld × Nat)
  | .eng e => unitShadow 0x32 e
  | .drv d => ((fieldsOf 0x21).filter fun f => decide (f.acc = .rws ∧ f.cnt = 8)).map fun f => (f, d)
  | .pt g => [(PT_BANK.REQ_BANK, g)]
  | .apg a => unitShadow 0x33 a
  | .lane l => unitShadow 0x34 l
  | .crown k => unitShadow 0x24 k
  | .tpll => unitShadow 0x03 0
  | .qpll q => unitShadow 0x14 q

/-- The owners of a page (R56, R57). -/
def pageOwners (p : Nat) : List Owner :=
  let (b, u, n, _) := pageMap p
  let units := (List.range n).map (u + ·)
  if b = 0x32 then units.map .eng
  else if b = 0x33 then units.map .apg
  else if b = 0x34 then units.map .lane
  else if b = 0x21 then (List.range 8).map (fun k => .drv (8 * u + k)) ++ [.pt u]
  else if b = 0x24 then [.crown u]
  else if b = 0x03 then [.tpll]
  else if b = 0x14 then [.qpll u]
  else []

/-- The owner's dirty fields. -/
def State.ownerDirty (s : State) (o : Owner) : List (Fld × Nat) := (ownerFlds o).filter fun fi => s.isDirty fi.1 fi.2

/-- A field of the owner is dirty and its shadow differs from the active copy. -/
def State.changes (s : State) (f : Fld) (i : Nat) : Bool := s.isDirty f i && s.rd f i != s.rdA f i

/-- An engine of Facet `f` that a lane names, when its enable is set. -/
def State.namedBusy (s : State) (f e en : Nat) : Bool := en == 1 && s.engBusy (16 * f + e)

/-- The state of an owner that its checks look at (R59). -/
def State.ownerCode (s : State) : Owner → Nat
  | .eng e => s.engState e
  | .drv d => 2 * s.drvState d + flag (s.drv d).seq.isSome
  | .pt _ => 0
  | .apg a => flag (s.engBusy (16 * (a / 4) + s.rdA APG_CFG.OWNER a)) + 2 * flag (s.engBusy (16 * (a / 4) + s.rd APG_CFG.OWNER a))
  | .lane l =>
    let f := laneFacet l
    s.laneState l + 8 * flag (s.namedBusy f (s.rdA LANE_SRC.ENG_A l) 1) + 16 * flag (s.namedBusy f (s.rdA LANE_SRC.ENG_B l) 1) +
      32 * flag (s.namedBusy f (s.rd LANE_SRC.ENG_A l) 1) + 64 * flag (s.namedBusy f (s.rd LANE_SRC.ENG_B l) 1)
  | .crown k => s.crownState k
  | .tpll => 2 * s.tpllState + s.rd TB_STAT.TB_RUN 0
  | .qpll _ => 0

/-! ### Checks -/

/-- The marker route slot of bit `b` of engine `e`, as written. -/
def State.markShadow (s : State) (e b : Nat) : Nat :=
  match b with
  | 0 => s.rd ENG_MARK_LO.SLOT0 e
  | 1 => s.rd ENG_MARK_LO.SLOT1 e
  | 2 => s.rd ENG_MARK_HI.SLOT2 e
  | _ => s.rd ENG_MARK_HI.SLOT3 e

/-- Ball `n` is claimed by an ARM of this page cycle for an engine above `e`: engine `e` takes it (R130). -/
def State.outranks (s : State) (e n : Nat) : Bool :=
  s.ballOwner n != 0 && s.ballTb n == s.tb + 1 && decide (e < (s.ballOwner n - 1) / 4)

/-- An enabled slot of engine `e` names a ball that another route has claimed, or that a lower slot of the engine names (R130). -/
def State.ballTaken (s : State) (e : Nat) : Bool :=
  (List.range 4).any fun b =>
    let v := s.markShadow e b
    bit v 15 && ((s.ballOwner (slotBall v) != 0 && s.ballOwner (slotBall v) != 1 + 4 * e + b && !s.outranks e (slotBall v)) ||
      (List.range b).any fun c => bit (s.markShadow e c) 15 && slotBall (s.markShadow e c) == slotBall v)

/-- The commit checks of an engine (R149). -/
def State.engChecks (s : State) (e : Nat) : List Nat :=
  let st := s.engState e
  let d := fun f => s.isDirty f e
  let start := d ENG_START.SRC || d ENG_START.ENTRY || d ENG_START_AT_LO.START_AT || d ENG_START_AT_HI.START_AT
  let cfg := d ENG_CFG.KIND || d ENG_CFG.LCLASS || d ENG_CFG.MODE || d ENG_CFG.PERIOD || d ENG_CFG.MARK_LANE ||
    d ENG_CFG.LANE_LOSS || d ENG_WIN.BASE || d ENG_WIN.SIZE_M1
  let drive := s.rd ENG_CFG.KIND e == 1
  let at' := s.rd ENG_START_AT_LO.START_AT e + 2 ^ 32 * s.rd ENG_START_AT_HI.START_AT e
  cause ((cfg && s.engBusy e) || (start && decide (2 ≤ st ∧ st ≤ 4))) 0x0001 ++
  cause ((drive && decide (s.rd ENG_CFG.PERIOD e < 250)) || s.rd ENG_START.SRC e == 3 ||
    (List.range 16).any (fun r => s.rd ENG_LREG.COUNT (16 * e + r) == 0) ||
    (!drive && (bit (s.markShadow e 2) 15 || bit (s.markShadow e 3) 15))) 0x0002 ++
  cause (decide (0xFFFF < s.rd ENG_WIN.BASE e + s.rd ENG_WIN.SIZE_M1 e) ||
    decide (s.rd ENG_WIN.SIZE_M1 e < s.rd ENG_START.ENTRY e)) 0x0003 ++
  cause (s.ballTaken e) 0x0006 ++
  cause (st == 1 && start && s.rd ENG_START.SRC e == 1 && decide (at' < s.epoch + s.h)) 0x000A

/-- The fields of a Crown group that change only in IDLE or STOPPED (R439). -/
def crownFixed (k : Nat) : List (Fld × Nat) :=
  [(CROWN_CFG.MODE, k), (CROWN_CFG.LINES, k), (CROWN_SIZE.NC, k), (CROWN_SIZE.ND, k), (CROWN_INIT.INIT_FRAMES, k),
   (CROWN_INIT.INIT_RMS, k), (CROWN_SEED_LO.SEED, k), (CROWN_SEED_HI.SEED, k), (CROWN_PULSES.PULSES, k),
   (CROWN_BASE_REF.BASE, 2 * k), (CROWN_BASE_REF.BASE, 2 * k + 1), (CROWN_TWR_BASE.TWR_BASE, k), (CROWN_RD.RD_EN, k),
   (CROWN_RD.RD_BASE, k)] ++
  (List.range 64).flatMap fun j => [(CROWN_SDRV.EN, 64 * k + j), (CROWN_SDRV.SRC, 64 * k + j), (CROWN_SDRV.CHAN, 64 * k + j),
    (CROWN_SDRV.TRIM_INIT, 64 * k + j), (CROWN_CP.EN, 64 * k + j), (CROWN_CP.CP_DRV, 64 * k + j), (CROWN_CP.SENSE, 64 * k + j)]

/-- The commit checks of an owner with dirty shadows, which refuse the whole ARM (R56). -/
def State.ownerChecks (s : State) : Owner → List Nat
  | .eng e => s.engChecks e
  | .apg a =>
    let f := a / 4
    cause ((s.changes APG_CFG.OWNER a || s.changes APG_CFG.EN a) &&
      (s.engBusy (16 * f + s.rdA APG_CFG.OWNER a) || s.engBusy (16 * f + s.rd APG_CFG.OWNER a))) 0x0002
  | .lane l =>
    let f := laneFacet l
    let ch := s.changes LANE_SRC.A_EN l || s.changes LANE_SRC.B_EN l || s.changes LANE_SRC.ENG_A l || s.changes LANE_SRC.ENG_B l
    cause (ch && (s.namedBusy f (s.rdA LANE_SRC.ENG_A l) (s.rdA LANE_SRC.A_EN l) ||
      s.namedBusy f (s.rdA LANE_SRC.ENG_B l) (s.rdA LANE_SRC.B_EN l) || s.namedBusy f (s.rd LANE_SRC.ENG_A l) (s.rd LANE_SRC.A_EN l) ||
      s.namedBusy f (s.rd LANE_SRC.ENG_B l) (s.rd LANE_SRC.B_EN l))) 0x0010 ++
    cause (ch && s.on LANE_SRC.A_EN l && s.on LANE_SRC.B_EN l && s.rd LANE_SRC.ENG_A l == s.rd LANE_SRC.ENG_B l) 0x0011
  | .crown k => cause (!(s.crownState k == 0 || s.crownState k == 4) && (crownFixed k).any fun fi => s.changes fi.1 fi.2) 0x0002
  | .tpll =>
    cause ((s.isDirty TPLL_FCW_INT.FCW_INT 0 || s.isDirty TPLL_FCW_NUM.FCW_NUM 0 || s.isDirty TPLL_FCW_DEN.FCW_DEN 0) &&
      s.on TB_STAT.TB_RUN 0 && s.tpllState != 4) 0x0001 ++
    cause (decide (s.rd TPLL_FCW_DEN.FCW_DEN 0 ≤ s.rd TPLL_FCW_NUM.FCW_NUM 0)) 0x0004
  | _ => []

/-- The checks that refuse one owner's hand-over (R59 as R335, R390 and R402 call on it). -/
def State.ownerRefuses (s : State) : Owner → List Nat
  | .drv d =>
    let busy := s.drvBusy d
    let src := fun (kind index : Fld) => s.changes kind d || (s.changes index d && s.rdA kind d != 2)
    cause (busy && (src DRV_SRC_A.KIND DRV_SRC_A.INDEX || src DRV_SRC_B.KIND DRV_SRC_B.INDEX)) 0x0002 ++
    cause ((s.changes DAC_CFG.CLEAR_CODE d || s.changes DAC_CFG.LDSRC d) && (busy || (s.drv d).seq.isSome)) 0x0013
  | .lane l =>
    cause (decide (2 ≤ s.laneState l) && (s.changes LANE_CFG.TX_POL l || s.changes LANE_CFG.RX_POL l ||
      s.changes LANE_CFG.TX_DESKEW l)) 0x0002
  | _ => []

/-! ### Hand-over ticks (R57, R386) -/

/-- The first owner boundary at or after `x`. -/
def State.ownerBoundary (s : State) (o : Owner) (x : Nat) : Nat :=
  let onTable := fun (t : Nat) => let (_, o0, g) := s.tabGrid t; o0 + ceilTo g (x - o0)
  match o with
  | .eng e => if s.engBusy e then s.engDPFrom e x else ceilTo 16 x
  | .drv d => if s.drvBusy d then s.drvGran d x else ceilTo 16 x
  | .pt g => onTable (tabPt g)
  | .apg a => onTable (tabApg a)
  | .lane l => ceilTo (s.laneGran l) x
  | .crown k => s.crownDP k x
  | .tpll => ceilTo 16 x
  | .qpll _ => ceilTo 16 x

/-- The first frame boundary of the owner's group at or after `x`; without frames, its owner boundary. -/
def State.ownerFrame (s : State) (o : Owner) (x : Nat) : Nat :=
  match o with
  | .crown k => if s.crownBusy k then (s.crown k).ts + ceilTo (s.crownF k) (x - (s.crown k).ts) else s.ownerBoundary o x
  | _ => s.ownerBoundary o x

/-- The hand-over tick and the snapshot tick of an owner for a commit accepted now with a BSEL (0 NEXT_BOUNDARY, 1 IMMEDIATE,
2 FRAME). -/
def State.handTicks (s : State) (o : Owner) (bsel : Nat) : Nat × Nat :=
  if bsel = 1 then (s.epoch + 1, s.epoch + 1)
  else
    let d := if bsel = 2 then s.ownerFrame o (s.epoch + s.h) else s.ownerBoundary o (s.epoch + s.h)
    (d, d - 66)

/-! ### ARM (R56, R60, R130) -/

/-- The owners of page `p` with dirty shadows. -/
def State.dirtyOwners (s : State) (p : Nat) : List Owner := (pageOwners p).filter fun o => s.ownerDirty o != []

/-- An owner is ARMED, GATED, RUNNING, DRAINING, ACTIVE or RAMPDOWN (R60); a Crown group in RUNNING, HOLD or STOPPING counts as running
(R439). -/
def State.ownerRuns (s : State) : Owner → Bool
  | .eng e => s.engBusy e
  | .drv d => s.drvBusy d
  | .crown k => s.crownBusy k
  | _ => false

/-- An engine that two owners of the page would share a ball with (R130): of the claims in one ARM the lowest engine's is taken. -/
def State.ballsClash (s : State) (os : List Owner) : Bool :=
  let slots := fun (o : Owner) => match o with
    | .eng e => ((List.range 4).map (s.markShadow e)).filterMap fun v => if bit v 15 then some (slotBall v) else none
    | _ => []
  match os with
  | [a, b] => (slots a).any fun n => (slots b).contains n
  | _ => false

/-- The refusal causes of ARM on page `p` (R56, R60). -/
def State.armPageCodes (s : State) (p bsel : Nat) : List Nat :=
  let os := s.dirtyOwners p
  cause (s.shadowLocked p) 0x0102 ++ cause (bsel == 2 && (pageMap p).1 != 0x24) 0x0103 ++
  cause (bsel == 1 && (pageOwners p).any s.ownerRuns) 0x0104 ++ os.flatMap s.ownerChecks ++ cause (s.ballsClash os) 0x0006

/-- The free balls that an engine's enabled slots name are claimed at the ARM (R130). -/
def State.claimShadow (s : State) (o : Owner) : State :=
  match o with
  | .eng e => (List.range 4).foldl (fun t b =>
      let v := s.markShadow e b
      if bit v 15 = false then t
      else if t.ballOwner (slotBall v) = 0 then (t.claimBall (slotBall v) e b).setBallTb (slotBall v) (s.tb + 1)
      else if t.ballOwner (slotBall v) = 1 + 4 * e + b then t.claimBall (slotBall v) e b
      else t) s
  | _ => s

/-- The engines whose ARM of this page cycle loses a ball to the owners `os` of an ARM accepted now (R130). -/
def State.armRivals (s : State) (os : List Owner) : List Nat :=
  os.flatMap fun o => match o with
    | .eng e => ((List.range 4).filter fun b =>
        bit (s.markShadow e b) 15 && s.outranks e (slotBall (s.markShadow e b))).map fun b =>
          (s.ballClaim (slotBall (s.markShadow e b)) - 1) / 4
    | _ => []

/-- The ARM of engine `e`'s page that was accepted in this page cycle is refused after all, with MARK_BALL_TAKEN (R56, R130). -/
def State.revokeArm (s : State) (e : Nat) : State :=
  let p := pgEng e
  if (s.pages p).waits = [] then s
  else
    let s1 := (List.range 16).foldl (fun t n =>
      if t.ballClaim n ≠ 0 ∧ t.ballTb n = t.tb + 1 ∧ pgEng ((t.ballClaim n - 1) / 4) = p then
        (t.setBallClaim n 0).setBallTb n 0
      else t) s
    let s2 := s1.modPages p fun x => { x with waits := [], pending := false }
    (s2.refuse p 0x0006).wr SHADOW_STAT.FAILED p 1

/-- An accepted ARM (R56, R58), which takes its balls from the higher engines of this page cycle (R130). -/
def State.commitArm (s : State) (p bsel : Nat) : State :=
  let os := s.dirtyOwners p
  let s := (s.armRivals os).foldl State.revokeArm s
  let ws := os.map fun o => let t := s.handTicks o bsel; (o, t.1, t.2, s.ownerCode o)
  let s1 := s.modPages p fun x => { x with waits := ws, pending := !ws.isEmpty, failed := none }
  os.foldl (fun t o => t.claimShadow o) s1

/-- A write of COMMIT (R56, R60): BSEL is written, ARM acts; a check of the block that fails sets FAILED. -/
def State.writeCommit (s : State) (p : Nat) (w : Wr) : State :=
  let v := w.val.toNat
  let bsel := bits v 4 2
  let codes := cause (bsel == 3) 0x0103 ++ (if bit v 0 then s.armPageCodes p bsel else [])
  let t := s.write w p 0x1C codes fun s =>
    let s1 := s.wr COMMIT.BSEL p bsel
    if bit v 0 then s1.commitArm p bsel else s1
  match worst (accessCodes w p ++ codes) with
  | some c => if s.reaches w.req && s.ready p && decide (c < 0x100) then t.wr SHADOW_STAT.FAILED p 1 else t
  | none => t

/-- COMMIT_ARM (R56): a write of COMMIT with ARM 1. -/
def execCommitArm (p : Fin 1024) (w : Wr) (s : State) : Host.Outcome State Fault Refusal :=
  chipOnly s (s.writeCommit p.val (orBits w 0x1))

/-! ### Hand-over (R57 to R59) -/

/-- A request of a table's bank by a commit handed over at `d` (R249, R299, R303, R386). -/
def State.askBank (s : State) (t d : Nat) : State :=
  let r := tabRegs t
  s.modTab t fun x => { x with told := false, commitFrom := if s.rd r.req r.i = s.tabActive t then none else some d }

/-- What the hand-over at `d` brings with it; `old` is the state before it. -/
def State.handEffects (s old : State) (o : Owner) (d : Nat) : State :=
  let was := fun (f : Fld) (i : Nat) => old.isDirty f i
  let differs := fun (f : Fld) (i : Nat) => old.changes f i
  match o with
  | .eng e =>
    let s1 := if differs ENG_WIN.BASE e || differs ENG_WIN.SIZE_M1 e then s.wr ENG_STAT.PROG_OK e 0 else s
    let s2 := (List.range 16).foldl (fun t n =>
      let c := t.ballOwner n
      let b := (c - 1) % 4
      if c ≠ 0 ∧ t.ballOut n = 0 ∧ (c - 1) / 4 = e ∧ ¬(bit (t.markShadow e b) 15 = true ∧ slotBall (t.markShadow e b) = n) then
        t.setBallOut n (d + 1)
      else t) s1
    if s2.engState e = 1 ∧ (was ENG_START.SRC e || was ENG_START.ENTRY e || was ENG_START_AT_LO.START_AT e ||
        was ENG_START_AT_HI.START_AT e) = true then
      ((s2.dropReqs e 0).unstage e d).startTrigger e
    else s2
  | .drv c =>
    if differs DAC_CFG.CLEAR_CODE c ∧ (s.drvState c = 1 ∨ s.drvState c = 4) then
      s.modDrv c fun x => { x with move := some (old.idleY c d, s.drvC c, d, s.rampT c) }
    else s
  | .pt g => if was PT_BANK.REQ_BANK g then s.askBank (tabPt g) d else s
  | .apg a => if was APG_CFG.REQ_BANK a then s.askBank (tabApg a) d else s
  | .lane l =>
    let s1 := if differs LANE_CFG.RX_POL l then s.clearEq l else s
    if was LANE_COMP_CTL.REQ_BANK l then s1.askBank (tabLane l) d else s1
  | .tpll => if was TPLL_BAND_CTL.REQ_BANK 0 then s.modTab tabTpll fun x => { x with told := false } else s
  | .qpll q => if was QPLL_BAND_CTL.REQ_BANK q then s.modTab (tabQuad q) fun x => { x with told := false } else s
  | .crown _ => s

/-- The recheck of an owner of page `p` fails with code `c` (R59). The rechecks of one commit make one refusal, whose code is the one
of highest rank (R562). -/
def State.recheckFails (s : State) (p c : Nat) : State :=
  match (s.pages p).failed with
  | none =>
    ((s.refuse p c).wr SHADOW_STAT.FAILED p 1).modPages p fun x => { x with failed := some (c, s.rd ERR_CODE.FIRST p == 0) }
  | some (c0, first) =>
    let m := (worst [c0, c]).getD c0
    let s1 := (s.wr ERR_CODE.LAST p m).wr SHADOW_STAT.FAILED p 1
    (if first then s1.wr ERR_CODE.FIRST p m else s1).modPages p fun x => { x with failed := some (m, first) }

/-- Owner `o` of page `p` reaches its snapshot for hand-over tick `d`; `code` is its state at the ARM (R57, R59). -/
def State.handOver (s : State) (p : Nat) (o : Owner) (d code : Nat) : State :=
  match worst ((if s.ownerCode o = code then [] else s.ownerChecks o) ++ s.ownerRefuses o) with
  | some c => s.recheckFails p c
  | none => ((s.ownerDirty o).foldl (fun t fi => t.takeShadow d fi) s).handEffects s o d

/-- The lagging values whose hand-over tick has come are dropped; a running slew is settled first (R76). -/
def State.pruneLags (s : State) : State :=
  if s.lags.any fun l => l.1 == TPLL_SLEW.SLEW_MAX.key 0 && decide (l.2.1 ≤ s.epoch) then
    let t := s.settleResidual
    t.setLags (t.lags.filter fun l => decide (s.epoch < l.2.1))
  else s.setLags (s.lags.filter fun l => decide (s.epoch < l.2.1))

/-- COMMIT_HANDOVER (R57 to R59): owner `n` of those that page `p` waits for reaches its snapshot tick. While the epoch does not
count there is no tick to wait for, and the hand-over takes place when the command comes (DESIGN CHOICE, log entry 40). -/
def execCommitHandover (p : Fin 1024) (n : Nat) (s : State) : Host.Outcome State Fault Refusal :=
  chipOnly s <|
    let s := s.pruneLags
    match (s.pages p.val).waits[n]? with
    | some (o, d, snap, code) =>
      if snap ≤ s.epoch ∨ s.counting = false then
        let t := s.handOver p.val o d code
        t.modPages p.val fun x => { x with waits := x.waits.eraseIdx n, lockedTo := max x.lockedTo (min snap s.epoch) }
      else s
    | none => s

end Sys2Proof.Machine
end

