-- ==== Sys2Proof/Machine/Journal.lean ====
section
/-!
DEFINITION. Machine/Journal.lean: the journal writer's registers and events (R494 to R500, R506).
-/

namespace Sys2Proof.Machine

/-- The oldest record on its way reaches the writer (R494, R495); while the writer is off, records wait (R520). -/
def State.jrnNext (s : State) : State :=
  match s.recs with
  | r :: rest =>
    if s.on JRN_CFG.EN 0 then
      let t := s.setRecs rest
      if r.forwarded || s.jrnPasses r then t.jrnTake r else t
    else s
  | [] => s

/-- JRN_RECORD (R494, R495, R497, R499). -/
def execJrnRecord (s : State) : Host.Outcome State Fault Refusal := chipOnly s s.jrnNext

/-- Every record on its way reaches the writer. -/
def State.jrnDrain (s : State) : State := (List.range s.recs.length).foldl (fun t _ => t.jrnNext) s

/-- The chain of a power-on starts (R497): BSEQ 0, a fresh CHAIN_ID, and JRN_CHAIN_START as its first record. -/
def State.jrnStart (s : State) : State :=
  let (n, s1) := s.draw
  let id := n % 2 ^ 64
  let s2 := s1.modJournal fun j => { j with started := true, chain := id, bseq := 0, prev := 0 }
  s2.jrnTake { stamp := s.epoch, sub := 0, unc := s.unc, origin := s.rd CAS_STAT.ADDR 0, cls := 0, index := 0, code := 0x1401,
               data := packItems [.tick id] }

/-- RING_EN takes C63 over (R498): enabled, ring mode, priority class 1. -/
def State.jrnTakeRing (s : State) : State :=
  let s1 := ((s.wr RFL_CFG.EN 63 1).wr RFL_CFG.MODE 63 1).wr RFL_CFG.PRIO 63 1
  (if s.rd RFL_STAT.STATE 63 = 0 then s1.wr RFL_STAT.STATE 63 1 else s1).jrnPump

/-- A write of JRN_CFG (R497, R498, R500, R506). -/
def State.writeJrnCfg (s : State) (w : Wr) : State :=
  let v := w.val.toNat
  s.write w pgJrn 0x040
    (cause (decide (bits v 0 16 < 1 ∨ 60000 < bits v 0 16)) 0x0001 ++ cause (bit v 29 && bit v 30) 0x0001) fun s =>
    let ring := bit v 30 && !s.on JRN_CFG.RING_EN 0
    let s1 := ((((s.wr JRN_CFG.EN 0 (bits v 31 1)).wr JRN_CFG.RING_EN 0 (bits v 30 1)).wr JRN_CFG.FWD 0 (bits v 29 1)).wr
      JRN_CFG.WIN_EN 0 (bits v 28 1)).wr JRN_CFG.SEAL_MS 0 (bits v 0 16)
    let s2 := if bit v 31 && !s1.jrnFwd && !s1.journal.started then s1.jrnStart else s1
    if ring then s2.jrnTakeRing else s2

/-- JRN_ENABLE (R497): a write of JRN_CFG with EN 1. -/
def execJrnEnable (w : Wr) (s : State) : Host.Outcome State Fault Refusal := chipOnly s (s.writeJrnCfg (orBits w 0x80000000))

/-- A write of JRN_CTRL (R497, R506). -/
def State.writeJrnCtrl (s : State) (w : Wr) : State :=
  let v := w.val.toNat
  s.write w pgJrn 0x044 [] fun s =>
    let s1 := if bit v 1 && !s.jrnFwd then s.jrnSeal else s
    if bit v 0 then s1.wr JRN_LOST.LOST 0 0 else s1

/-- JRN_FLUSH (R497): a write of JRN_CTRL with FLUSH 1. -/
def execJrnFlush (w : Wr) (s : State) : Host.Outcome State Fault Refusal := chipOnly s (s.writeJrnCtrl (orBits w 0x2))

/-- JRN_CNT_CLR (R506): a write of JRN_CTRL with CNT_CLR 1. -/
def execJrnCntClr (w : Wr) (s : State) : Host.Outcome State Fault Refusal := chipOnly s (s.writeJrnCtrl (orBits w 0x1))

/-- JRN_SEAL_TIMER (R497): SEAL_MS (500,000 tk each) have passed since the open block's first record. -/
def execJrnSealTimer (s : State) : Host.Outcome State Fault Refusal :=
  chipOnly s <|
    if s.journal.fill != [] && decide (s.journal.since + 500000 * s.rd JRN_CFG.SEAL_MS 0 ≤ s.tb) then s.jrnSeal else s

/-- JRN_SEAL_DONE (R497). -/
def execJrnSealDone (s : State) : Host.Outcome State Fault Refusal := chipOnly s s.jrnSealOne.jrnPump

/-- A write of the JRN page's other registers (R506): the ring registers do not change while RING_EN is 1. -/
def State.writeJrnReg (s : State) (off : Nat) (w : Wr) : State :=
  let v := w.val.toNat
  let fs := fieldsAt pgJrn off
  let ring := off == 0x05C || off == 0x060 || off == 0x064 || off == 0x070 || off == 0x074
  let changed := fs.any fun fi => fi.1.acc == .rw && fi.1.ofWord v != s.rd fi.1 fi.2
  s.write w pgJrn off
    (cause (off == 0x064 && decide (bits v 0 5 < 4 ∨ 20 < bits v 0 5)) 0x0001 ++
      cause (ring && changed && s.on JRN_CFG.RING_EN 0) 0x0002) fun s =>
    let s1 := fs.foldl (fun t fi => t.wrField fi.1 fi.2 (fi.1.ofWord v)) s
    let s2 := if off = 0x048 then s1.wr JRN_CLASS_EN.CLASS_EN 0 (bits v 0 16 ||| 0x00A1) else s1
    if off = 0x06C then s2.jrnPump else s2

end Sys2Proof.Machine
end

