-- ==== Sys2Proof/Machine/Pattern.lean ====
section
/-!
DEFINITION. Machine/Pattern.lean: the algorithmic pattern generators' registers and their advance input (R293 to R298, R306).
-/

namespace Sys2Proof.Machine

/-- The engine that owns APG `a` (R287). -/
def State.apgOwner (s : State) (a : Nat) : Nat := 16 * (a / 4) + s.rdA APG_CFG.OWNER a

/-- Offset `o` of APG `a`'s block on its page (R306). -/
def apgOff (a o : Nat) : Nat := 0x800 * (a % 2) + o

/-- An applied write clears the owner's PROG_OK (R296). -/
def State.apgTouched (s : State) (a : Nat) : State := s.wr ENG_STAT.PROG_OK (s.apgOwner a) 0

/-! ### Elements and user entries (R293, R295, R306) -/

/-- DATA0 and DATA1 of the entry APG_IDX names. -/
def State.apgEntry (s : State) (a tab i : Nat) : Nat × Nat :=
  if tab = 0 then s.apgElem a i else (Sparse.get 0 (s.apg a).user i, 0)

/-- A write of APG_IDX loads DATA0 and DATA1 from the entry (R306). -/
def State.writeApgIdx (s : State) (a : Nat) (w : Wr) : State :=
  let v := w.val.toNat
  let tab := bits v 16 1
  let i := bits v 0 7
  s.write w (pgApg a) (apgOff a 0x058) (cause (tab == 1 && decide (63 < i)) 0x0001) fun s =>
    let d := s.apgEntry a tab i
    (((s.wr APG_IDX.TAB a tab).wr APG_IDX.INDEX a i).wr APG_DATA0.D a d.1).wr APG_DATA1.D a d.2

/-- APG_IDX_WRITE (R306). -/
def execApgIdxWrite (a : Fin 128) (w : Wr) (s : State) : Host.Outcome State Fault Refusal := chipOnly s (s.writeApgIdx a.val w)

/-- An element that is refused with VALUE_RANGE (R295). -/
def elemBad (d0 d1 : Nat) : Bool :=
  let kind := bits d0 30 2
  let nops := bits d0 24 3
  kind == 3 || (List.range 8).any (fun i => bits d1 (4 * i + 2) 2 == 3) ||
    ((List.range 8).any fun i => decide (nops < i) && bits d1 (4 * i) 4 != 0) ||
    (kind != 2 && bits d0 0 24 != 0) || (kind == 2 && bits d0 0 24 == 0) ||
    (kind != 0 && (bits d0 29 1 != 0 || bits d0 27 2 != 0 || nops != 0))

/-- A write of APG_DATA1 stores DATA0 and DATA1 to the entry and advances INDEX (R296, R306). -/
def State.writeApgData1 (s : State) (a : Nat) (w : Wr) : State :=
  let d0 := s.rd APG_DATA0.D a
  let user := s.on APG_IDX.TAB a
  let d1 := if user then 0 else w.val.toNat
  let i := s.rd APG_IDX.INDEX a
  s.write w (pgApg a) (apgOff a 0x060)
    (cause (!user && elemBad d0 d1) 0x0001 ++ cause (s.engBusy (s.apgOwner a)) 0x0002)
    fun s =>
      let s1 := if user then s.modApg a fun u => { u with user := Sparse.put 0 u.user i (bits d0 0 16) }
        else s.modApg a fun u => { u with elems := Sparse.put (0, 0) u.elems i (d0, d1) }
      ((s1.wr APG_DATA1.D a d1).wr APG_IDX.INDEX a ((i + 1) % (if user then 64 else 128))).apgTouched a

/-- A write of APG_DATA0: with TAB 1 bits [31:16] are reserved (R306). -/
def State.writeApgData0 (s : State) (a : Nat) (w : Wr) : State :=
  s.plainReg (if s.on APG_IDX.TAB a then clearBits w 0xFFFF0000 else w) (pgApg a) (apgOff a 0x05C) []

/-- APG_DATA1_WRITE (R306). -/
def execApgData1Write (a : Fin 128) (w : Wr) (s : State) : Host.Outcome State Fault Refusal := chipOnly s (s.writeApgData1 a.val w)

/-! ### The advance input (R297, R298) -/

/-- APG_ADV_ARRIVE (R297): the events delivered to the APG in this cycle set its pending bit, or are coalesced with it. -/
def execApgAdvArrive (a : Fin 128) (s : State) : Host.Outcome State Fault Refusal :=
  chipOnly s <|
    let (evs, t) := s.takeArrivals 3 a.val
    let ps := evs.map fun x => t.pendOf x.ev (t.engDPFrom (t.apgOwner a.val)) 76
    match mergePends ps with
    | some p =>
      let s1 := t.lateEach 0x02 (512 + a.val) evs ps
      match (t.apg a.val).adv with
      | none => (s1.modApg a.val fun u => { u with adv := some p }).wr APG_STAT.ADV_PEND a.val 1
      | some q => (s1.modApg a.val fun u => { u with adv := some (q.merge p) }).inc APG_ADV_CNT.COINC a.val
    | none => t

/-! ### Headers, shapes and scramble tables (R291 to R294, R299) -/

/-- The refusal of a write to a header, a shape or the user table while the owner runs (R296). -/
def State.apgBusyCode (s : State) (a : Nat) : List Nat := cause (s.engBusy (s.apgOwner a)) 0x0002

/-- A write of PH_CTL (R294). -/
def State.writePhCtl (s : State) (a p : Nat) (w : Wr) : State :=
  let v := w.val.toNat
  s.write w (pgApg a) (apgOff a (0x080 + 0x10 * p))
    (cause (decide (127 < bits v 16 7 + bits v 0 6) || bits v 23 7 != 0 || bits v 6 10 != 0) 0x0001 ++ s.apgBusyCode a)
    fun s =>
      let i := 16 * a + p
      ((((s.wr PH_CTL.VALID i (bits v 31 1)).wr PH_CTL.WRAP i (bits v 30 1)).wr PH_CTL.FIRST i (bits v 16 7)).wr PH_CTL.COUNT_M1 i
        (bits v 0 6)).apgTouched a

/-- A write of PH_DATA (R293, R294). -/
def State.writePhData (s : State) (a p : Nat) (w : Wr) : State :=
  let v := w.val.toNat
  s.write w (pgApg a) (apgOff a (0x084 + 0x10 * p))
    (cause (decide (3 < bits v 0 3) || bits v 4 3 == 7 || bits v 10 6 != 0 || bits v 7 1 != 0) 0x0001 ++ s.apgBusyCode a)
    fun s =>
      let i := 16 * a + p
      ((((s.wr PH_DATA.BASE i (bits v 16 16)).wr PH_DATA.ASCR_EN i (bits v 9 1)).wr PH_DATA.DSCR_EN i (bits v 8 1)).wr PH_DATA.PINV i
        (bits v 4 3)).wr PH_DATA.BG i (bits v 0 3) |>.apgTouched a

/-- A write of a shape register (R291, R306): its fields, with the range of XBITS and YBITS. -/
def State.writeShape (s : State) (a off : Nat) (w : Wr) : State :=
  let v := w.val.toNat
  let bad := (off - 0x180) % 0x20 == 4 &&
    decide (bits v 0 5 < 1 ∨ 16 < bits v 0 5 ∨ bits v 8 5 < 1 ∨ 16 < bits v 8 5)
  s.write w (pgApg a) (apgOff a off) (cause bad 0x0001 ++ s.apgBusyCode a) fun s =>
    ((fieldsAt (pgApg a) (apgOff a off)).foldl (fun t fi => t.wrField fi.1 fi.2 (fi.1.ofWord v)) s).apgTouched a

/-- A write of ASCR or DSCR (R299, R307): entry `i` of the inactive scramble bank. -/
def State.writeScramble (s : State) (a i : Nat) (w : Wr) : State :=
  let t := tabApg a
  let v := w.val.toNat &&& (if i < 32 then 0xDF1F else 0xDF0F)
  s.tabReg (s.write w (pgApg a) (apgOff a (0x200 + 4 * i)) (cause (s.tabClosed t) 0x0003) fun s => s.tabWrite t i v) w t (pgApg a)

end Sys2Proof.Machine
end

