-- ==== Sys2Proof/Machine/Security.lean ====
section
/-!
DEFINITION. Machine/Security.lean: the key vault and debug access (R501 to R508, R525).
-/

namespace Sys2Proof.Machine

/-- The vault is erased (R503): seals in progress complete, the open block is sealed with the old key, both slots are zeroed, and
running decryptions end. `verified` says that the read-back finds zeros. -/
def State.vaultErase (s : State) (verified : Bool) : State :=
  let s1 := s.jrnSealAll.modSec fun x => { x with jrn := none, lib := none }
  let s2 := (((s1.wr SEC_STAT.JRN_PRESENT 0 0).wr SEC_STAT.LIB_PRESENT 0 0).wr SEC_KEYID.KEYID 0 0).wr SEC_KEYID.KEYID 1 0
  let s3 := if verified then s2.raise pgSec 2 else s2
  s3.rflKeyGone.jrnPump

/-- The key-encryption key of a slot (R501): HMAC-SHA-256 of the root key over the slot's label. -/
def slotKek (slot : Nat) : List Nat :=
  hmacSha256 (leBytes 32 Config.rootKey) ((if slot = 0 then "JRN-KEK" else "LIB-KEK").toList.map Char.toNat)

/-- UNWRAP (R502). -/
def State.secUnwrap (s : State) (slot : Nat) : State :=
  match keyUnwrap (slotKek slot) ((List.range 10).flatMap fun n => dwordBytes (s.rd SEC_BLOB.BLOB n)) with
  | some bs =>
    let key := leNat bs
    let s1 := s.modSec fun x => if slot = 0 then { x with jrn := some key } else { x with lib := some key }
    ((s1.wr (if slot = 0 then SEC_STAT.JRN_PRESENT else SEC_STAT.LIB_PRESENT) 0 1).wr SEC_KEYID.KEYID slot
      (keyIdOf key)).raise pgSec 0
  | none => s.raise pgSec 1

/-- WRAP (R502). -/
def State.secWrap (s : State) (slot : Nat) : State :=
  let key := (List.range 8).flatMap fun n => dwordBytes (s.rd SEC_KEY_IN.KEY_IN n)
  let blob := keyWrap (slotKek slot) key
  let s1 := (List.range 10).foldl (fun t n => t.wr SEC_BLOB.BLOB n (leNat ((blob.drop (4 * n)).take 4))) s
  (List.range 8).foldl (fun t n => t.wr SEC_KEY_IN.KEY_IN n 0) s1

/-- The device enters DEBUG from the state it was in (R504, R525). -/
def State.enterDebug (s : State) : State :=
  let stage := if s.dev = 4 ∨ s.dev = 5 then s.dev else 6
  ((s.wr DEV_STATE.STATE 0 9).modBring fun b => { b with stage := stage }).jrn 0x0E 0 0x150E []

/-- An accepted debug open (R504): the record, the erase, the root key blocked or revoked, access. `verified` says that the vault
reads back zero and, for the permanent grade, that the fuse verifies. -/
def State.debugOpen (s : State) (permanent verified : Bool) : State :=
  let r : Rec := { stamp := s.epoch, sub := 0, unc := s.unc, origin := s.rd CAS_STAT.ADDR 0, cls := 7, index := 0, code := 0x1408,
                   data := packItems [.word (flag permanent)] }
  let s1 := if s.on JRN_CFG.EN 0 then s.jrnDrain.jrnTake r else s.setRecs (s.recs ++ [r])
  let s2 := (s1.raise pgSec 3).vaultErase verified
  let s3 := s2.modSec fun x => { x with first := none, tap := 0 }
  if verified then
    let s4 := if permanent then s3.wr SEC_STAT.REVOKED 0 1
      else (s3.wr SEC_STAT.SESSION 0 1).wr SEC_STAT.RK_BLOCKED 0 1
    s4.enterDebug
  else s3.raise pgSec 4

/-- DBG_BUSY and DBG_STATE (R504). -/
def State.dbgCodes (s : State) : List Nat :=
  cause (s.anyEngBusy || s.anyDrvBusy) 0x0004 ++
    cause (!(s.dev == 4 || s.dev == 5 || s.dev == 6 || s.dev == 8)) 0x0007

/-- A second permanent request confirms the first (R505): 1 s to 10 s later, with the device identifier. -/
def State.confirms (s : State) (confirm : Nat) : Bool :=
  match s.sec.first with
  | some t => decide (t + 500000000 ≤ s.tb ∧ s.tb ≤ t + 5000000000) && confirm == Config.devid % 2 ^ 64
  | none => false

/-- SEC_CONFIRM refuses a second permanent request (R505). -/
def State.confirmCodes (s : State) (permanent : Bool) (confirm : Nat) : List Nat :=
  cause (permanent && s.sec.first.isSome && !s.confirms confirm) 0x0005

/-- An open that is not refused: the session, the first permanent request, or the second (R504, R505). -/
def State.dbgRequest (s : State) (permanent verified : Bool) : State :=
  if permanent && s.sec.first.isNone then s.modSec fun x => { x with first := some s.tb, tap := 0 } else s.debugOpen permanent verified

/-- A first permanent request lapses with a second one that does not confirm it (R505). -/
def State.lapse (s t : State) (permanent : Bool) (confirm : Nat) : State :=
  if permanent && s.sec.first.isSome && !s.confirms confirm then t.modSec fun x => { x with first := none } else t

/-- SEC_CONFIRM as a number. -/
def State.secConfirm (s : State) : Nat := s.rd SEC_CONFIRM.CONFIRM 0 + 2 ^ 32 * s.rd SEC_CONFIRM.CONFIRM 1

/-- A write of the SEC command register (R502 to R505, R508). -/
def State.writeSecCmd (s : State) (w : Wr) (verified : Bool) : State :=
  let v := w.val.toNat
  let cmd := bits v 0 4
  let slot := bits v 8 1
  let wraps := cmd == 1 || cmd == 2
  let opens := cmd == 4 || cmd == 5
  let codes := cause (cmd == 0 || decide (5 < cmd)) 0x0001 ++
    cause (wraps && s.on SEC_STAT.REVOKED 0) 0x0002 ++ cause (wraps && s.on SEC_STAT.RK_BLOCKED 0) 0x0003 ++
    cause ((cmd == 2 || opens) && !s.on LOCK.OPEN pgSec) 0x0101 ++
    (if opens then s.dbgCodes ++ s.confirmCodes (cmd == 5) s.secConfirm else [])
  let t := s.write w pgSec 0x044 codes fun s =>
    if cmd = 1 then s.secUnwrap slot
    else if cmd = 2 then s.secWrap slot
    else if cmd = 3 then s.vaultErase verified
    else s.dbgRequest (cmd == 5) verified
  if s.reaches w.req && s.ready pgSec && accessCodes w pgSec == [] && s.on LOCK.OPEN pgSec then
    s.lapse t (cmd == 5) s.secConfirm
  else t

/-- The SEC command register written with command `c`, the slot as given. -/
def secWr (w : Wr) (c : Nat) : Wr := { w with val := (w.val &&& 0xFFFFFFF0#32) ||| BitVec.ofNat 32 c }

/-- SEC_UNWRAP (R502): CMD 1. -/
def execSecUnwrap (w : Wr) (s : State) : Host.Outcome State Fault Refusal := chipMem s (s.writeSecCmd (secWr w 1) true)

/-- SEC_WRAP (R502): CMD 2. -/
def execSecWrap (w : Wr) (s : State) : Host.Outcome State Fault Refusal := chipMem s (s.writeSecCmd (secWr w 2) true)

/-- SEC_ERASE (R503): CMD 3. -/
def execSecErase (w : Wr) (verified : Bool) (s : State) : Host.Outcome State Fault Refusal :=
  chipMem s (s.writeSecCmd (secWr w 3) verified)

/-- SEC_DBG_SESSION (R504): CMD 4. -/
def execSecDbgSession (w : Wr) (verified : Bool) (s : State) : Host.Outcome State Fault Refusal :=
  chipMem s (s.writeSecCmd (secWr w 4) verified)

/-- SEC_DBG_PERMANENT (R505): CMD 5. -/
def execSecDbgPermanent (w : Wr) (verified : Bool) (s : State) : Host.Outcome State Fault Refusal :=
  chipMem s (s.writeSecCmd (secWr w 5) verified)

/-- TAP_DBG_REQ (R504): the TAP's DBG_REQ asks for an open as a register write does; its data register holds the refusal code. -/
def execTapDbgReq (permanent : Bool) (confirm : BitVec 64) (verified : Bool) (s : State) : Host.Outcome State Fault Refusal :=
  chipMem s <|
    match worst (s.dbgCodes ++ s.confirmCodes permanent confirm.toNat) with
    | some c => s.lapse ((s.refuse pgSec c).modSec fun x => { x with tap := c }) permanent confirm.toNat
    | none => s.dbgRequest permanent verified

/-- DBG_CONFIRM_TIMEOUT (R505): 10 s (5,000,000,000 tk) have passed since a first permanent request. -/
def execDbgConfirmTimeout (s : State) : Host.Outcome State Fault Refusal :=
  chipOnly s <|
    match s.sec.first with
    | some t => if t + 5000000000 < s.tb then s.modSec fun x => { x with first := none } else s
    | none => s

/-- A write of SEC_KEY_IN (R502): it requires LOCK open. -/
def State.writeKeyIn (s : State) (off : Nat) (w : Wr) : State :=
  s.write w pgSec off (cause (!s.on LOCK.OPEN pgSec) 0x0101) fun s => s.wr SEC_KEY_IN.KEY_IN ((off - 0x050) / 4) w.val.toNat

/-- A write of SEC_CONFIRM (R505). -/
def State.writeSecConfirm (s : State) (off : Nat) (w : Wr) : State :=
  s.write w pgSec off [] fun s => s.wr SEC_CONFIRM.CONFIRM ((off - 0x0C0) / 4) w.val.toNat

end Sys2Proof.Machine
end

