-- ==== Sys2Proof/Machine/ReadRegs.lean ====
section
/-!
DEFINITION. Machine/ReadRegs.lean: what a register of window A reads (R32, R43, R47, R50 to R54), and a read of window B (R48, R49).
-/

namespace Sys2Proof.Machine

/-! ### Headers (R50 to R54) -/

/-- The page has a field of the access code. -/
def hasAcc (p : Nat) (a : Acc) : Bool := (fieldsOf (pageMap p).1).any fun f => decide (f.acc = a)

/-- PAGE_ID (R50, R51). -/
def pageId (p : Nat) : Nat := if (pageMap p).1 = 0 then 0 else (pageMap p).1 * 2 ^ 24 + 0x10000 + pageInstance p

/-- PAGE_CAP (R52, R66). -/
def pageCap (p : Nat) : Nat :=
  8 * flag (p != pgSec && p != pgHost) + 4 * flag (irqMask p != 0) + 2 * flag (hasAcc p .rwl) + flag (hasAcc p .rws)

/-- PAGE_STAT.FAULT (R50): an engine in FAULT that software has not parked (R144). No chapter names a fault of another block that its
own registers acknowledge, so the bit reads 0 on the other pages (DEDUCED, log entry 47). -/
def State.pageFault (s : State) (p : Nat) : Bool :=
  let (b, u, n, _) := pageMap p
  b == 0x32 && (List.range n).any fun k => s.engState (u + k) == 6

/-- PAGE_STAT (R47, R52). -/
def State.pageStat (s : State) (p : Nat) : Nat :=
  8 * flag (s.ready p && s.pageFault p) + 4 * flag (!s.domOn (pageDomain p)) + 2 * flag (s.dev == 1) + flag (s.ready p)

/-- A shadowed field of the page is dirty (R54). -/
def State.pageDirty (s : State) (p : Nat) : Bool := s.dirtyOwners p != []

/-! ### Registers -/

/-- The stored fields of the register at `off`, joined: WO fields and reserved bits read 0 (R8, R9). -/
def State.stored (s : State) (p off : Nat) : Nat :=
  (fieldsAt p off).foldl (fun acc fi => acc + (if fi.1.acc = .wo then 0 else s.rd fi.1 fi.2 * 2 ^ fi.1.lo)) 0

/-- DOM_STAT of domain `d` (R534): its state, a request pending, DEFERRED. -/
def State.domStat (s : State) (d : Nat) : Nat :=
  let x := s.dom d
  if 98 < d then 0
  else x.st % 4 + 4 * flag (x.quiesceFrom.isSome || x.restoreFrom.isSome || x.deferredAt.isSome) + 8 * flag x.deferredAt.isSome

/-- The pages of a group that are pending, `lo` of them on (R65). -/
def State.groupBits (s : State) (g lo : Nat) : Nat :=
  ((List.range 32).filter fun i => match (groupPages g)[lo + i]? with | some p => s.pagePending p | none => false).foldl
    (fun acc i => acc + 2 ^ i) 0

/-- The groups from `g0` on that are pending, as `n` bits. -/
def State.groupSum (s : State) (g0 n : Nat) : Nat :=
  ((List.range n).filter fun i => s.groupPending (g0 + i)).foldl (fun acc i => acc + 2 ^ i) 0

/-- Refill channels in a state. -/
def State.rflIn (s : State) (st : Nat) : List Nat := (List.range 64).filter fun c => s.rd RFL_STAT.STATE c == st

/-- SNS_GD (R414): the constant part of the filter's delay. -/
def State.snsDelay (s : State) (c : Nat) : Nat :=
  let b := bankOf c
  let n := if s.on SNS_BANK_CFG.MODE b then s.grpPer (s.rd SNS_BANK_CFG.GROUP b) else s.rd SNS_BANK_CFG.PERIOD b
  (if s.on SNS_CFG.FILT c then 6 else 38) * n + 410

/-- The registers of the DEV page that no field holds (R65). -/
def State.readDev (s : State) (o : Nat) : Option Nat :=
  if o = 0x100 then some (s.groupSum 0 8)
  else if o = 0x104 then some (s.groupSum 8 32)
  else if 0x140 ≤ o ∧ o < 0x280 then some (s.groupBits ((o - 0x140) / 8) (if (o - 0x140) % 8 = 0 then 0 else 32))
  else none

/-- WIN registers (R230, R251): what the window's owner shows. -/
def State.readWin (s : State) (f w o : Nat) : Option Nat :=
  let i := winId f w
  if o = 0x10 then some ((s.win i).wp % 2 ^ 32)
  else if o = 0x14 then some (s.winPosNow f w % 2 ^ 32)
  else if o = 0x18 then
    let starving := s.engBusy (s.winOwner f w) && (match (s.eng (s.winOwner f w)).presented s.epoch with
      | some p => decide (p.kind = .starve) && stWindow (s.engStep (s.winOwner f w) p.step) == w
      | none => false)
    some (2 ^ 31 * s.rd WIN_STAT.INIT i + 2 ^ 30 * s.rd WIN_STAT.REQ i + 2 ^ 29 * flag (s.winPin f w).isSome +
      2 ^ 28 * flag starving + s.winFill f w % 2 ^ 16)
  else none

/-- The engine plays a WAIT step past its REPEAT granules and waits for the input (R136, R148). -/
def State.waitsInput (s : State) (e : Nat) : Bool :=
  (s.engState e == 3 || s.engState e == 4) &&
  match (s.eng e).presented s.epoch with
  | some p => p.kind == .play && stOp (s.engStep e p.step) == 6 && decide (s.posEnd e p ≤ s.epoch)
  | none => false

/-- Registers of an ENG page that follow the engine (R148, R194). -/
def State.readEng (s : State) (e o : Nat) (stored : Nat) : Option Nat :=
  if o = 0x058 then
    some (stored - 32 * s.rd ENG_STAT.MODE e + 32 * s.rdA ENG_CFG.MODE e - 128 * s.rd ENG_STAT.GATE_WAIT e +
      128 * flag (s.engState e == 2 || s.waitsInput e))
  else if o = 0x16C then
    let g := s.eng e
    let on := s.engBusy e && (decide (s.epoch < g.restagePrev) ||
      decide (s.epoch < g.restageEnd ∧ g.restageEnd ≤ s.epoch + 16 * s.engGran e))
    some (stored - 256 * s.rd ENG_BR_STAGE.RESTAGE e + 256 * flag on - (if on then s.rd ENG_BR_STAGE.SLOT_RDY e else 0))
  else none

/-- Registers that show a bank of a double-banked table: the inactive one, and a lane's active template (R90, R299, R308). -/
def State.readTable (s : State) (b u o : Nat) : Option Nat :=
  if b = 0x03 ∧ 0x100 ≤ o ∧ o < 0x200 then some (s.tabEntry tabTpll (1 - s.loopActive none) ((o - 0x100) / 4))
  else if b = 0x14 ∧ 0x060 ≤ o ∧ o < 0x080 then some (s.tabEntry (tabQuad u) (1 - s.loopActive (some u)) ((o - 0x060) / 4))
  else if b = 0x33 ∧ 0x200 ≤ o ∧ o < 0x2C0 then some (s.tabEntry (tabApg u) (1 - s.tabActive (tabApg u)) ((o - 0x200) / 4))
  else if b = 0x34 ∧ 0x240 ≤ o ∧ o < 0x26C then some (s.tabEntry (tabLane u) (1 - s.tabActive (tabLane u)) ((o - 0x240) / 4))
  else if b = 0x34 ∧ 0x280 ≤ o ∧ o < 0x2AC then some (s.tabEntry (tabLane u) (s.tabActive (tabLane u)) ((o - 0x280) / 4))
  else none

/-- The registers of the hub's other pages that no field holds. -/
def State.readHub (s : State) (b o stored : Nat) : Option Nat :=
  if b = 0x03 ∧ o = 0x05C then some (if s.tpllState = 3 then s.settleResidual.rd TPLL_PHASE.RESIDUAL 0 else stored)
  else if b = 0x04 ∧ 0x080 ≤ o ∧ o < 0x0B4 then
    some ((List.range 8).foldl (fun acc i => acc + s.domStat (8 * ((o - 0x080) / 4) + i) * 16 ^ i) 0)
  else if b = 0x06 ∧ (o = 0x0B8 ∨ o = 0x0BC) then some (Config.devid / 2 ^ (8 * (o - 0x0B8)) % 2 ^ 32)
  else if b = 0x07 ∧ o = 0x078 then
    some (2 ^ 31 * s.rd JRN_STAT.UNSEALED 0 + 2 ^ 30 * flag (s.on JRN_CFG.RING_EN 0 && s.rd RFL_STAT.STATE 63 == 4) +
      2 ^ 16 * s.jrnFill)
  else if b = 0x07 ∧ (o = 0x07C ∨ o = 0x080) then some (s.journal.bseq / 2 ^ (8 * (o - 0x07C)) % 2 ^ 32)
  else if b = 0x07 ∧ (o = 0x08C ∨ o = 0x090) then some (s.journal.chain / 2 ^ (8 * (o - 0x08C)) % 2 ^ 32)
  else if b = 0x11 ∧ (o = 0x054 ∨ o = 0x058) then some (s.route (2 * s.rd FIRE_ROUTE_SEL.PROD 0 + (o - 0x054) / 4))
  else if b = 0x12 ∧ o = 0x040 then
    some (2 ^ 24 * (s.rflIn 4).length + 2 ^ 16 * (s.rflIn 2).length + 2 ^ 8 * (s.rflIn 3).length +
      ((List.range 64).filter fun c => s.on RFL_STAT.GCM_HELD c).length)
  else if b = 0x12 ∧ (o = 0x044 ∨ o = 0x058) then
    some (((s.rflIn 4).filter fun c => decide (c / 32 = (if o = 0x044 then 0 else 1))).foldl (fun acc c => acc + 2 ^ (c % 32)) 0)
  else none

/-- What the register at `off` of page `p` reads when the page is ready, but for the effects of the read. -/
def State.regValue (s : State) (p off : Nat) : Nat :=
  let b := (pageMap p).1
  let (u, o) := unitAt p off
  let stored := s.stored p off
  if off = 0x00 then pageId p
  else if off = 0x04 then 0x00010000
  else if off = 0x08 then pageCap p
  else if off = 0x0C then s.pageStat p
  else if off = 0x1C then stored + 2 * flag (s.shadowLocked p)
  else if off = 0x20 then stored + flag (s.pageDirty p)
  else if off < 0x40 then stored
  else if b = 0x01 then (s.readDev o).getD stored
  else if b = 0x31 ∧ 0x200 ≤ o ∧ o < 0x600 then (s.readWin u ((o - 0x200) / 0x20) ((o - 0x200) % 0x20)).getD stored
  else if b = 0x32 then (s.readEng u o stored).getD stored
  else if b = 0x23 ∧ 0x100 ≤ o ∧ o < 0x500 ∧ (o - 0x100) % 0x80 = 0x54 then s.snsDelay (8 * u + (o - 0x100) / 0x80) % 2 ^ 20
  else match s.readTable b u o with
    | some v => v
    | none => (s.readHub b o stored).getD stored

/-! ### LO and HI pairs (R32) -/

/-- The register at offset `o` of a unit is the LO half of a pair whose HI half the read latches. -/
def isLo (b o : Nat) : Bool :=
  match b with
  | 0x07 => o == 0x07C || o == 0x08C
  | 0x0A => o == 0x058
  | 0x13 => o == 0x070
  | 0x20 => decide (0x180 ≤ o ∧ o < 0x1C0) && o % 8 == 0
  | 0x21 => decide (0x100 ≤ o ∧ o < 0x900) && ((o - 0x100) % 0x100 == 0x40 || (o - 0x100) % 0x100 == 0x48)
  | 0x23 => o == 0x048 || (decide (0x100 ≤ o ∧ o < 0x500) && (o - 0x100) % 0x80 == 0x40)
  | 0x24 => o == 0x090
  | 0x32 => o == 0x0C0 || (decide (0x120 ≤ o ∧ o < 0x140) && o % 8 == 0) || o == 0x164 || o == 0x178
  | 0x34 => o == 0x078 || o == 0x088
  | 0x35 => decide (0x100 ≤ o ∧ o < 0x300) && (o - 0x100) % 0x40 == 0x28
  | _ => false

/-- The key of a requester's holding register for the pair whose LO half lies at `off` of page `p`. -/
def latchKey (req : Req) (p off : Nat) : Nat := 2 * (p * 4096 + off) + (if req = .tunnel then 1 else 0)

/-- A read of the register at `off` of page `p` that reaches the page: its value, and the state with what the read latches. -/
def State.readReg (s : State) (req : Req) (p off : Nat) : Nat × State :=
  let b := (pageMap p).1
  let o := (unitAt p off).2
  if b = 0 then (0, s)
  else if off = 0x00 ∨ off = 0x0C then (s.regValue p off, s)
  else if s.ready p = false then (0, s)
  else if p = pgTb ∧ off = 0x040 then (s.epoch % 2 ^ 32, s.readEpochLo req)
  else if p = pgTb ∧ off = 0x044 then ((if req = .tunnel then s.tbu.eLatchTunnel else s.tbu.eLatchHost), s)
  else if p = pgTb ∧ off = 0x058 then (s.rd PPS_STAMP_LO.PPS_LO 0, s.readPpsLo)
  else if 0x40 ≤ off ∧ isLo b o = true then (s.regValue p off, s.setLatch (latchKey req p off) (s.regValue p (off + 4)))
  else if 0x44 ≤ off ∧ isLo b (o - 4) = true then (s.latch (latchKey req p (off - 4)), s)
  else (s.regValue p off, s)

/-! ### Window B (R48, R49) -/

/-- The offset lies in a region of R48. -/
def offMapped (o : Nat) : Bool := decide (o < 0x00A00000) || decide (0x01000000 ≤ o ∧ o < 0x01100000)

/-- A read of the dword of window B at `a`, whose line the read finds as `ecc`: its value, whether it is poisoned, and the state with
the counts of R222; an uncorrectable line's data comes poisoned. What a Facet that is not ON answers, no rule states. -/
def State.readB (s : State) (a : Nat) (ecc : Ecc) : Nat × Bool × State :=
  let f := a / 0x02000000
  let o := a % 0x02000000 / 4 * 4
  if !offMapped o then (0, false, s)
  else if s.dev == 1 || !s.domOn f then (s.draw.1 % 2 ^ 32, false, s.draw.2)
  else
    if o < 0x00A00000 then
      (s.dwordB (facetBase f + o), decide (s.lineEcc f (lineAt o) ecc = .uncorrectable), s.eccRead f (lineAt o) ecc)
    else (s.dwordB (facetBase f + o), decide (ecc = .uncorrectable), s)

/-- WINDOW_B_READ (R49): a read of a dword of window B, whose line is found as `ecc`. In D3hot a host read has no effect (R42). -/
def execWindowBRead (req : Req) (addr : BitVec 30) (ecc : Ecc) (s : State) : Host.Outcome State Fault Refusal :=
  chipOnly s <|
    if s.reaches req then
      let (v, bad, t) := s.readB addr.toNat ecc
      t.emit (.readData (decide (req = .tunnel)) v bad)
    else s

end Sys2Proof.Machine
end

