-- ==== Sys2Proof/Machine/Access.lean ====
section
/-!
DEFINITION. Machine/Access.lean: a write of any register of window A (R43, R50, R563): the registers with behaviour of their own go
to their meaning, the others are written field by field under their value checks; a write of window B (R48, R49); and a tunnelled
access on its target (R66, R484).
-/

namespace Sys2Proof.Machine

/-! ### Writes with value checks -/

/-- A register of page `p` whose shadowed fields are checked for `codes`: a write that the shadow lock rejects is not checked (R563). -/
def State.shadowReg (s : State) (w : Wr) (p off : Nat) (codes : List Nat) : State :=
  s.plainReg w p off (if s.shadowLocked p then [] else codes)

/-- A register of page `p` whose locked fields are checked for `codes`: a write that the lock refuses is not checked (R563). -/
def State.lockedReg (s : State) (w : Wr) (p off : Nat) (codes : List Nat) : State :=
  s.plainReg w p off (if s.on LOCK.OPEN p then codes else [])

/-- `x` lies outside [lo, hi]. -/
def outside (x lo hi : Nat) : Bool := decide (x < lo ∨ hi < x)

/-- A 32-bit number as a signed one. -/
def signed16 (x : Nat) : Int := if x < 32768 then x else (x : Int) - 65536

/-! ### The header and the hub's pages -/

/-- A header register of page `p` (R50 to R61). -/
def State.writeHead (s : State) (w : Wr) (p off : Nat) : State :=
  if off = 0x14 then
    pbaEdges s (s.write w p 0x14 [] fun t => t.wr IRQ_EN.BITS p (w.val.toNat &&& irqMask p)) [s.rd DEV_MSIX_MAP.VEC (pageGroup p)]
  else if off = 0x18 then s.writeIrqForce p w
  else if off = 0x1C then s.writeCommit p w
  else if off = 0x20 then
    s.write w p 0x20 [] fun t =>
      let u := t.plainWrite p (fieldsAt p 0x20) w.val.toNat []
      if bit w.val.toNat 1 then u.wr SHADOW_STAT.REJ_COUNT p 0 else u
  else if off = 0x24 then s.writeLock p w
  else if off = 0x2C then s.writeErrCount p w
  else s.plainReg w p off []

/-- A register of the DEV page (R532). -/
def State.writeDev (s : State) (w : Wr) (off : Nat) : State :=
  let v := w.val.toNat
  if off = 0x048 then s.writeDevCtrl w
  else if off = 0x05C then
    let safe := if s.on LOCK.OPEN pgDev then bits v 16 8 else s.rd DEV_THERM.SAFE_C 0
    s.plainReg w pgDev off (cause ((s.on LOCK.OPEN pgDev && outside (bits v 16 8) 90 125) || outside (bits v 8 8) 60 safe) 0x0001)
  else if off = 0x108 then s.writeDevEoi w
  else if 0x280 ≤ off ∧ off < 0x320 then
    pbaEdges s (s.plainReg w pgDev off []) [s.rd DEV_MSIX_MAP.VEC ((off - 0x280) / 4), bits v 0 8]
  else s.plainReg w pgDev off []

/-- A register of the TB page (R37). -/
def State.writeTb (s : State) (w : Wr) (off : Nat) : State :=
  if off = 0x04C then s.writeTbCtrl w else if off = 0x050 then s.writeHLocal w else s.plainReg w pgTb off []

/-- A register of the TPLL page (R92, R93). -/
def State.writeTpll (s : State) (w : Wr) (off : Nat) : State :=
  let v := w.val.toNat
  if off = 0x040 then s.writeTpllCtrl w
  else if off = 0x048 then s.shadowReg w pgTpll off (cause (outside (bits v 0 9) 16 400) 0x0004)
  else if off = 0x050 then s.shadowReg w pgTpll off (cause (bits v 0 24 == 0) 0x0004)
  else if off = 0x054 then s.shadowReg w pgTpll off (cause (outside (bits v 0 9) 1 500) 0x0004)
  else if off = 0x058 then s.plainReg w pgTpll off (cause (outside (bits v 0 10) 1 1000) 0x0004)
  else if off = 0x074 then s.writeBandCtl none w
  else if 0x100 ≤ off ∧ off < 0x200 then s.writeBand none ((off - 0x100) / 4) w
  else s.plainReg w pgTpll off []

/-- A register of the CAL page (R441, R457); `meas` is what a run's precondition check measures. CAL_RUN takes an item, unit and sub
of R441's table only. -/
def State.writeCal (s : State) (w : Wr) (off meas : Nat) : State :=
  let v := w.val.toNat
  if off = 0x040 then s.writeCalCtrl w meas
  else if off = 0x044 then s.plainReg w pgCal off (cause (!calKnown (bits v 24 8) (bits v 0 8) (bits v 16 3)) 0x0001)
  else if off = 0x074 then s.writeFlCmd w else s.plainReg w pgCal off []

/-- A register of the SEC page (R507); `ok` says whether an erase or a readback verifies. -/
def State.writeSec (s : State) (w : Wr) (off : Nat) (ok : Bool) : State :=
  if off = 0x044 then s.writeSecCmd w ok
  else if 0x050 ≤ off ∧ off < 0x070 then s.writeKeyIn off w
  else if off = 0x0C0 ∨ off = 0x0C4 then s.writeSecConfirm off w
  else s.plainReg w pgSec off []

/-- A register of the JRN page (R506). -/
def State.writeJrn (s : State) (w : Wr) (off : Nat) : State :=
  if off = 0x040 then s.writeJrnCfg w else if off = 0x044 then s.writeJrnCtrl w else s.writeJrnReg off w

/-- A register of the LUS page (R467). -/
def State.writeLus (s : State) (w : Wr) (off : Nat) : State :=
  if off = 0x040 then s.writeLusCtrl w
  else if off = 0x044 ∨ (0x100 ≤ off ∧ off < 0x320 ∧ off % 0x10 = 0) then s.writeLusReg off w
  else s.plainReg w pgLus off []

/-- A register of the FIRE control page (R218). -/
def State.writeFireG (s : State) (w : Wr) (off : Nat) : State :=
  let v := w.val.toNat
  if off = 0x048 then s.writeFireGclr w
  else if off = 0x04C then s.writeFireSw w
  else if off = 0x050 then s.writeRouteSel w
  else if off = 0x054 ∨ off = 0x058 then s.writeRouteSlot ((off - 0x054) / 4) w
  else if 0x140 ≤ off ∧ off < 0x180 then s.plainReg w pgFire off (cause (bits v 1 2 == 3) 0x0001)
  else if 0x180 ≤ off ∧ off < 0x1C0 then s.writeOutCfg ((off - 0x180) / 4) w
  else if 0x200 ≤ off ∧ off < 0x600 then
    let t := (off - 0x200) / 0x20
    let o := (off - 0x200) % 0x20
    if o = 0 then s.writeTimerCtrl t w
    else if o = 4 then s.writeTimerReg t TIMER_PERIOD.PERIOD w
    else if o = 8 then s.writeTimerReg t TIMER_START_LO.START w
    else if o = 0xC then s.writeTimerReg t TIMER_START_HI.START w
    else if o = 0x10 then s.writeTimerReg t TIMER_COUNT.COUNT w
    else s.plainReg w pgFire off []
  else if 0x600 ≤ off ∧ off < 0xA00 then
    let k := (off - 0x600) / 0x10
    let o := (off - 0x600) % 0x10
    if o = 0 then s.writeSchedCtrl k w
    else if o = 4 then s.writeSchedAt k SCHED_AT_LO.AT w
    else if o = 8 then s.writeSchedAt k SCHED_AT_HI.AT w
    else s.plainReg w pgFire off []
  else s.plainReg w pgFire off []

/-- A register of refill channel `c` (R282). -/
def State.writeRfl (s : State) (w : Wr) (p off c o : Nat) : State :=
  if o = 0x040 then s.writeRflCfg c w
  else if o = 0x044 then s.writeRflCtrl c w
  else if o = 0x05C then s.writeRflTail c w
  else if o = 0x04C ∨ o = 0x050 ∨ o = 0x054 ∨ (0x080 ≤ o ∧ o < 0x100) then s.writeRflReg c o w
  else s.plainReg w p off []

/-- A register of quad `q` (R94). -/
def State.writeQpll (s : State) (w : Wr) (p off q : Nat) : State :=
  if off = 0x040 then s.writeQpllCtrl q w
  else if off = 0x048 then s.writeBandCtl (some q) w
  else if 0x060 ≤ off ∧ off < 0x080 then s.writeBand (some q) ((off - 0x060) / 4) w
  else s.plainReg w p off []

/-! ### The AF pages -/

/-- A register of the AF page (R387). -/
def State.writeAfPage (s : State) (w : Wr) (off : Nat) : State :=
  let v := w.val.toNat
  if off = 0x048 then s.writeOvr 32 w
  else if off = 0x050 then s.plainReg w pgAf off (cause (outside (bits v 0 6) 1 63) 0x0001)
  else if off = 0x060 then s.writeTsetIdx w
  else if off = 0x084 then s.writeTsetD7 w
  else if 0x100 ≤ off ∧ off < 0x180 ∧ off % 0x10 ≠ 0xC then
    let g := (off - 0x100) / 0x10
    let busy := s.gridOn g || (List.range 8).any fun k => s.on DRV_STAT.START_PEND (8 * g + k)
    s.plainReg w pgAf off (cause (off % 0x10 == 0 && decide (bits v 0 20 < 250)) 0x0001 ++ cause busy 0x0003)
  else s.plainReg w pgAf off []

/-- The KIND and INDEX of a source lie outside their range (R364, R388). -/
def srcBad (v : Nat) : Bool :=
  let kind := bits v 28 4
  let index := bits v 16 10
  decide (3 < kind) || (kind == 0 && index != 0) || (decide (kind = 1 ∨ kind = 3) && decide (511 < index))

/-- A register of drive channel `d`, at offset `o` of its block (R388, R410, R411). -/
def State.writeDrvChan (s : State) (w : Wr) (p off d o : Nat) : State :=
  let v := w.val.toNat
  if o = 0x00 ∨ o = 0x04 then s.shadowReg w p off (cause (srcBad v) 0x0001)
  else if o = 0x18 then s.shadowReg w p off (cause (outside (bits v 0 24) 1000 10000000) 0x0001)
  else if o = 0x1C then s.shadowReg w p off (cause (bits v 0 23 == 0) 0x0001)
  else if o = 0x20 then s.writeDrvCtrl d w
  else if o = 0x80 then s.shadowReg w p off (cause (bits v 20 2 == 3) 0x0014)
  else if o = 0x88 then s.writeDacCtl d w
  else if o = 0x94 then s.lockedReg w p off (cause (decide (1025 < bits v 0 11)) 0x0014)
  else if o = 0x98 then s.writeTrim d w
  else if o = 0xA4 then s.plainReg w p off (cause (bits v 24 4 == 0 || outside (bits v 0 16) 1 0x7FFF) 0x0014)
  else if o = 0xA8 then s.plainReg w p off (cause (decide (bits v 0 16 < 10)) 0x0014)
  else s.plainReg w p off []

/-- A register of the DRV page of drive group `g` (R386, R388). -/
def State.writeDrvPage (s : State) (w : Wr) (p off g : Nat) : State :=
  let t := tabPt g
  if off = 0x040 then
    s.tabReg (s.plainReg w p off (cause (outside (bits w.val.toNat 0 5) 8 16) 0x0001 ++ cause (s.tabClosed t) 0x0006)) w t p
  else if off = 0x044 then s.writeTabCtl t w
  else if 0x100 ≤ off ∧ off < 0x900 then s.writeDrvChan w p off (8 * g + (off - 0x100) / 0x100) ((off - 0x100) % 0x100)
  else s.plainReg w p off []

/-- A register of the LOUPE page (R413). -/
def State.writeLoupe (s : State) (w : Wr) (off : Nat) : State :=
  let v := w.val.toNat
  if off = 0x040 then s.writeLoupeCtrl w
  else if 0x100 ≤ off ∧ off < 0x188 then s.plainReg w pgLoupe off (cause (bits v 24 4 == 0) 0x0001)
  else if 0x200 ≤ off ∧ off < 0x288 then
    s.plainReg w pgLoupe off (cause (decide (signed16 (bits v 16 16) ≤ signed16 (bits v 0 16))) 0x0001)
  else s.plainReg w pgLoupe off []

/-- A write of SNS_CFG of channel `c` (R417, R438): its fields, and a rising CAP_EN starts a capture. -/
def State.writeSnsCfg (s : State) (w : Wr) (p off c : Nat) : State :=
  let v := w.val.toNat
  let moves := bits v 31 1 != s.rd SNS_CFG.EN c || bits v 30 1 != s.rd SNS_CFG.FILT c || bits v 28 2 != s.rd SNS_CFG.HPF c
  s.write w p off [] fun t =>
    let u := t.plainWrite p (fieldsAt p off) v (cause (bits v 28 2 == 3) 0x0001 ++ cause (moves && s.cpInUse c) 0x0003)
    if u.on SNS_CFG.CAP_EN c && !s.on SNS_CFG.CAP_EN c then u.modSense c fun x => { x with cap0 := true, losing := false } else u

/-- A register of the SNS page of bank `b` (R419, R437, R438): a checker whose EN is set is armed. -/
def State.writeSns (s : State) (w : Wr) (p off b : Nat) : State :=
  let v := w.val.toNat
  let c := 8 * b + (off - 0x100) / 0x80
  let o := (off - 0x100) % 0x80
  if off = 0x040 then s.writeBankCfg b w
  else if off < 0x100 ∨ 0x500 ≤ off then s.plainReg w p off []
  else if o = 0 then s.writeSnsCfg w p off c
  else if o = 4 then
    s.write w p off [] fun t =>
      let u := t.plainWrite p (fieldsAt p off) v (cause (outside (bits v 24 5) 1 20 ||
        (bit v 2 && decide (s.rd SNS_BAND.BAND_HI c ≤ s.rd SNS_BAND.BAND_LO c))) 0x0001)
      u.modSense c fun x => { x with crossed := x.crossed.filter fun i =>
        !(bit (u.rd SNS_LIM_CFG.LIM_EN c) i && !bit (s.rd SNS_LIM_CFG.LIM_EN c) i) }
  else if o = 0x14 then
    s.plainReg w p off (cause (bit (s.rd SNS_LIM_CFG.LIM_EN c) 2 && decide (bits v 16 14 ≤ bits v 0 14)) 0x0001)
  else s.plainReg w p off []

/-- The value checks of a shadowed register of a Crown group (R422 to R439; MU's range is that of R431). -/
def State.crownValue (s : State) (k off v : Nat) : Bool :=
  if off = 0x040 then bits v 30 2 == 3 || decide (5 < bits v 26 3) || outside (bits v 0 16) 1 0x8000
  else if off = 0x044 then outside (bits v 16 7) 1 64 || outside (bits v 0 7) 1 64
  else if off = 0x048 then bits v 24 8 == 0
  else if off = 0x04C then outside (bits v 0 24) 1000 10000000
  else if off = 0x054 then decide (signed16 (bits v 0 16) < -6000 ∨ 1200 < signed16 (bits v 0 16))
  else if off = 0x058 then v == 0 && s.rd CROWN_SEED_HI.SEED k == 0
  else if off = 0x05C then v == 0 && s.rd CROWN_SEED_LO.SEED k == 0
  else if off = 0x060 then bits v 14 2 == 3
  else if off = 0x068 then outside (bits v 24 8) 1 50
  else if 0x070 ≤ off ∧ off < 0x080 then bits v 0 2 != 0
  else false

/-- A register of the CROWN page of group `k` (R439). -/
def State.writeCrown (s : State) (w : Wr) (p off k : Nat) : State :=
  if off = 0x080 then s.writeCrownCtrl k w
  else s.shadowReg w p off (cause (s.crownValue k off w.val.toNat) 0x0001)

/-! ### The Facets' pages -/

/-- A register of the FCT page of Facet `f` (R114). -/
def State.writeFct (s : State) (w : Wr) (p off f : Nat) : State :=
  if off = 0x048 then s.writeOvr f w
  else if off = 0x050 then s.plainReg w p off (cause (outside (bits w.val.toNat 0 9) 56 511) 0x0001)
  else if off = 0x054 then s.writeBezelClr f w
  else s.plainReg w p off []

/-- A SEG_STARVE value that is refused with VALUE_RANGE (R239, R251): a DRIVE engine takes no policy 2, and no policy 1 without a
bridge. -/
def State.starveValueBad (s : State) (e v : Nat) : Bool :=
  (s.rdA ENG_CFG.KIND e == 1 && (bits v 0 2 == 2 || (bits v 0 2 == 1 && !bit v 31)))

/-- The marks that window `i` would hold after a write of its register at offset `o` break R233. -/
def State.marksAfter (s : State) (i o v : Nat) : Bool :=
  let t := if o = 8 then (s.wr WIN_MARKS.HIGH_MARK i (bits v 16 16)).wr WIN_MARKS.LOW_MARK i (bits v 0 16)
    else (s.wr WIN_RESUME.WARN i (bits v 16 16)).wr WIN_RESUME.RESUME_MARK i (bits v 0 16)
  if o = 8 then
    decide (t.rd WIN_MARKS.HIGH_MARK i ≤ t.rd WIN_MARKS.LOW_MARK i ∨ t.rd WIN_SIZE.SIZE i < t.rd WIN_MARKS.HIGH_MARK i + 16)
  else
    outside (t.rd WIN_RESUME.RESUME_MARK i) 1 (t.rd WIN_MARKS.HIGH_MARK i) ||
      decide (t.rd WIN_SIZE.SIZE i < t.rd WIN_RESUME.WARN i)

/-- A register of window `n` of Facet `f`, at offset `o` of its block (R233, R251, R253). -/
def State.writeWin (s : State) (w : Wr) (p off f n o : Nat) : State :=
  let v := w.val.toNat
  let i := winId f n
  if o = 0 then s.writeWinCfg f n w
  else if o = 4 then s.plainReg w p off (cause (outside (bits v 0 16) 32 32768) 0x0001 ++ cause (s.on WIN_CFG.EN i) 0x0003)
  else if o = 8 then (s.plainReg w p off (cause (s.marksAfter i 8 v) 0x0001)).settleWin f n
  else if o = 0xC then s.plainReg w p off (cause (s.marksAfter i 0xC v) 0x0001)
  else s.plainReg w p off []

/-- A register of the SEG page of Facet `f` (R251). -/
def State.writeSeg (s : State) (w : Wr) (p off f : Nat) : State :=
  let v := w.val.toNat
  if off = 0x050 then s.writeDirCmd f w
  else if off = 0x064 then s.plainReg w p off (cause (decide (bits v 0 16 < 16)) 0x0001)
  else if off = 0x06C then s.writeSegClr f w
  else if 0x080 ≤ off ∧ off < 0x0C0 then
    let e := 16 * f + (off - 0x080) / 4
    s.plainReg w p off (cause (s.starveValueBad e v) 0x0001 ++ cause (s.engBusy e) 0x0006)
  else if 0x200 ≤ off ∧ off < 0x600 then s.writeWin w p off f ((off - 0x200) / 0x20) ((off - 0x200) % 0x20)
  else s.plainReg w p off []

/-- A register of engine `e`, at offset `o` of its block (R148, R194). -/
def State.writeEng (s : State) (w : Wr) (p off e o : Nat) : State :=
  let v := w.val.toNat
  if o = 0x048 then s.shadowReg w p off (cause (bits v 16 2 == 3) 0x0002)
  else if o = 0x054 then s.writeEngCtrl e w
  else if o = 0x0C8 ∨ o = 0x0CC then s.plainReg { w with val := w.val &&& 0x8F3F8F3F#32 } p off []
  else if o = 0x0D0 then s.plainReg w p off (cause (s.rdA ENG_CFG.KIND e == 0 && decide (2 ≤ bits v 8 2)) 0x0002)
  else if o = 0x170 then s.writeEngRedir e w
  else if o = 0x180 then s.writeEngBrCtrl e w
  else s.plainReg w p off []

/-- A register of APG `a`, at offset `o` of its block (R306). -/
def State.writeApgReg (s : State) (w : Wr) (p off a o : Nat) : State :=
  if o = 0x048 then s.writeTabCtl (tabApg a) w
  else if o = 0x058 then s.writeApgIdx a w
  else if o = 0x05C then s.writeApgData0 a w
  else if o = 0x060 then s.writeApgData1 a w
  else if 0x080 ≤ o ∧ o < 0x180 ∧ (o - 0x080) % 0x10 = 0 then s.writePhCtl a ((o - 0x080) / 0x10) w
  else if 0x080 ≤ o ∧ o < 0x180 ∧ (o - 0x080) % 0x10 = 4 then s.writePhData a ((o - 0x080) / 0x10) w
  else if 0x180 ≤ o ∧ o < 0x200 ∧ (o - 0x180) % 0x20 < 0x1C then s.writeShape a o w
  else if 0x200 ≤ o ∧ o < 0x2C0 then s.writeScramble a ((o - 0x200) / 4) w
  else s.plainReg w p off []

/-- A value that no entry `i` of a template takes (R302). -/
def templateBad (i v : Nat) : Bool :=
  if i < 8 then (List.range 4).any fun b => bits v (8 * b + 6) 2 != 3 && bits v (8 * b) 6 != 0
  else if i < 10 then false
  else bits v 0 2 == 3 || v &&& 0xFFFFFFEC != 0

/-- A register of lane `l`, at offset `o` of its block (R308, R333). -/
def State.writeLane (s : State) (w : Wr) (p off l o : Nat) : State :=
  let v := w.val.toNat
  let t := tabLane l
  if o = 0x040 then s.shadowReg w p off (cause (bits v 24 3 == 0) 0x0001)
  else if o = 0x044 then s.writeLaneCtrl l w
  else if o = 0x068 then
    let t := s.plainReg w p off (cause (outside (bits v 16 10) 10 1000 || outside (bits v 0 8) 1 63) 0x0001)
    if t.eyeOk l then t else t.modLphy l fun q => { q with eyeFrom := none }
  else if o = 0x090 then s.plainReg w p off (cause (decide (bits v 0 16 < 2)) 0x0001)
  else if o = 0x204 then s.writeTabCtl t w
  else if 0x240 ≤ o ∧ o < 0x26C then
    let i := (o - 0x240) / 4
    s.tabReg (s.write w p off (cause (templateBad i v) 0x0011 ++ cause (s.tabClosed t) 0x0012) fun s => s.tabWrite t i v) w t p
  else s.plainReg w p off []

/-- A register of the CMP page of Facet `f` (R357). -/
def State.writeCmp (s : State) (w : Wr) (p off f : Nat) : State :=
  if off = 0x048 then s.writeCmpClr f w
  else if 0x100 ≤ off ∧ off < 0x300 then
    let o := (off - 0x100) % 0x40
    if o = 0 then s.plainReg w p off (cause (bits w.val.toNat 28 2 == 3) 0x0001)
    else if o = 0x1C then s.writeCmpCap (8 * f + (off - 0x100) / 0x40) w
    else s.plainReg w p off []
  else s.plainReg w p off []

/-! ### A write of window A (R43, R563) -/

/-- A write of a register of the pages below 0x040. -/
def State.writeHub (s : State) (w : Wr) (p off meas : Nat) (ok : Bool) : State :=
  let b := (pageMap p).1
  let u := (unitAt p off).1
  let o := (unitAt p off).2
  match b with
  | 0x01 => s.writeDev w off
  | 0x02 => s.writeTb w off
  | 0x03 => s.writeTpll w off
  | 0x04 => if off = 0x040 then s.writePwrReq w else s.plainReg w p off []
  | 0x05 => s.writeCal w off meas
  | 0x06 => s.writeSec w off ok
  | 0x07 => s.writeJrn w off
  | 0x08 => s.writeCas off w
  | 0x09 => if off = 0x048 then s.writeHostDrop w else s.plainReg w p off []
  | 0x0A => s.writeLus w off
  | 0x10 => if 0x040 ≤ off ∧ off < 0x240 then s.writeFireCh (128 * u + (off - 0x040) / 4) w else s.plainReg w p off []
  | 0x11 => s.writeFireG w off
  | 0x12 => if off = 0x05C then s.writeRflGclr w else s.plainReg w p off []
  | _ => s.writeRfl w p off u o

/-- A write of a register of the other pages. -/
def State.writeUnit (s : State) (w : Wr) (p off : Nat) : State :=
  let b := (pageMap p).1
  let u := (unitAt p off).1
  let o := (unitAt p off).2
  match b with
  | 0x14 => s.writeQpll w p off u
  | 0x20 => s.writeAfPage w off
  | 0x21 => s.writeDrvPage w p off u
  | 0x22 => s.writeLoupe w off
  | 0x23 => s.writeSns w p off u
  | 0x24 => s.writeCrown w p off u
  | 0x30 => s.writeFct w p off u
  | 0x31 => s.writeSeg w p off u
  | 0x32 => s.writeEng w p off u o
  | 0x33 => s.writeApgReg w p off u o
  | 0x34 => s.writeLane w p off u o
  | 0x35 => s.writeCmp w p off u
  | _ => s.plainReg w p off []

/-- A write of the register at byte offset `off` of page `p`. A calibration run's measurement and a verification, which the write's own
commands carry as operands, are free values here. -/
def State.regAt (s : State) (w : Wr) (p off : Nat) : State :=
  if off < 0x40 then s.writeHead w p off
  else if (pageMap p).1 < 0x14 ∧ (pageMap p).1 ≠ 0 then
    if p = pgCal ∨ p = pgSec then s.draw.2.writeHub w p off (s.draw.1 % 2 ^ 32) (bit s.draw.1 32)
    else s.writeHub w p off 0 true
  else s.writeUnit w p off

/-- The registers whose writes can change an addressed memory: PWR_REQ, SEC_CMD, TSET_D7 and RFL_CTRL. -/
def memReg (p off : Nat) : Bool :=
  (p == pgPwr && off == 0x040) || (p == pgSec && off == 0x044) || (p == pgAf && off == 0x084) ||
    ((pageMap p).1 == 0x13 && decide (0x40 ≤ off) && (unitAt p off).2 == 0x044)

/-- A write of the register at byte address `addr` of window A. -/
def State.regWrite (s : State) (w : Wr) (addr : Nat) : State :=
  let p := addr / 4096
  let off := addr % 4096 / 4 * 4
  if memReg p off then s.regAt w p off else { s with chip := (s.regAt w p off).chip }

/-- REGISTER_WRITE (R43, R563): a write of the register at byte address `addr` of window A. -/
def execRegisterWrite (w : Wr) (addr : BitVec 22) (s : State) : Host.Outcome State Fault Refusal := chipMem s (s.regWrite w addr.toNat)

/-! ### A write of window B (R48, R49) -/

/-- Granule of the store that a payload or side offset lies in. -/
def granuleAt (o : Nat) : Nat := if o < 0x00800000 then o / 64 else (o - 0x00800000) / 16

/-- The store granule belongs to an enabled window or to an entry whose check is sealed (R227, R229). -/
def State.granuleHeld (s : State) (f g : Nat) : Bool := s.sealed f g || s.meetsWindow f g 1 32

/-- The bytes of a write that its byte enables select, at region offset `o`; side bits [7:4] are ignored (R48). -/
def enabledBytes (w : Wr) (o : Nat) : List (Nat × Nat) :=
  let v := w.val.toNat
  ((List.range 4).filter fun i => w.be.getLsbD i).map fun i =>
    (i, if 0x00800000 ≤ o ∧ o < 0x00A00000 then bits v (8 * i) 4 else bits v (8 * i) 8)

/-- A write of the dword at byte address `a` of window B. -/
def State.memWrite (s : State) (w : Wr) (a : Nat) : State :=
  let f := a / 0x02000000
  let o := a % 0x02000000 / 4 * 4
  if !s.reaches w.req then s
  else if !offMapped o || s.dev == 1 || !s.domOn f || s.facetBusy f || (decide (o < 0x00A00000) && s.granuleHeld f (granuleAt o)) then
    s.drop 1 w.req a
  else
    let t0 := (enabledBytes w o).foldl (fun t b => t.setMemB (facetBase f + o + b.1) b.2) s
    let t := if o < 0x00A00000 then t0.lineWritten f (lineAt o) false else t0
    if 0x01000000 ≤ o then t.stepTouched f ((o - 0x01000000) / 16) else t

/-- WINDOW_B_WRITE (R49): the enabled bytes change, or the write is dropped. -/
def execWindowBWrite (w : Wr) (addr : BitVec 30) (s : State) : Host.Outcome State Fault Refusal := chipMem s (s.memWrite w addr.toNat)

/-! ### Tunnelled accesses (R66, R484) -/

/-- A tunnelled access carried out here: 1 DONE or 2 DROPPED, the value read, and the state after it. -/
def State.tunnelDo (s : State) (winB write : Bool) (addr : Nat) (val : Word) (ecc : Ecc) : Nat × Nat × State :=
  if write then
    let w : Wr := { req := .tunnel, be := 0xF, val := val }
    let s0 := s.wr HOST_DROP.COUNT 0 0
    let go := fun (u : State) => if winB then u.memWrite w addr else u.regWrite w (addr % 2 ^ 22)
    (if (go s0).rd HOST_DROP.COUNT 0 = 0 then 1 else 2, 0, go s)
  else if winB then
    let r := s.readB addr ecc
    (1, r.1, r.2.2)
  else
    let r := s.readReg .tunnel (addr % 2 ^ 22 / 4096) (addr % 4096 / 4 * 4)
    (1, r.1, r.2)

/-- TUNNEL_ACCESS_EXEC (R66, R484): a tunnelled request from the UP port: this device's own is carried out and answered, any other goes
down, or is answered UNREACHABLE (3) when the DOWN port has no link in SERVICE. -/
def execTunnelAccessExec (target : Fin 16) (winB write : Bool) (addr : BitVec 30) (val : Word) (ecc : Ecc) (s : State) :
    Host.Outcome State Fault Refusal :=
  chipMem s <|
    if !s.portUsed false then s
    else if s.on CAS_STAT.ADDR_VALID 0 && s.ownAddr == target.val then
      let r := s.tunnelDo winB write addr.toNat val ecc
      r.2.2.casQueue false 7 [r.1, r.2.1]
    else if s.portUsed true then s.casRelay true 6 [target.val, flag winB, flag write, addr.toNat, val.toNat]
    else s.casQueue false 7 [3, 0]

end Sys2Proof.Machine
end

