-- ==== Sys2Proof/Machine/Bringup.lean ====
section
/-!
DEFINITION. Machine/Bringup.lean: reset and the straps (R509 to R511), the boot script (R517 to R520), CALCHECK (R454, R455) and
TRAINING (R513, R516).
-/

namespace Sys2Proof.Machine

/-! ### Reset (R510) -/

/-- The state after a reset of the whole device: POR, every register and queue at its reset value and the volatile memories empty. What
lies outside the device stays: the flash, the levels of PERST_N and CLR_N, what has been sent, and OTP's revocation (R505). -/
def State.toPor (s : State) (b : Bring) : State :=
  let r : State := { s with epoch := 0, mem := { flash := s.mem.flash }, chip := { out := s.out, freeCtr := s.freeCtr } }
  (((r.wr SEC_STAT.REVOKED 0 (s.rd SEC_STAT.REVOKED 0)).wr LOUPE_CLR_STAT.CLR_N_ASSERTED 0
    (s.rd LOUPE_CLR_STAT.CLR_N_ASSERTED 0)).setHostp { perst := s.hostp.perst, training := !s.hostp.perst }).setBring b

/-- RESET_N_ASSERT (R510): RESET_N has been low for 10 µs. -/
def execResetNAssert (s : State) : Host.Outcome State Fault Refusal :=
  .next { s.toPor { held := true, released := none } with pending := s.pending }

/-- SUPPLY_MONITOR_RESET (R510): the effect of RESET_N. POR runs from here unless RESET_N is low. -/
def execSupplyMonitorReset (s : State) : Host.Outcome State Fault Refusal :=
  .next { s.toPor { held := s.bring.held, released := if s.bring.held then none else some s.tb } with pending := s.pending }

/-- RESET_N_RELEASE (R510): the 1 ms to the samples, and the time of R516, start. -/
def execResetNRelease (s : State) : Host.Outcome State Fault Refusal :=
  chipOnly s (if s.bring.held then s.modBring fun b => { b with held := false, released := some s.tb } else s)

/-! ### The boot script (R517 to R520) -/

/-- OP of a boot record's OPW. -/
def bootOp (r : Nat × Nat × Nat) : Nat := bits r.1 28 4

/-- The records of a payload of `left` bytes at flash address `a`, to END; 128 bytes follow a SIG record (R519). -/
def State.bootRecs (s : State) : Nat → Nat → Nat → List (Nat × Nat × Nat)
  | 0, _, _ => []
  | n + 1, a, left =>
    if left < 12 then []
    else
      let r := (s.flashD a, s.flashD (a + 4), s.flashD (a + 8))
      if bootOp r = 15 then [r]
      else if bootOp r = 14 then r :: s.bootRecs n (a + 140) (left - 140)
      else r :: s.bootRecs n (a + 12) (left - 12)

/-- Boot slot `k`, and whether it is valid (R456). -/
def bootBase (k : Nat) : Nat := 0x100000 * k
def State.bootValid (s : State) (k : Nat) : Bool := (s.slotTest (bootBase k) 0x100000 0x01010000).1

/-- The slot the loader takes (R517): the valid one with the higher GEN, slot 0 on a tie. -/
def State.bootSlot (s : State) : Option Nat :=
  let g := fun k => s.flashD (bootBase k + 4)
  match s.bootValid 0, s.bootValid 1 with
  | true, true => some (if g 0 < g 1 then 1 else 0)
  | true, false => some 0
  | false, true => some 1
  | false, false => none

/-- The script may run (R519): a device with a boot key takes only one whose one SIG record stands directly before END, whose public key
has the hash that OTP holds, and whose signature over the SHA-256 of every payload byte before the SIG record checks. -/
def State.bootSigned (s : State) (k : Nat) (rs : List (Nat × Nat × Nat)) : Bool :=
  let at' := 12 * (rs.length - 2)
  let base := bootBase k + 0x100
  let num := fun (i : Nat) => beNat (s.flashBytes (base + at' + 12 + 32 * i) 32)
  ((rs.filter fun r => bootOp r == 14).length == 1) && ((rs.drop (rs.length - 2)).map bootOp == [14, 15]) &&
    leNat (sha256 (s.flashBytes (base + at' + 12) 64)) == Config.bootHash % 2 ^ 256 &&
    ecdsaOk (num 0) (num 1) (beNat (sha256 (s.flashBytes base at'))) (num 2) (num 3)

/-- The boot ends with a result, and CALCHECK begins (R513). -/
def State.bootDone (s : State) (result : Nat) : State :=
  ((s.wr DEV_BOOT.RESULT 0 result).wr DEV_STATE.STATE 0 3).modBring fun b => { b with script := [], busy := none }

/-- BOOT begins with the script of slot `k` (R517, R519). -/
def State.bootLoad (s : State) (k : Nat) : State :=
  let len := s.flashD (bootBase k + 8)
  let rs := s.bootRecs (len / 12 + 1) (bootBase k + 0x100) len
  let sigs := (rs.filter fun r => bootOp r == 14).length
  let s1 := s.wr DEV_BOOT.SLOT 0 k
  let keyed := Config.bootHash % 2 ^ 256 != 0
  if keyed && !s.bootSigned k rs then s1.bootDone 4
  else
    (s1.wr DEV_BOOT.SIGNED 0 (flag keyed)).modBring fun b =>
      { b with script := rs, index := 0, whole := (len - 128 * sigs) % 12 == 0, gen := s.flashD (bootBase k + 4), busy := none }

/-- The straps and the role as they are sampled (R472, R511). -/
def State.sampleStraps (s : State) (testN hostSel masterSel enumHigh : Bool) (mode : Nat) : State :=
  let s1 := s.wr DEV_STRAP.STRAPS 0 (16 * flag testN + 8 * flag hostSel + 2 * mode + flag masterSel)
  let s2 := if hostSel then s1 else s1.linkDown
  if masterSel || enumHigh then
    (((s2.wr CAS_STAT.MASTER 0 1).wr CAS_STAT.ADDR_VALID 0 1).setReach 1).modCas fun c => { c with frameAt := s.tb }
  else s2

/-- What SFDP gives (R448, R457). -/
def State.readSfdp (s : State) (ok : Bool) (jedec log2 : Nat) : State :=
  let s1 := ((s.wr CAL_STAT.FLASH_OK 0 (flag ok)).wr CAL_FL_ID.JEDEC 0 jedec).wr CAL_FL_ID.LOG2_SIZE 0 log2
  if ok then s1 else s1.raise pgCal 7

/-- POR_COMPLETE (R511, R513, R517): 1 ms (500,000 tk) after the release the straps and the role are sampled and BOOT begins; TEST_N low
keeps the device in POR. `flashOk`, `jedec` and `log2` are what the flash's SFDP gives. -/
def execPorComplete (testN hostSel masterSel enumHigh : Bool) (mode : Fin 4) (flashOk : Bool) (jedec : BitVec 24) (log2 : Fin 256)
    (s : State) : Host.Outcome State Fault Refusal :=
  chipMem s <|
    match s.bring.released with
    | some t =>
      if s.dev = 1 ∧ t + 500000 ≤ s.tb ∧ testN = true then
        let s1 := (s.sampleStraps testN hostSel masterSel enumHigh mode.val).wr DEV_STATE.STATE 0 2
        let s2 := s1.readSfdp flashOk jedec.toNat log2.val
        if mode.val = 0 then
          match (if flashOk then s2.bootSlot else none) with
          | some k => s2.bootLoad k
          | none => s2.bootDone 2
        else (if 2 ≤ mode.val then s2.raise pgDev 3 else s2).bootDone 2
      else s
    | none => s

/-- The record of a script run (R520): the slot, GEN, the result and the record count. -/
def State.bootRec (s : State) (code result : Nat) : State :=
  s.jrn 0x0E 0 code [.word (s.rd DEV_BOOT.SLOT 0), .word s.bring.gen, .word result, .word (s.rd DEV_BOOT.RECORDS 0)]

/-- The loader stops at the present record (R520): cause 1 RESERVED_REC, 2 REFUSED, 3 POLL_FAIL, 4 NO_END. -/
def State.bootFail (s : State) (c : Nat) : State :=
  let s1 := ((s.wr DEV_BOOT_ERR.CAUSE 0 c).wr DEV_BOOT_ERR.INDEX 0 (min 0xFFFF s.bring.index)).raise pgDev 3
  (s1.bootRec 0x1504 3).bootDone 3

/-- The present record is done: it is counted when it is one that runs, and the loader goes on. -/
def State.bootNext (s : State) (counted : Bool) : State :=
  (if counted then s.inc DEV_BOOT.RECORDS 0 else s).modBring fun b => { b with index := b.index + 1, busy := none }

/-- An access of the loader: a host access, whatever the function's power state and the host's own accesses (R518). -/
def State.asLoader (s : State) (k : State → State) : State :=
  (k (s.modHostp fun h => { h with d3hot := false, wrote := {} })).modHostp fun h =>
    { h with d3hot := s.hostp.d3hot, wrote := s.hostp.wrote }

/-- A write of the loader: whether its page refuses or drops it (R520), and the state after it. -/
def State.bootWrite (s : State) (addr v : Nat) : Bool × State :=
  let w : Wr := { req := .host, be := 0xF, val := BitVec.ofNat 32 v }
  let p := addr / 4096
  let probe := ((s.wr ERR_COUNT.COUNT p 0).wr HOST_DROP.COUNT 0 0).asLoader fun t => t.regWrite w addr
  (decide (probe.rd ERR_COUNT.COUNT p = 0 ∧ probe.rd HOST_DROP.COUNT 0 = 0), s.asLoader fun t => t.regWrite w addr)

/-- A WRITE or RMW record's write. -/
def State.bootStore (s : State) (addr v : Nat) : State :=
  let r := s.bootWrite addr v
  if r.1 then r.2.bootNext true else r.2.bootFail 2

/-- A read of the loader: the value, and the state after it. -/
def State.bootRead (s : State) (addr : Nat) : Nat × State :=
  ((s.readReg .host (addr / 4096) (addr % 4096 / 4 * 4)).1, (s.readReg .host (addr / 4096) (addr % 4096 / 4 * 4)).2)

/-- A record that is reserved (R518). -/
def bootReserved (r : Nat × Nat × Nat) : Bool :=
  let op := bootOp r
  match op with
  | 1 => r.2.2 != 0
  | 2 => false
  | 3 => decide (20 < bits r.1 22 6)
  | 4 => bits r.1 0 22 != 0 || r.2.2 != 0 || outside r.2.1 1 1000000
  | 14 => false
  | 15 => false
  | _ => true

/-- The record `r` of the script runs (R518). -/
def State.bootRun (s : State) (r : Nat × Nat × Nat) : State :=
  let addr := bits r.1 0 22
  if bootReserved r then s.bootFail 1
  else match bootOp r with
    | 1 => s.bootStore addr r.2.1
    | 2 =>
      let x := s.bootRead addr
      x.2.bootStore addr (x.1 &&& (0xFFFFFFFF ^^^ r.2.2) ||| r.2.1 &&& r.2.2)
    | 3 =>
      let x := s.bootRead addr
      if x.1 &&& r.2.2 = r.2.1 then x.2.bootNext true
      else if s.bring.busy.isSome then x.2 else x.2.modBring fun b => { b with busy := some (s.tb + 500 * 2 ^ bits r.1 22 6) }
    | 4 => if s.bring.busy.isSome then s else s.modBring fun b => { b with busy := some (s.tb + 500 * r.2.1) }
    | 14 => s.bootNext false
    | _ => if s.bring.whole then (s.bootRec 0x1505 1).bootDone 1 else s.bootFail 4

/-- BOOT_RECORD (R518): the loader runs the next record of the script; a POLL reads again. -/
def execBootRecord (s : State) : Host.Outcome State Fault Refusal :=
  chipMem s <|
    if s.dev = 2 then
      match s.bring.script[s.bring.index]? with
      | some r => s.bootRun r
      | none => s.bootFail 4
    else s

/-- The record in progress has operation `op`, and its end has come. -/
def State.bootDue (s : State) (op : Nat) : Bool :=
  s.dev == 2 && (match s.bring.script[s.bring.index]?, s.bring.busy with
    | some r, some t => bootOp r == op && decide (t ≤ s.tb)
    | _, _ => false)

/-- BOOT_POLL_TIMEOUT (R518): a POLL's 2^TMO µs are over. -/
def execBootPollTimeout (s : State) : Host.Outcome State Fault Refusal := chipOnly s (if s.bootDue 3 then s.bootFail 3 else s)

/-- BOOT_DELAY_END (R518): a DELAY's wait is over. -/
def execBootDelayEnd (s : State) : Host.Outcome State Fault Refusal := chipOnly s (if s.bootDue 4 then s.bootNext true else s)

/-! ### CALCHECK (R451, R454, R455, R456) -/

/-- The records of a calibration payload of `left` bytes at flash address `a`: ITEM, UNIT, SUB and the data. -/
def State.calRecs (s : State) : Nat → Nat → Nat → List (Nat × Nat × Nat × List Nat)
  | 0, _, _ => []
  | n + 1, a, left =>
    let k := s.flashD (a + 4)
    if left < 8 + 4 * k then []
    else
      let d := s.flashD a
      (bits d 24 8, bits d 0 16, bits d 16 3, (List.range k).map fun i => s.flashD (a + 8 + 4 * i)) ::
        s.calRecs n (a + 8 + 4 * k) (left - (8 + 4 * k))

/-- A record the engine takes (R451): its ITEM is known and its count matches. -/
def calTaken (r : Nat × Nat × Nat × List Nat) : Bool :=
  calKnown r.1 r.2.1 r.2.2.1 && decide (calCount r.1 r.2.2.1 = some r.2.2.2.length)

/-- Dword 0 of a record (R451). -/
def calHead (item unit sub : Nat) : Nat := 2 ^ 24 * item + 2 ^ 16 * sub + unit

/-- The calibration slot that is selected (R454). -/
def State.calSlot (s : State) : Option Nat :=
  if s.on CAL_STAT.FLASH_OK 0 then
    match s.slotValid 0, s.slotValid 1 with
    | true, true => some (if s.rd CAL_SLOT_GEN.GEN 0 < s.rd CAL_SLOT_GEN.GEN 1 then 1 else 0)
    | true, false => some 0
    | false, true => some 1
    | false, false => none
  else none

/-- The image of the records taken. -/
def calImage (rs : List (Nat × Nat × Nat × List Nat)) : List (Nat × List Nat) :=
  rs.foldl (fun l r => Sparse.put [] l (calKey r.1 r.2.1 r.2.2.1) r.2.2.2) []

/-- The items that the image does not hold: they come from OTP. -/
def State.otpItems (s : State) : List (Nat × Nat × Nat) :=
  calAll.filter fun x => Sparse.get [] s.cal.image (calKey x.1 x.2.1 x.2.2) == []

/-- The image loaded into every working register, and the band tables filled, closed and swapped (R90, R454). A UP skew from OTP is
not VALID (R482). -/
def State.calLoad (s : State) : State :=
  let s1 := calAll.foldl (fun t x => t.loadWorking x.1 x.2.1 x.2.2 (t.imageData x.1 x.2.1 x.2.2)) s
  let s2 := if s.otpItems.contains (9, 0, 0) then s1.loadSkew 0 (nth (s1.imageData 9 0 0) 0) 0 else s1
  let s3 := (s2.requestBand none).swapBand none
  (List.range 64).foldl (fun t q =>
    let u := t.swapBand (some q)
    if u.quadState q = 1 then u.quadAcquire q else u) s3

/-- The image taken from slot `k` (R454). -/
def State.calFromSlot (s : State) (k : Nat) : State :=
  let base := calSlotBase k
  let rs := s.calRecs (s.flashD (base + 8) / 8 + 1) (base + 0x100) (s.flashD (base + 8))
  let s1 := s.modCal fun c => { c with image := calImage (rs.filter calTaken) }
  let otp := s1.otpItems
  let s2 := ((s1.wr CAL_STAT.CAL_STATE 0 (k + 1)).wr CAL_STAT.PARTIAL 0 (flag (otp != []))).wr CAL_GEN.GEN 0 (s.flashD (base + 4))
  s2.jrn 0x08 0 0x110B ([.word (s.rd CAL_SLOT_STAT.VALID 0)] ++ otp.map (fun x => .word (calHead x.1 x.2.1 x.2.2)) ++
    (rs.filter fun r => !calTaken r).map fun r => .word (calHead r.1 r.2.1 r.2.2.1))

/-- The image taken from OTP alone (R455). -/
def State.calFromOtp (s : State) : State :=
  (((s.modCal fun c => { c with image := [] }).wr CAL_STAT.CAL_STATE 0 3).raise pgCal 5).jrn 0x08 0 0x1106
    [.word (s.rd CAL_SLOT_STAT.VALID 0)]

/-- The configuration area is valid (R456). -/
def State.configValid (s : State) : Bool := s.on CAL_STAT.FLASH_OK 0 && (s.slotTest 0x600000 0x100000 0x03010000).1

/-- CALCHECK_COMPLETE (R454, R455, R513): the image and the band tables are loaded, and the TPLL begins to acquire in CLOCKING (R70). -/
def execCalcheckComplete (s : State) : Host.Outcome State Fault Refusal :=
  chipOnly s <|
    if s.dev = 3 then
      let s1 := if s.on CAL_STAT.FLASH_OK 0 then s.slotShow else s
      let s2 := match s1.calSlot with | some k => s1.calFromSlot k | none => s1.calFromOtp
      let s3 := if s2.configValid then s2 else s2.raise pgCal 8
      let s4 := (s3.wr DEV_STATE.STATE 0 4).calLoad
      (s4.wr TB_STAT.TB_RUN 0 1).tpllAcquire
    else s

/-! ### TRAINING (R513, R516, R525) -/

/-- The islands and the quads that are not settled: an island that is ON without FLL_LOCK, a quad with EN 1 that is neither LOCKED nor
FAILED. -/
def State.unsettledIsl (s : State) : List Nat :=
  (List.range 33).filter fun i => s.domOn i && s.rdI FCT_CLK_STAT.FLL_LOCK AF_CLK_STAT.FLL_LOCK i == 0
def State.unsettledQuads (s : State) : List Nat :=
  (List.range 64).filter fun q => s.on QPLL_CTRL.EN q && s.quadState q != 2 && s.quadState q != 4

/-- TRAINING goes on: in the device state, or in DEBUG entered from bring-up (R525). -/
def State.inTraining (s : State) : Bool := s.dev == 5 || (s.dev == 9 && s.bring.stage == 5)

/-- Bring-up ends (R513): READY is entered from TRAINING; in DEBUG nothing more follows. -/
def State.trained (s : State) : State :=
  let s1 := s.modBring fun b => { b with stage := 6 }
  if s.dev = 5 then
    let us := match s.bring.released with | some t => (s.tb - t) / 500 | none => 0
    (((((s1.wr DEV_STATE.STATE 0 6).raise pgDev 0).wr DEV_READY_US.READY_US 0 (min 0xFFFFFF us)).jrn 0x0E 0 0x1501
      []).planStart).settleRun
  else s1

/-- TRAINING_SETTLED (R513): every island that is ON and every enabled quad has settled. -/
def execTrainingSettled (s : State) : Host.Outcome State Fault Refusal :=
  chipOnly s (if s.inTraining && s.unsettledIsl == [] && s.unsettledQuads == [] then s.trained else s)

/-- A list of numbers below 64 as a mask. -/
def maskOf (xs : List Nat) : Nat := xs.foldl (fun m x => m ||| 2 ^ x) 0

/-- TRAINING_TIMEOUT (R513): 5 ms (2,500,000 tk) in TRAINING; the record names each island and quad that was not settled. -/
def execTrainingTimeout (s : State) : Host.Outcome State Fault Refusal :=
  chipOnly s <|
    if s.inTraining && decide (s.bring.trainFrom + 2500000 ≤ s.tb) then
      let s1 := (s.raise pgDev 4).jrn 0x0E 0 0x1506 [.tick (maskOf s.unsettledIsl), .tick (maskOf s.unsettledQuads)]
      s1.trained
    else s

/-- DEV_CLOCK_WAIT (R516): still in CLOCKING 80 ms (40,000,000 tk) after the release; raised once. -/
def execDevClockWait (s : State) : Host.Outcome State Fault Refusal :=
  chipOnly s <|
    match s.bring.released with
    | some t =>
      if s.dev = 4 ∧ t + 40000000 ≤ s.tb ∧ s.bring.told = false then (s.modBring fun b => { b with told := true }).raise pgDev 6 else s
    | none => s

end Sys2Proof.Machine
end

