-- ==== Sys2Proof/Machine/Girdle.lean ====
section
/-!
DEFINITION. Machine/Girdle.lean: the Girdle's directions, classes, census and slots (R110 to R112, R275) and the segment stores' banks
(R113).
-/

namespace Sys2Proof.Machine

/-! ### The Girdle (R110 to R112) -/

/-- The Facet at a Girdle stop, none at the hub and the AF. -/
def stopFacet (n : Nat) : Option Nat := if n = 0 ∨ n = 17 then none else if n < 17 then some (n - 1) else some (n - 2)

/-- A flit from stop `a` to stop `b` travels toward rising stop numbers: the direction with fewer hops, and that one where both are equal
(R110). -/
def girdleUp (a b : Nat) : Bool := decide ((b + 34 - a) % 34 ≤ 17)

/-- The stop of a side of a descriptor: its Facet's, the AF's, or the hub's (R96, R110, R255, R354). -/
def Side.stop (x : Side) : Nat := if x.space = 1 ∨ x.space = 2 ∨ x.space = 3 then islandOf x.facet else if x.space = 4 then 17 else 0

/-- The stops at which channel `c` has a burst queued while it is RUNNING (R275), each with the stop it is bound for: the hub's, for a
burst toward an island; its source's, for data it has asked for there. -/
def State.burstStops (s : State) (c : Nat) : List (Nat × Nat) :=
  let src := s.rflSide c false
  let dst := s.rflSide c true
  if (s.rflc c).active ∧ s.rd RFL_STAT.STATE c = 3 then
    (if dst.stop ≠ 0 ∧ ((s.rflc c).stage.isSome = true ∨ (s.rflc c).buf ≠ []) then [(0, dst.stop)] else []) ++
      (if src.stop ≠ 0 ∧ (s.rflc c).reads ≠ [] then [(src.stop, 0)] else [])
  else []

/-- The refill channels with a burst queued at stop `n`, by channel, with the stop it is bound for. -/
def State.bulkAt (s : State) (n : Nat) : List (Nat × Nat) :=
  (List.range 64).flatMap fun c => ((s.burstStops c).filter fun b => b.1 == n).map fun b => (c, b.2)

/-- The active STREAM streams of a stop: its Facet's busy DRIVE engines, and 16 for a fail ring with spill pending. -/
def State.streams (s : State) (n : Nat) : List Nat :=
  match stopFacet n with
  | some f =>
    ((List.range 16).filter fun k => s.engBusy (16 * f + k) && s.engDrive (16 * f + k)) ++
      (if (s.cmp f).queue != [] then [16] else [])
  | none => []

/-- Slots per period of a class: CONTROL, STREAM, BULK. -/
def slotsOf (c : Nat) : Nat := if c = 0 then 16 else if c = 1 then 48 else 192

/-- The stop's counters when the totals of the last census arrive (R112), in 1/256 slot. -/
def Stop.quanta (x : Stop) (totals : List Nat) : Stop :=
  let quantum := fun c => if nth totals c = 0 then 0 else slotsOf c * 256 * nth x.n c / nth totals c
  { x with slots := [0, 0, 0, 0, 0, 0]
           deficit := (List.range 6).map fun k => min (2 * quantum (k % 3)) (nth x.deficit k + quantum (k % 3)) }

/-- A stop's counts and the ring totals shown to software (R114). -/
def State.showGirdle (s : State) (n : Nat) (counts totals : List Nat) : State :=
  match stopFacet n with
  | some f =>
    let s1 := ((s.wr FCT_GIRDLE_N.CONTROL f (nth counts 0)).wr FCT_GIRDLE_N.STREAM f (nth counts 1)).wr FCT_GIRDLE_N.BULK f (nth counts 2)
    ((s1.wr FCT_GIRDLE_TOT.CONTROL f (nth totals 0)).wr FCT_GIRDLE_TOT.STREAM f (nth totals 1)).wr FCT_GIRDLE_TOT.BULK f (nth totals 2)
  | none => s

/-- GIRDLE_CENSUS (R112): a period starts. The totals of the census before are announced and each stop adds its quanta; the
census collects the counts of active streams, by stop, each at most 63: the requesters with a register access queued (`ctl`), the streams
of class STREAM, and the refill channels with a burst queued with the window B accesses queued (`bulk`). -/
def execGirdleCensus (ctl bulk : List Nat) (s : State) : Host.Outcome State Fault Refusal :=
  chipOnly s <|
    let totals := (List.range 3).map s.totals
    let counts := fun n => [min 63 (nth ctl n), min 63 (s.streams n).length, min 63 ((s.bulkAt n).length + nth bulk n)]
    let s1 := (List.range 34).foldl (fun t n =>
      ((t.modStop n fun x => { (x.quanta totals) with n := counts n, winB := nth bulk n })).showGirdle n (counts n) totals) s
    (List.range 3).foldl (fun t c => t.setTotals c (((List.range 34).map fun n => nth (counts n) c).sum)) s1

/-- The stream after `last` in rotation. -/
def rotate (last : Nat) (xs : List Nat) : Option Nat :=
  match xs.find? (fun x => last < x) with
  | some x => some x
  | none => xs.head?

/-- The streams of class `c` at stop `n` whose flits travel in direction `dir`, toward rising stop numbers or the other way (R110, R111):
register and window B accesses leave the hub either way and come back to it; drive samples go to the AF, compare spill to the hub. -/
def State.streamsDir (s : State) (n c : Nat) (dir : Bool) : List Nat :=
  let access := fun (k : Nat) => if n = 0 ∨ girdleUp n 0 = dir then List.range k else []
  if c = 0 then access (nth (s.stop n).n 0)
  else if c = 1 then (s.streams n).filter fun m => girdleUp n (if m = 16 then 0 else 17) == dir
  else ((s.bulkAt n).filter fun b => girdleUp n b.2 == dir).map (·.1) ++ (access (s.stop n).winB).map (64 + ·)

/-- The index of class `c` in direction `dir` among a stop's counters. -/
def dirIx (c : Nat) (dir : Bool) : Nat := c + (if dir then 3 else 0)

/-- Stop `n` takes a slot as one of class `c` in direction `dir` (R112): a stream of the class waits there, and its counter holds a slot
or the slot is spare. -/
def State.takesSlot (s : State) (n c : Nat) (dir spare : Bool) : Bool :=
  s.streamsDir n c dir != [] && (spare || decide (256 ≤ nth (s.stop n).deficit (dirIx c dir)))

/-- The class as which stop `n` takes a slot of class `c`: its own; where no stop takes it so, CONTROL, then STREAM, then BULK (R111). -/
def State.slotClass (s : State) (n c : Nat) (dir spare : Bool) : Option Nat :=
  if (List.range 34).any fun m => s.takesSlot m c dir spare then (if s.takesSlot n c dir spare then some c else none)
  else [0, 1, 2].find? fun k => s.takesSlot n k dir spare

/-- GIRDLE_FLIT_INSERT (R110 to R112): a free slot of class `c` in direction `dir` (true: toward rising stop numbers) reaches the stop, one
of those its link offers in the period. The stop inserts a flit while its counter holds a slot, or without charge into a spare slot;
the streams of a class take turns. -/
def execGirdleFlitInsert (stop : Fin 34) (c : Fin 3) (dir spare : Bool) (s : State) : Host.Outcome State Fault Refusal :=
  chipOnly s <|
    let n := stop.val
    if nth (s.stop n).slots (dirIx c.val dir) < slotsOf c.val then
      let x : Stop := { s.stop n with slots := (s.stop n).slots.set (dirIx c.val dir) (nth (s.stop n).slots (dirIx c.val dir) + 1) }
      match s.slotClass n c.val dir spare with
      | some k =>
        match rotate (nth x.last k) (s.streamsDir n k dir) with
        | some m =>
          let j := dirIx k dir
          let s1 := s.setStop n { x with
            deficit := if spare then x.deficit else x.deficit.set j (nth x.deficit j - 256), last := x.last.set k m }
          match stopFacet n with
          | some f => if k = 1 ∧ m = 16 then s1.spillUnit f else s1
          | none => s1
        | none => s.setStop n x
      | none => s.setStop n x
    else s

/-! ### The segment stores' banks (R113) -/

/-- The bank of line `a` (R113). -/
def storeBankOf (a : Nat) : Nat := a % 4

/-- The store lines that the bytes [`a`, `b`) of an image in the side's format cover, each with whether only in part (R113, R256). -/
def Side.linesOf (x : Side) (a b : Nat) : List (Nat × Bool) :=
  if x.fmt = 0 then
    (List.range (b / 32 + 1 - a / 32)).filterMap fun i =>
      let l := a / 32 + i
      if 32 * l < b then some (l, decide (32 * l < a ∨ b < 32 * l + 32)) else none
  else
    (List.range (b / 68 + 1 - a / 68)).flatMap fun i =>
      let g := a / 68 + i
      if 68 * g < b then
        let part := decide (68 * g < a ∨ b < 68 * g + 68)
        [(2 * g, part), (2 * g + 1, part)]
      else []

/-- The lines of Facet `f`'s store that the bursts in the write stages are about to write, each with whether only in part. -/
def State.linesAsked (s : State) (f : Nat) : List (Nat × Bool) :=
  (List.range 64).flatMap fun c =>
    let x := s.rflSide c true
    match (s.rflc c).active, (s.rflc c).stage with
    | true, some bs =>
      if x.facet ≠ f then []
      else if x.space = 1 then x.linesOf (x.at' (s.rflc c).written) (x.at' (s.rflc c).written + bs.length)
      else if x.space = 3 then
        let n := s.winSlot f x.win (s.win (winId f x.win)).wp
        if x.granule ≤ (s.rflc c).part.length + bs.length then [(2 * n, false), (2 * n + 1, false)] else []
      else []
    | _, _ => []

/-- STORE_BANK_GRANT (R113): one cycle of a bank. The ports of the Facet's busy engines that `ports` names request a line of it; a refill
write waits when a burst in a write stage covers a line of the bank, or a window B access does (`refill`, and `part` where it covers part
of a line only). -/
def execStoreBankGrant (f : Fin 32) (bank : Fin 4) (ports : BitVec 16) (refill part : Bool) (s : State) :
    Host.Outcome State Fault Refusal :=
  chipOnly s <|
    let id := 4 * f.val + bank.val
    let x := s.sbank id
    let ask := (List.range 16).filter fun k => bit ports.toNat k && s.engBusy (16 * f.val + k)
    let lines := (s.linesAsked f.val).filter fun l => storeBankOf l.1 == bank.val
    let part := if refill then part else lines.any (·.2)
    let refill := refill || lines != []
    let waited := fun k => Sparse.get 0 x.waits k
    let later := fun (win : Option Nat) =>
      (ask.filter fun k => win != some k).map fun k => (k, waited k + 1)
    let wait1 := if refill then x.refill + 1 else 0
    if x.second then s.setSbank id { x with second := false, waits := later none, refill := wait1 }
    else if refill && (decide (3 ≤ x.refill) || ask == []) then
      let s1 := s.setSbank id { x with second := part, waits := later none, refill := 0 }
      if ask == [] then s1 else s1.inc FCT_STORE_ARB.REFILL_FORCED f.val
    else match rotate x.last ask with
      | some k =>
        (s.setSbank id { x with last := k, waits := later (some k), refill := wait1 }).wr FCT_STORE_ARB.ENG_WAIT_MAX f.val
          (max (s.rd FCT_STORE_ARB.ENG_WAIT_MAX f.val) (min 255 (waited k)))
      | none => s.setSbank id { x with waits := [], refill := 0 }

end Sys2Proof.Machine
end

