-- ==== Sys2Proof/Machine/Dispatch.lean ====
section
/-!
DEFINITION. Machine/Dispatch.lean: the meaning of a command, one arm per constructor.
-/

namespace Sys2Proof.Machine

/-- The effect of a command on everything but the queue. -/
def exec (i : Instr) (s : State) : Host.Outcome State Fault Refusal :=
  match i with
  | .epochTick => Sys2Proof.Machine.execEpochTick s
  | .tbEpochLoRead req => Sys2Proof.Machine.execTbEpochLoRead req s
  | .ppsInEdge falling sub => Sys2Proof.Machine.execPpsInEdge falling sub s
  | .ppsMissing => Sys2Proof.Machine.execPpsMissing s
  | .ppsEnable w => Sys2Proof.Machine.execPpsEnable w s
  | .ppsStampLoRead req => Sys2Proof.Machine.execPpsStampLoRead req s
  | .tbStatClr w => Sys2Proof.Machine.execTbStatClr w s
  | .tbConfirm w => Sys2Proof.Machine.execTbConfirm w s
  | .hLocalWrite w => Sys2Proof.Machine.execHLocalWrite w s
  | .registerWrite w addr => Sys2Proof.Machine.execRegisterWrite w addr s
  | .windowBWrite w addr => Sys2Proof.Machine.execWindowBWrite w addr s
  | .windowBRead req addr ecc => Sys2Proof.Machine.execWindowBRead req addr ecc s
  | .perstNAssert => Sys2Proof.Machine.execPerstNAssert s
  | .perstNRelease => Sys2Proof.Machine.execPerstNRelease s
  | .functionLevelReset => Sys2Proof.Machine.execFunctionLevelReset s
  | .d3hotEntry => Sys2Proof.Machine.execD3hotEntry s
  | .d0Return => Sys2Proof.Machine.execD0Return s
  | .hostLinkLoss => Sys2Proof.Machine.execHostLinkLoss s
  | .hostLinkUp width speed => Sys2Proof.Machine.execHostLinkUp width speed s
  | .commitArm p w => Sys2Proof.Machine.execCommitArm p w s
  | .commitHandover p n => Sys2Proof.Machine.execCommitHandover p n s
  | .lockKeyWrite p w => Sys2Proof.Machine.execLockKeyWrite p w s
  | .lockTimeout p => Sys2Proof.Machine.execLockTimeout p s
  | .irqForce p w => Sys2Proof.Machine.execIrqForce p w s
  | .devEoi w => Sys2Proof.Machine.execDevEoi w s
  | .msixEnable busMaster funcMask table => Sys2Proof.Machine.execMsixEnable busMaster funcMask table s
  | .msixMessageSend v => Sys2Proof.Machine.execMsixMessageSend v s
  | .errClear p w => Sys2Proof.Machine.execErrClear p w s
  | .hostDropClr w => Sys2Proof.Machine.execHostDropClr w s
  | .tunnelAccessExec target winB write addr val ecc => Sys2Proof.Machine.execTunnelAccessExec target winB write addr val ecc s
  | .tpllLocked => Sys2Proof.Machine.execTpllLocked s
  | .refQualGate ofs phase aux => Sys2Proof.Machine.execRefQualGate ofs phase aux s
  | .refEdgeTimeout => Sys2Proof.Machine.execRefEdgeTimeout s
  | .tpllAcquireTimeout => Sys2Proof.Machine.execTpllAcquireTimeout s
  | .slewComplete => Sys2Proof.Machine.execSlewComplete s
  | .tpllCycleSlip => Sys2Proof.Machine.execTpllCycleSlip s
  | .fineCodeLimit => Sys2Proof.Machine.execFineCodeLimit s
  | .tbSupervisorFault => Sys2Proof.Machine.execTbSupervisorFault s
  | .tpllFineMargin => Sys2Proof.Machine.execTpllFineMargin s
  | .holdoverTempCorrect => Sys2Proof.Machine.execHoldoverTempCorrect s
  | .auxLost => Sys2Proof.Machine.execAuxLost s
  | .tpllRestart w => Sys2Proof.Machine.execTpllRestart w s
  | .phaseSnap w => Sys2Proof.Machine.execPhaseSnap w s
  | .phaseSnapStep => Sys2Proof.Machine.execPhaseSnapStep s
  | .sweep w => Sys2Proof.Machine.execSweep w s
  | .sweepBandGate fmid mid => Sys2Proof.Machine.execSweepBandGate fmid mid s
  | .bandEntryWrite quad n w => Sys2Proof.Machine.execBandEntryWrite quad n w s
  | .bandClose quad w => Sys2Proof.Machine.execBandClose quad w s
  | .bandSwapAttempt quad => Sys2Proof.Machine.execBandSwapAttempt quad s
  | .qpllEnable q w => Sys2Proof.Machine.execQpllEnable q w s
  | .quadLocked q => Sys2Proof.Machine.execQuadLocked q s
  | .quadVtuneWarn q => Sys2Proof.Machine.execQuadVtuneWarn q s
  | .quadUnlock q => Sys2Proof.Machine.execQuadUnlock q s
  | .qpllRelock q w => Sys2Proof.Machine.execQpllRelock q w s
  | .relockAttemptTimeout q => Sys2Proof.Machine.execRelockAttemptTimeout q s
  | .afTbEdgeLoss => Sys2Proof.Machine.execAfTbEdgeLoss s
  | .facetFllUnlock clk => Sys2Proof.Machine.execFacetFllUnlock clk s
  | .laneOutputTick l => Sys2Proof.Machine.execLaneOutputTick l s
  | .engBezelWrite e => Sys2Proof.Machine.execEngBezelWrite e s
  | .fctPointMove isl => Sys2Proof.Machine.execFctPointMove isl s
  | .vmeasSettled isl vmeas => Sys2Proof.Machine.execVmeasSettled isl vmeas s
  | .fctFreqStep isl => Sys2Proof.Machine.execFctFreqStep isl s
  | .fctPointDeferred isl => Sys2Proof.Machine.execFctPointDeferred isl s
  | .fctOvrWrite isl w => Sys2Proof.Machine.execFctOvrWrite isl w s
  | .fctBezelClr f w => Sys2Proof.Machine.execFctBezelClr f w s
  | .girdleCensus ctl bulk => Sys2Proof.Machine.execGirdleCensus ctl bulk s
  | .girdleFlitInsert stop c dir spare => Sys2Proof.Machine.execGirdleFlitInsert stop c dir spare s
  | .storeBankGrant f bank ports refill part => Sys2Proof.Machine.execStoreBankGrant f bank ports refill part s
  | .engVerify e w => Sys2Proof.Machine.execEngVerify e w s
  | .engVerifyDone e ecc becc => Sys2Proof.Machine.execEngVerifyDone e ecc becc s
  | .engArm e w => Sys2Proof.Machine.execEngArm e w s
  | .engStart e w => Sys2Proof.Machine.execEngStart e w s
  | .engStartTick e => Sys2Proof.Machine.execEngStartTick e s
  | .engStop e w => Sys2Proof.Machine.execEngStop e w s
  | .engPark e w => Sys2Proof.Machine.execEngPark e w s
  | .engCtrlGate e w => Sys2Proof.Machine.execEngCtrlGate e w s
  | .gateArrive e => Sys2Proof.Machine.execGateArrive e s
  | .engStepBoundary e => Sys2Proof.Machine.execEngStepBoundary e s
  | .engFetch e item word data ln => Sys2Proof.Machine.execEngFetch e item word data ln s
  | .engFault e => Sys2Proof.Machine.execEngFault e s
  | .engDrainStart e => Sys2Proof.Machine.execEngDrainStart e s
  | .engStopTick e => Sys2Proof.Machine.execEngStopTick e s
  | .engEventRelease e => Sys2Proof.Machine.execEngEventRelease e s
  | .branchInputArrive e n => Sys2Proof.Machine.execBranchInputArrive e n s
  | .decisionResolve e => Sys2Proof.Machine.execDecisionResolve e s
  | .engRedirGo e w => Sys2Proof.Machine.execEngRedirGo e w s
  | .engRedirCancel e w => Sys2Proof.Machine.execEngRedirCancel e w s
  | .redirectStaged e => Sys2Proof.Machine.execRedirectStaged e s
  | .engBrClr e w => Sys2Proof.Machine.execEngBrClr e w s
  | .firePortEnqueue => Sys2Proof.Machine.execFirePortEnqueue s
  | .fireRouterMatch ports => Sys2Proof.Machine.execFireRouterMatch ports s
  | .firePortDeliver p => Sys2Proof.Machine.execFirePortDeliver p s
  | .fireSw w => Sys2Proof.Machine.execFireSw w s
  | .evtInEdge n falling sub => Sys2Proof.Machine.execEvtInEdge n falling sub s
  | .timerEnable t w => Sys2Proof.Machine.execTimerEnable t w s
  | .timerDisable t w => Sys2Proof.Machine.execTimerDisable t w s
  | .timerEvent t => Sys2Proof.Machine.execTimerEvent t s
  | .schedArm k w => Sys2Proof.Machine.execSchedArm k w s
  | .schedCancel k w => Sys2Proof.Machine.execSchedCancel k w s
  | .schedFire k => Sys2Proof.Machine.execSchedFire k s
  | .routeSlotWrite slot w => Sys2Proof.Machine.execRouteSlotWrite slot w s
  | .fireChWrite c w => Sys2Proof.Machine.execFireChWrite c w s
  | .routeCheckDone => Sys2Proof.Machine.execRouteCheckDone s
  | .fireOutCfgWrite n w => Sys2Proof.Machine.execFireOutCfgWrite n w s
  | .evtOutAct n => Sys2Proof.Machine.execEvtOutAct n s
  | .evtOutPulseEnd n => Sys2Proof.Machine.execEvtOutPulseEnd n s
  | .fireGclr w => Sys2Proof.Machine.execFireGclr w s
  | .farTx k => Sys2Proof.Machine.execFarTx k s
  | .farMessageReceive down ff origin stamp sub gen unc hops => Sys2Proof.Machine.execFarMessageReceive down ff origin stamp sub gen unc hops s
  | .apgAdvArrive a => Sys2Proof.Machine.execApgAdvArrive a s
  | .scrubStep f ecc other => Sys2Proof.Machine.execScrubStep f ecc other s
  | .segDirRead f w => Sys2Proof.Machine.execSegDirRead f w s
  | .segDirWrite f w => Sys2Proof.Machine.execSegDirWrite f w s
  | .segDirCheck f w => Sys2Proof.Machine.execSegDirCheck f w s
  | .segDirInvalidate f w => Sys2Proof.Machine.execSegDirInvalidate f w s
  | .segDirDone f errs => Sys2Proof.Machine.execSegDirDone f errs s
  | .winEnable f w x => Sys2Proof.Machine.execWinEnable f w x s
  | .winDisable f w x => Sys2Proof.Machine.execWinDisable f w x s
  | .winInitDone f w => Sys2Proof.Machine.execWinInitDone f w s
  | .segClr f w => Sys2Proof.Machine.execSegClr f w s
  | .tableClose t w => Sys2Proof.Machine.execTableClose t w s
  | .tableCloseDone t => Sys2Proof.Machine.execTableCloseDone t s
  | .tableReopen t w => Sys2Proof.Machine.execTableReopen t w s
  | .tableReopenEffect t => Sys2Proof.Machine.execTableReopenEffect t s
  | .tableSwap t => Sys2Proof.Machine.execTableSwap t s
  | .rflEnable c w => Sys2Proof.Machine.execRflEnable c w s
  | .rflDisable c w => Sys2Proof.Machine.execRflDisable c w s
  | .rflPost c w => Sys2Proof.Machine.execRflPost c w s
  | .rflClearShadow c w => Sys2Proof.Machine.execRflClearShadow c w s
  | .rflTrig c w => Sys2Proof.Machine.execRflTrig c w s
  | .rflClearTrig c w => Sys2Proof.Machine.execRflClearTrig c w s
  | .rflStatClr c w => Sys2Proof.Machine.execRflStatClr c w s
  | .rflResume c w => Sys2Proof.Machine.execRflResume c w s
  | .rflAbort c w => Sys2Proof.Machine.execRflAbort c w s
  | .rflStartArrive c => Sys2Proof.Machine.execRflStartArrive c s
  | .rflTailWrite c w => Sys2Proof.Machine.execRflTailWrite c w s
  | .ringFetchDone c entry => Sys2Proof.Machine.execRingFetchDone c entry s
  | .descActivate c => Sys2Proof.Machine.execDescActivate c s
  | .burstGrant => Sys2Proof.Machine.execBurstGrant s
  | .sourceReadDone c data errs => Sys2Proof.Machine.execSourceReadDone c data errs s
  | .burstWrite c => Sys2Proof.Machine.execBurstWrite c s
  | .barrierMet c err => Sys2Proof.Machine.execBarrierMet c err s
  | .descComplete c wbFail => Sys2Proof.Machine.execDescComplete c wbFail s
  | .apgIdxWrite a w => Sys2Proof.Machine.execApgIdxWrite a w s
  | .apgData1Write a w => Sys2Proof.Machine.execApgData1Write a w s
  | .laneEnable l w => Sys2Proof.Machine.execLaneEnable l w s
  | .laneDisable l w => Sys2Proof.Machine.execLaneDisable l w s
  | .laneAdmit l w => Sys2Proof.Machine.execLaneAdmit l w s
  | .laneRetrainCmd l w => Sys2Proof.Machine.execLaneRetrainCmd l w s
  | .laneResearch l w => Sys2Proof.Machine.execLaneResearch l w s
  | .laneClr l w => Sys2Proof.Machine.execLaneClr l w s
  | .rxdetStart l => Sys2Proof.Machine.execRxdetStart l s
  | .rxdetDone l term => Sys2Proof.Machine.execRxdetDone l term s
  | .squelchTimeout l => Sys2Proof.Machine.execSquelchTimeout l s
  | .inboundBlock l hdr payload => Sys2Proof.Machine.execInboundBlock l hdr payload s
  | .laneStateTimeout l => Sys2Proof.Machine.execLaneStateTimeout l s
  | .laneEyeCriteriaMet l => Sys2Proof.Machine.execLaneEyeCriteriaMet l s
  | .laneEchoReceive l id rtt => Sys2Proof.Machine.execLaneEchoReceive l id rtt s
  | .laneServiceEntry l => Sys2Proof.Machine.execLaneServiceEntry l s
  | .laneLeaveService l => Sys2Proof.Machine.execLaneLeaveService l s
  | .laneErrInterval l => Sys2Proof.Machine.execLaneErrInterval l s
  | .laneErrLimit l => Sys2Proof.Machine.execLaneErrLimit l s
  | .eqAdaptStep l tap move => Sys2Proof.Machine.execEqAdaptStep l tap move s
  | .eqStepRevert l height => Sys2Proof.Machine.execEqStepRevert l height s
  | .eyeMonitor l height width => Sys2Proof.Machine.execEyeMonitor l height width s
  | .eqStateStore l cdr => Sys2Proof.Machine.execEqStateStore l cdr s
  | .cmpRecord f => Sys2Proof.Machine.execCmpRecord f s
  | .cmpCaptureArm l w => Sys2Proof.Machine.execCmpCaptureArm l w s
  | .cmpCaptureTimeout l => Sys2Proof.Machine.execCmpCaptureTimeout l s
  | .cmpClr f w => Sys2Proof.Machine.execCmpClr f w s
  | .drvStart d w => Sys2Proof.Machine.execDrvStart d w s
  | .drvSoftStop d w => Sys2Proof.Machine.execDrvSoftStop d w s
  | .drvAck d w => Sys2Proof.Machine.execDrvAck d w s
  | .drvCntClr d w => Sys2Proof.Machine.execDrvCntClr d w s
  | .drvStopArrive d => Sys2Proof.Machine.execDrvStopArrive d s
  | .drvEntryTick d => Sys2Proof.Machine.execDrvEntryTick d s
  | .drvTaperStart d => Sys2Proof.Machine.execDrvTaperStart d s
  | .drvTaperEnd d => Sys2Proof.Machine.execDrvTaperEnd d s
  | .driveSampleTick d => Sys2Proof.Machine.execDriveSampleTick d s
  | .tsetIdxWrite w => Sys2Proof.Machine.execTsetIdxWrite w s
  | .tsetD7Write w => Sys2Proof.Machine.execTsetD7Write w s
  | .dacUnclamp d w => Sys2Proof.Machine.execDacUnclamp d w s
  | .unclampPhaseEnd d => Sys2Proof.Machine.execUnclampPhaseEnd d s
  | .dacClamp d w => Sys2Proof.Machine.execDacClamp d w s
  | .clampPhaseEnd d => Sys2Proof.Machine.execClampPhaseEnd d s
  | .dacRangeSet d w => Sys2Proof.Machine.execDacRangeSet d w s
  | .rangePhaseEnd d => Sys2Proof.Machine.execRangePhaseEnd d s
  | .dacSwLoad d w => Sys2Proof.Machine.execDacSwLoad d w s
  | .swLoadApply g => Sys2Proof.Machine.execSwLoadApply g s
  | .ldacNEdge g sub => Sys2Proof.Machine.execLdacNEdge g sub s
  | .ldacLoad g => Sys2Proof.Machine.execLdacLoad g s
  | .ldacMissing d => Sys2Proof.Machine.execLdacMissing d s
  | .thHoldEnd d => Sys2Proof.Machine.execThHoldEnd d s
  | .clrNAssert => Sys2Proof.Machine.execClrNAssert s
  | .clrNRelease => Sys2Proof.Machine.execClrNRelease s
  | .vddaHvLoss => Sys2Proof.Machine.execVddaHvLoss s
  | .loupeRead reading => Sys2Proof.Machine.execLoupeRead reading s
  | .dacTrimDataWrite d w => Sys2Proof.Machine.execDacTrimDataWrite d w s
  | .loupeCntClr w => Sys2Proof.Machine.execLoupeCntClr w s
  | .snsBankEnable b w => Sys2Proof.Machine.execSnsBankEnable b w s
  | .senseSample c raw ovr => Sys2Proof.Machine.execSenseSample c raw ovr s
  | .crownStart k w => Sys2Proof.Machine.execCrownStart k w s
  | .crownStop k w => Sys2Proof.Machine.execCrownStop k w s
  | .crownHoldCmd k w => Sys2Proof.Machine.execCrownHoldCmd k w s
  | .crownResume k w => Sys2Proof.Machine.execCrownResume k w s
  | .crownCmdArrive k stop => Sys2Proof.Machine.execCrownCmdArrive k stop s
  | .crownStartTick k => Sys2Proof.Machine.execCrownStartTick k s
  | .crownBezelWrite k => Sys2Proof.Machine.execCrownBezelWrite k s
  | .crownFrameBoundary k late => Sys2Proof.Machine.execCrownFrameBoundary k late s
  | .crownStopTick k => Sys2Proof.Machine.execCrownStopTick k s
  | .crownTaperDone k => Sys2Proof.Machine.execCrownTaperDone k s
  | .calRun w meas => Sys2Proof.Machine.execCalRun w meas s
  | .calRunPhaseEnd values => Sys2Proof.Machine.execCalRunPhaseEnd values s
  | .calTcRecord fine => Sys2Proof.Machine.execCalTcRecord fine s
  | .calStore w => Sys2Proof.Machine.execCalStore w s
  | .calAbort w => Sys2Proof.Machine.execCalAbort w s
  | .flashOpDone err => Sys2Proof.Machine.execFlashOpDone err s
  | .vddIoMonitorTrip => Sys2Proof.Machine.execVddIoMonitorTrip s
  | .vddIoMonitorRelease => Sys2Proof.Machine.execVddIoMonitorRelease s
  | .flRead w => Sys2Proof.Machine.execFlRead w s
  | .flProgram w => Sys2Proof.Machine.execFlProgram w s
  | .flErase4k w => Sys2Proof.Machine.execFlErase4k w s
  | .flErase64k w => Sys2Proof.Machine.execFlErase64k w s
  | .calcheckComplete => Sys2Proof.Machine.execCalcheckComplete s
  | .lusPlanTimer => Sys2Proof.Machine.execLusPlanTimer s
  | .lusReplan w => Sys2Proof.Machine.execLusReplan w s
  | .lusPlanComplete ages dlys => Sys2Proof.Machine.execLusPlanComplete ages dlys s
  | .casPortDetect down => Sys2Proof.Machine.execCasPortDetect down s
  | .casPortTrained down => Sys2Proof.Machine.execCasPortTrained down s
  | .casTrainTimeout down => Sys2Proof.Machine.execCasTrainTimeout down s
  | .casSquelchTimeout down => Sys2Proof.Machine.execCasSquelchTimeout down s
  | .casRetrainUp w => Sys2Proof.Machine.execCasRetrainUp w s
  | .casRetrainDn w => Sys2Proof.Machine.execCasRetrainDn w s
  | .casBlockSend down => Sys2Proof.Machine.execCasBlockSend down s
  | .enumFrameSend => Sys2Proof.Machine.execEnumFrameSend s
  | .enumFrameReceive value good => Sys2Proof.Machine.execEnumFrameReceive value good s
  | .casTimeSend => Sys2Proof.Machine.execCasTimeSend s
  | .casTimeReceive ttx epochState tpll aligned frac => Sys2Proof.Machine.execCasTimeReceive ttx epochState tpll aligned frac s
  | .casStatusReceive down addr pend result turn => Sys2Proof.Machine.execCasStatusReceive down addr pend result turn s
  | .casAlign w => Sys2Proof.Machine.execCasAlign w s
  | .casAlignMsgReceive target at' => Sys2Proof.Machine.execCasAlignMsgReceive target at' s
  | .syncOutPulse => Sys2Proof.Machine.execSyncOutPulse s
  | .syncInEdge sub => Sys2Proof.Machine.execSyncInEdge sub s
  | .syncWaitTimeout => Sys2Proof.Machine.execSyncWaitTimeout s
  | .casThetaStep => Sys2Proof.Machine.execCasThetaStep s
  | .casAlignTimeout => Sys2Proof.Machine.execCasAlignTimeout s
  | .casHoldTimeout => Sys2Proof.Machine.execCasHoldTimeout s
  | .casTunGo w => Sys2Proof.Machine.execCasTunGo w s
  | .casTunResponse result rdata => Sys2Proof.Machine.execCasTunResponse result rdata s
  | .casTunTimeout => Sys2Proof.Machine.execCasTunTimeout s
  | .casJrnReceive record => Sys2Proof.Machine.execCasJrnReceive record s
  | .casProbeReceive down => Sys2Proof.Machine.execCasProbeReceive down s
  | .casEchoReceive down rtt => Sys2Proof.Machine.execCasEchoReceive down rtt s
  | .casClr w => Sys2Proof.Machine.execCasClr w s
  | .jrnRecord => Sys2Proof.Machine.execJrnRecord s
  | .jrnFlush w => Sys2Proof.Machine.execJrnFlush w s
  | .jrnSealTimer => Sys2Proof.Machine.execJrnSealTimer s
  | .jrnSealDone => Sys2Proof.Machine.execJrnSealDone s
  | .jrnCntClr w => Sys2Proof.Machine.execJrnCntClr w s
  | .jrnEnable w => Sys2Proof.Machine.execJrnEnable w s
  | .secUnwrap w => Sys2Proof.Machine.execSecUnwrap w s
  | .secWrap w => Sys2Proof.Machine.execSecWrap w s
  | .secErase w verified => Sys2Proof.Machine.execSecErase w verified s
  | .secDbgSession w verified => Sys2Proof.Machine.execSecDbgSession w verified s
  | .secDbgPermanent w verified => Sys2Proof.Machine.execSecDbgPermanent w verified s
  | .tapDbgReq permanent confirm verified => Sys2Proof.Machine.execTapDbgReq permanent confirm verified s
  | .dbgConfirmTimeout => Sys2Proof.Machine.execDbgConfirmTimeout s
  | .resetNAssert => Sys2Proof.Machine.execResetNAssert s
  | .supplyMonitorReset => Sys2Proof.Machine.execSupplyMonitorReset s
  | .porComplete testN hostSel masterSel enumHigh mode flashOk jedec log2 => Sys2Proof.Machine.execPorComplete testN hostSel masterSel enumHigh mode flashOk jedec log2 s
  | .bootRecord => Sys2Proof.Machine.execBootRecord s
  | .bootPollTimeout => Sys2Proof.Machine.execBootPollTimeout s
  | .bootDelayEnd => Sys2Proof.Machine.execBootDelayEnd s
  | .trainingSettled => Sys2Proof.Machine.execTrainingSettled s
  | .trainingTimeout => Sys2Proof.Machine.execTrainingTimeout s
  | .devClockWait => Sys2Proof.Machine.execDevClockWait s
  | .devEnterSafe w => Sys2Proof.Machine.execDevEnterSafe w s
  | .thermalSafe => Sys2Proof.Machine.execThermalSafe s
  | .devExitSafe w => Sys2Proof.Machine.execDevExitSafe w s
  | .pwrRequest w => Sys2Proof.Machine.execPwrRequest w s
  | .pwrQuiesceDone d => Sys2Proof.Machine.execPwrQuiesceDone d s
  | .pwrQuiesceTimeout d => Sys2Proof.Machine.execPwrQuiesceTimeout d s
  | .pwrRetry d => Sys2Proof.Machine.execPwrRetry d s
  | .pwrRestoreDone d => Sys2Proof.Machine.execPwrRestoreDone d s
  | .avsWriteRetry rail acked => Sys2Proof.Machine.execAvsWriteRetry rail acked s
  | .resetNRelease => Sys2Proof.Machine.execResetNRelease s
  | .completionTimeout c ring => Sys2Proof.Machine.execCompletionTimeout c ring s
  | .vddaHvValid => Sys2Proof.Machine.execVddaHvValid s
  | .fllLock clk => Sys2Proof.Machine.execFllLock clk s

end Sys2Proof.Machine
end

