-- ==== Sys2Proof/WellFormed.lean ====
section
/-!
DEFINITION. WellFormed.lean: the commands the outside can give. Units, balls and addresses are bounded by their types; the
checks here are the ones a type does not say: window A and window B addresses are those of a dword (R7, R48), a census and a plan
name every stop of the Girdle (R112, R463), and a place within a tick lies within its 2000 ps (R3).
-/

namespace Sys2Proof

/-- A command the outside can give. -/
def Instr.wellFormed (i : Instr) : Bool :=
  match i with
  | .epochTick => true
  | .tbEpochLoRead _ => true
  | .ppsInEdge _ _ => true
  | .ppsMissing => true
  | .ppsEnable _ => true
  | .ppsStampLoRead _ => true
  | .tbStatClr _ => true
  | .tbConfirm _ => true
  | .hLocalWrite _ => true
  | .registerWrite _ addr => addr.toNat % 4 == 0
  | .windowBWrite _ addr => addr.toNat % 4 == 0
  | .windowBRead _ addr _ => addr.toNat % 4 == 0
  | .perstNAssert => true
  | .perstNRelease => true
  | .functionLevelReset => true
  | .d3hotEntry => true
  | .d0Return => true
  | .hostLinkLoss => true
  | .hostLinkUp _ _ => true
  | .commitArm _ _ => true
  | .commitHandover _ _ => true
  | .lockKeyWrite _ _ => true
  | .lockTimeout _ => true
  | .irqForce _ _ => true
  | .devEoi _ => true
  | .msixEnable _ _ _ => true
  | .msixMessageSend _ => true
  | .errClear _ _ => true
  | .hostDropClr _ => true
  | .tunnelAccessExec _ _ _ addr _ _ => addr.toNat % 4 == 0
  | .tpllLocked => true
  | .refQualGate _ _ _ => true
  | .refEdgeTimeout => true
  | .tpllAcquireTimeout => true
  | .slewComplete => true
  | .tpllCycleSlip => true
  | .fineCodeLimit => true
  | .tbSupervisorFault => true
  | .tpllFineMargin => true
  | .holdoverTempCorrect => true
  | .auxLost => true
  | .tpllRestart _ => true
  | .phaseSnap _ => true
  | .phaseSnapStep => true
  | .sweep _ => true
  | .sweepBandGate _ _ => true
  | .bandEntryWrite _ _ _ => true
  | .bandClose _ _ => true
  | .bandSwapAttempt _ => true
  | .qpllEnable _ _ => true
  | .quadLocked _ => true
  | .quadVtuneWarn _ => true
  | .quadUnlock _ => true
  | .qpllRelock _ _ => true
  | .relockAttemptTimeout _ => true
  | .afTbEdgeLoss => true
  | .facetFllUnlock _ => true
  | .laneOutputTick _ => true
  | .engBezelWrite _ => true
  | .fctPointMove _ => true
  | .vmeasSettled _ _ => true
  | .fctFreqStep _ => true
  | .fctPointDeferred _ => true
  | .fctOvrWrite _ _ => true
  | .fctBezelClr _ _ => true
  | .girdleCensus ctl bulk => ctl.length == 34 && bulk.length == 34
  | .girdleFlitInsert _ _ _ _ => true
  | .storeBankGrant _ _ _ _ _ => true
  | .engVerify _ _ => true
  | .engVerifyDone _ _ _ => true
  | .engArm _ _ => true
  | .engStart _ _ => true
  | .engStartTick _ => true
  | .engStop _ _ => true
  | .engPark _ _ => true
  | .engCtrlGate _ _ => true
  | .gateArrive _ => true
  | .engStepBoundary _ => true
  | .engFetch _ _ _ _ _ => true
  | .engFault _ => true
  | .engDrainStart _ => true
  | .engStopTick _ => true
  | .engEventRelease _ => true
  | .branchInputArrive _ _ => true
  | .decisionResolve _ => true
  | .engRedirGo _ _ => true
  | .engRedirCancel _ _ => true
  | .redirectStaged _ => true
  | .engBrClr _ _ => true
  | .firePortEnqueue => true
  | .fireRouterMatch _ => true
  | .firePortDeliver _ => true
  | .fireSw _ => true
  | .evtInEdge _ _ _ => true
  | .timerEnable _ _ => true
  | .timerDisable _ _ => true
  | .timerEvent _ => true
  | .schedArm _ _ => true
  | .schedCancel _ _ => true
  | .schedFire _ => true
  | .routeSlotWrite _ _ => true
  | .fireChWrite _ _ => true
  | .routeCheckDone => true
  | .fireOutCfgWrite _ _ => true
  | .evtOutAct _ => true
  | .evtOutPulseEnd _ => true
  | .fireGclr _ => true
  | .farTx _ => true
  | .farMessageReceive _ _ _ _ _ _ _ _ => true
  | .apgAdvArrive _ => true
  | .scrubStep _ _ _ => true
  | .segDirRead _ _ => true
  | .segDirWrite _ _ => true
  | .segDirCheck _ _ => true
  | .segDirInvalidate _ _ => true
  | .segDirDone _ _ => true
  | .winEnable _ _ _ => true
  | .winDisable _ _ _ => true
  | .winInitDone _ _ => true
  | .segClr _ _ => true
  | .tableClose _ _ => true
  | .tableCloseDone _ => true
  | .tableReopen _ _ => true
  | .tableReopenEffect _ => true
  | .tableSwap _ => true
  | .rflEnable _ _ => true
  | .rflDisable _ _ => true
  | .rflPost _ _ => true
  | .rflClearShadow _ _ => true
  | .rflTrig _ _ => true
  | .rflClearTrig _ _ => true
  | .rflStatClr _ _ => true
  | .rflResume _ _ => true
  | .rflAbort _ _ => true
  | .rflStartArrive _ => true
  | .rflTailWrite _ _ => true
  | .ringFetchDone _ _ => true
  | .descActivate _ => true
  | .burstGrant => true
  | .sourceReadDone _ _ _ => true
  | .burstWrite _ => true
  | .barrierMet _ _ => true
  | .descComplete _ _ => true
  | .apgIdxWrite _ _ => true
  | .apgData1Write _ _ => true
  | .laneEnable _ _ => true
  | .laneDisable _ _ => true
  | .laneAdmit _ _ => true
  | .laneRetrainCmd _ _ => true
  | .laneResearch _ _ => true
  | .laneClr _ _ => true
  | .rxdetStart _ => true
  | .rxdetDone _ _ => true
  | .squelchTimeout _ => true
  | .inboundBlock _ _ _ => true
  | .laneStateTimeout _ => true
  | .laneEyeCriteriaMet _ => true
  | .laneEchoReceive _ _ _ => true
  | .laneServiceEntry _ => true
  | .laneLeaveService _ => true
  | .laneErrInterval _ => true
  | .laneErrLimit _ => true
  | .eqAdaptStep _ _ _ => true
  | .eqStepRevert _ _ => true
  | .eyeMonitor _ _ _ => true
  | .eqStateStore _ _ => true
  | .cmpRecord _ => true
  | .cmpCaptureArm _ _ => true
  | .cmpCaptureTimeout _ => true
  | .cmpClr _ _ => true
  | .drvStart _ _ => true
  | .drvSoftStop _ _ => true
  | .drvAck _ _ => true
  | .drvCntClr _ _ => true
  | .drvStopArrive _ => true
  | .drvEntryTick _ => true
  | .drvTaperStart _ => true
  | .drvTaperEnd _ => true
  | .driveSampleTick _ => true
  | .tsetIdxWrite _ => true
  | .tsetD7Write _ => true
  | .dacUnclamp _ _ => true
  | .unclampPhaseEnd _ => true
  | .dacClamp _ _ => true
  | .clampPhaseEnd _ => true
  | .dacRangeSet _ _ => true
  | .rangePhaseEnd _ => true
  | .dacSwLoad _ _ => true
  | .swLoadApply _ => true
  | .ldacNEdge _ _ => true
  | .ldacLoad _ => true
  | .ldacMissing _ => true
  | .thHoldEnd _ => true
  | .clrNAssert => true
  | .clrNRelease => true
  | .vddaHvLoss => true
  | .loupeRead _ => true
  | .dacTrimDataWrite _ _ => true
  | .loupeCntClr _ => true
  | .snsBankEnable _ _ => true
  | .senseSample _ _ _ => true
  | .crownStart _ _ => true
  | .crownStop _ _ => true
  | .crownHoldCmd _ _ => true
  | .crownResume _ _ => true
  | .crownCmdArrive _ _ => true
  | .crownStartTick _ => true
  | .crownBezelWrite _ => true
  | .crownFrameBoundary _ _ => true
  | .crownStopTick _ => true
  | .crownTaperDone _ => true
  | .calRun _ _ => true
  | .calRunPhaseEnd _ => true
  | .calTcRecord _ => true
  | .calStore _ => true
  | .calAbort _ => true
  | .flashOpDone _ => true
  | .vddIoMonitorTrip => true
  | .vddIoMonitorRelease => true
  | .flRead _ => true
  | .flProgram _ => true
  | .flErase4k _ => true
  | .flErase64k _ => true
  | .calcheckComplete => true
  | .lusPlanTimer => true
  | .lusReplan _ => true
  | .lusPlanComplete ages dlys => ages.length == 34 && dlys.length == 34
  | .casPortDetect _ => true
  | .casPortTrained _ => true
  | .casTrainTimeout _ => true
  | .casSquelchTimeout _ => true
  | .casRetrainUp _ => true
  | .casRetrainDn _ => true
  | .casBlockSend _ => true
  | .enumFrameSend => true
  | .enumFrameReceive _ _ => true
  | .casTimeSend => true
  | .casTimeReceive _ _ _ _ frac => decide (0 ≤ frac ∧ frac < 2000)
  | .casStatusReceive _ _ _ _ _ => true
  | .casAlign _ => true
  | .casAlignMsgReceive _ _ => true
  | .syncOutPulse => true
  | .syncInEdge _ => true
  | .syncWaitTimeout => true
  | .casThetaStep => true
  | .casAlignTimeout => true
  | .casHoldTimeout => true
  | .casTunGo _ => true
  | .casTunResponse _ _ => true
  | .casTunTimeout => true
  | .casJrnReceive _ => true
  | .casProbeReceive _ => true
  | .casEchoReceive _ _ => true
  | .casClr _ => true
  | .jrnRecord => true
  | .jrnFlush _ => true
  | .jrnSealTimer => true
  | .jrnSealDone => true
  | .jrnCntClr _ => true
  | .jrnEnable _ => true
  | .secUnwrap _ => true
  | .secWrap _ => true
  | .secErase _ _ => true
  | .secDbgSession _ _ => true
  | .secDbgPermanent _ _ => true
  | .tapDbgReq _ _ _ => true
  | .dbgConfirmTimeout => true
  | .resetNAssert => true
  | .supplyMonitorReset => true
  | .porComplete _ _ _ _ _ _ _ _ => true
  | .bootRecord => true
  | .bootPollTimeout => true
  | .bootDelayEnd => true
  | .trainingSettled => true
  | .trainingTimeout => true
  | .devClockWait => true
  | .devEnterSafe _ => true
  | .thermalSafe => true
  | .devExitSafe _ => true
  | .pwrRequest _ => true
  | .pwrQuiesceDone _ => true
  | .pwrQuiesceTimeout _ => true
  | .pwrRetry _ => true
  | .pwrRestoreDone _ => true
  | .avsWriteRetry _ _ => true
  | .resetNRelease => true
  | .completionTimeout _ _ => true
  | .vddaHvValid => true
  | .fllLock _ => true

end Sys2Proof
end

