-- ==== Sys2Proof/Safety.lean ====
section
/-!
DEFINITION. Safety.lean: what a step does, in the terms claims use, and the invariants every step keeps.
-/

namespace Sys2Proof.Machine

/-! ### Invariants -/

/-- The memory keeps its canonical form: addresses strictly rising, and no entry equal to what an unlisted byte reads. -/
def Mem.wf (m : Mem) : Bool :=
  Sparse.wf (0 : BitVec 8) m.winB && Sparse.wf (0 : BitVec 8) m.af && Sparse.wf (0xFF : BitVec 8) m.flash

/-! ### Completion and acceptance -/

/-- A command completes at `s` in a next state that `P` holds of. -/
def Gives (c : Instr) (s : State) (P : State → Prop) : Prop := ∃ t, exec c s = .next t ∧ P t

/-- A register write to page `p` reaches the function (R42), the page is ready (R47), and the access itself meets no cause of refusal:
all byte enables (R44), and no tunnelled write to the SEC or HOST page (R66). -/
abbrev Accepted (s : State) (w : Wr) (p : Nat) : Prop := s.reaches w.req = true ∧ s.ready p = true ∧ accessCodes w p = []

/-- IRQ_STAT of page `p` has taken the event of bit `b`. -/
abbrev Raised (t : State) (p b : Nat) : Prop := (t.rd IRQ_STAT.BITS p).testBit b = true

/-- Page `p` has taken one refusal of code `c` (R61): LAST holds it, FIRST too where it held 0, and the count has advanced. -/
abbrev Refused (s t : State) (p c : Nat) : Prop :=
  t.rd ERR_CODE.LAST p = c ∧ t.rd ERR_CODE.FIRST p = (if s.rd ERR_CODE.FIRST p = 0 then c else s.rd ERR_CODE.FIRST p % 2 ^ 16) ∧
    t.rd ERR_COUNT.COUNT p = min 0xFFFF (s.rd ERR_COUNT.COUNT p + 1)

/-- `t` ends with one record more than `s` has: of the class, index and code given (R492, R557). -/
def Recorded (s t : State) (cls index code : Nat) : Prop :=
  ∃ r, t.recs = s.recs ++ [r] ∧ r.cls = cls ∧ r.index = index ∧ r.code = code

/-! ### Frames -/

/-- Of the units that `f` reads before and `g` after, none but unit `i` has changed. -/
def Others {α : Type} (f g : Nat → α) (i : Nat) : Prop := ∀ j, j ≠ i → g j = f j

/-- Every stored field but those of `fs` reads in `t` as in `s`, and so does every active copy of a shadowed field. -/
def FieldsKept (s t : State) (fs : List (Fld × Nat)) : Prop :=
  (∀ (f : Fld) (i : Nat), (∀ g ∈ fs, f.key i ≠ g.1.key g.2) → t.rd f i = s.rd f i) ∧ ∀ (f : Fld) (i : Nat), t.rdA f i = s.rdA f i

/-- `t` differs from `s` in nothing but the fields of `fs`, the host port's note of the access and its message bits, and records
still on their way to the journal: no unit, no queue, no memory, no time. -/
def Frame (s t : State) (fs : List (Fld × Nat)) : Prop :=
  FieldsKept s t fs ∧
    t = { s with chip := { s.chip with regs := t.chip.regs, hostp := t.chip.hostp, recs := t.chip.recs } }

end Sys2Proof.Machine
end

