-- ==== Sys2Proof/Certificates/Slice0/Obligations.lean ====
section
/-!
DEFINITION. Certificates/Slice0/Obligations.lean: the statements for the provers.
-/

open Sys2Proof Sys2Proof.Machine

/-- A step runs the command at the front of the queue. For every command and state, a step of a state with that command at the front of its queue is exec of the command on the state with the rest of the queue. Where the rules leave room the clauses state the model's readings (log entries 3) -/
def Obligations.StepRunsFrontCommand : Prop :=
  ∀ (c : Instr) (rest : List Instr) (s : State),
        s.pending = c :: rest → step s = exec c { s with pending := rest }

/-- The epoch, its read, and the PPS capture. EPOCH_TICK advances the epoch by one modulo 2^64 while it counts, leaves a STOPPED epoch where it is, and on the first tick after the first lock starts it at 0 with EPOCH_STATE VALID; an analogue Facet due to leave its fallback oscillator leaves it at the tick noted for it and not before; TB_EPOCH_LO_READ returns the low half and latches the high half for its requester; an enabled PPS edge is captured with its stamp, its interval, its count, OVERRUN where the last capture was not read, PPS_CAPTURE and its record; PPS_MISSING is raised 1.5 s after the last capture, and marked so that it is not raised again before another; a PPS_EN that changes from 0 to 1 clears PPS_INTERVAL and PPS_COUNT and forgets the previous capture for the interval; PPS_STAMP_LO_READ returns the low half of the captured tick and latches the high half and SUB. Where the rules leave room the clauses state the model's readings (log entries 3) -/
def Obligations.EpochAndPpsCommands : Prop :=
  (∀ (s : State),
    s.bring.epochNext = false →
    s.rd TB_STAT.EPOCH_STATE 0 ≠ 0 ∨ s.cas.counting = true →
    s.bring.afBack.all (fun e => decide ((s.epoch + 1) % 2 ^ 64 < e)) = true →
    Gives (.epochTick) s fun t =>
      t = { s with epoch := (s.epoch + 1) % 2 ^ 64, tb := s.tb + 1 }) ∧
  (∀ (e : Nat) (s : State),
    s.bring.epochNext = false →
    s.bring.afBack = some e →
    e ≤ (if s.counting then (s.epoch + 1) % 2 ^ 64 else s.epoch) →
    Gives (.epochTick) s fun t =>
      (t.epoch = if s.counting then (s.epoch + 1) % 2 ^ 64 else s.epoch) ∧
      (t.rd AF_STAT.FALLBACK 0 = 0 ∧ t.bring = { s.bring with afBack := none } ∧ t.tb = s.tb + 1) ∧
      FieldsKept s t [(AF_STAT.FALLBACK, 0)] ∧
      t = { s with epoch := t.epoch, tb := t.tb, chip := { s.chip with regs := t.chip.regs, bring := t.chip.bring } }) ∧
  (∀ (s : State),
    s.bring.epochNext = false →
    s.rd TB_STAT.EPOCH_STATE 0 = 0 →
    s.cas.counting = false →
    s.bring.afBack.all (fun e => decide (s.epoch < e)) = true →
    Gives (.epochTick) s fun t =>
      t = { s with tb := s.tb + 1 }) ∧
  (∀ (s : State),
    s.bring.epochNext = true →
    s.rd TB_STAT.EPOCH_STATE 0 = 0 →
    Gives (.epochTick) s fun t =>
      t.epoch = 0 ∧
      t.tb = s.tb + 1 ∧
      t.rd TB_STAT.EPOCH_STATE 0 = 1 ∧
      t.bring.epochNext = false ∧
      FieldsKept s t [(TB_STAT.EPOCH_STATE, 0)] ∧
      t = { s with epoch := 0, tb := s.tb + 1, chip := { s.chip with regs := t.chip.regs, bring := t.chip.bring, prodq := t.chip.prodq } }) ∧
  (∀ (req : Req) (s : State),
    s.reaches req = true →
    s.ready pgTb = true →
    Gives (.tbEpochLoRead req) s fun t =>
      (match req with | .host => t.tbu.eLatchHost | .tunnel => t.tbu.eLatchTunnel) = s.epoch / 2 ^ 32 ∧
      t.out = s.out ++ [.readData (decide (req = .tunnel)) (s.epoch % 2 ^ 32) false] ∧
      t = { s with chip := { s.chip with tbu := t.chip.tbu, out := t.chip.out } }) ∧
  (∀ (falling : Bool) (sub : Fin 8) (s : State),
    s.on TB_CTRL.PPS_EN 0 = true →
    s.on TB_CTRL.PPS_EDGE 0 = falling →
    Gives (.ppsInEdge falling sub) s fun t =>
      (t.tbu.capT = s.epoch ∧ t.tbu.capSub = sub.val ∧ t.tbu.unread = true) ∧
      t.rd PPS_STAMP_LO.PPS_LO 0 = s.epoch % 2 ^ 32 ∧
      (t.rd PPS_INTERVAL.INTERVAL 0 =
        if s.tbu.since then min 0xFFFFFFFF (s.epoch * 8 + sub.val - (s.tbu.capT * 8 + s.tbu.capSub)) else 0) ∧
      t.rd PPS_STAT.PPS_COUNT 0 = (s.rd PPS_STAT.PPS_COUNT 0 + 1) % 2 ^ 24 ∧
      t.rd PPS_STAT.VALID 0 = 1 ∧
      (s.tbu.unread = true → t.rd PPS_STAT.OVERRUN 0 = 1) ∧
      Raised t pgTb 0 ∧
      Recorded s t 0x05 66 0x0101 ∧
      FieldsKept s t [(PPS_STAMP_LO.PPS_LO, 0), (PPS_INTERVAL.INTERVAL, 0), (PPS_STAT.PPS_COUNT, 0), (PPS_STAT.VALID, 0), (PPS_STAT.OVERRUN, 0), (IRQ_STAT.BITS, pgTb)] ∧
      t = { s with chip := { s.chip with regs := t.chip.regs, tbu := t.chip.tbu, hostp := t.chip.hostp, recs := t.chip.recs } }) ∧
  (∀ (s : State),
    s.on TB_CTRL.PPS_EN 0 = true →
    s.tbu.missed = false →
    s.tbu.watchFrom + 750000000 ≤ s.tb →
    Gives (.ppsMissing) s fun t =>
      t.tbu = { s.tbu with missed := true } ∧
      Raised t pgTb 3 ∧
      FieldsKept s t [(IRQ_STAT.BITS, pgTb)] ∧
      t = { s with chip := { s.chip with regs := t.chip.regs, tbu := t.chip.tbu, hostp := t.chip.hostp } }) ∧
  (∀ (w : Wr) (s : State),
    Accepted s w pgTb →
    bit w.val.toNat 0 = false ∨ s.rd TPLL_STAT.STATE 0 = 1 →
    s.on TB_CTRL.PPS_EN 0 = false →
    Gives (.ppsEnable w) s fun t =>
      t.rd TB_CTRL.PPS_EN 0 = 1 ∧
      t.rd TB_CTRL.PPS_EDGE 0 = flag (bit w.val.toNat 2) ∧
      (t.rd PPS_INTERVAL.INTERVAL 0 = 0 ∧ t.rd PPS_STAT.PPS_COUNT 0 = 0) ∧
      t.tbu = { s.tbu with since := false, watchFrom := s.tb } ∧
      (bit w.val.toNat 0 = false → bit w.val.toNat 3 = false → FieldsKept s t [(TB_CTRL.PPS_EN, 0), (TB_CTRL.PPS_EDGE, 0),
        (PPS_INTERVAL.INTERVAL, 0), (PPS_STAT.PPS_COUNT, 0), (HOST_STAT.COLLIDE_COUNT, 0)]) ∧
      t = { s with chip := { s.chip with regs := t.chip.regs, tbu := t.chip.tbu, hostp := t.chip.hostp, recs := t.chip.recs, prodq := t.chip.prodq } }) ∧
  (∀ (req : Req) (s : State),
    s.reaches req = true →
    s.ready pgTb = true →
    Gives (.ppsStampLoRead req) s fun t =>
      t.out = s.out ++ [.readData (decide (req = .tunnel)) (s.rd PPS_STAMP_LO.PPS_LO 0) false] ∧
      t.rd PPS_STAMP_HI.PPS_HI 0 = s.tbu.capT / 2 ^ 32 % 2 ^ 32 ∧
      t.rd PPS_STAT.SUB 0 = s.tbu.capSub % 8 ∧
      t.tbu = { s.tbu with unread := false } ∧
      FieldsKept s t [(PPS_STAMP_HI.PPS_HI, 0), (PPS_STAT.SUB, 0)] ∧
      t = { s with chip := { s.chip with regs := t.chip.regs, tbu := t.chip.tbu, out := t.chip.out } })

/-- The writes of the TB page. STAT_CLR clears LATE_COUNT and MAX_AGE and stores PPS_EN and PPS_EDGE as written; CONFIRM with the TPLL LOCKED ends UNCERTAIN with its record on the master or a standalone device, changes EPOCH_STATE in no other case, and is refused with code 3, with no effect, when the TPLL is not LOCKED; H_LOCAL takes a value of 96 or more while no engine is busy, and is refused, and not changed, with code 1 below 96 and with code 2 while one is busy. Where the rules leave room the clauses state the model's readings (log entries 3) -/
def Obligations.TbPageWrites : Prop :=
  (∀ (w : Wr) (s : State),
    Accepted s w pgTb →
    bit w.val.toNat 0 = false ∨ s.rd TPLL_STAT.STATE 0 = 1 →
    Gives (.tbStatClr w) s fun t =>
      (t.rd H_STAT.LATE_COUNT 0 = 0 ∧ t.rd H_STAT.MAX_AGE 0 = 0) ∧
      (t.rd TB_CTRL.PPS_EN 0 = flag (bit w.val.toNat 1) ∧ t.rd TB_CTRL.PPS_EDGE 0 = flag (bit w.val.toNat 2)) ∧
      (bit w.val.toNat 0 = false → t.recs = s.recs) ∧
      t = { s with chip := { s.chip with regs := t.chip.regs, tbu := t.chip.tbu, hostp := t.chip.hostp, recs := t.chip.recs, prodq := t.chip.prodq } }) ∧
  (∀ (w : Wr) (s : State),
    Accepted s w pgTb →
    s.rd TPLL_STAT.STATE 0 = 1 →
    Gives (.tbConfirm w) s fun t =>
      (s.rd TB_STAT.EPOCH_STATE 0 = 2 → s.on CAS_STAT.MASTER 0 = true →
        t.rd TB_STAT.EPOCH_STATE 0 = 1 ∧ Recorded s t 0x05 65 0x0105) ∧
      (s.rd TB_STAT.EPOCH_STATE 0 ≠ 2 ∨ s.on CAS_STAT.MASTER 0 = false →
        t.rd TB_STAT.EPOCH_STATE 0 = s.rd TB_STAT.EPOCH_STATE 0 ∧ t.recs = s.recs) ∧
      t = { s with chip := { s.chip with regs := t.chip.regs, tbu := t.chip.tbu, hostp := t.chip.hostp, recs := t.chip.recs, prodq := t.chip.prodq } }) ∧
  (∀ (w : Wr) (s : State),
    Accepted s w pgTb →
    s.rd TPLL_STAT.STATE 0 ≠ 1 →
    Gives (.tbConfirm w) s fun t =>
      Refused s t pgTb 3 ∧
      FieldsKept s t [(ERR_CODE.LAST, pgTb), (ERR_CODE.FIRST, pgTb), (ERR_COUNT.COUNT, pgTb), (HOST_STAT.COLLIDE_COUNT, 0)] ∧
      t = { s with chip := { s.chip with regs := t.chip.regs, hostp := t.chip.hostp } }) ∧
  (∀ (w : Wr) (s : State),
    Accepted s w pgTb →
    96 ≤ bits w.val.toNat 0 12 →
    s.anyEngBusy = false →
    Gives (.hLocalWrite w) s fun t =>
      t.rd H_LOCAL.H 0 = bits w.val.toNat 0 12 ∧
      FieldsKept s t [(H_LOCAL.H, 0), (HOST_STAT.COLLIDE_COUNT, 0)] ∧
      t = { s with chip := { s.chip with regs := t.chip.regs, hostp := t.chip.hostp } }) ∧
  (∀ (w : Wr) (s : State),
    Accepted s w pgTb →
    bits w.val.toNat 0 12 < 96 ∨ s.anyEngBusy = true →
    Gives (.hLocalWrite w) s fun t =>
      (Refused s t pgTb (if bits w.val.toNat 0 12 < 96 then 1 else 2)) ∧
      FieldsKept s t [(ERR_CODE.LAST, pgTb), (ERR_CODE.FIRST, pgTb), (ERR_COUNT.COUNT, pgTb), (HOST_STAT.COLLIDE_COUNT, 0)] ∧
      t = { s with chip := { s.chip with regs := t.chip.regs, hostp := t.chip.hostp } })

/-- The events of the PCIe endpoint. PERST_N, a function level reset, D3hot, D0, the loss and the coming up of the link change the endpoint as R42 says; where the host is gone, HOST_LINK_DOWN is raised with its record and the refill channels that use the host are stopped by the one operation rflHostLost. Where the rules leave room the clauses state the model's readings (log entries 3 and 36) -/
def Obligations.HostPortEvents : Prop :=
  (∀ (s : State),
    s.hostp.perst = false →
    s.on HOST_LINK.DL_UP 0 = true →
    Gives (.perstNAssert) s fun t =>
      ∃ u : State,
        (u.hostp.perst = true ∧ u.hostp.d3hot = false ∧ u.hostp.msixEn = false ∧ u.hostp.busMaster = false ∧
          u.hostp.vecMask = BitVec.allOnes 256) ∧
        (∀ g : Fin 40, u.rd DEV_MSIX_MAP.EN g.val = 1 ∧ u.rd DEV_MSIX_MAP.VEC g.val = g.val) ∧
        (u.rd HOST_LINK.DL_UP 0 = 0 ∧ u.rd HOST_LINK.WIDTH 0 = 0 ∧ u.rd HOST_LINK.SPEED 0 = 0) ∧
        Raised u pgHost 0 ∧
        Recorded s u 0x0E 0 0x0201 ∧
        u = { s with chip := { s.chip with regs := u.chip.regs, hostp := u.chip.hostp, recs := u.chip.recs } } ∧
        t = { s with chip := u.rflHostLost.chip, mem := u.rflHostLost.mem }) ∧
  (∀ (s : State),
    s.hostp.perst = false →
    s.on HOST_LINK.DL_UP 0 = false →
    Gives (.perstNAssert) s fun t =>
      t.hostp = { wrote := s.hostp.wrote } ∧
      (∀ g : Fin 40, t.rd DEV_MSIX_MAP.EN g.val = 1 ∧ t.rd DEV_MSIX_MAP.VEC g.val = g.val) ∧
      (∀ (f : Fld) (i : Nat), f.id ≠ DEV_MSIX_MAP.EN.id → f.id ≠ DEV_MSIX_MAP.VEC.id → t.rd f i = s.rd f i) ∧
      t = { s with chip := { s.chip with regs := t.chip.regs, hostp := t.chip.hostp } }) ∧
  (∀ (s : State),
    Gives (.perstNRelease) s fun t =>
      t.hostp = { s.hostp with perst := false, training := true } ∧
      t = { s with chip := { s.chip with hostp := t.chip.hostp } }) ∧
  (∀ (s : State),
    s.hostp.perst = false →
    Gives (.functionLevelReset) s fun t =>
      ∃ u : State,
        (u.hostp.perst = false ∧ u.hostp.d3hot = false ∧ u.hostp.msixEn = false ∧ u.hostp.vecMask = BitVec.allOnes 256) ∧
        (∀ g : Fin 40, u.rd DEV_MSIX_MAP.EN g.val = 1 ∧ u.rd DEV_MSIX_MAP.VEC g.val = g.val) ∧
        u.rd DEV_INT_CTRL.INTN_EN 0 = 0 ∧
        u.rd HOST_STAT.FLR_COUNT 0 = min 0xFF (s.rd HOST_STAT.FLR_COUNT 0 + 1) ∧
        u.rd HOST_LINK.DL_UP 0 = s.rd HOST_LINK.DL_UP 0 ∧
        Raised u pgHost 2 ∧
        Recorded s u 0x0E 0 0x0202 ∧
        u = { s with chip := { s.chip with regs := u.chip.regs, hostp := u.chip.hostp, recs := u.chip.recs } } ∧
        t = { s with chip := u.rflHostLost.chip, mem := u.rflHostLost.mem }) ∧
  (∀ (s : State),
    s.hostp.perst = false →
    s.hostp.d3hot = false →
    Gives (.d3hotEntry) s fun t =>
      ∃ u : State,
        (u.hostp.d3hot = true ∧ u.hostp.perst = false ∧ u.hostp.msixEn = s.hostp.msixEn) ∧
        Raised u pgHost 0 ∧
        Recorded s u 0x0E 0 0x0201 ∧
        FieldsKept s u [(IRQ_STAT.BITS, pgHost)] ∧
        u = { s with chip := { s.chip with regs := u.chip.regs, hostp := u.chip.hostp, recs := u.chip.recs } } ∧
        t = { s with chip := u.rflHostLost.chip, mem := u.rflHostLost.mem }) ∧
  (∀ (s : State),
    s.hostp.d3hot = true →
    Gives (.d0Return) s fun t =>
      t.hostp.d3hot = false ∧
      (∀ v : Fin 256, t.hostp.pba.getLsbD v.val = (s.hostp.pba.getLsbD v.val || s.vecPending v.val)) ∧
      t = { s with chip := { s.chip with hostp := t.chip.hostp } }) ∧
  (∀ (s : State),
    s.on HOST_LINK.DL_UP 0 = true →
    Gives (.hostLinkLoss) s fun t =>
      ∃ u : State,
        (u.rd HOST_LINK.DL_UP 0 = 0 ∧ u.rd HOST_LINK.WIDTH 0 = 0 ∧ u.rd HOST_LINK.SPEED 0 = 0) ∧
        u.rd HOST_STAT.LINKDOWN_COUNT 0 = min 0xFFFF (s.rd HOST_STAT.LINKDOWN_COUNT 0 + 1) ∧
        Raised u pgHost 0 ∧
        Recorded s u 0x0E 0 0x0201 ∧
        FieldsKept s u [(HOST_LINK.DL_UP, 0), (HOST_LINK.WIDTH, 0), (HOST_LINK.SPEED, 0), (HOST_STAT.LINKDOWN_COUNT, 0), (IRQ_STAT.BITS, pgHost)] ∧
        u = { s with chip := { s.chip with regs := u.chip.regs, hostp := u.chip.hostp, recs := u.chip.recs } } ∧
        t = { s with chip := u.rflHostLost.chip, mem := u.rflHostLost.mem }) ∧
  (∀ (width speed : Fin 16) (s : State),
    s.endpointOn = true →
    s.on HOST_LINK.DL_UP 0 = false →
    linkMode width.val speed.val = true →
    Gives (.hostLinkUp width speed) s fun t =>
      ∃ u : State,
        (u.rd HOST_LINK.DL_UP 0 = 1 ∧ u.rd HOST_LINK.WIDTH 0 = width.val ∧ u.rd HOST_LINK.SPEED 0 = speed.val) ∧
        FieldsKept s u [(HOST_LINK.DL_UP, 0), (HOST_LINK.WIDTH, 0), (HOST_LINK.SPEED, 0)] ∧
        u = { s with chip := { s.chip with regs := u.chip.regs } } ∧
        t = { s with chip := u.jrnResume.chip })

/-- Interrupts, locks, refusal and drop registers. IRQ_FORCE sets the implemented bits written 1; DEV_EOI sets the message bit of the vector written while a group mapped to it is pending; enabling MSI-X takes the masks and the entries of the MSI-X table and, where it was disabled, sets the message bit of every pending vector; a message goes with its vector's address and data when every condition of R63 holds, and clears its bit; the key 0x5AFE opens a page's lock and any other closes it, as does LOCK_TIMEOUT 100 ms after it opened; ERR_COUNT.CLR and HOST_DROP.CLR clear their registers. Where the rules leave room the clauses state the model's readings (log entries 3 and 36) -/
def Obligations.InterruptAndPageWrites : Prop :=
  (∀ (p : Fin 1024) (w : Wr) (s : State),
    Accepted s w p.val →
    Gives (.irqForce p w) s fun t =>
      t.rd IRQ_STAT.BITS p.val = (s.rd IRQ_STAT.BITS p.val ||| (w.val.toNat &&& irqMask p.val)) % 2 ^ 32 ∧
      FieldsKept s t [(IRQ_STAT.BITS, p.val), (HOST_STAT.COLLIDE_COUNT, 0)] ∧
      t = { s with chip := { s.chip with regs := t.chip.regs, hostp := t.chip.hostp } }) ∧
  (∀ (w : Wr) (s : State),
    Accepted s w pgDev →
    Gives (.devEoi w) s fun t =>
      (∀ v : Fin 256, t.hostp.pba.getLsbD v.val =
        (s.hostp.pba.getLsbD v.val || (decide (v.val = bits w.val.toNat 0 8) && s.vecPending v.val))) ∧
      FieldsKept s t [(HOST_STAT.COLLIDE_COUNT, 0)] ∧
      t = { s with chip := { s.chip with regs := t.chip.regs, hostp := t.chip.hostp } }) ∧
  (∀ (bm fm : Bool) (tb : MsixTable) (s : State),
    s.hostp.perst = false →
    Gives (.msixEnable bm fm tb) s fun t =>
      (t.hostp.msixEn = true ∧ t.hostp.busMaster = bm ∧ t.hostp.funcMask = fm ∧ t.hostp.vecMask = tb.mask) ∧
      (∀ v : Fin 256, Sparse.get (0, 0) t.hostp.table v.val = (tb.entries[v.val]?.map fun e => (e.1.toNat, e.2.toNat)).getD (Sparse.get (0, 0) s.hostp.table v.val)) ∧
      (∀ v : Fin 256, t.hostp.pba.getLsbD v.val = (s.hostp.pba.getLsbD v.val || (!s.hostp.msixEn && s.vecPending v.val))) ∧
      t = { s with chip := { s.chip with hostp := t.chip.hostp } }) ∧
  (∀ (v : Fin 256) (s : State),
    s.msixReady v.val = true →
    Gives (.msixMessageSend v) s fun t =>
      t.out = s.out ++ [.msix v.val (Sparse.get (0, 0) s.hostp.table v.val).1 (Sparse.get (0, 0) s.hostp.table v.val).2] ∧
      (∀ x : Fin 256, t.hostp.pba.getLsbD x.val = (s.hostp.pba.getLsbD x.val && decide (x ≠ v))) ∧
      t = { s with chip := { s.chip with hostp := t.chip.hostp, out := t.chip.out } }) ∧
  (∀ (p : Fin 1024) (w : Wr) (s : State),
    Accepted s w p.val →
    Gives (.lockKeyWrite p w) s fun t =>
      t.rd LOCK.OPEN p.val = flag (decide (bits w.val.toNat 16 16 = 0x5AFE)) ∧
      (bits w.val.toNat 16 16 = 0x5AFE → t.pages p.val = { s.pages p.val with openedAt := s.tb }) ∧
      (bits w.val.toNat 16 16 ≠ 0x5AFE → t.pages p.val = s.pages p.val) ∧
      Others s.pages t.pages p.val ∧
      FieldsKept s t [(LOCK.OPEN, p.val), (HOST_STAT.COLLIDE_COUNT, 0)] ∧
      t = { s with chip := { s.chip with regs := t.chip.regs, hostp := t.chip.hostp, pages := t.chip.pages } }) ∧
  (∀ (p : Fin 1024) (s : State),
    s.on LOCK.OPEN p.val = true →
    (s.pages p.val).openedAt + 50000000 ≤ s.tb →
    Gives (.lockTimeout p) s fun t =>
      t.rd LOCK.OPEN p.val = 0 ∧
      FieldsKept s t [(LOCK.OPEN, p.val)] ∧
      t = { s with chip := { s.chip with regs := t.chip.regs } }) ∧
  (∀ (p : Fin 1024) (w : Wr) (s : State),
    Accepted s w p.val →
    Gives (.errClear p w) s fun t =>
      (t.rd ERR_COUNT.COUNT p.val = 0 ∧ t.rd ERR_CODE.FIRST p.val = 0 ∧ t.rd ERR_CODE.LAST p.val = 0) ∧
      FieldsKept s t [(ERR_COUNT.COUNT, p.val), (ERR_CODE.FIRST, p.val), (ERR_CODE.LAST, p.val), (HOST_STAT.COLLIDE_COUNT, 0)] ∧
      t = { s with chip := { s.chip with regs := t.chip.regs, hostp := t.chip.hostp } }) ∧
  (∀ (w : Wr) (s : State),
    Accepted s w pgHost →
    Gives (.hostDropClr w) s fun t =>
      (t.rd HOST_DROP.COUNT 0 = 0 ∧ t.rd HOST_DROP_ADDR.WIN 0 = 0 ∧ t.rd HOST_DROP_ADDR.TUN 0 = 0 ∧ t.rd HOST_DROP_ADDR.ADDR 0 = 0) ∧
      FieldsKept s t [(HOST_DROP.COUNT, 0), (HOST_DROP_ADDR.WIN, 0), (HOST_DROP_ADDR.TUN, 0), (HOST_DROP_ADDR.ADDR, 0), (HOST_STAT.COLLIDE_COUNT, 0)] ∧
      t = { s with chip := { s.chip with regs := t.chip.regs, hostp := t.chip.hostp } })

/-- A register write acts field by field under the access codes. A window A write sets the implemented bits of an RW field and clears the written bits of a W1C field on every page; an RWL field takes its value while the lock is open and the write is refused with 0x0101 while it is closed; an RWS field takes its value into the shadow copy alone and becomes dirty, or is rejected and counted during a shadow lock; on a page that is not ready the write is dropped, and a host write in D3hot has no effect. Where the rules leave room the clauses state the model's readings (log entries 3, 36 and 37) -/
def Obligations.RegisterWriteFields : Prop :=
  (∀ (p : Nat) (w : Wr) (addr : BitVec 22) (s : State),
    addr.toNat / 4 * 4 = p * 4096 + 0x14 →
    Accepted s w p →
    Gives (.registerWrite w addr) s fun t =>
      t.rd IRQ_EN.BITS p = w.val.toNat &&& irqMask p ∧
      FieldsKept s t [(IRQ_EN.BITS, p), (HOST_STAT.COLLIDE_COUNT, 0)] ∧
      t = { s with chip := { s.chip with regs := t.chip.regs, hostp := t.chip.hostp } }) ∧
  (∀ (p : Nat) (w : Wr) (addr : BitVec 22) (s : State),
    addr.toNat / 4 * 4 = p * 4096 + 0x10 →
    Accepted s w p →
    Gives (.registerWrite w addr) s fun t =>
      t.rd IRQ_STAT.BITS p = s.rd IRQ_STAT.BITS p &&& (0xFFFFFFFF ^^^ w.val.toNat) ∧
      FieldsKept s t [(IRQ_STAT.BITS, p), (HOST_STAT.COLLIDE_COUNT, 0)] ∧
      t = { s with chip := { s.chip with regs := t.chip.regs, hostp := t.chip.hostp } }) ∧
  (∀ (c : Fin 64) (w : Wr) (addr : BitVec 22) (s : State),
    addr.toNat / 4 * 4 = pgSns c.val * 4096 + 0x150 + 0x80 * (c.val % 8) →
    Accepted s w (pgSns c.val) →
    s.on LOCK.OPEN (pgSns c.val) = true →
    Gives (.registerWrite w addr) s fun t =>
      t.rd SNS_TRIM_GAIN.GAIN c.val = bits w.val.toNat 0 24 ∧
      FieldsKept s t [(SNS_TRIM_GAIN.GAIN, c.val), (HOST_STAT.COLLIDE_COUNT, 0)] ∧
      t = { s with chip := { s.chip with regs := t.chip.regs, hostp := t.chip.hostp } }) ∧
  (∀ (c : Fin 64) (w : Wr) (addr : BitVec 22) (s : State),
    addr.toNat / 4 * 4 = pgSns c.val * 4096 + 0x150 + 0x80 * (c.val % 8) →
    Accepted s w (pgSns c.val) →
    s.on LOCK.OPEN (pgSns c.val) = false →
    Gives (.registerWrite w addr) s fun t =>
      Refused s t (pgSns c.val) 0x0101 ∧
      FieldsKept s t [(ERR_CODE.LAST, pgSns c.val), (ERR_CODE.FIRST, pgSns c.val), (ERR_COUNT.COUNT, pgSns c.val), (HOST_STAT.COLLIDE_COUNT, 0)] ∧
      t = { s with chip := { s.chip with regs := t.chip.regs, hostp := t.chip.hostp } }) ∧
  (∀ (e : Fin 512) (w : Wr) (addr : BitVec 22) (s : State),
    addr.toNat / 4 * 4 = pgEng e.val * 4096 + 0x044 + 0x400 * (e.val % 2) →
    Accepted s w (pgEng e.val) →
    s.shadowLocked (pgEng e.val) = false →
    Gives (.registerWrite w addr) s fun t =>
      (t.rd ENG_WIN.BASE e.val = bits w.val.toNat 0 16 ∧ t.rd ENG_WIN.SIZE_M1 e.val = bits w.val.toNat 16 16) ∧
      (t.isDirty ENG_WIN.BASE e.val = true ∧ t.isDirty ENG_WIN.SIZE_M1 e.val = true) ∧
      FieldsKept s t [(ENG_WIN.BASE, e.val), (ENG_WIN.SIZE_M1, e.val), (HOST_STAT.COLLIDE_COUNT, 0)] ∧
      t = { s with chip := { s.chip with regs := t.chip.regs, hostp := t.chip.hostp, dirty := t.chip.dirty } }) ∧
  (∀ (e : Fin 512) (w : Wr) (addr : BitVec 22) (s : State),
    addr.toNat / 4 * 4 = pgEng e.val * 4096 + 0x044 + 0x400 * (e.val % 2) →
    Accepted s w (pgEng e.val) →
    s.shadowLocked (pgEng e.val) = true →
    Gives (.registerWrite w addr) s fun t =>
      t.rd SHADOW_STAT.REJECT (pgEng e.val) = 1 ∧
      t.rd SHADOW_STAT.REJ_COUNT (pgEng e.val) = min 0xFFFF (s.rd SHADOW_STAT.REJ_COUNT (pgEng e.val) + 1) ∧
      FieldsKept s t [(SHADOW_STAT.REJECT, pgEng e.val), (SHADOW_STAT.REJ_COUNT, pgEng e.val), (HOST_STAT.COLLIDE_COUNT, 0)] ∧
      t = { s with chip := { s.chip with regs := t.chip.regs, hostp := t.chip.hostp } }) ∧
  (∀ (p : Nat) (w : Wr) (addr : BitVec 22) (s : State),
    addr.toNat / 4 * 4 = p * 4096 + 0x10 →
    s.reaches w.req = true →
    s.ready p = false →
    Gives (.registerWrite w addr) s fun t =>
      t.rd HOST_DROP.COUNT 0 = min 0xFFFF (s.rd HOST_DROP.COUNT 0 + 1) ∧
      (t.rd HOST_DROP_ADDR.WIN 0 = 0 ∧ t.rd HOST_DROP_ADDR.TUN 0 = flag (decide (w.req = .tunnel)) ∧
        t.rd HOST_DROP_ADDR.ADDR 0 = p * 4096 + 0x10) ∧
      Raised t pgHost 1 ∧
      FieldsKept s t [(HOST_DROP.COUNT, 0), (HOST_DROP_ADDR.WIN, 0), (HOST_DROP_ADDR.TUN, 0), (HOST_DROP_ADDR.ADDR, 0), (IRQ_STAT.BITS, pgHost)] ∧
      t = { s with chip := { s.chip with regs := t.chip.regs, hostp := t.chip.hostp } }) ∧
  (∀ (p : Nat) (w : Wr) (addr : BitVec 22) (s : State),
    addr.toNat / 4 * 4 = p * 4096 + 0x10 →
    s.reaches w.req = false →
    Gives (.registerWrite w addr) s fun t =>
      t = s)

/-- Window B writes and reads, and tunnelled accesses. A window B write that its Facet admits changes exactly the bytes its byte enables select, the side bits keeping their low half; while the Facet is busy, or not ON, or the granule is held, the write is dropped and no byte changes; a read returns the dword of a clean line; a tunnelled write of window B is the same write made by the tunnel, its answer queued toward the master; a request for another device goes down the chain. Where the rules leave room the clauses state the model's readings (log entries 3, 36 and 37) -/
def Obligations.WindowBAccesses : Prop :=
  (∀ (w : Wr) (addr : BitVec 30) (f o : Nat) (s : State),
    addr.toNat / 4 * 4 = facetBase f + o →
    o < 0x02000000 →
    offMapped o = true →
    s.reaches w.req = true →
    s.dev ≠ 1 ∧ s.domOn f = true ∧ s.facetBusy f = false →
    o < 0x00A00000 → s.granuleHeld f (granuleAt o) = false →
    Gives (.windowBWrite w addr) s fun t =>
      (∀ i : Fin 4, w.be.getLsbD i.val = true → t.memB (facetBase f + o + i.val) =
        bits w.val.toNat (8 * i.val) (if 0x00800000 ≤ o ∧ o < 0x00A00000 then 4 else 8)) ∧
      (∀ a, (∀ i : Fin 4, w.be.getLsbD i.val = true → a ≠ facetBase f + o + i.val) → t.memB a = s.memB a) ∧
      (t.mem.af = s.mem.af ∧ t.mem.flash = s.mem.flash) ∧
      (o < 0x01000000 → t.chip = s.chip) ∧
      (t.epoch = s.epoch ∧ t.tb = s.tb ∧ t.pending = s.pending)) ∧
  (∀ (w : Wr) (addr : BitVec 30) (f o : Nat) (s : State),
    addr.toNat / 4 * 4 = facetBase f + o →
    o < 0x02000000 →
    s.reaches w.req = true →
    offMapped o = false ∨ s.domOn f = false ∨ s.facetBusy f = true ∨ (o < 0x00A00000 ∧ s.granuleHeld f (granuleAt o) = true) →
    Gives (.windowBWrite w addr) s fun t =>
      t.rd HOST_DROP.COUNT 0 = min 0xFFFF (s.rd HOST_DROP.COUNT 0 + 1) ∧
      t.rd HOST_DROP_ADDR.WIN 0 = 1 ∧
      Raised t pgHost 1 ∧
      FieldsKept s t [(HOST_DROP.COUNT, 0), (HOST_DROP_ADDR.WIN, 0), (HOST_DROP_ADDR.TUN, 0), (HOST_DROP_ADDR.ADDR, 0), (IRQ_STAT.BITS, pgHost)] ∧
      t = { s with chip := { s.chip with regs := t.chip.regs, hostp := t.chip.hostp } }) ∧
  (∀ (req : Req) (addr : BitVec 30) (f o : Nat) (s : State),
    addr.toNat / 4 * 4 = facetBase f + o →
    o < 0x02000000 →
    offMapped o = true →
    s.reaches req = true →
    s.dev ≠ 1 ∧ s.domOn f = true →
    Gives (.windowBRead req addr .clean) s fun t =>
      t.out = s.out ++ [.readData (decide (req = .tunnel)) (s.dwordB (facetBase f + o)) false] ∧
      t = { s with chip := { s.chip with out := t.chip.out } }) ∧
  (∀ (target : Fin 16) (addr : BitVec 30) (val : Word) (ecc : Ecc) (s : State),
    s.portUsed false = true →
    s.on CAS_STAT.ADDR_VALID 0 = true →
    s.ownAddr = target.val →
    Gives (.tunnelAccessExec target true true addr val ecc) s fun t =>
      (∃ u : State, exec (.windowBWrite { req := .tunnel, be := 0xF, val := val } addr) s = .next u ∧
        (t = { s with mem := u.mem, chip := (u.casQueue false 7 [1, 0]).chip } ∨
         t = { s with mem := u.mem, chip := (u.casQueue false 7 [2, 0]).chip }))) ∧
  (∀ (target : Fin 16) (winB write : Bool) (addr : BitVec 30) (val : Word) (ecc : Ecc) (s : State),
    s.portUsed false = true →
    s.on CAS_STAT.ADDR_VALID 0 = false ∨ s.ownAddr ≠ target.val →
    Gives (.tunnelAccessExec target winB write addr val ecc) s fun t =>
      (s.portUsed true = true → (t.casPort 1).queue = (s.casPort 1).queue ++ [(6, [target.val, flag winB, flag write, addr.toNat, val.toNat])] ∧
        t.casPort 0 = s.casPort 0) ∧
      (s.portUsed true = false → (t.casPort 0).queue = (s.casPort 0).queue ++ [(7, [3, 0])] ∧ t.casPort 1 = s.casPort 1) ∧
      t = { s with chip := { s.chip with casPort := t.chip.casPort } })

/-- A commit and its hand-over. An ARM that meets no cause of refusal writes BSEL and gives each owner of the page with dirty shadows its wait: the hand-over tick and the snapshot tick of handTicks, the snapshot being the next tick under IMMEDIATE and otherwise 66 ticks before a hand-over that is not before the present tick plus H; no other page waits for it, and every marker ball that an enabled route of such an engine names is that route's; where a ball is held by the accepted ARM of one higher engine of the same page cycle, that ARM is refused after all, with MARK_BALL_TAKEN and FAILED, and its page waits no more; an ARM with a cause of refusal is refused once with the cause of highest rank, sets FAILED where it is a check of the block, and changes nothing else; an owner that comes to its snapshot takes each dirty shadow as its active copy, clean, if its checks pass, with what its block does at a hand-over (handEffects), while the page locks its shadows up to that tick; if a check fails it keeps its shadows and active copies, FAILED is set, and the commit is refused once for all its owners, with the code of highest rank; before its snapshot nothing is handed over. Where the rules leave room the clauses state the model's readings (log entries 3, 36 and 37) -/
def Obligations.CommitAndHandOver : Prop :=
  (∀ (p : Fin 1024) (w : Wr) (s : State),
    Accepted s w p.val →
    bits w.val.toNat 4 2 ≠ 3 →
    s.armPageCodes p.val (bits w.val.toNat 4 2) = [] →
    s.armRivals (s.dirtyOwners p.val) = [] →
    Gives (.commitArm p w) s fun t =>
      (∀ x ∈ (t.pages p.val).waits, x.2.2.1 = if bits w.val.toNat 4 2 = 1 then s.epoch + 1 else x.2.1 - 66) ∧
      (∀ x ∈ (t.pages p.val).waits, if bits w.val.toNat 4 2 = 1 then x.2.1 = s.epoch + 1 else s.epoch + s.h ≤ x.2.1) ∧
      (∀ e b, Owner.eng e ∈ s.dirtyOwners p.val → b < 4 → bit (s.markShadow e b) 15 = true → t.ballOwner (slotBall (s.markShadow e b)) = 1 + 4 * e + b) ∧
      Others s.pages t.pages p.val ∧
      ∃ u : State,
        u.rd COMMIT.BSEL p.val = bits w.val.toNat 4 2 ∧
        FieldsKept s u [(COMMIT.BSEL, p.val), (HOST_STAT.COLLIDE_COUNT, 0)] ∧
        u = { s with chip := { s.chip with regs := u.chip.regs, hostp := u.chip.hostp } } ∧
        (t.pages p.val = { s.pages p.val with
          waits := (s.dirtyOwners p.val).map fun o => (o, (u.handTicks o (bits w.val.toNat 4 2)).1, (u.handTicks o (bits w.val.toNat 4 2)).2, u.ownerCode o)
          pending := !(s.dirtyOwners p.val).isEmpty, failed := none }) ∧
        t = { u with chip := { u.chip with pages := t.chip.pages, ballClaim := t.chip.ballClaim, ballTb := t.chip.ballTb, ballOut := t.chip.ballOut } }) ∧
  (∀ (p : Fin 1024) (w : Wr) (k : Nat) (s : State),
    Accepted s w p.val →
    bits w.val.toNat 4 2 ≠ 3 →
    s.armPageCodes p.val (bits w.val.toNat 4 2) = [] →
    s.armRivals (s.dirtyOwners p.val) = [k] →
    k < 512 ∧ pgEng k ≠ p.val ∧ (s.pages (pgEng k)).waits ≠ [] →
    Gives (.commitArm p w) s fun t =>
      ((t.pages p.val).waits.map (fun x => x.1) = s.dirtyOwners p.val) ∧
      (t.pages (pgEng k)).waits = [] ∧ (t.pages (pgEng k)).pending = false ∧
      t.rd SHADOW_STAT.FAILED (pgEng k) = 1 ∧
      Refused s t (pgEng k) 6 ∧
      (∀ q, q ≠ p.val → q ≠ pgEng k → t.pages q = s.pages q) ∧
      FieldsKept s t [(COMMIT.BSEL, p.val), (HOST_STAT.COLLIDE_COUNT, 0), (SHADOW_STAT.FAILED, pgEng k), (ERR_CODE.LAST, pgEng k), (ERR_CODE.FIRST, pgEng k), (ERR_COUNT.COUNT, pgEng k)] ∧
      t = { s with chip := { s.chip with regs := t.chip.regs, hostp := t.chip.hostp, pages := t.chip.pages, ballClaim := t.chip.ballClaim, ballTb := t.chip.ballTb, ballOut := t.chip.ballOut } }) ∧
  (∀ (p : Fin 1024) (w : Wr) (c : Nat) (s : State),
    Accepted s w p.val →
    bits w.val.toNat 4 2 ≠ 3 →
    worst (s.armPageCodes p.val (bits w.val.toNat 4 2)) = some c →
    Gives (.commitArm p w) s fun t =>
      Refused s t p.val (c % 2 ^ 16) ∧
      (t.rd SHADOW_STAT.FAILED p.val = (if c < 0x100 then 1 else s.rd SHADOW_STAT.FAILED p.val)) ∧
      FieldsKept s t [(ERR_CODE.LAST, p.val), (ERR_CODE.FIRST, p.val), (ERR_COUNT.COUNT, p.val), (SHADOW_STAT.FAILED, p.val), (HOST_STAT.COLLIDE_COUNT, 0)] ∧
      t = { s with chip := { s.chip with regs := t.chip.regs, hostp := t.chip.hostp } }) ∧
  (∀ (p : Fin 1024) (n d snap code : Nat) (o : Owner) (s : State),
    (s.pages p.val).waits[n]? = some (o, d, snap, code) →
    snap ≤ s.epoch ∨ s.counting = false →
    worst ((if s.pruneLags.ownerCode o = code then [] else s.pruneLags.ownerChecks o) ++ s.pruneLags.ownerRefuses o) = none →
    Gives (.commitHandover p n) s fun t =>
      (t.pages p.val).waits = (s.pages p.val).waits.eraseIdx n ∧
      (t.pages p.val).lockedTo = max (s.pages p.val).lockedTo (min snap s.epoch) ∧
      ∃ u : State,
        (∀ fi ∈ s.ownerDirty o, u.rdA fi.1 fi.2 = s.rd fi.1 fi.2 % 2 ^ fi.1.w ∧ u.isDirty fi.1 fi.2 = false) ∧
        (∀ (f : Fld) (i : Nat), f.id ≠ TPLL_PHASE.RESIDUAL.id → u.rd f i = s.rd f i) ∧
        u = { s with chip := { s.chip with regs := u.chip.regs, tpll := u.chip.tpll, lags := u.chip.lags, acts := u.chip.acts, dirty := u.chip.dirty } } ∧
        (t = { s with chip := ((u.handEffects s.pruneLags o d).modPages p.val fun x =>
          { x with waits := x.waits.eraseIdx n, lockedTo := max x.lockedTo (min snap s.epoch) }).chip })) ∧
  (∀ (p : Fin 1024) (n d snap code c : Nat) (o : Owner) (s : State),
    (s.pages p.val).waits[n]? = some (o, d, snap, code) →
    snap ≤ s.epoch ∨ s.counting = false →
    worst ((if s.pruneLags.ownerCode o = code then [] else s.pruneLags.ownerChecks o) ++ s.pruneLags.ownerRefuses o) = some c →
    (s.pages p.val).failed = none →
    Gives (.commitHandover p n) s fun t =>
      t.rd SHADOW_STAT.FAILED p.val = 1 ∧
      Refused s t p.val (c % 2 ^ 16) ∧
      (t.dirty = s.dirty ∧ t.chip.acts = s.chip.acts) ∧
      (t.pages p.val).waits = (s.pages p.val).waits.eraseIdx n ∧
      Others s.pages t.pages p.val ∧
      FieldsKept s t [(ERR_CODE.LAST, p.val), (ERR_CODE.FIRST, p.val), (ERR_COUNT.COUNT, p.val), (SHADOW_STAT.FAILED, p.val), (TPLL_PHASE.RESIDUAL, 0)] ∧
      t = { s with chip := { s.chip with regs := t.chip.regs, tpll := t.chip.tpll, lags := t.chip.lags, pages := t.chip.pages } }) ∧
  (∀ (p : Fin 1024) (n d snap code c c0 : Nat) (first : Bool) (o : Owner) (s : State),
    (s.pages p.val).waits[n]? = some (o, d, snap, code) →
    snap ≤ s.epoch ∨ s.counting = false →
    worst ((if s.pruneLags.ownerCode o = code then [] else s.pruneLags.ownerChecks o) ++ s.pruneLags.ownerRefuses o) = some c →
    (s.pages p.val).failed = some (c0, first) →
    Gives (.commitHandover p n) s fun t =>
      t.rd SHADOW_STAT.FAILED p.val = 1 ∧
      t.rd ERR_CODE.LAST p.val = (worst [c0, c]).getD c0 % 2 ^ 16 ∧
      (t.rd ERR_CODE.FIRST p.val = (if first then (worst [c0, c]).getD c0 % 2 ^ 16 else s.rd ERR_CODE.FIRST p.val)) ∧
      (t.dirty = s.dirty ∧ t.chip.acts = s.chip.acts) ∧
      (t.pages p.val).waits = (s.pages p.val).waits.eraseIdx n ∧
      Others s.pages t.pages p.val ∧
      FieldsKept s t [(ERR_CODE.LAST, p.val), (ERR_CODE.FIRST, p.val), (SHADOW_STAT.FAILED, p.val), (TPLL_PHASE.RESIDUAL, 0)] ∧
      t = { s with chip := { s.chip with regs := t.chip.regs, tpll := t.chip.tpll, lags := t.chip.lags, pages := t.chip.pages } }) ∧
  (∀ (p : Fin 1024) (n d snap code : Nat) (o : Owner) (s : State),
    (s.pages p.val).waits[n]? = some (o, d, snap, code) →
    s.epoch < snap ∧ s.counting = true →
    Gives (.commitHandover p n) s fun t =>
      FieldsKept s t [(TPLL_PHASE.RESIDUAL, 0)] ∧
      t = { s with chip := { s.chip with regs := t.chip.regs, tpll := t.chip.tpll, lags := t.chip.lags } })

/-- The TPLL: qualification, lock, loss, return and failure. A gate within ±100 ppm counts toward QUAL_MS, and the one that completes it sets REF_OK: in ACQUIRE the 1 ms and the 50 ms to the lock run from it; in HOLDOVER it measures the jump, raises REF_RETURN with its record and goes to SLEW, or to LOCKED where the jump is below 1 ns; a gate in LOCKED that stays within ±10 ppm of the mean of the last 100 enters that mean, and one beyond it ends in HOLDOVER with its own record; a gate beyond ±100 ppm, or no edge of REF_IN, clears REF_OK and starts qualification afresh, and in LOCKED and SLEW goes to HOLDOVER with its record; every gate outside HOLDOVER shows its offset in TPLL_FOFS; ACQUIRE whose phase has been below 1 ns for 1 ms since qualification goes to LOCKED with its record, and CLOCKING to TRAINING; no lock 50 ms after qualification, a cycle slip in LOCKED or SLEW, a fine code at its limit in any state but FAILED, and a TB supervisor fault in LOCKED, SLEW or HOLDOVER go to FAILED with their record, after which the epoch, the analogue Facet and the device follow by the shared operations enterUncertain, afFallback and enterSafe, whose effects on EPOCH_STATE and on DEV_STATE and SAFE_CAUSE are stated of each; FINE_MARGIN is raised where it was not set; an analogue Facet that is ON and loses TB runs on its fallback oscillator, told by an event, with every ACTIVE channel soft-stopped. Where the rules leave room the clauses state the model's readings (log entries 3, 10, 23 and 24) -/
def Obligations.TpllStates : Prop :=
  (∀ (ofs phase : Int) (aux : Option Int) (s : State),
    s.tpll.started = true →
    s.tpllState = 0 →
    ofs.natAbs ≤ 100000 →
    s.on TPLL_STAT.REF_OK 0 = false →
    s.rd TPLL_QUAL.QUAL_MS 0 ≤ min 1000 (s.tpll.gates + 1) →
    Gives (.refQualGate ofs phase aux) s fun t =>
      t.rd TPLL_STAT.REF_OK 0 = 1 ∧
      (t.tpll.qualAt = some s.tb ∧ t.tpll.gates = min 1000 (s.tpll.gates + 1)) ∧
      t.tpllState = 0 ∧
      t.rd TPLL_FOFS.FOFS 0 = unsigned 32 (-ofs) % 2 ^ 32 ∧
      t.rd TPLL_PHASE.RESIDUAL 0 = unsigned 32 phase % 2 ^ 32 ∧
      FieldsKept s t [(TPLL_STAT.REF_OK, 0), (TPLL_STAT.AUX_OK, 0), (TPLL_FOFS.FOFS, 0), (TPLL_PHASE.RESIDUAL, 0)] ∧
      t = { s with chip := { s.chip with regs := t.chip.regs, tpll := t.chip.tpll } }) ∧
  (∀ (ofs phase : Int) (aux : Option Int) (s : State),
    s.tpll.started = true →
    ofs.natAbs ≤ 100000 →
    s.on TPLL_STAT.REF_OK 0 = false →
    min 1000 (s.tpll.gates + 1) < s.rd TPLL_QUAL.QUAL_MS 0 →
    Gives (.refQualGate ofs phase aux) s fun t =>
      (t.tpll.gates = min 1000 (s.tpll.gates + 1) ∧ t.tpll.qualAt = s.tpll.qualAt) ∧
      t.rd TPLL_STAT.REF_OK 0 = 0 ∧
      t.tpllState = s.tpllState ∧
      (s.tpllState ≠ 2 → t.rd TPLL_FOFS.FOFS 0 = unsigned 32 (-ofs) % 2 ^ 32) ∧
      FieldsKept s t [(TPLL_STAT.AUX_OK, 0), (TPLL_FOFS.FOFS, 0), (TPLL_PHASE.RESIDUAL, 0), (IRQ_STAT.BITS, pgTpll)] ∧
      t = { s with chip := { s.chip with regs := t.chip.regs, tpll := t.chip.tpll, hostp := t.chip.hostp } }) ∧
  (∀ (ofs phase : Int) (aux : Option Int) (s : State),
    s.tpll.started = true →
    s.tpllState = 1 ∨ s.tpllState = 3 →
    100000 < ofs.natAbs →
    Gives (.refQualGate ofs phase aux) s fun t =>
      t.tpllState = 2 ∧
      (t.rd TPLL_STAT.REF_OK 0 = 0 ∧ t.rd TB_STAT.HOLDOVER 0 = 1 ∧ t.rd TB_STAT.SLEW 0 = 0) ∧
      (t.tpll.gates = 0 ∧ t.tpll.qualAt = none ∧ t.tpll.snap = none ∧ t.tpll.since = s.tb) ∧
      Raised t pgTpll 1 ∧
      Recorded s t 0x05 64 0x0302 ∧
      FieldsKept s t [(TPLL_STAT.STATE, 0), (TPLL_STAT.REF_OK, 0), (TB_STAT.HOLDOVER, 0), (TB_STAT.SLEW, 0), (TPLL_STAT.AUX_OK, 0), (TPLL_FOFS.FOFS, 0), (TPLL_PHASE.RESIDUAL, 0), (IRQ_STAT.BITS, pgTpll)] ∧
      t = { s with chip := { s.chip with regs := t.chip.regs, tpll := t.chip.tpll, hostp := t.chip.hostp, recs := t.chip.recs, prodq := t.chip.prodq, cal := t.chip.cal } }) ∧
  (∀ (ofs phase : Int) (aux : Option Int) (s : State),
    s.tpll.started = true →
    s.tpllState = 0 ∨ s.tpllState = 2 ∨ s.tpllState = 4 →
    100000 < ofs.natAbs →
    Gives (.refQualGate ofs phase aux) s fun t =>
      (t.tpllState = s.tpllState ∧ t.rd TPLL_STAT.REF_OK 0 = 0) ∧
      (t.tpll.gates = 0 ∧ t.tpll.qualAt = none) ∧
      (s.tpllState ≠ 2 → t.rd TPLL_FOFS.FOFS 0 = unsigned 32 (-ofs) % 2 ^ 32) ∧
      FieldsKept s t [(TPLL_STAT.REF_OK, 0), (TPLL_STAT.AUX_OK, 0), (TPLL_FOFS.FOFS, 0), (TPLL_PHASE.RESIDUAL, 0), (IRQ_STAT.BITS, pgTpll)] ∧
      t = { s with chip := { s.chip with regs := t.chip.regs, tpll := t.chip.tpll, hostp := t.chip.hostp } }) ∧
  (∀ (ofs phase : Int) (aux : Option Int) (s : State),
    s.tpll.started = true →
    s.tpllState = 1 →
    ofs.natAbs ≤ 100000 →
    s.on TPLL_STAT.REF_OK 0 = true →
    s.tpll.means = [] ∨ (ofs - roundDiv (s.tpll.means.take 100).sum (max 1 (s.tpll.means.take 100).length)).natAbs ≤ 10000 →
    Gives (.refQualGate ofs phase aux) s fun t =>
      t.tpll.means = (ofs :: s.tpll.means).take 1002 ∧
      (t.tpllState = 1 ∧ t.rd TPLL_STAT.REF_OK 0 = 1 ∧ t.rd TPLL_FOFS.FOFS 0 = unsigned 32 (-ofs) % 2 ^ 32) ∧
      FieldsKept s t [(TPLL_STAT.AUX_OK, 0), (TPLL_FOFS.FOFS, 0), (TPLL_PHASE.RESIDUAL, 0)] ∧
      t = { s with chip := { s.chip with regs := t.chip.regs, tpll := t.chip.tpll } }) ∧
  (∀ (ofs phase : Int) (aux : Option Int) (s : State),
    s.tpll.started = true →
    s.tpllState = 1 →
    ofs.natAbs ≤ 100000 →
    s.on TPLL_STAT.REF_OK 0 = true →
    s.tpll.means ≠ [] ∧ 10000 < (ofs - roundDiv (s.tpll.means.take 100).sum (max 1 (s.tpll.means.take 100).length)).natAbs →
    Gives (.refQualGate ofs phase aux) s fun t =>
      (t.tpllState = 2 ∧ t.rd TPLL_STAT.REF_OK 0 = 0 ∧ t.rd TB_STAT.HOLDOVER 0 = 1 ∧ t.rd TB_STAT.SLEW 0 = 0) ∧
      Raised t pgTpll 4 ∧
      Recorded s t 0x05 64 0x0303 ∧
      FieldsKept s t [(TPLL_STAT.STATE, 0), (TPLL_STAT.REF_OK, 0), (TB_STAT.HOLDOVER, 0), (TB_STAT.SLEW, 0), (TPLL_STAT.AUX_OK, 0), (TPLL_FOFS.FOFS, 0), (TPLL_PHASE.RESIDUAL, 0), (IRQ_STAT.BITS, pgTpll)] ∧
      t = { s with chip := { s.chip with regs := t.chip.regs, tpll := t.chip.tpll, hostp := t.chip.hostp, recs := t.chip.recs, prodq := t.chip.prodq, cal := t.chip.cal } }) ∧
  (∀ (ofs phase : Int) (aux : Option Int) (s : State),
    s.tpll.started = true →
    s.tpllState = 2 →
    s.tpll.follow = false →
    ofs.natAbs ≤ 100000 →
    s.on TPLL_STAT.REF_OK 0 = false →
    s.rd TPLL_QUAL.QUAL_MS 0 ≤ min 1000 (s.tpll.gates + 1) →
    1000 ≤ (s.reduceJ phase).natAbs →
    Gives (.refQualGate ofs phase aux) s fun t =>
      t.tpllState = 3 ∧
      (t.rd TPLL_STAT.REF_OK 0 = 1 ∧ t.rd TB_STAT.SLEW 0 = 1 ∧ t.rd TB_STAT.HOLDOVER 0 = 0) ∧
      t.rd TPLL_JUMP.JUMP 0 = unsigned 32 (s.reduceJ phase) % 2 ^ 32 ∧
      (t.tpll.res = s.reduceJ phase * 5000 ∧ t.tpll.resAt = s.tb) ∧
      Raised t pgTpll 2 ∧
      Recorded s t 0x05 64 0x0304 ∧
      FieldsKept s t [(TPLL_STAT.STATE, 0), (TPLL_STAT.REF_OK, 0), (TB_STAT.HOLDOVER, 0), (TB_STAT.SLEW, 0), (TPLL_STAT.AUX_OK, 0), (TPLL_PHASE.RESIDUAL, 0), (TPLL_JUMP.JUMP, 0), (IRQ_STAT.BITS, pgTpll)] ∧
      t = { s with chip := { s.chip with regs := t.chip.regs, tpll := t.chip.tpll, hostp := t.chip.hostp, recs := t.chip.recs, prodq := t.chip.prodq, cal := t.chip.cal } }) ∧
  (∀ (ofs phase : Int) (aux : Option Int) (s : State),
    s.tpll.started = true →
    s.tpllState = 2 →
    s.tpll.follow = false →
    ofs.natAbs ≤ 100000 →
    s.on TPLL_STAT.REF_OK 0 = false →
    s.rd TPLL_QUAL.QUAL_MS 0 ≤ min 1000 (s.tpll.gates + 1) →
    (s.reduceJ phase).natAbs < 1000 →
    s.dev ≠ 4 ∧ s.dev ≠ 9 →
    Gives (.refQualGate ofs phase aux) s fun t =>
      t.tpllState = 1 ∧
      (t.rd TPLL_STAT.REF_OK 0 = 1 ∧ t.rd TB_STAT.SLEW 0 = 0 ∧ t.rd TB_STAT.HOLDOVER 0 = 0) ∧
      t.rd TPLL_JUMP.JUMP 0 = unsigned 32 (s.reduceJ phase) % 2 ^ 32 ∧
      (Raised t pgTpll 2 ∧ Raised t pgTpll 0) ∧
      Recorded s t 0x05 64 0x0304 ∧
      FieldsKept s t [(TPLL_STAT.STATE, 0), (TPLL_STAT.REF_OK, 0), (TB_STAT.HOLDOVER, 0), (TB_STAT.SLEW, 0), (TPLL_STAT.AUX_OK, 0), (TPLL_PHASE.RESIDUAL, 0), (TPLL_JUMP.JUMP, 0), (IRQ_STAT.BITS, pgTpll)] ∧
      t = { s with chip := { s.chip with regs := t.chip.regs, tpll := t.chip.tpll, hostp := t.chip.hostp, recs := t.chip.recs, prodq := t.chip.prodq, cal := t.chip.cal } }) ∧
  (∀ (s : State),
    s.tpll.started = true →
    s.tpllState = 1 ∨ s.tpllState = 3 →
    Gives (.refEdgeTimeout) s fun t =>
      t.tpllState = 2 ∧
      (t.rd TPLL_STAT.REF_OK 0 = 0 ∧ t.rd TB_STAT.HOLDOVER 0 = 1 ∧ t.rd TB_STAT.SLEW 0 = 0) ∧
      (t.tpll.gates = 0 ∧ t.tpll.qualAt = none ∧ t.tpll.since = s.tb) ∧
      Raised t pgTpll 1 ∧
      Recorded s t 0x05 64 0x0302 ∧
      FieldsKept s t [(TPLL_STAT.STATE, 0), (TPLL_STAT.REF_OK, 0), (TB_STAT.HOLDOVER, 0), (TB_STAT.SLEW, 0), (TPLL_FOFS.FOFS, 0), (IRQ_STAT.BITS, pgTpll)] ∧
      t = { s with chip := { s.chip with regs := t.chip.regs, tpll := t.chip.tpll, hostp := t.chip.hostp, recs := t.chip.recs, prodq := t.chip.prodq, cal := t.chip.cal } }) ∧
  (∀ (s : State),
    s.tpll.started = true →
    s.tpllState = 0 ∨ s.tpllState = 2 ∨ s.tpllState = 4 →
    Gives (.refEdgeTimeout) s fun t =>
      t.rd TPLL_STAT.REF_OK 0 = 0 ∧
      t.tpll = { s.tpll with gates := 0, qualAt := none } ∧
      FieldsKept s t [(TPLL_STAT.REF_OK, 0)] ∧
      t = { s with chip := { s.chip with regs := t.chip.regs, tpll := t.chip.tpll } }) ∧
  (∀ (q : Nat) (s : State),
    s.tpll.qualAt = some q →
    s.tpllState = 0 →
    s.on TPLL_STAT.REF_OK 0 = true →
    q + 500000 ≤ s.tb ∧ s.tb < q + 25000000 →
    Gives (.tpllLocked) s fun t =>
      (s.dev = 4 → t.dev = 5 ∧ t.bring.stage = 5 ∧ t.bring.trainFrom = s.tb) ∧
      (s.dev = 4 → s.on CAS_STAT.MASTER 0 = true → s.rd TB_STAT.EPOCH_STATE 0 = 0 → t.bring.epochNext = true) ∧
      ∃ u : State,
        u.tpllState = 1 ∧
        (u.rd TB_STAT.HOLDOVER 0 = 0 ∧ u.rd TB_STAT.SLEW 0 = 0) ∧
        Raised u pgTpll 0 ∧
        Recorded s u 0x05 64 0x0301 ∧
        FieldsKept s u [(TPLL_STAT.STATE, 0), (TB_STAT.HOLDOVER, 0), (TB_STAT.SLEW, 0), (IRQ_STAT.BITS, pgTpll)] ∧
        u = { s with chip := { s.chip with regs := u.chip.regs, tpll := u.chip.tpll, hostp := u.chip.hostp, recs := u.chip.recs, prodq := u.chip.prodq, cal := u.chip.cal } } ∧
        t = { s with chip := u.devLocked.chip } ∧
        (s.dev ≠ 4 ∧ s.dev ≠ 9 → u.devLocked = u)) ∧
  (∀ (q : Nat) (s : State),
    s.tpll.qualAt = some q →
    s.tpllState = 0 →
    q + 25000000 ≤ s.tb →
    Gives (.tpllAcquireTimeout) s fun t =>
      ∃ u : State,
        (u.tpllState = 4 ∧ u.rd TB_STAT.HOLDOVER 0 = 0 ∧ u.rd TB_STAT.SLEW 0 = 0) ∧
        (u.tpll.snap = none ∧ u.tpll.follow = false ∧ u.tpll.corr = 0 ∧ u.tpll.ratio = none ∧ u.tpll.since = s.tb) ∧
        Raised u pgTpll 3 ∧
        Recorded s u 0x05 64 0x0307 ∧
        FieldsKept s u [(TPLL_STAT.STATE, 0), (TB_STAT.HOLDOVER, 0), (TB_STAT.SLEW, 0), (TPLL_FOFS.FOFS, 0), (IRQ_STAT.BITS, pgTpll)] ∧
        u = { s with chip := { s.chip with regs := u.chip.regs, tpll := u.chip.tpll, hostp := u.chip.hostp, recs := u.chip.recs, prodq := u.chip.prodq, cal := u.chip.cal } } ∧
        t = { s with chip := (u.enterUncertain.afFallback.enterSafe 0).chip }) ∧
  (∀ (s : State),
    s.tpllState = 1 ∨ s.tpllState = 3 →
    Gives (.tpllCycleSlip) s fun t =>
      ∃ u : State,
        (u.tpllState = 4 ∧ u.rd TB_STAT.HOLDOVER 0 = 0 ∧ u.rd TB_STAT.SLEW 0 = 0) ∧
        (u.tpll.snap = none ∧ u.tpll.follow = false ∧ u.tpll.corr = 0 ∧ u.tpll.ratio = none ∧ u.tpll.since = s.tb) ∧
        Raised u pgTpll 3 ∧
        Recorded s u 0x05 64 0x0307 ∧
        FieldsKept s u [(TPLL_STAT.STATE, 0), (TB_STAT.HOLDOVER, 0), (TB_STAT.SLEW, 0), (TPLL_FOFS.FOFS, 0), (IRQ_STAT.BITS, pgTpll)] ∧
        u = { s with chip := { s.chip with regs := u.chip.regs, tpll := u.chip.tpll, hostp := u.chip.hostp, recs := u.chip.recs, prodq := u.chip.prodq, cal := u.chip.cal } } ∧
        t = { s with chip := (u.enterUncertain.afFallback.enterSafe 0).chip }) ∧
  (∀ (s : State),
    s.tpllState = 2 →
    s.tpll.since = s.tb →
    Gives (.tpllCycleSlip) s fun t =>
      ∃ u : State,
        (u.tpllState = 4 ∧ u.rd TB_STAT.HOLDOVER 0 = 0 ∧ u.rd TB_STAT.SLEW 0 = 0) ∧
        (u.tpll.snap = none ∧ u.tpll.follow = false ∧ u.tpll.corr = 0 ∧ u.tpll.ratio = none ∧ u.tpll.since = s.tb) ∧
        Raised u pgTpll 3 ∧
        Recorded s u 0x05 64 0x0307 ∧
        FieldsKept s u [(TPLL_STAT.STATE, 0), (TB_STAT.HOLDOVER, 0), (TB_STAT.SLEW, 0), (TPLL_FOFS.FOFS, 0), (IRQ_STAT.BITS, pgTpll)] ∧
        u = { s with chip := { s.chip with regs := u.chip.regs, tpll := u.chip.tpll, hostp := u.chip.hostp, recs := u.chip.recs, prodq := u.chip.prodq, cal := u.chip.cal } } ∧
        t = { s with chip := (u.enterUncertain.afFallback.enterSafe 0).chip }) ∧
  (∀ (s : State),
    s.tpll.started = true →
    s.tpllState ≠ 4 →
    Gives (.fineCodeLimit) s fun t =>
      ∃ u : State,
        (u.tpllState = 4 ∧ u.rd TB_STAT.HOLDOVER 0 = 0 ∧ u.rd TB_STAT.SLEW 0 = 0) ∧
        (u.tpll.snap = none ∧ u.tpll.follow = false ∧ u.tpll.corr = 0 ∧ u.tpll.ratio = none ∧ u.tpll.since = s.tb) ∧
        Raised u pgTpll 3 ∧
        Recorded s u 0x05 64 0x0307 ∧
        FieldsKept s u [(TPLL_STAT.STATE, 0), (TB_STAT.HOLDOVER, 0), (TB_STAT.SLEW, 0), (TPLL_FOFS.FOFS, 0), (IRQ_STAT.BITS, pgTpll)] ∧
        u = { s with chip := { s.chip with regs := u.chip.regs, tpll := u.chip.tpll, hostp := u.chip.hostp, recs := u.chip.recs, prodq := u.chip.prodq, cal := u.chip.cal } } ∧
        t = { s with chip := (u.enterUncertain.afFallback.enterSafe 0).chip }) ∧
  (∀ (s : State),
    s.tpllState = 1 ∨ s.tpllState = 2 ∨ s.tpllState = 3 →
    Gives (.tbSupervisorFault) s fun t =>
      ∃ u : State,
        (u.tpllState = 4 ∧ u.rd TB_STAT.HOLDOVER 0 = 0 ∧ u.rd TB_STAT.SLEW 0 = 0) ∧
        (u.tpll.snap = none ∧ u.tpll.follow = false ∧ u.tpll.corr = 0 ∧ u.tpll.ratio = none ∧ u.tpll.since = s.tb) ∧
        Raised u pgTpll 3 ∧
        Recorded s u 0x05 64 0x0307 ∧
        FieldsKept s u [(TPLL_STAT.STATE, 0), (TB_STAT.HOLDOVER, 0), (TB_STAT.SLEW, 0), (TPLL_FOFS.FOFS, 0), (IRQ_STAT.BITS, pgTpll)] ∧
        u = { s with chip := { s.chip with regs := u.chip.regs, tpll := u.chip.tpll, hostp := u.chip.hostp, recs := u.chip.recs, prodq := u.chip.prodq, cal := u.chip.cal } } ∧
        t = { s with chip := (u.enterUncertain.afFallback.enterSafe 0).chip }) ∧
  (∀ s : State, s.rd TB_STAT.EPOCH_STATE 0 = 1 → s.enterUncertain.rd TB_STAT.EPOCH_STATE 0 = 2 ∧ Raised s.enterUncertain pgTb 1 ∧
    Recorded s s.enterUncertain 0x05 65 0x0104 ∧
    s.enterUncertain.rd TB_STAT.UNC_COUNT 0 = min TB_STAT.UNC_COUNT.max (s.rd TB_STAT.UNC_COUNT 0 + 1)) ∧
  (∀ (s : State) (b : Nat), b < 3 → 4 ≤ s.dev → s.dev ≠ 8 → ∃ u : State,
    u.dev = 8 ∧ u.rd DEV_STATE.PREV 0 = s.dev % 16 ∧ u.rd DEV_STATE.SAFE_CAUSE 0 = (s.rd DEV_STATE.SAFE_CAUSE 0 ||| 2 ^ b) % 8 ∧
    u.rd DEV_STATE.SAFE_COUNT 0 = min DEV_STATE.SAFE_COUNT.max (s.rd DEV_STATE.SAFE_COUNT 0 + 1) ∧
    Frame s u [(DEV_STATE.STATE, 0), (DEV_STATE.PREV, 0), (DEV_STATE.SAFE_CAUSE, 0), (DEV_STATE.SAFE_COUNT, 0)] ∧
    s.enterSafe b = ((((List.range 512).foldl (fun x e => x.engSafe e) u).lanesHold.softStopAll.calAbort.raise pgDev 1).jrn 0x0E 0 0x1502 [])) ∧
  (∀ (s : State),
    s.tpll.started = true →
    s.rd TPLL_STAT.FINE_MARGIN 0 = 0 →
    Gives (.tpllFineMargin) s fun t =>
      t.rd TPLL_STAT.FINE_MARGIN 0 = 1 ∧
      Raised t pgTpll 5 ∧
      FieldsKept s t [(TPLL_STAT.FINE_MARGIN, 0), (IRQ_STAT.BITS, pgTpll)] ∧
      t = { s with chip := { s.chip with regs := t.chip.regs, hostp := t.chip.hostp } }) ∧
  (∀ (s : State),
    s.fallback = false →
    s.domOn 32 = true →
    Gives (.afTbEdgeLoss) s fun t =>
      t.rd AF_STAT.FALLBACK 0 = 1 ∧
      Raised t pgAf 5 ∧
      (∀ d : Fin 64, s.drvState d.val = 2 → (s.drv d.val).entry = none → (s.drv d.val).stops.all (fun x => x.2 != 3) = true → (t.drv d.val).stops = (s.drv d.val).stops ++ [(s.nextSample d.val, 3)]) ∧
      t = { s with chip := { s.chip with regs := t.chip.regs, hostp := t.chip.hostp, recs := t.chip.recs, drv := t.chip.drv, grp := t.chip.grp, bank := t.chip.bank, sense := t.chip.sense } }) ∧
  (∀ (s : State),
    s.fallback = true →
    Gives (.afTbEdgeLoss) s fun t =>
      t.bring = { s.bring with afBack := none } ∧
      t = { s with chip := { s.chip with bring := t.chip.bring } })

/-- SLEW, snaps, the corrections of HOLDOVER, restart and sweep. SLEW without a snap goes to LOCKED with its record when the residual is 1 ns or less; PHASE_SNAP in SLEW with every engine and channel idle fixes the residual and sets the first step 16 ticks later, is accepted without effect while a snap runs, and is refused with code 3 outside SLEW; a step that is due moves the phase 250 ps toward 0 and sets the next 16 ticks later, the first one after it has sent every lane in SERVICE to RETRAIN, and the one that brings the phase below 1 ns ends in LOCKED and raises SNAP_DONE; the temperature correction of HOLDOVER moves toward its value by at most 0.01 ppm at a time, 10 ms after it last moved; a REF_AUX that is lost in HOLDOVER on it clears AUX_OK, raises AUX_LOST and starts temperature correction from there; RESTART in FAILED goes to ACQUIRE with its record, with the band that tpllBand selects, and is refused with code 5 elsewhere; SWEEP in FAILED, or before TB runs, starts at band 0 and is refused with code 1 elsewhere; a band's gate that is over stores its result, and the next band's begins, or after band 63 the sweep ends with SWEEP_DONE. Where the rules leave room the clauses state the model's readings (log entries 3, 10, 23 and 24) -/
def Obligations.TpllSlewHoldoverSweep : Prop :=
  (∀ (s : State),
    s.tpllState = 3 →
    s.tpll.snap = none →
    s.residual.natAbs ≤ 5000000 →
    Gives (.slewComplete) s fun t =>
      ∃ u : State,
        u.tpllState = 1 ∧
        (u.tpll.res = s.residual ∧ u.tpll.snap = none) ∧
        u.rd TB_STAT.SLEW 0 = 0 ∧
        Raised u pgTpll 0 ∧
        Recorded s u 0x05 64 0x0301 ∧
        FieldsKept s u [(TPLL_STAT.STATE, 0), (TB_STAT.HOLDOVER, 0), (TB_STAT.SLEW, 0), (TPLL_PHASE.RESIDUAL, 0), (IRQ_STAT.BITS, pgTpll)] ∧
        u = { s with chip := { s.chip with regs := u.chip.regs, tpll := u.chip.tpll, hostp := u.chip.hostp, recs := u.chip.recs, prodq := u.chip.prodq, cal := u.chip.cal } } ∧
        t = { s with chip := u.devLocked.chip } ∧
        (s.dev ≠ 4 ∧ s.dev ≠ 9 → u.devLocked = u)) ∧
  (∀ (next : Nat) (s : State),
    s.tpll.snap = some (next, true) →
    next ≤ s.tb →
    6250000 ≤ s.tpll.res.natAbs →
    Gives (.phaseSnapStep) s fun t =>
      (t.tpll = { s.tpll with res := (if 0 ≤ s.tpll.res then s.tpll.res - 1250000 else s.tpll.res + 1250000), resAt := s.tb, snap := some (next + 16, true) }) ∧
      FieldsKept s t [(TPLL_PHASE.RESIDUAL, 0)] ∧
      t = { s with chip := { s.chip with regs := t.chip.regs, tpll := t.chip.tpll } }) ∧
  (∀ (next : Nat) (s : State),
    s.tpll.snap = some (next, false) →
    next ≤ s.tb →
    6250000 ≤ s.tpll.res.natAbs →
    Gives (.phaseSnapStep) s fun t =>
      ∃ u : State,
        (∀ l : Fin 256, s.laneState l.val ≠ 5 → u.lphy l.val = s.lphy l.val) ∧
        u.tpll = s.tpll ∧
        (u = (List.range 256).foldl (fun x l => if x.laneState l = 5 then x.laneGo l 6 7 else x) s) ∧
        (t = { s with chip := ((u.modTpll fun p => { p with
          res := (if 0 ≤ s.tpll.res then s.tpll.res - 1250000 else s.tpll.res + 1250000), resAt := u.tb, snap := some (next + 16, true) }).settleResidual).chip })) ∧
  (∀ (next : Nat) (s : State),
    s.tpll.snap = some (next, true) →
    next ≤ s.tb →
    s.tpll.res.natAbs < 6250000 →
    s.dev ≠ 4 ∧ s.dev ≠ 9 →
    Gives (.phaseSnapStep) s fun t =>
      (t.tpllState = 1 ∧ t.rd TB_STAT.SLEW 0 = 0 ∧ t.rd TB_STAT.HOLDOVER 0 = 0) ∧
      (t.tpll.snap = none ∧ t.tpll.res = (if 0 ≤ s.tpll.res then s.tpll.res - 1250000 else s.tpll.res + 1250000)) ∧
      (Raised t pgTpll 8 ∧ Raised t pgTpll 0) ∧
      Recorded s t 0x05 64 0x0301 ∧
      FieldsKept s t [(TPLL_STAT.STATE, 0), (TB_STAT.HOLDOVER, 0), (TB_STAT.SLEW, 0), (TPLL_PHASE.RESIDUAL, 0), (IRQ_STAT.BITS, pgTpll)] ∧
      t = { s with chip := { s.chip with regs := t.chip.regs, tpll := t.chip.tpll, hostp := t.chip.hostp, recs := t.chip.recs, prodq := t.chip.prodq, cal := t.chip.cal } }) ∧
  (∀ (s : State),
    s.tpllState = 2 →
    s.tpll.follow = false →
    s.rd TPLL_CTRL.HOLD_SRC 0 = 0 ∨ s.tpll.auxGone = true →
    s.tpll.corrAt + 5000000 ≤ s.tb →
    Gives (.holdoverTempCorrect) s fun t =>
      t.tpll = { s.tpll with corr := s.tpll.corr + max (-4096000) (min 4096000 (s.tempCorr - s.tpll.corr)), corrAt := s.tb } ∧
      t = { s with chip := { s.chip with tpll := t.chip.tpll } }) ∧
  (∀ (s : State),
    s.tpllState = 2 →
    s.rd TPLL_CTRL.HOLD_SRC 0 = 1 →
    s.tpll.auxGone = false →
    Gives (.auxLost) s fun t =>
      t.rd TPLL_STAT.AUX_OK 0 = 0 ∧
      t.tpll = { s.tpll with auxGone := true, auxGates := 0, ratio := none, corr := 0, tEntry := s.hubTemp, corrAt := s.tb } ∧
      Raised t pgTpll 7 ∧
      FieldsKept s t [(TPLL_STAT.AUX_OK, 0), (IRQ_STAT.BITS, pgTpll)] ∧
      t = { s with chip := { s.chip with regs := t.chip.regs, tpll := t.chip.tpll, hostp := t.chip.hostp } }) ∧
  (∀ (b : Nat) (w : Wr) (s : State),
    Accepted s w pgTpll →
    s.tpllState = 4 →
    bit w.val.toNat 2 = false →
    bit w.val.toNat 3 = false →
    bits w.val.toNat 8 4 ≤ 4 →
    bits w.val.toNat 4 2 ≤ 1 →
    s.tpllBand = some b →
    Gives (.tpllRestart w) s fun t =>
      t.tpllState = 0 ∧
      (t.rd TPLL_STAT.REF_OK 0 = 0 ∧ t.rd TPLL_STAT.BAND 0 = b % 2 ^ 8 ∧ t.rd TPLL_STAT.SWEEP_BUSY 0 = 0) ∧
      (t.tpll.started = true ∧ t.tpll.gates = 0 ∧ t.tpll.qualAt = none) ∧
      (t.rd TPLL_CTRL.TBOUT_SEL 0 = bits w.val.toNat 8 4 ∧ t.rd TPLL_CTRL.HOLD_SRC 0 = bits w.val.toNat 4 2) ∧
      Recorded s t 0x05 64 0x030E ∧
      (t.rd TB_STAT.HOLDOVER 0 = 0 ∧ t.rd TB_STAT.SLEW 0 = 0 ∧ t.rd TPLL_STAT.FINE_MARGIN 0 = 0) ∧
      FieldsKept s t [(TPLL_STAT.STATE, 0), (TPLL_STAT.REF_OK, 0), (TPLL_STAT.BAND, 0), (TPLL_STAT.SWEEP_BUSY, 0), (TPLL_STAT.FINE_MARGIN, 0), (TB_STAT.HOLDOVER, 0), (TB_STAT.SLEW, 0), (TPLL_CTRL.TBOUT_SEL, 0), (TPLL_CTRL.HOLD_SRC, 0), (HOST_STAT.COLLIDE_COUNT, 0)] ∧
      t = { s with chip := { s.chip with regs := t.chip.regs, tpll := t.chip.tpll, hostp := t.chip.hostp, recs := t.chip.recs, prodq := t.chip.prodq, cal := t.chip.cal } }) ∧
  (∀ (w : Wr) (s : State),
    Accepted s w pgTpll →
    s.tpllState ≠ 4 →
    bit w.val.toNat 2 = false →
    bit w.val.toNat 3 = false →
    bits w.val.toNat 8 4 ≤ 4 →
    bits w.val.toNat 4 2 ≤ 1 →
    Gives (.tpllRestart w) s fun t =>
      Refused s t pgTpll 5 ∧
      FieldsKept s t [(ERR_CODE.LAST, pgTpll), (ERR_CODE.FIRST, pgTpll), (ERR_COUNT.COUNT, pgTpll), (HOST_STAT.COLLIDE_COUNT, 0)] ∧
      t = { s with chip := { s.chip with regs := t.chip.regs, hostp := t.chip.hostp } }) ∧
  (∀ (w : Wr) (s : State),
    Accepted s w pgTpll →
    s.tpllState = 3 →
    s.anyEngBusy = false ∧ s.anyDrvBusy = false →
    bit w.val.toNat 1 = false →
    bit w.val.toNat 3 = false →
    bits w.val.toNat 8 4 ≤ 4 →
    bits w.val.toNat 4 2 ≤ 1 →
    Gives (.phaseSnap w) s fun t =>
      (t.tpll = (if s.tpll.snap = none then { s.tpll with res := s.residual, resAt := s.tb, snap := some (s.tb + 16, false) } else s.tpll)) ∧
      (t.rd TPLL_CTRL.TBOUT_SEL 0 = bits w.val.toNat 8 4 ∧ t.rd TPLL_CTRL.HOLD_SRC 0 = bits w.val.toNat 4 2) ∧
      FieldsKept s t [(TPLL_CTRL.TBOUT_SEL, 0), (TPLL_CTRL.HOLD_SRC, 0), (TPLL_PHASE.RESIDUAL, 0), (HOST_STAT.COLLIDE_COUNT, 0)] ∧
      t = { s with chip := { s.chip with regs := t.chip.regs, tpll := t.chip.tpll, hostp := t.chip.hostp } }) ∧
  (∀ (w : Wr) (s : State),
    Accepted s w pgTpll →
    s.tpllState ≠ 3 →
    s.anyEngBusy = false ∧ s.anyDrvBusy = false →
    bit w.val.toNat 1 = false →
    bit w.val.toNat 3 = false →
    bits w.val.toNat 8 4 ≤ 4 →
    bits w.val.toNat 4 2 ≤ 1 →
    Gives (.phaseSnap w) s fun t =>
      Refused s t pgTpll 3 ∧
      FieldsKept s t [(ERR_CODE.LAST, pgTpll), (ERR_CODE.FIRST, pgTpll), (ERR_COUNT.COUNT, pgTpll), (HOST_STAT.COLLIDE_COUNT, 0)] ∧
      t = { s with chip := { s.chip with regs := t.chip.regs, hostp := t.chip.hostp } }) ∧
  (∀ (w : Wr) (s : State),
    Accepted s w pgTpll →
    s.on TB_STAT.TB_RUN 0 = false ∨ s.tpllState = 4 →
    bit w.val.toNat 1 = false →
    bit w.val.toNat 2 = false →
    bits w.val.toNat 8 4 ≤ 4 →
    bits w.val.toNat 4 2 ≤ 1 →
    Gives (.sweep w) s fun t =>
      t.tpll = { s.tpll with sweep := some (0, s.tb) } ∧
      t.rd TPLL_STAT.SWEEP_BUSY 0 = 1 ∧
      (t.rd TPLL_CTRL.TBOUT_SEL 0 = bits w.val.toNat 8 4 ∧ t.rd TPLL_CTRL.HOLD_SRC 0 = bits w.val.toNat 4 2) ∧
      FieldsKept s t [(TPLL_CTRL.TBOUT_SEL, 0), (TPLL_CTRL.HOLD_SRC, 0), (TPLL_STAT.SWEEP_BUSY, 0), (HOST_STAT.COLLIDE_COUNT, 0)] ∧
      t = { s with chip := { s.chip with regs := t.chip.regs, tpll := t.chip.tpll, hostp := t.chip.hostp } }) ∧
  (∀ (w : Wr) (s : State),
    Accepted s w pgTpll →
    s.on TB_STAT.TB_RUN 0 = true ∧ s.tpllState ≠ 4 →
    bit w.val.toNat 1 = false →
    bit w.val.toNat 2 = false →
    bits w.val.toNat 8 4 ≤ 4 →
    bits w.val.toNat 4 2 ≤ 1 →
    Gives (.sweep w) s fun t =>
      Refused s t pgTpll 1 ∧
      FieldsKept s t [(ERR_CODE.LAST, pgTpll), (ERR_CODE.FIRST, pgTpll), (ERR_COUNT.COUNT, pgTpll), (HOST_STAT.COLLIDE_COUNT, 0)] ∧
      t = { s with chip := { s.chip with regs := t.chip.regs, hostp := t.chip.hostp } }) ∧
  (∀ (b b0 : Nat) (fmid : BitVec 24) (mid : Bool) (s : State),
    s.tpll.sweep = some (b, b0) →
    b0 + 50000 ≤ s.tb →
    Gives (.sweepBandGate fmid mid) s fun t =>
      (t.rd TPLL_SWEEP_RES.FMID b = fmid.toNat ∧ t.rd TPLL_SWEEP_RES.VALID b = flag mid) ∧
      (t.tpll = { s.tpll with sweep := if b = 63 then none else some (b + 1, s.tb) }) ∧
      (b = 63 → t.rd TPLL_STAT.SWEEP_BUSY 0 = 0 ∧ Raised t pgTpll 9) ∧
      FieldsKept s t [(TPLL_SWEEP_RES.FMID, b), (TPLL_SWEEP_RES.VALID, b), (TPLL_STAT.SWEEP_BUSY, 0), (IRQ_STAT.BITS, pgTpll)] ∧
      t = { s with chip := { s.chip with regs := t.chip.regs, tpll := t.chip.tpll, hostp := t.chip.hostp } })

/-- The band tables and the quad PLLs. A band entry is written into the inactive bank of the TPLL or of a quad, which is then not built; CLOSE sets BUILD_DONE and compares the inactive bank's CRC with its check word, and the REQ_BANK written with it goes to the shadow copy, or is rejected during a shadow lock; at a lane grid boundary a requested swap of a bank that is built and checked makes it the active one, and the other reads as not built, while a selection that began in the same tick is made again with it; a swap of a bank that is not is deferred, told by one event, and nothing happens elsewhere; EN takes an OFF quad whose domain is ON to ACQUIRE in the band that quadBand selects, or to FAILED where there is none; EN 0 takes a quad to OFF, and the lanes of a LOCKED one to DARK; a quad in ACQUIRE or RELOCK locks, showing its lock time, and its lanes leave DARK; VT_WARN is raised where it was not set; a LOCKED quad that unlocks goes to RELOCK in its first band, counted and recorded, its lanes DARK; RELOCK takes a FAILED quad to RELOCK, counted, and is refused with code 1 in OFF, ACQUIRE and RELOCK; an attempt that is over, 8 µs after it began, passes to the next band, or to FAILED after the last. Where the rules leave room the clauses state the model's readings (log entries 3, 10, 23 and 24) -/
def Obligations.BandTablesAndQuads : Prop :=
  (∀ (i : Fin 64) (w : Wr) (s : State),
    Accepted s w pgTpll →
    Gives (.bandEntryWrite none i w) s fun t =>
      t.tabEntry tabTpll (1 - s.rd TPLL_BAND_CTL.ACTIVE_BANK 0) i.val = w.val.toNat &&& 0x80FFFFFF ∧
      (∀ j, j ≠ i.val → t.tabEntry tabTpll (1 - s.rd TPLL_BAND_CTL.ACTIVE_BANK 0) j = s.tabEntry tabTpll (1 - s.rd TPLL_BAND_CTL.ACTIVE_BANK 0) j) ∧
      (t.rd TPLL_BAND_CTL.BUILD_DONE 0 = 0 ∧ t.rd TPLL_BAND_CTL.CHECK_OK 0 = 0) ∧
      Others s.tab t.tab tabTpll ∧
      FieldsKept s t [(TPLL_BAND_CTL.BUILD_DONE, 0), (TPLL_BAND_CTL.CHECK_OK, 0), (HOST_STAT.COLLIDE_COUNT, 0)] ∧
      t = { s with chip := { s.chip with regs := t.chip.regs, hostp := t.chip.hostp, tab := t.chip.tab } }) ∧
  (∀ (w : Wr) (s : State),
    Accepted s w pgTpll →
    s.shadowLocked pgTpll = false →
    Gives (.bandClose none w) s fun t =>
      t.rd TPLL_BAND_CTL.BUILD_DONE 0 = 1 ∧
      t.rd TPLL_BAND_CTL.CHECK_OK 0 = flag (s.bankCrc none (1 - s.rd TPLL_BAND_CTL.ACTIVE_BANK 0) == s.rd TPLL_BAND_CHECK.CHECK 0) ∧
      (t.rd TPLL_BAND_CTL.REQ_BANK 0 = bits w.val.toNat 16 1 ∧ t.isDirty TPLL_BAND_CTL.REQ_BANK 0 = true) ∧
      FieldsKept s t [(TPLL_BAND_CTL.BUILD_DONE, 0), (TPLL_BAND_CTL.CHECK_OK, 0), (TPLL_BAND_CTL.REQ_BANK, 0), (HOST_STAT.COLLIDE_COUNT, 0)] ∧
      t = { s with chip := { s.chip with regs := t.chip.regs, hostp := t.chip.hostp, dirty := t.chip.dirty } }) ∧
  (∀ (w : Wr) (s : State),
    Accepted s w pgTpll →
    s.shadowLocked pgTpll = true →
    Gives (.bandClose none w) s fun t =>
      t.rd TPLL_BAND_CTL.BUILD_DONE 0 = 1 ∧
      t.rd TPLL_BAND_CTL.CHECK_OK 0 = flag (s.bankCrc none (1 - s.rd TPLL_BAND_CTL.ACTIVE_BANK 0) == s.rd TPLL_BAND_CHECK.CHECK 0) ∧
      t.rd SHADOW_STAT.REJECT pgTpll = 1 ∧
      FieldsKept s t [(TPLL_BAND_CTL.BUILD_DONE, 0), (TPLL_BAND_CTL.CHECK_OK, 0), (SHADOW_STAT.REJECT, pgTpll), (SHADOW_STAT.REJ_COUNT, pgTpll), (HOST_STAT.COLLIDE_COUNT, 0)] ∧
      t = { s with chip := { s.chip with regs := t.chip.regs, hostp := t.chip.hostp } }) ∧
  (∀ (s : State),
    s.epoch % 16 = 0 →
    s.rdX TPLL_BAND_CTL.REQ_BANK 0 ≠ s.rd TPLL_BAND_CTL.ACTIVE_BANK 0 →
    s.on TPLL_BAND_CTL.BUILD_DONE 0 = true ∧ s.on TPLL_BAND_CTL.CHECK_OK 0 = true →
    s.tpll.started = false ∨ s.tpll.since ≠ s.tb ∨ s.tpllState ≠ 0 →
    Gives (.bandSwapAttempt none) s fun t =>
      t.rd TPLL_BAND_CTL.ACTIVE_BANK 0 = 1 - s.rd TPLL_BAND_CTL.ACTIVE_BANK 0 ∧
      (t.rd TPLL_BAND_CTL.BUILD_DONE 0 = 0 ∧ t.rd TPLL_BAND_CTL.CHECK_OK 0 = 0) ∧
      (∀ b : Fin 2, ∀ j : Fin 64, t.tabEntry tabTpll b.val j.val = s.tabEntry tabTpll b.val j.val) ∧
      FieldsKept s t [(TPLL_BAND_CTL.ACTIVE_BANK, 0), (TPLL_BAND_CTL.BUILD_DONE, 0), (TPLL_BAND_CTL.CHECK_OK, 0)] ∧
      t = { s with chip := { s.chip with regs := t.chip.regs, tab := t.chip.tab } }) ∧
  (∀ (s : State),
    s.epoch % 16 = 0 →
    s.rdX TPLL_BAND_CTL.REQ_BANK 0 ≠ s.rd TPLL_BAND_CTL.ACTIVE_BANK 0 →
    s.on TPLL_BAND_CTL.BUILD_DONE 0 = true ∧ s.on TPLL_BAND_CTL.CHECK_OK 0 = true →
    s.tpll.started = true ∧ s.tpll.since = s.tb ∧ s.tpllState = 0 →
    Gives (.bandSwapAttempt none) s fun t =>
      (t.rd TPLL_BAND_CTL.ACTIVE_BANK 0 = 1 - s.rd TPLL_BAND_CTL.ACTIVE_BANK 0 ∧ t.rd TPLL_BAND_CTL.BUILD_DONE 0 = 0 ∧ t.rd TPLL_BAND_CTL.CHECK_OK 0 = 0) ∧
      (∀ b, t.tpllBand = some b → t.rd TPLL_STAT.BAND 0 = b % 2 ^ 8) ∧
      (t.tpllBand = none → t.rd TPLL_STAT.BAND 0 = s.rd TPLL_STAT.BAND 0) ∧
      FieldsKept s t [(TPLL_BAND_CTL.ACTIVE_BANK, 0), (TPLL_BAND_CTL.BUILD_DONE, 0), (TPLL_BAND_CTL.CHECK_OK, 0), (TPLL_STAT.BAND, 0)] ∧
      t = { s with chip := { s.chip with regs := t.chip.regs, tab := t.chip.tab } }) ∧
  (∀ (s : State),
    s.epoch % 16 ≠ 0 ∨ s.rdX TPLL_BAND_CTL.REQ_BANK 0 = s.rd TPLL_BAND_CTL.ACTIVE_BANK 0 ∨ ((s.tab tabTpll).told = true ∧ (s.on TPLL_BAND_CTL.BUILD_DONE 0 = false ∨ s.on TPLL_BAND_CTL.CHECK_OK 0 = false)) →
    Gives (.bandSwapAttempt none) s fun t =>
      t = s) ∧
  (∀ (s : State),
    s.epoch % 16 = 0 →
    s.rdX TPLL_BAND_CTL.REQ_BANK 0 ≠ s.rd TPLL_BAND_CTL.ACTIVE_BANK 0 →
    s.on TPLL_BAND_CTL.BUILD_DONE 0 = false ∨ s.on TPLL_BAND_CTL.CHECK_OK 0 = false →
    (s.tab tabTpll).told = false →
    Gives (.bandSwapAttempt none) s fun t =>
      (t.tab tabTpll).told = true ∧
      Raised t pgTpll 6 ∧
      FieldsKept s t [(IRQ_STAT.BITS, pgTpll)] ∧
      t = { s with chip := { s.chip with regs := t.chip.regs, hostp := t.chip.hostp, tab := t.chip.tab } }) ∧
  (∀ (q : Fin 64) (i : Fin 64) (w : Wr) (s : State),
    Accepted s w (pgQpll q.val) →
    Gives (.bandEntryWrite (some q) i w) s fun t =>
      t.tabEntry (tabQuad q.val) (1 - s.rd QPLL_BAND_CTL.ACTIVE_BANK q.val) (i.val % 8) = w.val.toNat &&& 0x8000007F ∧
      (∀ j, j ≠ (i.val % 8) → t.tabEntry (tabQuad q.val) (1 - s.rd QPLL_BAND_CTL.ACTIVE_BANK q.val) j = s.tabEntry (tabQuad q.val) (1 - s.rd QPLL_BAND_CTL.ACTIVE_BANK q.val) j) ∧
      (t.rd QPLL_BAND_CTL.BUILD_DONE q.val = 0 ∧ t.rd QPLL_BAND_CTL.CHECK_OK q.val = 0) ∧
      Others s.tab t.tab (tabQuad q.val) ∧
      FieldsKept s t [(QPLL_BAND_CTL.BUILD_DONE, q.val), (QPLL_BAND_CTL.CHECK_OK, q.val), (HOST_STAT.COLLIDE_COUNT, 0)] ∧
      t = { s with chip := { s.chip with regs := t.chip.regs, hostp := t.chip.hostp, tab := t.chip.tab } }) ∧
  (∀ (q : Fin 64) (w : Wr) (s : State),
    Accepted s w (pgQpll q.val) →
    s.shadowLocked (pgQpll q.val) = false →
    Gives (.bandClose (some q) w) s fun t =>
      t.rd QPLL_BAND_CTL.BUILD_DONE q.val = 1 ∧
      t.rd QPLL_BAND_CTL.CHECK_OK q.val = flag (s.bankCrc (some q.val) (1 - s.rd QPLL_BAND_CTL.ACTIVE_BANK q.val) == s.rd QPLL_BAND_CHECK.CHECK q.val) ∧
      (t.rd QPLL_BAND_CTL.REQ_BANK q.val = bits w.val.toNat 16 1 ∧ t.isDirty QPLL_BAND_CTL.REQ_BANK q.val = true) ∧
      FieldsKept s t [(QPLL_BAND_CTL.BUILD_DONE, q.val), (QPLL_BAND_CTL.CHECK_OK, q.val), (QPLL_BAND_CTL.REQ_BANK, q.val), (HOST_STAT.COLLIDE_COUNT, 0)] ∧
      t = { s with chip := { s.chip with regs := t.chip.regs, hostp := t.chip.hostp, dirty := t.chip.dirty } }) ∧
  (∀ (q : Fin 64) (w : Wr) (s : State),
    Accepted s w (pgQpll q.val) →
    s.shadowLocked (pgQpll q.val) = true →
    Gives (.bandClose (some q) w) s fun t =>
      t.rd QPLL_BAND_CTL.BUILD_DONE q.val = 1 ∧
      t.rd QPLL_BAND_CTL.CHECK_OK q.val = flag (s.bankCrc (some q.val) (1 - s.rd QPLL_BAND_CTL.ACTIVE_BANK q.val) == s.rd QPLL_BAND_CHECK.CHECK q.val) ∧
      t.rd SHADOW_STAT.REJECT (pgQpll q.val) = 1 ∧
      FieldsKept s t [(QPLL_BAND_CTL.BUILD_DONE, q.val), (QPLL_BAND_CTL.CHECK_OK, q.val), (SHADOW_STAT.REJECT, (pgQpll q.val)), (SHADOW_STAT.REJ_COUNT, (pgQpll q.val)), (HOST_STAT.COLLIDE_COUNT, 0)] ∧
      t = { s with chip := { s.chip with regs := t.chip.regs, hostp := t.chip.hostp } }) ∧
  (∀ (q : Fin 64) (s : State),
    s.epoch % 16 = 0 →
    s.rdX QPLL_BAND_CTL.REQ_BANK q.val ≠ s.rd QPLL_BAND_CTL.ACTIVE_BANK q.val →
    s.on QPLL_BAND_CTL.BUILD_DONE q.val = true ∧ s.on QPLL_BAND_CTL.CHECK_OK q.val = true →
    (s.quad q.val).since ≠ s.tb ∨ (s.quadState q.val ≠ 1 ∧ s.quadState q.val ≠ 3) →
    Gives (.bandSwapAttempt (some q)) s fun t =>
      t.rd QPLL_BAND_CTL.ACTIVE_BANK q.val = 1 - s.rd QPLL_BAND_CTL.ACTIVE_BANK q.val ∧
      (t.rd QPLL_BAND_CTL.BUILD_DONE q.val = 0 ∧ t.rd QPLL_BAND_CTL.CHECK_OK q.val = 0) ∧
      (∀ b : Fin 2, ∀ j : Fin 64, t.tabEntry (tabQuad q.val) b.val j.val = s.tabEntry (tabQuad q.val) b.val j.val) ∧
      FieldsKept s t [(QPLL_BAND_CTL.ACTIVE_BANK, q.val), (QPLL_BAND_CTL.BUILD_DONE, q.val), (QPLL_BAND_CTL.CHECK_OK, q.val)] ∧
      t = { s with chip := { s.chip with regs := t.chip.regs, tab := t.chip.tab } }) ∧
  (∀ (q : Fin 64) (s : State),
    s.epoch % 16 = 0 →
    s.rdX QPLL_BAND_CTL.REQ_BANK q.val ≠ s.rd QPLL_BAND_CTL.ACTIVE_BANK q.val →
    s.on QPLL_BAND_CTL.BUILD_DONE q.val = true ∧ s.on QPLL_BAND_CTL.CHECK_OK q.val = true →
    (s.quad q.val).since = s.tb ∧ s.quadState q.val = 1 ∧ 4 ≤ s.dev →
    Gives (.bandSwapAttempt (some q)) s fun t =>
      (t.rd QPLL_BAND_CTL.ACTIVE_BANK q.val = 1 - s.rd QPLL_BAND_CTL.ACTIVE_BANK q.val ∧ t.rd QPLL_BAND_CTL.BUILD_DONE q.val = 0 ∧ t.rd QPLL_BAND_CTL.CHECK_OK q.val = 0) ∧
      (∀ b, t.quadBand q.val = some b → t.quadState q.val = 1 ∧ t.rd QPLL_STAT.BAND q.val = b % 2 ^ 7) ∧
      (t.quadBand q.val = none → t.quadState q.val = 4 ∧ Raised t (pgQpll q.val) 2) ∧
      FieldsKept s t [(QPLL_BAND_CTL.ACTIVE_BANK, q.val), (QPLL_BAND_CTL.BUILD_DONE, q.val), (QPLL_BAND_CTL.CHECK_OK, q.val), (QPLL_STAT.STATE, q.val), (QPLL_STAT.BAND, q.val), (QPLL_STAT.TBIN, q.val), (QPLL_STAT.VT_WARN, q.val), (QPLL_STAT.ATTEMPT, q.val), (IRQ_STAT.BITS, pgQpll q.val)] ∧
      t = { s with chip := { s.chip with regs := t.chip.regs, tab := t.chip.tab, quad := t.chip.quad, prodq := t.chip.prodq, hostp := t.chip.hostp } }) ∧
  (∀ (q : Fin 64) (s : State),
    s.epoch % 16 ≠ 0 ∨ s.rdX QPLL_BAND_CTL.REQ_BANK q.val = s.rd QPLL_BAND_CTL.ACTIVE_BANK q.val ∨ ((s.tab (tabQuad q.val)).told = true ∧ (s.on QPLL_BAND_CTL.BUILD_DONE q.val = false ∨ s.on QPLL_BAND_CTL.CHECK_OK q.val = false)) →
    Gives (.bandSwapAttempt (some q)) s fun t =>
      t = s) ∧
  (∀ (q : Fin 64) (s : State),
    s.epoch % 16 = 0 →
    s.rdX QPLL_BAND_CTL.REQ_BANK q.val ≠ s.rd QPLL_BAND_CTL.ACTIVE_BANK q.val →
    s.on QPLL_BAND_CTL.BUILD_DONE q.val = false ∨ s.on QPLL_BAND_CTL.CHECK_OK q.val = false →
    (s.tab (tabQuad q.val)).told = false →
    Gives (.bandSwapAttempt (some q)) s fun t =>
      (t.tab (tabQuad q.val)).told = true ∧
      Raised t (pgQpll q.val) 4 ∧
      FieldsKept s t [(IRQ_STAT.BITS, (pgQpll q.val))] ∧
      t = { s with chip := { s.chip with regs := t.chip.regs, hostp := t.chip.hostp, tab := t.chip.tab } }) ∧
  (∀ (q : Fin 64) (w : Wr) (s : State),
    Accepted s w (pgQpll q.val) →
    s.quadState q.val = 0 →
    s.domOn (34 + q.val) = true →
    (s.quad q.val).hold = false →
    bit w.val.toNat 0 = true ∧ bit w.val.toNat 2 = false →
    4 ≤ s.dev →
    Gives (.qpllEnable q w) s fun t =>
      (∀ b, s.quadBand q.val = some b → t.quadState q.val = 1 ∧ t.rd QPLL_STAT.BAND q.val = b % 2 ^ 7) ∧
      (s.quadBand q.val = none → t.quadState q.val = 4 ∧ Raised t (pgQpll q.val) 2) ∧
      t.rd QPLL_CTRL.EN q.val = 1 ∧ t.rd QPLL_STAT.TBIN q.val = s.quadBin q.val ∧
      (t.quad q.val).since = s.tb ∧
      Others s.quad t.quad q.val ∧
      FieldsKept s t [(QPLL_CTRL.EN, q.val), (QPLL_STAT.STATE, q.val), (QPLL_STAT.BAND, q.val), (QPLL_STAT.TBIN, q.val), (QPLL_STAT.VT_WARN, q.val), (QPLL_STAT.ATTEMPT, q.val), (IRQ_STAT.BITS, pgQpll q.val), (HOST_STAT.COLLIDE_COUNT, 0)] ∧
      t = { s with chip := { s.chip with regs := t.chip.regs, hostp := t.chip.hostp, quad := t.chip.quad, prodq := t.chip.prodq } }) ∧
  (∀ (q : Fin 64) (w : Wr) (s : State),
    Accepted s w (pgQpll q.val) →
    s.quadState q.val = 1 ∨ s.quadState q.val = 3 ∨ s.quadState q.val = 4 →
    bit w.val.toNat 0 = false →
    bit w.val.toNat 2 = false ∨ s.quadState q.val = 4 →
    Gives (.qpllEnable q w) s fun t =>
      (t.quadState q.val = 0 ∧ t.rd QPLL_CTRL.EN q.val = 0) ∧
      FieldsKept s t [(QPLL_CTRL.EN, q.val), (QPLL_STAT.STATE, q.val), (QPLL_STAT.ATTEMPT, q.val), (HOST_STAT.COLLIDE_COUNT, 0)] ∧
      t = { s with chip := { s.chip with regs := t.chip.regs, hostp := t.chip.hostp, prodq := t.chip.prodq } }) ∧
  (∀ (q : Fin 64) (w : Wr) (s : State),
    Accepted s w (pgQpll q.val) →
    s.quadState q.val = 2 →
    bit w.val.toNat 0 = false →
    Gives (.qpllEnable q w) s fun t =>
      ∃ u : State,
        (u.quadState q.val = 0 ∧ u.rd QPLL_CTRL.EN q.val = 0) ∧
        FieldsKept s u [(QPLL_CTRL.EN, q.val), (QPLL_STAT.STATE, q.val), (QPLL_STAT.ATTEMPT, q.val), (HOST_STAT.COLLIDE_COUNT, 0)] ∧
        u = { s with chip := { s.chip with regs := u.chip.regs, hostp := u.chip.hostp, prodq := u.chip.prodq } } ∧
        (t = { s with chip := ((List.range 4).foldl (fun x k => x.laneDark (4 * q.val + k) 2) u).chip })) ∧
  (∀ (q : Fin 64) (s : State),
    s.quadState q.val = 1 ∨ s.quadState q.val = 3 →
    s.on TB_STAT.TB_RUN 0 = true →
    Gives (.quadLocked q) s fun t =>
      ∃ u : State,
        u.quadState q.val = 2 ∧
        u.rd QPLL_LAST_LOCK.TICKS q.val = min 0xFFFFFF (s.tb - (s.quad q.val).since) ∧
        FieldsKept s u [(QPLL_STAT.STATE, q.val), (QPLL_STAT.ATTEMPT, q.val), (QPLL_LAST_LOCK.TICKS, q.val)] ∧
        u = { s with chip := { s.chip with regs := u.chip.regs, prodq := u.chip.prodq } } ∧
        (t = { s with chip := (((List.range 4).foldl (fun x k => x.laneWake (4 * q.val + k)) u).raise (pgQpll q.val) 0).chip })) ∧
  (∀ (q : Fin 64) (s : State),
    1 ≤ s.quadState q.val ∧ s.quadState q.val ≤ 3 →
    s.rd QPLL_STAT.VT_WARN q.val = 0 →
    Gives (.quadVtuneWarn q) s fun t =>
      t.rd QPLL_STAT.VT_WARN q.val = 1 ∧
      Raised t (pgQpll q.val) 3 ∧
      FieldsKept s t [(QPLL_STAT.VT_WARN, q.val), (IRQ_STAT.BITS, pgQpll q.val)] ∧
      t = { s with chip := { s.chip with regs := t.chip.regs, hostp := t.chip.hostp } }) ∧
  (∀ (q : Fin 64) (s : State),
    s.quadState q.val = 2 →
    Gives (.quadUnlock q) s fun t =>
      (∀ b, s.quadBand q.val = some b → ∃ u : State, u.quadState q.val = 3 ∧ u.rd QPLL_STAT.BAND q.val = b % 2 ^ 7 ∧ u.rd QPLL_STAT.ATTEMPT q.val = 1 ∧
        u.rd QPLL_STAT.RELOCK_COUNT q.val = min 0xFF (s.rd QPLL_STAT.RELOCK_COUNT q.val + 1) ∧
        (u.quad q.val).tryAt = s.tb ∧ (u.quad q.val).k = 0 ∧ Others s.quad u.quad q.val ∧
        u = { s with chip := { s.chip with regs := u.chip.regs, quad := u.chip.quad, prodq := u.chip.prodq } } ∧
        t = { s with chip := ((((List.range 4).foldl (fun x k => x.laneDark (4 * q.val + k) 2) u).raise (pgQpll q.val) 1).jrn 0x05 q.val 0x030C [.word q.val]).chip })) ∧
  (∀ (q : Fin 64) (w : Wr) (s : State),
    Accepted s w (pgQpll q.val) →
    s.quadState q.val = 0 ∨ s.quadState q.val = 1 ∨ s.quadState q.val = 3 →
    Gives (.qpllRelock q w) s fun t =>
      Refused s t (pgQpll q.val) 1 ∧
      FieldsKept s t [(ERR_CODE.LAST, pgQpll q.val), (ERR_CODE.FIRST, pgQpll q.val), (ERR_COUNT.COUNT, pgQpll q.val), (HOST_STAT.COLLIDE_COUNT, 0)] ∧
      t = { s with chip := { s.chip with regs := t.chip.regs, hostp := t.chip.hostp } }) ∧
  (∀ (q : Fin 64) (w : Wr) (s : State),
    Accepted s w (pgQpll q.val) →
    bit w.val.toNat 0 = true →
    s.domOn (34 + q.val) = true ∧ (s.quad q.val).hold = false →
    s.quadState q.val = 4 →
    Gives (.qpllRelock q w) s fun t =>
      (∀ b, s.quadBand q.val = some b → t.quadState q.val = 3 ∧ t.rd QPLL_STAT.BAND q.val = b % 2 ^ 7 ∧ t.rd QPLL_STAT.ATTEMPT q.val = 1 ∧
        t.rd QPLL_STAT.RELOCK_COUNT q.val = min 0xFF (s.rd QPLL_STAT.RELOCK_COUNT q.val + 1) ∧
        (t.quad q.val).tryAt = s.tb ∧ (t.quad q.val).k = 0 ∧ Others s.quad t.quad q.val) ∧
      (s.quadBand q.val = none → t.quadState q.val = 4 ∧ Raised t (pgQpll q.val) 2) ∧
      FieldsKept s t [(QPLL_CTRL.EN, q.val), (QPLL_STAT.STATE, q.val), (QPLL_STAT.BAND, q.val), (QPLL_STAT.TBIN, q.val), (QPLL_STAT.VT_WARN, q.val), (QPLL_STAT.ATTEMPT, q.val), (QPLL_STAT.RELOCK_COUNT, q.val), (IRQ_STAT.BITS, pgQpll q.val), (HOST_STAT.COLLIDE_COUNT, 0)] ∧
      t = { s with chip := { s.chip with regs := t.chip.regs, hostp := t.chip.hostp, quad := t.chip.quad, prodq := t.chip.prodq } }) ∧
  (∀ (q : Fin 64) (s : State),
    s.quadState q.val = 3 →
    (s.quad q.val).tryAt + 4000 ≤ s.tb →
    Gives (.relockAttemptTimeout q) s fun t =>
      ((s.quad q.val).bands[(s.quad q.val).k + 1]? = none → t.quadState q.val = 4 ∧ Raised t (pgQpll q.val) 2) ∧
      (∀ b ∈ (s.quad q.val).bands[(s.quad q.val).k + 1]?, t.rd QPLL_STAT.BAND q.val = b % 2 ^ 7 ∧ t.rd QPLL_STAT.ATTEMPT q.val = ((s.quad q.val).k + 2) % 8 ∧
          t.quad q.val = { s.quad q.val with k := (s.quad q.val).k + 1, tryAt := s.tb }) ∧
      FieldsKept s t [(QPLL_STAT.STATE, q.val), (QPLL_STAT.BAND, q.val), (QPLL_STAT.ATTEMPT, q.val), (IRQ_STAT.BITS, pgQpll q.val)] ∧
      t = { s with chip := { s.chip with regs := t.chip.regs, hostp := t.chip.hostp, quad := t.chip.quad, prodq := t.chip.prodq } })

/-- The clocks and the operating points of the islands. A measured clock of an ON island is shown in FREQ_MHZ, and FLL_LOCK follows whether it is within ±2 % of F; an unlock clears FLL_LOCK and, from READY on and while it is armed, which it is again 1 ms after the clock came back, raises its event with its record and disarms it; a Bezel-safe moment starts a requested move: V is commanded first where it is to be raised, and the frequency waits in phase 1 until the supply has reached it; a supply that is measured is shown, with AVS_OK, ends the rail's wait where it has settled, and starts the frequency steps of a move that waited for it; F moves toward its target by at most 10 MHz, 1 µs after the last step; where F is at its target the move ends with the point in force, POINT_DONE and its record; a move that is late is told once; an override written under its lock is requested of an idle island, replaces the target of one that waits or moves, and goes back to the plan's point when OVR_EN is cleared, while one that is locked, out of range, or meets a busy Facet is refused with 0x0101, 1 or 2; a rail that waits for its acknowledgement is done with it, or repeats the write after 20 µs; no island but the one named changes. Where the rules leave room the clauses state the model's readings (log entries 3, 20 and 21) -/
def Obligations.IslandClocksAndPoints : Prop :=
  (∀ (k : IslClock) (s : State),
    s.domOn k.isl.val = true →
    5 ≤ s.dev →
    withinF (s.isl k.isl.val).freq k.mhz.val = true →
    Gives (.fllLock k) s fun t =>
      t.rdI FCT_CLK_STAT.FREQ_MHZ AF_CLK_STAT.FREQ_MHZ k.isl.val = k.mhz.val ∧
      (t.rdI FCT_CLK_STAT.FLL_LOCK AF_CLK_STAT.FLL_LOCK k.isl.val = (if s.rdI FCT_CLK_STAT.FLL_LOCK AF_CLK_STAT.FLL_LOCK k.isl.val = 0 then 1 else s.rdI FCT_CLK_STAT.FLL_LOCK AF_CLK_STAT.FLL_LOCK k.isl.val)) ∧
      (t.isl k.isl.val = (if s.rdI FCT_CLK_STAT.FLL_LOCK AF_CLK_STAT.FLL_LOCK k.isl.val = 0 then { s.isl k.isl.val with back := some s.tb } else s.isl k.isl.val)) ∧
      Others s.isl t.isl k.isl.val ∧
      FieldsKept s t [islFld FCT_CLK_STAT.FREQ_MHZ AF_CLK_STAT.FREQ_MHZ k.isl.val, islFld FCT_CLK_STAT.FLL_LOCK AF_CLK_STAT.FLL_LOCK k.isl.val] ∧
      t = { s with chip := { s.chip with regs := t.chip.regs, isl := t.chip.isl } }) ∧
  (∀ (k : IslClock) (s : State),
    s.domOn k.isl.val = true →
    5 ≤ s.dev →
    withinF (s.isl k.isl.val).freq k.mhz.val = false →
    Gives (.fllLock k) s fun t =>
      t.rdI FCT_CLK_STAT.FREQ_MHZ AF_CLK_STAT.FREQ_MHZ k.isl.val = k.mhz.val ∧
      t.rdI FCT_CLK_STAT.FLL_LOCK AF_CLK_STAT.FLL_LOCK k.isl.val = 0 ∧
      (t.isl k.isl.val).back = none ∧
      Others s.isl t.isl k.isl.val ∧
      FieldsKept s t [islFld FCT_CLK_STAT.FREQ_MHZ AF_CLK_STAT.FREQ_MHZ k.isl.val, islFld FCT_CLK_STAT.FLL_LOCK AF_CLK_STAT.FLL_LOCK k.isl.val] ∧
      t = { s with chip := { s.chip with regs := t.chip.regs, isl := t.chip.isl } }) ∧
  (∀ (k : IslClock) (s : State),
    s.domOn k.isl.val = true →
    6 ≤ s.dev →
    withinF (s.isl k.isl.val).freq k.mhz.val = false →
    (s.isl k.isl.val).spent = false ∨ (s.isl k.isl.val).back.any (fun t => decide (t + 500000 ≤ s.tb)) = true →
    Gives (.facetFllUnlock k) s fun t =>
      t.rdI FCT_CLK_STAT.FREQ_MHZ AF_CLK_STAT.FREQ_MHZ k.isl.val = k.mhz.val ∧
      t.rdI FCT_CLK_STAT.FLL_LOCK AF_CLK_STAT.FLL_LOCK k.isl.val = 0 ∧
      t.isl k.isl.val = { s.isl k.isl.val with spent := true, back := none } ∧
      Raised t (pgIsl k.isl.val) 2 ∧
      Recorded s t 0x06 (islStop k.isl.val) 0x0403 ∧
      Others s.isl t.isl k.isl.val ∧
      FieldsKept s t [islFld FCT_CLK_STAT.FREQ_MHZ AF_CLK_STAT.FREQ_MHZ k.isl.val, islFld FCT_CLK_STAT.FLL_LOCK AF_CLK_STAT.FLL_LOCK k.isl.val, (IRQ_STAT.BITS, pgIsl k.isl.val)] ∧
      t = { s with chip := { s.chip with regs := t.chip.regs, isl := t.chip.isl, hostp := t.chip.hostp, recs := t.chip.recs } }) ∧
  (∀ (k : IslClock) (s : State),
    s.domOn k.isl.val = true →
    5 ≤ s.dev →
    withinF (s.isl k.isl.val).freq k.mhz.val = false →
    s.dev < 6 ∨ ((s.isl k.isl.val).spent = true ∧ (s.isl k.isl.val).back.all (fun t => decide (s.tb < t + 500000)) = true) →
    Gives (.facetFllUnlock k) s fun t =>
      t.rdI FCT_CLK_STAT.FREQ_MHZ AF_CLK_STAT.FREQ_MHZ k.isl.val = k.mhz.val ∧
      t.rdI FCT_CLK_STAT.FLL_LOCK AF_CLK_STAT.FLL_LOCK k.isl.val = 0 ∧
      (t.isl k.isl.val).back = none ∧
      Others s.isl t.isl k.isl.val ∧
      FieldsKept s t [islFld FCT_CLK_STAT.FREQ_MHZ AF_CLK_STAT.FREQ_MHZ k.isl.val, islFld FCT_CLK_STAT.FLL_LOCK AF_CLK_STAT.FLL_LOCK k.isl.val] ∧
      t = { s with chip := { s.chip with regs := t.chip.regs, isl := t.chip.isl } }) ∧
  (∀ (i : Fin 33) (f v : Nat) (s : State),
    (s.isl i.val).target = some (f, v) →
    s.domOn i.val = true →
    (s.isl i.val).phase = 0 →
    s.bezelSafe i.val = true →
    v ≤ (s.isl i.val).volt →
    v ≤ (s.pointOf i.val).2 ∨ s.voltOk i.val v = true →
    (s.isl i.val).freq ≠ f →
    Gives (.fctPointMove i) s fun t =>
      t.isl i.val = { s.isl i.val with phase := 2, at' := s.tb } ∧
      Others s.isl t.isl i.val ∧
      t = { s with chip := { s.chip with isl := t.chip.isl } }) ∧
  (∀ (i : Fin 33) (f v : Nat) (s : State),
    (s.isl i.val).target = some (f, v) →
    s.domOn i.val = true →
    (s.isl i.val).phase = 0 →
    s.bezelSafe i.val = true →
    (s.isl i.val).volt < v →
    (s.pointOf i.val).2 < v ∧ s.voltOk i.val v = false →
    Gives (.fctPointMove i) s fun t =>
      t.isl i.val = { s.isl i.val with phase := 1, volt := v, at' := s.tb } ∧
      t.rdI FCT_CLK_STAT.AVS_OK AF_CLK_STAT.AVS_OK i.val = 0 ∧
      Others s.isl t.isl i.val ∧
      FieldsKept s t [islFld FCT_CLK_STAT.AVS_OK AF_CLK_STAT.AVS_OK i.val] ∧
      t = { s with chip := { s.chip with regs := t.chip.regs, isl := t.chip.isl, rail := t.chip.rail, out := t.chip.out } }) ∧
  (∀ (i : Fin 33) (f v : Nat) (s : State),
    (s.isl i.val).target = some (f, v) →
    s.domOn i.val = true →
    (s.isl i.val).phase = 0 →
    s.bezelSafe i.val = true →
    (s.isl i.val).volt < v →
    v ≤ (s.pointOf i.val).2 ∨ s.voltOk i.val v = true →
    (s.isl i.val).freq ≠ f →
    Gives (.fctPointMove i) s fun t =>
      t.isl i.val = { s.isl i.val with phase := 2, volt := v, at' := s.tb } ∧
      t.rdI FCT_CLK_STAT.AVS_OK AF_CLK_STAT.AVS_OK i.val = flag (s.voltOk i.val v) ∧
      Others s.isl t.isl i.val ∧
      FieldsKept s t [islFld FCT_CLK_STAT.AVS_OK AF_CLK_STAT.AVS_OK i.val] ∧
      t = { s with chip := { s.chip with regs := t.chip.regs, isl := t.chip.isl, rail := t.chip.rail, out := t.chip.out } }) ∧
  (∀ (i : Fin 33) (f v : Nat) (s : State),
    (s.isl i.val).target = some (f, v) →
    s.domOn i.val = true →
    (s.isl i.val).phase = 0 →
    s.bezelSafe i.val = true →
    v ≤ (s.pointOf i.val).2 ∨ s.voltOk i.val v = true →
    (s.isl i.val).freq = f →
    f < 2 ^ 11 ∧ v < 2 ^ 10 →
    Gives (.fctPointMove i) s fun t =>
      t.pointOf i.val = (f, v) ∧
      t.isl i.val = { s.isl i.val with target := none, phase := 0, told := false, volt := v, at' := (t.isl i.val).at', freq := f } ∧
      t.rdI FCT_CLK_STAT.POINT_PEND AF_CLK_STAT.POINT_PEND i.val = 0 ∧
      Raised t (pgIsl i.val) 3 ∧
      Recorded s t 0x06 (islStop i.val) 0x0404 ∧
      Others s.isl t.isl i.val ∧
      FieldsKept s t [islFld FCT_POINT.F_MHZ AF_POINT.F_MHZ i.val, islFld FCT_POINT.V_MV AF_POINT.V_MV i.val, islFld FCT_CLK_STAT.POINT_PEND AF_CLK_STAT.POINT_PEND i.val, islFld FCT_CLK_STAT.AVS_OK AF_CLK_STAT.AVS_OK i.val, (IRQ_STAT.BITS, pgIsl i.val)] ∧
      t = { s with chip := { s.chip with regs := t.chip.regs, isl := t.chip.isl, rail := t.chip.rail, out := t.chip.out, hostp := t.chip.hostp, recs := t.chip.recs } }) ∧
  (∀ (i : Fin 33) (s : State),
    s.domOn i.val = false ∨ s.bezelSafe i.val = false ∨ (s.isl i.val).phase ≠ 0 ∨ (s.isl i.val).target = none →
    Gives (.fctPointMove i) s fun t =>
      t = s) ∧
  (∀ (i : Fin 33) (vm : Fin 1024) (f v : Nat) (s : State),
    s.domOn i.val = true →
    (s.isl i.val).phase = 1 →
    (s.isl i.val).volt ≤ vm.val + 5 →
    (s.isl i.val).target = some (f, v) →
    v ≤ vm.val + 5 →
    (s.isl i.val).freq ≠ f →
    Gives (.vmeasSettled i vm) s fun t =>
      t.rdI FCT_VMEAS.VMEAS AF_VMEAS.VMEAS i.val = vm.val ∧
      t.rdI FCT_CLK_STAT.AVS_OK AF_CLK_STAT.AVS_OK i.val = 1 ∧
      t.isl i.val = { s.isl i.val with phase := 2, at' := s.tb } ∧
      t.rail (railOf i.val) = { s.rail (railOf i.val) with wait := none } ∧
      Others s.isl t.isl i.val ∧
      Others s.rail t.rail (railOf i.val) ∧
      FieldsKept s t [islFld FCT_VMEAS.VMEAS AF_VMEAS.VMEAS i.val, islFld FCT_CLK_STAT.AVS_OK AF_CLK_STAT.AVS_OK i.val] ∧
      t = { s with chip := { s.chip with regs := t.chip.regs, isl := t.chip.isl, rail := t.chip.rail } }) ∧
  (∀ (i : Fin 33) (vm : Fin 1024) (f v : Nat) (s : State),
    s.domOn i.val = true →
    (s.isl i.val).phase = 1 →
    (s.isl i.val).volt ≤ vm.val + 5 →
    (s.isl i.val).target = some (f, v) →
    v ≤ vm.val + 5 →
    (s.isl i.val).freq = f →
    f < 2 ^ 11 ∧ v < 2 ^ 10 →
    Gives (.vmeasSettled i vm) s fun t =>
      t.rdI FCT_VMEAS.VMEAS AF_VMEAS.VMEAS i.val = vm.val ∧
      t.pointOf i.val = (f, v) ∧
      t.isl i.val = { s.isl i.val with target := none, phase := 0, told := false, volt := v, at' := (t.isl i.val).at', freq := f } ∧
      t.rdI FCT_CLK_STAT.POINT_PEND AF_CLK_STAT.POINT_PEND i.val = 0 ∧
      Raised t (pgIsl i.val) 3 ∧
      Recorded s t 0x06 (islStop i.val) 0x0404 ∧
      Others s.isl t.isl i.val ∧
      FieldsKept s t [islFld FCT_POINT.F_MHZ AF_POINT.F_MHZ i.val, islFld FCT_POINT.V_MV AF_POINT.V_MV i.val, islFld FCT_CLK_STAT.POINT_PEND AF_CLK_STAT.POINT_PEND i.val, islFld FCT_CLK_STAT.AVS_OK AF_CLK_STAT.AVS_OK i.val, (IRQ_STAT.BITS, pgIsl i.val), islFld FCT_VMEAS.VMEAS AF_VMEAS.VMEAS i.val] ∧
      t = { s with chip := { s.chip with regs := t.chip.regs, isl := t.chip.isl, rail := t.chip.rail, out := t.chip.out, hostp := t.chip.hostp, recs := t.chip.recs } }) ∧
  (∀ (i : Fin 33) (vm : Fin 1024) (s : State),
    s.domOn i.val = true →
    (s.isl i.val).phase ≠ 1 ∨ (s.isl i.val).target.all (fun p => decide (vm.val + 5 < p.2)) = true →
    Gives (.vmeasSettled i vm) s fun t =>
      t.rdI FCT_VMEAS.VMEAS AF_VMEAS.VMEAS i.val = vm.val ∧
      t.rdI FCT_CLK_STAT.AVS_OK AF_CLK_STAT.AVS_OK i.val = flag (decide ((s.isl i.val).volt ≤ vm.val + 5)) ∧
      (t.rail (railOf i.val) = (if (s.isl i.val).volt ≤ vm.val + 5 then { s.rail (railOf i.val) with wait := none } else s.rail (railOf i.val))) ∧
      Others s.rail t.rail (railOf i.val) ∧
      FieldsKept s t [islFld FCT_VMEAS.VMEAS AF_VMEAS.VMEAS i.val, islFld FCT_CLK_STAT.AVS_OK AF_CLK_STAT.AVS_OK i.val] ∧
      t = { s with chip := { s.chip with regs := t.chip.regs, rail := t.chip.rail } }) ∧
  (∀ (i : Fin 33) (f v : Nat) (s : State),
    (s.isl i.val).target = some (f, v) →
    s.domOn i.val = true →
    (s.isl i.val).phase = 2 →
    (s.isl i.val).at' + 500 ≤ s.tb →
    (s.isl i.val).freq + 10 < f →
    Gives (.fctFreqStep i) s fun t =>
      t.isl i.val = { s.isl i.val with freq := (s.isl i.val).freq + 10, at' := s.tb } ∧
      Others s.isl t.isl i.val ∧
      t = { s with chip := { s.chip with isl := t.chip.isl } }) ∧
  (∀ (i : Fin 33) (f v : Nat) (s : State),
    (s.isl i.val).target = some (f, v) →
    s.domOn i.val = true →
    (s.isl i.val).phase = 2 →
    (s.isl i.val).at' + 500 ≤ s.tb →
    f + 10 < (s.isl i.val).freq →
    Gives (.fctFreqStep i) s fun t =>
      t.isl i.val = { s.isl i.val with freq := (s.isl i.val).freq - 10, at' := s.tb } ∧
      Others s.isl t.isl i.val ∧
      t = { s with chip := { s.chip with isl := t.chip.isl } }) ∧
  (∀ (i : Fin 33) (f v : Nat) (s : State),
    (s.isl i.val).target = some (f, v) →
    s.domOn i.val = true →
    (s.isl i.val).phase = 2 →
    (s.isl i.val).at' + 500 ≤ s.tb →
    (s.isl i.val).freq ≤ f + 10 ∧ f ≤ (s.isl i.val).freq + 10 →
    f < 2 ^ 11 ∧ v < 2 ^ 10 →
    Gives (.fctFreqStep i) s fun t =>
      t.pointOf i.val = (f, v) ∧
      t.isl i.val = { s.isl i.val with target := none, phase := 0, told := false, volt := v, at' := (t.isl i.val).at', freq := f } ∧
      t.rdI FCT_CLK_STAT.POINT_PEND AF_CLK_STAT.POINT_PEND i.val = 0 ∧
      Raised t (pgIsl i.val) 3 ∧
      Recorded s t 0x06 (islStop i.val) 0x0404 ∧
      Others s.isl t.isl i.val ∧
      FieldsKept s t [islFld FCT_POINT.F_MHZ AF_POINT.F_MHZ i.val, islFld FCT_POINT.V_MV AF_POINT.V_MV i.val, islFld FCT_CLK_STAT.POINT_PEND AF_CLK_STAT.POINT_PEND i.val, islFld FCT_CLK_STAT.AVS_OK AF_CLK_STAT.AVS_OK i.val, (IRQ_STAT.BITS, pgIsl i.val)] ∧
      t = { s with chip := { s.chip with regs := t.chip.regs, isl := t.chip.isl, rail := t.chip.rail, out := t.chip.out, hostp := t.chip.hostp, recs := t.chip.recs } }) ∧
  (∀ (i : Fin 33) (s : State),
    s.domOn i.val = false ∨ (s.isl i.val).phase ≠ 2 ∨ s.tb < (s.isl i.val).at' + 500 ∨ (s.isl i.val).target = none →
    Gives (.fctFreqStep i) s fun t =>
      t = s) ∧
  (∀ (i : Fin 33) (s : State),
    (s.isl i.val).target ≠ none →
    (s.isl i.val).told = false →
    ((s.isl i.val).phase = 0 ∧ (s.isl i.val).reqAt + 500000 ≤ s.tb) ∨ ((s.isl i.val).phase = 1 ∧ (s.isl i.val).at' + 100000 ≤ s.tb) →
    Gives (.fctPointDeferred i) s fun t =>
      t.isl i.val = { s.isl i.val with told := true } ∧
      Raised t (pgIsl i.val) 4 ∧
      Others s.isl t.isl i.val ∧
      FieldsKept s t [(IRQ_STAT.BITS, pgIsl i.val)] ∧
      t = { s with chip := { s.chip with regs := t.chip.regs, isl := t.chip.isl, hostp := t.chip.hostp } }) ∧
  (∀ (i : Fin 33) (s : State),
    (s.isl i.val).told = true →
    Gives (.fctPointDeferred i) s fun t =>
      t = s) ∧
  (∀ (i : Fin 33) (w : Wr) (s : State),
    Accepted s w (pgIsl i.val) →
    s.on LOCK.OPEN (pgIsl i.val) = true →
    pointBad w.val.toNat = false →
    bit w.val.toNat 31 = true →
    s.islBusy i.val = false →
    (s.isl i.val).target = none ∧ (s.isl i.val).phase = 0 →
    s.pointOf i.val ≠ (bits w.val.toNat 16 11, bits w.val.toNat 0 10) →
    Gives (.fctOvrWrite i w) s fun t =>
      t.rdI FCT_OVR.OVR_EN AF_OVR.OVR_EN i.val = 1 ∧ t.rdI FCT_CLK_STAT.OVR_ACTIVE AF_CLK_STAT.OVR_ACTIVE i.val = 1 ∧
      t.rdI FCT_OVR.F_MHZ AF_OVR.F_MHZ i.val = bits w.val.toNat 16 11 ∧ t.rdI FCT_OVR.V_MV AF_OVR.V_MV i.val = bits w.val.toNat 0 10 ∧
      t.rdI FCT_CLK_STAT.POINT_PEND AF_CLK_STAT.POINT_PEND i.val = 1 ∧
      t.isl i.val = { s.isl i.val with target := some (bits w.val.toNat 16 11, bits w.val.toNat 0 10), reqAt := s.tb, told := false } ∧
      Others s.isl t.isl i.val ∧
      FieldsKept s t [islFld FCT_OVR.OVR_EN AF_OVR.OVR_EN i.val, islFld FCT_OVR.F_MHZ AF_OVR.F_MHZ i.val, islFld FCT_OVR.V_MV AF_OVR.V_MV i.val, islFld FCT_CLK_STAT.OVR_ACTIVE AF_CLK_STAT.OVR_ACTIVE i.val, islFld FCT_CLK_STAT.POINT_PEND AF_CLK_STAT.POINT_PEND i.val, (HOST_STAT.COLLIDE_COUNT, 0)] ∧
      t = { s with chip := { s.chip with regs := t.chip.regs, isl := t.chip.isl, hostp := t.chip.hostp } }) ∧
  (∀ (i : Fin 33) (w : Wr) (s : State),
    Accepted s w (pgIsl i.val) →
    s.on LOCK.OPEN (pgIsl i.val) = true →
    pointBad w.val.toNat = false →
    bit w.val.toNat 31 = true →
    s.islBusy i.val = false →
    (s.isl i.val).target ≠ none ∧ (s.isl i.val).phase = 0 →
    Gives (.fctOvrWrite i w) s fun t =>
      t.rdI FCT_OVR.OVR_EN AF_OVR.OVR_EN i.val = 1 ∧ t.rdI FCT_CLK_STAT.OVR_ACTIVE AF_CLK_STAT.OVR_ACTIVE i.val = 1 ∧
      t.rdI FCT_OVR.F_MHZ AF_OVR.F_MHZ i.val = bits w.val.toNat 16 11 ∧ t.rdI FCT_OVR.V_MV AF_OVR.V_MV i.val = bits w.val.toNat 0 10 ∧
      t.isl i.val = { s.isl i.val with target := some (bits w.val.toNat 16 11, bits w.val.toNat 0 10) } ∧
      Others s.isl t.isl i.val ∧
      FieldsKept s t [islFld FCT_OVR.OVR_EN AF_OVR.OVR_EN i.val, islFld FCT_OVR.F_MHZ AF_OVR.F_MHZ i.val, islFld FCT_OVR.V_MV AF_OVR.V_MV i.val, islFld FCT_CLK_STAT.OVR_ACTIVE AF_CLK_STAT.OVR_ACTIVE i.val, islFld FCT_CLK_STAT.POINT_PEND AF_CLK_STAT.POINT_PEND i.val, (HOST_STAT.COLLIDE_COUNT, 0)] ∧
      t = { s with chip := { s.chip with regs := t.chip.regs, isl := t.chip.isl, hostp := t.chip.hostp } }) ∧
  (∀ (i : Fin 33) (w : Wr) (s : State),
    Accepted s w (pgIsl i.val) →
    s.on LOCK.OPEN (pgIsl i.val) = true →
    pointBad w.val.toNat = false →
    bit w.val.toNat 31 = true →
    s.islBusy i.val = false →
    (s.isl i.val).phase ≠ 0 →
    Gives (.fctOvrWrite i w) s fun t =>
      ∃ u : State,
        u.rdI FCT_OVR.OVR_EN AF_OVR.OVR_EN i.val = 1 ∧ u.rdI FCT_CLK_STAT.OVR_ACTIVE AF_CLK_STAT.OVR_ACTIVE i.val = 1 ∧
        u.rdI FCT_OVR.F_MHZ AF_OVR.F_MHZ i.val = bits w.val.toNat 16 11 ∧ u.rdI FCT_OVR.V_MV AF_OVR.V_MV i.val = bits w.val.toNat 0 10 ∧
        u.isl i.val = { s.isl i.val with target := some (bits w.val.toNat 16 11, bits w.val.toNat 0 10) } ∧
        Others s.isl u.isl i.val ∧
        FieldsKept s u [islFld FCT_OVR.OVR_EN AF_OVR.OVR_EN i.val, islFld FCT_OVR.F_MHZ AF_OVR.F_MHZ i.val, islFld FCT_OVR.V_MV AF_OVR.V_MV i.val, islFld FCT_CLK_STAT.OVR_ACTIVE AF_CLK_STAT.OVR_ACTIVE i.val, islFld FCT_CLK_STAT.POINT_PEND AF_CLK_STAT.POINT_PEND i.val, (HOST_STAT.COLLIDE_COUNT, 0)] ∧
        u = { s with chip := { s.chip with regs := u.chip.regs, isl := u.chip.isl, hostp := u.chip.hostp } } ∧
        t = { s with chip := ((u.moveVolt i.val (bits w.val.toNat 0 10)).moveFreq i.val).chip }) ∧
  (∀ (i : Fin 33) (w : Wr) (s : State),
    Accepted s w (pgIsl i.val) →
    s.on LOCK.OPEN (pgIsl i.val) = true →
    pointBad w.val.toNat = false →
    bit w.val.toNat 31 = true →
    s.islBusy i.val = false →
    (s.isl i.val).target = none →
    s.pointOf i.val = (bits w.val.toNat 16 11, bits w.val.toNat 0 10) →
    Gives (.fctOvrWrite i w) s fun t =>
      t.rdI FCT_OVR.OVR_EN AF_OVR.OVR_EN i.val = 1 ∧ t.rdI FCT_CLK_STAT.OVR_ACTIVE AF_CLK_STAT.OVR_ACTIVE i.val = 1 ∧
      t.rdI FCT_OVR.F_MHZ AF_OVR.F_MHZ i.val = bits w.val.toNat 16 11 ∧ t.rdI FCT_OVR.V_MV AF_OVR.V_MV i.val = bits w.val.toNat 0 10 ∧
      FieldsKept s t [islFld FCT_OVR.OVR_EN AF_OVR.OVR_EN i.val, islFld FCT_OVR.F_MHZ AF_OVR.F_MHZ i.val, islFld FCT_OVR.V_MV AF_OVR.V_MV i.val, islFld FCT_CLK_STAT.OVR_ACTIVE AF_CLK_STAT.OVR_ACTIVE i.val, (HOST_STAT.COLLIDE_COUNT, 0)] ∧
      t = { s with chip := { s.chip with regs := t.chip.regs, hostp := t.chip.hostp } }) ∧
  (∀ (i : Fin 33) (w : Wr) (s : State),
    Accepted s w (pgIsl i.val) →
    s.on LOCK.OPEN (pgIsl i.val) = true →
    pointBad w.val.toNat = false →
    bit w.val.toNat 31 = false →
    s.rdI FCT_OVR.OVR_EN AF_OVR.OVR_EN i.val = 1 →
    (s.isl i.val).target = none ∧ (s.isl i.val).phase = 0 →
    s.pointOf i.val ≠ s.planPoint i.val →
    Gives (.fctOvrWrite i w) s fun t =>
      t.rdI FCT_OVR.OVR_EN AF_OVR.OVR_EN i.val = 0 ∧ t.rdI FCT_CLK_STAT.OVR_ACTIVE AF_CLK_STAT.OVR_ACTIVE i.val = 0 ∧
      t.rdI FCT_OVR.F_MHZ AF_OVR.F_MHZ i.val = bits w.val.toNat 16 11 ∧ t.rdI FCT_OVR.V_MV AF_OVR.V_MV i.val = bits w.val.toNat 0 10 ∧
      t.rdI FCT_CLK_STAT.POINT_PEND AF_CLK_STAT.POINT_PEND i.val = 1 ∧
      t.isl i.val = { s.isl i.val with target := some (s.planPoint i.val), reqAt := s.tb, told := false } ∧
      Others s.isl t.isl i.val ∧
      FieldsKept s t [islFld FCT_OVR.OVR_EN AF_OVR.OVR_EN i.val, islFld FCT_OVR.F_MHZ AF_OVR.F_MHZ i.val, islFld FCT_OVR.V_MV AF_OVR.V_MV i.val, islFld FCT_CLK_STAT.OVR_ACTIVE AF_CLK_STAT.OVR_ACTIVE i.val, islFld FCT_CLK_STAT.POINT_PEND AF_CLK_STAT.POINT_PEND i.val, (HOST_STAT.COLLIDE_COUNT, 0)] ∧
      t = { s with chip := { s.chip with regs := t.chip.regs, isl := t.chip.isl, hostp := t.chip.hostp } }) ∧
  (∀ (i : Fin 33) (w : Wr) (s : State),
    Accepted s w (pgIsl i.val) →
    s.on LOCK.OPEN (pgIsl i.val) = false →
    Gives (.fctOvrWrite i w) s fun t =>
      Refused s t (pgIsl i.val) 0x0101 ∧
      FieldsKept s t [(ERR_CODE.LAST, pgIsl i.val), (ERR_CODE.FIRST, pgIsl i.val), (ERR_COUNT.COUNT, pgIsl i.val), (HOST_STAT.COLLIDE_COUNT, 0)] ∧
      t = { s with chip := { s.chip with regs := t.chip.regs, hostp := t.chip.hostp } }) ∧
  (∀ (i : Fin 33) (w : Wr) (s : State),
    Accepted s w (pgIsl i.val) →
    s.on LOCK.OPEN (pgIsl i.val) = true →
    pointBad w.val.toNat = true →
    Gives (.fctOvrWrite i w) s fun t =>
      Refused s t (pgIsl i.val) 1 ∧
      FieldsKept s t [(ERR_CODE.LAST, pgIsl i.val), (ERR_CODE.FIRST, pgIsl i.val), (ERR_COUNT.COUNT, pgIsl i.val), (HOST_STAT.COLLIDE_COUNT, 0)] ∧
      t = { s with chip := { s.chip with regs := t.chip.regs, hostp := t.chip.hostp } }) ∧
  (∀ (i : Fin 33) (w : Wr) (s : State),
    Accepted s w (pgIsl i.val) →
    s.on LOCK.OPEN (pgIsl i.val) = true →
    pointBad w.val.toNat = false →
    bit w.val.toNat 31 = true →
    s.islBusy i.val = true →
    Gives (.fctOvrWrite i w) s fun t =>
      Refused s t (pgIsl i.val) 2 ∧
      FieldsKept s t [(ERR_CODE.LAST, pgIsl i.val), (ERR_CODE.FIRST, pgIsl i.val), (ERR_COUNT.COUNT, pgIsl i.val), (HOST_STAT.COLLIDE_COUNT, 0)] ∧
      t = { s with chip := { s.chip with regs := t.chip.regs, hostp := t.chip.hostp } }) ∧
  (∀ (rail : Fin 10) (t0 : Nat) (s : State),
    (s.rail rail.val).wait = some t0 →
    Gives (.avsWriteRetry rail true) s fun t =>
      t.rail rail.val = { s.rail rail.val with wait := none } ∧
      Others s.rail t.rail rail.val ∧
      t = { s with chip := { s.chip with rail := t.chip.rail } }) ∧
  (∀ (rail : Fin 10) (t0 : Nat) (s : State),
    (s.rail rail.val).wait = some t0 →
    t0 + 10000 ≤ s.tb →
    Gives (.avsWriteRetry rail false) s fun t =>
      t.rail rail.val = { s.rail rail.val with wait := some s.tb } ∧
      t.out = s.out ++ [.avs rail.val (s.rail rail.val).mv] ∧
      Others s.rail t.rail rail.val ∧
      t = { s with chip := { s.chip with rail := t.chip.rail, out := t.chip.out } }) ∧
  (∀ (rail : Fin 10) (acked : Bool) (s : State),
    (s.rail rail.val).wait.all (fun t0 => decide (acked = false ∧ s.tb < t0 + 10000)) = true →
    Gives (.avsWriteRetry rail acked) s fun t =>
      t = s)

/-- The Girdle census and slots, the store banks, and the Bezel statistics. A flit takes the direction with fewer hops, toward rising stop numbers where both are equal; a census shows the totals of the census before, gives each stop its quanta and collects each stop's counts; a slot of a class is taken by a stop as one of its class where some stop takes it so, and else as one of CONTROL, STREAM or BULK in that order; the stop that takes it is charged one slot, unless the slot is spare, and serves its streams in turn, a fail ring's flit carrying its oldest queued unit; a stop that does not take the slot, and one whose period has no more of them, serves none; a bank serves the ports that ask for it in turn while its refill write waits, and forces a refill write that has waited three cycles, which is not counted as forced where no port asks, and which takes a second cycle where it covers part of a line; FCT_BEZEL_CLR clears the Bezel statistics and FCT_STORE_ARB of its Facet. Where the rules leave room the clauses state the model's readings (log entries 3, 20 and 21) -/
def Obligations.GirdleAndStoreSlots : Prop :=
  (∀ a b : Fin 34, girdleUp a.val b.val = decide ((b.val + 34 - a.val) % 34 ≤ (a.val + 34 - b.val) % 34)) ∧
  (∀ (s : State) (n c : Nat) (dir spare : Bool), n < 34 →
    (s.takesSlot n c dir spare = true → s.slotClass n c dir spare = some c) ∧
    ((∃ m, m < 34 ∧ s.takesSlot m c dir spare = true) → s.takesSlot n c dir spare = false → s.slotClass n c dir spare = none) ∧
    ((∀ m, m < 34 → s.takesSlot m c dir spare = false) → ∀ k, s.slotClass n c dir spare = some k →
      k < 3 ∧ s.takesSlot n k dir spare = true ∧ ∀ j, j < k → s.takesSlot n j dir spare = false)) ∧
  (∀ (ctl bulk : List Nat) (s : State),
    Gives (.girdleCensus ctl bulk) s fun t =>
      (∀ n : Fin 34, t.stop n.val = { (s.stop n.val).quanta ((List.range 3).map s.totals) with
          n := [min 63 (nth ctl n.val), min 63 (s.streams n.val).length, min 63 ((s.bulkAt n.val).length + nth bulk n.val)], winB := nth bulk n.val }) ∧
      (∀ c : Fin 3, t.totals c.val = ((List.range 34).map fun n => nth [min 63 (nth ctl n), min 63 (s.streams n).length, min 63 ((s.bulkAt n).length + nth bulk n)] c.val).sum) ∧
      (∀ f : Fin 32, t.rd FCT_GIRDLE_TOT.CONTROL f.val = s.totals 0 % 2 ^ 8 ∧ t.rd FCT_GIRDLE_TOT.STREAM f.val = s.totals 1 % 2 ^ 8 ∧ t.rd FCT_GIRDLE_TOT.BULK f.val = s.totals 2 % 2 ^ 8) ∧
      (∀ f : Fin 32, t.rd FCT_GIRDLE_N.CONTROL f.val = min 63 (nth ctl (islandOf f.val)) ∧ t.rd FCT_GIRDLE_N.STREAM f.val = min 63 (s.streams (islandOf f.val)).length ∧
        t.rd FCT_GIRDLE_N.BULK f.val = min 63 ((s.bulkAt (islandOf f.val)).length + nth bulk (islandOf f.val))) ∧
      (FieldsKept s t ((List.range 32).flatMap fun f => [(FCT_GIRDLE_N.CONTROL, f), (FCT_GIRDLE_N.STREAM, f), (FCT_GIRDLE_N.BULK, f), (FCT_GIRDLE_TOT.CONTROL, f), (FCT_GIRDLE_TOT.STREAM, f), (FCT_GIRDLE_TOT.BULK, f)])) ∧
      t = { s with chip := { s.chip with regs := t.chip.regs, stop := t.chip.stop, totals := t.chip.totals } }) ∧
  (∀ (n : Fin 34) (c : Fin 3) (k m : Nat) (dir spare : Bool) (s : State),
    nth (s.stop n.val).slots (dirIx c.val dir) < slotsOf c.val →
    s.slotClass n.val c.val dir spare = some k →
    rotate (nth (s.stop n.val).last k) (s.streamsDir n.val k dir) = some m →
    k ≠ 1 ∨ m ≠ 16 →
    Gives (.girdleFlitInsert n c dir spare) s fun t =>
      (t.stop n.val = { s.stop n.val with slots := (s.stop n.val).slots.set (dirIx c.val dir) (nth (s.stop n.val).slots (dirIx c.val dir) + 1), deficit := (if spare then (s.stop n.val).deficit else (s.stop n.val).deficit.set (dirIx k dir) (nth (s.stop n.val).deficit (dirIx k dir) - 256)), last := (s.stop n.val).last.set k m }) ∧
      Others s.stop t.stop n.val ∧
      t = { s with chip := { s.chip with stop := t.chip.stop } }) ∧
  (∀ (n : Fin 34) (c : Fin 3) (f : Nat) (dir spare : Bool) (s : State),
    nth (s.stop n.val).slots (dirIx c.val dir) < slotsOf c.val →
    s.slotClass n.val c.val dir spare = some 1 →
    rotate (nth (s.stop n.val).last 1) (s.streamsDir n.val 1 dir) = some 16 →
    stopFacet n.val = some f →
    Gives (.girdleFlitInsert n c dir spare) s fun t =>
      ∃ u : State,
        (u.stop n.val = { s.stop n.val with slots := (s.stop n.val).slots.set (dirIx c.val dir) (nth (s.stop n.val).slots (dirIx c.val dir) + 1), deficit := (if spare then (s.stop n.val).deficit else (s.stop n.val).deficit.set (dirIx 1 dir) (nth (s.stop n.val).deficit (dirIx 1 dir) - 256)), last := (s.stop n.val).last.set 1 16 }) ∧
        Others s.stop u.stop n.val ∧
        u = { s with chip := { s.chip with stop := u.chip.stop } } ∧
        t = { s with chip := (u.spillUnit f).chip }) ∧
  (∀ (n : Fin 34) (c : Fin 3) (dir spare : Bool) (s : State),
    nth (s.stop n.val).slots (dirIx c.val dir) < slotsOf c.val →
    s.slotClass n.val c.val dir spare = none →
    Gives (.girdleFlitInsert n c dir spare) s fun t =>
      t.stop n.val = { s.stop n.val with slots := (s.stop n.val).slots.set (dirIx c.val dir) (nth (s.stop n.val).slots (dirIx c.val dir) + 1) } ∧
      Others s.stop t.stop n.val ∧
      t = { s with chip := { s.chip with stop := t.chip.stop } }) ∧
  (∀ (n : Fin 34) (c : Fin 3) (dir spare : Bool) (s : State),
    slotsOf c.val ≤ nth (s.stop n.val).slots (dirIx c.val dir) →
    Gives (.girdleFlitInsert n c dir spare) s fun t =>
      t = s) ∧
  (∀ (f : Fin 32) (bank : Fin 4) (ports : BitVec 16) (refill part : Bool) (k : Nat) (s : State),
    (s.sbank (4 * f.val + bank.val)).second = false →
    (refill = false ∧ ((s.linesAsked f.val).filter fun l => storeBankOf l.1 == bank.val) = []) ∨ (s.sbank (4 * f.val + bank.val)).refill < 3 →
    rotate (s.sbank (4 * f.val + bank.val)).last ((List.range 16).filter fun k => bit ports.toNat k && s.engBusy (16 * f.val + k)) = some k →
    Gives (.storeBankGrant f bank ports refill part) s fun t =>
      (t.sbank (4 * f.val + bank.val) = { s.sbank (4 * f.val + bank.val) with last := k, waits := (((List.range 16).filter fun k => bit ports.toNat k && s.engBusy (16 * f.val + k)).filter fun j => some k != some j).map fun j => (j, Sparse.get 0 (s.sbank (4 * f.val + bank.val)).waits j + 1), refill := if (refill || ((s.linesAsked f.val).filter fun l => storeBankOf l.1 == bank.val) != []) = true then (s.sbank (4 * f.val + bank.val)).refill + 1 else 0 }) ∧
      t.rd FCT_STORE_ARB.ENG_WAIT_MAX f.val = max (s.rd FCT_STORE_ARB.ENG_WAIT_MAX f.val) (min 255 (Sparse.get 0 (s.sbank (4 * f.val + bank.val)).waits k)) % 2 ^ 8 ∧
      Others s.sbank t.sbank (4 * f.val + bank.val) ∧
      FieldsKept s t [(FCT_STORE_ARB.ENG_WAIT_MAX, f.val)] ∧
      t = { s with chip := { s.chip with regs := t.chip.regs, sbank := t.chip.sbank } }) ∧
  (∀ (f : Fin 32) (bank : Fin 4) (ports : BitVec 16) (refill part : Bool) (s : State),
    (s.sbank (4 * f.val + bank.val)).second = false →
    refill = true ∨ ((s.linesAsked f.val).filter fun l => storeBankOf l.1 == bank.val) ≠ [] →
    3 ≤ (s.sbank (4 * f.val + bank.val)).refill →
    ((List.range 16).filter fun k => bit ports.toNat k && s.engBusy (16 * f.val + k)) ≠ [] →
    Gives (.storeBankGrant f bank ports refill part) s fun t =>
      (t.sbank (4 * f.val + bank.val) = { s.sbank (4 * f.val + bank.val) with second := (if refill then part else ((s.linesAsked f.val).filter fun l => storeBankOf l.1 == bank.val).any (·.2)), waits := ((List.range 16).filter fun k => bit ports.toNat k && s.engBusy (16 * f.val + k)).map (fun j => (j, Sparse.get 0 (s.sbank (4 * f.val + bank.val)).waits j + 1)), refill := 0 }) ∧
      t.rd FCT_STORE_ARB.REFILL_FORCED f.val = min 0xFFFF (s.rd FCT_STORE_ARB.REFILL_FORCED f.val + 1) ∧
      Others s.sbank t.sbank (4 * f.val + bank.val) ∧
      FieldsKept s t [(FCT_STORE_ARB.REFILL_FORCED, f.val)] ∧
      t = { s with chip := { s.chip with regs := t.chip.regs, sbank := t.chip.sbank } }) ∧
  (∀ (f : Fin 32) (bank : Fin 4) (ports : BitVec 16) (refill part : Bool) (s : State),
    (s.sbank (4 * f.val + bank.val)).second = false →
    refill = true ∨ ((s.linesAsked f.val).filter fun l => storeBankOf l.1 == bank.val) ≠ [] →
    ((List.range 16).filter fun k => bit ports.toNat k && s.engBusy (16 * f.val + k)) = [] →
    Gives (.storeBankGrant f bank ports refill part) s fun t =>
      (t.sbank (4 * f.val + bank.val) = { s.sbank (4 * f.val + bank.val) with second := (if refill then part else ((s.linesAsked f.val).filter fun l => storeBankOf l.1 == bank.val).any (·.2)), waits := [], refill := 0 }) ∧
      Others s.sbank t.sbank (4 * f.val + bank.val) ∧
      t = { s with chip := { s.chip with sbank := t.chip.sbank } }) ∧
  (∀ (f : Fin 32) (bank : Fin 4) (ports : BitVec 16) (refill part : Bool) (s : State),
    (s.sbank (4 * f.val + bank.val)).second = true →
    Gives (.storeBankGrant f bank ports refill part) s fun t =>
      (t.sbank (4 * f.val + bank.val) = { s.sbank (4 * f.val + bank.val) with second := false, waits := ((List.range 16).filter fun k => bit ports.toNat k && s.engBusy (16 * f.val + k)).map (fun j => (j, Sparse.get 0 (s.sbank (4 * f.val + bank.val)).waits j + 1)), refill := if (refill || ((s.linesAsked f.val).filter fun l => storeBankOf l.1 == bank.val) != []) = true then (s.sbank (4 * f.val + bank.val)).refill + 1 else 0 }) ∧
      Others s.sbank t.sbank (4 * f.val + bank.val) ∧
      t = { s with chip := { s.chip with sbank := t.chip.sbank } }) ∧
  (∀ (f : Fin 32) (bank : Fin 4) (ports : BitVec 16) (refill part : Bool) (s : State),
    (s.sbank (4 * f.val + bank.val)).second = false →
    refill = false ∧ ((s.linesAsked f.val).filter fun l => storeBankOf l.1 == bank.val) = [] ∧ ((List.range 16).filter fun k => bit ports.toNat k && s.engBusy (16 * f.val + k)) = [] →
    Gives (.storeBankGrant f bank ports refill part) s fun t =>
      t.sbank (4 * f.val + bank.val) = { s.sbank (4 * f.val + bank.val) with waits := [], refill := 0 } ∧
      Others s.sbank t.sbank (4 * f.val + bank.val) ∧
      t = { s with chip := { s.chip with sbank := t.chip.sbank } }) ∧
  (∀ (f : Fin 32) (w : Wr) (s : State),
    Accepted s w (pgFct f.val) →
    Gives (.fctBezelClr f w) s fun t =>
      (∀ k : Fin 8, t.rd FCT_BEZEL_STAT.UNDERRUN_COUNT (8 * f.val + k.val) = 0 ∧ t.rd FCT_BEZEL_STAT.LOW_COUNT (8 * f.val + k.val) = 0 ∧ t.rd FCT_BEZEL_STAT.MIN_FILL (8 * f.val + k.val) = 0x3FF) ∧
      t.rd FCT_STORE_ARB.REFILL_FORCED f.val = 0 ∧ t.rd FCT_STORE_ARB.ENG_WAIT_MAX f.val = 0 ∧
      (FieldsKept s t ([(FCT_STORE_ARB.REFILL_FORCED, f.val), (FCT_STORE_ARB.ENG_WAIT_MAX, f.val), (HOST_STAT.COLLIDE_COUNT, 0)] ++ (List.range 8).flatMap fun k =>
          [(FCT_BEZEL_STAT.UNDERRUN_COUNT, 8 * f.val + k), (FCT_BEZEL_STAT.LOW_COUNT, 8 * f.val + k), (FCT_BEZEL_STAT.MIN_FILL, 8 * f.val + k)])) ∧
      t = { s with chip := { s.chip with regs := t.chip.regs, hostp := t.chip.hostp } })

/-- Requests to the power domains. An accepted request names its domain in PWR_STAT with RESULT 0; one that leaves ON starts quiescence, with the domain's refill, calibration and lanes stopped by rflDomain, calDomain and lanesOff and BUSY set, and one with FORCE gates at once by forceOff; one to ON starts the restore; one between two states other than ON gates the domain there, told by its event and record; one to the state the domain has ends at once, with RESULT 4 where it cancels a deferred request and 1 otherwise; one that R528 refuses reads RESULT 3 and raises PWR_REFUSED, and a domain number above 97, a request while BUSY and one that R527 forbids are refused with codes 1, 2 and 4; a domain that is quiescent within 2000 ticks takes its target state, its memories lost in OFF, with its event and record; one that is not is deferred, its lanes let go, told by an event, or counted on a retry; 100 µs later the request is checked and quiesces again, or ends with RESULT 3; a restored domain is ON with its record, its rail settled, or its quad, and its lanes free to leave DARK; before its time a restore, a quiescence or a retry does nothing. Where the rules leave room the clauses state the model's readings (log entries 3, 22, 40 and 41) -/
def Obligations.PowerRequests : Prop :=
  (∀ (w : Wr) (s : State),
    Accepted s w pgPwr →
    bits w.val.toNat 0 7 ≤ 97 →
    s.on PWR_STAT.BUSY 0 = false →
    bits w.val.toNat 28 2 ≠ 0 →
    (s.dom (bits w.val.toNat 0 7)).st = 0 →
    s.pwrRefused (bits w.val.toNat 0 7) false = false ∧ s.pwrDepend (bits w.val.toNat 0 7) (bits w.val.toNat 28 2) = false →
    bit w.val.toNat 30 = false →
    Gives (.pwrRequest w) s fun t =>
      ∃ u : State,
        u.rd PWR_STAT.DOM 0 = bits w.val.toNat 0 7 ∧ u.rd PWR_STAT.RESULT 0 = 0 ∧
        (u.dom (bits w.val.toNat 0 7)).quiesceFrom = some s.tb ∧ (u.dom (bits w.val.toNat 0 7)).target = bits w.val.toNat 28 2 ∧
        Others s.dom u.dom (bits w.val.toNat 0 7) ∧
        FieldsKept s u [(PWR_REQ.FORCE, 0), (PWR_REQ.TARGET, 0), (PWR_REQ.DOM, 0), (PWR_STAT.DOM, 0), (PWR_STAT.RESULT, 0), (HOST_STAT.COLLIDE_COUNT, 0)] ∧
        u = { s with chip := { s.chip with regs := u.chip.regs, hostp := u.chip.hostp, dom := u.chip.dom } } ∧
        t = { s with chip := ((((u.rflDomain (bits w.val.toNat 0 7) false).calDomain (bits w.val.toNat 0 7)).lanesOff (bits w.val.toNat 0 7)).wr PWR_STAT.BUSY 0 1).chip, mem := ((((u.rflDomain (bits w.val.toNat 0 7) false).calDomain (bits w.val.toNat 0 7)).lanesOff (bits w.val.toNat 0 7)).wr PWR_STAT.BUSY 0 1).mem }) ∧
  (∀ (w : Wr) (s : State),
    Accepted s w pgPwr →
    bits w.val.toNat 0 7 ≤ 97 →
    s.on PWR_STAT.BUSY 0 = false →
    bits w.val.toNat 28 2 ≠ 0 →
    (s.dom (bits w.val.toNat 0 7)).st = 0 →
    s.pwrRefused (bits w.val.toNat 0 7) (bit w.val.toNat 30) = true →
    Gives (.pwrRequest w) s fun t =>
      Refused s t pgPwr 3 ∧
      t.rd PWR_STAT.DOM 0 = bits w.val.toNat 0 7 ∧ t.rd PWR_STAT.RESULT 0 = 3 ∧
      Raised t pgPwr 2 ∧
      FieldsKept s t [(ERR_CODE.LAST, pgPwr), (ERR_CODE.FIRST, pgPwr), (ERR_COUNT.COUNT, pgPwr), (PWR_STAT.DOM, 0), (PWR_STAT.RESULT, 0), (IRQ_STAT.BITS, pgPwr), (HOST_STAT.COLLIDE_COUNT, 0)] ∧
      t = { s with chip := { s.chip with regs := t.chip.regs, hostp := t.chip.hostp } }) ∧
  (∀ (w : Wr) (s : State),
    Accepted s w pgPwr →
    bits w.val.toNat 0 7 ≤ 97 →
    s.on PWR_STAT.BUSY 0 = false →
    bits w.val.toNat 28 2 = 0 →
    (s.dom (bits w.val.toNat 0 7)).st ≠ 0 →
    s.pwrDepend (bits w.val.toNat 0 7) 0 = false →
    Gives (.pwrRequest w) s fun t =>
      t.dom (bits w.val.toNat 0 7) = { s.dom (bits w.val.toNat 0 7) with target := 0, restoreFrom := some s.tb, deferredAt := none } ∧
      Others s.dom t.dom (bits w.val.toNat 0 7) ∧
      t.rd PWR_STAT.DOM 0 = bits w.val.toNat 0 7 ∧ t.rd PWR_STAT.RESULT 0 = 0 ∧
      t.rd PWR_REQ.FORCE 0 = bits w.val.toNat 30 1 ∧ t.rd PWR_REQ.TARGET 0 = bits w.val.toNat 28 2 ∧ t.rd PWR_REQ.DOM 0 = bits w.val.toNat 0 7 ∧
      FieldsKept s t [(PWR_REQ.FORCE, 0), (PWR_REQ.TARGET, 0), (PWR_REQ.DOM, 0), (PWR_STAT.DOM, 0), (PWR_STAT.RESULT, 0), (HOST_STAT.COLLIDE_COUNT, 0)] ∧
      t = { s with chip := { s.chip with regs := t.chip.regs, hostp := t.chip.hostp, dom := t.chip.dom } }) ∧
  (∀ (w : Wr) (s : State),
    Accepted s w pgPwr →
    bits w.val.toNat 0 7 ≤ 97 →
    s.on PWR_STAT.BUSY 0 = false →
    bits w.val.toNat 28 2 = (s.dom (bits w.val.toNat 0 7)).st ∧ (s.dom (bits w.val.toNat 0 7)).restoreFrom = none →
    (s.dom (bits w.val.toNat 0 7)).deferredAt = none →
    s.pwrDepend (bits w.val.toNat 0 7) (bits w.val.toNat 28 2) = false →
    Gives (.pwrRequest w) s fun t =>
      t.rd PWR_STAT.DOM 0 = bits w.val.toNat 0 7 ∧ t.rd PWR_STAT.RESULT 0 = 1 ∧
      t.rd PWR_REQ.FORCE 0 = bits w.val.toNat 30 1 ∧ t.rd PWR_REQ.TARGET 0 = bits w.val.toNat 28 2 ∧ t.rd PWR_REQ.DOM 0 = bits w.val.toNat 0 7 ∧
      FieldsKept s t [(PWR_REQ.FORCE, 0), (PWR_REQ.TARGET, 0), (PWR_REQ.DOM, 0), (PWR_STAT.DOM, 0), (PWR_STAT.RESULT, 0), (HOST_STAT.COLLIDE_COUNT, 0)] ∧
      t = { s with chip := { s.chip with regs := t.chip.regs, hostp := t.chip.hostp } }) ∧
  (∀ (w : Wr) (s : State),
    Accepted s w pgPwr →
    bits w.val.toNat 0 7 ≤ 97 →
    s.on PWR_STAT.BUSY 0 = false →
    bits w.val.toNat 28 2 ≠ 0 →
    (s.dom (bits w.val.toNat 0 7)).st = 0 →
    s.pwrRefused (bits w.val.toNat 0 7) true = false ∧ s.pwrDepend (bits w.val.toNat 0 7) (bits w.val.toNat 28 2) = false →
    bit w.val.toNat 30 = true →
    Gives (.pwrRequest w) s fun t =>
      ∃ u : State,
        u.rd PWR_STAT.DOM 0 = bits w.val.toNat 0 7 ∧ u.rd PWR_STAT.RESULT 0 = 0 ∧
        u.dom (bits w.val.toNat 0 7) = { s.dom (bits w.val.toNat 0 7) with deferredAt := none } ∧
        Others s.dom u.dom (bits w.val.toNat 0 7) ∧
        FieldsKept s u [(PWR_REQ.FORCE, 0), (PWR_REQ.TARGET, 0), (PWR_REQ.DOM, 0), (PWR_STAT.DOM, 0), (PWR_STAT.RESULT, 0), (HOST_STAT.COLLIDE_COUNT, 0)] ∧
        u = { s with chip := { s.chip with regs := u.chip.regs, hostp := u.chip.hostp, dom := u.chip.dom } } ∧
        t = { s with chip := (u.forceOff (bits w.val.toNat 0 7) (bits w.val.toNat 28 2)).chip, mem := (u.forceOff (bits w.val.toNat 0 7) (bits w.val.toNat 28 2)).mem }) ∧
  (∀ (w : Wr) (s : State),
    Accepted s w pgPwr →
    bits w.val.toNat 0 7 ≤ 97 →
    s.on PWR_STAT.BUSY 0 = false →
    bits w.val.toNat 28 2 ≠ 0 ∧ (s.dom (bits w.val.toNat 0 7)).st ≠ 0 →
    bits w.val.toNat 28 2 ≠ (s.dom (bits w.val.toNat 0 7)).st ∨ (s.dom (bits w.val.toNat 0 7)).restoreFrom ≠ none →
    s.pwrDepend (bits w.val.toNat 0 7) (bits w.val.toNat 28 2) = false →
    Gives (.pwrRequest w) s fun t =>
      t.dom (bits w.val.toNat 0 7) = { st := bits w.val.toNat 28 2, target := bits w.val.toNat 28 2 } ∧
      Others s.dom t.dom (bits w.val.toNat 0 7) ∧
      t.rd PWR_STAT.DOM 0 = (bits w.val.toNat 0 7) ∧ t.rd PWR_STAT.RESULT 0 = 1 ∧
      Raised t pgPwr 0 ∧
      (t.mem = if bits w.val.toNat 28 2 = 3 then s.mem.lose (bits w.val.toNat 0 7) else s.mem) ∧
      (∃ r ∈ t.recs, r.cls = 0x0E ∧ r.code = 0x1509 ∧ r.stamp = s.epoch) ∧
      t.epoch = s.epoch ∧ t.tb = s.tb ∧ t.pending = s.pending) ∧
  (∀ (w : Wr) (s : State),
    Accepted s w pgPwr →
    bits w.val.toNat 0 7 ≤ 97 →
    s.on PWR_STAT.BUSY 0 = false →
    bits w.val.toNat 28 2 = (s.dom (bits w.val.toNat 0 7)).st ∧ (s.dom (bits w.val.toNat 0 7)).restoreFrom = none →
    (s.dom (bits w.val.toNat 0 7)).deferredAt ≠ none →
    s.pwrDepend (bits w.val.toNat 0 7) (bits w.val.toNat 28 2) = false →
    Gives (.pwrRequest w) s fun t =>
      t.dom (bits w.val.toNat 0 7) = { s.dom (bits w.val.toNat 0 7) with deferredAt := none } ∧
      Others s.dom t.dom (bits w.val.toNat 0 7) ∧
      t.rd PWR_STAT.DOM 0 = (bits w.val.toNat 0 7) ∧ t.rd PWR_STAT.RESULT 0 = 4 ∧
      FieldsKept s t [(PWR_REQ.FORCE, 0), (PWR_REQ.TARGET, 0), (PWR_REQ.DOM, 0), (PWR_STAT.DOM, 0), (PWR_STAT.RESULT, 0), (HOST_STAT.COLLIDE_COUNT, 0)] ∧
      t = { s with chip := { s.chip with regs := t.chip.regs, hostp := t.chip.hostp, dom := t.chip.dom } }) ∧
  (∀ (w : Wr) (s : State),
    Accepted s w pgPwr →
    97 < bits w.val.toNat 0 7 →
    Gives (.pwrRequest w) s fun t =>
      Refused s t pgPwr 1 ∧
      FieldsKept s t [(ERR_CODE.LAST, pgPwr), (ERR_CODE.FIRST, pgPwr), (ERR_COUNT.COUNT, pgPwr), (HOST_STAT.COLLIDE_COUNT, 0)] ∧
      t = { s with chip := { s.chip with regs := t.chip.regs, hostp := t.chip.hostp } }) ∧
  (∀ (w : Wr) (s : State),
    Accepted s w pgPwr →
    bits w.val.toNat 0 7 ≤ 97 →
    s.on PWR_STAT.BUSY 0 = true →
    Gives (.pwrRequest w) s fun t =>
      Refused s t pgPwr 2 ∧
      FieldsKept s t [(ERR_CODE.LAST, pgPwr), (ERR_CODE.FIRST, pgPwr), (ERR_COUNT.COUNT, pgPwr), (HOST_STAT.COLLIDE_COUNT, 0)] ∧
      t = { s with chip := { s.chip with regs := t.chip.regs, hostp := t.chip.hostp } }) ∧
  (∀ (w : Wr) (s : State),
    Accepted s w pgPwr →
    bits w.val.toNat 0 7 ≤ 97 →
    s.on PWR_STAT.BUSY 0 = false →
    (s.dom (bits w.val.toNat 0 7)).st ≠ 0 ∨ bits w.val.toNat 28 2 = 0 ∨ s.pwrRefused (bits w.val.toNat 0 7) (bit w.val.toNat 30) = false →
    s.pwrDepend (bits w.val.toNat 0 7) (bits w.val.toNat 28 2) = true →
    Gives (.pwrRequest w) s fun t =>
      Refused s t pgPwr 4 ∧
      FieldsKept s t [(ERR_CODE.LAST, pgPwr), (ERR_CODE.FIRST, pgPwr), (ERR_COUNT.COUNT, pgPwr), (HOST_STAT.COLLIDE_COUNT, 0)] ∧
      t = { s with chip := { s.chip with regs := t.chip.regs, hostp := t.chip.hostp } }) ∧
  (∀ (d : Fin 98) (s : State),
    (s.dom d.val).quiesceFrom.all (fun q => decide (q + 2000 < s.tb)) = true →
    Gives (.pwrQuiesceDone d) s fun t =>
      t = s) ∧
  (∀ (d : Fin 98) (s : State),
    (s.dom d.val).quiesceFrom.all (fun q => decide (s.tb < q + 2000)) = true →
    Gives (.pwrQuiesceTimeout d) s fun t =>
      t = s) ∧
  (∀ (d : Fin 98) (s : State),
    (s.dom d.val).deferredAt.all (fun q => decide (s.tb < q + 50000)) = true ∨ (s.dom d.val).quiesceFrom ≠ none ∨ s.on PWR_STAT.BUSY 0 = true →
    Gives (.pwrRetry d) s fun t =>
      t = s) ∧
  (∀ (d : Fin 98) (s : State),
    (s.dom d.val).restoreFrom.all (fun q => decide (s.tb < q + restoreTime (s.dom d.val).st)) = true →
    Gives (.pwrRestoreDone d) s fun t =>
      t = s) ∧
  (∀ (d : Fin 98) (q : Nat) (s : State),
    (s.dom d.val).quiesceFrom = some q →
    s.tb ≤ q + 2000 →
    Gives (.pwrQuiesceDone d) s fun t =>
      t.dom d.val = { st := (s.dom d.val).target, target := (s.dom d.val).target } ∧
      t.rd PWR_STAT.BUSY 0 = 0 ∧
      Raised t pgPwr 0 ∧
      (t.mem = if (s.dom d.val).target = 3 then s.mem.lose d.val else s.mem) ∧
      (∃ r ∈ t.recs, r.cls = 0x0E ∧ r.code = 0x1509 ∧ r.stamp = s.epoch) ∧
      t.epoch = s.epoch ∧ t.tb = s.tb ∧ t.pending = s.pending) ∧
  (∀ (d : Fin 98) (q : Nat) (s : State),
    (s.dom d.val).quiesceFrom = some q →
    q + 2000 ≤ s.tb →
    Gives (.pwrQuiesceTimeout d) s fun t =>
      ∃ u : State,
        u.dom d.val = { s.dom d.val with quiesceFrom := none, deferredAt := some s.tb } ∧ Others s.dom u.dom d.val ∧
        u.rd PWR_STAT.BUSY 0 = 0 ∧
        FieldsKept s u [(PWR_STAT.BUSY, 0)] ∧
        u = { s with chip := { s.chip with regs := u.chip.regs, dom := u.chip.dom } } ∧
        (t = { s with chip := (if (s.dom d.val).deferredAt.isSome then ((u.lanesOn d.val).pwrResult d.val 2).inc PWR_CNT.DEFER_COUNT 0
              else ((u.lanesOn d.val).pwrResult d.val 2).raise pgPwr 1).chip })) ∧
  (∀ (d : Fin 98) (q : Nat) (s : State),
    (s.dom d.val).deferredAt = some q →
    q + 50000 ≤ s.tb →
    (s.dom d.val).quiesceFrom = none →
    s.on PWR_STAT.BUSY 0 = false →
    s.pwrRefused d.val false = true ∨ s.pwrDepend d.val (s.dom d.val).target = true →
    Gives (.pwrRetry d) s fun t =>
      t.dom d.val = { s.dom d.val with deferredAt := none } ∧
      (s.rd PWR_STAT.DOM 0 = d.val → t.rd PWR_STAT.RESULT 0 = 3) ∧
      Raised t pgPwr 2 ∧
      Others s.dom t.dom d.val ∧
      FieldsKept s t [(PWR_STAT.RESULT, 0), (IRQ_STAT.BITS, pgPwr)] ∧
      t = { s with chip := { s.chip with regs := t.chip.regs, hostp := t.chip.hostp, dom := t.chip.dom } }) ∧
  (∀ (d : Fin 98) (q : Nat) (s : State),
    (s.dom d.val).deferredAt = some q →
    q + 50000 ≤ s.tb →
    (s.dom d.val).quiesceFrom = none →
    s.on PWR_STAT.BUSY 0 = false →
    s.pwrRefused d.val false = false ∧ s.pwrDepend d.val (s.dom d.val).target = false →
    Gives (.pwrRetry d) s fun t =>
      ∃ u : State,
        u.dom d.val = { s.dom d.val with quiesceFrom := some s.tb } ∧ Others s.dom u.dom d.val ∧
        u = { s with chip := { s.chip with dom := u.chip.dom } } ∧
        t = { s with chip := ((((u.rflDomain d.val false).calDomain d.val).lanesOff d.val).wr PWR_STAT.BUSY 0 1).chip, mem := ((((u.rflDomain d.val false).calDomain d.val).lanesOff d.val).wr PWR_STAT.BUSY 0 1).mem }) ∧
  (∀ (d : Fin 98) (q : Nat) (s : State),
    (s.dom d.val).restoreFrom = some q →
    q + restoreTime (s.dom d.val).st ≤ s.tb →
    d.val = 32 ∨ d.val = 33 →
    Gives (.pwrRestoreDone d) s fun t =>
      t.dom d.val = {} ∧
      (s.rd PWR_STAT.DOM 0 = d.val → t.rd PWR_STAT.RESULT 0 = 1) ∧
      Recorded s t 0x0E 0 0x150D ∧
      Others s.dom t.dom d.val ∧
      FieldsKept s t [(PWR_STAT.RESULT, 0)] ∧
      t = { s with chip := { s.chip with regs := t.chip.regs, dom := t.chip.dom, recs := t.chip.recs } }) ∧
  (∀ (d : Fin 98) (q : Nat) (s : State),
    (s.dom d.val).restoreFrom = some q →
    q + restoreTime (s.dom d.val).st ≤ s.tb →
    d.val < 32 →
    Gives (.pwrRestoreDone d) s fun t =>
      ∃ u : State,
        u.dom d.val = {} ∧ Others s.dom u.dom d.val ∧
        u = { s with chip := { s.chip with dom := u.chip.dom } } ∧
        t = { s with chip := ((((u.settleRail (railOf d.val)).lanesOn d.val).pwrResult d.val 1).domRec d.val (s.dom d.val).st 0 1 0x150D).chip }) ∧
  (∀ (d : Fin 98) (q : Nat) (s : State),
    (s.dom d.val).restoreFrom = some q →
    q + restoreTime (s.dom d.val).st ≤ s.tb →
    34 ≤ d.val →
    Gives (.pwrRestoreDone d) s fun t =>
      ∃ u : State,
        u.dom d.val = {} ∧ Others s.dom u.dom d.val ∧
        u = { s with chip := { s.chip with dom := u.chip.dom } } ∧
        t = { s with chip := ((((u.settleQuad (d.val - 34)).lanesOn d.val).pwrResult d.val 1).domRec d.val (s.dom d.val).st 0 1 0x150D).chip })

/-- Reset, the straps and the boot loader. A reset returns every register to its reset value but the CLR_N level and the revocation, empties the volatile memories, keeps the flash and what has been sent, and enters POR, whose time runs from the supply's recovery or from the release of RESET_N; 1 ms after the release, unless TEST_N is low, the straps, the role and the flash's SFDP are sampled, and BOOT begins with the script of the slot that bootSlot selects, or passes to CALCHECK with RESULT 2 where the mode or the flash gives none and with RESULT 4 where a device with a boot key rejects its signature; the loader runs the record it stands at: a WRITE, and an RMW with the bits of its mask replaced, is made as the host's write and passes to the next record, or stops with cause 2 where it is refused; a POLL passes when the value read matches and otherwise starts its time once; a DELAY starts its time and passes when that is over; SIG passes; END ends the boot with RESULT 1 and its record; a reserved record, a POLL whose time is over, and a script that ends without END or is cut short stop it with cause 1, 3 or 4 and RESULT 3. Where the rules leave room the clauses state the model's readings (log entries 3, 22, 40 and 41) -/
def Obligations.ResetStrapsAndBoot : Prop :=
  (∀ (s : State),
    Gives (.resetNAssert) s fun t =>
      t.epoch = 0 ∧ t.tb = s.tb ∧ t.pending = s.pending ∧
      t.mem = { flash := s.mem.flash } ∧
      t.bring = { held := true, released := none } ∧
      t.dev = 1 ∧
      (∀ (f : Fld) (i : Nat), f.id ≠ SEC_STAT.REVOKED.id → f.id ≠ LOUPE_CLR_STAT.CLR_N_ASSERTED.id → t.rd f i = f.reset i) ∧
      (∀ (f : Fld) (i : Nat), t.rdA f i = f.reset i) ∧
      t.chip = { regs := t.chip.regs, hostp := { perst := s.hostp.perst, training := !s.hostp.perst }, bring := t.chip.bring, out := s.chip.out, freeCtr := s.chip.freeCtr }) ∧
  (∀ (s : State),
    Gives (.supplyMonitorReset) s fun t =>
      t.epoch = 0 ∧ t.tb = s.tb ∧ t.pending = s.pending ∧
      t.mem = { flash := s.mem.flash } ∧
      (t.bring = { held := s.bring.held, released := if s.bring.held then none else some s.tb }) ∧
      t.dev = 1 ∧
      (∀ (f : Fld) (i : Nat), f.id ≠ SEC_STAT.REVOKED.id → f.id ≠ LOUPE_CLR_STAT.CLR_N_ASSERTED.id → t.rd f i = f.reset i) ∧
      (∀ (f : Fld) (i : Nat), t.rdA f i = f.reset i) ∧
      t.chip = { regs := t.chip.regs, hostp := { perst := s.hostp.perst, training := !s.hostp.perst }, bring := t.chip.bring, out := s.chip.out, freeCtr := s.chip.freeCtr }) ∧
  (∀ (s : State),
    s.bring.held = true →
    Gives (.resetNRelease) s fun t =>
      t.bring = { s.bring with held := false, released := some s.tb } ∧
      t = { s with chip := { s.chip with bring := t.chip.bring } }) ∧
  (∀ (hostSel masterSel enumHigh flashOk : Bool) (mode : Fin 4) (jedec : BitVec 24) (log2 : Fin 256) (q : Nat) (s : State),
    s.bring.released = some q →
    s.dev = 1 →
    q + 500000 ≤ s.tb →
    hostSel = true ∨ s.on HOST_LINK.DL_UP 0 = false →
    mode.val ≠ 0 ∨ flashOk = false ∨ s.bootSlot = none →
    Gives (.porComplete true hostSel masterSel enumHigh mode flashOk jedec log2) s fun t =>
      t.dev = 3 ∧ t.rd DEV_BOOT.RESULT 0 = 2 ∧
      (2 ≤ mode.val → Raised t pgDev 3) ∧
      (flashOk = false → Raised t pgCal 7) ∧
      t.rd DEV_STRAP.STRAPS 0 = 16 + 8 * flag hostSel + 2 * mode.val + flag masterSel ∧
      (masterSel = true ∨ enumHigh = true → t.rd CAS_STAT.MASTER 0 = 1 ∧ t.rd CAS_STAT.ADDR_VALID 0 = 1) ∧
      t.rd CAL_FL_ID.JEDEC 0 = jedec.toNat ∧ t.rd CAL_FL_ID.LOG2_SIZE 0 = log2.val ∧ t.rd CAL_STAT.FLASH_OK 0 = flag flashOk ∧
      t = { s with chip := { s.chip with regs := t.chip.regs, hostp := t.chip.hostp, bring := t.chip.bring, cas := t.chip.cas } }) ∧
  (∀ (hostSel masterSel enumHigh flashOk : Bool) (mode : Fin 4) (jedec : BitVec 24) (log2 : Fin 256) (k q : Nat) (s : State),
    s.bring.released = some q →
    s.dev = 1 →
    q + 500000 ≤ s.tb →
    hostSel = true ∨ s.on HOST_LINK.DL_UP 0 = false →
    mode.val = 0 ∧ flashOk = true ∧ s.bootSlot = some k →
    Gives (.porComplete true hostSel masterSel enumHigh mode flashOk jedec log2) s fun t =>
      t.rd DEV_BOOT.SLOT 0 = k % 2 ∧
      ((Config.bootHash % 2 ^ 256 = 0 ∨ s.bootSigned k (s.bootRecs (s.flashD (bootBase k + 8) / 12 + 1) (bootBase k + 0x100) (s.flashD (bootBase k + 8))) = true) → t.dev = 2 ∧ t.bring.index = 0 ∧ t.bring.busy = none ∧ t.rd DEV_BOOT.SIGNED 0 = flag (decide (Config.bootHash % 2 ^ 256 ≠ 0)) ∧
          t.bring.script = s.bootRecs (s.flashD (bootBase k + 8) / 12 + 1) (bootBase k + 0x100) (s.flashD (bootBase k + 8))) ∧
      ((Config.bootHash % 2 ^ 256 ≠ 0 ∧ s.bootSigned k (s.bootRecs (s.flashD (bootBase k + 8) / 12 + 1) (bootBase k + 0x100) (s.flashD (bootBase k + 8))) = false) → t.dev = 3 ∧ t.rd DEV_BOOT.RESULT 0 = 4) ∧
      t = { s with chip := { s.chip with regs := t.chip.regs, hostp := t.chip.hostp, bring := t.chip.bring, cas := t.chip.cas } }) ∧
  (∀ (r : Nat × Nat × Nat) (s : State),
    s.dev = 2 →
    s.bring.script[s.bring.index]? = some r →
    bootReserved r = true →
    Gives (.bootRecord) s fun t =>
      t.rd DEV_BOOT_ERR.CAUSE 0 = 1 ∧ t.rd DEV_BOOT_ERR.INDEX 0 = min 0xFFFF s.bring.index ∧
      t.dev = 3 ∧ t.rd DEV_BOOT.RESULT 0 = 3 ∧ t.bring.script = [] ∧
      Raised t pgDev 3 ∧
      Recorded s t 0x0E 0 0x1504 ∧
      FieldsKept s t [(DEV_BOOT_ERR.CAUSE, 0), (DEV_BOOT_ERR.INDEX, 0), (DEV_BOOT.RESULT, 0), (DEV_STATE.STATE, 0), (IRQ_STAT.BITS, pgDev)] ∧
      t = { s with chip := { s.chip with regs := t.chip.regs, hostp := t.chip.hostp, recs := t.chip.recs, bring := t.chip.bring } }) ∧
  (∀ (r : Nat × Nat × Nat) (s : State),
    s.dev = 2 →
    s.bring.script[s.bring.index]? = some r →
    bootReserved r = false →
    bootOp r = 15 →
    s.bring.whole = true →
    Gives (.bootRecord) s fun t =>
      t.dev = 3 ∧ t.rd DEV_BOOT.RESULT 0 = 1 ∧ t.bring.script = [] ∧
      Recorded s t 0x0E 0 0x1505 ∧
      FieldsKept s t [(DEV_BOOT.RESULT, 0), (DEV_STATE.STATE, 0)] ∧
      t = { s with chip := { s.chip with regs := t.chip.regs, recs := t.chip.recs, bring := t.chip.bring } }) ∧
  (∀ (r : Nat × Nat × Nat) (s : State),
    s.dev = 2 →
    s.bring.script[s.bring.index]? = some r →
    bootReserved r = false →
    bootOp r = 4 →
    s.bring.busy = none →
    Gives (.bootRecord) s fun t =>
      t.bring = { s.bring with busy := some (s.tb + 500 * r.2.1) } ∧
      t = { s with chip := { s.chip with bring := t.chip.bring } }) ∧
  (∀ (r : Nat × Nat × Nat) (s : State),
    s.dev = 2 →
    s.bring.script[s.bring.index]? = some r →
    bootReserved r = false →
    bootOp r = 1 →
    (s.bootWrite (bits r.1 0 22) r.2.1).1 = true →
    Gives (.bootRecord) s fun t =>
      ∃ u : State,
        t = { s with chip := u.chip, mem := u.mem } ∧
        u.bring = { (s.bootWrite (bits r.1 0 22) r.2.1).2.bring with index := (s.bootWrite (bits r.1 0 22) r.2.1).2.bring.index + 1, busy := none } ∧
        u.rd DEV_BOOT.RECORDS 0 = min 0xFFFF ((s.bootWrite (bits r.1 0 22) r.2.1).2.rd DEV_BOOT.RECORDS 0 + 1) ∧
        FieldsKept (s.bootWrite (bits r.1 0 22) r.2.1).2 u [(DEV_BOOT.RECORDS, 0)] ∧
        u.mem = (s.bootWrite (bits r.1 0 22) r.2.1).2.mem) ∧
  (∀ (testN hostSel masterSel enumHigh flashOk : Bool) (mode : Fin 4) (jedec : BitVec 24) (log2 : Fin 256) (s : State),
    testN = false ∨ s.dev ≠ 1 ∨ s.bring.released.all (fun q => decide (s.tb < q + 500000)) = true →
    Gives (.porComplete testN hostSel masterSel enumHigh mode flashOk jedec log2) s fun t =>
      t = s) ∧
  (∀ (r : Nat × Nat × Nat) (s : State),
    s.dev = 2 →
    s.bring.script[s.bring.index]? = some r →
    bootOp r = 2 →
    ((s.bootRead (bits r.1 0 22)).2.bootWrite (bits r.1 0 22) ((s.bootRead (bits r.1 0 22)).1 &&& (0xFFFFFFFF ^^^ r.2.2) ||| r.2.1 &&& r.2.2)).1 = true →
    Gives (.bootRecord) s fun t =>
      ∃ u : State,
        t = { s with chip := (u.bootNext true).chip, mem := (u.bootNext true).mem } ∧
        u = ((s.bootRead (bits r.1 0 22)).2.bootWrite (bits r.1 0 22) ((s.bootRead (bits r.1 0 22)).1 &&& (0xFFFFFFFF ^^^ r.2.2) ||| r.2.1 &&& r.2.2)).2) ∧
  (∀ (r : Nat × Nat × Nat) (s : State),
    s.dev = 2 →
    s.bring.script[s.bring.index]? = some r →
    bootReserved r = false →
    bootOp r = 1 →
    (s.bootWrite (bits r.1 0 22) r.2.1).1 = false →
    Gives (.bootRecord) s fun t =>
      ∃ u : State,
        u = (s.bootWrite (bits r.1 0 22) r.2.1).2 ∧
        t = { s with chip := (u.bootFail 2).chip, mem := u.mem }) ∧
  (∀ (r : Nat × Nat × Nat) (s : State),
    s.dev = 2 →
    s.bring.script[s.bring.index]? = some r →
    bootReserved r = false →
    bootOp r = 3 →
    Gives (.bootRecord) s fun t =>
      ((s.bootRead (bits r.1 0 22)).1 &&& r.2.2 = r.2.1 →
        t = { s with chip := ((s.bootRead (bits r.1 0 22)).2.bootNext true).chip, mem := (s.bootRead (bits r.1 0 22)).2.mem }) ∧
      ((s.bootRead (bits r.1 0 22)).1 &&& r.2.2 ≠ r.2.1 → s.bring.busy = none →
        t = { s with chip := ((s.bootRead (bits r.1 0 22)).2.modBring fun b => { b with busy := some (s.tb + 500 * 2 ^ bits r.1 22 6) }).chip, mem := (s.bootRead (bits r.1 0 22)).2.mem }) ∧
      ((s.bootRead (bits r.1 0 22)).1 &&& r.2.2 ≠ r.2.1 → s.bring.busy ≠ none →
        t = { s with chip := (s.bootRead (bits r.1 0 22)).2.chip, mem := (s.bootRead (bits r.1 0 22)).2.mem })) ∧
  (∀ (r : Nat × Nat × Nat) (s : State),
    s.dev = 2 →
    s.bring.script[s.bring.index]? = some r →
    bootOp r = 14 →
    Gives (.bootRecord) s fun t =>
      t.bring = { s.bring with index := s.bring.index + 1, busy := none } ∧
      t = { s with chip := { s.chip with bring := t.chip.bring } }) ∧
  (∀ (r : Nat × Nat × Nat) (s : State),
    s.dev = 2 →
    s.bring.script[s.bring.index]? = some r →
    bootOp r = 15 →
    s.bring.whole = false →
    Gives (.bootRecord) s fun t =>
      t.rd DEV_BOOT_ERR.CAUSE 0 = 4 ∧ t.rd DEV_BOOT_ERR.INDEX 0 = min 0xFFFF s.bring.index ∧
      t.dev = 3 ∧ t.rd DEV_BOOT.RESULT 0 = 3 ∧
      Raised t pgDev 3 ∧
      Recorded s t 0x0E 0 0x1504 ∧
      FieldsKept s t [(DEV_BOOT_ERR.CAUSE, 0), (DEV_BOOT_ERR.INDEX, 0), (DEV_BOOT.RESULT, 0), (DEV_STATE.STATE, 0), (IRQ_STAT.BITS, pgDev)] ∧
      t = { s with chip := { s.chip with regs := t.chip.regs, hostp := t.chip.hostp, recs := t.chip.recs, bring := t.chip.bring } }) ∧
  (∀ (s : State),
    s.dev = 2 →
    s.bring.script[s.bring.index]? = none →
    Gives (.bootRecord) s fun t =>
      t.rd DEV_BOOT_ERR.CAUSE 0 = 4 ∧
      t.dev = 3 ∧ t.rd DEV_BOOT.RESULT 0 = 3 ∧
      Raised t pgDev 3 ∧
      Recorded s t 0x0E 0 0x1504 ∧
      t = { s with chip := { s.chip with regs := t.chip.regs, hostp := t.chip.hostp, recs := t.chip.recs, bring := t.chip.bring } }) ∧
  (∀ (s : State),
    s.bootDue 3 = true →
    Gives (.bootPollTimeout) s fun t =>
      t.rd DEV_BOOT_ERR.CAUSE 0 = 3 ∧ t.rd DEV_BOOT_ERR.INDEX 0 = min 0xFFFF s.bring.index ∧
      t.dev = 3 ∧ t.rd DEV_BOOT.RESULT 0 = 3 ∧
      Raised t pgDev 3 ∧
      Recorded s t 0x0E 0 0x1504 ∧
      t = { s with chip := { s.chip with regs := t.chip.regs, hostp := t.chip.hostp, recs := t.chip.recs, bring := t.chip.bring } }) ∧
  (∀ (s : State),
    s.bootDue 4 = true →
    Gives (.bootDelayEnd) s fun t =>
      t.bring = { s.bring with index := s.bring.index + 1, busy := none } ∧
      t.rd DEV_BOOT.RECORDS 0 = min 0xFFFF (s.rd DEV_BOOT.RECORDS 0 + 1) ∧
      FieldsKept s t [(DEV_BOOT.RECORDS, 0)] ∧
      t = { s with chip := { s.chip with regs := t.chip.regs, bring := t.chip.bring } })

/-- CALCHECK, TRAINING, SAFE and the way back. CALCHECK takes the calibration of the slot that calSlot selects, with its record, or of OTP with CAL_DEFAULTS and its record, loads it by calLoad, and enters CLOCKING with TB running and the TPLL acquiring; TRAINING ends in READY, with its event, its time and its record, when every island and quad has settled, or after 5 ms with an event and a record for those that had not, and in DEBUG it ends with neither; waiting for the clock is told once, 80 ms after the release; ENTER_SAFE, and a sensor that has been too hot for 10 ms, enter SAFE with the cause, the count, the state before it, and the shared steps of R523, or in SAFE only add the cause, and before CLOCKING ENTER_SAFE is refused with code 3; EXIT_SAFE, where safeExitOk allows it, clears the cause, has the analogue Facet leave its fallback oscillator at its next lane grid tick, lifts the lanes' HOLD and returns to READY, DEBUG or CLOCKING with its event, and is refused with code 2 elsewhere. Where the rules leave room the clauses state the model's readings (log entries 3, 22, 40 and 41) -/
def Obligations.CalcheckTrainingSafe : Prop :=
  (∀ (s : State),
    s.dev = 3 →
    s.on CAL_STAT.FLASH_OK 0 = false →
    Gives (.calcheckComplete) s fun t =>
      ∃ u : State,
        u.rd CAL_STAT.CAL_STATE 0 = 3 ∧ u.cal.image = [] ∧
        Raised u pgCal 5 ∧ Raised u pgCal 8 ∧
        Recorded s u 0x08 0 0x1106 ∧
        FieldsKept s u [(CAL_STAT.CAL_STATE, 0), (IRQ_STAT.BITS, pgCal)] ∧
        u = { s with chip := { s.chip with regs := u.chip.regs, hostp := u.chip.hostp, recs := u.chip.recs, cal := u.chip.cal } } ∧
        t = { s with chip := ((((u.wr DEV_STATE.STATE 0 4).calLoad).wr TB_STAT.TB_RUN 0 1).tpllAcquire).chip }) ∧
  (∀ (s : State),
    s.dev = 3 →
    s.on CAL_STAT.FLASH_OK 0 = true →
    Gives (.calcheckComplete) s fun t =>
      (∀ k, s.slotShow.calSlot = some k → ∃ u : State, u.rd CAL_STAT.CAL_STATE 0 = (k + 1) % 4 ∧ u.rd CAL_GEN.GEN 0 = s.flashD (calSlotBase k + 4) % 2 ^ 32 ∧
          (∃ r ∈ u.recs, r.cls = 8 ∧ r.code = 0x110B) ∧ u.mem = s.mem ∧
          t = { s with chip := ((((u.wr DEV_STATE.STATE 0 4).calLoad).wr TB_STAT.TB_RUN 0 1).tpllAcquire).chip }) ∧
      (s.slotShow.calSlot = none → ∃ u : State, u.rd CAL_STAT.CAL_STATE 0 = 3 ∧ Raised u pgCal 5 ∧ (∃ r ∈ u.recs, r.cls = 8 ∧ r.code = 0x1106) ∧ u.mem = s.mem ∧
          t = { s with chip := ((((u.wr DEV_STATE.STATE 0 4).calLoad).wr TB_STAT.TB_RUN 0 1).tpllAcquire).chip })) ∧
  (∀ (q : Nat) (s : State),
    s.dev = 5 →
    s.bring.released = some q →
    s.unsettledIsl = [] →
    s.unsettledQuads = [] →
    Gives (.trainingSettled) s fun t =>
      ∃ u : State,
        u.dev = 6 ∧ u.bring.stage = 6 ∧
        u.rd DEV_READY_US.READY_US 0 = min 0xFFFFFF ((s.tb - q) / 500) ∧
        Raised u pgDev 0 ∧
        Recorded s u 0x0E 0 0x1501 ∧
        FieldsKept s u [(DEV_STATE.STATE, 0), (DEV_READY_US.READY_US, 0), (IRQ_STAT.BITS, pgDev)] ∧
        u = { s with chip := { s.chip with regs := u.chip.regs, hostp := u.chip.hostp, recs := u.chip.recs, bring := u.chip.bring } } ∧
        t = { s with chip := (u.planStart.settleRun).chip }) ∧
  (∀ (s : State),
    s.dev = 9 ∧ s.bring.stage = 5 →
    s.unsettledIsl = [] →
    s.unsettledQuads = [] →
    Gives (.trainingSettled) s fun t =>
      t.bring = { s.bring with stage := 6 } ∧
      t = { s with chip := { s.chip with bring := t.chip.bring } }) ∧
  (∀ (q : Nat) (s : State),
    s.dev = 5 →
    s.bring.released = some q →
    s.bring.trainFrom + 2500000 ≤ s.tb →
    Gives (.trainingTimeout) s fun t =>
      ∃ u : State,
        u.dev = 6 ∧ u.bring.stage = 6 ∧
        Raised u pgDev 0 ∧ Raised u pgDev 4 ∧
        (u.recs.map (fun r => (r.cls, r.code)) = s.recs.map (fun r => (r.cls, r.code)) ++ [(0x0E, 0x1506), (0x0E, 0x1501)]) ∧
        FieldsKept s u [(DEV_STATE.STATE, 0), (DEV_READY_US.READY_US, 0), (IRQ_STAT.BITS, pgDev)] ∧
        u = { s with chip := { s.chip with regs := u.chip.regs, hostp := u.chip.hostp, recs := u.chip.recs, bring := u.chip.bring } } ∧
        t = { s with chip := (u.planStart.settleRun).chip }) ∧
  (∀ (s : State),
    s.dev = 9 ∧ s.bring.stage = 5 →
    s.bring.trainFrom + 2500000 ≤ s.tb →
    Gives (.trainingTimeout) s fun t =>
      t.bring = { s.bring with stage := 6 } ∧
      Raised t pgDev 4 ∧
      Recorded s t 0x0E 0 0x1506 ∧
      FieldsKept s t [(IRQ_STAT.BITS, pgDev)] ∧
      t = { s with chip := { s.chip with regs := t.chip.regs, hostp := t.chip.hostp, recs := t.chip.recs, bring := t.chip.bring } }) ∧
  (∀ (s : State),
    s.inTraining = false ∨ s.unsettledIsl ≠ [] ∨ s.unsettledQuads ≠ [] →
    Gives (.trainingSettled) s fun t =>
      t = s) ∧
  (∀ (s : State),
    s.inTraining = false ∨ s.tb < s.bring.trainFrom + 2500000 →
    Gives (.trainingTimeout) s fun t =>
      t = s) ∧
  (∀ (s : State),
    s.dev ≠ 4 ∨ s.bring.told = true →
    Gives (.devClockWait) s fun t =>
      t = s) ∧
  (∀ (q : Nat) (s : State),
    s.bring.released = some q →
    s.dev = 4 →
    q + 40000000 ≤ s.tb →
    s.bring.told = false →
    Gives (.devClockWait) s fun t =>
      t.bring = { s.bring with told := true } ∧
      Raised t pgDev 6 ∧
      FieldsKept s t [(IRQ_STAT.BITS, pgDev)] ∧
      t = { s with chip := { s.chip with regs := t.chip.regs, hostp := t.chip.hostp, bring := t.chip.bring } }) ∧
  (∀ (w : Wr) (s : State),
    Accepted s w pgDev →
    bit w.val.toNat 1 = false →
    4 ≤ s.dev ∧ s.dev ≠ 8 →
    Gives (.devEnterSafe w) s fun t =>
      ∃ u : State,
        u.dev = 8 ∧ u.rd DEV_STATE.PREV 0 = s.dev % 2 ^ 4 ∧
        u.rd DEV_STATE.SAFE_CAUSE 0 = (s.rd DEV_STATE.SAFE_CAUSE 0 ||| 2) % 2 ^ 3 ∧
        u.rd DEV_STATE.SAFE_COUNT 0 = min 0xFF (s.rd DEV_STATE.SAFE_COUNT 0 + 1) ∧
        FieldsKept s u [(DEV_STATE.STATE, 0), (DEV_STATE.PREV, 0), (DEV_STATE.SAFE_CAUSE, 0), (DEV_STATE.SAFE_COUNT, 0), (HOST_STAT.COLLIDE_COUNT, 0)] ∧
        u = { s with chip := { s.chip with regs := u.chip.regs, hostp := u.chip.hostp } } ∧
        (t = { s with chip := (((((((List.range 512).foldl (fun x e => x.engSafe e) u).lanesHold).softStopAll).calAbort).raise pgDev 1).jrn 0x0E 0 0x1502 []).chip })) ∧
  (∀ (w : Wr) (s : State),
    Accepted s w pgDev →
    bit w.val.toNat 1 = false →
    s.dev = 8 →
    Gives (.devEnterSafe w) s fun t =>
      t.rd DEV_STATE.SAFE_CAUSE 0 = (s.rd DEV_STATE.SAFE_CAUSE 0 ||| 2) % 2 ^ 3 ∧
      FieldsKept s t [(DEV_STATE.SAFE_CAUSE, 0), (HOST_STAT.COLLIDE_COUNT, 0)] ∧
      t = { s with chip := { s.chip with regs := t.chip.regs, hostp := t.chip.hostp } }) ∧
  (∀ (w : Wr) (s : State),
    Accepted s w pgDev →
    bit w.val.toNat 1 = false →
    s.dev < 4 →
    Gives (.devEnterSafe w) s fun t =>
      Refused s t pgDev 3 ∧
      FieldsKept s t [(ERR_CODE.LAST, pgDev), (ERR_CODE.FIRST, pgDev), (ERR_COUNT.COUNT, pgDev), (HOST_STAT.COLLIDE_COUNT, 0)] ∧
      t = { s with chip := { s.chip with regs := t.chip.regs, hostp := t.chip.hostp } }) ∧
  (∀ (q : Nat) (s : State),
    s.loupe.hot = some q →
    q + 5000000 ≤ s.tb →
    s.dev = 8 →
    Gives (.thermalSafe) s fun t =>
      t.rd DEV_STATE.SAFE_CAUSE 0 = (s.rd DEV_STATE.SAFE_CAUSE 0 ||| 4) % 2 ^ 3 ∧
      FieldsKept s t [(DEV_STATE.SAFE_CAUSE, 0)] ∧
      t = { s with chip := { s.chip with regs := t.chip.regs } }) ∧
  (∀ (s : State),
    s.loupe.hot.all (fun q => decide (s.tb < q + 5000000)) = true ∨ s.dev < 4 →
    Gives (.thermalSafe) s fun t =>
      t = s) ∧
  (∀ (q : Nat) (s : State),
    s.loupe.hot = some q →
    q + 5000000 ≤ s.tb →
    4 ≤ s.dev ∧ s.dev ≠ 8 →
    Gives (.thermalSafe) s fun t =>
      ∃ u : State,
        u.dev = 8 ∧ u.rd DEV_STATE.PREV 0 = s.dev % 2 ^ 4 ∧
        u.rd DEV_STATE.SAFE_CAUSE 0 = (s.rd DEV_STATE.SAFE_CAUSE 0 ||| 4) % 2 ^ 3 ∧
        u.rd DEV_STATE.SAFE_COUNT 0 = min 0xFF (s.rd DEV_STATE.SAFE_COUNT 0 + 1) ∧
        FieldsKept s u [(DEV_STATE.STATE, 0), (DEV_STATE.PREV, 0), (DEV_STATE.SAFE_CAUSE, 0), (DEV_STATE.SAFE_COUNT, 0)] ∧
        u = { s with chip := { s.chip with regs := u.chip.regs } } ∧
        (t = { s with chip := (((((((List.range 512).foldl (fun x e => x.engSafe e) u).lanesHold).softStopAll).calAbort).raise pgDev 1).jrn 0x0E 0 0x1502 []).chip })) ∧
  (∀ (w : Wr) (s : State),
    Accepted s w pgDev →
    bit w.val.toNat 0 = false →
    s.safeExitOk = true →
    s.rd DEV_STATE.PREV 0 = 9 →
    Gives (.devExitSafe w) s fun t =>
      ∃ u : State,
        u.dev = 9 ∧ u.rd DEV_STATE.SAFE_CAUSE 0 = 0 ∧
        (s.fallback = true ∧ s.counting = true → u.rd AF_STAT.FALLBACK 0 = 1 ∧ u.bring = { s.bring with afBack := some (ceilTo 16 (s.epoch + 1)) }) ∧
        (s.fallback = false ∨ s.counting = false → u.rd AF_STAT.FALLBACK 0 = 0 ∧ u.bring = s.bring) ∧
        Raised u pgDev 2 ∧
        FieldsKept s u [(DEV_STATE.STATE, 0), (DEV_STATE.SAFE_CAUSE, 0), (AF_STAT.FALLBACK, 0), (IRQ_STAT.BITS, pgDev), (HOST_STAT.COLLIDE_COUNT, 0)] ∧
        u = { s with chip := { s.chip with regs := u.chip.regs, hostp := u.chip.hostp, lout := u.chip.lout, bring := u.chip.bring } } ∧
        t = { s with chip := ((u.replanAll.jrn 0x0E 0 0x1503 []).devLocked).chip }) ∧
  (∀ (w : Wr) (s : State),
    Accepted s w pgDev →
    bit w.val.toNat 0 = false →
    s.safeExitOk = true →
    s.rd DEV_STATE.PREV 0 ≠ 6 ∧ s.rd DEV_STATE.PREV 0 ≠ 7 ∧ s.rd DEV_STATE.PREV 0 ≠ 9 →
    Gives (.devExitSafe w) s fun t =>
      ∃ u : State,
        u.dev = 4 ∧ u.rd DEV_STATE.SAFE_CAUSE 0 = 0 ∧
        (s.fallback = true ∧ s.counting = true → u.rd AF_STAT.FALLBACK 0 = 1 ∧ u.bring = { s.bring with afBack := some (ceilTo 16 (s.epoch + 1)) }) ∧
        (s.fallback = false ∨ s.counting = false → u.rd AF_STAT.FALLBACK 0 = 0 ∧ u.bring = s.bring) ∧
        Raised u pgDev 2 ∧
        FieldsKept s u [(DEV_STATE.STATE, 0), (DEV_STATE.SAFE_CAUSE, 0), (AF_STAT.FALLBACK, 0), (IRQ_STAT.BITS, pgDev), (HOST_STAT.COLLIDE_COUNT, 0)] ∧
        u = { s with chip := { s.chip with regs := u.chip.regs, hostp := u.chip.hostp, lout := u.chip.lout, bring := u.chip.bring } } ∧
        t = { s with chip := (u.replanAll.devLocked).chip }) ∧
  (∀ (w : Wr) (s : State),
    Accepted s w pgDev →
    bit w.val.toNat 0 = false →
    s.safeExitOk = true →
    s.rd DEV_STATE.PREV 0 = 6 ∨ s.rd DEV_STATE.PREV 0 = 7 →
    Gives (.devExitSafe w) s fun t =>
      ∃ u : State,
        u.dev = 6 ∧ u.rd DEV_STATE.SAFE_CAUSE 0 = 0 ∧
        (s.fallback = true ∧ s.counting = true → u.rd AF_STAT.FALLBACK 0 = 1 ∧ u.bring = { s.bring with afBack := some (ceilTo 16 (s.epoch + 1)) }) ∧
        (s.fallback = false ∨ s.counting = false → u.rd AF_STAT.FALLBACK 0 = 0 ∧ u.bring = s.bring) ∧
        Raised u pgDev 2 ∧
        FieldsKept s u [(DEV_STATE.STATE, 0), (DEV_STATE.SAFE_CAUSE, 0), (AF_STAT.FALLBACK, 0), (IRQ_STAT.BITS, pgDev), (HOST_STAT.COLLIDE_COUNT, 0)] ∧
        u = { s with chip := { s.chip with regs := u.chip.regs, hostp := u.chip.hostp, lout := u.chip.lout, bring := u.chip.bring } } ∧
        t = { s with chip := ((u.replanAll.jrn 0x0E 0 0x1503 []).settleRun).chip }) ∧
  (∀ (w : Wr) (s : State),
    Accepted s w pgDev →
    bit w.val.toNat 0 = false →
    s.safeExitOk = false →
    Gives (.devExitSafe w) s fun t =>
      Refused s t pgDev 2 ∧
      FieldsKept s t [(ERR_CODE.LAST, pgDev), (ERR_CODE.FIRST, pgDev), (ERR_COUNT.COUNT, pgDev), (HOST_STAT.COLLIDE_COUNT, 0)] ∧
      t = { s with chip := { s.chip with regs := t.chip.regs, hostp := t.chip.hostp } })

/-- The commands of ENG_CTRL and the gate of an engine. VERIFY sets BUSY and clears PROG_OK; the end of the scan gives PROG_OK, the reason and its event; an ARM without a cause of refusal arms the engine, its drop, iteration and gate counters cleared, nothing staged, the start fixed at once for SRC TIME only, and brings the device to RUN, and one with causes is refused with the code that worst picks; the first START of an ARMED engine with SRC SOFTWARE fixes the start at its decision point a horizon later, and another does nothing; STOP ends an ARMED engine at once, with cause, event and record, and notes the stop of a running one: from the present tick for step ends, else at the decision point a horizon later unless an earlier one stands; PARK leads from ARMED, STOPPED and FAULT to PARKED with the ball claims released and a record; the first gate of an ARMED engine with SRC GATE fixes its start; in GATED mode a gate is pending with its due tick, or counted when the gate taken last is still to start its step; in mode 0, and in a state that takes none, it is counted as ignored; VERIFY, START, STOP and PARK in another state are refused with code 4, and two commands at once with code 2; in each clause no other engine changes. Where the rules leave room the clauses state the model's readings (log entries 3, 20 and 37) -/
def Obligations.EngineCommands : Prop :=
  (∀ (e : Fin 512) (w : Wr) (s : State),
    Accepted s w (pgEng e.val) →
    bit w.val.toNat 2 = false ∧ bit w.val.toNat 3 = false ∧ bit w.val.toNat 4 = false ∧ bit w.val.toNat 5 = false ∧ bit w.val.toNat 8 = false →
    s.engState e.val = 0 ∨ s.engState e.val = 5 ∨ s.engState e.val = 6 →
    s.on ENG_VERIFY.BUSY e.val = false →
    Gives (.engVerify e w) s fun t =>
      t.rd ENG_VERIFY.BUSY e.val = 1 ∧ t.rd ENG_STAT.PROG_OK e.val = 0 ∧
      t.eng e.val = { s.eng e.val with scanHit := false } ∧
      Others s.eng t.eng e.val ∧
      FieldsKept s t [(ENG_VERIFY.BUSY, e.val), (ENG_STAT.PROG_OK, e.val), (HOST_STAT.COLLIDE_COUNT, 0)] ∧
      t = { s with chip := { s.chip with regs := t.chip.regs, hostp := t.chip.hostp, eng := t.chip.eng } }) ∧
  (∀ (e : Fin 512) (ecc becc : Option (Fin 65536)) (s : State),
    s.on ENG_VERIFY.BUSY e.val = true →
    Gives (.engVerifyDone e ecc becc) s fun t =>
      t.rd ENG_VERIFY.BUSY e.val = 0 ∧
      t.rd ENG_STAT.PROG_OK e.val = flag ((s.scan e.val (ecc.map (·.val)) (becc.map (·.val)) (s.rdA ENG_WIN.SIZE_M1 e.val + 1) 0).1 == 0 && !(s.eng e.val).scanHit) ∧
      t.rd ENG_VERIFY.REASON e.val = (s.scan e.val (ecc.map (·.val)) (becc.map (·.val)) (s.rdA ENG_WIN.SIZE_M1 e.val + 1) 0).1 % 2 ^ 8 ∧
      (t.eng e.val).scanHit = false ∧
      Raised t (pgEng e.val) (16 * (e.val % 2) + 3) ∧
      Others s.eng t.eng e.val ∧
      FieldsKept s t [(ENG_VERIFY.BUSY, e.val), (ENG_STAT.PROG_OK, e.val), (ENG_VERIFY.REASON, e.val), (ENG_VERIFY.FIRST_BAD, e.val), (IRQ_STAT.BITS, pgEng e.val)] ∧
      t = { s with chip := { s.chip with regs := t.chip.regs, hostp := t.chip.hostp, eng := t.chip.eng } }) ∧
  (∀ (e : Fin 512) (w : Wr) (s : State),
    Accepted s w (pgEng e.val) →
    bit w.val.toNat 0 = false ∧ bit w.val.toNat 3 = false ∧ bit w.val.toNat 4 = false ∧ bit w.val.toNat 5 = false ∧ bit w.val.toNat 8 = false →
    s.armCodes e.val = [] →
    Gives (.engArm e w) s fun t =>
      t.engState e.val = 1 ∧ t.rd ENG_STAT.CAUSE e.val = 0 ∧
      (t.eng e.val).armAt = s.epoch ∧ (t.eng e.val).staged = false ∧ (t.eng e.val).redir = none ∧
      ((t.eng e.val).startD = if s.rdA ENG_START.SRC e.val = 1 then some (s.engDPFrom e.val (s.startAt e.val)) else none) ∧
      (t.eng e.val).startA = none ∧ (t.eng e.val).gate1 = none ∧ (t.eng e.val).gate = none ∧
      t.rd ENG_DROP.DROPPED e.val = 0 ∧ t.rd ENG_ITER.ITER e.val = 0 ∧ t.rd ENG_GATE_CNT.COINC e.val = 0 ∧ t.rd ENG_GATE_CNT.IGNORED e.val = 0 ∧
      t.dev = 7 ∧
      Others s.eng t.eng e.val ∧
      t = { s with chip := { s.chip with regs := t.chip.regs, hostp := t.chip.hostp, eng := t.chip.eng, win := t.chip.win, apg := t.chip.apg, ballClaim := t.chip.ballClaim, ballOut := t.chip.ballOut, tab := t.chip.tab } }) ∧
  (∀ (e : Fin 512) (c : Nat) (w : Wr) (s : State),
    Accepted s w (pgEng e.val) →
    bit w.val.toNat 0 = false ∧ bit w.val.toNat 3 = false ∧ bit w.val.toNat 4 = false ∧ bit w.val.toNat 5 = false ∧ bit w.val.toNat 8 = false →
    worst (s.armCodes e.val) = some c →
    Gives (.engArm e w) s fun t =>
      Refused s t (pgEng e.val) (c % 2 ^ 16) ∧
      FieldsKept s t [(ERR_CODE.LAST, (pgEng e.val)), (ERR_CODE.FIRST, (pgEng e.val)), (ERR_COUNT.COUNT, (pgEng e.val)), (HOST_STAT.COLLIDE_COUNT, 0)] ∧
      t = { s with chip := { s.chip with regs := t.chip.regs, hostp := t.chip.hostp } }) ∧
  (∀ (e : Fin 512) (w : Wr) (s : State),
    Accepted s w (pgEng e.val) →
    bit w.val.toNat 0 = false ∧ bit w.val.toNat 2 = false ∧ bit w.val.toNat 4 = false ∧ bit w.val.toNat 5 = false ∧ bit w.val.toNat 8 = false →
    s.engState e.val = 1 ∧ s.rdA ENG_START.SRC e.val = 0 →
    (s.eng e.val).startA = none →
    Gives (.engStart e w) s fun t =>
      (t.eng e.val).startA = some s.epoch ∧
      (t.eng e.val).startD = some (s.engDPFrom e.val (s.epoch + s.h)) ∧ (t.eng e.val).intended = s.engDPFrom e.val (s.epoch + s.h) ∧
      Others s.eng t.eng e.val ∧
      FieldsKept s t [(HOST_STAT.COLLIDE_COUNT, 0)] ∧
      t = { s with chip := { s.chip with regs := t.chip.regs, hostp := t.chip.hostp, eng := t.chip.eng, tab := t.chip.tab } }) ∧
  (∀ (e : Fin 512) (a : Nat) (w : Wr) (s : State),
    Accepted s w (pgEng e.val) →
    bit w.val.toNat 0 = false ∧ bit w.val.toNat 2 = false ∧ bit w.val.toNat 4 = false ∧ bit w.val.toNat 5 = false ∧ bit w.val.toNat 8 = false →
    s.engState e.val = 1 ∧ s.rdA ENG_START.SRC e.val = 0 →
    (s.eng e.val).startA = some a →
    Gives (.engStart e w) s fun t =>
      FieldsKept s t [(HOST_STAT.COLLIDE_COUNT, 0)] ∧
      t = { s with chip := { s.chip with regs := t.chip.regs, hostp := t.chip.hostp } }) ∧
  (∀ (e : Fin 512) (w : Wr) (s : State),
    Accepted s w (pgEng e.val) →
    bit w.val.toNat 0 = false ∧ bit w.val.toNat 2 = false ∧ bit w.val.toNat 3 = false ∧ bit w.val.toNat 4 = false ∧ bit w.val.toNat 8 = false →
    bits w.val.toNat 6 2 ≤ 1 →
    s.engState e.val = 1 →
    Gives (.engStop e w) s fun t =>
      t.engState e.val = 5 ∧ t.rd ENG_STAT.CAUSE e.val = 2 ∧
      (t.eng e.val).startD = none ∧ (t.eng e.val).stopD = none ∧
      Raised t (pgEng e.val) (16 * (e.val % 2) + 1) ∧
      (∃ r ∈ t.recs, r.cls = 2 ∧ r.index = e.val ∧ r.code = 0x0502) ∧
      Others s.eng t.eng e.val ∧
      t = { s with chip := { s.chip with regs := t.chip.regs, hostp := t.chip.hostp, eng := t.chip.eng, win := t.chip.win, apg := t.chip.apg, tab := t.chip.tab, recs := t.chip.recs } }) ∧
  (∀ (e : Fin 512) (w : Wr) (s : State),
    Accepted s w (pgEng e.val) →
    bit w.val.toNat 0 = false ∧ bit w.val.toNat 2 = false ∧ bit w.val.toNat 3 = false ∧ bit w.val.toNat 4 = false ∧ bit w.val.toNat 8 = false →
    bits w.val.toNat 6 2 = 1 →
    s.engState e.val = 2 ∨ s.engState e.val = 3 →
    Gives (.engStop e w) s fun t =>
      t.eng e.val = { s.eng e.val with stopFrom := some ((s.eng e.val).stopFrom.getD s.epoch) } ∧
      Others s.eng t.eng e.val ∧
      FieldsKept s t [(HOST_STAT.COLLIDE_COUNT, 0)] ∧
      t = { s with chip := { s.chip with regs := t.chip.regs, hostp := t.chip.hostp, eng := t.chip.eng } }) ∧
  (∀ (e : Fin 512) (w : Wr) (s : State),
    Accepted s w (pgEng e.val) →
    bit w.val.toNat 0 = false ∧ bit w.val.toNat 2 = false ∧ bit w.val.toNat 3 = false ∧ bit w.val.toNat 4 = false ∧ bit w.val.toNat 8 = false →
    bits w.val.toNat 6 2 = 0 →
    s.engState e.val = 2 ∨ s.engState e.val = 3 →
    Gives (.engStop e w) s fun t =>
      (t.eng e.val = { s.eng e.val with stopD := match (s.eng e.val).stopD with
          | some (d, k) => if d ≤ s.engDPFrom e.val (s.epoch + s.h) then some (d, k) else some (s.engDPFrom e.val (s.epoch + s.h), 2)
          | none => some (s.engDPFrom e.val (s.epoch + s.h), 2) }) ∧
      Others s.eng t.eng e.val ∧
      FieldsKept s t [(HOST_STAT.COLLIDE_COUNT, 0)] ∧
      t = { s with chip := { s.chip with regs := t.chip.regs, hostp := t.chip.hostp, eng := t.chip.eng } }) ∧
  (∀ (e : Fin 512) (w : Wr) (s : State),
    Accepted s w (pgEng e.val) →
    bit w.val.toNat 0 = false ∧ bit w.val.toNat 2 = false ∧ bit w.val.toNat 3 = false ∧ bit w.val.toNat 5 = false ∧ bit w.val.toNat 8 = false →
    s.engState e.val = 1 ∨ s.engState e.val = 5 ∨ s.engState e.val = 6 →
    Gives (.engPark e w) s fun t =>
      t.engState e.val = 0 ∧ t.rd ENG_STAT.CAUSE e.val = s.rd ENG_STAT.CAUSE e.val % 2 ^ 4 ∧
      (∀ n : Fin 16, t.ballClaim n.val ≠ 0 → (t.ballClaim n.val - 1) / 4 ≠ e.val) ∧
      (∃ r ∈ t.recs, r.cls = 2 ∧ r.index = e.val ∧ r.code = 0x050A) ∧
      Others s.eng t.eng e.val ∧
      t = { s with chip := { s.chip with regs := t.chip.regs, hostp := t.chip.hostp, eng := t.chip.eng, win := t.chip.win, apg := t.chip.apg, tab := t.chip.tab, recs := t.chip.recs, ballClaim := t.chip.ballClaim, ballOut := t.chip.ballOut, pin := t.chip.pin, out := t.chip.out } }) ∧
  (∀ (e : Fin 512) (w : Wr) (s : State),
    Accepted s w (pgEng e.val) →
    bit w.val.toNat 0 = false ∧ bit w.val.toNat 2 = false ∧ bit w.val.toNat 3 = false ∧ bit w.val.toNat 4 = false ∧ bit w.val.toNat 5 = false →
    s.rdA ENG_CFG.MODE e.val = 1 →
    s.engState e.val = 2 ∨ s.engState e.val = 3 →
    (s.eng e.val).gate = none ∧ (s.eng e.val).gateTo.all (fun d => decide (d ≤ s.epoch)) = true →
    Gives (.engCtrlGate e w) s fun t =>
      t.eng e.val = { s.eng e.val with gate := some { due := s.epoch + s.h, stamp := s.epoch, unc := s.unc }, gateTo := none } ∧
      Others s.eng t.eng e.val ∧
      FieldsKept s t [(HOST_STAT.COLLIDE_COUNT, 0)] ∧
      t = { s with chip := { s.chip with regs := t.chip.regs, hostp := t.chip.hostp, eng := t.chip.eng } }) ∧
  (∀ (e : Fin 512) (d : Nat) (w : Wr) (s : State),
    Accepted s w (pgEng e.val) →
    bit w.val.toNat 0 = false ∧ bit w.val.toNat 2 = false ∧ bit w.val.toNat 3 = false ∧ bit w.val.toNat 4 = false ∧ bit w.val.toNat 5 = false →
    s.rdA ENG_CFG.MODE e.val = 1 →
    s.engState e.val = 2 ∨ s.engState e.val = 3 →
    (s.eng e.val).gate = none ∧ (s.eng e.val).gateTo = some d ∧ s.epoch < d →
    Gives (.engCtrlGate e w) s fun t =>
      t.rd ENG_GATE_CNT.COINC e.val = min 0xFFFF (s.rd ENG_GATE_CNT.COINC e.val + 1) ∧
      FieldsKept s t [(ENG_GATE_CNT.COINC, e.val), (HOST_STAT.COLLIDE_COUNT, 0)] ∧
      t = { s with chip := { s.chip with regs := t.chip.regs, hostp := t.chip.hostp } }) ∧
  (∀ (e : Fin 512) (w : Wr) (s : State),
    Accepted s w (pgEng e.val) →
    bit w.val.toNat 0 = false ∧ bit w.val.toNat 2 = false ∧ bit w.val.toNat 3 = false ∧ bit w.val.toNat 4 = false ∧ bit w.val.toNat 5 = false →
    s.rdA ENG_CFG.MODE e.val = 0 →
    s.engState e.val ≠ 1 →
    Gives (.engCtrlGate e w) s fun t =>
      t.rd ENG_GATE_CNT.IGNORED e.val = min 0xFFFF (s.rd ENG_GATE_CNT.IGNORED e.val + 1) ∧
      FieldsKept s t [(ENG_GATE_CNT.IGNORED, e.val), (HOST_STAT.COLLIDE_COUNT, 0)] ∧
      t = { s with chip := { s.chip with regs := t.chip.regs, hostp := t.chip.hostp } }) ∧
  (∀ (e : Fin 512) (w : Wr) (s : State),
    Accepted s w (pgEng e.val) →
    bit w.val.toNat 0 = false ∧ bit w.val.toNat 2 = false ∧ bit w.val.toNat 3 = false ∧ bit w.val.toNat 4 = false ∧ bit w.val.toNat 5 = false →
    s.engState e.val = 1 ∧ s.rdA ENG_START.SRC e.val = 2 →
    (s.eng e.val).startD = none →
    Gives (.engCtrlGate e w) s fun t =>
      (t.eng e.val).startD = some (s.engDPFrom e.val (s.epoch + s.h)) ∧ (t.eng e.val).intended = s.engDPFrom e.val (s.epoch + s.h) ∧
      (t.eng e.val).gate1 = some { due := s.epoch + s.h, stamp := s.epoch, unc := s.unc } ∧ (t.eng e.val).gate = (s.eng e.val).gate ∧
      Others s.eng t.eng e.val ∧
      t = { s with chip := { s.chip with regs := t.chip.regs, hostp := t.chip.hostp, eng := t.chip.eng, tab := t.chip.tab } }) ∧
  (∀ (e : Fin 512) (s : State),
    s.arrivals.filter (fun a => a.cls == 2 && a.index == e.val) ≠ [] →
    s.engState e.val = 0 ∨ 4 ≤ s.engState e.val →
    Gives (.gateArrive e) s fun t =>
      t.rd ENG_GATE_CNT.IGNORED e.val = min 0xFFFF (s.rd ENG_GATE_CNT.IGNORED e.val + 1) ∧
      (t.arrivals = s.arrivals.filter fun a => !(a.cls == 2 && a.index == e.val)) ∧
      FieldsKept s t [(ENG_GATE_CNT.IGNORED, e.val)] ∧
      t = { s with chip := { s.chip with regs := t.chip.regs, arrivals := t.chip.arrivals } }) ∧
  (∀ (e : Fin 512) (a : Arrival) (s : State),
    s.arrivals.filter (fun a => a.cls == 2 && a.index == e.val) = [a] →
    s.rdA ENG_CFG.MODE e.val = 1 →
    s.engState e.val = 2 ∨ s.engState e.val = 3 →
    (s.eng e.val).gate = none ∧ (s.eng e.val).gateTo.all (fun d => decide (d ≤ s.epoch)) = true →
    Gives (.gateArrive e) s fun t =>
      (t.eng e.val).gate = some (s.pendOf a.ev (s.engDPFrom e.val) 76) ∧ (t.eng e.val).gateTo = none ∧
      (t.arrivals = s.arrivals.filter fun a => !(a.cls == 2 && a.index == e.val)) ∧
      Others s.eng t.eng e.val ∧
      t = { s with chip := { s.chip with regs := t.chip.regs, hostp := t.chip.hostp, eng := t.chip.eng, arrivals := t.chip.arrivals, recs := t.chip.recs } }) ∧
  (∀ (e : Fin 512) (w : Wr) (s : State),
    Accepted s w (pgEng e.val) →
    bit w.val.toNat 2 = false ∧ bit w.val.toNat 3 = false ∧ bit w.val.toNat 4 = false ∧ bit w.val.toNat 5 = false ∧ bit w.val.toNat 8 = false →
    s.engState e.val ≠ 0 ∧ s.engState e.val ≠ 5 ∧ s.engState e.val ≠ 6 →
    s.on ENG_VERIFY.BUSY e.val = false →
    Gives (.engVerify e w) s fun t =>
      Refused s t (pgEng e.val) 4 ∧
      FieldsKept s t [(ERR_CODE.LAST, (pgEng e.val)), (ERR_CODE.FIRST, (pgEng e.val)), (ERR_COUNT.COUNT, (pgEng e.val)), (HOST_STAT.COLLIDE_COUNT, 0)] ∧
      t = { s with chip := { s.chip with regs := t.chip.regs, hostp := t.chip.hostp } }) ∧
  (∀ (e : Fin 512) (w : Wr) (s : State),
    Accepted s w (pgEng e.val) →
    bit w.val.toNat 2 = false ∧ bit w.val.toNat 3 = false ∧ bit w.val.toNat 4 = false ∧ bit w.val.toNat 5 = false ∧ bit w.val.toNat 8 = false →
    s.engState e.val = 0 ∨ s.engState e.val = 5 ∨ s.engState e.val = 6 →
    s.on ENG_VERIFY.BUSY e.val = true →
    Gives (.engVerify e w) s fun t =>
      Refused s t (pgEng e.val) 0xB ∧
      FieldsKept s t [(ERR_CODE.LAST, (pgEng e.val)), (ERR_CODE.FIRST, (pgEng e.val)), (ERR_COUNT.COUNT, (pgEng e.val)), (HOST_STAT.COLLIDE_COUNT, 0)] ∧
      t = { s with chip := { s.chip with regs := t.chip.regs, hostp := t.chip.hostp } }) ∧
  (∀ (e : Fin 512) (w : Wr) (s : State),
    Accepted s w (pgEng e.val) →
    bit w.val.toNat 0 = false ∧ bit w.val.toNat 2 = false ∧ bit w.val.toNat 4 = false ∧ bit w.val.toNat 5 = false ∧ bit w.val.toNat 8 = false →
    s.engState e.val ≠ 1 ∨ s.rdA ENG_START.SRC e.val ≠ 0 →
    Gives (.engStart e w) s fun t =>
      Refused s t (pgEng e.val) 4 ∧
      FieldsKept s t [(ERR_CODE.LAST, (pgEng e.val)), (ERR_CODE.FIRST, (pgEng e.val)), (ERR_COUNT.COUNT, (pgEng e.val)), (HOST_STAT.COLLIDE_COUNT, 0)] ∧
      t = { s with chip := { s.chip with regs := t.chip.regs, hostp := t.chip.hostp } }) ∧
  (∀ (e : Fin 512) (w : Wr) (s : State),
    Accepted s w (pgEng e.val) →
    bit w.val.toNat 0 = false ∧ bit w.val.toNat 2 = false ∧ bit w.val.toNat 3 = false ∧ bit w.val.toNat 5 = false ∧ bit w.val.toNat 8 = false →
    s.engState e.val ≠ 1 ∧ s.engState e.val ≠ 5 ∧ s.engState e.val ≠ 6 →
    Gives (.engPark e w) s fun t =>
      Refused s t (pgEng e.val) 4 ∧
      FieldsKept s t [(ERR_CODE.LAST, (pgEng e.val)), (ERR_CODE.FIRST, (pgEng e.val)), (ERR_COUNT.COUNT, (pgEng e.val)), (HOST_STAT.COLLIDE_COUNT, 0)] ∧
      t = { s with chip := { s.chip with regs := t.chip.regs, hostp := t.chip.hostp } }) ∧
  (∀ (e : Fin 512) (w : Wr) (s : State),
    Accepted s w (pgEng e.val) →
    bit w.val.toNat 0 = false ∧ bit w.val.toNat 2 = false ∧ bit w.val.toNat 3 = false ∧ bit w.val.toNat 4 = false ∧ bit w.val.toNat 8 = false →
    bits w.val.toNat 6 2 ≤ 1 →
    s.engState e.val ≠ 1 ∧ s.engState e.val ≠ 2 ∧ s.engState e.val ≠ 3 →
    Gives (.engStop e w) s fun t =>
      Refused s t (pgEng e.val) 4 ∧
      FieldsKept s t [(ERR_CODE.LAST, (pgEng e.val)), (ERR_CODE.FIRST, (pgEng e.val)), (ERR_COUNT.COUNT, (pgEng e.val)), (HOST_STAT.COLLIDE_COUNT, 0)] ∧
      t = { s with chip := { s.chip with regs := t.chip.regs, hostp := t.chip.hostp } }) ∧
  (∀ (e : Fin 512) (w : Wr) (s : State),
    Accepted s w (pgEng e.val) →
    bit w.val.toNat 0 = true ∧ bit w.val.toNat 2 = false ∧ bit w.val.toNat 3 = false ∧ bit w.val.toNat 4 = false ∧ bit w.val.toNat 5 = false →
    (s.engState e.val = 0 ∨ s.engState e.val = 5 ∨ s.engState e.val = 6) ∧ s.on ENG_VERIFY.BUSY e.val = false →
    Gives (.engCtrlGate e w) s fun t =>
      Refused s t (pgEng e.val) 2 ∧
      FieldsKept s t [(ERR_CODE.LAST, (pgEng e.val)), (ERR_CODE.FIRST, (pgEng e.val)), (ERR_COUNT.COUNT, (pgEng e.val)), (HOST_STAT.COLLIDE_COUNT, 0)] ∧
      t = { s with chip := { s.chip with regs := t.chip.regs, hostp := t.chip.hostp } })

/-- A run of an engine: fetch, start, boundaries, output, stop, fault. At its start tick a staged ARMED engine presents the position that showPos shows, with RUN_LO and RUN_HI, its event and record, before the decision points already passed are resolved by resolveStart; a decided position is presented at its boundary with its loop counts, as RUNNING, or GATED where it waits for a gate; the fetch of the entry step marks it staged where its reads and its entry meet no fault, keeps the fault with its D_f where they do, and moves the start, told by event and record, where it is complete later than 66 ticks before it; the next entry is written into the Bezel when there is room and its granule is present, one for a tick nearer than 66 being dropped and counted for a lane; without room, or with the entry not known, nothing is written; events leave at their stamp tick; 66 ticks before the stop tick the engine is DRAINING with the entries from the stop tick on withdrawn, and at it the run ends, STOPPED or PARKED with its cause, event and record; 66 ticks before D_f a fault ends the run with code, step, event and record, keeping the entries and positions before D_f; before those ticks nothing happens; in the clauses of the exact state no other engine changes. Where the rules leave room the clauses state the model's readings (log entries 3, 20 and 37) -/
def Obligations.EngineRun : Prop :=
  (∀ (e : Fin 512) (p : Pos) (s : State),
    s.engState e.val = 1 →
    (s.eng e.val).startD = some s.epoch →
    (s.eng e.val).staged = true →
    (s.eng e.val).presented s.epoch = some p →
    Gives (.engStartTick e) s fun t =>
      ∃ u : State,
        (u.engState e.val = (if p.kind = .gateWait then 2 else 3)) ∧
        (u.rd ENG_RUN_LO.RUN e.val = s.epoch % 2 ^ 32 ∧ u.rd ENG_RUN_HI.RUN e.val = s.epoch / 2 ^ 32 % 2 ^ 32) ∧
        Raised u (pgEng e.val) (16 * (e.val % 2) + 0) ∧
        Recorded s u 0x02 e.val 0x0501 ∧
        Others s.eng u.eng e.val ∧
        u = { s with chip := { s.chip with regs := u.chip.regs, hostp := u.chip.hostp, eng := u.chip.eng, recs := u.chip.recs } } ∧
        t = { s with chip := (u.resolveStart e.val).chip }) ∧
  (∀ (e : Fin 512) (s : State),
    s.engState e.val ≠ 1 ∨ (s.eng e.val).startD ≠ some s.epoch ∨ (s.eng e.val).staged = false →
    Gives (.engStartTick e) s fun t =>
      t = s) ∧
  (∀ (e : Fin 512) (old p : Pos) (s : State),
    s.engState e.val = 2 ∨ s.engState e.val = 3 →
    (s.eng e.val).line.head? = some old →
    (s.eng e.val).presented s.epoch = some p →
    p.start = s.epoch ∧ p ≠ old →
    Gives (.engStepBoundary e) s fun t =>
      (t.engState e.val = if p.kind = .gateWait then 2 else 3) ∧
      (∃ p' : Pos, (t.eng e.val).line.head? = some p' ∧ p'.step = p.step ∧ p'.start = p.start ∧ p'.lcnt = p.lcnt) ∧
      (∀ i : Fin 4, t.rd ENG_LCNT.LCNT (4 * e.val + i.val) = nth p.lcnt i.val % 2 ^ 32) ∧
      Others s.eng t.eng e.val ∧
      t = { s with chip := { s.chip with regs := t.chip.regs, eng := t.chip.eng } }) ∧
  (∀ (e : Fin 512) (word data : Ecc) (ln : Fin 4) (s : State),
    s.engState e.val = 1 →
    (s.eng e.val).staged = false →
    (s.fetchItem e.val ((s.eng e.val).line.head?.getD (s.entryPos e.val s.epoch 0).1) word data ln.val).1 = none ∧ (s.entryPos e.val s.epoch 0).2 = none →
    (s.eng e.val).startD.all (fun d => decide (s.epoch + 76 ≤ d)) = true →
    Gives (.engFetch e .entry word data ln) s fun t =>
      t.eng e.val = { s.eng e.val with staged := true } ∧
      Others s.eng t.eng e.val ∧
      t = { s with chip := { s.chip with regs := t.chip.regs, hostp := t.chip.hostp, eng := t.chip.eng, win := t.chip.win, store := t.chip.store } }) ∧
  (∀ (e : Fin 512) (d : Nat) (word data : Ecc) (ln : Fin 4) (s : State),
    s.engState e.val = 1 →
    (s.eng e.val).staged = false →
    (s.fetchItem e.val ((s.eng e.val).line.head?.getD (s.entryPos e.val s.epoch 0).1) word data ln.val).1 = none ∧ (s.entryPos e.val s.epoch 0).2 = none →
    (s.eng e.val).startD = some d ∧ d < s.epoch + 66 →
    Gives (.engFetch e .entry word data ln) s fun t =>
      (t.eng e.val).staged = true ∧ (t.eng e.val).startD = some (s.engDPFrom e.val (s.epoch + 66)) ∧ (t.eng e.val).intended = d ∧
      Raised t (pgEng e.val) (16 * (e.val % 2) + 4) ∧
      (∃ r ∈ t.recs, r.cls = 2 ∧ r.index = e.val ∧ r.code = 0x0505)) ∧
  (∀ (e : Fin 512) (c : Nat) (word data : Ecc) (ln : Fin 4) (s : State),
    s.engState e.val = 1 →
    (s.eng e.val).staged = false ∧ (s.eng e.val).fault = none →
    (s.fetchItem e.val ((s.eng e.val).line.head?.getD (s.entryPos e.val s.epoch 0).1) word data ln.val).1 = some c →
    Gives (.engFetch e .entry word data ln) s fun t =>
      t.eng e.val = { s.eng e.val with fault := some (s.faultTick e.val (s.eng e.val).armAt ((s.eng e.val).startD.getD (s.engDPFrom e.val ((s.eng e.val).armAt + 8 * s.engGran e.val))), c, ((s.eng e.val).line.head?.getD (s.entryPos e.val s.epoch 0).1).step) } ∧
      t.engState e.val = 1 ∧
      Others s.eng t.eng e.val ∧
      t = { s with chip := { s.chip with regs := t.chip.regs, hostp := t.chip.hostp, eng := t.chip.eng, win := t.chip.win, store := t.chip.store } }) ∧
  (∀ (e : Fin 512) (c : Nat) (word data : Ecc) (ln : Fin 4) (s : State),
    s.engState e.val = 1 →
    (s.eng e.val).staged = false ∧ (s.eng e.val).fault = none →
    (s.fetchItem e.val ((s.eng e.val).line.head?.getD (s.entryPos e.val s.epoch 0).1) word data ln.val).1 = none ∧ (s.entryPos e.val s.epoch 0).2 = some c →
    Gives (.engFetch e .entry word data ln) s fun t =>
      t.eng e.val = { s.eng e.val with fault := some (s.faultTick e.val (s.eng e.val).armAt ((s.eng e.val).startD.getD (s.engDPFrom e.val ((s.eng e.val).armAt + 8 * s.engGran e.val))), c, ((s.eng e.val).line.head?.getD (s.entryPos e.val s.epoch 0).1).step) } ∧
      Others s.eng t.eng e.val ∧
      t = { s with chip := { s.chip with regs := t.chip.regs, hostp := t.chip.hostp, eng := t.chip.eng, win := t.chip.win, store := t.chip.store } }) ∧
  (∀ (e : Fin 512) (p : Pos) (s : State),
    1 ≤ s.engState e.val ∧ s.engState e.val ≤ 3 →
    (s.eng e.val).startD ≠ none ∧ (s.eng e.val).staged = true →
    s.bezelRoom e.val (s.eng e.val).next = true →
    (s.eng e.val).endsBy (s.eng e.val).next = false →
    s.writePos e.val (s.eng e.val).next = some p →
    (s.streamNeed e.val p (s.eng e.val).next).all (fun z => s.allPresent (engFacet e.val) z.1 z.2.1 z.2.2) = true →
    s.epoch + 66 ≤ (s.eng e.val).next →
    Gives (.engBezelWrite e) s fun t =>
      ((t.eng e.val).q = ((s.eng e.val).q.filter fun en => decide (s.epoch ≤ en.tick + 2 * s.engPer e.val)) ++ [s.entryAt e.val p (s.eng e.val).next]) ∧
      (t.eng e.val).next = (s.eng e.val).next + s.engPer e.val ∧
      t.rd ENG_POS.STEP e.val = p.step % 2 ^ 16 ∧
      Others s.eng t.eng e.val ∧
      t = { s with chip := { s.chip with regs := t.chip.regs, hostp := t.chip.hostp, eng := t.chip.eng, apg := t.chip.apg } }) ∧
  (∀ (e : Fin 512) (p : Pos) (s : State),
    1 ≤ s.engState e.val ∧ s.engState e.val ≤ 3 →
    (s.eng e.val).startD ≠ none ∧ (s.eng e.val).staged = true →
    s.bezelRoom e.val (s.eng e.val).next = true →
    (s.eng e.val).endsBy (s.eng e.val).next = false →
    s.writePos e.val (s.eng e.val).next = some p →
    (s.streamNeed e.val p (s.eng e.val).next).all (fun z => s.allPresent (engFacet e.val) z.1 z.2.1 z.2.2) = true →
    (s.eng e.val).next < s.epoch + 66 →
    Gives (.engBezelWrite e) s fun t =>
      ((t.eng e.val).q = (s.eng e.val).q.filter fun en => decide (s.epoch ≤ en.tick + 2 * s.engPer e.val)) ∧
      (t.eng e.val).next = (s.eng e.val).next + s.engPer e.val ∧
      (t.rd ENG_DROP.DROPPED e.val = if s.feedSet e.val = [] then s.rd ENG_DROP.DROPPED e.val else min 0xFFFF (s.rd ENG_DROP.DROPPED e.val + 1)) ∧
      t.rd ENG_POS.STEP e.val = p.step % 2 ^ 16 ∧
      Others s.eng t.eng e.val ∧
      t = { s with chip := { s.chip with regs := t.chip.regs, hostp := t.chip.hostp, eng := t.chip.eng, apg := t.chip.apg } }) ∧
  (∀ (e : Fin 512) (s : State),
    s.bezelRoom e.val (s.eng e.val).next = false ∨ (s.eng e.val).endsBy (s.eng e.val).next = true ∨ s.writePos e.val (s.eng e.val).next = none →
    Gives (.engBezelWrite e) s fun t =>
      t = s) ∧
  (∀ (e : Fin 512) (s : State),
    Gives (.engEventRelease e) s fun t =>
      (t.prodq = s.prodq ++ (((s.eng e.val).evs.filter fun v => decide (v.t ≤ s.epoch)) ++ s.markEvent e.val).map fun v => { prod := prodId v.cls e.val, st := { t := v.t, unc := s.unc }, gen := v.gen }) ∧
      (t.eng e.val = { s.eng e.val with evs := (s.eng e.val).evs.filter fun v => decide (s.epoch < v.t) }) ∧
      Others s.eng t.eng e.val ∧
      t = { s with chip := { s.chip with eng := t.chip.eng, prodq := t.chip.prodq } }) ∧
  (∀ (e : Fin 512) (d c : Nat) (s : State),
    (s.eng e.val).stopD = some (d, c) →
    s.engState e.val = 2 ∨ s.engState e.val = 3 →
    d ≤ s.epoch + 66 →
    Gives (.engDrainStart e) s fun t =>
      t.engState e.val = 4 ∧ t.rd ENG_STAT.CAUSE e.val = c % 2 ^ 4 ∧
      ((t.eng e.val).q = (s.eng e.val).q.filter (fun en => decide (en.tick < d)) ∧ (t.eng e.val).next = d ∧ (t.eng e.val).redir = none) ∧
      t.rd ENG_REDIR_STAT.PENDING e.val = 0 ∧
      Others s.eng t.eng e.val ∧
      FieldsKept s t [(ENG_STAT.STATE, e.val), (ENG_STAT.GATE_WAIT, e.val), (ENG_STAT.CAUSE, e.val), (ENG_REDIR_STAT.PENDING, e.val), (ENG_REDIR_STAT.STAGED, e.val)] ∧
      t = { s with chip := { s.chip with regs := t.chip.regs, eng := t.chip.eng, tab := t.chip.tab } }) ∧
  (∀ (e : Fin 512) (s : State),
    (s.eng e.val).stopD.all (fun z => decide (s.epoch + 66 < z.1)) = true →
    Gives (.engDrainStart e) s fun t =>
      t = s) ∧
  (∀ (e : Fin 512) (d c : Nat) (s : State),
    (s.eng e.val).stopD = some (d, c) →
    s.engState e.val = 4 ∧ (s.eng e.val).cut = none →
    d ≤ s.epoch →
    Gives (.engStopTick e) s fun t =>
      (t.engState e.val = (if c = 4 then 0 else 5) ∧ t.rd ENG_STAT.CAUSE e.val = c % 2 ^ 4) ∧
      (t.eng e.val).line = [] ∧ (t.eng e.val).q = [] ∧ (t.eng e.val).stopD = none ∧ (t.eng e.val).startD = none ∧
      Raised t (pgEng e.val) (16 * (e.val % 2) + 1) ∧
      (∃ r ∈ t.recs, r.cls = 2 ∧ r.index = e.val ∧ r.code = 0x0502) ∧
      Others s.eng t.eng e.val ∧
      t = { s with chip := { s.chip with regs := t.chip.regs, hostp := t.chip.hostp, eng := t.chip.eng, win := t.chip.win, apg := t.chip.apg, tab := t.chip.tab, recs := t.chip.recs, ballClaim := t.chip.ballClaim, ballOut := t.chip.ballOut, pin := t.chip.pin, out := t.chip.out } }) ∧
  (∀ (e : Fin 512) (s : State),
    s.engState e.val ≠ 4 ∨ (s.eng e.val).stopD.all (fun z => decide (s.epoch < z.1)) = true →
    Gives (.engStopTick e) s fun t =>
      t = s) ∧
  (∀ (e : Fin 512) (s : State),
    s.engBusy e.val = false ∨ (s.eng e.val).fault.all (fun z => decide (s.epoch + 66 < z.1)) = true →
    Gives (.engFault e) s fun t =>
      t = s) ∧
  (∀ (e : Fin 512) (d c j : Nat) (s : State),
    (s.eng e.val).fault = some (d, c, j) →
    s.engBusy e.val = true →
    d ≤ s.epoch + 66 →
    Gives (.engFault e) s fun t =>
      t.engState e.val = 6 ∧ t.rd ENG_STAT.CAUSE e.val = 6 ∧
      t.rd ENG_FAULT.CODE e.val = c % 2 ^ 8 ∧ t.rd ENG_FAULT.STEP e.val = j % 2 ^ 16 ∧
      ((t.eng e.val).q = (s.eng e.val).q.filter (fun en => decide (en.tick < d)) ∧ (t.eng e.val).line = (s.eng e.val).line.filter (fun p => decide (p.start < d)) ∧ (t.eng e.val).cut = some d) ∧
      Raised t (pgEng e.val) (16 * (e.val % 2) + 2) ∧
      (∃ r ∈ t.recs, r.cls = 2 ∧ r.index = e.val ∧ r.code = 0x0503) ∧
      Others s.eng t.eng e.val ∧
      t = { s with chip := { s.chip with regs := t.chip.regs, hostp := t.chip.hostp, eng := t.chip.eng, apg := t.chip.apg, tab := t.chip.tab, recs := t.chip.recs } })

/-- Branch inputs, resolution, redirects, and the word of a lane. An event at a branch input that FIRE_EN keeps is counted as expired where the engine does not run, and else becomes the pending record of the input, joined with one already pending and then counted in COINC; without FIRE_EN it is discarded; at 76 ticks before a decision point a redirect that is ready is taken, else, with the engine RUNNING, the candidate of lowest number, and the registers of the last branch, the counter and the event show which; a stop for step ends is fixed at the boundary that the branch makes, or at the step's own end; an END successor plans the stop at the end boundary; in ARMED before the start's resolution, in DRAINING, and at a tick 76 before no decision point nothing is resolved; GO requests a redirect, with TARGET and MODE, and is refused with code 2, 3 or 4; CANCEL withdraws it; a redirect whose items are read without fault is staged, and a fault found there is kept with its D_f; CLR clears the branch counters; a lane that carries composed words sends that of its ball tick. Where the rules leave room the clauses state the model's readings (log entries 3, 20 and 37) -/
def Obligations.BranchesAndRedirects : Prop :=
  (∀ (e : Fin 512) (n : Fin 4) (s : State),
    s.rdX ENG_BIN_CFG.FIRE_EN (4 * e.val + n.val) = 1 →
    s.arrivals.filter (fun a => a.cls == 1 && a.index == 4 * e.val + n.val) ≠ [] →
    s.engState e.val = 0 ∨ s.engState e.val = 5 ∨ s.engState e.val = 6 →
    Gives (.branchInputArrive e n) s fun t =>
      t.rd ENG_BIN_LOSS.EXPIRED (4 * e.val + n.val) = min 0xFFFF (s.rd ENG_BIN_LOSS.EXPIRED (4 * e.val + n.val) + 1) ∧
      (t.arrivals = s.arrivals.filter fun a => !(a.cls == 1 && a.index == 4 * e.val + n.val)) ∧
      FieldsKept s t [(ENG_BIN_LOSS.EXPIRED, 4 * e.val + n.val)] ∧
      t = { s with chip := { s.chip with regs := t.chip.regs, arrivals := t.chip.arrivals } }) ∧
  (∀ (e : Fin 512) (n : Fin 4) (p : Pend) (s : State),
    s.rdX ENG_BIN_CFG.FIRE_EN (4 * e.val + n.val) = 1 →
    mergePends ((s.arrivals.filter (fun a => a.cls == 1 && a.index == 4 * e.val + n.val)).map fun a => s.pendOf a.ev (s.engDPFrom e.val) 76) = some p →
    1 ≤ s.engState e.val ∧ s.engState e.val ≤ 4 →
    (s.eng e.val).ins.length = 4 →
    (s.eng e.val).input n.val = none →
    Gives (.branchInputArrive e n) s fun t =>
      (t.eng e.val).input n.val = some p ∧
      (∀ m : Fin 4, m ≠ n → (t.eng e.val).input m.val = (s.eng e.val).input m.val) ∧
      t.rd ENG_BIN_DUE_LO.DUE (4 * e.val + n.val) = p.due % 2 ^ 32 ∧
      (t.rd ENG_BIN_CNT.COINC (4 * e.val + n.val) = (if 1 < (s.arrivals.filter (fun a => a.cls == 1 && a.index == 4 * e.val + n.val)).length then min 0xFFFF (s.rd ENG_BIN_CNT.COINC (4 * e.val + n.val) + 1) else s.rd ENG_BIN_CNT.COINC (4 * e.val + n.val))) ∧
      Others s.eng t.eng e.val ∧
      t = { s with chip := { s.chip with regs := t.chip.regs, hostp := t.chip.hostp, eng := t.chip.eng, arrivals := t.chip.arrivals, recs := t.chip.recs } }) ∧
  (∀ (e : Fin 512) (n : Fin 4) (p : Pend) (q : Pend) (s : State),
    s.rdX ENG_BIN_CFG.FIRE_EN (4 * e.val + n.val) = 1 →
    mergePends ((s.arrivals.filter (fun a => a.cls == 1 && a.index == 4 * e.val + n.val)).map fun a => s.pendOf a.ev (s.engDPFrom e.val) 76) = some p →
    1 ≤ s.engState e.val ∧ s.engState e.val ≤ 4 →
    (s.eng e.val).ins.length = 4 →
    (s.eng e.val).input n.val = some q →
    Gives (.branchInputArrive e n) s fun t =>
      (t.eng e.val).input n.val = some (q.merge p) ∧
      (∀ m : Fin 4, m ≠ n → (t.eng e.val).input m.val = (s.eng e.val).input m.val) ∧
      t.rd ENG_BIN_CNT.COINC (4 * e.val + n.val) = min 0xFFFF (s.rd ENG_BIN_CNT.COINC (4 * e.val + n.val) + 1) ∧
      Others s.eng t.eng e.val ∧
      t = { s with chip := { s.chip with regs := t.chip.regs, hostp := t.chip.hostp, eng := t.chip.eng, arrivals := t.chip.arrivals, recs := t.chip.recs } }) ∧
  (∀ (e : Fin 512) (n : Fin 4) (s : State),
    s.rdX ENG_BIN_CFG.FIRE_EN (4 * e.val + n.val) ≠ 1 →
    Gives (.branchInputArrive e n) s fun t =>
      (t.arrivals = s.arrivals.filter fun a => !(a.cls == 1 && a.index == 4 * e.val + n.val)) ∧
      t = { s with chip := { s.chip with arrivals := t.chip.arrivals } }) ∧
  (∀ (e : Fin 512) (p : Pos) (r : Redir) (s : State),
    s.engDP e.val (s.epoch + 76) = true →
    (s.eng e.val).endsBy (s.epoch + 76) = false →
    (s.eng e.val).line.getLast? = some p →
    p.start < s.epoch + 76 ∧ (s.engState e.val = 2 ∨ s.engState e.val = 3) →
    (s.eng e.val).stopFrom = none →
    p.kind = .gateWait ∨ stBrAtEnd (s.engStep e.val p.step) = false ∨ s.iterEnd e.val p (s.epoch + 76) = true ∨ s.endsAt e.val p ((s.eng e.val).dueInputs (s.epoch + 76)) (s.epoch + 76) = true →
    s.redirReady (s.eng e.val) (s.epoch + 76) = some r →
    Gives (.decisionResolve e) s fun t =>
      t.rd ENG_BR_LAST.VALID e.val = 1 ∧ t.rd ENG_BR_LAST.REDIR e.val = 1 ∧ t.rd ENG_BR_LAST.TARGET e.val = r.target % 2 ^ 16 ∧
      t.rd ENG_REDIR_STAT.PENDING e.val = 0 ∧ (t.eng e.val).redir = none ∧
      t.rd ENG_BR_TICK_LO.TICK e.val = (s.epoch + 76) % 2 ^ 32 ∧
      Raised t (pgEng e.val) (16 * (e.val % 2) + 9) ∧
      Others s.eng t.eng e.val ∧
      t.engState e.val = s.engState e.val) ∧
  (∀ (e : Fin 512) (p : Pos) (k en : Nat) (s : State),
    s.engDP e.val (s.epoch + 76) = true →
    (s.eng e.val).endsBy (s.epoch + 76) = false →
    (s.eng e.val).line.getLast? = some p →
    p.start < s.epoch + 76 ∧ p.kind ≠ .gateWait ∧ s.engState e.val = 3 →
    (s.eng e.val).stopFrom = none →
    (s.eng e.val).restageEnd ≤ s.epoch + 76 →
    stBrAtEnd (s.engStep e.val p.step) = false ∨ s.iterEnd e.val p (s.epoch + 76) = true ∨ s.endsAt e.val p ((s.eng e.val).dueInputs (s.epoch + 76)) (s.epoch + 76) = true →
    s.redirReady (s.eng e.val) (s.epoch + 76) = none →
    s.candidate e.val p ((s.eng e.val).dueInputs (s.epoch + 76)) (s.epoch + 76) = some (k, en) →
    Gives (.decisionResolve e) s fun t =>
      t.rd ENG_BR_LAST.VALID e.val = 1 ∧ t.rd ENG_BR_LAST.REDIR e.val = 0 ∧ t.rd ENG_BR_LAST.ENTRY e.val = k % 4 ∧ t.rd ENG_BR_LAST.INPUT e.val = brInput en ∧
      t.rd ENG_BR_LAST.TARGET e.val = brTarget en ∧
      t.rd ENG_BIN_CNT.TAKEN (4 * e.val + brInput en) = min 0xFFFF (s.rd ENG_BIN_CNT.TAKEN (4 * e.val + brInput en) + 1) ∧
      Raised t (pgEng e.val) (16 * (e.val % 2) + 6) ∧
      Others s.eng t.eng e.val) ∧
  (∀ (e : Fin 512) (p : Pos) (a k en : Nat) (s : State),
    s.engDP e.val (s.epoch + 76) = true →
    (s.eng e.val).endsBy (s.epoch + 76) = false →
    (s.eng e.val).line.getLast? = some p →
    p.start < s.epoch + 76 ∧ p.kind = .play →
    (s.eng e.val).restageEnd ≤ s.epoch + 76 →
    stBrAtEnd (s.engStep e.val p.step) = false ∧ s.engState e.val = 3 →
    (s.eng e.val).stopFrom = some a ∧ a + s.h ≤ s.epoch + 76 ∧ (s.eng e.val).stopD = none →
    s.endsAt e.val p ((s.eng e.val).dueInputs (s.epoch + 76)) (s.epoch + 76) = false →
    s.redirReady (s.eng e.val) (s.epoch + 76) = none →
    s.candidate e.val p ((s.eng e.val).dueInputs (s.epoch + 76)) (s.epoch + 76) = some (k, en) →
    Gives (.decisionResolve e) s fun t =>
      (t.eng e.val).stopD = some (s.epoch + 76, 2) ∧ (t.eng e.val).line = (s.eng e.val).line ∧
      t.rd ENG_BR_LAST.VALID e.val = 1 ∧ t.rd ENG_BR_LAST.TARGET e.val = brTarget en ∧
      t.rd ENG_BIN_CNT.TAKEN (4 * e.val + brInput en) = min 0xFFFF (s.rd ENG_BIN_CNT.TAKEN (4 * e.val + brInput en) + 1) ∧
      Raised t (pgEng e.val) (16 * (e.val % 2) + 6) ∧
      Others s.eng t.eng e.val) ∧
  (∀ (e : Fin 512) (p : Pos) (a : Nat) (s : State),
    s.engDP e.val (s.epoch + 76) = true →
    (s.eng e.val).endsBy (s.epoch + 76) = false →
    (s.eng e.val).line.getLast? = some p →
    p.start < s.epoch + 76 ∧ p.kind ≠ .gateWait →
    s.engState e.val = 2 ∨ s.engState e.val = 3 →
    (s.eng e.val).stopFrom = some a ∧ a + s.h ≤ s.epoch + 76 ∧ (s.eng e.val).stopD = none →
    s.endsAt e.val p ((s.eng e.val).dueInputs (s.epoch + 76)) (s.epoch + 76) = true →
    Gives (.decisionResolve e) s fun t =>
      (t.eng e.val).stopD = some (s.epoch + 76, 2) ∧ (t.eng e.val).line = (s.eng e.val).line ∧ (t.eng e.val).ins = (s.eng e.val).ins ∧
      Others s.eng t.eng e.val ∧
      FieldsKept s t [(ENG_BIN_STAT.DUE, e.val)] ∧
      t = { s with chip := { s.chip with regs := t.chip.regs, eng := t.chip.eng } }) ∧
  (∀ (e : Fin 512) (p : Pos) (j : Nat) (s : State),
    s.engDP e.val (s.epoch + 76) = true →
    (s.eng e.val).endsBy (s.epoch + 76) = false →
    (s.eng e.val).line.getLast? = some p →
    p.start < s.epoch + 76 ∧ p.kind = .play ∧ stOp (s.engStep e.val p.step) ≠ 6 →
    s.engState e.val = 2 ∨ s.engState e.val = 3 →
    (s.eng e.val).stopFrom = none ∧ (s.eng e.val).stopD = none ∧ (s.eng e.val).redir = none →
    s.candidate e.val p ((s.eng e.val).dueInputs (s.epoch + 76)) (s.epoch + 76) = none →
    s.posEnd e.val p = s.epoch + 76 →
    (s.naturalExit e.val p).fault = none ∧ (s.naturalExit e.val p).step = j ∧ stOp (s.engStep e.val j) = 7 →
    Gives (.decisionResolve e) s fun t =>
      (t.eng e.val).stopD = some (s.epoch + 76, 1) ∧ (t.eng e.val).line = (s.eng e.val).line ∧
      ((t.eng e.val).q = (s.eng e.val).q.filter fun en => decide (en.tick < s.epoch + 76)) ∧
      Others s.eng t.eng e.val ∧
      t = { s with chip := { s.chip with regs := t.chip.regs, hostp := t.chip.hostp, eng := t.chip.eng } }) ∧
  (∀ (e : Fin 512) (s : State),
    s.engState e.val ≠ 2 ∧ s.engState e.val ≠ 3 →
    s.engState e.val ≠ 1 ∨ (s.eng e.val).startD ≠ some (s.epoch + 76) →
    Gives (.decisionResolve e) s fun t =>
      t = s) ∧
  (∀ (e : Fin 512) (s : State),
    s.engDP e.val (s.epoch + 76) = false ∧ s.engState e.val ≠ 1 →
    Gives (.decisionResolve e) s fun t =>
      t = s) ∧
  (∀ (e : Fin 512) (w : Wr) (s : State),
    Accepted s w (pgEng e.val) →
    bit w.val.toNat 30 = false ∧ bits w.val.toNat 16 2 ≠ 3 →
    bits w.val.toNat 0 16 ≤ s.rdA ENG_WIN.SIZE_M1 e.val →
    s.engState e.val = 2 ∨ s.engState e.val = 3 →
    s.on ENG_REDIR_STAT.PENDING e.val = false →
    Gives (.engRedirGo e w) s fun t =>
      t.eng e.val = { s.eng e.val with redir := some { target := bits w.val.toNat 0 16, mode := bits w.val.toNat 16 2, a := s.epoch, regs := s.lregs e.val } } ∧
      t.rd ENG_REDIR_STAT.PENDING e.val = 1 ∧ t.rd ENG_REDIR_STAT.STAGED e.val = 0 ∧ t.rd ENG_REDIR.TARGET e.val = bits w.val.toNat 0 16 ∧ t.rd ENG_REDIR.MODE e.val = bits w.val.toNat 16 2 ∧
      Others s.eng t.eng e.val ∧
      FieldsKept s t [(ENG_REDIR.TARGET, e.val), (ENG_REDIR.MODE, e.val), (ENG_REDIR_STAT.PENDING, e.val), (ENG_REDIR_STAT.STAGED, e.val), (HOST_STAT.COLLIDE_COUNT, 0)] ∧
      t = { s with chip := { s.chip with regs := t.chip.regs, hostp := t.chip.hostp, eng := t.chip.eng } }) ∧
  (∀ (e : Fin 512) (w : Wr) (s : State),
    Accepted s w (pgEng e.val) →
    bit w.val.toNat 30 = true ∨ bits w.val.toNat 16 2 = 3 →
    bits w.val.toNat 0 16 ≤ s.rdA ENG_WIN.SIZE_M1 e.val →
    s.engState e.val = 2 ∨ s.engState e.val = 3 →
    s.on ENG_REDIR_STAT.PENDING e.val = false →
    Gives (.engRedirGo e w) s fun t =>
      Refused s t (pgEng e.val) 2 ∧
      FieldsKept s t [(ERR_CODE.LAST, (pgEng e.val)), (ERR_CODE.FIRST, (pgEng e.val)), (ERR_COUNT.COUNT, (pgEng e.val)), (HOST_STAT.COLLIDE_COUNT, 0)] ∧
      t = { s with chip := { s.chip with regs := t.chip.regs, hostp := t.chip.hostp } }) ∧
  (∀ (e : Fin 512) (w : Wr) (s : State),
    Accepted s w (pgEng e.val) →
    bit w.val.toNat 30 = false ∧ bits w.val.toNat 16 2 ≠ 3 →
    s.rdA ENG_WIN.SIZE_M1 e.val < bits w.val.toNat 0 16 →
    s.engState e.val = 2 ∨ s.engState e.val = 3 →
    s.on ENG_REDIR_STAT.PENDING e.val = false →
    Gives (.engRedirGo e w) s fun t =>
      Refused s t (pgEng e.val) 3 ∧
      FieldsKept s t [(ERR_CODE.LAST, (pgEng e.val)), (ERR_CODE.FIRST, (pgEng e.val)), (ERR_COUNT.COUNT, (pgEng e.val)), (HOST_STAT.COLLIDE_COUNT, 0)] ∧
      t = { s with chip := { s.chip with regs := t.chip.regs, hostp := t.chip.hostp } }) ∧
  (∀ (e : Fin 512) (w : Wr) (s : State),
    Accepted s w (pgEng e.val) →
    bit w.val.toNat 30 = false ∧ bits w.val.toNat 16 2 ≠ 3 →
    bits w.val.toNat 0 16 ≤ s.rdA ENG_WIN.SIZE_M1 e.val →
    (s.engState e.val ≠ 2 ∧ s.engState e.val ≠ 3) ∨ s.on ENG_REDIR_STAT.PENDING e.val = true →
    Gives (.engRedirGo e w) s fun t =>
      Refused s t (pgEng e.val) 4 ∧
      FieldsKept s t [(ERR_CODE.LAST, (pgEng e.val)), (ERR_CODE.FIRST, (pgEng e.val)), (ERR_COUNT.COUNT, (pgEng e.val)), (HOST_STAT.COLLIDE_COUNT, 0)] ∧
      t = { s with chip := { s.chip with regs := t.chip.regs, hostp := t.chip.hostp } }) ∧
  (∀ (e : Fin 512) (w : Wr) (s : State),
    Accepted s w (pgEng e.val) →
    bit w.val.toNat 31 = false →
    Gives (.engRedirCancel e w) s fun t =>
      t.eng e.val = { s.eng e.val with redir := none } ∧
      t.rd ENG_REDIR.TARGET e.val = bits w.val.toNat 0 16 ∧ t.rd ENG_REDIR.MODE e.val = bits w.val.toNat 16 2 ∧
      t.rd ENG_REDIR_STAT.PENDING e.val = 0 ∧ t.rd ENG_REDIR_STAT.STAGED e.val = 0 ∧
      Others s.eng t.eng e.val ∧
      FieldsKept s t [(ENG_REDIR.TARGET, e.val), (ENG_REDIR.MODE, e.val), (ENG_REDIR_STAT.PENDING, e.val), (ENG_REDIR_STAT.STAGED, e.val), (HOST_STAT.COLLIDE_COUNT, 0)] ∧
      t = { s with chip := { s.chip with regs := t.chip.regs, hostp := t.chip.hostp, eng := t.chip.eng } }) ∧
  (∀ (e : Fin 512) (p : Pos) (r : Redir) (s : State),
    (s.eng e.val).redir = some r ∧ r.staged = none →
    (s.eng e.val).fault = none →
    (s.eng e.val).presented s.epoch = some p →
    (s.redirFetch e.val p r (fun _ => true) .clean .clean 0).1 = none →
    Gives (.redirectStaged e) s fun t =>
      t.eng e.val = { s.eng e.val with redir := some { r with staged := some s.epoch } } ∧
      t.rd ENG_REDIR_STAT.STAGED e.val = 1 ∧
      Others s.eng t.eng e.val ∧
      t = { s with chip := { s.chip with regs := t.chip.regs, hostp := t.chip.hostp, eng := t.chip.eng, win := t.chip.win, store := t.chip.store } }) ∧
  (∀ (e : Fin 512) (p : Pos) (r : Redir) (c j : Nat) (s : State),
    (s.eng e.val).redir = some r ∧ r.staged = none →
    (s.eng e.val).fault = none →
    (s.eng e.val).presented s.epoch = some p →
    (s.redirFetch e.val p r (fun _ => true) .clean .clean 0).1 = some (c, j) →
    Gives (.redirectStaged e) s fun t =>
      t.eng e.val = { s.eng e.val with fault := some (s.faultTick e.val r.a (s.engDPFrom e.val (r.a + 8 * s.engGran e.val)), c, j) } ∧
      t.rd ENG_REDIR_STAT.STAGED e.val = s.rd ENG_REDIR_STAT.STAGED e.val ∧
      Others s.eng t.eng e.val ∧
      t = { s with chip := { s.chip with regs := t.chip.regs, hostp := t.chip.hostp, eng := t.chip.eng, win := t.chip.win, store := t.chip.store } }) ∧
  (∀ (e : Fin 512) (s : State),
    (s.eng e.val).redir.all (fun r => r.staged.isSome) = true ∨ (s.eng e.val).fault ≠ none ∨ (s.eng e.val).presented s.epoch = none →
    Gives (.redirectStaged e) s fun t =>
      t = s) ∧
  (∀ (e : Fin 512) (w : Wr) (s : State),
    Accepted s w (pgEng e.val) →
    Gives (.engBrClr e w) s fun t =>
      (∀ n : Fin 4, t.rd ENG_BIN_CNT.COINC (4 * e.val + n.val) = 0 ∧ t.rd ENG_BIN_CNT.TAKEN (4 * e.val + n.val) = 0 ∧ t.rd ENG_BIN_LOSS.ECLIPSED (4 * e.val + n.val) = 0 ∧ t.rd ENG_BIN_LOSS.EXPIRED (4 * e.val + n.val) = 0) ∧
      t.rd ENG_BR_LAST.VALID e.val = 0 ∧ t.rd ENG_BR_LAST.REDIR e.val = 0 ∧ t.rd ENG_BR_LAST.TARGET e.val = 0 ∧
      t = { s with chip := { s.chip with regs := t.chip.regs, hostp := t.chip.hostp } }) ∧
  (∀ (l : Fin 256) (s : State),
    s.laneState l.val ≠ 2 →
    s.carries l.val s.epoch = true →
    s.epoch % s.laneWord l.val = 0 →
    Gives (.laneOutputTick l) s fun t =>
      Out.word l.val s.epoch (s.compose l.val s.epoch).word ∈ t.out)

/-- The Fire network carries an event from its producer to its consumer. The oldest produced event enters the queue of its port, or, where 32 wait there, is discarded and counted, the first of a run raised and journalled; the router takes the oldest event of a port named: one whose generation exceeds GEN_LIMIT is discarded, counted, raised and journalled, one without a route is counted, and one routed to a channel goes to the queue of that channel's consumer port and is counted as delivered, or is held by the router while that queue has no room; two software fires of one channel in one cycle make one event and one COINC; a channel that is not enabled, has no consumer or whose domain is not ON counts its event as unrouted; the oldest event of a receiving port reaches its consumer, its stamp rebuilt when it comes from another island, and the oldest held event takes the room; a journal marker becomes a record with the event's stamp; an event for an enabled EVT_OUT is noted with its due tick, a late one told by event, counter and record, and one for a ball not enabled is discarded; a software fire waits for its channel with the present stamp; a write of a route slot or a channel is stored and starts the cycle check, or is refused with code 1; the check ends with the lowest channel on a cycle, or none; CLR clears the counters. Where the rules leave room the clauses state the model's readings (log entries 3, 25 and 37) -/
def Obligations.FireNetwork : Prop :=
  (∀ (ev : Event) (r : List Event) (s : State),
    s.prodq = ev :: r →
    prodPort ev.prod = 0 ∨ (s.port (prodPort ev.prod)).send.length < 32 →
    Gives (.firePortEnqueue) s fun t =>
      t.prodq = r ∧
      t.port (prodPort ev.prod) = { s.port (prodPort ev.prod) with send := (s.port (prodPort ev.prod)).send ++ [ev], dropping := false } ∧
      Others s.port t.port (prodPort ev.prod) ∧
      (prodPort ev.prod ≠ 0 → t.rd FIRE_PORT_STAT.MAX_DEPTH (prodPort ev.prod) = max (s.rd FIRE_PORT_STAT.MAX_DEPTH (prodPort ev.prod)) ((s.port (prodPort ev.prod)).send.length + 1) % 2 ^ 6) ∧
      FieldsKept s t [(FIRE_PORT_STAT.MAX_DEPTH, prodPort ev.prod)] ∧
      t = { s with chip := { s.chip with regs := t.chip.regs, prodq := t.chip.prodq, port := t.chip.port } }) ∧
  (∀ (ev : Event) (r : List Event) (s : State),
    s.prodq = ev :: r →
    prodPort ev.prod ≠ 0 ∧ 32 ≤ (s.port (prodPort ev.prod)).send.length →
    (s.port (prodPort ev.prod)).dropping = false →
    Gives (.firePortEnqueue) s fun t =>
      t.prodq = r ∧
      t.port (prodPort ev.prod) = { s.port (prodPort ev.prod) with dropping := true } ∧
      Others s.port t.port (prodPort ev.prod) ∧
      t.rd FIRE_PORT_STAT.DROP (prodPort ev.prod) = min 0xFFFF (s.rd FIRE_PORT_STAT.DROP (prodPort ev.prod) + 1) ∧
      Raised t pgFire 2 ∧
      Recorded s t 1 (prodPort ev.prod) 0x0801 ∧
      FieldsKept s t [(FIRE_PORT_STAT.DROP, prodPort ev.prod), (IRQ_STAT.BITS, pgFire)] ∧
      t = { s with chip := { s.chip with regs := t.chip.regs, hostp := t.chip.hostp, prodq := t.chip.prodq, port := t.chip.port, recs := t.chip.recs } }) ∧
  (∀ (ev : Event) (r : List Event) (s : State),
    s.prodq = ev :: r →
    prodPort ev.prod ≠ 0 ∧ 32 ≤ (s.port (prodPort ev.prod)).send.length →
    (s.port (prodPort ev.prod)).dropping = true →
    Gives (.firePortEnqueue) s fun t =>
      t.prodq = r ∧
      t.rd FIRE_PORT_STAT.DROP (prodPort ev.prod) = min 0xFFFF (s.rd FIRE_PORT_STAT.DROP (prodPort ev.prod) + 1) ∧
      FieldsKept s t [(FIRE_PORT_STAT.DROP, prodPort ev.prod)] ∧
      t = { s with chip := { s.chip with regs := t.chip.regs, prodq := t.chip.prodq } }) ∧
  (∀ (s : State),
    s.prodq = [] →
    Gives (.firePortEnqueue) s fun t =>
      t = s) ∧
  (∀ (p : Fin 34) (ev : Event) (r : List Event) (c : Nat) (s : State),
    s.swq = [] →
    (s.port p.val).send = ev :: r →
    ev.gen ≤ s.rd FIRE_GCTRL.GEN_LIMIT 0 →
    s.routesOf ev.prod = [c] →
    s.on FIRE_CH.EN c = true ∧ s.rd FIRE_CH.CLASS c ≠ 0 ∧ (s.dom (consDomain (s.rd FIRE_CH.CLASS c) (s.rd FIRE_CH.INDEX c))).st = 0 →
    (s.port (consPort (s.rd FIRE_CH.CLASS c) (s.rd FIRE_CH.INDEX c))).held = [] ∧ (s.port (consPort (s.rd FIRE_CH.CLASS c) (s.rd FIRE_CH.INDEX c))).recv.length < 32 →
    Gives (.fireRouterMatch [p]) s fun t =>
      (∀ q : Nat, (t.port q).send = if q = p.val then r else (s.port q).send) ∧
      (∀ q : Nat, (t.port q).recv = if q = (consPort (s.rd FIRE_CH.CLASS c) (s.rd FIRE_CH.INDEX c)) then (s.port q).recv ++ [{ cls := s.rd FIRE_CH.CLASS c, index := s.rd FIRE_CH.INDEX c, chan := c, ev := ev }] else (s.port q).recv) ∧
      (t.port p.val).send = r ∧
      (∀ q : Fin 34, (t.port q.val).held = (s.port q.val).held) ∧
      t.rd FIRE_CH_CNT.DELIVERED c = (s.rd FIRE_CH_CNT.DELIVERED c + 1) % 2 ^ 24 ∧
      FieldsKept s t [(FIRE_CH_CNT.DELIVERED, c)] ∧
      t = { s with chip := { s.chip with regs := t.chip.regs, port := t.chip.port, swq := t.chip.swq } }) ∧
  (∀ (p : Fin 34) (ev : Event) (r : List Event) (c : Nat) (s : State),
    s.swq = [] →
    (s.port p.val).send = ev :: r →
    ev.gen ≤ s.rd FIRE_GCTRL.GEN_LIMIT 0 →
    s.routesOf ev.prod = [c] →
    s.on FIRE_CH.EN c = true ∧ s.rd FIRE_CH.CLASS c ≠ 0 ∧ (s.dom (consDomain (s.rd FIRE_CH.CLASS c) (s.rd FIRE_CH.INDEX c))).st = 0 →
    (s.port (consPort (s.rd FIRE_CH.CLASS c) (s.rd FIRE_CH.INDEX c))).held ≠ [] ∨ 32 ≤ (s.port (consPort (s.rd FIRE_CH.CLASS c) (s.rd FIRE_CH.INDEX c))).recv.length →
    Gives (.fireRouterMatch [p]) s fun t =>
      (∀ q : Nat, (t.port q).send = if q = p.val then r else (s.port q).send) ∧
      (∀ q : Fin 34, (t.port q.val).held = if q.val = (consPort (s.rd FIRE_CH.CLASS c) (s.rd FIRE_CH.INDEX c)) then (s.port q.val).held ++ [{ cls := s.rd FIRE_CH.CLASS c, index := s.rd FIRE_CH.INDEX c, chan := c, ev := ev }] else (s.port q.val).held) ∧
      (∀ q : Fin 34, (t.port q.val).recv = (s.port q.val).recv) ∧
      (t.port p.val).send = r ∧
      t = { s with chip := { s.chip with port := t.chip.port, swq := t.chip.swq } }) ∧
  (∀ (p : Fin 34) (ev : Event) (r : List Event) (s : State),
    s.swq = [] →
    (s.port p.val).send = ev :: r →
    s.rd FIRE_GCTRL.GEN_LIMIT 0 < ev.gen →
    Gives (.fireRouterMatch [p]) s fun t =>
      t.port p.val = { s.port p.val with send := r } ∧
      Others s.port t.port p.val ∧
      t.rd FIRE_GSTAT.LOOP_COUNT 0 = min 0xFFFF (s.rd FIRE_GSTAT.LOOP_COUNT 0 + 1) ∧
      t.rd FIRE_LOOP_LAST.PROD 0 = ev.prod % 2 ^ 16 ∧ t.rd FIRE_LOOP_LAST.GEN 0 = ev.gen % 2 ^ 4 ∧
      Raised t pgFire 0 ∧
      Recorded s t 1 ev.prod 0x0803 ∧
      FieldsKept s t [(FIRE_GSTAT.LOOP_COUNT, 0), (FIRE_LOOP_LAST.PROD, 0), (FIRE_LOOP_LAST.GEN, 0), (IRQ_STAT.BITS, pgFire)] ∧
      t = { s with chip := { s.chip with regs := t.chip.regs, hostp := t.chip.hostp, port := t.chip.port, swq := t.chip.swq, recs := t.chip.recs } }) ∧
  (∀ (p : Fin 34) (ev : Event) (r : List Event) (s : State),
    s.swq = [] →
    (s.port p.val).send = ev :: r →
    ev.gen ≤ s.rd FIRE_GCTRL.GEN_LIMIT 0 →
    s.routesOf ev.prod = [] →
    Gives (.fireRouterMatch [p]) s fun t =>
      t.port p.val = { s.port p.val with send := r } ∧
      Others s.port t.port p.val ∧
      t.rd FIRE_GSTAT.UNROUTED 0 = min 0xFFFF (s.rd FIRE_GSTAT.UNROUTED 0 + 1) ∧
      FieldsKept s t [(FIRE_GSTAT.UNROUTED, 0)] ∧
      t = { s with chip := { s.chip with regs := t.chip.regs, port := t.chip.port, swq := t.chip.swq } }) ∧
  (∀ (a b : Arrival) (s : State),
    s.swq = [a, b] ∧ a.chan = b.chan →
    s.on FIRE_CH.EN a.chan = true ∧ s.rd FIRE_CH.CLASS a.chan ≠ 0 ∧ (s.dom (consDomain (s.rd FIRE_CH.CLASS a.chan) (s.rd FIRE_CH.INDEX a.chan))).st = 0 →
    (s.port (consPort (s.rd FIRE_CH.CLASS a.chan) (s.rd FIRE_CH.INDEX a.chan))).held = [] ∧ (s.port (consPort (s.rd FIRE_CH.CLASS a.chan) (s.rd FIRE_CH.INDEX a.chan))).recv.length < 32 →
    Gives (.fireRouterMatch []) s fun t =>
      (t.port (consPort (s.rd FIRE_CH.CLASS a.chan) (s.rd FIRE_CH.INDEX a.chan))).recv = (s.port (consPort (s.rd FIRE_CH.CLASS a.chan) (s.rd FIRE_CH.INDEX a.chan))).recv ++ [{ cls := s.rd FIRE_CH.CLASS a.chan, index := s.rd FIRE_CH.INDEX a.chan, chan := a.chan, ev := s.mergeEv a.ev b.ev }] ∧
      Others s.port t.port (consPort (s.rd FIRE_CH.CLASS a.chan) (s.rd FIRE_CH.INDEX a.chan)) ∧
      t.swq = [] ∧
      t.rd FIRE_CH_CNT.COINC a.chan = min 0xFF (s.rd FIRE_CH_CNT.COINC a.chan + 1) ∧
      t.rd FIRE_CH_CNT.DELIVERED a.chan = (s.rd FIRE_CH_CNT.DELIVERED a.chan + 1) % 2 ^ 24 ∧
      FieldsKept s t [(FIRE_CH_CNT.COINC, a.chan), (FIRE_CH_CNT.DELIVERED, a.chan)] ∧
      t = { s with chip := { s.chip with regs := t.chip.regs, port := t.chip.port, swq := t.chip.swq } }) ∧
  (∀ (a : Arrival) (s : State),
    s.swq = [a] →
    s.on FIRE_CH.EN a.chan = false ∨ s.rd FIRE_CH.CLASS a.chan = 0 ∨ (s.dom (consDomain (s.rd FIRE_CH.CLASS a.chan) (s.rd FIRE_CH.INDEX a.chan))).st ≠ 0 →
    Gives (.fireRouterMatch []) s fun t =>
      t.rd FIRE_GSTAT.UNROUTED 0 = min 0xFFFF (s.rd FIRE_GSTAT.UNROUTED 0 + 1) ∧
      t.swq = [] ∧
      FieldsKept s t [(FIRE_GSTAT.UNROUTED, 0)] ∧
      t = { s with chip := { s.chip with regs := t.chip.regs, swq := t.chip.swq } }) ∧
  (∀ (p : Fin 34) (a : Arrival) (ev : Event) (r : List Arrival) (s : State),
    (s.port p.val).recv = a :: r ∧ (s.port p.val).held = [] →
    ev = { a.ev with st := if prodPort a.ev.prod = p.val then a.ev.st else a.ev.st.rebuilt s.epoch } →
    a.cls ≠ 7 ∧ a.cls ≠ 8 →
    Gives (.firePortDeliver p) s fun t =>
      t.arrivals = s.arrivals ++ [{ a with ev := ev }] ∧
      t.port p.val = { s.port p.val with recv := r } ∧
      Others s.port t.port p.val ∧
      t = { s with chip := { s.chip with port := t.chip.port, arrivals := t.chip.arrivals } }) ∧
  (∀ (p : Fin 34) (a b : Arrival) (r k : List Arrival) (s : State),
    (s.port p.val).recv = a :: r ∧ (s.port p.val).held = b :: k →
    r.length < 32 →
    Gives (.firePortDeliver p) s fun t =>
      t.port p.val = { s.port p.val with recv := r ++ [b], held := k } ∧
      Others s.port t.port p.val ∧
      t.rd FIRE_CH_CNT.DELIVERED b.chan = (s.rd FIRE_CH_CNT.DELIVERED b.chan + 1) % 2 ^ 24 ∧
      t = { s with chip := { s.chip with regs := t.chip.regs, hostp := t.chip.hostp, port := t.chip.port, arrivals := t.chip.arrivals, recs := t.chip.recs, evtb := t.chip.evtb } }) ∧
  (∀ (p : Fin 34) (s : State),
    (s.port p.val).recv = [] →
    Gives (.firePortDeliver p) s fun t =>
      t = s) ∧
  (∀ (p : Fin 34) (a : Arrival) (ev : Event) (r : List Arrival) (s : State),
    (s.port p.val).recv = a :: r ∧ (s.port p.val).held = [] →
    ev = { a.ev with st := if prodPort a.ev.prod = p.val then a.ev.st else a.ev.st.rebuilt s.epoch } →
    a.cls = 7 →
    Gives (.firePortDeliver p) s fun t =>
      Recorded s t 1 a.index 0x0804 ∧
      (∃ x, t.recs = s.recs ++ [x] ∧ x.stamp = ev.st.t ∧ x.sub = ev.st.sub ∧ x.unc = ev.st.unc) ∧
      t.port p.val = { s.port p.val with recv := r } ∧
      Others s.port t.port p.val ∧
      t = { s with chip := { s.chip with port := t.chip.port, recs := t.chip.recs } }) ∧
  (∀ (p : Fin 34) (a : Arrival) (ev : Event) (r : List Arrival) (s : State),
    (s.port p.val).recv = a :: r ∧ (s.port p.val).held = [] →
    ev = { a.ev with st := if prodPort a.ev.prod = p.val then a.ev.st else a.ev.st.rebuilt s.epoch } →
    a.cls = 8 ∧ s.on FIRE_OUT_CFG.EN a.index = true →
    s.epoch + 66 ≤ s.due ev ∧ s.epoch ≤ ev.st.t + 0xFFF →
    Gives (.firePortDeliver p) s fun t =>
      (t.evtb a.index).dues = (s.evtb a.index).dues ++ [s.due ev] ∧
      Others s.evtb t.evtb a.index ∧
      t.port p.val = { s.port p.val with recv := r } ∧
      Others s.port t.port p.val ∧
      t.rd H_STAT.MAX_AGE 0 = max (s.rd H_STAT.MAX_AGE 0) (s.epoch - ev.st.t) % 2 ^ 12 ∧
      FieldsKept s t [(H_STAT.MAX_AGE, 0)] ∧
      t = { s with chip := { s.chip with regs := t.chip.regs, port := t.chip.port, evtb := t.chip.evtb } }) ∧
  (∀ (p : Fin 34) (a : Arrival) (ev : Event) (r : List Arrival) (s : State),
    (s.port p.val).recv = a :: r ∧ (s.port p.val).held = [] →
    ev = { a.ev with st := if prodPort a.ev.prod = p.val then a.ev.st else a.ev.st.rebuilt s.epoch } →
    a.cls = 8 ∧ s.on FIRE_OUT_CFG.EN a.index = true →
    s.due ev - 66 < s.epoch →
    Gives (.firePortDeliver p) s fun t =>
      (t.evtb a.index).dues = (s.evtb a.index).dues ++ [max (s.due ev) (s.epoch + 66)] ∧
      Others s.evtb t.evtb a.index ∧
      Raised t pgTb 2 ∧
      Recorded s t 1 a.chan 0x0103 ∧
      t.rd H_STAT.LATE_COUNT 0 = min 0xFFFF (s.rd H_STAT.LATE_COUNT 0 + 1) ∧
      t.port p.val = { s.port p.val with recv := r } ∧
      Others s.port t.port p.val ∧
      t = { s with chip := { s.chip with regs := t.chip.regs, hostp := t.chip.hostp, port := t.chip.port, evtb := t.chip.evtb, recs := t.chip.recs } }) ∧
  (∀ (p : Fin 34) (a : Arrival) (r : List Arrival) (s : State),
    (s.port p.val).recv = a :: r ∧ (s.port p.val).held = [] →
    a.cls = 8 ∧ s.on FIRE_OUT_CFG.EN a.index = false →
    Gives (.firePortDeliver p) s fun t =>
      t.port p.val = { s.port p.val with recv := r } ∧
      Others s.port t.port p.val ∧
      t = { s with chip := { s.chip with port := t.chip.port } }) ∧
  (∀ (w : Wr) (s : State),
    Accepted s w pgFire →
    Gives (.fireSw w) s fun t =>
      (∃ a, t.swq = s.swq ++ [a] ∧ a.chan = bits w.val.toNat 0 10 ∧ a.ev.st = s.now ∧ a.ev.gen = 0) ∧
      FieldsKept s t [(HOST_STAT.COLLIDE_COUNT, 0)] ∧
      t = { s with chip := { s.chip with regs := t.chip.regs, hostp := t.chip.hostp, swq := t.chip.swq } }) ∧
  (∀ (slot : Fin 2) (w : Wr) (s : State),
    Accepted s w pgFire →
    bits w.val.toNat 0 10 + bits w.val.toNat 12 3 ≤ 1023 →
    Gives (.routeSlotWrite slot w) s fun t =>
      t.route (2 * s.rd FIRE_ROUTE_SEL.PROD 0 + slot.val) = w.val.toNat &&& 0x800073FF ∧
      Others s.route t.route (2 * s.rd FIRE_ROUTE_SEL.PROD 0 + slot.val) ∧
      t.rd FIRE_ROUTE_STAT.CHECK_BUSY 0 = 1 ∧
      FieldsKept s t [(FIRE_ROUTE_STAT.CHECK_BUSY, 0), (HOST_STAT.COLLIDE_COUNT, 0)] ∧
      t = { s with chip := { s.chip with regs := t.chip.regs, hostp := t.chip.hostp, route := t.chip.route } }) ∧
  (∀ (slot : Fin 2) (w : Wr) (s : State),
    Accepted s w pgFire →
    1023 < bits w.val.toNat 0 10 + bits w.val.toNat 12 3 →
    Gives (.routeSlotWrite slot w) s fun t =>
      Refused s t pgFire 1 ∧
      FieldsKept s t [(ERR_CODE.LAST, pgFire), (ERR_CODE.FIRST, pgFire), (ERR_COUNT.COUNT, pgFire), (HOST_STAT.COLLIDE_COUNT, 0)] ∧
      t = { s with chip := { s.chip with regs := t.chip.regs, hostp := t.chip.hostp } }) ∧
  (∀ (c : Fin 1024) (w : Wr) (s : State),
    Accepted s w (0x010 + c.val / 128) →
    bits w.val.toNat 0 12 < consRange (bits w.val.toNat 16 4) →
    Gives (.fireChWrite c w) s fun t =>
      t.rd FIRE_CH.EN c.val = bits w.val.toNat 31 1 ∧ t.rd FIRE_CH.CLASS c.val = bits w.val.toNat 16 4 ∧ t.rd FIRE_CH.INDEX c.val = bits w.val.toNat 0 12 ∧
      t.rd FIRE_ROUTE_STAT.CHECK_BUSY 0 = 1 ∧
      FieldsKept s t [(FIRE_CH.EN, c.val), (FIRE_CH.CLASS, c.val), (FIRE_CH.INDEX, c.val), (FIRE_ROUTE_STAT.CHECK_BUSY, 0), (HOST_STAT.COLLIDE_COUNT, 0)] ∧
      t = { s with chip := { s.chip with regs := t.chip.regs, hostp := t.chip.hostp } }) ∧
  (∀ (c : Fin 1024) (w : Wr) (s : State),
    Accepted s w (0x010 + c.val / 128) →
    consRange (bits w.val.toNat 16 4) ≤ bits w.val.toNat 0 12 →
    Gives (.fireChWrite c w) s fun t =>
      Refused s t (0x010 + c.val / 128) 1 ∧
      FieldsKept s t [(ERR_CODE.LAST, 0x010 + c.val / 128), (ERR_CODE.FIRST, 0x010 + c.val / 128), (ERR_COUNT.COUNT, 0x010 + c.val / 128), (HOST_STAT.COLLIDE_COUNT, 0)] ∧
      t = { s with chip := { s.chip with regs := t.chip.regs, hostp := t.chip.hostp } }) ∧
  (∀ (s : State),
    s.on FIRE_ROUTE_STAT.CHECK_BUSY 0 = true →
    (List.range 1024).find? s.onCycle = none →
    Gives (.routeCheckDone) s fun t =>
      t.rd FIRE_ROUTE_STAT.CHECK_BUSY 0 = 0 ∧ t.rd FIRE_ROUTE_STAT.CYCLE 0 = 0 ∧
      FieldsKept s t [(FIRE_ROUTE_STAT.CHECK_BUSY, 0), (FIRE_ROUTE_STAT.CYCLE, 0)] ∧
      t = { s with chip := { s.chip with regs := t.chip.regs } }) ∧
  (∀ (c : Nat) (s : State),
    s.on FIRE_ROUTE_STAT.CHECK_BUSY 0 = true →
    (List.range 1024).find? s.onCycle = some c →
    Gives (.routeCheckDone) s fun t =>
      t.rd FIRE_ROUTE_STAT.CHECK_BUSY 0 = 0 ∧ t.rd FIRE_ROUTE_STAT.CYCLE 0 = 1 ∧ t.rd FIRE_ROUTE_STAT.CYCLE_CH 0 = c % 2 ^ 10 ∧
      (s.on FIRE_ROUTE_STAT.CYCLE 0 = false → Raised t pgFire 1) ∧
      FieldsKept s t [(FIRE_ROUTE_STAT.CHECK_BUSY, 0), (FIRE_ROUTE_STAT.CYCLE, 0), (FIRE_ROUTE_STAT.CYCLE_CH, 0), (IRQ_STAT.BITS, pgFire)] ∧
      t = { s with chip := { s.chip with regs := t.chip.regs, hostp := t.chip.hostp } }) ∧
  (∀ (s : State),
    s.on FIRE_ROUTE_STAT.CHECK_BUSY 0 = false →
    Gives (.routeCheckDone) s fun t =>
      t = s) ∧
  (∀ (w : Wr) (s : State),
    Accepted s w pgFire →
    Gives (.fireGclr w) s fun t =>
      t.rd FIRE_GSTAT.LOOP_COUNT 0 = 0 ∧ t.rd FIRE_GSTAT.UNROUTED 0 = 0 ∧ t.rd FIRE_LOOP_LAST.GEN 0 = 0 ∧ t.rd FIRE_LOOP_LAST.PROD 0 = 0 ∧
      (∀ p : Fin 34, t.rd FIRE_PORT_STAT.DROP p.val = 0 ∧ t.rd FIRE_PORT_STAT.MAX_DEPTH p.val = 0) ∧
      t = { s with chip := { s.chip with regs := t.chip.regs, hostp := t.chip.hostp } })

/-- The sources of the Fire hub, the event balls and far-fire. An edge at an enabled EVT_IN of the polarity asked for makes a stamped event, and one less than 32 sub-ticks after the last that did is counted as a glitch; any other edge does nothing; EN 1 starts a stopped timer at START, refused with code 3 where START has passed, and leaves a running one; EN 0 stops it, after its event where one is due; a timer due produces at its tick with that tick as stamp, moves on by PERIOD, and stops at COUNT; ARM 1 arms a slot, refused with code 3 where AT has passed, ARM 0 disarms it, after its event where AT has come; an armed slot produces at AT, with that stamp, once; a write of FIRE_OUT_CFG is stored, sets the ball to its rest level where EN, MODE or POL changes and leaves it else, and is refused with code 1 for a reserved MODE or WIDTH 0; at an enabled ball the events due start a pulse of WIDTH or toggle it, at one not enabled they are discarded, and a pulse ends at its tick; before the tick of a timer, slot, event or pulse end nothing happens; a far-fire event at FAR_TX or from the chain reaches FAR_RX with its generation one higher and its hops, and a message on a port not used is ignored. Where the rules leave room the clauses state the model's readings (log entries 3, 25 and 37) -/
def Obligations.FireSourcesAndBalls : Prop :=
  (∀ (n : Fin 16) (falling : Bool) (sub : Fin 8) (s : State),
    s.on FIRE_IN_CFG.EN n.val = true →
    s.rd FIRE_IN_CFG.EDGE n.val = 2 ∨ s.rd FIRE_IN_CFG.EDGE n.val = flag falling →
    (s.evtb n.val).last = none →
    Gives (.evtInEdge n falling sub) s fun t =>
      t.prodq = s.prodq ++ [{ prod := prodId 0 n.val, st := { t := s.epoch, sub := sub.val, unc := s.unc }, gen := 0 }] ∧
      t.evtb n.val = { s.evtb n.val with last := some (8 * s.epoch + sub.val) } ∧
      Others s.evtb t.evtb n.val ∧
      t = { s with chip := { s.chip with prodq := t.chip.prodq, evtb := t.chip.evtb } }) ∧
  (∀ (n : Fin 16) (falling : Bool) (sub : Fin 8) (x : Nat) (s : State),
    s.on FIRE_IN_CFG.EN n.val = true →
    s.rd FIRE_IN_CFG.EDGE n.val = 2 ∨ s.rd FIRE_IN_CFG.EDGE n.val = flag falling →
    (s.evtb n.val).last = some x →
    8 * s.epoch + sub.val < x + 32 →
    Gives (.evtInEdge n falling sub) s fun t =>
      t.rd FIRE_IN_CFG.GLITCH n.val = min 0xFFFF (s.rd FIRE_IN_CFG.GLITCH n.val + 1) ∧
      FieldsKept s t [(FIRE_IN_CFG.GLITCH, n.val)] ∧
      t = { s with chip := { s.chip with regs := t.chip.regs } }) ∧
  (∀ (n : Fin 16) (falling : Bool) (sub : Fin 8) (x : Nat) (s : State),
    s.on FIRE_IN_CFG.EN n.val = true →
    s.rd FIRE_IN_CFG.EDGE n.val = 2 ∨ s.rd FIRE_IN_CFG.EDGE n.val = flag falling →
    (s.evtb n.val).last = some x →
    x + 32 ≤ 8 * s.epoch + sub.val →
    Gives (.evtInEdge n falling sub) s fun t =>
      t.prodq = s.prodq ++ [{ prod := prodId 0 n.val, st := { t := s.epoch, sub := sub.val, unc := s.unc }, gen := 0 }] ∧
      t.evtb n.val = { s.evtb n.val with last := some (8 * s.epoch + sub.val) } ∧
      t = { s with chip := { s.chip with prodq := t.chip.prodq, evtb := t.chip.evtb } }) ∧
  (∀ (n : Fin 16) (falling : Bool) (sub : Fin 8) (s : State),
    s.on FIRE_IN_CFG.EN n.val = false ∨ (s.rd FIRE_IN_CFG.EDGE n.val ≠ 2 ∧ s.rd FIRE_IN_CFG.EDGE n.val ≠ flag falling) →
    Gives (.evtInEdge n falling sub) s fun t =>
      t = s) ∧
  (∀ (i : Fin 32) (w : Wr) (s : State),
    Accepted s w pgFire →
    s.on TIMER_CTRL.EN i.val = false →
    s.epoch < s.rd64 TIMER_START_LO.START TIMER_START_HI.START i.val →
    Gives (.timerEnable i w) s fun t =>
      t.timer i.val = s.rd64 TIMER_START_LO.START TIMER_START_HI.START i.val ∧
      t.rd TIMER_CTRL.EN i.val = 1 ∧ t.rd TIMER_DONE.DONE i.val = 0 ∧
      Others s.timer t.timer i.val ∧
      FieldsKept s t [(TIMER_CTRL.EN, i.val), (TIMER_DONE.DONE, i.val), (HOST_STAT.COLLIDE_COUNT, 0)] ∧
      t = { s with chip := { s.chip with regs := t.chip.regs, hostp := t.chip.hostp, timer := t.chip.timer } }) ∧
  (∀ (i : Fin 32) (w : Wr) (s : State),
    Accepted s w pgFire →
    s.on TIMER_CTRL.EN i.val = false →
    s.rd64 TIMER_START_LO.START TIMER_START_HI.START i.val ≤ s.epoch →
    Gives (.timerEnable i w) s fun t =>
      Refused s t pgFire 3 ∧
      FieldsKept s t [(ERR_CODE.LAST, pgFire), (ERR_CODE.FIRST, pgFire), (ERR_COUNT.COUNT, pgFire), (HOST_STAT.COLLIDE_COUNT, 0)] ∧
      t = { s with chip := { s.chip with regs := t.chip.regs, hostp := t.chip.hostp } }) ∧
  (∀ (i : Fin 32) (w : Wr) (s : State),
    Accepted s w pgFire →
    s.epoch < s.timer i.val ∨ s.on TIMER_CTRL.EN i.val = false →
    Gives (.timerDisable i w) s fun t =>
      t.rd TIMER_CTRL.EN i.val = 0 ∧
      FieldsKept s t [(TIMER_CTRL.EN, i.val), (HOST_STAT.COLLIDE_COUNT, 0)] ∧
      t = { s with chip := { s.chip with regs := t.chip.regs, hostp := t.chip.hostp } }) ∧
  (∀ (i : Fin 32) (w : Wr) (s : State),
    Accepted s w pgFire →
    s.on TIMER_CTRL.EN i.val = true →
    Gives (.timerEnable i w) s fun t =>
      FieldsKept s t [(HOST_STAT.COLLIDE_COUNT, 0)] ∧
      t = { s with chip := { s.chip with regs := t.chip.regs, hostp := t.chip.hostp } }) ∧
  (∀ (i : Fin 32) (w : Wr) (s : State),
    Accepted s w pgFire →
    s.on TIMER_CTRL.EN i.val = true ∧ s.timer i.val ≤ s.epoch →
    Gives (.timerDisable i w) s fun t =>
      t.prodq = s.prodq ++ [{ prod := prodId 1 i.val, st := { t := s.timer i.val, sub := 0, unc := s.unc }, gen := 0 }] ∧
      t.rd TIMER_CTRL.EN i.val = 0 ∧ t.rd TIMER_DONE.DONE i.val = (s.rd TIMER_DONE.DONE i.val + 1) % 2 ^ 32 ∧
      FieldsKept s t [(TIMER_DONE.DONE, i.val), (TIMER_CTRL.EN, i.val), (HOST_STAT.COLLIDE_COUNT, 0)] ∧
      t = { s with chip := { s.chip with regs := t.chip.regs, hostp := t.chip.hostp, timer := t.chip.timer, prodq := t.chip.prodq } }) ∧
  (∀ (i : Fin 32) (s : State),
    s.on TIMER_CTRL.EN i.val = true ∧ s.timer i.val ≤ s.epoch →
    Gives (.timerEvent i) s fun t =>
      t.prodq = s.prodq ++ [{ prod := prodId 1 i.val, st := { t := s.timer i.val, sub := 0, unc := s.unc }, gen := 0 }] ∧
      t.timer i.val = s.timer i.val + s.rd TIMER_PERIOD.PERIOD i.val ∧
      Others s.timer t.timer i.val ∧
      t.rd TIMER_DONE.DONE i.val = (s.rd TIMER_DONE.DONE i.val + 1) % 2 ^ 32 ∧
      (t.rd TIMER_CTRL.EN i.val = (if s.rd TIMER_COUNT.COUNT i.val ≠ 0 ∧ (s.rd TIMER_DONE.DONE i.val + 1) % 2 ^ 32 = s.rd TIMER_COUNT.COUNT i.val then 0 else 1)) ∧
      FieldsKept s t [(TIMER_DONE.DONE, i.val), (TIMER_CTRL.EN, i.val)] ∧
      t = { s with chip := { s.chip with regs := t.chip.regs, timer := t.chip.timer, prodq := t.chip.prodq } }) ∧
  (∀ (i : Fin 32) (s : State),
    s.epoch < s.timer i.val ∨ s.on TIMER_CTRL.EN i.val = false →
    Gives (.timerEvent i) s fun t =>
      t = s) ∧
  (∀ (k : Fin 64) (w : Wr) (s : State),
    Accepted s w pgFire →
    s.on SCHED_CTRL.ARM k.val = false →
    s.epoch < s.rd64 SCHED_AT_LO.AT SCHED_AT_HI.AT k.val →
    Gives (.schedArm k w) s fun t =>
      t.rd SCHED_CTRL.ARM k.val = 1 ∧
      (t.rd SCHED_CTRL.FIRED k.val = (if bit w.val.toNat 1 then 0 else s.rd SCHED_CTRL.FIRED k.val)) ∧
      FieldsKept s t [(SCHED_CTRL.ARM, k.val), (SCHED_CTRL.FIRED, k.val), (HOST_STAT.COLLIDE_COUNT, 0)] ∧
      t = { s with chip := { s.chip with regs := t.chip.regs, hostp := t.chip.hostp } }) ∧
  (∀ (k : Fin 64) (w : Wr) (s : State),
    Accepted s w pgFire →
    s.on SCHED_CTRL.ARM k.val = false →
    s.rd64 SCHED_AT_LO.AT SCHED_AT_HI.AT k.val ≤ s.epoch →
    Gives (.schedArm k w) s fun t =>
      Refused s t pgFire 3 ∧
      FieldsKept s t [(ERR_CODE.LAST, pgFire), (ERR_CODE.FIRST, pgFire), (ERR_COUNT.COUNT, pgFire), (HOST_STAT.COLLIDE_COUNT, 0)] ∧
      t = { s with chip := { s.chip with regs := t.chip.regs, hostp := t.chip.hostp } }) ∧
  (∀ (k : Fin 64) (w : Wr) (s : State),
    Accepted s w pgFire →
    s.epoch < s.rd64 SCHED_AT_LO.AT SCHED_AT_HI.AT k.val ∨ s.on SCHED_CTRL.ARM k.val = false →
    Gives (.schedCancel k w) s fun t =>
      t.rd SCHED_CTRL.ARM k.val = 0 ∧
      (t.rd SCHED_CTRL.FIRED k.val = (if bit w.val.toNat 1 then 0 else s.rd SCHED_CTRL.FIRED k.val)) ∧
      FieldsKept s t [(SCHED_CTRL.ARM, k.val), (SCHED_CTRL.FIRED, k.val), (HOST_STAT.COLLIDE_COUNT, 0)] ∧
      t = { s with chip := { s.chip with regs := t.chip.regs, hostp := t.chip.hostp } }) ∧
  (∀ (k : Fin 64) (w : Wr) (s : State),
    Accepted s w pgFire →
    s.on SCHED_CTRL.ARM k.val = true ∧ s.rd64 SCHED_AT_LO.AT SCHED_AT_HI.AT k.val ≤ s.epoch →
    Gives (.schedCancel k w) s fun t =>
      t.prodq = s.prodq ++ [{ prod := prodId 2 k.val, st := { t := s.rd64 SCHED_AT_LO.AT SCHED_AT_HI.AT k.val, sub := 0, unc := s.unc }, gen := 0 }] ∧
      t.rd SCHED_CTRL.ARM k.val = 0 ∧ t.rd SCHED_CTRL.FIRED k.val = 1 ∧
      FieldsKept s t [(SCHED_CTRL.ARM, k.val), (SCHED_CTRL.FIRED, k.val), (HOST_STAT.COLLIDE_COUNT, 0)] ∧
      t = { s with chip := { s.chip with regs := t.chip.regs, hostp := t.chip.hostp, prodq := t.chip.prodq } }) ∧
  (∀ (k : Fin 64) (w : Wr) (s : State),
    Accepted s w pgFire →
    s.on SCHED_CTRL.ARM k.val = true →
    Gives (.schedArm k w) s fun t =>
      (t.rd SCHED_CTRL.FIRED k.val = (if bit w.val.toNat 1 then 0 else s.rd SCHED_CTRL.FIRED k.val)) ∧
      FieldsKept s t [(SCHED_CTRL.FIRED, k.val), (HOST_STAT.COLLIDE_COUNT, 0)] ∧
      t = { s with chip := { s.chip with regs := t.chip.regs, hostp := t.chip.hostp } }) ∧
  (∀ (k : Fin 64) (s : State),
    s.on SCHED_CTRL.ARM k.val = true ∧ s.rd64 SCHED_AT_LO.AT SCHED_AT_HI.AT k.val ≤ s.epoch →
    Gives (.schedFire k) s fun t =>
      t.prodq = s.prodq ++ [{ prod := prodId 2 k.val, st := { t := s.rd64 SCHED_AT_LO.AT SCHED_AT_HI.AT k.val, sub := 0, unc := s.unc }, gen := 0 }] ∧
      t.rd SCHED_CTRL.ARM k.val = 0 ∧ t.rd SCHED_CTRL.FIRED k.val = 1 ∧
      FieldsKept s t [(SCHED_CTRL.ARM, k.val), (SCHED_CTRL.FIRED, k.val)] ∧
      t = { s with chip := { s.chip with regs := t.chip.regs, prodq := t.chip.prodq } }) ∧
  (∀ (k : Fin 64) (s : State),
    s.epoch < s.rd64 SCHED_AT_LO.AT SCHED_AT_HI.AT k.val ∨ s.on SCHED_CTRL.ARM k.val = false →
    Gives (.schedFire k) s fun t =>
      t = s) ∧
  (∀ (n : Fin 16) (w : Wr) (s : State),
    Accepted s w pgFire →
    bits w.val.toNat 16 2 ≤ 1 ∧ bits w.val.toNat 0 8 ≠ 0 →
    Gives (.fireOutCfgWrite n w) s fun t =>
      t.rd FIRE_OUT_CFG.EN n.val = bits w.val.toNat 31 1 ∧ t.rd FIRE_OUT_CFG.MODE n.val = bits w.val.toNat 16 2 ∧ t.rd FIRE_OUT_CFG.POL n.val = bits w.val.toNat 8 1 ∧ t.rd FIRE_OUT_CFG.WIDTH n.val = bits w.val.toNat 0 8 ∧
      ((s.rd FIRE_OUT_CFG.EN n.val ≠ bits w.val.toNat 31 1 ∨ s.rd FIRE_OUT_CFG.MODE n.val ≠ bits w.val.toNat 16 2 ∨ s.rd FIRE_OUT_CFG.POL n.val ≠ bits w.val.toNat 8 1) → t.pin (16 + n.val) = bits w.val.toNat 8 1 ∧ (t.evtb n.val).stop = none) ∧
      ((s.rd FIRE_OUT_CFG.EN n.val = bits w.val.toNat 31 1 ∧ s.rd FIRE_OUT_CFG.MODE n.val = bits w.val.toNat 16 2 ∧ s.rd FIRE_OUT_CFG.POL n.val = bits w.val.toNat 8 1) → t.pin (16 + n.val) = s.pin (16 + n.val) ∧ (t.evtb n.val).stop = (s.evtb n.val).stop) ∧
      (t.evtb n.val).dues = (s.evtb n.val).dues ∧
      Others s.evtb t.evtb n.val ∧ Others s.pin t.pin (16 + n.val) ∧
      FieldsKept s t [(FIRE_OUT_CFG.EN, n.val), (FIRE_OUT_CFG.MODE, n.val), (FIRE_OUT_CFG.POL, n.val), (FIRE_OUT_CFG.WIDTH, n.val), (HOST_STAT.COLLIDE_COUNT, 0)] ∧
      t = { s with chip := { s.chip with regs := t.chip.regs, hostp := t.chip.hostp, evtb := t.chip.evtb, pin := t.chip.pin, out := t.chip.out } }) ∧
  (∀ (n : Fin 16) (w : Wr) (s : State),
    Accepted s w pgFire →
    1 < bits w.val.toNat 16 2 ∨ bits w.val.toNat 0 8 = 0 →
    Gives (.fireOutCfgWrite n w) s fun t =>
      Refused s t pgFire 1 ∧
      FieldsKept s t [(ERR_CODE.LAST, pgFire), (ERR_CODE.FIRST, pgFire), (ERR_COUNT.COUNT, pgFire), (HOST_STAT.COLLIDE_COUNT, 0)] ∧
      t = { s with chip := { s.chip with regs := t.chip.regs, hostp := t.chip.hostp } }) ∧
  (∀ (n : Fin 16) (s : State),
    (s.evtb n.val).dues.any (· ≤ s.epoch) = false →
    Gives (.evtOutAct n) s fun t =>
      t = s) ∧
  (∀ (n : Fin 16) (s : State),
    (s.evtb n.val).dues.any (· ≤ s.epoch) = true →
    s.on FIRE_OUT_CFG.EN n.val = false →
    Gives (.evtOutAct n) s fun t =>
      t.evtb n.val = { s.evtb n.val with dues := (s.evtb n.val).dues.filter (s.epoch < ·) } ∧
      Others s.evtb t.evtb n.val ∧
      t = { s with chip := { s.chip with evtb := t.chip.evtb } }) ∧
  (∀ (n : Fin 16) (s : State),
    (s.evtb n.val).stop.all (fun x => decide (s.epoch < x)) = true →
    Gives (.evtOutPulseEnd n) s fun t =>
      t = s) ∧
  (∀ (n : Fin 16) (s : State),
    (s.evtb n.val).dues.any (· ≤ s.epoch) = true →
    s.on FIRE_OUT_CFG.EN n.val = true ∧ s.rd FIRE_OUT_CFG.MODE n.val = 0 →
    Gives (.evtOutAct n) s fun t =>
      t.pin (16 + n.val) = 1 - s.rd FIRE_OUT_CFG.POL n.val ∧
      t.evtb n.val = { s.evtb n.val with dues := (s.evtb n.val).dues.filter (s.epoch < ·), stop := some (s.epoch + s.rd FIRE_OUT_CFG.WIDTH n.val) } ∧
      (s.pin (16 + n.val) ≠ 1 - s.rd FIRE_OUT_CFG.POL n.val → t.out = s.out ++ [.ball "EVT_OUT" n.val (1 - s.rd FIRE_OUT_CFG.POL n.val == 1) s.epoch]) ∧
      Others s.evtb t.evtb n.val ∧ Others s.pin t.pin (16 + n.val) ∧
      t = { s with chip := { s.chip with evtb := t.chip.evtb, pin := t.chip.pin, out := t.chip.out } }) ∧
  (∀ (n : Fin 16) (s : State),
    (s.evtb n.val).dues.any (· ≤ s.epoch) = true →
    s.on FIRE_OUT_CFG.EN n.val = true ∧ s.rd FIRE_OUT_CFG.MODE n.val ≠ 0 →
    Gives (.evtOutAct n) s fun t =>
      t.pin (16 + n.val) = 1 - s.pin (16 + n.val) ∧
      t.evtb n.val = { s.evtb n.val with dues := (s.evtb n.val).dues.filter (s.epoch < ·) } ∧
      Others s.evtb t.evtb n.val ∧ Others s.pin t.pin (16 + n.val) ∧
      t = { s with chip := { s.chip with evtb := t.chip.evtb, pin := t.chip.pin, out := t.chip.out } }) ∧
  (∀ (n : Fin 16) (x : Nat) (s : State),
    (s.evtb n.val).stop = some x ∧ x ≤ s.epoch →
    Gives (.evtOutPulseEnd n) s fun t =>
      t.pin (16 + n.val) = s.rd FIRE_OUT_CFG.POL n.val ∧
      t.evtb n.val = { s.evtb n.val with stop := none } ∧
      Others s.evtb t.evtb n.val ∧ Others s.pin t.pin (16 + n.val) ∧
      t = { s with chip := { s.chip with evtb := t.chip.evtb, pin := t.chip.pin, out := t.chip.out } }) ∧
  (∀ (k : Fin 64) (a : Arrival) (s : State),
    s.arrivals.filter (fun a => a.cls == 9 && a.index == k.val) = [a] →
    s.farPort false = false ∧ s.farPort true = false →
    Gives (.farTx k) s fun t =>
      (t.prodq = s.prodq ++ [{ prod := prodId 0xD k.val, st := a.ev.st, gen := min 15 (a.ev.gen + 1), hops := some (if s.rd FIRE_FAR_CFG.MODE k.val = 1 then s.rd FIRE_FAR_CFG.HOPS k.val else 0) }]) ∧
      (t.arrivals = s.arrivals.filter fun a => !(a.cls == 9 && a.index == k.val)) ∧
      t = { s with chip := { s.chip with prodq := t.chip.prodq, arrivals := t.chip.arrivals } }) ∧
  (∀ (down : Bool) (ff : Fin 64) (origin : Fin 16) (stamp : Word) (sub : Fin 8) (gen : Fin 16) (unc : Bool) (hops : Fin 16) (x : Nat) (s : State),
    s.portUsed down = true →
    s.farPort (!down) = false →
    s.fullStamp stamp.toNat = some x →
    Gives (.farMessageReceive down ff origin stamp sub gen unc hops) s fun t =>
      (t.prodq = s.prodq ++ [{ prod := prodId 0xD ff.val, st := { t := x, sub := sub.val, unc := unc }, gen := min 15 (gen.val + 1), hops := some (if s.rd FIRE_FAR_CFG.MODE ff.val = 1 then s.rd FIRE_FAR_CFG.HOPS ff.val else hops.val + 1) }]) ∧
      t = { s with chip := { s.chip with prodq := t.chip.prodq } }) ∧
  (∀ (down : Bool) (ff : Fin 64) (origin : Fin 16) (stamp : Word) (sub : Fin 8) (gen : Fin 16) (unc : Bool) (hops : Fin 16) (s : State),
    s.portUsed down = false →
    Gives (.farMessageReceive down ff origin stamp sub gen unc hops) s fun t =>
      t = s)

/-- The registers and the advance input of the pattern generators. A write of APG_IDX loads the entry it names, and is refused with code 1 for a user entry above 63; a write of APG_DATA1 stores the element, or for TAB 1 the low half of DATA0 as the user entry with DATA1 reading 0, advances the index and clears PROG_OK of the owner; it is refused with code 1 when the element is not a legal one and with code 2 while the owner runs; an advance event sets the pending advance with its due tick, or is counted as a coincidence and merged with it; one that comes too late for its decision point is told by event, counter and record. Where the rules leave room the clauses state the model's readings (log entries 3, 25 and 37) -/
def Obligations.PatternGenerators : Prop :=
  (∀ (a : Fin 128) (w : Wr) (s : State),
    Accepted s w (pgApg a.val) →
    bits w.val.toNat 16 1 = 0 ∨ bits w.val.toNat 0 7 ≤ 63 →
    Gives (.apgIdxWrite a w) s fun t =>
      t.rd APG_IDX.TAB a.val = bits w.val.toNat 16 1 ∧ t.rd APG_IDX.INDEX a.val = bits w.val.toNat 0 7 ∧
      t.rd APG_DATA0.D a.val = (s.apgEntry a.val (bits w.val.toNat 16 1) (bits w.val.toNat 0 7)).1 % 2 ^ 32 ∧ t.rd APG_DATA1.D a.val = (s.apgEntry a.val (bits w.val.toNat 16 1) (bits w.val.toNat 0 7)).2 % 2 ^ 32 ∧
      FieldsKept s t [(APG_IDX.TAB, a.val), (APG_IDX.INDEX, a.val), (APG_DATA0.D, a.val), (APG_DATA1.D, a.val), (HOST_STAT.COLLIDE_COUNT, 0)] ∧
      t = { s with chip := { s.chip with regs := t.chip.regs, hostp := t.chip.hostp } }) ∧
  (∀ (a : Fin 128) (w : Wr) (s : State),
    Accepted s w (pgApg a.val) →
    bits w.val.toNat 16 1 = 1 ∧ 63 < bits w.val.toNat 0 7 →
    Gives (.apgIdxWrite a w) s fun t =>
      Refused s t (pgApg a.val) 1 ∧
      FieldsKept s t [(ERR_CODE.LAST, pgApg a.val), (ERR_CODE.FIRST, pgApg a.val), (ERR_COUNT.COUNT, pgApg a.val), (HOST_STAT.COLLIDE_COUNT, 0)] ∧
      t = { s with chip := { s.chip with regs := t.chip.regs, hostp := t.chip.hostp } }) ∧
  (∀ (a : Fin 128) (w : Wr) (s : State),
    Accepted s w (pgApg a.val) →
    s.engBusy (s.apgOwner a.val) = false →
    s.on APG_IDX.TAB a.val = false →
    elemBad (s.rd APG_DATA0.D a.val) w.val.toNat = true →
    Gives (.apgData1Write a w) s fun t =>
      Refused s t (pgApg a.val) 1 ∧
      FieldsKept s t [(ERR_CODE.LAST, pgApg a.val), (ERR_CODE.FIRST, pgApg a.val), (ERR_COUNT.COUNT, pgApg a.val), (HOST_STAT.COLLIDE_COUNT, 0)] ∧
      t = { s with chip := { s.chip with regs := t.chip.regs, hostp := t.chip.hostp } }) ∧
  (∀ (a : Fin 128) (w : Wr) (s : State),
    Accepted s w (pgApg a.val) →
    s.engBusy (s.apgOwner a.val) = false →
    s.on APG_IDX.TAB a.val = false →
    elemBad (s.rd APG_DATA0.D a.val) w.val.toNat = false →
    Gives (.apgData1Write a w) s fun t =>
      t.apgElem a.val (s.rd APG_IDX.INDEX a.val) = (s.rd APG_DATA0.D a.val, w.val.toNat) ∧
      t.rd APG_DATA1.D a.val = w.val.toNat ∧
      (t.apg a.val).user = (s.apg a.val).user ∧
      Others s.apg t.apg a.val ∧
      t.rd APG_IDX.INDEX a.val = (s.rd APG_IDX.INDEX a.val + 1) % 128 ∧
      t.rd ENG_STAT.PROG_OK (s.apgOwner a.val) = 0 ∧
      FieldsKept s t [(APG_DATA1.D, a.val), (APG_IDX.INDEX, a.val), (ENG_STAT.PROG_OK, s.apgOwner a.val), (HOST_STAT.COLLIDE_COUNT, 0)] ∧
      t = { s with chip := { s.chip with regs := t.chip.regs, hostp := t.chip.hostp, apg := t.chip.apg } }) ∧
  (∀ (a : Fin 128) (w : Wr) (s : State),
    Accepted s w (pgApg a.val) →
    s.engBusy (s.apgOwner a.val) = false →
    s.on APG_IDX.TAB a.val = true →
    Gives (.apgData1Write a w) s fun t =>
      Sparse.get 0 (t.apg a.val).user (s.rd APG_IDX.INDEX a.val) = bits (s.rd APG_DATA0.D a.val) 0 16 ∧
      (t.apg a.val).elems = (s.apg a.val).elems ∧
      t.rd APG_DATA1.D a.val = 0 ∧
      Others s.apg t.apg a.val ∧
      t.rd APG_IDX.INDEX a.val = (s.rd APG_IDX.INDEX a.val + 1) % 64 ∧
      t.rd ENG_STAT.PROG_OK (s.apgOwner a.val) = 0 ∧
      FieldsKept s t [(APG_DATA1.D, a.val), (APG_IDX.INDEX, a.val), (ENG_STAT.PROG_OK, s.apgOwner a.val), (HOST_STAT.COLLIDE_COUNT, 0)] ∧
      t = { s with chip := { s.chip with regs := t.chip.regs, hostp := t.chip.hostp, apg := t.chip.apg } }) ∧
  (∀ (a : Fin 128) (w : Wr) (s : State),
    Accepted s w (pgApg a.val) →
    s.engBusy (s.apgOwner a.val) = true →
    s.on APG_IDX.TAB a.val = true ∨ elemBad (s.rd APG_DATA0.D a.val) w.val.toNat = false →
    Gives (.apgData1Write a w) s fun t =>
      Refused s t (pgApg a.val) 2 ∧
      FieldsKept s t [(ERR_CODE.LAST, pgApg a.val), (ERR_CODE.FIRST, pgApg a.val), (ERR_COUNT.COUNT, pgApg a.val), (HOST_STAT.COLLIDE_COUNT, 0)] ∧
      t = { s with chip := { s.chip with regs := t.chip.regs, hostp := t.chip.hostp } }) ∧
  (∀ (a : Fin 128) (x : Arrival) (s : State),
    s.arrivals.filter (fun x => x.cls == 3 && x.index == a.val) = [x] →
    (s.apg a.val).adv = none →
    s.epoch ≤ (s.engDPFrom (s.apgOwner a.val)) (s.due x.ev) - 76 →
    Gives (.apgAdvArrive a) s fun t =>
      (t.apg a.val).adv = some { due := s.due x.ev, stamp := x.ev.st.t, gen := x.ev.gen, unc := x.ev.st.unc } ∧
      t.rd APG_STAT.ADV_PEND a.val = 1 ∧
      (t.arrivals = s.arrivals.filter fun x => !(x.cls == 3 && x.index == a.val)) ∧
      Others s.apg t.apg a.val ∧
      FieldsKept s t [(APG_STAT.ADV_PEND, a.val)] ∧
      t = { s with chip := { s.chip with regs := t.chip.regs, apg := t.chip.apg, arrivals := t.chip.arrivals } }) ∧
  (∀ (a : Fin 128) (x : Arrival) (q : Pend) (s : State),
    s.arrivals.filter (fun x => x.cls == 3 && x.index == a.val) = [x] →
    (s.apg a.val).adv = some q →
    s.epoch ≤ (s.engDPFrom (s.apgOwner a.val)) (s.due x.ev) - 76 →
    Gives (.apgAdvArrive a) s fun t =>
      (t.apg a.val).adv = some (q.merge { due := s.due x.ev, stamp := x.ev.st.t, gen := x.ev.gen, unc := x.ev.st.unc }) ∧
      t.rd APG_ADV_CNT.COINC a.val = min (2 ^ APG_ADV_CNT.COINC.w - 1) (s.rd APG_ADV_CNT.COINC a.val + 1) ∧
      Others s.apg t.apg a.val ∧
      FieldsKept s t [(APG_ADV_CNT.COINC, a.val)] ∧
      t = { s with chip := { s.chip with regs := t.chip.regs, apg := t.chip.apg, arrivals := t.chip.arrivals } }) ∧
  (∀ (a : Fin 128) (x : Arrival) (s : State),
    s.arrivals.filter (fun x => x.cls == 3 && x.index == a.val) = [x] →
    (s.engDPFrom (s.apgOwner a.val)) (s.due x.ev) - 76 < s.epoch →
    (s.engDPFrom (s.apgOwner a.val)) (s.epoch + 76) ≠ 0 →
    Gives (.apgAdvArrive a) s fun t =>
      Raised t pgTb 2 ∧
      Recorded s t 2 (512 + a.val) 0x0103 ∧
      t.rd H_STAT.LATE_COUNT 0 = min 0xFFFF (s.rd H_STAT.LATE_COUNT 0 + 1) ∧
      Others s.apg t.apg a.val ∧
      t = { s with chip := { s.chip with regs := t.chip.regs, hostp := t.chip.hostp, recs := t.chip.recs, apg := t.chip.apg, arrivals := t.chip.arrivals } })

/-- The segment directory, the scrubber and stream windows. A directory command is taken up with BUSY 1 and RESULT 0: WRITE and INVALIDATE change the entry at once and clear PROG_OK of the engines of the Facet that use it and of no other; READ while BUSY is refused with code 5, WRITE of an entry out of range and CHECK of one that is not resident with code 1, INVALIDATE and CHECK of one in use with code 2; a command that completes clears BUSY, gives its result and raises its event: READ shows the entry, CHECK sets CHK_OK by the CRC, or ends with RESULT 3 where a line is uncorrectable, WRITE and INVALIDATE read RESULT 1, and a closing descriptor that waits gets the result; the scrubber goes to the next line and counts a pass at the last: a line found clean is left, a corrected one counted, shown and raised, and rewritten or held when another write came, an uncorrectable one counted, shown, raised and kept; not enabled it does nothing; a window is enabled with its tag initialisation, and refused with code 1 for marks or a place out of range; disabled when its owner does not run, and refused with code 3 when it does; the end of the initialisation marks every slot of it with the tag 0xFFFF and leaves every other byte of memory alone; SEG_CLR clears the counters. Where the rules leave room the clauses state the model's readings (log entries 3 and 38) -/
def Obligations.DirectoryScrubberWindows : Prop :=
  (∀ (f : Fin 32) (w : Wr) (s : State),
    Accepted s w (pgSeg f.val) →
    s.on SEG_DIR_STAT.BUSY f.val = false →
    Gives (.segDirRead f w) s fun t =>
      t.rd SEG_DIR_STAT.BUSY f.val = 1 ∧ t.rd SEG_DIR_STAT.RESULT f.val = 0 ∧
      t.store f.val = { s.store f.val with cmd := some (1, (s.rd SEG_DIR_IDX.INDEX f.val)) } ∧
      Others s.store t.store f.val ∧
      FieldsKept s t [(SEG_DIR_STAT.BUSY, f.val), (SEG_DIR_STAT.RESULT, f.val), (HOST_STAT.COLLIDE_COUNT, 0)] ∧
      t = { s with chip := { s.chip with regs := t.chip.regs, hostp := t.chip.hostp, store := t.chip.store } }) ∧
  (∀ (f : Fin 32) (w : Wr) (s : State),
    Accepted s w (pgSeg f.val) →
    s.on SEG_DIR_STAT.BUSY f.val = false →
    (s.dirRegs f.val).bad = false →
    s.segInUse f.val (s.rd SEG_DIR_IDX.INDEX f.val) = false →
    (s.dirRegs f.val).resident = false ∨ s.meetsWindow f.val (s.dirRegs f.val).base (s.dirRegs f.val).length 32 = false →
    Gives (.segDirWrite f w) s fun t =>
      t.rd SEG_DIR_STAT.BUSY f.val = 1 ∧ t.rd SEG_DIR_STAT.RESULT f.val = 0 ∧
      t.store f.val = { s.store f.val with cmd := some (2, (s.rd SEG_DIR_IDX.INDEX f.val)) } ∧
      Others s.store t.store f.val ∧
      t.dirEnt f.val (s.rd SEG_DIR_IDX.INDEX f.val) = (s.dirRegs f.val).withChk false ∧
      Others s.dir t.dir (f.val * 8192 + (s.rd SEG_DIR_IDX.INDEX f.val)) ∧
      (∀ e : Fin 512, e.val / 16 = f.val → (s.eng e.val).used.contains (s.rd SEG_DIR_IDX.INDEX f.val) = true → t.rd ENG_STAT.PROG_OK e.val = 0) ∧
      (∀ e : Fin 512, e.val / 16 ≠ f.val ∨ (s.eng e.val).used.contains (s.rd SEG_DIR_IDX.INDEX f.val) = false → t.rd ENG_STAT.PROG_OK e.val = s.rd ENG_STAT.PROG_OK e.val) ∧
      t = { s with chip := { s.chip with regs := t.chip.regs, hostp := t.chip.hostp, store := t.chip.store, dir := t.chip.dir } }) ∧
  (∀ (f : Fin 32) (w : Wr) (s : State),
    Accepted s w (pgSeg f.val) →
    s.on SEG_DIR_STAT.BUSY f.val = false →
    (s.dirRegs f.val).bad = true →
    Gives (.segDirWrite f w) s fun t =>
      Refused s t (pgSeg f.val) 1 ∧
      FieldsKept s t [(ERR_CODE.LAST, pgSeg f.val), (ERR_CODE.FIRST, pgSeg f.val), (ERR_COUNT.COUNT, pgSeg f.val), (HOST_STAT.COLLIDE_COUNT, 0)] ∧
      t = { s with chip := { s.chip with regs := t.chip.regs, hostp := t.chip.hostp } }) ∧
  (∀ (f : Fin 32) (w : Wr) (s : State),
    Accepted s w (pgSeg f.val) →
    s.on SEG_DIR_STAT.BUSY f.val = false →
    (s.dirEnt f.val (s.rd SEG_DIR_IDX.INDEX f.val)).resident = true →
    s.segInUse f.val (s.rd SEG_DIR_IDX.INDEX f.val) = false →
    Gives (.segDirCheck f w) s fun t =>
      t.rd SEG_DIR_STAT.BUSY f.val = 1 ∧ t.rd SEG_DIR_STAT.RESULT f.val = 0 ∧
      t.store f.val = { s.store f.val with cmd := some (3, (s.rd SEG_DIR_IDX.INDEX f.val)) } ∧
      Others s.store t.store f.val ∧
      FieldsKept s t [(SEG_DIR_STAT.BUSY, f.val), (SEG_DIR_STAT.RESULT, f.val), (HOST_STAT.COLLIDE_COUNT, 0)] ∧
      t = { s with chip := { s.chip with regs := t.chip.regs, hostp := t.chip.hostp, store := t.chip.store } }) ∧
  (∀ (f : Fin 32) (w : Wr) (s : State),
    Accepted s w (pgSeg f.val) →
    s.on SEG_DIR_STAT.BUSY f.val = false →
    s.segInUse f.val (s.rd SEG_DIR_IDX.INDEX f.val) = false →
    Gives (.segDirInvalidate f w) s fun t =>
      t.rd SEG_DIR_STAT.BUSY f.val = 1 ∧ t.rd SEG_DIR_STAT.RESULT f.val = 0 ∧
      t.store f.val = { s.store f.val with cmd := some (4, (s.rd SEG_DIR_IDX.INDEX f.val)) } ∧
      Others s.store t.store f.val ∧
      t.dirEnt f.val (s.rd SEG_DIR_IDX.INDEX f.val) = (s.dirEnt f.val (s.rd SEG_DIR_IDX.INDEX f.val)).invalidated ∧
      Others s.dir t.dir (f.val * 8192 + (s.rd SEG_DIR_IDX.INDEX f.val)) ∧
      (∀ e : Fin 512, e.val / 16 = f.val → (s.eng e.val).used.contains (s.rd SEG_DIR_IDX.INDEX f.val) = true → t.rd ENG_STAT.PROG_OK e.val = 0) ∧
      (∀ e : Fin 512, e.val / 16 ≠ f.val ∨ (s.eng e.val).used.contains (s.rd SEG_DIR_IDX.INDEX f.val) = false → t.rd ENG_STAT.PROG_OK e.val = s.rd ENG_STAT.PROG_OK e.val) ∧
      t = { s with chip := { s.chip with regs := t.chip.regs, hostp := t.chip.hostp, store := t.chip.store, dir := t.chip.dir } }) ∧
  (∀ (f : Fin 32) (w : Wr) (s : State),
    Accepted s w (pgSeg f.val) →
    s.on SEG_DIR_STAT.BUSY f.val = false →
    s.segInUse f.val (s.rd SEG_DIR_IDX.INDEX f.val) = true →
    Gives (.segDirInvalidate f w) s fun t =>
      Refused s t (pgSeg f.val) 2 ∧
      FieldsKept s t [(ERR_CODE.LAST, pgSeg f.val), (ERR_CODE.FIRST, pgSeg f.val), (ERR_COUNT.COUNT, pgSeg f.val), (HOST_STAT.COLLIDE_COUNT, 0)] ∧
      t = { s with chip := { s.chip with regs := t.chip.regs, hostp := t.chip.hostp } }) ∧
  (∀ (f : Fin 32) (w : Wr) (s : State),
    Accepted s w (pgSeg f.val) →
    s.on SEG_DIR_STAT.BUSY f.val = true →
    Gives (.segDirRead f w) s fun t =>
      Refused s t (pgSeg f.val) 5 ∧
      FieldsKept s t [(ERR_CODE.LAST, pgSeg f.val), (ERR_CODE.FIRST, pgSeg f.val), (ERR_COUNT.COUNT, pgSeg f.val), (HOST_STAT.COLLIDE_COUNT, 0)] ∧
      t = { s with chip := { s.chip with regs := t.chip.regs, hostp := t.chip.hostp } }) ∧
  (∀ (f : Fin 32) (w : Wr) (s : State),
    Accepted s w (pgSeg f.val) →
    s.on SEG_DIR_STAT.BUSY f.val = false →
    (s.dirEnt f.val (s.rd SEG_DIR_IDX.INDEX f.val)).resident = false →
    s.segInUse f.val (s.rd SEG_DIR_IDX.INDEX f.val) = false →
    Gives (.segDirCheck f w) s fun t =>
      Refused s t (pgSeg f.val) 1 ∧
      FieldsKept s t [(ERR_CODE.LAST, pgSeg f.val), (ERR_CODE.FIRST, pgSeg f.val), (ERR_COUNT.COUNT, pgSeg f.val), (HOST_STAT.COLLIDE_COUNT, 0)] ∧
      t = { s with chip := { s.chip with regs := t.chip.regs, hostp := t.chip.hostp } }) ∧
  (∀ (f : Fin 32) (w : Wr) (s : State),
    Accepted s w (pgSeg f.val) →
    s.on SEG_DIR_STAT.BUSY f.val = false →
    (s.dirEnt f.val (s.rd SEG_DIR_IDX.INDEX f.val)).resident = true →
    s.segInUse f.val (s.rd SEG_DIR_IDX.INDEX f.val) = true →
    Gives (.segDirCheck f w) s fun t =>
      Refused s t (pgSeg f.val) 2 ∧
      FieldsKept s t [(ERR_CODE.LAST, pgSeg f.val), (ERR_CODE.FIRST, pgSeg f.val), (ERR_COUNT.COUNT, pgSeg f.val), (HOST_STAT.COLLIDE_COUNT, 0)] ∧
      t = { s with chip := { s.chip with regs := t.chip.regs, hostp := t.chip.hostp } }) ∧
  (∀ (f : Fin 32) (errs : List (Nat × Ecc)) (k n : Nat) (s : State),
    (s.store f.val).cmd = some (k, n) ∧ k ≠ 1 ∧ k ≠ 3 →
    Gives (.segDirDone f errs) s fun t =>
      t.rd SEG_DIR_STAT.BUSY f.val = 0 ∧ t.rd SEG_DIR_STAT.RESULT f.val = 1 ∧
      (t.store f.val).cmd = none ∧ (t.store f.val).closer = none ∧
      (∀ c : Fin 48, (s.store f.val).closer = some c.val → (t.rflc c.val).closed = some 1) ∧
      Others s.store t.store f.val ∧
      Raised t (pgSeg f.val) 0 ∧
      FieldsKept s t [(SEG_DIR_STAT.BUSY, f.val), (SEG_DIR_STAT.RESULT, f.val), (IRQ_STAT.BITS, pgSeg f.val)] ∧
      t = { s with chip := { s.chip with regs := t.chip.regs, hostp := t.chip.hostp, store := t.chip.store, rflc := t.chip.rflc } }) ∧
  (∀ (f : Fin 32) (errs : List (Nat × Ecc)) (n : Nat) (s : State),
    (s.store f.val).cmd = some (1, n) →
    (s.store f.val).closer = none →
    Gives (.segDirDone f errs) s fun t =>
      t.rd SEG_DIR_W0.W f.val = (s.dirEnt f.val n).w0 % 2 ^ 32 ∧ t.rd SEG_DIR_W1.W f.val = (s.dirEnt f.val n).w1 % 2 ^ 32 ∧ t.rd SEG_DIR_W2.W f.val = (s.dirEnt f.val n).w2 % 2 ^ 32 ∧
      t.rd SEG_DIR_STAT.BUSY f.val = 0 ∧ t.rd SEG_DIR_STAT.RESULT f.val = 1 ∧
      (t.store f.val).cmd = none ∧
      Others s.store t.store f.val ∧
      Raised t (pgSeg f.val) 0 ∧
      FieldsKept s t [(SEG_DIR_W0.W, f.val), (SEG_DIR_W1.W, f.val), (SEG_DIR_W2.W, f.val), (SEG_DIR_STAT.BUSY, f.val), (SEG_DIR_STAT.RESULT, f.val), (IRQ_STAT.BITS, pgSeg f.val)] ∧
      t = { s with chip := { s.chip with regs := t.chip.regs, hostp := t.chip.hostp, store := t.chip.store } }) ∧
  (∀ (f : Fin 32) (errs : List (Nat × Ecc)) (n : Nat) (s : State),
    (s.store f.val).cmd = some (3, n) →
    (s.store f.val).closer = none →
    (s.linesEcc f.val (2 * (s.dirEnt f.val n).base) (2 * ((s.dirEnt f.val n).base + (s.dirEnt f.val n).length)) errs).any (fun x => x.2 == .uncorrectable) = false →
    Gives (.segDirDone f errs) s fun t =>
      t.rd SEG_DIR_CRC.CRC f.val = s.segCrc f.val (s.dirEnt f.val n) % 2 ^ 32 ∧
      (t.rd SEG_DIR_STAT.BUSY f.val = 0 ∧ t.rd SEG_DIR_STAT.RESULT f.val = (if s.segCrc f.val (s.dirEnt f.val n) = (s.dirEnt f.val n).w0 then 1 else 2)) ∧
      t.dirEnt f.val n = (s.dirEnt f.val n).withChk (s.segCrc f.val (s.dirEnt f.val n) == (s.dirEnt f.val n).w0) ∧
      Others s.dir t.dir (f.val * 8192 + n) ∧
      (t.store f.val).cmd = none ∧
      Raised t (pgSeg f.val) 0 ∧
      t = { s with chip := { s.chip with regs := t.chip.regs, hostp := t.chip.hostp, store := t.chip.store, dir := t.chip.dir } }) ∧
  (∀ (f : Fin 32) (errs : List (Nat × Ecc)) (n : Nat) (s : State),
    (s.store f.val).cmd = some (3, n) →
    (s.store f.val).closer = none →
    (s.linesEcc f.val (2 * (s.dirEnt f.val n).base) (2 * ((s.dirEnt f.val n).base + (s.dirEnt f.val n).length)) errs).any (fun x => x.2 == .uncorrectable) = true →
    Gives (.segDirDone f errs) s fun t =>
      t.rd SEG_DIR_STAT.BUSY f.val = 0 ∧ t.rd SEG_DIR_STAT.RESULT f.val = 3 ∧
      t.dirEnt f.val n = (s.dirEnt f.val n).withChk false ∧
      Others s.dir t.dir (f.val * 8192 + n) ∧
      Raised t (pgSeg f.val) 0 ∧ Raised t (pgSeg f.val) 2 ∧
      t = { s with chip := { s.chip with regs := t.chip.regs, hostp := t.chip.hostp, store := t.chip.store, dir := t.chip.dir } }) ∧
  (∀ (f : Fin 32) (errs : List (Nat × Ecc)) (s : State),
    (s.store f.val).cmd = none →
    Gives (.segDirDone f errs) s fun t =>
      t = s) ∧
  (∀ (f : Fin 32) (ecc : Ecc) (other : Bool) (s : State),
    s.on SEG_SCRUB.EN f.val = true ∧ s.domOn f.val = true →
    s.lineEcc f.val (s.store f.val).scrub ecc = .clean →
    Gives (.scrubStep f ecc other) s fun t =>
      t.store f.val = { s.store f.val with scrub := ((s.store f.val).scrub + 1) % 262144, hold := none } ∧
      (t.rd SEG_SCRUB_STAT.PASSES f.val = (if (s.store f.val).scrub = 262143 then (s.rd SEG_SCRUB_STAT.PASSES f.val + 1) % 2 ^ SEG_SCRUB_STAT.PASSES.w else s.rd SEG_SCRUB_STAT.PASSES f.val)) ∧
      Others s.store t.store f.val ∧
      FieldsKept s t [(SEG_SCRUB_STAT.PASSES, f.val)] ∧
      t = { s with chip := { s.chip with regs := t.chip.regs, store := t.chip.store } }) ∧
  (∀ (f : Fin 32) (ecc : Ecc) (s : State),
    s.on SEG_SCRUB.EN f.val = true ∧ s.domOn f.val = true →
    s.lineEcc f.val (s.store f.val).scrub ecc = .corrected →
    Gives (.scrubStep f ecc false) s fun t =>
      (t.store f.val = { s.store f.val with scrub := ((s.store f.val).scrub + 1) % 262144, hold := none, errs := (s.store f.val).errs.filter fun y => y.1 != (s.store f.val).scrub }) ∧
      (t.rd SEG_SCRUB_STAT.PASSES f.val = (if (s.store f.val).scrub = 262143 then (s.rd SEG_SCRUB_STAT.PASSES f.val + 1) % 2 ^ SEG_SCRUB_STAT.PASSES.w else s.rd SEG_SCRUB_STAT.PASSES f.val)) ∧
      t.rd SEG_ECC_CNT.CORR f.val = min (2 ^ SEG_ECC_CNT.CORR.w - 1) (s.rd SEG_ECC_CNT.CORR f.val + 1) ∧
      t.rd SEG_ECC_ADDR.VALID f.val = 1 ∧ t.rd SEG_ECC_ADDR.UNC f.val = 0 ∧ t.rd SEG_ECC_ADDR.LINE f.val = (s.store f.val).scrub % 2 ^ SEG_ECC_ADDR.LINE.w ∧
      Raised t (pgSeg f.val) 1 ∧
      Others s.store t.store f.val ∧
      FieldsKept s t [(SEG_SCRUB_STAT.PASSES, f.val), (SEG_ECC_CNT.CORR, f.val), (SEG_ECC_ADDR.VALID, f.val), (SEG_ECC_ADDR.UNC, f.val), (SEG_ECC_ADDR.LINE, f.val), (IRQ_STAT.BITS, pgSeg f.val)] ∧
      t = { s with chip := { s.chip with regs := t.chip.regs, hostp := t.chip.hostp, store := t.chip.store } }) ∧
  (∀ (f : Fin 32) (ecc : Ecc) (s : State),
    s.on SEG_SCRUB.EN f.val = true ∧ s.domOn f.val = true →
    s.lineEcc f.val (s.store f.val).scrub ecc = .corrected →
    Gives (.scrubStep f ecc true) s fun t =>
      (t.store f.val = { s.store f.val with scrub := ((s.store f.val).scrub + 1) % 262144, hold := some (s.store f.val).scrub, errs := ((s.store f.val).scrub, false) :: (s.store f.val).errs.filter fun y => y.1 != (s.store f.val).scrub }) ∧
      (t.rd SEG_SCRUB_STAT.PASSES f.val = (if (s.store f.val).scrub = 262143 then (s.rd SEG_SCRUB_STAT.PASSES f.val + 1) % 2 ^ SEG_SCRUB_STAT.PASSES.w else s.rd SEG_SCRUB_STAT.PASSES f.val)) ∧
      t.rd SEG_ECC_CNT.CORR f.val = min (2 ^ SEG_ECC_CNT.CORR.w - 1) (s.rd SEG_ECC_CNT.CORR f.val + 1) ∧
      t.rd SEG_ECC_ADDR.VALID f.val = 1 ∧ t.rd SEG_ECC_ADDR.UNC f.val = 0 ∧ t.rd SEG_ECC_ADDR.LINE f.val = (s.store f.val).scrub % 2 ^ SEG_ECC_ADDR.LINE.w ∧
      Raised t (pgSeg f.val) 1 ∧
      Others s.store t.store f.val ∧
      FieldsKept s t [(SEG_SCRUB_STAT.PASSES, f.val), (SEG_ECC_CNT.CORR, f.val), (SEG_ECC_ADDR.VALID, f.val), (SEG_ECC_ADDR.UNC, f.val), (SEG_ECC_ADDR.LINE, f.val), (IRQ_STAT.BITS, pgSeg f.val)] ∧
      t = { s with chip := { s.chip with regs := t.chip.regs, hostp := t.chip.hostp, store := t.chip.store } }) ∧
  (∀ (f : Fin 32) (ecc : Ecc) (other : Bool) (s : State),
    s.on SEG_SCRUB.EN f.val = true ∧ s.domOn f.val = true →
    s.lineEcc f.val (s.store f.val).scrub ecc = .uncorrectable →
    Gives (.scrubStep f ecc other) s fun t =>
      (t.store f.val = { s.store f.val with scrub := ((s.store f.val).scrub + 1) % 262144, hold := none, errs := ((s.store f.val).scrub, true) :: (s.store f.val).errs.filter fun y => y.1 != (s.store f.val).scrub }) ∧
      (t.rd SEG_SCRUB_STAT.PASSES f.val = (if (s.store f.val).scrub = 262143 then (s.rd SEG_SCRUB_STAT.PASSES f.val + 1) % 2 ^ SEG_SCRUB_STAT.PASSES.w else s.rd SEG_SCRUB_STAT.PASSES f.val)) ∧
      t.rd SEG_ECC_CNT.UNCORR f.val = min (2 ^ SEG_ECC_CNT.UNCORR.w - 1) (s.rd SEG_ECC_CNT.UNCORR f.val + 1) ∧
      t.rd SEG_ECC_ADDR.VALID f.val = 1 ∧ t.rd SEG_ECC_ADDR.UNC f.val = 1 ∧ t.rd SEG_ECC_ADDR.LINE f.val = (s.store f.val).scrub % 2 ^ SEG_ECC_ADDR.LINE.w ∧
      Raised t (pgSeg f.val) 2 ∧
      Others s.store t.store f.val ∧
      FieldsKept s t [(SEG_SCRUB_STAT.PASSES, f.val), (SEG_ECC_CNT.UNCORR, f.val), (SEG_ECC_ADDR.VALID, f.val), (SEG_ECC_ADDR.UNC, f.val), (SEG_ECC_ADDR.LINE, f.val), (IRQ_STAT.BITS, pgSeg f.val)] ∧
      t = { s with chip := { s.chip with regs := t.chip.regs, hostp := t.chip.hostp, store := t.chip.store } }) ∧
  (∀ (f : Fin 32) (ecc : Ecc) (other : Bool) (s : State),
    s.on SEG_SCRUB.EN f.val = false ∨ s.domOn f.val = false →
    Gives (.scrubStep f ecc other) s fun t =>
      t = s) ∧
  (∀ (f k : Fin 32) (w : Wr) (s : State),
    Accepted s w (pgSeg f.val) →
    s.on WIN_CFG.EN (winId f.val k.val) = false →
    s.marksBad (winId f.val k.val) = false →
    (bits w.val.toNat 0 17) + (s.rd WIN_SIZE.SIZE (winId f.val k.val)) ≤ 131072 →
    s.meetsWindow f.val (bits w.val.toNat 0 17) (s.rd WIN_SIZE.SIZE (winId f.val k.val)) k.val = false ∧ s.meetsEntry f.val (bits w.val.toNat 0 17) (s.rd WIN_SIZE.SIZE (winId f.val k.val)) = false →
    Gives (.winEnable f k w) s fun t =>
      t.rd WIN_CFG.EN (winId f.val k.val) = 1 ∧ t.rd WIN_CFG.OWNER (winId f.val k.val) = bits w.val.toNat 24 4 ∧ t.rd WIN_CFG.BASE (winId f.val k.val) = (bits w.val.toNat 0 17) ∧
      t.rd WIN_STAT.INIT (winId f.val k.val) = 1 ∧ t.rd WIN_STAT.REQ (winId f.val k.val) = 0 ∧
      t.win (winId f.val k.val) = { initFrom := some s.tb } ∧
      Others s.win t.win (winId f.val k.val) ∧
      FieldsKept s t [(WIN_CFG.EN, (winId f.val k.val)), (WIN_CFG.OWNER, (winId f.val k.val)), (WIN_CFG.BASE, (winId f.val k.val)), (WIN_STAT.INIT, (winId f.val k.val)), (WIN_STAT.REQ, (winId f.val k.val)), (HOST_STAT.COLLIDE_COUNT, 0)] ∧
      t = { s with chip := { s.chip with regs := t.chip.regs, hostp := t.chip.hostp, win := t.chip.win } }) ∧
  (∀ (f k : Fin 32) (w : Wr) (s : State),
    Accepted s w (pgSeg f.val) →
    s.on WIN_CFG.EN (winId f.val k.val) = false →
    s.marksBad (winId f.val k.val) = true ∨ 131072 < (bits w.val.toNat 0 17) + (s.rd WIN_SIZE.SIZE (winId f.val k.val)) →
    Gives (.winEnable f k w) s fun t =>
      Refused s t (pgSeg f.val) 1 ∧
      FieldsKept s t [(ERR_CODE.LAST, pgSeg f.val), (ERR_CODE.FIRST, pgSeg f.val), (ERR_COUNT.COUNT, pgSeg f.val), (HOST_STAT.COLLIDE_COUNT, 0)] ∧
      t = { s with chip := { s.chip with regs := t.chip.regs, hostp := t.chip.hostp } }) ∧
  (∀ (f k : Fin 32) (w : Wr) (s : State),
    Accepted s w (pgSeg f.val) →
    s.on WIN_CFG.EN (winId f.val k.val) = true →
    bits w.val.toNat 24 4 = s.rd WIN_CFG.OWNER (winId f.val k.val) ∧ (bits w.val.toNat 0 17) = s.rd WIN_CFG.BASE (winId f.val k.val) →
    s.engBusy (s.winOwner f.val k.val) = false →
    Gives (.winDisable f k w) s fun t =>
      t.rd WIN_CFG.EN (winId f.val k.val) = 0 ∧ t.rd WIN_STAT.INIT (winId f.val k.val) = 0 ∧ t.rd WIN_STAT.REQ (winId f.val k.val) = 0 ∧
      t.win (winId f.val k.val) = { s.win (winId f.val k.val) with initFrom := none } ∧
      Others s.win t.win (winId f.val k.val) ∧
      FieldsKept s t [(WIN_CFG.EN, (winId f.val k.val)), (WIN_CFG.OWNER, (winId f.val k.val)), (WIN_CFG.BASE, (winId f.val k.val)), (WIN_STAT.INIT, (winId f.val k.val)), (WIN_STAT.REQ, (winId f.val k.val)), (HOST_STAT.COLLIDE_COUNT, 0)] ∧
      t = { s with chip := { s.chip with regs := t.chip.regs, hostp := t.chip.hostp, win := t.chip.win } }) ∧
  (∀ (f k : Fin 32) (w : Wr) (s : State),
    Accepted s w (pgSeg f.val) →
    s.on WIN_CFG.EN (winId f.val k.val) = true →
    s.engBusy (s.winOwner f.val k.val) = true →
    Gives (.winDisable f k w) s fun t =>
      Refused s t (pgSeg f.val) 3 ∧
      FieldsKept s t [(ERR_CODE.LAST, pgSeg f.val), (ERR_CODE.FIRST, pgSeg f.val), (ERR_COUNT.COUNT, pgSeg f.val), (HOST_STAT.COLLIDE_COUNT, 0)] ∧
      t = { s with chip := { s.chip with regs := t.chip.regs, hostp := t.chip.hostp } }) ∧
  (∀ (f k : Fin 32) (s : State),
    (s.win (winId f.val k.val)).initFrom.isSome = true →
    Gives (.winInitDone f k) s fun t =>
      (∀ j < (s.rd WIN_SIZE.SIZE (winId f.val k.val)), ∀ m < 16, t.memB (facetBase f.val + 0x00800000 + 16 * (s.rd WIN_CFG.BASE (winId f.val k.val) + j) + m) = s.memB (facetBase f.val + 0x00800000 + 16 * (s.rd WIN_CFG.BASE (winId f.val k.val) + j) + m) % 4 + 12) ∧
      (∀ a, (∀ j < (s.rd WIN_SIZE.SIZE (winId f.val k.val)), ∀ m < 16, a ≠ facetBase f.val + 0x00800000 + 16 * (s.rd WIN_CFG.BASE (winId f.val k.val) + j) + m) → t.memB a = s.memB a) ∧
      t.mem.af = s.mem.af ∧ t.mem.flash = s.mem.flash ∧
      t.rd WIN_STAT.INIT (winId f.val k.val) = 0 ∧ (t.win (winId f.val k.val)).initFrom = none ∧ (t.win (winId f.val k.val)).wp = (s.win (winId f.val k.val)).wp ∧
      Others s.win t.win (winId f.val k.val) ∧
      FieldsKept s t [(WIN_STAT.INIT, (winId f.val k.val)), (WIN_STAT.REQ, (winId f.val k.val)), (IRQ_STAT.BITS, pgEng (s.winOwner f.val k.val))] ∧
      t = { s with mem := t.mem, chip := { s.chip with regs := t.chip.regs, hostp := t.chip.hostp, win := t.chip.win, store := t.chip.store } }) ∧
  (∀ (f k : Fin 32) (s : State),
    (s.win (winId f.val k.val)).initFrom = none →
    Gives (.winInitDone f k) s fun t =>
      t = s) ∧
  (∀ (f : Fin 32) (w : Wr) (s : State),
    Accepted s w (pgSeg f.val) →
    Gives (.segClr f w) s fun t =>
      t.rd SEG_ECC_CNT.CORR f.val = 0 ∧ t.rd SEG_ECC_CNT.UNCORR f.val = 0 ∧ t.rd SEG_ECC_ADDR.VALID f.val = 0 ∧ t.rd SEG_ECC_ADDR.UNC f.val = 0 ∧ t.rd SEG_ECC_ADDR.LINE f.val = 0 ∧
      (∀ k : Fin 16, t.rd SEG_SKIPPED.SKIPPED (16 * f.val + k.val) = 0 ∧ t.rd SEG_SHIFT.SHIFT (16 * f.val + k.val) = 0) ∧
      (∀ k : Fin 32, t.rd WIN_CNT.STARVE_COUNT (winId f.val k.val) = 0 ∧ t.rd WIN_CNT.STALE_COUNT (winId f.val k.val) = 0) ∧
      t = { s with chip := { s.chip with regs := t.chip.regs, hostp := t.chip.hostp } })

/-- The double-banked tables of the pattern generators, the lanes and the phase tables. CLOSE takes an OPEN bank to CLOSING and leaves one in another state; the end of its check takes it to CLOSED, with CHECK_OK saying whether the check word agrees; a REOPEN is due LEAD later, and then the bank that is inactive is OPEN; at a boundary with a swap requested, by one step or by a commit, the banks swap if the inactive bank was CLOSED with CHECK_OK 1 LEAD before, a lane's swap counted and a phase table's LOG2L exchanged, and else the swap is deferred, raised and journalled, a step's request dropped and told to its engine; where none is due, and where a commit's has been told already, the table stays; no table but the one named changes. Where the rules leave room the clauses state the model's readings (log entries 3 and 38) -/
def Obligations.DoubleBankedTables : Prop :=
  (∀ (b : Fin 392) (w : Wr) (s : State),
    Accepted s w (tabPage b.val) →
    s.shadowLocked (tabPage b.val) = false →
    bit w.val.toNat 2 = false →
    s.tabOpen b.val = true →
    Gives (.tableClose b w) s fun t =>
      t.rd (tabRegs b.val).state (tabRegs b.val).i = 1 ∧ t.tabActive b.val = s.tabActive b.val ∧
      (128 ≤ b.val → t.rd (tabRegs b.val).req (tabRegs b.val).i = (tabRegs b.val).req.ofWord (w.val ||| 2).toNat) ∧
      (b.val < 128 → t.rd (tabRegs b.val).req (tabRegs b.val).i = s.rd (tabRegs b.val).req (tabRegs b.val).i) ∧
      FieldsKept s t [((tabRegs b.val).state, (tabRegs b.val).i), ((tabRegs b.val).req, (tabRegs b.val).i), (HOST_STAT.COLLIDE_COUNT, 0)] ∧
      t = { s with chip := { s.chip with regs := t.chip.regs, hostp := t.chip.hostp, dirty := t.chip.dirty } }) ∧
  (∀ (b : Fin 392) (w : Wr) (s : State),
    Accepted s w (tabPage b.val) →
    s.shadowLocked (tabPage b.val) = false →
    bit w.val.toNat 2 = false →
    s.tabOpen b.val = false →
    Gives (.tableClose b w) s fun t =>
      t.rd (tabRegs b.val).state (tabRegs b.val).i = s.rd (tabRegs b.val).state (tabRegs b.val).i ∧
      (b.val < 128 → t.rd (tabRegs b.val).req (tabRegs b.val).i = s.rd (tabRegs b.val).req (tabRegs b.val).i) ∧
      FieldsKept s t [((tabRegs b.val).req, (tabRegs b.val).i), (HOST_STAT.COLLIDE_COUNT, 0)] ∧
      t = { s with chip := { s.chip with regs := t.chip.regs, hostp := t.chip.hostp, dirty := t.chip.dirty } }) ∧
  (∀ (b : Fin 392) (w : Wr) (s : State),
    Accepted s w (tabPage b.val) →
    s.shadowLocked (tabPage b.val) = false →
    bit w.val.toNat 1 = false →
    Gives (.tableReopen b w) s fun t =>
      t.tab b.val = { s.tab b.val with reopenAt := some (s.epoch + (s.tabGrid b.val).1) } ∧
      Others s.tab t.tab b.val ∧
      FieldsKept s t [((tabRegs b.val).req, (tabRegs b.val).i), (HOST_STAT.COLLIDE_COUNT, 0)] ∧
      t = { s with chip := { s.chip with regs := t.chip.regs, hostp := t.chip.hostp, dirty := t.chip.dirty, tab := t.chip.tab } }) ∧
  (∀ (b : Fin 392) (s : State),
    s.rd (tabRegs b.val).state (tabRegs b.val).i = 1 →
    Gives (.tableCloseDone b) s fun t =>
      t.rd (tabRegs b.val).state (tabRegs b.val).i = 2 ∧ t.rd (tabRegs b.val).done (tabRegs b.val).i = 1 ∧ t.rd (tabRegs b.val).ok (tabRegs b.val).i = flag (s.tabCrc b.val == s.rd (tabRegs b.val).check (tabRegs b.val).i) ∧
      (t.tab b.val = { s.tab b.val with okSince := if s.tabCrc b.val = s.rd (tabRegs b.val).check (tabRegs b.val).i then some s.epoch else none }) ∧
      Others s.tab t.tab b.val ∧
      FieldsKept s t [((tabRegs b.val).state, (tabRegs b.val).i), ((tabRegs b.val).done, (tabRegs b.val).i), ((tabRegs b.val).ok, (tabRegs b.val).i)] ∧
      t = { s with chip := { s.chip with regs := t.chip.regs, tab := t.chip.tab } }) ∧
  (∀ (b : Fin 392) (s : State),
    s.rd (tabRegs b.val).state (tabRegs b.val).i ≠ 1 →
    Gives (.tableCloseDone b) s fun t =>
      t = s) ∧
  (∀ (b : Fin 392) (a : Nat) (s : State),
    (s.tab b.val).reopenAt = some a ∧ a ≤ s.epoch →
    Gives (.tableReopenEffect b) s fun t =>
      t.rd (tabRegs b.val).state (tabRegs b.val).i = 0 ∧ t.rd (tabRegs b.val).done (tabRegs b.val).i = 0 ∧ t.rd (tabRegs b.val).ok (tabRegs b.val).i = 0 ∧ t.tabActive b.val = s.tabActive b.val ∧
      (t.tab b.val).reopenAt = none ∧ (t.tab b.val).okSince = none ∧ (t.tab b.val).okWas = (match (s.tab b.val).okSince with | some x => some (x, s.epoch) | none => (s.tab b.val).okWas) ∧ (t.tab b.val).bank0 = (s.tab b.val).bank0 ∧ (t.tab b.val).bank1 = (s.tab b.val).bank1 ∧
      Others s.tab t.tab b.val ∧
      FieldsKept s t [((tabRegs b.val).state, (tabRegs b.val).i), ((tabRegs b.val).done, (tabRegs b.val).i), ((tabRegs b.val).ok, (tabRegs b.val).i)] ∧
      t = { s with chip := { s.chip with regs := t.chip.regs, tab := t.chip.tab } }) ∧
  (∀ (b : Fin 392) (s : State),
    (s.tab b.val).reopenAt.all (fun a => decide (s.epoch < a)) = true →
    Gives (.tableReopenEffect b) s fun t =>
      t = s) ∧
  (∀ (b : Fin 392) (lead o g : Nat) (s : State),
    s.tabGrid b.val = (lead, o, g) →
    (s.tab b.val).reqs.all (fun r => decide (s.epoch < r.1)) = true →
    (s.tab b.val).commitFrom.all (fun d => decide (s.epoch < d)) = true ∨ ((s.tab b.val).told = true ∧ (s.tab b.val).closedAt (s.epoch - lead) = false) →
    Gives (.tableSwap b) s fun t =>
      t.tab b.val = s.tab b.val ∧
      Others s.tab t.tab b.val ∧
      t = { s with chip := { s.chip with tab := t.chip.tab } }) ∧
  (∀ (b : Fin 392) (lead o g d : Nat) (s : State),
    s.tabGrid b.val = (lead, o, g) →
    (s.tab b.val).reqs = [] ∧ (s.tab b.val).commitFrom = some d ∧ d ≤ s.epoch →
    o ≤ s.epoch ∧ (s.epoch - o) % max 1 g = 0 →
    (s.tab b.val).closedAt (s.epoch - lead) = true →
    Gives (.tableSwap b) s fun t =>
      t.tabActive b.val = 1 - s.tabActive b.val ∧ t.rd (tabRegs b.val).state (tabRegs b.val).i = 0 ∧ t.rd (tabRegs b.val).done (tabRegs b.val).i = 0 ∧ t.rd (tabRegs b.val).ok (tabRegs b.val).i = 0 ∧
      (t.tab b.val).bank0 = (s.tab b.val).bank0 ∧ (t.tab b.val).bank1 = (s.tab b.val).bank1 ∧
      (t.tab b.val).okSince = none ∧ (t.tab b.val).commitFrom = none ∧ (t.tab b.val).reqs = [] ∧
      (128 ≤ b.val ∧ b.val < 384 → t.rd LANE_COMP_CNT.SWAP_COUNT (b.val - 128) = min (2 ^ LANE_COMP_CNT.SWAP_COUNT.w - 1) (s.rd LANE_COMP_CNT.SWAP_COUNT (b.val - 128) + 1)) ∧
      (384 ≤ b.val → t.rd PT_ACT_CFG.LOG2L (b.val - 384) = s.rd PT_CFG.LOG2L (b.val - 384) % 2 ^ PT_ACT_CFG.LOG2L.w ∧ t.rd PT_CFG.LOG2L (b.val - 384) = s.rd PT_ACT_CFG.LOG2L (b.val - 384) % 2 ^ PT_CFG.LOG2L.w) ∧
      Others s.tab t.tab b.val ∧
      (128 ≤ b.val → t.chip.eng = s.chip.eng) ∧
      t = { s with chip := { s.chip with regs := t.chip.regs, tab := t.chip.tab, eng := t.chip.eng } }) ∧
  (∀ (b : Fin 392) (lead o g d e : Nat) (s : State),
    s.tabGrid b.val = (lead, o, g) →
    (s.tab b.val).reqs = [(d, e)] ∧ d ≤ s.epoch ∧ (s.tab b.val).commitFrom = none →
    (s.tab b.val).closedAt (d - lead) = true →
    Gives (.tableSwap b) s fun t =>
      t.tabActive b.val = 1 - s.tabActive b.val ∧ t.rd (tabRegs b.val).state (tabRegs b.val).i = 0 ∧ t.rd (tabRegs b.val).done (tabRegs b.val).i = 0 ∧ t.rd (tabRegs b.val).ok (tabRegs b.val).i = 0 ∧
      (t.tab b.val).bank0 = (s.tab b.val).bank0 ∧ (t.tab b.val).bank1 = (s.tab b.val).bank1 ∧
      (t.tab b.val).okSince = none ∧ (t.tab b.val).commitFrom = none ∧ (t.tab b.val).reqs = [] ∧
      (128 ≤ b.val ∧ b.val < 384 → t.rd LANE_COMP_CNT.SWAP_COUNT (b.val - 128) = min (2 ^ LANE_COMP_CNT.SWAP_COUNT.w - 1) (s.rd LANE_COMP_CNT.SWAP_COUNT (b.val - 128) + 1)) ∧
      (384 ≤ b.val → t.rd PT_ACT_CFG.LOG2L (b.val - 384) = s.rd PT_CFG.LOG2L (b.val - 384) % 2 ^ PT_ACT_CFG.LOG2L.w ∧ t.rd PT_CFG.LOG2L (b.val - 384) = s.rd PT_ACT_CFG.LOG2L (b.val - 384) % 2 ^ PT_CFG.LOG2L.w) ∧
      Others s.tab t.tab b.val ∧
      (128 ≤ b.val → t.chip.eng = s.chip.eng) ∧
      t = { s with chip := { s.chip with regs := t.chip.regs, tab := t.chip.tab, eng := t.chip.eng } }) ∧
  (∀ (b : Fin 392) (lead o g d e : Nat) (s : State),
    s.tabGrid b.val = (lead, o, g) →
    (s.tab b.val).reqs = [(d, e)] ∧ d ≤ s.epoch ∧ (s.tab b.val).commitFrom = none →
    (s.tab b.val).closedAt (d - lead) = false →
    Gives (.tableSwap b) s fun t =>
      t.tabActive b.val = s.tabActive b.val ∧
      Raised t (tabPage b.val) (tabIrq b.val) ∧
      (128 ≤ b.val ∧ b.val < 384 → t.rd LANE_COMP_CNT.DEFER_COUNT (b.val - 128) = min (2 ^ LANE_COMP_CNT.DEFER_COUNT.w - 1) (s.rd LANE_COMP_CNT.DEFER_COUNT (b.val - 128) + 1)) ∧
      Recorded s t (tabClass b.val).1 (tabClass b.val).2 0x030F ∧
      Others s.tab t.tab b.val ∧
      Raised t (pgEng e) (16 * (e % 2) + 15) ∧
      t.tab b.val = { s.tab b.val with reqs := [] } ∧
      t = { s with chip := { s.chip with regs := t.chip.regs, hostp := t.chip.hostp, tab := t.chip.tab, recs := t.chip.recs } }) ∧
  (∀ (b : Fin 392) (lead o g d : Nat) (s : State),
    s.tabGrid b.val = (lead, o, g) →
    (s.tab b.val).reqs = [] ∧ (s.tab b.val).commitFrom = some d ∧ d ≤ s.epoch →
    o ≤ s.epoch ∧ (s.epoch - o) % max 1 g = 0 →
    (s.tab b.val).closedAt (s.epoch - lead) = false ∧ (s.tab b.val).told = false →
    Gives (.tableSwap b) s fun t =>
      t.tabActive b.val = s.tabActive b.val ∧
      Raised t (tabPage b.val) (tabIrq b.val) ∧
      (128 ≤ b.val ∧ b.val < 384 → t.rd LANE_COMP_CNT.DEFER_COUNT (b.val - 128) = min (2 ^ LANE_COMP_CNT.DEFER_COUNT.w - 1) (s.rd LANE_COMP_CNT.DEFER_COUNT (b.val - 128) + 1)) ∧
      Recorded s t (tabClass b.val).1 (tabClass b.val).2 0x030F ∧
      Others s.tab t.tab b.val ∧
      t.tab b.val = { s.tab b.val with told := true } ∧
      t = { s with chip := { s.chip with regs := t.chip.regs, hostp := t.chip.hostp, tab := t.chip.tab, recs := t.chip.recs } })

/-- The commands of a refill channel. A write of RFL_CFG is stored with EN as commanded and refused with code 2 while the channel is RUNNING or WAITING: EN 1 takes STOPPED to IDLE and leaves IDLE and HALTED, and fetches a ring entry where one is to be fetched; EN 0 takes IDLE and HALTED to STOPPED with the shadow empty, what was held and the outstanding fetch given up; POST fills the shadow descriptor and CLEAR_SHADOW empties it, refused with code 3, 4 or 5 where it is full, in ring mode, or not enabled; TRIG and an event set the trigger pending bit with its due tick, or join what is pending and are counted, the events of one cycle as one; CLEAR_TRIG and STAT_CLR clear, and two commands at once are refused with code 1; RESUME takes a HALTED channel to IDLE, making the write-back that was held, and is refused with code 5 in another state or without the link; ABORT ends the descriptor of a running channel with its status and halts it, the burst in the write stage written, and does nothing to one that is not running; a write of the tail is stored and fetches where an entry is to be fetched, or is refused with code 1 or 4; a ring entry with OWN fills the shadow and moves HEAD on, one without leaves the channel dry with its event, and a failed or timed-out read of one halts an idle channel with cause 0x24; what a fetch of before a disable brings is discarded; in the clauses that give a channel no other channel changes. Where the rules leave room the clauses state the model's readings (log entries 3, 28 and 29) -/
def Obligations.RefillRegisters : Prop :=
  (∀ (c : Fin 64) (w : Wr) (s : State),
    Accepted s w (pgRfl c.val) →
    s.rflOwned c.val = false →
    s.rd RFL_STAT.STATE c.val = 0 →
    Gives (.rflEnable c w) s fun t =>
      t.rd RFL_CFG.EN c.val = 1 ∧ t.rd RFL_STAT.STATE c.val = 1 ∧
      t.rd RFL_CFG.PACE_EN c.val = bits w.val.toNat 8 1 ∧ t.rd RFL_CFG.PRIO c.val = bits w.val.toNat 4 2 ∧ t.rd RFL_CFG.MODE c.val = bits w.val.toNat 0 1 ∧
      (bits w.val.toNat 0 1 = 1 ∧ s.on RFL_STAT.SHADOW_FULL c.val = false ∧ s.rd RFL_RING_HEAD.HEAD c.val ≠ s.rd RFL_RING_TAIL.TAIL c.val ∧ (s.rflc c.val).fetch = false ∧ (s.rflc c.val).dry = false → (t.rflc c.val).fetch = true ∧ t.out = s.out ++ [.hostRead c.val (s.ringEntry c.val (s.rd RFL_RING_HEAD.HEAD c.val)) 128]) ∧
      Others s.rflc t.rflc c.val ∧
      FieldsKept s t [(RFL_CFG.EN, c.val), (RFL_CFG.PACE_EN, c.val), (RFL_CFG.PRIO, c.val), (RFL_CFG.MODE, c.val), (RFL_STAT.STATE, c.val), (HOST_STAT.COLLIDE_COUNT, 0)] ∧
      t = { s with chip := { s.chip with regs := t.chip.regs, hostp := t.chip.hostp, rflc := t.chip.rflc, out := t.chip.out } }) ∧
  (∀ (c : Fin 64) (w : Wr) (s : State),
    Accepted s w (pgRfl c.val) →
    s.rflOwned c.val = false →
    s.rd RFL_STAT.STATE c.val = 1 ∨ s.rd RFL_STAT.STATE c.val = 4 →
    Gives (.rflEnable c w) s fun t =>
      t.rd RFL_CFG.EN c.val = 1 ∧
      t.rd RFL_CFG.PACE_EN c.val = bits w.val.toNat 8 1 ∧ t.rd RFL_CFG.PRIO c.val = bits w.val.toNat 4 2 ∧ t.rd RFL_CFG.MODE c.val = bits w.val.toNat 0 1 ∧
      (s.rd RFL_STAT.STATE c.val = 1 ∧ bits w.val.toNat 0 1 = 1 ∧ s.on RFL_STAT.SHADOW_FULL c.val = false ∧ s.rd RFL_RING_HEAD.HEAD c.val ≠ s.rd RFL_RING_TAIL.TAIL c.val ∧ (s.rflc c.val).fetch = false ∧ (s.rflc c.val).dry = false → (t.rflc c.val).fetch = true ∧ t.out = s.out ++ [.hostRead c.val (s.ringEntry c.val (s.rd RFL_RING_HEAD.HEAD c.val)) 128]) ∧
      Others s.rflc t.rflc c.val ∧
      FieldsKept s t [(RFL_CFG.EN, c.val), (RFL_CFG.PACE_EN, c.val), (RFL_CFG.PRIO, c.val), (RFL_CFG.MODE, c.val), (HOST_STAT.COLLIDE_COUNT, 0)] ∧
      t = { s with chip := { s.chip with regs := t.chip.regs, hostp := t.chip.hostp, rflc := t.chip.rflc, out := t.chip.out } }) ∧
  (∀ (c : Fin 64) (w : Wr) (s : State),
    Accepted s w (pgRfl c.val) →
    s.rflOwned c.val = false →
    s.rd RFL_STAT.STATE c.val = 0 →
    Gives (.rflDisable c w) s fun t =>
      t.rd RFL_CFG.EN c.val = 0 ∧
      t.rd RFL_CFG.PACE_EN c.val = bits w.val.toNat 8 1 ∧ t.rd RFL_CFG.PRIO c.val = bits w.val.toNat 4 2 ∧ t.rd RFL_CFG.MODE c.val = bits w.val.toNat 0 1 ∧
      FieldsKept s t [(RFL_CFG.EN, c.val), (RFL_CFG.PACE_EN, c.val), (RFL_CFG.PRIO, c.val), (RFL_CFG.MODE, c.val), (HOST_STAT.COLLIDE_COUNT, 0)] ∧
      t = { s with chip := { s.chip with regs := t.chip.regs, hostp := t.chip.hostp } }) ∧
  (∀ (c : Fin 64) (w : Wr) (s : State),
    Accepted s w (pgRfl c.val) →
    s.rflOwned c.val = false →
    s.rd RFL_STAT.STATE c.val = 1 ∨ s.rd RFL_STAT.STATE c.val = 4 →
    Gives (.rflDisable c w) s fun t =>
      t.rd RFL_CFG.EN c.val = 0 ∧ t.rd RFL_STAT.STATE c.val = 0 ∧ t.rd RFL_STAT.SHADOW_FULL c.val = 0 ∧
      t.rd RFL_CFG.PACE_EN c.val = bits w.val.toNat 8 1 ∧ t.rd RFL_CFG.PRIO c.val = bits w.val.toNat 4 2 ∧ t.rd RFL_CFG.MODE c.val = bits w.val.toNat 0 1 ∧
      t.rflc c.val = { s.rflc c.val with held := none, fetch := false, lateFetch := (s.rflc c.val).lateFetch + flag (s.rflc c.val).fetch, dry := false, wb := false } ∧
      Others s.rflc t.rflc c.val ∧
      FieldsKept s t [(RFL_CFG.EN, c.val), (RFL_CFG.PACE_EN, c.val), (RFL_CFG.PRIO, c.val), (RFL_CFG.MODE, c.val), (RFL_STAT.STATE, c.val), (RFL_STAT.SHADOW_FULL, c.val), (HOST_STAT.COLLIDE_COUNT, 0)] ∧
      t = { s with chip := { s.chip with regs := t.chip.regs, hostp := t.chip.hostp, rflc := t.chip.rflc } }) ∧
  (∀ (c : Fin 64) (w : Wr) (s : State),
    Accepted s w (pgRfl c.val) →
    s.rflBusy c.val = true →
    Gives (.rflEnable c w) s fun t =>
      Refused s t (pgRfl c.val) 2 ∧
      FieldsKept s t [(ERR_CODE.LAST, pgRfl c.val), (ERR_CODE.FIRST, pgRfl c.val), (ERR_COUNT.COUNT, pgRfl c.val), (HOST_STAT.COLLIDE_COUNT, 0)] ∧
      t = { s with chip := { s.chip with regs := t.chip.regs, hostp := t.chip.hostp } }) ∧
  (∀ (c : Fin 64) (w : Wr) (s : State),
    Accepted s w (pgRfl c.val) →
    s.rflBusy c.val = true →
    Gives (.rflDisable c w) s fun t =>
      Refused s t (pgRfl c.val) 2 ∧
      FieldsKept s t [(ERR_CODE.LAST, pgRfl c.val), (ERR_CODE.FIRST, pgRfl c.val), (ERR_COUNT.COUNT, pgRfl c.val), (HOST_STAT.COLLIDE_COUNT, 0)] ∧
      t = { s with chip := { s.chip with regs := t.chip.regs, hostp := t.chip.hostp } }) ∧
  (∀ (c : Fin 64) (w : Wr) (s : State),
    Accepted s w (pgRfl c.val) →
    s.rflOwned c.val = false →
    bits (w.val ||| 0x4).toNat 0 7 = 0x4 →
    s.on RFL_STAT.SHADOW_FULL c.val = false ∧ s.on RFL_CFG.MODE c.val = false ∧ s.on RFL_CFG.EN c.val = true →
    Gives (.rflPost c w) s fun t =>
      t.rd RFL_STAT.SHADOW_FULL c.val = 1 ∧
      FieldsKept s t [(RFL_STAT.SHADOW_FULL, c.val), (HOST_STAT.COLLIDE_COUNT, 0)] ∧
      t = { s with chip := { s.chip with regs := t.chip.regs, hostp := t.chip.hostp } }) ∧
  (∀ (c : Fin 64) (w : Wr) (s : State),
    Accepted s w (pgRfl c.val) →
    s.rflOwned c.val = false →
    bits (w.val ||| 0x4).toNat 0 7 = 0x4 →
    s.on RFL_STAT.SHADOW_FULL c.val = true →
    Gives (.rflPost c w) s fun t =>
      Refused s t (pgRfl c.val) 3 ∧
      FieldsKept s t [(ERR_CODE.LAST, pgRfl c.val), (ERR_CODE.FIRST, pgRfl c.val), (ERR_COUNT.COUNT, pgRfl c.val), (HOST_STAT.COLLIDE_COUNT, 0)] ∧
      t = { s with chip := { s.chip with regs := t.chip.regs, hostp := t.chip.hostp } }) ∧
  (∀ (c : Fin 64) (w : Wr) (s : State),
    Accepted s w (pgRfl c.val) →
    s.rflOwned c.val = false →
    bits (w.val ||| 0x4).toNat 0 7 = 0x4 →
    s.on RFL_STAT.SHADOW_FULL c.val = false ∧ s.on RFL_CFG.MODE c.val = true →
    Gives (.rflPost c w) s fun t =>
      Refused s t (pgRfl c.val) 4 ∧
      FieldsKept s t [(ERR_CODE.LAST, pgRfl c.val), (ERR_CODE.FIRST, pgRfl c.val), (ERR_COUNT.COUNT, pgRfl c.val), (HOST_STAT.COLLIDE_COUNT, 0)] ∧
      t = { s with chip := { s.chip with regs := t.chip.regs, hostp := t.chip.hostp } }) ∧
  (∀ (c : Fin 64) (w : Wr) (s : State),
    Accepted s w (pgRfl c.val) →
    s.rflOwned c.val = false →
    bits (w.val ||| 0x4).toNat 0 7 = 0x4 →
    s.on RFL_STAT.SHADOW_FULL c.val = false ∧ s.on RFL_CFG.MODE c.val = false ∧ s.on RFL_CFG.EN c.val = false →
    Gives (.rflPost c w) s fun t =>
      Refused s t (pgRfl c.val) 5 ∧
      FieldsKept s t [(ERR_CODE.LAST, pgRfl c.val), (ERR_CODE.FIRST, pgRfl c.val), (ERR_COUNT.COUNT, pgRfl c.val), (HOST_STAT.COLLIDE_COUNT, 0)] ∧
      t = { s with chip := { s.chip with regs := t.chip.regs, hostp := t.chip.hostp } }) ∧
  (∀ (c : Fin 64) (w : Wr) (s : State),
    Accepted s w (pgRfl c.val) →
    s.rflOwned c.val = false →
    bits (w.val ||| 0x8).toNat 0 7 = 0x8 →
    s.on RFL_CFG.MODE c.val = false →
    Gives (.rflClearShadow c w) s fun t =>
      t.rd RFL_STAT.SHADOW_FULL c.val = 0 ∧
      FieldsKept s t [(RFL_STAT.SHADOW_FULL, c.val), (HOST_STAT.COLLIDE_COUNT, 0)] ∧
      t = { s with chip := { s.chip with regs := t.chip.regs, hostp := t.chip.hostp } }) ∧
  (∀ (c : Fin 64) (w : Wr) (s : State),
    Accepted s w (pgRfl c.val) →
    s.rflOwned c.val = false →
    bits (w.val ||| 0x8).toNat 0 7 = 0x8 →
    s.on RFL_CFG.MODE c.val = true →
    Gives (.rflClearShadow c w) s fun t =>
      Refused s t (pgRfl c.val) 4 ∧
      FieldsKept s t [(ERR_CODE.LAST, pgRfl c.val), (ERR_CODE.FIRST, pgRfl c.val), (ERR_COUNT.COUNT, pgRfl c.val), (HOST_STAT.COLLIDE_COUNT, 0)] ∧
      t = { s with chip := { s.chip with regs := t.chip.regs, hostp := t.chip.hostp } }) ∧
  (∀ (c : Fin 64) (w : Wr) (s : State),
    Accepted s w (pgRfl c.val) →
    s.rflOwned c.val = false →
    bits (w.val ||| 0x10).toNat 0 7 = 0x10 →
    (s.rflc c.val).trig = none →
    Gives (.rflTrig c w) s fun t =>
      t.rflc c.val = { s.rflc c.val with trig := some (s.epoch + s.h, none) } ∧ t.rd RFL_STAT.TRIG_PEND c.val = 1 ∧
      Others s.rflc t.rflc c.val ∧
      FieldsKept s t [(RFL_STAT.TRIG_PEND, c.val), (HOST_STAT.COLLIDE_COUNT, 0)] ∧
      t = { s with chip := { s.chip with regs := t.chip.regs, hostp := t.chip.hostp, rflc := t.chip.rflc } }) ∧
  (∀ (c : Fin 64) (w : Wr) (d : Nat) (g : Option Nat) (s : State),
    Accepted s w (pgRfl c.val) →
    s.rflOwned c.val = false →
    bits (w.val ||| 0x10).toNat 0 7 = 0x10 →
    (s.rflc c.val).trig = some (d, g) →
    Gives (.rflTrig c w) s fun t =>
      t.rflc c.val = { s.rflc c.val with trig := some (min d (s.epoch + s.h), g) } ∧
      t.rd RFL_TRIG_CNT.COINC c.val = min 0xFFFF (s.rd RFL_TRIG_CNT.COINC c.val + 1) ∧
      Others s.rflc t.rflc c.val ∧
      FieldsKept s t [(RFL_TRIG_CNT.COINC, c.val), (HOST_STAT.COLLIDE_COUNT, 0)] ∧
      t = { s with chip := { s.chip with regs := t.chip.regs, hostp := t.chip.hostp, rflc := t.chip.rflc } }) ∧
  (∀ (c : Fin 64) (w : Wr) (s : State),
    Accepted s w (pgRfl c.val) →
    s.rflOwned c.val = false →
    bits (w.val ||| 0x20).toNat 0 7 = 0x20 →
    Gives (.rflClearTrig c w) s fun t =>
      t.rflc c.val = { s.rflc c.val with trig := none } ∧ t.rd RFL_STAT.TRIG_PEND c.val = 0 ∧
      Others s.rflc t.rflc c.val ∧
      FieldsKept s t [(RFL_STAT.TRIG_PEND, c.val), (HOST_STAT.COLLIDE_COUNT, 0)] ∧
      t = { s with chip := { s.chip with regs := t.chip.regs, hostp := t.chip.hostp, rflc := t.chip.rflc } }) ∧
  (∀ (c : Fin 64) (w : Wr) (s : State),
    Accepted s w (pgRfl c.val) →
    s.rflOwned c.val = false →
    bits (w.val ||| 0x40).toNat 0 7 = 0x40 →
    Gives (.rflStatClr c w) s fun t =>
      t.rd RFL_CNT.BAD_COUNT c.val = 0 ∧ t.rd RFL_CNT.DONE_COUNT c.val = 0 ∧ t.rd RFL_TRIG_CNT.COINC c.val = 0 ∧ t.rd RFL_TRIG_CNT.TAKEN c.val = 0 ∧
      FieldsKept s t [(RFL_CNT.BAD_COUNT, c.val), (RFL_CNT.DONE_COUNT, c.val), (RFL_TRIG_CNT.COINC, c.val), (RFL_TRIG_CNT.TAKEN, c.val), (HOST_STAT.COLLIDE_COUNT, 0)] ∧
      t = { s with chip := { s.chip with regs := t.chip.regs, hostp := t.chip.hostp } }) ∧
  (∀ (c : Fin 64) (w : Wr) (s : State),
    Accepted s w (pgRfl c.val) →
    s.rflOwned c.val = false →
    1 < ((List.range 7).filter (bit (bits (w.val ||| 0x40).toNat 0 7))).length →
    Gives (.rflStatClr c w) s fun t =>
      Refused s t (pgRfl c.val) 1 ∧
      FieldsKept s t [(ERR_CODE.LAST, pgRfl c.val), (ERR_CODE.FIRST, pgRfl c.val), (ERR_COUNT.COUNT, pgRfl c.val), (HOST_STAT.COLLIDE_COUNT, 0)] ∧
      t = { s with chip := { s.chip with regs := t.chip.regs, hostp := t.chip.hostp } }) ∧
  (∀ (c : Fin 64) (w : Wr) (s : State),
    Accepted s w (pgRfl c.val) →
    s.rflOwned c.val = false →
    bits (w.val ||| 0x2).toNat 0 7 = 0x2 →
    s.rd RFL_STAT.STATE c.val = 4 →
    s.on HOST_LINK.DL_UP 0 = true →
    (s.rflc c.val).held = none →
    Gives (.rflResume c w) s fun t =>
      t.rd RFL_STAT.STATE c.val = 1 ∧ (t.rflc c.val).held = none ∧
      (s.on RFL_CFG.MODE c.val = true ∧ s.on RFL_STAT.SHADOW_FULL c.val = false ∧ s.rd RFL_RING_HEAD.HEAD c.val ≠ s.rd RFL_RING_TAIL.TAIL c.val ∧ (s.rflc c.val).fetch = false ∧ (s.rflc c.val).dry = false → (t.rflc c.val).fetch = true ∧ t.out = s.out ++ [.hostRead c.val (s.ringEntry c.val (s.rd RFL_RING_HEAD.HEAD c.val)) 128]) ∧
      Others s.rflc t.rflc c.val ∧
      FieldsKept s t [(RFL_STAT.STATE, c.val), (HOST_STAT.COLLIDE_COUNT, 0)] ∧
      t = { s with chip := { s.chip with regs := t.chip.regs, hostp := t.chip.hostp, rflc := t.chip.rflc, out := t.chip.out } }) ∧
  (∀ (c : Fin 64) (w : Wr) (a d0 d1 d2 d3 d4 d5 : Nat) (s : State),
    Accepted s w (pgRfl c.val) →
    s.rflOwned c.val = false →
    bits (w.val ||| 0x2).toNat 0 7 = 0x2 →
    s.rd RFL_STAT.STATE c.val = 4 →
    s.on HOST_LINK.DL_UP 0 = true →
    (s.rflc c.val).held = some (a, [d0, d1, d2, d3, d4, d5]) →
    Gives (.rflResume c w) s fun t =>
      t.rd RFL_STAT.STATE c.val = 1 ∧ (t.rflc c.val).held = none ∧ (t.rflc c.val).wb = true ∧
      (∃ us, t.out = s.out ++ [.hostWrite (a + 4) ((dwordBytes (d0)).map (BitVec.ofNat 8)), .hostWrite (a + 0x68) ((dwordBytes (d1)).map (BitVec.ofNat 8)), .hostWrite (a + 0x6C) ((dwordBytes (d2)).map (BitVec.ofNat 8)), .hostWrite (a + 0x70) ((dwordBytes (d3)).map (BitVec.ofNat 8)), .hostWrite (a + 0x74) ((dwordBytes (d4)).map (BitVec.ofNat 8)), .hostWrite (a) ((dwordBytes (d5 % 2 ^ 31)).map (BitVec.ofNat 8))] ++ us) ∧
      Others s.rflc t.rflc c.val ∧
      FieldsKept s t [(RFL_STAT.STATE, c.val), (HOST_STAT.COLLIDE_COUNT, 0)] ∧
      t = { s with chip := { s.chip with regs := t.chip.regs, hostp := t.chip.hostp, rflc := t.chip.rflc, out := t.chip.out } }) ∧
  (∀ (c : Fin 64) (w : Wr) (s : State),
    Accepted s w (pgRfl c.val) →
    s.rflOwned c.val = false →
    bits (w.val ||| 0x2).toNat 0 7 = 0x2 →
    s.rd RFL_STAT.STATE c.val ≠ 4 ∨ s.on HOST_LINK.DL_UP 0 = false →
    Gives (.rflResume c w) s fun t =>
      Refused s t (pgRfl c.val) 5 ∧
      FieldsKept s t [(ERR_CODE.LAST, pgRfl c.val), (ERR_CODE.FIRST, pgRfl c.val), (ERR_COUNT.COUNT, pgRfl c.val), (HOST_STAT.COLLIDE_COUNT, 0)] ∧
      t = { s with chip := { s.chip with regs := t.chip.regs, hostp := t.chip.hostp } }) ∧
  (∀ (c : Fin 64) (w : Wr) (s : State),
    Accepted s w (pgRfl c.val) →
    s.rflOwned c.val = false →
    bits (w.val ||| 0x1).toNat 0 7 = 0x1 →
    s.rflBusy c.val = true ∧ (s.rflc c.val).active = true →
    Gives (.rflAbort c w) s fun t =>
      t.rd RFL_STAT.STATE c.val = 4 ∧ t.rd RFL_STAT.WAIT c.val = 0 ∧
      t.rd RFL_LAST_STAT.STATUS c.val = (2 ^ 31 + 2 ^ 24 * 0x20 + bits (s.actD c.val 0) 0 16) % 2 ^ 32 ∧
      (t.rflc c.val).active = false ∧ (t.rflc c.val).stage = none ∧ (t.rflc c.val).cause = 0x20 ∧
      t.rd RFL_CNT.DONE_COUNT c.val = min 0xFFFF (s.rd RFL_CNT.DONE_COUNT c.val + 1) ∧
      Raised t (pgRfl c.val) (16 * (c.val % 2) + 2) ∧
      (∃ r ∈ t.recs, r.cls = 0x0C ∧ r.index = c.val ∧ r.code = 0x0A03) ∧
      t.mem = (s.drainStage c.val).mem ∧
      Others s.rflc t.rflc c.val) ∧
  (∀ (c : Fin 64) (w : Wr) (s : State),
    Accepted s w (pgRfl c.val) →
    s.rflOwned c.val = false →
    bits (w.val ||| 0x1).toNat 0 7 = 0x1 →
    s.rflBusy c.val = false →
    Gives (.rflAbort c w) s fun t =>
      FieldsKept s t [(HOST_STAT.COLLIDE_COUNT, 0)] ∧
      t = { s with chip := { s.chip with regs := t.chip.regs, hostp := t.chip.hostp } }) ∧
  (∀ (c : Fin 64) (a : Arrival) (s : State),
    s.arrivals.filter (fun a => a.cls == 6 && a.index == c.val) = [a] →
    (s.rflc c.val).trig = none →
    Gives (.rflStartArrive c) s fun t =>
      t.rflc c.val = { s.rflc c.val with trig := some (s.due a.ev, some a.ev.gen) } ∧ t.rd RFL_STAT.TRIG_PEND c.val = 1 ∧
      (t.arrivals = s.arrivals.filter fun a => !(a.cls == 6 && a.index == c.val)) ∧
      Others s.rflc t.rflc c.val ∧
      FieldsKept s t [(RFL_STAT.TRIG_PEND, c.val)] ∧
      t = { s with chip := { s.chip with regs := t.chip.regs, rflc := t.chip.rflc, arrivals := t.chip.arrivals } }) ∧
  (∀ (c : Fin 64) (a b : Arrival) (s : State),
    s.arrivals.filter (fun a => a.cls == 6 && a.index == c.val) = [a, b] →
    (s.rflc c.val).trig = none →
    Gives (.rflStartArrive c) s fun t =>
      t.rflc c.val = { s.rflc c.val with trig := some (min (s.due a.ev) (s.due b.ev), some (max a.ev.gen b.ev.gen)) } ∧ t.rd RFL_STAT.TRIG_PEND c.val = 1 ∧
      t.rd RFL_TRIG_CNT.COINC c.val = min 0xFFFF (s.rd RFL_TRIG_CNT.COINC c.val + 1) ∧
      (t.arrivals = s.arrivals.filter fun a => !(a.cls == 6 && a.index == c.val)) ∧
      Others s.rflc t.rflc c.val ∧
      FieldsKept s t [(RFL_STAT.TRIG_PEND, c.val), (RFL_TRIG_CNT.COINC, c.val)] ∧
      t = { s with chip := { s.chip with regs := t.chip.regs, rflc := t.chip.rflc, arrivals := t.chip.arrivals } }) ∧
  (∀ (c : Fin 64) (a : Arrival) (d g : Nat) (s : State),
    s.arrivals.filter (fun a => a.cls == 6 && a.index == c.val) = [a] →
    (s.rflc c.val).trig = some (d, some g) →
    Gives (.rflStartArrive c) s fun t =>
      t.rflc c.val = { s.rflc c.val with trig := some (min d (s.due a.ev), some (max g a.ev.gen)) } ∧
      t.rd RFL_TRIG_CNT.COINC c.val = min 0xFFFF (s.rd RFL_TRIG_CNT.COINC c.val + 1) ∧
      (t.arrivals = s.arrivals.filter fun a => !(a.cls == 6 && a.index == c.val)) ∧
      Others s.rflc t.rflc c.val ∧
      FieldsKept s t [(RFL_TRIG_CNT.COINC, c.val)] ∧
      t = { s with chip := { s.chip with regs := t.chip.regs, rflc := t.chip.rflc, arrivals := t.chip.arrivals } }) ∧
  (∀ (c : Fin 64) (w : Wr) (s : State),
    Accepted s w (pgRfl c.val) →
    bits w.val.toNat 0 16 < 2 ^ s.rd RFL_RING_SIZE.LOG2 c.val →
    s.on RFL_CFG.MODE c.val = false →
    Gives (.rflTailWrite c w) s fun t =>
      Refused s t (pgRfl c.val) 4 ∧
      FieldsKept s t [(ERR_CODE.LAST, pgRfl c.val), (ERR_CODE.FIRST, pgRfl c.val), (ERR_COUNT.COUNT, pgRfl c.val), (HOST_STAT.COLLIDE_COUNT, 0)] ∧
      t = { s with chip := { s.chip with regs := t.chip.regs, hostp := t.chip.hostp } }) ∧
  (∀ (c : Fin 64) (w : Wr) (s : State),
    Accepted s w (pgRfl c.val) →
    bits w.val.toNat 0 16 < 2 ^ s.rd RFL_RING_SIZE.LOG2 c.val →
    s.on RFL_CFG.MODE c.val = true →
    Gives (.rflTailWrite c w) s fun t =>
      t.rd RFL_RING_TAIL.TAIL c.val = bits w.val.toNat 0 16 ∧ (t.rflc c.val).dry = false ∧
      (s.rflOwned c.val = false ∧ s.rd RFL_STAT.STATE c.val ≠ 0 ∧ s.rd RFL_STAT.STATE c.val ≠ 4 ∧ s.on RFL_STAT.SHADOW_FULL c.val = false ∧ s.rd RFL_RING_HEAD.HEAD c.val ≠ bits w.val.toNat 0 16 ∧ (s.rflc c.val).fetch = false → (t.rflc c.val).fetch = true ∧ t.out = s.out ++ [.hostRead c.val (s.ringEntry c.val (s.rd RFL_RING_HEAD.HEAD c.val)) 128]) ∧
      Others s.rflc t.rflc c.val ∧
      FieldsKept s t [(RFL_RING_TAIL.TAIL, c.val), (HOST_STAT.COLLIDE_COUNT, 0)] ∧
      t = { s with chip := { s.chip with regs := t.chip.regs, hostp := t.chip.hostp, rflc := t.chip.rflc, out := t.chip.out } }) ∧
  (∀ (c : Fin 64) (w : Wr) (s : State),
    Accepted s w (pgRfl c.val) →
    2 ^ s.rd RFL_RING_SIZE.LOG2 c.val ≤ bits w.val.toNat 0 16 →
    Gives (.rflTailWrite c w) s fun t =>
      Refused s t (pgRfl c.val) 1 ∧
      FieldsKept s t [(ERR_CODE.LAST, pgRfl c.val), (ERR_CODE.FIRST, pgRfl c.val), (ERR_COUNT.COUNT, pgRfl c.val), (HOST_STAT.COLLIDE_COUNT, 0)] ∧
      t = { s with chip := { s.chip with regs := t.chip.regs, hostp := t.chip.hostp } }) ∧
  (∀ (c : Fin 64) (ds : List Word) (d0 : Word) (s : State),
    (s.rflc c.val).fetch = true ∧ (s.rflc c.val).lateFetch = 0 →
    ds.length = 32 ∧ ds[0]? = some d0 ∧ bit d0.toNat 31 = true →
    Gives (.ringFetchDone c (some ds)) s fun t =>
      (∀ n : Fin 32, ds[n.val]? = some (BitVec.ofNat 32 (t.rd RFL_SH.SH (32 * c.val + n.val)))) ∧
      t.rd RFL_STAT.SHADOW_FULL c.val = 1 ∧ t.rd RFL_RING_HEAD.HEAD c.val = (s.rd RFL_RING_HEAD.HEAD c.val + 1) % 2 ^ s.rd RFL_RING_SIZE.LOG2 c.val % 2 ^ 16 ∧
      t.rflc c.val = { s.rflc c.val with fetch := false, shSlot := s.rd RFL_RING_HEAD.HEAD c.val } ∧
      Others s.rflc t.rflc c.val ∧
      FieldsKept s t [(RFL_STAT.SHADOW_FULL, c.val), (RFL_RING_HEAD.HEAD, c.val), (RFL_SH.SH, 32 * c.val + 0), (RFL_SH.SH, 32 * c.val + 1), (RFL_SH.SH, 32 * c.val + 2), (RFL_SH.SH, 32 * c.val + 3), (RFL_SH.SH, 32 * c.val + 4), (RFL_SH.SH, 32 * c.val + 5), (RFL_SH.SH, 32 * c.val + 6), (RFL_SH.SH, 32 * c.val + 7), (RFL_SH.SH, 32 * c.val + 8), (RFL_SH.SH, 32 * c.val + 9), (RFL_SH.SH, 32 * c.val + 10), (RFL_SH.SH, 32 * c.val + 11), (RFL_SH.SH, 32 * c.val + 12), (RFL_SH.SH, 32 * c.val + 13), (RFL_SH.SH, 32 * c.val + 14), (RFL_SH.SH, 32 * c.val + 15), (RFL_SH.SH, 32 * c.val + 16), (RFL_SH.SH, 32 * c.val + 17), (RFL_SH.SH, 32 * c.val + 18), (RFL_SH.SH, 32 * c.val + 19), (RFL_SH.SH, 32 * c.val + 20), (RFL_SH.SH, 32 * c.val + 21), (RFL_SH.SH, 32 * c.val + 22), (RFL_SH.SH, 32 * c.val + 23), (RFL_SH.SH, 32 * c.val + 24), (RFL_SH.SH, 32 * c.val + 25), (RFL_SH.SH, 32 * c.val + 26), (RFL_SH.SH, 32 * c.val + 27), (RFL_SH.SH, 32 * c.val + 28), (RFL_SH.SH, 32 * c.val + 29), (RFL_SH.SH, 32 * c.val + 30), (RFL_SH.SH, 32 * c.val + 31)] ∧
      t = { s with chip := { s.chip with regs := t.chip.regs, rflc := t.chip.rflc } }) ∧
  (∀ (c : Fin 64) (ds : List Word) (d0 : Word) (s : State),
    (s.rflc c.val).fetch = true ∧ (s.rflc c.val).lateFetch = 0 →
    ds[0]? = some d0 ∧ bit d0.toNat 31 = false →
    Gives (.ringFetchDone c (some ds)) s fun t =>
      t.rflc c.val = { s.rflc c.val with fetch := false, dry := true } ∧
      Raised t (pgRfl c.val) (16 * (c.val % 2) + 4) ∧
      Others s.rflc t.rflc c.val ∧
      FieldsKept s t [(IRQ_STAT.BITS, pgRfl c.val)] ∧
      t = { s with chip := { s.chip with regs := t.chip.regs, hostp := t.chip.hostp, rflc := t.chip.rflc } }) ∧
  (∀ (c : Fin 64) (s : State),
    (s.rflc c.val).fetch = true ∧ (s.rflc c.val).lateFetch = 0 →
    (s.rflc c.val).active = false →
    Gives (.ringFetchDone c none) s fun t =>
      t.rd RFL_STAT.STATE c.val = 4 ∧ (t.rflc c.val).cause = 0x24 ∧ (t.rflc c.val).fetch = false ∧
      Raised t (pgRfl c.val) (16 * (c.val % 2) + 2) ∧
      Recorded s t 0x0C c.val 0x0A03 ∧
      Others s.rflc t.rflc c.val ∧
      FieldsKept s t [(IRQ_STAT.BITS, pgRfl c.val), (RFL_STAT.STATE, c.val), (RFL_STAT.WAIT, c.val)] ∧
      t = { s with chip := { s.chip with regs := t.chip.regs, hostp := t.chip.hostp, rflc := t.chip.rflc, recs := t.chip.recs } }) ∧
  (∀ (c : Fin 64) (s : State),
    (s.rflc c.val).fetch = true ∧ (s.rflc c.val).lateFetch = 0 →
    (s.rflc c.val).active = false →
    Gives (.completionTimeout c true) s fun t =>
      t.rd RFL_STAT.STATE c.val = 4 ∧ (t.rflc c.val).cause = 0x24 ∧ (t.rflc c.val).fetch = false ∧
      Raised t (pgRfl c.val) (16 * (c.val % 2) + 2) ∧
      Recorded s t 0x0C c.val 0x0A03 ∧
      Others s.rflc t.rflc c.val ∧
      FieldsKept s t [(IRQ_STAT.BITS, pgRfl c.val), (RFL_STAT.STATE, c.val), (RFL_STAT.WAIT, c.val)] ∧
      t = { s with chip := { s.chip with regs := t.chip.regs, hostp := t.chip.hostp, rflc := t.chip.rflc, recs := t.chip.recs } }) ∧
  (∀ (c : Fin 64) (entry : Option (List Word)) (s : State),
    (s.rflc c.val).lateFetch ≠ 0 →
    Gives (.ringFetchDone c entry) s fun t =>
      t.rflc c.val = { s.rflc c.val with lateFetch := (s.rflc c.val).lateFetch - 1 } ∧
      Others s.rflc t.rflc c.val ∧
      t = { s with chip := { s.chip with rflc := t.chip.rflc } }) ∧
  (∀ (c : Fin 64) (entry : Option (List Word)) (s : State),
    (s.rflc c.val).lateFetch = 0 ∧ (s.rflc c.val).fetch = false →
    Gives (.ringFetchDone c entry) s fun t =>
      t = s) ∧
  (∀ (c : Fin 64) (s : State),
    (s.rflc c.val).lateFetch ≠ 0 →
    Gives (.completionTimeout c true) s fun t =>
      t.rflc c.val = { s.rflc c.val with lateFetch := (s.rflc c.val).lateFetch - 1 } ∧
      Others s.rflc t.rflc c.val ∧
      t = { s with chip := { s.chip with rflc := t.chip.rflc } }) ∧
  (∀ (c : Fin 64) (s : State),
    (s.rflc c.val).lateFetch = 0 ∧ (s.rflc c.val).fetch = false →
    Gives (.completionTimeout c true) s fun t =>
      t = s)

/-- The course of a refill descriptor. A full shadow becomes the active descriptor of a channel that is neither STOPPED nor HALTED, and ends at once with the cause its check gives, with status; the oldest outstanding read, completed, puts its bytes into the funnel, those of the host or of the space at the source's addresses; one that fails, times out or meets an uncorrectable line ends the descriptor with cause 4 or 6; what a read of an ended descriptor brings is discarded; the only candidate is granted its next burst, which goes to the write stage, and without one only the waits are looked at; a burst is written to its place and no other byte of memory changes: a step memory, the store with its side bytes cleared, a granule of a window with its tag, the host; one that meets a disabled window or a blocked target ends the descriptor with cause 3 or 7 and writes nothing; the barrier is kept and starts the close where one is asked for, and a failed one ends the descriptor with cause 5; a written descriptor completes with its status, residue, CRC and tick, its counts and events; a write-back that fails later halts an idle channel with cause 0x24; where nothing can complete nothing happens; no other channel changes. Where the rules leave room the clauses state the model's readings (log entries 3, 28 and 29) -/
def Obligations.RefillDescriptors : Prop :=
  (∀ (c : Fin 64) (s : State),
    s.on RFL_STAT.SHADOW_FULL c.val = true ∧ (s.rflc c.val).active = false →
    s.rd RFL_STAT.STATE c.val ≠ 0 ∧ s.rd RFL_STAT.STATE c.val ≠ 4 →
    Gives (.descActivate c) s fun t =>
      t = { s with chip := { s.chip with regs := t.chip.regs, hostp := t.chip.hostp, recs := t.chip.recs, out := t.chip.out, prodq := t.chip.prodq, rflc := t.chip.rflc, store := t.chip.store, journal := t.chip.journal } } ∧
      ∃ u : State,
        (∀ n : Fin 32, u.rd RFL_ACT.ACT (32 * c.val + n.val) = s.rd RFL_SH.SH (32 * c.val + n.val) % 2 ^ 32) ∧
        (FieldsKept s u ((List.range 32).map fun n => (RFL_ACT.ACT, 32 * c.val + n))) ∧
        u = { s with chip := { s.chip with regs := u.chip.regs } } ∧
        ((∀ n : Fin 32, t.rd RFL_ACT.ACT (32 * c.val + n.val) = u.rd RFL_ACT.ACT (32 * c.val + n.val)) ∧ t.rd RFL_STAT.SHADOW_FULL c.val = 0 ∧ (t.rflc c.val).slot = (s.rflc c.val).shSlot) ∧
        (u.descCause c.val = 0 ∧ u.ctl c.val 23 = false → (t.rflc c.val).active = true) ∧
        (u.descCause c.val ≠ 0 → (t.rflc c.val).active = false ∧ t.rd RFL_LAST_STAT.STATUS c.val = (2 ^ 31 + 2 ^ 30 + 2 ^ 24 * u.descCause c.val + bits (u.actD c.val 0) 0 16) % 2 ^ 32) ∧
        Others s.rflc t.rflc c.val ∧
        (s.on RFL_CFG.MODE c.val = false ∧ s.rflOwned c.val = false → Raised t (pgRfl c.val) (16 * (c.val % 2) + 3))) ∧
  (∀ (c : Fin 64) (r : RflRead) (rest : List RflRead) (bs : List Byte) (errs : List (Nat × Ecc)) (s : State),
    (s.rflc c.val).active = true ∧ (s.rflc c.val).stale = [] ∧ (s.rflc c.val).reads = r :: rest →
    s.ctl c.val 23 = false →
    (s.rflSide c.val true).space ≠ 3 ∨ s.on WIN_CFG.EN (winId (s.rflSide c.val true).facet (s.rflSide c.val true).win) = true →
    r.host = true ∧ bs.length = r.n →
    Gives (.sourceReadDone c (some bs) errs) s fun t =>
      (t.rflc c.val).buf = (s.rflc c.val).buf ++ bs.map BitVec.toNat ∧
      (t.rflc c.val).active = true ∧ (t.rflc c.val).written = (s.rflc c.val).written ∧
      Others s.rflc t.rflc c.val ∧
      t = { s with chip := { s.chip with regs := t.chip.regs, hostp := t.chip.hostp, recs := t.chip.recs, out := t.chip.out, prodq := t.chip.prodq, rflc := t.chip.rflc, store := t.chip.store } }) ∧
  (∀ (c : Fin 64) (r : RflRead) (rest : List RflRead) (errs : List (Nat × Ecc)) (s : State),
    (s.rflc c.val).active = true ∧ (s.rflc c.val).stale = [] ∧ (s.rflc c.val).reads = r :: rest →
    (s.rflc c.val).stage = none →
    r.host = true →
    Gives (.sourceReadDone c none errs) s fun t =>
      t.rd RFL_LAST_STAT.STATUS c.val = (2 ^ 31 + 2 ^ 30 * 1 + 2 ^ 24 * 4 + bits (s.actD c.val 0) 0 16) % 2 ^ 32 ∧
      (t.rflc c.val).active = false ∧ (t.rflc c.val).stale = rest ∧
      t.rd RFL_CNT.DONE_COUNT c.val = min 0xFFFF (s.rd RFL_CNT.DONE_COUNT c.val + 1) ∧
      t.rd RFL_CNT.BAD_COUNT c.val = min 0xFFFF (s.rd RFL_CNT.BAD_COUNT c.val + 1) ∧
      Raised t (pgRfl c.val) (16 * (c.val % 2) + 1) ∧
      (∃ r ∈ t.recs, r.cls = 0x0C ∧ r.index = c.val ∧ r.code = 0x0A02) ∧
      Others s.rflc t.rflc c.val ∧
      t = { s with chip := { s.chip with regs := t.chip.regs, hostp := t.chip.hostp, recs := t.chip.recs, out := t.chip.out, prodq := t.chip.prodq, rflc := t.chip.rflc, store := t.chip.store } }) ∧
  (∀ (c : Fin 64) (r : RflRead) (rest : List RflRead) (data : Option (List Byte)) (errs : List (Nat × Ecc)) (s : State),
    (s.rflc c.val).active = true ∧ (s.rflc c.val).stale = [] ∧ (s.rflc c.val).reads = r :: rest →
    s.ctl c.val 23 = false →
    (s.rflSide c.val true).space ≠ 3 ∨ s.on WIN_CFG.EN (winId (s.rflSide c.val true).facet (s.rflSide c.val true).win) = true →
    (s.rflSide c.val false).space = 1 ∨ (s.rflSide c.val false).space = 2 ∨ (s.rflSide c.val false).space = 4 →
    r.host = false ∧ (s.readEcc r errs).1 = false →
    Gives (.sourceReadDone c data errs) s fun t =>
      ((t.rflc c.val).buf = (s.rflc c.val).buf ++ (List.range r.n).map fun i => s.spaceByte (s.rflSide c.val false) (s.srcPos c.val (r.k + i))) ∧
      (t.rflc c.val).active = true ∧
      Others s.rflc t.rflc c.val ∧
      t = { s with chip := { s.chip with regs := t.chip.regs, hostp := t.chip.hostp, recs := t.chip.recs, out := t.chip.out, prodq := t.chip.prodq, rflc := t.chip.rflc, store := t.chip.store } }) ∧
  (∀ (c : Fin 64) (r : RflRead) (rest : List RflRead) (data : Option (List Byte)) (errs : List (Nat × Ecc)) (s : State),
    (s.rflc c.val).active = true ∧ (s.rflc c.val).stale = [] ∧ (s.rflc c.val).reads = r :: rest →
    (s.rflc c.val).stage = none →
    r.host = false ∧ (s.readEcc r errs).1 = true →
    Gives (.sourceReadDone c data errs) s fun t =>
      t.rd RFL_LAST_STAT.STATUS c.val = (2 ^ 31 + 2 ^ 30 * 1 + 2 ^ 24 * 6 + bits (s.actD c.val 0) 0 16) % 2 ^ 32 ∧
      (t.rflc c.val).active = false ∧ (t.rflc c.val).stale = rest ∧
      t.rd RFL_CNT.DONE_COUNT c.val = min 0xFFFF (s.rd RFL_CNT.DONE_COUNT c.val + 1) ∧
      t.rd RFL_CNT.BAD_COUNT c.val = min 0xFFFF (s.rd RFL_CNT.BAD_COUNT c.val + 1) ∧
      Raised t (pgRfl c.val) (16 * (c.val % 2) + 1) ∧
      (∃ r ∈ t.recs, r.cls = 0x0C ∧ r.index = c.val ∧ r.code = 0x0A02) ∧
      Others s.rflc t.rflc c.val ∧
      (∀ f : Fin 32, r.lines.all (fun l => l.1 == f.val) = true → Raised t (pgSeg f.val) 2) ∧
      t = { s with chip := { s.chip with regs := t.chip.regs, hostp := t.chip.hostp, recs := t.chip.recs, out := t.chip.out, prodq := t.chip.prodq, rflc := t.chip.rflc, store := t.chip.store } }) ∧
  (∀ (c : Fin 64) (r : RflRead) (rest : List RflRead) (data : Option (List Byte)) (errs : List (Nat × Ecc)) (s : State),
    (s.rflc c.val).stale = r :: rest →
    Gives (.sourceReadDone c data errs) s fun t =>
      t.rflc c.val = { s.rflc c.val with stale := rest } ∧
      Others s.rflc t.rflc c.val ∧
      t = { s with chip := { s.chip with regs := t.chip.regs, hostp := t.chip.hostp, rflc := t.chip.rflc, store := t.chip.store } }) ∧
  (∀ (c : Fin 64) (data : Option (List Byte)) (errs : List (Nat × Ecc)) (s : State),
    (s.rflc c.val).stale = [] ∧ (s.rflc c.val).reads = [] →
    Gives (.sourceReadDone c data errs) s fun t =>
      t = s) ∧
  (∀ (c : Fin 64) (r : RflRead) (rest : List RflRead) (s : State),
    (s.rflc c.val).active = true ∧ (s.rflc c.val).stale = [] ∧ (s.rflc c.val).reads = r :: rest →
    (s.rflc c.val).stage = none →
    r.host = true →
    Gives (.completionTimeout c false) s fun t =>
      t.rd RFL_LAST_STAT.STATUS c.val = (2 ^ 31 + 2 ^ 30 * 1 + 2 ^ 24 * 4 + bits (s.actD c.val 0) 0 16) % 2 ^ 32 ∧
      (t.rflc c.val).active = false ∧ (t.rflc c.val).stale = rest ∧
      t.rd RFL_CNT.DONE_COUNT c.val = min 0xFFFF (s.rd RFL_CNT.DONE_COUNT c.val + 1) ∧
      t.rd RFL_CNT.BAD_COUNT c.val = min 0xFFFF (s.rd RFL_CNT.BAD_COUNT c.val + 1) ∧
      Raised t (pgRfl c.val) (16 * (c.val % 2) + 1) ∧
      (∃ r ∈ t.recs, r.cls = 0x0C ∧ r.index = c.val ∧ r.code = 0x0A02) ∧
      Others s.rflc t.rflc c.val ∧
      t = { s with chip := { s.chip with regs := t.chip.regs, hostp := t.chip.hostp, recs := t.chip.recs, out := t.chip.out, prodq := t.chip.prodq, rflc := t.chip.rflc, store := t.chip.store } }) ∧
  (∀ (c : Fin 64) (r : RflRead) (rest : List RflRead) (s : State),
    (s.rflc c.val).stale = [] ∧ (s.rflc c.val).reads = r :: rest ∧ r.host = false →
    Gives (.completionTimeout c false) s fun t =>
      t = s) ∧
  (∀ (c : Fin 64) (x : State) (s : State),
    (List.range 64).foldl (fun t k => t.rflSettle k) s = x →
    (List.range 64).filter x.rflCandidate = [c.val] →
    x.ctl c.val 23 = false ∧ (x.rflSide c.val true).space ≠ 3 →
    ∀ p : Fin 4, (x.bursts.guard[p.val]?).getD 0 < 13 →
    x.rd RFL_CFG.PRIO c.val < 4 →
    Gives (.burstGrant) s fun t =>
      (t.rflc c.val).stage = some ((x.rflc c.val).buf.take (min (x.rflNext c.val) (x.rflc c.val).buf.length)) ∧ (t.rflc c.val).buf = (x.rflc c.val).buf.drop (min (x.rflNext c.val) (x.rflc c.val).buf.length) ∧
      t.bursts.last = x.bursts.last.set (x.rd RFL_CFG.PRIO c.val) c.val ∧ t.bursts.guard = [0, 0, 0, 0] ∧
      Others x.rflc t.rflc c.val ∧
      t = { s with chip := { s.chip with regs := t.chip.regs, hostp := t.chip.hostp, recs := t.chip.recs, out := t.chip.out, prodq := t.chip.prodq, rflc := t.chip.rflc, store := t.chip.store, bursts := t.chip.bursts } }) ∧
  (∀ (x : State) (s : State),
    (List.range 64).foldl (fun t k => t.rflSettle k) s = x →
    (List.range 64).filter x.rflCandidate = [] →
    Gives (.burstGrant) s fun t =>
      t = { s with chip := { x.chip with bursts := { x.bursts with guard := [0, 0, 0, 0] } } }) ∧
  (∀ (c : Fin 64) (bs : List Nat) (s : State),
    (s.rflc c.val).active = true →
    (s.rflc c.val).stage = some bs →
    s.ctl c.val 23 = false →
    (s.rflSide c.val true).space = 2 ∧ s.blocked (s.rflSide c.val true) ((s.rflSide c.val true).at' (s.rflc c.val).written) bs = false →
    Gives (.burstWrite c) s fun t =>
      (∀ i < bs.length, t.memB (facetBase (s.rflSide c.val true).facet + 0x01000000 + ((s.rflSide c.val true).at' (s.rflc c.val).written) + i) = (bs[i]?).getD 0 % 256) ∧
      (∀ b, (b < facetBase (s.rflSide c.val true).facet + 0x01000000 + ((s.rflSide c.val true).at' (s.rflc c.val).written) ∨ facetBase (s.rflSide c.val true).facet + 0x01000000 + ((s.rflSide c.val true).at' (s.rflc c.val).written) + bs.length ≤ b) → t.memB b = s.memB b) ∧
      (t.rflc c.val).written = (s.rflc c.val).written + bs.length ∧ (t.rflc c.val).stage = none ∧ (t.rflc c.val).crc = bs.foldl crcByte (s.rflc c.val).crc ∧
      Others s.rflc t.rflc c.val ∧
      t.mem.af = s.mem.af ∧ t.mem.flash = s.mem.flash ∧
      t = { s with mem := t.mem, chip := t.chip }) ∧
  (∀ (c : Fin 64) (bs : List Nat) (s : State),
    (s.rflc c.val).active = true →
    (s.rflc c.val).stage = some bs →
    s.ctl c.val 23 = false →
    (s.rflSide c.val true).space = 1 ∧ (s.rflSide c.val true).fmt = 0 ∧ ((s.rflSide c.val true).at' (s.rflc c.val).written) + bs.length ≤ 0x800000 ∧ s.blocked (s.rflSide c.val true) ((s.rflSide c.val true).at' (s.rflc c.val).written) bs = false →
    Gives (.burstWrite c) s fun t =>
      (∀ i < bs.length, t.memB (facetBase (s.rflSide c.val true).facet + ((s.rflSide c.val true).at' (s.rflc c.val).written) + i) = (bs[i]?).getD 0 % 256 ∧ t.memB (facetBase (s.rflSide c.val true).facet + 0x00800000 + (((s.rflSide c.val true).at' (s.rflc c.val).written) + i) / 4) = 0) ∧
      (∀ b, (∀ i < bs.length, b ≠ facetBase (s.rflSide c.val true).facet + ((s.rflSide c.val true).at' (s.rflc c.val).written) + i ∧ b ≠ facetBase (s.rflSide c.val true).facet + 0x00800000 + (((s.rflSide c.val true).at' (s.rflc c.val).written) + i) / 4) → t.memB b = s.memB b) ∧
      (t.rflc c.val).written = (s.rflc c.val).written + bs.length ∧ (t.rflc c.val).stage = none ∧ (t.rflc c.val).crc = bs.foldl crcByte (s.rflc c.val).crc ∧
      Others s.rflc t.rflc c.val ∧
      t.mem.af = s.mem.af ∧ t.mem.flash = s.mem.flash ∧
      t = { s with mem := t.mem, chip := t.chip }) ∧
  (∀ (c : Fin 64) (bs : List Nat) (s : State),
    (s.rflc c.val).active = true →
    (s.rflc c.val).stage = some bs →
    s.ctl c.val 23 = false →
    (s.rflSide c.val true).space = 0 →
    Gives (.burstWrite c) s fun t =>
      (∃ us, t.out = s.out ++ .hostWrite ((s.rflSide c.val true).at' (s.rflc c.val).written) (bs.map (BitVec.ofNat 8)) :: us) ∧
      t.mem = s.mem ∧
      (t.rflc c.val).written = (s.rflc c.val).written + bs.length ∧ (t.rflc c.val).stage = none ∧ (t.rflc c.val).crc = bs.foldl crcByte (s.rflc c.val).crc ∧
      Others s.rflc t.rflc c.val ∧
      t.mem.af = s.mem.af ∧ t.mem.flash = s.mem.flash ∧
      t = { s with mem := t.mem, chip := t.chip }) ∧
  (∀ (c : Fin 64) (bs : List Nat) (s : State),
    (s.rflc c.val).active = true →
    (s.rflc c.val).stage = some bs →
    s.ctl c.val 23 = false →
    (s.rflSide c.val true).space = 3 ∧ (s.rflSide c.val true).fmt = 0 ∧ (s.rflc c.val).part = [] ∧ bs.length = 64 →
    s.on WIN_CFG.EN (winId (s.rflSide c.val true).facet (s.rflSide c.val true).win) = true ∧ s.winRoom (s.rflSide c.val true).facet (s.rflSide c.val true).win (s.win (winId (s.rflSide c.val true).facet (s.rflSide c.val true).win)).wp = true ∧ s.winSlot (s.rflSide c.val true).facet (s.rflSide c.val true).win (s.win (winId (s.rflSide c.val true).facet (s.rflSide c.val true).win)).wp < 131072 →
    Gives (.burstWrite c) s fun t =>
      (t.win (winId (s.rflSide c.val true).facet (s.rflSide c.val true).win)).wp = (s.win (winId (s.rflSide c.val true).facet (s.rflSide c.val true).win)).wp + 1 ∧ Others s.win t.win (winId (s.rflSide c.val true).facet (s.rflSide c.val true).win) ∧
      (∀ j < 64, t.memB (facetBase (s.rflSide c.val true).facet + 64 * s.winSlot (s.rflSide c.val true).facet (s.rflSide c.val true).win (s.win (winId (s.rflSide c.val true).facet (s.rflSide c.val true).win)).wp + j) = (bs[j]?).getD 0 % 256) ∧
      (∀ m < 16, t.memB (facetBase (s.rflSide c.val true).facet + 0x00800000 + 16 * s.winSlot (s.rflSide c.val true).facet (s.rflSide c.val true).win (s.win (winId (s.rflSide c.val true).facet (s.rflSide c.val true).win)).wp + m) = 4 * bits (s.win (winId (s.rflSide c.val true).facet (s.rflSide c.val true).win)).wp (2 * (m % 8)) 2) ∧
      (∀ b, (b < facetBase (s.rflSide c.val true).facet + 64 * s.winSlot (s.rflSide c.val true).facet (s.rflSide c.val true).win (s.win (winId (s.rflSide c.val true).facet (s.rflSide c.val true).win)).wp ∨ facetBase (s.rflSide c.val true).facet + 64 * s.winSlot (s.rflSide c.val true).facet (s.rflSide c.val true).win (s.win (winId (s.rflSide c.val true).facet (s.rflSide c.val true).win)).wp + 64 ≤ b) → (b < facetBase (s.rflSide c.val true).facet + 0x00800000 + 16 * s.winSlot (s.rflSide c.val true).facet (s.rflSide c.val true).win (s.win (winId (s.rflSide c.val true).facet (s.rflSide c.val true).win)).wp ∨ facetBase (s.rflSide c.val true).facet + 0x00800000 + 16 * s.winSlot (s.rflSide c.val true).facet (s.rflSide c.val true).win (s.win (winId (s.rflSide c.val true).facet (s.rflSide c.val true).win)).wp + 16 ≤ b) → t.memB b = s.memB b) ∧
      (t.rflc c.val).written = (s.rflc c.val).written + bs.length ∧ (t.rflc c.val).stage = none ∧ (t.rflc c.val).crc = bs.foldl crcByte (s.rflc c.val).crc ∧
      Others s.rflc t.rflc c.val ∧
      t.mem.af = s.mem.af ∧ t.mem.flash = s.mem.flash ∧
      t = { s with mem := t.mem, chip := t.chip }) ∧
  (∀ (c : Fin 64) (bs : List Nat) (s : State),
    (s.rflc c.val).active = true →
    (s.rflc c.val).stage = some bs →
    (s.rflSide c.val true).space = 3 ∧ s.on WIN_CFG.EN (winId (s.rflSide c.val true).facet (s.rflSide c.val true).win) = false →
    Gives (.burstWrite c) s fun t =>
      t.rd RFL_LAST_STAT.STATUS c.val = (2 ^ 31 + 2 ^ 30 * 1 + 2 ^ 24 * 3 + bits (s.actD c.val 0) 0 16) % 2 ^ 32 ∧
      (t.rflc c.val).active = false ∧
      t.rd RFL_CNT.DONE_COUNT c.val = min 0xFFFF (s.rd RFL_CNT.DONE_COUNT c.val + 1) ∧
      t.rd RFL_CNT.BAD_COUNT c.val = min 0xFFFF (s.rd RFL_CNT.BAD_COUNT c.val + 1) ∧
      Raised t (pgRfl c.val) (16 * (c.val % 2) + 1) ∧
      (∃ r ∈ t.recs, r.cls = 0x0C ∧ r.index = c.val ∧ r.code = 0x0A02) ∧
      Others s.rflc t.rflc c.val ∧
      t.mem = s.mem ∧
      t = { s with chip := { s.chip with regs := t.chip.regs, hostp := t.chip.hostp, recs := t.chip.recs, out := t.chip.out, prodq := t.chip.prodq, rflc := t.chip.rflc, store := t.chip.store } }) ∧
  (∀ (c : Fin 64) (bs : List Nat) (s : State),
    (s.rflc c.val).active = true →
    (s.rflc c.val).stage = some bs →
    (s.rflSide c.val true).space ≠ 0 ∧ (s.rflSide c.val true).space ≠ 3 ∧ s.blocked (s.rflSide c.val true) ((s.rflSide c.val true).at' (s.rflc c.val).written) bs = true →
    Gives (.burstWrite c) s fun t =>
      t.rd RFL_LAST_STAT.STATUS c.val = (2 ^ 31 + 2 ^ 30 * 1 + 2 ^ 24 * 7 + bits (s.actD c.val 0) 0 16) % 2 ^ 32 ∧
      (t.rflc c.val).active = false ∧
      t.rd RFL_CNT.DONE_COUNT c.val = min 0xFFFF (s.rd RFL_CNT.DONE_COUNT c.val + 1) ∧
      t.rd RFL_CNT.BAD_COUNT c.val = min 0xFFFF (s.rd RFL_CNT.BAD_COUNT c.val + 1) ∧
      Raised t (pgRfl c.val) (16 * (c.val % 2) + 1) ∧
      (∃ r ∈ t.recs, r.cls = 0x0C ∧ r.index = c.val ∧ r.code = 0x0A02) ∧
      Others s.rflc t.rflc c.val ∧
      t.mem = s.mem ∧
      t = { s with chip := { s.chip with regs := t.chip.regs, hostp := t.chip.hostp, recs := t.chip.recs, out := t.chip.out, prodq := t.chip.prodq, rflc := t.chip.rflc, store := t.chip.store } }) ∧
  (∀ (c : Fin 64) (err : Bool) (s : State),
    s.rflWritten c.val = true ∧ (s.ctl c.val 28 = true ∨ s.ctl c.val 22 = true) ∧ (s.rflc c.val).barrier = false →
    s.rflOwned c.val = false →
    s.ctl c.val 23 = false →
    (s.rflSide c.val true).space ≠ 3 →
    err = false ∨ (s.rflSide c.val true).space ≠ 0 →
    Gives (.barrierMet c err) s fun t =>
      (t.rflc c.val).barrier = true ∧ (t.rflc c.val).active = true ∧
      Others s.rflc t.rflc c.val ∧
      t = { s with chip := { s.chip with regs := t.chip.regs, hostp := t.chip.hostp, recs := t.chip.recs, out := t.chip.out, prodq := t.chip.prodq, rflc := t.chip.rflc, store := t.chip.store } }) ∧
  (∀ (c : Fin 64) (err : Bool) (s : State),
    s.rflWritten c.val = true ∧ (s.ctl c.val 28 = true ∨ s.ctl c.val 22 = true) ∧ (s.rflc c.val).barrier = false →
    s.rflOwned c.val = false →
    s.ctl c.val 23 = false →
    (s.rflSide c.val true).space = 1 ∧ s.ctl c.val 22 = true ∧ s.ctl c.val 25 = false ∧ (s.ctl c.val 29 = false ∨ (s.rflc c.val).go = true) →
    (s.rflc c.val).asked = s.rflToRead c.val ∧ (s.rflc c.val).reads = [] ∧ (s.rflc c.val).closing = false →
    s.on SEG_DIR_STAT.BUSY (s.rflSide c.val true).facet = false ∧ (s.dirEnt (s.rflSide c.val true).facet (bits (s.actD c.val 25) 0 13)).resident = true ∧ s.segInUse (s.rflSide c.val true).facet (bits (s.actD c.val 25) 0 13) = false →
    Gives (.barrierMet c err) s fun t =>
      (t.store (s.rflSide c.val true).facet).cmd = some (3, bits (s.actD c.val 25) 0 13) ∧ (t.store (s.rflSide c.val true).facet).closer = some c.val ∧ t.rd SEG_DIR_STAT.BUSY (s.rflSide c.val true).facet = 1 ∧
      (t.rflc c.val).barrier = true ∧ (t.rflc c.val).closing = true ∧
      Others s.rflc t.rflc c.val ∧
      Others s.store t.store (s.rflSide c.val true).facet ∧
      t = { s with chip := { s.chip with regs := t.chip.regs, hostp := t.chip.hostp, recs := t.chip.recs, out := t.chip.out, prodq := t.chip.prodq, rflc := t.chip.rflc, store := t.chip.store } }) ∧
  (∀ (c : Fin 64) (s : State),
    s.rflWritten c.val = true ∧ (s.ctl c.val 28 = true ∨ s.ctl c.val 22 = true) ∧ (s.rflc c.val).barrier = false →
    (s.rflSide c.val true).space = 0 →
    Gives (.barrierMet c true) s fun t =>
      t.rd RFL_LAST_STAT.STATUS c.val = (2 ^ 31 + 2 ^ 30 * 1 + 2 ^ 24 * 5 + bits (s.actD c.val 0) 0 16) % 2 ^ 32 ∧
      (t.rflc c.val).active = false ∧
      t.rd RFL_CNT.DONE_COUNT c.val = min 0xFFFF (s.rd RFL_CNT.DONE_COUNT c.val + 1) ∧
      t.rd RFL_CNT.BAD_COUNT c.val = min 0xFFFF (s.rd RFL_CNT.BAD_COUNT c.val + 1) ∧
      Raised t (pgRfl c.val) (16 * (c.val % 2) + 1) ∧
      (∃ r ∈ t.recs, r.cls = 0x0C ∧ r.index = c.val ∧ r.code = 0x0A02) ∧
      Others s.rflc t.rflc c.val ∧
      t = { s with chip := { s.chip with regs := t.chip.regs, hostp := t.chip.hostp, recs := t.chip.recs, out := t.chip.out, prodq := t.chip.prodq, rflc := t.chip.rflc, store := t.chip.store } }) ∧
  (∀ (c : Fin 64) (wbFail : Bool) (s : State),
    s.rflDone c.val = true →
    s.rflOwned c.val = false →
    Gives (.descComplete c wbFail) s fun t =>
      t.rd RFL_LAST_STAT.STATUS c.val = (2 ^ 31 + 2 ^ 30 * flag (causeBad (s.rflOutcome c.val)) + 2 ^ 24 * s.rflOutcome c.val + bits (s.actD c.val 0) 0 16) % 2 ^ 32 ∧
      t.rd RFL_LAST_RES.RESIDUE c.val = s.rflResidue c.val % 2 ^ 32 ∧ t.rd RFL_CRC.CRC c.val = ((s.rflc c.val).crc ^^^ 0xFFFFFFFF) % 2 ^ 32 ∧ t.rd RFL_DONE.T (2 * c.val) = s.epoch % 2 ^ 32 ∧ t.rd RFL_DONE.T (2 * c.val + 1) = s.epoch / 2 ^ 32 % 2 ^ 32 ∧
      (t.rflc c.val).active = false ∧ t.rd RFL_CNT.DONE_COUNT c.val = min 0xFFFF (s.rd RFL_CNT.DONE_COUNT c.val + 1) ∧
      (s.ctl c.val 27 = true → Raised t (pgRfl c.val) (16 * (c.val % 2))) ∧
      (t.prodq = (if s.ctl c.val 26 then s.prodq ++ [{ prod := prodId 0xA c.val, st := s.now, gen := (s.rflc c.val).gen }] else s.prodq)) ∧
      (s.rflRing c.val = false ∧ s.on RFL_STAT.SHADOW_FULL c.val = false → t.rd RFL_STAT.STATE c.val = 1) ∧
      (s.rflRing c.val = true ∧ wbFail = true → t.rd RFL_STAT.STATE c.val = 4) ∧
      Others s.rflc t.rflc c.val ∧
      t = { s with chip := { s.chip with regs := t.chip.regs, hostp := t.chip.hostp, recs := t.chip.recs, out := t.chip.out, prodq := t.chip.prodq, rflc := t.chip.rflc, store := t.chip.store } }) ∧
  (∀ (c : Fin 64) (err : Bool) (s : State),
    s.rflWritten c.val = false ∨ (s.ctl c.val 28 = false ∧ s.ctl c.val 22 = false) ∨ (s.rflc c.val).barrier = true →
    Gives (.barrierMet c err) s fun t =>
      t = s) ∧
  (∀ (c : Fin 64) (s : State),
    s.rflDone c.val = false ∧ (s.rflc c.val).wb = true ∧ (s.rflc c.val).active = false →
    s.rd RFL_STAT.STATE c.val ≠ 0 ∧ s.rd RFL_STAT.STATE c.val ≠ 4 →
    Gives (.descComplete c true) s fun t =>
      t.rflc c.val = { s.rflc c.val with wb := false, cause := 0x24 } ∧
      t.rd RFL_STAT.STATE c.val = 4 ∧
      Raised t (pgRfl c.val) (16 * (c.val % 2) + 2) ∧
      Recorded s t 0x0C c.val 0x0A03 ∧
      Others s.rflc t.rflc c.val ∧
      FieldsKept s t [(IRQ_STAT.BITS, pgRfl c.val), (RFL_STAT.STATE, c.val), (RFL_STAT.WAIT, c.val)] ∧
      t = { s with chip := { s.chip with regs := t.chip.regs, hostp := t.chip.hostp, rflc := t.chip.rflc, recs := t.chip.recs } }) ∧
  (∀ (c : Fin 64) (wbFail : Bool) (s : State),
    s.rflDone c.val = false ∧ (wbFail = false ∨ (s.rflc c.val).wb = false) →
    Gives (.descComplete c wbFail) s fun t =>
      t = s) ∧
  (∀ (c : Fin 64) (s : State),
    (s.rflc c.val).active = false ∨ (s.rflc c.val).stage = none →
    Gives (.burstWrite c) s fun t =>
      t = s) ∧
  (∀ (c : Fin 64) (s : State),
    s.on RFL_STAT.SHADOW_FULL c.val = false ∨ (s.rflc c.val).active = true ∨ s.rd RFL_STAT.STATE c.val = 0 ∨ s.rd RFL_STAT.STATE c.val = 4 →
    Gives (.descActivate c) s fun t =>
      t = s)

/-- The commands of a lane, its detect and the ways out of its states. EN 1 takes a lane in DARK that nothing keeps there to SEARCH, or to RETRAIN after an unlock of its quad with a stored state; EN 0 takes it to DARK; ADMIT fixes the entry tick; RETRAIN and RESEARCH, a squelch and an error limit take a lane in SERVICE out at the next block boundary and one outside SERVICE at once, with the cause, the event, the record and the ABORT blocks, and of several causes of one tick the highest row stands; a detect is made at its time and the second one in a row that finds a termination leads to NEGOTIATE; the agreed rate is taken up at its tick and a state that lasts too long ends in SEARCH; a write that the lane's state forbids or that carries two commands is refused; where nothing is due nothing happens. Where the rules leave room the clauses state the model's readings (log entries 3 and 17 to 20) -/
def Obligations.LaneCommands : Prop :=
  (∀ (l : Fin 256) (w : Wr) (s : State),
    Accepted s w (pgLane l.val) →
    bits w.val.toNat 2 3 = 0 →
    bit w.val.toNat 1 = false →
    5 ≤ s.dev ∧ s.domOn (laneFacet l.val) = true ∧ s.domOn (34 + quadOf l.val) = true ∧ (s.lphy l.val).calHold = false ∧ s.quadLocked l.val = true →
    s.laneState l.val = 0 →
    (s.lphy l.val).fromQuad = false ∨ s.on LANE_STAT.EQ_VALID l.val = false →
    Gives (.laneEnable l w) s fun t =>
      t.rd LANE_CTRL.EN l.val = 1 ∧ t.rd LANE_CTRL.EQ_FREEZE l.val = flag (bit w.val.toNat 5) ∧
      t.laneState l.val = 1 ∧
      (t.lphy l.val).detFrom = some s.tb ∧ (t.lphy l.val).since = s.tb ∧ (t.lphy l.val).stored = none ∧ t.rd LANE_STAT.EQ_VALID l.val = 0 ∧ t.rd LANE_STAT.VER l.val = 0 ∧
      t.prodq = s.prodq ++ [{ prod := prodId 0xB l.val, st := s.now, gen := 0 }] ∧
      Others s.lphy t.lphy l.val ∧
      FieldsKept s t [(LANE_STAT.CAUSE, l.val), (LANE_STAT.STATE, l.val), (LANE_STAT.ADMIT_WAIT, l.val), (LANE_STAT.BLOCK_LOCK, l.val), (LANE_STAT.EQ_VALID, l.val), (LANE_STAT.VER, l.val), (IRQ_STAT.BITS, pgLane l.val), (LANE_CTRL.EN, l.val), (LANE_CTRL.EQ_FREEZE, l.val), (HOST_STAT.COLLIDE_COUNT, 0)] ∧
      t = { s with chip := { s.chip with regs := t.chip.regs, hostp := t.chip.hostp, prodq := t.chip.prodq, lphy := t.chip.lphy } }) ∧
  (∀ (l : Fin 256) (w : Wr) (s : State),
    Accepted s w (pgLane l.val) →
    bits w.val.toNat 2 3 = 0 →
    bit w.val.toNat 1 = false →
    5 ≤ s.dev ∧ s.domOn (laneFacet l.val) = true ∧ s.domOn (34 + quadOf l.val) = true ∧ (s.lphy l.val).calHold = false ∧ s.quadLocked l.val = true →
    s.laneState l.val = 0 →
    (s.lphy l.val).fromQuad = true ∧ s.on LANE_STAT.EQ_VALID l.val = true →
    Gives (.laneEnable l w) s fun t =>
      t.rd LANE_CTRL.EN l.val = 1 ∧ t.rd LANE_CTRL.EQ_FREEZE l.val = flag (bit w.val.toNat 5) ∧
      t.laneState l.val = 6 ∧
      t.rd LANE_EQ_TX.CPOST l.val = (((s.lphy l.val).stored).getD {}).cpost % 2 ^ 5 ∧ t.rd LANE_EQ_RX.CTLE l.val = (((s.lphy l.val).stored).getD {}).ctle % 2 ^ 4 ∧
      t.rd LANE_CNT.RETRAINS l.val = min 0xFFFF (s.rd LANE_CNT.RETRAINS l.val + 1) ∧
      Raised t (pgLane l.val) (8 * (l.val % 4) + 2) ∧
      t.prodq = s.prodq ++ [{ prod := prodId 0xB l.val, st := s.now, gen := 0 }] ∧
      Others s.lphy t.lphy l.val ∧
      FieldsKept s t [(LANE_STAT.CAUSE, l.val), (LANE_STAT.STATE, l.val), (LANE_STAT.ADMIT_WAIT, l.val), (LANE_STAT.BLOCK_LOCK, l.val), (LANE_EQ_TX.CPRE, l.val), (LANE_EQ_TX.CPOST, l.val), (LANE_EQ_TX.CMAIN, l.val), (LANE_EQ_RX.CTLE, l.val), (LANE_EQ_RX.DFE1, l.val), (LANE_DFE_A.DFE2, l.val), (LANE_DFE_A.DFE3, l.val), (LANE_DFE_A.DFE4, l.val), (LANE_DFE_A.DFE5, l.val), (LANE_DFE_B.DFE6, l.val), (LANE_DFE_B.DFE7, l.val), (LANE_DFE_B.DFE8, l.val), (LANE_CNT.RETRAINS, l.val), (IRQ_STAT.BITS, pgLane l.val), (LANE_CTRL.EN, l.val), (LANE_CTRL.EQ_FREEZE, l.val), (HOST_STAT.COLLIDE_COUNT, 0)] ∧
      t = { s with chip := { s.chip with regs := t.chip.regs, hostp := t.chip.hostp, prodq := t.chip.prodq, lphy := t.chip.lphy } }) ∧
  (∀ (l : Fin 256) (w : Wr) (s : State),
    Accepted s w (pgLane l.val) →
    bits w.val.toNat 2 3 = 0 →
    bit w.val.toNat 1 = false →
    s.laneState l.val ≠ 0 ∨ s.quadLocked l.val = false →
    Gives (.laneEnable l w) s fun t =>
      t.rd LANE_CTRL.EN l.val = 1 ∧ t.rd LANE_CTRL.EQ_FREEZE l.val = flag (bit w.val.toNat 5) ∧
      t.laneState l.val = s.laneState l.val ∧
      FieldsKept s t [(LANE_CTRL.EN, l.val), (LANE_CTRL.EQ_FREEZE, l.val), (HOST_STAT.COLLIDE_COUNT, 0)] ∧
      t = { s with chip := { s.chip with regs := t.chip.regs, hostp := t.chip.hostp } }) ∧
  (∀ (l : Fin 256) (w : Wr) (s : State),
    Accepted s w (pgLane l.val) →
    bits w.val.toNat 2 3 = 0 →
    bit w.val.toNat 1 = false →
    s.laneState l.val ≠ 0 ∧ s.laneState l.val ≠ 5 →
    Gives (.laneDisable l w) s fun t =>
      t.rd LANE_CTRL.EN l.val = 0 ∧
      t.laneState l.val = 0 ∧
      t.rd LANE_STAT.CAUSE l.val = 1 ∧
      t.rd LANE_STAT.BLOCK_LOCK l.val = 0 ∧ t.rd LANE_STAT.SIG_DET l.val = 0 ∧
      t.prodq = s.prodq ++ [{ prod := prodId 0xB l.val, st := s.now, gen := 0 }] ∧
      Others s.lphy t.lphy l.val ∧
      FieldsKept s t [(LANE_STAT.CAUSE, l.val), (LANE_STAT.STATE, l.val), (LANE_STAT.ADMIT_WAIT, l.val), (LANE_STAT.BLOCK_LOCK, l.val), (LANE_STAT.SIG_DET, l.val), (IRQ_STAT.BITS, pgLane l.val), (LANE_CTRL.EN, l.val), (LANE_CTRL.EQ_FREEZE, l.val), (HOST_STAT.COLLIDE_COUNT, 0)] ∧
      t = { s with chip := { s.chip with regs := t.chip.regs, hostp := t.chip.hostp, prodq := t.chip.prodq, lphy := t.chip.lphy } }) ∧
  (∀ (l : Fin 256) (w : Wr) (s : State),
    Accepted s w (pgLane l.val) →
    bits w.val.toNat 2 3 = 0 →
    bit w.val.toNat 1 = false →
    s.laneState l.val = 5 →
    Gives (.laneDisable l w) s fun t =>
      t.rd LANE_CTRL.EN l.val = 0 ∧
      t.laneState l.val = 0 ∧
      t.rd LANE_STAT.CAUSE l.val = 1 ∧
      Raised t (pgLane l.val) (8 * (l.val % 4) + 1) ∧
      (t.cal = (if s.calHolds 8 l.val = true then { s.cal with run := s.cal.run.map fun r => { r with lost := true } } else s.cal)) ∧
      Recorded s t 3 l.val 0x0C02 ∧
      t.prodq = s.prodq ++ [{ prod := prodId 0xB l.val, st := s.now, gen := 0 }] ∧
      Others s.lphy t.lphy l.val ∧
      FieldsKept s t [(LANE_STAT.CAUSE, l.val), (LANE_STAT.STATE, l.val), (LANE_STAT.ADMIT_WAIT, l.val), (LANE_STAT.BLOCK_LOCK, l.val), (LANE_STAT.SIG_DET, l.val), (IRQ_STAT.BITS, pgLane l.val), (CMP_CAP_CTL.ACTIVE, l.val), (CMP_CAP_CTL.SHORT, l.val), (IRQ_STAT.BITS, pgCmp (laneFacet l.val)), (LANE_CTRL.EN, l.val), (LANE_CTRL.EQ_FREEZE, l.val), (HOST_STAT.COLLIDE_COUNT, 0)] ∧
      t = { s with chip := { s.chip with regs := t.chip.regs, hostp := t.chip.hostp, recs := t.chip.recs, prodq := t.chip.prodq, lphy := t.chip.lphy, cmpl := t.chip.cmpl, eng := t.chip.eng, cal := t.chip.cal } }) ∧
  (∀ (l : Fin 256) (w : Wr) (s : State),
    Accepted s w (pgLane l.val) →
    bits w.val.toNat 2 3 = 0 →
    bit w.val.toNat 1 = false →
    s.laneState l.val = 0 →
    Gives (.laneDisable l w) s fun t =>
      t.rd LANE_CTRL.EN l.val = 0 ∧
      t.laneState l.val = 0 ∧
      FieldsKept s t [(LANE_CTRL.EN, l.val), (LANE_CTRL.EQ_FREEZE, l.val), (HOST_STAT.COLLIDE_COUNT, 0)] ∧
      t = { s with chip := { s.chip with regs := t.chip.regs, hostp := t.chip.hostp } }) ∧
  (∀ (l : Fin 256) (w : Wr) (s : State),
    Accepted s w (pgLane l.val) →
    bit w.val.toNat 0 = true ∧ bits w.val.toNat 1 3 = 0 →
    s.on LANE_STAT.ADMIT_WAIT l.val = true →
    Gives (.laneAdmit l w) s fun t =>
      t.lphy l.val = { s.lphy l.val with entry := some (ceilTo (s.laneGran l.val) (s.epoch + s.laneBlock l.val)) } ∧
      t.rd LANE_STAT.ADMIT_WAIT l.val = 0 ∧
      t.laneState l.val = s.laneState l.val ∧
      Others s.lphy t.lphy l.val ∧
      FieldsKept s t [(LANE_STAT.ADMIT_WAIT, l.val), (LANE_CTRL.EN, l.val), (LANE_CTRL.EQ_FREEZE, l.val), (HOST_STAT.COLLIDE_COUNT, 0)] ∧
      t = { s with chip := { s.chip with regs := t.chip.regs, hostp := t.chip.hostp, lphy := t.chip.lphy } }) ∧
  (∀ (l : Fin 256) (w : Wr) (s : State),
    Accepted s w (pgLane l.val) →
    bit w.val.toNat 0 = true ∧ bits w.val.toNat 1 3 = 0 →
    s.on LANE_STAT.ADMIT_WAIT l.val = false →
    Gives (.laneAdmit l w) s fun t =>
      Refused s t (pgLane l.val) 3 ∧
      FieldsKept s t [(ERR_CODE.LAST, pgLane l.val), (ERR_CODE.FIRST, pgLane l.val), (ERR_COUNT.COUNT, pgLane l.val), (HOST_STAT.COLLIDE_COUNT, 0)] ∧
      t = { s with chip := { s.chip with regs := t.chip.regs, hostp := t.chip.hostp } }) ∧
  (∀ (l : Fin 256) (w : Wr) (s : State),
    Accepted s w (pgLane l.val) →
    bits w.val.toNat 1 2 ≠ 0 →
    Gives (.laneAdmit l w) s fun t =>
      Refused s t (pgLane l.val) 1 ∧
      FieldsKept s t [(ERR_CODE.LAST, pgLane l.val), (ERR_CODE.FIRST, pgLane l.val), (ERR_COUNT.COUNT, pgLane l.val), (HOST_STAT.COLLIDE_COUNT, 0)] ∧
      t = { s with chip := { s.chip with regs := t.chip.regs, hostp := t.chip.hostp } }) ∧
  (∀ (l : Fin 256) (w : Wr) (s : State),
    Accepted s w (pgLane l.val) →
    bit w.val.toNat 0 = true ∧ bits w.val.toNat 1 2 = 0 ∧ bit w.val.toNat 4 = false →
    s.laneState l.val = 5 →
    (s.lphy l.val).leave = none →
    Gives (.laneRetrainCmd l w) s fun t =>
      t.lphy l.val = { s.lphy l.val with leave := some (s.blockAfter l.val s.epoch, 6, 6), leaveAt := s.tb } ∧
      Others s.lphy t.lphy l.val ∧
      FieldsKept s t [(LANE_CTRL.EN, l.val), (LANE_CTRL.EQ_FREEZE, l.val), (HOST_STAT.COLLIDE_COUNT, 0)] ∧
      t = { s with chip := { s.chip with regs := t.chip.regs, hostp := t.chip.hostp, lphy := t.chip.lphy } }) ∧
  (∀ (l : Fin 256) (w : Wr) (s : State),
    Accepted s w (pgLane l.val) →
    bit w.val.toNat 0 = true ∧ bits w.val.toNat 1 2 = 0 ∧ bit w.val.toNat 4 = false →
    s.laneState l.val ≠ 5 →
    Gives (.laneRetrainCmd l w) s fun t =>
      Refused s t (pgLane l.val) 3 ∧
      FieldsKept s t [(ERR_CODE.LAST, pgLane l.val), (ERR_CODE.FIRST, pgLane l.val), (ERR_COUNT.COUNT, pgLane l.val), (HOST_STAT.COLLIDE_COUNT, 0)] ∧
      t = { s with chip := { s.chip with regs := t.chip.regs, hostp := t.chip.hostp } }) ∧
  (∀ (l : Fin 256) (w : Wr) (s : State),
    Accepted s w (pgLane l.val) →
    bits w.val.toNat 1 2 ≠ 0 →
    Gives (.laneRetrainCmd l w) s fun t =>
      Refused s t (pgLane l.val) 1 ∧
      FieldsKept s t [(ERR_CODE.LAST, pgLane l.val), (ERR_CODE.FIRST, pgLane l.val), (ERR_COUNT.COUNT, pgLane l.val), (HOST_STAT.COLLIDE_COUNT, 0)] ∧
      t = { s with chip := { s.chip with regs := t.chip.regs, hostp := t.chip.hostp } }) ∧
  (∀ (l : Fin 256) (w : Wr) (b st cse : Nat) (s : State),
    Accepted s w (pgLane l.val) →
    bit w.val.toNat 0 = true ∧ bits w.val.toNat 1 2 = 0 ∧ bit w.val.toNat 4 = false →
    s.laneState l.val = 5 ∧ (s.lphy l.val).leave = some (b, st, cse) →
    (s.lphy l.val).leaveAt ≠ s.tb ∨ leaveRow st cse ≤ leaveRow 6 6 →
    Gives (.laneRetrainCmd l w) s fun t =>
      t.rd LANE_CTRL.EN l.val = 1 ∧ t.rd LANE_CTRL.EQ_FREEZE l.val = flag (bit w.val.toNat 5) ∧
      FieldsKept s t [(LANE_CTRL.EN, l.val), (LANE_CTRL.EQ_FREEZE, l.val), (HOST_STAT.COLLIDE_COUNT, 0)] ∧
      t = { s with chip := { s.chip with regs := t.chip.regs, hostp := t.chip.hostp } }) ∧
  (∀ (l : Fin 256) (w : Wr) (s : State),
    Accepted s w (pgLane l.val) →
    bit w.val.toNat 0 = true ∧ bit w.val.toNat 1 = false ∧ bits w.val.toNat 3 2 = 0 →
    s.laneState l.val = 5 →
    (s.lphy l.val).leave = none →
    Gives (.laneResearch l w) s fun t =>
      t.lphy l.val = { s.lphy l.val with leave := some (s.blockAfter l.val s.epoch, 1, 6), leaveAt := s.tb } ∧
      Others s.lphy t.lphy l.val ∧
      FieldsKept s t [(LANE_CTRL.EN, l.val), (LANE_CTRL.EQ_FREEZE, l.val), (HOST_STAT.COLLIDE_COUNT, 0)] ∧
      t = { s with chip := { s.chip with regs := t.chip.regs, hostp := t.chip.hostp, lphy := t.chip.lphy } }) ∧
  (∀ (l : Fin 256) (w : Wr) (s : State),
    Accepted s w (pgLane l.val) →
    bit w.val.toNat 0 = true ∧ bit w.val.toNat 1 = false ∧ bits w.val.toNat 3 2 = 0 →
    2 ≤ s.laneState l.val ∧ s.laneState l.val ≠ 5 →
    Gives (.laneResearch l w) s fun t =>
      t.laneState l.val = 1 ∧
      t.rd LANE_STAT.CAUSE l.val = 6 ∧
      (t.lphy l.val).tx = List.replicate 16 [0x0F, 3] ∧
      (t.lphy l.val).detFrom = some s.tb ∧ (t.lphy l.val).since = s.tb ∧ (t.lphy l.val).stored = none ∧ t.rd LANE_STAT.EQ_VALID l.val = 0 ∧ t.rd LANE_STAT.VER l.val = 0 ∧
      Raised t (pgLane l.val) (8 * (l.val % 4) + 3) ∧
      Recorded s t 3 l.val 0x0C04 ∧
      t.prodq = s.prodq ++ [{ prod := prodId 0xB l.val, st := s.now, gen := 0 }] ∧
      Others s.lphy t.lphy l.val ∧
      FieldsKept s t [(LANE_STAT.CAUSE, l.val), (LANE_STAT.STATE, l.val), (LANE_STAT.ADMIT_WAIT, l.val), (LANE_STAT.BLOCK_LOCK, l.val), (LANE_STAT.EQ_VALID, l.val), (LANE_STAT.VER, l.val), (IRQ_STAT.BITS, pgLane l.val), (LANE_CTRL.EN, l.val), (LANE_CTRL.EQ_FREEZE, l.val), (HOST_STAT.COLLIDE_COUNT, 0)] ∧
      t = { s with chip := { s.chip with regs := t.chip.regs, hostp := t.chip.hostp, recs := t.chip.recs, prodq := t.chip.prodq, lphy := t.chip.lphy } }) ∧
  (∀ (l : Fin 256) (w : Wr) (s : State),
    Accepted s w (pgLane l.val) →
    bit w.val.toNat 0 = true ∧ bit w.val.toNat 1 = false ∧ bits w.val.toNat 3 2 = 0 →
    s.laneState l.val ≤ 1 →
    Gives (.laneResearch l w) s fun t =>
      Refused s t (pgLane l.val) 3 ∧
      FieldsKept s t [(ERR_CODE.LAST, pgLane l.val), (ERR_CODE.FIRST, pgLane l.val), (ERR_COUNT.COUNT, pgLane l.val), (HOST_STAT.COLLIDE_COUNT, 0)] ∧
      t = { s with chip := { s.chip with regs := t.chip.regs, hostp := t.chip.hostp } }) ∧
  (∀ (l : Fin 256) (w : Wr) (s : State),
    Accepted s w (pgLane l.val) →
    bits w.val.toNat 3 2 ≠ 0 →
    Gives (.laneResearch l w) s fun t =>
      Refused s t (pgLane l.val) 1 ∧
      FieldsKept s t [(ERR_CODE.LAST, pgLane l.val), (ERR_CODE.FIRST, pgLane l.val), (ERR_COUNT.COUNT, pgLane l.val), (HOST_STAT.COLLIDE_COUNT, 0)] ∧
      t = { s with chip := { s.chip with regs := t.chip.regs, hostp := t.chip.hostp } }) ∧
  (∀ (l : Fin 256) (w : Wr) (b st cse : Nat) (s : State),
    Accepted s w (pgLane l.val) →
    bit w.val.toNat 0 = true ∧ bit w.val.toNat 1 = false ∧ bits w.val.toNat 3 2 = 0 →
    s.laneState l.val = 5 ∧ (s.lphy l.val).leave = some (b, st, cse) →
    (s.lphy l.val).leaveAt ≠ s.tb ∨ leaveRow st cse ≤ leaveRow 1 6 →
    Gives (.laneResearch l w) s fun t =>
      t.rd LANE_CTRL.EN l.val = 1 ∧ t.rd LANE_CTRL.EQ_FREEZE l.val = flag (bit w.val.toNat 5) ∧
      FieldsKept s t [(LANE_CTRL.EN, l.val), (LANE_CTRL.EQ_FREEZE, l.val), (HOST_STAT.COLLIDE_COUNT, 0)] ∧
      t = { s with chip := { s.chip with regs := t.chip.regs, hostp := t.chip.hostp } }) ∧
  (∀ (l : Fin 256) (w : Wr) (b st cse : Nat) (s : State),
    Accepted s w (pgLane l.val) →
    bit w.val.toNat 0 = true ∧ bit w.val.toNat 1 = false ∧ bits w.val.toNat 3 2 = 0 →
    s.laneState l.val = 5 ∧ (s.lphy l.val).leave = some (b, st, cse) →
    (s.lphy l.val).leaveAt = s.tb ∧ leaveRow 1 6 < leaveRow st cse →
    Gives (.laneResearch l w) s fun t =>
      t.lphy l.val = { s.lphy l.val with leave := some (s.blockAfter l.val s.epoch, 1, 6), leaveAt := s.tb } ∧
      Others s.lphy t.lphy l.val ∧
      FieldsKept s t [(LANE_CTRL.EN, l.val), (LANE_CTRL.EQ_FREEZE, l.val), (HOST_STAT.COLLIDE_COUNT, 0)] ∧
      t = { s with chip := { s.chip with regs := t.chip.regs, hostp := t.chip.hostp, lphy := t.chip.lphy } }) ∧
  (∀ (l : Fin 256) (w : Wr) (s : State),
    Accepted s w (pgLane l.val) →
    bit w.val.toNat 0 = true ∧ bits w.val.toNat 2 3 = 0 →
    s.laneState l.val ≠ 0 →
    Gives (.laneClr l w) s fun t =>
      t.rd LANE_ERR.HDR_ERR l.val = 0 ∧ t.rd LANE_ERR.LOCK_LOSS l.val = 0 ∧ t.rd LANE_CNT.SVC l.val = 0 ∧ t.rd LANE_CNT.RETRAINS l.val = 0 ∧ t.rd LANE_STAT.CAUSE l.val = 0 ∧
      t.laneState l.val = s.laneState l.val ∧
      FieldsKept s t [(LANE_ERR.HDR_ERR, l.val), (LANE_ERR.LOCK_LOSS, l.val), (LANE_CNT.SVC, l.val), (LANE_CNT.RETRAINS, l.val), (LANE_STAT.CAUSE, l.val), (LANE_CTRL.EN, l.val), (LANE_CTRL.EQ_FREEZE, l.val), (HOST_STAT.COLLIDE_COUNT, 0)] ∧
      t = { s with chip := { s.chip with regs := t.chip.regs, hostp := t.chip.hostp } }) ∧
  (∀ (l : Fin 256) (w : Wr) (s : State),
    Accepted s w (pgLane l.val) →
    bits w.val.toNat 2 3 ≠ 0 →
    Gives (.laneClr l w) s fun t =>
      Refused s t (pgLane l.val) 1 ∧
      FieldsKept s t [(ERR_CODE.LAST, pgLane l.val), (ERR_CODE.FIRST, pgLane l.val), (ERR_COUNT.COUNT, pgLane l.val), (HOST_STAT.COLLIDE_COUNT, 0)] ∧
      t = { s with chip := { s.chip with regs := t.chip.regs, hostp := t.chip.hostp } }) ∧
  (∀ (l : Fin 256) (w : Wr) (s : State),
    Accepted s w (pgLane l.val) →
    bit w.val.toNat 0 = false ∧ bits w.val.toNat 2 3 = 0 →
    s.laneState l.val = 0 →
    Gives (.laneClr l w) s fun t =>
      t.rd LANE_ERR.HDR_ERR l.val = 0 ∧ t.rd LANE_ERR.LOCK_LOSS l.val = 0 ∧ t.rd LANE_CNT.SVC l.val = 0 ∧ t.rd LANE_CNT.RETRAINS l.val = 0 ∧ t.rd LANE_STAT.CAUSE l.val = 0 ∧
      t.laneState l.val = 0 ∧ t.rd LANE_CTRL.EN l.val = 0 ∧
      FieldsKept s t [(LANE_ERR.HDR_ERR, l.val), (LANE_ERR.LOCK_LOSS, l.val), (LANE_CNT.SVC, l.val), (LANE_CNT.RETRAINS, l.val), (LANE_STAT.CAUSE, l.val), (LANE_CTRL.EN, l.val), (LANE_CTRL.EQ_FREEZE, l.val), (HOST_STAT.COLLIDE_COUNT, 0)] ∧
      t = { s with chip := { s.chip with regs := t.chip.regs, hostp := t.chip.hostp } }) ∧
  (∀ (l : Fin 256) (s : State),
    s.laneState l.val = 1 →
    (s.lphy l.val).detFrom = none ∧ (s.lphy l.val).confirm = false ∧ (s.lphy l.val).attempt + 5000 * s.rd LANE_RXDET.PERIOD l.val ≤ s.tb →
    Gives (.rxdetStart l) s fun t =>
      t.lphy l.val = { s.lphy l.val with detFrom := some s.tb, attempt := s.tb } ∧
      Others s.lphy t.lphy l.val ∧
      t = { s with chip := { s.chip with lphy := t.chip.lphy } }) ∧
  (∀ (l : Fin 256) (s : State),
    s.laneState l.val = 1 →
    (s.lphy l.val).detFrom = none ∧ (s.lphy l.val).confirm = true ∧ (s.lphy l.val).attempt + 5000 ≤ s.tb →
    Gives (.rxdetStart l) s fun t =>
      t.lphy l.val = { s.lphy l.val with detFrom := some s.tb } ∧
      Others s.lphy t.lphy l.val ∧
      t = { s with chip := { s.chip with lphy := t.chip.lphy } }) ∧
  (∀ (l : Fin 256) (s : State),
    s.laneState l.val ≠ 1 →
    Gives (.rxdetStart l) s fun t =>
      t = s) ∧
  (∀ (l : Fin 256) (s : State),
    s.laneState l.val = 1 →
    (s.lphy l.val).detFrom ≠ none ∨ s.tb < (s.lphy l.val).attempt + (if (s.lphy l.val).confirm = true then 5000 else 5000 * s.rd LANE_RXDET.PERIOD l.val) →
    Gives (.rxdetStart l) s fun t =>
      t = s) ∧
  (∀ (l : Fin 256) (term : Bool) (d : Nat) (s : State),
    s.laneState l.val = 1 →
    (s.lphy l.val).detFrom = some d ∧ d + 2500 ≤ s.tb →
    (term && (s.lphy l.val).confirm) = false →
    Gives (.rxdetDone l term) s fun t =>
      t.rd LANE_STAT.RX_TERM l.val = flag term ∧
      t.lphy l.val = { s.lphy l.val with detFrom := none, confirm := term && !(s.lphy l.val).confirm } ∧
      t.laneState l.val = 1 ∧
      Others s.lphy t.lphy l.val ∧
      FieldsKept s t [(LANE_STAT.RX_TERM, l.val)] ∧
      t = { s with chip := { s.chip with regs := t.chip.regs, lphy := t.chip.lphy } }) ∧
  (∀ (l : Fin 256) (term : Bool) (d : Nat) (s : State),
    s.laneState l.val = 1 →
    (s.lphy l.val).detFrom = some d ∧ d + 2500 ≤ s.tb →
    term = true ∧ (s.lphy l.val).confirm = true →
    Gives (.rxdetDone l term) s fun t =>
      t.laneState l.val = 2 ∧
      t.rd LANE_STAT.RX_TERM l.val = 1 ∧ (t.lphy l.val).offer = s.rdA LANE_CFG.VER_MASK l.val ∧ (t.lphy l.val).since = s.tb ∧
      (t.lphy l.val).tx = [] ∧ (t.lphy l.val).rate = 8 ∧ (t.lphy l.val).vers = 0 ∧ (t.lphy l.val).sel = 0 ∧
      t.prodq = s.prodq ++ [{ prod := prodId 0xB l.val, st := s.now, gen := 0 }] ∧
      Others s.lphy t.lphy l.val ∧
      FieldsKept s t [(LANE_STAT.RX_TERM, l.val), (LANE_STAT.STATE, l.val), (LANE_STAT.ADMIT_WAIT, l.val), (LANE_STAT.BLOCK_LOCK, l.val)] ∧
      t = { s with chip := { s.chip with regs := t.chip.regs, hostp := t.chip.hostp, prodq := t.chip.prodq, lphy := t.chip.lphy } }) ∧
  (∀ (l : Fin 256) (term : Bool) (s : State),
    s.laneState l.val ≠ 1 ∨ (s.lphy l.val).detFrom.all (fun d => decide (s.tb < d + 2500)) = true →
    Gives (.rxdetDone l term) s fun t =>
      t = s) ∧
  (∀ (l : Fin 256) (s : State),
    2 ≤ s.laneState l.val ∧ s.laneState l.val ≠ 5 →
    Gives (.squelchTimeout l) s fun t =>
      t.laneState l.val = 1 ∧
      t.rd LANE_STAT.CAUSE l.val = 3 ∧
      (t.lphy l.val).tx = [] ∧
      t.rd LANE_STAT.SIG_DET l.val = 0 ∧
      (t.lphy l.val).detFrom = some s.tb ∧ (t.lphy l.val).since = s.tb ∧ (t.lphy l.val).stored = none ∧ t.rd LANE_STAT.EQ_VALID l.val = 0 ∧ t.rd LANE_STAT.VER l.val = 0 ∧
      Raised t (pgLane l.val) (8 * (l.val % 4) + 3) ∧
      Recorded s t 3 l.val 0x0C04 ∧
      t.prodq = s.prodq ++ [{ prod := prodId 0xB l.val, st := s.now, gen := 0 }] ∧
      Others s.lphy t.lphy l.val ∧
      FieldsKept s t [(LANE_STAT.CAUSE, l.val), (LANE_STAT.STATE, l.val), (LANE_STAT.ADMIT_WAIT, l.val), (LANE_STAT.BLOCK_LOCK, l.val), (LANE_STAT.EQ_VALID, l.val), (LANE_STAT.VER, l.val), (IRQ_STAT.BITS, pgLane l.val), (LANE_STAT.SIG_DET, l.val)] ∧
      t = { s with chip := { s.chip with regs := t.chip.regs, hostp := t.chip.hostp, recs := t.chip.recs, prodq := t.chip.prodq, lphy := t.chip.lphy } }) ∧
  (∀ (l : Fin 256) (s : State),
    s.laneState l.val = 5 →
    (s.lphy l.val).leave = none →
    Gives (.squelchTimeout l) s fun t =>
      t.lphy l.val = { s.lphy l.val with leave := some (s.blockAfter l.val s.epoch, 1, 3), leaveAt := s.tb } ∧
      t.rd LANE_STAT.SIG_DET l.val = 0 ∧
      Others s.lphy t.lphy l.val ∧
      FieldsKept s t [(LANE_STAT.SIG_DET, l.val)] ∧
      t = { s with chip := { s.chip with regs := t.chip.regs, lphy := t.chip.lphy } }) ∧
  (∀ (l : Fin 256) (s : State),
    s.laneState l.val < 2 →
    Gives (.squelchTimeout l) s fun t =>
      t = s) ∧
  (∀ (l : Fin 256) (s : State),
    s.laneState l.val = 2 →
    (s.lphy l.val).toTrain.all (fun x => decide (s.tb < x)) = true ∧ (s.lphy l.val).since + 1000000 ≤ s.tb →
    Gives (.laneStateTimeout l) s fun t =>
      t.laneState l.val = 1 ∧
      t.rd LANE_STAT.CAUSE l.val = 8 ∧
      (t.lphy l.val).detFrom = some s.tb ∧ (t.lphy l.val).since = s.tb ∧ (t.lphy l.val).stored = none ∧ t.rd LANE_STAT.EQ_VALID l.val = 0 ∧ t.rd LANE_STAT.VER l.val = 0 ∧
      Raised t (pgLane l.val) (8 * (l.val % 4) + 3) ∧
      Recorded s t 3 l.val 0x0C04 ∧
      (t.lphy l.val).tx = List.replicate 16 [0x0F, 1] ∧
      t.prodq = s.prodq ++ [{ prod := prodId 0xB l.val, st := s.now, gen := 0 }] ∧
      Others s.lphy t.lphy l.val ∧
      FieldsKept s t [(LANE_STAT.CAUSE, l.val), (LANE_STAT.STATE, l.val), (LANE_STAT.ADMIT_WAIT, l.val), (LANE_STAT.BLOCK_LOCK, l.val), (LANE_STAT.EQ_VALID, l.val), (LANE_STAT.VER, l.val), (IRQ_STAT.BITS, pgLane l.val)] ∧
      t = { s with chip := { s.chip with regs := t.chip.regs, hostp := t.chip.hostp, recs := t.chip.recs, prodq := t.chip.prodq, lphy := t.chip.lphy } }) ∧
  (∀ (l : Fin 256) (s : State),
    s.laneState l.val = 3 →
    (s.lphy l.val).since + 4000000 ≤ s.tb →
    Gives (.laneStateTimeout l) s fun t =>
      t.laneState l.val = 1 ∧
      t.rd LANE_STAT.CAUSE l.val = 10 ∧
      (t.lphy l.val).detFrom = some s.tb ∧ (t.lphy l.val).since = s.tb ∧ (t.lphy l.val).stored = none ∧ t.rd LANE_STAT.EQ_VALID l.val = 0 ∧ t.rd LANE_STAT.VER l.val = 0 ∧
      Raised t (pgLane l.val) (8 * (l.val % 4) + 3) ∧
      Recorded s t 3 l.val 0x0C04 ∧
      (t.lphy l.val).tx = List.replicate 16 [0x0F, 1] ∧
      t.prodq = s.prodq ++ [{ prod := prodId 0xB l.val, st := s.now, gen := 0 }] ∧
      Others s.lphy t.lphy l.val ∧
      FieldsKept s t [(LANE_STAT.CAUSE, l.val), (LANE_STAT.STATE, l.val), (LANE_STAT.ADMIT_WAIT, l.val), (LANE_STAT.BLOCK_LOCK, l.val), (LANE_STAT.EQ_VALID, l.val), (LANE_STAT.VER, l.val), (IRQ_STAT.BITS, pgLane l.val)] ∧
      t = { s with chip := { s.chip with regs := t.chip.regs, hostp := t.chip.hostp, recs := t.chip.recs, prodq := t.chip.prodq, lphy := t.chip.lphy } }) ∧
  (∀ (l : Fin 256) (s : State),
    s.laneState l.val = 4 →
    (s.lphy l.val).since + 500000 ≤ s.tb →
    (s.lphy l.val).entry = none ∧ s.on LANE_STAT.ADMIT_WAIT l.val = false →
    Gives (.laneStateTimeout l) s fun t =>
      t.laneState l.val = 1 ∧
      t.rd LANE_STAT.CAUSE l.val = 11 ∧
      (t.lphy l.val).detFrom = some s.tb ∧ (t.lphy l.val).since = s.tb ∧ (t.lphy l.val).stored = none ∧ t.rd LANE_STAT.EQ_VALID l.val = 0 ∧ t.rd LANE_STAT.VER l.val = 0 ∧
      Raised t (pgLane l.val) (8 * (l.val % 4) + 3) ∧
      Recorded s t 3 l.val 0x0C04 ∧
      (t.lphy l.val).tx = List.replicate 16 [0x0F, 1] ∧
      t.prodq = s.prodq ++ [{ prod := prodId 0xB l.val, st := s.now, gen := 0 }] ∧
      Others s.lphy t.lphy l.val ∧
      FieldsKept s t [(LANE_STAT.CAUSE, l.val), (LANE_STAT.STATE, l.val), (LANE_STAT.ADMIT_WAIT, l.val), (LANE_STAT.BLOCK_LOCK, l.val), (LANE_STAT.EQ_VALID, l.val), (LANE_STAT.VER, l.val), (IRQ_STAT.BITS, pgLane l.val)] ∧
      t = { s with chip := { s.chip with regs := t.chip.regs, hostp := t.chip.hostp, recs := t.chip.recs, prodq := t.chip.prodq, lphy := t.chip.lphy } }) ∧
  (∀ (l : Fin 256) (s : State),
    s.laneState l.val = 6 →
    (s.lphy l.val).since + 50000 ≤ s.tb →
    (s.lphy l.val).entry = none ∧ s.on LANE_STAT.ADMIT_WAIT l.val = false →
    Gives (.laneStateTimeout l) s fun t =>
      t.laneState l.val = 1 ∧
      t.rd LANE_STAT.CAUSE l.val = 12 ∧
      (t.lphy l.val).detFrom = some s.tb ∧ (t.lphy l.val).since = s.tb ∧ (t.lphy l.val).stored = none ∧ t.rd LANE_STAT.EQ_VALID l.val = 0 ∧ t.rd LANE_STAT.VER l.val = 0 ∧
      Raised t (pgLane l.val) (8 * (l.val % 4) + 3) ∧
      Recorded s t 3 l.val 0x0C04 ∧
      (t.lphy l.val).tx = List.replicate 16 [0x0F, 1] ∧
      t.prodq = s.prodq ++ [{ prod := prodId 0xB l.val, st := s.now, gen := 0 }] ∧
      Others s.lphy t.lphy l.val ∧
      FieldsKept s t [(LANE_STAT.CAUSE, l.val), (LANE_STAT.STATE, l.val), (LANE_STAT.ADMIT_WAIT, l.val), (LANE_STAT.BLOCK_LOCK, l.val), (LANE_STAT.EQ_VALID, l.val), (LANE_STAT.VER, l.val), (IRQ_STAT.BITS, pgLane l.val)] ∧
      t = { s with chip := { s.chip with regs := t.chip.regs, hostp := t.chip.hostp, recs := t.chip.recs, prodq := t.chip.prodq, lphy := t.chip.lphy } }) ∧
  (∀ (l : Fin 256) (s : State),
    s.laneState l.val = 3 →
    s.tb < (s.lphy l.val).since + 4000000 →
    Gives (.laneStateTimeout l) s fun t =>
      t = s) ∧
  (∀ (l : Fin 256) (x : Nat) (s : State),
    s.laneState l.val = 2 →
    (s.lphy l.val).toTrain = some x ∧ x ≤ s.tb →
    Gives (.laneStateTimeout l) s fun t =>
      t.laneState l.val = 3 ∧
      t.rd LANE_STAT.VER l.val = (s.lphy l.val).sel % 2 ^ 2 ∧ t.rd LANE_EQ_TX.CPRE l.val = 0 ∧ t.rd LANE_EQ_TX.CPOST l.val = 4 ∧ t.rd LANE_EQ_TX.CMAIN l.val = 28 ∧ t.rd LANE_EQ_RX.CTLE l.val = (s.lphy l.val).seed.ctle % 2 ^ 4 ∧
      (t.lphy l.val).since = s.tb ∧ (t.lphy l.val).tx = [] ∧ (t.lphy l.val).rate = t.laneBlock l.val ∧ (t.lphy l.val).toTrain = none ∧
      t.prodq = s.prodq ++ [{ prod := prodId 0xB l.val, st := s.now, gen := 0 }] ∧
      Others s.lphy t.lphy l.val ∧
      FieldsKept s t [(LANE_STAT.STATE, l.val), (LANE_STAT.ADMIT_WAIT, l.val), (LANE_STAT.BLOCK_LOCK, l.val), (LANE_STAT.VER, l.val), (LANE_EQ_TX.CPRE, l.val), (LANE_EQ_TX.CPOST, l.val), (LANE_EQ_TX.CMAIN, l.val), (LANE_EQ_RX.CTLE, l.val), (LANE_EQ_RX.DFE1, l.val), (LANE_DFE_A.DFE2, l.val), (LANE_DFE_A.DFE3, l.val), (LANE_DFE_A.DFE4, l.val), (LANE_DFE_A.DFE5, l.val), (LANE_DFE_B.DFE6, l.val), (LANE_DFE_B.DFE7, l.val), (LANE_DFE_B.DFE8, l.val)] ∧
      t = { s with chip := { s.chip with regs := t.chip.regs, prodq := t.chip.prodq, lphy := t.chip.lphy } }) ∧
  (∀ (l : Fin 256) (s : State),
    (s.laneState l.val = 2 ∧ (s.lphy l.val).toTrain.all (fun x => decide (s.tb < x)) = true ∧ s.tb < (s.lphy l.val).since + 1000000) ∨ (s.laneState l.val = 4 ∧ (s.tb < (s.lphy l.val).since + 500000 ∨ (s.lphy l.val).entry ≠ none ∨ s.on LANE_STAT.ADMIT_WAIT l.val = true)) ∨ (s.laneState l.val = 6 ∧ (s.tb < (s.lphy l.val).since + 50000 ∨ (s.lphy l.val).entry ≠ none ∨ s.on LANE_STAT.ADMIT_WAIT l.val = true)) ∨ s.laneState l.val = 0 ∨ s.laneState l.val = 1 ∨ s.laneState l.val = 5 →
    Gives (.laneStateTimeout l) s fun t =>
      t = s) ∧
  (∀ (l : Fin 256) (b k : Nat) (s : State),
    (s.lphy l.val).leave = some (b, 1, k) ∧ b ≤ s.epoch →
    s.laneState l.val = 5 →
    Gives (.laneLeaveService l) s fun t =>
      t.laneState l.val = 1 ∧
      t.rd LANE_STAT.CAUSE l.val = k % 16 ∧
      Raised t (pgLane l.val) (8 * (l.val % 4) + 1) ∧
      Recorded s t 3 l.val 0x0C02 ∧
      t.prodq = s.prodq ++ [{ prod := prodId 0xB l.val, st := s.now, gen := 0 }] ∧
      (s.on CMP_CAP_CTL.ACTIVE l.val = true → t.rd CMP_CAP_CTL.ACTIVE l.val = 0 ∧ t.rd CMP_CAP_CTL.SHORT l.val = 1 ∧ (t.cmpl l.val).cap = none) ∧
      (t.cal = (if s.calHolds 8 l.val = true then { s.cal with run := s.cal.run.map fun r => { r with lost := true } } else s.cal)) ∧
      Others s.lphy t.lphy l.val ∧
      FieldsKept s t [(LANE_STAT.CAUSE, l.val), (LANE_STAT.STATE, l.val), (LANE_STAT.ADMIT_WAIT, l.val), (LANE_STAT.BLOCK_LOCK, l.val), (LANE_STAT.EQ_VALID, l.val), (LANE_STAT.VER, l.val), (IRQ_STAT.BITS, pgLane l.val), (CMP_CAP_CTL.ACTIVE, l.val), (CMP_CAP_CTL.SHORT, l.val), (IRQ_STAT.BITS, pgCmp (laneFacet l.val))] ∧
      t = { s with chip := { s.chip with regs := t.chip.regs, hostp := t.chip.hostp, recs := t.chip.recs, prodq := t.chip.prodq, lphy := t.chip.lphy, cmpl := t.chip.cmpl, eng := t.chip.eng, cal := t.chip.cal } }) ∧
  (∀ (l : Fin 256) (b k : Nat) (s : State),
    (s.lphy l.val).leave = some (b, 6, k) ∧ b ≤ s.epoch →
    s.laneState l.val = 5 →
    Gives (.laneLeaveService l) s fun t =>
      t.laneState l.val = 6 ∧
      t.rd LANE_STAT.CAUSE l.val = k % 16 ∧
      Raised t (pgLane l.val) (8 * (l.val % 4) + 2) ∧
      Recorded s t 3 l.val 0x0C03 ∧
      t.prodq = s.prodq ++ [{ prod := prodId 0xB l.val, st := s.now, gen := 0 }] ∧
      (s.on CMP_CAP_CTL.ACTIVE l.val = true → t.rd CMP_CAP_CTL.ACTIVE l.val = 0 ∧ t.rd CMP_CAP_CTL.SHORT l.val = 1 ∧ (t.cmpl l.val).cap = none) ∧
      (t.cal = (if s.calHolds 8 l.val = true then { s.cal with run := s.cal.run.map fun r => { r with lost := true } } else s.cal)) ∧
      Others s.lphy t.lphy l.val ∧
      FieldsKept s t [(LANE_STAT.CAUSE, l.val), (LANE_STAT.STATE, l.val), (LANE_STAT.ADMIT_WAIT, l.val), (LANE_STAT.BLOCK_LOCK, l.val), (LANE_EQ_TX.CPRE, l.val), (LANE_EQ_TX.CPOST, l.val), (LANE_EQ_TX.CMAIN, l.val), (LANE_EQ_RX.CTLE, l.val), (LANE_EQ_RX.DFE1, l.val), (LANE_DFE_A.DFE2, l.val), (LANE_DFE_A.DFE3, l.val), (LANE_DFE_A.DFE4, l.val), (LANE_DFE_A.DFE5, l.val), (LANE_DFE_B.DFE6, l.val), (LANE_DFE_B.DFE7, l.val), (LANE_DFE_B.DFE8, l.val), (LANE_CNT.RETRAINS, l.val), (IRQ_STAT.BITS, pgLane l.val), (CMP_CAP_CTL.ACTIVE, l.val), (CMP_CAP_CTL.SHORT, l.val), (IRQ_STAT.BITS, pgCmp (laneFacet l.val))] ∧
      t = { s with chip := { s.chip with regs := t.chip.regs, hostp := t.chip.hostp, recs := t.chip.recs, prodq := t.chip.prodq, lphy := t.chip.lphy, cmpl := t.chip.cmpl, eng := t.chip.eng, cal := t.chip.cal } }) ∧
  (∀ (l : Fin 256) (b k d : Nat) (s : State),
    (s.lphy l.val).leave = some (b, k, d) ∧ s.epoch < b →
    Gives (.laneLeaveService l) s fun t =>
      t = s) ∧
  (∀ (l : Fin 256) (s : State),
    (s.lphy l.val).leave = none ∨ s.laneState l.val ≠ 5 →
    Gives (.laneLeaveService l) s fun t =>
      t = s) ∧
  (∀ (l : Fin 256) (s : State),
    s.laneState l.val = 5 ∧ (s.lphy l.val).ivFrom + 500000 ≤ s.tb →
    Gives (.laneErrInterval l) s fun t =>
      t.lphy l.val = { s.lphy l.val with ivFrom := (s.lphy l.val).ivFrom + 500000, ivErr := 0 } ∧
      Others s.lphy t.lphy l.val ∧
      t = { s with chip := { s.chip with lphy := t.chip.lphy } }) ∧
  (∀ (l : Fin 256) (s : State),
    s.laneState l.val ≠ 5 ∨ s.tb < (s.lphy l.val).ivFrom + 500000 →
    Gives (.laneErrInterval l) s fun t =>
      t = s) ∧
  (∀ (l : Fin 256) (s : State),
    s.laneState l.val = 5 ∧ s.rd LANE_ERR_LIM.LIMIT l.val ≠ 0 ∧ s.rd LANE_ERR_LIM.LIMIT l.val ≤ (s.lphy l.val).ivErr →
    (s.lphy l.val).leave = none →
    Gives (.laneErrLimit l) s fun t =>
      t.lphy l.val = { s.lphy l.val with leave := some (s.blockAfter l.val s.epoch, 6, 5), leaveAt := s.tb } ∧
      Raised t (pgLane l.val) (8 * (l.val % 4) + 6) ∧
      Others s.lphy t.lphy l.val ∧
      FieldsKept s t [(IRQ_STAT.BITS, pgLane l.val)] ∧
      t = { s with chip := { s.chip with regs := t.chip.regs, hostp := t.chip.hostp, lphy := t.chip.lphy } }) ∧
  (∀ (l : Fin 256) (s : State),
    (s.lphy l.val).ivErr < s.rd LANE_ERR_LIM.LIMIT l.val →
    Gives (.laneErrLimit l) s fun t =>
      t = s) ∧
  (∀ (l : Fin 256) (s : State),
    s.laneState l.val ≠ 5 ∨ s.rd LANE_ERR_LIM.LIMIT l.val = 0 ∨ ((s.lphy l.val).leave ≠ none ∧ (s.lphy l.val).leaveAt ≠ s.tb) →
    Gives (.laneErrLimit l) s fun t =>
      t = s)

/-- A lane's inbound blocks, its alignment and its entry into SERVICE. a header error is counted, and with 16 in the last 64 the lane loses block lock and leaves SERVICE for RETRAIN; 64 good headers in a row give block lock; a record in SERVICE is complete at the compare block with its stamp; NEGOTIATE takes the highest common version at the fourth VER block, ends with its refusals where there is none, and fixes the tick of the agreed rate at the eighth agreement; an ABORT block ends a training and a block of a reserved type or reason does nothing; a training request waits for the next outbound block, which moves the taps or refuses; the outbound blocks outside SERVICE are those that wait, those of the state and ALIGN_START before the entry tick; CAPS gives the partner and, with the round trip agreed and the own CAPS sent, completes the alignment; eight round trips that agree give RTT and CAPS; at its entry tick a lane enters SERVICE with its event and record. Where the rules leave room the clauses state the model's readings (log entries 3 and 17 to 20) -/
def Obligations.LaneLink : Prop :=
  (∀ (l : Fin 256) (hdr : BitVec 4) (payload : BitVec 128) (s : State),
    s.laneState l.val ≠ 2 ∨ (s.lphy l.val).toTrain.all (fun x => decide (s.tb < x)) = true →
    headerBad (s.rxHeader l.val hdr.toNat) = true →
    2 ≤ s.laneState l.val ∧ (s.on LANE_STAT.BLOCK_LOCK l.val = false ∨ ((true :: (s.lphy l.val).bad).take 64).countP (· == true) < 16) →
    Gives (.inboundBlock ⟨l.val, Nat.lt_trans l.isLt (by decide)⟩ hdr payload) s fun t =>
      t.rd LANE_ERR.HDR_ERR l.val = min 0xFFFF (s.rd LANE_ERR.HDR_ERR l.val + 1) ∧ t.rd LANE_STAT.SIG_DET l.val = 1 ∧ (t.lphy l.val).okRun = 0 ∧
      t.laneState l.val = s.laneState l.val ∧
      Others s.lphy t.lphy l.val ∧
      FieldsKept s t [(LANE_ERR.HDR_ERR, l.val), (LANE_STAT.SIG_DET, l.val)] ∧
      t = { s with chip := { s.chip with regs := t.chip.regs, lphy := t.chip.lphy } }) ∧
  (∀ (l : Fin 256) (hdr : BitVec 4) (payload : BitVec 128) (s : State),
    headerBad (s.rxHeader l.val hdr.toNat) = true →
    s.laneState l.val = 5 ∧ s.on LANE_STAT.BLOCK_LOCK l.val = true ∧ 16 ≤ ((true :: (s.lphy l.val).bad).take 64).countP (· == true) →
    (s.lphy l.val).leave = none →
    Gives (.inboundBlock ⟨l.val, Nat.lt_trans l.isLt (by decide)⟩ hdr payload) s fun t =>
      t.rd LANE_ERR.HDR_ERR l.val = min 0xFFFF (s.rd LANE_ERR.HDR_ERR l.val + 1) ∧ t.rd LANE_STAT.SIG_DET l.val = 1 ∧ (t.lphy l.val).okRun = 0 ∧
      t.rd LANE_STAT.BLOCK_LOCK l.val = 0 ∧ t.rd LANE_ERR.LOCK_LOSS l.val = min 0xFFFF (s.rd LANE_ERR.LOCK_LOSS l.val + 1) ∧
      (t.lphy l.val).leave = some (s.blockAfter l.val s.epoch, 6, 4) ∧ (t.lphy l.val).leaveAt = s.tb ∧
      Others s.lphy t.lphy l.val ∧
      FieldsKept s t [(LANE_ERR.HDR_ERR, l.val), (LANE_ERR.LOCK_LOSS, l.val), (LANE_STAT.SIG_DET, l.val), (LANE_STAT.BLOCK_LOCK, l.val)] ∧
      t = { s with chip := { s.chip with regs := t.chip.regs, lphy := t.chip.lphy } }) ∧
  (∀ (l : Fin 256) (hdr : BitVec 4) (payload : BitVec 128) (s : State),
    s.laneState l.val ≠ 2 ∨ (s.lphy l.val).toTrain.all (fun x => decide (s.tb < x)) = true →
    headerBad (s.rxHeader l.val hdr.toNat) = false →
    (s.rxHeader l.val hdr.toNat) ≠ 8 ∧ 2 ≤ s.laneState l.val ∧ s.laneState l.val ≠ 5 ∧ s.on LANE_STAT.BLOCK_LOCK l.val = false ∧ 63 ≤ (s.lphy l.val).okRun →
    Gives (.inboundBlock ⟨l.val, Nat.lt_trans l.isLt (by decide)⟩ hdr payload) s fun t =>
      t.rd LANE_STAT.BLOCK_LOCK l.val = 1 ∧ t.rd LANE_STAT.SIG_DET l.val = 1 ∧
      t.laneState l.val = s.laneState l.val ∧
      Others s.lphy t.lphy l.val ∧
      FieldsKept s t [(LANE_STAT.BLOCK_LOCK, l.val), (LANE_STAT.SIG_DET, l.val)] ∧
      t = { s with chip := { s.chip with regs := t.chip.regs, lphy := t.chip.lphy } }) ∧
  (∀ (l : Fin 256) (hdr : BitVec 4) (payload : BitVec 128) (s : State),
    headerBad (s.rxHeader l.val hdr.toNat) = false →
    s.on LANE_STAT.BLOCK_LOCK l.val = true ∧ ((false :: (s.lphy l.val).bad).take 64).countP (· == true) < 16 →
    s.laneState l.val = 5 ∧ (s.rxHeader l.val hdr.toNat) % 4 = 1 →
    Gives (.inboundBlock ⟨l.val, Nat.lt_trans l.isLt (by decide)⟩ hdr payload) s fun t =>
      (t.cmpl l.val).recs = (s.cmpl l.val).recs ++ [(s.now, (List.range 16).map (pbyte (s.descramble l.val (s.rxHeader l.val hdr.toNat) (s.rxPayload l.val payload.toNat)).1))] ∧ (t.cmpl l.val).cap = (s.cmpl l.val).cap ∧
      Others s.cmpl t.cmpl l.val ∧
      Others s.lphy t.lphy l.val ∧
      FieldsKept s t [(LANE_STAT.SIG_DET, l.val)] ∧
      t = { s with chip := { s.chip with regs := t.chip.regs, lphy := t.chip.lphy, cmpl := t.chip.cmpl } }) ∧
  (∀ (l : Fin 256) (hdr : BitVec 4) (payload : BitVec 128) (s : State),
    headerBad (s.rxHeader l.val hdr.toNat) = false →
    s.on LANE_STAT.BLOCK_LOCK l.val = true ∧ ((false :: (s.lphy l.val).bad).take 64).countP (· == true) < 16 →
    s.laneState l.val = 5 ∧ (s.rxHeader l.val hdr.toNat) % 4 = 2 ∧ (s.rxHeader l.val hdr.toNat) ≠ 8 →
    Gives (.inboundBlock ⟨l.val, Nat.lt_trans l.isLt (by decide)⟩ hdr payload) s fun t =>
      t.rd CMP_CNT_DISC.BAD_REC l.val = min 0xFF (s.rd CMP_CNT_DISC.BAD_REC l.val + 1) ∧
      Raised t (pgCmp (laneFacet l.val)) 25 ∧
      Others s.lphy t.lphy l.val ∧
      FieldsKept s t [(LANE_STAT.SIG_DET, l.val), (CMP_CNT_DISC.BAD_REC, l.val), (IRQ_STAT.BITS, pgCmp (laneFacet l.val))] ∧
      t = { s with chip := { s.chip with regs := t.chip.regs, hostp := t.chip.hostp, lphy := t.chip.lphy } }) ∧
  (∀ (l : Fin 256) (hdr : BitVec 4) (payload : BitVec 128) (s : State),
    headerBad (s.rxHeader l.val hdr.toNat) = false →
    s.on LANE_STAT.BLOCK_LOCK l.val = true ∧ ((false :: (s.lphy l.val).bad).take 64).countP (· == true) < 16 →
    s.laneState l.val = 5 ∧ (s.rxHeader l.val hdr.toNat) ≠ 8 ∧ (s.rxHeader l.val hdr.toNat) % 4 ≠ 1 ∧ (s.rxHeader l.val hdr.toNat) % 4 ≠ 2 →
    Gives (.inboundBlock ⟨l.val, Nat.lt_trans l.isLt (by decide)⟩ hdr payload) s fun t =>
      t.laneState l.val = s.laneState l.val ∧
      Others s.lphy t.lphy l.val ∧
      FieldsKept s t [(LANE_STAT.SIG_DET, l.val)] ∧
      t = { s with chip := { s.chip with regs := t.chip.regs, lphy := t.chip.lphy } }) ∧
  (∀ (l : Fin 256) (hdr : BitVec 4) (payload : BitVec 128) (s : State),
    s.laneState l.val ≠ 2 ∨ (s.lphy l.val).toTrain.all (fun x => decide (s.tb < x)) = true →
    (s.rxHeader l.val hdr.toNat) = 8 →
    s.on LANE_STAT.BLOCK_LOCK l.val = true ∧ ((false :: (s.lphy l.val).bad).take 64).countP (· == true) < 16 →
    s.laneState l.val ≠ 5 ∧ 2 ≤ s.laneState l.val ∧ pbyte (s.descramble l.val (s.rxHeader l.val hdr.toNat) (s.rxPayload l.val payload.toNat)).1 0 = 0x0F ∧ 1 ≤ pbyte (s.descramble l.val (s.rxHeader l.val hdr.toNat) (s.rxPayload l.val payload.toNat)).1 1 ∧ pbyte (s.descramble l.val (s.rxHeader l.val hdr.toNat) (s.rxPayload l.val payload.toNat)).1 1 ≤ 3 →
    Gives (.inboundBlock ⟨l.val, Nat.lt_trans l.isLt (by decide)⟩ hdr payload) s fun t =>
      t.laneState l.val = 1 ∧
      t.rd LANE_STAT.CAUSE l.val = 14 ∧
      (t.lphy l.val).tx = List.replicate 16 [0x0F, 3] ∧
      (t.lphy l.val).detFrom = some s.tb ∧ (t.lphy l.val).since = s.tb ∧ (t.lphy l.val).stored = none ∧ t.rd LANE_STAT.EQ_VALID l.val = 0 ∧ t.rd LANE_STAT.VER l.val = 0 ∧
      Raised t (pgLane l.val) (8 * (l.val % 4) + 3) ∧
      Recorded s t 3 l.val 0x0C04 ∧
      t.prodq = s.prodq ++ [{ prod := prodId 0xB l.val, st := s.now, gen := 0 }] ∧
      Others s.lphy t.lphy l.val ∧
      FieldsKept s t [(LANE_STAT.CAUSE, l.val), (LANE_STAT.STATE, l.val), (LANE_STAT.ADMIT_WAIT, l.val), (LANE_STAT.BLOCK_LOCK, l.val), (LANE_STAT.EQ_VALID, l.val), (LANE_STAT.VER, l.val), (IRQ_STAT.BITS, pgLane l.val), (LANE_STAT.SIG_DET, l.val)] ∧
      t = { s with chip := { s.chip with regs := t.chip.regs, hostp := t.chip.hostp, recs := t.chip.recs, prodq := t.chip.prodq, lphy := t.chip.lphy } }) ∧
  (∀ (l : Fin 256) (hdr : BitVec 4) (payload : BitVec 128) (s : State),
    s.laneState l.val ≠ 2 ∨ (s.lphy l.val).toTrain.all (fun x => decide (s.tb < x)) = true →
    (s.rxHeader l.val hdr.toNat) = 8 →
    s.on LANE_STAT.BLOCK_LOCK l.val = true ∧ ((false :: (s.lphy l.val).bad).take 64).countP (· == true) < 16 →
    (pbyte (s.descramble l.val (s.rxHeader l.val hdr.toNat) (s.rxPayload l.val payload.toNat)).1 0 = 0x0F ∧ (s.laneState l.val = 5 ∨ pbyte (s.descramble l.val (s.rxHeader l.val hdr.toNat) (s.rxPayload l.val payload.toNat)).1 1 = 0 ∨ 3 < pbyte (s.descramble l.val (s.rxHeader l.val hdr.toNat) (s.rxPayload l.val payload.toNat)).1 1)) ∨ (4 ≤ pbyte (s.descramble l.val (s.rxHeader l.val hdr.toNat) (s.rxPayload l.val payload.toNat)).1 0 ∧ pbyte (s.descramble l.val (s.rxHeader l.val hdr.toNat) (s.rxPayload l.val payload.toNat)).1 0 ≠ 0x0F ∧ pbyte (s.descramble l.val (s.rxHeader l.val hdr.toNat) (s.rxPayload l.val payload.toNat)).1 0 ≠ 5 ∧ pbyte (s.descramble l.val (s.rxHeader l.val hdr.toNat) (s.rxPayload l.val payload.toNat)).1 0 ≠ 8) ∨ pbyte (s.descramble l.val (s.rxHeader l.val hdr.toNat) (s.rxPayload l.val payload.toNat)).1 0 = 0 ∨ pbyte (s.descramble l.val (s.rxHeader l.val hdr.toNat) (s.rxPayload l.val payload.toNat)).1 0 = 3 →
    2 ≤ s.laneState l.val →
    Gives (.inboundBlock ⟨l.val, Nat.lt_trans l.isLt (by decide)⟩ hdr payload) s fun t =>
      (t.lphy l.val).tx = (s.lphy l.val).tx ∧
      t.laneState l.val = s.laneState l.val ∧
      Others s.lphy t.lphy l.val ∧
      FieldsKept s t [(LANE_STAT.SIG_DET, l.val)] ∧
      t = { s with chip := { s.chip with regs := t.chip.regs, lphy := t.chip.lphy } }) ∧
  (∀ (l : Fin 256) (hdr : BitVec 4) (payload : BitVec 128) (s : State),
    (s.lphy l.val).toTrain = none →
    (s.rxHeader l.val hdr.toNat) = 8 →
    s.on LANE_STAT.BLOCK_LOCK l.val = true ∧ ((false :: (s.lphy l.val).bad).take 64).countP (· == true) < 16 →
    s.laneState l.val = 2 ∧ pbyte (s.descramble l.val (s.rxHeader l.val hdr.toNat) (s.rxPayload l.val payload.toNat)).1 0 = 1 ∧ (pbyte (s.descramble l.val (s.rxHeader l.val hdr.toNat) (s.rxPayload l.val payload.toNat)).1 1) ≤ 7 ∧ (pbyte (s.descramble l.val (s.rxHeader l.val hdr.toNat) (s.rxPayload l.val payload.toNat)).1 2 ≤ 3 ∨ pbyte (s.descramble l.val (s.rxHeader l.val hdr.toNat) (s.rxPayload l.val payload.toNat)).1 2 = 0xFF) →
    (s.lphy l.val).sel = 0 ∧ (s.lphy l.val).vers = 3 ∧ commonVersion (s.lphy l.val).offer (pbyte (s.descramble l.val (s.rxHeader l.val hdr.toNat) (s.rxPayload l.val payload.toNat)).1 1) ≠ 0xFF →
    Gives (.inboundBlock ⟨l.val, Nat.lt_trans l.isLt (by decide)⟩ hdr payload) s fun t =>
      (t.lphy l.val).sel = commonVersion (s.lphy l.val).offer (pbyte (s.descramble l.val (s.rxHeader l.val hdr.toNat) (s.rxPayload l.val payload.toNat)).1 1) ∧ (t.lphy l.val).vers = 4 ∧ (t.lphy l.val).tx = (s.lphy l.val).tx ∧
      t.laneState l.val = 2 ∧
      Others s.lphy t.lphy l.val ∧
      FieldsKept s t [(LANE_STAT.SIG_DET, l.val)] ∧
      t = { s with chip := { s.chip with regs := t.chip.regs, lphy := t.chip.lphy } }) ∧
  (∀ (l : Fin 256) (hdr : BitVec 4) (payload : BitVec 128) (s : State),
    (s.lphy l.val).toTrain = none →
    (s.rxHeader l.val hdr.toNat) = 8 →
    s.on LANE_STAT.BLOCK_LOCK l.val = true ∧ ((false :: (s.lphy l.val).bad).take 64).countP (· == true) < 16 →
    s.laneState l.val = 2 ∧ pbyte (s.descramble l.val (s.rxHeader l.val hdr.toNat) (s.rxPayload l.val payload.toNat)).1 0 = 1 ∧ (pbyte (s.descramble l.val (s.rxHeader l.val hdr.toNat) (s.rxPayload l.val payload.toNat)).1 1) ≤ 7 ∧ (pbyte (s.descramble l.val (s.rxHeader l.val hdr.toNat) (s.rxPayload l.val payload.toNat)).1 2 ≤ 3 ∨ pbyte (s.descramble l.val (s.rxHeader l.val hdr.toNat) (s.rxPayload l.val payload.toNat)).1 2 = 0xFF) →
    (s.lphy l.val).sel = 0 ∧ (s.lphy l.val).vers = 3 ∧ commonVersion (s.lphy l.val).offer (pbyte (s.descramble l.val (s.rxHeader l.val hdr.toNat) (s.rxPayload l.val payload.toNat)).1 1) = 0xFF →
    Gives (.inboundBlock ⟨l.val, Nat.lt_trans l.isLt (by decide)⟩ hdr payload) s fun t =>
      t.laneState l.val = 1 ∧
      t.rd LANE_STAT.CAUSE l.val = 9 ∧
      (t.lphy l.val).tx = List.replicate 16 [0x01, (s.lphy l.val).offer, 0xFF] ++ List.replicate 16 [0x0F, 2] ∧ (t.lphy l.val).rate = 8 ∧
      Raised t (pgLane l.val) (8 * (l.val % 4) + 3) ∧
      Recorded s t 3 l.val 0x0C04 ∧
      t.prodq = s.prodq ++ [{ prod := prodId 0xB l.val, st := s.now, gen := 0 }] ∧
      Others s.lphy t.lphy l.val ∧
      FieldsKept s t [(LANE_STAT.CAUSE, l.val), (LANE_STAT.STATE, l.val), (LANE_STAT.ADMIT_WAIT, l.val), (LANE_STAT.BLOCK_LOCK, l.val), (LANE_STAT.EQ_VALID, l.val), (LANE_STAT.VER, l.val), (IRQ_STAT.BITS, pgLane l.val), (LANE_STAT.SIG_DET, l.val)] ∧
      t = { s with chip := { s.chip with regs := t.chip.regs, hostp := t.chip.hostp, recs := t.chip.recs, prodq := t.chip.prodq, lphy := t.chip.lphy } }) ∧
  (∀ (l : Fin 256) (hdr : BitVec 4) (payload : BitVec 128) (s : State),
    (s.lphy l.val).toTrain = none →
    (s.rxHeader l.val hdr.toNat) = 8 →
    s.on LANE_STAT.BLOCK_LOCK l.val = true ∧ ((false :: (s.lphy l.val).bad).take 64).countP (· == true) < 16 →
    s.laneState l.val = 2 ∧ pbyte (s.descramble l.val (s.rxHeader l.val hdr.toNat) (s.rxPayload l.val payload.toNat)).1 0 = 1 ∧ (pbyte (s.descramble l.val (s.rxHeader l.val hdr.toNat) (s.rxPayload l.val payload.toNat)).1 1) ≤ 7 ∧ (pbyte (s.descramble l.val (s.rxHeader l.val hdr.toNat) (s.rxPayload l.val payload.toNat)).1 2 ≤ 3 ∨ pbyte (s.descramble l.val (s.rxHeader l.val hdr.toNat) (s.rxPayload l.val payload.toNat)).1 2 = 0xFF) →
    (s.lphy l.val).sel = 0 ∧ (s.lphy l.val).vers < 3 →
    Gives (.inboundBlock ⟨l.val, Nat.lt_trans l.isLt (by decide)⟩ hdr payload) s fun t =>
      (t.lphy l.val).vers = (s.lphy l.val).vers + 1 ∧ (t.lphy l.val).sel = 0 ∧
      t.laneState l.val = s.laneState l.val ∧
      Others s.lphy t.lphy l.val ∧
      FieldsKept s t [(LANE_STAT.SIG_DET, l.val)] ∧
      t = { s with chip := { s.chip with regs := t.chip.regs, lphy := t.chip.lphy } }) ∧
  (∀ (l : Fin 256) (hdr : BitVec 4) (payload : BitVec 128) (s : State),
    (s.lphy l.val).toTrain = none →
    (s.rxHeader l.val hdr.toNat) = 8 →
    s.on LANE_STAT.BLOCK_LOCK l.val = true ∧ ((false :: (s.lphy l.val).bad).take 64).countP (· == true) < 16 →
    s.laneState l.val = 2 ∧ pbyte (s.descramble l.val (s.rxHeader l.val hdr.toNat) (s.rxPayload l.val payload.toNat)).1 0 = 1 ∧ (pbyte (s.descramble l.val (s.rxHeader l.val hdr.toNat) (s.rxPayload l.val payload.toNat)).1 1) ≤ 7 ∧ (pbyte (s.descramble l.val (s.rxHeader l.val hdr.toNat) (s.rxPayload l.val payload.toNat)).1 2 ≤ 3 ∨ pbyte (s.descramble l.val (s.rxHeader l.val hdr.toNat) (s.rxPayload l.val payload.toNat)).1 2 = 0xFF) →
    (s.lphy l.val).sel ≠ 0 ∧ (s.lphy l.val).agree = 7 ∧ pbyte (s.descramble l.val (s.rxHeader l.val hdr.toNat) (s.rxPayload l.val payload.toNat)).1 2 = (s.lphy l.val).sel →
    Gives (.inboundBlock ⟨l.val, Nat.lt_trans l.isLt (by decide)⟩ hdr payload) s fun t =>
      (t.lphy l.val).agree = 8 ∧ (t.lphy l.val).toTrain = some (s.tb + (8 - s.epoch % 8) + 128) ∧
      t.laneState l.val = s.laneState l.val ∧
      Others s.lphy t.lphy l.val ∧
      FieldsKept s t [(LANE_STAT.SIG_DET, l.val)] ∧
      t = { s with chip := { s.chip with regs := t.chip.regs, lphy := t.chip.lphy } }) ∧
  (∀ (l : Fin 256) (hdr : BitVec 4) (payload : BitVec 128) (s : State),
    (s.lphy l.val).toTrain = none →
    (s.rxHeader l.val hdr.toNat) = 8 →
    s.on LANE_STAT.BLOCK_LOCK l.val = true ∧ ((false :: (s.lphy l.val).bad).take 64).countP (· == true) < 16 →
    s.laneState l.val = 2 ∧ pbyte (s.descramble l.val (s.rxHeader l.val hdr.toNat) (s.rxPayload l.val payload.toNat)).1 0 = 1 ∧ (pbyte (s.descramble l.val (s.rxHeader l.val hdr.toNat) (s.rxPayload l.val payload.toNat)).1 1) ≤ 7 ∧ (pbyte (s.descramble l.val (s.rxHeader l.val hdr.toNat) (s.rxPayload l.val payload.toNat)).1 2 ≤ 3 ∨ pbyte (s.descramble l.val (s.rxHeader l.val hdr.toNat) (s.rxPayload l.val payload.toNat)).1 2 = 0xFF) →
    (s.lphy l.val).sel ≠ 0 ∧ pbyte (s.descramble l.val (s.rxHeader l.val hdr.toNat) (s.rxPayload l.val payload.toNat)).1 2 ≠ (s.lphy l.val).sel →
    Gives (.inboundBlock ⟨l.val, Nat.lt_trans l.isLt (by decide)⟩ hdr payload) s fun t =>
      (t.lphy l.val).agree = 0 ∧ (t.lphy l.val).toTrain = none ∧
      t.laneState l.val = s.laneState l.val ∧
      Others s.lphy t.lphy l.val ∧
      FieldsKept s t [(LANE_STAT.SIG_DET, l.val)] ∧
      t = { s with chip := { s.chip with regs := t.chip.regs, lphy := t.chip.lphy } }) ∧
  (∀ (l : Fin 256) (hdr : BitVec 4) (payload : BitVec 128) (s : State),
    (s.rxHeader l.val hdr.toNat) = 8 →
    s.on LANE_STAT.BLOCK_LOCK l.val = true ∧ ((false :: (s.lphy l.val).bad).take 64).countP (· == true) < 16 →
    (s.laneState l.val = 3 ∨ s.laneState l.val = 6) ∧ pbyte (s.descramble l.val (s.rxHeader l.val hdr.toNat) (s.rxPayload l.val payload.toNat)).1 0 = 2 ∧ bits (pbyte (s.descramble l.val (s.rxHeader l.val hdr.toNat) (s.rxPayload l.val payload.toNat)).1 1) 0 2 ≠ 3 ∧ bits (pbyte (s.descramble l.val (s.rxHeader l.val hdr.toNat) (s.rxPayload l.val payload.toNat)).1 1) 2 2 ≠ 3 ∧ pbyte (s.descramble l.val (s.rxHeader l.val hdr.toNat) (s.rxPayload l.val payload.toNat)).1 2 ≠ (s.lphy l.val).ack →
    Gives (.inboundBlock ⟨l.val, Nat.lt_trans l.isLt (by decide)⟩ hdr payload) s fun t =>
      (t.lphy l.val).req = some (bits (pbyte (s.descramble l.val (s.rxHeader l.val hdr.toNat) (s.rxPayload l.val payload.toNat)).1 1) 0 2, bits (pbyte (s.descramble l.val (s.rxHeader l.val hdr.toNat) (s.rxPayload l.val payload.toNat)).1 1) 2 2, pbyte (s.descramble l.val (s.rxHeader l.val hdr.toNat) (s.rxPayload l.val payload.toNat)).1 2) ∧ (t.lphy l.val).rdy = bit (pbyte (s.descramble l.val (s.rxHeader l.val hdr.toNat) (s.rxPayload l.val payload.toNat)).1 1) 4 ∧
      t.laneState l.val = s.laneState l.val ∧
      Others s.lphy t.lphy l.val ∧
      FieldsKept s t [(LANE_STAT.SIG_DET, l.val)] ∧
      t = { s with chip := { s.chip with regs := t.chip.regs, lphy := t.chip.lphy } }) ∧
  (∀ (l : Fin 256) (hdr : BitVec 4) (payload : BitVec 128) (s : State),
    (s.rxHeader l.val hdr.toNat) = 8 →
    s.on LANE_STAT.BLOCK_LOCK l.val = true ∧ ((false :: (s.lphy l.val).bad).take 64).countP (· == true) < 16 →
    (s.laneState l.val = 3 ∨ s.laneState l.val = 6) ∧ pbyte (s.descramble l.val (s.rxHeader l.val hdr.toNat) (s.rxPayload l.val payload.toNat)).1 0 = 2 ∧ bits (pbyte (s.descramble l.val (s.rxHeader l.val hdr.toNat) (s.rxPayload l.val payload.toNat)).1 1) 0 2 ≠ 3 ∧ bits (pbyte (s.descramble l.val (s.rxHeader l.val hdr.toNat) (s.rxPayload l.val payload.toNat)).1 1) 2 2 ≠ 3 ∧ pbyte (s.descramble l.val (s.rxHeader l.val hdr.toNat) (s.rxPayload l.val payload.toNat)).1 2 = (s.lphy l.val).ack →
    Gives (.inboundBlock ⟨l.val, Nat.lt_trans l.isLt (by decide)⟩ hdr payload) s fun t =>
      (t.lphy l.val).req = (s.lphy l.val).req ∧ (t.lphy l.val).rdy = bit (pbyte (s.descramble l.val (s.rxHeader l.val hdr.toNat) (s.rxPayload l.val payload.toNat)).1 1) 4 ∧
      t.laneState l.val = s.laneState l.val ∧
      Others s.lphy t.lphy l.val ∧
      FieldsKept s t [(LANE_STAT.SIG_DET, l.val)] ∧
      t = { s with chip := { s.chip with regs := t.chip.regs, lphy := t.chip.lphy } }) ∧
  (∀ (l : Fin 256) (hdr : BitVec 4) (payload : BitVec 128) (s : State),
    (s.rxHeader l.val hdr.toNat) = 8 →
    s.on LANE_STAT.BLOCK_LOCK l.val = true ∧ ((false :: (s.lphy l.val).bad).take 64).countP (· == true) < 16 →
    s.laneState l.val = 6 ∧ pbyte (s.descramble l.val (s.rxHeader l.val hdr.toNat) (s.rxPayload l.val payload.toNat)).1 0 = 8 →
    Gives (.inboundBlock ⟨l.val, Nat.lt_trans l.isLt (by decide)⟩ hdr payload) s fun t =>
      (t.lphy l.val).rdy = bit (s.descramble l.val (s.rxHeader l.val hdr.toNat) (s.rxPayload l.val payload.toNat)).1 12 ∧
      t.laneState l.val = s.laneState l.val ∧
      Others s.lphy t.lphy l.val ∧
      FieldsKept s t [(LANE_STAT.SIG_DET, l.val)] ∧
      t = { s with chip := { s.chip with regs := t.chip.regs, lphy := t.chip.lphy } }) ∧
  (∀ (l : Fin 256) (pre post : Fin 3) (seq : Nat) (s : State),
    s.laneState l.val = 3 ∧ s.epoch % (s.lphy l.val).rate = 0 →
    (s.lphy l.val).req = some (pre.val, post.val, seq) ∧ (pre.val = 0 ∨ post.val = 0) ∧ (pre.val = 1 → s.rd LANE_EQ_TX.CPRE l.val < 7) ∧ (pre.val = 2 → 0 < s.rd LANE_EQ_TX.CPRE l.val) ∧ (post.val = 1 → s.rd LANE_EQ_TX.CPOST l.val < 15) ∧ (post.val = 2 → 0 < s.rd LANE_EQ_TX.CPOST l.val) →
    Gives (.laneOutputTick l) s fun t =>
      (t.rd LANE_EQ_TX.CPRE l.val = (s.rd LANE_EQ_TX.CPRE l.val + (if pre.val = 1 then 1 else 0) - (if pre.val = 2 then 1 else 0)) % 2 ^ 3 ∧ t.rd LANE_EQ_TX.CPOST l.val = (s.rd LANE_EQ_TX.CPOST l.val + (if post.val = 1 then 1 else 0) - (if post.val = 2 then 1 else 0)) % 2 ^ 4) ∧
      (t.lphy l.val).req = none ∧ (t.lphy l.val).ack = seq ∧ (t.lphy l.val).nak = false ∧
      Others s.lphy t.lphy l.val) ∧
  (∀ (l : Fin 256) (pre post : Fin 3) (seq : Nat) (s : State),
    s.laneState l.val = 3 ∧ s.epoch % (s.lphy l.val).rate = 0 →
    (s.lphy l.val).req = some (pre.val, post.val, seq) ∧ ((pre.val ≠ 0 ∧ post.val ≠ 0) ∨ (pre.val = 1 ∧ 7 ≤ s.rd LANE_EQ_TX.CPRE l.val) ∨ (pre.val = 2 ∧ s.rd LANE_EQ_TX.CPRE l.val = 0) ∨ (post.val = 1 ∧ 15 ≤ s.rd LANE_EQ_TX.CPOST l.val) ∨ (post.val = 2 ∧ s.rd LANE_EQ_TX.CPOST l.val = 0)) →
    Gives (.laneOutputTick l) s fun t =>
      t.rd LANE_EQ_TX.CPRE l.val = s.rd LANE_EQ_TX.CPRE l.val ∧ t.rd LANE_EQ_TX.CPOST l.val = s.rd LANE_EQ_TX.CPOST l.val ∧ t.rd LANE_EQ_TX.CMAIN l.val = s.rd LANE_EQ_TX.CMAIN l.val ∧
      (t.lphy l.val).req = none ∧ (t.lphy l.val).ack = seq ∧ (t.lphy l.val).nak = true ∧
      Others s.lphy t.lphy l.val) ∧
  (∀ (l : Fin 256) (b : List Nat) (rest : List (List Nat)) (s : State),
    (s.laneState l.val = 1 ∨ s.laneState l.val = 3 ∨ s.laneState l.val = 6) ∧ s.epoch % (s.lphy l.val).rate = 0 ∧ (s.lphy l.val).req = none ∧ (s.lphy l.val).entry = none →
    (s.lphy l.val).tx = b :: rest →
    Gives (.laneOutputTick l) s fun t =>
      (t.out.contains (.block l.val s.epoch (s.rdAt LANE_CFG.TX_DESKEW l.val s.epoch) (if s.rdAt LANE_CFG.TX_POL l.val s.epoch = 1 then 2 ^ 132 - 1 - (8 + 16 * (payloadOf b ^^^ (lfsrRun 128 lfsrSeed).1)) else 8 + 16 * (payloadOf b ^^^ (lfsrRun 128 lfsrSeed).1))) = true) ∧
      (t.lphy l.val).tx = rest ∧
      Others s.lphy t.lphy l.val) ∧
  (∀ (l : Fin 256) (b : List Nat) (s : State),
    2 < s.laneState l.val ∧ s.laneState l.val ≠ 5 ∧ s.epoch % (s.lphy l.val).rate = 0 ∧ (s.lphy l.val).req = none ∧ (s.lphy l.val).entry = none →
    (s.lphy l.val).tx = [] ∧ s.fillBlock l.val = some b →
    Gives (.laneOutputTick l) s fun t =>
      (t.out.contains (.block l.val s.epoch (s.rdAt LANE_CFG.TX_DESKEW l.val s.epoch) (if s.rdAt LANE_CFG.TX_POL l.val s.epoch = 1 then 2 ^ 132 - 1 - (8 + 16 * (payloadOf b ^^^ (lfsrRun 128 lfsrSeed).1)) else 8 + 16 * (payloadOf b ^^^ (lfsrRun 128 lfsrSeed).1))) = true) ∧
      Others s.lphy t.lphy l.val) ∧
  (∀ (l : Fin 256) (d : Nat) (s : State),
    (s.laneState l.val = 4 ∨ s.laneState l.val = 6) ∧ s.epoch % (s.lphy l.val).rate = 0 ∧ (s.lphy l.val).req = none →
    (s.lphy l.val).entry = some d ∧ d = s.epoch + (s.lphy l.val).rate →
    Gives (.laneOutputTick l) s fun t =>
      (t.out.contains (.block l.val s.epoch (s.rdAt LANE_CFG.TX_DESKEW l.val s.epoch) (if s.rdAt LANE_CFG.TX_POL l.val s.epoch = 1 then 2 ^ 132 - 1 - (8 + 16 * (payloadOf (s.joinBlock l.val d) ^^^ (lfsrRun 128 lfsrSeed).1)) else 8 + 16 * (payloadOf (s.joinBlock l.val d) ^^^ (lfsrRun 128 lfsrSeed).1))) = true) ∧
      Others s.lphy t.lphy l.val) ∧
  (∀ (l : Fin 256) (hdr : BitVec 4) (payload : BitVec 128) (s : State),
    (s.rxHeader l.val hdr.toNat) = 8 →
    s.on LANE_STAT.BLOCK_LOCK l.val = true ∧ ((false :: (s.lphy l.val).bad).take 64).countP (· == true) < 16 →
    s.laneState l.val = 4 ∧ pbyte (s.descramble l.val (s.rxHeader l.val hdr.toNat) (s.rxPayload l.val payload.toNat)).1 0 = 5 ∧ (s.lphy l.val).agreed = false ∧ capsBad (s.descramble l.val (s.rxHeader l.val hdr.toNat) (s.rxPayload l.val payload.toNat)).1 = false →
    Gives (.inboundBlock ⟨l.val, Nat.lt_trans l.isLt (by decide)⟩ hdr payload) s fun t =>
      t.rd LANE_PARTNER_ID_LO.ID l.val = bits (s.descramble l.val (s.rxHeader l.val hdr.toNat) (s.rxPayload l.val payload.toNat)).1 16 32 ∧ t.rd LANE_PARTNER_ID_HI.ID l.val = bits (s.descramble l.val (s.rxHeader l.val hdr.toNat) (s.rxPayload l.val payload.toNat)).1 48 32 ∧ t.rd LANE_PARTNER_CAP.CAP l.val = bits (s.descramble l.val (s.rxHeader l.val hdr.toNat) (s.rxPayload l.val payload.toNat)).1 80 32 ∧ t.rd LANE_TURN.TURN l.val = bits (s.descramble l.val (s.rxHeader l.val hdr.toNat) (s.rxPayload l.val payload.toNat)).1 112 16 ∧
      (t.lphy l.val).caps = true ∧
      Others s.lphy t.lphy l.val ∧
      FieldsKept s t [(LANE_PARTNER_ID_LO.ID, l.val), (LANE_PARTNER_ID_HI.ID, l.val), (LANE_PARTNER_CAP.CAP, l.val), (LANE_TURN.TURN, l.val), (LANE_STAT.SIG_DET, l.val)] ∧
      t = { s with chip := { s.chip with regs := t.chip.regs, lphy := t.chip.lphy } }) ∧
  (∀ (l : Fin 256) (hdr : BitVec 4) (payload : BitVec 128) (s : State),
    (s.rxHeader l.val hdr.toNat) = 8 →
    s.on LANE_STAT.BLOCK_LOCK l.val = true ∧ ((false :: (s.lphy l.val).bad).take 64).countP (· == true) < 16 →
    s.laneState l.val = 4 ∧ pbyte (s.descramble l.val (s.rxHeader l.val hdr.toNat) (s.rxPayload l.val payload.toNat)).1 0 = 5 ∧ capsBad (s.descramble l.val (s.rxHeader l.val hdr.toNat) (s.rxPayload l.val payload.toNat)).1 = true →
    Gives (.inboundBlock ⟨l.val, Nat.lt_trans l.isLt (by decide)⟩ hdr payload) s fun t =>
      (t.lphy l.val).caps = (s.lphy l.val).caps ∧
      t.laneState l.val = s.laneState l.val ∧
      Others s.lphy t.lphy l.val ∧
      FieldsKept s t [(LANE_STAT.SIG_DET, l.val)] ∧
      t = { s with chip := { s.chip with regs := t.chip.regs, lphy := t.chip.lphy } }) ∧
  (∀ (l : Fin 256) (hdr : BitVec 4) (payload : BitVec 128) (s : State),
    (s.rxHeader l.val hdr.toNat) = 8 →
    s.on LANE_STAT.BLOCK_LOCK l.val = true ∧ ((false :: (s.lphy l.val).bad).take 64).countP (· == true) < 16 →
    s.laneState l.val = 4 ∧ pbyte (s.descramble l.val (s.rxHeader l.val hdr.toNat) (s.rxPayload l.val payload.toNat)).1 0 = 5 ∧ (s.lphy l.val).agreed = true ∧ capsBad (s.descramble l.val (s.rxHeader l.val hdr.toNat) (s.rxPayload l.val payload.toNat)).1 = false ∧ (s.lphy l.val).tx = [] ∧ (s.lphy l.val).entry = none ∧ s.on LANE_STAT.ADMIT_WAIT l.val = false →
    s.rdA LANE_CFG.ATTACH l.val = 0 →
    Gives (.inboundBlock ⟨l.val, Nat.lt_trans l.isLt (by decide)⟩ hdr payload) s fun t =>
      t.rd LANE_PARTNER_ID_LO.ID l.val = bits (s.descramble l.val (s.rxHeader l.val hdr.toNat) (s.rxPayload l.val payload.toNat)).1 16 32 ∧ t.rd LANE_PARTNER_ID_HI.ID l.val = bits (s.descramble l.val (s.rxHeader l.val hdr.toNat) (s.rxPayload l.val payload.toNat)).1 48 32 ∧ t.rd LANE_PARTNER_CAP.CAP l.val = bits (s.descramble l.val (s.rxHeader l.val hdr.toNat) (s.rxPayload l.val payload.toNat)).1 80 32 ∧ t.rd LANE_TURN.TURN l.val = bits (s.descramble l.val (s.rxHeader l.val hdr.toNat) (s.rxPayload l.val payload.toNat)).1 112 16 ∧
      (t.lphy l.val).caps = true ∧ (t.lphy l.val).entry = some (ceilTo (s.laneGran l.val) (s.epoch + s.laneBlock l.val)) ∧
      ((s.lphy l.val).held ≠ some (bits (s.descramble l.val (s.rxHeader l.val hdr.toNat) (s.rxPayload l.val payload.toNat)).1 16 32 + 2 ^ 32 * bits (s.descramble l.val (s.rxHeader l.val hdr.toNat) (s.rxPayload l.val payload.toNat)).1 48 32) → Raised t (pgLane l.val) (8 * (l.val % 4) + 5)) ∧
      Others s.lphy t.lphy l.val ∧
      FieldsKept s t [(LANE_PARTNER_ID_LO.ID, l.val), (LANE_PARTNER_ID_HI.ID, l.val), (LANE_PARTNER_CAP.CAP, l.val), (LANE_TURN.TURN, l.val), (LANE_STAT.SIG_DET, l.val), (LANE_STAT.ADMIT_WAIT, l.val), (IRQ_STAT.BITS, pgLane l.val)] ∧
      t = { s with chip := { s.chip with regs := t.chip.regs, hostp := t.chip.hostp, lphy := t.chip.lphy } }) ∧
  (∀ (l : Fin 256) (hdr : BitVec 4) (payload : BitVec 128) (s : State),
    (s.rxHeader l.val hdr.toNat) = 8 →
    s.on LANE_STAT.BLOCK_LOCK l.val = true ∧ ((false :: (s.lphy l.val).bad).take 64).countP (· == true) < 16 →
    s.laneState l.val = 4 ∧ pbyte (s.descramble l.val (s.rxHeader l.val hdr.toNat) (s.rxPayload l.val payload.toNat)).1 0 = 5 ∧ (s.lphy l.val).agreed = true ∧ capsBad (s.descramble l.val (s.rxHeader l.val hdr.toNat) (s.rxPayload l.val payload.toNat)).1 = false ∧ (s.lphy l.val).tx = [] ∧ (s.lphy l.val).entry = none ∧ s.on LANE_STAT.ADMIT_WAIT l.val = false →
    s.rdA LANE_CFG.ATTACH l.val ≠ 0 →
    Gives (.inboundBlock ⟨l.val, Nat.lt_trans l.isLt (by decide)⟩ hdr payload) s fun t =>
      t.rd LANE_PARTNER_ID_LO.ID l.val = bits (s.descramble l.val (s.rxHeader l.val hdr.toNat) (s.rxPayload l.val payload.toNat)).1 16 32 ∧ t.rd LANE_PARTNER_ID_HI.ID l.val = bits (s.descramble l.val (s.rxHeader l.val hdr.toNat) (s.rxPayload l.val payload.toNat)).1 48 32 ∧ t.rd LANE_PARTNER_CAP.CAP l.val = bits (s.descramble l.val (s.rxHeader l.val hdr.toNat) (s.rxPayload l.val payload.toNat)).1 80 32 ∧ t.rd LANE_TURN.TURN l.val = bits (s.descramble l.val (s.rxHeader l.val hdr.toNat) (s.rxPayload l.val payload.toNat)).1 112 16 ∧
      (t.lphy l.val).caps = true ∧ (t.lphy l.val).entry = none ∧ t.rd LANE_STAT.ADMIT_WAIT l.val = 1 ∧
      Raised t (pgLane l.val) (8 * (l.val % 4) + 4) ∧
      ((s.lphy l.val).held ≠ some (bits (s.descramble l.val (s.rxHeader l.val hdr.toNat) (s.rxPayload l.val payload.toNat)).1 16 32 + 2 ^ 32 * bits (s.descramble l.val (s.rxHeader l.val hdr.toNat) (s.rxPayload l.val payload.toNat)).1 48 32) → Raised t (pgLane l.val) (8 * (l.val % 4) + 5)) ∧
      Others s.lphy t.lphy l.val ∧
      FieldsKept s t [(LANE_PARTNER_ID_LO.ID, l.val), (LANE_PARTNER_ID_HI.ID, l.val), (LANE_PARTNER_CAP.CAP, l.val), (LANE_TURN.TURN, l.val), (LANE_STAT.SIG_DET, l.val), (LANE_STAT.ADMIT_WAIT, l.val), (IRQ_STAT.BITS, pgLane l.val)] ∧
      t = { s with chip := { s.chip with regs := t.chip.regs, hostp := t.chip.hostp, lphy := t.chip.lphy } }) ∧
  (∀ (l : Fin 256) (hdr : BitVec 4) (payload : BitVec 128) (s : State),
    s.laneState l.val < 2 →
    Gives (.inboundBlock ⟨l.val, Nat.lt_trans l.isLt (by decide)⟩ hdr payload) s fun t =>
      t = s) ∧
  (∀ (l : Fin 4) (hdr : BitVec 4) (payload : BitVec 128) (s : State),
    s.portState (decide (2 ≤ l.val)) = 2 →
    (((headerBad hdr.toNat) :: (if l.val % 2 = 0 then (s.casPort (portNo (decide (2 ≤ l.val)))).hdrs0 else (s.casPort (portNo (decide (2 ≤ l.val)))).hdrs1)).take 64 |>.filter id).length < 16 →
    Gives (.inboundBlock ⟨256 + l.val, by omega⟩ hdr payload) s fun t =>
      ((if l.val % 2 = 0 then (t.casPort (portNo (decide (2 ≤ l.val)))).hdrs0.head? else (t.casPort (portNo (decide (2 ≤ l.val)))).hdrs1.head?) = some (headerBad hdr.toNat)) ∧
      Others s.casPort t.casPort (portNo (decide (2 ≤ l.val))) ∧
      t = { s with chip := { s.chip with casPort := t.chip.casPort } }) ∧
  (∀ (l : Fin 256) (s : State),
    (s.lphy l.val).rdy = true ∧ s.on LANE_STAT.BLOCK_LOCK l.val = true →
    s.laneState l.val = 3 ∧ s.eyeHeld l.val 50000 = true →
    Gives (.laneEyeCriteriaMet l) s fun t =>
      t.laneState l.val = 4 ∧
      (t.lphy l.val).since = s.tb ∧ (t.lphy l.val).round = 0 ∧ (t.lphy l.val).asked.length = 8 ∧ (t.lphy l.val).rtts = [] ∧ (t.lphy l.val).agreed = false ∧
      t.prodq = s.prodq ++ [{ prod := prodId 0xB l.val, st := s.now, gen := 0 }] ∧
      ((t.lphy l.val).tx = ((List.range 8).map fun n => [0x03, ((s.lphy l.val).probe + n) % 256, (if n = 0 then (s.lphy l.val).probe else ((s.lphy l.val).probe + n) % 65536) / 256]) ∧ (t.lphy l.val).rate = s.laneBlock l.val) ∧
      Others s.lphy t.lphy l.val ∧
      FieldsKept s t [(LANE_STAT.STATE, l.val), (LANE_STAT.ADMIT_WAIT, l.val)] ∧
      t = { s with chip := { s.chip with regs := t.chip.regs, hostp := t.chip.hostp, prodq := t.chip.prodq, lphy := t.chip.lphy } }) ∧
  (∀ (l : Fin 256) (s : State),
    (s.lphy l.val).rdy = true ∧ s.on LANE_STAT.BLOCK_LOCK l.val = true →
    s.laneState l.val = 6 ∧ s.eyeHeld l.val 500 = true ∧ (s.lphy l.val).asked = [] ∧ (s.lphy l.val).entry = none →
    Gives (.laneEyeCriteriaMet l) s fun t =>
      (t.lphy l.val).asked = [(s.lphy l.val).probe] ∧
      (t.lphy l.val).tx = (s.lphy l.val).tx ++ [[0x03, (s.lphy l.val).probe % 256, (s.lphy l.val).probe / 256]] ∧
      t.laneState l.val = 6 ∧
      Others s.lphy t.lphy l.val ∧
      t = { s with chip := { s.chip with lphy := t.chip.lphy } }) ∧
  (∀ (l : Fin 256) (s : State),
    (s.lphy l.val).rdy = false ∨ s.on LANE_STAT.BLOCK_LOCK l.val = false ∨ (s.laneState l.val ≠ 3 ∧ s.laneState l.val ≠ 6) ∨ (s.laneState l.val = 3 ∧ s.eyeHeld l.val 50000 = false) ∨ (s.laneState l.val = 6 ∧ (s.eyeHeld l.val 500 = false ∨ (s.lphy l.val).asked ≠ [] ∨ (s.lphy l.val).entry ≠ none)) →
    Gives (.laneEyeCriteriaMet l) s fun t =>
      t = s) ∧
  (∀ (l : Fin 256) (id : BitVec 16) (rtt : BitVec 32) (s : State),
    (s.lphy l.val).asked.contains id.toNat = true ∧ (s.lphy l.val).entry = none →
    s.laneState l.val = 4 ∧ ((s.lphy l.val).rtts ++ [rtt.toNat]).length < 8 →
    Gives (.laneEchoReceive l id rtt) s fun t =>
      t.lphy l.val = { s.lphy l.val with asked := (s.lphy l.val).asked.filter (· != id.toNat), rtts := ((s.lphy l.val).rtts ++ [rtt.toNat]) } ∧
      Others s.lphy t.lphy l.val ∧
      t = { s with chip := { s.chip with lphy := t.chip.lphy } }) ∧
  (∀ (l : Fin 256) (id : BitVec 16) (rtt : BitVec 32) (s : State),
    (s.lphy l.val).asked.contains id.toNat = true ∧ (s.lphy l.val).entry = none →
    s.laneState l.val = 4 ∧ 8 ≤ ((s.lphy l.val).rtts ++ [rtt.toNat]).length ∧ ((s.lphy l.val).rtts ++ [rtt.toNat]).foldl max 0 - ((s.lphy l.val).rtts ++ [rtt.toNat]).foldl min rtt.toNat ≤ 64 →
    Gives (.laneEchoReceive l id rtt) s fun t =>
      t.rd LANE_RTT.RTT l.val = rttMean ((s.lphy l.val).rtts ++ [rtt.toNat]) % 2 ^ 32 ∧ (t.lphy l.val).agreed = true ∧
      ((t.lphy l.val).tx = (s.lphy l.val).tx ++ [0x05 :: s.rdA LANE_CFG.VER_MASK l.val :: (List.range 8).map (fun k => bits Config.devid (8 * k) 8) ++ [s.rdA LANE_CFG.VER_MASK l.val]]) ∧
      t.laneState l.val = 4 ∧
      Others s.lphy t.lphy l.val ∧
      FieldsKept s t [(LANE_RTT.RTT, l.val)] ∧
      t = { s with chip := { s.chip with regs := t.chip.regs, lphy := t.chip.lphy } }) ∧
  (∀ (l : Fin 256) (id : BitVec 16) (rtt : BitVec 32) (s : State),
    (s.lphy l.val).asked.contains id.toNat = true ∧ (s.lphy l.val).entry = none →
    s.laneState l.val = 4 ∧ 8 ≤ ((s.lphy l.val).rtts ++ [rtt.toNat]).length ∧ 64 < ((s.lphy l.val).rtts ++ [rtt.toNat]).foldl max 0 - ((s.lphy l.val).rtts ++ [rtt.toNat]).foldl min rtt.toNat ∧ (s.lphy l.val).round < 2 →
    Gives (.laneEchoReceive l id rtt) s fun t =>
      (t.lphy l.val).round = (s.lphy l.val).round + 1 ∧ (t.lphy l.val).asked.length = 8 ∧ (t.lphy l.val).rtts = [] ∧
      t.laneState l.val = 4 ∧
      Others s.lphy t.lphy l.val ∧
      t = { s with chip := { s.chip with lphy := t.chip.lphy } }) ∧
  (∀ (l : Fin 256) (id : BitVec 16) (rtt : BitVec 32) (s : State),
    (s.lphy l.val).asked.contains id.toNat = true ∧ (s.lphy l.val).entry = none →
    s.laneState l.val = 4 ∧ 8 ≤ ((s.lphy l.val).rtts ++ [rtt.toNat]).length ∧ 64 < ((s.lphy l.val).rtts ++ [rtt.toNat]).foldl max 0 - ((s.lphy l.val).rtts ++ [rtt.toNat]).foldl min rtt.toNat ∧ 2 ≤ (s.lphy l.val).round →
    Gives (.laneEchoReceive l id rtt) s fun t =>
      t.laneState l.val = 1 ∧
      t.rd LANE_STAT.CAUSE l.val = 13 ∧
      (t.lphy l.val).tx = List.replicate 16 [0x0F, 3] ∧
      (t.lphy l.val).detFrom = some s.tb ∧ (t.lphy l.val).since = s.tb ∧ (t.lphy l.val).stored = none ∧ t.rd LANE_STAT.EQ_VALID l.val = 0 ∧ t.rd LANE_STAT.VER l.val = 0 ∧
      Raised t (pgLane l.val) (8 * (l.val % 4) + 3) ∧
      Recorded s t 3 l.val 0x0C04 ∧
      t.prodq = s.prodq ++ [{ prod := prodId 0xB l.val, st := s.now, gen := 0 }] ∧
      Others s.lphy t.lphy l.val ∧
      FieldsKept s t [(LANE_STAT.CAUSE, l.val), (LANE_STAT.STATE, l.val), (LANE_STAT.ADMIT_WAIT, l.val), (LANE_STAT.BLOCK_LOCK, l.val), (LANE_STAT.EQ_VALID, l.val), (LANE_STAT.VER, l.val), (IRQ_STAT.BITS, pgLane l.val)] ∧
      t = { s with chip := { s.chip with regs := t.chip.regs, hostp := t.chip.hostp, recs := t.chip.recs, prodq := t.chip.prodq, lphy := t.chip.lphy } }) ∧
  (∀ (l : Fin 256) (id : BitVec 16) (rtt : BitVec 32) (s : State),
    (s.lphy l.val).asked.contains id.toNat = true ∧ (s.lphy l.val).entry = none →
    s.laneState l.val = 6 ∧ ((rttScaled rtt.toNat : Int) - 2112 * s.rd LANE_RTT.RTT l.val).natAbs ≤ 61 * 2112 →
    Gives (.laneEchoReceive l id rtt) s fun t =>
      (t.lphy l.val).entry = some (ceilTo (s.laneGran l.val) (s.epoch + s.laneBlock l.val)) ∧
      t.laneState l.val = 6 ∧
      Others s.lphy t.lphy l.val ∧
      FieldsKept s t [(LANE_STAT.ADMIT_WAIT, l.val)] ∧
      t = { s with chip := { s.chip with regs := t.chip.regs, lphy := t.chip.lphy } }) ∧
  (∀ (l : Fin 256) (id : BitVec 16) (rtt : BitVec 32) (s : State),
    (s.lphy l.val).asked.contains id.toNat = true ∧ (s.lphy l.val).entry = none →
    s.laneState l.val = 6 ∧ 61 * 2112 < ((rttScaled rtt.toNat : Int) - 2112 * s.rd LANE_RTT.RTT l.val).natAbs →
    Gives (.laneEchoReceive l id rtt) s fun t =>
      t.laneState l.val = 1 ∧
      t.rd LANE_STAT.CAUSE l.val = 13 ∧
      (t.lphy l.val).tx = List.replicate 16 [0x0F, 3] ∧
      (t.lphy l.val).detFrom = some s.tb ∧ (t.lphy l.val).since = s.tb ∧ (t.lphy l.val).stored = none ∧ t.rd LANE_STAT.EQ_VALID l.val = 0 ∧ t.rd LANE_STAT.VER l.val = 0 ∧
      Raised t (pgLane l.val) (8 * (l.val % 4) + 3) ∧
      Recorded s t 3 l.val 0x0C04 ∧
      t.prodq = s.prodq ++ [{ prod := prodId 0xB l.val, st := s.now, gen := 0 }] ∧
      Others s.lphy t.lphy l.val ∧
      FieldsKept s t [(LANE_STAT.CAUSE, l.val), (LANE_STAT.STATE, l.val), (LANE_STAT.ADMIT_WAIT, l.val), (LANE_STAT.BLOCK_LOCK, l.val), (LANE_STAT.EQ_VALID, l.val), (LANE_STAT.VER, l.val), (IRQ_STAT.BITS, pgLane l.val)] ∧
      t = { s with chip := { s.chip with regs := t.chip.regs, hostp := t.chip.hostp, recs := t.chip.recs, prodq := t.chip.prodq, lphy := t.chip.lphy } }) ∧
  (∀ (l : Fin 256) (id : BitVec 16) (rtt : BitVec 32) (s : State),
    (s.lphy l.val).asked.contains id.toNat = false ∨ (s.lphy l.val).entry ≠ none →
    Gives (.laneEchoReceive l id rtt) s fun t =>
      t = s) ∧
  (∀ (l : Fin 256) (d : Nat) (s : State),
    (s.lphy l.val).entry = some d ∧ d ≤ s.epoch →
    s.laneState l.val = 4 ∨ s.laneState l.val = 6 →
    Gives (.laneServiceEntry l) s fun t =>
      t.laneState l.val = 5 ∧
      t.rd LANE_SVC_AT_LO.TICK l.val = d % 2 ^ 32 ∧ t.rd LANE_SVC_AT_HI.TICK l.val = d / 2 ^ 32 % 2 ^ 32 ∧ t.rd LANE_CNT.SVC l.val = min 0xFFFF (s.rd LANE_CNT.SVC l.val + 1) ∧
      (t.lphy l.val).held = some (s.partnerId l.val) ∧ (t.lphy l.val).entry = none ∧ (t.lphy l.val).since = s.tb ∧ (t.lphy l.val).ivErr = 0 ∧
      (t.lout l.val).frameAt = d ∧ (t.lout l.val).frame = 0 ∧
      Raised t (pgLane l.val) (8 * (l.val % 4) + 0) ∧
      Recorded s t 3 l.val 0x0C01 ∧
      t.prodq = s.prodq ++ [{ prod := prodId 0xB l.val, st := s.now, gen := 0 }] ∧
      Others s.lphy t.lphy l.val ∧
      Others s.lout t.lout l.val ∧
      t = { s with chip := { s.chip with regs := t.chip.regs, hostp := t.chip.hostp, recs := t.chip.recs, prodq := t.chip.prodq, lphy := t.chip.lphy, lout := t.chip.lout, eng := t.chip.eng } }) ∧
  (∀ (l : Fin 256) (d : Nat) (s : State),
    (s.lphy l.val).entry = some d ∧ s.epoch < d →
    Gives (.laneServiceEntry l) s fun t =>
      t = s) ∧
  (∀ (l : Fin 256) (s : State),
    (s.lphy l.val).entry = none ∨ (s.laneState l.val ≠ 4 ∧ s.laneState l.val ≠ 6) →
    Gives (.laneServiceEntry l) s fun t =>
      t = s)

/-- Equalisation of a lane. a tap moves by one code within its range, in TRAIN without limit and later under the background limits, the CTLE then only toward a larger eye height, and the step is watched; a step that lost more than a tenth of the eye height is taken back and barred; the eye is written every 50,000 tk with the time since which it meets the criteria, and the equaliser state is stored in SERVICE; outside these conditions nothing happens. Where the rules leave room the clauses state the model's readings (log entries 3 and 17 to 20) -/
def Obligations.LaneEqualisation : Prop :=
  (∀ (l : Fin 256) (tap : Fin 9) (move : EqMove) (u : State) (s : State),
    s.eqMoved l.val tap.val move.up = some u →
    s.laneState l.val = 3 →
    Gives (.eqAdaptStep l tap move) s fun t =>
      t = u ∧
      (FieldsKept s t [((if tap.val = 0 then LANE_EQ_RX.CTLE else dfeFld tap.val), l.val)]) ∧
      t = { s with chip := { s.chip with regs := t.chip.regs } }) ∧
  (∀ (l : Fin 256) (height : BitVec 10) (s : State),
    s.laneState l.val = 3 ∧ s.rd LANE_EQ_RX.CTLE l.val < 15 →
    Gives (.eqAdaptStep l 0 ⟨true, height⟩) s fun t =>
      t.rd LANE_EQ_RX.CTLE l.val = s.rd LANE_EQ_RX.CTLE l.val + 1 ∧
      FieldsKept s t [(LANE_EQ_RX.CTLE, l.val)] ∧
      t = { s with chip := { s.chip with regs := t.chip.regs } }) ∧
  (∀ (l : Fin 256) (tap : Fin 9) (move : EqMove) (s : State),
    s.eqMoved l.val tap.val move.up = none →
    Gives (.eqAdaptStep l tap move) s fun t =>
      t = s) ∧
  (∀ (l : Fin 256) (tap : Fin 9) (move : EqMove) (u : State) (s : State),
    s.eqMoved l.val tap.val move.up = some u →
    4 ≤ s.laneState l.val ∧ s.eqFree l.val tap.val move.up = true ∧ (tap.val = 0 → s.rd LANE_EYE.HEIGHT l.val < move.height.toNat) →
    Gives (.eqAdaptStep l tap move) s fun t =>
      (t.lphy l.val).steps = (s.lphy l.val).steps ++ [{ tap := tap.val, up := move.up, t := s.tb, height := s.rd LANE_EYE.HEIGHT l.val }] ∧
      (tap.val = 0 → (t.lphy l.val).ctleAt = some s.tb) ∧
      t.chip.regs = u.chip.regs ∧
      Others s.lphy t.lphy l.val ∧
      (FieldsKept s t [((if tap.val = 0 then LANE_EQ_RX.CTLE else dfeFld tap.val), l.val)]) ∧
      t = { s with chip := { s.chip with regs := t.chip.regs, lphy := t.chip.lphy } }) ∧
  (∀ (l : Fin 256) (tap : Fin 9) (move : EqMove) (s : State),
    s.laneState l.val ≠ 3 ∧ (s.laneState l.val < 4 ∨ s.eqFree l.val tap.val move.up = false ∨ (tap.val = 0 ∧ move.height.toNat ≤ s.rd LANE_EYE.HEIGHT l.val)) →
    Gives (.eqAdaptStep l tap move) s fun t =>
      t = s) ∧
  (∀ (l : Fin 256) (height : BitVec 10) (q : EqStep) (r : List EqStep) (s : State),
    (s.lphy l.val).steps = q :: r ∧ q.t + 5000 ≤ s.tb ∧ 4 ≤ s.laneState l.val →
    9 * q.height ≤ 10 * height.toNat →
    Gives (.eqStepRevert l height) s fun t =>
      t.lphy l.val = { s.lphy l.val with steps := r } ∧
      Others s.lphy t.lphy l.val ∧
      t = { s with chip := { s.chip with lphy := t.chip.lphy } }) ∧
  (∀ (l : Fin 256) (height : BitVec 10) (q : EqStep) (r : List EqStep) (s : State),
    (s.lphy l.val).steps = q :: r ∧ q.t + 5000 ≤ s.tb ∧ 4 ≤ s.laneState l.val →
    10 * height.toNat < 9 * q.height →
    q.tap = 0 ∧ q.up = true ∧ 0 < s.rd LANE_EQ_RX.CTLE l.val ∧ s.rd LANE_EQ_RX.CTLE l.val < 16 →
    Gives (.eqStepRevert l height) s fun t =>
      t.rd LANE_EQ_RX.CTLE l.val = s.rd LANE_EQ_RX.CTLE l.val - 1 ∧
      (t.lphy l.val).barred.head? = some (0, true, s.tb + 5000000) ∧ (t.lphy l.val).steps = r ∧
      Others s.lphy t.lphy l.val ∧
      FieldsKept s t [(LANE_EQ_RX.CTLE, l.val)] ∧
      t = { s with chip := { s.chip with regs := t.chip.regs, lphy := t.chip.lphy } }) ∧
  (∀ (l : Fin 256) (height : BitVec 10) (q : EqStep) (r : List EqStep) (s : State),
    (s.lphy l.val).steps = q :: r ∧ q.t + 5000 ≤ s.tb ∧ 4 ≤ s.laneState l.val →
    10 * height.toNat < 9 * q.height →
    (s.eqMoved l.val q.tap (!q.up)).isSome = true →
    Gives (.eqStepRevert l height) s fun t =>
      some t.chip.regs = (s.eqMoved l.val q.tap (!q.up)).map (·.chip.regs) ∧
      (t.lphy l.val).steps = r ∧ (t.lphy l.val).barred.head? = some (q.tap, q.up, s.tb + 5000000) ∧
      Others s.lphy t.lphy l.val ∧
      t = { s with chip := { s.chip with regs := t.chip.regs, lphy := t.chip.lphy } }) ∧
  (∀ (l : Fin 256) (height : BitVec 10) (s : State),
    s.laneState l.val < 4 ∨ (s.lphy l.val).steps.head?.all (fun q => decide (s.tb < q.t + 5000)) = true →
    Gives (.eqStepRevert l height) s fun t =>
      t = s) ∧
  (∀ (l : Fin 256) (height : BitVec 10) (width : BitVec 8) (s : State),
    3 ≤ s.laneState l.val →
    (s.lphy l.val).eyeAt = none ∨ (s.lphy l.val).eyeAt.getD 0 + 50000 ≤ s.tb →
    Gives (.eyeMonitor l height width) s fun t =>
      t.rd LANE_EYE.HEIGHT l.val = height.toNat ∧ t.rd LANE_EYE.WIDTH l.val = width.toNat ∧
      (t.lphy l.val = { s.lphy l.val with eyeAt := some s.tb, eyeFrom := if s.rd LANE_EYE_MIN.H_MIN l.val ≤ height.toNat ∧ s.rd LANE_EYE_MIN.W_MIN l.val ≤ width.toNat then some ((s.lphy l.val).eyeFrom.getD s.tb) else none }) ∧
      Others s.lphy t.lphy l.val ∧
      FieldsKept s t [(LANE_EYE.HEIGHT, l.val), (LANE_EYE.WIDTH, l.val)] ∧
      t = { s with chip := { s.chip with regs := t.chip.regs, lphy := t.chip.lphy } }) ∧
  (∀ (l : Fin 256) (height : BitVec 10) (width : BitVec 8) (s : State),
    s.laneState l.val < 3 →
    Gives (.eyeMonitor l height width) s fun t =>
      t = s) ∧
  (∀ (l : Fin 256) (height : BitVec 10) (width : BitVec 8) (s : State),
    (s.lphy l.val).eyeAt.any (fun x => decide (s.tb < x + 50000)) = true →
    Gives (.eyeMonitor l height width) s fun t =>
      t = s) ∧
  (∀ (l : Fin 256) (cdr : BitVec 32) (s : State),
    s.laneState l.val = 5 →
    (s.lphy l.val).storedAt = none ∨ (s.lphy l.val).storedAt.getD 0 + 500000000 ≤ s.tb →
    Gives (.eqStateStore l cdr) s fun t =>
      t.rd LANE_STAT.EQ_VALID l.val = 1 ∧
      t.lphy l.val = { s.lphy l.val with stored := some (s.eqNow l.val cdr.toNat), storedAt := some s.tb } ∧
      Others s.lphy t.lphy l.val ∧
      FieldsKept s t [(LANE_STAT.EQ_VALID, l.val)] ∧
      t = { s with chip := { s.chip with regs := t.chip.regs, lphy := t.chip.lphy } }) ∧
  (∀ (l : Fin 256) (cdr : BitVec 32) (s : State),
    s.laneState l.val ≠ 5 →
    Gives (.eqStateStore l cdr) s fun t =>
      t = s) ∧
  (∀ (l : Fin 256) (cdr : BitVec 32) (s : State),
    (s.lphy l.val).storedAt.any (fun x => decide (s.tb < x + 500000000)) = true →
    Gives (.eqStateStore l cdr) s fun t =>
      t = s)

/-- The compare block. the complete records of a Facet are taken: a record of a type its version lacks is counted as bad, a stale one as stale; a STATUS record shows the partner's state and its alerts; a failing SUMMARY or FAIL record is counted, raised and fires as EVT_KIND selects, the first latches CMP_FIRST, and it reaches the engine input that takes it directly; unqualified bits are counted; a unit of a selected type waits for the Girdle; the last CAPTURE record of a window ends the capture; a capture is armed only where its conditions hold, is refused with the code of the rule otherwise, and ends short after its time; CLR clears the counts. Where the rules leave room the clauses state the model's readings (log entries 3 and 17 to 20) -/
def Obligations.CompareBlock : Prop :=
  (∀ (l : Fin 256) (x : Stamp) (p : List Nat) (s : State),
    (s.cmpl l.val).recs = [(x, p)] ∧ ∀ k : Fin 8, k.val ≠ l.val % 8 → (s.cmpl (8 * laneFacet l.val + k.val)).recs = [] →
    s.laneState l.val = 5 ∧ recordAllowed (s.rd LANE_STAT.VER l.val) (nth p 0) = false →
    Gives (.cmpRecord ⟨laneFacet l.val, Nat.div_lt_of_lt_mul l.isLt⟩) s fun t =>
      (t.cmpl l.val).recs = [] ∧
      t.rd CMP_CNT_DISC.BAD_REC l.val = min 0xFF (s.rd CMP_CNT_DISC.BAD_REC l.val + 1) ∧
      Raised t (pgCmp (laneFacet l.val)) 25 ∧
      Others s.cmpl t.cmpl l.val ∧
      FieldsKept s t [(CMP_CNT_DISC.BAD_REC, l.val), (IRQ_STAT.BITS, pgCmp (laneFacet l.val))] ∧
      t = { s with chip := { s.chip with regs := t.chip.regs, hostp := t.chip.hostp, cmpl := t.chip.cmpl } }) ∧
  (∀ (l : Fin 256) (x : Stamp) (p : List Nat) (s : State),
    (s.cmpl l.val).recs = [(x, p)] ∧ ∀ k : Fin 8, k.val ≠ l.val % 8 → (s.cmpl (8 * laneFacet l.val + k.val)).recs = [] →
    s.laneState l.val ≠ 5 →
    Gives (.cmpRecord ⟨laneFacet l.val, Nat.div_lt_of_lt_mul l.isLt⟩) s fun t =>
      (t.cmpl l.val).recs = [] ∧
      Others s.cmpl t.cmpl l.val ∧
      t = { s with chip := { s.chip with cmpl := t.chip.cmpl } }) ∧
  (∀ (l : Fin 256) (x : Stamp) (p : List Nat) (s : State),
    (s.cmpl l.val).recs = [(x, p)] ∧ ∀ k : Fin 8, k.val ≠ l.val % 8 → (s.cmpl (8 * laneFacet l.val + k.val)).recs = [] →
    recordAllowed (s.rd LANE_STAT.VER l.val) (nth p 0) = true ∧ nth p 0 = 4 ∧ s.accepts l.val x = true ∧ s.on CMP_RING_CFG.EN (laneFacet l.val) = false →
    Gives (.cmpRecord ⟨laneFacet l.val, Nat.div_lt_of_lt_mul l.isLt⟩) s fun t =>
      (t.cmpl l.val).recs = [] ∧
      t.rd CMP_PSTAT.FLAGS l.val = nth p 1 % 2 ^ 8 ∧ t.rd CMP_PSTAT.TEMP l.val = nth p 8 % 2 ^ 8 ∧ t.rd CMP_PSTAT.DROPPED l.val = (nth p 6 + 256 * nth p 7) % 2 ^ 16 ∧ t.rd CMP_PERR.RX_HDR_ERR l.val = (nth p 4 + 256 * nth p 5) % 2 ^ 16 ∧
      ((∃ i ∈ [0, 1, 3], bit (nth p 1) i = true ∧ bit (s.rd CMP_PSTAT.FLAGS l.val) i = false) → Raised t (pgCmp (laneFacet l.val)) (3 * (l.val % 8) + 2) ∧ Recorded s t 4 l.val 0x0D03) ∧
      Others s.cmpl t.cmpl l.val ∧
      FieldsKept s t [(CMP_PSTAT.FLAGS, l.val), (CMP_PSTAT.TEMP, l.val), (CMP_PSTAT.DROPPED, l.val), (CMP_PERR.RX_HDR_ERR, l.val), (IRQ_STAT.BITS, pgCmp (laneFacet l.val))] ∧
      t = { s with chip := { s.chip with regs := t.chip.regs, hostp := t.chip.hostp, recs := t.chip.recs, cmpl := t.chip.cmpl } }) ∧
  (∀ (l : Fin 256) (x : Stamp) (p : List Nat) (s : State),
    (s.cmpl l.val).recs = [(x, p)] ∧ ∀ k : Fin 8, k.val ≠ l.val % 8 → (s.cmpl (8 * laneFacet l.val + k.val)).recs = [] →
    s.laneState l.val = 5 ∧ recordAllowed (s.rd LANE_STAT.VER l.val) 4 = true ∧ nth p 0 = 4 ∧ s.accepts l.val x = false →
    Gives (.cmpRecord ⟨laneFacet l.val, Nat.div_lt_of_lt_mul l.isLt⟩) s fun t =>
      (t.cmpl l.val).recs = [] ∧
      Others s.cmpl t.cmpl l.val ∧
      t = { s with chip := { s.chip with cmpl := t.chip.cmpl } }) ∧
  (∀ (l : Fin 256) (x : Stamp) (p : List Nat) (s : State),
    (s.cmpl l.val).recs = [(x, p)] ∧ ∀ k : Fin 8, k.val ≠ l.val % 8 → (s.cmpl (8 * laneFacet l.val + k.val)).recs = [] →
    s.laneState l.val = 5 ∧ recordAllowed (s.rd LANE_STAT.VER l.val) (nth p 0) = true ∧ (nth p 0 = 1 ∨ nth p 0 = 2) ∧ ((if s.rd LANE_STAT.VER l.val = 2 then tagGranule x.t 8 (nth p 2) else tagGranule x.t 16 (nth p 2 + 256 * nth p 3)) = none ∨ s.qualifier l.val (if s.rd LANE_STAT.VER l.val = 2 then tagGranule x.t 8 (nth p 2) else tagGranule x.t 16 (nth p 2 + 256 * nth p 3)) = none) →
    Gives (.cmpRecord ⟨laneFacet l.val, Nat.div_lt_of_lt_mul l.isLt⟩) s fun t =>
      (t.cmpl l.val).recs = [] ∧
      t.rd CMP_CNT_DISC.STALE l.val = min 0xFF (s.rd CMP_CNT_DISC.STALE l.val + 1) ∧
      Others s.cmpl t.cmpl l.val ∧
      FieldsKept s t [(CMP_CNT_DISC.STALE, l.val)] ∧
      t = { s with chip := { s.chip with regs := t.chip.regs, cmpl := t.chip.cmpl } }) ∧
  (∀ (l : Fin 256) (x : Stamp) (p : List Nat) (d q : Nat) (s : State),
    (s.cmpl l.val).recs = [(x, p)] ∧ ∀ k : Fin 8, k.val ≠ l.val % 8 → (s.cmpl (8 * laneFacet l.val + k.val)).recs = [] →
    s.laneState l.val = 5 ∧ recordAllowed (s.rd LANE_STAT.VER l.val) (nth p 0) = true ∧ nth p 0 ≠ 4 ∧ s.accepts l.val x = false →
    (if s.rd LANE_STAT.VER l.val = 2 then tagGranule x.t 8 (nth p 2) else tagGranule x.t 16 (nth p 2 + 256 * nth p 3)) = some d ∧ s.qualifier l.val (some d) = some q →
    Gives (.cmpRecord ⟨laneFacet l.val, Nat.div_lt_of_lt_mul l.isLt⟩) s fun t =>
      (t.cmpl l.val).recs = [] ∧
      Others s.cmpl t.cmpl l.val ∧
      t = { s with chip := { s.chip with cmpl := t.chip.cmpl } }) ∧
  (∀ (l : Fin 256) (x : Stamp) (p : List Nat) (d q : Nat) (s : State),
    (s.cmpl l.val).recs = [(x, p)] ∧ ∀ k : Fin 8, k.val ≠ l.val % 8 → (s.cmpl (8 * laneFacet l.val + k.val)).recs = [] →
    s.laneState l.val = 5 ∧ recordAllowed (s.rd LANE_STAT.VER l.val) (nth p 0) = true ∧ nth p 0 = 1 ∧ s.accepts l.val x = true ∧ s.on CMP_RING_CFG.EN (laneFacet l.val) = false →
    (if s.rd LANE_STAT.VER l.val = 2 then tagGranule x.t 8 (nth p 2) else tagGranule x.t 16 (nth p 2 + 256 * nth p 3)) = some d ∧ s.qualifier l.val (some d) = some q →
    ∀ k : Fin 64, s.rdX ENG_BIN_CFG.CMP_EN (64 * laneFacet l.val + k.val) ≠ 1 →
    (nth p 4 + 256 * nth p 5) &&& q ≠ 0 →
    Gives (.cmpRecord ⟨laneFacet l.val, Nat.div_lt_of_lt_mul l.isLt⟩) s fun t =>
      (t.cmpl l.val).recs = [] ∧
      t.rd CMP_CNT_FAIL.SUM_FAIL l.val = min 0xFFFF (s.rd CMP_CNT_FAIL.SUM_FAIL l.val + 1) ∧
      t.rd CMP_CNT_DISC.UNQUAL l.val = min 0xFFFF (s.rd CMP_CNT_DISC.UNQUAL l.val + ones16 ((nth p 4 + 256 * nth p 5) &&& (0xFFFF ^^^ q))) ∧
      ((t.cmpl l.val).failed = true ∧ ((s.cmpl l.val).failed = false → t.rd CMP_FIRST_LO.FIRST l.val = (d + lowest16 ((nth p 4 + 256 * nth p 5) &&& q)) % 2 ^ 32 ∧ t.rd CMP_FIRST_HI.FIRST l.val = (d + lowest16 ((nth p 4 + 256 * nth p 5) &&& q)) / 2 ^ 32 % 2 ^ 32)) ∧
      ((s.cmpl l.val).failed = true → t.rd CMP_FIRST_LO.FIRST l.val = s.rd CMP_FIRST_LO.FIRST l.val ∧ t.rd CMP_FIRST_HI.FIRST l.val = s.rd CMP_FIRST_HI.FIRST l.val) ∧
      Raised t (pgCmp (laneFacet l.val)) (3 * (l.val % 8)) ∧
      (t.prodq = s.prodq ++ (if s.rd CMP_LCFG.EVT_KIND l.val = 0 ∨ (s.rd CMP_LCFG.EVT_KIND l.val = 1 ∧ False) ∨ (2 ≤ s.rd CMP_LCFG.EVT_KIND l.val ∧ (s.cmpl l.val).failed = false) then [{ prod := prodId 6 l.val, st := { x with sub := 0 }, gen := 0 }] else [])) ∧
      Others s.cmpl t.cmpl l.val ∧
      FieldsKept s t [(CMP_CNT_FAIL.SUM_FAIL, l.val), (CMP_CNT_DISC.UNQUAL, l.val), (CMP_FIRST_LO.FIRST, l.val), (CMP_FIRST_HI.FIRST, l.val), (IRQ_STAT.BITS, pgCmp (laneFacet l.val))] ∧
      t = { s with chip := { s.chip with regs := t.chip.regs, hostp := t.chip.hostp, prodq := t.chip.prodq, cmpl := t.chip.cmpl } }) ∧
  (∀ (l : Fin 256) (x : Stamp) (p : List Nat) (d q : Nat) (s : State),
    (s.cmpl l.val).recs = [(x, p)] ∧ ∀ k : Fin 8, k.val ≠ l.val % 8 → (s.cmpl (8 * laneFacet l.val + k.val)).recs = [] →
    s.laneState l.val = 5 ∧ recordAllowed (s.rd LANE_STAT.VER l.val) (nth p 0) = true ∧ nth p 0 = 1 ∧ s.accepts l.val x = true ∧ s.on CMP_RING_CFG.EN (laneFacet l.val) = false →
    (if s.rd LANE_STAT.VER l.val = 2 then tagGranule x.t 8 (nth p 2) else tagGranule x.t 16 (nth p 2 + 256 * nth p 3)) = some d ∧ s.qualifier l.val (some d) = some q →
    ∀ k : Fin 64, s.rdX ENG_BIN_CFG.CMP_EN (64 * laneFacet l.val + k.val) ≠ 1 →
    (nth p 4 + 256 * nth p 5) &&& q = 0 →
    Gives (.cmpRecord ⟨laneFacet l.val, Nat.div_lt_of_lt_mul l.isLt⟩) s fun t =>
      (t.cmpl l.val).recs = [] ∧
      t.rd CMP_CNT_DISC.UNQUAL l.val = min 0xFFFF (s.rd CMP_CNT_DISC.UNQUAL l.val + ones16 ((nth p 4 + 256 * nth p 5) &&& (0xFFFF ^^^ q))) ∧
      Others s.cmpl t.cmpl l.val ∧
      FieldsKept s t [(CMP_CNT_DISC.UNQUAL, l.val)] ∧
      t = { s with chip := { s.chip with regs := t.chip.regs, cmpl := t.chip.cmpl } }) ∧
  (∀ (l : Fin 256) (x : Stamp) (p : List Nat) (d q : Nat) (s : State),
    (s.cmpl l.val).recs = [(x, p)] ∧ ∀ k : Fin 8, k.val ≠ l.val % 8 → (s.cmpl (8 * laneFacet l.val + k.val)).recs = [] →
    s.laneState l.val = 5 ∧ recordAllowed (s.rd LANE_STAT.VER l.val) (nth p 0) = true ∧ nth p 0 = 2 ∧ s.accepts l.val x = true ∧ s.on CMP_RING_CFG.EN (laneFacet l.val) = false →
    (if s.rd LANE_STAT.VER l.val = 2 then tagGranule x.t 8 (nth p 2) else tagGranule x.t 16 (nth p 2 + 256 * nth p 3)) = some d ∧ s.qualifier l.val (some d) = some q →
    ∀ k : Fin 64, s.rdX ENG_BIN_CFG.CMP_EN (64 * laneFacet l.val + k.val) ≠ 1 →
    bit q (nth p 1 % 16) = true ∧ (nth p 12 + 256 * nth p 13 ≠ 0 ∨ nth p 14 + 256 * nth p 15 ≠ 0) →
    Gives (.cmpRecord ⟨laneFacet l.val, Nat.div_lt_of_lt_mul l.isLt⟩) s fun t =>
      (t.cmpl l.val).recs = [] ∧
      t.rd CMP_CNT_FAIL.REC_FAIL l.val = min 0xFFFF (s.rd CMP_CNT_FAIL.REC_FAIL l.val + 1) ∧
      ((t.cmpl l.val).failed = true ∧ ((s.cmpl l.val).failed = false → t.rd CMP_FIRST_LO.FIRST l.val = (d + nth p 1 % 16) % 2 ^ 32 ∧ t.rd CMP_FIRST_HI.FIRST l.val = (d + nth p 1 % 16) / 2 ^ 32 % 2 ^ 32)) ∧
      ((s.cmpl l.val).failed = true → t.rd CMP_FIRST_LO.FIRST l.val = s.rd CMP_FIRST_LO.FIRST l.val ∧ t.rd CMP_FIRST_HI.FIRST l.val = s.rd CMP_FIRST_HI.FIRST l.val) ∧
      Raised t (pgCmp (laneFacet l.val)) (3 * (l.val % 8)) ∧
      (t.prodq = s.prodq ++ (if s.rd CMP_LCFG.EVT_KIND l.val = 0 ∨ (s.rd CMP_LCFG.EVT_KIND l.val = 1 ∧ True) ∨ (2 ≤ s.rd CMP_LCFG.EVT_KIND l.val ∧ (s.cmpl l.val).failed = false) then [{ prod := prodId 6 l.val, st := { x with sub := 0 }, gen := 0 }] else [])) ∧
      Others s.cmpl t.cmpl l.val ∧
      FieldsKept s t [(CMP_CNT_FAIL.REC_FAIL, l.val), (CMP_FIRST_LO.FIRST, l.val), (CMP_FIRST_HI.FIRST, l.val), (IRQ_STAT.BITS, pgCmp (laneFacet l.val))] ∧
      t = { s with chip := { s.chip with regs := t.chip.regs, hostp := t.chip.hostp, prodq := t.chip.prodq, cmpl := t.chip.cmpl } }) ∧
  (∀ (l : Fin 256) (x : Stamp) (p : List Nat) (d q : Nat) (s : State),
    (s.cmpl l.val).recs = [(x, p)] ∧ ∀ k : Fin 8, k.val ≠ l.val % 8 → (s.cmpl (8 * laneFacet l.val + k.val)).recs = [] →
    s.laneState l.val = 5 ∧ recordAllowed (s.rd LANE_STAT.VER l.val) (nth p 0) = true ∧ nth p 0 = 2 ∧ s.accepts l.val x = true ∧ s.on CMP_RING_CFG.EN (laneFacet l.val) = false →
    (if s.rd LANE_STAT.VER l.val = 2 then tagGranule x.t 8 (nth p 2) else tagGranule x.t 16 (nth p 2 + 256 * nth p 3)) = some d ∧ s.qualifier l.val (some d) = some q →
    ∀ k : Fin 64, s.rdX ENG_BIN_CFG.CMP_EN (64 * laneFacet l.val + k.val) ≠ 1 →
    bit q (nth p 1 % 16) = false ∨ ¬ (nth p 12 + 256 * nth p 13 ≠ 0 ∨ nth p 14 + 256 * nth p 15 ≠ 0) →
    Gives (.cmpRecord ⟨laneFacet l.val, Nat.div_lt_of_lt_mul l.isLt⟩) s fun t =>
      (t.cmpl l.val).recs = [] ∧
      t.rd CMP_CNT_DISC.UNQUAL l.val = min 0xFFFF (s.rd CMP_CNT_DISC.UNQUAL l.val + 1) ∧
      Others s.cmpl t.cmpl l.val ∧
      FieldsKept s t [(CMP_CNT_DISC.UNQUAL, l.val)] ∧
      t = { s with chip := { s.chip with regs := t.chip.regs, cmpl := t.chip.cmpl } }) ∧
  (∀ (l : Fin 256) (x : Stamp) (p : List Nat) (d q : Nat) (s : State),
    (s.cmpl l.val).recs = [(x, p)] ∧ ∀ k : Fin 8, k.val ≠ l.val % 8 → (s.cmpl (8 * laneFacet l.val + k.val)).recs = [] →
    s.laneState l.val = 5 ∧ recordAllowed (s.rd LANE_STAT.VER l.val) (nth p 0) = true ∧ nth p 0 = 1 ∧ s.accepts l.val x = true ∧ s.on CMP_RING_CFG.EN (laneFacet l.val) = true ∧ bit (s.rd CMP_RING_CFG.TYPES (laneFacet l.val)) 0 = true ∧ (s.cmp (laneFacet l.val)).queue.length < 64 →
    (if s.rd LANE_STAT.VER l.val = 2 then tagGranule x.t 8 (nth p 2) else tagGranule x.t 16 (nth p 2 + 256 * nth p 3)) = some d ∧ s.qualifier l.val (some d) = some q →
    ∀ k : Fin 64, s.rdX ENG_BIN_CFG.CMP_EN (64 * laneFacet l.val + k.val) ≠ 1 →
    (nth p 4 + 256 * nth p 5) &&& q = 0 →
    Gives (.cmpRecord ⟨laneFacet l.val, Nat.div_lt_of_lt_mul l.isLt⟩) s fun t =>
      (t.cmpl l.val).recs = [] ∧
      (t.cmp (laneFacet l.val)).queue = (s.cmp (laneFacet l.val)).queue ++ [ringUnit l.val (s.rd LANE_STAT.VER l.val) d 0 0 x p] ∧
      t.rd CMP_CNT_DISC.UNQUAL l.val = min 0xFFFF (s.rd CMP_CNT_DISC.UNQUAL l.val + ones16 ((nth p 4 + 256 * nth p 5) &&& (0xFFFF ^^^ q))) ∧
      Others s.cmpl t.cmpl l.val ∧
      Others s.cmp t.cmp (laneFacet l.val) ∧
      FieldsKept s t [(CMP_CNT_DISC.UNQUAL, l.val)] ∧
      t = { s with chip := { s.chip with regs := t.chip.regs, cmpl := t.chip.cmpl, cmp := t.chip.cmp } }) ∧
  (∀ (l : Fin 256) (x : Stamp) (p : List Nat) (a n d q : Nat) (s : State),
    (s.cmpl l.val).recs = [(x, p)] ∧ ∀ k : Fin 8, k.val ≠ l.val % 8 → (s.cmpl (8 * laneFacet l.val + k.val)).recs = [] →
    s.laneState l.val = 5 ∧ recordAllowed (s.rd LANE_STAT.VER l.val) (nth p 0) = true ∧ nth p 0 = 3 ∧ s.accepts l.val x = true ∧ s.on CMP_RING_CFG.EN (laneFacet l.val) = false →
    (if s.rd LANE_STAT.VER l.val = 2 then tagGranule x.t 8 (nth p 2) else tagGranule x.t 16 (nth p 2 + 256 * nth p 3)) = some d ∧ s.qualifier l.val (some d) = some q →
    (s.cmpl l.val).cap = some (a, n) ∧ s.on CMP_CAP_CTL.ACTIVE l.val = true ∧ 0 < n ∧ d + 16 = a + 16 * n ∧ 16 ≤ nth p 1 % 16 + bits (nth p 1) 4 2 →
    Gives (.cmpRecord ⟨laneFacet l.val, Nat.div_lt_of_lt_mul l.isLt⟩) s fun t =>
      (t.cmpl l.val).recs = [] ∧
      t.rd CMP_CAP_CTL.ACTIVE l.val = 0 ∧ t.rd CMP_CAP_CTL.SHORT l.val = s.rd CMP_CAP_CTL.SHORT l.val ∧ (t.cmpl l.val).cap = none ∧
      Raised t (pgCmp (laneFacet l.val)) (3 * (l.val % 8) + 1) ∧
      Others s.cmpl t.cmpl l.val ∧
      FieldsKept s t [(CMP_CAP_CTL.ACTIVE, l.val), (CMP_CAP_CTL.SHORT, l.val), (IRQ_STAT.BITS, pgCmp (laneFacet l.val))] ∧
      t = { s with chip := { s.chip with regs := t.chip.regs, hostp := t.chip.hostp, cmpl := t.chip.cmpl } }) ∧
  (∀ (l : Fin 256) (x : Stamp) (p : List Nat) (d q : Nat) (s : State),
    (s.cmpl l.val).recs = [(x, p)] ∧ ∀ k : Fin 8, k.val ≠ l.val % 8 → (s.cmpl (8 * laneFacet l.val + k.val)).recs = [] →
    s.laneState l.val = 5 ∧ recordAllowed (s.rd LANE_STAT.VER l.val) (nth p 0) = true ∧ nth p 0 = 3 ∧ s.accepts l.val x = true ∧ s.on CMP_RING_CFG.EN (laneFacet l.val) = false →
    (if s.rd LANE_STAT.VER l.val = 2 then tagGranule x.t 8 (nth p 2) else tagGranule x.t 16 (nth p 2 + 256 * nth p 3)) = some d ∧ s.qualifier l.val (some d) = some q →
    (s.cmpl l.val).cap.all (fun c => decide (d + 16 ≠ c.1 + 16 * c.2 ∨ nth p 1 % 16 + bits (nth p 1) 4 2 < 16)) = true →
    Gives (.cmpRecord ⟨laneFacet l.val, Nat.div_lt_of_lt_mul l.isLt⟩) s fun t =>
      (t.cmpl l.val).recs = [] ∧
      Others s.cmpl t.cmpl l.val ∧
      t = { s with chip := { s.chip with cmpl := t.chip.cmpl } }) ∧
  (∀ (l : Fin 256) (x : Stamp) (p : List Nat) (d q : Nat) (e n : Nat) (s : State),
    (s.cmpl l.val).recs = [(x, p)] ∧ ∀ k : Fin 8, k.val ≠ l.val % 8 → (s.cmpl (8 * laneFacet l.val + k.val)).recs = [] →
    s.laneState l.val = 5 ∧ recordAllowed (s.rd LANE_STAT.VER l.val) (nth p 0) = true ∧ nth p 0 = 1 ∧ s.accepts l.val x = true ∧ s.on CMP_RING_CFG.EN (laneFacet l.val) = false →
    (if s.rd LANE_STAT.VER l.val = 2 then tagGranule x.t 8 (nth p 2) else tagGranule x.t 16 (nth p 2 + 256 * nth p 3)) = some d ∧ s.qualifier l.val (some d) = some q →
    (nth p 4 + 256 * nth p 5) &&& q ≠ 0 →
    ∀ k : Fin 64, s.rdX ENG_BIN_CFG.CMP_EN (64 * laneFacet l.val + k.val) = (if 64 * laneFacet l.val + k.val = 4 * e + n then 1 else 0) →
    e / 16 = laneFacet l.val ∧ n < 4 ∧ s.engDrive e = false ∧ bit (s.rdX ENG_BIN_CFG.LANE_MASK (4 * e + n)) (l.val % 8) = true ∧ s.rdX ENG_BIN_CFG.CMP_KIND (4 * e + n) = 0 →
    (s.eng e).input n = none ∧ s.engState e = 3 →
    Gives (.cmpRecord ⟨laneFacet l.val, Nat.div_lt_of_lt_mul l.isLt⟩) s fun t =>
      (t.cmpl l.val).recs = [] ∧
      (t.eng e).input n = mergePends [s.pendOf { prod := prodId 6 l.val, st := { x with sub := 0 } } (s.engDPFrom e) 76] ∧
      Others s.eng t.eng e ∧
      Others s.cmpl t.cmpl l.val) ∧
  (∀ (f : Fin 32) (s : State),
    ∀ k : Fin 8, (s.cmpl (8 * f.val + k.val)).recs = [] →
    Gives (.cmpRecord f) s fun t =>
      (∀ l, t.cmpl l = s.cmpl l) ∧
      t = { s with chip := { s.chip with cmpl := t.chip.cmpl } }) ∧
  (∀ (l : Fin 256) (w : Wr) (s : State),
    Accepted s w (pgCmp (laneFacet l.val)) →
    s.on CMP_CAP_CTL.ACTIVE l.val = false ∧ s.laneState l.val = 5 ∧ s.rd LANE_STAT.VER l.val = 3 →
    s.rd64 CMP_CAP_AT_LO.TICK CMP_CAP_AT_HI.TICK l.val % 16 = 0 ∧ s.epoch + 1536 ≤ s.rd64 CMP_CAP_AT_LO.TICK CMP_CAP_AT_HI.TICK l.val →
    bits w.val.toNat 0 16 ≠ 0 ∧ bits w.val.toNat 0 16 ≤ bits (s.rd LANE_PARTNER_CAP.CAP l.val) 16 8 →
    Gives (.cmpCaptureArm l w) s fun t =>
      (t.rd CMP_CAP_CTL.ACTIVE l.val = 1 ∧ t.rd CMP_CAP_CTL.NGRAN l.val = bits w.val.toNat 0 16 ∧ t.rd CMP_CAP_CTL.SHORT l.val = (if bit w.val.toNat 29 = true then 0 else s.rd CMP_CAP_CTL.SHORT l.val % 2)) ∧
      t.cmpl l.val = { s.cmpl l.val with cap := some (s.rd64 CMP_CAP_AT_LO.TICK CMP_CAP_AT_HI.TICK l.val, bits w.val.toNat 0 16), sent := false } ∧
      Others s.cmpl t.cmpl l.val ∧
      FieldsKept s t [(CMP_CAP_CTL.ACTIVE, l.val), (CMP_CAP_CTL.NGRAN, l.val), (CMP_CAP_CTL.SHORT, l.val), (HOST_STAT.COLLIDE_COUNT, 0)] ∧
      t = { s with chip := { s.chip with regs := t.chip.regs, hostp := t.chip.hostp, cmpl := t.chip.cmpl } }) ∧
  (∀ (l : Fin 256) (w : Wr) (s : State),
    Accepted s w (pgCmp (laneFacet l.val)) →
    s.rd64 CMP_CAP_AT_LO.TICK CMP_CAP_AT_HI.TICK l.val % 16 ≠ 0 →
    Gives (.cmpCaptureArm l w) s fun t =>
      Refused s t (pgCmp (laneFacet l.val)) 1 ∧
      FieldsKept s t [(ERR_CODE.LAST, pgCmp (laneFacet l.val)), (ERR_CODE.FIRST, pgCmp (laneFacet l.val)), (ERR_COUNT.COUNT, pgCmp (laneFacet l.val)), (HOST_STAT.COLLIDE_COUNT, 0)] ∧
      t = { s with chip := { s.chip with regs := t.chip.regs, hostp := t.chip.hostp } }) ∧
  (∀ (l : Fin 256) (w : Wr) (s : State),
    Accepted s w (pgCmp (laneFacet l.val)) →
    s.on CMP_CAP_CTL.ACTIVE l.val = false ∧ s.laneState l.val = 5 ∧ s.rd LANE_STAT.VER l.val = 3 →
    s.rd64 CMP_CAP_AT_LO.TICK CMP_CAP_AT_HI.TICK l.val % 16 = 0 ∧ s.rd64 CMP_CAP_AT_LO.TICK CMP_CAP_AT_HI.TICK l.val < s.epoch + 1536 ∧ bits (s.rd LANE_PARTNER_CAP.CAP l.val) 16 8 ≠ 0 →
    Gives (.cmpCaptureArm l w) s fun t =>
      Refused s t (pgCmp (laneFacet l.val)) 3 ∧
      FieldsKept s t [(ERR_CODE.LAST, pgCmp (laneFacet l.val)), (ERR_CODE.FIRST, pgCmp (laneFacet l.val)), (ERR_COUNT.COUNT, pgCmp (laneFacet l.val)), (HOST_STAT.COLLIDE_COUNT, 0)] ∧
      t = { s with chip := { s.chip with regs := t.chip.regs, hostp := t.chip.hostp } }) ∧
  (∀ (l : Fin 256) (w : Wr) (s : State),
    Accepted s w (pgCmp (laneFacet l.val)) →
    s.rd64 CMP_CAP_AT_LO.TICK CMP_CAP_AT_HI.TICK l.val % 16 = 0 ∧ (s.on CMP_CAP_CTL.ACTIVE l.val = true ∨ s.laneState l.val ≠ 5 ∨ s.rd LANE_STAT.VER l.val ≠ 3 ∨ bits (s.rd LANE_PARTNER_CAP.CAP l.val) 16 8 = 0) →
    Gives (.cmpCaptureArm l w) s fun t =>
      Refused s t (pgCmp (laneFacet l.val)) 2 ∧
      FieldsKept s t [(ERR_CODE.LAST, pgCmp (laneFacet l.val)), (ERR_CODE.FIRST, pgCmp (laneFacet l.val)), (ERR_COUNT.COUNT, pgCmp (laneFacet l.val)), (HOST_STAT.COLLIDE_COUNT, 0)] ∧
      t = { s with chip := { s.chip with regs := t.chip.regs, hostp := t.chip.hostp } }) ∧
  (∀ (l : Fin 256) (w : Wr) (s : State),
    Accepted s w (pgCmp (laneFacet l.val)) →
    s.rd64 CMP_CAP_AT_LO.TICK CMP_CAP_AT_HI.TICK l.val % 16 = 0 ∧ s.epoch + 1536 ≤ s.rd64 CMP_CAP_AT_LO.TICK CMP_CAP_AT_HI.TICK l.val ∧ s.on CMP_CAP_CTL.ACTIVE l.val = false ∧ s.laneState l.val = 5 ∧ s.rd LANE_STAT.VER l.val = 3 ∧ bits (s.rd LANE_PARTNER_CAP.CAP l.val) 16 8 ≠ 0 →
    bits w.val.toNat 0 16 = 0 ∨ bits (s.rd LANE_PARTNER_CAP.CAP l.val) 16 8 < bits w.val.toNat 0 16 →
    Gives (.cmpCaptureArm l w) s fun t =>
      Refused s t (pgCmp (laneFacet l.val)) 4 ∧
      FieldsKept s t [(ERR_CODE.LAST, pgCmp (laneFacet l.val)), (ERR_CODE.FIRST, pgCmp (laneFacet l.val)), (ERR_COUNT.COUNT, pgCmp (laneFacet l.val)), (HOST_STAT.COLLIDE_COUNT, 0)] ∧
      t = { s with chip := { s.chip with regs := t.chip.regs, hostp := t.chip.hostp } }) ∧
  (∀ (l : Fin 256) (a n : Nat) (s : State),
    (s.cmpl l.val).cap = some (a, n) ∧ a + 16 * n + 500000 ≤ s.epoch ∧ s.on CMP_CAP_CTL.ACTIVE l.val = true →
    Gives (.cmpCaptureTimeout l) s fun t =>
      t.rd CMP_CAP_CTL.ACTIVE l.val = 0 ∧ t.rd CMP_CAP_CTL.SHORT l.val = 1 ∧ (t.cmpl l.val).cap = none ∧
      Raised t (pgCmp (laneFacet l.val)) (3 * (l.val % 8) + 1) ∧
      Others s.cmpl t.cmpl l.val ∧
      FieldsKept s t [(CMP_CAP_CTL.ACTIVE, l.val), (CMP_CAP_CTL.SHORT, l.val), (IRQ_STAT.BITS, pgCmp (laneFacet l.val))] ∧
      t = { s with chip := { s.chip with regs := t.chip.regs, hostp := t.chip.hostp, cmpl := t.chip.cmpl } }) ∧
  (∀ (l : Fin 256) (a n : Nat) (s : State),
    (s.cmpl l.val).cap = some (a, n) ∧ s.epoch < a + 16 * n + 500000 →
    Gives (.cmpCaptureTimeout l) s fun t =>
      t = s) ∧
  (∀ (l : Fin 256) (s : State),
    (s.cmpl l.val).cap = none ∨ s.on CMP_CAP_CTL.ACTIVE l.val = false →
    Gives (.cmpCaptureTimeout l) s fun t =>
      t = s) ∧
  (∀ (f : Fin 32) (w : Wr) (s : State),
    Accepted s w (pgCmp f.val) →
    Gives (.cmpClr f w) s fun t =>
      (∀ k : Fin 8, t.rd CMP_CNT_FAIL.SUM_FAIL (8 * f.val + k.val) = 0 ∧ t.rd CMP_CNT_FAIL.REC_FAIL (8 * f.val + k.val) = 0 ∧ t.rd CMP_CNT_DISC.STALE (8 * f.val + k.val) = 0 ∧ t.rd CMP_FIRST_LO.FIRST (8 * f.val + k.val) = 0) ∧
      t.rd CMP_RING_STAT.LOST f.val = 0 ∧
      (∀ k : Fin 8, t.cmpl (8 * f.val + k.val) = { s.cmpl (8 * f.val + k.val) with failed := false }) ∧
      (∀ k : Fin 8, t.rd CMP_CNT_DISC.BAD_REC (8 * f.val + k.val) = 0 ∧ t.rd CMP_CNT_DISC.UNQUAL (8 * f.val + k.val) = 0 ∧ t.rd CMP_FIRST_HI.FIRST (8 * f.val + k.val) = 0) ∧
      (FieldsKept s t ((CMP_RING_STAT.LOST, f.val) :: (HOST_STAT.COLLIDE_COUNT, 0) :: (List.range 8).flatMap fun k => [CMP_CNT_FAIL.REC_FAIL, CMP_CNT_FAIL.SUM_FAIL, CMP_CNT_DISC.BAD_REC, CMP_CNT_DISC.STALE, CMP_CNT_DISC.UNQUAL, CMP_FIRST_LO.FIRST, CMP_FIRST_HI.FIRST].map fun g => (g, 8 * f.val + k))) ∧
      t = { s with chip := { s.chip with regs := t.chip.regs, hostp := t.chip.hostp, cmpl := t.chip.cmpl } })

/-- The commands and states of a drive channel. START gives an IDLE channel its entry tick, on the grid of its group or at the start of one; at that tick it enters ACTIVE; a soft stop takes effect at its tick with its cause, cancels a pending START, or is counted as ignored, and the events that reach the channel in one cycle are one such stop, with the age and the late ones counted; the channel enters RAMPDOWN at T0 and CLEARED at the end of its taper; ACK takes it back to IDLE; a write that the state forbids or that carries two commands is refused; every change of state brings the group, its Crown groups and the device along and changes no other channel; where nothing is due nothing happens. Where the rules leave room the clauses state the model's readings (log entries 3 and 7 to 12) -/
def Obligations.DriveCommands : Prop :=
  ((∀ (s : State) (d : Fin 64) (n : Nat), n < 8 →
        ((s.setDrvState d.val n).drvState d.val = n ∧ (∀ e : Fin 64, e ≠ d → (s.setDrvState d.val n).drvState e.val = s.drvState e.val) ∧
          (s.setDrvState d.val n).rd DAC_STAT.LDSRC_EFF d.val = (if n = 2 then s.rdA DAC_CFG.LDSRC d.val % 4 else 0) ∧
          (s.setDrvState d.val n).chip.drv = s.chip.drv ∧
          (s.setDrvState d.val n).gridOn (grpOf d.val) = (grpChans (grpOf d.val)).any fun e => if e = d.val then n == 2 || n == 3 else s.drvBusy e))) ∧
  (∀ (d : Fin 64) (w : Wr) (s : State),
    Accepted s w (pgDrv d.val) →
    bits (w.val ||| 0x1).toNat 0 4 = 0x1 →
    s.startCodes d.val = [] →
    Gives (.drvStart d w) s fun t =>
      (t.drv d.val = { s.drv d.val with entry := some (if (s.grp (grpOf d.val)).fixed then s.drvGran d.val (s.epoch + s.h) else if s.on DRV_GRP_CFG.MODE (grpOf d.val) then s.rd64 DRV_GRP_ORIGIN_LO.ORIGIN DRV_GRP_ORIGIN_HI.ORIGIN (grpOf d.val) else ceilTo 16 (s.epoch + s.h)), stops := [] }) ∧
      t.rd DRV_STAT.START_PEND d.val = 1 ∧
      t.drvState d.val = s.drvState d.val ∧
      (t.grp (grpOf d.val) = (if (s.grp (grpOf d.val)).fixed then s.grp (grpOf d.val) else { s.grp (grpOf d.val) with fixed := true, o := (if (s.grp (grpOf d.val)).fixed then s.drvGran d.val (s.epoch + s.h) else if s.on DRV_GRP_CFG.MODE (grpOf d.val) then s.rd64 DRV_GRP_ORIGIN_LO.ORIGIN DRV_GRP_ORIGIN_HI.ORIGIN (grpOf d.val) else ceilTo 16 (s.epoch + s.h)) })) ∧
      Others s.grp t.grp (grpOf d.val) ∧
      Others s.drv t.drv d.val ∧
      FieldsKept s t [(DRV_STAT.START_PEND, d.val), (HOST_STAT.COLLIDE_COUNT, 0)] ∧
      t = { s with chip := { s.chip with regs := t.chip.regs, hostp := t.chip.hostp, drv := t.chip.drv, grp := t.chip.grp } }) ∧
  (∀ (d : Fin 64) (w : Wr) (k : Nat) (s : State),
    Accepted s w (pgDrv d.val) →
    bits (w.val ||| 0x1).toNat 0 4 = 0x1 →
    worst (s.startCodes d.val) = some k →
    Gives (.drvStart d w) s fun t =>
      Refused s t (pgDrv d.val) (k % 2 ^ 16) ∧
      FieldsKept s t [(ERR_CODE.LAST, pgDrv d.val), (ERR_CODE.FIRST, pgDrv d.val), (ERR_COUNT.COUNT, pgDrv d.val), (HOST_STAT.COLLIDE_COUNT, 0)] ∧
      t = { s with chip := { s.chip with regs := t.chip.regs, hostp := t.chip.hostp } }) ∧
  (∀ (d : Fin 64) (w : Wr) (s : State),
    Accepted s w (pgDrv d.val) →
    bits (w.val ||| 0x1).toNat 0 4 ≠ 0x1 →
    Gives (.drvStart d w) s fun t =>
      Refused s t (pgDrv d.val) 1 ∧
      FieldsKept s t [(ERR_CODE.LAST, pgDrv d.val), (ERR_CODE.FIRST, pgDrv d.val), (ERR_COUNT.COUNT, pgDrv d.val), (HOST_STAT.COLLIDE_COUNT, 0)] ∧
      t = { s with chip := { s.chip with regs := t.chip.regs, hostp := t.chip.hostp } }) ∧
  (∀ (d : Fin 64) (w : Wr) (s : State),
    Accepted s w (pgDrv d.val) →
    bits (w.val ||| 0x2).toNat 0 4 = 0x2 →
    (s.drv d.val).entry = none →
    s.drvState d.val = 2 →
    Gives (.drvSoftStop d w) s fun t =>
      t.drv d.val = { s.drv d.val with stops := (s.drv d.val).stops ++ [(s.drvGran d.val (s.epoch + s.h), 1)] } ∧
      Others s.drv t.drv d.val ∧
      FieldsKept s t [(HOST_STAT.COLLIDE_COUNT, 0)] ∧
      t = { s with chip := { s.chip with regs := t.chip.regs, hostp := t.chip.hostp, drv := t.chip.drv } }) ∧
  (∀ (d : Fin 64) (w : Wr) (s : State),
    Accepted s w (pgDrv d.val) →
    bits (w.val ||| 0x2).toNat 0 4 = 0x2 →
    (s.drv d.val).entry = none →
    s.drvState d.val ≠ 2 →
    Gives (.drvSoftStop d w) s fun t =>
      t.rd DRV_CNT.STOP_IGNORED d.val = min 0xFFFF (s.rd DRV_CNT.STOP_IGNORED d.val + 1) ∧
      FieldsKept s t [(DRV_CNT.STOP_IGNORED, d.val), (HOST_STAT.COLLIDE_COUNT, 0)] ∧
      t = { s with chip := { s.chip with regs := t.chip.regs, hostp := t.chip.hostp } }) ∧
  (∀ (d : Fin 64) (w : Wr) (e : Nat) (s : State),
    Accepted s w (pgDrv d.val) →
    bits (w.val ||| 0x2).toNat 0 4 = 0x2 →
    (s.drv d.val).entry = some e ∧ s.drvGran d.val (s.epoch + s.h) ≤ e →
    Gives (.drvSoftStop d w) s fun t =>
      ∃ u : State,
        (u.drv d.val) = { s.drv d.val with entry := none, stops := [] } ∧
        u.rd DRV_STAT.START_PEND d.val = 0 ∧ u.rd DRV_STAT.STOP_CAUSE d.val = 1 ∧
        Others s.drv u.drv d.val ∧
        FieldsKept s u [(DRV_STAT.START_PEND, d.val), (DRV_STAT.STOP_CAUSE, d.val), (HOST_STAT.COLLIDE_COUNT, 0)] ∧
        u = { s with chip := { s.chip with regs := u.chip.regs, hostp := u.chip.hostp, drv := u.chip.drv } } ∧
        t = { s with chip := ((u.settleGrp (grpOf d.val)).settleRun).chip }) ∧
  (∀ (d : Fin 64) (w : Wr) (e : Nat) (s : State),
    Accepted s w (pgDrv d.val) →
    bits (w.val ||| 0x2).toNat 0 4 = 0x2 →
    (s.drv d.val).entry = some e ∧ e < s.drvGran d.val (s.epoch + s.h) →
    Gives (.drvSoftStop d w) s fun t =>
      t.drv d.val = { s.drv d.val with stops := (s.drv d.val).stops ++ [(s.drvGran d.val (s.epoch + s.h), 1)] } ∧
      Others s.drv t.drv d.val ∧
      FieldsKept s t [(HOST_STAT.COLLIDE_COUNT, 0)] ∧
      t = { s with chip := { s.chip with regs := t.chip.regs, hostp := t.chip.hostp, drv := t.chip.drv } }) ∧
  (∀ (d : Fin 64) (w : Wr) (s : State),
    Accepted s w (pgDrv d.val) →
    bits (w.val ||| 0x2).toNat 0 4 ≠ 0x2 →
    Gives (.drvSoftStop d w) s fun t =>
      Refused s t (pgDrv d.val) 1 ∧
      FieldsKept s t [(ERR_CODE.LAST, pgDrv d.val), (ERR_CODE.FIRST, pgDrv d.val), (ERR_COUNT.COUNT, pgDrv d.val), (HOST_STAT.COLLIDE_COUNT, 0)] ∧
      t = { s with chip := { s.chip with regs := t.chip.regs, hostp := t.chip.hostp } }) ∧
  (∀ (d : Fin 64) (w : Wr) (s : State),
    Accepted s w (pgDrv d.val) →
    bits (w.val ||| 0x4).toNat 0 4 = 0x4 →
    s.drvState d.val = 4 ∧ s.clrN = false →
    Gives (.drvAck d w) s fun t =>
      t.drvState d.val = 1 ∧
      ∃ u : State,
        u.chip.drv = s.chip.drv ∧
        FieldsKept s u [(HOST_STAT.COLLIDE_COUNT, 0)] ∧
        u = { s with chip := { s.chip with regs := u.chip.regs, hostp := u.chip.hostp } } ∧
        t = { s with chip := (u.setDrvState d.val 1).chip }) ∧
  (∀ (d : Fin 64) (w : Wr) (s : State),
    Accepted s w (pgDrv d.val) →
    bits (w.val ||| 0x4).toNat 0 4 = 0x4 →
    s.drvState d.val ≠ 4 →
    Gives (.drvAck d w) s fun t =>
      Refused s t (pgDrv d.val) 3 ∧
      FieldsKept s t [(ERR_CODE.LAST, pgDrv d.val), (ERR_CODE.FIRST, pgDrv d.val), (ERR_COUNT.COUNT, pgDrv d.val), (HOST_STAT.COLLIDE_COUNT, 0)] ∧
      t = { s with chip := { s.chip with regs := t.chip.regs, hostp := t.chip.hostp } }) ∧
  (∀ (d : Fin 64) (w : Wr) (s : State),
    Accepted s w (pgDrv d.val) →
    bits (w.val ||| 0x4).toNat 0 4 ≠ 0x4 →
    Gives (.drvAck d w) s fun t =>
      Refused s t (pgDrv d.val) 1 ∧
      FieldsKept s t [(ERR_CODE.LAST, pgDrv d.val), (ERR_CODE.FIRST, pgDrv d.val), (ERR_COUNT.COUNT, pgDrv d.val), (HOST_STAT.COLLIDE_COUNT, 0)] ∧
      t = { s with chip := { s.chip with regs := t.chip.regs, hostp := t.chip.hostp } }) ∧
  (∀ (d : Fin 64) (w : Wr) (s : State),
    Accepted s w (pgDrv d.val) →
    bits (w.val ||| 0x4).toNat 0 4 = 0x4 →
    s.drvState d.val = 4 ∧ s.clrN = true →
    Gives (.drvAck d w) s fun t =>
      Refused s t (pgDrv d.val) 0x11 ∧
      FieldsKept s t [(ERR_CODE.LAST, pgDrv d.val), (ERR_CODE.FIRST, pgDrv d.val), (ERR_COUNT.COUNT, pgDrv d.val), (HOST_STAT.COLLIDE_COUNT, 0)] ∧
      t = { s with chip := { s.chip with regs := t.chip.regs, hostp := t.chip.hostp } }) ∧
  (∀ (d : Fin 64) (w : Wr) (s : State),
    Accepted s w (pgDrv d.val) →
    bits (w.val ||| 0x8).toNat 0 4 = 0x8 →
    Gives (.drvCntClr d w) s fun t =>
      t.rd DRV_CNT.SAT d.val = 0 ∧ t.rd DRV_CNT.STOP_IGNORED d.val = 0 ∧ t.rd DRV_BEZEL.UNDERRUN_COUNT d.val = 0 ∧ t.rd DRV_BEZEL.MIN_FILL d.val = 0x7F ∧ t.rd DAC_CNT.OVERWRITE d.val = 0 ∧
      FieldsKept s t [(DRV_CNT.SAT, d.val), (DRV_CNT.STOP_IGNORED, d.val), (DRV_BEZEL.UNDERRUN_COUNT, d.val), (DRV_BEZEL.MIN_FILL, d.val), (DAC_CNT.OVERWRITE, d.val), (HOST_STAT.COLLIDE_COUNT, 0)] ∧
      t = { s with chip := { s.chip with regs := t.chip.regs, hostp := t.chip.hostp } }) ∧
  (∀ (d : Fin 64) (w : Wr) (s : State),
    Accepted s w (pgDrv d.val) →
    bits (w.val ||| 0x8).toNat 0 4 ≠ 0x8 →
    Gives (.drvCntClr d w) s fun t =>
      Refused s t (pgDrv d.val) 1 ∧
      FieldsKept s t [(ERR_CODE.LAST, pgDrv d.val), (ERR_CODE.FIRST, pgDrv d.val), (ERR_COUNT.COUNT, pgDrv d.val), (HOST_STAT.COLLIDE_COUNT, 0)] ∧
      t = { s with chip := { s.chip with regs := t.chip.regs, hostp := t.chip.hostp } }) ∧
  (∀ (d : Fin 64) (p : Pend) (s : State),
    mergePends ((s.arrivals.filter (fun a => a.cls == 4 && a.index == d.val)).map fun a => s.pendOf a.ev (s.drvGran d.val) 66) = some p →
    ((s.drv d.val).entry = none ∧ s.drvState d.val = 2) ∨ (s.drv d.val).entry.any (fun e => decide (e < s.drvGran d.val (max p.due p.notBefore))) = true →
    Gives (.drvStopArrive d) s fun t =>
      t.drv d.val = { s.drv d.val with stops := (s.drv d.val).stops ++ [(s.drvGran d.val (max p.due p.notBefore), 2)] } ∧
      (t.arrivals = s.arrivals.filter fun a => !(a.cls == 4 && a.index == d.val)) ∧
      t.rd H_STAT.MAX_AGE 0 = max (s.rd H_STAT.MAX_AGE 0) (min 0xFFF (s.epoch - p.stamp)) % 2 ^ 12 ∧
      (t.rd H_STAT.LATE_COUNT 0 = (if ((s.arrivals.filter (fun a => a.cls == 4 && a.index == d.val)).filter fun a => (s.pendOf a.ev (s.drvGran d.val) 66).notBefore != 0).length = 0 then s.rd H_STAT.LATE_COUNT 0 else min 0xFFFF (s.rd H_STAT.LATE_COUNT 0 + ((s.arrivals.filter (fun a => a.cls == 4 && a.index == d.val)).filter fun a => (s.pendOf a.ev (s.drvGran d.val) 66).notBefore != 0).length))) ∧
      (((s.arrivals.filter (fun a => a.cls == 4 && a.index == d.val)).filter fun a => (s.pendOf a.ev (s.drvGran d.val) 66).notBefore != 0).length ≠ 0 → Raised t pgTb 2) ∧
      Others s.drv t.drv d.val ∧
      FieldsKept s t [(H_STAT.MAX_AGE, 0), (H_STAT.LATE_COUNT, 0), (IRQ_STAT.BITS, pgTb)] ∧
      t = { s with chip := { s.chip with regs := t.chip.regs, hostp := t.chip.hostp, recs := t.chip.recs, drv := t.chip.drv, arrivals := t.chip.arrivals } }) ∧
  (∀ (d : Fin 64) (p : Pend) (s : State),
    mergePends ((s.arrivals.filter (fun a => a.cls == 4 && a.index == d.val)).map fun a => s.pendOf a.ev (s.drvGran d.val) 66) = some p →
    (s.drv d.val).entry = none ∧ s.drvState d.val ≠ 2 →
    Gives (.drvStopArrive d) s fun t =>
      t.rd DRV_CNT.STOP_IGNORED d.val = min 0xFFFF (s.rd DRV_CNT.STOP_IGNORED d.val + 1) ∧
      (t.arrivals = s.arrivals.filter fun a => !(a.cls == 4 && a.index == d.val)) ∧
      t.rd H_STAT.MAX_AGE 0 = max (s.rd H_STAT.MAX_AGE 0) (min 0xFFF (s.epoch - p.stamp)) % 2 ^ 12 ∧
      (t.rd H_STAT.LATE_COUNT 0 = (if ((s.arrivals.filter (fun a => a.cls == 4 && a.index == d.val)).filter fun a => (s.pendOf a.ev (s.drvGran d.val) 66).notBefore != 0).length = 0 then s.rd H_STAT.LATE_COUNT 0 else min 0xFFFF (s.rd H_STAT.LATE_COUNT 0 + ((s.arrivals.filter (fun a => a.cls == 4 && a.index == d.val)).filter fun a => (s.pendOf a.ev (s.drvGran d.val) 66).notBefore != 0).length))) ∧
      (((s.arrivals.filter (fun a => a.cls == 4 && a.index == d.val)).filter fun a => (s.pendOf a.ev (s.drvGran d.val) 66).notBefore != 0).length ≠ 0 → Raised t pgTb 2) ∧
      FieldsKept s t [(H_STAT.MAX_AGE, 0), (H_STAT.LATE_COUNT, 0), (IRQ_STAT.BITS, pgTb), (DRV_CNT.STOP_IGNORED, d.val)] ∧
      t = { s with chip := { s.chip with regs := t.chip.regs, hostp := t.chip.hostp, recs := t.chip.recs, arrivals := t.chip.arrivals } }) ∧
  (∀ (d : Fin 64) (p : Pend) (s : State),
    mergePends ((s.arrivals.filter (fun a => a.cls == 4 && a.index == d.val)).map fun a => s.pendOf a.ev (s.drvGran d.val) 66) = some p →
    (s.drv d.val).entry.any (fun e => decide (s.drvGran d.val (max p.due p.notBefore) ≤ e)) = true →
    Gives (.drvStopArrive d) s fun t =>
      (t.drv d.val).entry = none ∧ (t.drv d.val).stops = [] ∧ t.rd DRV_STAT.START_PEND d.val = 0 ∧ t.rd DRV_STAT.STOP_CAUSE d.val = 2 ∧
      t.drvState d.val = s.drvState d.val ∧
      (t.arrivals = s.arrivals.filter fun a => !(a.cls == 4 && a.index == d.val)) ∧
      t.rd H_STAT.MAX_AGE 0 = max (s.rd H_STAT.MAX_AGE 0) (min 0xFFF (s.epoch - p.stamp)) % 2 ^ 12 ∧
      (t.rd H_STAT.LATE_COUNT 0 = (if ((s.arrivals.filter (fun a => a.cls == 4 && a.index == d.val)).filter fun a => (s.pendOf a.ev (s.drvGran d.val) 66).notBefore != 0).length = 0 then s.rd H_STAT.LATE_COUNT 0 else min 0xFFFF (s.rd H_STAT.LATE_COUNT 0 + ((s.arrivals.filter (fun a => a.cls == 4 && a.index == d.val)).filter fun a => (s.pendOf a.ev (s.drvGran d.val) 66).notBefore != 0).length))) ∧
      (((s.arrivals.filter (fun a => a.cls == 4 && a.index == d.val)).filter fun a => (s.pendOf a.ev (s.drvGran d.val) 66).notBefore != 0).length ≠ 0 → Raised t pgTb 2) ∧
      Others s.drv t.drv d.val ∧
      t = { s with chip := { s.chip with regs := t.chip.regs, hostp := t.chip.hostp, recs := t.chip.recs, drv := t.chip.drv, arrivals := t.chip.arrivals, grp := t.chip.grp, crown := t.chip.crown, bank := t.chip.bank, sense := t.chip.sense } }) ∧
  (∀ (d : Fin 64) (s : State),
    s.arrivals.filter (fun a => a.cls == 4 && a.index == d.val) = [] →
    Gives (.drvStopArrive d) s fun t =>
      (t = s.setArrivals (s.arrivals.filter fun a => !(a.cls == 4 && a.index == d.val)))) ∧
  (∀ (d : Fin 64) (e : Nat) (s : State),
    (s.drv d.val).entry = some e ∧ e ≤ s.epoch →
    s.drvState d.val = 1 →
    Gives (.drvEntryTick d) s fun t =>
      t.drvState d.val = 2 ∧
      ∃ u : State,
        (u.drv d.val).entry = none ∧ (u.drv d.val).fade = some (e, s.rampT d.val) ∧ (u.drv d.val).a = s.srcEntry d.val 0 ∧ (u.drv d.val).b = s.srcEntry d.val 1 ∧ (u.drv d.val).loadAt = e ∧
        Others s.drv u.drv d.val ∧
        u.rd DRV_STAT.START_PEND d.val = 0 ∧ u.rd DRV_STAT.FADE d.val = 1 ∧ u.rd DRV_ACTIVE_AT_LO.TICK d.val = e % 2 ^ 32 ∧ u.rd DRV_ACTIVE_AT_HI.TICK d.val = e / 2 ^ 32 % 2 ^ 32 ∧
        Recorded s u 0x0A d.val 0x0E01 ∧
        FieldsKept s u [(DRV_STAT.START_PEND, d.val), (DRV_STAT.FADE, d.val), (DRV_ACTIVE_AT_LO.TICK, d.val), (DRV_ACTIVE_AT_HI.TICK, d.val)] ∧
        u = { s with chip := { s.chip with regs := u.chip.regs, recs := u.chip.recs, drv := u.chip.drv } } ∧
        t = { s with chip := (u.setDrvState d.val 2).chip }) ∧
  (∀ (d : Fin 64) (e : Nat) (s : State),
    (s.drv d.val).entry = some e ∧ s.epoch < e →
    Gives (.drvEntryTick d) s fun t =>
      t = s) ∧
  (∀ (d : Fin 64) (s : State),
    (s.drv d.val).entry = none ∨ s.drvState d.val ≠ 1 →
    Gives (.drvEntryTick d) s fun t =>
      t = s) ∧
  (∀ (d : Fin 64) (t0 k : Nat) (s : State),
    s.drvState d.val = 2 ∧ dueStop (s.drv d.val).stops (s.drvNow d.val) = some (t0, k) →
    Gives (.drvTaperStart d) s fun t =>
      t.drvState d.val = 3 ∧
      ∃ u : State,
        (u.drv d.val).ramp = some (t0, s.rampT d.val) ∧ (u.drv d.val).stops = [] ∧ (u.drv d.val).fade = none ∧
        Others s.drv u.drv d.val ∧
        u.rd DRV_STAT.STOP_CAUSE d.val = k % 16 ∧ u.rd DRV_STOP_AT_LO.TICK d.val = t0 % 2 ^ 32 ∧ u.rd DRV_STOP_AT_HI.TICK d.val = t0 / 2 ^ 32 % 2 ^ 32 ∧
        Raised u (pgDrv d.val) (3 * (d.val % 8)) ∧
        Recorded s u 0x0A d.val 0x0E02 ∧
        FieldsKept s u [(DRV_STAT.STOP_CAUSE, d.val), (DRV_STAT.FADE, d.val), (DRV_STOP_AT_LO.TICK, d.val), (DRV_STOP_AT_HI.TICK, d.val), (IRQ_STAT.BITS, pgDrv d.val)] ∧
        u = { s with chip := { s.chip with regs := u.chip.regs, hostp := u.chip.hostp, recs := u.chip.recs, drv := u.chip.drv } } ∧
        t = { s with chip := (u.setDrvState d.val 3).chip }) ∧
  (∀ (d : Fin 64) (s : State),
    dueStop (s.drv d.val).stops (s.drvNow d.val) = none →
    Gives (.drvTaperStart d) s fun t =>
      t = s) ∧
  (∀ (d : Fin 64) (s : State),
    s.drvState d.val ≠ 2 →
    Gives (.drvTaperStart d) s fun t =>
      t = s) ∧
  (∀ (d : Fin 64) (x t0 p : Nat) (s : State),
    s.sampleTick d.val = some x ∧ (s.drv d.val).ramp = some (t0, p) ∧ s.drvState d.val = 3 ∧ t0 + p ≤ x →
    Gives (.drvTaperEnd d) s fun t =>
      t.drvState d.val = 4 ∧
      ∃ u : State,
        (u.drv d.val).ramp = none ∧ (u.drv d.val).fade = none ∧ (u.drv d.val).stops = [] ∧ (u.drv d.val).move = none ∧ (u.drv d.val).a.taper = none ∧ (u.drv d.val).b.taper = none ∧
        Others s.drv u.drv d.val ∧
        u.rd DRV_STAT.STOP_CAUSE d.val = s.rd DRV_STAT.STOP_CAUSE d.val % 16 ∧
        Raised u (pgDrv d.val) (3 * (d.val % 8) + 1) ∧
        Recorded s u 0x0A d.val 0x0E03 ∧
        FieldsKept s u [(DRV_STAT.STOP_CAUSE, d.val), (DRV_STAT.FADE, d.val), (DRV_STAT.SRC_TAPER, d.val), (IRQ_STAT.BITS, pgDrv d.val)] ∧
        u = { s with chip := { s.chip with regs := u.chip.regs, hostp := u.chip.hostp, recs := u.chip.recs, drv := u.chip.drv } } ∧
        t = { s with chip := (u.setDrvState d.val 4).chip }) ∧
  (∀ (d : Fin 64) (t0 p : Nat) (s : State),
    (s.drv d.val).ramp = some (t0, p) ∧ (s.drvState d.val ≠ 3 ∨ s.epoch < t0 + p ∧ s.fallback = false) →
    Gives (.drvTaperEnd d) s fun t =>
      t = s) ∧
  (∀ (d : Fin 64) (s : State),
    s.sampleTick d.val = none ∨ (s.drv d.val).ramp = none ∨ s.drvState d.val ≠ 3 →
    Gives (.drvTaperEnd d) s fun t =>
      t = s)

/-- The sample of a drive channel and the tone set registers. at a sample tick a channel that presents no sample writes the code of its idle output and loads it; an ACTIVE or RAMPDOWN one forms its sum from the two contributions with their tapers, limits it, fades or tapers it and writes its code, a soft stop that is due there first taking it to RAMPDOWN; where a source leaves no entry 66 ticks ahead the underrun is counted, raised, recorded and a soft stop; between sample ticks an idle channel does nothing; a write of TSET_IDX shows a tone set, and a write of TSET_D7 stores its eight dwords and no other byte of the AF memory, clears PROG_OK of the engines that use it, and is refused where a value is reserved or the set in use. Where the rules leave room the clauses state the model's readings (log entries 3 and 7 to 12) -/
def Obligations.DriveSamplesAndTones : Prop :=
  (∀ (d : Fin 64) (x : Nat) (s : State),
    s.sampleTick d.val = some x →
    s.drvBusy d.val = false →
    Gives (.driveSampleTick d) s fun t =>
      (t.drv d.val).din = (codeOf (s.idleY d.val x), x) ∧ (t.drv d.val).vt = x ∧
      (s.rdA DAC_CFG.CLEAR_CODE d.val < 2 ^ 20 → t.rd DAC_STAT.DOUT d.val = (if s.on DAC_STAT.CLR_FORCED d.val = true ∧ s.drvState d.val ≠ 0 then s.rdA DAC_CFG.CLEAR_CODE d.val else codeOf (s.idleY d.val x))) ∧
      t.drvState d.val = s.drvState d.val ∧
      Others s.drv t.drv d.val ∧
      ((s.drvSrc d.val 0).1 ≠ 1 ∧ (s.drvSrc d.val 1).1 ≠ 1 → FieldsKept s t [(DAC_STAT.DOUT, d.val), (DAC_CNT.OVERWRITE, d.val), (DAC_CNT.MAJOR, d.val)] ∧ t = { s with chip := { s.chip with regs := t.chip.regs, drv := t.chip.drv } })) ∧
  (∀ (d : Fin 64) (x : Nat) (s : State),
    s.sampleTick d.val = some x ∧ (s.drv d.val).entry = none →
    s.drvBusy d.val = true ∧ dueStop (s.drv d.val).stops x = none ∧ x < ((s.drv d.val).ramp.getD (x, 1)).1 + ((s.drv d.val).ramp.getD (x, 1)).2 →
    ∀ i : Fin 2, s.srcFeeds d.val i.val x = true → (s.srcTicks d.val i.val).contains x = true →
    Gives (.driveSampleTick d) s fun t =>
      (t.drv d.val).din = (codeOf (s.drvY d.val x (clampTo (s.rdX DRV_LIMIT.LIMIT d.val) (sat24 (s.drvSum d.val ((s.srcSample d.val 0 x (s.drv d.val).a).src.tapered (s.srcSample d.val 0 x (s.drv d.val).a).v x) ((s.srcSample d.val 1 x (s.drv d.val).b).src.tapered (s.srcSample d.val 1 x (s.drv d.val).b).v x))))), x) ∧ (t.drv d.val).vt = x ∧
      (s.ldsrc d.val = 0 ∧ s.on DAC_STAT.CLR_FORCED d.val = false → t.rd DAC_STAT.DOUT d.val = (t.drv d.val).din.1 % 2 ^ 20) ∧
      (sat24 (s.drvSum d.val ((s.srcSample d.val 0 x (s.drv d.val).a).src.tapered (s.srcSample d.val 0 x (s.drv d.val).a).v x) ((s.srcSample d.val 1 x (s.drv d.val).b).src.tapered (s.srcSample d.val 1 x (s.drv d.val).b).v x)) ≠ (s.drvSum d.val ((s.srcSample d.val 0 x (s.drv d.val).a).src.tapered (s.srcSample d.val 0 x (s.drv d.val).a).v x) ((s.srcSample d.val 1 x (s.drv d.val).b).src.tapered (s.srcSample d.val 1 x (s.drv d.val).b).v x)) → t.rd DRV_CNT.SAT d.val = min 0xFFFF (s.rd DRV_CNT.SAT d.val + 1)) ∧
      (sat24 (s.drvSum d.val ((s.srcSample d.val 0 x (s.drv d.val).a).src.tapered (s.srcSample d.val 0 x (s.drv d.val).a).v x) ((s.srcSample d.val 1 x (s.drv d.val).b).src.tapered (s.srcSample d.val 1 x (s.drv d.val).b).v x)) ≠ (s.drvSum d.val ((s.srcSample d.val 0 x (s.drv d.val).a).src.tapered (s.srcSample d.val 0 x (s.drv d.val).a).v x) ((s.srcSample d.val 1 x (s.drv d.val).b).src.tapered (s.srcSample d.val 1 x (s.drv d.val).b).v x)) ∧ (s.drv d.val).limited = false → Raised t (pgDrv d.val) (3 * (d.val % 8) + 2)) ∧
      t.drvState d.val = s.drvState d.val ∧
      Others s.drv t.drv d.val ∧
      ((s.drvSrc d.val 0).1 ≠ 1 ∧ (s.drvSrc d.val 1).1 ≠ 1 → FieldsKept s t [(DAC_STAT.DOUT, d.val), (DAC_CNT.OVERWRITE, d.val), (DAC_CNT.MAJOR, d.val), (DRV_CNT.SAT, d.val), (DRV_BEZEL.MIN_FILL, d.val), (DRV_DDS_F_A.F, d.val), (DRV_DDS_F_B.F, d.val), (DRV_DDS_A_A.A, d.val), (DRV_DDS_A_B.A, d.val), (DRV_STAT.SRC_TAPER, d.val), (DRV_STAT.FADE, d.val), (IRQ_STAT.BITS, pgDrv d.val), (IRQ_STAT.BITS, pgAf), (DRV_BEZEL.UNDERRUN_COUNT, d.val), (DRV_CNT.STOP_IGNORED, d.val)] ∧ t = { s with chip := { s.chip with regs := t.chip.regs, hostp := t.chip.hostp, recs := t.chip.recs, drv := t.chip.drv } })) ∧
  (∀ (d : Fin 64) (x t0 k : Nat) (s : State),
    s.sampleTick d.val = some x ∧ (s.drv d.val).entry = none ∧ s.drvState d.val = 2 →
    dueStop (s.drv d.val).stops x = some (t0, k) ∧ x < t0 + s.rampT d.val →
    ∀ i : Fin 2, s.srcFeeds d.val i.val x = true → (s.srcTicks d.val i.val).contains x = true →
    Gives (.driveSampleTick d) s fun t =>
      t.drvState d.val = 3 ∧ (t.drv d.val).ramp = some (t0, s.rampT d.val) ∧ (t.drv d.val).stops = [] ∧
      t.rd DRV_STAT.STOP_CAUSE d.val = k % 16 ∧ t.rd DRV_STOP_AT_LO.TICK d.val = t0 % 2 ^ 32 ∧ t.rd DRV_STOP_AT_HI.TICK d.val = t0 / 2 ^ 32 % 2 ^ 32 ∧
      Raised t (pgDrv d.val) (3 * (d.val % 8)) ∧
      (∃ r ∈ t.recs, r.cls = 0x0A ∧ r.index = d.val ∧ r.code = 0x0E02) ∧
      Others s.drv t.drv d.val) ∧
  (∀ (d : Fin 64) (s : State),
    s.sampleTick d.val = none ∧ s.drvBusy d.val = true ∧ (s.drv d.val).entry = none →
    s.gridOn (grpOf d.val) = true ∧ s.fallback = false ∧ (s.grp (grpOf d.val)).o ≤ s.epoch + 66 ∧ (s.epoch + 66 - (s.grp (grpOf d.val)).o) % max 1 (s.grpPer (grpOf d.val)) = 0 →
    ∃ i : Fin 2, s.srcFeeds d.val i.val (s.epoch + 66) = true ∧ (s.srcTicks d.val i.val).contains (s.epoch + 66) = false →
    (s.drv d.val).under = none →
    Gives (.driveSampleTick d) s fun t =>
      t.rd DRV_BEZEL.UNDERRUN_COUNT d.val = min 0xFF (s.rd DRV_BEZEL.UNDERRUN_COUNT d.val + 1) ∧
      Raised t pgAf 1 ∧
      Recorded s t 6 17 0x0402 ∧
      (s.drvState d.val = 2 → (t.drv d.val).stops = (s.drv d.val).stops ++ [(s.epoch + 66, 4)]) ∧
      (s.drvState d.val = 3 → (t.drv d.val).stops = (s.drv d.val).stops ∧ t.rd DRV_CNT.STOP_IGNORED d.val = min 0xFFFF (s.rd DRV_CNT.STOP_IGNORED d.val + 1)) ∧
      t.drvState d.val = s.drvState d.val ∧
      Others s.drv t.drv d.val ∧
      FieldsKept s t [(DRV_BEZEL.UNDERRUN_COUNT, d.val), (DRV_BEZEL.MIN_FILL, d.val), (DRV_CNT.STOP_IGNORED, d.val), (IRQ_STAT.BITS, pgAf)] ∧
      t = { s with chip := { s.chip with regs := t.chip.regs, hostp := t.chip.hostp, recs := t.chip.recs, drv := t.chip.drv } }) ∧
  (∀ (d : Fin 64) (s : State),
    s.sampleTick d.val = none ∧ s.drvBusy d.val = false →
    Gives (.driveSampleTick d) s fun t =>
      t = s) ∧
  (∀ (w : Wr) (s : State),
    Accepted s w pgAf →
    Gives (.tsetIdxWrite w) s fun t =>
      t.rd TSET_IDX.INDEX 0 = bits w.val.toNat 0 10 ∧
      (∀ n : Fin 8, t.rd TSET_D.D n.val = s.tsetD (bits w.val.toNat 0 10) n.val % 2 ^ 32) ∧
      FieldsKept s t [(TSET_IDX.INDEX, 0), (TSET_D.D, 0), (TSET_D.D, 1), (TSET_D.D, 2), (TSET_D.D, 3), (TSET_D.D, 4), (TSET_D.D, 5), (TSET_D.D, 6), (TSET_D.D, 7), (HOST_STAT.COLLIDE_COUNT, 0)] ∧
      t = { s with chip := { s.chip with regs := t.chip.regs, hostp := t.chip.hostp } }) ∧
  (∀ (w : Wr) (s : State),
    Accepted s w pgAf →
    tsetBad ((List.range 7).map (fun n => s.rd TSET_D.D n) ++ [w.val.toNat]) = false ∧ s.tsetInUse (s.rd TSET_IDX.INDEX 0) = false →
    Gives (.tsetD7Write w) s fun t =>
      (∀ k < 32, t.afB (0x00200000 + 32 * (s.rd TSET_IDX.INDEX 0) + k) = (((List.range 7).map (fun n => s.rd TSET_D.D n) ++ [w.val.toNat]).flatMap dwordBytes)[k]?.getD 0) ∧
      (∀ a, (a < 0x00200000 + 32 * (s.rd TSET_IDX.INDEX 0) ∨ 0x00200000 + 32 * (s.rd TSET_IDX.INDEX 0) + 32 ≤ a) → t.afB a = s.afB a) ∧
      t.mem.winB = s.mem.winB ∧ t.mem.flash = s.mem.flash ∧
      t.rd TSET_IDX.INDEX 0 = ((s.rd TSET_IDX.INDEX 0) + 1) % 1024 ∧
      (∀ e : Fin 512, (s.eng e.val).tsets.contains (s.rd TSET_IDX.INDEX 0) = true → t.rd ENG_STAT.PROG_OK e.val = 0) ∧
      (∀ e : Fin 512, (s.eng e.val).tsets.contains (s.rd TSET_IDX.INDEX 0) = false → t.rd ENG_STAT.PROG_OK e.val = s.rd ENG_STAT.PROG_OK e.val) ∧
      (FieldsKept s t ((TSET_IDX.INDEX, 0) :: (TSET_D.D, 7) :: (HOST_STAT.COLLIDE_COUNT, 0) :: (List.range 512).map fun e => (ENG_STAT.PROG_OK, e))) ∧
      t.rd TSET_D.D 7 = w.val.toNat ∧
      t = { s with mem := t.mem, chip := { s.chip with regs := t.chip.regs, hostp := t.chip.hostp } }) ∧
  (∀ (w : Wr) (s : State),
    Accepted s w pgAf →
    tsetBad ((List.range 7).map (fun n => s.rd TSET_D.D n) ++ [w.val.toNat]) = true →
    Gives (.tsetD7Write w) s fun t =>
      Refused s t pgAf 1 ∧
      FieldsKept s t [(ERR_CODE.LAST, pgAf), (ERR_CODE.FIRST, pgAf), (ERR_COUNT.COUNT, pgAf), (HOST_STAT.COLLIDE_COUNT, 0)] ∧
      t = { s with chip := { s.chip with regs := t.chip.regs, hostp := t.chip.hostp } }) ∧
  (∀ (w : Wr) (s : State),
    Accepted s w pgAf →
    tsetBad ((List.range 7).map (fun n => s.rd TSET_D.D n) ++ [w.val.toNat]) = false ∧ s.tsetInUse (s.rd TSET_IDX.INDEX 0) = true →
    Gives (.tsetD7Write w) s fun t =>
      Refused s t pgAf 4 ∧
      FieldsKept s t [(ERR_CODE.LAST, pgAf), (ERR_CODE.FIRST, pgAf), (ERR_COUNT.COUNT, pgAf), (HOST_STAT.COLLIDE_COUNT, 0)] ∧
      t = { s with chip := { s.chip with regs := t.chip.regs, hostp := t.chip.hostp } })

/-- The DAC outputs: clamp, range, load strobes, hard clear, supply. UNCLAMP, CLAMP and a range change run through their phases with their times, and end in IDLE, CLAMPED and the new range with their events; a write that the state, CLR_N, CLEAR_CODE, a running sequence or a second command bit forbids is refused with its code; a strobe of the group loads the channels that have it as their source and no other, with CLEAR_CODE while CLR_N forces it; LDAC_MISSING returns a channel to SAMPLE; CLR_N forces every channel to its CLEAR_CODE and ends what runs, and its release leaves the states; the loss of VDDA_HV clamps every channel; where nothing is due nothing happens. Where the rules leave room the clauses state the model's readings (log entries 3 and 7 to 12) -/
def Obligations.DacOutputs : Prop :=
  (∀ (d : Fin 64) (w : Wr) (s : State),
    Accepted s w (pgDrv d.val) →
    bits (w.val ||| 0x1).toNat 0 4 = 0x1 →
    s.drvState d.val = 0 ∧ s.clrN = false →
    (s.drv d.val).seq = none →
    Gives (.dacUnclamp d w) s fun t =>
      (t.drv d.val).seq = some { kind := 1, phase := 1, ends := s.tb + 25000, range := 0 } ∧
      t.rd DAC_STAT.UNCLAMP_BUSY d.val = 1 ∧ t.rd DAC_STAT.DOUT d.val = 0x80000 ∧
      Others s.drv t.drv d.val ∧
      FieldsKept s t [(DAC_STAT.UNCLAMP_BUSY, d.val), (DAC_STAT.DOUT, d.val), (DAC_CNT.MAJOR, d.val), (HOST_STAT.COLLIDE_COUNT, 0)] ∧
      t = { s with chip := { s.chip with regs := t.chip.regs, hostp := t.chip.hostp, drv := t.chip.drv } }) ∧
  (∀ (d : Fin 64) (w : Wr) (s : State),
    Accepted s w (pgDrv d.val) →
    bits (w.val ||| 0x1).toNat 0 4 = 0x1 →
    s.drvState d.val = 0 ∧ s.clrN = true →
    Gives (.dacUnclamp d w) s fun t =>
      Refused s t (pgDrv d.val) 0x0011 ∧
      FieldsKept s t [(ERR_CODE.LAST, pgDrv d.val), (ERR_CODE.FIRST, pgDrv d.val), (ERR_COUNT.COUNT, pgDrv d.val), (HOST_STAT.COLLIDE_COUNT, 0)] ∧
      t = { s with chip := { s.chip with regs := t.chip.regs, hostp := t.chip.hostp } }) ∧
  (∀ (d : Fin 64) (w : Wr) (s : State),
    Accepted s w (pgDrv d.val) →
    s.drvState d.val ≠ 0 →
    Gives (.dacUnclamp d w) s fun t =>
      Refused s t (pgDrv d.val) 0x10 ∧
      FieldsKept s t [(ERR_CODE.LAST, pgDrv d.val), (ERR_CODE.FIRST, pgDrv d.val), (ERR_COUNT.COUNT, pgDrv d.val), (HOST_STAT.COLLIDE_COUNT, 0)] ∧
      t = { s with chip := { s.chip with regs := t.chip.regs, hostp := t.chip.hostp } }) ∧
  (∀ (d : Fin 64) (w : Wr) (s : State),
    Accepted s w (pgDrv d.val) →
    bits (w.val ||| 0x1).toNat 0 4 = 0x1 →
    s.drvState d.val = 0 ∧ s.clrN = false ∧ (s.drv d.val).seq ≠ none →
    Gives (.dacUnclamp d w) s fun t =>
      Refused s t (pgDrv d.val) 0x13 ∧
      FieldsKept s t [(ERR_CODE.LAST, pgDrv d.val), (ERR_CODE.FIRST, pgDrv d.val), (ERR_COUNT.COUNT, pgDrv d.val), (HOST_STAT.COLLIDE_COUNT, 0)] ∧
      t = { s with chip := { s.chip with regs := t.chip.regs, hostp := t.chip.hostp } }) ∧
  (∀ (d : Fin 64) (w : Wr) (s : State),
    Accepted s w (pgDrv d.val) →
    bit w.val.toNat 3 = true ∧ bits w.val.toNat 1 2 = 0 →
    s.drvState d.val = 0 ∧ s.clrN = false ∧ (s.drv d.val).seq = none →
    Gives (.dacUnclamp d w) s fun t =>
      Refused s t (pgDrv d.val) 0x14 ∧
      FieldsKept s t [(ERR_CODE.LAST, pgDrv d.val), (ERR_CODE.FIRST, pgDrv d.val), (ERR_COUNT.COUNT, pgDrv d.val), (HOST_STAT.COLLIDE_COUNT, 0)] ∧
      t = { s with chip := { s.chip with regs := t.chip.regs, hostp := t.chip.hostp } }) ∧
  (∀ (d : Fin 64) (q : Seq) (s : State),
    s.seqDue d.val 1 = some q ∧ q.phase = 1 ∧ s.on LOUPE_STAT.VDDA_HV_OK 0 = true →
    Gives (.unclampPhaseEnd d) s fun t =>
      (t.drv d.val).seq = some { kind := 1, phase := 2, ends := s.tb + 2500, range := 0 } ∧
      Others s.drv t.drv d.val ∧
      t = { s with chip := { s.chip with drv := t.chip.drv } }) ∧
  (∀ (d : Fin 64) (q : Seq) (s : State),
    s.seqDue d.val 1 = some q ∧ q.phase = 1 ∧ s.on LOUPE_STAT.VDDA_HV_OK 0 = false →
    Gives (.unclampPhaseEnd d) s fun t =>
      t = s) ∧
  (∀ (d : Fin 64) (q : Seq) (s : State),
    s.seqDue d.val 1 = some q ∧ q.phase = 2 ∧ s.drvC d.val = 0 →
    Gives (.unclampPhaseEnd d) s fun t =>
      t.drvState d.val = 1 ∧
      t.rd DAC_STAT.CLAMP_ON d.val = 0 ∧ t.rd DAC_STAT.UNCLAMP_BUSY d.val = 0 ∧ t.rd DAC_STAT.RANGE_BUSY d.val = 0 ∧
      t.drv d.val = { s.drv d.val with seq := none, seqEnd := s.tb } ∧
      Raised t (pgDrv d.val) 28 ∧
      Others s.drv t.drv d.val ∧
      ∃ u : State,
        u.rd DAC_STAT.CLAMP_ON d.val = 0 ∧ Raised u (pgDrv d.val) 28 ∧
        FieldsKept s u [(DAC_STAT.CLAMP_ON, d.val), (IRQ_STAT.BITS, pgDrv d.val)] ∧
        u = { s with chip := { s.chip with regs := u.chip.regs, hostp := u.chip.hostp } } ∧
        t = { s with chip := ((u.setDrvState d.val 1).seqDone d.val).chip }) ∧
  (∀ (d : Fin 64) (q : Seq) (s : State),
    s.seqDue d.val 1 = some q ∧ q.phase = 2 ∧ s.drvC d.val ≠ 0 ∧ s.clrN = false →
    Gives (.unclampPhaseEnd d) s fun t =>
      t.drvState d.val = 1 ∧ t.rd DAC_STAT.CLAMP_ON d.val = 0 ∧
      (t.drv d.val).move = some (0, s.drvC d.val, s.epoch, s.rampT d.val) ∧
      (t.drv d.val).seq = some { kind := 1, phase := 3, ends := s.tb + s.rampT d.val, range := 0 } ∧
      Raised t (pgDrv d.val) 28 ∧
      Others s.drv t.drv d.val ∧
      ∃ u : State,
        u.rd DAC_STAT.CLAMP_ON d.val = 0 ∧ Raised u (pgDrv d.val) 28 ∧
        FieldsKept s u [(DAC_STAT.CLAMP_ON, d.val), (IRQ_STAT.BITS, pgDrv d.val)] ∧
        u = { s with chip := { s.chip with regs := u.chip.regs, hostp := u.chip.hostp } } ∧
        (t = { s with chip := (((u.setDrvState d.val 1).modDrv d.val fun c => { c with move := some (0, s.drvC d.val, s.epoch, s.rampT d.val) }).seqPhase d.val 1 3 (s.rampT d.val) 0).chip })) ∧
  (∀ (d : Fin 64) (q : Seq) (s : State),
    s.seqDue d.val 1 = some q ∧ q.phase = 3 →
    Gives (.unclampPhaseEnd d) s fun t =>
      t.drv d.val = { s.drv d.val with seq := none, seqEnd := s.tb } ∧ t.rd DAC_STAT.UNCLAMP_BUSY d.val = 0 ∧ t.rd DAC_STAT.RANGE_BUSY d.val = 0 ∧
      Others s.drv t.drv d.val ∧
      FieldsKept s t [(DAC_STAT.UNCLAMP_BUSY, d.val), (DAC_STAT.RANGE_BUSY, d.val)] ∧
      t = { s with chip := { s.chip with regs := t.chip.regs, drv := t.chip.drv } }) ∧
  (∀ (d : Fin 64) (s : State),
    s.seqDue d.val 1 = none →
    Gives (.unclampPhaseEnd d) s fun t =>
      t = s) ∧
  (∀ (d : Fin 64) (q : Seq) (s : State),
    s.seqDue d.val 1 = some q ∧ q.phase = 2 ∧ s.drvC d.val ≠ 0 ∧ s.clrN = true →
    Gives (.unclampPhaseEnd d) s fun t =>
      t.drvState d.val = 1 ∧ t.rd DAC_STAT.CLAMP_ON d.val = 0 ∧
      (t.drv d.val).move = (s.drv d.val).move ∧ t.rd DAC_STAT.DOUT d.val = s.rdA DAC_CFG.CLEAR_CODE d.val % 2 ^ 20 ∧
      (t.drv d.val).seq = some { kind := 1, phase := 3, ends := s.tb + s.rampT d.val, range := 0 } ∧
      Raised t (pgDrv d.val) 28 ∧
      Others s.drv t.drv d.val ∧
      ∃ u : State,
        u.rd DAC_STAT.CLAMP_ON d.val = 0 ∧ Raised u (pgDrv d.val) 28 ∧
        FieldsKept s u [(DAC_STAT.CLAMP_ON, d.val), (IRQ_STAT.BITS, pgDrv d.val)] ∧
        u = { s with chip := { s.chip with regs := u.chip.regs, hostp := u.chip.hostp } } ∧
        t = { s with chip := (((u.setDrvState d.val 1).loadCode d.val (s.rdA DAC_CFG.CLEAR_CODE d.val) s.epoch).seqPhase d.val 1 3 (s.rampT d.val) 0).chip }) ∧
  (∀ (d : Fin 64) (w : Wr) (s : State),
    Accepted s w (pgDrv d.val) →
    bits (w.val ||| 0x2).toNat 0 4 = 0x2 →
    s.drvState d.val = 4 ∨ s.drvState d.val = 1 ∧ (s.drv d.val).entry = none →
    (s.drv d.val).seq = none →
    s.drvC d.val = 0 ∧ s.idleY d.val s.epoch = 0 →
    Gives (.dacClamp d w) s fun t =>
      (t.drv d.val).seq = some { kind := 2, phase := 2, ends := s.tb + 2500, range := 0 } ∧
      t.rd DAC_STAT.UNCLAMP_BUSY d.val = 1 ∧
      Others s.drv t.drv d.val ∧
      FieldsKept s t [(DAC_STAT.UNCLAMP_BUSY, d.val), (HOST_STAT.COLLIDE_COUNT, 0)] ∧
      t = { s with chip := { s.chip with regs := t.chip.regs, hostp := t.chip.hostp, drv := t.chip.drv } }) ∧
  (∀ (d : Fin 64) (w : Wr) (s : State),
    Accepted s w (pgDrv d.val) →
    bits (w.val ||| 0x2).toNat 0 4 = 0x2 →
    s.drvState d.val = 4 ∨ s.drvState d.val = 1 ∧ (s.drv d.val).entry = none →
    (s.drv d.val).seq = none →
    s.drvC d.val ≠ 0 ∨ s.idleY d.val s.epoch ≠ 0 →
    Gives (.dacClamp d w) s fun t =>
      (t.drv d.val).seq = some { kind := 2, phase := 1, ends := s.tb + s.rampT d.val, range := 0 } ∧
      t.rd DAC_STAT.UNCLAMP_BUSY d.val = 1 ∧ (t.drv d.val).move = some (s.idleY d.val s.epoch, 0, s.epoch, s.rampT d.val) ∧
      Others s.drv t.drv d.val ∧
      FieldsKept s t [(DAC_STAT.UNCLAMP_BUSY, d.val), (HOST_STAT.COLLIDE_COUNT, 0)] ∧
      t = { s with chip := { s.chip with regs := t.chip.regs, hostp := t.chip.hostp, drv := t.chip.drv } }) ∧
  (∀ (d : Fin 64) (w : Wr) (s : State),
    Accepted s w (pgDrv d.val) →
    bits (w.val ||| 0x2).toNat 0 4 = 0x2 →
    ¬ (s.drvState d.val = 4 ∨ s.drvState d.val = 1 ∧ (s.drv d.val).entry = none) →
    Gives (.dacClamp d w) s fun t =>
      Refused s t (pgDrv d.val) 0x0010 ∧
      FieldsKept s t [(ERR_CODE.LAST, pgDrv d.val), (ERR_CODE.FIRST, pgDrv d.val), (ERR_COUNT.COUNT, pgDrv d.val), (HOST_STAT.COLLIDE_COUNT, 0)] ∧
      t = { s with chip := { s.chip with regs := t.chip.regs, hostp := t.chip.hostp } }) ∧
  (∀ (d : Fin 64) (w : Wr) (s : State),
    Accepted s w (pgDrv d.val) →
    bits (w.val ||| 0x2).toNat 0 4 = 0x2 →
    s.drvState d.val = 4 ∨ s.drvState d.val = 1 ∧ (s.drv d.val).entry = none →
    (s.drv d.val).seq ≠ none →
    Gives (.dacClamp d w) s fun t =>
      Refused s t (pgDrv d.val) 0x13 ∧
      FieldsKept s t [(ERR_CODE.LAST, pgDrv d.val), (ERR_CODE.FIRST, pgDrv d.val), (ERR_COUNT.COUNT, pgDrv d.val), (HOST_STAT.COLLIDE_COUNT, 0)] ∧
      t = { s with chip := { s.chip with regs := t.chip.regs, hostp := t.chip.hostp } }) ∧
  (∀ (d : Fin 64) (w : Wr) (s : State),
    Accepted s w (pgDrv d.val) →
    bit w.val.toNat 3 = true ∧ bit w.val.toNat 0 = false ∧ bit w.val.toNat 2 = false →
    s.drvState d.val = 4 ∨ s.drvState d.val = 1 ∧ (s.drv d.val).entry = none →
    (s.drv d.val).seq = none →
    Gives (.dacClamp d w) s fun t =>
      Refused s t (pgDrv d.val) 0x14 ∧
      FieldsKept s t [(ERR_CODE.LAST, pgDrv d.val), (ERR_CODE.FIRST, pgDrv d.val), (ERR_COUNT.COUNT, pgDrv d.val), (HOST_STAT.COLLIDE_COUNT, 0)] ∧
      t = { s with chip := { s.chip with regs := t.chip.regs, hostp := t.chip.hostp } }) ∧
  (∀ (d : Fin 64) (q : Seq) (s : State),
    s.seqDue d.val 2 = some q ∧ q.phase = 1 →
    Gives (.clampPhaseEnd d) s fun t =>
      (t.drv d.val).seq = some { kind := 2, phase := 2, ends := s.tb + 2500, range := 0 } ∧ (t.drv d.val).move = none ∧
      Others s.drv t.drv d.val ∧
      t = { s with chip := { s.chip with drv := t.chip.drv } }) ∧
  (∀ (d : Fin 64) (q : Seq) (s : State),
    s.seqDue d.val 2 = some q ∧ q.phase = 2 →
    Gives (.clampPhaseEnd d) s fun t =>
      t.drvState d.val = 0 ∧
      t.rd DAC_STAT.CLAMP_ON d.val = 1 ∧ t.rd DAC_STAT.UNCLAMP_BUSY d.val = 0 ∧ t.drv d.val = { s.drv d.val with seq := none, seqEnd := s.tb } ∧
      Others s.drv t.drv d.val ∧
      ∃ u : State,
        u.rd DAC_STAT.CLAMP_ON d.val = 1 ∧ u.rd DAC_STAT.UNCLAMP_BUSY d.val = 0 ∧ u.rd DAC_STAT.RANGE_BUSY d.val = 0 ∧
        FieldsKept s u [(DAC_STAT.CLAMP_ON, d.val), (DAC_STAT.UNCLAMP_BUSY, d.val), (DAC_STAT.RANGE_BUSY, d.val)] ∧
        u = { s with chip := { s.chip with regs := u.chip.regs, drv := u.chip.drv } } ∧
        t = { s with chip := (u.setDrvState d.val 0).chip }) ∧
  (∀ (d : Fin 64) (s : State),
    s.seqDue d.val 2 = none →
    Gives (.clampPhaseEnd d) s fun t =>
      t = s) ∧
  (∀ (d : Fin 64) (w : Wr) (s : State),
    Accepted s w (pgDrv d.val) →
    bits (w.val ||| 0x4).toNat 0 4 = 0x4 →
    s.drvState d.val = 1 ∧ (s.drv d.val).entry = none ∧ s.clrN = false ∧ s.rdA DAC_CFG.CLEAR_CODE d.val = 0x80000 →
    (s.drv d.val).seq = none →
    s.rd DAC_STAT.RANGE d.val ≠ (bits w.val.toNat 8 1) →
    Gives (.dacRangeSet d w) s fun t =>
      (t.drv d.val).seq = some { kind := 3, phase := 1, ends := s.tb + 2500, range := (bits w.val.toNat 8 1) } ∧
      t.rd DAC_STAT.RANGE_BUSY d.val = 1 ∧
      Others s.drv t.drv d.val ∧
      FieldsKept s t [(DAC_STAT.RANGE_BUSY, d.val), (HOST_STAT.COLLIDE_COUNT, 0)] ∧
      t = { s with chip := { s.chip with regs := t.chip.regs, hostp := t.chip.hostp, drv := t.chip.drv } }) ∧
  (∀ (d : Fin 64) (w : Wr) (s : State),
    Accepted s w (pgDrv d.val) →
    bits (w.val ||| 0x4).toNat 0 4 = 0x4 →
    s.drvState d.val = 1 ∧ (s.drv d.val).entry = none ∧ s.clrN = false ∧ s.rdA DAC_CFG.CLEAR_CODE d.val = 0x80000 →
    (s.drv d.val).seq = none →
    s.rd DAC_STAT.RANGE d.val = (bits w.val.toNat 8 1) →
    Gives (.dacRangeSet d w) s fun t =>
      Raised t (pgDrv d.val) (27) ∧
      FieldsKept s t [(IRQ_STAT.BITS, pgDrv d.val), (HOST_STAT.COLLIDE_COUNT, 0)] ∧
      t = { s with chip := { s.chip with regs := t.chip.regs, hostp := t.chip.hostp } }) ∧
  (∀ (d : Fin 64) (w : Wr) (s : State),
    Accepted s w (pgDrv d.val) →
    bits (w.val ||| 0x4).toNat 0 4 = 0x4 →
    s.drvState d.val ≠ 1 ∨ (s.drv d.val).entry ≠ none →
    Gives (.dacRangeSet d w) s fun t =>
      Refused s t (pgDrv d.val) 0x10 ∧
      FieldsKept s t [(ERR_CODE.LAST, pgDrv d.val), (ERR_CODE.FIRST, pgDrv d.val), (ERR_COUNT.COUNT, pgDrv d.val), (HOST_STAT.COLLIDE_COUNT, 0)] ∧
      t = { s with chip := { s.chip with regs := t.chip.regs, hostp := t.chip.hostp } }) ∧
  (∀ (d : Fin 64) (w : Wr) (s : State),
    Accepted s w (pgDrv d.val) →
    bits (w.val ||| 0x4).toNat 0 4 = 0x4 →
    s.drvState d.val = 1 ∧ (s.drv d.val).entry = none ∧ s.clrN = true →
    Gives (.dacRangeSet d w) s fun t =>
      Refused s t (pgDrv d.val) 0x11 ∧
      FieldsKept s t [(ERR_CODE.LAST, pgDrv d.val), (ERR_CODE.FIRST, pgDrv d.val), (ERR_COUNT.COUNT, pgDrv d.val), (HOST_STAT.COLLIDE_COUNT, 0)] ∧
      t = { s with chip := { s.chip with regs := t.chip.regs, hostp := t.chip.hostp } }) ∧
  (∀ (d : Fin 64) (w : Wr) (s : State),
    Accepted s w (pgDrv d.val) →
    bits (w.val ||| 0x4).toNat 0 4 = 0x4 →
    s.drvState d.val = 1 ∧ (s.drv d.val).entry = none ∧ s.clrN = false ∧ s.rdA DAC_CFG.CLEAR_CODE d.val ≠ 0x80000 →
    Gives (.dacRangeSet d w) s fun t =>
      Refused s t (pgDrv d.val) 0x12 ∧
      FieldsKept s t [(ERR_CODE.LAST, pgDrv d.val), (ERR_CODE.FIRST, pgDrv d.val), (ERR_COUNT.COUNT, pgDrv d.val), (HOST_STAT.COLLIDE_COUNT, 0)] ∧
      t = { s with chip := { s.chip with regs := t.chip.regs, hostp := t.chip.hostp } }) ∧
  (∀ (d : Fin 64) (w : Wr) (s : State),
    Accepted s w (pgDrv d.val) →
    bits (w.val ||| 0x4).toNat 0 4 = 0x4 →
    s.drvState d.val = 1 ∧ (s.drv d.val).entry = none ∧ s.clrN = false ∧ s.rdA DAC_CFG.CLEAR_CODE d.val = 0x80000 ∧ (s.drv d.val).seq ≠ none →
    Gives (.dacRangeSet d w) s fun t =>
      Refused s t (pgDrv d.val) 0x13 ∧
      FieldsKept s t [(ERR_CODE.LAST, pgDrv d.val), (ERR_CODE.FIRST, pgDrv d.val), (ERR_COUNT.COUNT, pgDrv d.val), (HOST_STAT.COLLIDE_COUNT, 0)] ∧
      t = { s with chip := { s.chip with regs := t.chip.regs, hostp := t.chip.hostp } }) ∧
  (∀ (d : Fin 64) (w : Wr) (s : State),
    Accepted s w (pgDrv d.val) →
    bit w.val.toNat 3 = true ∧ bits w.val.toNat 0 2 = 0 →
    s.drvState d.val = 1 ∧ (s.drv d.val).entry = none ∧ s.clrN = false ∧ s.rdA DAC_CFG.CLEAR_CODE d.val = 0x80000 ∧ (s.drv d.val).seq = none →
    Gives (.dacRangeSet d w) s fun t =>
      Refused s t (pgDrv d.val) 0x14 ∧
      FieldsKept s t [(ERR_CODE.LAST, pgDrv d.val), (ERR_CODE.FIRST, pgDrv d.val), (ERR_COUNT.COUNT, pgDrv d.val), (HOST_STAT.COLLIDE_COUNT, 0)] ∧
      t = { s with chip := { s.chip with regs := t.chip.regs, hostp := t.chip.hostp } }) ∧
  (∀ (d : Fin 64) (q : Seq) (s : State),
    s.seqDue d.val 3 = some q ∧ q.phase = 1 →
    Gives (.rangePhaseEnd d) s fun t =>
      (t.drv d.val).seq = some { kind := 3, phase := 2, ends := s.tb + 10000, range := q.range } ∧
      t.rd DAC_STAT.CLAMP_ON d.val = 1 ∧ t.rd DAC_STAT.RANGE d.val = q.range % 2 ∧
      Others s.drv t.drv d.val ∧
      FieldsKept s t [(DAC_STAT.CLAMP_ON, d.val), (DAC_STAT.RANGE, d.val)] ∧
      t = { s with chip := { s.chip with regs := t.chip.regs, drv := t.chip.drv } }) ∧
  (∀ (d : Fin 64) (q : Seq) (s : State),
    s.seqDue d.val 3 = some q ∧ q.phase = 2 →
    Gives (.rangePhaseEnd d) s fun t =>
      (t.drv d.val).seq = some { kind := 3, phase := 3, ends := s.tb + 2500, range := q.range } ∧
      t.rd DAC_STAT.DOUT d.val = 0x80000 ∧
      Others s.drv t.drv d.val ∧
      FieldsKept s t [(DAC_STAT.DOUT, d.val), (DAC_CNT.MAJOR, d.val)] ∧
      t = { s with chip := { s.chip with regs := t.chip.regs, drv := t.chip.drv } }) ∧
  (∀ (d : Fin 64) (q : Seq) (s : State),
    s.seqDue d.val 3 = some q ∧ q.phase = 3 →
    Gives (.rangePhaseEnd d) s fun t =>
      t.rd DAC_STAT.CLAMP_ON d.val = 0 ∧ t.rd DAC_STAT.RANGE_BUSY d.val = 0 ∧ (t.drv d.val).seq = none ∧
      Raised t (pgDrv d.val) (27) ∧
      Others s.drv t.drv d.val ∧
      FieldsKept s t [(DAC_STAT.CLAMP_ON, d.val), (DAC_STAT.UNCLAMP_BUSY, d.val), (DAC_STAT.RANGE_BUSY, d.val), (IRQ_STAT.BITS, pgDrv d.val)] ∧
      t = { s with chip := { s.chip with regs := t.chip.regs, hostp := t.chip.hostp, drv := t.chip.drv } }) ∧
  (∀ (d : Fin 64) (s : State),
    s.seqDue d.val 3 = none →
    Gives (.rangePhaseEnd d) s fun t =>
      t = s) ∧
  (∀ (d : Fin 64) (w : Wr) (s : State),
    Accepted s w (pgDrv d.val) →
    bits (w.val ||| 0x8).toNat 0 4 = 0x8 →
    (s.drv d.val).seq = none →
    Gives (.dacSwLoad d w) s fun t =>
      t.grp (grpOf d.val) = { s.grp (grpOf d.val) with sw := (s.grp (grpOf d.val)).sw ++ [s.epoch + s.h] } ∧
      Others s.grp t.grp (grpOf d.val) ∧
      FieldsKept s t [(HOST_STAT.COLLIDE_COUNT, 0)] ∧
      t = { s with chip := { s.chip with regs := t.chip.regs, hostp := t.chip.hostp, grp := t.chip.grp } }) ∧
  (∀ (d : Fin 64) (w : Wr) (s : State),
    Accepted s w (pgDrv d.val) →
    bits (w.val ||| 0x8).toNat 0 4 = 0x8 →
    (s.drv d.val).seq ≠ none →
    Gives (.dacSwLoad d w) s fun t =>
      Refused s t (pgDrv d.val) 0x13 ∧
      FieldsKept s t [(ERR_CODE.LAST, pgDrv d.val), (ERR_CODE.FIRST, pgDrv d.val), (ERR_COUNT.COUNT, pgDrv d.val), (HOST_STAT.COLLIDE_COUNT, 0)] ∧
      t = { s with chip := { s.chip with regs := t.chip.regs, hostp := t.chip.hostp } }) ∧
  (∀ (g : Fin 8) (s : State),
    (s.grp g.val).sw.any (fun t => decide (t ≤ s.epoch)) = true →
    Gives (.swLoadApply g) s fun t =>
      (∀ d : Fin 64, grpOf d.val = g.val → s.cfgLdsrc d.val = 2 → t.rd DAC_STAT.LDSRC_EFF d.val = 2 ∧ (t.drv d.val).missing = false ∧ (s.rd DAC_STAT.DOUT d.val < 2 ^ 20 → t.rd DAC_STAT.DOUT d.val = (if s.on DAC_STAT.CLR_FORCED d.val = true then s.rdA DAC_CFG.CLEAR_CODE d.val else (s.drv d.val).din.1) % 2 ^ 20)) ∧
      (∀ d : Fin 64, grpOf d.val ≠ g.val ∨ s.cfgLdsrc d.val ≠ 2 → t.drv d.val = s.drv d.val) ∧
      Others s.grp t.grp g.val ∧
      (∀ d : Fin 64, grpOf d.val ≠ g.val ∨ s.cfgLdsrc d.val ≠ 2 → t.rd DAC_STAT.DOUT d.val = s.rd DAC_STAT.DOUT d.val ∧ t.rd DAC_STAT.LDSRC_EFF d.val = s.rd DAC_STAT.LDSRC_EFF d.val) ∧
      (FieldsKept s t ((grpChans g.val).flatMap fun d => [(DAC_STAT.LDSRC_EFF, d), (DAC_STAT.DOUT, d), (DAC_CNT.MAJOR, d)])) ∧
      t = { s with chip := { s.chip with regs := t.chip.regs, drv := t.chip.drv, grp := t.chip.grp } } ∧
      ((t.grp g.val).sw = (s.grp g.val).sw.filter fun t => decide (s.epoch < t))) ∧
  (∀ (g : Fin 8) (s : State),
    (s.grp g.val).sw.any (fun t => decide (t ≤ s.epoch)) = false →
    Gives (.swLoadApply g) s fun t =>
      t = s) ∧
  (∀ (g : Fin 8) (sub : Fin 8) (s : State),
    (s.grp g.val).edge = none ∨ (s.grp g.val).edge.getD 0 + 32 ≤ 8 * s.epoch + sub.val →
    Gives (.ldacNEdge g sub) s fun t =>
      t.grp g.val = { s.grp g.val with edge := some (8 * s.epoch + sub.val), ldac := (s.grp g.val).ldac ++ [s.epoch] } ∧
      Others s.grp t.grp g.val ∧
      t = { s with chip := { s.chip with grp := t.chip.grp } }) ∧
  (∀ (g : Fin 8) (sub : Fin 8) (p : Nat) (s : State),
    (s.grp g.val).edge = some p ∧ p ≤ 8 * s.epoch + sub.val ∧ 8 * s.epoch + sub.val < p + 32 →
    Gives (.ldacNEdge g sub) s fun t =>
      t.grp g.val = { s.grp g.val with edge := some (8 * s.epoch + sub.val) } ∧
      Others s.grp t.grp g.val ∧
      t = { s with chip := { s.chip with grp := t.chip.grp } }) ∧
  (∀ (g : Fin 8) (e : Nat) (r : List Nat) (s : State),
    (s.grp g.val).ldac.filter (fun t => decide (t + 8 ≤ s.epoch)) = e :: r →
    Gives (.ldacLoad g) s fun t =>
      (∀ d : Fin 64, grpOf d.val = g.val → s.cfgLdsrc d.val = 1 → t.rd DAC_STAT.LDSRC_EFF d.val = 1 ∧ (t.drv d.val).missing = false ∧ (s.rd DAC_STAT.DOUT d.val < 2 ^ 20 → t.rd DAC_STAT.DOUT d.val = (if s.on DAC_STAT.CLR_FORCED d.val = true then s.rdA DAC_CFG.CLEAR_CODE d.val else (s.drv d.val).dinBy e) % 2 ^ 20)) ∧
      (∀ d : Fin 64, grpOf d.val ≠ g.val ∨ s.cfgLdsrc d.val ≠ 1 → t.drv d.val = s.drv d.val) ∧
      Others s.grp t.grp g.val ∧
      (∀ d : Fin 64, grpOf d.val ≠ g.val ∨ s.cfgLdsrc d.val ≠ 1 → t.rd DAC_STAT.DOUT d.val = s.rd DAC_STAT.DOUT d.val ∧ t.rd DAC_STAT.LDSRC_EFF d.val = s.rd DAC_STAT.LDSRC_EFF d.val) ∧
      (FieldsKept s t ((grpChans g.val).flatMap fun d => [(DAC_STAT.LDSRC_EFF, d), (DAC_STAT.DOUT, d), (DAC_CNT.MAJOR, d)])) ∧
      t = { s with chip := { s.chip with regs := t.chip.regs, drv := t.chip.drv, grp := t.chip.grp } } ∧
      (t.grp g.val).ldac = (s.grp g.val).ldac.drop 1) ∧
  (∀ (g : Fin 8) (s : State),
    (s.grp g.val).ldac.filter (fun t => decide (t + 8 ≤ s.epoch)) = [] →
    Gives (.ldacLoad g) s fun t =>
      t = s) ∧
  (∀ (d : Fin 64) (s : State),
    s.cfgLdsrc d.val ≠ 0 ∧ (s.drv d.val).missing = false ∧ (s.drv d.val).loadAt + 2 * s.grpPer (grpOf d.val) ≤ s.epoch →
    Gives (.ldacMissing d) s fun t =>
      t.drv d.val = { s.drv d.val with missing := true } ∧ t.rd DAC_STAT.LDSRC_EFF d.val = 0 ∧
      Raised t (pgDrv d.val) (29) ∧
      Others s.drv t.drv d.val ∧
      FieldsKept s t [(DAC_STAT.LDSRC_EFF, d.val), (IRQ_STAT.BITS, pgDrv d.val)] ∧
      t = { s with chip := { s.chip with regs := t.chip.regs, hostp := t.chip.hostp, drv := t.chip.drv } }) ∧
  (∀ (d : Fin 64) (s : State),
    s.cfgLdsrc d.val = 0 ∨ (s.drv d.val).missing = true ∨ s.epoch < (s.drv d.val).loadAt + 2 * s.grpPer (grpOf d.val) →
    Gives (.ldacMissing d) s fun t =>
      t = s) ∧
  (∀ (d : Fin 64) (h : Nat) (s : State),
    (s.drv d.val).holdTo = some h ∧ h ≤ s.epoch →
    Gives (.thHoldEnd d) s fun t =>
      t.drv d.val = { s.drv d.val with m0 := s.loupeModel d.val h, mAt := h, holdTo := none, mIn := idealOut (s.rd DAC_STAT.RANGE d.val) (s.rd DAC_STAT.DOUT d.val) } ∧
      Others s.drv t.drv d.val ∧
      t = { s with chip := { s.chip with drv := t.chip.drv } }) ∧
  (∀ (d : Fin 64) (h : Nat) (s : State),
    (s.drv d.val).holdTo = some h ∧ s.epoch < h →
    Gives (.thHoldEnd d) s fun t =>
      t = s) ∧
  (∀ (d : Fin 64) (s : State),
    (s.drv d.val).holdTo = none →
    Gives (.thHoldEnd d) s fun t =>
      t = s) ∧
  (∀ (s : State),
    s.clrN = false →
    Gives (.clrNAssert) s fun t =>
      t.clrN = true ∧ t.rd LOUPE_CLR_STAT.HARD_CLEAR_COUNT 0 = min 0xFFFF (s.rd LOUPE_CLR_STAT.HARD_CLEAR_COUNT 0 + 1) ∧
      (∀ d : Fin 64, t.rd DAC_STAT.CLR_FORCED d.val = 1 ∧ (s.drvState d.val ≠ 0 → t.rd DAC_STAT.DOUT d.val = s.rdA DAC_CFG.CLEAR_CODE d.val % 2 ^ 20)) ∧
      (∀ d : Fin 64, t.drvState d.val = if s.drvState d.val = 2 ∨ s.drvState d.val = 3 then 4 else s.drvState d.val) ∧
      (∀ d : Fin 64, s.drvState d.val ≠ 0 → (t.drv d.val).entry = none ∧ (s.clampSeq d.val = false → (t.drv d.val).move = none) ∧ (t.drv d.val).seq = (s.drv d.val).seq) ∧
      (∀ d : Fin 64, s.drvState d.val = 0 → t.rd DAC_STAT.DOUT d.val = s.rd DAC_STAT.DOUT d.val ∧ t.drv d.val = s.drv d.val) ∧
      Raised t pgLoupe 2 ∧
      (∃ r ∈ t.recs, r.cls = 0x0A ∧ r.index = 0xFFFF ∧ r.code = 0x0F05) ∧
      t = { s with chip := { s.chip with regs := t.chip.regs, hostp := t.chip.hostp, recs := t.chip.recs, drv := t.chip.drv, grp := t.chip.grp, crown := t.chip.crown, bank := t.chip.bank, sense := t.chip.sense } }) ∧
  (∀ (s : State),
    s.clrN = true →
    Gives (.clrNAssert) s fun t =>
      t = s) ∧
  (∀ (s : State),
    Gives (.clrNRelease) s fun t =>
      (t.clrN = false ∧ ∀ d : Fin 64, t.rd DAC_STAT.CLR_FORCED d.val = 0 ∧ t.drvState d.val = s.drvState d.val) ∧
      (FieldsKept s t ((LOUPE_CLR_STAT.CLR_N_ASSERTED, 0) :: (List.range 64).map fun d => (DAC_STAT.CLR_FORCED, d))) ∧
      t = { s with chip := { s.chip with regs := t.chip.regs } }) ∧
  (∀ (s : State),
    Gives (.vddaHvLoss) s fun t =>
      t.rd LOUPE_STAT.VDDA_HV_OK 0 = 0 ∧
      (∀ d : Fin 64, t.drvState d.val = 0 ∧ (t.drv d.val).seq = none ∧ (s.drvState d.val ≠ 0 → t.rd DAC_STAT.CLAMP_ON d.val = 1 ∧ (t.drv d.val).entry = none)) ∧
      ((List.range 64).any (fun d => s.drvState d != 0) = true → Raised t pgLoupe 1 ∧ ∃ r ∈ t.recs, r.cls = 0x0A ∧ r.index = 0xFFFF ∧ r.code = 0x0F06) ∧
      t = { s with chip := { s.chip with regs := t.chip.regs, hostp := t.chip.hostp, recs := t.chip.recs, drv := t.chip.drv, grp := t.chip.grp, crown := t.chip.crown, bank := t.chip.bank, sense := t.chip.sense } }) ∧
  (∀ (s : State),
    Gives (.vddaHvValid) s fun t =>
      t.rd LOUPE_STAT.VDDA_HV_OK 0 = 1 ∧
      FieldsKept s t [(LOUPE_STAT.VDDA_HV_OK, 0)] ∧
      t = { s with chip := { s.chip with regs := t.chip.regs } })

/-- The Loupe and the trim registers. the Loupe reads the node of its slot: a DAC node shows its reading and its residual against the model, follows the drift in IDLE and CLEARED, and a compared read out of tolerance counts and, when as many in a row as asked for have, is a mismatch with its event, record, count and soft stop; another node shows its reading and its mismatch, and a die sensor moves the temperature bins, the maximum and the warning; a calibration result for the Loupe is loaded at the start of a frame; a write of DAC_TRIM_DATA stores the trim that ITEM names and advances it, and is refused where the lock is closed or ITEM names none; CNT_CLR clears the counts. Where the rules leave room the clauses state the model's readings (log entries 3 and 7 to 12) -/
def Obligations.LoupeAndTrims : Prop :=
  (∀ (reading : BitVec 16) (d : Nat) (s : State),
    s.on LOUPE_CTRL.EN 0 = true ∧ s.epoch % 125 = 0 ∧ s.epoch / 125 % 128 = 2 * d ∧ (d = 0 → s.cal.later.all (fun x => x.1 != 4) = true) →
    s.on LOUPE_CH_CFG.EN d = false ∨ s.drvState d = 0 ∨ (s.drv d).seq.isSome = true ∨ s.tb < (s.drv d).seqEnd + 1000 →
    Gives (.loupeRead reading) s fun t =>
      t.rd LOUPE_CH_LAST.READING d = reading.toNat ∧ t.rd LOUPE_CH_LAST.RESID d = unsigned 16 (satInt 16 (signed 16 reading.toNat - roundDiv (s.loupeModel d s.epoch) 65536)) % 2 ^ 16 ∧
      FieldsKept s t [(LOUPE_CH_LAST.READING, d), (LOUPE_CH_LAST.RESID, d)] ∧
      t = { s with chip := { s.chip with regs := t.chip.regs } }) ∧
  (∀ (reading : BitVec 16) (d : Nat) (s : State),
    s.on LOUPE_CTRL.EN 0 = true ∧ s.epoch % 125 = 0 ∧ s.epoch / 125 % 128 = 2 * d ∧ (d = 0 → s.cal.later.all (fun x => x.1 != 4) = true) →
    s.on LOUPE_CH_CFG.EN d = true ∧ (s.drvState d = 2 ∨ s.drvState d = 3) ∧ (s.drv d).seq = none ∧ (s.drv d).seqEnd + 1000 ≤ s.tb →
    (signed 16 reading.toNat - roundDiv (s.loupeModel d s.epoch) 65536).natAbs ≤ s.rd LOUPE_CH_CFG.TOL d →
    Gives (.loupeRead reading) s fun t =>
      t.rd LOUPE_CH_LAST.READING d = reading.toNat ∧ t.rd LOUPE_CH_LAST.RESID d = unsigned 16 (satInt 16 (signed 16 reading.toNat - roundDiv (s.loupeModel d s.epoch) 65536)) % 2 ^ 16 ∧
      t.node d = {} ∧ Others s.node t.node d ∧
      FieldsKept s t [(LOUPE_CH_LAST.READING, d), (LOUPE_CH_LAST.RESID, d)] ∧
      t = { s with chip := { s.chip with regs := t.chip.regs, node := t.chip.node } }) ∧
  (∀ (reading : BitVec 16) (d : Nat) (s : State),
    s.on LOUPE_CTRL.EN 0 = true ∧ s.epoch % 125 = 0 ∧ s.epoch / 125 % 128 = 2 * d ∧ (d = 0 → s.cal.later.all (fun x => x.1 != 4) = true) →
    s.on LOUPE_CH_CFG.EN d = true ∧ (s.drvState d = 2 ∨ s.drvState d = 3) ∧ (s.drv d).seq = none ∧ (s.drv d).seqEnd + 1000 ≤ s.tb →
    s.rd LOUPE_CH_CFG.TOL d < (signed 16 reading.toNat - roundDiv (s.loupeModel d s.epoch) 65536).natAbs →
    (s.node d).run + 1 < s.rd LOUPE_CH_CFG.MISS_N d ∨ (s.node d).told = true →
    Gives (.loupeRead reading) s fun t =>
      t.rd LOUPE_CH_LAST.READING d = reading.toNat ∧ t.rd LOUPE_CH_LAST.RESID d = unsigned 16 (satInt 16 (signed 16 reading.toNat - roundDiv (s.loupeModel d s.epoch) 65536)) % 2 ^ 16 ∧
      t.rd LOUPE_CH_CNT.OUT_TOL d = min 0xFFFF (s.rd LOUPE_CH_CNT.OUT_TOL d + 1) ∧
      t.node d = { s.node d with run := (s.node d).run + 1 } ∧ Others s.node t.node d ∧
      FieldsKept s t [(LOUPE_CH_LAST.READING, d), (LOUPE_CH_LAST.RESID, d), (LOUPE_CH_CNT.OUT_TOL, d)] ∧
      t = { s with chip := { s.chip with regs := t.chip.regs, node := t.chip.node } }) ∧
  (∀ (reading : BitVec 16) (d : Nat) (s : State),
    s.on LOUPE_CTRL.EN 0 = true ∧ s.epoch % 125 = 0 ∧ s.epoch / 125 % 128 = 2 * d ∧ (d = 0 → s.cal.later.all (fun x => x.1 != 4) = true) →
    s.on LOUPE_CH_CFG.EN d = true ∧ (s.drvState d = 2 ∨ s.drvState d = 3) ∧ (s.drv d).seq = none ∧ (s.drv d).seqEnd + 1000 ≤ s.tb →
    s.rd LOUPE_CH_CFG.TOL d < (signed 16 reading.toNat - roundDiv (s.loupeModel d s.epoch) 65536).natAbs →
    s.rd LOUPE_CH_CFG.MISS_N d ≤ (s.node d).run + 1 ∧ (s.node d).told = false ∧ s.on LOUPE_CH_CFG.ACTION d = false →
    Gives (.loupeRead reading) s fun t =>
      t.rd LOUPE_CH_LAST.READING d = reading.toNat ∧ t.rd LOUPE_CH_LAST.RESID d = unsigned 16 (satInt 16 (signed 16 reading.toNat - roundDiv (s.loupeModel d s.epoch) 65536)) % 2 ^ 16 ∧
      t.rd LOUPE_CH_CNT.OUT_TOL d = min 0xFFFF (s.rd LOUPE_CH_CNT.OUT_TOL d + 1) ∧
      t.rd LOUPE_CH_CNT.MISMATCH d = min 0xFFFF (s.rd LOUPE_CH_CNT.MISMATCH d + 1) ∧
      t.prodq = s.prodq ++ [{ prod := prodId 7 d, st := s.now, gen := 0 }] ∧
      Raised t (pgDrv d) 26 ∧
      Recorded s t 0x0A d 0x0F01 ∧
      t.node d = { run := (s.node d).run + 1, told := true } ∧ Others s.node t.node d ∧
      FieldsKept s t [(LOUPE_CH_LAST.READING, d), (LOUPE_CH_LAST.RESID, d), (LOUPE_CH_CNT.OUT_TOL, d), (LOUPE_CH_CNT.MISMATCH, d), (IRQ_STAT.BITS, pgDrv d)] ∧
      t = { s with chip := { s.chip with regs := t.chip.regs, hostp := t.chip.hostp, recs := t.chip.recs, prodq := t.chip.prodq, node := t.chip.node } }) ∧
  (∀ (reading : BitVec 16) (n : Nat) (s : State),
    s.on LOUPE_CTRL.EN 0 = true ∧ s.epoch % 125 = 0 ∧ s.epoch / 125 % 2 = 1 ∧ s.epoch / 125 % 128 ≠ 127 →
    s.calHolds 4 0 = false ∧ s.nextNode s.loupe.node = some n ∧ (n < 89 ∨ 96 < n) →
    signed 16 (s.rd LOUPE_NODE_LIM.LO (n - 64)) ≤ signed 16 reading.toNat ∧ signed 16 reading.toNat < signed 16 (s.rd LOUPE_NODE_LIM.HI (n - 64)) →
    Gives (.loupeRead reading) s fun t =>
      t.rd LOUPE_NODE_VAL.READING (n - 64) = reading.toNat ∧ t.loupe = { s.loupe with node := n } ∧ t.node n = {} ∧
      Others s.node t.node n ∧
      FieldsKept s t [(LOUPE_NODE_VAL.READING, n - 64)] ∧
      t = { s with chip := { s.chip with regs := t.chip.regs, node := t.chip.node, loupe := t.chip.loupe } }) ∧
  (∀ (reading : BitVec 16) (d : Nat) (s : State),
    s.on LOUPE_CTRL.EN 0 = true ∧ s.epoch % 125 = 0 ∧ s.epoch / 125 % 128 = 2 * d ∧ (d = 0 → s.cal.later.all (fun x => x.1 != 4) = true) →
    s.on LOUPE_CH_CFG.EN d = true ∧ (s.drvState d = 2 ∨ s.drvState d = 3) ∧ (s.drv d).seq = none ∧ (s.drv d).seqEnd + 1000 ≤ s.tb →
    s.rd LOUPE_CH_CFG.TOL d < (signed 16 reading.toNat - roundDiv (s.loupeModel d s.epoch) 65536).natAbs →
    s.rd LOUPE_CH_CFG.MISS_N d ≤ (s.node d).run + 1 ∧ (s.node d).told = false ∧ s.on LOUPE_CH_CFG.ACTION d = true ∧ s.drvState d = 2 ∧ (s.drv d).entry = none →
    Gives (.loupeRead reading) s fun t =>
      t.rd LOUPE_CH_LAST.READING d = reading.toNat ∧ t.rd LOUPE_CH_LAST.RESID d = unsigned 16 (satInt 16 (signed 16 reading.toNat - roundDiv (s.loupeModel d s.epoch) 65536)) % 2 ^ 16 ∧
      t.rd LOUPE_CH_CNT.OUT_TOL d = min 0xFFFF (s.rd LOUPE_CH_CNT.OUT_TOL d + 1) ∧
      t.rd LOUPE_CH_CNT.MISMATCH d = min 0xFFFF (s.rd LOUPE_CH_CNT.MISMATCH d + 1) ∧
      t.prodq = s.prodq ++ [{ prod := prodId 7 d, st := s.now, gen := 0 }] ∧
      t.drv d = { s.drv d with stops := (s.drv d).stops ++ [(s.drvGran d (s.epoch + s.h), 6)] } ∧ Others s.drv t.drv d ∧
      Raised t (pgDrv d) 26 ∧
      Recorded s t 0x0A d 0x0F01 ∧
      t.node d = { run := (s.node d).run + 1, told := true } ∧ Others s.node t.node d ∧
      FieldsKept s t [(LOUPE_CH_LAST.READING, d), (LOUPE_CH_LAST.RESID, d), (LOUPE_CH_CNT.OUT_TOL, d), (LOUPE_CH_CNT.MISMATCH, d), (IRQ_STAT.BITS, pgDrv d)] ∧
      t = { s with chip := { s.chip with regs := t.chip.regs, hostp := t.chip.hostp, recs := t.chip.recs, prodq := t.chip.prodq, node := t.chip.node, drv := t.chip.drv } }) ∧
  (∀ (reading : BitVec 16) (d : Nat) (s : State),
    s.on LOUPE_CTRL.EN 0 = true ∧ s.epoch % 125 = 0 ∧ s.epoch / 125 % 128 = 2 * d ∧ (d = 0 → s.cal.later.all (fun x => x.1 != 4) = true) →
    s.on LOUPE_CH_CFG.EN d = true ∧ (s.drvState d = 1 ∨ s.drvState d = 4) ∧ (s.drv d).seq = none ∧ (s.drv d).seqEnd + 1000 ≤ s.tb →
    (signed 16 reading.toNat - roundDiv (s.loupeModel d s.epoch) 65536).natAbs ≤ s.rd LOUPE_CH_CFG.TOL d →
    Gives (.loupeRead reading) s fun t =>
      t.drv d = { s.drv d with drift := (s.drv d).drift + roundDiv ((signed 16 reading.toNat - roundDiv (s.loupeModel d s.epoch) 65536) * 2 ^ 24 - (s.drv d).drift) 4096 } ∧
      t.rd LOUPE_CH_DRIFT.DRIFT d = unsigned 32 (roundDiv (t.drv d).drift 65536) % 2 ^ 32 ∧
      t.rd LOUPE_CH_LAST.READING d = reading.toNat ∧
      t.node d = {} ∧ Others s.node t.node d ∧ Others s.drv t.drv d ∧
      FieldsKept s t [(LOUPE_CH_LAST.READING, d), (LOUPE_CH_LAST.RESID, d), (LOUPE_CH_DRIFT.DRIFT, d)] ∧
      t = { s with chip := { s.chip with regs := t.chip.regs, node := t.chip.node, drv := t.chip.drv } }) ∧
  (∀ (reading : BitVec 16) (n : Nat) (s : State),
    s.on LOUPE_CTRL.EN 0 = true ∧ s.epoch % 125 = 0 ∧ s.epoch / 125 % 2 = 1 ∧ s.epoch / 125 % 128 ≠ 127 →
    s.calHolds 4 0 = false ∧ s.nextNode s.loupe.node = some n ∧ (n < 89 ∨ 96 < n) →
    (signed 16 reading.toNat < signed 16 (s.rd LOUPE_NODE_LIM.LO (n - 64)) ∨ signed 16 (s.rd LOUPE_NODE_LIM.HI (n - 64)) ≤ signed 16 reading.toNat) ∧ s.rd LOUPE_NODE_CFG.MISS_N (n - 64) ≤ (s.node n).run + 1 ∧ (s.node n).told = false ∧ s.on LOUPE_NODE_CFG.ACTION (n - 64) = false →
    Gives (.loupeRead reading) s fun t =>
      t.rd LOUPE_NODE_VAL.READING (n - 64) = reading.toNat ∧ t.loupe = { s.loupe with node := n } ∧ t.node n = { run := (s.node n).run + 1, told := true } ∧
      t.rd LOUPE_NODE_VAL.MISMATCH (n - 64) = min 0xFFFF (s.rd LOUPE_NODE_VAL.MISMATCH (n - 64) + 1) ∧
      t.prodq = s.prodq ++ [{ prod := prodId 7 n, st := s.now, gen := 0 }] ∧
      Raised t pgLoupe 0 ∧
      Recorded s t 0x0A n 0x0F01 ∧
      Others s.node t.node n ∧
      FieldsKept s t [(LOUPE_NODE_VAL.READING, n - 64), (LOUPE_NODE_VAL.MISMATCH, n - 64), (IRQ_STAT.BITS, pgLoupe)] ∧
      t = { s with chip := { s.chip with regs := t.chip.regs, hostp := t.chip.hostp, recs := t.chip.recs, prodq := t.chip.prodq, node := t.chip.node, loupe := t.chip.loupe } }) ∧
  (∀ (reading : BitVec 16) (n : Nat) (s : State),
    s.on LOUPE_CTRL.EN 0 = true ∧ s.epoch % 125 = 0 ∧ s.epoch / 125 % 2 = 1 ∧ s.epoch / 125 % 128 ≠ 127 →
    s.calHolds 4 0 = false ∧ s.nextNode s.loupe.node = some n ∧ (n < 89 ∨ 96 < n) →
    (signed 16 reading.toNat < signed 16 (s.rd LOUPE_NODE_LIM.LO (n - 64)) ∨ signed 16 (s.rd LOUPE_NODE_LIM.HI (n - 64)) ≤ signed 16 reading.toNat) ∧ ((s.node n).run + 1 < s.rd LOUPE_NODE_CFG.MISS_N (n - 64) ∨ (s.node n).told = true) →
    Gives (.loupeRead reading) s fun t =>
      t.rd LOUPE_NODE_VAL.READING (n - 64) = reading.toNat ∧ t.loupe = { s.loupe with node := n } ∧ t.node n = { s.node n with run := (s.node n).run + 1 } ∧
      Others s.node t.node n ∧
      FieldsKept s t [(LOUPE_NODE_VAL.READING, n - 64)] ∧
      t = { s with chip := { s.chip with regs := t.chip.regs, node := t.chip.node, loupe := t.chip.loupe } }) ∧
  (∀ (reading : BitVec 16) (n : Nat) (s : State),
    s.on LOUPE_CTRL.EN 0 = true ∧ s.epoch % 125 = 0 ∧ s.epoch / 125 % 2 = 1 →
    s.calHolds 4 0 = false ∧ s.nextNode s.loupe.node = some n ∧ 89 ≤ n ∧ n ≤ 96 →
    Gives (.loupeRead reading) s fun t =>
      t.rd LOUPE_NODE_VAL.READING (n - 64) = reading.toNat ∧
      t.rd DEV_THERM.TEMP_MAX 0 = unsigned 8 (t.hottest / 64) % 2 ^ 8 ∧
      (∀ q : Fin 64, t.rd QPLL_STAT.TBIN q.val = (if 89 + Config.quadSensor q.val % 8 = n then t.quadBin q.val % 2 ^ 3 else s.rd QPLL_STAT.TBIN q.val)) ∧
      ((s.rd DEV_THERM.WARN_C 0 : Int) * 64 < t.hottest ∧ s.loupe.warned = false → Raised t pgDev 5 ∧ t.loupe.warned = true ∧ ∃ r ∈ t.recs, r.cls = 0x0E ∧ r.code = 0x1507) ∧
      (t.loupe.hot = if (s.rd DEV_THERM.SAFE_C 0 : Int) * 64 < t.hottest then some (s.loupe.hot.getD s.tb) else none) ∧
      (s.epoch / 125 % 128 = 127 → t.rd LOUPE_STAT.FRAMES 0 = (s.rd LOUPE_STAT.FRAMES 0 + 1) % 2 ^ 32) ∧
      Others s.node t.node n) ∧
  (∀ (reading : BitVec 16) (s : State),
    s.on LOUPE_CTRL.EN 0 = true ∧ s.epoch % 125 = 0 ∧ s.epoch / 125 % 2 = 1 →
    s.calHolds 4 0 = true ∨ s.nextNode s.loupe.node = none →
    Gives (.loupeRead reading) s fun t =>
      (t.rd LOUPE_STAT.FRAMES 0 = (if s.epoch / 125 % 128 = 127 then (s.rd LOUPE_STAT.FRAMES 0 + 1) % 2 ^ 32 else s.rd LOUPE_STAT.FRAMES 0)) ∧
      FieldsKept s t [(LOUPE_STAT.FRAMES, 0)] ∧
      t = { s with chip := { s.chip with regs := t.chip.regs } }) ∧
  (∀ (reading : BitVec 16) (ds : List Nat) (r : List (Nat × Nat × List Nat)) (s : State),
    s.on LOUPE_CTRL.EN 0 = true ∧ s.epoch % 16000 = 0 ∧ s.cal.later = (4, 0, ds) :: r →
    s.on LOUPE_CH_CFG.EN 0 = false →
    Gives (.loupeRead reading) s fun t =>
      (t.cal = { s.cal with later := r.filter fun y => !(y.1 == 4 && y.2.1 == 0), work := Sparse.put [] s.cal.work (calKey 4 0 0) ds }) ∧
      t.rd LOUPE_CH_LAST.READING 0 = reading.toNat ∧
      FieldsKept s t [(LOUPE_CH_LAST.READING, 0), (LOUPE_CH_LAST.RESID, 0)] ∧
      t = { s with chip := { s.chip with regs := t.chip.regs, cal := t.chip.cal } }) ∧
  (∀ (reading : BitVec 16) (s : State),
    s.on LOUPE_CTRL.EN 0 = false ∨ s.epoch % 125 ≠ 0 →
    Gives (.loupeRead reading) s fun t =>
      t = s) ∧
  (∀ (d : Fin 64) (w : Wr) (s : State),
    Accepted s w (pgDrv d.val) →
    s.on LOCK.OPEN (pgDrv d.val) = true ∧ (s.rd DAC_TRIM_IDX.ITEM d.val) ≤ 1025 →
    Gives (.dacTrimDataWrite d w) s fun t =>
      Sparse.get 0 (t.drv d.val).trims (2048 * s.rd DAC_TRIM_IDX.RANGE d.val + (s.rd DAC_TRIM_IDX.ITEM d.val)) = bits w.val.toNat 0 16 ∧
      t.drv d.val = { s.drv d.val with trims := (t.drv d.val).trims } ∧
      (∀ k, k ≠ 2048 * s.rd DAC_TRIM_IDX.RANGE d.val + (s.rd DAC_TRIM_IDX.ITEM d.val) → Sparse.get 0 (t.drv d.val).trims k = Sparse.get 0 (s.drv d.val).trims k) ∧
      t.rd DAC_TRIM_IDX.ITEM d.val = (s.rd DAC_TRIM_IDX.ITEM d.val) + 1 ∧ t.rd DAC_TRIM_DATA.VALUE d.val = bits w.val.toNat 0 16 ∧
      Others s.drv t.drv d.val ∧
      FieldsKept s t [(DAC_TRIM_IDX.ITEM, d.val), (DAC_TRIM_DATA.VALUE, d.val), (HOST_STAT.COLLIDE_COUNT, 0)] ∧
      t = { s with chip := { s.chip with regs := t.chip.regs, hostp := t.chip.hostp, drv := t.chip.drv } }) ∧
  (∀ (d : Fin 64) (w : Wr) (s : State),
    Accepted s w (pgDrv d.val) →
    s.on LOCK.OPEN (pgDrv d.val) = false →
    Gives (.dacTrimDataWrite d w) s fun t =>
      Refused s t (pgDrv d.val) 0x0101 ∧
      FieldsKept s t [(ERR_CODE.LAST, pgDrv d.val), (ERR_CODE.FIRST, pgDrv d.val), (ERR_COUNT.COUNT, pgDrv d.val), (HOST_STAT.COLLIDE_COUNT, 0)] ∧
      t = { s with chip := { s.chip with regs := t.chip.regs, hostp := t.chip.hostp } }) ∧
  (∀ (d : Fin 64) (w : Wr) (s : State),
    Accepted s w (pgDrv d.val) →
    s.on LOCK.OPEN (pgDrv d.val) = true ∧ 1025 < s.rd DAC_TRIM_IDX.ITEM d.val →
    Gives (.dacTrimDataWrite d w) s fun t =>
      Refused s t (pgDrv d.val) 0x14 ∧
      FieldsKept s t [(ERR_CODE.LAST, pgDrv d.val), (ERR_CODE.FIRST, pgDrv d.val), (ERR_COUNT.COUNT, pgDrv d.val), (HOST_STAT.COLLIDE_COUNT, 0)] ∧
      t = { s with chip := { s.chip with regs := t.chip.regs, hostp := t.chip.hostp } }) ∧
  (∀ (w : Wr) (s : State),
    Accepted s w pgLoupe →
    Gives (.loupeCntClr w) s fun t =>
      t.rd LOUPE_CTRL.EN 0 = bits w.val.toNat 31 1 ∧ t.rd LOUPE_STAT.FRAMES 0 = 0 ∧ t.rd LOUPE_CLR_STAT.HARD_CLEAR_COUNT 0 = 0 ∧
      (∀ d : Fin 64, t.rd LOUPE_CH_CNT.MISMATCH d.val = 0 ∧ t.rd LOUPE_CH_CNT.OUT_TOL d.val = 0) ∧
      (∀ n : Fin 34, t.rd LOUPE_NODE_VAL.MISMATCH n.val = 0) ∧
      (FieldsKept s t ((LOUPE_CTRL.EN, 0) :: (LOUPE_STAT.FRAMES, 0) :: (LOUPE_CLR_STAT.HARD_CLEAR_COUNT, 0) :: (HOST_STAT.COLLIDE_COUNT, 0) :: ((List.range 64).flatMap fun d => [(LOUPE_CH_CNT.MISMATCH, d), (LOUPE_CH_CNT.OUT_TOL, d)]) ++ (List.range 34).map fun n => (LOUPE_NODE_VAL.MISMATCH, n))) ∧
      t = { s with chip := { s.chip with regs := t.chip.regs, hostp := t.chip.hostp } })

/-- Sense banks and samples. a bank is enabled on a grid of its own or on that of its drive group, and refused while it is enabled; at its 64th sample tick it is settled; a sample of an enabled channel is trimmed, shown with OVR and its RMS, goes to the Crown group that measures with the channel, and is captured within the window, four bytes of the channel's region and no other byte of memory, or lost where the ring is full; the peak checker of a settled bank makes its event, record and soft stop once, until the sample falls below 7/8 of the threshold; a calibration result that waits is taken with the next sample, and a gain calibration makes the sample 0 with OVR; away from a sample tick nothing happens. Where the rules leave room the clauses state the model's readings (log entries 3 and 13 to 16) -/
def Obligations.SenseBanksAndSamples : Prop :=
  (∀ (b : Fin 8) (w : Wr) (s : State),
    Accepted s w (0x08A + b.val) →
    1954 ≤ bits w.val.toNat 0 20 →
    s.on SNS_BANK_CFG.EN b.val = false ∧ bit w.val.toNat 30 = false →
    Gives (.snsBankEnable b w) s fun t =>
      t.rd SNS_BANK_CFG.EN b.val = 1 ∧ t.rd SNS_BANK_CFG.GROUP b.val = bits w.val.toNat 24 3 ∧ t.rd SNS_BANK_CFG.PERIOD b.val = bits w.val.toNat 0 20 ∧
      t.rd SNS_BANK_CFG.MODE b.val = 0 ∧ t.rd SNS_BANK_STAT.GRID_VALID b.val = 1 ∧ t.rd SNS_BANK_STAT.SETTLED b.val = 0 ∧
      t.rd SNS_BANK_O_LO.O b.val = ceilTo 16 (s.epoch + s.h) % 2 ^ 32 ∧ t.rd SNS_BANK_O_HI.O b.val = ceilTo 16 (s.epoch + s.h) / 2 ^ 32 % 2 ^ 32 ∧
      (∀ i : Fin 8, t.sense (8 * b.val + i.val) = { s.sense (8 * b.val + i.val) with m := 0, y := 0, ovr := false }) ∧
      t.bank b.val = { first := some (ceilTo 16 (s.epoch + s.h)) } ∧ Others s.bank t.bank b.val ∧
      FieldsKept s t [(SNS_BANK_CFG.EN, b.val), (SNS_BANK_CFG.MODE, b.val), (SNS_BANK_CFG.GROUP, b.val), (SNS_BANK_CFG.PERIOD, b.val), (SNS_BANK_STAT.GRID_VALID, b.val), (SNS_BANK_STAT.SETTLED, b.val), (SNS_BANK_O_LO.O, b.val), (SNS_BANK_O_HI.O, b.val), (HOST_STAT.COLLIDE_COUNT, 0)] ∧
      t = { s with chip := { s.chip with regs := t.chip.regs, hostp := t.chip.hostp, bank := t.chip.bank, sense := t.chip.sense } }) ∧
  (∀ (b : Fin 8) (w : Wr) (s : State),
    Accepted s w (0x08A + b.val) →
    1954 ≤ bits w.val.toNat 0 20 →
    s.on SNS_BANK_CFG.EN b.val = false ∧ bit w.val.toNat 30 = true →
    Gives (.snsBankEnable b w) s fun t =>
      t.rd SNS_BANK_CFG.EN b.val = 1 ∧ t.rd SNS_BANK_CFG.GROUP b.val = bits w.val.toNat 24 3 ∧ t.rd SNS_BANK_CFG.PERIOD b.val = bits w.val.toNat 0 20 ∧
      t.rd SNS_BANK_CFG.MODE b.val = 1 ∧ t.rd SNS_BANK_STAT.SETTLED b.val = 0 ∧
      t.rd SNS_BANK_STAT.GRID_VALID b.val = flag (s.gridOn (bits w.val.toNat 24 3) && decide (1954 ≤ s.grpPer (bits w.val.toNat 24 3))) ∧
      (∀ i : Fin 8, t.sense (8 * b.val + i.val) = { s.sense (8 * b.val + i.val) with m := 0, y := 0, ovr := false }) ∧
      t.rd SNS_BANK_O_LO.O b.val = (s.grp (bits w.val.toNat 24 3)).o % 2 ^ 32 ∧ t.rd SNS_BANK_O_HI.O b.val = (s.grp (bits w.val.toNat 24 3)).o / 2 ^ 32 % 2 ^ 32 ∧
      (t.bank b.val = { first := if (s.gridOn (bits w.val.toNat 24 3) && decide (1954 ≤ s.grpPer (bits w.val.toNat 24 3))) = true then some ((s.grp (bits w.val.toNat 24 3)).o + ceilTo (s.grpPer (bits w.val.toNat 24 3)) (s.epoch - (s.grp (bits w.val.toNat 24 3)).o)) else none }) ∧
      (FieldsKept s t ((SNS_BANK_CFG.EN, b.val) :: (SNS_BANK_CFG.MODE, b.val) :: (SNS_BANK_CFG.GROUP, b.val) :: (SNS_BANK_CFG.PERIOD, b.val) :: (HOST_STAT.COLLIDE_COUNT, 0) :: (List.range 8).flatMap fun j => [(SNS_BANK_STAT.GRID_VALID, j), (SNS_BANK_STAT.SETTLED, j), (SNS_BANK_O_LO.O, j), (SNS_BANK_O_HI.O, j)])) ∧
      t = { s with chip := { s.chip with regs := t.chip.regs, hostp := t.chip.hostp, bank := t.chip.bank, sense := t.chip.sense } }) ∧
  (∀ (b : Fin 8) (w : Wr) (s : State),
    Accepted s w (0x08A + b.val) →
    bits w.val.toNat 0 20 < 1954 →
    Gives (.snsBankEnable b w) s fun t =>
      Refused s t (0x08A + b.val) 1 ∧
      FieldsKept s t [(ERR_CODE.LAST, 0x08A + b.val), (ERR_CODE.FIRST, 0x08A + b.val), (ERR_COUNT.COUNT, 0x08A + b.val), (HOST_STAT.COLLIDE_COUNT, 0)] ∧
      t = { s with chip := { s.chip with regs := t.chip.regs, hostp := t.chip.hostp } }) ∧
  (∀ (b : Fin 8) (w : Wr) (s : State),
    Accepted s w (0x08A + b.val) →
    1954 ≤ bits w.val.toNat 0 20 →
    s.on SNS_BANK_CFG.EN b.val = true →
    Gives (.snsBankEnable b w) s fun t =>
      Refused s t (0x08A + b.val) 2 ∧
      FieldsKept s t [(ERR_CODE.LAST, 0x08A + b.val), (ERR_CODE.FIRST, 0x08A + b.val), (ERR_COUNT.COUNT, 0x08A + b.val), (HOST_STAT.COLLIDE_COUNT, 0)] ∧
      t = { s with chip := { s.chip with regs := t.chip.regs, hostp := t.chip.hostp } }) ∧
  (∀ (c : Fin 64) (raw : BitVec 24) (ovr : Bool) (o n : Nat) (s : State),
    s.bankGrid (bankOf c.val) = some (o, n) ∧ s.on SNS_CFG.EN c.val = true ∧ o ≤ s.epoch ∧ ((s.epoch - o) % max 1 n = 0 ∨ s.fallback = true) →
    (List.range 8).any (fun k => s.crownBusy k) = false →
    s.rd SNS_LIM_CFG.LIM_EN c.val = 0 →
    s.calHolds 3 c.val = false ∧ s.cal.later.all (fun x => !((x.1 == 2 || x.1 == 3) && x.2.1 == c.val)) = true →
    s.on SNS_CFG.CAP_EN c.val = false →
    Gives (.senseSample c raw ovr) s fun t =>
      t.rd SNS_SAMPLE.SAMPLE c.val = unsigned 24 (sat24 (roundDiv ((raw.toInt - signed 24 (s.rd SNS_TRIM_OFS.OFS c.val)) * signed 24 (s.rd SNS_TRIM_GAIN.GAIN c.val)) (2 ^ 22))) % 2 ^ 24 ∧ t.rd SNS_SAMPLE.OVR c.val = flag ovr ∧
      (t.sense c.val).y = sat24 (roundDiv ((raw.toInt - signed 24 (s.rd SNS_TRIM_OFS.OFS c.val)) * signed 24 (s.rd SNS_TRIM_GAIN.GAIN c.val)) (2 ^ 22)) ∧
      (t.sense c.val).m = (((s.sense c.val).m : Int) + roundDiv (sat24 (roundDiv ((raw.toInt - signed 24 (s.rd SNS_TRIM_OFS.OFS c.val)) * signed 24 (s.rd SNS_TRIM_GAIN.GAIN c.val)) (2 ^ 22)) * sat24 (roundDiv ((raw.toInt - signed 24 (s.rd SNS_TRIM_OFS.OFS c.val)) * signed 24 (s.rd SNS_TRIM_GAIN.GAIN c.val)) (2 ^ 22)) * 2 ^ 32 - (s.sense c.val).m) (2 ^ s.rd SNS_LIM_CFG.RMS_K c.val)).toNat ∧
      t.rd SNS_RMS.RMS c.val = isqrt ((t.sense c.val).m / 2 ^ 32) % 2 ^ 23 ∧
      Others s.sense t.sense c.val ∧
      (t.rd SNS_BANK_STAT.SETTLED (bankOf c.val) = (if (s.bank (bankOf c.val)).first.any (fun x => decide (x + 63 * n ≤ s.epoch)) = true then 1 else s.rd SNS_BANK_STAT.SETTLED (bankOf c.val))) ∧
      (ovr = true ∧ (s.sense c.val).ovr = false → Raised t (pgSns c.val) (3 * (c.val % 8) + 1)) ∧
      t.mem = s.mem ∧
      FieldsKept s t [(SNS_SAMPLE.SAMPLE, c.val), (SNS_SAMPLE.OVR, c.val), (SNS_RMS.RMS, c.val), (SNS_BANK_STAT.SETTLED, bankOf c.val), (IRQ_STAT.BITS, pgSns c.val)] ∧
      t = { s with chip := { s.chip with regs := t.chip.regs, hostp := t.chip.hostp, sense := t.chip.sense } }) ∧
  (∀ (c : Fin 64) (raw : BitVec 24) (ovr : Bool) (o n : Nat) (s : State),
    s.bankGrid (bankOf c.val) = some (o, n) ∧ s.on SNS_CFG.EN c.val = true ∧ o ≤ s.epoch ∧ ((s.epoch - o) % max 1 n = 0 ∨ s.fallback = true) →
    (List.range 8).any (fun k => s.crownBusy k) = false →
    s.rd SNS_LIM_CFG.LIM_EN c.val = 0 →
    s.calHolds 3 c.val = true ∧ s.on SNS_CFG.CAP_EN c.val = false →
    Gives (.senseSample c raw ovr) s fun t =>
      t.rd SNS_SAMPLE.SAMPLE c.val = unsigned 24 (sat24 (roundDiv ((0 - signed 24 (s.rd SNS_TRIM_OFS.OFS c.val)) * signed 24 (s.rd SNS_TRIM_GAIN.GAIN c.val)) (2 ^ 22))) % 2 ^ 24 ∧ t.rd SNS_SAMPLE.OVR c.val = 1 ∧
      (t.sense c.val).y = sat24 (roundDiv ((0 - signed 24 (s.rd SNS_TRIM_OFS.OFS c.val)) * signed 24 (s.rd SNS_TRIM_GAIN.GAIN c.val)) (2 ^ 22)) ∧
      (t.sense c.val).m = (((s.sense c.val).m : Int) + roundDiv (sat24 (roundDiv ((0 - signed 24 (s.rd SNS_TRIM_OFS.OFS c.val)) * signed 24 (s.rd SNS_TRIM_GAIN.GAIN c.val)) (2 ^ 22)) * sat24 (roundDiv ((0 - signed 24 (s.rd SNS_TRIM_OFS.OFS c.val)) * signed 24 (s.rd SNS_TRIM_GAIN.GAIN c.val)) (2 ^ 22)) * 2 ^ 32 - (s.sense c.val).m) (2 ^ s.rd SNS_LIM_CFG.RMS_K c.val)).toNat ∧
      t.rd SNS_RMS.RMS c.val = isqrt ((t.sense c.val).m / 2 ^ 32) % 2 ^ 23 ∧
      Others s.sense t.sense c.val ∧
      t.mem = s.mem ∧
      (t.rd SNS_BANK_STAT.SETTLED (bankOf c.val) = (if (s.bank (bankOf c.val)).first.any (fun x => decide (x + 63 * n ≤ s.epoch)) = true then 1 else s.rd SNS_BANK_STAT.SETTLED (bankOf c.val))) ∧
      ((s.sense c.val).ovr = false → Raised t (pgSns c.val) (3 * (c.val % 8) + 1)) ∧
      FieldsKept s t [(SNS_SAMPLE.SAMPLE, c.val), (SNS_SAMPLE.OVR, c.val), (SNS_RMS.RMS, c.val), (SNS_BANK_STAT.SETTLED, bankOf c.val), (IRQ_STAT.BITS, pgSns c.val)] ∧
      t = { s with chip := { s.chip with regs := t.chip.regs, hostp := t.chip.hostp, sense := t.chip.sense } }) ∧
  (∀ (c : Fin 64) (raw : BitVec 24) (ovr : Bool) (o n : Nat) (s : State),
    s.bankGrid (bankOf c.val) = some (o, n) ∧ s.on SNS_CFG.EN c.val = true ∧ o ≤ s.epoch ∧ ((s.epoch - o) % max 1 n = 0 ∨ s.fallback = true) →
    (List.range 8).any (fun k => s.crownBusy k) = false →
    s.rd SNS_LIM_CFG.LIM_EN c.val = 0 →
    s.calHolds 3 c.val = false ∧ s.cal.later.all (fun x => !((x.1 == 2 || x.1 == 3) && x.2.1 == c.val)) = true →
    s.on SNS_CFG.CAP_EN c.val = true ∧ s.rd64 SNS_CAP_OPEN_LO.TICK SNS_CAP_OPEN_HI.TICK c.val ≤ s.epoch ∧ s.epoch < s.rd64 SNS_CAP_CLOSE_LO.TICK SNS_CAP_CLOSE_HI.TICK c.val →
    s.rd SNS_CFG.CAP_MODE c.val = 1 ∨ ((if (s.sense c.val).cap0 then 0 else s.rd SNS_CAP_WP.WP c.val) + 2 ^ 32 - s.rd SNS_CAP_RP.RP c.val) % 2 ^ 32 < 32768 →
    Gives (.senseSample c raw ovr) s fun t =>
      t.rd SNS_SAMPLE.SAMPLE c.val = unsigned 24 (sat24 (roundDiv ((raw.toInt - signed 24 (s.rd SNS_TRIM_OFS.OFS c.val)) * signed 24 (s.rd SNS_TRIM_GAIN.GAIN c.val)) (2 ^ 22))) % 2 ^ 24 ∧ t.rd SNS_SAMPLE.OVR c.val = flag ovr ∧
      (t.sense c.val).y = sat24 (roundDiv ((raw.toInt - signed 24 (s.rd SNS_TRIM_OFS.OFS c.val)) * signed 24 (s.rd SNS_TRIM_GAIN.GAIN c.val)) (2 ^ 22)) ∧
      (t.sense c.val).m = (((s.sense c.val).m : Int) + roundDiv (sat24 (roundDiv ((raw.toInt - signed 24 (s.rd SNS_TRIM_OFS.OFS c.val)) * signed 24 (s.rd SNS_TRIM_GAIN.GAIN c.val)) (2 ^ 22)) * sat24 (roundDiv ((raw.toInt - signed 24 (s.rd SNS_TRIM_OFS.OFS c.val)) * signed 24 (s.rd SNS_TRIM_GAIN.GAIN c.val)) (2 ^ 22)) * 2 ^ 32 - (s.sense c.val).m) (2 ^ s.rd SNS_LIM_CFG.RMS_K c.val)).toNat ∧
      t.rd SNS_RMS.RMS c.val = isqrt ((t.sense c.val).m / 2 ^ 32) % 2 ^ 23 ∧
      Others s.sense t.sense c.val ∧
      (t.afDword (0x00800000 + 0x20000 * c.val + 4 * ((if (s.sense c.val).cap0 then 0 else s.rd SNS_CAP_WP.WP c.val) % 32768)) = (unsigned 24 (sat24 (roundDiv ((raw.toInt - signed 24 (s.rd SNS_TRIM_OFS.OFS c.val)) * signed 24 (s.rd SNS_TRIM_GAIN.GAIN c.val)) (2 ^ 22))) + 2 ^ 30 * flag s.unc + 2 ^ 31 * flag ovr) % 2 ^ 32) ∧
      (∀ a, (a < 0x00800000 + 0x20000 * c.val + 4 * ((if (s.sense c.val).cap0 then 0 else s.rd SNS_CAP_WP.WP c.val) % 32768) ∨ 0x00800000 + 0x20000 * c.val + 4 * ((if (s.sense c.val).cap0 then 0 else s.rd SNS_CAP_WP.WP c.val) % 32768) + 4 ≤ a) → t.afB a = s.afB a) ∧
      t.mem.winB = s.mem.winB ∧ t.mem.flash = s.mem.flash ∧
      (t.rd SNS_CAP_WP.WP c.val = ((if (s.sense c.val).cap0 then 0 else s.rd SNS_CAP_WP.WP c.val) + 1) % 2 ^ 32 ∧ (t.sense c.val).cap0 = false) ∧
      ((s.sense c.val).cap0 = true → t.rd SNS_CAP_T0_LO.TICK c.val = s.epoch % 2 ^ 32 ∧ t.rd SNS_CAP_T0_HI.TICK c.val = s.epoch / 2 ^ 32 % 2 ^ 32) ∧
      FieldsKept s t [(SNS_SAMPLE.SAMPLE, c.val), (SNS_SAMPLE.OVR, c.val), (SNS_RMS.RMS, c.val), (SNS_BANK_STAT.SETTLED, bankOf c.val), (IRQ_STAT.BITS, pgSns c.val), (SNS_CAP_WP.WP, c.val), (SNS_CAP_T0_LO.TICK, c.val), (SNS_CAP_T0_HI.TICK, c.val)] ∧
      t = { s with mem := t.mem, chip := { s.chip with regs := t.chip.regs, hostp := t.chip.hostp, sense := t.chip.sense } }) ∧
  (∀ (c : Fin 64) (raw : BitVec 24) (ovr : Bool) (s : State),
    (s.bankGrid (bankOf c.val)).all (fun g => decide (s.epoch < g.1) || ((s.epoch - g.1) % max 1 g.2 != 0 && !s.fallback)) = true →
    Gives (.senseSample c raw ovr) s fun t =>
      t = s) ∧
  (∀ (c : Fin 64) (raw : BitVec 24) (ovr : Bool) (o n : Nat) (s : State),
    s.bankGrid (bankOf c.val) = some (o, n) ∧ s.on SNS_CFG.EN c.val = false ∧ o ≤ s.epoch ∧ ((s.epoch - o) % max 1 n = 0 ∨ s.fallback = true) →
    Gives (.senseSample c raw ovr) s fun t =>
      (t.rd SNS_BANK_STAT.SETTLED (bankOf c.val) = (if (s.bank (bankOf c.val)).first.any (fun x => decide (x + 63 * n ≤ s.epoch)) = true then 1 else s.rd SNS_BANK_STAT.SETTLED (bankOf c.val))) ∧
      FieldsKept s t [(SNS_BANK_STAT.SETTLED, bankOf c.val)] ∧
      t = { s with chip := { s.chip with regs := t.chip.regs } }) ∧
  (∀ (c : Fin 64) (raw : BitVec 24) (ovr : Bool) (o n : Nat) (s : State),
    s.bankGrid (bankOf c.val) = some (o, n) ∧ s.on SNS_CFG.EN c.val = true ∧ o ≤ s.epoch ∧ ((s.epoch - o) % max 1 n = 0 ∨ s.fallback = true) →
    (List.range 8).any (fun k => s.crownBusy k) = false →
    s.calHolds 3 c.val = false ∧ s.cal.later.all (fun x => !((x.1 == 2 || x.1 == 3) && x.2.1 == c.val)) = true →
    s.on SNS_CFG.CAP_EN c.val = false ∧ s.rd SNS_LIM_CFG.LIM_EN c.val = 1 ∧ s.on SNS_BANK_STAT.SETTLED (bankOf c.val) = true ∧ bit (s.rd SNS_LIM_CFG.ACTION c.val) 0 = false →
    s.rd SNS_PEAK.PEAK_THR c.val ≤ (sat24 (roundDiv ((raw.toInt - signed 24 (s.rd SNS_TRIM_OFS.OFS c.val)) * signed 24 (s.rd SNS_TRIM_GAIN.GAIN c.val)) (2 ^ 22))).natAbs ∧ (s.sense c.val).crossed = [] ∧ 7 * s.rd SNS_PEAK.PEAK_THR c.val ≤ 8 * (sat24 (roundDiv ((raw.toInt - signed 24 (s.rd SNS_TRIM_OFS.OFS c.val)) * signed 24 (s.rd SNS_TRIM_GAIN.GAIN c.val)) (2 ^ 22))).natAbs →
    Gives (.senseSample c raw ovr) s fun t =>
      t.rd SNS_SAMPLE.SAMPLE c.val = unsigned 24 (sat24 (roundDiv ((raw.toInt - signed 24 (s.rd SNS_TRIM_OFS.OFS c.val)) * signed 24 (s.rd SNS_TRIM_GAIN.GAIN c.val)) (2 ^ 22))) % 2 ^ 24 ∧ t.rd SNS_SAMPLE.OVR c.val = flag ovr ∧
      (t.sense c.val).y = sat24 (roundDiv ((raw.toInt - signed 24 (s.rd SNS_TRIM_OFS.OFS c.val)) * signed 24 (s.rd SNS_TRIM_GAIN.GAIN c.val)) (2 ^ 22)) ∧
      (t.sense c.val).m = (((s.sense c.val).m : Int) + roundDiv (sat24 (roundDiv ((raw.toInt - signed 24 (s.rd SNS_TRIM_OFS.OFS c.val)) * signed 24 (s.rd SNS_TRIM_GAIN.GAIN c.val)) (2 ^ 22)) * sat24 (roundDiv ((raw.toInt - signed 24 (s.rd SNS_TRIM_OFS.OFS c.val)) * signed 24 (s.rd SNS_TRIM_GAIN.GAIN c.val)) (2 ^ 22)) * 2 ^ 32 - (s.sense c.val).m) (2 ^ s.rd SNS_LIM_CFG.RMS_K c.val)).toNat ∧
      t.rd SNS_RMS.RMS c.val = isqrt ((t.sense c.val).m / 2 ^ 32) % 2 ^ 23 ∧
      Others s.sense t.sense c.val ∧
      t.rd SNS_LIM_CNT.CNT0 c.val = min 0xFF (s.rd SNS_LIM_CNT.CNT0 c.val + 1) ∧
      t.prodq = s.prodq ++ [{ prod := prodId 8 (4 * c.val), st := { t := s.epoch, unc := s.unc }, gen := 0 }] ∧
      Raised t (pgSns c.val) (3 * (c.val % 8)) ∧
      Recorded s t 0x0B c.val 0x1001 ∧
      t.mem = s.mem ∧
      FieldsKept s t [(SNS_SAMPLE.SAMPLE, c.val), (SNS_SAMPLE.OVR, c.val), (SNS_RMS.RMS, c.val), (SNS_BANK_STAT.SETTLED, bankOf c.val), (IRQ_STAT.BITS, pgSns c.val), (SNS_LIM_CNT.CNT0, c.val)] ∧
      t = { s with chip := { s.chip with regs := t.chip.regs, hostp := t.chip.hostp, recs := t.chip.recs, prodq := t.chip.prodq, sense := t.chip.sense } }) ∧
  (∀ (c : Fin 64) (raw : BitVec 24) (ovr : Bool) (o n : Nat) (s : State),
    s.bankGrid (bankOf c.val) = some (o, n) ∧ s.on SNS_CFG.EN c.val = true ∧ o ≤ s.epoch ∧ ((s.epoch - o) % max 1 n = 0 ∨ s.fallback = true) →
    (List.range 8).any (fun k => s.crownBusy k) = false →
    s.rd SNS_LIM_CFG.LIM_EN c.val = 0 →
    s.calHolds 3 c.val = false ∧ s.cal.later.all (fun x => !((x.1 == 2 || x.1 == 3) && x.2.1 == c.val)) = true →
    s.on SNS_CFG.CAP_EN c.val = true ∧ s.rd64 SNS_CAP_OPEN_LO.TICK SNS_CAP_OPEN_HI.TICK c.val ≤ s.epoch ∧ s.epoch < s.rd64 SNS_CAP_CLOSE_LO.TICK SNS_CAP_CLOSE_HI.TICK c.val →
    s.rd SNS_CFG.CAP_MODE c.val = 0 ∧ (s.sense c.val).cap0 = false ∧ 32768 ≤ (s.rd SNS_CAP_WP.WP c.val + 2 ^ 32 - s.rd SNS_CAP_RP.RP c.val) % 2 ^ 32 →
    Gives (.senseSample c raw ovr) s fun t =>
      t.rd SNS_CAP_LOST.LOST c.val = min 0xFFFFFFFF (s.rd SNS_CAP_LOST.LOST c.val + 1) ∧ t.rd SNS_CAP_WP.WP c.val = (s.rd SNS_CAP_WP.WP c.val + 1) % 2 ^ 32 ∧
      ((s.sense c.val).losing = false → Raised t (pgSns c.val) (3 * (c.val % 8) + 2)) ∧
      (t.sense c.val).losing = true ∧ t.mem = s.mem ∧
      t.rd SNS_SAMPLE.SAMPLE c.val = unsigned 24 (sat24 (roundDiv ((raw.toInt - signed 24 (s.rd SNS_TRIM_OFS.OFS c.val)) * signed 24 (s.rd SNS_TRIM_GAIN.GAIN c.val)) (2 ^ 22))) % 2 ^ 24 ∧ t.rd SNS_SAMPLE.OVR c.val = flag ovr ∧
      Others s.sense t.sense c.val ∧
      FieldsKept s t [(SNS_SAMPLE.SAMPLE, c.val), (SNS_SAMPLE.OVR, c.val), (SNS_RMS.RMS, c.val), (SNS_BANK_STAT.SETTLED, bankOf c.val), (IRQ_STAT.BITS, pgSns c.val), (SNS_CAP_WP.WP, c.val), (SNS_CAP_LOST.LOST, c.val)] ∧
      t = { s with chip := { s.chip with regs := t.chip.regs, hostp := t.chip.hostp, sense := t.chip.sense } }) ∧
  (∀ (c : Fin 64) (raw : BitVec 24) (ovr : Bool) (o n a b : Nat) (s : State),
    s.bankGrid (bankOf c.val) = some (o, n) ∧ s.on SNS_CFG.EN c.val = true ∧ o ≤ s.epoch ∧ ((s.epoch - o) % max 1 n = 0 ∨ s.fallback = true) →
    (List.range 8).any (fun k => s.crownBusy k) = false →
    s.rd SNS_LIM_CFG.LIM_EN c.val = 0 →
    s.calHolds 3 c.val = false ∧ s.on SNS_CFG.CAP_EN c.val = false →
    s.cal.later.find? (fun x => x.1 == 2 && x.2.1 == c.val) = some (2, c.val, [a]) ∧ s.cal.later.find? (fun x => x.1 == 3 && x.2.1 == c.val) = some (3, c.val, [b]) →
    Gives (.senseSample c raw ovr) s fun t =>
      t.rd SNS_TRIM_OFS.OFS c.val = a % 2 ^ 24 ∧ t.rd SNS_TRIM_GAIN.GAIN c.val = b % 2 ^ 24 ∧
      t.rd SNS_SAMPLE.SAMPLE c.val = unsigned 24 (sat24 (roundDiv ((raw.toInt - signed 24 (a % 2 ^ 24)) * signed 24 (b % 2 ^ 24)) (2 ^ 22))) % 2 ^ 24 ∧ t.rd SNS_SAMPLE.OVR c.val = flag ovr ∧
      (t.cal = { s.cal with later := s.cal.later.filter fun x => !((x.1 == 2 || x.1 == 3) && x.2.1 == c.val) }) ∧
      Others s.sense t.sense c.val ∧ t.mem = s.mem ∧
      FieldsKept s t [(SNS_TRIM_OFS.OFS, c.val), (SNS_TRIM_GAIN.GAIN, c.val), (SNS_SAMPLE.SAMPLE, c.val), (SNS_SAMPLE.OVR, c.val), (SNS_RMS.RMS, c.val), (SNS_BANK_STAT.SETTLED, bankOf c.val), (IRQ_STAT.BITS, pgSns c.val)] ∧
      t = { s with chip := { s.chip with regs := t.chip.regs, hostp := t.chip.hostp, sense := t.chip.sense, cal := t.chip.cal } }) ∧
  (∀ (c : Fin 64) (raw : BitVec 24) (ovr : Bool) (o n i : Nat) (k : Fin 8) (s : State),
    s.bankGrid (bankOf c.val) = some (o, n) ∧ s.on SNS_CFG.EN c.val = true ∧ o ≤ s.epoch ∧ ((s.epoch - o) % max 1 n = 0 ∨ s.fallback = true) →
    (∀ j : Fin 8, s.crownBusy j.val = decide (j = k)) ∧ s.crownSine k.val = false ∧ (s.crownCPs k.val).filter (fun p => p.2 == c.val) = [(i, c.val)] →
    s.rd SNS_LIM_CFG.LIM_EN c.val = 0 →
    s.calHolds 3 c.val = false ∧ s.cal.later.all (fun x => !((x.1 == 2 || x.1 == 3) && x.2.1 == c.val)) = true ∧ s.on SNS_CFG.CAP_EN c.val = false →
    Gives (.senseSample c raw ovr) s fun t =>
      t.crown k.val = { s.crown k.val with resp := (s.crown k.val).resp ++ [(s.epoch, i, sat24 (roundDiv ((raw.toInt - signed 24 (s.rd SNS_TRIM_OFS.OFS c.val)) * signed 24 (s.rd SNS_TRIM_GAIN.GAIN c.val)) (2 ^ 22)))] } ∧
      Others s.crown t.crown k.val ∧ Others s.sense t.sense c.val ∧ t.mem = s.mem ∧
      FieldsKept s t [(SNS_SAMPLE.SAMPLE, c.val), (SNS_SAMPLE.OVR, c.val), (SNS_RMS.RMS, c.val), (SNS_BANK_STAT.SETTLED, bankOf c.val), (IRQ_STAT.BITS, pgSns c.val)] ∧
      t = { s with chip := { s.chip with regs := t.chip.regs, hostp := t.chip.hostp, sense := t.chip.sense, crown := t.chip.crown } }) ∧
  (∀ (c : Fin 64) (raw : BitVec 24) (ovr : Bool) (o n d : Nat) (s : State),
    s.bankGrid (bankOf c.val) = some (o, n) ∧ s.on SNS_CFG.EN c.val = true ∧ o ≤ s.epoch ∧ ((s.epoch - o) % max 1 n = 0 ∨ s.fallback = true) →
    (List.range 8).any (fun k => s.crownBusy k) = false →
    s.calHolds 3 c.val = false ∧ s.cal.later.all (fun x => !((x.1 == 2 || x.1 == 3) && x.2.1 == c.val)) = true →
    s.on SNS_CFG.CAP_EN c.val = false ∧ s.rd SNS_LIM_CFG.LIM_EN c.val = 1 ∧ s.on SNS_BANK_STAT.SETTLED (bankOf c.val) = true ∧ bit (s.rd SNS_LIM_CFG.ACTION c.val) 0 = true ∧ s.crownChans (s.rd SNS_CFG.LIM_GROUP c.val) = [d] ∧ s.drvState d = 2 ∧ (s.drv d).entry = none →
    s.rd SNS_PEAK.PEAK_THR c.val ≤ (sat24 (roundDiv ((raw.toInt - signed 24 (s.rd SNS_TRIM_OFS.OFS c.val)) * signed 24 (s.rd SNS_TRIM_GAIN.GAIN c.val)) (2 ^ 22))).natAbs ∧ (s.sense c.val).crossed = [] ∧ 7 * s.rd SNS_PEAK.PEAK_THR c.val ≤ 8 * (sat24 (roundDiv ((raw.toInt - signed 24 (s.rd SNS_TRIM_OFS.OFS c.val)) * signed 24 (s.rd SNS_TRIM_GAIN.GAIN c.val)) (2 ^ 22))).natAbs →
    Gives (.senseSample c raw ovr) s fun t =>
      t.rd SNS_SAMPLE.SAMPLE c.val = unsigned 24 (sat24 (roundDiv ((raw.toInt - signed 24 (s.rd SNS_TRIM_OFS.OFS c.val)) * signed 24 (s.rd SNS_TRIM_GAIN.GAIN c.val)) (2 ^ 22))) % 2 ^ 24 ∧ t.rd SNS_SAMPLE.OVR c.val = flag ovr ∧
      (t.sense c.val).y = sat24 (roundDiv ((raw.toInt - signed 24 (s.rd SNS_TRIM_OFS.OFS c.val)) * signed 24 (s.rd SNS_TRIM_GAIN.GAIN c.val)) (2 ^ 22)) ∧
      (t.sense c.val).m = (((s.sense c.val).m : Int) + roundDiv (sat24 (roundDiv ((raw.toInt - signed 24 (s.rd SNS_TRIM_OFS.OFS c.val)) * signed 24 (s.rd SNS_TRIM_GAIN.GAIN c.val)) (2 ^ 22)) * sat24 (roundDiv ((raw.toInt - signed 24 (s.rd SNS_TRIM_OFS.OFS c.val)) * signed 24 (s.rd SNS_TRIM_GAIN.GAIN c.val)) (2 ^ 22)) * 2 ^ 32 - (s.sense c.val).m) (2 ^ s.rd SNS_LIM_CFG.RMS_K c.val)).toNat ∧
      t.rd SNS_RMS.RMS c.val = isqrt ((t.sense c.val).m / 2 ^ 32) % 2 ^ 23 ∧
      Others s.sense t.sense c.val ∧
      t.rd SNS_LIM_CNT.CNT0 c.val = min 0xFF (s.rd SNS_LIM_CNT.CNT0 c.val + 1) ∧
      t.prodq = s.prodq ++ [{ prod := prodId 8 (4 * c.val), st := { t := s.epoch, unc := s.unc }, gen := 0 }] ∧
      Raised t (pgSns c.val) (3 * (c.val % 8)) ∧
      Recorded s t 0x0B c.val 0x1001 ∧
      t.mem = s.mem ∧
      t.drv d = { s.drv d with stops := (s.drv d).stops ++ [(s.drvGran d (s.epoch + s.h), 5)] } ∧ Others s.drv t.drv d ∧
      FieldsKept s t [(SNS_SAMPLE.SAMPLE, c.val), (SNS_SAMPLE.OVR, c.val), (SNS_RMS.RMS, c.val), (SNS_BANK_STAT.SETTLED, bankOf c.val), (IRQ_STAT.BITS, pgSns c.val), (SNS_LIM_CNT.CNT0, c.val)] ∧
      t = { s with chip := { s.chip with regs := t.chip.regs, hostp := t.chip.hostp, recs := t.chip.recs, prodq := t.chip.prodq, sense := t.chip.sense, drv := t.chip.drv } }) ∧
  (∀ (c : Fin 64) (raw : BitVec 24) (ovr : Bool) (o n : Nat) (s : State),
    s.bankGrid (bankOf c.val) = some (o, n) ∧ s.on SNS_CFG.EN c.val = true ∧ o ≤ s.epoch ∧ ((s.epoch - o) % max 1 n = 0 ∨ s.fallback = true) →
    (List.range 8).any (fun k => s.crownBusy k) = false →
    s.calHolds 3 c.val = false ∧ s.cal.later.all (fun x => !((x.1 == 2 || x.1 == 3) && x.2.1 == c.val)) = true →
    s.on SNS_CFG.CAP_EN c.val = false ∧ s.rd SNS_LIM_CFG.LIM_EN c.val = 1 ∧ s.on SNS_BANK_STAT.SETTLED (bankOf c.val) = true →
    (sat24 (roundDiv ((raw.toInt - signed 24 (s.rd SNS_TRIM_OFS.OFS c.val)) * signed 24 (s.rd SNS_TRIM_GAIN.GAIN c.val)) (2 ^ 22))).natAbs < s.rd SNS_PEAK.PEAK_THR c.val ∨ (s.sense c.val).crossed.contains 0 = true →
    Gives (.senseSample c raw ovr) s fun t =>
      t.rd SNS_LIM_CNT.CNT0 c.val = s.rd SNS_LIM_CNT.CNT0 c.val ∧ t.prodq = s.prodq ∧
      (t.sense c.val).crossed.contains 0 = ((s.sense c.val).crossed.contains 0 && decide (7 * s.rd SNS_PEAK.PEAK_THR c.val ≤ 8 * (sat24 (roundDiv ((raw.toInt - signed 24 (s.rd SNS_TRIM_OFS.OFS c.val)) * signed 24 (s.rd SNS_TRIM_GAIN.GAIN c.val)) (2 ^ 22))).natAbs)) ∧
      Others s.sense t.sense c.val ∧ t.mem = s.mem ∧
      FieldsKept s t [(SNS_SAMPLE.SAMPLE, c.val), (SNS_SAMPLE.OVR, c.val), (SNS_RMS.RMS, c.val), (SNS_BANK_STAT.SETTLED, bankOf c.val), (IRQ_STAT.BITS, pgSns c.val)] ∧
      t = { s with chip := { s.chip with regs := t.chip.regs, hostp := t.chip.hostp, sense := t.chip.sense } })

/-- The Crown groups. START fixes the start tick, the trims and the first bank of an idle group or is refused with the cause of highest rank; at the start tick it enters RUNNING with the device in RUN, and goes on to HOLD or STOPPED where its channels have left ACTIVE; STOP fixes T0, the earliest one standing, or takes back a start that it precedes; at T0 the group enters STOPPING, and at the end of the taper STOPPED; the events of one cycle are one such command, with the age and the late ones counted; HOLD holds it at once and RESUME lets it go on at a frame boundary; it writes its next samples or presents its trims; an alarm makes its event and stops or holds the group as ACTION says; a frame boundary is counted, told and makes an event of the generation due, a swap that is due there happens or is deferred, and the readout goes to its block and to no other byte of memory; where nothing is due nothing happens. Where the rules leave room the clauses state the model's readings (log entries 3 and 13 to 16) -/
def Obligations.CrownGroups : Prop :=
  ((∀ (s : State) (k : Fin 8) (kind x : Nat) (err : Int),
          (s.crownAlarm k.val kind x err).prodq = s.prodq ++ [{ prod := prodId 9 (2 * k.val + 1), st := { t := x, unc := s.unc }, gen := 0 }] ∧
          Raised (s.crownAlarm k.val kind x err) (pgCrown k.val) 3 ∧
          (s.crownAlarm k.val kind x err).crownState k.val = (if s.rdX CROWN_ALARM.ACTION k.val = 1 ∧ s.crownState k.val = 1 then 2 else s.crownState k.val) ∧
          ((s.crownAlarm k.val kind x err).crown k.val).stop =
            (if s.rdX CROWN_ALARM.ACTION k.val = 2 ∧ (s.crownState k.val = 1 ∨ s.crownState k.val = 2) then
              (if (s.crown k.val).stop.any (fun q => decide (q.1 ≤ s.drvGran (s.crownRef k.val) (x + s.h))) = true then (s.crown k.val).stop
                else some (s.drvGran (s.crownRef k.val) (x + s.h), 3))
              else (s.crown k.val).stop) ∧
          Others s.crown (s.crownAlarm k.val kind x err).crown k.val)) ∧
  (∀ (k : Fin 8) (w : Wr) (s : State),
    Accepted s w (pgCrown k.val) →
    bits (w.val ||| 0x1).toNat 0 4 = 0x1 →
    s.crownStartCodes k.val = [] →
    Gives (.crownStart k w) s fun t =>
      (t.crown k.val = { start := some (s.crownDP k.val (s.epoch + s.h)), ts := s.crownDP k.val (s.epoch + s.h), gen := 0, next := s.crownDP k.val (s.epoch + s.h), trim := ((List.range 64).map fun j => s.rdA CROWN_SDRV.TRIM_INIT (64 * k.val + j)), trim0 := ((List.range 64).map fun j => s.rdA CROWN_SDRV.TRIM_INIT (64 * k.val + j)), level := s.crownLevel k.val, d := (if s.crownSine k.val then [] else s.crownDInit k.val), set := { fac := ((if s.crownSine k.val then [] else s.crownDInit k.val)).map (factor (s.crownND k.val)) } }) ∧
      Others s.crown t.crown k.val ∧
      FieldsKept s t [(HOST_STAT.COLLIDE_COUNT, 0)] ∧
      t = { s with chip := { s.chip with regs := t.chip.regs, hostp := t.chip.hostp, crown := t.chip.crown } }) ∧
  (∀ (k : Fin 8) (w : Wr) (x : Nat) (s : State),
    Accepted s w (pgCrown k.val) →
    bits (w.val ||| 0x1).toNat 0 4 = 0x1 →
    worst (s.crownStartCodes k.val) = some x →
    Gives (.crownStart k w) s fun t =>
      Refused s t (pgCrown k.val) (x % 2 ^ 16) ∧
      FieldsKept s t [(ERR_CODE.LAST, pgCrown k.val), (ERR_CODE.FIRST, pgCrown k.val), (ERR_COUNT.COUNT, pgCrown k.val), (HOST_STAT.COLLIDE_COUNT, 0)] ∧
      t = { s with chip := { s.chip with regs := t.chip.regs, hostp := t.chip.hostp } }) ∧
  (∀ (k : Fin 8) (w : Wr) (s : State),
    Accepted s w (pgCrown k.val) →
    bits (w.val ||| 0x1).toNat 0 4 ≠ 0x1 →
    Gives (.crownStart k w) s fun t =>
      Refused s t (pgCrown k.val) 1 ∧
      FieldsKept s t [(ERR_CODE.LAST, pgCrown k.val), (ERR_CODE.FIRST, pgCrown k.val), (ERR_COUNT.COUNT, pgCrown k.val), (HOST_STAT.COLLIDE_COUNT, 0)] ∧
      t = { s with chip := { s.chip with regs := t.chip.regs, hostp := t.chip.hostp } }) ∧
  (∀ (k : Fin 8) (w : Wr) (s : State),
    Accepted s w (pgCrown k.val) →
    bits (w.val ||| 0x2).toNat 0 4 = 0x2 →
    ((s.crown k.val).start = none ∧ (s.crownState k.val = 1 ∨ s.crownState k.val = 2) ∨ (s.crown k.val).start.any (fun x => decide (x < s.crownDP k.val (s.epoch + s.h))) = true) ∧ (s.crown k.val).stop = none →
    Gives (.crownStop k w) s fun t =>
      t.crown k.val = { s.crown k.val with stop := some (s.crownDP k.val (s.epoch + s.h), 1) } ∧
      Others s.crown t.crown k.val ∧
      FieldsKept s t [(HOST_STAT.COLLIDE_COUNT, 0)] ∧
      t = { s with chip := { s.chip with regs := t.chip.regs, hostp := t.chip.hostp, crown := t.chip.crown } }) ∧
  (∀ (k : Fin 8) (w : Wr) (a b : Nat) (s : State),
    Accepted s w (pgCrown k.val) →
    bits (w.val ||| 0x2).toNat 0 4 = 0x2 →
    (s.crown k.val).start = none ∧ (s.crownState k.val = 1 ∨ s.crownState k.val = 2) ∧ (s.crown k.val).stop = some (a, b) ∧ a ≤ s.crownDP k.val (s.epoch + s.h) →
    Gives (.crownStop k w) s fun t =>
      t.crown k.val = { s.crown k.val with stop := some (a, b) } ∧
      Others s.crown t.crown k.val ∧
      FieldsKept s t [(HOST_STAT.COLLIDE_COUNT, 0)] ∧
      t = { s with chip := { s.chip with regs := t.chip.regs, hostp := t.chip.hostp, crown := t.chip.crown } }) ∧
  (∀ (k : Fin 8) (w : Wr) (s : State),
    Accepted s w (pgCrown k.val) →
    bits (w.val ||| 0x2).toNat 0 4 = 0x2 →
    s.crownState k.val ≠ 1 ∧ s.crownState k.val ≠ 2 ∧ (s.crown k.val).start = none →
    Gives (.crownStop k w) s fun t =>
      Refused s t (pgCrown k.val) 3 ∧
      FieldsKept s t [(ERR_CODE.LAST, pgCrown k.val), (ERR_CODE.FIRST, pgCrown k.val), (ERR_COUNT.COUNT, pgCrown k.val), (HOST_STAT.COLLIDE_COUNT, 0)] ∧
      t = { s with chip := { s.chip with regs := t.chip.regs, hostp := t.chip.hostp } }) ∧
  (∀ (k : Fin 8) (w : Wr) (s : State),
    Accepted s w (pgCrown k.val) →
    bits (w.val ||| 0x2).toNat 0 4 ≠ 0x2 →
    Gives (.crownStop k w) s fun t =>
      Refused s t (pgCrown k.val) 1 ∧
      FieldsKept s t [(ERR_CODE.LAST, pgCrown k.val), (ERR_CODE.FIRST, pgCrown k.val), (ERR_COUNT.COUNT, pgCrown k.val), (HOST_STAT.COLLIDE_COUNT, 0)] ∧
      t = { s with chip := { s.chip with regs := t.chip.regs, hostp := t.chip.hostp } }) ∧
  (∀ (k : Fin 8) (w : Wr) (a b : Nat) (s : State),
    Accepted s w (pgCrown k.val) →
    bits (w.val ||| 0x2).toNat 0 4 = 0x2 →
    (s.crown k.val).start = none ∧ (s.crownState k.val = 1 ∨ s.crownState k.val = 2) ∧ (s.crown k.val).stop = some (a, b) ∧ s.crownDP k.val (s.epoch + s.h) < a →
    Gives (.crownStop k w) s fun t =>
      t.crown k.val = { s.crown k.val with stop := some (s.crownDP k.val (s.epoch + s.h), 1) } ∧
      Others s.crown t.crown k.val ∧
      FieldsKept s t [(HOST_STAT.COLLIDE_COUNT, 0)] ∧
      t = { s with chip := { s.chip with regs := t.chip.regs, hostp := t.chip.hostp, crown := t.chip.crown } }) ∧
  (∀ (k : Fin 8) (w : Wr) (x : Nat) (s : State),
    Accepted s w (pgCrown k.val) →
    bits (w.val ||| 0x2).toNat 0 4 = 0x2 →
    (s.crown k.val).start = some x ∧ s.crownDP k.val (s.epoch + s.h) ≤ x →
    Gives (.crownStop k w) s fun t =>
      t.crown k.val = { s.crown k.val with start := none } ∧
      Refused s t (pgCrown k.val) 3 ∧
      Others s.crown t.crown k.val ∧
      FieldsKept s t [(ERR_CODE.LAST, pgCrown k.val), (ERR_CODE.FIRST, pgCrown k.val), (ERR_COUNT.COUNT, pgCrown k.val), (HOST_STAT.COLLIDE_COUNT, 0)] ∧
      t = { s with chip := { s.chip with regs := t.chip.regs, hostp := t.chip.hostp, crown := t.chip.crown } }) ∧
  (∀ (k : Fin 8) (w : Wr) (s : State),
    Accepted s w (pgCrown k.val) →
    bits (w.val ||| 0x4).toNat 0 4 = 0x4 →
    s.crownState k.val = 1 →
    Gives (.crownHoldCmd k w) s fun t =>
      t.crownState k.val = 2 ∧
      t.rd CROWN_STAT.STOP_CAUSE k.val = 1 ∧
      Raised t (pgCrown k.val) 2 ∧
      Recorded s t 0x0B (64 + k.val) 0x1006 ∧
      (s.dev = 6 → t.dev = 7) ∧
      FieldsKept s t [(CROWN_STAT.STATE, k.val), (DEV_STATE.STATE, 0), (CROWN_STAT.STOP_CAUSE, k.val), (IRQ_STAT.BITS, pgCrown k.val), (HOST_STAT.COLLIDE_COUNT, 0)] ∧
      t = { s with chip := { s.chip with regs := t.chip.regs, hostp := t.chip.hostp, recs := t.chip.recs } }) ∧
  (∀ (k : Fin 8) (w : Wr) (s : State),
    Accepted s w (pgCrown k.val) →
    bits (w.val ||| 0x4).toNat 0 4 = 0x4 →
    s.crownState k.val ≠ 1 →
    Gives (.crownHoldCmd k w) s fun t =>
      Refused s t (pgCrown k.val) 3 ∧
      FieldsKept s t [(ERR_CODE.LAST, pgCrown k.val), (ERR_CODE.FIRST, pgCrown k.val), (ERR_COUNT.COUNT, pgCrown k.val), (HOST_STAT.COLLIDE_COUNT, 0)] ∧
      t = { s with chip := { s.chip with regs := t.chip.regs, hostp := t.chip.hostp } }) ∧
  (∀ (k : Fin 8) (w : Wr) (s : State),
    Accepted s w (pgCrown k.val) →
    bits (w.val ||| 0x4).toNat 0 4 ≠ 0x4 →
    Gives (.crownHoldCmd k w) s fun t =>
      Refused s t (pgCrown k.val) 1 ∧
      FieldsKept s t [(ERR_CODE.LAST, pgCrown k.val), (ERR_CODE.FIRST, pgCrown k.val), (ERR_COUNT.COUNT, pgCrown k.val), (HOST_STAT.COLLIDE_COUNT, 0)] ∧
      t = { s with chip := { s.chip with regs := t.chip.regs, hostp := t.chip.hostp } }) ∧
  (∀ (k : Fin 8) (w : Wr) (s : State),
    Accepted s w (pgCrown k.val) →
    bits (w.val ||| 0x8).toNat 0 4 = 0x8 →
    s.crownState k.val = 2 ∧ (s.crownChans k.val).any (fun d => s.drvState d != 2) = false →
    Gives (.crownResume k w) s fun t =>
      t.crown k.val = { s.crown k.val with resume := true } ∧
      Others s.crown t.crown k.val ∧
      FieldsKept s t [(HOST_STAT.COLLIDE_COUNT, 0)] ∧
      t = { s with chip := { s.chip with regs := t.chip.regs, hostp := t.chip.hostp, crown := t.chip.crown } }) ∧
  (∀ (k : Fin 8) (w : Wr) (s : State),
    Accepted s w (pgCrown k.val) →
    bits (w.val ||| 0x8).toNat 0 4 = 0x8 →
    s.crownState k.val ≠ 2 ∨ (s.crownChans k.val).any (fun d => s.drvState d != 2) = true →
    Gives (.crownResume k w) s fun t =>
      Refused s t (pgCrown k.val) 3 ∧
      FieldsKept s t [(ERR_CODE.LAST, pgCrown k.val), (ERR_CODE.FIRST, pgCrown k.val), (ERR_COUNT.COUNT, pgCrown k.val), (HOST_STAT.COLLIDE_COUNT, 0)] ∧
      t = { s with chip := { s.chip with regs := t.chip.regs, hostp := t.chip.hostp } }) ∧
  (∀ (k : Fin 8) (w : Wr) (s : State),
    Accepted s w (pgCrown k.val) →
    bits (w.val ||| 0x8).toNat 0 4 ≠ 0x8 →
    Gives (.crownResume k w) s fun t =>
      Refused s t (pgCrown k.val) 1 ∧
      FieldsKept s t [(ERR_CODE.LAST, pgCrown k.val), (ERR_CODE.FIRST, pgCrown k.val), (ERR_COUNT.COUNT, pgCrown k.val), (HOST_STAT.COLLIDE_COUNT, 0)] ∧
      t = { s with chip := { s.chip with regs := t.chip.regs, hostp := t.chip.hostp } }) ∧
  (∀ (k : Fin 8) (p : Pend) (s : State),
    mergePends ((s.arrivals.filter (fun a => a.cls == 5 && a.index == 2 * k.val + 1)).map fun a => s.pendOf a.ev (s.crownDP k.val) 66) = some p →
    ((s.crown k.val).start = none ∧ (s.crownState k.val = 1 ∨ s.crownState k.val = 2)) ∨ (s.crown k.val).start.any (fun x => decide (x < s.crownDP k.val (max p.due p.notBefore))) = true →
    Gives (.crownCmdArrive k true) s fun t =>
      (t.crown k.val = { s.crown k.val with stop := some (if (s.crown k.val).stop.any (fun q => decide (q.1 ≤ s.crownDP k.val (max p.due p.notBefore))) = true then (s.crown k.val).stop.getD (0, 0) else (s.crownDP k.val (max p.due p.notBefore), 2)) }) ∧
      (t.arrivals = s.arrivals.filter fun a => !(a.cls == 5 && a.index == 2 * k.val + 1)) ∧
      t.rd H_STAT.MAX_AGE 0 = max (s.rd H_STAT.MAX_AGE 0) (min 0xFFF (s.epoch - p.stamp)) % 2 ^ 12 ∧
      (t.rd H_STAT.LATE_COUNT 0 = (if ((s.arrivals.filter (fun a => a.cls == 5 && a.index == 2 * k.val + 1)).filter fun a => (s.pendOf a.ev (s.crownDP k.val) 66).notBefore != 0).length = 0 then s.rd H_STAT.LATE_COUNT 0 else min 0xFFFF (s.rd H_STAT.LATE_COUNT 0 + ((s.arrivals.filter (fun a => a.cls == 5 && a.index == 2 * k.val + 1)).filter fun a => (s.pendOf a.ev (s.crownDP k.val) 66).notBefore != 0).length))) ∧
      (((s.arrivals.filter (fun a => a.cls == 5 && a.index == 2 * k.val + 1)).filter fun a => (s.pendOf a.ev (s.crownDP k.val) 66).notBefore != 0).length ≠ 0 → Raised t pgTb 2) ∧
      Others s.crown t.crown k.val ∧
      FieldsKept s t [(H_STAT.MAX_AGE, 0), (H_STAT.LATE_COUNT, 0), (IRQ_STAT.BITS, pgTb)] ∧
      t = { s with chip := { s.chip with regs := t.chip.regs, hostp := t.chip.hostp, recs := t.chip.recs, crown := t.chip.crown, arrivals := t.chip.arrivals } }) ∧
  (∀ (k : Fin 8) (p : Pend) (x : Nat) (s : State),
    mergePends ((s.arrivals.filter (fun a => a.cls == 5 && a.index == 2 * k.val + 1)).map fun a => s.pendOf a.ev (s.crownDP k.val) 66) = some p →
    (s.crown k.val).start = some x ∧ s.crownDP k.val (max p.due p.notBefore) ≤ x →
    Gives (.crownCmdArrive k true) s fun t =>
      t.crown k.val = { s.crown k.val with start := none } ∧
      Refused s t (pgCrown k.val) 3 ∧
      (t.arrivals = s.arrivals.filter fun a => !(a.cls == 5 && a.index == 2 * k.val + 1)) ∧
      t.rd H_STAT.MAX_AGE 0 = max (s.rd H_STAT.MAX_AGE 0) (min 0xFFF (s.epoch - p.stamp)) % 2 ^ 12 ∧
      (t.rd H_STAT.LATE_COUNT 0 = (if ((s.arrivals.filter (fun a => a.cls == 5 && a.index == 2 * k.val + 1)).filter fun a => (s.pendOf a.ev (s.crownDP k.val) 66).notBefore != 0).length = 0 then s.rd H_STAT.LATE_COUNT 0 else min 0xFFFF (s.rd H_STAT.LATE_COUNT 0 + ((s.arrivals.filter (fun a => a.cls == 5 && a.index == 2 * k.val + 1)).filter fun a => (s.pendOf a.ev (s.crownDP k.val) 66).notBefore != 0).length))) ∧
      (((s.arrivals.filter (fun a => a.cls == 5 && a.index == 2 * k.val + 1)).filter fun a => (s.pendOf a.ev (s.crownDP k.val) 66).notBefore != 0).length ≠ 0 → Raised t pgTb 2) ∧
      Others s.crown t.crown k.val ∧
      FieldsKept s t [(H_STAT.MAX_AGE, 0), (H_STAT.LATE_COUNT, 0), (IRQ_STAT.BITS, pgTb), (ERR_CODE.LAST, pgCrown k.val), (ERR_CODE.FIRST, pgCrown k.val), (ERR_COUNT.COUNT, pgCrown k.val)] ∧
      t = { s with chip := { s.chip with regs := t.chip.regs, hostp := t.chip.hostp, recs := t.chip.recs, crown := t.chip.crown, arrivals := t.chip.arrivals } }) ∧
  (∀ (k : Fin 8) (p : Pend) (s : State),
    mergePends ((s.arrivals.filter (fun a => a.cls == 5 && a.index == 2 * k.val + 1)).map fun a => s.pendOf a.ev (s.crownDP k.val) 66) = some p →
    (s.crown k.val).start = none ∧ s.crownState k.val ≠ 1 ∧ s.crownState k.val ≠ 2 →
    Gives (.crownCmdArrive k true) s fun t =>
      (t.arrivals = s.arrivals.filter fun a => !(a.cls == 5 && a.index == 2 * k.val + 1)) ∧
      t.rd H_STAT.MAX_AGE 0 = max (s.rd H_STAT.MAX_AGE 0) (min 0xFFF (s.epoch - p.stamp)) % 2 ^ 12 ∧
      (t.rd H_STAT.LATE_COUNT 0 = (if ((s.arrivals.filter (fun a => a.cls == 5 && a.index == 2 * k.val + 1)).filter fun a => (s.pendOf a.ev (s.crownDP k.val) 66).notBefore != 0).length = 0 then s.rd H_STAT.LATE_COUNT 0 else min 0xFFFF (s.rd H_STAT.LATE_COUNT 0 + ((s.arrivals.filter (fun a => a.cls == 5 && a.index == 2 * k.val + 1)).filter fun a => (s.pendOf a.ev (s.crownDP k.val) 66).notBefore != 0).length))) ∧
      (((s.arrivals.filter (fun a => a.cls == 5 && a.index == 2 * k.val + 1)).filter fun a => (s.pendOf a.ev (s.crownDP k.val) 66).notBefore != 0).length ≠ 0 → Raised t pgTb 2) ∧
      FieldsKept s t [(H_STAT.MAX_AGE, 0), (H_STAT.LATE_COUNT, 0), (IRQ_STAT.BITS, pgTb)] ∧
      t = { s with chip := { s.chip with regs := t.chip.regs, hostp := t.chip.hostp, recs := t.chip.recs, arrivals := t.chip.arrivals } }) ∧
  (∀ (k : Fin 8) (p : Pend) (s : State),
    mergePends ((s.arrivals.filter (fun a => a.cls == 5 && a.index == 2 * k.val + 0)).map fun a => s.pendOf a.ev (s.crownDP k.val) 66) = some p →
    s.crownStartCodes k.val = [] →
    Gives (.crownCmdArrive k false) s fun t =>
      (t.crown k.val = { start := some (s.crownDP k.val (max p.due p.notBefore)), ts := s.crownDP k.val (max p.due p.notBefore), gen := min 15 (p.gen + 1), next := s.crownDP k.val (max p.due p.notBefore), trim := ((List.range 64).map fun j => s.rdA CROWN_SDRV.TRIM_INIT (64 * k.val + j)), trim0 := ((List.range 64).map fun j => s.rdA CROWN_SDRV.TRIM_INIT (64 * k.val + j)), level := s.crownLevel k.val, d := (if s.crownSine k.val then [] else s.crownDInit k.val), set := { fac := ((if s.crownSine k.val then [] else s.crownDInit k.val)).map (factor (s.crownND k.val)) } }) ∧
      (t.arrivals = s.arrivals.filter fun a => !(a.cls == 5 && a.index == 2 * k.val + 0)) ∧
      t.rd H_STAT.MAX_AGE 0 = max (s.rd H_STAT.MAX_AGE 0) (min 0xFFF (s.epoch - p.stamp)) % 2 ^ 12 ∧
      (t.rd H_STAT.LATE_COUNT 0 = (if ((s.arrivals.filter (fun a => a.cls == 5 && a.index == 2 * k.val + 0)).filter fun a => (s.pendOf a.ev (s.crownDP k.val) 66).notBefore != 0).length = 0 then s.rd H_STAT.LATE_COUNT 0 else min 0xFFFF (s.rd H_STAT.LATE_COUNT 0 + ((s.arrivals.filter (fun a => a.cls == 5 && a.index == 2 * k.val + 0)).filter fun a => (s.pendOf a.ev (s.crownDP k.val) 66).notBefore != 0).length))) ∧
      (((s.arrivals.filter (fun a => a.cls == 5 && a.index == 2 * k.val + 0)).filter fun a => (s.pendOf a.ev (s.crownDP k.val) 66).notBefore != 0).length ≠ 0 → Raised t pgTb 2) ∧
      Others s.crown t.crown k.val ∧
      FieldsKept s t [(H_STAT.MAX_AGE, 0), (H_STAT.LATE_COUNT, 0), (IRQ_STAT.BITS, pgTb)] ∧
      t = { s with chip := { s.chip with regs := t.chip.regs, hostp := t.chip.hostp, recs := t.chip.recs, crown := t.chip.crown, arrivals := t.chip.arrivals } }) ∧
  (∀ (k : Fin 8) (p : Pend) (x : Nat) (s : State),
    mergePends ((s.arrivals.filter (fun a => a.cls == 5 && a.index == 2 * k.val + 0)).map fun a => s.pendOf a.ev (s.crownDP k.val) 66) = some p →
    worst (s.crownStartCodes k.val) = some x →
    Gives (.crownCmdArrive k false) s fun t =>
      Refused s t (pgCrown k.val) (x % 2 ^ 16) ∧
      (t.arrivals = s.arrivals.filter fun a => !(a.cls == 5 && a.index == 2 * k.val + 0)) ∧
      t.rd H_STAT.MAX_AGE 0 = max (s.rd H_STAT.MAX_AGE 0) (min 0xFFF (s.epoch - p.stamp)) % 2 ^ 12 ∧
      (t.rd H_STAT.LATE_COUNT 0 = (if ((s.arrivals.filter (fun a => a.cls == 5 && a.index == 2 * k.val + 0)).filter fun a => (s.pendOf a.ev (s.crownDP k.val) 66).notBefore != 0).length = 0 then s.rd H_STAT.LATE_COUNT 0 else min 0xFFFF (s.rd H_STAT.LATE_COUNT 0 + ((s.arrivals.filter (fun a => a.cls == 5 && a.index == 2 * k.val + 0)).filter fun a => (s.pendOf a.ev (s.crownDP k.val) 66).notBefore != 0).length))) ∧
      (((s.arrivals.filter (fun a => a.cls == 5 && a.index == 2 * k.val + 0)).filter fun a => (s.pendOf a.ev (s.crownDP k.val) 66).notBefore != 0).length ≠ 0 → Raised t pgTb 2) ∧
      FieldsKept s t [(H_STAT.MAX_AGE, 0), (H_STAT.LATE_COUNT, 0), (IRQ_STAT.BITS, pgTb), (ERR_CODE.LAST, pgCrown k.val), (ERR_CODE.FIRST, pgCrown k.val), (ERR_COUNT.COUNT, pgCrown k.val)] ∧
      t = { s with chip := { s.chip with regs := t.chip.regs, hostp := t.chip.hostp, recs := t.chip.recs, arrivals := t.chip.arrivals } }) ∧
  (∀ (k : Fin 8) (stop : Bool) (s : State),
    s.arrivals.filter (fun a => a.cls == 5 && a.index == 2 * k.val + flag stop) = [] →
    Gives (.crownCmdArrive k stop) s fun t =>
      (t = s.setArrivals (s.arrivals.filter fun a => !(a.cls == 5 && a.index == 2 * k.val + flag stop)))) ∧
  (∀ (k : Fin 8) (x : Nat) (s : State),
    (s.crown k.val).start = some x ∧ x ≤ s.epoch ∧ (s.crownChans k.val).any (fun d => s.drvState d != 2) = false →
    Gives (.crownStartTick k) s fun t =>
      t.crownState k.val = 1 ∧
      t.crown k.val = { s.crown k.val with start := none, fade := some (x, s.rdX CROWN_RAMP.RAMP_US k.val * 500), taper := none } ∧
      (t.rd CROWN_TS_LO.TICK k.val = x % 2 ^ 32 ∧ t.rd CROWN_TS_HI.TICK k.val = x / 2 ^ 32 % 2 ^ 32 ∧ t.rd CROWN_FRAMES.FRAMES k.val = 0 ∧ t.rd CROWN_STAT.STOP_CAUSE k.val = 0 ∧ t.rd CROWN_STAT.PHASE k.val = (if s.crownSine k.val then 0 else 1)) ∧
      Raised t (pgCrown k.val) 0 ∧
      Recorded s t 0x0B (64 + k.val) 0x1004 ∧
      (s.dev = 6 → t.dev = 7) ∧
      Others s.crown t.crown k.val ∧
      FieldsKept s t [(CROWN_STAT.STATE, k.val), (DEV_STATE.STATE, 0), (CROWN_TS_LO.TICK, k.val), (CROWN_TS_HI.TICK, k.val), (CROWN_FRAMES.FRAMES, k.val), (CROWN_STAT.DRV_LIMITED, k.val), (CROWN_STAT.PHASE, k.val), (CROWN_STAT.STOP_CAUSE, k.val), (IRQ_STAT.BITS, pgCrown k.val)] ∧
      t = { s with chip := { s.chip with regs := t.chip.regs, hostp := t.chip.hostp, recs := t.chip.recs, crown := t.chip.crown } }) ∧
  (∀ (k : Fin 8) (x : Nat) (s : State),
    (s.crown k.val).start = some x ∧ s.epoch < x →
    Gives (.crownStartTick k) s fun t =>
      t = s) ∧
  (∀ (k : Fin 8) (x : Nat) (s : State),
    (s.crown k.val).start = some x ∧ x ≤ s.epoch ∧ (s.crownChans k.val).any (fun d => s.drvState d != 2) = true ∧ (s.crownChans k.val).any s.drvBusy = true →
    Gives (.crownStartTick k) s fun t =>
      t.crownState k.val = 2 ∧
      t.crown k.val = { s.crown k.val with start := none, fade := some (x, s.rdX CROWN_RAMP.RAMP_US k.val * 500), taper := none } ∧
      t.rd CROWN_STAT.STOP_CAUSE k.val = 4 ∧
      Raised t (pgCrown k.val) 0 ∧ Raised t (pgCrown k.val) 2 ∧
      Others s.crown t.crown k.val ∧
      FieldsKept s t [(CROWN_STAT.STATE, k.val), (DEV_STATE.STATE, 0), (CROWN_TS_LO.TICK, k.val), (CROWN_TS_HI.TICK, k.val), (CROWN_FRAMES.FRAMES, k.val), (CROWN_STAT.DRV_LIMITED, k.val), (CROWN_STAT.PHASE, k.val), (CROWN_STAT.STOP_CAUSE, k.val), (IRQ_STAT.BITS, pgCrown k.val)] ∧
      t = { s with chip := { s.chip with regs := t.chip.regs, hostp := t.chip.hostp, recs := t.chip.recs, crown := t.chip.crown } }) ∧
  (∀ (k : Fin 8) (x : Nat) (s : State),
    (s.crown k.val).start = some x ∧ x ≤ s.epoch ∧ (s.crownChans k.val).any (fun d => s.drvState d != 2) = true ∧ (s.crownChans k.val).any s.drvBusy = false →
    Gives (.crownStartTick k) s fun t =>
      t.crownState k.val = 4 ∧
      t.rd CROWN_STAT.STOP_CAUSE k.val = 4 ∧ t.rd CROWN_STAT.PHASE k.val = 0 ∧
      Raised t (pgCrown k.val) 0 ∧ Raised t (pgCrown k.val) 1 ∧ Raised t (pgCrown k.val) 2 ∧
      Others s.crown t.crown k.val ∧
      FieldsKept s t [(CROWN_STAT.STATE, k.val), (DEV_STATE.STATE, 0), (CROWN_TS_LO.TICK, k.val), (CROWN_TS_HI.TICK, k.val), (CROWN_FRAMES.FRAMES, k.val), (CROWN_STAT.DRV_LIMITED, k.val), (CROWN_STAT.PHASE, k.val), (CROWN_STAT.STOP_CAUSE, k.val), (IRQ_STAT.BITS, pgCrown k.val)] ∧
      t = { s with chip := { s.chip with regs := t.chip.regs, hostp := t.chip.hostp, recs := t.chip.recs, crown := t.chip.crown } }) ∧
  (∀ (k : Fin 8) (s : State),
    (s.crown k.val).start = none →
    Gives (.crownStartTick k) s fun t =>
      t = s) ∧
  (∀ (k : Fin 8) (x y : Nat) (s : State),
    (s.crown k.val).stop = some (x, y) ∧ x ≤ s.epoch ∧ (s.crownState k.val = 1 ∨ s.crownState k.val = 2) →
    Gives (.crownStopTick k) s fun t =>
      t.crownState k.val = 3 ∧
      t.crown k.val = { s.crown k.val with stop := none, taper := some (x, s.rdX CROWN_RAMP.RAMP_US k.val * 500) } ∧ t.rd CROWN_STAT.STOP_CAUSE k.val = y % 8 ∧
      Recorded s t 0x0B (64 + k.val) 0x1009 ∧
      Others s.crown t.crown k.val ∧
      FieldsKept s t [(CROWN_STAT.STATE, k.val), (DEV_STATE.STATE, 0), (CROWN_STAT.STOP_CAUSE, k.val)] ∧
      t = { s with chip := { s.chip with regs := t.chip.regs, recs := t.chip.recs, crown := t.chip.crown } }) ∧
  (∀ (k : Fin 8) (x y : Nat) (s : State),
    (s.crown k.val).stop = some (x, y) ∧ s.epoch < x →
    Gives (.crownStopTick k) s fun t =>
      t = s) ∧
  (∀ (k : Fin 8) (s : State),
    (s.crown k.val).stop = none ∨ (s.crownState k.val ≠ 1 ∧ s.crownState k.val ≠ 2) →
    Gives (.crownStopTick k) s fun t =>
      t = s) ∧
  (∀ (k : Fin 8) (x y : Nat) (s : State),
    (s.crown k.val).taper = some (x, y) ∧ s.crownState k.val = 3 ∧ x + y ≤ s.epoch →
    Gives (.crownTaperDone k) s fun t =>
      t.crownState k.val = 4 ∧
      t.rd CROWN_STAT.PHASE k.val = 0 ∧ t.rd CROWN_STAT.STOP_CAUSE k.val = s.rd CROWN_STAT.STOP_CAUSE k.val % 8 ∧
      (t.crown k.val).start = none ∧ (t.crown k.val).stop = none ∧ (t.crown k.val).taper = none ∧ (t.crown k.val).swaps = [] ∧ (t.crown k.val).q = [] ∧
      Raised t (pgCrown k.val) 1 ∧
      (∃ r ∈ t.recs, r.cls = 0x0B ∧ r.index = 64 + k.val ∧ r.code = 0x1005) ∧
      Others s.crown t.crown k.val ∧
      FieldsKept s t [(CROWN_STAT.STATE, k.val), (DEV_STATE.STATE, 0), (CROWN_STAT.PHASE, k.val), (CROWN_STAT.STOP_CAUSE, k.val), (IRQ_STAT.BITS, pgCrown k.val)] ∧
      t = { s with chip := { s.chip with regs := t.chip.regs, hostp := t.chip.hostp, recs := t.chip.recs, crown := t.chip.crown } }) ∧
  (∀ (k : Fin 8) (s : State),
    s.crownState k.val = 2 ∧ (s.crownChans k.val).any s.drvBusy = false →
    Gives (.crownTaperDone k) s fun t =>
      t.crownState k.val = 4 ∧
      t.rd CROWN_STAT.STOP_CAUSE k.val = 4 ∧
      Raised t (pgCrown k.val) 1 ∧
      Others s.crown t.crown k.val ∧
      FieldsKept s t [(CROWN_STAT.STATE, k.val), (DEV_STATE.STATE, 0), (CROWN_STAT.PHASE, k.val), (CROWN_STAT.STOP_CAUSE, k.val), (IRQ_STAT.BITS, pgCrown k.val)] ∧
      t = { s with chip := { s.chip with regs := t.chip.regs, hostp := t.chip.hostp, recs := t.chip.recs, crown := t.chip.crown } }) ∧
  (∀ (k : Fin 8) (s : State),
    s.crownState k.val = 0 ∨ s.crownState k.val = 4 ∨ (s.crownState k.val = 1 ∧ (s.crownChans k.val).any (fun d => s.drvState d != 2) = false) ∨ ((s.crownState k.val = 2 ∨ s.crownState k.val = 3 ∧ (s.crown k.val).taper.all (fun q => decide (s.epoch < q.1 + q.2)) = true) ∧ (s.crownChans k.val).any s.drvBusy = true) →
    Gives (.crownTaperDone k) s fun t =>
      t = s) ∧
  (∀ (k : Fin 8) (s : State),
    s.crownActive k.val = true ∧ s.crownSine k.val = false ∧ (s.crown k.val).next ≤ s.epoch + 10 + 64 * (max 1 (s.crownN k.val)) →
    s.rd CROWN_STAT.PHASE k.val ≠ 2 ∨ (List.range (s.crownND k.val)).all (fun j => sat24 (s.crownRaw k.val j (s.crown k.val).next) == s.crownRaw k.val j (s.crown k.val).next) = true →
    Gives (.crownBezelWrite k) s fun t =>
      (t.crown k.val = { s.crown k.val with q := ((s.crown k.val).q.filter fun p => decide (s.epoch ≤ p.1 + 2 * (max 1 (s.crownN k.val)))) ++ (if s.epoch + 66 ≤ (s.crown k.val).next then [((s.crown k.val).next, (List.range (s.crownND k.val)).map fun j => sat24 (s.crownRaw k.val j (s.crown k.val).next))] else []), next := (s.crown k.val).next + (max 1 (s.crownN k.val)), sent := (s.crown k.val).sent ++ (if s.epoch + 66 ≤ (s.crown k.val).next then [((s.crown k.val).next, (List.range (s.crownND k.val)).map fun j => sat24 (s.crownRaw k.val j (s.crown k.val).next))] else []) }) ∧
      Others s.crown t.crown k.val ∧
      t = { s with chip := { s.chip with crown := t.chip.crown } }) ∧
  (∀ (k : Fin 8) (s : State),
    s.crownActive k.val = false ∨ (s.crownSine k.val = false ∧ s.epoch + 10 + 64 * (max 1 (s.crownN k.val)) < (s.crown k.val).next) ∨ (s.crownSine k.val = true ∧ (s.crownBusy k.val = false ∨ s.epoch < (s.crown k.val).ts ∨ (s.epoch - (s.crown k.val).ts) % (max 1 (s.crownN k.val)) ≠ 0)) →
    Gives (.crownBezelWrite k) s fun t =>
      t = s) ∧
  (∀ (k : Fin 8) (s : State),
    s.crownBusy k.val = true ∧ s.crownSine k.val = true ∧ (s.crown k.val).ts ≤ s.epoch ∧ (s.epoch - (s.crown k.val).ts) % (max 1 (s.crownN k.val)) = 0 →
    ∀ i j : Fin 64, i ≠ j → s.crownSdrv k.val i.val = none ∨ s.crownSdrv k.val i.val ≠ s.crownSdrv k.val j.val →
    Gives (.crownBezelWrite k) s fun t =>
      (∀ j : Fin 64, (s.crownSdrv k.val j.val).all (fun p => (if p.2 = 0 then t.rd DRV_TRIM_A.TRIM p.1 else t.rd DRV_TRIM_B.TRIM p.1) == s.crownTrimAt k.val j.val s.epoch % 2 ^ 24) = true) ∧
      (FieldsKept s t ((List.range 64).filterMap fun j => (s.crownSdrv k.val j).map fun p => (if p.2 = 0 then DRV_TRIM_A.TRIM else DRV_TRIM_B.TRIM, p.1))) ∧
      t = { s with chip := { s.chip with regs := t.chip.regs } }) ∧
  (∀ (k : Fin 8) (late : Bool) (s : State),
    s.crownBusy k.val = true ∧ (s.crown k.val).ts + ((s.crown k.val).m + 1) * s.crownF k.val ≤ s.epoch →
    Gives (.crownFrameBoundary k late) s fun t =>
      (t.crown k.val).m = (s.crown k.val).m + 1 ∧ t.rd CROWN_FRAMES.FRAMES k.val = (s.rd CROWN_FRAMES.FRAMES k.val + 1) % 2 ^ 32 ∧
      (∃ us, t.prodq = s.prodq ++ [{ prod := prodId 9 (2 * k.val), st := { t := (s.crown k.val).ts + ((s.crown k.val).m + 1) * s.crownF k.val, unc := s.unc }, gen := (s.crown k.val).gen }] ++ us) ∧
      (t.crown k.val).gen = 0 ∧
      Raised t (pgCrown k.val) 5 ∧
      (s.rdA CROWN_RD.RD_EN k.val = 1 ∧ s.crownSine k.val = false → t.afDword (0x00700000 + s.rdA CROWN_RD.RD_BASE k.val) = (s.rd CROWN_FRAMES.FRAMES k.val + 1) % 2 ^ 32) ∧
      t.mem.winB = s.mem.winB ∧ t.mem.flash = s.mem.flash ∧
      (∀ a, (s.rdA CROWN_RD.RD_EN k.val ≠ 1 ∨ s.crownSine k.val = true ∨ a < 0x00700000 + s.rdA CROWN_RD.RD_BASE k.val ∨ 0x00700000 + s.rdA CROWN_RD.RD_BASE k.val + s.crownRdBytes k.val ≤ a) → t.afB a = s.afB a) ∧
      ((s.crown k.val).resume = true ∧ s.crownState k.val = 2 ∧ s.crownSine k.val = true ∧ (s.crownChans k.val).all (fun d => s.drvState d == 2) = true → t.crownState k.val = 1 ∧ (t.crown k.val).resume = false) ∧
      Others s.crown t.crown k.val ∧
      t = { s with mem := t.mem, chip := { s.chip with regs := t.chip.regs, hostp := t.chip.hostp, recs := t.chip.recs, prodq := t.chip.prodq, crown := t.chip.crown, drv := t.chip.drv, sense := t.chip.sense } }) ∧
  (∀ (k : Fin 8) (late : Bool) (set : CSet) (s : State),
    s.crownBusy k.val = true ∧ s.crownSine k.val = false ∧ (s.crown k.val).ts + ((s.crown k.val).m + 1) * s.crownF k.val ≤ s.epoch →
    (s.crown k.val).swaps.find? (fun p => p.m == (s.crown k.val).m + 1) = some { m := (s.crown k.val).m + 1, set := set, ok := true } →
    Gives (.crownFrameBoundary k late) s fun t =>
      t.rd CROWN_BANK.ACTIVE_BANK k.val = (1 - s.rd CROWN_BANK.ACTIVE_BANK k.val) % 2 ∧ t.rd CROWN_BANK.SWAP_COUNT k.val = min 0x7FFF (s.rd CROWN_BANK.SWAP_COUNT k.val + 1) ∧
      t.rd CROWN_BANK.DEFER_COUNT k.val = s.rd CROWN_BANK.DEFER_COUNT k.val ∧
      (t.crown k.val).set = set ∧ (t.crown k.val).old = some ((s.crown k.val).set, (s.crown k.val).ts + ((s.crown k.val).m + 1) * s.crownF k.val) ∧
      Others s.crown t.crown k.val) ∧
  (∀ (k : Fin 8) (late : Bool) (set : CSet) (s : State),
    s.crownBusy k.val = true ∧ s.crownSine k.val = false ∧ (s.crown k.val).ts + ((s.crown k.val).m + 1) * s.crownF k.val ≤ s.epoch →
    (s.crown k.val).swaps.find? (fun p => p.m == (s.crown k.val).m + 1) = some { m := (s.crown k.val).m + 1, set := set, ok := false } →
    Gives (.crownFrameBoundary k late) s fun t =>
      t.rd CROWN_BANK.ACTIVE_BANK k.val = s.rd CROWN_BANK.ACTIVE_BANK k.val ∧ t.rd CROWN_BANK.DEFER_COUNT k.val = min 0xFFFF (s.rd CROWN_BANK.DEFER_COUNT k.val + 1) ∧
      (t.crown k.val).set = (s.crown k.val).set ∧
      Raised t (pgCrown k.val) 4 ∧
      (∃ r ∈ t.recs, r.cls = 0x0B ∧ r.index = 64 + k.val ∧ r.code = 0x030F) ∧
      Others s.crown t.crown k.val) ∧
  (∀ (k : Fin 8) (late : Bool) (s : State),
    s.crownBusy k.val = false ∨ s.epoch < (s.crown k.val).ts + ((s.crown k.val).m + 1) * s.crownF k.val →
    Gives (.crownFrameBoundary k late) s fun t =>
      t = s)

/-- The calibration runs. CAL_RUN starts the run that CAL_RUN selects where its preconditions and the reading taken first allow it, and holds its unit: a channel by a sequence behind its clamp, the TPLL by SWEEP_BUSY, a quad and a lane by their hold, a link by 256 probes; it ends it at once with CAL_PRECONDITION where they do not, with the unit as it is or returned; it is refused for an unknown item, a run in progress or no calibration set, with codes 1, 2 and 4; the end of a run that is not there, or whose result is not complete, does nothing; the result of run 1 is shown and kept, that of run 2 compared with it by calWorst: outside the agreement is CAL_DISAGREE and changes no image, within it calAccept replaces the item in the image and, with APPLY, loads it at its time, a channel that was IDLE unclamping before the run ends; a precondition that fails at the end of either ends the run; a record of the temperature is added every 10 s of a TPLL_TC run, which calTcEnd ends after 24 h or with a span of 15 degrees, and which fails without LOCKED; ABORT and the unit's domain end a run with ABORTED, a disturbed link a skew with CAL_PRECONDITION; calEnd returns the unit, and calReport tells and records the end. Where the rules leave room the clauses state the model's readings (log entries 3, 31, 32 and 34) -/
def Obligations.CalibrationRuns : Prop :=
  (∀ (w : Wr) (m : BitVec 32) (s : State),
    Accepted s w pgCal →
    s.rd CAL_STAT.CAL_STATE 0 ≠ 0 ∧ s.on CAL_STAT.BUSY 0 = false ∧ calKnown (s.rd CAL_RUN.ITEM 0) (s.rd CAL_RUN.UNIT 0) (s.rd CAL_RUN.SUB 0) = true →
    s.calOk s.calNew false = true →
    s.rd CAL_RUN.ITEM 0 = 3 ∨ (s.rd CAL_RUN.ITEM 0 = 2 ∧ m.toNat < 50000) ∨ s.rd CAL_RUN.ITEM 0 = 4 ∨ s.rd CAL_RUN.ITEM 0 = 6 ∨ (s.rd CAL_RUN.ITEM 0 = 8 ∧ s.rd CAL_RUN.SUB 0 = 1) →
    Gives (.calRun w m) s fun t =>
      t.cal = { s.cal with run := some s.calNew } ∧
      (t.rd CAL_STAT.BUSY 0 = 1 ∧ t.rd CAL_STAT.RUN_RES 0 = 0 ∧ t.rd CAL_MEAS.MEAS 0 = (if s.rd CAL_RUN.ITEM 0 = 2 then m.toNat else s.rd CAL_MEAS.MEAS 0)) ∧
      FieldsKept s t [(CAL_STAT.BUSY, 0), (CAL_STAT.RUN_RES, 0), (CAL_MEAS.MEAS, 0), (HOST_STAT.COLLIDE_COUNT, 0)] ∧
      t = { s with chip := { s.chip with regs := t.chip.regs, hostp := t.chip.hostp, cal := t.chip.cal } }) ∧
  (∀ (w : Wr) (m : BitVec 32) (s : State),
    Accepted s w pgCal →
    s.rd CAL_STAT.CAL_STATE 0 ≠ 0 ∧ s.on CAL_STAT.BUSY 0 = false ∧ calKnown (s.rd CAL_RUN.ITEM 0) (s.rd CAL_RUN.UNIT 0) (s.rd CAL_RUN.SUB 0) = true →
    s.calOk s.calNew false = true →
    s.rd CAL_RUN.ITEM 0 = 2 ∧ 50000 ≤ m.toNat →
    Gives (.calRun w m) s fun t =>
      t.rd CAL_STAT.RUN_RES 0 = 2 ∧ t.rd CAL_STAT.BUSY 0 = 0 ∧ t.rd CAL_MEAS.MEAS 0 = m.toNat ∧
      Recorded s t 0x08 2 0x1102 ∧
      Raised t pgCal 1 ∧
      t.cal = { s.cal with run := none } ∧
      FieldsKept s t [(CAL_STAT.BUSY, 0), (CAL_STAT.RUN_RES, 0), (CAL_MEAS.MEAS, 0), (IRQ_STAT.BITS, pgCal), (HOST_STAT.COLLIDE_COUNT, 0)] ∧
      t = { s with chip := { s.chip with regs := t.chip.regs, hostp := t.chip.hostp, recs := t.chip.recs, cal := t.chip.cal } }) ∧
  (∀ (w : Wr) (m : BitVec 32) (s : State),
    Accepted s w pgCal →
    s.rd CAL_STAT.CAL_STATE 0 ≠ 0 ∧ s.on CAL_STAT.BUSY 0 = false ∧ calKnown (s.rd CAL_RUN.ITEM 0) (s.rd CAL_RUN.UNIT 0) (s.rd CAL_RUN.SUB 0) = true →
    s.calOk s.calNew false = true →
    s.rd CAL_RUN.ITEM 0 = 5 →
    Gives (.calRun w m) s fun t =>
      t.cal = { s.cal with run := some s.calNew } ∧
      t.rd CAL_STAT.BUSY 0 = 1 ∧ t.rd CAL_STAT.RUN_RES 0 = 0 ∧ t.rd TPLL_STAT.SWEEP_BUSY 0 = 1 ∧
      FieldsKept s t [(CAL_STAT.BUSY, 0), (CAL_STAT.RUN_RES, 0), (TPLL_STAT.SWEEP_BUSY, 0), (HOST_STAT.COLLIDE_COUNT, 0)] ∧
      t = { s with chip := { s.chip with regs := t.chip.regs, hostp := t.chip.hostp, cal := t.chip.cal } }) ∧
  (∀ (w : Wr) (m : BitVec 32) (s : State),
    Accepted s w pgCal →
    s.rd CAL_STAT.CAL_STATE 0 ≠ 0 ∧ s.on CAL_STAT.BUSY 0 = false ∧ calKnown (s.rd CAL_RUN.ITEM 0) (s.rd CAL_RUN.UNIT 0) (s.rd CAL_RUN.SUB 0) = true →
    s.calOk s.calNew false = true →
    s.rd CAL_RUN.ITEM 0 = 7 →
    Gives (.calRun w m) s fun t =>
      t.cal = { s.cal with run := some s.calNew } ∧
      t.quad (s.rd CAL_RUN.UNIT 0) = { s.quad (s.rd CAL_RUN.UNIT 0) with hold := true } ∧
      t.rd CAL_STAT.BUSY 0 = 1 ∧ t.rd CAL_STAT.RUN_RES 0 = 0 ∧
      Others s.quad t.quad (s.rd CAL_RUN.UNIT 0) ∧
      FieldsKept s t [(CAL_STAT.BUSY, 0), (CAL_STAT.RUN_RES, 0), (HOST_STAT.COLLIDE_COUNT, 0)] ∧
      t = { s with chip := { s.chip with regs := t.chip.regs, hostp := t.chip.hostp, cal := t.chip.cal, quad := t.chip.quad } }) ∧
  (∀ (w : Wr) (m : BitVec 32) (s : State),
    Accepted s w pgCal →
    s.rd CAL_STAT.CAL_STATE 0 ≠ 0 ∧ s.on CAL_STAT.BUSY 0 = false ∧ calKnown (s.rd CAL_RUN.ITEM 0) (s.rd CAL_RUN.UNIT 0) (s.rd CAL_RUN.SUB 0) = true →
    s.calOk s.calNew false = true →
    s.rd CAL_RUN.ITEM 0 = 8 ∧ s.rd CAL_RUN.SUB 0 = 0 →
    Gives (.calRun w m) s fun t =>
      t.cal = { s.cal with run := some s.calNew } ∧
      t.lphy (s.rd CAL_RUN.UNIT 0) = { s.lphy (s.rd CAL_RUN.UNIT 0) with calHold := true } ∧
      t.rd CAL_STAT.BUSY 0 = 1 ∧ t.rd CAL_STAT.RUN_RES 0 = 0 ∧
      Others s.lphy t.lphy (s.rd CAL_RUN.UNIT 0) ∧
      FieldsKept s t [(CAL_STAT.BUSY, 0), (CAL_STAT.RUN_RES, 0), (HOST_STAT.COLLIDE_COUNT, 0)] ∧
      t = { s with chip := { s.chip with regs := t.chip.regs, hostp := t.chip.hostp, cal := t.chip.cal, lphy := t.chip.lphy } }) ∧
  (∀ (w : Wr) (m : BitVec 32) (s : State),
    Accepted s w pgCal →
    s.rd CAL_STAT.CAL_STATE 0 ≠ 0 ∧ s.on CAL_STAT.BUSY 0 = false ∧ calKnown (s.rd CAL_RUN.ITEM 0) (s.rd CAL_RUN.UNIT 0) (s.rd CAL_RUN.SUB 0) = true →
    s.calOk s.calNew false = true →
    s.rd CAL_RUN.ITEM 0 = 9 →
    Gives (.calRun w m) s fun t =>
      t.cal = { s.cal with run := some s.calNew } ∧
      t.rd CAL_STAT.BUSY 0 = 1 ∧ t.rd CAL_STAT.RUN_RES 0 = 0 ∧
      t.cas.echoes = 0 ∧ t.cas.sum = 0 ∧
      (t.casPort (s.rd CAL_RUN.UNIT 0)).queue = (s.casPort (s.rd CAL_RUN.UNIT 0)).queue ++ List.replicate 256 (4, []) ∧
      FieldsKept s t [(CAL_STAT.BUSY, 0), (CAL_STAT.RUN_RES, 0), (HOST_STAT.COLLIDE_COUNT, 0)] ∧
      t = { s with chip := { s.chip with regs := t.chip.regs, hostp := t.chip.hostp, cal := t.chip.cal, cas := t.chip.cas, casPort := t.chip.casPort } }) ∧
  (∀ (w : Wr) (m : BitVec 32) (s : State),
    Accepted s w pgCal →
    s.rd CAL_STAT.CAL_STATE 0 ≠ 0 ∧ s.on CAL_STAT.BUSY 0 = false ∧ calKnown (s.rd CAL_RUN.ITEM 0) (s.rd CAL_RUN.UNIT 0) (s.rd CAL_RUN.SUB 0) = true →
    s.calOk s.calNew false = true →
    s.rd CAL_RUN.ITEM 0 = 1 ∧ s.drvState (s.rd CAL_RUN.UNIT 0) ≠ 1 →
    m.toNat ≤ 200000 →
    Gives (.calRun w m) s fun t =>
      t.cal = { s.cal with run := some s.calNew } ∧
      t.rd CAL_STAT.BUSY 0 = 1 ∧ t.rd CAL_STAT.RUN_RES 0 = 0 ∧ t.rd CAL_MEAS.MEAS 0 = m.toNat ∧
      t.drv (s.rd CAL_RUN.UNIT 0) = { s.drv (s.rd CAL_RUN.UNIT 0) with seq := some { kind := 4, phase := 0, ends := s.tb, range := 0 } } ∧
      Others s.drv t.drv (s.rd CAL_RUN.UNIT 0) ∧
      FieldsKept s t [(CAL_STAT.BUSY, 0), (CAL_STAT.RUN_RES, 0), (CAL_MEAS.MEAS, 0), (HOST_STAT.COLLIDE_COUNT, 0)] ∧
      t = { s with chip := { s.chip with regs := t.chip.regs, hostp := t.chip.hostp, cal := t.chip.cal, drv := t.chip.drv } }) ∧
  (∀ (w : Wr) (m : BitVec 32) (s : State),
    Accepted s w pgCal →
    s.rd CAL_STAT.CAL_STATE 0 ≠ 0 ∧ s.on CAL_STAT.BUSY 0 = false ∧ calKnown (s.rd CAL_RUN.ITEM 0) (s.rd CAL_RUN.UNIT 0) (s.rd CAL_RUN.SUB 0) = true →
    s.calOk s.calNew false = true →
    s.rd CAL_RUN.ITEM 0 = 1 ∧ s.drvState (s.rd CAL_RUN.UNIT 0) = 1 →
    m.toNat ≤ 200000 →
    Gives (.calRun w m) s fun t =>
      ∃ u : State,
        (u = (((((s.collide w.req 0x4040).wr CAL_MEAS.MEAS 0 m.toNat).wr CAL_STAT.BUSY 0 1).wr CAL_STAT.RUN_RES 0 0).modCal fun c => { c with run := some s.calNew }).wr DAC_STAT.CLAMP_ON (s.rd CAL_RUN.UNIT 0) 1) ∧
        t = (u.setDrvState (s.rd CAL_RUN.UNIT 0) 0).seqPhase (s.rd CAL_RUN.UNIT 0) 4 0 0 0) ∧
  (∀ (w : Wr) (m : BitVec 32) (s : State),
    Accepted s w pgCal →
    s.rd CAL_STAT.CAL_STATE 0 ≠ 0 ∧ s.on CAL_STAT.BUSY 0 = false ∧ calKnown (s.rd CAL_RUN.ITEM 0) (s.rd CAL_RUN.UNIT 0) (s.rd CAL_RUN.SUB 0) = true →
    s.calOk s.calNew false = true →
    s.rd CAL_RUN.ITEM 0 = 1 ∧ s.drvState (s.rd CAL_RUN.UNIT 0) = 1 →
    200000 < m.toNat →
    Gives (.calRun w m) s fun t =>
      ∃ u : State,
        (u = (((((s.collide w.req 0x4040).wr CAL_MEAS.MEAS 0 m.toNat).wr CAL_STAT.BUSY 0 1).wr CAL_STAT.RUN_RES 0 0).modCal fun c => { c with run := some s.calNew }).wr DAC_STAT.CLAMP_ON (s.rd CAL_RUN.UNIT 0) 1) ∧
        t = ((((u.setDrvState (s.rd CAL_RUN.UNIT 0) 0).seqPhase (s.rd CAL_RUN.UNIT 0) 4 0 0 0).calClose 2).dacUnclamp (s.rd CAL_RUN.UNIT 0)).calReport s.calNew 2) ∧
  (∀ (w : Wr) (m : BitVec 32) (s : State),
    Accepted s w pgCal →
    s.rd CAL_STAT.CAL_STATE 0 = 0 ∧ s.on CAL_STAT.BUSY 0 = false ∧ calKnown (s.rd CAL_RUN.ITEM 0) (s.rd CAL_RUN.UNIT 0) (s.rd CAL_RUN.SUB 0) = true →
    Gives (.calRun w m) s fun t =>
      Refused s t pgCal 4 ∧
      FieldsKept s t [(ERR_CODE.LAST, pgCal), (ERR_CODE.FIRST, pgCal), (ERR_COUNT.COUNT, pgCal), (HOST_STAT.COLLIDE_COUNT, 0)] ∧
      t = { s with chip := { s.chip with regs := t.chip.regs, hostp := t.chip.hostp } }) ∧
  (∀ (w : Wr) (m : BitVec 32) (s : State),
    Accepted s w pgCal →
    s.rd CAL_STAT.CAL_STATE 0 ≠ 0 ∧ s.on CAL_STAT.BUSY 0 = false ∧ calKnown (s.rd CAL_RUN.ITEM 0) (s.rd CAL_RUN.UNIT 0) (s.rd CAL_RUN.SUB 0) = true →
    s.calOk s.calNew false = false →
    Gives (.calRun w m) s fun t =>
      t.rd CAL_STAT.RUN_RES 0 = 2 ∧ t.rd CAL_STAT.BUSY 0 = 0 ∧
      Recorded s t 0x08 (s.rd CAL_RUN.ITEM 0) 0x1102 ∧
      Raised t pgCal 1 ∧
      t.cal = { s.cal with run := none } ∧
      (s.rd CAL_RUN.ITEM 0 = 1 ∨ s.rd CAL_RUN.ITEM 0 = 2 → t.rd CAL_MEAS.MEAS 0 = m.toNat) ∧
      FieldsKept s t [(CAL_STAT.BUSY, 0), (CAL_STAT.RUN_RES, 0), (CAL_MEAS.MEAS, 0), (IRQ_STAT.BITS, pgCal), (HOST_STAT.COLLIDE_COUNT, 0)] ∧
      t = { s with chip := { s.chip with regs := t.chip.regs, hostp := t.chip.hostp, recs := t.chip.recs, cal := t.chip.cal } }) ∧
  (∀ (w : Wr) (m : BitVec 32) (s : State),
    Accepted s w pgCal →
    calKnown (s.rd CAL_RUN.ITEM 0) (s.rd CAL_RUN.UNIT 0) (s.rd CAL_RUN.SUB 0) = false →
    Gives (.calRun w m) s fun t =>
      Refused s t pgCal 1 ∧
      FieldsKept s t [(ERR_CODE.LAST, pgCal), (ERR_CODE.FIRST, pgCal), (ERR_COUNT.COUNT, pgCal), (HOST_STAT.COLLIDE_COUNT, 0)] ∧
      t = { s with chip := { s.chip with regs := t.chip.regs, hostp := t.chip.hostp } }) ∧
  (∀ (w : Wr) (m : BitVec 32) (s : State),
    Accepted s w pgCal →
    s.on CAL_STAT.BUSY 0 = true ∧ calKnown (s.rd CAL_RUN.ITEM 0) (s.rd CAL_RUN.UNIT 0) (s.rd CAL_RUN.SUB 0) = true →
    Gives (.calRun w m) s fun t =>
      Refused s t pgCal 2 ∧
      FieldsKept s t [(ERR_CODE.LAST, pgCal), (ERR_CODE.FIRST, pgCal), (ERR_COUNT.COUNT, pgCal), (HOST_STAT.COLLIDE_COUNT, 0)] ∧
      t = { s with chip := { s.chip with regs := t.chip.regs, hostp := t.chip.hostp } }) ∧
  (∀ (w : Wr) (m : BitVec 32) (s : State),
    Accepted s w pgCal →
    s.rd CAL_STAT.CAL_STATE 0 ≠ 0 ∧ s.on CAL_STAT.BUSY 0 = false ∧ calKnown (s.rd CAL_RUN.ITEM 0) (s.rd CAL_RUN.UNIT 0) (s.rd CAL_RUN.SUB 0) = true →
    s.rd CAL_RUN.ITEM 0 = 1 ∧ s.calOk s.calNew false = true ∧ s.drvState (s.rd CAL_RUN.UNIT 0) ≠ 1 →
    200000 < m.toNat →
    Gives (.calRun w m) s fun t =>
      t.rd CAL_STAT.RUN_RES 0 = 2 ∧ t.rd CAL_STAT.BUSY 0 = 0 ∧
      Recorded s t 0x08 (s.rd CAL_RUN.ITEM 0) 0x1102 ∧
      t.rd CAL_MEAS.MEAS 0 = m.toNat ∧
      Raised t pgCal 1 ∧
      t.cal = { s.cal with run := none } ∧
      (t.drv (s.rd CAL_RUN.UNIT 0)).seq = none ∧
      Others s.drv t.drv (s.rd CAL_RUN.UNIT 0) ∧
      FieldsKept s t [(CAL_STAT.BUSY, 0), (CAL_STAT.RUN_RES, 0), (CAL_MEAS.MEAS, 0), (DAC_STAT.UNCLAMP_BUSY, s.rd CAL_RUN.UNIT 0), (DAC_STAT.RANGE_BUSY, s.rd CAL_RUN.UNIT 0), (IRQ_STAT.BITS, pgCal), (HOST_STAT.COLLIDE_COUNT, 0)] ∧
      t = { s with chip := { s.chip with regs := t.chip.regs, hostp := t.chip.hostp, recs := t.chip.recs, cal := t.chip.cal, drv := t.chip.drv } }) ∧
  (∀ (l v : List Int) (r : CalRun) (s : State),
    s.cal.run = some r →
    r.item ≠ 6 ∧ r.item ≠ 9 ∧ s.calOk r true = true ∧ s.calResult r l = some v →
    r.phase = 1 →
    Gives (.calRunPhaseEnd l) s fun t =>
      t.cal = { s.cal with run := some { r with phase := 2, first := v, from' := s.tb } } ∧
      t.rd CAL_RES1.RES1 0 = calShown r v % 2 ^ 32 ∧
      FieldsKept s t [(CAL_RES1.RES1, 0)] ∧
      t = { s with chip := { s.chip with regs := t.chip.regs, cal := t.chip.cal } }) ∧
  (∀ (l v : List Int) (r : CalRun) (s : State),
    s.cal.run = some r →
    r.item = 9 ∧ s.calOk r true = true ∧ s.cas.echoes = 256 ∧ v = [roundDiv s.cas.sum 512] →
    r.phase = 1 →
    Gives (.calRunPhaseEnd l) s fun t =>
      t.cal = { s.cal with run := some { r with phase := 2, first := v, from' := s.tb } } ∧
      t.rd CAL_RES1.RES1 0 = unsigned 32 (roundDiv s.cas.sum 512) ∧
      t.cas.echoes = 0 ∧ t.cas.sum = 0 ∧
      (t.casPort r.unit).queue = (s.casPort r.unit).queue ++ List.replicate 256 (4, []) ∧
      FieldsKept s t [(CAL_RES1.RES1, 0)] ∧
      t = { s with chip := { s.chip with regs := t.chip.regs, cal := t.chip.cal, cas := t.chip.cas, casPort := t.chip.casPort } }) ∧
  (∀ (l : List Int) (r : CalRun) (s : State),
    s.cal.run = some r →
    r.item ≠ 6 ∧ r.phase ≠ 3 ∧ s.calOk r true = true →
    s.calResult r l = none →
    Gives (.calRunPhaseEnd l) s fun t =>
      t = s) ∧
  (∀ (l : List Int) (r : CalRun) (s : State),
    s.cal.run = some r →
    r.item = 3 ∧ l.length = 1 ∧ s.calOk r true = true →
    r.phase = 2 ∧ r.first.length = 1 →
    (l.headD 0 - r.first.headD 0).natAbs ≤ 83 ∧ (r.first.headD 0 - l.headD 0).natAbs ≤ 83 →
    Gives (.calRunPhaseEnd l) s fun t =>
      t.rd CAL_STAT.RUN_RES 0 = 1 ∧ t.rd CAL_STAT.BUSY 0 = 0 ∧
      Recorded s t 0x08 r.item 0x1101 ∧
      Raised t pgCal 0 ∧
      t.rd CAL_RES2.RES2 0 = unsigned 32 ((l[0]?).getD 0) % 2 ^ 32 ∧ t.rd CAL_DIFF.DIFF 0 = (r.first.headD 0 - l.headD 0).natAbs ∧
      t.rd CAL_STAT.IMAGE_PEND 0 = min 0xFF (s.rd CAL_STAT.IMAGE_PEND 0 + 1) ∧
      (r.apply = false → t.cal = { s.cal with run := none, image := Sparse.put [] s.cal.image (calKey 3 r.unit r.sub) [unsigned 24 (roundDiv (r.first.headD 0 + l.headD 0) 2)] }) ∧
      (r.apply = true → t.cal = { s.cal with run := none, image := Sparse.put [] s.cal.image (calKey 3 r.unit r.sub) [unsigned 24 (roundDiv (r.first.headD 0 + l.headD 0) 2)], later := s.cal.later.filter (fun x => !(x.1 == 3 && x.2.1 == r.unit)) ++ [(3, r.unit, [unsigned 24 (roundDiv (r.first.headD 0 + l.headD 0) 2)])] }) ∧
      FieldsKept s t [(CAL_RES2.RES2, 0), (CAL_DIFF.WORST, 0), (CAL_DIFF.DIFF, 0), (CAL_STAT.IMAGE_PEND, 0), (CAL_STAT.BUSY, 0), (CAL_STAT.RUN_RES, 0), (IRQ_STAT.BITS, pgCal)] ∧
      t = { s with chip := { s.chip with regs := t.chip.regs, hostp := t.chip.hostp, recs := t.chip.recs, cal := t.chip.cal } }) ∧
  (∀ (l v : List Int) (r : CalRun) (s : State),
    s.cal.run = some r →
    r.item ≠ 6 ∧ r.phase = 2 ∧ s.calOk r true = true ∧ s.calResult r l = some v →
    (calWorst r.first v (calAgree r.item r.sub r.first.length)).2.2 = true ∧ (r.item = 1 ∧ r.wasIdle = true) = false →
    Gives (.calRunPhaseEnd l) s fun t =>
      ∃ u : State,
        u = (((s.wr CAL_RES2.RES2 0 (calShown r v)).wr CAL_DIFF.WORST 0 (calWorst r.first v (calAgree r.item r.sub r.first.length)).1).wr CAL_DIFF.DIFF 0 (min 65535 (calWorst r.first v (calAgree r.item r.sub r.first.length)).2.1)).calAccept r (calMean r.first v) ∧
        t = u.calEnd r 1) ∧
  (∀ (l v : List Int) (r : CalRun) (s : State),
    s.cal.run = some r →
    r.item = 1 ∧ r.wasIdle = true ∧ r.phase = 2 ∧ s.calOk r true = true ∧ s.calResult r l = some v →
    (calWorst r.first v (calAgree r.item r.sub r.first.length)).2.2 = true →
    Gives (.calRunPhaseEnd l) s fun t =>
      ∃ u : State,
        u = (((s.wr CAL_RES2.RES2 0 (calShown r v)).wr CAL_DIFF.WORST 0 (calWorst r.first v (calAgree r.item r.sub r.first.length)).1).wr CAL_DIFF.DIFF 0 (min 65535 (calWorst r.first v (calAgree r.item r.sub r.first.length)).2.1)).calAccept r (calMean r.first v) ∧
        (t = (u.dacUnclamp r.unit).modCal fun c => { c with run := some { r with phase := 3 } })) ∧
  (∀ (l : List Int) (r : CalRun) (s : State),
    s.cal.run = some r →
    r.item = 3 ∧ l.length = 1 ∧ s.calOk r true = true →
    r.phase = 2 ∧ r.first.length = 1 →
    83 < (r.first.headD 0 - l.headD 0).natAbs →
    Gives (.calRunPhaseEnd l) s fun t =>
      t.rd CAL_STAT.RUN_RES 0 = 3 ∧ t.rd CAL_STAT.BUSY 0 = 0 ∧
      Recorded s t 0x08 r.item 0x1103 ∧
      Raised t pgCal 2 ∧
      t.cal = { s.cal with run := none } ∧
      FieldsKept s t [(CAL_RES2.RES2, 0), (CAL_DIFF.WORST, 0), (CAL_DIFF.DIFF, 0), (CAL_STAT.BUSY, 0), (CAL_STAT.RUN_RES, 0), (IRQ_STAT.BITS, pgCal)] ∧
      t = { s with chip := { s.chip with regs := t.chip.regs, hostp := t.chip.hostp, recs := t.chip.recs, cal := t.chip.cal } }) ∧
  (∀ (l v : List Int) (r : CalRun) (s : State),
    s.cal.run = some r →
    r.item ≠ 6 ∧ r.phase = 2 ∧ s.calOk r true = true ∧ s.calResult r l = some v →
    (calWorst r.first v (calAgree r.item r.sub r.first.length)).2.2 = false →
    Gives (.calRunPhaseEnd l) s fun t =>
      t = (((s.wr CAL_RES2.RES2 0 (calShown r v)).wr CAL_DIFF.WORST 0 (calWorst r.first v (calAgree r.item r.sub r.first.length)).1).wr CAL_DIFF.DIFF 0 (min 65535 (calWorst r.first v (calAgree r.item r.sub r.first.length)).2.1)).calEnd r 3) ∧
  (∀ (l : List Int) (r : CalRun) (s : State),
    s.cal.run = some r →
    (r.item = 2 ∨ r.item = 3 ∨ r.item = 4 ∨ (r.item = 8 ∧ r.sub ≠ 0)) ∧ r.phase ≠ 3 ∧ s.calOk r true = false →
    Gives (.calRunPhaseEnd l) s fun t =>
      t.rd CAL_STAT.RUN_RES 0 = 2 ∧ t.rd CAL_STAT.BUSY 0 = 0 ∧
      Recorded s t 0x08 r.item 0x1102 ∧
      Raised t pgCal 1 ∧
      t.cal = { s.cal with run := none } ∧
      FieldsKept s t [(CAL_STAT.BUSY, 0), (CAL_STAT.RUN_RES, 0), (IRQ_STAT.BITS, pgCal)] ∧
      t = { s with chip := { s.chip with regs := t.chip.regs, hostp := t.chip.hostp, recs := t.chip.recs, cal := t.chip.cal } }) ∧
  (∀ (l : List Int) (r : CalRun) (s : State),
    s.cal.run = some r →
    r.item ≠ 6 ∧ r.phase ≠ 3 ∧ s.calOk r true = false →
    Gives (.calRunPhaseEnd l) s fun t =>
      t = s.calEnd r 2) ∧
  (∀ (l : List Int) (r : CalRun) (s : State),
    s.cal.run = some r →
    r.phase = 3 →
    Gives (.calRunPhaseEnd l) s fun t =>
      (t = (if (s.drv r.unit).seq = none then s.calEnd r 1 else s))) ∧
  (∀ (l : List Int) (r : CalRun) (s : State),
    s.cal.run = some r →
    r.item = 6 ∧ r.phase ≠ 3 →
    Gives (.calRunPhaseEnd l) s fun t =>
      (t = (if r.since + 43200000000000 ≤ s.tb then s.calTcEnd r else s))) ∧
  (∀ (l : List Int) (s : State),
    s.cal.run = none →
    Gives (.calRunPhaseEnd l) s fun t =>
      t = s) ∧
  (∀ (x : Int) (s : State),
    s.cal.run = none →
    Gives (.calTcRecord x) s fun t =>
      t = s) ∧
  (∀ (x : Int) (r : CalRun) (s : State),
    s.cal.run = some r →
    r.item = 6 ∧ r.from' + 5000000000 ≤ s.tb →
    s.tpllState = 1 →
    Gives (.calTcRecord x) s fun t =>
      ((((r.recs ++ [(x, s.hubTemp)]).map (·.2)).foldl max (((r.recs ++ [(x, s.hubTemp)]).map (·.2)).headD 0) - ((r.recs ++ [(x, s.hubTemp)]).map (·.2)).foldl min (((r.recs ++ [(x, s.hubTemp)]).map (·.2)).headD 0)) < 960 → t = { s with chip := { s.chip with cal := { s.cal with run := some { r with recs := r.recs ++ [(x, s.hubTemp)], from' := s.tb } } } }) ∧
      (960 ≤ (((r.recs ++ [(x, s.hubTemp)]).map (·.2)).foldl max (((r.recs ++ [(x, s.hubTemp)]).map (·.2)).headD 0) - ((r.recs ++ [(x, s.hubTemp)]).map (·.2)).foldl min (((r.recs ++ [(x, s.hubTemp)]).map (·.2)).headD 0)) → t = State.calTcEnd { s with chip := { s.chip with cal := { s.cal with run := some { r with recs := r.recs ++ [(x, s.hubTemp)], from' := s.tb } } } } { r with recs := r.recs ++ [(x, s.hubTemp)], from' := s.tb }) ∧
      t.mem = s.mem) ∧
  (∀ (x : Int) (r : CalRun) (s : State),
    s.cal.run = some r →
    r.item = 6 ∧ r.from' + 5000000000 ≤ s.tb →
    s.tpllState ≠ 1 →
    Gives (.calTcRecord x) s fun t =>
      t.rd CAL_STAT.RUN_RES 0 = 2 ∧ t.rd CAL_STAT.BUSY 0 = 0 ∧
      Recorded s t 0x08 6 0x1102 ∧
      t.cal = { s.cal with run := none } ∧
      Raised t pgCal 1 ∧
      FieldsKept s t [(CAL_STAT.BUSY, 0), (CAL_STAT.RUN_RES, 0), (IRQ_STAT.BITS, pgCal)] ∧
      t = { s with chip := { s.chip with regs := t.chip.regs, hostp := t.chip.hostp, recs := t.chip.recs, cal := t.chip.cal } }) ∧
  (∀ (x : Int) (r : CalRun) (s : State),
    s.cal.run = some r →
    r.item ≠ 6 ∨ s.tb < r.from' + 5000000000 →
    Gives (.calTcRecord x) s fun t =>
      t = s) ∧
  (∀ (w : Wr) (r : CalRun) (s : State),
    Accepted s w pgCal →
    s.cal.run = some r →
    (r.item = 2 ∨ r.item = 3 ∨ r.item = 4 ∨ r.item = 6 ∨ (r.item = 8 ∧ r.sub ≠ 0)) ∧ r.phase ≠ 3 →
    Gives (.calAbort w) s fun t =>
      t.rd CAL_STAT.RUN_RES 0 = 4 ∧ t.rd CAL_STAT.BUSY 0 = 0 ∧
      Recorded s t 0x08 r.item 0x110A ∧
      t.cal = { s.cal with run := none } ∧
      FieldsKept s t [(CAL_STAT.BUSY, 0), (CAL_STAT.RUN_RES, 0), (HOST_STAT.COLLIDE_COUNT, 0)] ∧
      t = { s with chip := { s.chip with regs := t.chip.regs, hostp := t.chip.hostp, recs := t.chip.recs, cal := t.chip.cal } }) ∧
  (∀ (w : Wr) (r : CalRun) (s : State),
    Accepted s w pgCal →
    s.cal.run = some r →
    r.item = 5 ∧ r.phase ≠ 3 →
    Gives (.calAbort w) s fun t =>
      t.rd CAL_STAT.RUN_RES 0 = 4 ∧ t.rd CAL_STAT.BUSY 0 = 0 ∧
      Recorded s t 0x08 5 0x110A ∧
      t.cal = { s.cal with run := none } ∧
      t.rd TPLL_STAT.SWEEP_BUSY 0 = 0 ∧
      FieldsKept s t [(CAL_STAT.BUSY, 0), (CAL_STAT.RUN_RES, 0), (TPLL_STAT.SWEEP_BUSY, 0), (HOST_STAT.COLLIDE_COUNT, 0)] ∧
      t = { s with chip := { s.chip with regs := t.chip.regs, hostp := t.chip.hostp, recs := t.chip.recs, cal := t.chip.cal } }) ∧
  (∀ (w : Wr) (r : CalRun) (s : State),
    Accepted s w pgCal →
    s.cal.run = some r →
    Gives (.calAbort w) s fun t =>
      (t = (s.collide w.req 0x4040).calEnd r (if r.phase = 3 then 1 else 4))) ∧
  (∀ (w : Wr) (s : State),
    Accepted s w pgCal →
    s.cal.run = none →
    Gives (.calAbort w) s fun t =>
      FieldsKept s t [(HOST_STAT.COLLIDE_COUNT, 0)] ∧
      t = { s with chip := { s.chip with regs := t.chip.regs, hostp := t.chip.hostp } }) ∧
  ((∀ (s : State) (r : CalRun) (res : Nat), 1 ≤ res → res ≤ 4 →
        let t := s.calReport r res
        (res ≤ 3 → Raised t pgCal (res - 1)) ∧
        t.recs = (s.jrn 0x08 r.item (if res = 4 then 0x110A else 0x1100 + res) [.word r.item, .word r.unit, .word r.sub, .word res, .word (s.rd CAL_MEAS.MEAS 0), .word (s.rd CAL_DIFF.DIFF 0)]).recs ∧
        FieldsKept s t [(IRQ_STAT.BITS, pgCal)] ∧
        t = { s with chip := { s.chip with regs := t.chip.regs, hostp := t.chip.hostp, recs := t.chip.recs } })) ∧
  ((∀ (s : State) (r : CalRun) (res : Nat),
        let a := s.calClose res
        a.cal = { s.cal with run := none } ∧ a.rd CAL_STAT.BUSY 0 = 0 ∧ a.rd CAL_STAT.RUN_RES 0 = res % 16 ∧
        FieldsKept s a [(CAL_STAT.BUSY, 0), (CAL_STAT.RUN_RES, 0)] ∧
        a = { s with chip := { s.chip with regs := a.chip.regs, cal := a.chip.cal } } ∧
        s.calEnd r res = State.calReport (
          if r.item = 1 ∧ r.wasIdle = true then (if r.phase = 3 then a else a.dacUnclamp r.unit)
          else if r.item = 1 then a.seqDone r.unit
          else if r.item = 5 then a.wr TPLL_STAT.SWEEP_BUSY 0 0
          else if r.item = 7 then (a.modQuad r.unit fun x => { x with hold := false }).settleQuad r.unit
          else if r.item = 8 ∧ r.sub = 0 then (a.modLphy r.unit fun p => { p with calHold := false }).laneWake r.unit
          else if r.item = 9 then a.dropProbes r.unit
          else a) r res)) ∧
  ((∀ (s : State) (r : CalRun) (v : List Int),
        let ds := calData r.item r.sub v (s.quadTable r.unit) r.bin
        let a := (s.modCal fun c => { c with image := Sparse.put [] c.image (calKey r.item r.unit r.sub) ds }).inc CAL_STAT.IMAGE_PEND 0
        (r.apply = false → s.calAccept r v = a) ∧
        (r.apply = true → r.item = 5 → s.calAccept r v = a.fillBand none ds) ∧
        (r.apply = true → r.item = 6 → let t := s.calAccept r v
          t.rd TPLL_TC_T0.T0 0 = (ds[0]?).getD 0 % 2 ^ 16 ∧ t.rd TPLL_TC_C1.C1 0 = (ds[1]?).getD 0 % 2 ^ 32 ∧ t.rd TPLL_TC_C2.C2 0 = (ds[2]?).getD 0 % 2 ^ 32) ∧
        (r.apply = true → r.item = 7 → s.calAccept r v = (a.fillBand (some r.unit) ds).requestBand (some r.unit)) ∧
        (r.apply = true → r.item = 8 → r.sub = 1 → s.calAccept r v = a.modLphy r.unit fun p => { p with seed := seedOf ds }) ∧
        (r.apply = true → r.item = 9 → s.calAccept r v = a.loadSkew r.unit ((ds[0]?).getD 0) 1) ∧
        (r.apply = true → r.item = 1 → ∀ i : Fin 1026, Sparse.get 0 ((s.calAccept r v).drv r.unit).trims (2048 * r.sub + i.val) =
          (if i.val % 2 = 0 then (ds[i.val / 2]?).getD 0 % 65536 else (ds[i.val / 2]?).getD 0 / 65536)))) ∧
  ((∀ (s : State) (r : CalRun) (d : Nat), s.cal.run = some r →
        s.calDomain d = (if r.domain = d ∨ (r.item = 8 ∧ 34 + r.unit / 4 = d) then s.calEnd r 4 else s) ∧
        s.skewFail = (if r.item = 9 then s.calEnd r 2 else s)))

/-- The store of the image, and the flash. CAL_STORE begins a store into the slot and with the GEN of R452, its first command issued at once unless a software command runs or the supply is low, which ends it; it is refused where GEN would be 0xFFFFFFFF, where a store runs, and where no set is loaded or the flash is absent, with codes 1, 2 and 4; a software command is issued to the flash, or refused for a misaligned page, a closed lock, a busy flash or a protected range with codes 1, 0x101, 2 and 3, and ends with SUPPLY while the supply is low; a completed command clears bits or erases exactly its range of the flash, or fills the buffer, says so, and lets a store that waited issue its next command; a store's erase, program and matching read-back lead to its next command or, when the supply is low, to SUPPLY, a read-back that does not match to VERIFY, and its last program to STORED with its record; an error status ends what was in progress; the supply monitor counts its trips and keeps programs and erases out until it releases. Where the rules leave room the clauses state the model's readings (log entries 3, 31, 32 and 34) -/
def Obligations.CalibrationStoreAndFlash : Prop :=
  (∀ (w : Wr) (s : State),
    Accepted s w pgCal →
    s.rd CAL_STAT.CAL_STATE 0 ≠ 0 ∧ s.on CAL_STAT.FLASH_OK 0 = true ∧ s.on CAL_STAT.STORING 0 = false ∧ s.storeTarget.2 < 0xFFFFFFFF →
    s.cal.fl.isSome = true →
    Gives (.calStore w) s fun t =>
      t.cal = { s.cal with store := some { slot := s.storeTarget.1, gen := s.storeTarget.2, payload := s.imagePayload } } ∧
      t.rd CAL_STAT.STORING 0 = 1 ∧
      FieldsKept s t [(CAL_STAT.STORING, 0), (HOST_STAT.COLLIDE_COUNT, 0)] ∧
      t = { s with chip := { s.chip with regs := t.chip.regs, hostp := t.chip.hostp, cal := t.chip.cal } }) ∧
  (∀ (w : Wr) (s : State),
    Accepted s w pgCal →
    s.rd CAL_STAT.CAL_STATE 0 ≠ 0 ∧ s.on CAL_STAT.FLASH_OK 0 = true ∧ s.on CAL_STAT.STORING 0 = false ∧ s.storeTarget.2 < 0xFFFFFFFF →
    s.cal.fl = none ∧ s.cal.low = false →
    Gives (.calStore w) s fun t =>
      t.cal = { s.cal with store := some { ({ slot := s.storeTarget.1, gen := s.storeTarget.2, payload := s.imagePayload } : CalStore) with issued := true } } ∧
      t.chip.out = s.chip.out ++ [.flash "ERASE64K" (calSlotBase s.storeTarget.1) []] ∧
      t.rd CAL_STAT.STORING 0 = 1 ∧
      FieldsKept s t [(CAL_STAT.STORING, 0), (HOST_STAT.COLLIDE_COUNT, 0)] ∧
      t = { s with chip := { s.chip with regs := t.chip.regs, hostp := t.chip.hostp, cal := t.chip.cal, out := t.chip.out } }) ∧
  (∀ (w : Wr) (s : State),
    Accepted s w pgCal →
    s.on CAL_STAT.STORING 0 = true ∧ s.storeTarget.2 < 0xFFFFFFFF →
    Gives (.calStore w) s fun t =>
      Refused s t pgCal 2 ∧
      FieldsKept s t [(ERR_CODE.LAST, pgCal), (ERR_CODE.FIRST, pgCal), (ERR_COUNT.COUNT, pgCal), (HOST_STAT.COLLIDE_COUNT, 0)] ∧
      t = { s with chip := { s.chip with regs := t.chip.regs, hostp := t.chip.hostp } }) ∧
  (∀ (w : Wr) (s : State),
    Accepted s w pgCal →
    s.rd CAL_STAT.CAL_STATE 0 = 0 ∨ s.on CAL_STAT.FLASH_OK 0 = false →
    s.on CAL_STAT.STORING 0 = false ∧ s.storeTarget.2 < 0xFFFFFFFF →
    Gives (.calStore w) s fun t =>
      Refused s t pgCal 4 ∧
      FieldsKept s t [(ERR_CODE.LAST, pgCal), (ERR_CODE.FIRST, pgCal), (ERR_COUNT.COUNT, pgCal), (HOST_STAT.COLLIDE_COUNT, 0)] ∧
      t = { s with chip := { s.chip with regs := t.chip.regs, hostp := t.chip.hostp } }) ∧
  (∀ (w : Wr) (s : State),
    Accepted s w pgCal →
    s.on CAL_STAT.STORING 0 = false ∧ s.on CAL_FL_STAT.BUSY 0 = false →
    Gives (.flRead w) s fun t =>
      t.cal = { s.cal with fl := some (1, (s.rd CAL_FL_ADDR.ADDR 0)) } ∧
      t.chip.out = s.chip.out ++ [.flash "READ" (s.rd CAL_FL_ADDR.ADDR 0) []] ∧
      t.rd CAL_FL_STAT.BUSY 0 = 1 ∧ t.rd CAL_FL_STAT.RESULT 0 = 0 ∧
      FieldsKept s t [(CAL_FL_STAT.BUSY, 0), (CAL_FL_STAT.RESULT, 0), (HOST_STAT.COLLIDE_COUNT, 0)] ∧
      t = { s with chip := { s.chip with regs := t.chip.regs, hostp := t.chip.hostp, cal := t.chip.cal, out := t.chip.out } }) ∧
  (∀ (w : Wr) (s : State),
    Accepted s w pgCal →
    s.on CAL_STAT.STORING 0 = false ∧ s.on CAL_FL_STAT.BUSY 0 = false →
    s.on LOCK.OPEN pgCal = true ∧ s.cal.low = false →
    (s.rd CAL_FL_ADDR.ADDR 0) + 256 ≤ 0x200000 ∨ 0x600000 ≤ (s.rd CAL_FL_ADDR.ADDR 0) →
    (s.rd CAL_FL_ADDR.ADDR 0) % 256 = 0 →
    Gives (.flProgram w) s fun t =>
      t.cal = { s.cal with fl := some (2, (s.rd CAL_FL_ADDR.ADDR 0)) } ∧
      (t.chip.out = s.chip.out ++ [.flash "PROGRAM" (s.rd CAL_FL_ADDR.ADDR 0) (((List.range 64).flatMap fun i => dwordBytes (s.rd CAL_FL_BUF.DATA i)).map (BitVec.ofNat 8))]) ∧
      t.rd CAL_FL_STAT.BUSY 0 = 1 ∧ t.rd CAL_FL_STAT.RESULT 0 = 0 ∧
      FieldsKept s t [(CAL_FL_STAT.BUSY, 0), (CAL_FL_STAT.RESULT, 0), (HOST_STAT.COLLIDE_COUNT, 0)] ∧
      t = { s with chip := { s.chip with regs := t.chip.regs, hostp := t.chip.hostp, cal := t.chip.cal, out := t.chip.out } }) ∧
  (∀ (w : Wr) (s : State),
    Accepted s w pgCal →
    s.on CAL_STAT.STORING 0 = false ∧ s.on CAL_FL_STAT.BUSY 0 = false →
    s.on LOCK.OPEN pgCal = true ∧ s.cal.low = true ∧ s.cal.store = none →
    (s.rd CAL_FL_ADDR.ADDR 0) + 256 ≤ 0x200000 ∨ 0x600000 ≤ (s.rd CAL_FL_ADDR.ADDR 0) →
    (s.rd CAL_FL_ADDR.ADDR 0) % 256 = 0 →
    Gives (.flProgram w) s fun t =>
      t.rd CAL_FL_STAT.BUSY 0 = 0 ∧ t.rd CAL_FL_STAT.RESULT 0 = 2 ∧
      Raised t pgCal 6 ∧
      t.cal = { s.cal with fl := none } ∧
      FieldsKept s t [(CAL_FL_STAT.BUSY, 0), (CAL_FL_STAT.RESULT, 0), (IRQ_STAT.BITS, pgCal), (HOST_STAT.COLLIDE_COUNT, 0)] ∧
      t = { s with chip := { s.chip with regs := t.chip.regs, hostp := t.chip.hostp, cal := t.chip.cal } }) ∧
  (∀ (w : Wr) (s : State),
    Accepted s w pgCal →
    s.on LOCK.OPEN pgCal = false →
    Gives (.flProgram w) s fun t =>
      Refused s t pgCal 0x101 ∧
      FieldsKept s t [(ERR_CODE.LAST, pgCal), (ERR_CODE.FIRST, pgCal), (ERR_COUNT.COUNT, pgCal), (HOST_STAT.COLLIDE_COUNT, 0)] ∧
      t = { s with chip := { s.chip with regs := t.chip.regs, hostp := t.chip.hostp } }) ∧
  (∀ (w : Wr) (s : State),
    Accepted s w pgCal →
    s.on CAL_STAT.STORING 0 = false ∧ s.on CAL_FL_STAT.BUSY 0 = false →
    s.on LOCK.OPEN pgCal = true →
    (s.rd CAL_FL_ADDR.ADDR 0) < 0x600000 ∧ 0x200000 < (s.rd CAL_FL_ADDR.ADDR 0) + 256 →
    (s.rd CAL_FL_ADDR.ADDR 0) % 256 = 0 →
    Gives (.flProgram w) s fun t =>
      Refused s t pgCal 3 ∧
      FieldsKept s t [(ERR_CODE.LAST, pgCal), (ERR_CODE.FIRST, pgCal), (ERR_COUNT.COUNT, pgCal), (HOST_STAT.COLLIDE_COUNT, 0)] ∧
      t = { s with chip := { s.chip with regs := t.chip.regs, hostp := t.chip.hostp } }) ∧
  (∀ (w : Wr) (s : State),
    Accepted s w pgCal →
    s.on LOCK.OPEN pgCal = true ∧ (s.on CAL_STAT.STORING 0 = true ∨ s.on CAL_FL_STAT.BUSY 0 = true) →
    (s.rd CAL_FL_ADDR.ADDR 0) % 256 = 0 →
    Gives (.flProgram w) s fun t =>
      Refused s t pgCal 2 ∧
      FieldsKept s t [(ERR_CODE.LAST, pgCal), (ERR_CODE.FIRST, pgCal), (ERR_COUNT.COUNT, pgCal), (HOST_STAT.COLLIDE_COUNT, 0)] ∧
      t = { s with chip := { s.chip with regs := t.chip.regs, hostp := t.chip.hostp } }) ∧
  (∀ (w : Wr) (s : State),
    Accepted s w pgCal →
    s.on CAL_STAT.STORING 0 = false ∧ s.on CAL_FL_STAT.BUSY 0 = false →
    s.on LOCK.OPEN pgCal = true ∧ s.cal.low = false →
    ((s.rd CAL_FL_ADDR.ADDR 0) / 4096 * 4096) + 4096 ≤ 0x200000 ∨ 0x600000 ≤ ((s.rd CAL_FL_ADDR.ADDR 0) / 4096 * 4096) →
    Gives (.flErase4k w) s fun t =>
      t.cal = { s.cal with fl := some (3, (s.rd CAL_FL_ADDR.ADDR 0)) } ∧
      t.chip.out = s.chip.out ++ [.flash "ERASE4K" ((s.rd CAL_FL_ADDR.ADDR 0) / 4096 * 4096) []] ∧
      t.rd CAL_FL_STAT.BUSY 0 = 1 ∧ t.rd CAL_FL_STAT.RESULT 0 = 0 ∧
      FieldsKept s t [(CAL_FL_STAT.BUSY, 0), (CAL_FL_STAT.RESULT, 0), (HOST_STAT.COLLIDE_COUNT, 0)] ∧
      t = { s with chip := { s.chip with regs := t.chip.regs, hostp := t.chip.hostp, cal := t.chip.cal, out := t.chip.out } }) ∧
  (∀ (w : Wr) (s : State),
    Accepted s w pgCal →
    s.on CAL_STAT.STORING 0 = false ∧ s.on CAL_FL_STAT.BUSY 0 = false →
    s.on LOCK.OPEN pgCal = true ∧ s.cal.low = true ∧ s.cal.store = none →
    ((s.rd CAL_FL_ADDR.ADDR 0) / 4096 * 4096) + 4096 ≤ 0x200000 ∨ 0x600000 ≤ ((s.rd CAL_FL_ADDR.ADDR 0) / 4096 * 4096) →
    Gives (.flErase4k w) s fun t =>
      t.rd CAL_FL_STAT.BUSY 0 = 0 ∧ t.rd CAL_FL_STAT.RESULT 0 = 2 ∧
      Raised t pgCal 6 ∧
      t.cal = { s.cal with fl := none } ∧
      FieldsKept s t [(CAL_FL_STAT.BUSY, 0), (CAL_FL_STAT.RESULT, 0), (IRQ_STAT.BITS, pgCal), (HOST_STAT.COLLIDE_COUNT, 0)] ∧
      t = { s with chip := { s.chip with regs := t.chip.regs, hostp := t.chip.hostp, cal := t.chip.cal } }) ∧
  (∀ (w : Wr) (s : State),
    Accepted s w pgCal →
    s.on LOCK.OPEN pgCal = false →
    Gives (.flErase4k w) s fun t =>
      Refused s t pgCal 0x101 ∧
      FieldsKept s t [(ERR_CODE.LAST, pgCal), (ERR_CODE.FIRST, pgCal), (ERR_COUNT.COUNT, pgCal), (HOST_STAT.COLLIDE_COUNT, 0)] ∧
      t = { s with chip := { s.chip with regs := t.chip.regs, hostp := t.chip.hostp } }) ∧
  (∀ (w : Wr) (s : State),
    Accepted s w pgCal →
    s.on CAL_STAT.STORING 0 = false ∧ s.on CAL_FL_STAT.BUSY 0 = false →
    s.on LOCK.OPEN pgCal = true →
    ((s.rd CAL_FL_ADDR.ADDR 0) / 4096 * 4096) < 0x600000 ∧ 0x200000 < ((s.rd CAL_FL_ADDR.ADDR 0) / 4096 * 4096) + 4096 →
    Gives (.flErase4k w) s fun t =>
      Refused s t pgCal 3 ∧
      FieldsKept s t [(ERR_CODE.LAST, pgCal), (ERR_CODE.FIRST, pgCal), (ERR_COUNT.COUNT, pgCal), (HOST_STAT.COLLIDE_COUNT, 0)] ∧
      t = { s with chip := { s.chip with regs := t.chip.regs, hostp := t.chip.hostp } }) ∧
  (∀ (w : Wr) (s : State),
    Accepted s w pgCal →
    s.on LOCK.OPEN pgCal = true ∧ (s.on CAL_STAT.STORING 0 = true ∨ s.on CAL_FL_STAT.BUSY 0 = true) →
    Gives (.flErase4k w) s fun t =>
      Refused s t pgCal 2 ∧
      FieldsKept s t [(ERR_CODE.LAST, pgCal), (ERR_CODE.FIRST, pgCal), (ERR_COUNT.COUNT, pgCal), (HOST_STAT.COLLIDE_COUNT, 0)] ∧
      t = { s with chip := { s.chip with regs := t.chip.regs, hostp := t.chip.hostp } }) ∧
  (∀ (w : Wr) (s : State),
    Accepted s w pgCal →
    s.on CAL_STAT.STORING 0 = false ∧ s.on CAL_FL_STAT.BUSY 0 = false →
    s.on LOCK.OPEN pgCal = true ∧ s.cal.low = false →
    ((s.rd CAL_FL_ADDR.ADDR 0) / 65536 * 65536) + 65536 ≤ 0x200000 ∨ 0x600000 ≤ ((s.rd CAL_FL_ADDR.ADDR 0) / 65536 * 65536) →
    Gives (.flErase64k w) s fun t =>
      t.cal = { s.cal with fl := some (4, (s.rd CAL_FL_ADDR.ADDR 0)) } ∧
      t.chip.out = s.chip.out ++ [.flash "ERASE64K" ((s.rd CAL_FL_ADDR.ADDR 0) / 65536 * 65536) []] ∧
      t.rd CAL_FL_STAT.BUSY 0 = 1 ∧ t.rd CAL_FL_STAT.RESULT 0 = 0 ∧
      FieldsKept s t [(CAL_FL_STAT.BUSY, 0), (CAL_FL_STAT.RESULT, 0), (HOST_STAT.COLLIDE_COUNT, 0)] ∧
      t = { s with chip := { s.chip with regs := t.chip.regs, hostp := t.chip.hostp, cal := t.chip.cal, out := t.chip.out } }) ∧
  (∀ (w : Wr) (s : State),
    Accepted s w pgCal →
    s.on CAL_STAT.STORING 0 = false ∧ s.on CAL_FL_STAT.BUSY 0 = false →
    s.on LOCK.OPEN pgCal = true ∧ s.cal.low = true ∧ s.cal.store = none →
    ((s.rd CAL_FL_ADDR.ADDR 0) / 65536 * 65536) + 65536 ≤ 0x200000 ∨ 0x600000 ≤ ((s.rd CAL_FL_ADDR.ADDR 0) / 65536 * 65536) →
    Gives (.flErase64k w) s fun t =>
      t.rd CAL_FL_STAT.BUSY 0 = 0 ∧ t.rd CAL_FL_STAT.RESULT 0 = 2 ∧
      Raised t pgCal 6 ∧
      t.cal = { s.cal with fl := none } ∧
      FieldsKept s t [(CAL_FL_STAT.BUSY, 0), (CAL_FL_STAT.RESULT, 0), (IRQ_STAT.BITS, pgCal), (HOST_STAT.COLLIDE_COUNT, 0)] ∧
      t = { s with chip := { s.chip with regs := t.chip.regs, hostp := t.chip.hostp, cal := t.chip.cal } }) ∧
  (∀ (w : Wr) (s : State),
    Accepted s w pgCal →
    s.on LOCK.OPEN pgCal = false →
    Gives (.flErase64k w) s fun t =>
      Refused s t pgCal 0x101 ∧
      FieldsKept s t [(ERR_CODE.LAST, pgCal), (ERR_CODE.FIRST, pgCal), (ERR_COUNT.COUNT, pgCal), (HOST_STAT.COLLIDE_COUNT, 0)] ∧
      t = { s with chip := { s.chip with regs := t.chip.regs, hostp := t.chip.hostp } }) ∧
  (∀ (w : Wr) (s : State),
    Accepted s w pgCal →
    s.on CAL_STAT.STORING 0 = false ∧ s.on CAL_FL_STAT.BUSY 0 = false →
    s.on LOCK.OPEN pgCal = true →
    ((s.rd CAL_FL_ADDR.ADDR 0) / 65536 * 65536) < 0x600000 ∧ 0x200000 < ((s.rd CAL_FL_ADDR.ADDR 0) / 65536 * 65536) + 65536 →
    Gives (.flErase64k w) s fun t =>
      Refused s t pgCal 3 ∧
      FieldsKept s t [(ERR_CODE.LAST, pgCal), (ERR_CODE.FIRST, pgCal), (ERR_COUNT.COUNT, pgCal), (HOST_STAT.COLLIDE_COUNT, 0)] ∧
      t = { s with chip := { s.chip with regs := t.chip.regs, hostp := t.chip.hostp } }) ∧
  (∀ (w : Wr) (s : State),
    Accepted s w pgCal →
    s.on LOCK.OPEN pgCal = true ∧ (s.on CAL_STAT.STORING 0 = true ∨ s.on CAL_FL_STAT.BUSY 0 = true) →
    Gives (.flErase64k w) s fun t =>
      Refused s t pgCal 2 ∧
      FieldsKept s t [(ERR_CODE.LAST, pgCal), (ERR_CODE.FIRST, pgCal), (ERR_COUNT.COUNT, pgCal), (HOST_STAT.COLLIDE_COUNT, 0)] ∧
      t = { s with chip := { s.chip with regs := t.chip.regs, hostp := t.chip.hostp } }) ∧
  (∀ (w : Wr) (s : State),
    Accepted s w pgCal →
    s.on LOCK.OPEN pgCal = true →
    (s.rd CAL_FL_ADDR.ADDR 0) % 256 ≠ 0 →
    Gives (.flProgram w) s fun t =>
      Refused s t pgCal 1 ∧
      FieldsKept s t [(ERR_CODE.LAST, pgCal), (ERR_CODE.FIRST, pgCal), (ERR_COUNT.COUNT, pgCal), (HOST_STAT.COLLIDE_COUNT, 0)] ∧
      t = { s with chip := { s.chip with regs := t.chip.regs, hostp := t.chip.hostp } }) ∧
  (∀ (a : Nat) (s : State),
    s.cal.fl = some (1, a) →
    s.cal.store = none →
    Gives (.flashOpDone false) s fun t =>
      t.rd CAL_FL_STAT.BUSY 0 = 0 ∧ t.rd CAL_FL_STAT.RESULT 0 = 1 ∧
      Raised t pgCal 6 ∧
      t.cal = { s.cal with fl := none } ∧
      t.mem.winB = s.mem.winB ∧ t.mem.af = s.mem.af ∧
      t.mem = s.mem ∧
      (∀ i : Fin 64, t.rd CAL_FL_BUF.DATA i.val = s.flashD (a + 4 * i.val)) ∧
      FieldsKept s t [(CAL_FL_STAT.BUSY, 0), (CAL_FL_STAT.RESULT, 0), (IRQ_STAT.BITS, pgCal), (CAL_FL_BUF.DATA, 0), (CAL_FL_BUF.DATA, 1), (CAL_FL_BUF.DATA, 2), (CAL_FL_BUF.DATA, 3), (CAL_FL_BUF.DATA, 4), (CAL_FL_BUF.DATA, 5), (CAL_FL_BUF.DATA, 6), (CAL_FL_BUF.DATA, 7), (CAL_FL_BUF.DATA, 8), (CAL_FL_BUF.DATA, 9), (CAL_FL_BUF.DATA, 10), (CAL_FL_BUF.DATA, 11), (CAL_FL_BUF.DATA, 12), (CAL_FL_BUF.DATA, 13), (CAL_FL_BUF.DATA, 14), (CAL_FL_BUF.DATA, 15), (CAL_FL_BUF.DATA, 16), (CAL_FL_BUF.DATA, 17), (CAL_FL_BUF.DATA, 18), (CAL_FL_BUF.DATA, 19), (CAL_FL_BUF.DATA, 20), (CAL_FL_BUF.DATA, 21), (CAL_FL_BUF.DATA, 22), (CAL_FL_BUF.DATA, 23), (CAL_FL_BUF.DATA, 24), (CAL_FL_BUF.DATA, 25), (CAL_FL_BUF.DATA, 26), (CAL_FL_BUF.DATA, 27), (CAL_FL_BUF.DATA, 28), (CAL_FL_BUF.DATA, 29), (CAL_FL_BUF.DATA, 30), (CAL_FL_BUF.DATA, 31), (CAL_FL_BUF.DATA, 32), (CAL_FL_BUF.DATA, 33), (CAL_FL_BUF.DATA, 34), (CAL_FL_BUF.DATA, 35), (CAL_FL_BUF.DATA, 36), (CAL_FL_BUF.DATA, 37), (CAL_FL_BUF.DATA, 38), (CAL_FL_BUF.DATA, 39), (CAL_FL_BUF.DATA, 40), (CAL_FL_BUF.DATA, 41), (CAL_FL_BUF.DATA, 42), (CAL_FL_BUF.DATA, 43), (CAL_FL_BUF.DATA, 44), (CAL_FL_BUF.DATA, 45), (CAL_FL_BUF.DATA, 46), (CAL_FL_BUF.DATA, 47), (CAL_FL_BUF.DATA, 48), (CAL_FL_BUF.DATA, 49), (CAL_FL_BUF.DATA, 50), (CAL_FL_BUF.DATA, 51), (CAL_FL_BUF.DATA, 52), (CAL_FL_BUF.DATA, 53), (CAL_FL_BUF.DATA, 54), (CAL_FL_BUF.DATA, 55), (CAL_FL_BUF.DATA, 56), (CAL_FL_BUF.DATA, 57), (CAL_FL_BUF.DATA, 58), (CAL_FL_BUF.DATA, 59), (CAL_FL_BUF.DATA, 60), (CAL_FL_BUF.DATA, 61), (CAL_FL_BUF.DATA, 62), (CAL_FL_BUF.DATA, 63)] ∧
      t = { s with chip := { s.chip with regs := t.chip.regs, hostp := t.chip.hostp, cal := t.chip.cal } }) ∧
  (∀ (a : Nat) (s : State),
    s.cal.fl = some (2, a) →
    s.cal.store = none →
    Gives (.flashOpDone false) s fun t =>
      t.rd CAL_FL_STAT.BUSY 0 = 0 ∧ t.rd CAL_FL_STAT.RESULT 0 = 1 ∧
      Raised t pgCal 6 ∧
      t.cal = { s.cal with fl := none } ∧
      t.mem.winB = s.mem.winB ∧ t.mem.af = s.mem.af ∧
      (∀ i : Fin 64, ∀ j : Fin 4, t.flashB (a + 4 * i.val + j.val) = s.flashB (a + 4 * i.val + j.val) &&& bits (s.rd CAL_FL_BUF.DATA i.val) (8 * j.val) 8) ∧
      (∀ x, (x < a ∨ a + 256 ≤ x) → t.flashB x = s.flashB x) ∧
      FieldsKept s t [(CAL_FL_STAT.BUSY, 0), (CAL_FL_STAT.RESULT, 0), (IRQ_STAT.BITS, pgCal)] ∧
      t = { s with mem := t.mem, chip := { s.chip with regs := t.chip.regs, hostp := t.chip.hostp, cal := t.chip.cal } }) ∧
  (∀ (k a : Nat) (s : State),
    s.cal.fl = some (k, a) ∧ (k = 3 ∨ k = 4) →
    s.cal.store = none →
    Gives (.flashOpDone false) s fun t =>
      t.rd CAL_FL_STAT.BUSY 0 = 0 ∧ t.rd CAL_FL_STAT.RESULT 0 = 1 ∧
      Raised t pgCal 6 ∧
      t.cal = { s.cal with fl := none } ∧
      t.mem.winB = s.mem.winB ∧ t.mem.af = s.mem.af ∧
      (∀ x, t.flashB x = (if (flRange k a).1 ≤ x ∧ x < (flRange k a).1 + (flRange k a).2 then 255 else s.flashB x)) ∧
      FieldsKept s t [(CAL_FL_STAT.BUSY, 0), (CAL_FL_STAT.RESULT, 0), (IRQ_STAT.BITS, pgCal)] ∧
      t = { s with mem := t.mem, chip := { s.chip with regs := t.chip.regs, hostp := t.chip.hostp, cal := t.chip.cal } }) ∧
  (∀ (k a : Nat) (s : State),
    s.cal.fl = some (k, a) →
    s.cal.store = none →
    Gives (.flashOpDone true) s fun t =>
      t.rd CAL_FL_STAT.BUSY 0 = 0 ∧ t.rd CAL_FL_STAT.RESULT 0 = 3 ∧
      Raised t pgCal 6 ∧ Raised t pgCal 7 ∧
      t.cal = { s.cal with fl := none } ∧
      t.mem = s.mem ∧
      FieldsKept s t [(CAL_FL_STAT.BUSY, 0), (CAL_FL_STAT.RESULT, 0), (IRQ_STAT.BITS, pgCal)] ∧
      t = { s with chip := { s.chip with regs := t.chip.regs, hostp := t.chip.hostp, cal := t.chip.cal } }) ∧
  (∀ (e : Bool) (s : State),
    s.cal.fl = none ∧ s.cal.store = none →
    Gives (.flashOpDone e) s fun t =>
      t = s) ∧
  (∀ (x : CalStore) (s : State),
    s.cal.fl = none ∧ s.cal.store = some x ∧ x.issued = true →
    Gives (.flashOpDone true) s fun t =>
      t.rd CAL_STAT.STORE_RES 0 = 4 ∧ t.rd CAL_STAT.STORING 0 = 0 ∧
      Raised t pgCal 4 ∧ Raised t pgCal 7 ∧
      Recorded s t 0x08 0 0x1105 ∧
      t.cal = { s.cal with store := none } ∧
      t.mem = s.mem ∧
      FieldsKept s t [(CAL_STAT.STORE_RES, 0), (CAL_STAT.STORING, 0), (CAL_SLOT_STAT.VALID, 0), (CAL_SLOT_STAT.CHECK_OK, 0), (CAL_SLOT_STAT.COMMIT_OK, 0), (CAL_SLOT_GEN.GEN, 0), (CAL_SLOT_GEN.GEN, 1), (IRQ_STAT.BITS, pgCal)] ∧
      t = { s with chip := { s.chip with regs := t.chip.regs, hostp := t.chip.hostp, recs := t.chip.recs, cal := t.chip.cal } }) ∧
  (∀ (x : CalStore) (b : Nat) (s : State),
    s.cal.fl = none ∧ s.cal.store = some x ∧ x.issued = true ∧ s.cal.low = false →
    x.k < x.erases ∧ b = calSlotBase x.slot + 65536 * x.k →
    Gives (.flashOpDone false) s fun t =>
      (∀ y, t.flashB y = (if b ≤ y ∧ y < b + 65536 then 255 else s.flashB y)) ∧
      t.cal = { s.cal with store := some { x with k := x.k + 1, issued := true } } ∧
      (∃ o, t.chip.out = s.chip.out ++ [o]) ∧
      t.mem.winB = s.mem.winB ∧ t.mem.af = s.mem.af ∧
      t = { s with mem := t.mem, chip := { s.chip with cal := t.chip.cal, out := t.chip.out } }) ∧
  (∀ (x : CalStore) (s : State),
    s.cal.fl = none ∧ s.cal.store = some x ∧ x.issued = true →
    x.k = x.erases + x.pages + 3 →
    Gives (.flashOpDone false) s fun t =>
      t.rd CAL_STAT.STORE_RES 0 = 1 ∧ t.rd CAL_STAT.STORING 0 = 0 ∧ t.rd CAL_STAT.IMAGE_PEND 0 = 0 ∧
      Raised t pgCal 3 ∧
      Recorded s t 0x08 0 0x1104 ∧
      t.cal = { s.cal with store := none } ∧
      (∀ y, (y < calSlotBase x.slot + 0xFC ∨ calSlotBase x.slot + 0x100 ≤ y) → t.flashB y = s.flashB y) ∧
      t.flashD (calSlotBase x.slot + 0xFC) = s.flashD (calSlotBase x.slot + 0xFC) &&& 0x3C5AA5C3 ∧
      FieldsKept s t [(CAL_STAT.IMAGE_PEND, 0), (CAL_STAT.STORE_RES, 0), (CAL_STAT.STORING, 0), (CAL_SLOT_STAT.VALID, 0), (CAL_SLOT_STAT.CHECK_OK, 0), (CAL_SLOT_STAT.COMMIT_OK, 0), (CAL_SLOT_GEN.GEN, 0), (CAL_SLOT_GEN.GEN, 1), (IRQ_STAT.BITS, pgCal)] ∧
      t = { s with mem := t.mem, chip := { s.chip with regs := t.chip.regs, hostp := t.chip.hostp, recs := t.chip.recs, cal := t.chip.cal } }) ∧
  (∀ (s : State),
    s.cal.low = false →
    Gives (.vddIoMonitorTrip) s fun t =>
      t.cal = { s.cal with low := true } ∧
      t.rd CAL_SUPPLY.TRIPS 0 = min 0xFFFF (s.rd CAL_SUPPLY.TRIPS 0 + 1) ∧
      FieldsKept s t [(CAL_SUPPLY.TRIPS, 0)] ∧
      t = { s with chip := { s.chip with regs := t.chip.regs, cal := t.chip.cal } }) ∧
  (∀ (s : State),
    s.cal.low = true →
    Gives (.vddIoMonitorTrip) s fun t =>
      t = s) ∧
  (∀ (s : State),
    Gives (.vddIoMonitorRelease) s fun t =>
      t.cal = { s.cal with low := false } ∧
      t = { s with chip := { s.chip with cal := t.chip.cal } }) ∧
  (∀ (w : Wr) (s : State),
    Accepted s w pgCal →
    0xFFFFFFFF ≤ s.storeTarget.2 →
    Gives (.calStore w) s fun t =>
      Refused s t pgCal 1 ∧
      FieldsKept s t [(ERR_CODE.LAST, pgCal), (ERR_CODE.FIRST, pgCal), (ERR_COUNT.COUNT, pgCal), (HOST_STAT.COLLIDE_COUNT, 0)] ∧
      t = { s with chip := { s.chip with regs := t.chip.regs, hostp := t.chip.hostp } }) ∧
  (∀ (w : Wr) (s : State),
    Accepted s w pgCal →
    s.rd CAL_STAT.CAL_STATE 0 ≠ 0 ∧ s.on CAL_STAT.FLASH_OK 0 = true ∧ s.on CAL_STAT.STORING 0 = false ∧ s.storeTarget.2 < 0xFFFFFFFF →
    s.cal.fl = none ∧ s.cal.low = true →
    Gives (.calStore w) s fun t =>
      t.rd CAL_STAT.STORING 0 = 0 ∧ t.rd CAL_STAT.STORE_RES 0 = 3 ∧
      Raised t pgCal 4 ∧
      Recorded s t 0x08 0 0x1105 ∧
      t.cal = { s.cal with store := none } ∧
      FieldsKept s t [(CAL_STAT.STORING, 0), (CAL_STAT.STORE_RES, 0), (CAL_SLOT_STAT.VALID, 0), (CAL_SLOT_STAT.CHECK_OK, 0), (CAL_SLOT_STAT.COMMIT_OK, 0), (CAL_SLOT_GEN.GEN, 0), (CAL_SLOT_GEN.GEN, 1), (IRQ_STAT.BITS, pgCal), (HOST_STAT.COLLIDE_COUNT, 0)] ∧
      t = { s with chip := { s.chip with regs := t.chip.regs, hostp := t.chip.hostp, recs := t.chip.recs, cal := t.chip.cal } }) ∧
  (∀ (w : Wr) (s : State),
    Accepted s w pgCal →
    s.on CAL_STAT.STORING 0 = true ∨ s.on CAL_FL_STAT.BUSY 0 = true →
    Gives (.flRead w) s fun t =>
      Refused s t pgCal 2 ∧
      FieldsKept s t [(ERR_CODE.LAST, pgCal), (ERR_CODE.FIRST, pgCal), (ERR_COUNT.COUNT, pgCal), (HOST_STAT.COLLIDE_COUNT, 0)] ∧
      t = { s with chip := { s.chip with regs := t.chip.regs, hostp := t.chip.hostp } }) ∧
  (∀ (e : Bool) (x : CalStore) (s : State),
    s.cal.fl = none ∧ s.cal.store = some x ∧ x.issued = false →
    Gives (.flashOpDone e) s fun t =>
      t = s) ∧
  (∀ (k a : Nat) (x : CalStore) (o : Nat × Nat × List Nat) (s : State),
    s.cal.fl = some (k, a) →
    s.cal.store = some x ∧ x.issued = false ∧ x.op = some o ∧ (o.1 = 3 ∨ s.cal.low = false) →
    Gives (.flashOpDone true) s fun t =>
      t.rd CAL_FL_STAT.BUSY 0 = 0 ∧ t.rd CAL_FL_STAT.RESULT 0 = 3 ∧
      Raised t pgCal 6 ∧ Raised t pgCal 7 ∧
      t.cal = { s.cal with fl := none, store := some { x with issued := true } } ∧
      t.chip.out = s.chip.out ++ [.flash (flashName o.1) o.2.1 (o.2.2.map (BitVec.ofNat 8))] ∧
      t.mem = s.mem ∧
      FieldsKept s t [(CAL_FL_STAT.BUSY, 0), (CAL_FL_STAT.RESULT, 0), (IRQ_STAT.BITS, pgCal)] ∧
      t = { s with chip := { s.chip with regs := t.chip.regs, hostp := t.chip.hostp, cal := t.chip.cal, out := t.chip.out } }) ∧
  (∀ (a : Nat) (x : CalStore) (o : Nat × Nat × List Nat) (s : State),
    s.cal.fl = some (1, a) →
    s.cal.store = some x ∧ x.issued = false ∧ x.op = some o ∧ (o.1 = 3 ∨ s.cal.low = false) →
    Gives (.flashOpDone false) s fun t =>
      t.rd CAL_FL_STAT.BUSY 0 = 0 ∧ t.rd CAL_FL_STAT.RESULT 0 = 1 ∧
      Raised t pgCal 6 ∧
      t.cal = { s.cal with fl := none, store := some { x with issued := true } } ∧
      t.chip.out = s.chip.out ++ [.flash (flashName o.1) o.2.1 (o.2.2.map (BitVec.ofNat 8))] ∧
      t.mem = s.mem ∧
      (∀ i : Fin 64, t.rd CAL_FL_BUF.DATA i.val = s.flashD (a + 4 * i.val))) ∧
  (∀ (x : CalStore) (a : Nat) (bs : List Nat) (s : State),
    s.cal.fl = none ∧ s.cal.store = some x ∧ x.issued = true ∧ s.cal.low = false →
    x.op = some (2, a, bs) ∧ x.k < x.erases + x.pages + 3 →
    Gives (.flashOpDone false) s fun t =>
      (∀ y, t.flashB y = (if a ≤ y ∧ y < a + bs.length then s.flashB y &&& (bs[y - a]?).getD 0 else s.flashB y)) ∧
      t.cal = { s.cal with store := some { x with k := x.k + 1, issued := true } } ∧
      (t.chip.out = s.chip.out ++ (({ x with k := x.k + 1 } : CalStore).op.map fun o => Out.flash (flashName o.1) o.2.1 (o.2.2.map (BitVec.ofNat 8))).toList) ∧
      t.mem.winB = s.mem.winB ∧ t.mem.af = s.mem.af ∧
      t = { s with mem := t.mem, chip := { s.chip with cal := t.chip.cal, out := t.chip.out } }) ∧
  (∀ (x : CalStore) (a : Nat) (bs : List Nat) (s : State),
    s.cal.fl = none ∧ s.cal.store = some x ∧ x.issued = true ∧ s.cal.low = true →
    x.op = some (2, a, bs) ∧ x.k < x.erases + x.pages + 1 →
    Gives (.flashOpDone false) s fun t =>
      (∀ y, t.flashB y = (if a ≤ y ∧ y < a + bs.length then s.flashB y &&& (bs[y - a]?).getD 0 else s.flashB y)) ∧
      t.rd CAL_STAT.STORE_RES 0 = 3 ∧ t.rd CAL_STAT.STORING 0 = 0 ∧
      Raised t pgCal 4 ∧
      Recorded s t 0x08 0 0x1105 ∧
      t.cal = { s.cal with store := none } ∧
      FieldsKept s t [(CAL_STAT.STORE_RES, 0), (CAL_STAT.STORING, 0), (CAL_SLOT_STAT.VALID, 0), (CAL_SLOT_STAT.CHECK_OK, 0), (CAL_SLOT_STAT.COMMIT_OK, 0), (CAL_SLOT_GEN.GEN, 0), (CAL_SLOT_GEN.GEN, 1), (IRQ_STAT.BITS, pgCal)] ∧
      t = { s with mem := t.mem, chip := { s.chip with regs := t.chip.regs, hostp := t.chip.hostp, recs := t.chip.recs, cal := t.chip.cal } }) ∧
  (∀ (x : CalStore) (a : Nat) (s : State),
    s.cal.fl = none ∧ s.cal.store = some x ∧ x.issued = true ∧ s.cal.low = false →
    x.op = some (3, a, []) →
    Gives (.flashOpDone false) s fun t =>
      (crc32c (s.flashBytes a 0xF8 ++ s.flashBytes (a + 0x100) x.payload.length) = x.check → t.cal = { s.cal with store := some { x with k := x.k + 1, issued := true } } ∧
        t.chip.out = s.chip.out ++ [.flash "PROGRAM" (calSlotBase x.slot + 0xFC) ((leBytes 4 0x3C5AA5C3).map (BitVec.ofNat 8))] ∧ t.chip.regs = s.chip.regs) ∧
      (crc32c (s.flashBytes a 0xF8 ++ s.flashBytes (a + 0x100) x.payload.length) ≠ x.check → t.rd CAL_STAT.STORE_RES 0 = 2 ∧ t.rd CAL_STAT.STORING 0 = 0 ∧ Raised t pgCal 4 ∧
        Recorded s t 0x08 0 0x1105 ∧ t.cal = { s.cal with store := none } ∧ t.chip.out = s.chip.out) ∧
      t.mem = s.mem ∧
      FieldsKept s t [(CAL_STAT.STORE_RES, 0), (CAL_STAT.STORING, 0), (CAL_SLOT_STAT.VALID, 0), (CAL_SLOT_STAT.CHECK_OK, 0), (CAL_SLOT_STAT.COMMIT_OK, 0), (CAL_SLOT_GEN.GEN, 0), (CAL_SLOT_GEN.GEN, 1), (IRQ_STAT.BITS, pgCal)] ∧
      t = { s with chip := { s.chip with regs := t.chip.regs, hostp := t.chip.hostp, recs := t.chip.recs, cal := t.chip.cal, out := t.chip.out } })

/-- The plans of the margin engine. Every PERIOD_MIN minutes a plan starts, or is counted as skipped while one runs; REPLAN starts one, and no periods of 0 or above 1440 minutes nor a REPLAN of a running plan is accepted; a completed plan counts itself, publishes its tick, raises its event and has its records: it plans every powered island by R462, with the target at the lowest voltage that passes, else the highest frequency that passes at 850 mV, else 800 MHz at 850 mV, which it tells and records, pushes the slack on the history of at most 64, gives projection and headroom, and requests the point unless an override or SAFE holds; an island whose plan differs from the point before is recorded; the lowest projection is shown and, once below its limit, raised; a drift or an eye that newly passes its limit is flagged. Where the rules leave room the clauses state the model's readings (log entries 3, 31, 32 and 34) -/
def Obligations.MarginPlans : Prop :=
  (∀ (s : State),
    s.on LUS_CTRL.EN 0 = true ∧ s.planDue ≤ s.epoch ∧ s.on LUS_STAT.BUSY 0 = false →
    Gives (.lusPlanTimer) s fun t =>
      t.lustre = { s.lustre with next := some (s.planDue + 30000000000 * s.rd LUS_CTRL.PERIOD_MIN 0), start := some s.epoch } ∧
      t.rd LUS_STAT.BUSY 0 = 1 ∧
      FieldsKept s t [(LUS_STAT.BUSY, 0)] ∧
      t = { s with chip := { s.chip with regs := t.chip.regs, lustre := t.chip.lustre } }) ∧
  (∀ (s : State),
    s.on LUS_CTRL.EN 0 = true ∧ s.planDue ≤ s.epoch ∧ s.on LUS_STAT.BUSY 0 = true →
    Gives (.lusPlanTimer) s fun t =>
      t.lustre = { s.lustre with next := some (s.planDue + 30000000000 * s.rd LUS_CTRL.PERIOD_MIN 0) } ∧
      t.rd LUS_STAT.SKIPPED 0 = min 0xFF (s.rd LUS_STAT.SKIPPED 0 + 1) ∧
      FieldsKept s t [(LUS_STAT.SKIPPED, 0)] ∧
      t = { s with chip := { s.chip with regs := t.chip.regs, lustre := t.chip.lustre } }) ∧
  (∀ (s : State),
    s.on LUS_CTRL.EN 0 = false ∨ s.epoch < s.planDue →
    Gives (.lusPlanTimer) s fun t =>
      t = s) ∧
  (∀ (w : Wr) (s : State),
    Accepted s w pgLus →
    1 ≤ bits w.val.toNat 0 11 ∧ bits w.val.toNat 0 11 ≤ 1440 ∧ s.on LUS_STAT.BUSY 0 = false →
    Gives (.lusReplan w) s fun t =>
      t.rd LUS_CTRL.PERIOD_MIN 0 = bits w.val.toNat 0 11 ∧ t.rd LUS_CTRL.EN 0 = bits w.val.toNat 31 1 ∧ t.rd LUS_STAT.BUSY 0 = 1 ∧
      t.lustre.start = some s.epoch ∧
      (t.lustre.next = (if bit w.val.toNat 31 ∧ s.on LUS_CTRL.EN 0 = false then some (s.epoch + 30000000000 * bits w.val.toNat 0 11) else s.lustre.next)) ∧
      t.lustre.slack = s.lustre.slack ∧
      FieldsKept s t [(LUS_CTRL.EN, 0), (LUS_CTRL.PERIOD_MIN, 0), (LUS_STAT.BUSY, 0), (HOST_STAT.COLLIDE_COUNT, 0)] ∧
      t = { s with chip := { s.chip with regs := t.chip.regs, hostp := t.chip.hostp, lustre := t.chip.lustre } }) ∧
  (∀ (w : Wr) (s : State),
    Accepted s w pgLus →
    bits w.val.toNat 0 11 < 1 ∨ 1440 < bits w.val.toNat 0 11 →
    Gives (.lusReplan w) s fun t =>
      Refused s t pgLus 1 ∧
      FieldsKept s t [(ERR_CODE.LAST, pgLus), (ERR_CODE.FIRST, pgLus), (ERR_COUNT.COUNT, pgLus), (HOST_STAT.COLLIDE_COUNT, 0)] ∧
      t = { s with chip := { s.chip with regs := t.chip.regs, hostp := t.chip.hostp } }) ∧
  (∀ (w : Wr) (s : State),
    Accepted s w pgLus →
    1 ≤ bits w.val.toNat 0 11 ∧ bits w.val.toNat 0 11 ≤ 1440 ∧ s.on LUS_STAT.BUSY 0 = true →
    Gives (.lusReplan w) s fun t =>
      Refused s t pgLus 2 ∧
      FieldsKept s t [(ERR_CODE.LAST, pgLus), (ERR_CODE.FIRST, pgLus), (ERR_COUNT.COUNT, pgLus), (HOST_STAT.COLLIDE_COUNT, 0)] ∧
      t = { s with chip := { s.chip with regs := t.chip.regs, hostp := t.chip.hostp } }) ∧
  (∀ (a d : List Nat) (x : Nat) (s : State),
    s.lustre.start = some x →
    Gives (.lusPlanComplete a d) s fun t =>
      t.lustre.start = none ∧
      t.rd LUS_STAT.BUSY 0 = 0 ∧ t.rd LUS_STAT.PLANS 0 = (s.rd LUS_STAT.PLANS 0 + 1) % 2 ^ 16 ∧
      t.rd LUS_LAST.TICK 0 = x % 2 ^ 32 ∧ t.rd LUS_LAST.TICK 1 = x / 2 ^ 32 % 2 ^ 32 ∧
      Raised t pgLus 0 ∧
      (∃ r ∈ t.recs, r.cls = 9 ∧ r.index = 0 ∧ r.code = 0x1201) ∧
      t.mem = s.mem ∧
      t = { s with chip := { s.chip with regs := t.chip.regs, hostp := t.chip.hostp, recs := t.chip.recs, lustre := t.chip.lustre, isl := t.chip.isl, rail := t.chip.rail, out := t.chip.out } }) ∧
  (∀ (a d : List Nat) (s : State),
    s.lustre.start = none →
    Gives (.lusPlanComplete a d) s fun t =>
      t = s) ∧
  ((∀ (s : State) (n : Fin 34) (age dly : Nat),
        let now := s.stopVolt n.val; let g := s.rd LUS_CFG.GUARD_PS 0; let tgt := s.rd LUS_ISL_CFG.F_TGT n.val; let t := s.planIsland n.val age dly
        (s.domOn (stopDomain n.val) = true →
          t.rd LUS_ISL_MARGIN.AGE n.val = min 0xFFF age ∧
          t.rd LUS_ISL_PROJ.PROJ_H n.val = projH g (s.lustre.start.getD s.epoch) (((s.lustre.start.getD s.epoch, slackMin dly now) :: Sparse.get [] s.lustre.slack n.val).take 64) % 2 ^ 32 ∧
          t.lustre.slack = Sparse.put [] s.lustre.slack n.val (((s.lustre.start.getD s.epoch, slackMin dly now) :: Sparse.get [] s.lustre.slack n.val).take 64) ∧
          t.rd LUS_ISL_PLAN.F_MHZ n.val = (planOf (n.val == 0) dly now g tgt).1 % 2 ^ 11 ∧
          t.rd LUS_ISL_PLAN.V_MV n.val = (planOf (n.val == 0) dly now g tgt).2.1 % 2 ^ 10) ∧
        (s.domOn (stopDomain n.val) = false → t = s))) ∧
  ((∀ dly now g tgt : Nat,
        (∀ v, stepOne dly now g tgt = some v ↔ (passes dly now g tgt v = true ∧ ∃ k, k ≤ 30 ∧ v = 700 + 5 * k ∧ ∀ j, j < k → passes dly now g tgt (700 + 5 * j) = false)) ∧
        (stepOne dly now g tgt = none → ∀ f, stepTwo dly now g tgt = some f ↔
          (f < tgt ∧ passes dly now g f 850 = true ∧ (∃ k, k ≤ 49 ∧ f = 800 + 10 * k ∧ ∀ j, k < j → j ≤ 49 → 800 + 10 * j < tgt → passes dly now g (800 + 10 * j) 850 = false))) ∧
        (stepOne dly now g tgt = none → stepTwo dly now g tgt = none → planOf false dly now g tgt = (800, 850, 3)))) ∧
  ((∀ (s : State) (n : Fin 34) (age dly : Nat), s.domOn (stopDomain n.val) = true →
        let pl := planOf (n.val == 0) dly (s.stopVolt n.val) (s.rd LUS_CFG.GUARD_PS 0) (s.rd LUS_ISL_CFG.F_TGT n.val); let t := s.planIsland n.val age dly
        t.rd LUS_ISL_MARGIN.HEADROOM n.val = (if pl.2.2 = 1 then (850 - pl.2.1) % 2 ^ 8 else 0) ∧
        t.rd LUS_ISL_MARGIN.SLACK_MIN n.val = unsigned 12 (satInt 12 (slackMin dly (s.stopVolt n.val))) ∧
        (pl.2.2 ≠ 1 → Raised t pgLus 1) ∧
        (pl.2.2 = 3 → ∃ r ∈ t.recs, r.cls = 9 ∧ r.index = n.val ∧ r.code = 0x1202) ∧
        (n.val ≠ 0 → s.safeHolds = false → s.rdI FCT_CLK_STAT.OVR_ACTIVE AF_CLK_STAT.OVR_ACTIVE (stopIsl n.val) = 0 →
          t.chip.isl = (s.requestPoint (stopIsl n.val) pl.1 pl.2.1).chip.isl ∧ t.chip.out = (s.requestPoint (stopIsl n.val) pl.1 pl.2.1).chip.out) ∧
        (n.val = 0 → s.safeHolds = false → (s.rail 9).mv ≠ pl.2.1 → 5 ≤ s.dev → t.rail 9 = { mv := pl.2.1, wait := some s.tb } ∧ t.chip.out = s.chip.out ++ [.avs 9 pl.2.1]) ∧
        (s.safeHolds = true → t.chip.out = s.chip.out ∧ t.chip.rail = s.chip.rail ∧ t.chip.isl = s.chip.isl))) ∧
  ((∀ (s : State) (n : Fin 34) (age : Nat) (old : Nat × Nat),
        let new := (s.rd LUS_ISL_PLAN.F_MHZ n.val, s.rd LUS_ISL_PLAN.V_MV n.val); let t := s.planRecord n.val age old
        (n.val = 0 ∨ old = new ∨ s.domOn (stopDomain n.val) = false → t = s) ∧
        (n.val ≠ 0 → old ≠ new → s.domOn (stopDomain n.val) = true →
          t = { s with chip := { s.chip with recs := (s.jrn 0x09 n.val 0x1206 [.word (old.1 * 65536 + old.2), .word (new.1 * 65536 + new.2), .word age]).recs } }))) ∧
  ((∀ (s : State) (h : Nat), (∃ n : Fin 34, s.rd LUS_ISL_PROJ.PROJ_H n.val = h) → (∀ n : Fin 34, h ≤ s.rd LUS_ISL_PROJ.PROJ_H n.val) → h < 0xFFFFFFFF →
        let t := s.planProj
        t.rd LUS_PROJ_MIN.PROJ_H 0 = min h 0xFFFFFF ∧ s.rd LUS_ISL_PROJ.PROJ_H (t.rd LUS_PROJ_MIN.ISLAND 0) = h ∧
        (h < s.rd LUS_PROJ_WARN.PROJ_WARN_H 0 → t.lustre.projTold = true ∧ (s.lustre.projTold = false → Raised t pgLus 4)) ∧
        (s.rd LUS_PROJ_WARN.PROJ_WARN_H 0 ≤ h → t.lustre.projTold = false) ∧
        FieldsKept s t [(LUS_PROJ_MIN.PROJ_H, 0), (LUS_PROJ_MIN.ISLAND, 0), (IRQ_STAT.BITS, pgLus)])) ∧
  ((∀ s : State, let t := s.planFlags
        (∀ d : Fin 64, t.lustre.drifts.contains d.val = decide (s.rd LUS_CFG.DRIFT_LIM 0 < (signed 32 (s.rd LOUPE_CH_DRIFT.DRIFT d.val)).natAbs)) ∧
        (∀ l : Fin 256, t.lustre.eyes.contains l.val = (s.laneState l.val == 5 && decide (s.rd LANE_EYE.HEIGHT l.val < s.rd LUS_CFG.EYE_WARN 0))) ∧
        ((∃ d : Fin 64, s.rd LUS_CFG.DRIFT_LIM 0 < (signed 32 (s.rd LOUPE_CH_DRIFT.DRIFT d.val)).natAbs ∧ s.lustre.drifts.contains d.val = false) → Raised t pgLus 3) ∧
        ((∃ l : Fin 256, s.laneState l.val = 5 ∧ s.rd LANE_EYE.HEIGHT l.val < s.rd LUS_CFG.EYE_WARN 0 ∧ s.lustre.eyes.contains l.val = false) → Raised t pgLus 2) ∧
        FieldsKept s t [(LUS_FLAG.KIND, 0), (LUS_FLAG.INDEX, 0), (IRQ_STAT.BITS, pgLus)]))

/-- The cascade ports and enumeration. A port in DOWN with its conditions met enters TRAIN, trains into SERVICE with a STATUS message, a slave in HOLDOVER taking the link as its hold source, or times out for 10 ms, and goes DOWN with squelch or back to TRAIN by a write or with 16 bad headers in 64, which is counted and told, empties its queue with its FAR messages counted lost, ends a skew run, and has the effects of casOut: the master forgets whom it reached, a slave notes the time, loses its alignment when its TPLL is not LOCKED, and no longer follows the link; a block carries the first FAR message, else the first HEALTH, else the first TUN, a JRN block going at least once in 16, and the second half of a record frees its place; frames go out every 100 us with the next address; a good frame tells a master of a conflict, and two equal frames give or change a slave's address, or take it away for a chain too long; under other conditions nothing happens. Where the rules leave room the clauses state the model's readings (log entries 3 and 39) -/
def Obligations.CascadePorts : Prop :=
  (∀ (d : Bool) (s : State),
    s.portState d = 0 ∧ (s.portEnabled d && s.on CAS_STAT.ADDR_VALID 0 && s.casPll) = true ∧ (s.casPort (portNo d)).notBefore ≤ s.tb →
    Gives (.casPortDetect d) s fun t =>
      t.portState d = 1 ∧
      t.casPort (portNo d) = { s.casPort (portNo d) with since := s.tb, hdrs0 := [], hdrs1 := [] } ∧
      Others s.casPort t.casPort (portNo d) ∧
      FieldsKept s t [(casState d, 0)] ∧
      t = { s with chip := { s.chip with regs := t.chip.regs, casPort := t.chip.casPort } }) ∧
  (∀ (d : Bool) (s : State),
    s.portState d ≠ 0 ∨ (s.portEnabled d && s.on CAS_STAT.ADDR_VALID 0 && s.casPll) = false ∨ s.tb < (s.casPort (portNo d)).notBefore →
    Gives (.casPortDetect d) s fun t =>
      t = s) ∧
  (∀ (d : Bool) (s : State),
    s.portState d = 1 ∧ (d = true ∨ s.tpllState ≠ 2 ∨ s.master = true) →
    Gives (.casPortTrained d) s fun t =>
      t.portState d = 2 ∧
      t.casPort (portNo d) = { s.casPort (portNo d) with since := s.tb, hdrs0 := [], hdrs1 := [], queue := (s.casPort (portNo d)).queue ++ [(3, s.ownStatus)] } ∧
      Others s.casPort t.casPort (portNo d) ∧
      (t.cas = if d then s.cas else { s.cas with outAt := none }) ∧
      Raised t pgCas 2 ∧
      FieldsKept s t [(casState d, 0), (IRQ_STAT.BITS, pgCas)] ∧
      t = { s with chip := { s.chip with regs := t.chip.regs, hostp := t.chip.hostp, casPort := t.chip.casPort, cas := t.chip.cas } }) ∧
  (∀ (s : State),
    s.portState false = 1 ∧ s.tpllState = 2 ∧ s.master = false →
    Gives (.casPortTrained false) s fun t =>
      t.portState false = 2 ∧
      t.casPort 0 = { s.casPort 0 with since := s.tb, hdrs0 := [], hdrs1 := [], queue := (s.casPort 0).queue ++ [(3, s.ownStatus)] } ∧
      Others s.casPort t.casPort 0 ∧
      t.cas = { s.cas with outAt := none } ∧
      t.tpll = { s.tpll with follow := true, ratio := none } ∧
      Raised t pgCas 2 ∧
      FieldsKept s t [(CAS_STAT.UP_STATE, 0), (IRQ_STAT.BITS, pgCas)] ∧
      t = { s with chip := { s.chip with regs := t.chip.regs, hostp := t.chip.hostp, casPort := t.chip.casPort, cas := t.chip.cas, tpll := t.chip.tpll } }) ∧
  (∀ (d : Bool) (s : State),
    s.portState d ≠ 1 →
    Gives (.casPortTrained d) s fun t =>
      t = s) ∧
  (∀ (d : Bool) (s : State),
    s.portState d = 1 ∧ (s.casPort (portNo d)).since + 5000000 ≤ s.tb →
    Gives (.casTrainTimeout d) s fun t =>
      t.portState d = 0 ∧
      t.casPort (portNo d) = { s.casPort (portNo d) with since := s.tb, hdrs0 := [], hdrs1 := [], notBefore := s.tb + 5000000 } ∧
      Others s.casPort t.casPort (portNo d) ∧
      FieldsKept s t [(casState d, 0)] ∧
      t = { s with chip := { s.chip with regs := t.chip.regs, casPort := t.chip.casPort } }) ∧
  (∀ (d : Bool) (s : State),
    s.portState d ≠ 1 ∨ s.tb < (s.casPort (portNo d)).since + 5000000 →
    Gives (.casTrainTimeout d) s fun t =>
      t = s) ∧
  (∀ (d : Bool) (s : State),
    s.portState d = 1 →
    Gives (.casSquelchTimeout d) s fun t =>
      t.portState d = 0 ∧
      t.casPort (portNo d) = { s.casPort (portNo d) with since := s.tb, hdrs0 := [], hdrs1 := [] } ∧
      Others s.casPort t.casPort (portNo d) ∧
      FieldsKept s t [(casState d, 0)] ∧
      t = { s with chip := { s.chip with regs := t.chip.regs, casPort := t.chip.casPort } }) ∧
  (∀ (d : Bool) (s : State),
    s.portState d = 2 →
    Gives (.casSquelchTimeout d) s fun t =>
      ∃ u : State,
        (u = ((((s.wr (casState d) 0 0).modCasPort (portNo d) fun c => { c with since := s.tb, hdrs0 := [], hdrs1 := [] }).inc (casExits d) 0).casFlush d).skewFail.casOut d) ∧
        t = u.raise pgCas (flag d)) ∧
  (∀ (d : Bool) (s : State),
    s.portState d = 0 →
    Gives (.casSquelchTimeout d) s fun t =>
      t = s) ∧
  (∀ (s : State),
    s.portState true = 2 →
    s.cal.run = none ∧ (s.casPort 1).queue.filter (fun m => m.1 == 1) = [] →
    s.master = false →
    Gives (.casSquelchTimeout true) s fun t =>
      t.portState true = 0 ∧
      t.casPort 1 = { s.casPort 1 with queue := [], half := false, named := false, noJrn := 0, since := s.tb, hdrs0 := [], hdrs1 := [] } ∧
      Others s.casPort t.casPort 1 ∧
      t.rd CAS_LINK.DN_DOWNS 0 = min 0xFFFF (s.rd CAS_LINK.DN_DOWNS 0 + 1) ∧
      Raised t pgCas 1 ∧
      FieldsKept s t [(CAS_STAT.DN_STATE, 0), (CAS_LINK.DN_DOWNS, 0), (IRQ_STAT.BITS, pgCas)] ∧
      t = { s with chip := { s.chip with regs := t.chip.regs, hostp := t.chip.hostp, casPort := t.chip.casPort } }) ∧
  (∀ (s : State),
    s.portState true = 2 →
    s.cal.run = none ∧ (s.casPort 1).queue.filter (fun m => m.1 == 1) = [] →
    s.master = true →
    Gives (.casSquelchTimeout true) s fun t =>
      t.portState true = 0 ∧
      t.casPort 1 = { s.casPort 1 with queue := [], half := false, named := false, noJrn := 0, since := s.tb, hdrs0 := [], hdrs1 := [] } ∧
      Others s.casPort t.casPort 1 ∧
      t.rd CAS_LINK.DN_DOWNS 0 = min 0xFFFF (s.rd CAS_LINK.DN_DOWNS 0 + 1) ∧
      Raised t pgCas 1 ∧
      t.cas = { s.cas with heard := 0, heardWas := 0 } ∧
      t.rd CAS_REACH.REACH 0 = 1 ∧ t.rd CAS_STAT.CHAIN_LEN 0 = 1 ∧
      FieldsKept s t [(CAS_STAT.DN_STATE, 0), (CAS_LINK.DN_DOWNS, 0), (IRQ_STAT.BITS, pgCas), (CAS_REACH.REACH, 0), (CAS_STAT.CHAIN_LEN, 0)] ∧
      t = { s with chip := { s.chip with regs := t.chip.regs, hostp := t.chip.hostp, casPort := t.chip.casPort, cas := t.chip.cas } }) ∧
  (∀ (s : State),
    s.portState false = 2 →
    s.cal.run = none ∧ (s.casPort 0).queue.filter (fun m => m.1 == 1) = [] →
    s.on CAS_STAT.ALIGNED 0 = false ∧ s.tpll.follow = false →
    Gives (.casSquelchTimeout false) s fun t =>
      t.portState false = 0 ∧
      t.casPort 0 = { s.casPort 0 with queue := [], half := false, named := false, noJrn := 0, since := s.tb, hdrs0 := [], hdrs1 := [] } ∧
      Others s.casPort t.casPort 0 ∧
      t.rd CAS_LINK.UP_DOWNS 0 = min 0xFFFF (s.rd CAS_LINK.UP_DOWNS 0 + 1) ∧
      Raised t pgCas 0 ∧
      t.cas = { s.cas with outAt := some s.tb } ∧
      FieldsKept s t [(CAS_STAT.UP_STATE, 0), (CAS_LINK.UP_DOWNS, 0), (IRQ_STAT.BITS, pgCas)] ∧
      t = { s with chip := { s.chip with regs := t.chip.regs, hostp := t.chip.hostp, casPort := t.chip.casPort, cas := t.chip.cas } }) ∧
  (∀ (w : Wr) (s : State),
    Accepted s w pgCas →
    bits (w.val ||| 4).toNat 0 4 = 4 →
    s.portState false = 2 →
    s.cal.run = none ∧ (s.casPort 0).queue.filter (fun m => m.1 == 1) = [] →
    s.on CAS_STAT.ALIGNED 0 = false ∧ s.tpll.follow = false →
    Gives (.casRetrainUp w) s fun t =>
      t.portState false = 1 ∧
      t.casPort 0 = { s.casPort 0 with queue := [], half := false, named := false, noJrn := 0, since := s.tb, hdrs0 := [], hdrs1 := [] } ∧
      Others s.casPort t.casPort 0 ∧
      t.rd CAS_LINK.UP_DOWNS 0 = min 0xFFFF (s.rd CAS_LINK.UP_DOWNS 0 + 1) ∧
      Raised t pgCas 0 ∧
      t.cas = { s.cas with outAt := some s.tb } ∧
      FieldsKept s t [(CAS_STAT.UP_STATE, 0), (CAS_LINK.UP_DOWNS, 0), (IRQ_STAT.BITS, pgCas), (HOST_STAT.COLLIDE_COUNT, 0)] ∧
      t = { s with chip := { s.chip with regs := t.chip.regs, hostp := t.chip.hostp, casPort := t.chip.casPort, cas := t.chip.cas } }) ∧
  (∀ (w : Wr) (s : State),
    Accepted s w pgCas →
    bits (w.val ||| 8).toNat 0 4 = 8 →
    s.portState true = 2 →
    s.cal.run = none ∧ (s.casPort 1).queue.filter (fun m => m.1 == 1) = [] →
    s.master = false →
    Gives (.casRetrainDn w) s fun t =>
      t.portState true = 1 ∧
      t.casPort 1 = { s.casPort 1 with queue := [], half := false, named := false, noJrn := 0, since := s.tb, hdrs0 := [], hdrs1 := [] } ∧
      Others s.casPort t.casPort 1 ∧
      t.rd CAS_LINK.DN_DOWNS 0 = min 0xFFFF (s.rd CAS_LINK.DN_DOWNS 0 + 1) ∧
      Raised t pgCas 1 ∧
      FieldsKept s t [(CAS_STAT.DN_STATE, 0), (CAS_LINK.DN_DOWNS, 0), (IRQ_STAT.BITS, pgCas), (HOST_STAT.COLLIDE_COUNT, 0)] ∧
      t = { s with chip := { s.chip with regs := t.chip.regs, hostp := t.chip.hostp, casPort := t.chip.casPort } }) ∧
  (∀ (w : Wr) (s : State),
    Accepted s w pgCas →
    bits (w.val ||| 8).toNat 0 4 = 8 →
    s.portState true = 2 →
    s.cal.run = none ∧ (s.casPort 1).queue.filter (fun m => m.1 == 1) = [] →
    s.master = true →
    Gives (.casRetrainDn w) s fun t =>
      t.portState true = 1 ∧
      t.casPort 1 = { s.casPort 1 with queue := [], half := false, named := false, noJrn := 0, since := s.tb, hdrs0 := [], hdrs1 := [] } ∧
      Others s.casPort t.casPort 1 ∧
      t.rd CAS_LINK.DN_DOWNS 0 = min 0xFFFF (s.rd CAS_LINK.DN_DOWNS 0 + 1) ∧
      Raised t pgCas 1 ∧
      t.cas = { s.cas with heard := 0, heardWas := 0 } ∧
      t.rd CAS_REACH.REACH 0 = 1 ∧ t.rd CAS_STAT.CHAIN_LEN 0 = 1 ∧
      FieldsKept s t [(CAS_STAT.DN_STATE, 0), (CAS_LINK.DN_DOWNS, 0), (IRQ_STAT.BITS, pgCas), (CAS_REACH.REACH, 0), (CAS_STAT.CHAIN_LEN, 0), (HOST_STAT.COLLIDE_COUNT, 0)] ∧
      t = { s with chip := { s.chip with regs := t.chip.regs, hostp := t.chip.hostp, casPort := t.chip.casPort, cas := t.chip.cas } }) ∧
  (∀ (w : Wr) (s : State),
    Accepted s w pgCas →
    bit w.val.toNat 0 = false →
    Gives (.casRetrainUp w) s fun t =>
      (t = (if bit (w.val ||| 4).toNat 3 then ((s.collide w.req 0x7044).casRetrain false).casRetrain true else (s.collide w.req 0x7044).casRetrain false))) ∧
  (∀ (w : Wr) (s : State),
    Accepted s w pgCas →
    bit w.val.toNat 0 = false →
    Gives (.casRetrainDn w) s fun t =>
      (t = (if bit (w.val ||| 8).toNat 2 then ((s.collide w.req 0x7044).casRetrain false).casRetrain true else (s.collide w.req 0x7044).casRetrain true))) ∧
  ((∀ (s : State) (d : Bool), (s.portState d ≠ 2 → s.casRetrain d = s) ∧
        (s.portState d = 2 → ∃ u : State, u = ((((s.wr (casState d) 0 1).modCasPort (portNo d) fun c => { c with since := s.tb, hdrs0 := [], hdrs1 := [] }).inc (casExits d) 0).casFlush d).skewFail.casOut d ∧
          s.casRetrain d = u.raise pgCas (flag d)))) ∧
  ((∀ (s : State) (d : Bool), let n := ((s.casPort (portNo d)).queue.filter fun m => m.1 == 1).length; let t := s.casFlush d
        t.casPort (portNo d) = { s.casPort (portNo d) with queue := [], half := false, named := false, noJrn := 0 } ∧ Others s.casPort t.casPort (portNo d) ∧
        (0 < n → t.rd CAS_FF.FF_LOST 0 = min 0xFFFF (s.rd CAS_FF.FF_LOST 0 + n) ∧ Raised t pgCas 10) ∧
        (n = 0 → t.chip.regs = s.chip.regs ∧ t.chip.hostp = s.chip.hostp) ∧
        FieldsKept s t [(CAS_FF.FF_LOST, 0), (IRQ_STAT.BITS, pgCas)] ∧
        t = { s with chip := { s.chip with regs := t.chip.regs, hostp := t.chip.hostp, casPort := t.chip.casPort } })) ∧
  ((∀ s : State, (s.master = false → s.casOut true = s) ∧
        (s.master = true → (s.casOut true).cas = { s.cas with heard := 0, heardWas := 0 } ∧ (s.casOut true).rd CAS_REACH.REACH 0 = 1 ∧
          (s.casOut true).rd CAS_STAT.CHAIN_LEN 0 = 1 ∧ FieldsKept s (s.casOut true) [(CAS_REACH.REACH, 0), (CAS_STAT.CHAIN_LEN, 0)]) ∧
        (s.tpllState = 1 → s.casOut false = (s.modCas fun c => { c with outAt := some s.tb }).unfollow) ∧
        (s.tpllState ≠ 1 → s.casOut false = (s.modCas fun c => { c with outAt := some s.tb }).loseAlign.unfollow))) ∧
  ((∀ s : State, (s.on CAS_STAT.ALIGNED 0 = false → s.loseAlign = s) ∧
        (s.on CAS_STAT.ALIGNED 0 = true → let t := s.loseAlign
          t.rd CAS_STAT.ALIGNED 0 = 0 ∧ t.cas = { s.cas with exceeded := 0 } ∧
          (s.rd TB_STAT.EPOCH_STATE 0 = 1 → t.rd TB_STAT.EPOCH_STATE 0 = 2 ∧ t.rd TB_STAT.UNC_COUNT 0 = min TB_STAT.UNC_COUNT.max (s.rd TB_STAT.UNC_COUNT 0 + 1) ∧ Raised t pgTb 1) ∧
          (∃ r ∈ t.recs, r.cls = 0x0D ∧ r.index = s.ownAddr ∧ r.code = 0x130E) ∧
          FieldsKept s t [(CAS_STAT.ALIGNED, 0), (TB_STAT.EPOCH_STATE, 0), (TB_STAT.UNC_COUNT, 0), (IRQ_STAT.BITS, pgTb)] ∧
          t = { s with chip := { s.chip with regs := t.chip.regs, hostp := t.chip.hostp, recs := t.chip.recs, prodq := t.chip.prodq, cas := t.chip.cas } }) ∧
        (s.tpll.follow = false → s.unfollow = s) ∧
        (s.tpll.follow = true → (s.tpllState ≠ 2 ∨ s.on TPLL_STAT.REF_OK 0 = false) → s.unfollow = s.modTpll fun p => { p with follow := false }) ∧
        (s.tpll.follow = true → s.tpllState = 2 → s.on TPLL_STAT.REF_OK 0 = true →
          s.unfollow = (s.modTpll fun p => { p with follow := false }).refReturn (s.reduceJ (s.tpll.res / 5000))))) ∧
  (∀ (l : Fin 260) (hdr : BitVec 4) (payload : BitVec 128) (s : State),
    256 ≤ l.val ∧ s.portState (decide (258 ≤ l.val)) ≠ 2 →
    Gives (.inboundBlock l hdr payload) s fun t =>
      t = s) ∧
  (∀ (l : Fin 260) (hdr : BitVec 4) (payload : BitVec 128) (s : State),
    256 ≤ l.val ∧ s.portState (decide (258 ≤ l.val)) = 2 ∧ (((headerBad hdr.toNat :: (if l.val % 2 = 0 then (s.casPort (portNo (decide (258 ≤ l.val)))).hdrs0 else (s.casPort (portNo (decide (258 ≤ l.val)))).hdrs1)).take 64).filter id).length < 16 →
    Gives (.inboundBlock l hdr payload) s fun t =>
      (t.casPort (portNo (decide (258 ≤ l.val))) = (if l.val % 2 = 0 then { s.casPort (portNo (decide (258 ≤ l.val))) with hdrs0 := ((headerBad hdr.toNat :: (if l.val % 2 = 0 then (s.casPort (portNo (decide (258 ≤ l.val)))).hdrs0 else (s.casPort (portNo (decide (258 ≤ l.val)))).hdrs1)).take 64) } else { s.casPort (portNo (decide (258 ≤ l.val))) with hdrs1 := ((headerBad hdr.toNat :: (if l.val % 2 = 0 then (s.casPort (portNo (decide (258 ≤ l.val)))).hdrs0 else (s.casPort (portNo (decide (258 ≤ l.val)))).hdrs1)).take 64) })) ∧
      Others s.casPort t.casPort (portNo (decide (258 ≤ l.val))) ∧
      t = { s with chip := { s.chip with casPort := t.chip.casPort } }) ∧
  (∀ (l : Fin 260) (hdr : BitVec 4) (payload : BitVec 128) (s : State),
    256 ≤ l.val ∧ s.portState (decide (258 ≤ l.val)) = 2 ∧ 16 ≤ (((headerBad hdr.toNat :: (if l.val % 2 = 0 then (s.casPort (portNo (decide (258 ≤ l.val)))).hdrs0 else (s.casPort (portNo (decide (258 ≤ l.val)))).hdrs1)).take 64).filter id).length →
    Gives (.inboundBlock l hdr payload) s fun t =>
      t = s.casRetrain (decide (258 ≤ l.val))) ∧
  (∀ (w : Wr) (s : State),
    Accepted s w pgCas →
    bits (w.val ||| 4).toNat 0 4 = 4 ∧ s.portState false ≠ 2 →
    Gives (.casRetrainUp w) s fun t =>
      FieldsKept s t [(HOST_STAT.COLLIDE_COUNT, 0)] ∧
      t = { s with chip := { s.chip with regs := t.chip.regs, hostp := t.chip.hostp } }) ∧
  (∀ (w : Wr) (s : State),
    Accepted s w pgCas →
    bits (w.val ||| 8).toNat 0 4 = 8 ∧ s.portState true ≠ 2 →
    Gives (.casRetrainDn w) s fun t =>
      FieldsKept s t [(HOST_STAT.COLLIDE_COUNT, 0)] ∧
      t = { s with chip := { s.chip with regs := t.chip.regs, hostp := t.chip.hostp } }) ∧
  (∀ (d : Bool) (i : Nat) (xs : List Nat) (s : State),
    s.portState d = 2 ∧ (s.casJrn d && decide (15 ≤ (s.casPort (portNo d)).noJrn)) = false →
    casFirst (s.casPort (portNo d)).queue 1 = some i ∧ (s.casPort (portNo d)).queue[i]? = some (1, xs) →
    Gives (.casBlockSend d) s fun t =>
      t.casPort (portNo d) = { s.casPort (portNo d) with queue := (s.casPort (portNo d)).queue.eraseIdx i, noJrn := (s.casPort (portNo d)).noJrn + 1 } ∧
      Others s.casPort t.casPort (portNo d) ∧
      t.chip.out = s.chip.out ++ [.cascade d 1 xs] ∧
      t.rd CAS_FF.FF_TX 0 = min 0xFFFF (s.rd CAS_FF.FF_TX 0 + 1) ∧
      FieldsKept s t [(CAS_FF.FF_TX, 0)] ∧
      t = { s with chip := { s.chip with regs := t.chip.regs, casPort := t.chip.casPort, out := t.chip.out } }) ∧
  (∀ (d : Bool) (i k : Nat) (xs : List Nat) (s : State),
    s.portState d = 2 ∧ (s.casJrn d && decide (15 ≤ (s.casPort (portNo d)).noJrn)) = false →
    casFirst (s.casPort (portNo d)).queue 1 = none ∧ casFirst (s.casPort (portNo d)).queue 2 = some i ∧ (s.casPort (portNo d)).queue[i]? = some (k, xs) ∧ casClass k = 2 →
    Gives (.casBlockSend d) s fun t =>
      t.casPort (portNo d) = { s.casPort (portNo d) with queue := (s.casPort (portNo d)).queue.eraseIdx i, noJrn := (s.casPort (portNo d)).noJrn + 1 } ∧
      Others s.casPort t.casPort (portNo d) ∧
      (t.chip.out = s.chip.out ++ [.cascade d k (if k = 2 then s.epoch :: xs.drop 1 else xs)]) ∧
      t = { s with chip := { s.chip with casPort := t.chip.casPort, out := t.chip.out } }) ∧
  (∀ (d : Bool) (i k : Nat) (xs : List Nat) (s : State),
    s.portState d = 2 ∧ (s.casJrn d && decide (15 ≤ (s.casPort (portNo d)).noJrn)) = false →
    casFirst (s.casPort (portNo d)).queue 1 = none ∧ casFirst (s.casPort (portNo d)).queue 2 = none ∧ casFirst (s.casPort (portNo d)).queue 3 = some i ∧ (s.casPort (portNo d)).queue[i]? = some (k, xs) ∧ casClass k = 3 →
    Gives (.casBlockSend d) s fun t =>
      t.casPort (portNo d) = { s.casPort (portNo d) with queue := (s.casPort (portNo d)).queue.eraseIdx i, noJrn := (s.casPort (portNo d)).noJrn + 1 } ∧
      Others s.casPort t.casPort (portNo d) ∧
      t.chip.out = s.chip.out ++ [.cascade d k xs] ∧
      t = { s with chip := { s.chip with casPort := t.chip.casPort, out := t.chip.out } }) ∧
  (∀ (x : List Nat) (r : List (List Nat)) (s : State),
    s.portState false = 2 ∧ s.journal.up = x :: r ∧ (15 ≤ (s.casPort 0).noJrn ∨ (s.casPort 0).queue = []) →
    (s.casPort 0).half = false →
    Gives (.casBlockSend false) s fun t =>
      t.casPort 0 = { s.casPort 0 with half := true, noJrn := 0 } ∧
      Others s.casPort t.casPort 0 ∧
      t.chip.out = s.chip.out ++ [.cascade false 8 (x.take 4)] ∧
      t = { s with chip := { s.chip with casPort := t.chip.casPort, out := t.chip.out } }) ∧
  (∀ (x : List Nat) (r : List (List Nat)) (s : State),
    s.portState false = 2 ∧ s.journal.up = x :: r ∧ (15 ≤ (s.casPort 0).noJrn ∨ (s.casPort 0).queue = []) →
    (s.casPort 0).half = true ∧ (s.journal.lost = 0 ∨ 1022 * 126 < r.length) →
    Gives (.casBlockSend false) s fun t =>
      t.casPort 0 = { s.casPort 0 with half := false, noJrn := 0 } ∧
      Others s.casPort t.casPort 0 ∧
      t.journal = { s.journal with up := r } ∧
      t.chip.out = s.chip.out ++ [.cascade false 8 (x.drop 4)] ∧
      t = { s with chip := { s.chip with casPort := t.chip.casPort, out := t.chip.out, journal := t.chip.journal } }) ∧
  (∀ (x : List Nat) (r : List (List Nat)) (s : State),
    s.portState false = 2 ∧ s.journal.up = x :: r ∧ (15 ≤ (s.casPort 0).noJrn ∨ (s.casPort 0).queue = []) →
    (s.casPort 0).half = true ∧ 0 < s.journal.lost ∧ r.length ≤ 1022 * 126 →
    Gives (.casBlockSend false) s fun t =>
      ∃ u : State,
        (u = ((s.setCasPort 0 { s.casPort 0 with half := false, noJrn := 0 }).emit (.cascade false 8 (x.drop 4))).modJournal fun j => { j with up := r }) ∧
        t = u.jrnReportLoss) ∧
  (∀ (d : Bool) (s : State),
    (s.casPort (portNo d)).queue = [] ∧ s.casJrn d = false →
    Gives (.casBlockSend d) s fun t =>
      t = s) ∧
  (∀ (d : Bool) (s : State),
    s.portState d ≠ 2 →
    Gives (.casBlockSend d) s fun t =>
      t = s) ∧
  (∀ (s : State),
    s.on CAS_STAT.ADDR_VALID 0 = true ∧ s.cas.frameAt + 50000 ≤ s.tb →
    Gives (.enumFrameSend) s fun t =>
      t.cas = { s.cas with frameAt := s.tb } ∧
      t.chip.out = s.chip.out ++ [.enum (enumBits (s.ownAddr + 1))] ∧
      t = { s with chip := { s.chip with cas := t.chip.cas, out := t.chip.out } }) ∧
  (∀ (s : State),
    s.on CAS_STAT.ADDR_VALID 0 = false ∨ s.tb < s.cas.frameAt + 50000 →
    Gives (.enumFrameSend) s fun t =>
      t = s) ∧
  (∀ (n : Fin 32) (s : State),
    s.master = true →
    Gives (.enumFrameReceive n true) s fun t =>
      t.rd CAS_CFG.UP_EN 0 = 0 ∧
      Raised t pgCas 6 ∧
      FieldsKept s t [(CAS_CFG.UP_EN, 0), (IRQ_STAT.BITS, pgCas)] ∧
      t = { s with chip := { s.chip with regs := t.chip.regs, hostp := t.chip.hostp } }) ∧
  (∀ (n : Fin 32) (s : State),
    s.master = true →
    Gives (.enumFrameReceive n false) s fun t =>
      t = s) ∧
  (∀ (n : Fin 32) (s : State),
    s.master = false →
    s.cas.frame ≠ some n.val →
    Gives (.enumFrameReceive n true) s fun t =>
      t.cas = { s.cas with frame := some n.val } ∧
      t = { s with chip := { s.chip with cas := t.chip.cas } }) ∧
  (∀ (n : Fin 32) (s : State),
    s.master = false →
    Gives (.enumFrameReceive n false) s fun t =>
      t.cas = { s.cas with frame := none } ∧
      t = { s with chip := { s.chip with cas := t.chip.cas } }) ∧
  (∀ (n : Fin 32) (s : State),
    s.master = false →
    s.cas.frame = some n.val →
    1 ≤ n.val ∧ n.val ≤ 15 ∧ s.on CAS_STAT.ADDR_VALID 0 = false →
    Gives (.enumFrameReceive n true) s fun t =>
      t.ownAddr = n.val ∧ t.rd CAS_STAT.ADDR_VALID 0 = 1 ∧
      t.cas = { s.cas with frameAt := s.tb } ∧
      FieldsKept s t [(CAS_STAT.ADDR, 0), (CAS_STAT.ADDR_VALID, 0)] ∧
      t = { s with chip := { s.chip with regs := t.chip.regs, cas := t.chip.cas } }) ∧
  (∀ (n : Fin 32) (s : State),
    s.master = false →
    s.cas.frame = some n.val →
    s.ownAddr = n.val ∧ 1 ≤ n.val ∧ s.on CAS_STAT.ADDR_VALID 0 = true →
    Gives (.enumFrameReceive n true) s fun t =>
      t = s) ∧
  (∀ (n : Fin 32) (s : State),
    s.master = false →
    s.cas.frame = some n.val →
    s.ownAddr ≠ n.val ∧ 1 ≤ n.val ∧ n.val ≤ 15 ∧ s.on CAS_STAT.ADDR_VALID 0 = true ∧ s.on CAS_STAT.ALIGNED 0 = false →
    Gives (.enumFrameReceive n true) s fun t =>
      t.ownAddr = n.val ∧ t.rd CAS_SKEW_UP.VALID 0 = 0 ∧ t.rd CAS_STAT.SKEW_VALID 0 = 0 ∧
      t.cas = { s.cas with target := none } ∧
      Raised t pgCas 5 ∧
      Recorded s t 0x0D n.val 0x1306 ∧
      FieldsKept s t [(CAS_STAT.ADDR, 0), (CAS_SKEW_UP.VALID, 0), (CAS_STAT.SKEW_VALID, 0), (IRQ_STAT.BITS, pgCas)] ∧
      t = { s with chip := { s.chip with regs := t.chip.regs, hostp := t.chip.hostp, recs := t.chip.recs, cas := t.chip.cas } }) ∧
  (∀ (n : Fin 32) (s : State),
    s.master = false →
    s.cas.frame = some n.val →
    s.ownAddr ≠ n.val ∧ 1 ≤ n.val ∧ n.val ≤ 15 ∧ s.on CAS_STAT.ADDR_VALID 0 = true →
    Gives (.enumFrameReceive n true) s fun t =>
      ∃ u : State,
        u = ((((s.wr CAS_STAT.ADDR 0 n.val).raise pgCas 5).casRec 0x1306 [.word s.ownAddr, .word n.val]).wr CAS_SKEW_UP.VALID 0 0).wr CAS_STAT.SKEW_VALID 0 0 ∧
        (t = u.loseAlign.modCas fun c => { c with target := none })) ∧
  (∀ (n : Fin 32) (s : State),
    s.master = false →
    s.cas.frame = some n.val →
    n.val = 16 ∧ s.on CAS_STAT.ALIGNED 0 = false ∧ s.cal.run = none ∧ s.tpll.follow = false →
    Gives (.enumFrameReceive n true) s fun t =>
      t.rd CAS_STAT.ADDR_VALID 0 = 0 ∧ t.portState false = 0 ∧ t.portState true = 0 ∧
      Raised t pgCas 7 ∧
      t = { s with chip := { s.chip with regs := t.chip.regs, hostp := t.chip.hostp, cas := t.chip.cas, casPort := t.chip.casPort } }) ∧
  (∀ (n : Fin 32) (s : State),
    s.master = false →
    s.cas.frame = some n.val →
    n.val = 16 →
    Gives (.enumFrameReceive n true) s fun t =>
      ∃ u : State,
        (u = (if ((if s.on CAS_STAT.ADDR_VALID 0 then s.loseAlign else s).wr CAS_STAT.ADDR_VALID 0 0).portState false ≠ 0 then ((if s.on CAS_STAT.ADDR_VALID 0 then s.loseAlign else s).wr CAS_STAT.ADDR_VALID 0 0).casTo false 0 false else ((if s.on CAS_STAT.ADDR_VALID 0 then s.loseAlign else s).wr CAS_STAT.ADDR_VALID 0 0))) ∧
        (t = (if u.portState true ≠ 0 then u.casTo true 0 false else u).raise pgCas 7)) ∧
  ((∀ (s : State) (d : Bool) (n : Nat) (lost : Bool),
        let a := (s.wr (casState d) 0 n).modCasPort (portNo d) fun c => { c with since := s.tb, hdrs0 := [], hdrs1 := [] }
        let b := (((a.inc (casExits d) 0).casFlush d).skewFail).casOut d
        (s.portState d ≠ 2 ∨ n = 2 → s.casTo d n lost = a) ∧
        (s.portState d = 2 → n ≠ 2 → s.casTo d n lost = (if lost then b.raise pgCas (flag d) else b)))) ∧
  (∀ (n : Fin 32) (s : State),
    s.master = false →
    s.cas.frame = some n.val →
    n.val = 0 ∨ 16 < n.val →
    Gives (.enumFrameReceive n true) s fun t =>
      t = s)

/-- Epoch alignment over the cascade. TIME goes down and STATUS up every 65536 ticks; the master starts an alignment at the first multiple of 65536 at least 4 ms away, sends its targets ALIGN when its DOWN port is in SERVICE, and ends it with the last result or 50 ms after S, and is refused as a slave or in another state with codes 2 and 4; SYNC_OUT pulses for 64 ticks at S; the first STATUS of a port names its neighbour or is a conflict, later ones are heard by the master and relayed by a slave; a slave measures theta from every TIME message, follows a neighbour in HOLDOVER or SLEW, moves by at most 2 ps within the tolerance while it is aligned, and loses its alignment with the eighth theta in a row beyond it or an uncertain neighbour; ALIGN reaches its target, which measures an unknown d_UP itself, takes the slew path within 1 ns, and is refused while its step path is closed, or goes on down; a target steps its epoch at the SYNC edge, with its lanes in SERVICE to RETRAIN and its own sense grids started anew, counts other edges as stray, fails without the edge in 5 ms or with more than 1 ns at the TIME message of step 5, removes 10 ps every 16 ticks and is ALIGNED at 5 ps; HOLD_S without the UP link ends the alignment; where nothing is due nothing happens. Where the rules leave room the clauses state the model's readings (log entries 3 and 39) -/
def Obligations.EpochAlignment : Prop :=
  (∀ (s : State),
    s.timeDue = true →
    s.master = true ∧ s.portState true = 2 →
    Gives (.casTimeSend) s fun t =>
      t.cas = { s.cas with timeAt := some s.tb, heard := 0, heardWas := s.cas.heard } ∧
      t.casPort 1 = { s.casPort 1 with queue := (s.casPort 1).queue ++ [(2, [s.epoch, s.rd TB_STAT.EPOCH_STATE 0, s.tpllState, flag (s.master || s.on CAS_STAT.ALIGNED 0)])] } ∧
      Others s.casPort t.casPort 1 ∧
      t.rd CAS_REACH.REACH 0 = (1 ||| s.cas.heard ||| s.cas.heardWas) % 2 ^ 16 ∧
      (t.rd CAS_STAT.CHAIN_LEN 0 = ((List.range 16).filter fun n => bit (1 ||| s.cas.heard ||| s.cas.heardWas) n).length) ∧
      FieldsKept s t [(CAS_REACH.REACH, 0), (CAS_STAT.CHAIN_LEN, 0)] ∧
      t = { s with chip := { s.chip with regs := t.chip.regs, cas := t.chip.cas, casPort := t.chip.casPort } }) ∧
  (∀ (s : State),
    s.timeDue = true →
    s.master = false ∧ s.portState true ≠ 2 ∧ s.portState false = 2 →
    Gives (.casTimeSend) s fun t =>
      t.cas = { s.cas with timeAt := some s.tb, heard := 0, heardWas := s.cas.heard } ∧
      t.casPort 0 = { s.casPort 0 with queue := (s.casPort 0).queue ++ [(3, s.ownStatus)] } ∧
      Others s.casPort t.casPort 0 ∧
      t = { s with chip := { s.chip with cas := t.chip.cas, casPort := t.chip.casPort } }) ∧
  (∀ (s : State),
    s.timeDue = true →
    Gives (.casTimeSend) s fun t =>
      t.cas = { s.cas with timeAt := some s.tb, heard := 0, heardWas := s.cas.heard } ∧
      ((t.casPort 1).queue = (s.casPort 1).queue ++ (if s.portState true = 2 then [(2, [s.epoch, s.rd TB_STAT.EPOCH_STATE 0, s.tpllState, flag (s.master || s.on CAS_STAT.ALIGNED 0)])] else [])) ∧
      ((t.casPort 0).queue = (s.casPort 0).queue ++ (if s.portState false = 2 ∧ s.master = false then [(3, s.ownStatus)] else [])) ∧
      (s.master = true → t.rd CAS_REACH.REACH 0 = (1 ||| s.cas.heard ||| s.cas.heardWas) % 2 ^ 16) ∧
      (s.master = false → t.chip.regs = s.chip.regs) ∧
      FieldsKept s t [(CAS_REACH.REACH, 0), (CAS_STAT.CHAIN_LEN, 0)] ∧
      t = { s with chip := { s.chip with regs := t.chip.regs, cas := t.chip.cas, casPort := t.chip.casPort } }) ∧
  (∀ (s : State),
    s.timeDue = false →
    Gives (.casTimeSend) s fun t =>
      t = s) ∧
  (∀ (x : BitVec 64) (e : Fin 3) (p : Fin 5) (al : Bool) (fr : Int) (s : State),
    s.portState false = 2 ∧ (s.casPort 0).named = true ∧ s.master = false →
    p.val ≠ 2 ∧ p.val ≠ 3 →
    s.on CAS_STAT.ALIGNED 0 = false ∧ s.cas.target = none →
    Gives (.casTimeReceive x e p al fr) s fun t =>
      t.rd CAS_THETA.THETA 0 = unsigned 16 (satInt 16 (s.thetaOf x.toNat fr)) ∧ t.rd CAS_THETA.MAX_ABS 0 = max (s.rd CAS_THETA.MAX_ABS 0) (min 65535 (s.thetaOf x.toNat fr).natAbs) ∧
      t.tpll = { s.tpll with upState := p.val } ∧
      t.cas = { s.cas with theta := some (s.thetaOf x.toNat fr) } ∧
      FieldsKept s t [(CAS_THETA.THETA, 0), (CAS_THETA.MAX_ABS, 0)] ∧
      t = { s with chip := { s.chip with regs := t.chip.regs, cas := t.chip.cas, tpll := t.chip.tpll } }) ∧
  (∀ (x : BitVec 64) (e : Fin 3) (p : Fin 5) (al : Bool) (fr : Int) (s : State),
    s.portState false = 2 ∧ (s.casPort 0).named = true ∧ s.master = false →
    p.val ≠ 2 ∧ p.val ≠ 3 →
    s.on CAS_STAT.ALIGNED 0 = true ∧ s.cas.target = none →
    e.val ≠ 2 ∧ (s.thetaOf x.toNat fr).natAbs ≤ s.rd CAS_CFG.ALIGN_TOL 0 →
    Gives (.casTimeReceive x e p al fr) s fun t =>
      t.rd CAS_THETA.THETA 0 = unsigned 16 (satInt 16 (s.thetaOf x.toNat fr)) ∧ t.rd CAS_THETA.MAX_ABS 0 = max (s.rd CAS_THETA.MAX_ABS 0) (min 65535 (s.thetaOf x.toNat fr).natAbs) ∧
      t.tpll = { s.tpll with upState := p.val } ∧
      t.cas = { s.cas with theta := some (s.thetaOf x.toNat fr), exceeded := 0, moved := s.cas.moved - max (-2) (min 2 (s.thetaOf x.toNat fr)) } ∧
      FieldsKept s t [(CAS_THETA.THETA, 0), (CAS_THETA.MAX_ABS, 0)] ∧
      t = { s with chip := { s.chip with regs := t.chip.regs, cas := t.chip.cas, tpll := t.chip.tpll } }) ∧
  (∀ (x : BitVec 64) (e : Fin 3) (p : Fin 5) (al : Bool) (fr : Int) (s : State),
    s.portState false = 2 ∧ (s.casPort 0).named = true ∧ s.master = false →
    p.val ≠ 2 ∧ p.val ≠ 3 →
    s.on CAS_STAT.ALIGNED 0 = true ∧ s.cas.target = none →
    e.val ≠ 2 ∧ s.rd CAS_CFG.ALIGN_TOL 0 < (s.thetaOf x.toNat fr).natAbs ∧ s.cas.exceeded < 7 →
    Gives (.casTimeReceive x e p al fr) s fun t =>
      t.rd CAS_THETA.THETA 0 = unsigned 16 (satInt 16 (s.thetaOf x.toNat fr)) ∧ t.rd CAS_THETA.MAX_ABS 0 = max (s.rd CAS_THETA.MAX_ABS 0) (min 65535 (s.thetaOf x.toNat fr).natAbs) ∧
      t.tpll = { s.tpll with upState := p.val } ∧
      t.cas = { s.cas with theta := some (s.thetaOf x.toNat fr), exceeded := s.cas.exceeded + 1 } ∧
      FieldsKept s t [(CAS_THETA.THETA, 0), (CAS_THETA.MAX_ABS, 0)] ∧
      t = { s with chip := { s.chip with regs := t.chip.regs, cas := t.chip.cas, tpll := t.chip.tpll } }) ∧
  (∀ (x : BitVec 64) (e : Fin 3) (p : Fin 5) (al : Bool) (fr : Int) (s : State),
    s.portState false = 2 ∧ (s.casPort 0).named = true ∧ s.master = false →
    p.val ≠ 2 ∧ p.val ≠ 3 →
    s.on CAS_STAT.ALIGNED 0 = true ∧ s.cas.target = none →
    e.val = 2 ∨ (s.rd CAS_CFG.ALIGN_TOL 0 < (s.thetaOf x.toNat fr).natAbs ∧ 7 ≤ s.cas.exceeded) →
    Gives (.casTimeReceive x e p al fr) s fun t =>
      t.rd CAS_THETA.THETA 0 = unsigned 16 (satInt 16 (s.thetaOf x.toNat fr)) ∧ t.rd CAS_THETA.MAX_ABS 0 = max (s.rd CAS_THETA.MAX_ABS 0) (min 65535 (s.thetaOf x.toNat fr).natAbs) ∧
      t.tpll = { s.tpll with upState := p.val } ∧
      t.cas = { s.cas with theta := some (s.thetaOf x.toNat fr), exceeded := 0 } ∧
      t.rd CAS_STAT.ALIGNED 0 = 0 ∧
      (s.rd TB_STAT.EPOCH_STATE 0 = 1 → t.rd TB_STAT.EPOCH_STATE 0 = 2) ∧
      (∃ r ∈ t.recs, r.cls = 0x0D ∧ r.index = s.ownAddr ∧ r.code = 0x130E) ∧
      t = { s with chip := { s.chip with regs := t.chip.regs, cas := t.chip.cas, tpll := t.chip.tpll, hostp := t.chip.hostp, recs := t.chip.recs, prodq := t.chip.prodq } }) ∧
  (∀ (x : BitVec 64) (e : Fin 3) (p : Fin 5) (al : Bool) (fr : Int) (a : CasAlign) (s : State),
    s.portState false = 2 ∧ (s.casPort 0).named = true ∧ s.master = false →
    p.val ≠ 2 ∧ p.val ≠ 3 →
    s.on CAS_STAT.ALIGNED 0 = false ∧ s.cas.target = some a →
    a.phase = 1 ∧ a.sAt < x.toNat ∧ al = true ∧ a.slew = false ∧ (s.thetaOf x.toNat fr).natAbs ≤ 1000 →
    Gives (.casTimeReceive x e p al fr) s fun t =>
      t.rd CAS_THETA.THETA 0 = unsigned 16 (satInt 16 (s.thetaOf x.toNat fr)) ∧ t.rd CAS_THETA.MAX_ABS 0 = max (s.rd CAS_THETA.MAX_ABS 0) (min 65535 (s.thetaOf x.toNat fr).natAbs) ∧
      t.tpll = { s.tpll with upState := p.val } ∧
      (t.cas = { s.cas with theta := some (s.thetaOf x.toNat fr), target := some { a with phase := if 5 < (s.thetaOf x.toNat fr).natAbs then 2 else 3, stepAt := s.tb, rest := (s.thetaOf x.toNat fr) } }) ∧
      FieldsKept s t [(CAS_THETA.THETA, 0), (CAS_THETA.MAX_ABS, 0)] ∧
      t = { s with chip := { s.chip with regs := t.chip.regs, cas := t.chip.cas, tpll := t.chip.tpll } }) ∧
  (∀ (x : BitVec 64) (e : Fin 3) (p : Fin 5) (al : Bool) (fr : Int) (a : CasAlign) (s : State),
    s.portState false = 2 ∧ (s.casPort 0).named = true ∧ s.master = false →
    p.val ≠ 2 ∧ p.val ≠ 3 →
    s.on CAS_STAT.ALIGNED 0 = false ∧ s.cas.target = some a →
    a.phase = 1 ∧ a.sAt < x.toNat ∧ al = true ∧ a.slew = false ∧ 1000 < (s.thetaOf x.toNat fr).natAbs →
    Gives (.casTimeReceive x e p al fr) s fun t =>
      t.rd CAS_THETA.THETA 0 = unsigned 16 (satInt 16 (s.thetaOf x.toNat fr)) ∧ t.rd CAS_THETA.MAX_ABS 0 = max (s.rd CAS_THETA.MAX_ABS 0) (min 65535 (s.thetaOf x.toNat fr).natAbs) ∧
      t.tpll = { s.tpll with upState := p.val } ∧
      t.cas = { s.cas with theta := some (s.thetaOf x.toNat fr), target := none, result := 3, counting := false } ∧
      Raised t pgCas 4 ∧
      Recorded s t 0x0D s.ownAddr 0x1305 ∧
      FieldsKept s t [(CAS_THETA.THETA, 0), (CAS_THETA.MAX_ABS, 0), (IRQ_STAT.BITS, pgCas)] ∧
      t = { s with chip := { s.chip with regs := t.chip.regs, cas := t.chip.cas, tpll := t.chip.tpll, hostp := t.chip.hostp, recs := t.chip.recs } }) ∧
  (∀ (x : BitVec 64) (e : Fin 3) (p : Fin 5) (al : Bool) (fr : Int) (a : CasAlign) (s : State),
    s.portState false = 2 ∧ (s.casPort 0).named = true ∧ s.master = false →
    p.val ≠ 2 ∧ p.val ≠ 3 →
    s.on CAS_STAT.ALIGNED 0 = false ∧ s.cas.target = some a →
    2 ≤ a.phase ∧ (s.thetaOf x.toNat fr).natAbs ≤ 5 →
    Gives (.casTimeReceive x e p al fr) s fun t =>
      t.rd CAS_THETA.THETA 0 = unsigned 16 (satInt 16 (s.thetaOf x.toNat fr)) ∧ t.rd CAS_THETA.MAX_ABS 0 = max (s.rd CAS_THETA.MAX_ABS 0) (min 65535 (s.thetaOf x.toNat fr).natAbs) ∧
      t.tpll = { s.tpll with upState := p.val } ∧
      t.cas = { s.cas with theta := some (s.thetaOf x.toNat fr), target := none, result := 1, counting := false, exceeded := 0 } ∧
      t.rd CAS_STAT.ALIGNED 0 = 1 ∧ t.rd TB_STAT.EPOCH_STATE 0 = 1 ∧
      Raised t pgCas 3 ∧
      Recorded s t 0x0D s.ownAddr 0x1304 ∧
      FieldsKept s t [(CAS_THETA.THETA, 0), (CAS_THETA.MAX_ABS, 0), (CAS_STAT.ALIGNED, 0), (TB_STAT.EPOCH_STATE, 0), (IRQ_STAT.BITS, pgCas)] ∧
      t = { s with chip := { s.chip with regs := t.chip.regs, cas := t.chip.cas, tpll := t.chip.tpll, hostp := t.chip.hostp, recs := t.chip.recs, prodq := t.chip.prodq } }) ∧
  (∀ (x : BitVec 64) (e : Fin 3) (p : Fin 5) (al : Bool) (fr : Int) (a : CasAlign) (s : State),
    s.portState false = 2 ∧ (s.casPort 0).named = true ∧ s.master = false →
    p.val ≠ 2 ∧ p.val ≠ 3 →
    s.on CAS_STAT.ALIGNED 0 = false ∧ s.cas.target = some a →
    a.phase = 0 ∨ (2 ≤ a.phase ∧ 5 < (s.thetaOf x.toNat fr).natAbs) ∨ (a.phase = 1 ∧ (x.toNat ≤ a.sAt ∨ al = false)) →
    Gives (.casTimeReceive x e p al fr) s fun t =>
      t.rd CAS_THETA.THETA 0 = unsigned 16 (satInt 16 (s.thetaOf x.toNat fr)) ∧ t.rd CAS_THETA.MAX_ABS 0 = max (s.rd CAS_THETA.MAX_ABS 0) (min 65535 (s.thetaOf x.toNat fr).natAbs) ∧
      t.tpll = { s.tpll with upState := p.val } ∧
      t.cas = { s.cas with theta := some (s.thetaOf x.toNat fr) } ∧
      FieldsKept s t [(CAS_THETA.THETA, 0), (CAS_THETA.MAX_ABS, 0)] ∧
      t = { s with chip := { s.chip with regs := t.chip.regs, cas := t.chip.cas, tpll := t.chip.tpll } }) ∧
  (∀ (x : BitVec 64) (e : Fin 3) (p : Fin 5) (al : Bool) (fr : Int) (s : State),
    s.portUsed false = true ∧ s.master = false →
    Gives (.casTimeReceive x e p al fr) s fun t =>
      ∃ u : State,
        (u = (if e.val = 2 then ((((s.wr CAS_THETA.THETA 0 (unsigned 16 (satInt 16 (s.thetaOf x.toNat fr)))).wr CAS_THETA.MAX_ABS 0 (max (s.rd CAS_THETA.MAX_ABS 0) (min 65535 (s.thetaOf x.toNat fr).natAbs))).modCas fun c => { c with theta := some (s.thetaOf x.toNat fr) }).followUp p.val).loseAlign else ((((s.wr CAS_THETA.THETA 0 (unsigned 16 (satInt 16 (s.thetaOf x.toNat fr)))).wr CAS_THETA.MAX_ABS 0 (max (s.rd CAS_THETA.MAX_ABS 0) (min 65535 (s.thetaOf x.toNat fr).natAbs))).modCas fun c => { c with theta := some (s.thetaOf x.toNat fr) }).followUp p.val).judgeTheta (s.thetaOf x.toNat fr))) ∧
        t = u.alignTime x.toNat al (s.thetaOf x.toNat fr)) ∧
  ((∀ (s : State) (n : Nat), let a := s.modTpll fun p => { p with upState := n }
        (n ≠ 2 → n ≠ 3 → s.followUp n = a) ∧ (s.tpllState ≠ 1 → s.tpllState ≠ 3 → s.followUp n = a) ∧
        ((n = 2 ∨ n = 3) → (s.tpllState = 1 ∨ s.tpllState = 3) → (s.followUp n).tpllState = 2 ∧ (s.followUp n).tpll.upState = n ∧
          (s.followUp n).tpll.follow = s.slaveLinked ∧ (s.followUp n).recs = (s.jrn 0x05 64 0x030E [.word s.tpllState, .word 2]).recs))) ∧
  ((∀ (s : State) (th : Int), (s.on CAS_STAT.ALIGNED 0 = false → s.judgeTheta th = s) ∧
        (s.on CAS_STAT.ALIGNED 0 = true →
          (th.natAbs ≤ s.rd CAS_CFG.ALIGN_TOL 0 → s.judgeTheta th = s.modCas fun c => { c with exceeded := 0, moved := c.moved - max (-2) (min 2 th) }) ∧
          (s.rd CAS_CFG.ALIGN_TOL 0 < th.natAbs → s.cas.exceeded < 7 → s.judgeTheta th = s.modCas fun c => { c with exceeded := c.exceeded + 1 }) ∧
          (s.rd CAS_CFG.ALIGN_TOL 0 < th.natAbs → 7 ≤ s.cas.exceeded → s.judgeTheta th = s.loseAlign)))) ∧
  ((∀ (s : State) (ttx : Nat) (al : Bool) (th : Int), (s.cas.target = none → s.alignTime ttx al th = s) ∧
        (∀ a, s.cas.target = some a →
          (a.phase = 0 ∨ (a.phase = 1 ∧ (ttx ≤ a.sAt ∨ al = false)) ∨ (2 ≤ a.phase ∧ 5 < th.natAbs) → s.alignTime ttx al th = s) ∧
          (a.phase = 1 → a.sAt < ttx → al = true → a.slew = true → s.alignTime ttx al th = s.modCas fun c => { c with target := some { a with phase := 3 } }) ∧
          (a.phase = 1 → a.sAt < ttx → al = true → a.slew = false → 1000 < th.natAbs → let t := s.alignTime ttx al th
            t.cas = { s.cas with target := none, result := 3, counting := false } ∧ Raised t pgCas 4 ∧ Recorded s t 0x0D s.ownAddr 0x1305 ∧
            FieldsKept s t [(IRQ_STAT.BITS, pgCas)]) ∧
          (a.phase = 1 → a.sAt < ttx → al = true → a.slew = false → th.natAbs ≤ 1000 → s.alignTime ttx al th =
            s.modCas fun c => { c with target := some { a with phase := if 5 < th.natAbs then 2 else 3, stepAt := s.tb, rest := th } }) ∧
          (2 ≤ a.phase → th.natAbs ≤ 5 → let t := s.alignTime ttx al th
            t.cas = { s.cas with target := none, result := 1, counting := false, exceeded := 0 } ∧ t.rd CAS_STAT.ALIGNED 0 = 1 ∧ t.rd TB_STAT.EPOCH_STATE 0 = 1 ∧
            Raised t pgCas 3 ∧ Recorded s t 0x0D s.ownAddr 0x1304 ∧
            FieldsKept s t [(CAS_STAT.ALIGNED, 0), (TB_STAT.EPOCH_STATE, 0), (IRQ_STAT.BITS, pgCas)])))) ∧
  (∀ (x : BitVec 64) (e : Fin 3) (p : Fin 5) (al : Bool) (fr : Int) (s : State),
    s.portUsed false = false ∨ s.master = true →
    Gives (.casTimeReceive x e p al fr) s fun t =>
      t = s) ∧
  (∀ (d : Bool) (a : Fin 16) (pend : Bool) (res : Fin 4) (turn : Nat) (s : State),
    d = false ∧ s.portState false = 2 ∧ a.val + 1 = s.ownAddr →
    Gives (.casStatusReceive d a pend res turn) s fun t =>
      t.casPort (portNo d) = { s.casPort (portNo d) with named := true, turn := turn } ∧
      Others s.casPort t.casPort (portNo d) ∧
      t = { s with chip := { s.chip with casPort := t.chip.casPort } }) ∧
  (∀ (d : Bool) (a : Fin 16) (pend : Bool) (res : Fin 4) (turn : Nat) (s : State),
    d = true ∧ s.portState true = 2 ∧ (s.casPort 1).named = false ∧ a.val ≠ s.ownAddr + 1 ∧ s.master = false →
    s.cal.run = none ∧ (s.casPort 1).queue.filter (fun m => m.1 == 1) = [] →
    Gives (.casStatusReceive d a pend res turn) s fun t =>
      Raised t pgCas 6 ∧
      t.portState true = 1 ∧
      t.casPort 1 = { s.casPort 1 with queue := [], half := false, named := false, noJrn := 0, since := s.tb, hdrs0 := [], hdrs1 := [] } ∧
      t.rd CAS_LINK.DN_DOWNS 0 = min 0xFFFF (s.rd CAS_LINK.DN_DOWNS 0 + 1) ∧
      Others s.casPort t.casPort 1 ∧
      FieldsKept s t [(CAS_STAT.DN_STATE, 0), (CAS_LINK.DN_DOWNS, 0), (IRQ_STAT.BITS, pgCas)] ∧
      t = { s with chip := { s.chip with regs := t.chip.regs, hostp := t.chip.hostp, casPort := t.chip.casPort } }) ∧
  (∀ (d : Bool) (a : Fin 16) (pend : Bool) (res : Fin 4) (turn : Nat) (s : State),
    d = true ∧ s.portState true = 2 ∧ (s.casPort 1).named = true ∧ a.val ≠ s.ownAddr + 1 ∧ s.master = false ∧ s.portState false = 2 →
    Gives (.casStatusReceive d a pend res turn) s fun t =>
      t.casPort 0 = { s.casPort 0 with queue := (s.casPort 0).queue ++ [(3, [a.val, flag pend, res.val, turn])] } ∧
      Others s.casPort t.casPort 0 ∧
      t = { s with chip := { s.chip with casPort := t.chip.casPort } }) ∧
  (∀ (d : Bool) (a : Fin 16) (pend : Bool) (res : Fin 4) (turn : Nat) (s : State),
    d = true ∧ s.portState true = 2 ∧ (s.casPort 1).named = true ∧ s.master = true ∧ s.ownAddr = 0 ∧ 2 ≤ a.val →
    s.cas.align = none →
    Gives (.casStatusReceive d a pend res turn) s fun t =>
      t.rd CAS_REACH.REACH 0 = s.rd CAS_REACH.REACH 0 ||| 2 ^ a.val ∧
      (t.rd CAS_PEND.PEND 0 = (if pend then s.rd CAS_PEND.PEND 0 ||| 2 ^ (a.val - 1) else s.rd CAS_PEND.PEND 0 &&& (0x7FFF ^^^ 2 ^ (a.val - 1)))) ∧
      t.cas = { s.cas with heard := s.cas.heard ||| 2 ^ a.val } ∧
      (pend = true ∧ bit (s.rd CAS_PEND.PEND 0) (a.val - 1) = false → Raised t pgCas 9) ∧
      FieldsKept s t [(CAS_REACH.REACH, 0), (CAS_STAT.CHAIN_LEN, 0), (CAS_PEND.PEND, 0), (IRQ_STAT.BITS, pgCas)] ∧
      t = { s with chip := { s.chip with regs := t.chip.regs, hostp := t.chip.hostp, cas := t.chip.cas } }) ∧
  (∀ (d : Bool) (a : Fin 16) (pend : Bool) (res : Fin 4) (turn S m dn : Nat) (b : Bool) (s : State),
    d = true ∧ s.portState true = 2 ∧ (s.casPort 1).named = true ∧ s.master = true ∧ s.ownAddr = 0 ∧ 2 ≤ a.val →
    s.cas.align = some (S, m, dn, b) ∧ s.on CAS_STAT.ALIGN_BUSY 0 = true ∧ bit m a.val = true ∧ bit dn a.val = false ∧ res.val ≠ 0 →
    Gives (.casStatusReceive d a pend res turn) s fun t =>
      t.rd CAS_REACH.REACH 0 = s.rd CAS_REACH.REACH 0 ||| 2 ^ a.val ∧
      (t.rd CAS_PEND.PEND 0 = (if pend then s.rd CAS_PEND.PEND 0 ||| 2 ^ (a.val - 1) else s.rd CAS_PEND.PEND 0 &&& (0x7FFF ^^^ 2 ^ (a.val - 1)))) ∧
      t.cas = { s.cas with heard := s.cas.heard ||| 2 ^ a.val, align := some (S, m, dn ||| 2 ^ a.val, b) } ∧
      t.rd CAS_RES.RES 0 = (s.rd CAS_RES.RES 0 - bits (s.rd CAS_RES.RES 0) (2 * a.val) 2 * 4 ^ a.val + res.val * 4 ^ a.val) % 2 ^ 32 ∧
      (dn ||| 2 ^ a.val = m → t.rd CAS_STAT.ALIGN_BUSY 0 = 0 ∧ Raised t pgCas 3) ∧
      (dn ||| 2 ^ a.val ≠ m → t.rd CAS_STAT.ALIGN_BUSY 0 = 1) ∧
      FieldsKept s t [(CAS_REACH.REACH, 0), (CAS_STAT.CHAIN_LEN, 0), (CAS_PEND.PEND, 0), (CAS_RES.RES, 0), (CAS_STAT.ALIGN_BUSY, 0), (IRQ_STAT.BITS, pgCas)] ∧
      t = { s with chip := { s.chip with regs := t.chip.regs, hostp := t.chip.hostp, cas := t.chip.cas } }) ∧
  (∀ (a : Fin 16) (pend : Bool) (res : Fin 4) (turn : Nat) (s : State),
    s.portState false = 2 ∧ (s.casPort 0).named = true ∧ a.val + 1 ≠ s.ownAddr ∧ a.val ≠ s.ownAddr - 1 →
    Gives (.casStatusReceive false a pend res turn) s fun t =>
      t = s) ∧
  (∀ (d : Bool) (a : Fin 16) (pend : Bool) (res : Fin 4) (turn : Nat) (s : State),
    s.portState d = 2 ∧ (s.casPort (portNo d)).named = false ∧ (if d = true then a.val ≠ s.ownAddr + 1 else a.val + 1 ≠ s.ownAddr) →
    Gives (.casStatusReceive d a pend res turn) s fun t =>
      t = (s.raise pgCas 6).casTo d 1 false) ∧
  (∀ (a : Fin 16) (pend : Bool) (res : Fin 4) (turn : Nat) (s : State),
    s.portState true = 2 ∧ a.val = s.ownAddr + 1 ∧ s.master = false →
    Gives (.casStatusReceive true a pend res turn) s fun t =>
      t.casPort 1 = { s.casPort 1 with named := true, turn := turn } ∧
      ((t.casPort 0).queue = (s.casPort 0).queue ++ (if s.portState false = 2 then [(3, [a.val, flag pend, res.val, turn])] else [])) ∧
      t = { s with chip := { s.chip with casPort := t.chip.casPort } }) ∧
  (∀ (a : Fin 16) (pend : Bool) (res : Fin 4) (turn : Nat) (s : State),
    s.portState true = 2 ∧ s.master = true ∧ s.ownAddr = 0 ∧ (a.val = 1 ∨ ((s.casPort 1).named = true ∧ 2 ≤ a.val)) →
    Gives (.casStatusReceive true a pend res turn) s fun t =>
      (t = (if a.val = 1 then s.setCasPort 1 { s.casPort 1 with named := true, turn := turn } else s).heardFrom a.val pend res.val)) ∧
  (∀ (a : Fin 16) (pend : Bool) (res : Fin 4) (turn : Nat) (s : State),
    s.portState true = 2 ∧ (s.casPort 1).named = true ∧ ((s.master = true ∧ a.val = 0) ∨ (s.master = false ∧ a.val ≠ s.ownAddr + 1 ∧ s.portState false ≠ 2)) →
    Gives (.casStatusReceive true a pend res turn) s fun t =>
      t = s) ∧
  ((∀ (s : State) (n res : Nat), (s.cas.align = none → s.takeResult n res = s) ∧
        (∀ S m dn b, s.cas.align = some (S, m, dn, b) →
          (s.on CAS_STAT.ALIGN_BUSY 0 = false ∨ bit m n = false ∨ bit dn n = true ∨ res = 0 → s.takeResult n res = s)))) ∧
  (∀ (d : Bool) (a : Fin 16) (pend : Bool) (res : Fin 4) (turn : Nat) (s : State),
    s.portState d ≠ 2 →
    Gives (.casStatusReceive d a pend res turn) s fun t =>
      t = s) ∧
  (∀ (w : Wr) (s : State),
    Accepted s w pgCas →
    bits (w.val ||| 1).toNat 0 4 = 1 →
    s.master = true →
    s.on CAS_STAT.ALIGN_BUSY 0 = false ∧ s.tpllState = 1 ∧ s.rd TB_STAT.EPOCH_STATE 0 = 1 ∧ s.cal.run.all (fun r => r.item != 9) = true →
    s.rd CAS_MASK.MASK 0 ≠ 0 ∧ s.portState true = 2 →
    Gives (.casAlign w) s fun t =>
      t.cas = { s.cas with align := some (ceilTo 65536 (s.epoch + 2000000), 2 * s.rd CAS_MASK.MASK 0, 0, false) } ∧
      t.rd CAS_RES.RES 0 = 0 ∧ t.rd CAS_STAT.ALIGN_BUSY 0 = 1 ∧
      ((t.casPort 1).queue = (s.casPort 1).queue ++ ((List.range 16).filter fun n => bit (2 * s.rd CAS_MASK.MASK 0) n).map fun n => (9, [n, ceilTo 65536 (s.epoch + 2000000)])) ∧
      Others s.casPort t.casPort 1 ∧
      FieldsKept s t [(CAS_RES.RES, 0), (CAS_STAT.ALIGN_BUSY, 0), (HOST_STAT.COLLIDE_COUNT, 0)] ∧
      t = { s with chip := { s.chip with regs := t.chip.regs, hostp := t.chip.hostp, cas := t.chip.cas, casPort := t.chip.casPort } }) ∧
  (∀ (w : Wr) (s : State),
    Accepted s w pgCas →
    bits (w.val ||| 1).toNat 0 4 = 1 →
    s.master = true →
    s.on CAS_STAT.ALIGN_BUSY 0 = false ∧ s.tpllState = 1 ∧ s.rd TB_STAT.EPOCH_STATE 0 = 1 ∧ s.cal.run.all (fun r => r.item != 9) = true →
    s.rd CAS_MASK.MASK 0 ≠ 0 ∧ s.portState true ≠ 2 →
    Gives (.casAlign w) s fun t =>
      t.cas = { s.cas with align := some (ceilTo 65536 (s.epoch + 2000000), 2 * s.rd CAS_MASK.MASK 0, 0, false) } ∧
      t.rd CAS_RES.RES 0 = 0 ∧ t.rd CAS_STAT.ALIGN_BUSY 0 = 1 ∧
      FieldsKept s t [(CAS_RES.RES, 0), (CAS_STAT.ALIGN_BUSY, 0), (HOST_STAT.COLLIDE_COUNT, 0)] ∧
      t = { s with chip := { s.chip with regs := t.chip.regs, hostp := t.chip.hostp, cas := t.chip.cas } }) ∧
  (∀ (w : Wr) (s : State),
    Accepted s w pgCas →
    s.master = true →
    s.on CAS_STAT.ALIGN_BUSY 0 = false ∧ s.tpllState = 1 ∧ s.rd TB_STAT.EPOCH_STATE 0 = 1 ∧ s.cal.run.all (fun r => r.item != 9) = true →
    Gives (.casAlign w) s fun t =>
      ∃ u : State,
        (u = (if bit (w.val ||| 1).toNat 2 then (s.collide w.req 0x7044).casRetrain false else s.collide w.req 0x7044)) ∧
        (t = (if bit (w.val ||| 1).toNat 3 then u.casRetrain true else u).alignStart)) ∧
  (∀ (w : Wr) (s : State),
    Accepted s w pgCas →
    bits (w.val ||| 1).toNat 0 4 = 1 →
    s.master = true →
    s.on CAS_STAT.ALIGN_BUSY 0 = false ∧ s.tpllState = 1 ∧ s.rd TB_STAT.EPOCH_STATE 0 = 1 ∧ s.cal.run.all (fun r => r.item != 9) = true →
    s.rd CAS_MASK.MASK 0 = 0 →
    Gives (.casAlign w) s fun t =>
      t.cas = { s.cas with align := some (ceilTo 65536 (s.epoch + 2000000), 0, 0, false) } ∧
      t.rd CAS_RES.RES 0 = 0 ∧ t.rd CAS_STAT.ALIGN_BUSY 0 = 0 ∧
      Raised t pgCas 3 ∧
      FieldsKept s t [(CAS_RES.RES, 0), (CAS_STAT.ALIGN_BUSY, 0), (IRQ_STAT.BITS, pgCas), (HOST_STAT.COLLIDE_COUNT, 0)] ∧
      t = { s with chip := { s.chip with regs := t.chip.regs, hostp := t.chip.hostp, cas := t.chip.cas } }) ∧
  (∀ (w : Wr) (s : State),
    Accepted s w pgCas →
    s.master = false →
    Gives (.casAlign w) s fun t =>
      Refused s t pgCas 2 ∧
      FieldsKept s t [(ERR_CODE.LAST, pgCas), (ERR_CODE.FIRST, pgCas), (ERR_COUNT.COUNT, pgCas), (HOST_STAT.COLLIDE_COUNT, 0)] ∧
      t = { s with chip := { s.chip with regs := t.chip.regs, hostp := t.chip.hostp } }) ∧
  (∀ (w : Wr) (s : State),
    Accepted s w pgCas →
    s.master = true ∧ (s.on CAS_STAT.ALIGN_BUSY 0 = true ∨ s.tpllState ≠ 1 ∨ s.rd TB_STAT.EPOCH_STATE 0 ≠ 1 ∨ s.cal.run.any (fun r => r.item == 9) = true) →
    Gives (.casAlign w) s fun t =>
      Refused s t pgCas 4 ∧
      FieldsKept s t [(ERR_CODE.LAST, pgCas), (ERR_CODE.FIRST, pgCas), (ERR_COUNT.COUNT, pgCas), (HOST_STAT.COLLIDE_COUNT, 0)] ∧
      t = { s with chip := { s.chip with regs := t.chip.regs, hostp := t.chip.hostp } }) ∧
  (∀ (n : Fin 16) (x : BitVec 64) (s : State),
    s.portState false = 2 ∧ (s.casPort 0).named = true ∧ s.master = false →
    n.val = s.ownAddr ∧ s.on CAS_SKEW_UP.VALID 0 = true →
    s.rd TB_STAT.EPOCH_STATE 0 = 0 ∨ s.cas.theta = none →
    s.alignBusy = false →
    Gives (.casAlignMsgReceive n x) s fun t =>
      t.cas = { s.cas with result := 0, target := some { sAt := x.toNat, slew := false, phase := 0, since := s.tb } } ∧
      t = { s with chip := { s.chip with cas := t.chip.cas } }) ∧
  (∀ (n : Fin 16) (x : BitVec 64) (s : State),
    s.portState false = 2 ∧ (s.casPort 0).named = true ∧ s.master = false →
    n.val = s.ownAddr ∧ s.on CAS_SKEW_UP.VALID 0 = true →
    s.rd TB_STAT.EPOCH_STATE 0 = 0 ∨ s.cas.theta = none →
    s.alignBusy = true →
    Gives (.casAlignMsgReceive n x) s fun t =>
      t.cas = { s.cas with result := 2, target := none } ∧
      t = { s with chip := { s.chip with cas := t.chip.cas } }) ∧
  (∀ (n : Fin 16) (x : BitVec 64) (y : Int) (s : State),
    s.portState false = 2 ∧ (s.casPort 0).named = true ∧ s.master = false →
    n.val = s.ownAddr ∧ s.on CAS_SKEW_UP.VALID 0 = true →
    s.rd TB_STAT.EPOCH_STATE 0 ≠ 0 ∧ s.cas.theta = some y ∧ y.natAbs ≤ 1000 →
    Gives (.casAlignMsgReceive n x) s fun t =>
      t.cas = { s.cas with result := 0, target := some { sAt := x.toNat, slew := true, phase := 1, since := s.tb } } ∧
      t = { s with chip := { s.chip with cas := t.chip.cas } }) ∧
  (∀ (n : Fin 16) (x : BitVec 64) (s : State),
    s.portState false = 2 ∧ (s.casPort 0).named = true ∧ s.master = false →
    n.val ≠ s.ownAddr ∧ s.portState true = 2 →
    Gives (.casAlignMsgReceive n x) s fun t =>
      t.casPort 1 = { s.casPort 1 with queue := (s.casPort 1).queue ++ [(9, [n.val, x.toNat])] } ∧
      Others s.casPort t.casPort 1 ∧
      t = { s with chip := { s.chip with casPort := t.chip.casPort } }) ∧
  (∀ (n : Fin 16) (x : BitVec 64) (s : State),
    s.portUsed false = true ∧ s.master = false →
    n.val = s.ownAddr →
    Gives (.casAlignMsgReceive n x) s fun t =>
      ∃ u : State,
        (u = ((s.modCas fun c => { c with result := 0, target := none }).measureUp)) ∧
        (t = (if (s.rd TB_STAT.EPOCH_STATE 0 ≠ 0 ∧ s.cas.theta.any (fun th => decide (th.natAbs ≤ 1000)) = true) then u.modCas (fun c => { c with target := some { sAt := x.toNat, slew := true, phase := 1, since := s.tb } })
          else if s.alignBusy = true then u.modCas (fun c => { c with target := none, result := 2 })
          else u.modCas (fun c => { c with target := some { sAt := x.toNat, slew := false, phase := 0, since := s.tb } })))) ∧
  ((∀ s : State, let t := s.measureUp
        (s.on CAS_SKEW_UP.VALID 0 = true → t = s) ∧
        (s.on CAS_SKEW_UP.VALID 0 = false → t.rd CAS_STAT.MEASURED 0 = 1 ∧ Raised t pgCas 8 ∧ t.cas = { s.cas with measuring := true, echoes := 0, sum := 0 } ∧
          t.casPort 0 = { s.casPort 0 with queue := (s.casPort 0).queue.filter (fun m => m.1 != 4) ++ List.replicate 256 (4, []) } ∧ Others s.casPort t.casPort 0 ∧
          FieldsKept s t [(CAS_STAT.MEASURED, 0), (IRQ_STAT.BITS, pgCas)]))) ∧
  (∀ (n : Fin 16) (x : BitVec 64) (s : State),
    n.val ≠ s.ownAddr ∧ s.portState true ≠ 2 →
    Gives (.casAlignMsgReceive n x) s fun t =>
      t = s) ∧
  (∀ (n : Fin 16) (x : BitVec 64) (s : State),
    s.portUsed false = false ∨ s.master = true →
    Gives (.casAlignMsgReceive n x) s fun t =>
      t = s) ∧
  (∀ (S m dn : Nat) (s : State),
    s.master = true ∧ s.cas.align = some (S, m, dn, false) ∧ S ≤ s.epoch →
    Gives (.syncOutPulse) s fun t =>
      t.cas = { s.cas with align := some (S, m, dn, true) } ∧
      t.chip.out = s.chip.out ++ [.ball "SYNC_OUT" 0 true S, .ball "SYNC_OUT" 0 false (S + 64)] ∧
      t = { s with chip := { s.chip with cas := t.chip.cas, out := t.chip.out } }) ∧
  (∀ (s : State),
    s.master = false ∨ s.cas.align.all (fun a => a.2.2.2 || decide (s.epoch < a.1)) = true →
    Gives (.syncOutPulse) s fun t =>
      t = s) ∧
  (∀ (i : Fin 8) (s : State),
    s.master = false ∧ s.cas.target = none ∧ s.cal.run.all (fun r => r.item != 9) = true →
    Gives (.syncInEdge i) s fun t =>
      t.rd CAS_CLR.STRAY 0 = min 0xFFFF (s.rd CAS_CLR.STRAY 0 + 1) ∧
      FieldsKept s t [(CAS_CLR.STRAY, 0)] ∧
      t = { s with chip := { s.chip with regs := t.chip.regs } }) ∧
  (∀ (i : Fin 8) (s : State),
    s.master = true ∧ s.cal.run.all (fun r => r.item != 9) = true →
    Gives (.syncInEdge i) s fun t =>
      t = s) ∧
  (∀ (i : Fin 8) (r : CalRun) (s : State),
    s.cal.run = some r ∧ r.item = 9 ∧ s.master = true →
    Gives (.syncInEdge i) s fun t =>
      t = s.calEnd r 2) ∧
  (∀ (i : Fin 8) (r : CalRun) (s : State),
    s.cal.run = some r ∧ r.item = 9 ∧ s.master = false ∧ s.cas.target = none →
    Gives (.syncInEdge i) s fun t =>
      t = (s.calEnd r 2).inc CAS_CLR.STRAY 0) ∧
  (∀ (i : Fin 8) (a : CasAlign) (s : State),
    s.master = false ∧ s.cal.run.all (fun r => r.item != 9) = true ∧ s.cas.target = some a ∧ a.phase = 0 →
    s.tb ≤ a.since + 2500000 ∧ s.alignBusy = false →
    Gives (.syncInEdge i) s fun t =>
      t.epoch = (a.sAt * 8 + s.rd CAS_SYNC_DLY.SYNC_DLY 0) / 8 % 2 ^ 64 ∧
      t.cas = { s.cas with counting := true, moved := s.cas.moved + 250 * ((((a.sAt * 8 + s.rd CAS_SYNC_DLY.SYNC_DLY 0) % 8 : Nat) : Int) - (i.val : Int)), target := some { a with phase := 1, jump := (t.epoch : Int) - (s.epoch : Int) } } ∧
      (∃ r ∈ t.recs, r.cls = 0x0D ∧ r.index = s.ownAddr ∧ r.code = 0x130E) ∧
      t.tb = s.tb ∧ t.mem = s.mem ∧ t.pending = s.pending ∧
      ((List.range 256).any (fun l => s.laneState l == 5) = false → t = { s with epoch := t.epoch, chip := { s.chip with regs := t.chip.regs, recs := t.chip.recs, hostp := t.chip.hostp, bank := t.chip.bank, cas := t.chip.cas } })) ∧
  (∀ (i : Fin 8) (a : CasAlign) (s : State),
    s.master = false ∧ s.cal.run.all (fun r => r.item != 9) = true ∧ s.cas.target = some a ∧ a.phase = 0 →
    s.tb ≤ a.since + 2500000 ∧ s.alignBusy = false →
    Gives (.syncInEdge i) s fun t =>
      t = s.alignStep a i.val) ∧
  ((∀ (s : State) (a : CasAlign) (sub : Nat),
        let new := a.sAt * 8 + s.rd CAS_SYNC_DLY.SYNC_DLY 0; let e := new / 8 % 2 ^ 64; let s1 : State := { s with epoch := e }
        let s2 := if new = s.epoch * 8 + sub then s1 else (List.range 256).foldl (fun t l => t.laneStep l) s1
        ∃ u : State, u = s2.banksRestart ∧
          s.alignStep a sub = (u.modCas fun c => { c with counting := true, moved := c.moved + 250 * (((new % 8 : Nat) : Int) - (sub : Int)), target := some { a with phase := 1, jump := (e : Int) - (s.epoch : Int) } }).casRec 0x130E [.tick s.epoch, .tick e])) ∧
  ((∀ (s : State) (l : Fin 256), let p := s.lphy l.val
        let s1 := s.modLphy l.val fun p => { p with leave := p.leave.map fun x => (s.blockAfter l.val s.epoch, x.2), entry := p.entry.map fun _ => ceilTo (s.laneGran l.val) (s.epoch + s.laneBlock l.val) }
        (s.laneState l.val = 5 → s.laneStep l.val = s1.laneGo l.val 6 7) ∧ (s.laneState l.val ≠ 5 → s.laneStep l.val = s1) ∧
        (s.laneState l.val ≠ 5 → p.leave = none → p.entry = none → ∀ m, (s.laneStep l.val).lphy m = s.lphy m))) ∧
  ((∀ s : State, let o := ceilTo 16 (s.epoch + s.h); let t := s.banksRestart
        (∀ b : Fin 8, (s.on SNS_BANK_CFG.EN b.val && !s.on SNS_BANK_CFG.MODE b.val) = true →
          t.rd SNS_BANK_STAT.GRID_VALID b.val = 1 ∧ t.rd64 SNS_BANK_O_LO.O SNS_BANK_O_HI.O b.val = o % 2 ^ 64) ∧
        (∀ b : Fin 8, (s.on SNS_BANK_CFG.EN b.val && !s.on SNS_BANK_CFG.MODE b.val) = false → t.bank b.val = s.bank b.val ∧
          t.rd SNS_BANK_STAT.GRID_VALID b.val = s.rd SNS_BANK_STAT.GRID_VALID b.val))) ∧
  (∀ (i : Fin 8) (a : CasAlign) (s : State),
    s.master = false ∧ s.cal.run.all (fun r => r.item != 9) = true ∧ s.cas.target = some a ∧ a.phase = 0 →
    s.tb ≤ a.since + 2500000 ∧ s.alignBusy = true →
    Gives (.syncInEdge i) s fun t =>
      t.cas = { s.cas with target := none, result := 2 } ∧
      t = { s with chip := { s.chip with cas := t.chip.cas } }) ∧
  (∀ (i : Fin 8) (a : CasAlign) (s : State),
    s.master = false ∧ s.cal.run.all (fun r => r.item != 9) = true ∧ s.cas.target = some a →
    a.phase ≠ 0 ∨ a.since + 2500000 < s.tb →
    Gives (.syncInEdge i) s fun t =>
      t.rd CAS_CLR.STRAY 0 = min 0xFFFF (s.rd CAS_CLR.STRAY 0 + 1) ∧
      FieldsKept s t [(CAS_CLR.STRAY, 0)] ∧
      t = { s with chip := { s.chip with regs := t.chip.regs } }) ∧
  (∀ (a : CasAlign) (s : State),
    s.cas.target = some a ∧ a.phase = 0 ∧ a.since + 2500000 < s.tb →
    Gives (.syncWaitTimeout) s fun t =>
      t.cas = { s.cas with target := none, result := 3, counting := false } ∧
      Raised t pgCas 4 ∧
      Recorded s t 0x0D s.ownAddr 0x1305 ∧
      FieldsKept s t [(IRQ_STAT.BITS, pgCas)] ∧
      t = { s with chip := { s.chip with regs := t.chip.regs, hostp := t.chip.hostp, recs := t.chip.recs, cas := t.chip.cas } }) ∧
  (∀ (s : State),
    s.cas.target.all (fun a => a.phase != 0 || decide (s.tb ≤ a.since + 2500000)) = true →
    Gives (.syncWaitTimeout) s fun t =>
      t = s) ∧
  (∀ (a : CasAlign) (s : State),
    s.cas.target = some a ∧ a.phase = 2 ∧ a.stepAt + 16 ≤ s.tb →
    Gives (.casThetaStep) s fun t =>
      (t.cas = { s.cas with moved := s.cas.moved + (if 0 ≤ a.rest then -10 else 10), target := some { a with rest := if 0 ≤ a.rest then a.rest - 10 else a.rest + 10, stepAt := s.tb, phase := if 5 < (if 0 ≤ a.rest then a.rest - 10 else a.rest + 10).natAbs then 2 else 3 } }) ∧
      t = { s with chip := { s.chip with cas := t.chip.cas } }) ∧
  (∀ (s : State),
    s.cas.target.all (fun a => a.phase != 2 || decide (s.tb < a.stepAt + 16)) = true →
    Gives (.casThetaStep) s fun t =>
      t = s) ∧
  (∀ (S m dn : Nat) (b : Bool) (s : State),
    s.cas.align = some (S, m, dn, b) ∧ s.on CAS_STAT.ALIGN_BUSY 0 = true ∧ S + 25000000 ≤ s.epoch →
    Gives (.casAlignTimeout) s fun t =>
      t.rd CAS_STAT.ALIGN_BUSY 0 = 0 ∧
      (t.rd CAS_RES.RES 0 = (List.range 16).foldl (fun v n => if bit m n && !bit dn n then (v - bits v (2 * n) 2 * 4 ^ n + 3 * 4 ^ n) % 2 ^ 32 else v) (s.rd CAS_RES.RES 0)) ∧
      Raised t pgCas 3 ∧
      FieldsKept s t [(CAS_STAT.ALIGN_BUSY, 0), (CAS_RES.RES, 0), (IRQ_STAT.BITS, pgCas)] ∧
      t = { s with chip := { s.chip with regs := t.chip.regs, hostp := t.chip.hostp } }) ∧
  (∀ (s : State),
    s.on CAS_STAT.ALIGN_BUSY 0 = false ∨ s.cas.align.all (fun a => decide (s.epoch < a.1 + 25000000)) = true →
    Gives (.casAlignTimeout) s fun t =>
      t = s) ∧
  (∀ (x : Nat) (s : State),
    s.cas.outAt = some x ∧ x + s.rd CAS_CFG.HOLD_S 0 * 500000000 ≤ s.tb →
    s.on CAS_STAT.ALIGNED 0 = false →
    Gives (.casHoldTimeout) s fun t =>
      t.cas = { s.cas with outAt := none } ∧
      t = { s with chip := { s.chip with cas := t.chip.cas } }) ∧
  (∀ (x : Nat) (s : State),
    s.cas.outAt = some x ∧ x + s.rd CAS_CFG.HOLD_S 0 * 500000000 ≤ s.tb →
    s.on CAS_STAT.ALIGNED 0 = true →
    Gives (.casHoldTimeout) s fun t =>
      t.cas = { s.cas with outAt := none, exceeded := 0 } ∧
      t.rd CAS_STAT.ALIGNED 0 = 0 ∧
      (s.rd TB_STAT.EPOCH_STATE 0 = 1 → t.rd TB_STAT.EPOCH_STATE 0 = 2) ∧
      (∃ r ∈ t.recs, r.cls = 0x0D ∧ r.index = s.ownAddr ∧ r.code = 0x130E) ∧
      t = { s with chip := { s.chip with regs := t.chip.regs, hostp := t.chip.hostp, recs := t.chip.recs, prodq := t.chip.prodq, cas := t.chip.cas } }) ∧
  (∀ (s : State),
    s.cas.outAt.all (fun x => decide (s.tb < x + s.rd CAS_CFG.HOLD_S 0 * 500000000)) = true →
    Gives (.casHoldTimeout) s fun t =>
      t = s)

/-- Tunnels, forwarded records, probes and the cascade counters. GO sends a tunnelled access down the used link and waits, or ends it UNREACHABLE, and is refused for its target or address, on a slave and while one is outstanding with codes 1, 2 and 3; a response ends it with its result and the data of a read, and a slave passes it up; 100 us without one end it; a record from below goes to the master writer, or on up, or is discarded where the buffer has no room; a probe is answered by an echo, and an echo of a skew run or of the device's own measurement is added up, the 256th of the latter giving d_UP; CLR clears the counters of the cascade; under other conditions nothing happens. Where the rules leave room the clauses state the model's readings (log entries 3 and 39) -/
def Obligations.CascadeTransport : Prop :=
  (∀ (w : Wr) (s : State),
    Accepted s w pgCas →
    s.master = true ∧ s.on CAS_TUN_STAT.BUSY 0 = false ∧ bits (w.val ||| 0x80000000).toNat 16 4 ≠ 0 ∧ (bit (w.val ||| 0x80000000).toNat 24 = true ∨ s.rd CAS_TUN_ADDR.ADDR 0 < 2 ^ 22) →
    s.portUsed true = true →
    Gives (.casTunGo w) s fun t =>
      t.rd CAS_TUN_CTL.WIN 0 = bits (w.val ||| 0x80000000).toNat 24 1 ∧ t.rd CAS_TUN_CTL.TARGET 0 = bits (w.val ||| 0x80000000).toNat 16 4 ∧ t.rd CAS_TUN_CTL.WRITE 0 = bits (w.val ||| 0x80000000).toNat 8 1 ∧
      t.rd CAS_TUN_STAT.BUSY 0 = 1 ∧ t.rd CAS_TUN_STAT.RESULT 0 = 0 ∧
      t.cas = { s.cas with tunAt := some s.tb } ∧
      t.casPort 1 = { s.casPort 1 with queue := (s.casPort 1).queue ++ [(6, [bits (w.val ||| 0x80000000).toNat 16 4, bits (w.val ||| 0x80000000).toNat 24 1, bits (w.val ||| 0x80000000).toNat 8 1, s.rd CAS_TUN_ADDR.ADDR 0, s.rd CAS_TUN_WDATA.WDATA 0])] } ∧
      Others s.casPort t.casPort 1 ∧
      FieldsKept s t [(CAS_TUN_CTL.WIN, 0), (CAS_TUN_CTL.TARGET, 0), (CAS_TUN_CTL.WRITE, 0), (CAS_TUN_STAT.BUSY, 0), (CAS_TUN_STAT.RESULT, 0), (HOST_STAT.COLLIDE_COUNT, 0)] ∧
      t = { s with chip := { s.chip with regs := t.chip.regs, hostp := t.chip.hostp, cas := t.chip.cas, casPort := t.chip.casPort } }) ∧
  (∀ (w : Wr) (s : State),
    Accepted s w pgCas →
    s.master = true ∧ s.on CAS_TUN_STAT.BUSY 0 = false ∧ bits (w.val ||| 0x80000000).toNat 16 4 ≠ 0 ∧ (bit (w.val ||| 0x80000000).toNat 24 = true ∨ s.rd CAS_TUN_ADDR.ADDR 0 < 2 ^ 22) →
    s.portUsed true = false →
    Gives (.casTunGo w) s fun t =>
      t.rd CAS_TUN_CTL.WIN 0 = bits (w.val ||| 0x80000000).toNat 24 1 ∧ t.rd CAS_TUN_CTL.TARGET 0 = bits (w.val ||| 0x80000000).toNat 16 4 ∧ t.rd CAS_TUN_CTL.WRITE 0 = bits (w.val ||| 0x80000000).toNat 8 1 ∧
      t.rd CAS_TUN_STAT.BUSY 0 = 0 ∧ t.rd CAS_TUN_STAT.RESULT 0 = 3 ∧
      t.cas = { s.cas with tunAt := none } ∧
      Raised t pgCas 11 ∧
      FieldsKept s t [(CAS_TUN_CTL.WIN, 0), (CAS_TUN_CTL.TARGET, 0), (CAS_TUN_CTL.WRITE, 0), (CAS_TUN_STAT.BUSY, 0), (CAS_TUN_STAT.RESULT, 0), (HOST_STAT.COLLIDE_COUNT, 0), (IRQ_STAT.BITS, pgCas)] ∧
      t = { s with chip := { s.chip with regs := t.chip.regs, hostp := t.chip.hostp, cas := t.chip.cas } }) ∧
  (∀ (w : Wr) (s : State),
    Accepted s w pgCas →
    bits (w.val ||| 0x80000000).toNat 16 4 = 0 ∨ (bit (w.val ||| 0x80000000).toNat 24 = false ∧ 2 ^ 22 ≤ s.rd CAS_TUN_ADDR.ADDR 0) →
    Gives (.casTunGo w) s fun t =>
      Refused s t pgCas 1 ∧
      FieldsKept s t [(ERR_CODE.LAST, pgCas), (ERR_CODE.FIRST, pgCas), (ERR_COUNT.COUNT, pgCas), (HOST_STAT.COLLIDE_COUNT, 0)] ∧
      t = { s with chip := { s.chip with regs := t.chip.regs, hostp := t.chip.hostp } }) ∧
  (∀ (w : Wr) (s : State),
    Accepted s w pgCas →
    bits (w.val ||| 0x80000000).toNat 16 4 ≠ 0 ∧ (bit (w.val ||| 0x80000000).toNat 24 = true ∨ s.rd CAS_TUN_ADDR.ADDR 0 < 2 ^ 22) →
    s.master = false →
    Gives (.casTunGo w) s fun t =>
      Refused s t pgCas 2 ∧
      FieldsKept s t [(ERR_CODE.LAST, pgCas), (ERR_CODE.FIRST, pgCas), (ERR_COUNT.COUNT, pgCas), (HOST_STAT.COLLIDE_COUNT, 0)] ∧
      t = { s with chip := { s.chip with regs := t.chip.regs, hostp := t.chip.hostp } }) ∧
  (∀ (w : Wr) (s : State),
    Accepted s w pgCas →
    bits (w.val ||| 0x80000000).toNat 16 4 ≠ 0 ∧ (bit (w.val ||| 0x80000000).toNat 24 = true ∨ s.rd CAS_TUN_ADDR.ADDR 0 < 2 ^ 22) →
    s.master = true ∧ s.on CAS_TUN_STAT.BUSY 0 = true →
    Gives (.casTunGo w) s fun t =>
      Refused s t pgCas 3 ∧
      FieldsKept s t [(ERR_CODE.LAST, pgCas), (ERR_CODE.FIRST, pgCas), (ERR_COUNT.COUNT, pgCas), (HOST_STAT.COLLIDE_COUNT, 0)] ∧
      t = { s with chip := { s.chip with regs := t.chip.regs, hostp := t.chip.hostp } }) ∧
  (∀ (r : Fin 4) (x : Word) (s : State),
    s.portUsed true = true ∧ s.master = true ∧ s.cas.tunAt.isSome = true →
    r.val = 1 ∧ s.on CAS_TUN_CTL.WRITE 0 = false →
    Gives (.casTunResponse r x) s fun t =>
      t.rd CAS_TUN_STAT.BUSY 0 = 0 ∧ t.rd CAS_TUN_STAT.RESULT 0 = 1 ∧
      t.cas = { s.cas with tunAt := none } ∧
      Raised t pgCas 11 ∧
      t.rd CAS_TUN_RDATA.RDATA 0 = x.toNat ∧
      FieldsKept s t [(CAS_TUN_STAT.BUSY, 0), (CAS_TUN_STAT.RESULT, 0), (IRQ_STAT.BITS, pgCas), (CAS_TUN_RDATA.RDATA, 0)] ∧
      t = { s with chip := { s.chip with regs := t.chip.regs, hostp := t.chip.hostp, cas := t.chip.cas } }) ∧
  (∀ (r : Fin 4) (x : Word) (s : State),
    s.portUsed true = true ∧ s.master = true ∧ s.cas.tunAt.isSome = true →
    (r.val = 1 ∧ s.on CAS_TUN_CTL.WRITE 0 = true) ∨ 2 ≤ r.val →
    Gives (.casTunResponse r x) s fun t =>
      t.rd CAS_TUN_STAT.BUSY 0 = 0 ∧ t.rd CAS_TUN_STAT.RESULT 0 = r.val ∧
      t.cas = { s.cas with tunAt := none } ∧
      Raised t pgCas 11 ∧
      FieldsKept s t [(CAS_TUN_STAT.BUSY, 0), (CAS_TUN_STAT.RESULT, 0), (IRQ_STAT.BITS, pgCas)] ∧
      t = { s with chip := { s.chip with regs := t.chip.regs, hostp := t.chip.hostp, cas := t.chip.cas } }) ∧
  (∀ (r : Fin 4) (x : Word) (s : State),
    s.portUsed true = true ∧ s.master = false ∧ s.portState false = 2 →
    Gives (.casTunResponse r x) s fun t =>
      t.casPort 0 = { s.casPort 0 with queue := (s.casPort 0).queue ++ [(7, [r.val, x.toNat])] } ∧
      Others s.casPort t.casPort 0 ∧
      t = { s with chip := { s.chip with casPort := t.chip.casPort } }) ∧
  (∀ (r : Fin 4) (x : Word) (s : State),
    s.portUsed true = false ∨ (s.master = true ∧ (s.cas.tunAt = none ∨ r.val = 0)) ∨ (s.master = false ∧ s.portState false ≠ 2) →
    Gives (.casTunResponse r x) s fun t =>
      t = s) ∧
  (∀ (x : Nat) (s : State),
    s.cas.tunAt = some x ∧ x + 50000 ≤ s.tb →
    Gives (.casTunTimeout) s fun t =>
      t.rd CAS_TUN_STAT.BUSY 0 = 0 ∧ t.rd CAS_TUN_STAT.RESULT 0 = 4 ∧
      t.cas = { s.cas with tunAt := none } ∧
      Raised t pgCas 11 ∧
      FieldsKept s t [(CAS_TUN_STAT.BUSY, 0), (CAS_TUN_STAT.RESULT, 0), (IRQ_STAT.BITS, pgCas)] ∧
      t = { s with chip := { s.chip with regs := t.chip.regs, hostp := t.chip.hostp, cas := t.chip.cas } }) ∧
  (∀ (s : State),
    s.cas.tunAt.all (fun x => decide (s.tb < x + 50000)) = true →
    Gives (.casTunTimeout) s fun t =>
      t = s) ∧
  (∀ (b : BitVec 256) (s : State),
    s.portUsed true = true ∧ s.master = true →
    Gives (.casJrnReceive b) s fun t =>
      (t.recs = s.recs ++ [recOf ((List.range 8).map fun i => b.toNat / 2 ^ (32 * i) % 2 ^ 32)]) ∧
      t = { s with chip := { s.chip with recs := t.chip.recs } }) ∧
  (∀ (b : BitVec 256) (s : State),
    s.portUsed true = true ∧ s.master = false ∧ s.jrnUpRoom (recOf ((List.range 8).map fun i => b.toNat / 2 ^ (32 * i) % 2 ^ 32)).cls = true →
    Gives (.casJrnReceive b) s fun t =>
      (t.journal = { s.journal with up := s.journal.up ++ [(List.range 8).map fun i => b.toNat / 2 ^ (32 * i) % 2 ^ 32] }) ∧
      t = { s with chip := { s.chip with journal := t.chip.journal } }) ∧
  (∀ (b : BitVec 256) (s : State),
    s.portUsed true = true ∧ s.master = false ∧ s.jrnUpRoom (recOf ((List.range 8).map fun i => b.toNat / 2 ^ (32 * i) % 2 ^ 32)).cls = false →
    Gives (.casJrnReceive b) s fun t =>
      t.rd JRN_LOST.LOST 0 = min JRN_LOST.LOST.max (s.rd JRN_LOST.LOST 0 + 1) ∧
      (t.journal = { s.journal with lost := s.journal.lost + 1, first := if s.journal.lost = 0 then b.toNat % 2 ^ 64 else s.journal.first, last := b.toNat % 2 ^ 64, classes := s.journal.classes ||| 2 ^ (b.toNat / 2 ^ 80 % 256) }) ∧
      (s.journal.lost = 0 → Raised t pgJrn 1) ∧
      FieldsKept s t [(JRN_LOST.LOST, 0), (IRQ_STAT.BITS, pgJrn)] ∧
      t = { s with chip := { s.chip with regs := t.chip.regs, hostp := t.chip.hostp, journal := t.chip.journal } }) ∧
  ((∀ (s : State) (c : Nat), s.jrnUpRoom c = true ↔
        (s.journal.lost = 0 ∧ s.journal.up.length < 1023 * 126) ∨ ((c = 0 ∨ c = 7) ∧ s.journal.up.length < 1024 * 126))) ∧
  (∀ (b : BitVec 256) (s : State),
    s.portUsed true = false →
    Gives (.casJrnReceive b) s fun t =>
      t = s) ∧
  (∀ (d : Bool) (s : State),
    s.portUsed d = true →
    Gives (.casProbeReceive d) s fun t =>
      t.casPort (portNo d) = { s.casPort (portNo d) with queue := (s.casPort (portNo d)).queue ++ [(5, [])] } ∧
      Others s.casPort t.casPort (portNo d) ∧
      t = { s with chip := { s.chip with casPort := t.chip.casPort } }) ∧
  (∀ (d : Bool) (s : State),
    s.portUsed d = false →
    Gives (.casProbeReceive d) s fun t =>
      t = s) ∧
  (∀ (d : Bool) (n : Nat) (s : State),
    s.portUsed d = true ∧ s.skewOn d = true ∧ s.cas.echoes < 256 →
    Gives (.casEchoReceive d n) s fun t =>
      t.cas = { s.cas with echoes := s.cas.echoes + 1, sum := s.cas.sum + ((n : Int) - ((s.casPort (portNo d)).turn : Nat) - Config.skewK) } ∧
      t = { s with chip := { s.chip with cas := t.chip.cas } }) ∧
  (∀ (d : Bool) (n : Nat) (s : State),
    s.portUsed d = false ∨ 256 ≤ s.cas.echoes ∨ (s.skewOn d = false ∧ (s.cas.measuring && !d) = false) →
    Gives (.casEchoReceive d n) s fun t =>
      t = s) ∧
  (∀ (n : Nat) (s : State),
    s.portUsed false = true ∧ s.skewOn false = false ∧ s.cas.measuring = true ∧ s.cas.echoes < 255 →
    Gives (.casEchoReceive false n) s fun t =>
      t.cas = { s.cas with echoes := s.cas.echoes + 1, sum := s.cas.sum + ((n : Int) - ((s.casPort 0).turn : Nat) - Config.skewK) } ∧
      t = { s with chip := { s.chip with cas := t.chip.cas } }) ∧
  (∀ (n : Nat) (s : State),
    s.portUsed false = true ∧ s.skewOn false = false ∧ s.cas.measuring = true ∧ s.cas.echoes = 255 →
    Gives (.casEchoReceive false n) s fun t =>
      t.cas = { s.cas with echoes := 256, sum := s.cas.sum + ((n : Int) - ((s.casPort 0).turn : Nat) - Config.skewK), measuring := false } ∧
      t.rd CAS_SKEW_UP.D_PS 0 = unsigned 32 (roundDiv (s.cas.sum + ((n : Int) - ((s.casPort 0).turn : Nat) - Config.skewK)) 512) % 2 ^ 16 ∧ t.rd CAS_SKEW_UP.VALID 0 = 0 ∧ t.rd CAS_STAT.SKEW_VALID 0 = 0 ∧
      (20000 < signed 32 (unsigned 32 (roundDiv (s.cas.sum + ((n : Int) - ((s.casPort 0).turn : Nat) - Config.skewK)) 512)) → Raised t pgCas 12) ∧
      FieldsKept s t [(CAS_SKEW_UP.D_PS, 0), (CAS_SKEW_UP.VALID, 0), (CAS_STAT.SKEW_VALID, 0), (IRQ_STAT.BITS, pgCas)] ∧
      t = { s with chip := { s.chip with regs := t.chip.regs, hostp := t.chip.hostp, cas := t.chip.cas } }) ∧
  (∀ (w : Wr) (s : State),
    Accepted s w pgCas →
    Gives (.casClr w) s fun t =>
      t.rd CAS_THETA.THETA 0 = 0 ∧ t.rd CAS_THETA.MAX_ABS 0 = 0 ∧ t.rd CAS_FF.FF_LOST 0 = 0 ∧ t.rd CAS_FF.FF_TX 0 = 0 ∧ t.rd CAS_LINK.UP_DOWNS 0 = 0 ∧ t.rd CAS_LINK.DN_DOWNS 0 = 0 ∧ t.rd CAS_CLR.STRAY 0 = 0 ∧
      FieldsKept s t [(CAS_THETA.THETA, 0), (CAS_THETA.MAX_ABS, 0), (CAS_FF.FF_LOST, 0), (CAS_FF.FF_TX, 0), (CAS_LINK.UP_DOWNS, 0), (CAS_LINK.DN_DOWNS, 0), (CAS_CLR.STRAY, 0), (HOST_STAT.COLLIDE_COUNT, 0)] ∧
      t = { s with chip := { s.chip with regs := t.chip.regs, hostp := t.chip.hostp } })

/-- The journal: records, blocks and seals. The oldest record reaches the writer, which drops what R495 keeps out, counts the rest but for those another device has counted, places it in the open block, sends it up the chain, or discards it without room and tells of the first loss, the last block being kept for the classes JOURNAL and SEC; the 126th record, FLUSH and SEAL_MS seal the block; a seal ends with the MAC of the journal key, or UNSEALED without one, and with RING_EN the oldest sealed block is posted on channel 63 where it is free; EN starts the chain of a power-on once, with BSEQ 0 and its own record, on a device that does not forward; RING_EN takes channel 63 over; a SEAL_MS out of range, and FWD beside RING_EN, are refused with code 1; CNT_CLR clears the count of losses; without a record, or with EN 0, nothing happens. Where the rules leave room the clauses state the model's readings (log entries 3, 26, 27 and 30) -/
def Obligations.JournalRecords : Prop :=
  (∀ (x : Rec) (r : List Rec) (s : State),
    s.recs = x :: r ∧ s.on JRN_CFG.EN 0 = true →
    x.forwarded = false ∧ s.jrnPasses x = false →
    Gives (.jrnRecord) s fun t =>
      t.recs = r ∧
      t = { s with chip := { s.chip with recs := t.chip.recs } }) ∧
  (∀ (x : Rec) (r : List Rec) (s : State),
    s.recs = x :: r ∧ s.on JRN_CFG.EN 0 = true →
    x.forwarded = false ∧ s.jrnPasses x = true →
    s.jrnRoom x.cls = true ∧ s.jrnFwd = false ∧ s.journal.fill.length ≠ 125 →
    Gives (.jrnRecord) s fun t =>
      t.recs = r ∧ t.rd JRN_RSEQ.RSEQ 0 = (s.rd JRN_RSEQ.RSEQ 0 + 1) % 2 ^ 32 ∧
      (t.journal = { s.journal with fill := s.journal.fill ++ [({ x with rseq := s.rd JRN_RSEQ.RSEQ 0 } : Rec).dwords], since := if s.journal.fill = [] then s.tb else s.journal.since }) ∧
      FieldsKept s t [(JRN_RSEQ.RSEQ, 0)] ∧
      t = { s with chip := { s.chip with regs := t.chip.regs, recs := t.chip.recs, journal := t.chip.journal } }) ∧
  (∀ (x : Rec) (r : List Rec) (s : State),
    s.recs = x :: r ∧ s.on JRN_CFG.EN 0 = true →
    x.forwarded = false ∧ s.jrnPasses x = true →
    s.jrnRoom x.cls = true ∧ s.jrnFwd = false ∧ s.journal.fill.length = 125 →
    Gives (.jrnRecord) s fun t =>
      t.recs = r ∧ t.rd JRN_RSEQ.RSEQ 0 = (s.rd JRN_RSEQ.RSEQ 0 + 1) % 2 ^ 32 ∧
      t.journal = { s.journal with sealing := s.journal.sealing ++ [{ recs := s.journal.fill ++ [({ x with rseq := s.rd JRN_RSEQ.RSEQ 0 } : Rec).dwords], bseq := s.journal.bseq, chain := s.journal.chain }], fill := [], bseq := (s.journal.bseq + 1) % 2 ^ 64 } ∧
      FieldsKept s t [(JRN_RSEQ.RSEQ, 0)] ∧
      t = { s with chip := { s.chip with regs := t.chip.regs, recs := t.chip.recs, journal := t.chip.journal } }) ∧
  (∀ (x : Rec) (r : List Rec) (s : State),
    s.recs = x :: r ∧ s.on JRN_CFG.EN 0 = true →
    x.forwarded = false ∧ s.jrnPasses x = true →
    s.jrnRoom x.cls = true ∧ s.jrnFwd = true →
    Gives (.jrnRecord) s fun t =>
      t.recs = r ∧ t.rd JRN_RSEQ.RSEQ 0 = (s.rd JRN_RSEQ.RSEQ 0 + 1) % 2 ^ 32 ∧
      t.journal = { s.journal with up := s.journal.up ++ [({ x with rseq := s.rd JRN_RSEQ.RSEQ 0 } : Rec).dwords] } ∧
      FieldsKept s t [(JRN_RSEQ.RSEQ, 0)] ∧
      t = { s with chip := { s.chip with regs := t.chip.regs, recs := t.chip.recs, journal := t.chip.journal } }) ∧
  (∀ (x : Rec) (r : List Rec) (s : State),
    s.recs = x :: r ∧ s.on JRN_CFG.EN 0 = true →
    x.forwarded = false ∧ s.jrnPasses x = true →
    s.jrnRoom x.cls = false →
    Gives (.jrnRecord) s fun t =>
      t.recs = r ∧ t.rd JRN_RSEQ.RSEQ 0 = (s.rd JRN_RSEQ.RSEQ 0 + 1) % 2 ^ 32 ∧
      t.rd JRN_LOST.LOST 0 = min 0xFFFFFFFF (s.rd JRN_LOST.LOST 0 + 1) ∧
      (t.journal = { s.journal with lost := s.journal.lost + 1, first := if s.journal.lost = 0 then x.stamp else s.journal.first, last := x.stamp, classes := s.journal.classes ||| 2 ^ x.cls }) ∧
      (s.journal.lost = 0 → Raised t pgJrn 1) ∧
      FieldsKept s t [(JRN_RSEQ.RSEQ, 0), (JRN_LOST.LOST, 0), (IRQ_STAT.BITS, pgJrn)] ∧
      t = { s with chip := { s.chip with regs := t.chip.regs, hostp := t.chip.hostp, recs := t.chip.recs, journal := t.chip.journal } }) ∧
  (∀ (x : Rec) (r : List Rec) (s : State),
    s.recs = x :: r ∧ s.on JRN_CFG.EN 0 = true →
    x.forwarded = true ∧ s.jrnRoom x.cls = true ∧ s.jrnFwd = false ∧ s.journal.fill.length ≠ 125 →
    Gives (.jrnRecord) s fun t =>
      t.recs = r ∧
      (t.journal = { s.journal with fill := s.journal.fill ++ [x.dwords], since := if s.journal.fill = [] then s.tb else s.journal.since }) ∧
      t = { s with chip := { s.chip with recs := t.chip.recs, journal := t.chip.journal } }) ∧
  (∀ (x : Rec) (r : List Rec) (s : State),
    s.recs = x :: r ∧ s.on JRN_CFG.EN 0 = true ∧ (x.forwarded = true ∨ s.jrnPasses x = true) →
    Gives (.jrnRecord) s fun t =>
      t = (s.setRecs r).jrnTake x) ∧
  ((∀ (s : State) (x : Rec),
        let y : Rec := if x.forwarded then x else { x with rseq := s.rd JRN_RSEQ.RSEQ 0 }; let t := s.jrnTake x
        t.rd JRN_RSEQ.RSEQ 0 = (if x.forwarded then s.rd JRN_RSEQ.RSEQ 0 else (s.rd JRN_RSEQ.RSEQ 0 + 1) % 2 ^ 32) ∧
        (s.jrnRoom x.cls = true → s.jrnFwd = true → t.journal = { s.journal with up := s.journal.up ++ [y.dwords] } ∧ FieldsKept s t [(JRN_RSEQ.RSEQ, 0)]) ∧
        (s.jrnRoom x.cls = true → s.jrnFwd = false → FieldsKept s t [(JRN_RSEQ.RSEQ, 0)] ∧ t.journal = (if s.journal.fill.length = 125 then
          { s.journal with sealing := s.journal.sealing ++ [{ recs := s.journal.fill ++ [y.dwords], bseq := s.journal.bseq, chain := s.journal.chain }], fill := [], bseq := (s.journal.bseq + 1) % 2 ^ 64 }
          else { s.journal with fill := s.journal.fill ++ [y.dwords], since := if s.journal.fill = [] then s.tb else s.journal.since })) ∧
        (s.jrnRoom x.cls = false → t.rd JRN_LOST.LOST 0 = min 0xFFFFFFFF (s.rd JRN_LOST.LOST 0 + 1) ∧ (s.journal.lost = 0 → Raised t pgJrn 1) ∧
          t.journal = { s.journal with lost := s.journal.lost + 1, first := if s.journal.lost = 0 then x.stamp else s.journal.first, last := x.stamp, classes := s.journal.classes ||| 2 ^ x.cls } ∧
          FieldsKept s t [(JRN_RSEQ.RSEQ, 0), (JRN_LOST.LOST, 0), (IRQ_STAT.BITS, pgJrn)]) ∧
        t = { s with chip := { s.chip with regs := t.chip.regs, hostp := t.chip.hostp, journal := t.chip.journal } })) ∧
  ((∀ (s : State) (x : Rec) (k : Nat),
        (s.jrnPasses x = true ↔ x.cls = 0 ∨ x.cls = 5 ∨ x.cls = 7 ∨ (bit (s.rd JRN_CLASS_EN.CLASS_EN 0) x.cls = true ∧
          (s.on JRN_CFG.WIN_EN 0 = true → ({ t := x.stamp, sub := x.sub, unc := x.unc } : Stamp).inside (s.pair JRN_WIN_OPEN.TICK 0) (s.pair JRN_WIN_CLOSE.TICK 0) = true))) ∧
        (s.jrnFwd = false → (s.jrnRoom k = true ↔ s.journal.blocks.length + s.journal.sealing.length < (if k = 0 ∨ k = 7 then 1024 else 1023))) ∧
        (s.jrnFwd = true → s.jrnRoom k = s.jrnUpRoom k) ∧
        (s.jrnFwd = true ↔ s.on JRN_CFG.FWD 0 = true ∧ s.on CAS_STAT.MASTER 0 = false))) ∧
  (∀ (s : State),
    s.recs = [] ∨ s.on JRN_CFG.EN 0 = false →
    Gives (.jrnRecord) s fun t =>
      t = s) ∧
  (∀ (w : Wr) (s : State),
    Accepted s w pgJrn →
    bits (w.val ||| 2).toNat 0 2 = 2 ∧ s.jrnFwd = false ∧ s.journal.fill ≠ [] →
    Gives (.jrnFlush w) s fun t =>
      t.journal = { s.journal with sealing := s.journal.sealing ++ [{ recs := s.journal.fill, bseq := s.journal.bseq, chain := s.journal.chain }], fill := [], bseq := (s.journal.bseq + 1) % 2 ^ 64 } ∧
      FieldsKept s t [(HOST_STAT.COLLIDE_COUNT, 0)] ∧
      t = { s with chip := { s.chip with regs := t.chip.regs, hostp := t.chip.hostp, journal := t.chip.journal } }) ∧
  (∀ (w : Wr) (s : State),
    Accepted s w pgJrn →
    bits (w.val ||| 2).toNat 0 2 = 2 ∧ (s.jrnFwd = true ∨ s.journal.fill = []) →
    Gives (.jrnFlush w) s fun t =>
      FieldsKept s t [(HOST_STAT.COLLIDE_COUNT, 0)] ∧
      t = { s with chip := { s.chip with regs := t.chip.regs, hostp := t.chip.hostp } }) ∧
  (∀ (w : Wr) (s : State),
    Accepted s w pgJrn →
    bits (w.val ||| 1).toNat 0 2 = 1 →
    Gives (.jrnCntClr w) s fun t =>
      t.rd JRN_LOST.LOST 0 = 0 ∧
      FieldsKept s t [(JRN_LOST.LOST, 0), (HOST_STAT.COLLIDE_COUNT, 0)] ∧
      t = { s with chip := { s.chip with regs := t.chip.regs, hostp := t.chip.hostp } }) ∧
  (∀ (w : Wr) (s : State),
    Accepted s w pgJrn →
    bit w.val.toNat 0 = true ∨ bit w.val.toNat 1 = true →
    Gives (.jrnFlush w) s fun t =>
      (t.journal = (if s.jrnFwd = false ∧ s.journal.fill ≠ [] then { s.journal with sealing := s.journal.sealing ++ [{ recs := s.journal.fill, bseq := s.journal.bseq, chain := s.journal.chain }], fill := [], bseq := (s.journal.bseq + 1) % 2 ^ 64 } else s.journal)) ∧
      (t.rd JRN_LOST.LOST 0 = (if bit w.val.toNat 0 then 0 else s.rd JRN_LOST.LOST 0)) ∧
      FieldsKept s t [(JRN_LOST.LOST, 0), (HOST_STAT.COLLIDE_COUNT, 0)] ∧
      t = { s with chip := { s.chip with regs := t.chip.regs, hostp := t.chip.hostp, journal := t.chip.journal } }) ∧
  (∀ (w : Wr) (s : State),
    Accepted s w pgJrn →
    bit w.val.toNat 1 = true →
    Gives (.jrnCntClr w) s fun t =>
      (t.journal = (if s.jrnFwd = false ∧ s.journal.fill ≠ [] then { s.journal with sealing := s.journal.sealing ++ [{ recs := s.journal.fill, bseq := s.journal.bseq, chain := s.journal.chain }], fill := [], bseq := (s.journal.bseq + 1) % 2 ^ 64 } else s.journal)) ∧
      t.rd JRN_LOST.LOST 0 = 0 ∧
      FieldsKept s t [(JRN_LOST.LOST, 0), (HOST_STAT.COLLIDE_COUNT, 0)] ∧
      t = { s with chip := { s.chip with regs := t.chip.regs, hostp := t.chip.hostp, journal := t.chip.journal } }) ∧
  (∀ (s : State),
    s.journal.fill ≠ [] ∧ s.journal.since + 500000 * s.rd JRN_CFG.SEAL_MS 0 ≤ s.tb →
    Gives (.jrnSealTimer) s fun t =>
      t.journal = { s.journal with sealing := s.journal.sealing ++ [{ recs := s.journal.fill, bseq := s.journal.bseq, chain := s.journal.chain }], fill := [], bseq := (s.journal.bseq + 1) % 2 ^ 64 } ∧
      t = { s with chip := { s.chip with journal := t.chip.journal } }) ∧
  (∀ (s : State),
    s.journal.fill = [] ∨ s.tb < s.journal.since + 500000 * s.rd JRN_CFG.SEAL_MS 0 →
    Gives (.jrnSealTimer) s fun t =>
      t = s) ∧
  (∀ (b : Blk) (l : List Blk) (k : Nat) (s : State),
    s.journal.sealing = b :: l ∧ s.sec.jrn = some k ∧ s.on JRN_CFG.RING_EN 0 = false →
    Gives (.jrnSealDone) s fun t =>
      t.journal = { s.journal with sealing := l, blocks := s.journal.blocks ++ [{ ({ b with keyId := keyIdOf k } : Blk) with mac := leNat (hmacSha256 (leBytes 32 k) (leBytes 32 s.journal.prev ++ ({ b with keyId := keyIdOf k } : Blk).content)) }], prev := leNat (hmacSha256 (leBytes 32 k) (leBytes 32 s.journal.prev ++ ({ b with keyId := keyIdOf k } : Blk).content)), told := false } ∧
      t.rd JRN_STAT.UNSEALED 0 = 0 ∧
      FieldsKept s t [(JRN_STAT.UNSEALED, 0)] ∧
      t = { s with chip := { s.chip with regs := t.chip.regs, journal := t.chip.journal } }) ∧
  (∀ (b : Blk) (l : List Blk) (s : State),
    s.journal.sealing = b :: l ∧ s.sec.jrn = none ∧ s.on JRN_CFG.RING_EN 0 = false →
    Gives (.jrnSealDone) s fun t =>
      t.journal = { s.journal with sealing := l, blocks := s.journal.blocks ++ [{ b with unsealed := true }], prev := 0, told := true } ∧
      t.rd JRN_STAT.UNSEALED 0 = 1 ∧
      (s.journal.told = false → Raised t pgJrn 0) ∧
      FieldsKept s t [(JRN_STAT.UNSEALED, 0), (IRQ_STAT.BITS, pgJrn)] ∧
      t = { s with chip := { s.chip with regs := t.chip.regs, hostp := t.chip.hostp, journal := t.chip.journal } }) ∧
  (∀ (s : State),
    s.journal.sealing = [] ∧ s.on JRN_CFG.RING_EN 0 = false →
    Gives (.jrnSealDone) s fun t =>
      t = s) ∧
  (∀ (s : State),
    s.on JRN_CFG.RING_EN 0 = true →
    Gives (.jrnSealDone) s fun t =>
      t = s.jrnSealOne.jrnPump) ∧
  ((∀ s : State, let free := s.on JRN_CFG.RING_EN 0 && s.rd RFL_STAT.STATE 63 == 1 && !s.on RFL_STAT.SHADOW_FULL 63 && !(s.rflc 63).active && decide (s.jrnInRing < 2 ^ s.rd JRN_RING_SIZE.LOG2 0)
        (free = false ∨ s.journal.blocks = [] → s.jrnPump = s) ∧
        (∀ b l, free = true → s.journal.blocks = b :: l → let t := s.jrnPump
          t.rd RFL_STAT.SHADOW_FULL 63 = 1 ∧ (∀ n : Fin 32, t.rd RFL_SH.SH (32 * 63 + n.val) = nth (blockDesc b.bseq (s.jrnSlot b.bseq)) n.val % 2 ^ 32) ∧
          t = { s with chip := { s.chip with regs := t.chip.regs } }))) ∧
  ((∀ s : State, (s.journal.sealing = [] → s.jrnSealOne = s) ∧
        (∀ b l, s.journal.sealing = b :: l → let t := s.jrnSealOne
          (∀ k, s.sec.jrn = some k → let b1 : Blk := { b with keyId := keyIdOf k }; let m := leNat (hmacSha256 (leBytes 32 k) (leBytes 32 s.journal.prev ++ b1.content))
            t.journal = { s.journal with sealing := l, blocks := s.journal.blocks ++ [{ b1 with mac := m }], prev := m, told := false } ∧ t.rd JRN_STAT.UNSEALED 0 = 0) ∧
          (s.sec.jrn = none → t.journal = { s.journal with sealing := l, blocks := s.journal.blocks ++ [{ b with unsealed := true }], prev := 0, told := true } ∧
            t.rd JRN_STAT.UNSEALED 0 = 1 ∧ (s.journal.told = false → Raised t pgJrn 0)) ∧
          FieldsKept s t [(JRN_STAT.UNSEALED, 0), (IRQ_STAT.BITS, pgJrn)] ∧
          t = { s with chip := { s.chip with regs := t.chip.regs, hostp := t.chip.hostp, journal := t.chip.journal } }))) ∧
  (∀ (b : Blk) (l : List Blk) (s : State),
    s.journal.sealing = [] ∧ s.journal.blocks = b :: l ∧ s.on JRN_CFG.RING_EN 0 = true ∧ s.rd RFL_STAT.STATE 63 = 1 ∧ s.on RFL_STAT.SHADOW_FULL 63 = false →
    (s.rflc 63).active = false ∧ s.jrnInRing < 2 ^ s.rd JRN_RING_SIZE.LOG2 0 →
    Gives (.jrnSealDone) s fun t =>
      t.rd RFL_STAT.SHADOW_FULL 63 = 1 ∧
      (∀ n : Fin 32, t.rd RFL_SH.SH (32 * 63 + n.val) = nth (blockDesc b.bseq (s.jrnSlot b.bseq)) n.val % 2 ^ 32) ∧
      t = { s with chip := { s.chip with regs := t.chip.regs } }) ∧
  (∀ (w : Wr) (s : State),
    Accepted s w pgJrn →
    1 ≤ bits (w.val ||| 0x80000000).toNat 0 16 ∧ bits (w.val ||| 0x80000000).toNat 0 16 ≤ 60000 →
    bit (w.val ||| 0x80000000).toNat 29 = false ∧ (bit (w.val ||| 0x80000000).toNat 30 = false ∨ s.on JRN_CFG.RING_EN 0 = true) ∧ s.journal.started = false ∧ s.journal.fill = [] ∧ s.jrnUsed < 1024 →
    Gives (.jrnEnable w) s fun t =>
      t.rd JRN_CFG.EN 0 = 1 ∧ t.rd JRN_CFG.RING_EN 0 = bits (w.val ||| 0x80000000).toNat 30 1 ∧ t.rd JRN_CFG.FWD 0 = bits (w.val ||| 0x80000000).toNat 29 1 ∧ t.rd JRN_CFG.WIN_EN 0 = bits (w.val ||| 0x80000000).toNat 28 1 ∧ t.rd JRN_CFG.SEAL_MS 0 = bits (w.val ||| 0x80000000).toNat 0 16 ∧
      t.journal.started = true ∧ t.journal.chain = Config.free s.freeCtr % 2 ^ 64 ∧ t.journal.bseq = 0 ∧ t.journal.prev = 0 ∧
      t.freeCtr = s.freeCtr + 1 ∧
      (t.journal.fill.map (fun d => (nth d 3 / 65536, nth d 4, nth d 5)) = [(0x1401, t.journal.chain % 2 ^ 32, t.journal.chain / 2 ^ 32)]) ∧
      t.rd JRN_RSEQ.RSEQ 0 = (s.rd JRN_RSEQ.RSEQ 0 + 1) % 2 ^ 32 ∧
      FieldsKept s t [(JRN_CFG.EN, 0), (JRN_CFG.RING_EN, 0), (JRN_CFG.FWD, 0), (JRN_CFG.WIN_EN, 0), (JRN_CFG.SEAL_MS, 0), (JRN_RSEQ.RSEQ, 0), (HOST_STAT.COLLIDE_COUNT, 0)] ∧
      t = { s with chip := { s.chip with regs := t.chip.regs, hostp := t.chip.hostp, journal := t.chip.journal, freeCtr := t.chip.freeCtr } }) ∧
  (∀ (w : Wr) (s : State),
    Accepted s w pgJrn →
    1 ≤ bits (w.val ||| 0x80000000).toNat 0 16 ∧ bits (w.val ||| 0x80000000).toNat 0 16 ≤ 60000 →
    (bit (w.val ||| 0x80000000).toNat 29 && bit (w.val ||| 0x80000000).toNat 30) = false ∧ (bit (w.val ||| 0x80000000).toNat 30 = false ∨ s.on JRN_CFG.RING_EN 0 = true) ∧ s.journal.started = true →
    Gives (.jrnEnable w) s fun t =>
      t.rd JRN_CFG.EN 0 = 1 ∧ t.rd JRN_CFG.RING_EN 0 = bits (w.val ||| 0x80000000).toNat 30 1 ∧ t.rd JRN_CFG.FWD 0 = bits (w.val ||| 0x80000000).toNat 29 1 ∧ t.rd JRN_CFG.WIN_EN 0 = bits (w.val ||| 0x80000000).toNat 28 1 ∧ t.rd JRN_CFG.SEAL_MS 0 = bits (w.val ||| 0x80000000).toNat 0 16 ∧
      FieldsKept s t [(JRN_CFG.EN, 0), (JRN_CFG.RING_EN, 0), (JRN_CFG.FWD, 0), (JRN_CFG.WIN_EN, 0), (JRN_CFG.SEAL_MS, 0), (HOST_STAT.COLLIDE_COUNT, 0)] ∧
      t = { s with chip := { s.chip with regs := t.chip.regs, hostp := t.chip.hostp } }) ∧
  (∀ (w : Wr) (s : State),
    Accepted s w pgJrn →
    1 ≤ bits (w.val ||| 0x80000000).toNat 0 16 ∧ bits (w.val ||| 0x80000000).toNat 0 16 ≤ 60000 →
    bit (w.val ||| 0x80000000).toNat 29 = false ∧ bit (w.val ||| 0x80000000).toNat 30 = true ∧ s.on JRN_CFG.RING_EN 0 = false ∧ s.journal.started = true ∧ s.journal.blocks = [] →
    Gives (.jrnEnable w) s fun t =>
      t.rd JRN_CFG.EN 0 = 1 ∧ t.rd JRN_CFG.RING_EN 0 = bits (w.val ||| 0x80000000).toNat 30 1 ∧ t.rd JRN_CFG.FWD 0 = bits (w.val ||| 0x80000000).toNat 29 1 ∧ t.rd JRN_CFG.WIN_EN 0 = bits (w.val ||| 0x80000000).toNat 28 1 ∧ t.rd JRN_CFG.SEAL_MS 0 = bits (w.val ||| 0x80000000).toNat 0 16 ∧
      t.rd RFL_CFG.EN 63 = 1 ∧ t.rd RFL_CFG.MODE 63 = 1 ∧ t.rd RFL_CFG.PRIO 63 = 1 ∧
      (t.rd RFL_STAT.STATE 63 = (if s.rd RFL_STAT.STATE 63 = 0 then 1 else s.rd RFL_STAT.STATE 63)) ∧
      FieldsKept s t [(JRN_CFG.EN, 0), (JRN_CFG.RING_EN, 0), (JRN_CFG.FWD, 0), (JRN_CFG.WIN_EN, 0), (JRN_CFG.SEAL_MS, 0), (RFL_CFG.EN, 63), (RFL_CFG.MODE, 63), (RFL_CFG.PRIO, 63), (RFL_STAT.STATE, 63), (HOST_STAT.COLLIDE_COUNT, 0)] ∧
      t = { s with chip := { s.chip with regs := t.chip.regs, hostp := t.chip.hostp } }) ∧
  (∀ (w : Wr) (s : State),
    Accepted s w pgJrn →
    1 ≤ bits (w.val ||| 0x80000000).toNat 0 16 ∧ bits (w.val ||| 0x80000000).toNat 0 16 ≤ 60000 ∧ (bit (w.val ||| 0x80000000).toNat 29 && bit (w.val ||| 0x80000000).toNat 30) = false →
    Gives (.jrnEnable w) s fun t =>
      ∃ u : State,
        u = (((((s.collide w.req 0x6040).wr JRN_CFG.EN 0 1).wr JRN_CFG.RING_EN 0 (bits (w.val ||| 0x80000000).toNat 30 1)).wr JRN_CFG.FWD 0 (bits (w.val ||| 0x80000000).toNat 29 1)).wr JRN_CFG.WIN_EN 0 (bits (w.val ||| 0x80000000).toNat 28 1)).wr JRN_CFG.SEAL_MS 0 (bits (w.val ||| 0x80000000).toNat 0 16) ∧
        (t = (if bit (w.val ||| 0x80000000).toNat 30 = true ∧ s.on JRN_CFG.RING_EN 0 = false then (if u.jrnFwd = false ∧ s.journal.started = false then u.jrnStart else u).jrnTakeRing else (if u.jrnFwd = false ∧ s.journal.started = false then u.jrnStart else u)))) ∧
  ((∀ s : State, let id := Config.free s.freeCtr % 2 ^ 64
        ∃ u : State, u = { s with chip := { s.chip with freeCtr := s.freeCtr + 1, journal := { s.journal with started := true, chain := id, bseq := 0, prev := 0 } } } ∧
          s.jrnStart = u.jrnTake { stamp := s.epoch, sub := 0, unc := s.unc, origin := s.rd CAS_STAT.ADDR 0, cls := 0, index := 0, code := 0x1401, data := [id % 2 ^ 32, id / 2 ^ 32 % 2 ^ 32, 0, 0] })) ∧
  ((∀ s : State, ∃ u : State, s.jrnTakeRing = u.jrnPump ∧ u.rd RFL_CFG.EN 63 = 1 ∧ u.rd RFL_CFG.MODE 63 = 1 ∧ u.rd RFL_CFG.PRIO 63 = 1 ∧
        u.rd RFL_STAT.STATE 63 = (if s.rd RFL_STAT.STATE 63 = 0 then 1 else s.rd RFL_STAT.STATE 63) ∧
        FieldsKept s u [(RFL_CFG.EN, 63), (RFL_CFG.MODE, 63), (RFL_CFG.PRIO, 63), (RFL_STAT.STATE, 63)] ∧ u = { s with chip := { s.chip with regs := u.chip.regs } })) ∧
  (∀ (w : Wr) (s : State),
    Accepted s w pgJrn →
    bits (w.val ||| 0x80000000).toNat 0 16 = 0 ∨ 60000 < bits (w.val ||| 0x80000000).toNat 0 16 ∨ (bit (w.val ||| 0x80000000).toNat 29 && bit (w.val ||| 0x80000000).toNat 30) = true →
    Gives (.jrnEnable w) s fun t =>
      Refused s t pgJrn 1 ∧
      FieldsKept s t [(ERR_CODE.LAST, pgJrn), (ERR_CODE.FIRST, pgJrn), (ERR_COUNT.COUNT, pgJrn), (HOST_STAT.COLLIDE_COUNT, 0)] ∧
      t = { s with chip := { s.chip with regs := t.chip.regs, hostp := t.chip.hostp } })

/-- The key vault and debug access. UNWRAP stores the key that the blob holds under the key-encryption key of the slot, with its KEYID, or says that it is bad; WRAP puts the blob of the key in SEC_BLOB and clears the key; both are refused with the root key revoked or blocked with codes 2 and 3, and WRAP and the opens with the lock closed with code 0x101; ERASE completes the seals, seals the open block with the old key, zeroes both slots, ends the running decryptions, and says so when the slots read back zero; an open of the session grade places its record, erases the vault, blocks the root key and enters DEBUG, unless the read-back fails, which is told; opens are refused while an engine or a channel is busy and in other states of the device with codes 4 and 7; a permanent open needs a second request 1 s to 10 s later with the device identifier, else it is refused with code 5 and the first lapses; the TAP asks in the same way and holds the code; a first request lapses after 10 s. Where the rules leave room the clauses state the model's readings (log entries 3, 26, 27 and 30) -/
def Obligations.KeyVaultAndDebug : Prop :=
  (∀ (w : Wr) (s : State),
    Accepted s w pgSec →
    s.on SEC_STAT.REVOKED 0 = false ∧ s.on SEC_STAT.RK_BLOCKED 0 = false →
    Gives (.secUnwrap w) s fun t =>
      (∀ bs, keyUnwrap (slotKek (bits (secWr w 1).val.toNat 8 1)) ((List.range 10).flatMap fun n => dwordBytes (s.rd SEC_BLOB.BLOB n)) = some bs → t.sec = (if bits (secWr w 1).val.toNat 8 1 = 0 then { s.sec with jrn := some (leNat bs) } else { s.sec with lib := some (leNat bs) }) ∧ t.rd (if bits (secWr w 1).val.toNat 8 1 = 0 then SEC_STAT.JRN_PRESENT else SEC_STAT.LIB_PRESENT) 0 = 1 ∧ t.rd SEC_KEYID.KEYID (bits (secWr w 1).val.toNat 8 1) = keyIdOf (leNat bs) % 2 ^ 32 ∧ Raised t pgSec 0) ∧
      (keyUnwrap (slotKek (bits (secWr w 1).val.toNat 8 1)) ((List.range 10).flatMap fun n => dwordBytes (s.rd SEC_BLOB.BLOB n)) = none → t.sec = s.sec ∧ Raised t pgSec 1 ∧ t.rd SEC_STAT.JRN_PRESENT 0 = s.rd SEC_STAT.JRN_PRESENT 0 ∧ t.rd SEC_STAT.LIB_PRESENT 0 = s.rd SEC_STAT.LIB_PRESENT 0) ∧
      FieldsKept s t [(SEC_STAT.JRN_PRESENT, 0), (SEC_STAT.LIB_PRESENT, 0), (SEC_KEYID.KEYID, bits (secWr w 1).val.toNat 8 1), (IRQ_STAT.BITS, pgSec), (HOST_STAT.COLLIDE_COUNT, 0)] ∧
      t = { s with chip := { s.chip with regs := t.chip.regs, hostp := t.chip.hostp, sec := t.chip.sec } }) ∧
  (∀ (w : Wr) (s : State),
    Accepted s w pgSec →
    s.on SEC_STAT.REVOKED 0 = false ∧ s.on SEC_STAT.RK_BLOCKED 0 = false →
    s.on LOCK.OPEN pgSec = true →
    Gives (.secWrap w) s fun t =>
      (∀ n : Fin 10, t.rd SEC_BLOB.BLOB n.val = leNat (((keyWrap (slotKek (bits (secWr w 2).val.toNat 8 1)) ((List.range 8).flatMap fun n => dwordBytes (s.rd SEC_KEY_IN.KEY_IN n))).drop (4 * n.val)).take 4) % 2 ^ 32) ∧
      (∀ n : Fin 8, t.rd SEC_KEY_IN.KEY_IN n.val = 0) ∧
      FieldsKept s t [(SEC_BLOB.BLOB, 0), (SEC_BLOB.BLOB, 1), (SEC_BLOB.BLOB, 2), (SEC_BLOB.BLOB, 3), (SEC_BLOB.BLOB, 4), (SEC_BLOB.BLOB, 5), (SEC_BLOB.BLOB, 6), (SEC_BLOB.BLOB, 7), (SEC_BLOB.BLOB, 8), (SEC_BLOB.BLOB, 9), (SEC_KEY_IN.KEY_IN, 0), (SEC_KEY_IN.KEY_IN, 1), (SEC_KEY_IN.KEY_IN, 2), (SEC_KEY_IN.KEY_IN, 3), (SEC_KEY_IN.KEY_IN, 4), (SEC_KEY_IN.KEY_IN, 5), (SEC_KEY_IN.KEY_IN, 6), (SEC_KEY_IN.KEY_IN, 7), (HOST_STAT.COLLIDE_COUNT, 0)] ∧
      t = { s with chip := { s.chip with regs := t.chip.regs, hostp := t.chip.hostp } }) ∧
  (∀ (w : Wr) (s : State),
    Accepted s w pgSec →
    s.on SEC_STAT.REVOKED 0 = true →
    Gives (.secUnwrap w) s fun t =>
      Refused s t pgSec 2 ∧
      FieldsKept s t [(ERR_CODE.LAST, pgSec), (ERR_CODE.FIRST, pgSec), (ERR_COUNT.COUNT, pgSec), (HOST_STAT.COLLIDE_COUNT, 0)] ∧
      t = { s with chip := { s.chip with regs := t.chip.regs, hostp := t.chip.hostp } }) ∧
  (∀ (w : Wr) (s : State),
    Accepted s w pgSec →
    s.on SEC_STAT.REVOKED 0 = false ∧ s.on SEC_STAT.RK_BLOCKED 0 = true →
    Gives (.secUnwrap w) s fun t =>
      Refused s t pgSec 3 ∧
      FieldsKept s t [(ERR_CODE.LAST, pgSec), (ERR_CODE.FIRST, pgSec), (ERR_COUNT.COUNT, pgSec), (HOST_STAT.COLLIDE_COUNT, 0)] ∧
      t = { s with chip := { s.chip with regs := t.chip.regs, hostp := t.chip.hostp } }) ∧
  (∀ (w : Wr) (s : State),
    Accepted s w pgSec →
    s.on LOCK.OPEN pgSec = true →
    s.on SEC_STAT.REVOKED 0 = true →
    Gives (.secWrap w) s fun t =>
      Refused s t pgSec 2 ∧
      FieldsKept s t [(ERR_CODE.LAST, pgSec), (ERR_CODE.FIRST, pgSec), (ERR_COUNT.COUNT, pgSec), (HOST_STAT.COLLIDE_COUNT, 0)] ∧
      t = { s with chip := { s.chip with regs := t.chip.regs, hostp := t.chip.hostp } }) ∧
  (∀ (w : Wr) (s : State),
    Accepted s w pgSec →
    s.on LOCK.OPEN pgSec = true →
    s.on SEC_STAT.REVOKED 0 = false ∧ s.on SEC_STAT.RK_BLOCKED 0 = true →
    Gives (.secWrap w) s fun t =>
      Refused s t pgSec 3 ∧
      FieldsKept s t [(ERR_CODE.LAST, pgSec), (ERR_CODE.FIRST, pgSec), (ERR_COUNT.COUNT, pgSec), (HOST_STAT.COLLIDE_COUNT, 0)] ∧
      t = { s with chip := { s.chip with regs := t.chip.regs, hostp := t.chip.hostp } }) ∧
  (∀ (w : Wr) (s : State),
    Accepted s w pgSec →
    s.on LOCK.OPEN pgSec = false →
    Gives (.secWrap w) s fun t =>
      Refused s t pgSec 0x101 ∧
      FieldsKept s t [(ERR_CODE.LAST, pgSec), (ERR_CODE.FIRST, pgSec), (ERR_COUNT.COUNT, pgSec), (HOST_STAT.COLLIDE_COUNT, 0)] ∧
      t = { s with chip := { s.chip with regs := t.chip.regs, hostp := t.chip.hostp } }) ∧
  (∀ (w : Wr) (b : Bool) (s : State),
    Accepted s w pgSec →
    s.on JRN_CFG.RING_EN 0 = false ∧ (List.range 64).any (fun c => (s.rflc c).active && s.ctl c 23 && (s.on RFL_STAT.GCM_HELD c || (s.rflc c).asked != 0)) = false →
    s.journal.fill = [] ∧ s.journal.sealing = [] →
    Gives (.secErase w b) s fun t =>
      t.sec.jrn = none ∧ t.sec.lib = none ∧ t.rd SEC_STAT.JRN_PRESENT 0 = 0 ∧ t.rd SEC_STAT.LIB_PRESENT 0 = 0 ∧ t.rd SEC_KEYID.KEYID 0 = 0 ∧ t.rd SEC_KEYID.KEYID 1 = 0 ∧
      t.sec = { s.sec with jrn := none, lib := none } ∧
      (b = true → Raised t pgSec 2) ∧
      t.mem = s.mem ∧
      FieldsKept s t [(SEC_STAT.JRN_PRESENT, 0), (SEC_STAT.LIB_PRESENT, 0), (SEC_KEYID.KEYID, 0), (SEC_KEYID.KEYID, 1), (IRQ_STAT.BITS, pgSec), (HOST_STAT.COLLIDE_COUNT, 0)] ∧
      t = { s with chip := { s.chip with regs := t.chip.regs, hostp := t.chip.hostp, sec := t.chip.sec } }) ∧
  (∀ (w : Wr) (b : Bool) (k : Nat) (s : State),
    Accepted s w pgSec →
    s.on JRN_CFG.RING_EN 0 = false ∧ (List.range 64).any (fun c => (s.rflc c).active && s.ctl c 23 && (s.on RFL_STAT.GCM_HELD c || (s.rflc c).asked != 0)) = false →
    s.journal.fill ≠ [] ∧ s.journal.sealing = [] ∧ s.jrnFwd = false ∧ s.sec.jrn = some k →
    Gives (.secErase w b) s fun t =>
      t.sec.jrn = none ∧ t.sec.lib = none ∧ t.rd SEC_STAT.JRN_PRESENT 0 = 0 ∧ t.rd SEC_STAT.LIB_PRESENT 0 = 0 ∧ t.rd SEC_KEYID.KEYID 0 = 0 ∧ t.rd SEC_KEYID.KEYID 1 = 0 ∧
      t.journal = { s.journal with fill := [], bseq := (s.journal.bseq + 1) % 2 ^ 64, blocks := s.journal.blocks ++ [{ ({ recs := s.journal.fill, bseq := s.journal.bseq, chain := s.journal.chain, keyId := keyIdOf k } : Blk) with mac := leNat (hmacSha256 (leBytes 32 k) (leBytes 32 s.journal.prev ++ ({ recs := s.journal.fill, bseq := s.journal.bseq, chain := s.journal.chain, keyId := keyIdOf k } : Blk).content)) }], prev := leNat (hmacSha256 (leBytes 32 k) (leBytes 32 s.journal.prev ++ ({ recs := s.journal.fill, bseq := s.journal.bseq, chain := s.journal.chain, keyId := keyIdOf k } : Blk).content)), told := false } ∧
      t.mem = s.mem ∧
      FieldsKept s t [(SEC_STAT.JRN_PRESENT, 0), (SEC_STAT.LIB_PRESENT, 0), (SEC_KEYID.KEYID, 0), (SEC_KEYID.KEYID, 1), (IRQ_STAT.BITS, pgSec), (JRN_STAT.UNSEALED, 0), (HOST_STAT.COLLIDE_COUNT, 0)] ∧
      t = { s with chip := { s.chip with regs := t.chip.regs, hostp := t.chip.hostp, sec := t.chip.sec, journal := t.chip.journal } }) ∧
  (∀ (w : Wr) (s : State),
    Accepted s w pgSec →
    s.on LOCK.OPEN pgSec = true →
    s.dbgCodes = [] →
    s.on JRN_CFG.RING_EN 0 = false ∧ (List.range 64).any (fun c => (s.rflc c).active && s.ctl c 23 && (s.on RFL_STAT.GCM_HELD c || (s.rflc c).asked != 0)) = false →
    s.on JRN_CFG.EN 0 = false ∧ s.journal.fill = [] ∧ s.journal.sealing = [] →
    Gives (.secDbgSession w true) s fun t =>
      t.dev = 9 ∧ t.rd SEC_STAT.SESSION 0 = 1 ∧ t.rd SEC_STAT.RK_BLOCKED 0 = 1 ∧ t.rd SEC_STAT.REVOKED 0 = s.rd SEC_STAT.REVOKED 0 ∧
      t.sec.jrn = none ∧ t.sec.lib = none ∧ t.rd SEC_STAT.JRN_PRESENT 0 = 0 ∧ t.rd SEC_STAT.LIB_PRESENT 0 = 0 ∧ t.rd SEC_KEYID.KEYID 0 = 0 ∧ t.rd SEC_KEYID.KEYID 1 = 0 ∧
      t.sec = { s.sec with jrn := none, lib := none, first := none, tap := 0 } ∧
      Raised t pgSec 3 ∧ Raised t pgSec 2 ∧
      (∃ a b, t.recs = s.recs ++ [a, b] ∧ a.cls = 7 ∧ a.code = 0x1408 ∧ b.cls = 0x0E ∧ b.code = 0x150E) ∧
      (t.bring = { s.bring with stage := if s.dev = 4 ∨ s.dev = 5 then s.dev else 6 }) ∧
      t.mem = s.mem ∧
      FieldsKept s t [(SEC_STAT.JRN_PRESENT, 0), (SEC_STAT.LIB_PRESENT, 0), (SEC_KEYID.KEYID, 0), (SEC_KEYID.KEYID, 1), (IRQ_STAT.BITS, pgSec), (DEV_STATE.STATE, 0), (SEC_STAT.SESSION, 0), (SEC_STAT.RK_BLOCKED, 0), (HOST_STAT.COLLIDE_COUNT, 0)] ∧
      t = { s with chip := { s.chip with regs := t.chip.regs, hostp := t.chip.hostp, recs := t.chip.recs, sec := t.chip.sec, bring := t.chip.bring } }) ∧
  (∀ (w : Wr) (s : State),
    Accepted s w pgSec →
    s.on LOCK.OPEN pgSec = true →
    s.dbgCodes = [] →
    s.on JRN_CFG.RING_EN 0 = false ∧ (List.range 64).any (fun c => (s.rflc c).active && s.ctl c 23 && (s.on RFL_STAT.GCM_HELD c || (s.rflc c).asked != 0)) = false →
    s.on JRN_CFG.EN 0 = false ∧ s.journal.fill = [] ∧ s.journal.sealing = [] →
    Gives (.secDbgSession w false) s fun t =>
      t.dev = s.dev ∧ t.rd SEC_STAT.SESSION 0 = s.rd SEC_STAT.SESSION 0 ∧ t.rd SEC_STAT.REVOKED 0 = s.rd SEC_STAT.REVOKED 0 ∧
      t.sec.jrn = none ∧ t.sec.lib = none ∧ t.rd SEC_STAT.JRN_PRESENT 0 = 0 ∧ t.rd SEC_STAT.LIB_PRESENT 0 = 0 ∧ t.rd SEC_KEYID.KEYID 0 = 0 ∧ t.rd SEC_KEYID.KEYID 1 = 0 ∧
      t.sec = { s.sec with jrn := none, lib := none, first := none, tap := 0 } ∧
      Raised t pgSec 3 ∧ Raised t pgSec 4 ∧
      Recorded s t 7 0 0x1408 ∧
      t.mem = s.mem ∧
      FieldsKept s t [(SEC_STAT.JRN_PRESENT, 0), (SEC_STAT.LIB_PRESENT, 0), (SEC_KEYID.KEYID, 0), (SEC_KEYID.KEYID, 1), (IRQ_STAT.BITS, pgSec), (HOST_STAT.COLLIDE_COUNT, 0)] ∧
      t = { s with chip := { s.chip with regs := t.chip.regs, hostp := t.chip.hostp, recs := t.chip.recs, sec := t.chip.sec } }) ∧
  (∀ (w : Wr) (b : Bool) (s : State),
    Accepted s w pgSec →
    Gives (.secErase w b) s fun t =>
      t = (s.collide w.req 0x5044).vaultErase b) ∧
  ((∀ (s : State) (b : Bool), ∃ u : State, s.vaultErase b = u.rflKeyGone.jrnPump ∧
        u.sec = { s.sec with jrn := none, lib := none } ∧ u.rd SEC_STAT.JRN_PRESENT 0 = 0 ∧ u.rd SEC_STAT.LIB_PRESENT 0 = 0 ∧
        u.rd SEC_KEYID.KEYID 0 = 0 ∧ u.rd SEC_KEYID.KEYID 1 = 0 ∧ (b = true → Raised u pgSec 2) ∧ u.journal = s.jrnSealAll.journal ∧
        (s.jrnFwd = false → u.journal.fill = []) ∧ u.journal.sealing = [] ∧
        FieldsKept s u [(SEC_STAT.JRN_PRESENT, 0), (SEC_STAT.LIB_PRESENT, 0), (SEC_KEYID.KEYID, 0), (SEC_KEYID.KEYID, 1), (IRQ_STAT.BITS, pgSec), (IRQ_STAT.BITS, pgJrn), (JRN_STAT.UNSEALED, 0)] ∧
        u = { s with chip := { s.chip with regs := u.chip.regs, hostp := u.chip.hostp, sec := u.chip.sec, journal := u.chip.journal } })) ∧
  (∀ (w : Wr) (b : Bool) (s : State),
    Accepted s w pgSec →
    s.on LOCK.OPEN pgSec = true →
    s.dbgCodes = [] →
    Gives (.secDbgSession w b) s fun t =>
      t = (s.collide w.req 0x5044).debugOpen false b) ∧
  ((∀ (s : State) (perm b : Bool),
        let r : Rec := { stamp := s.epoch, sub := 0, unc := s.unc, origin := s.rd CAS_STAT.ADDR 0, cls := 7, index := 0, code := 0x1408, data := [flag perm, 0, 0, 0] }
        let u := ((if s.on JRN_CFG.EN 0 then s.jrnDrain.jrnTake r else s.setRecs (s.recs ++ [r])).raise pgSec 3).vaultErase b; let t := s.debugOpen perm b
        t.sec.first = none ∧ t.sec.tap = 0 ∧
        (b = false → t = (u.modSec fun x => { x with first := none, tap := 0 }).raise pgSec 4) ∧
        (b = true → t.dev = 9 ∧ t.bring = { u.bring with stage := if u.dev = 4 ∨ u.dev = 5 then u.dev else 6 } ∧
          Recorded u t 0x0E 0 0x150E ∧
          t.rd SEC_STAT.REVOKED 0 = (if perm then 1 else u.rd SEC_STAT.REVOKED 0) ∧ t.rd SEC_STAT.SESSION 0 = (if perm then u.rd SEC_STAT.SESSION 0 else 1) ∧
          t.rd SEC_STAT.RK_BLOCKED 0 = (if perm then u.rd SEC_STAT.RK_BLOCKED 0 else 1) ∧
          FieldsKept u t [(DEV_STATE.STATE, 0), (SEC_STAT.REVOKED, 0), (SEC_STAT.SESSION, 0), (SEC_STAT.RK_BLOCKED, 0)]))) ∧
  (∀ (w : Wr) (b : Bool) (s : State),
    Accepted s w pgSec →
    s.on LOCK.OPEN pgSec = false →
    Gives (.secDbgSession w b) s fun t =>
      Refused s t pgSec 0x101 ∧
      FieldsKept s t [(ERR_CODE.LAST, pgSec), (ERR_CODE.FIRST, pgSec), (ERR_COUNT.COUNT, pgSec), (HOST_STAT.COLLIDE_COUNT, 0)] ∧
      t = { s with chip := { s.chip with regs := t.chip.regs, hostp := t.chip.hostp } }) ∧
  (∀ (w : Wr) (b : Bool) (s : State),
    Accepted s w pgSec →
    s.on LOCK.OPEN pgSec = true →
    s.anyEngBusy = true ∨ s.anyDrvBusy = true →
    Gives (.secDbgSession w b) s fun t =>
      Refused s t pgSec 4 ∧
      FieldsKept s t [(ERR_CODE.LAST, pgSec), (ERR_CODE.FIRST, pgSec), (ERR_COUNT.COUNT, pgSec), (HOST_STAT.COLLIDE_COUNT, 0)] ∧
      t = { s with chip := { s.chip with regs := t.chip.regs, hostp := t.chip.hostp } }) ∧
  (∀ (w : Wr) (b : Bool) (s : State),
    Accepted s w pgSec →
    s.on LOCK.OPEN pgSec = true →
    s.anyEngBusy = false ∧ s.anyDrvBusy = false ∧ s.dev ≠ 4 ∧ s.dev ≠ 5 ∧ s.dev ≠ 6 ∧ s.dev ≠ 8 →
    Gives (.secDbgSession w b) s fun t =>
      Refused s t pgSec 7 ∧
      FieldsKept s t [(ERR_CODE.LAST, pgSec), (ERR_CODE.FIRST, pgSec), (ERR_COUNT.COUNT, pgSec), (HOST_STAT.COLLIDE_COUNT, 0)] ∧
      t = { s with chip := { s.chip with regs := t.chip.regs, hostp := t.chip.hostp } }) ∧
  (∀ (w : Wr) (b : Bool) (s : State),
    Accepted s w pgSec →
    s.on LOCK.OPEN pgSec = false →
    Gives (.secDbgPermanent w b) s fun t =>
      Refused s t pgSec 0x101 ∧
      FieldsKept s t [(ERR_CODE.LAST, pgSec), (ERR_CODE.FIRST, pgSec), (ERR_COUNT.COUNT, pgSec), (HOST_STAT.COLLIDE_COUNT, 0)] ∧
      t = { s with chip := { s.chip with regs := t.chip.regs, hostp := t.chip.hostp } }) ∧
  (∀ (w : Wr) (b : Bool) (s : State),
    Accepted s w pgSec →
    s.on LOCK.OPEN pgSec = true →
    s.anyEngBusy = true ∨ s.anyDrvBusy = true →
    Gives (.secDbgPermanent w b) s fun t =>
      Refused s t pgSec 4 ∧
      (t.sec = (if s.sec.first.isSome = true ∧ s.confirms s.secConfirm = false then { s.sec with first := none } else s.sec)) ∧
      FieldsKept s t [(ERR_CODE.LAST, pgSec), (ERR_CODE.FIRST, pgSec), (ERR_COUNT.COUNT, pgSec), (HOST_STAT.COLLIDE_COUNT, 0)] ∧
      t = { s with chip := { s.chip with regs := t.chip.regs, hostp := t.chip.hostp, sec := t.chip.sec } }) ∧
  (∀ (w : Wr) (b : Bool) (s : State),
    Accepted s w pgSec →
    s.on LOCK.OPEN pgSec = true →
    s.anyEngBusy = false ∧ s.anyDrvBusy = false ∧ s.dev ≠ 4 ∧ s.dev ≠ 5 ∧ s.dev ≠ 6 ∧ s.dev ≠ 8 ∧ (s.sec.first = none ∨ s.confirms s.secConfirm = true) →
    Gives (.secDbgPermanent w b) s fun t =>
      Refused s t pgSec 7 ∧
      FieldsKept s t [(ERR_CODE.LAST, pgSec), (ERR_CODE.FIRST, pgSec), (ERR_COUNT.COUNT, pgSec), (HOST_STAT.COLLIDE_COUNT, 0)] ∧
      t = { s with chip := { s.chip with regs := t.chip.regs, hostp := t.chip.hostp } }) ∧
  (∀ (w : Wr) (b : Bool) (s : State),
    Accepted s w pgSec →
    s.on LOCK.OPEN pgSec = true →
    s.dbgCodes = [] →
    s.sec.first = none →
    Gives (.secDbgPermanent w b) s fun t =>
      t.sec = { s.sec with first := some s.tb, tap := 0 } ∧
      FieldsKept s t [(HOST_STAT.COLLIDE_COUNT, 0)] ∧
      t = { s with chip := { s.chip with regs := t.chip.regs, hostp := t.chip.hostp, sec := t.chip.sec } }) ∧
  (∀ (w : Wr) (b : Bool) (x : Nat) (s : State),
    Accepted s w pgSec →
    s.on LOCK.OPEN pgSec = true →
    s.dbgCodes = [] →
    s.sec.first = some x ∧ (s.tb < x + 500000000 ∨ x + 5000000000 < s.tb) →
    Gives (.secDbgPermanent w b) s fun t =>
      Refused s t pgSec 5 ∧
      t.sec = { s.sec with first := none } ∧
      FieldsKept s t [(ERR_CODE.LAST, pgSec), (ERR_CODE.FIRST, pgSec), (ERR_COUNT.COUNT, pgSec), (HOST_STAT.COLLIDE_COUNT, 0)] ∧
      t = { s with chip := { s.chip with regs := t.chip.regs, hostp := t.chip.hostp, sec := t.chip.sec } }) ∧
  (∀ (w : Wr) (b : Bool) (x : Nat) (s : State),
    Accepted s w pgSec →
    s.on LOCK.OPEN pgSec = true →
    s.dbgCodes = [] →
    s.sec.first = some x ∧ x + 500000000 ≤ s.tb ∧ s.tb ≤ x + 5000000000 →
    Gives (.secDbgPermanent w b) s fun t =>
      (s.secConfirm = Config.devid % 2 ^ 64 → t = (s.collide w.req 0x5044).debugOpen true b) ∧
      (s.secConfirm ≠ Config.devid % 2 ^ 64 → Refused s t pgSec 5 ∧ t.sec = { s.sec with first := none } ∧ FieldsKept s t [(ERR_CODE.LAST, pgSec), (ERR_CODE.FIRST, pgSec), (ERR_COUNT.COUNT, pgSec), (HOST_STAT.COLLIDE_COUNT, 0)])) ∧
  (∀ (x : BitVec 64) (s : State),
    s.dbgCodes = [] →
    s.on JRN_CFG.RING_EN 0 = false ∧ (List.range 64).any (fun c => (s.rflc c).active && s.ctl c 23 && (s.on RFL_STAT.GCM_HELD c || (s.rflc c).asked != 0)) = false →
    s.on JRN_CFG.EN 0 = false ∧ s.journal.fill = [] ∧ s.journal.sealing = [] →
    Gives (.tapDbgReq false x true) s fun t =>
      t.dev = 9 ∧ t.rd SEC_STAT.SESSION 0 = 1 ∧ t.rd SEC_STAT.RK_BLOCKED 0 = 1 ∧ t.rd SEC_STAT.REVOKED 0 = s.rd SEC_STAT.REVOKED 0 ∧
      t.sec.jrn = none ∧ t.sec.lib = none ∧ t.rd SEC_STAT.JRN_PRESENT 0 = 0 ∧ t.rd SEC_STAT.LIB_PRESENT 0 = 0 ∧ t.rd SEC_KEYID.KEYID 0 = 0 ∧ t.rd SEC_KEYID.KEYID 1 = 0 ∧
      t.sec = { s.sec with jrn := none, lib := none, first := none, tap := 0 } ∧
      Raised t pgSec 3 ∧ Raised t pgSec 2 ∧
      (∃ a b, t.recs = s.recs ++ [a, b] ∧ a.cls = 7 ∧ a.code = 0x1408 ∧ b.cls = 0x0E ∧ b.code = 0x150E) ∧
      (t.bring = { s.bring with stage := if s.dev = 4 ∨ s.dev = 5 then s.dev else 6 }) ∧
      t.mem = s.mem ∧
      FieldsKept s t [(SEC_STAT.JRN_PRESENT, 0), (SEC_STAT.LIB_PRESENT, 0), (SEC_KEYID.KEYID, 0), (SEC_KEYID.KEYID, 1), (IRQ_STAT.BITS, pgSec), (DEV_STATE.STATE, 0), (SEC_STAT.SESSION, 0), (SEC_STAT.RK_BLOCKED, 0), (HOST_STAT.COLLIDE_COUNT, 0)] ∧
      t = { s with chip := { s.chip with regs := t.chip.regs, hostp := t.chip.hostp, recs := t.chip.recs, sec := t.chip.sec, bring := t.chip.bring } }) ∧
  (∀ (x : BitVec 64) (s : State),
    s.dbgCodes = [] →
    s.on JRN_CFG.RING_EN 0 = false ∧ (List.range 64).any (fun c => (s.rflc c).active && s.ctl c 23 && (s.on RFL_STAT.GCM_HELD c || (s.rflc c).asked != 0)) = false →
    s.on JRN_CFG.EN 0 = false ∧ s.journal.fill = [] ∧ s.journal.sealing = [] →
    Gives (.tapDbgReq false x false) s fun t =>
      t.dev = s.dev ∧ t.rd SEC_STAT.SESSION 0 = s.rd SEC_STAT.SESSION 0 ∧ t.rd SEC_STAT.REVOKED 0 = s.rd SEC_STAT.REVOKED 0 ∧
      t.sec.jrn = none ∧ t.sec.lib = none ∧ t.rd SEC_STAT.JRN_PRESENT 0 = 0 ∧ t.rd SEC_STAT.LIB_PRESENT 0 = 0 ∧ t.rd SEC_KEYID.KEYID 0 = 0 ∧ t.rd SEC_KEYID.KEYID 1 = 0 ∧
      t.sec = { s.sec with jrn := none, lib := none, first := none, tap := 0 } ∧
      Raised t pgSec 3 ∧ Raised t pgSec 4 ∧
      Recorded s t 7 0 0x1408 ∧
      t.mem = s.mem ∧
      FieldsKept s t [(SEC_STAT.JRN_PRESENT, 0), (SEC_STAT.LIB_PRESENT, 0), (SEC_KEYID.KEYID, 0), (SEC_KEYID.KEYID, 1), (IRQ_STAT.BITS, pgSec), (HOST_STAT.COLLIDE_COUNT, 0)] ∧
      t = { s with chip := { s.chip with regs := t.chip.regs, hostp := t.chip.hostp, recs := t.chip.recs, sec := t.chip.sec } }) ∧
  (∀ (x : BitVec 64) (b : Bool) (s : State),
    s.dbgCodes = [] →
    Gives (.tapDbgReq false x b) s fun t =>
      t = s.debugOpen false b) ∧
  (∀ (x : BitVec 64) (b : Bool) (s : State),
    s.dbgCodes = [] →
    s.sec.first = none →
    Gives (.tapDbgReq true x b) s fun t =>
      t.sec = { s.sec with first := some s.tb, tap := 0 } ∧
      t = { s with chip := { s.chip with sec := t.chip.sec } }) ∧
  (∀ (p : Bool) (x : BitVec 64) (b : Bool) (k : Nat) (s : State),
    worst s.dbgCodes = some k →
    p = false ∨ s.sec.first = none →
    Gives (.tapDbgReq p x b) s fun t =>
      t.sec = { s.sec with tap := k } ∧
      Refused s t pgSec k ∧
      FieldsKept s t [(ERR_CODE.LAST, pgSec), (ERR_CODE.FIRST, pgSec), (ERR_COUNT.COUNT, pgSec)] ∧
      t = { s with chip := { s.chip with regs := t.chip.regs, hostp := t.chip.hostp, sec := t.chip.sec } }) ∧
  (∀ (x : BitVec 64) (b : Bool) (n : Nat) (s : State),
    s.dbgCodes = [] →
    s.sec.first = some n ∧ n + 500000000 ≤ s.tb ∧ s.tb ≤ n + 5000000000 →
    Gives (.tapDbgReq true x b) s fun t =>
      (x.toNat = Config.devid % 2 ^ 64 → t = s.debugOpen true b) ∧
      (x.toNat ≠ Config.devid % 2 ^ 64 → Refused s t pgSec 5 ∧ t.sec = { s.sec with first := none, tap := 5 } ∧ FieldsKept s t [(ERR_CODE.LAST, pgSec), (ERR_CODE.FIRST, pgSec), (ERR_COUNT.COUNT, pgSec)])) ∧
  (∀ (x : BitVec 64) (b : Bool) (n k : Nat) (s : State),
    s.sec.first = some n ∧ (s.tb < n + 500000000 ∨ n + 5000000000 < s.tb) →
    worst (s.dbgCodes ++ [5]) = some k →
    Gives (.tapDbgReq true x b) s fun t =>
      Refused s t pgSec k ∧
      t.sec = { s.sec with first := none, tap := k } ∧
      FieldsKept s t [(ERR_CODE.LAST, pgSec), (ERR_CODE.FIRST, pgSec), (ERR_COUNT.COUNT, pgSec)] ∧
      t = { s with chip := { s.chip with regs := t.chip.regs, hostp := t.chip.hostp, sec := t.chip.sec } }) ∧
  (∀ (x : Nat) (s : State),
    s.sec.first = some x ∧ x + 5000000000 < s.tb →
    Gives (.dbgConfirmTimeout) s fun t =>
      t.sec = { s.sec with first := none } ∧
      t = { s with chip := { s.chip with sec := t.chip.sec } }) ∧
  (∀ (x : Nat) (s : State),
    s.sec.first = some x ∧ s.tb ≤ x + 5000000000 →
    Gives (.dbgConfirmTimeout) s fun t =>
      t = s) ∧
  (∀ (s : State),
    s.sec.first = none →
    Gives (.dbgConfirmTimeout) s fun t =>
      t = s)

/-- An empty queue leaves the block as it is. A step of a state with no command waiting changes nothing (the model's choice, log entry 2) -/
def Obligations.EmptyQueueIdles : Prop :=
  ∀ s : State, s.pending = [] → step s = .next s

/-- Every command completes in every state. No command ends in a fault or a refusal, whatever its operands and the state -/
def Obligations.EveryCommandCompletes : Prop :=
  ∀ (c : Instr) (s : State), ∃ t, exec c s = .next t

/-- What reset leaves. After reset the device is in POR with the epoch at 0 and not running, H_LOCAL at 96 ticks, the TPLL in ACQUIRE without TB, every quad OFF, every engine PARKED, every lane DARK, every channel CLAMPED, every Crown group IDLE, no command waiting, and a memory that lists nothing (the erased flash and the zeros of the volatile memories are the model's choice, log entries 4, 32 and 35) -/
def Obligations.ResetState : Prop :=
  (State.reset.dev = 1 ∧ State.reset.epoch = 0 ∧ State.reset.rd TB_STAT.EPOCH_STATE 0 = 0 ∧ State.reset.h = 96 ∧ State.reset.tpllState = 0 ∧ State.reset.rd TB_STAT.TB_RUN 0 = 0 ∧ State.reset.pending = [] ∧ State.reset.mem = {} ∧ State.reset.mem.wf = true) ∧
  (∀ i : Nat, State.reset.quadState i = 0 ∧ State.reset.engState i = 0 ∧ State.reset.laneState i = 0 ∧ State.reset.drvState i = 0 ∧ State.reset.crownState i = 0)

/-- Every step keeps the canonical form of the memories. From every state whose memories are in canonical form, whichever command is at the front of the queue, a step that answers a next state leaves them in canonical form -/
def Obligations.MemoryFormKept : Prop :=
  ∀ s t : State, s.mem.wf = true → step s = .next t → t.mem.wf = true

/-- Only a completed flash operation changes the flash. Every command but FLASH_OP_DONE leaves every byte of the flash as it is, in every state: no register write, no store request, no reset, no loss of power and no access through window B or the tunnel reaches it -/
def Obligations.FlashChangesOnlyWhenAnOperationIsDone : Prop :=
  ∀ (c : Instr) (s t : State), (∀ e, c ≠ .flashOpDone e) → exec c s = .next t → t.mem.flash = s.mem.flash

/-- The memory of a Facet that is not written or lost keeps its bytes. Fire events, engine steps, lane, drive, sense, Crown, calibration, cascade and journal commands leave every byte of window B as it is: of all commands only register and window writes, boot and tunnelled accesses, refill commands and events, the scrubber, power commands, the loss of the host, the vault's erase and the resets can change one -/
def Obligations.OnlyStoresReachWindowB : Prop :=
  ∀ (c : Instr) (s t : State),
        c ≠ .perstNAssert →
        c ≠ .functionLevelReset →
        c ≠ .d3hotEntry →
        c ≠ .hostLinkLoss →
        (∀ x0, c ≠ .secUnwrap x0) →
        (∀ x0, c ≠ .secWrap x0) →
        (∀ x0 x1, c ≠ .secErase x0 x1) →
        (∀ x0 x1, c ≠ .secDbgSession x0 x1) →
        (∀ x0 x1, c ≠ .secDbgPermanent x0 x1) →
        (∀ x0 x1 x2, c ≠ .tapDbgReq x0 x1 x2) →
        (∀ x0 x1, c ≠ .rflPost x0 x1) →
        (∀ x0 x1, c ≠ .rflClearShadow x0 x1) →
        (∀ x0 x1, c ≠ .rflTrig x0 x1) →
        (∀ x0 x1, c ≠ .rflClearTrig x0 x1) →
        (∀ x0 x1, c ≠ .rflStatClr x0 x1) →
        (∀ x0 x1, c ≠ .rflResume x0 x1) →
        (∀ x0 x1, c ≠ .rflAbort x0 x1) →
        (∀ x0 x1 x2, c ≠ .sourceReadDone x0 x1 x2) →
        (∀ x0 x1, c ≠ .completionTimeout x0 x1) →
        (∀ x0, c ≠ .burstWrite x0) →
        (∀ x0, c ≠ .pwrRequest x0) →
        (∀ x0, c ≠ .pwrQuiesceDone x0) →
        (∀ x0, c ≠ .pwrRetry x0) →
        (∀ x0 x1 x2 x3 x4 x5 x6 x7, c ≠ .porComplete x0 x1 x2 x3 x4 x5 x6 x7) →
        c ≠ .bootRecord →
        (∀ x0 x1, c ≠ .winInitDone x0 x1) →
        (∀ x0 x1, c ≠ .registerWrite x0 x1) →
        (∀ x0 x1, c ≠ .windowBWrite x0 x1) →
        (∀ x0 x1 x2 x3 x4 x5, c ≠ .tunnelAccessExec x0 x1 x2 x3 x4 x5) →
        c ≠ .resetNAssert →
        c ≠ .supplyMonitorReset →
        exec c s = .next t → t.mem.winB = s.mem.winB

/-- What moves the epoch and the count of TB periods. EPOCH_TICK alone advances the count of TB periods; the epoch of every state below 2^64 stays below 2^64; no command but EPOCH_TICK, a SYNC edge and the two resets changes the epoch; no command touches the commands that wait -/
def Obligations.TimeMovesOnlyByTicks : Prop :=
  ∀ (c : Instr) (s t : State), exec c s = .next t →
        (c = .epochTick → t.tb = s.tb + 1) ∧ (c ≠ .epochTick → t.tb = s.tb) ∧ (s.epoch < 2 ^ 64 → t.epoch < 2 ^ 64) ∧
        (c ≠ .epochTick → (∀ n, c ≠ .syncInEdge n) → c ≠ .resetNAssert → c ≠ .supplyMonitorReset → t.epoch = s.epoch) ∧
        t.pending = s.pending

/-- In D3hot no register command of the host has an effect. While the function is in D3hot every command that is a register or window write of the host completes and changes nothing -/
def Obligations.HostIsShutOutInD3hot : Prop :=
  ∀ (y : Wr) (s : State), y.req = .host → s.hostp.d3hot = true →
        exec (.ppsEnable y) s = .next s ∧
        exec (.tbStatClr y) s = .next s ∧
        exec (.tbConfirm y) s = .next s ∧
        exec (.hLocalWrite y) s = .next s ∧
        (∀ (addr : BitVec 22), exec (.registerWrite y addr) s = .next s) ∧
        (∀ (addr : BitVec 30), exec (.windowBWrite y addr) s = .next s) ∧
        (∀ (p : Fin 1024), exec (.commitArm p y) s = .next s) ∧
        (∀ (p : Fin 1024), exec (.lockKeyWrite p y) s = .next s) ∧
        (∀ (p : Fin 1024), exec (.irqForce p y) s = .next s) ∧
        exec (.devEoi y) s = .next s ∧
        (∀ (p : Fin 1024), exec (.errClear p y) s = .next s) ∧
        exec (.hostDropClr y) s = .next s ∧
        exec (.tpllRestart y) s = .next s ∧
        exec (.phaseSnap y) s = .next s ∧
        exec (.sweep y) s = .next s ∧
        (∀ (quad : Option (Fin 64)) (n : Fin 64), exec (.bandEntryWrite quad n y) s = .next s) ∧
        (∀ (quad : Option (Fin 64)), exec (.bandClose quad y) s = .next s) ∧
        (∀ (q : Fin 64), exec (.qpllEnable q y) s = .next s) ∧
        (∀ (q : Fin 64), exec (.qpllRelock q y) s = .next s) ∧
        (∀ (isl : Fin 33), exec (.fctOvrWrite isl y) s = .next s) ∧
        (∀ (f : Fin 32), exec (.fctBezelClr f y) s = .next s) ∧
        (∀ (e : Fin 512), exec (.engVerify e y) s = .next s) ∧
        (∀ (e : Fin 512), exec (.engArm e y) s = .next s) ∧
        (∀ (e : Fin 512), exec (.engStart e y) s = .next s) ∧
        (∀ (e : Fin 512), exec (.engStop e y) s = .next s) ∧
        (∀ (e : Fin 512), exec (.engPark e y) s = .next s) ∧
        (∀ (e : Fin 512), exec (.engCtrlGate e y) s = .next s) ∧
        (∀ (e : Fin 512), exec (.engRedirGo e y) s = .next s) ∧
        (∀ (e : Fin 512), exec (.engRedirCancel e y) s = .next s) ∧
        (∀ (e : Fin 512), exec (.engBrClr e y) s = .next s) ∧
        exec (.fireSw y) s = .next s ∧
        (∀ (t : Fin 32), exec (.timerEnable t y) s = .next s) ∧
        (∀ (t : Fin 32), exec (.timerDisable t y) s = .next s) ∧
        (∀ (k : Fin 64), exec (.schedArm k y) s = .next s) ∧
        (∀ (k : Fin 64), exec (.schedCancel k y) s = .next s) ∧
        (∀ (slot : Fin 2), exec (.routeSlotWrite slot y) s = .next s) ∧
        (∀ (c : Fin 1024), exec (.fireChWrite c y) s = .next s) ∧
        (∀ (n : Fin 16), exec (.fireOutCfgWrite n y) s = .next s) ∧
        exec (.fireGclr y) s = .next s ∧
        (∀ (f : Fin 32), exec (.segDirRead f y) s = .next s) ∧
        (∀ (f : Fin 32), exec (.segDirWrite f y) s = .next s) ∧
        (∀ (f : Fin 32), exec (.segDirCheck f y) s = .next s) ∧
        (∀ (f : Fin 32), exec (.segDirInvalidate f y) s = .next s) ∧
        (∀ (f : Fin 32) (w : Fin 32), exec (.winEnable f w y) s = .next s) ∧
        (∀ (f : Fin 32) (w : Fin 32), exec (.winDisable f w y) s = .next s) ∧
        (∀ (f : Fin 32), exec (.segClr f y) s = .next s) ∧
        (∀ (t : Fin 392), exec (.tableClose t y) s = .next s) ∧
        (∀ (t : Fin 392), exec (.tableReopen t y) s = .next s) ∧
        (∀ (c : Fin 64), exec (.rflEnable c y) s = .next s) ∧
        (∀ (c : Fin 64), exec (.rflDisable c y) s = .next s) ∧
        (∀ (c : Fin 64), exec (.rflPost c y) s = .next s) ∧
        (∀ (c : Fin 64), exec (.rflClearShadow c y) s = .next s) ∧
        (∀ (c : Fin 64), exec (.rflTrig c y) s = .next s) ∧
        (∀ (c : Fin 64), exec (.rflClearTrig c y) s = .next s) ∧
        (∀ (c : Fin 64), exec (.rflStatClr c y) s = .next s) ∧
        (∀ (c : Fin 64), exec (.rflResume c y) s = .next s) ∧
        (∀ (c : Fin 64), exec (.rflAbort c y) s = .next s) ∧
        (∀ (c : Fin 64), exec (.rflTailWrite c y) s = .next s) ∧
        (∀ (a : Fin 128), exec (.apgIdxWrite a y) s = .next s) ∧
        (∀ (a : Fin 128), exec (.apgData1Write a y) s = .next s) ∧
        (∀ (l : Fin 256), exec (.laneEnable l y) s = .next s) ∧
        (∀ (l : Fin 256), exec (.laneDisable l y) s = .next s) ∧
        (∀ (l : Fin 256), exec (.laneAdmit l y) s = .next s) ∧
        (∀ (l : Fin 256), exec (.laneRetrainCmd l y) s = .next s) ∧
        (∀ (l : Fin 256), exec (.laneResearch l y) s = .next s) ∧
        (∀ (l : Fin 256), exec (.laneClr l y) s = .next s) ∧
        (∀ (l : Fin 256), exec (.cmpCaptureArm l y) s = .next s) ∧
        (∀ (f : Fin 32), exec (.cmpClr f y) s = .next s) ∧
        (∀ (d : Fin 64), exec (.drvStart d y) s = .next s) ∧
        (∀ (d : Fin 64), exec (.drvSoftStop d y) s = .next s) ∧
        (∀ (d : Fin 64), exec (.drvAck d y) s = .next s) ∧
        (∀ (d : Fin 64), exec (.drvCntClr d y) s = .next s) ∧
        exec (.tsetIdxWrite y) s = .next s ∧
        exec (.tsetD7Write y) s = .next s ∧
        (∀ (d : Fin 64), exec (.dacUnclamp d y) s = .next s) ∧
        (∀ (d : Fin 64), exec (.dacClamp d y) s = .next s) ∧
        (∀ (d : Fin 64), exec (.dacRangeSet d y) s = .next s) ∧
        (∀ (d : Fin 64), exec (.dacSwLoad d y) s = .next s) ∧
        (∀ (d : Fin 64), exec (.dacTrimDataWrite d y) s = .next s) ∧
        exec (.loupeCntClr y) s = .next s ∧
        (∀ (b : Fin 8), exec (.snsBankEnable b y) s = .next s) ∧
        (∀ (k : Fin 8), exec (.crownStart k y) s = .next s) ∧
        (∀ (k : Fin 8), exec (.crownStop k y) s = .next s) ∧
        (∀ (k : Fin 8), exec (.crownHoldCmd k y) s = .next s) ∧
        (∀ (k : Fin 8), exec (.crownResume k y) s = .next s) ∧
        (∀ (meas : BitVec 32), exec (.calRun y meas) s = .next s) ∧
        exec (.calStore y) s = .next s ∧
        exec (.calAbort y) s = .next s ∧
        exec (.flRead y) s = .next s ∧
        exec (.flProgram y) s = .next s ∧
        exec (.flErase4k y) s = .next s ∧
        exec (.flErase64k y) s = .next s ∧
        exec (.lusReplan y) s = .next s ∧
        exec (.casRetrainUp y) s = .next s ∧
        exec (.casRetrainDn y) s = .next s ∧
        exec (.casAlign y) s = .next s ∧
        exec (.casTunGo y) s = .next s ∧
        exec (.casClr y) s = .next s ∧
        exec (.jrnFlush y) s = .next s ∧
        exec (.jrnCntClr y) s = .next s ∧
        exec (.jrnEnable y) s = .next s ∧
        exec (.secUnwrap y) s = .next s ∧
        exec (.secWrap y) s = .next s ∧
        (∀ (verified : Bool), exec (.secErase y verified) s = .next s) ∧
        (∀ (verified : Bool), exec (.secDbgSession y verified) s = .next s) ∧
        (∀ (verified : Bool), exec (.secDbgPermanent y verified) s = .next s) ∧
        exec (.devEnterSafe y) s = .next s ∧
        exec (.devExitSafe y) s = .next s ∧
        exec (.pwrRequest y) s = .next s

/-- Which records of the device the journal writes. When a record of the device itself reaches the running writer it is written, which advances RSEQ, exactly when its class is JOURNAL, CLOCK or SEC, or its class is enabled and, with WIN_EN 1, its stamp lies in the window; a record that is not written leaves the journal as it is, and one that is written and finds room is the last of the open block or of what goes up the chain -/
def Obligations.RecordsPassTheWindowAndTheClasses : Prop :=
  (∀ (x : Rec) (r : List Rec) (s : State),
    s.recs = x :: r ∧ s.on JRN_CFG.EN 0 = true ∧ x.forwarded = false →
    (x.cls = 0 ∨ x.cls = 5 ∨ x.cls = 7 ∨ ((s.rd JRN_CLASS_EN.CLASS_EN 0).testBit x.cls = true ∧ (s.rd JRN_CFG.WIN_EN 0 = 1 → (s.rd JRN_WIN_OPEN.TICK 0 + 2 ^ 32 * s.rd JRN_WIN_OPEN.TICK 1) * 8 ≤ x.stamp * 8 + x.sub ∧ x.stamp * 8 + x.sub < (s.rd JRN_WIN_CLOSE.TICK 0 + 2 ^ 32 * s.rd JRN_WIN_CLOSE.TICK 1) * 8))) →
    Gives (.jrnRecord) s fun t =>
      t.recs = r ∧ t.rd JRN_RSEQ.RSEQ 0 = (s.rd JRN_RSEQ.RSEQ 0 + 1) % 2 ^ 32 ∧
      (s.jrnRoom x.cls = true → (s.jrnFwd = true → t.journal.up = s.journal.up ++ [({ x with rseq := s.rd JRN_RSEQ.RSEQ 0 } : Rec).dwords]) ∧ (s.jrnFwd = false → s.journal.fill.length ≠ 125 → t.journal.fill = s.journal.fill ++ [({ x with rseq := s.rd JRN_RSEQ.RSEQ 0 } : Rec).dwords]) ∧ (s.jrnFwd = false → s.journal.fill.length = 125 → ∃ b, t.journal.sealing = s.journal.sealing ++ [b] ∧ b.recs = s.journal.fill ++ [({ x with rseq := s.rd JRN_RSEQ.RSEQ 0 } : Rec).dwords]))) ∧
  (∀ (x : Rec) (r : List Rec) (s : State),
    s.recs = x :: r ∧ s.on JRN_CFG.EN 0 = true ∧ x.forwarded = false →
    ¬ (x.cls = 0 ∨ x.cls = 5 ∨ x.cls = 7 ∨ ((s.rd JRN_CLASS_EN.CLASS_EN 0).testBit x.cls = true ∧ (s.rd JRN_CFG.WIN_EN 0 = 1 → (s.rd JRN_WIN_OPEN.TICK 0 + 2 ^ 32 * s.rd JRN_WIN_OPEN.TICK 1) * 8 ≤ x.stamp * 8 + x.sub ∧ x.stamp * 8 + x.sub < (s.rd JRN_WIN_CLOSE.TICK 0 + 2 ^ 32 * s.rd JRN_WIN_CLOSE.TICK 1) * 8))) →
    Gives (.jrnRecord) s fun t =>
      t.recs = r ∧ t.rd JRN_RSEQ.RSEQ 0 = s.rd JRN_RSEQ.RSEQ 0 ∧ t.journal = s.journal ∧
      t = { s with chip := { s.chip with recs := t.chip.recs } })

/-- A permanent debug open takes two requests. A first CMD 5 opens nothing; the second opens when it comes 1 s to 10 s after the first with the device identifier in SEC_CONFIRM; any other second request, or one outside that time, is refused with SEC_CONFIRM (0x0005) and the first lapses; nothing but an open touches the keys or the revocation -/
def Obligations.PermanentOpenNeedsTwoRequests : Prop :=
  (∀ (w : Wr) (b : Bool) (s : State),
    Accepted s w pgSec →
    s.on LOCK.OPEN pgSec = true ∧ s.dbgCodes = [] →
    s.sec.first = none →
    Gives (.secDbgPermanent w b) s fun t =>
      t.sec.first = some s.tb ∧ t.rd SEC_STAT.REVOKED 0 = s.rd SEC_STAT.REVOKED 0 ∧ t.dev = s.dev ∧ t.sec.jrn = s.sec.jrn ∧ t.sec.lib = s.sec.lib ∧
      t.rd ERR_COUNT.COUNT pgSec = s.rd ERR_COUNT.COUNT pgSec) ∧
  (∀ (w : Wr) (b : Bool) (x : Nat) (s : State),
    Accepted s w pgSec →
    s.on LOCK.OPEN pgSec = true ∧ s.dbgCodes = [] →
    s.sec.first = some x →
    Gives (.secDbgPermanent w b) s fun t =>
      ((x + 500000000 ≤ s.tb ∧ s.tb ≤ x + 5000000000 ∧ s.secConfirm = Config.devid % 2 ^ 64) → Raised t pgSec 3 ∧ t.sec.first = none ∧ t.sec.jrn = none ∧ t.sec.lib = none ∧ (b = true → t.rd SEC_STAT.REVOKED 0 = 1 ∧ t.dev = 9)) ∧
      (¬ (x + 500000000 ≤ s.tb ∧ s.tb ≤ x + 5000000000 ∧ s.secConfirm = Config.devid % 2 ^ 64) → t.rd ERR_CODE.LAST pgSec = 5 ∧ t.sec.first = none ∧ t.rd SEC_STAT.REVOKED 0 = s.rd SEC_STAT.REVOKED 0 ∧ t.dev = s.dev ∧ t.sec.jrn = s.sec.jrn ∧ t.sec.lib = s.sec.lib))

/-- When RELOCK of a quad is refused. A write of RELOCK to the QPLL page is refused with 0x0001 (RELOCK_STATE), which changes no state of the quad, exactly when STATE is OFF, ACQUIRE or RELOCK; else it is no refusal, and the page has no other code -/
def Obligations.RelockIsRefusedByState : Prop :=
  (∀ (q : Fin 64) (w : Wr) (s : State),
    Accepted s w (pgQpll q.val) →
    (s.quadState q.val = 0 ∨ s.quadState q.val = 1 ∨ s.quadState q.val = 3) →
    Gives (.qpllRelock q w) s fun t =>
      Refused s t (pgQpll q.val) 1 ∧
      FieldsKept s t [(ERR_CODE.LAST, (pgQpll q.val)), (ERR_CODE.FIRST, (pgQpll q.val)), (ERR_COUNT.COUNT, (pgQpll q.val)), (HOST_STAT.COLLIDE_COUNT, 0)] ∧
      t = { s with chip := { s.chip with regs := t.chip.regs, hostp := t.chip.hostp } }) ∧
  (∀ (q : Fin 64) (w : Wr) (s : State),
    Accepted s w (pgQpll q.val) →
    ¬ (s.quadState q.val = 0 ∨ s.quadState q.val = 1 ∨ s.quadState q.val = 3) →
    Gives (.qpllRelock q w) s fun t =>
      t.rd ERR_CODE.LAST (pgQpll q.val) = s.rd ERR_CODE.LAST (pgQpll q.val) ∧ t.rd ERR_CODE.FIRST (pgQpll q.val) = s.rd ERR_CODE.FIRST (pgQpll q.val) ∧ t.rd ERR_COUNT.COUNT (pgQpll q.val) = s.rd ERR_COUNT.COUNT (pgQpll q.val))
end

