-- ==== Sys2Proof/Laws/Sparse.lean ====
section
/-!
SUPPORT. Laws/Sparse.lean: reading after writing sparse data, and the canonical form that writing keeps.
-/

namespace Sys2Proof.Machine

variable {α : Type}

theorem Sparse.get_cons (d : α) (p : Nat × α) (r : List (Nat × α)) (k : Nat) :
    Sparse.get d (p :: r) k = if p.1 = k then p.2 else Sparse.get d r k := rfl

theorem Sparse.erase_cons (p : Nat × α) (r : List (Nat × α)) (k : Nat) :
    Sparse.erase (p :: r) k = if p.1 = k then Sparse.erase r k else p :: Sparse.erase r k := rfl

theorem Sparse.insert_cons (p : Nat × α) (r : List (Nat × α)) (k : Nat) (v : α) :
    Sparse.insert (p :: r) k v = if k < p.1 then (k, v) :: p :: r else p :: Sparse.insert r k v := rfl

/-- Erasing a key leaves the pairs with other keys. -/
theorem Sparse.erase_eq_filter (l : List (Nat × α)) (k : Nat) : Sparse.erase l k = l.filter fun p => decide (p.1 ≠ k) := by
  induction l with
  | nil => rfl
  | cons p r ih => by_cases h : p.1 = k <;> simp [Sparse.erase_cons, h, ih]

theorem Sparse.mem_erase {l : List (Nat × α)} {k : Nat} {p : Nat × α} : p ∈ Sparse.erase l k ↔ p ∈ l ∧ p.1 ≠ k := by
  simp [Sparse.erase_eq_filter]

theorem Sparse.get_erase_same (d : α) (l : List (Nat × α)) (k : Nat) : Sparse.get d (Sparse.erase l k) k = d := by
  induction l with
  | nil => rfl
  | cons p r ih => by_cases h : p.1 = k <;> simp [Sparse.erase_cons, Sparse.get_cons, h, ih]

theorem Sparse.get_erase_ne (d : α) (l : List (Nat × α)) {j k : Nat} (h : j ≠ k) :
    Sparse.get d (Sparse.erase l k) j = Sparse.get d l j := by
  induction l with
  | nil => rfl
  | cons p r ih =>
    by_cases h1 : p.1 = k
    · simp [Sparse.erase_cons, Sparse.get_cons, h1, ih, Ne.symm h]
    · simp [Sparse.erase_cons, Sparse.get_cons, h1, ih]

theorem Sparse.get_insert_same (d : α) (l : List (Nat × α)) (k : Nat) (v : α) (h : ∀ p ∈ l, p.1 ≠ k) :
    Sparse.get d (Sparse.insert l k v) k = v := by
  induction l with
  | nil => simp [Sparse.insert, Sparse.get]
  | cons p r ih =>
    have h1 : p.1 ≠ k := h p (by simp)
    by_cases h2 : k < p.1
    · simp [Sparse.insert_cons, h2, Sparse.get_cons]
    · simp [Sparse.insert_cons, h2, Sparse.get_cons, h1, ih fun q hq => h q (by simp [hq])]

theorem Sparse.get_insert_ne (d : α) (l : List (Nat × α)) {j k : Nat} (v : α) (h : j ≠ k) :
    Sparse.get d (Sparse.insert l k v) j = Sparse.get d l j := by
  induction l with
  | nil => simp [Sparse.insert, Sparse.get, Ne.symm h]
  | cons p r ih =>
    by_cases h2 : k < p.1
    · simp [Sparse.insert_cons, h2, Sparse.get_cons, Ne.symm h]
    · simp [Sparse.insert_cons, h2, Sparse.get_cons, ih]

/-- The canonical write reads back. -/
@[simp] theorem Sparse.get_put_same [DecidableEq α] (d : α) (l : List (Nat × α)) (k : Nat) (v : α) :
    Sparse.get d (Sparse.put d l k v) k = v := by
  unfold Sparse.put
  split
  · rename_i h; rw [Sparse.get_erase_same, h]
  · exact Sparse.get_insert_same _ _ _ _ fun p hp => (Sparse.mem_erase.1 hp).2

/-- The canonical write leaves every other key alone, whatever default it is read with. -/
theorem Sparse.get_put_ne [DecidableEq α] (d e : α) (l : List (Nat × α)) {j k : Nat} (v : α) (h : j ≠ k) :
    Sparse.get e (Sparse.put d l k v) j = Sparse.get e l j := by
  unfold Sparse.put
  split
  · exact Sparse.get_erase_ne _ _ h
  · rw [Sparse.get_insert_ne _ _ _ h, Sparse.get_erase_ne _ _ h]

@[simp] theorem Sparse.get_set_same (d : α) (l : List (Nat × α)) (k : Nat) (v : α) :
    Sparse.get d (Sparse.set l k v) k = v :=
  Sparse.get_insert_same _ _ _ _ fun _ hp => (Sparse.mem_erase.1 hp).2

theorem Sparse.get_set_ne (d : α) (l : List (Nat × α)) {j k : Nat} (v : α) (h : j ≠ k) :
    Sparse.get d (Sparse.set l k v) j = Sparse.get d l j := by
  unfold Sparse.set
  rw [Sparse.get_insert_ne _ _ _ h, Sparse.get_erase_ne _ _ h]

/-! ### The canonical form -/

/-- Rising keys, as a relation on the whole list. -/
theorem Sparse.rising_iff (l : List (Nat × α)) : Sparse.rising l = true ↔ l.Pairwise fun a b => a.1 < b.1 := by
  induction l with
  | nil => simp [Sparse.rising]
  | cons p r ih =>
    cases r with
    | nil => simp [Sparse.rising]
    | cons q t =>
      simp only [Sparse.rising, Bool.and_eq_true, decide_eq_true_eq, ih, List.pairwise_cons]
      constructor
      · intro ⟨h1, h2, h3⟩
        refine ⟨fun a ha => ?_, h2, h3⟩
        rcases List.mem_cons.1 ha with rfl | ha
        · exact h1
        · exact Nat.lt_trans h1 (h2 a ha)
      · intro ⟨h1, h2, h3⟩
        exact ⟨h1 q (by simp), h2, h3⟩

theorem Sparse.wf_iff [DecidableEq α] (d : α) (l : List (Nat × α)) :
    Sparse.wf d l = true ↔ (l.Pairwise fun a b => a.1 < b.1) ∧ ∀ p ∈ l, p.2 ≠ d := by
  simp [Sparse.wf, Sparse.rising_iff]

theorem Sparse.mem_insert {l : List (Nat × α)} {k : Nat} {v : α} {p : Nat × α} (h : p ∈ Sparse.insert l k v) :
    p = (k, v) ∨ p ∈ l := by
  induction l with
  | nil => simpa [Sparse.insert] using h
  | cons q r ih =>
    rw [Sparse.insert_cons] at h
    split at h
    · simpa using h
    · rcases List.mem_cons.1 h with rfl | h
      · simp
      · rcases ih h with h | h
        · exact .inl h
        · exact .inr (by simp [h])

theorem Sparse.pairwise_insert {l : List (Nat × α)} (k : Nat) (v : α) (h : l.Pairwise fun a b => a.1 < b.1)
    (hk : ∀ p ∈ l, p.1 ≠ k) : (Sparse.insert l k v).Pairwise fun a b => a.1 < b.1 := by
  induction l with
  | nil => simp [Sparse.insert]
  | cons p r ih =>
    rw [Sparse.insert_cons]
    have h0 := List.pairwise_cons.1 h
    split
    · rename_i hlt
      refine List.pairwise_cons.2 ⟨fun a ha => ?_, h⟩
      rcases List.mem_cons.1 ha with rfl | ha
      · exact hlt
      · exact Nat.lt_trans hlt (h0.1 a ha)
    · rename_i hge
      refine List.pairwise_cons.2 ⟨fun a ha => ?_, ih h0.2 fun q hq => hk q (by simp [hq])⟩
      rcases Sparse.mem_insert ha with rfl | ha
      · have := hk p (by simp)
        show p.1 < k
        omega
      · exact h0.1 a ha

/-- The canonical write keeps the canonical form. -/
theorem Sparse.wf_put [DecidableEq α] (d : α) (l : List (Nat × α)) (k : Nat) (v : α) (h : Sparse.wf d l = true) :
    Sparse.wf d (Sparse.put d l k v) = true := by
  have ⟨h1, h2⟩ := (Sparse.wf_iff d l).1 h
  have h3 : (Sparse.erase l k).Pairwise fun a b => a.1 < b.1 := by
    rw [Sparse.erase_eq_filter]; exact h1.filter _
  have h4 : ∀ p ∈ Sparse.erase l k, p.2 ≠ d := fun p hp => h2 p (Sparse.mem_erase.1 hp).1
  refine (Sparse.wf_iff d _).2 ?_
  unfold Sparse.put
  split
  · exact ⟨h3, h4⟩
  · rename_i hv
    refine ⟨Sparse.pairwise_insert _ _ h3 fun p hp => (Sparse.mem_erase.1 hp).2, fun p hp => ?_⟩
    rcases Sparse.mem_insert hp with rfl | hp
    · exact hv
    · exact h4 p hp

/-- Dropping entries keeps the canonical form. -/
theorem Sparse.wf_filter [DecidableEq α] (d : α) (l : List (Nat × α)) (q : Nat × α → Bool) (h : Sparse.wf d l = true) :
    Sparse.wf d (l.filter q) = true := by
  have ⟨h1, h2⟩ := (Sparse.wf_iff d l).1 h
  exact (Sparse.wf_iff d _).2 ⟨h1.filter _, fun p hp => h2 p (List.mem_filter.1 hp).1⟩

end Sys2Proof.Machine
end

