-- ==== Sys2Proof/Laws/Memory.lean ====
section
/-!
SUPPORT. Laws/Memory.lean: the memories of the block: a byte written reads back and no other byte changes, and every operation on
memory keeps the canonical form.
-/

namespace Sys2Proof.Machine

/-! ### What one write does to a read -/

theorem State.memB_setMemB_same (s : State) (a v : Nat) : (s.setMemB a v).memB a = v % 256 := by
  simp [State.memB, State.setMemB]

theorem State.memB_setMemB_ne (s : State) {a b : Nat} (v : Nat) (h : b ≠ a) : (s.setMemB a v).memB b = s.memB b := by
  simp [State.memB, State.setMemB, Sparse.get_put_ne _ _ _ _ h]

@[simp] theorem State.afB_setMemB (s : State) (a v b : Nat) : (s.setMemB a v).afB b = s.afB b := rfl
@[simp] theorem State.flashB_setMemB (s : State) (a v b : Nat) : (s.setMemB a v).flashB b = s.flashB b := rfl

/-- Bytes set in the AF buffer space change no byte outside them. -/
theorem State.afB_setAf_out (bs : List Nat) : ∀ (s : State) (a b : Nat), b < a ∨ a + bs.length ≤ b → (s.setAf a bs).afB b = s.afB b := by
  induction bs with
  | nil => intro s a b _; rfl
  | cons v r ih =>
    intro s a b h
    simp only [List.length_cons] at h
    rw [State.setAf, ih _ _ _ (by omega)]
    simp only [State.afB]
    rw [Sparse.get_put_ne _ _ _ _ (by omega)]

/-- Each byte set in the AF buffer space reads back. -/
theorem State.afB_setAf_in (bs : List Nat) : ∀ (s : State) (a i : Nat) (h : i < bs.length), (s.setAf a bs).afB (a + i) = bs[i] % 256 := by
  induction bs with
  | nil => intro s a i h; simp at h
  | cons v r ih =>
    intro s a i h
    cases i with
    | zero =>
      rw [State.setAf, Nat.add_zero, State.afB_setAf_out r _ _ _ (by omega)]
      simp [State.afB]
    | succ i =>
      rw [State.setAf, show a + (i + 1) = (a + 1) + i by omega, ih _ _ _ (by simpa using h)]
      simp

@[simp] theorem State.setAf_winB (bs : List Nat) : ∀ (s : State) (a : Nat), (s.setAf a bs).mem.winB = s.mem.winB := by
  induction bs with
  | nil => intro s a; rfl
  | cons v r ih => intro s a; rw [State.setAf, ih]

@[simp] theorem State.setAf_flash (bs : List Nat) : ∀ (s : State) (a : Nat), (s.setAf a bs).mem.flash = s.mem.flash := by
  induction bs with
  | nil => intro s a; rfl
  | cons v r ih => intro s a; rw [State.setAf, ih]

@[simp] theorem State.setAf_chip (bs : List Nat) : ∀ (s : State) (a : Nat), (s.setAf a bs).chip = s.chip := by
  induction bs with
  | nil => intro s a; rfl
  | cons v r ih => intro s a; rw [State.setAf, ih]

@[simp] theorem State.flashProg_chip (bs : List Nat) : ∀ (s : State) (a : Nat), (s.flashProg a bs).chip = s.chip := by
  induction bs with
  | nil => intro s a; rfl
  | cons v r ih => intro s a; rw [State.flashProg, ih]

/-- A program changes no byte outside its range (R448). -/
theorem State.flashB_flashProg_out (bs : List Nat) :
    ∀ (s : State) (a b : Nat), b < a ∨ a + bs.length ≤ b → (s.flashProg a bs).flashB b = s.flashB b := by
  induction bs with
  | nil => intro s a b _; rfl
  | cons v r ih =>
    intro s a b h
    simp only [List.length_cons] at h
    rw [State.flashProg, ih _ _ _ (by omega)]
    simp only [State.flashB]
    rw [Sparse.get_put_ne _ _ _ _ (by omega)]

/-! ### The canonical form -/

theorem Mem.wf_iff (m : Mem) : m.wf = true ↔
    Sparse.wf (0 : BitVec 8) m.winB = true ∧ Sparse.wf (0 : BitVec 8) m.af = true ∧ Sparse.wf (0xFF : BitVec 8) m.flash = true := by
  simp [Mem.wf, and_assoc]

theorem State.reset_mem_wf : State.reset.mem.wf = true := by decide

theorem State.setMemB_wf (s : State) (a v : Nat) (h : s.mem.wf = true) : (s.setMemB a v).mem.wf = true := by
  rw [Mem.wf_iff] at *
  exact ⟨Sparse.wf_put _ _ _ _ h.1, h.2⟩

theorem State.setBytesB_wf (bs : List Nat) : ∀ (s : State) (a : Nat), s.mem.wf = true → (s.setBytesB a bs).mem.wf = true := by
  induction bs with
  | nil => intro s a h; exact h
  | cons v r ih => intro s a h; exact ih _ _ (s.setMemB_wf a v h)

theorem State.setAf_wf (bs : List Nat) : ∀ (s : State) (a : Nat), s.mem.wf = true → (s.setAf a bs).mem.wf = true := by
  induction bs with
  | nil => intro s a h; exact h
  | cons v r ih =>
    intro s a h
    refine ih _ _ ?_
    rw [Mem.wf_iff] at *
    exact ⟨h.1, Sparse.wf_put _ _ _ _ h.2.1, h.2.2⟩

theorem State.flashErase_wf (s : State) (a n : Nat) (h : s.mem.wf = true) : (s.flashErase a n).mem.wf = true := by
  rw [Mem.wf_iff] at *
  exact ⟨h.1, h.2.1, Sparse.wf_filter _ _ _ h.2.2⟩

theorem State.flashProg_wf (bs : List Nat) : ∀ (s : State) (a : Nat), s.mem.wf = true → (s.flashProg a bs).mem.wf = true := by
  induction bs with
  | nil => intro s a h; exact h
  | cons v r ih =>
    intro s a h
    refine ih _ _ ?_
    rw [Mem.wf_iff] at *
    exact ⟨h.1, h.2.1, Sparse.wf_put _ _ _ _ h.2.2⟩

theorem Mem.lose_wf (m : Mem) (d : Nat) (h : m.wf = true) : (m.lose d).wf = true := by
  rw [Mem.wf_iff] at *
  exact ⟨Sparse.wf_filter _ _ _ h.1, Sparse.wf_filter _ _ _ h.2.1, h.2.2⟩

theorem State.toPor_wf (s : State) (b : Bring) (h : s.mem.wf = true) : (s.toPor b).mem.wf = true := by
  rw [Mem.wf_iff] at *
  exact ⟨by rfl, by rfl, h.2.2⟩

/-- A list of memory operations that each keep the form keeps it. -/
theorem foldl_wf {α : Type} (f : State → α → State) (hf : ∀ s x, s.mem.wf = true → (f s x).mem.wf = true) :
    ∀ (l : List α) (s : State), s.mem.wf = true → (l.foldl f s).mem.wf = true := by
  intro l
  induction l with
  | nil => intro s h; exact h
  | cons x r ih => intro s h; exact ih _ (hf s x h)

end Sys2Proof.Machine
end

