-- ==== Sys2Proof/Laws/State.lean ====
section
/-!
SUPPORT. Laws/State.lean: one lemma per piece of state per update: what was written reads back, everything else reads as before.
-/

namespace Sys2Proof.Machine

variable (s : State)

@[simp] theorem State.modPages_eq (i : Nat) (g : PageSt → PageSt) : s.modPages i g = s.setPages i (g (s.pages i)) := rfl
@[simp] theorem State.modLatch_eq (i : Nat) (g : Nat → Nat) : s.modLatch i g = s.setLatch i (g (s.latch i)) := rfl
@[simp] theorem State.modTbu_eq (g : Tb → Tb) : s.modTbu g = s.setTbu (g s.tbu) := rfl
@[simp] theorem State.modHostp_eq (g : HostPort → HostPort) : s.modHostp g = s.setHostp (g s.hostp) := rfl
@[simp] theorem State.modDom_eq (i : Nat) (g : Dom → Dom) : s.modDom i g = s.setDom i (g (s.dom i)) := rfl
@[simp] theorem State.modDir_eq (i : Nat) (g : DirEnt → DirEnt) : s.modDir i g = s.setDir i (g (s.dir i)) := rfl
@[simp] theorem State.modStore_eq (i : Nat) (g : Store → Store) : s.modStore i g = s.setStore i (g (s.store i)) := rfl
@[simp] theorem State.modWin_eq (i : Nat) (g : Win → Win) : s.modWin i g = s.setWin i (g (s.win i)) := rfl
@[simp] theorem State.modTab_eq (i : Nat) (g : Tab → Tab) : s.modTab i g = s.setTab i (g (s.tab i)) := rfl
@[simp] theorem State.modApg_eq (i : Nat) (g : Apg → Apg) : s.modApg i g = s.setApg i (g (s.apg i)) := rfl
@[simp] theorem State.modEng_eq (i : Nat) (g : Eng → Eng) : s.modEng i g = s.setEng i (g (s.eng i)) := rfl
@[simp] theorem State.modLout_eq (i : Nat) (g : LaneOut → LaneOut) : s.modLout i g = s.setLout i (g (s.lout i)) := rfl
@[simp] theorem State.modGrp_eq (i : Nat) (g : Grp → Grp) : s.modGrp i g = s.setGrp i (g (s.grp i)) := rfl
@[simp] theorem State.modBallClaim_eq (i : Nat) (g : Nat → Nat) : s.modBallClaim i g = s.setBallClaim i (g (s.ballClaim i)) := rfl
@[simp] theorem State.modBallOut_eq (i : Nat) (g : Nat → Nat) : s.modBallOut i g = s.setBallOut i (g (s.ballOut i)) := rfl
@[simp] theorem State.modBallTb_eq (i : Nat) (g : Nat → Nat) : s.modBallTb i g = s.setBallTb i (g (s.ballTb i)) := rfl
@[simp] theorem State.modDrv_eq (i : Nat) (g : Drv → Drv) : s.modDrv i g = s.setDrv i (g (s.drv i)) := rfl
@[simp] theorem State.modNode_eq (i : Nat) (g : Node → Node) : s.modNode i g = s.setNode i (g (s.node i)) := rfl
@[simp] theorem State.modLoupe_eq (g : Loupe → Loupe) : s.modLoupe g = s.setLoupe (g s.loupe) := rfl
@[simp] theorem State.modCrown_eq (i : Nat) (g : Crown → Crown) : s.modCrown i g = s.setCrown i (g (s.crown i)) := rfl
@[simp] theorem State.modBank_eq (i : Nat) (g : Bank → Bank) : s.modBank i g = s.setBank i (g (s.bank i)) := rfl
@[simp] theorem State.modSense_eq (i : Nat) (g : Sense → Sense) : s.modSense i g = s.setSense i (g (s.sense i)) := rfl
@[simp] theorem State.modPin_eq (i : Nat) (g : Nat → Nat) : s.modPin i g = s.setPin i (g (s.pin i)) := rfl
@[simp] theorem State.modLphy_eq (i : Nat) (g : LanePhy → LanePhy) : s.modLphy i g = s.setLphy i (g (s.lphy i)) := rfl
@[simp] theorem State.modCmpl_eq (i : Nat) (g : CmpLane → CmpLane) : s.modCmpl i g = s.setCmpl i (g (s.cmpl i)) := rfl
@[simp] theorem State.modCmp_eq (i : Nat) (g : Cmp → Cmp) : s.modCmp i g = s.setCmp i (g (s.cmp i)) := rfl
@[simp] theorem State.modIsl_eq (i : Nat) (g : Isl → Isl) : s.modIsl i g = s.setIsl i (g (s.isl i)) := rfl
@[simp] theorem State.modRail_eq (i : Nat) (g : Rail → Rail) : s.modRail i g = s.setRail i (g (s.rail i)) := rfl
@[simp] theorem State.modStop_eq (i : Nat) (g : Stop → Stop) : s.modStop i g = s.setStop i (g (s.stop i)) := rfl
@[simp] theorem State.modTotals_eq (i : Nat) (g : Nat → Nat) : s.modTotals i g = s.setTotals i (g (s.totals i)) := rfl
@[simp] theorem State.modSbank_eq (i : Nat) (g : StoreBank → StoreBank) : s.modSbank i g = s.setSbank i (g (s.sbank i)) := rfl
@[simp] theorem State.modTpll_eq (g : Tpll → Tpll) : s.modTpll g = s.setTpll (g s.tpll) := rfl
@[simp] theorem State.modQuad_eq (i : Nat) (g : Quad → Quad) : s.modQuad i g = s.setQuad i (g (s.quad i)) := rfl
@[simp] theorem State.modBring_eq (g : Bring → Bring) : s.modBring g = s.setBring (g s.bring) := rfl
@[simp] theorem State.modLustre_eq (g : Lustre → Lustre) : s.modLustre g = s.setLustre (g s.lustre) := rfl
@[simp] theorem State.modPort_eq (i : Nat) (g : Port → Port) : s.modPort i g = s.setPort i (g (s.port i)) := rfl
@[simp] theorem State.modEvtb_eq (i : Nat) (g : EvtBall → EvtBall) : s.modEvtb i g = s.setEvtb i (g (s.evtb i)) := rfl
@[simp] theorem State.modRoute_eq (i : Nat) (g : Nat → Nat) : s.modRoute i g = s.setRoute i (g (s.route i)) := rfl
@[simp] theorem State.modTimer_eq (i : Nat) (g : Nat → Nat) : s.modTimer i g = s.setTimer i (g (s.timer i)) := rfl
@[simp] theorem State.modJournal_eq (g : Jrn → Jrn) : s.modJournal g = s.setJournal (g s.journal) := rfl
@[simp] theorem State.modSec_eq (g : Sec → Sec) : s.modSec g = s.setSec (g s.sec) := rfl
@[simp] theorem State.modRflc_eq (i : Nat) (g : Rfl → Rfl) : s.modRflc i g = s.setRflc i (g (s.rflc i)) := rfl
@[simp] theorem State.modBursts_eq (g : Bursts → Bursts) : s.modBursts g = s.setBursts (g s.bursts) := rfl
@[simp] theorem State.modCal_eq (g : Cal → Cal) : s.modCal g = s.setCal (g s.cal) := rfl
@[simp] theorem State.modCasPort_eq (i : Nat) (g : CasPort → CasPort) : s.modCasPort i g = s.setCasPort i (g (s.casPort i)) := rfl
@[simp] theorem State.modCas_eq (g : Cas → Cas) : s.modCas g = s.setCas (g s.cas) := rfl


/-! ### setDirty -/

@[simp] theorem State.setDirty_same (x : List Nat) : (s.setDirty x).dirty = x := rfl
@[simp] theorem State.setDirty_epoch (x : List Nat) : (s.setDirty x).epoch = s.epoch := rfl
@[simp] theorem State.setDirty_tb (x : List Nat) : (s.setDirty x).tb = s.tb := rfl
@[simp] theorem State.setDirty_mem (x : List Nat) : (s.setDirty x).mem = s.mem := rfl
@[simp] theorem State.setDirty_pending (x : List Nat) : (s.setDirty x).pending = s.pending := rfl
@[simp] theorem State.setDirty_rd (x : List Nat) (f : Fld) (j : Nat) : (s.setDirty x).rd f j = s.rd f j := rfl
@[simp] theorem State.setDirty_rdA (x : List Nat) (f : Fld) (j : Nat) : (s.setDirty x).rdA f j = s.rdA f j := rfl
@[simp] theorem State.setDirty_pages (x : List Nat) (j : Nat) : (s.setDirty x).pages j = s.pages j := rfl
@[simp] theorem State.setDirty_latch (x : List Nat) (j : Nat) : (s.setDirty x).latch j = s.latch j := rfl
@[simp] theorem State.setDirty_tbu (x : List Nat) : (s.setDirty x).tbu = s.tbu := rfl
@[simp] theorem State.setDirty_hostp (x : List Nat) : (s.setDirty x).hostp = s.hostp := rfl
@[simp] theorem State.setDirty_recs (x : List Nat) : (s.setDirty x).recs = s.recs := rfl
@[simp] theorem State.setDirty_prodq (x : List Nat) : (s.setDirty x).prodq = s.prodq := rfl
@[simp] theorem State.setDirty_out (x : List Nat) : (s.setDirty x).out = s.out := rfl
@[simp] theorem State.setDirty_freeCtr (x : List Nat) : (s.setDirty x).freeCtr = s.freeCtr := rfl
@[simp] theorem State.setDirty_dom (x : List Nat) (j : Nat) : (s.setDirty x).dom j = s.dom j := rfl
@[simp] theorem State.setDirty_dir (x : List Nat) (j : Nat) : (s.setDirty x).dir j = s.dir j := rfl
@[simp] theorem State.setDirty_store (x : List Nat) (j : Nat) : (s.setDirty x).store j = s.store j := rfl
@[simp] theorem State.setDirty_win (x : List Nat) (j : Nat) : (s.setDirty x).win j = s.win j := rfl
@[simp] theorem State.setDirty_tab (x : List Nat) (j : Nat) : (s.setDirty x).tab j = s.tab j := rfl
@[simp] theorem State.setDirty_apg (x : List Nat) (j : Nat) : (s.setDirty x).apg j = s.apg j := rfl
@[simp] theorem State.setDirty_eng (x : List Nat) (j : Nat) : (s.setDirty x).eng j = s.eng j := rfl
@[simp] theorem State.setDirty_lout (x : List Nat) (j : Nat) : (s.setDirty x).lout j = s.lout j := rfl
@[simp] theorem State.setDirty_grp (x : List Nat) (j : Nat) : (s.setDirty x).grp j = s.grp j := rfl
@[simp] theorem State.setDirty_ballClaim (x : List Nat) (j : Nat) : (s.setDirty x).ballClaim j = s.ballClaim j := rfl
@[simp] theorem State.setDirty_ballOut (x : List Nat) (j : Nat) : (s.setDirty x).ballOut j = s.ballOut j := rfl
@[simp] theorem State.setDirty_ballTb (x : List Nat) (j : Nat) : (s.setDirty x).ballTb j = s.ballTb j := rfl
@[simp] theorem State.setDirty_arrivals (x : List Nat) : (s.setDirty x).arrivals = s.arrivals := rfl
@[simp] theorem State.setDirty_drv (x : List Nat) (j : Nat) : (s.setDirty x).drv j = s.drv j := rfl
@[simp] theorem State.setDirty_node (x : List Nat) (j : Nat) : (s.setDirty x).node j = s.node j := rfl
@[simp] theorem State.setDirty_loupe (x : List Nat) : (s.setDirty x).loupe = s.loupe := rfl
@[simp] theorem State.setDirty_crown (x : List Nat) (j : Nat) : (s.setDirty x).crown j = s.crown j := rfl
@[simp] theorem State.setDirty_bank (x : List Nat) (j : Nat) : (s.setDirty x).bank j = s.bank j := rfl
@[simp] theorem State.setDirty_sense (x : List Nat) (j : Nat) : (s.setDirty x).sense j = s.sense j := rfl
@[simp] theorem State.setDirty_pin (x : List Nat) (j : Nat) : (s.setDirty x).pin j = s.pin j := rfl
@[simp] theorem State.setDirty_lphy (x : List Nat) (j : Nat) : (s.setDirty x).lphy j = s.lphy j := rfl
@[simp] theorem State.setDirty_cmpl (x : List Nat) (j : Nat) : (s.setDirty x).cmpl j = s.cmpl j := rfl
@[simp] theorem State.setDirty_cmp (x : List Nat) (j : Nat) : (s.setDirty x).cmp j = s.cmp j := rfl
@[simp] theorem State.setDirty_isl (x : List Nat) (j : Nat) : (s.setDirty x).isl j = s.isl j := rfl
@[simp] theorem State.setDirty_rail (x : List Nat) (j : Nat) : (s.setDirty x).rail j = s.rail j := rfl
@[simp] theorem State.setDirty_stop (x : List Nat) (j : Nat) : (s.setDirty x).stop j = s.stop j := rfl
@[simp] theorem State.setDirty_totals (x : List Nat) (j : Nat) : (s.setDirty x).totals j = s.totals j := rfl
@[simp] theorem State.setDirty_sbank (x : List Nat) (j : Nat) : (s.setDirty x).sbank j = s.sbank j := rfl
@[simp] theorem State.setDirty_tpll (x : List Nat) : (s.setDirty x).tpll = s.tpll := rfl
@[simp] theorem State.setDirty_quad (x : List Nat) (j : Nat) : (s.setDirty x).quad j = s.quad j := rfl
@[simp] theorem State.setDirty_bring (x : List Nat) : (s.setDirty x).bring = s.bring := rfl
@[simp] theorem State.setDirty_lustre (x : List Nat) : (s.setDirty x).lustre = s.lustre := rfl
@[simp] theorem State.setDirty_port (x : List Nat) (j : Nat) : (s.setDirty x).port j = s.port j := rfl
@[simp] theorem State.setDirty_evtb (x : List Nat) (j : Nat) : (s.setDirty x).evtb j = s.evtb j := rfl
@[simp] theorem State.setDirty_route (x : List Nat) (j : Nat) : (s.setDirty x).route j = s.route j := rfl
@[simp] theorem State.setDirty_swq (x : List Nat) : (s.setDirty x).swq = s.swq := rfl
@[simp] theorem State.setDirty_timer (x : List Nat) (j : Nat) : (s.setDirty x).timer j = s.timer j := rfl
@[simp] theorem State.setDirty_journal (x : List Nat) : (s.setDirty x).journal = s.journal := rfl
@[simp] theorem State.setDirty_sec (x : List Nat) : (s.setDirty x).sec = s.sec := rfl
@[simp] theorem State.setDirty_rflc (x : List Nat) (j : Nat) : (s.setDirty x).rflc j = s.rflc j := rfl
@[simp] theorem State.setDirty_bursts (x : List Nat) : (s.setDirty x).bursts = s.bursts := rfl
@[simp] theorem State.setDirty_cal (x : List Nat) : (s.setDirty x).cal = s.cal := rfl
@[simp] theorem State.setDirty_casPort (x : List Nat) (j : Nat) : (s.setDirty x).casPort j = s.casPort j := rfl
@[simp] theorem State.setDirty_cas (x : List Nat) : (s.setDirty x).cas = s.cas := rfl
@[simp] theorem State.setDirty_lags (x : List Nat) : (s.setDirty x).lags = s.lags := rfl

/-! ### setPages -/

@[simp] theorem State.setPages_same (i : Nat) (x : PageSt) : (s.setPages i x).pages i = x := Sparse.get_set_same _ _ _ _
theorem State.setPages_ne (i : Nat) (x : PageSt) {j : Nat} (h : j ≠ i) : (s.setPages i x).pages j = s.pages j := Sparse.get_set_ne _ _ _ h
@[simp] theorem State.setPages_epoch (i : Nat) (x : PageSt) : (s.setPages i x).epoch = s.epoch := rfl
@[simp] theorem State.setPages_tb (i : Nat) (x : PageSt) : (s.setPages i x).tb = s.tb := rfl
@[simp] theorem State.setPages_mem (i : Nat) (x : PageSt) : (s.setPages i x).mem = s.mem := rfl
@[simp] theorem State.setPages_pending (i : Nat) (x : PageSt) : (s.setPages i x).pending = s.pending := rfl
@[simp] theorem State.setPages_rd (i : Nat) (x : PageSt) (f : Fld) (j : Nat) : (s.setPages i x).rd f j = s.rd f j := rfl
@[simp] theorem State.setPages_rdA (i : Nat) (x : PageSt) (f : Fld) (j : Nat) : (s.setPages i x).rdA f j = s.rdA f j := rfl
@[simp] theorem State.setPages_dirty (i : Nat) (x : PageSt) : (s.setPages i x).dirty = s.dirty := rfl
@[simp] theorem State.setPages_latch (i : Nat) (x : PageSt) (j : Nat) : (s.setPages i x).latch j = s.latch j := rfl
@[simp] theorem State.setPages_tbu (i : Nat) (x : PageSt) : (s.setPages i x).tbu = s.tbu := rfl
@[simp] theorem State.setPages_hostp (i : Nat) (x : PageSt) : (s.setPages i x).hostp = s.hostp := rfl
@[simp] theorem State.setPages_recs (i : Nat) (x : PageSt) : (s.setPages i x).recs = s.recs := rfl
@[simp] theorem State.setPages_prodq (i : Nat) (x : PageSt) : (s.setPages i x).prodq = s.prodq := rfl
@[simp] theorem State.setPages_out (i : Nat) (x : PageSt) : (s.setPages i x).out = s.out := rfl
@[simp] theorem State.setPages_freeCtr (i : Nat) (x : PageSt) : (s.setPages i x).freeCtr = s.freeCtr := rfl
@[simp] theorem State.setPages_dom (i : Nat) (x : PageSt) (j : Nat) : (s.setPages i x).dom j = s.dom j := rfl
@[simp] theorem State.setPages_dir (i : Nat) (x : PageSt) (j : Nat) : (s.setPages i x).dir j = s.dir j := rfl
@[simp] theorem State.setPages_store (i : Nat) (x : PageSt) (j : Nat) : (s.setPages i x).store j = s.store j := rfl
@[simp] theorem State.setPages_win (i : Nat) (x : PageSt) (j : Nat) : (s.setPages i x).win j = s.win j := rfl
@[simp] theorem State.setPages_tab (i : Nat) (x : PageSt) (j : Nat) : (s.setPages i x).tab j = s.tab j := rfl
@[simp] theorem State.setPages_apg (i : Nat) (x : PageSt) (j : Nat) : (s.setPages i x).apg j = s.apg j := rfl
@[simp] theorem State.setPages_eng (i : Nat) (x : PageSt) (j : Nat) : (s.setPages i x).eng j = s.eng j := rfl
@[simp] theorem State.setPages_lout (i : Nat) (x : PageSt) (j : Nat) : (s.setPages i x).lout j = s.lout j := rfl
@[simp] theorem State.setPages_grp (i : Nat) (x : PageSt) (j : Nat) : (s.setPages i x).grp j = s.grp j := rfl
@[simp] theorem State.setPages_ballClaim (i : Nat) (x : PageSt) (j : Nat) : (s.setPages i x).ballClaim j = s.ballClaim j := rfl
@[simp] theorem State.setPages_ballOut (i : Nat) (x : PageSt) (j : Nat) : (s.setPages i x).ballOut j = s.ballOut j := rfl
@[simp] theorem State.setPages_ballTb (i : Nat) (x : PageSt) (j : Nat) : (s.setPages i x).ballTb j = s.ballTb j := rfl
@[simp] theorem State.setPages_arrivals (i : Nat) (x : PageSt) : (s.setPages i x).arrivals = s.arrivals := rfl
@[simp] theorem State.setPages_drv (i : Nat) (x : PageSt) (j : Nat) : (s.setPages i x).drv j = s.drv j := rfl
@[simp] theorem State.setPages_node (i : Nat) (x : PageSt) (j : Nat) : (s.setPages i x).node j = s.node j := rfl
@[simp] theorem State.setPages_loupe (i : Nat) (x : PageSt) : (s.setPages i x).loupe = s.loupe := rfl
@[simp] theorem State.setPages_crown (i : Nat) (x : PageSt) (j : Nat) : (s.setPages i x).crown j = s.crown j := rfl
@[simp] theorem State.setPages_bank (i : Nat) (x : PageSt) (j : Nat) : (s.setPages i x).bank j = s.bank j := rfl
@[simp] theorem State.setPages_sense (i : Nat) (x : PageSt) (j : Nat) : (s.setPages i x).sense j = s.sense j := rfl
@[simp] theorem State.setPages_pin (i : Nat) (x : PageSt) (j : Nat) : (s.setPages i x).pin j = s.pin j := rfl
@[simp] theorem State.setPages_lphy (i : Nat) (x : PageSt) (j : Nat) : (s.setPages i x).lphy j = s.lphy j := rfl
@[simp] theorem State.setPages_cmpl (i : Nat) (x : PageSt) (j : Nat) : (s.setPages i x).cmpl j = s.cmpl j := rfl
@[simp] theorem State.setPages_cmp (i : Nat) (x : PageSt) (j : Nat) : (s.setPages i x).cmp j = s.cmp j := rfl
@[simp] theorem State.setPages_isl (i : Nat) (x : PageSt) (j : Nat) : (s.setPages i x).isl j = s.isl j := rfl
@[simp] theorem State.setPages_rail (i : Nat) (x : PageSt) (j : Nat) : (s.setPages i x).rail j = s.rail j := rfl
@[simp] theorem State.setPages_stop (i : Nat) (x : PageSt) (j : Nat) : (s.setPages i x).stop j = s.stop j := rfl
@[simp] theorem State.setPages_totals (i : Nat) (x : PageSt) (j : Nat) : (s.setPages i x).totals j = s.totals j := rfl
@[simp] theorem State.setPages_sbank (i : Nat) (x : PageSt) (j : Nat) : (s.setPages i x).sbank j = s.sbank j := rfl
@[simp] theorem State.setPages_tpll (i : Nat) (x : PageSt) : (s.setPages i x).tpll = s.tpll := rfl
@[simp] theorem State.setPages_quad (i : Nat) (x : PageSt) (j : Nat) : (s.setPages i x).quad j = s.quad j := rfl
@[simp] theorem State.setPages_bring (i : Nat) (x : PageSt) : (s.setPages i x).bring = s.bring := rfl
@[simp] theorem State.setPages_lustre (i : Nat) (x : PageSt) : (s.setPages i x).lustre = s.lustre := rfl
@[simp] theorem State.setPages_port (i : Nat) (x : PageSt) (j : Nat) : (s.setPages i x).port j = s.port j := rfl
@[simp] theorem State.setPages_evtb (i : Nat) (x : PageSt) (j : Nat) : (s.setPages i x).evtb j = s.evtb j := rfl
@[simp] theorem State.setPages_route (i : Nat) (x : PageSt) (j : Nat) : (s.setPages i x).route j = s.route j := rfl
@[simp] theorem State.setPages_swq (i : Nat) (x : PageSt) : (s.setPages i x).swq = s.swq := rfl
@[simp] theorem State.setPages_timer (i : Nat) (x : PageSt) (j : Nat) : (s.setPages i x).timer j = s.timer j := rfl
@[simp] theorem State.setPages_journal (i : Nat) (x : PageSt) : (s.setPages i x).journal = s.journal := rfl
@[simp] theorem State.setPages_sec (i : Nat) (x : PageSt) : (s.setPages i x).sec = s.sec := rfl
@[simp] theorem State.setPages_rflc (i : Nat) (x : PageSt) (j : Nat) : (s.setPages i x).rflc j = s.rflc j := rfl
@[simp] theorem State.setPages_bursts (i : Nat) (x : PageSt) : (s.setPages i x).bursts = s.bursts := rfl
@[simp] theorem State.setPages_cal (i : Nat) (x : PageSt) : (s.setPages i x).cal = s.cal := rfl
@[simp] theorem State.setPages_casPort (i : Nat) (x : PageSt) (j : Nat) : (s.setPages i x).casPort j = s.casPort j := rfl
@[simp] theorem State.setPages_cas (i : Nat) (x : PageSt) : (s.setPages i x).cas = s.cas := rfl
@[simp] theorem State.setPages_lags (i : Nat) (x : PageSt) : (s.setPages i x).lags = s.lags := rfl

/-! ### setLatch -/

@[simp] theorem State.setLatch_same (i : Nat) (x : Nat) : (s.setLatch i x).latch i = x := Sparse.get_set_same _ _ _ _
theorem State.setLatch_ne (i : Nat) (x : Nat) {j : Nat} (h : j ≠ i) : (s.setLatch i x).latch j = s.latch j := Sparse.get_set_ne _ _ _ h
@[simp] theorem State.setLatch_epoch (i : Nat) (x : Nat) : (s.setLatch i x).epoch = s.epoch := rfl
@[simp] theorem State.setLatch_tb (i : Nat) (x : Nat) : (s.setLatch i x).tb = s.tb := rfl
@[simp] theorem State.setLatch_mem (i : Nat) (x : Nat) : (s.setLatch i x).mem = s.mem := rfl
@[simp] theorem State.setLatch_pending (i : Nat) (x : Nat) : (s.setLatch i x).pending = s.pending := rfl
@[simp] theorem State.setLatch_rd (i : Nat) (x : Nat) (f : Fld) (j : Nat) : (s.setLatch i x).rd f j = s.rd f j := rfl
@[simp] theorem State.setLatch_rdA (i : Nat) (x : Nat) (f : Fld) (j : Nat) : (s.setLatch i x).rdA f j = s.rdA f j := rfl
@[simp] theorem State.setLatch_dirty (i : Nat) (x : Nat) : (s.setLatch i x).dirty = s.dirty := rfl
@[simp] theorem State.setLatch_pages (i : Nat) (x : Nat) (j : Nat) : (s.setLatch i x).pages j = s.pages j := rfl
@[simp] theorem State.setLatch_tbu (i : Nat) (x : Nat) : (s.setLatch i x).tbu = s.tbu := rfl
@[simp] theorem State.setLatch_hostp (i : Nat) (x : Nat) : (s.setLatch i x).hostp = s.hostp := rfl
@[simp] theorem State.setLatch_recs (i : Nat) (x : Nat) : (s.setLatch i x).recs = s.recs := rfl
@[simp] theorem State.setLatch_prodq (i : Nat) (x : Nat) : (s.setLatch i x).prodq = s.prodq := rfl
@[simp] theorem State.setLatch_out (i : Nat) (x : Nat) : (s.setLatch i x).out = s.out := rfl
@[simp] theorem State.setLatch_freeCtr (i : Nat) (x : Nat) : (s.setLatch i x).freeCtr = s.freeCtr := rfl
@[simp] theorem State.setLatch_dom (i : Nat) (x : Nat) (j : Nat) : (s.setLatch i x).dom j = s.dom j := rfl
@[simp] theorem State.setLatch_dir (i : Nat) (x : Nat) (j : Nat) : (s.setLatch i x).dir j = s.dir j := rfl
@[simp] theorem State.setLatch_store (i : Nat) (x : Nat) (j : Nat) : (s.setLatch i x).store j = s.store j := rfl
@[simp] theorem State.setLatch_win (i : Nat) (x : Nat) (j : Nat) : (s.setLatch i x).win j = s.win j := rfl
@[simp] theorem State.setLatch_tab (i : Nat) (x : Nat) (j : Nat) : (s.setLatch i x).tab j = s.tab j := rfl
@[simp] theorem State.setLatch_apg (i : Nat) (x : Nat) (j : Nat) : (s.setLatch i x).apg j = s.apg j := rfl
@[simp] theorem State.setLatch_eng (i : Nat) (x : Nat) (j : Nat) : (s.setLatch i x).eng j = s.eng j := rfl
@[simp] theorem State.setLatch_lout (i : Nat) (x : Nat) (j : Nat) : (s.setLatch i x).lout j = s.lout j := rfl
@[simp] theorem State.setLatch_grp (i : Nat) (x : Nat) (j : Nat) : (s.setLatch i x).grp j = s.grp j := rfl
@[simp] theorem State.setLatch_ballClaim (i : Nat) (x : Nat) (j : Nat) : (s.setLatch i x).ballClaim j = s.ballClaim j := rfl
@[simp] theorem State.setLatch_ballOut (i : Nat) (x : Nat) (j : Nat) : (s.setLatch i x).ballOut j = s.ballOut j := rfl
@[simp] theorem State.setLatch_ballTb (i : Nat) (x : Nat) (j : Nat) : (s.setLatch i x).ballTb j = s.ballTb j := rfl
@[simp] theorem State.setLatch_arrivals (i : Nat) (x : Nat) : (s.setLatch i x).arrivals = s.arrivals := rfl
@[simp] theorem State.setLatch_drv (i : Nat) (x : Nat) (j : Nat) : (s.setLatch i x).drv j = s.drv j := rfl
@[simp] theorem State.setLatch_node (i : Nat) (x : Nat) (j : Nat) : (s.setLatch i x).node j = s.node j := rfl
@[simp] theorem State.setLatch_loupe (i : Nat) (x : Nat) : (s.setLatch i x).loupe = s.loupe := rfl
@[simp] theorem State.setLatch_crown (i : Nat) (x : Nat) (j : Nat) : (s.setLatch i x).crown j = s.crown j := rfl
@[simp] theorem State.setLatch_bank (i : Nat) (x : Nat) (j : Nat) : (s.setLatch i x).bank j = s.bank j := rfl
@[simp] theorem State.setLatch_sense (i : Nat) (x : Nat) (j : Nat) : (s.setLatch i x).sense j = s.sense j := rfl
@[simp] theorem State.setLatch_pin (i : Nat) (x : Nat) (j : Nat) : (s.setLatch i x).pin j = s.pin j := rfl
@[simp] theorem State.setLatch_lphy (i : Nat) (x : Nat) (j : Nat) : (s.setLatch i x).lphy j = s.lphy j := rfl
@[simp] theorem State.setLatch_cmpl (i : Nat) (x : Nat) (j : Nat) : (s.setLatch i x).cmpl j = s.cmpl j := rfl
@[simp] theorem State.setLatch_cmp (i : Nat) (x : Nat) (j : Nat) : (s.setLatch i x).cmp j = s.cmp j := rfl
@[simp] theorem State.setLatch_isl (i : Nat) (x : Nat) (j : Nat) : (s.setLatch i x).isl j = s.isl j := rfl
@[simp] theorem State.setLatch_rail (i : Nat) (x : Nat) (j : Nat) : (s.setLatch i x).rail j = s.rail j := rfl
@[simp] theorem State.setLatch_stop (i : Nat) (x : Nat) (j : Nat) : (s.setLatch i x).stop j = s.stop j := rfl
@[simp] theorem State.setLatch_totals (i : Nat) (x : Nat) (j : Nat) : (s.setLatch i x).totals j = s.totals j := rfl
@[simp] theorem State.setLatch_sbank (i : Nat) (x : Nat) (j : Nat) : (s.setLatch i x).sbank j = s.sbank j := rfl
@[simp] theorem State.setLatch_tpll (i : Nat) (x : Nat) : (s.setLatch i x).tpll = s.tpll := rfl
@[simp] theorem State.setLatch_quad (i : Nat) (x : Nat) (j : Nat) : (s.setLatch i x).quad j = s.quad j := rfl
@[simp] theorem State.setLatch_bring (i : Nat) (x : Nat) : (s.setLatch i x).bring = s.bring := rfl
@[simp] theorem State.setLatch_lustre (i : Nat) (x : Nat) : (s.setLatch i x).lustre = s.lustre := rfl
@[simp] theorem State.setLatch_port (i : Nat) (x : Nat) (j : Nat) : (s.setLatch i x).port j = s.port j := rfl
@[simp] theorem State.setLatch_evtb (i : Nat) (x : Nat) (j : Nat) : (s.setLatch i x).evtb j = s.evtb j := rfl
@[simp] theorem State.setLatch_route (i : Nat) (x : Nat) (j : Nat) : (s.setLatch i x).route j = s.route j := rfl
@[simp] theorem State.setLatch_swq (i : Nat) (x : Nat) : (s.setLatch i x).swq = s.swq := rfl
@[simp] theorem State.setLatch_timer (i : Nat) (x : Nat) (j : Nat) : (s.setLatch i x).timer j = s.timer j := rfl
@[simp] theorem State.setLatch_journal (i : Nat) (x : Nat) : (s.setLatch i x).journal = s.journal := rfl
@[simp] theorem State.setLatch_sec (i : Nat) (x : Nat) : (s.setLatch i x).sec = s.sec := rfl
@[simp] theorem State.setLatch_rflc (i : Nat) (x : Nat) (j : Nat) : (s.setLatch i x).rflc j = s.rflc j := rfl
@[simp] theorem State.setLatch_bursts (i : Nat) (x : Nat) : (s.setLatch i x).bursts = s.bursts := rfl
@[simp] theorem State.setLatch_cal (i : Nat) (x : Nat) : (s.setLatch i x).cal = s.cal := rfl
@[simp] theorem State.setLatch_casPort (i : Nat) (x : Nat) (j : Nat) : (s.setLatch i x).casPort j = s.casPort j := rfl
@[simp] theorem State.setLatch_cas (i : Nat) (x : Nat) : (s.setLatch i x).cas = s.cas := rfl
@[simp] theorem State.setLatch_lags (i : Nat) (x : Nat) : (s.setLatch i x).lags = s.lags := rfl

/-! ### setTbu -/

@[simp] theorem State.setTbu_same (x : Tb) : (s.setTbu x).tbu = x := rfl
@[simp] theorem State.setTbu_epoch (x : Tb) : (s.setTbu x).epoch = s.epoch := rfl
@[simp] theorem State.setTbu_tb (x : Tb) : (s.setTbu x).tb = s.tb := rfl
@[simp] theorem State.setTbu_mem (x : Tb) : (s.setTbu x).mem = s.mem := rfl
@[simp] theorem State.setTbu_pending (x : Tb) : (s.setTbu x).pending = s.pending := rfl
@[simp] theorem State.setTbu_rd (x : Tb) (f : Fld) (j : Nat) : (s.setTbu x).rd f j = s.rd f j := rfl
@[simp] theorem State.setTbu_rdA (x : Tb) (f : Fld) (j : Nat) : (s.setTbu x).rdA f j = s.rdA f j := rfl
@[simp] theorem State.setTbu_dirty (x : Tb) : (s.setTbu x).dirty = s.dirty := rfl
@[simp] theorem State.setTbu_pages (x : Tb) (j : Nat) : (s.setTbu x).pages j = s.pages j := rfl
@[simp] theorem State.setTbu_latch (x : Tb) (j : Nat) : (s.setTbu x).latch j = s.latch j := rfl
@[simp] theorem State.setTbu_hostp (x : Tb) : (s.setTbu x).hostp = s.hostp := rfl
@[simp] theorem State.setTbu_recs (x : Tb) : (s.setTbu x).recs = s.recs := rfl
@[simp] theorem State.setTbu_prodq (x : Tb) : (s.setTbu x).prodq = s.prodq := rfl
@[simp] theorem State.setTbu_out (x : Tb) : (s.setTbu x).out = s.out := rfl
@[simp] theorem State.setTbu_freeCtr (x : Tb) : (s.setTbu x).freeCtr = s.freeCtr := rfl
@[simp] theorem State.setTbu_dom (x : Tb) (j : Nat) : (s.setTbu x).dom j = s.dom j := rfl
@[simp] theorem State.setTbu_dir (x : Tb) (j : Nat) : (s.setTbu x).dir j = s.dir j := rfl
@[simp] theorem State.setTbu_store (x : Tb) (j : Nat) : (s.setTbu x).store j = s.store j := rfl
@[simp] theorem State.setTbu_win (x : Tb) (j : Nat) : (s.setTbu x).win j = s.win j := rfl
@[simp] theorem State.setTbu_tab (x : Tb) (j : Nat) : (s.setTbu x).tab j = s.tab j := rfl
@[simp] theorem State.setTbu_apg (x : Tb) (j : Nat) : (s.setTbu x).apg j = s.apg j := rfl
@[simp] theorem State.setTbu_eng (x : Tb) (j : Nat) : (s.setTbu x).eng j = s.eng j := rfl
@[simp] theorem State.setTbu_lout (x : Tb) (j : Nat) : (s.setTbu x).lout j = s.lout j := rfl
@[simp] theorem State.setTbu_grp (x : Tb) (j : Nat) : (s.setTbu x).grp j = s.grp j := rfl
@[simp] theorem State.setTbu_ballClaim (x : Tb) (j : Nat) : (s.setTbu x).ballClaim j = s.ballClaim j := rfl
@[simp] theorem State.setTbu_ballOut (x : Tb) (j : Nat) : (s.setTbu x).ballOut j = s.ballOut j := rfl
@[simp] theorem State.setTbu_ballTb (x : Tb) (j : Nat) : (s.setTbu x).ballTb j = s.ballTb j := rfl
@[simp] theorem State.setTbu_arrivals (x : Tb) : (s.setTbu x).arrivals = s.arrivals := rfl
@[simp] theorem State.setTbu_drv (x : Tb) (j : Nat) : (s.setTbu x).drv j = s.drv j := rfl
@[simp] theorem State.setTbu_node (x : Tb) (j : Nat) : (s.setTbu x).node j = s.node j := rfl
@[simp] theorem State.setTbu_loupe (x : Tb) : (s.setTbu x).loupe = s.loupe := rfl
@[simp] theorem State.setTbu_crown (x : Tb) (j : Nat) : (s.setTbu x).crown j = s.crown j := rfl
@[simp] theorem State.setTbu_bank (x : Tb) (j : Nat) : (s.setTbu x).bank j = s.bank j := rfl
@[simp] theorem State.setTbu_sense (x : Tb) (j : Nat) : (s.setTbu x).sense j = s.sense j := rfl
@[simp] theorem State.setTbu_pin (x : Tb) (j : Nat) : (s.setTbu x).pin j = s.pin j := rfl
@[simp] theorem State.setTbu_lphy (x : Tb) (j : Nat) : (s.setTbu x).lphy j = s.lphy j := rfl
@[simp] theorem State.setTbu_cmpl (x : Tb) (j : Nat) : (s.setTbu x).cmpl j = s.cmpl j := rfl
@[simp] theorem State.setTbu_cmp (x : Tb) (j : Nat) : (s.setTbu x).cmp j = s.cmp j := rfl
@[simp] theorem State.setTbu_isl (x : Tb) (j : Nat) : (s.setTbu x).isl j = s.isl j := rfl
@[simp] theorem State.setTbu_rail (x : Tb) (j : Nat) : (s.setTbu x).rail j = s.rail j := rfl
@[simp] theorem State.setTbu_stop (x : Tb) (j : Nat) : (s.setTbu x).stop j = s.stop j := rfl
@[simp] theorem State.setTbu_totals (x : Tb) (j : Nat) : (s.setTbu x).totals j = s.totals j := rfl
@[simp] theorem State.setTbu_sbank (x : Tb) (j : Nat) : (s.setTbu x).sbank j = s.sbank j := rfl
@[simp] theorem State.setTbu_tpll (x : Tb) : (s.setTbu x).tpll = s.tpll := rfl
@[simp] theorem State.setTbu_quad (x : Tb) (j : Nat) : (s.setTbu x).quad j = s.quad j := rfl
@[simp] theorem State.setTbu_bring (x : Tb) : (s.setTbu x).bring = s.bring := rfl
@[simp] theorem State.setTbu_lustre (x : Tb) : (s.setTbu x).lustre = s.lustre := rfl
@[simp] theorem State.setTbu_port (x : Tb) (j : Nat) : (s.setTbu x).port j = s.port j := rfl
@[simp] theorem State.setTbu_evtb (x : Tb) (j : Nat) : (s.setTbu x).evtb j = s.evtb j := rfl
@[simp] theorem State.setTbu_route (x : Tb) (j : Nat) : (s.setTbu x).route j = s.route j := rfl
@[simp] theorem State.setTbu_swq (x : Tb) : (s.setTbu x).swq = s.swq := rfl
@[simp] theorem State.setTbu_timer (x : Tb) (j : Nat) : (s.setTbu x).timer j = s.timer j := rfl
@[simp] theorem State.setTbu_journal (x : Tb) : (s.setTbu x).journal = s.journal := rfl
@[simp] theorem State.setTbu_sec (x : Tb) : (s.setTbu x).sec = s.sec := rfl
@[simp] theorem State.setTbu_rflc (x : Tb) (j : Nat) : (s.setTbu x).rflc j = s.rflc j := rfl
@[simp] theorem State.setTbu_bursts (x : Tb) : (s.setTbu x).bursts = s.bursts := rfl
@[simp] theorem State.setTbu_cal (x : Tb) : (s.setTbu x).cal = s.cal := rfl
@[simp] theorem State.setTbu_casPort (x : Tb) (j : Nat) : (s.setTbu x).casPort j = s.casPort j := rfl
@[simp] theorem State.setTbu_cas (x : Tb) : (s.setTbu x).cas = s.cas := rfl
@[simp] theorem State.setTbu_lags (x : Tb) : (s.setTbu x).lags = s.lags := rfl

/-! ### setHostp -/

@[simp] theorem State.setHostp_same (x : HostPort) : (s.setHostp x).hostp = x := rfl
@[simp] theorem State.setHostp_epoch (x : HostPort) : (s.setHostp x).epoch = s.epoch := rfl
@[simp] theorem State.setHostp_tb (x : HostPort) : (s.setHostp x).tb = s.tb := rfl
@[simp] theorem State.setHostp_mem (x : HostPort) : (s.setHostp x).mem = s.mem := rfl
@[simp] theorem State.setHostp_pending (x : HostPort) : (s.setHostp x).pending = s.pending := rfl
@[simp] theorem State.setHostp_rd (x : HostPort) (f : Fld) (j : Nat) : (s.setHostp x).rd f j = s.rd f j := rfl
@[simp] theorem State.setHostp_rdA (x : HostPort) (f : Fld) (j : Nat) : (s.setHostp x).rdA f j = s.rdA f j := rfl
@[simp] theorem State.setHostp_dirty (x : HostPort) : (s.setHostp x).dirty = s.dirty := rfl
@[simp] theorem State.setHostp_pages (x : HostPort) (j : Nat) : (s.setHostp x).pages j = s.pages j := rfl
@[simp] theorem State.setHostp_latch (x : HostPort) (j : Nat) : (s.setHostp x).latch j = s.latch j := rfl
@[simp] theorem State.setHostp_tbu (x : HostPort) : (s.setHostp x).tbu = s.tbu := rfl
@[simp] theorem State.setHostp_recs (x : HostPort) : (s.setHostp x).recs = s.recs := rfl
@[simp] theorem State.setHostp_prodq (x : HostPort) : (s.setHostp x).prodq = s.prodq := rfl
@[simp] theorem State.setHostp_out (x : HostPort) : (s.setHostp x).out = s.out := rfl
@[simp] theorem State.setHostp_freeCtr (x : HostPort) : (s.setHostp x).freeCtr = s.freeCtr := rfl
@[simp] theorem State.setHostp_dom (x : HostPort) (j : Nat) : (s.setHostp x).dom j = s.dom j := rfl
@[simp] theorem State.setHostp_dir (x : HostPort) (j : Nat) : (s.setHostp x).dir j = s.dir j := rfl
@[simp] theorem State.setHostp_store (x : HostPort) (j : Nat) : (s.setHostp x).store j = s.store j := rfl
@[simp] theorem State.setHostp_win (x : HostPort) (j : Nat) : (s.setHostp x).win j = s.win j := rfl
@[simp] theorem State.setHostp_tab (x : HostPort) (j : Nat) : (s.setHostp x).tab j = s.tab j := rfl
@[simp] theorem State.setHostp_apg (x : HostPort) (j : Nat) : (s.setHostp x).apg j = s.apg j := rfl
@[simp] theorem State.setHostp_eng (x : HostPort) (j : Nat) : (s.setHostp x).eng j = s.eng j := rfl
@[simp] theorem State.setHostp_lout (x : HostPort) (j : Nat) : (s.setHostp x).lout j = s.lout j := rfl
@[simp] theorem State.setHostp_grp (x : HostPort) (j : Nat) : (s.setHostp x).grp j = s.grp j := rfl
@[simp] theorem State.setHostp_ballClaim (x : HostPort) (j : Nat) : (s.setHostp x).ballClaim j = s.ballClaim j := rfl
@[simp] theorem State.setHostp_ballOut (x : HostPort) (j : Nat) : (s.setHostp x).ballOut j = s.ballOut j := rfl
@[simp] theorem State.setHostp_ballTb (x : HostPort) (j : Nat) : (s.setHostp x).ballTb j = s.ballTb j := rfl
@[simp] theorem State.setHostp_arrivals (x : HostPort) : (s.setHostp x).arrivals = s.arrivals := rfl
@[simp] theorem State.setHostp_drv (x : HostPort) (j : Nat) : (s.setHostp x).drv j = s.drv j := rfl
@[simp] theorem State.setHostp_node (x : HostPort) (j : Nat) : (s.setHostp x).node j = s.node j := rfl
@[simp] theorem State.setHostp_loupe (x : HostPort) : (s.setHostp x).loupe = s.loupe := rfl
@[simp] theorem State.setHostp_crown (x : HostPort) (j : Nat) : (s.setHostp x).crown j = s.crown j := rfl
@[simp] theorem State.setHostp_bank (x : HostPort) (j : Nat) : (s.setHostp x).bank j = s.bank j := rfl
@[simp] theorem State.setHostp_sense (x : HostPort) (j : Nat) : (s.setHostp x).sense j = s.sense j := rfl
@[simp] theorem State.setHostp_pin (x : HostPort) (j : Nat) : (s.setHostp x).pin j = s.pin j := rfl
@[simp] theorem State.setHostp_lphy (x : HostPort) (j : Nat) : (s.setHostp x).lphy j = s.lphy j := rfl
@[simp] theorem State.setHostp_cmpl (x : HostPort) (j : Nat) : (s.setHostp x).cmpl j = s.cmpl j := rfl
@[simp] theorem State.setHostp_cmp (x : HostPort) (j : Nat) : (s.setHostp x).cmp j = s.cmp j := rfl
@[simp] theorem State.setHostp_isl (x : HostPort) (j : Nat) : (s.setHostp x).isl j = s.isl j := rfl
@[simp] theorem State.setHostp_rail (x : HostPort) (j : Nat) : (s.setHostp x).rail j = s.rail j := rfl
@[simp] theorem State.setHostp_stop (x : HostPort) (j : Nat) : (s.setHostp x).stop j = s.stop j := rfl
@[simp] theorem State.setHostp_totals (x : HostPort) (j : Nat) : (s.setHostp x).totals j = s.totals j := rfl
@[simp] theorem State.setHostp_sbank (x : HostPort) (j : Nat) : (s.setHostp x).sbank j = s.sbank j := rfl
@[simp] theorem State.setHostp_tpll (x : HostPort) : (s.setHostp x).tpll = s.tpll := rfl
@[simp] theorem State.setHostp_quad (x : HostPort) (j : Nat) : (s.setHostp x).quad j = s.quad j := rfl
@[simp] theorem State.setHostp_bring (x : HostPort) : (s.setHostp x).bring = s.bring := rfl
@[simp] theorem State.setHostp_lustre (x : HostPort) : (s.setHostp x).lustre = s.lustre := rfl
@[simp] theorem State.setHostp_port (x : HostPort) (j : Nat) : (s.setHostp x).port j = s.port j := rfl
@[simp] theorem State.setHostp_evtb (x : HostPort) (j : Nat) : (s.setHostp x).evtb j = s.evtb j := rfl
@[simp] theorem State.setHostp_route (x : HostPort) (j : Nat) : (s.setHostp x).route j = s.route j := rfl
@[simp] theorem State.setHostp_swq (x : HostPort) : (s.setHostp x).swq = s.swq := rfl
@[simp] theorem State.setHostp_timer (x : HostPort) (j : Nat) : (s.setHostp x).timer j = s.timer j := rfl
@[simp] theorem State.setHostp_journal (x : HostPort) : (s.setHostp x).journal = s.journal := rfl
@[simp] theorem State.setHostp_sec (x : HostPort) : (s.setHostp x).sec = s.sec := rfl
@[simp] theorem State.setHostp_rflc (x : HostPort) (j : Nat) : (s.setHostp x).rflc j = s.rflc j := rfl
@[simp] theorem State.setHostp_bursts (x : HostPort) : (s.setHostp x).bursts = s.bursts := rfl
@[simp] theorem State.setHostp_cal (x : HostPort) : (s.setHostp x).cal = s.cal := rfl
@[simp] theorem State.setHostp_casPort (x : HostPort) (j : Nat) : (s.setHostp x).casPort j = s.casPort j := rfl
@[simp] theorem State.setHostp_cas (x : HostPort) : (s.setHostp x).cas = s.cas := rfl
@[simp] theorem State.setHostp_lags (x : HostPort) : (s.setHostp x).lags = s.lags := rfl

/-! ### setRecs -/

@[simp] theorem State.setRecs_same (x : List Rec) : (s.setRecs x).recs = x := rfl
@[simp] theorem State.setRecs_epoch (x : List Rec) : (s.setRecs x).epoch = s.epoch := rfl
@[simp] theorem State.setRecs_tb (x : List Rec) : (s.setRecs x).tb = s.tb := rfl
@[simp] theorem State.setRecs_mem (x : List Rec) : (s.setRecs x).mem = s.mem := rfl
@[simp] theorem State.setRecs_pending (x : List Rec) : (s.setRecs x).pending = s.pending := rfl
@[simp] theorem State.setRecs_rd (x : List Rec) (f : Fld) (j : Nat) : (s.setRecs x).rd f j = s.rd f j := rfl
@[simp] theorem State.setRecs_rdA (x : List Rec) (f : Fld) (j : Nat) : (s.setRecs x).rdA f j = s.rdA f j := rfl
@[simp] theorem State.setRecs_dirty (x : List Rec) : (s.setRecs x).dirty = s.dirty := rfl
@[simp] theorem State.setRecs_pages (x : List Rec) (j : Nat) : (s.setRecs x).pages j = s.pages j := rfl
@[simp] theorem State.setRecs_latch (x : List Rec) (j : Nat) : (s.setRecs x).latch j = s.latch j := rfl
@[simp] theorem State.setRecs_tbu (x : List Rec) : (s.setRecs x).tbu = s.tbu := rfl
@[simp] theorem State.setRecs_hostp (x : List Rec) : (s.setRecs x).hostp = s.hostp := rfl
@[simp] theorem State.setRecs_prodq (x : List Rec) : (s.setRecs x).prodq = s.prodq := rfl
@[simp] theorem State.setRecs_out (x : List Rec) : (s.setRecs x).out = s.out := rfl
@[simp] theorem State.setRecs_freeCtr (x : List Rec) : (s.setRecs x).freeCtr = s.freeCtr := rfl
@[simp] theorem State.setRecs_dom (x : List Rec) (j : Nat) : (s.setRecs x).dom j = s.dom j := rfl
@[simp] theorem State.setRecs_dir (x : List Rec) (j : Nat) : (s.setRecs x).dir j = s.dir j := rfl
@[simp] theorem State.setRecs_store (x : List Rec) (j : Nat) : (s.setRecs x).store j = s.store j := rfl
@[simp] theorem State.setRecs_win (x : List Rec) (j : Nat) : (s.setRecs x).win j = s.win j := rfl
@[simp] theorem State.setRecs_tab (x : List Rec) (j : Nat) : (s.setRecs x).tab j = s.tab j := rfl
@[simp] theorem State.setRecs_apg (x : List Rec) (j : Nat) : (s.setRecs x).apg j = s.apg j := rfl
@[simp] theorem State.setRecs_eng (x : List Rec) (j : Nat) : (s.setRecs x).eng j = s.eng j := rfl
@[simp] theorem State.setRecs_lout (x : List Rec) (j : Nat) : (s.setRecs x).lout j = s.lout j := rfl
@[simp] theorem State.setRecs_grp (x : List Rec) (j : Nat) : (s.setRecs x).grp j = s.grp j := rfl
@[simp] theorem State.setRecs_ballClaim (x : List Rec) (j : Nat) : (s.setRecs x).ballClaim j = s.ballClaim j := rfl
@[simp] theorem State.setRecs_ballOut (x : List Rec) (j : Nat) : (s.setRecs x).ballOut j = s.ballOut j := rfl
@[simp] theorem State.setRecs_ballTb (x : List Rec) (j : Nat) : (s.setRecs x).ballTb j = s.ballTb j := rfl
@[simp] theorem State.setRecs_arrivals (x : List Rec) : (s.setRecs x).arrivals = s.arrivals := rfl
@[simp] theorem State.setRecs_drv (x : List Rec) (j : Nat) : (s.setRecs x).drv j = s.drv j := rfl
@[simp] theorem State.setRecs_node (x : List Rec) (j : Nat) : (s.setRecs x).node j = s.node j := rfl
@[simp] theorem State.setRecs_loupe (x : List Rec) : (s.setRecs x).loupe = s.loupe := rfl
@[simp] theorem State.setRecs_crown (x : List Rec) (j : Nat) : (s.setRecs x).crown j = s.crown j := rfl
@[simp] theorem State.setRecs_bank (x : List Rec) (j : Nat) : (s.setRecs x).bank j = s.bank j := rfl
@[simp] theorem State.setRecs_sense (x : List Rec) (j : Nat) : (s.setRecs x).sense j = s.sense j := rfl
@[simp] theorem State.setRecs_pin (x : List Rec) (j : Nat) : (s.setRecs x).pin j = s.pin j := rfl
@[simp] theorem State.setRecs_lphy (x : List Rec) (j : Nat) : (s.setRecs x).lphy j = s.lphy j := rfl
@[simp] theorem State.setRecs_cmpl (x : List Rec) (j : Nat) : (s.setRecs x).cmpl j = s.cmpl j := rfl
@[simp] theorem State.setRecs_cmp (x : List Rec) (j : Nat) : (s.setRecs x).cmp j = s.cmp j := rfl
@[simp] theorem State.setRecs_isl (x : List Rec) (j : Nat) : (s.setRecs x).isl j = s.isl j := rfl
@[simp] theorem State.setRecs_rail (x : List Rec) (j : Nat) : (s.setRecs x).rail j = s.rail j := rfl
@[simp] theorem State.setRecs_stop (x : List Rec) (j : Nat) : (s.setRecs x).stop j = s.stop j := rfl
@[simp] theorem State.setRecs_totals (x : List Rec) (j : Nat) : (s.setRecs x).totals j = s.totals j := rfl
@[simp] theorem State.setRecs_sbank (x : List Rec) (j : Nat) : (s.setRecs x).sbank j = s.sbank j := rfl
@[simp] theorem State.setRecs_tpll (x : List Rec) : (s.setRecs x).tpll = s.tpll := rfl
@[simp] theorem State.setRecs_quad (x : List Rec) (j : Nat) : (s.setRecs x).quad j = s.quad j := rfl
@[simp] theorem State.setRecs_bring (x : List Rec) : (s.setRecs x).bring = s.bring := rfl
@[simp] theorem State.setRecs_lustre (x : List Rec) : (s.setRecs x).lustre = s.lustre := rfl
@[simp] theorem State.setRecs_port (x : List Rec) (j : Nat) : (s.setRecs x).port j = s.port j := rfl
@[simp] theorem State.setRecs_evtb (x : List Rec) (j : Nat) : (s.setRecs x).evtb j = s.evtb j := rfl
@[simp] theorem State.setRecs_route (x : List Rec) (j : Nat) : (s.setRecs x).route j = s.route j := rfl
@[simp] theorem State.setRecs_swq (x : List Rec) : (s.setRecs x).swq = s.swq := rfl
@[simp] theorem State.setRecs_timer (x : List Rec) (j : Nat) : (s.setRecs x).timer j = s.timer j := rfl
@[simp] theorem State.setRecs_journal (x : List Rec) : (s.setRecs x).journal = s.journal := rfl
@[simp] theorem State.setRecs_sec (x : List Rec) : (s.setRecs x).sec = s.sec := rfl
@[simp] theorem State.setRecs_rflc (x : List Rec) (j : Nat) : (s.setRecs x).rflc j = s.rflc j := rfl
@[simp] theorem State.setRecs_bursts (x : List Rec) : (s.setRecs x).bursts = s.bursts := rfl
@[simp] theorem State.setRecs_cal (x : List Rec) : (s.setRecs x).cal = s.cal := rfl
@[simp] theorem State.setRecs_casPort (x : List Rec) (j : Nat) : (s.setRecs x).casPort j = s.casPort j := rfl
@[simp] theorem State.setRecs_cas (x : List Rec) : (s.setRecs x).cas = s.cas := rfl
@[simp] theorem State.setRecs_lags (x : List Rec) : (s.setRecs x).lags = s.lags := rfl

/-! ### setProdq -/

@[simp] theorem State.setProdq_same (x : List Event) : (s.setProdq x).prodq = x := rfl
@[simp] theorem State.setProdq_epoch (x : List Event) : (s.setProdq x).epoch = s.epoch := rfl
@[simp] theorem State.setProdq_tb (x : List Event) : (s.setProdq x).tb = s.tb := rfl
@[simp] theorem State.setProdq_mem (x : List Event) : (s.setProdq x).mem = s.mem := rfl
@[simp] theorem State.setProdq_pending (x : List Event) : (s.setProdq x).pending = s.pending := rfl
@[simp] theorem State.setProdq_rd (x : List Event) (f : Fld) (j : Nat) : (s.setProdq x).rd f j = s.rd f j := rfl
@[simp] theorem State.setProdq_rdA (x : List Event) (f : Fld) (j : Nat) : (s.setProdq x).rdA f j = s.rdA f j := rfl
@[simp] theorem State.setProdq_dirty (x : List Event) : (s.setProdq x).dirty = s.dirty := rfl
@[simp] theorem State.setProdq_pages (x : List Event) (j : Nat) : (s.setProdq x).pages j = s.pages j := rfl
@[simp] theorem State.setProdq_latch (x : List Event) (j : Nat) : (s.setProdq x).latch j = s.latch j := rfl
@[simp] theorem State.setProdq_tbu (x : List Event) : (s.setProdq x).tbu = s.tbu := rfl
@[simp] theorem State.setProdq_hostp (x : List Event) : (s.setProdq x).hostp = s.hostp := rfl
@[simp] theorem State.setProdq_recs (x : List Event) : (s.setProdq x).recs = s.recs := rfl
@[simp] theorem State.setProdq_out (x : List Event) : (s.setProdq x).out = s.out := rfl
@[simp] theorem State.setProdq_freeCtr (x : List Event) : (s.setProdq x).freeCtr = s.freeCtr := rfl
@[simp] theorem State.setProdq_dom (x : List Event) (j : Nat) : (s.setProdq x).dom j = s.dom j := rfl
@[simp] theorem State.setProdq_dir (x : List Event) (j : Nat) : (s.setProdq x).dir j = s.dir j := rfl
@[simp] theorem State.setProdq_store (x : List Event) (j : Nat) : (s.setProdq x).store j = s.store j := rfl
@[simp] theorem State.setProdq_win (x : List Event) (j : Nat) : (s.setProdq x).win j = s.win j := rfl
@[simp] theorem State.setProdq_tab (x : List Event) (j : Nat) : (s.setProdq x).tab j = s.tab j := rfl
@[simp] theorem State.setProdq_apg (x : List Event) (j : Nat) : (s.setProdq x).apg j = s.apg j := rfl
@[simp] theorem State.setProdq_eng (x : List Event) (j : Nat) : (s.setProdq x).eng j = s.eng j := rfl
@[simp] theorem State.setProdq_lout (x : List Event) (j : Nat) : (s.setProdq x).lout j = s.lout j := rfl
@[simp] theorem State.setProdq_grp (x : List Event) (j : Nat) : (s.setProdq x).grp j = s.grp j := rfl
@[simp] theorem State.setProdq_ballClaim (x : List Event) (j : Nat) : (s.setProdq x).ballClaim j = s.ballClaim j := rfl
@[simp] theorem State.setProdq_ballOut (x : List Event) (j : Nat) : (s.setProdq x).ballOut j = s.ballOut j := rfl
@[simp] theorem State.setProdq_ballTb (x : List Event) (j : Nat) : (s.setProdq x).ballTb j = s.ballTb j := rfl
@[simp] theorem State.setProdq_arrivals (x : List Event) : (s.setProdq x).arrivals = s.arrivals := rfl
@[simp] theorem State.setProdq_drv (x : List Event) (j : Nat) : (s.setProdq x).drv j = s.drv j := rfl
@[simp] theorem State.setProdq_node (x : List Event) (j : Nat) : (s.setProdq x).node j = s.node j := rfl
@[simp] theorem State.setProdq_loupe (x : List Event) : (s.setProdq x).loupe = s.loupe := rfl
@[simp] theorem State.setProdq_crown (x : List Event) (j : Nat) : (s.setProdq x).crown j = s.crown j := rfl
@[simp] theorem State.setProdq_bank (x : List Event) (j : Nat) : (s.setProdq x).bank j = s.bank j := rfl
@[simp] theorem State.setProdq_sense (x : List Event) (j : Nat) : (s.setProdq x).sense j = s.sense j := rfl
@[simp] theorem State.setProdq_pin (x : List Event) (j : Nat) : (s.setProdq x).pin j = s.pin j := rfl
@[simp] theorem State.setProdq_lphy (x : List Event) (j : Nat) : (s.setProdq x).lphy j = s.lphy j := rfl
@[simp] theorem State.setProdq_cmpl (x : List Event) (j : Nat) : (s.setProdq x).cmpl j = s.cmpl j := rfl
@[simp] theorem State.setProdq_cmp (x : List Event) (j : Nat) : (s.setProdq x).cmp j = s.cmp j := rfl
@[simp] theorem State.setProdq_isl (x : List Event) (j : Nat) : (s.setProdq x).isl j = s.isl j := rfl
@[simp] theorem State.setProdq_rail (x : List Event) (j : Nat) : (s.setProdq x).rail j = s.rail j := rfl
@[simp] theorem State.setProdq_stop (x : List Event) (j : Nat) : (s.setProdq x).stop j = s.stop j := rfl
@[simp] theorem State.setProdq_totals (x : List Event) (j : Nat) : (s.setProdq x).totals j = s.totals j := rfl
@[simp] theorem State.setProdq_sbank (x : List Event) (j : Nat) : (s.setProdq x).sbank j = s.sbank j := rfl
@[simp] theorem State.setProdq_tpll (x : List Event) : (s.setProdq x).tpll = s.tpll := rfl
@[simp] theorem State.setProdq_quad (x : List Event) (j : Nat) : (s.setProdq x).quad j = s.quad j := rfl
@[simp] theorem State.setProdq_bring (x : List Event) : (s.setProdq x).bring = s.bring := rfl
@[simp] theorem State.setProdq_lustre (x : List Event) : (s.setProdq x).lustre = s.lustre := rfl
@[simp] theorem State.setProdq_port (x : List Event) (j : Nat) : (s.setProdq x).port j = s.port j := rfl
@[simp] theorem State.setProdq_evtb (x : List Event) (j : Nat) : (s.setProdq x).evtb j = s.evtb j := rfl
@[simp] theorem State.setProdq_route (x : List Event) (j : Nat) : (s.setProdq x).route j = s.route j := rfl
@[simp] theorem State.setProdq_swq (x : List Event) : (s.setProdq x).swq = s.swq := rfl
@[simp] theorem State.setProdq_timer (x : List Event) (j : Nat) : (s.setProdq x).timer j = s.timer j := rfl
@[simp] theorem State.setProdq_journal (x : List Event) : (s.setProdq x).journal = s.journal := rfl
@[simp] theorem State.setProdq_sec (x : List Event) : (s.setProdq x).sec = s.sec := rfl
@[simp] theorem State.setProdq_rflc (x : List Event) (j : Nat) : (s.setProdq x).rflc j = s.rflc j := rfl
@[simp] theorem State.setProdq_bursts (x : List Event) : (s.setProdq x).bursts = s.bursts := rfl
@[simp] theorem State.setProdq_cal (x : List Event) : (s.setProdq x).cal = s.cal := rfl
@[simp] theorem State.setProdq_casPort (x : List Event) (j : Nat) : (s.setProdq x).casPort j = s.casPort j := rfl
@[simp] theorem State.setProdq_cas (x : List Event) : (s.setProdq x).cas = s.cas := rfl
@[simp] theorem State.setProdq_lags (x : List Event) : (s.setProdq x).lags = s.lags := rfl

/-! ### setOut -/

@[simp] theorem State.setOut_same (x : List Out) : (s.setOut x).out = x := rfl
@[simp] theorem State.setOut_epoch (x : List Out) : (s.setOut x).epoch = s.epoch := rfl
@[simp] theorem State.setOut_tb (x : List Out) : (s.setOut x).tb = s.tb := rfl
@[simp] theorem State.setOut_mem (x : List Out) : (s.setOut x).mem = s.mem := rfl
@[simp] theorem State.setOut_pending (x : List Out) : (s.setOut x).pending = s.pending := rfl
@[simp] theorem State.setOut_rd (x : List Out) (f : Fld) (j : Nat) : (s.setOut x).rd f j = s.rd f j := rfl
@[simp] theorem State.setOut_rdA (x : List Out) (f : Fld) (j : Nat) : (s.setOut x).rdA f j = s.rdA f j := rfl
@[simp] theorem State.setOut_dirty (x : List Out) : (s.setOut x).dirty = s.dirty := rfl
@[simp] theorem State.setOut_pages (x : List Out) (j : Nat) : (s.setOut x).pages j = s.pages j := rfl
@[simp] theorem State.setOut_latch (x : List Out) (j : Nat) : (s.setOut x).latch j = s.latch j := rfl
@[simp] theorem State.setOut_tbu (x : List Out) : (s.setOut x).tbu = s.tbu := rfl
@[simp] theorem State.setOut_hostp (x : List Out) : (s.setOut x).hostp = s.hostp := rfl
@[simp] theorem State.setOut_recs (x : List Out) : (s.setOut x).recs = s.recs := rfl
@[simp] theorem State.setOut_prodq (x : List Out) : (s.setOut x).prodq = s.prodq := rfl
@[simp] theorem State.setOut_freeCtr (x : List Out) : (s.setOut x).freeCtr = s.freeCtr := rfl
@[simp] theorem State.setOut_dom (x : List Out) (j : Nat) : (s.setOut x).dom j = s.dom j := rfl
@[simp] theorem State.setOut_dir (x : List Out) (j : Nat) : (s.setOut x).dir j = s.dir j := rfl
@[simp] theorem State.setOut_store (x : List Out) (j : Nat) : (s.setOut x).store j = s.store j := rfl
@[simp] theorem State.setOut_win (x : List Out) (j : Nat) : (s.setOut x).win j = s.win j := rfl
@[simp] theorem State.setOut_tab (x : List Out) (j : Nat) : (s.setOut x).tab j = s.tab j := rfl
@[simp] theorem State.setOut_apg (x : List Out) (j : Nat) : (s.setOut x).apg j = s.apg j := rfl
@[simp] theorem State.setOut_eng (x : List Out) (j : Nat) : (s.setOut x).eng j = s.eng j := rfl
@[simp] theorem State.setOut_lout (x : List Out) (j : Nat) : (s.setOut x).lout j = s.lout j := rfl
@[simp] theorem State.setOut_grp (x : List Out) (j : Nat) : (s.setOut x).grp j = s.grp j := rfl
@[simp] theorem State.setOut_ballClaim (x : List Out) (j : Nat) : (s.setOut x).ballClaim j = s.ballClaim j := rfl
@[simp] theorem State.setOut_ballOut (x : List Out) (j : Nat) : (s.setOut x).ballOut j = s.ballOut j := rfl
@[simp] theorem State.setOut_ballTb (x : List Out) (j : Nat) : (s.setOut x).ballTb j = s.ballTb j := rfl
@[simp] theorem State.setOut_arrivals (x : List Out) : (s.setOut x).arrivals = s.arrivals := rfl
@[simp] theorem State.setOut_drv (x : List Out) (j : Nat) : (s.setOut x).drv j = s.drv j := rfl
@[simp] theorem State.setOut_node (x : List Out) (j : Nat) : (s.setOut x).node j = s.node j := rfl
@[simp] theorem State.setOut_loupe (x : List Out) : (s.setOut x).loupe = s.loupe := rfl
@[simp] theorem State.setOut_crown (x : List Out) (j : Nat) : (s.setOut x).crown j = s.crown j := rfl
@[simp] theorem State.setOut_bank (x : List Out) (j : Nat) : (s.setOut x).bank j = s.bank j := rfl
@[simp] theorem State.setOut_sense (x : List Out) (j : Nat) : (s.setOut x).sense j = s.sense j := rfl
@[simp] theorem State.setOut_pin (x : List Out) (j : Nat) : (s.setOut x).pin j = s.pin j := rfl
@[simp] theorem State.setOut_lphy (x : List Out) (j : Nat) : (s.setOut x).lphy j = s.lphy j := rfl
@[simp] theorem State.setOut_cmpl (x : List Out) (j : Nat) : (s.setOut x).cmpl j = s.cmpl j := rfl
@[simp] theorem State.setOut_cmp (x : List Out) (j : Nat) : (s.setOut x).cmp j = s.cmp j := rfl
@[simp] theorem State.setOut_isl (x : List Out) (j : Nat) : (s.setOut x).isl j = s.isl j := rfl
@[simp] theorem State.setOut_rail (x : List Out) (j : Nat) : (s.setOut x).rail j = s.rail j := rfl
@[simp] theorem State.setOut_stop (x : List Out) (j : Nat) : (s.setOut x).stop j = s.stop j := rfl
@[simp] theorem State.setOut_totals (x : List Out) (j : Nat) : (s.setOut x).totals j = s.totals j := rfl
@[simp] theorem State.setOut_sbank (x : List Out) (j : Nat) : (s.setOut x).sbank j = s.sbank j := rfl
@[simp] theorem State.setOut_tpll (x : List Out) : (s.setOut x).tpll = s.tpll := rfl
@[simp] theorem State.setOut_quad (x : List Out) (j : Nat) : (s.setOut x).quad j = s.quad j := rfl
@[simp] theorem State.setOut_bring (x : List Out) : (s.setOut x).bring = s.bring := rfl
@[simp] theorem State.setOut_lustre (x : List Out) : (s.setOut x).lustre = s.lustre := rfl
@[simp] theorem State.setOut_port (x : List Out) (j : Nat) : (s.setOut x).port j = s.port j := rfl
@[simp] theorem State.setOut_evtb (x : List Out) (j : Nat) : (s.setOut x).evtb j = s.evtb j := rfl
@[simp] theorem State.setOut_route (x : List Out) (j : Nat) : (s.setOut x).route j = s.route j := rfl
@[simp] theorem State.setOut_swq (x : List Out) : (s.setOut x).swq = s.swq := rfl
@[simp] theorem State.setOut_timer (x : List Out) (j : Nat) : (s.setOut x).timer j = s.timer j := rfl
@[simp] theorem State.setOut_journal (x : List Out) : (s.setOut x).journal = s.journal := rfl
@[simp] theorem State.setOut_sec (x : List Out) : (s.setOut x).sec = s.sec := rfl
@[simp] theorem State.setOut_rflc (x : List Out) (j : Nat) : (s.setOut x).rflc j = s.rflc j := rfl
@[simp] theorem State.setOut_bursts (x : List Out) : (s.setOut x).bursts = s.bursts := rfl
@[simp] theorem State.setOut_cal (x : List Out) : (s.setOut x).cal = s.cal := rfl
@[simp] theorem State.setOut_casPort (x : List Out) (j : Nat) : (s.setOut x).casPort j = s.casPort j := rfl
@[simp] theorem State.setOut_cas (x : List Out) : (s.setOut x).cas = s.cas := rfl
@[simp] theorem State.setOut_lags (x : List Out) : (s.setOut x).lags = s.lags := rfl

/-! ### setFreeCtr -/

@[simp] theorem State.setFreeCtr_same (x : Nat) : (s.setFreeCtr x).freeCtr = x := rfl
@[simp] theorem State.setFreeCtr_epoch (x : Nat) : (s.setFreeCtr x).epoch = s.epoch := rfl
@[simp] theorem State.setFreeCtr_tb (x : Nat) : (s.setFreeCtr x).tb = s.tb := rfl
@[simp] theorem State.setFreeCtr_mem (x : Nat) : (s.setFreeCtr x).mem = s.mem := rfl
@[simp] theorem State.setFreeCtr_pending (x : Nat) : (s.setFreeCtr x).pending = s.pending := rfl
@[simp] theorem State.setFreeCtr_rd (x : Nat) (f : Fld) (j : Nat) : (s.setFreeCtr x).rd f j = s.rd f j := rfl
@[simp] theorem State.setFreeCtr_rdA (x : Nat) (f : Fld) (j : Nat) : (s.setFreeCtr x).rdA f j = s.rdA f j := rfl
@[simp] theorem State.setFreeCtr_dirty (x : Nat) : (s.setFreeCtr x).dirty = s.dirty := rfl
@[simp] theorem State.setFreeCtr_pages (x : Nat) (j : Nat) : (s.setFreeCtr x).pages j = s.pages j := rfl
@[simp] theorem State.setFreeCtr_latch (x : Nat) (j : Nat) : (s.setFreeCtr x).latch j = s.latch j := rfl
@[simp] theorem State.setFreeCtr_tbu (x : Nat) : (s.setFreeCtr x).tbu = s.tbu := rfl
@[simp] theorem State.setFreeCtr_hostp (x : Nat) : (s.setFreeCtr x).hostp = s.hostp := rfl
@[simp] theorem State.setFreeCtr_recs (x : Nat) : (s.setFreeCtr x).recs = s.recs := rfl
@[simp] theorem State.setFreeCtr_prodq (x : Nat) : (s.setFreeCtr x).prodq = s.prodq := rfl
@[simp] theorem State.setFreeCtr_out (x : Nat) : (s.setFreeCtr x).out = s.out := rfl
@[simp] theorem State.setFreeCtr_dom (x : Nat) (j : Nat) : (s.setFreeCtr x).dom j = s.dom j := rfl
@[simp] theorem State.setFreeCtr_dir (x : Nat) (j : Nat) : (s.setFreeCtr x).dir j = s.dir j := rfl
@[simp] theorem State.setFreeCtr_store (x : Nat) (j : Nat) : (s.setFreeCtr x).store j = s.store j := rfl
@[simp] theorem State.setFreeCtr_win (x : Nat) (j : Nat) : (s.setFreeCtr x).win j = s.win j := rfl
@[simp] theorem State.setFreeCtr_tab (x : Nat) (j : Nat) : (s.setFreeCtr x).tab j = s.tab j := rfl
@[simp] theorem State.setFreeCtr_apg (x : Nat) (j : Nat) : (s.setFreeCtr x).apg j = s.apg j := rfl
@[simp] theorem State.setFreeCtr_eng (x : Nat) (j : Nat) : (s.setFreeCtr x).eng j = s.eng j := rfl
@[simp] theorem State.setFreeCtr_lout (x : Nat) (j : Nat) : (s.setFreeCtr x).lout j = s.lout j := rfl
@[simp] theorem State.setFreeCtr_grp (x : Nat) (j : Nat) : (s.setFreeCtr x).grp j = s.grp j := rfl
@[simp] theorem State.setFreeCtr_ballClaim (x : Nat) (j : Nat) : (s.setFreeCtr x).ballClaim j = s.ballClaim j := rfl
@[simp] theorem State.setFreeCtr_ballOut (x : Nat) (j : Nat) : (s.setFreeCtr x).ballOut j = s.ballOut j := rfl
@[simp] theorem State.setFreeCtr_ballTb (x : Nat) (j : Nat) : (s.setFreeCtr x).ballTb j = s.ballTb j := rfl
@[simp] theorem State.setFreeCtr_arrivals (x : Nat) : (s.setFreeCtr x).arrivals = s.arrivals := rfl
@[simp] theorem State.setFreeCtr_drv (x : Nat) (j : Nat) : (s.setFreeCtr x).drv j = s.drv j := rfl
@[simp] theorem State.setFreeCtr_node (x : Nat) (j : Nat) : (s.setFreeCtr x).node j = s.node j := rfl
@[simp] theorem State.setFreeCtr_loupe (x : Nat) : (s.setFreeCtr x).loupe = s.loupe := rfl
@[simp] theorem State.setFreeCtr_crown (x : Nat) (j : Nat) : (s.setFreeCtr x).crown j = s.crown j := rfl
@[simp] theorem State.setFreeCtr_bank (x : Nat) (j : Nat) : (s.setFreeCtr x).bank j = s.bank j := rfl
@[simp] theorem State.setFreeCtr_sense (x : Nat) (j : Nat) : (s.setFreeCtr x).sense j = s.sense j := rfl
@[simp] theorem State.setFreeCtr_pin (x : Nat) (j : Nat) : (s.setFreeCtr x).pin j = s.pin j := rfl
@[simp] theorem State.setFreeCtr_lphy (x : Nat) (j : Nat) : (s.setFreeCtr x).lphy j = s.lphy j := rfl
@[simp] theorem State.setFreeCtr_cmpl (x : Nat) (j : Nat) : (s.setFreeCtr x).cmpl j = s.cmpl j := rfl
@[simp] theorem State.setFreeCtr_cmp (x : Nat) (j : Nat) : (s.setFreeCtr x).cmp j = s.cmp j := rfl
@[simp] theorem State.setFreeCtr_isl (x : Nat) (j : Nat) : (s.setFreeCtr x).isl j = s.isl j := rfl
@[simp] theorem State.setFreeCtr_rail (x : Nat) (j : Nat) : (s.setFreeCtr x).rail j = s.rail j := rfl
@[simp] theorem State.setFreeCtr_stop (x : Nat) (j : Nat) : (s.setFreeCtr x).stop j = s.stop j := rfl
@[simp] theorem State.setFreeCtr_totals (x : Nat) (j : Nat) : (s.setFreeCtr x).totals j = s.totals j := rfl
@[simp] theorem State.setFreeCtr_sbank (x : Nat) (j : Nat) : (s.setFreeCtr x).sbank j = s.sbank j := rfl
@[simp] theorem State.setFreeCtr_tpll (x : Nat) : (s.setFreeCtr x).tpll = s.tpll := rfl
@[simp] theorem State.setFreeCtr_quad (x : Nat) (j : Nat) : (s.setFreeCtr x).quad j = s.quad j := rfl
@[simp] theorem State.setFreeCtr_bring (x : Nat) : (s.setFreeCtr x).bring = s.bring := rfl
@[simp] theorem State.setFreeCtr_lustre (x : Nat) : (s.setFreeCtr x).lustre = s.lustre := rfl
@[simp] theorem State.setFreeCtr_port (x : Nat) (j : Nat) : (s.setFreeCtr x).port j = s.port j := rfl
@[simp] theorem State.setFreeCtr_evtb (x : Nat) (j : Nat) : (s.setFreeCtr x).evtb j = s.evtb j := rfl
@[simp] theorem State.setFreeCtr_route (x : Nat) (j : Nat) : (s.setFreeCtr x).route j = s.route j := rfl
@[simp] theorem State.setFreeCtr_swq (x : Nat) : (s.setFreeCtr x).swq = s.swq := rfl
@[simp] theorem State.setFreeCtr_timer (x : Nat) (j : Nat) : (s.setFreeCtr x).timer j = s.timer j := rfl
@[simp] theorem State.setFreeCtr_journal (x : Nat) : (s.setFreeCtr x).journal = s.journal := rfl
@[simp] theorem State.setFreeCtr_sec (x : Nat) : (s.setFreeCtr x).sec = s.sec := rfl
@[simp] theorem State.setFreeCtr_rflc (x : Nat) (j : Nat) : (s.setFreeCtr x).rflc j = s.rflc j := rfl
@[simp] theorem State.setFreeCtr_bursts (x : Nat) : (s.setFreeCtr x).bursts = s.bursts := rfl
@[simp] theorem State.setFreeCtr_cal (x : Nat) : (s.setFreeCtr x).cal = s.cal := rfl
@[simp] theorem State.setFreeCtr_casPort (x : Nat) (j : Nat) : (s.setFreeCtr x).casPort j = s.casPort j := rfl
@[simp] theorem State.setFreeCtr_cas (x : Nat) : (s.setFreeCtr x).cas = s.cas := rfl
@[simp] theorem State.setFreeCtr_lags (x : Nat) : (s.setFreeCtr x).lags = s.lags := rfl

/-! ### setDom -/

@[simp] theorem State.setDom_same (i : Nat) (x : Dom) : (s.setDom i x).dom i = x := Sparse.get_set_same _ _ _ _
theorem State.setDom_ne (i : Nat) (x : Dom) {j : Nat} (h : j ≠ i) : (s.setDom i x).dom j = s.dom j := Sparse.get_set_ne _ _ _ h
@[simp] theorem State.setDom_epoch (i : Nat) (x : Dom) : (s.setDom i x).epoch = s.epoch := rfl
@[simp] theorem State.setDom_tb (i : Nat) (x : Dom) : (s.setDom i x).tb = s.tb := rfl
@[simp] theorem State.setDom_mem (i : Nat) (x : Dom) : (s.setDom i x).mem = s.mem := rfl
@[simp] theorem State.setDom_pending (i : Nat) (x : Dom) : (s.setDom i x).pending = s.pending := rfl
@[simp] theorem State.setDom_rd (i : Nat) (x : Dom) (f : Fld) (j : Nat) : (s.setDom i x).rd f j = s.rd f j := rfl
@[simp] theorem State.setDom_rdA (i : Nat) (x : Dom) (f : Fld) (j : Nat) : (s.setDom i x).rdA f j = s.rdA f j := rfl
@[simp] theorem State.setDom_dirty (i : Nat) (x : Dom) : (s.setDom i x).dirty = s.dirty := rfl
@[simp] theorem State.setDom_pages (i : Nat) (x : Dom) (j : Nat) : (s.setDom i x).pages j = s.pages j := rfl
@[simp] theorem State.setDom_latch (i : Nat) (x : Dom) (j : Nat) : (s.setDom i x).latch j = s.latch j := rfl
@[simp] theorem State.setDom_tbu (i : Nat) (x : Dom) : (s.setDom i x).tbu = s.tbu := rfl
@[simp] theorem State.setDom_hostp (i : Nat) (x : Dom) : (s.setDom i x).hostp = s.hostp := rfl
@[simp] theorem State.setDom_recs (i : Nat) (x : Dom) : (s.setDom i x).recs = s.recs := rfl
@[simp] theorem State.setDom_prodq (i : Nat) (x : Dom) : (s.setDom i x).prodq = s.prodq := rfl
@[simp] theorem State.setDom_out (i : Nat) (x : Dom) : (s.setDom i x).out = s.out := rfl
@[simp] theorem State.setDom_freeCtr (i : Nat) (x : Dom) : (s.setDom i x).freeCtr = s.freeCtr := rfl
@[simp] theorem State.setDom_dir (i : Nat) (x : Dom) (j : Nat) : (s.setDom i x).dir j = s.dir j := rfl
@[simp] theorem State.setDom_store (i : Nat) (x : Dom) (j : Nat) : (s.setDom i x).store j = s.store j := rfl
@[simp] theorem State.setDom_win (i : Nat) (x : Dom) (j : Nat) : (s.setDom i x).win j = s.win j := rfl
@[simp] theorem State.setDom_tab (i : Nat) (x : Dom) (j : Nat) : (s.setDom i x).tab j = s.tab j := rfl
@[simp] theorem State.setDom_apg (i : Nat) (x : Dom) (j : Nat) : (s.setDom i x).apg j = s.apg j := rfl
@[simp] theorem State.setDom_eng (i : Nat) (x : Dom) (j : Nat) : (s.setDom i x).eng j = s.eng j := rfl
@[simp] theorem State.setDom_lout (i : Nat) (x : Dom) (j : Nat) : (s.setDom i x).lout j = s.lout j := rfl
@[simp] theorem State.setDom_grp (i : Nat) (x : Dom) (j : Nat) : (s.setDom i x).grp j = s.grp j := rfl
@[simp] theorem State.setDom_ballClaim (i : Nat) (x : Dom) (j : Nat) : (s.setDom i x).ballClaim j = s.ballClaim j := rfl
@[simp] theorem State.setDom_ballOut (i : Nat) (x : Dom) (j : Nat) : (s.setDom i x).ballOut j = s.ballOut j := rfl
@[simp] theorem State.setDom_ballTb (i : Nat) (x : Dom) (j : Nat) : (s.setDom i x).ballTb j = s.ballTb j := rfl
@[simp] theorem State.setDom_arrivals (i : Nat) (x : Dom) : (s.setDom i x).arrivals = s.arrivals := rfl
@[simp] theorem State.setDom_drv (i : Nat) (x : Dom) (j : Nat) : (s.setDom i x).drv j = s.drv j := rfl
@[simp] theorem State.setDom_node (i : Nat) (x : Dom) (j : Nat) : (s.setDom i x).node j = s.node j := rfl
@[simp] theorem State.setDom_loupe (i : Nat) (x : Dom) : (s.setDom i x).loupe = s.loupe := rfl
@[simp] theorem State.setDom_crown (i : Nat) (x : Dom) (j : Nat) : (s.setDom i x).crown j = s.crown j := rfl
@[simp] theorem State.setDom_bank (i : Nat) (x : Dom) (j : Nat) : (s.setDom i x).bank j = s.bank j := rfl
@[simp] theorem State.setDom_sense (i : Nat) (x : Dom) (j : Nat) : (s.setDom i x).sense j = s.sense j := rfl
@[simp] theorem State.setDom_pin (i : Nat) (x : Dom) (j : Nat) : (s.setDom i x).pin j = s.pin j := rfl
@[simp] theorem State.setDom_lphy (i : Nat) (x : Dom) (j : Nat) : (s.setDom i x).lphy j = s.lphy j := rfl
@[simp] theorem State.setDom_cmpl (i : Nat) (x : Dom) (j : Nat) : (s.setDom i x).cmpl j = s.cmpl j := rfl
@[simp] theorem State.setDom_cmp (i : Nat) (x : Dom) (j : Nat) : (s.setDom i x).cmp j = s.cmp j := rfl
@[simp] theorem State.setDom_isl (i : Nat) (x : Dom) (j : Nat) : (s.setDom i x).isl j = s.isl j := rfl
@[simp] theorem State.setDom_rail (i : Nat) (x : Dom) (j : Nat) : (s.setDom i x).rail j = s.rail j := rfl
@[simp] theorem State.setDom_stop (i : Nat) (x : Dom) (j : Nat) : (s.setDom i x).stop j = s.stop j := rfl
@[simp] theorem State.setDom_totals (i : Nat) (x : Dom) (j : Nat) : (s.setDom i x).totals j = s.totals j := rfl
@[simp] theorem State.setDom_sbank (i : Nat) (x : Dom) (j : Nat) : (s.setDom i x).sbank j = s.sbank j := rfl
@[simp] theorem State.setDom_tpll (i : Nat) (x : Dom) : (s.setDom i x).tpll = s.tpll := rfl
@[simp] theorem State.setDom_quad (i : Nat) (x : Dom) (j : Nat) : (s.setDom i x).quad j = s.quad j := rfl
@[simp] theorem State.setDom_bring (i : Nat) (x : Dom) : (s.setDom i x).bring = s.bring := rfl
@[simp] theorem State.setDom_lustre (i : Nat) (x : Dom) : (s.setDom i x).lustre = s.lustre := rfl
@[simp] theorem State.setDom_port (i : Nat) (x : Dom) (j : Nat) : (s.setDom i x).port j = s.port j := rfl
@[simp] theorem State.setDom_evtb (i : Nat) (x : Dom) (j : Nat) : (s.setDom i x).evtb j = s.evtb j := rfl
@[simp] theorem State.setDom_route (i : Nat) (x : Dom) (j : Nat) : (s.setDom i x).route j = s.route j := rfl
@[simp] theorem State.setDom_swq (i : Nat) (x : Dom) : (s.setDom i x).swq = s.swq := rfl
@[simp] theorem State.setDom_timer (i : Nat) (x : Dom) (j : Nat) : (s.setDom i x).timer j = s.timer j := rfl
@[simp] theorem State.setDom_journal (i : Nat) (x : Dom) : (s.setDom i x).journal = s.journal := rfl
@[simp] theorem State.setDom_sec (i : Nat) (x : Dom) : (s.setDom i x).sec = s.sec := rfl
@[simp] theorem State.setDom_rflc (i : Nat) (x : Dom) (j : Nat) : (s.setDom i x).rflc j = s.rflc j := rfl
@[simp] theorem State.setDom_bursts (i : Nat) (x : Dom) : (s.setDom i x).bursts = s.bursts := rfl
@[simp] theorem State.setDom_cal (i : Nat) (x : Dom) : (s.setDom i x).cal = s.cal := rfl
@[simp] theorem State.setDom_casPort (i : Nat) (x : Dom) (j : Nat) : (s.setDom i x).casPort j = s.casPort j := rfl
@[simp] theorem State.setDom_cas (i : Nat) (x : Dom) : (s.setDom i x).cas = s.cas := rfl
@[simp] theorem State.setDom_lags (i : Nat) (x : Dom) : (s.setDom i x).lags = s.lags := rfl

/-! ### setDir -/

@[simp] theorem State.setDir_same (i : Nat) (x : DirEnt) : (s.setDir i x).dir i = x := Sparse.get_set_same _ _ _ _
theorem State.setDir_ne (i : Nat) (x : DirEnt) {j : Nat} (h : j ≠ i) : (s.setDir i x).dir j = s.dir j := Sparse.get_set_ne _ _ _ h
@[simp] theorem State.setDir_epoch (i : Nat) (x : DirEnt) : (s.setDir i x).epoch = s.epoch := rfl
@[simp] theorem State.setDir_tb (i : Nat) (x : DirEnt) : (s.setDir i x).tb = s.tb := rfl
@[simp] theorem State.setDir_mem (i : Nat) (x : DirEnt) : (s.setDir i x).mem = s.mem := rfl
@[simp] theorem State.setDir_pending (i : Nat) (x : DirEnt) : (s.setDir i x).pending = s.pending := rfl
@[simp] theorem State.setDir_rd (i : Nat) (x : DirEnt) (f : Fld) (j : Nat) : (s.setDir i x).rd f j = s.rd f j := rfl
@[simp] theorem State.setDir_rdA (i : Nat) (x : DirEnt) (f : Fld) (j : Nat) : (s.setDir i x).rdA f j = s.rdA f j := rfl
@[simp] theorem State.setDir_dirty (i : Nat) (x : DirEnt) : (s.setDir i x).dirty = s.dirty := rfl
@[simp] theorem State.setDir_pages (i : Nat) (x : DirEnt) (j : Nat) : (s.setDir i x).pages j = s.pages j := rfl
@[simp] theorem State.setDir_latch (i : Nat) (x : DirEnt) (j : Nat) : (s.setDir i x).latch j = s.latch j := rfl
@[simp] theorem State.setDir_tbu (i : Nat) (x : DirEnt) : (s.setDir i x).tbu = s.tbu := rfl
@[simp] theorem State.setDir_hostp (i : Nat) (x : DirEnt) : (s.setDir i x).hostp = s.hostp := rfl
@[simp] theorem State.setDir_recs (i : Nat) (x : DirEnt) : (s.setDir i x).recs = s.recs := rfl
@[simp] theorem State.setDir_prodq (i : Nat) (x : DirEnt) : (s.setDir i x).prodq = s.prodq := rfl
@[simp] theorem State.setDir_out (i : Nat) (x : DirEnt) : (s.setDir i x).out = s.out := rfl
@[simp] theorem State.setDir_freeCtr (i : Nat) (x : DirEnt) : (s.setDir i x).freeCtr = s.freeCtr := rfl
@[simp] theorem State.setDir_dom (i : Nat) (x : DirEnt) (j : Nat) : (s.setDir i x).dom j = s.dom j := rfl
@[simp] theorem State.setDir_store (i : Nat) (x : DirEnt) (j : Nat) : (s.setDir i x).store j = s.store j := rfl
@[simp] theorem State.setDir_win (i : Nat) (x : DirEnt) (j : Nat) : (s.setDir i x).win j = s.win j := rfl
@[simp] theorem State.setDir_tab (i : Nat) (x : DirEnt) (j : Nat) : (s.setDir i x).tab j = s.tab j := rfl
@[simp] theorem State.setDir_apg (i : Nat) (x : DirEnt) (j : Nat) : (s.setDir i x).apg j = s.apg j := rfl
@[simp] theorem State.setDir_eng (i : Nat) (x : DirEnt) (j : Nat) : (s.setDir i x).eng j = s.eng j := rfl
@[simp] theorem State.setDir_lout (i : Nat) (x : DirEnt) (j : Nat) : (s.setDir i x).lout j = s.lout j := rfl
@[simp] theorem State.setDir_grp (i : Nat) (x : DirEnt) (j : Nat) : (s.setDir i x).grp j = s.grp j := rfl
@[simp] theorem State.setDir_ballClaim (i : Nat) (x : DirEnt) (j : Nat) : (s.setDir i x).ballClaim j = s.ballClaim j := rfl
@[simp] theorem State.setDir_ballOut (i : Nat) (x : DirEnt) (j : Nat) : (s.setDir i x).ballOut j = s.ballOut j := rfl
@[simp] theorem State.setDir_ballTb (i : Nat) (x : DirEnt) (j : Nat) : (s.setDir i x).ballTb j = s.ballTb j := rfl
@[simp] theorem State.setDir_arrivals (i : Nat) (x : DirEnt) : (s.setDir i x).arrivals = s.arrivals := rfl
@[simp] theorem State.setDir_drv (i : Nat) (x : DirEnt) (j : Nat) : (s.setDir i x).drv j = s.drv j := rfl
@[simp] theorem State.setDir_node (i : Nat) (x : DirEnt) (j : Nat) : (s.setDir i x).node j = s.node j := rfl
@[simp] theorem State.setDir_loupe (i : Nat) (x : DirEnt) : (s.setDir i x).loupe = s.loupe := rfl
@[simp] theorem State.setDir_crown (i : Nat) (x : DirEnt) (j : Nat) : (s.setDir i x).crown j = s.crown j := rfl
@[simp] theorem State.setDir_bank (i : Nat) (x : DirEnt) (j : Nat) : (s.setDir i x).bank j = s.bank j := rfl
@[simp] theorem State.setDir_sense (i : Nat) (x : DirEnt) (j : Nat) : (s.setDir i x).sense j = s.sense j := rfl
@[simp] theorem State.setDir_pin (i : Nat) (x : DirEnt) (j : Nat) : (s.setDir i x).pin j = s.pin j := rfl
@[simp] theorem State.setDir_lphy (i : Nat) (x : DirEnt) (j : Nat) : (s.setDir i x).lphy j = s.lphy j := rfl
@[simp] theorem State.setDir_cmpl (i : Nat) (x : DirEnt) (j : Nat) : (s.setDir i x).cmpl j = s.cmpl j := rfl
@[simp] theorem State.setDir_cmp (i : Nat) (x : DirEnt) (j : Nat) : (s.setDir i x).cmp j = s.cmp j := rfl
@[simp] theorem State.setDir_isl (i : Nat) (x : DirEnt) (j : Nat) : (s.setDir i x).isl j = s.isl j := rfl
@[simp] theorem State.setDir_rail (i : Nat) (x : DirEnt) (j : Nat) : (s.setDir i x).rail j = s.rail j := rfl
@[simp] theorem State.setDir_stop (i : Nat) (x : DirEnt) (j : Nat) : (s.setDir i x).stop j = s.stop j := rfl
@[simp] theorem State.setDir_totals (i : Nat) (x : DirEnt) (j : Nat) : (s.setDir i x).totals j = s.totals j := rfl
@[simp] theorem State.setDir_sbank (i : Nat) (x : DirEnt) (j : Nat) : (s.setDir i x).sbank j = s.sbank j := rfl
@[simp] theorem State.setDir_tpll (i : Nat) (x : DirEnt) : (s.setDir i x).tpll = s.tpll := rfl
@[simp] theorem State.setDir_quad (i : Nat) (x : DirEnt) (j : Nat) : (s.setDir i x).quad j = s.quad j := rfl
@[simp] theorem State.setDir_bring (i : Nat) (x : DirEnt) : (s.setDir i x).bring = s.bring := rfl
@[simp] theorem State.setDir_lustre (i : Nat) (x : DirEnt) : (s.setDir i x).lustre = s.lustre := rfl
@[simp] theorem State.setDir_port (i : Nat) (x : DirEnt) (j : Nat) : (s.setDir i x).port j = s.port j := rfl
@[simp] theorem State.setDir_evtb (i : Nat) (x : DirEnt) (j : Nat) : (s.setDir i x).evtb j = s.evtb j := rfl
@[simp] theorem State.setDir_route (i : Nat) (x : DirEnt) (j : Nat) : (s.setDir i x).route j = s.route j := rfl
@[simp] theorem State.setDir_swq (i : Nat) (x : DirEnt) : (s.setDir i x).swq = s.swq := rfl
@[simp] theorem State.setDir_timer (i : Nat) (x : DirEnt) (j : Nat) : (s.setDir i x).timer j = s.timer j := rfl
@[simp] theorem State.setDir_journal (i : Nat) (x : DirEnt) : (s.setDir i x).journal = s.journal := rfl
@[simp] theorem State.setDir_sec (i : Nat) (x : DirEnt) : (s.setDir i x).sec = s.sec := rfl
@[simp] theorem State.setDir_rflc (i : Nat) (x : DirEnt) (j : Nat) : (s.setDir i x).rflc j = s.rflc j := rfl
@[simp] theorem State.setDir_bursts (i : Nat) (x : DirEnt) : (s.setDir i x).bursts = s.bursts := rfl
@[simp] theorem State.setDir_cal (i : Nat) (x : DirEnt) : (s.setDir i x).cal = s.cal := rfl
@[simp] theorem State.setDir_casPort (i : Nat) (x : DirEnt) (j : Nat) : (s.setDir i x).casPort j = s.casPort j := rfl
@[simp] theorem State.setDir_cas (i : Nat) (x : DirEnt) : (s.setDir i x).cas = s.cas := rfl
@[simp] theorem State.setDir_lags (i : Nat) (x : DirEnt) : (s.setDir i x).lags = s.lags := rfl

/-! ### setStore -/

@[simp] theorem State.setStore_same (i : Nat) (x : Store) : (s.setStore i x).store i = x := Sparse.get_set_same _ _ _ _
theorem State.setStore_ne (i : Nat) (x : Store) {j : Nat} (h : j ≠ i) : (s.setStore i x).store j = s.store j := Sparse.get_set_ne _ _ _ h
@[simp] theorem State.setStore_epoch (i : Nat) (x : Store) : (s.setStore i x).epoch = s.epoch := rfl
@[simp] theorem State.setStore_tb (i : Nat) (x : Store) : (s.setStore i x).tb = s.tb := rfl
@[simp] theorem State.setStore_mem (i : Nat) (x : Store) : (s.setStore i x).mem = s.mem := rfl
@[simp] theorem State.setStore_pending (i : Nat) (x : Store) : (s.setStore i x).pending = s.pending := rfl
@[simp] theorem State.setStore_rd (i : Nat) (x : Store) (f : Fld) (j : Nat) : (s.setStore i x).rd f j = s.rd f j := rfl
@[simp] theorem State.setStore_rdA (i : Nat) (x : Store) (f : Fld) (j : Nat) : (s.setStore i x).rdA f j = s.rdA f j := rfl
@[simp] theorem State.setStore_dirty (i : Nat) (x : Store) : (s.setStore i x).dirty = s.dirty := rfl
@[simp] theorem State.setStore_pages (i : Nat) (x : Store) (j : Nat) : (s.setStore i x).pages j = s.pages j := rfl
@[simp] theorem State.setStore_latch (i : Nat) (x : Store) (j : Nat) : (s.setStore i x).latch j = s.latch j := rfl
@[simp] theorem State.setStore_tbu (i : Nat) (x : Store) : (s.setStore i x).tbu = s.tbu := rfl
@[simp] theorem State.setStore_hostp (i : Nat) (x : Store) : (s.setStore i x).hostp = s.hostp := rfl
@[simp] theorem State.setStore_recs (i : Nat) (x : Store) : (s.setStore i x).recs = s.recs := rfl
@[simp] theorem State.setStore_prodq (i : Nat) (x : Store) : (s.setStore i x).prodq = s.prodq := rfl
@[simp] theorem State.setStore_out (i : Nat) (x : Store) : (s.setStore i x).out = s.out := rfl
@[simp] theorem State.setStore_freeCtr (i : Nat) (x : Store) : (s.setStore i x).freeCtr = s.freeCtr := rfl
@[simp] theorem State.setStore_dom (i : Nat) (x : Store) (j : Nat) : (s.setStore i x).dom j = s.dom j := rfl
@[simp] theorem State.setStore_dir (i : Nat) (x : Store) (j : Nat) : (s.setStore i x).dir j = s.dir j := rfl
@[simp] theorem State.setStore_win (i : Nat) (x : Store) (j : Nat) : (s.setStore i x).win j = s.win j := rfl
@[simp] theorem State.setStore_tab (i : Nat) (x : Store) (j : Nat) : (s.setStore i x).tab j = s.tab j := rfl
@[simp] theorem State.setStore_apg (i : Nat) (x : Store) (j : Nat) : (s.setStore i x).apg j = s.apg j := rfl
@[simp] theorem State.setStore_eng (i : Nat) (x : Store) (j : Nat) : (s.setStore i x).eng j = s.eng j := rfl
@[simp] theorem State.setStore_lout (i : Nat) (x : Store) (j : Nat) : (s.setStore i x).lout j = s.lout j := rfl
@[simp] theorem State.setStore_grp (i : Nat) (x : Store) (j : Nat) : (s.setStore i x).grp j = s.grp j := rfl
@[simp] theorem State.setStore_ballClaim (i : Nat) (x : Store) (j : Nat) : (s.setStore i x).ballClaim j = s.ballClaim j := rfl
@[simp] theorem State.setStore_ballOut (i : Nat) (x : Store) (j : Nat) : (s.setStore i x).ballOut j = s.ballOut j := rfl
@[simp] theorem State.setStore_ballTb (i : Nat) (x : Store) (j : Nat) : (s.setStore i x).ballTb j = s.ballTb j := rfl
@[simp] theorem State.setStore_arrivals (i : Nat) (x : Store) : (s.setStore i x).arrivals = s.arrivals := rfl
@[simp] theorem State.setStore_drv (i : Nat) (x : Store) (j : Nat) : (s.setStore i x).drv j = s.drv j := rfl
@[simp] theorem State.setStore_node (i : Nat) (x : Store) (j : Nat) : (s.setStore i x).node j = s.node j := rfl
@[simp] theorem State.setStore_loupe (i : Nat) (x : Store) : (s.setStore i x).loupe = s.loupe := rfl
@[simp] theorem State.setStore_crown (i : Nat) (x : Store) (j : Nat) : (s.setStore i x).crown j = s.crown j := rfl
@[simp] theorem State.setStore_bank (i : Nat) (x : Store) (j : Nat) : (s.setStore i x).bank j = s.bank j := rfl
@[simp] theorem State.setStore_sense (i : Nat) (x : Store) (j : Nat) : (s.setStore i x).sense j = s.sense j := rfl
@[simp] theorem State.setStore_pin (i : Nat) (x : Store) (j : Nat) : (s.setStore i x).pin j = s.pin j := rfl
@[simp] theorem State.setStore_lphy (i : Nat) (x : Store) (j : Nat) : (s.setStore i x).lphy j = s.lphy j := rfl
@[simp] theorem State.setStore_cmpl (i : Nat) (x : Store) (j : Nat) : (s.setStore i x).cmpl j = s.cmpl j := rfl
@[simp] theorem State.setStore_cmp (i : Nat) (x : Store) (j : Nat) : (s.setStore i x).cmp j = s.cmp j := rfl
@[simp] theorem State.setStore_isl (i : Nat) (x : Store) (j : Nat) : (s.setStore i x).isl j = s.isl j := rfl
@[simp] theorem State.setStore_rail (i : Nat) (x : Store) (j : Nat) : (s.setStore i x).rail j = s.rail j := rfl
@[simp] theorem State.setStore_stop (i : Nat) (x : Store) (j : Nat) : (s.setStore i x).stop j = s.stop j := rfl
@[simp] theorem State.setStore_totals (i : Nat) (x : Store) (j : Nat) : (s.setStore i x).totals j = s.totals j := rfl
@[simp] theorem State.setStore_sbank (i : Nat) (x : Store) (j : Nat) : (s.setStore i x).sbank j = s.sbank j := rfl
@[simp] theorem State.setStore_tpll (i : Nat) (x : Store) : (s.setStore i x).tpll = s.tpll := rfl
@[simp] theorem State.setStore_quad (i : Nat) (x : Store) (j : Nat) : (s.setStore i x).quad j = s.quad j := rfl
@[simp] theorem State.setStore_bring (i : Nat) (x : Store) : (s.setStore i x).bring = s.bring := rfl
@[simp] theorem State.setStore_lustre (i : Nat) (x : Store) : (s.setStore i x).lustre = s.lustre := rfl
@[simp] theorem State.setStore_port (i : Nat) (x : Store) (j : Nat) : (s.setStore i x).port j = s.port j := rfl
@[simp] theorem State.setStore_evtb (i : Nat) (x : Store) (j : Nat) : (s.setStore i x).evtb j = s.evtb j := rfl
@[simp] theorem State.setStore_route (i : Nat) (x : Store) (j : Nat) : (s.setStore i x).route j = s.route j := rfl
@[simp] theorem State.setStore_swq (i : Nat) (x : Store) : (s.setStore i x).swq = s.swq := rfl
@[simp] theorem State.setStore_timer (i : Nat) (x : Store) (j : Nat) : (s.setStore i x).timer j = s.timer j := rfl
@[simp] theorem State.setStore_journal (i : Nat) (x : Store) : (s.setStore i x).journal = s.journal := rfl
@[simp] theorem State.setStore_sec (i : Nat) (x : Store) : (s.setStore i x).sec = s.sec := rfl
@[simp] theorem State.setStore_rflc (i : Nat) (x : Store) (j : Nat) : (s.setStore i x).rflc j = s.rflc j := rfl
@[simp] theorem State.setStore_bursts (i : Nat) (x : Store) : (s.setStore i x).bursts = s.bursts := rfl
@[simp] theorem State.setStore_cal (i : Nat) (x : Store) : (s.setStore i x).cal = s.cal := rfl
@[simp] theorem State.setStore_casPort (i : Nat) (x : Store) (j : Nat) : (s.setStore i x).casPort j = s.casPort j := rfl
@[simp] theorem State.setStore_cas (i : Nat) (x : Store) : (s.setStore i x).cas = s.cas := rfl
@[simp] theorem State.setStore_lags (i : Nat) (x : Store) : (s.setStore i x).lags = s.lags := rfl

/-! ### setWin -/

@[simp] theorem State.setWin_same (i : Nat) (x : Win) : (s.setWin i x).win i = x := Sparse.get_set_same _ _ _ _
theorem State.setWin_ne (i : Nat) (x : Win) {j : Nat} (h : j ≠ i) : (s.setWin i x).win j = s.win j := Sparse.get_set_ne _ _ _ h
@[simp] theorem State.setWin_epoch (i : Nat) (x : Win) : (s.setWin i x).epoch = s.epoch := rfl
@[simp] theorem State.setWin_tb (i : Nat) (x : Win) : (s.setWin i x).tb = s.tb := rfl
@[simp] theorem State.setWin_mem (i : Nat) (x : Win) : (s.setWin i x).mem = s.mem := rfl
@[simp] theorem State.setWin_pending (i : Nat) (x : Win) : (s.setWin i x).pending = s.pending := rfl
@[simp] theorem State.setWin_rd (i : Nat) (x : Win) (f : Fld) (j : Nat) : (s.setWin i x).rd f j = s.rd f j := rfl
@[simp] theorem State.setWin_rdA (i : Nat) (x : Win) (f : Fld) (j : Nat) : (s.setWin i x).rdA f j = s.rdA f j := rfl
@[simp] theorem State.setWin_dirty (i : Nat) (x : Win) : (s.setWin i x).dirty = s.dirty := rfl
@[simp] theorem State.setWin_pages (i : Nat) (x : Win) (j : Nat) : (s.setWin i x).pages j = s.pages j := rfl
@[simp] theorem State.setWin_latch (i : Nat) (x : Win) (j : Nat) : (s.setWin i x).latch j = s.latch j := rfl
@[simp] theorem State.setWin_tbu (i : Nat) (x : Win) : (s.setWin i x).tbu = s.tbu := rfl
@[simp] theorem State.setWin_hostp (i : Nat) (x : Win) : (s.setWin i x).hostp = s.hostp := rfl
@[simp] theorem State.setWin_recs (i : Nat) (x : Win) : (s.setWin i x).recs = s.recs := rfl
@[simp] theorem State.setWin_prodq (i : Nat) (x : Win) : (s.setWin i x).prodq = s.prodq := rfl
@[simp] theorem State.setWin_out (i : Nat) (x : Win) : (s.setWin i x).out = s.out := rfl
@[simp] theorem State.setWin_freeCtr (i : Nat) (x : Win) : (s.setWin i x).freeCtr = s.freeCtr := rfl
@[simp] theorem State.setWin_dom (i : Nat) (x : Win) (j : Nat) : (s.setWin i x).dom j = s.dom j := rfl
@[simp] theorem State.setWin_dir (i : Nat) (x : Win) (j : Nat) : (s.setWin i x).dir j = s.dir j := rfl
@[simp] theorem State.setWin_store (i : Nat) (x : Win) (j : Nat) : (s.setWin i x).store j = s.store j := rfl
@[simp] theorem State.setWin_tab (i : Nat) (x : Win) (j : Nat) : (s.setWin i x).tab j = s.tab j := rfl
@[simp] theorem State.setWin_apg (i : Nat) (x : Win) (j : Nat) : (s.setWin i x).apg j = s.apg j := rfl
@[simp] theorem State.setWin_eng (i : Nat) (x : Win) (j : Nat) : (s.setWin i x).eng j = s.eng j := rfl
@[simp] theorem State.setWin_lout (i : Nat) (x : Win) (j : Nat) : (s.setWin i x).lout j = s.lout j := rfl
@[simp] theorem State.setWin_grp (i : Nat) (x : Win) (j : Nat) : (s.setWin i x).grp j = s.grp j := rfl
@[simp] theorem State.setWin_ballClaim (i : Nat) (x : Win) (j : Nat) : (s.setWin i x).ballClaim j = s.ballClaim j := rfl
@[simp] theorem State.setWin_ballOut (i : Nat) (x : Win) (j : Nat) : (s.setWin i x).ballOut j = s.ballOut j := rfl
@[simp] theorem State.setWin_ballTb (i : Nat) (x : Win) (j : Nat) : (s.setWin i x).ballTb j = s.ballTb j := rfl
@[simp] theorem State.setWin_arrivals (i : Nat) (x : Win) : (s.setWin i x).arrivals = s.arrivals := rfl
@[simp] theorem State.setWin_drv (i : Nat) (x : Win) (j : Nat) : (s.setWin i x).drv j = s.drv j := rfl
@[simp] theorem State.setWin_node (i : Nat) (x : Win) (j : Nat) : (s.setWin i x).node j = s.node j := rfl
@[simp] theorem State.setWin_loupe (i : Nat) (x : Win) : (s.setWin i x).loupe = s.loupe := rfl
@[simp] theorem State.setWin_crown (i : Nat) (x : Win) (j : Nat) : (s.setWin i x).crown j = s.crown j := rfl
@[simp] theorem State.setWin_bank (i : Nat) (x : Win) (j : Nat) : (s.setWin i x).bank j = s.bank j := rfl
@[simp] theorem State.setWin_sense (i : Nat) (x : Win) (j : Nat) : (s.setWin i x).sense j = s.sense j := rfl
@[simp] theorem State.setWin_pin (i : Nat) (x : Win) (j : Nat) : (s.setWin i x).pin j = s.pin j := rfl
@[simp] theorem State.setWin_lphy (i : Nat) (x : Win) (j : Nat) : (s.setWin i x).lphy j = s.lphy j := rfl
@[simp] theorem State.setWin_cmpl (i : Nat) (x : Win) (j : Nat) : (s.setWin i x).cmpl j = s.cmpl j := rfl
@[simp] theorem State.setWin_cmp (i : Nat) (x : Win) (j : Nat) : (s.setWin i x).cmp j = s.cmp j := rfl
@[simp] theorem State.setWin_isl (i : Nat) (x : Win) (j : Nat) : (s.setWin i x).isl j = s.isl j := rfl
@[simp] theorem State.setWin_rail (i : Nat) (x : Win) (j : Nat) : (s.setWin i x).rail j = s.rail j := rfl
@[simp] theorem State.setWin_stop (i : Nat) (x : Win) (j : Nat) : (s.setWin i x).stop j = s.stop j := rfl
@[simp] theorem State.setWin_totals (i : Nat) (x : Win) (j : Nat) : (s.setWin i x).totals j = s.totals j := rfl
@[simp] theorem State.setWin_sbank (i : Nat) (x : Win) (j : Nat) : (s.setWin i x).sbank j = s.sbank j := rfl
@[simp] theorem State.setWin_tpll (i : Nat) (x : Win) : (s.setWin i x).tpll = s.tpll := rfl
@[simp] theorem State.setWin_quad (i : Nat) (x : Win) (j : Nat) : (s.setWin i x).quad j = s.quad j := rfl
@[simp] theorem State.setWin_bring (i : Nat) (x : Win) : (s.setWin i x).bring = s.bring := rfl
@[simp] theorem State.setWin_lustre (i : Nat) (x : Win) : (s.setWin i x).lustre = s.lustre := rfl
@[simp] theorem State.setWin_port (i : Nat) (x : Win) (j : Nat) : (s.setWin i x).port j = s.port j := rfl
@[simp] theorem State.setWin_evtb (i : Nat) (x : Win) (j : Nat) : (s.setWin i x).evtb j = s.evtb j := rfl
@[simp] theorem State.setWin_route (i : Nat) (x : Win) (j : Nat) : (s.setWin i x).route j = s.route j := rfl
@[simp] theorem State.setWin_swq (i : Nat) (x : Win) : (s.setWin i x).swq = s.swq := rfl
@[simp] theorem State.setWin_timer (i : Nat) (x : Win) (j : Nat) : (s.setWin i x).timer j = s.timer j := rfl
@[simp] theorem State.setWin_journal (i : Nat) (x : Win) : (s.setWin i x).journal = s.journal := rfl
@[simp] theorem State.setWin_sec (i : Nat) (x : Win) : (s.setWin i x).sec = s.sec := rfl
@[simp] theorem State.setWin_rflc (i : Nat) (x : Win) (j : Nat) : (s.setWin i x).rflc j = s.rflc j := rfl
@[simp] theorem State.setWin_bursts (i : Nat) (x : Win) : (s.setWin i x).bursts = s.bursts := rfl
@[simp] theorem State.setWin_cal (i : Nat) (x : Win) : (s.setWin i x).cal = s.cal := rfl
@[simp] theorem State.setWin_casPort (i : Nat) (x : Win) (j : Nat) : (s.setWin i x).casPort j = s.casPort j := rfl
@[simp] theorem State.setWin_cas (i : Nat) (x : Win) : (s.setWin i x).cas = s.cas := rfl
@[simp] theorem State.setWin_lags (i : Nat) (x : Win) : (s.setWin i x).lags = s.lags := rfl

/-! ### setTab -/

@[simp] theorem State.setTab_same (i : Nat) (x : Tab) : (s.setTab i x).tab i = x := Sparse.get_set_same _ _ _ _
theorem State.setTab_ne (i : Nat) (x : Tab) {j : Nat} (h : j ≠ i) : (s.setTab i x).tab j = s.tab j := Sparse.get_set_ne _ _ _ h
@[simp] theorem State.setTab_epoch (i : Nat) (x : Tab) : (s.setTab i x).epoch = s.epoch := rfl
@[simp] theorem State.setTab_tb (i : Nat) (x : Tab) : (s.setTab i x).tb = s.tb := rfl
@[simp] theorem State.setTab_mem (i : Nat) (x : Tab) : (s.setTab i x).mem = s.mem := rfl
@[simp] theorem State.setTab_pending (i : Nat) (x : Tab) : (s.setTab i x).pending = s.pending := rfl
@[simp] theorem State.setTab_rd (i : Nat) (x : Tab) (f : Fld) (j : Nat) : (s.setTab i x).rd f j = s.rd f j := rfl
@[simp] theorem State.setTab_rdA (i : Nat) (x : Tab) (f : Fld) (j : Nat) : (s.setTab i x).rdA f j = s.rdA f j := rfl
@[simp] theorem State.setTab_dirty (i : Nat) (x : Tab) : (s.setTab i x).dirty = s.dirty := rfl
@[simp] theorem State.setTab_pages (i : Nat) (x : Tab) (j : Nat) : (s.setTab i x).pages j = s.pages j := rfl
@[simp] theorem State.setTab_latch (i : Nat) (x : Tab) (j : Nat) : (s.setTab i x).latch j = s.latch j := rfl
@[simp] theorem State.setTab_tbu (i : Nat) (x : Tab) : (s.setTab i x).tbu = s.tbu := rfl
@[simp] theorem State.setTab_hostp (i : Nat) (x : Tab) : (s.setTab i x).hostp = s.hostp := rfl
@[simp] theorem State.setTab_recs (i : Nat) (x : Tab) : (s.setTab i x).recs = s.recs := rfl
@[simp] theorem State.setTab_prodq (i : Nat) (x : Tab) : (s.setTab i x).prodq = s.prodq := rfl
@[simp] theorem State.setTab_out (i : Nat) (x : Tab) : (s.setTab i x).out = s.out := rfl
@[simp] theorem State.setTab_freeCtr (i : Nat) (x : Tab) : (s.setTab i x).freeCtr = s.freeCtr := rfl
@[simp] theorem State.setTab_dom (i : Nat) (x : Tab) (j : Nat) : (s.setTab i x).dom j = s.dom j := rfl
@[simp] theorem State.setTab_dir (i : Nat) (x : Tab) (j : Nat) : (s.setTab i x).dir j = s.dir j := rfl
@[simp] theorem State.setTab_store (i : Nat) (x : Tab) (j : Nat) : (s.setTab i x).store j = s.store j := rfl
@[simp] theorem State.setTab_win (i : Nat) (x : Tab) (j : Nat) : (s.setTab i x).win j = s.win j := rfl
@[simp] theorem State.setTab_apg (i : Nat) (x : Tab) (j : Nat) : (s.setTab i x).apg j = s.apg j := rfl
@[simp] theorem State.setTab_eng (i : Nat) (x : Tab) (j : Nat) : (s.setTab i x).eng j = s.eng j := rfl
@[simp] theorem State.setTab_lout (i : Nat) (x : Tab) (j : Nat) : (s.setTab i x).lout j = s.lout j := rfl
@[simp] theorem State.setTab_grp (i : Nat) (x : Tab) (j : Nat) : (s.setTab i x).grp j = s.grp j := rfl
@[simp] theorem State.setTab_ballClaim (i : Nat) (x : Tab) (j : Nat) : (s.setTab i x).ballClaim j = s.ballClaim j := rfl
@[simp] theorem State.setTab_ballOut (i : Nat) (x : Tab) (j : Nat) : (s.setTab i x).ballOut j = s.ballOut j := rfl
@[simp] theorem State.setTab_ballTb (i : Nat) (x : Tab) (j : Nat) : (s.setTab i x).ballTb j = s.ballTb j := rfl
@[simp] theorem State.setTab_arrivals (i : Nat) (x : Tab) : (s.setTab i x).arrivals = s.arrivals := rfl
@[simp] theorem State.setTab_drv (i : Nat) (x : Tab) (j : Nat) : (s.setTab i x).drv j = s.drv j := rfl
@[simp] theorem State.setTab_node (i : Nat) (x : Tab) (j : Nat) : (s.setTab i x).node j = s.node j := rfl
@[simp] theorem State.setTab_loupe (i : Nat) (x : Tab) : (s.setTab i x).loupe = s.loupe := rfl
@[simp] theorem State.setTab_crown (i : Nat) (x : Tab) (j : Nat) : (s.setTab i x).crown j = s.crown j := rfl
@[simp] theorem State.setTab_bank (i : Nat) (x : Tab) (j : Nat) : (s.setTab i x).bank j = s.bank j := rfl
@[simp] theorem State.setTab_sense (i : Nat) (x : Tab) (j : Nat) : (s.setTab i x).sense j = s.sense j := rfl
@[simp] theorem State.setTab_pin (i : Nat) (x : Tab) (j : Nat) : (s.setTab i x).pin j = s.pin j := rfl
@[simp] theorem State.setTab_lphy (i : Nat) (x : Tab) (j : Nat) : (s.setTab i x).lphy j = s.lphy j := rfl
@[simp] theorem State.setTab_cmpl (i : Nat) (x : Tab) (j : Nat) : (s.setTab i x).cmpl j = s.cmpl j := rfl
@[simp] theorem State.setTab_cmp (i : Nat) (x : Tab) (j : Nat) : (s.setTab i x).cmp j = s.cmp j := rfl
@[simp] theorem State.setTab_isl (i : Nat) (x : Tab) (j : Nat) : (s.setTab i x).isl j = s.isl j := rfl
@[simp] theorem State.setTab_rail (i : Nat) (x : Tab) (j : Nat) : (s.setTab i x).rail j = s.rail j := rfl
@[simp] theorem State.setTab_stop (i : Nat) (x : Tab) (j : Nat) : (s.setTab i x).stop j = s.stop j := rfl
@[simp] theorem State.setTab_totals (i : Nat) (x : Tab) (j : Nat) : (s.setTab i x).totals j = s.totals j := rfl
@[simp] theorem State.setTab_sbank (i : Nat) (x : Tab) (j : Nat) : (s.setTab i x).sbank j = s.sbank j := rfl
@[simp] theorem State.setTab_tpll (i : Nat) (x : Tab) : (s.setTab i x).tpll = s.tpll := rfl
@[simp] theorem State.setTab_quad (i : Nat) (x : Tab) (j : Nat) : (s.setTab i x).quad j = s.quad j := rfl
@[simp] theorem State.setTab_bring (i : Nat) (x : Tab) : (s.setTab i x).bring = s.bring := rfl
@[simp] theorem State.setTab_lustre (i : Nat) (x : Tab) : (s.setTab i x).lustre = s.lustre := rfl
@[simp] theorem State.setTab_port (i : Nat) (x : Tab) (j : Nat) : (s.setTab i x).port j = s.port j := rfl
@[simp] theorem State.setTab_evtb (i : Nat) (x : Tab) (j : Nat) : (s.setTab i x).evtb j = s.evtb j := rfl
@[simp] theorem State.setTab_route (i : Nat) (x : Tab) (j : Nat) : (s.setTab i x).route j = s.route j := rfl
@[simp] theorem State.setTab_swq (i : Nat) (x : Tab) : (s.setTab i x).swq = s.swq := rfl
@[simp] theorem State.setTab_timer (i : Nat) (x : Tab) (j : Nat) : (s.setTab i x).timer j = s.timer j := rfl
@[simp] theorem State.setTab_journal (i : Nat) (x : Tab) : (s.setTab i x).journal = s.journal := rfl
@[simp] theorem State.setTab_sec (i : Nat) (x : Tab) : (s.setTab i x).sec = s.sec := rfl
@[simp] theorem State.setTab_rflc (i : Nat) (x : Tab) (j : Nat) : (s.setTab i x).rflc j = s.rflc j := rfl
@[simp] theorem State.setTab_bursts (i : Nat) (x : Tab) : (s.setTab i x).bursts = s.bursts := rfl
@[simp] theorem State.setTab_cal (i : Nat) (x : Tab) : (s.setTab i x).cal = s.cal := rfl
@[simp] theorem State.setTab_casPort (i : Nat) (x : Tab) (j : Nat) : (s.setTab i x).casPort j = s.casPort j := rfl
@[simp] theorem State.setTab_cas (i : Nat) (x : Tab) : (s.setTab i x).cas = s.cas := rfl
@[simp] theorem State.setTab_lags (i : Nat) (x : Tab) : (s.setTab i x).lags = s.lags := rfl

/-! ### setApg -/

@[simp] theorem State.setApg_same (i : Nat) (x : Apg) : (s.setApg i x).apg i = x := Sparse.get_set_same _ _ _ _
theorem State.setApg_ne (i : Nat) (x : Apg) {j : Nat} (h : j ≠ i) : (s.setApg i x).apg j = s.apg j := Sparse.get_set_ne _ _ _ h
@[simp] theorem State.setApg_epoch (i : Nat) (x : Apg) : (s.setApg i x).epoch = s.epoch := rfl
@[simp] theorem State.setApg_tb (i : Nat) (x : Apg) : (s.setApg i x).tb = s.tb := rfl
@[simp] theorem State.setApg_mem (i : Nat) (x : Apg) : (s.setApg i x).mem = s.mem := rfl
@[simp] theorem State.setApg_pending (i : Nat) (x : Apg) : (s.setApg i x).pending = s.pending := rfl
@[simp] theorem State.setApg_rd (i : Nat) (x : Apg) (f : Fld) (j : Nat) : (s.setApg i x).rd f j = s.rd f j := rfl
@[simp] theorem State.setApg_rdA (i : Nat) (x : Apg) (f : Fld) (j : Nat) : (s.setApg i x).rdA f j = s.rdA f j := rfl
@[simp] theorem State.setApg_dirty (i : Nat) (x : Apg) : (s.setApg i x).dirty = s.dirty := rfl
@[simp] theorem State.setApg_pages (i : Nat) (x : Apg) (j : Nat) : (s.setApg i x).pages j = s.pages j := rfl
@[simp] theorem State.setApg_latch (i : Nat) (x : Apg) (j : Nat) : (s.setApg i x).latch j = s.latch j := rfl
@[simp] theorem State.setApg_tbu (i : Nat) (x : Apg) : (s.setApg i x).tbu = s.tbu := rfl
@[simp] theorem State.setApg_hostp (i : Nat) (x : Apg) : (s.setApg i x).hostp = s.hostp := rfl
@[simp] theorem State.setApg_recs (i : Nat) (x : Apg) : (s.setApg i x).recs = s.recs := rfl
@[simp] theorem State.setApg_prodq (i : Nat) (x : Apg) : (s.setApg i x).prodq = s.prodq := rfl
@[simp] theorem State.setApg_out (i : Nat) (x : Apg) : (s.setApg i x).out = s.out := rfl
@[simp] theorem State.setApg_freeCtr (i : Nat) (x : Apg) : (s.setApg i x).freeCtr = s.freeCtr := rfl
@[simp] theorem State.setApg_dom (i : Nat) (x : Apg) (j : Nat) : (s.setApg i x).dom j = s.dom j := rfl
@[simp] theorem State.setApg_dir (i : Nat) (x : Apg) (j : Nat) : (s.setApg i x).dir j = s.dir j := rfl
@[simp] theorem State.setApg_store (i : Nat) (x : Apg) (j : Nat) : (s.setApg i x).store j = s.store j := rfl
@[simp] theorem State.setApg_win (i : Nat) (x : Apg) (j : Nat) : (s.setApg i x).win j = s.win j := rfl
@[simp] theorem State.setApg_tab (i : Nat) (x : Apg) (j : Nat) : (s.setApg i x).tab j = s.tab j := rfl
@[simp] theorem State.setApg_eng (i : Nat) (x : Apg) (j : Nat) : (s.setApg i x).eng j = s.eng j := rfl
@[simp] theorem State.setApg_lout (i : Nat) (x : Apg) (j : Nat) : (s.setApg i x).lout j = s.lout j := rfl
@[simp] theorem State.setApg_grp (i : Nat) (x : Apg) (j : Nat) : (s.setApg i x).grp j = s.grp j := rfl
@[simp] theorem State.setApg_ballClaim (i : Nat) (x : Apg) (j : Nat) : (s.setApg i x).ballClaim j = s.ballClaim j := rfl
@[simp] theorem State.setApg_ballOut (i : Nat) (x : Apg) (j : Nat) : (s.setApg i x).ballOut j = s.ballOut j := rfl
@[simp] theorem State.setApg_ballTb (i : Nat) (x : Apg) (j : Nat) : (s.setApg i x).ballTb j = s.ballTb j := rfl
@[simp] theorem State.setApg_arrivals (i : Nat) (x : Apg) : (s.setApg i x).arrivals = s.arrivals := rfl
@[simp] theorem State.setApg_drv (i : Nat) (x : Apg) (j : Nat) : (s.setApg i x).drv j = s.drv j := rfl
@[simp] theorem State.setApg_node (i : Nat) (x : Apg) (j : Nat) : (s.setApg i x).node j = s.node j := rfl
@[simp] theorem State.setApg_loupe (i : Nat) (x : Apg) : (s.setApg i x).loupe = s.loupe := rfl
@[simp] theorem State.setApg_crown (i : Nat) (x : Apg) (j : Nat) : (s.setApg i x).crown j = s.crown j := rfl
@[simp] theorem State.setApg_bank (i : Nat) (x : Apg) (j : Nat) : (s.setApg i x).bank j = s.bank j := rfl
@[simp] theorem State.setApg_sense (i : Nat) (x : Apg) (j : Nat) : (s.setApg i x).sense j = s.sense j := rfl
@[simp] theorem State.setApg_pin (i : Nat) (x : Apg) (j : Nat) : (s.setApg i x).pin j = s.pin j := rfl
@[simp] theorem State.setApg_lphy (i : Nat) (x : Apg) (j : Nat) : (s.setApg i x).lphy j = s.lphy j := rfl
@[simp] theorem State.setApg_cmpl (i : Nat) (x : Apg) (j : Nat) : (s.setApg i x).cmpl j = s.cmpl j := rfl
@[simp] theorem State.setApg_cmp (i : Nat) (x : Apg) (j : Nat) : (s.setApg i x).cmp j = s.cmp j := rfl
@[simp] theorem State.setApg_isl (i : Nat) (x : Apg) (j : Nat) : (s.setApg i x).isl j = s.isl j := rfl
@[simp] theorem State.setApg_rail (i : Nat) (x : Apg) (j : Nat) : (s.setApg i x).rail j = s.rail j := rfl
@[simp] theorem State.setApg_stop (i : Nat) (x : Apg) (j : Nat) : (s.setApg i x).stop j = s.stop j := rfl
@[simp] theorem State.setApg_totals (i : Nat) (x : Apg) (j : Nat) : (s.setApg i x).totals j = s.totals j := rfl
@[simp] theorem State.setApg_sbank (i : Nat) (x : Apg) (j : Nat) : (s.setApg i x).sbank j = s.sbank j := rfl
@[simp] theorem State.setApg_tpll (i : Nat) (x : Apg) : (s.setApg i x).tpll = s.tpll := rfl
@[simp] theorem State.setApg_quad (i : Nat) (x : Apg) (j : Nat) : (s.setApg i x).quad j = s.quad j := rfl
@[simp] theorem State.setApg_bring (i : Nat) (x : Apg) : (s.setApg i x).bring = s.bring := rfl
@[simp] theorem State.setApg_lustre (i : Nat) (x : Apg) : (s.setApg i x).lustre = s.lustre := rfl
@[simp] theorem State.setApg_port (i : Nat) (x : Apg) (j : Nat) : (s.setApg i x).port j = s.port j := rfl
@[simp] theorem State.setApg_evtb (i : Nat) (x : Apg) (j : Nat) : (s.setApg i x).evtb j = s.evtb j := rfl
@[simp] theorem State.setApg_route (i : Nat) (x : Apg) (j : Nat) : (s.setApg i x).route j = s.route j := rfl
@[simp] theorem State.setApg_swq (i : Nat) (x : Apg) : (s.setApg i x).swq = s.swq := rfl
@[simp] theorem State.setApg_timer (i : Nat) (x : Apg) (j : Nat) : (s.setApg i x).timer j = s.timer j := rfl
@[simp] theorem State.setApg_journal (i : Nat) (x : Apg) : (s.setApg i x).journal = s.journal := rfl
@[simp] theorem State.setApg_sec (i : Nat) (x : Apg) : (s.setApg i x).sec = s.sec := rfl
@[simp] theorem State.setApg_rflc (i : Nat) (x : Apg) (j : Nat) : (s.setApg i x).rflc j = s.rflc j := rfl
@[simp] theorem State.setApg_bursts (i : Nat) (x : Apg) : (s.setApg i x).bursts = s.bursts := rfl
@[simp] theorem State.setApg_cal (i : Nat) (x : Apg) : (s.setApg i x).cal = s.cal := rfl
@[simp] theorem State.setApg_casPort (i : Nat) (x : Apg) (j : Nat) : (s.setApg i x).casPort j = s.casPort j := rfl
@[simp] theorem State.setApg_cas (i : Nat) (x : Apg) : (s.setApg i x).cas = s.cas := rfl
@[simp] theorem State.setApg_lags (i : Nat) (x : Apg) : (s.setApg i x).lags = s.lags := rfl

/-! ### setEng -/

@[simp] theorem State.setEng_same (i : Nat) (x : Eng) : (s.setEng i x).eng i = x := Sparse.get_set_same _ _ _ _
theorem State.setEng_ne (i : Nat) (x : Eng) {j : Nat} (h : j ≠ i) : (s.setEng i x).eng j = s.eng j := Sparse.get_set_ne _ _ _ h
@[simp] theorem State.setEng_epoch (i : Nat) (x : Eng) : (s.setEng i x).epoch = s.epoch := rfl
@[simp] theorem State.setEng_tb (i : Nat) (x : Eng) : (s.setEng i x).tb = s.tb := rfl
@[simp] theorem State.setEng_mem (i : Nat) (x : Eng) : (s.setEng i x).mem = s.mem := rfl
@[simp] theorem State.setEng_pending (i : Nat) (x : Eng) : (s.setEng i x).pending = s.pending := rfl
@[simp] theorem State.setEng_rd (i : Nat) (x : Eng) (f : Fld) (j : Nat) : (s.setEng i x).rd f j = s.rd f j := rfl
@[simp] theorem State.setEng_rdA (i : Nat) (x : Eng) (f : Fld) (j : Nat) : (s.setEng i x).rdA f j = s.rdA f j := rfl
@[simp] theorem State.setEng_dirty (i : Nat) (x : Eng) : (s.setEng i x).dirty = s.dirty := rfl
@[simp] theorem State.setEng_pages (i : Nat) (x : Eng) (j : Nat) : (s.setEng i x).pages j = s.pages j := rfl
@[simp] theorem State.setEng_latch (i : Nat) (x : Eng) (j : Nat) : (s.setEng i x).latch j = s.latch j := rfl
@[simp] theorem State.setEng_tbu (i : Nat) (x : Eng) : (s.setEng i x).tbu = s.tbu := rfl
@[simp] theorem State.setEng_hostp (i : Nat) (x : Eng) : (s.setEng i x).hostp = s.hostp := rfl
@[simp] theorem State.setEng_recs (i : Nat) (x : Eng) : (s.setEng i x).recs = s.recs := rfl
@[simp] theorem State.setEng_prodq (i : Nat) (x : Eng) : (s.setEng i x).prodq = s.prodq := rfl
@[simp] theorem State.setEng_out (i : Nat) (x : Eng) : (s.setEng i x).out = s.out := rfl
@[simp] theorem State.setEng_freeCtr (i : Nat) (x : Eng) : (s.setEng i x).freeCtr = s.freeCtr := rfl
@[simp] theorem State.setEng_dom (i : Nat) (x : Eng) (j : Nat) : (s.setEng i x).dom j = s.dom j := rfl
@[simp] theorem State.setEng_dir (i : Nat) (x : Eng) (j : Nat) : (s.setEng i x).dir j = s.dir j := rfl
@[simp] theorem State.setEng_store (i : Nat) (x : Eng) (j : Nat) : (s.setEng i x).store j = s.store j := rfl
@[simp] theorem State.setEng_win (i : Nat) (x : Eng) (j : Nat) : (s.setEng i x).win j = s.win j := rfl
@[simp] theorem State.setEng_tab (i : Nat) (x : Eng) (j : Nat) : (s.setEng i x).tab j = s.tab j := rfl
@[simp] theorem State.setEng_apg (i : Nat) (x : Eng) (j : Nat) : (s.setEng i x).apg j = s.apg j := rfl
@[simp] theorem State.setEng_lout (i : Nat) (x : Eng) (j : Nat) : (s.setEng i x).lout j = s.lout j := rfl
@[simp] theorem State.setEng_grp (i : Nat) (x : Eng) (j : Nat) : (s.setEng i x).grp j = s.grp j := rfl
@[simp] theorem State.setEng_ballClaim (i : Nat) (x : Eng) (j : Nat) : (s.setEng i x).ballClaim j = s.ballClaim j := rfl
@[simp] theorem State.setEng_ballOut (i : Nat) (x : Eng) (j : Nat) : (s.setEng i x).ballOut j = s.ballOut j := rfl
@[simp] theorem State.setEng_ballTb (i : Nat) (x : Eng) (j : Nat) : (s.setEng i x).ballTb j = s.ballTb j := rfl
@[simp] theorem State.setEng_arrivals (i : Nat) (x : Eng) : (s.setEng i x).arrivals = s.arrivals := rfl
@[simp] theorem State.setEng_drv (i : Nat) (x : Eng) (j : Nat) : (s.setEng i x).drv j = s.drv j := rfl
@[simp] theorem State.setEng_node (i : Nat) (x : Eng) (j : Nat) : (s.setEng i x).node j = s.node j := rfl
@[simp] theorem State.setEng_loupe (i : Nat) (x : Eng) : (s.setEng i x).loupe = s.loupe := rfl
@[simp] theorem State.setEng_crown (i : Nat) (x : Eng) (j : Nat) : (s.setEng i x).crown j = s.crown j := rfl
@[simp] theorem State.setEng_bank (i : Nat) (x : Eng) (j : Nat) : (s.setEng i x).bank j = s.bank j := rfl
@[simp] theorem State.setEng_sense (i : Nat) (x : Eng) (j : Nat) : (s.setEng i x).sense j = s.sense j := rfl
@[simp] theorem State.setEng_pin (i : Nat) (x : Eng) (j : Nat) : (s.setEng i x).pin j = s.pin j := rfl
@[simp] theorem State.setEng_lphy (i : Nat) (x : Eng) (j : Nat) : (s.setEng i x).lphy j = s.lphy j := rfl
@[simp] theorem State.setEng_cmpl (i : Nat) (x : Eng) (j : Nat) : (s.setEng i x).cmpl j = s.cmpl j := rfl
@[simp] theorem State.setEng_cmp (i : Nat) (x : Eng) (j : Nat) : (s.setEng i x).cmp j = s.cmp j := rfl
@[simp] theorem State.setEng_isl (i : Nat) (x : Eng) (j : Nat) : (s.setEng i x).isl j = s.isl j := rfl
@[simp] theorem State.setEng_rail (i : Nat) (x : Eng) (j : Nat) : (s.setEng i x).rail j = s.rail j := rfl
@[simp] theorem State.setEng_stop (i : Nat) (x : Eng) (j : Nat) : (s.setEng i x).stop j = s.stop j := rfl
@[simp] theorem State.setEng_totals (i : Nat) (x : Eng) (j : Nat) : (s.setEng i x).totals j = s.totals j := rfl
@[simp] theorem State.setEng_sbank (i : Nat) (x : Eng) (j : Nat) : (s.setEng i x).sbank j = s.sbank j := rfl
@[simp] theorem State.setEng_tpll (i : Nat) (x : Eng) : (s.setEng i x).tpll = s.tpll := rfl
@[simp] theorem State.setEng_quad (i : Nat) (x : Eng) (j : Nat) : (s.setEng i x).quad j = s.quad j := rfl
@[simp] theorem State.setEng_bring (i : Nat) (x : Eng) : (s.setEng i x).bring = s.bring := rfl
@[simp] theorem State.setEng_lustre (i : Nat) (x : Eng) : (s.setEng i x).lustre = s.lustre := rfl
@[simp] theorem State.setEng_port (i : Nat) (x : Eng) (j : Nat) : (s.setEng i x).port j = s.port j := rfl
@[simp] theorem State.setEng_evtb (i : Nat) (x : Eng) (j : Nat) : (s.setEng i x).evtb j = s.evtb j := rfl
@[simp] theorem State.setEng_route (i : Nat) (x : Eng) (j : Nat) : (s.setEng i x).route j = s.route j := rfl
@[simp] theorem State.setEng_swq (i : Nat) (x : Eng) : (s.setEng i x).swq = s.swq := rfl
@[simp] theorem State.setEng_timer (i : Nat) (x : Eng) (j : Nat) : (s.setEng i x).timer j = s.timer j := rfl
@[simp] theorem State.setEng_journal (i : Nat) (x : Eng) : (s.setEng i x).journal = s.journal := rfl
@[simp] theorem State.setEng_sec (i : Nat) (x : Eng) : (s.setEng i x).sec = s.sec := rfl
@[simp] theorem State.setEng_rflc (i : Nat) (x : Eng) (j : Nat) : (s.setEng i x).rflc j = s.rflc j := rfl
@[simp] theorem State.setEng_bursts (i : Nat) (x : Eng) : (s.setEng i x).bursts = s.bursts := rfl
@[simp] theorem State.setEng_cal (i : Nat) (x : Eng) : (s.setEng i x).cal = s.cal := rfl
@[simp] theorem State.setEng_casPort (i : Nat) (x : Eng) (j : Nat) : (s.setEng i x).casPort j = s.casPort j := rfl
@[simp] theorem State.setEng_cas (i : Nat) (x : Eng) : (s.setEng i x).cas = s.cas := rfl
@[simp] theorem State.setEng_lags (i : Nat) (x : Eng) : (s.setEng i x).lags = s.lags := rfl

/-! ### setLout -/

@[simp] theorem State.setLout_same (i : Nat) (x : LaneOut) : (s.setLout i x).lout i = x := Sparse.get_set_same _ _ _ _
theorem State.setLout_ne (i : Nat) (x : LaneOut) {j : Nat} (h : j ≠ i) : (s.setLout i x).lout j = s.lout j := Sparse.get_set_ne _ _ _ h
@[simp] theorem State.setLout_epoch (i : Nat) (x : LaneOut) : (s.setLout i x).epoch = s.epoch := rfl
@[simp] theorem State.setLout_tb (i : Nat) (x : LaneOut) : (s.setLout i x).tb = s.tb := rfl
@[simp] theorem State.setLout_mem (i : Nat) (x : LaneOut) : (s.setLout i x).mem = s.mem := rfl
@[simp] theorem State.setLout_pending (i : Nat) (x : LaneOut) : (s.setLout i x).pending = s.pending := rfl
@[simp] theorem State.setLout_rd (i : Nat) (x : LaneOut) (f : Fld) (j : Nat) : (s.setLout i x).rd f j = s.rd f j := rfl
@[simp] theorem State.setLout_rdA (i : Nat) (x : LaneOut) (f : Fld) (j : Nat) : (s.setLout i x).rdA f j = s.rdA f j := rfl
@[simp] theorem State.setLout_dirty (i : Nat) (x : LaneOut) : (s.setLout i x).dirty = s.dirty := rfl
@[simp] theorem State.setLout_pages (i : Nat) (x : LaneOut) (j : Nat) : (s.setLout i x).pages j = s.pages j := rfl
@[simp] theorem State.setLout_latch (i : Nat) (x : LaneOut) (j : Nat) : (s.setLout i x).latch j = s.latch j := rfl
@[simp] theorem State.setLout_tbu (i : Nat) (x : LaneOut) : (s.setLout i x).tbu = s.tbu := rfl
@[simp] theorem State.setLout_hostp (i : Nat) (x : LaneOut) : (s.setLout i x).hostp = s.hostp := rfl
@[simp] theorem State.setLout_recs (i : Nat) (x : LaneOut) : (s.setLout i x).recs = s.recs := rfl
@[simp] theorem State.setLout_prodq (i : Nat) (x : LaneOut) : (s.setLout i x).prodq = s.prodq := rfl
@[simp] theorem State.setLout_out (i : Nat) (x : LaneOut) : (s.setLout i x).out = s.out := rfl
@[simp] theorem State.setLout_freeCtr (i : Nat) (x : LaneOut) : (s.setLout i x).freeCtr = s.freeCtr := rfl
@[simp] theorem State.setLout_dom (i : Nat) (x : LaneOut) (j : Nat) : (s.setLout i x).dom j = s.dom j := rfl
@[simp] theorem State.setLout_dir (i : Nat) (x : LaneOut) (j : Nat) : (s.setLout i x).dir j = s.dir j := rfl
@[simp] theorem State.setLout_store (i : Nat) (x : LaneOut) (j : Nat) : (s.setLout i x).store j = s.store j := rfl
@[simp] theorem State.setLout_win (i : Nat) (x : LaneOut) (j : Nat) : (s.setLout i x).win j = s.win j := rfl
@[simp] theorem State.setLout_tab (i : Nat) (x : LaneOut) (j : Nat) : (s.setLout i x).tab j = s.tab j := rfl
@[simp] theorem State.setLout_apg (i : Nat) (x : LaneOut) (j : Nat) : (s.setLout i x).apg j = s.apg j := rfl
@[simp] theorem State.setLout_eng (i : Nat) (x : LaneOut) (j : Nat) : (s.setLout i x).eng j = s.eng j := rfl
@[simp] theorem State.setLout_grp (i : Nat) (x : LaneOut) (j : Nat) : (s.setLout i x).grp j = s.grp j := rfl
@[simp] theorem State.setLout_ballClaim (i : Nat) (x : LaneOut) (j : Nat) : (s.setLout i x).ballClaim j = s.ballClaim j := rfl
@[simp] theorem State.setLout_ballOut (i : Nat) (x : LaneOut) (j : Nat) : (s.setLout i x).ballOut j = s.ballOut j := rfl
@[simp] theorem State.setLout_ballTb (i : Nat) (x : LaneOut) (j : Nat) : (s.setLout i x).ballTb j = s.ballTb j := rfl
@[simp] theorem State.setLout_arrivals (i : Nat) (x : LaneOut) : (s.setLout i x).arrivals = s.arrivals := rfl
@[simp] theorem State.setLout_drv (i : Nat) (x : LaneOut) (j : Nat) : (s.setLout i x).drv j = s.drv j := rfl
@[simp] theorem State.setLout_node (i : Nat) (x : LaneOut) (j : Nat) : (s.setLout i x).node j = s.node j := rfl
@[simp] theorem State.setLout_loupe (i : Nat) (x : LaneOut) : (s.setLout i x).loupe = s.loupe := rfl
@[simp] theorem State.setLout_crown (i : Nat) (x : LaneOut) (j : Nat) : (s.setLout i x).crown j = s.crown j := rfl
@[simp] theorem State.setLout_bank (i : Nat) (x : LaneOut) (j : Nat) : (s.setLout i x).bank j = s.bank j := rfl
@[simp] theorem State.setLout_sense (i : Nat) (x : LaneOut) (j : Nat) : (s.setLout i x).sense j = s.sense j := rfl
@[simp] theorem State.setLout_pin (i : Nat) (x : LaneOut) (j : Nat) : (s.setLout i x).pin j = s.pin j := rfl
@[simp] theorem State.setLout_lphy (i : Nat) (x : LaneOut) (j : Nat) : (s.setLout i x).lphy j = s.lphy j := rfl
@[simp] theorem State.setLout_cmpl (i : Nat) (x : LaneOut) (j : Nat) : (s.setLout i x).cmpl j = s.cmpl j := rfl
@[simp] theorem State.setLout_cmp (i : Nat) (x : LaneOut) (j : Nat) : (s.setLout i x).cmp j = s.cmp j := rfl
@[simp] theorem State.setLout_isl (i : Nat) (x : LaneOut) (j : Nat) : (s.setLout i x).isl j = s.isl j := rfl
@[simp] theorem State.setLout_rail (i : Nat) (x : LaneOut) (j : Nat) : (s.setLout i x).rail j = s.rail j := rfl
@[simp] theorem State.setLout_stop (i : Nat) (x : LaneOut) (j : Nat) : (s.setLout i x).stop j = s.stop j := rfl
@[simp] theorem State.setLout_totals (i : Nat) (x : LaneOut) (j : Nat) : (s.setLout i x).totals j = s.totals j := rfl
@[simp] theorem State.setLout_sbank (i : Nat) (x : LaneOut) (j : Nat) : (s.setLout i x).sbank j = s.sbank j := rfl
@[simp] theorem State.setLout_tpll (i : Nat) (x : LaneOut) : (s.setLout i x).tpll = s.tpll := rfl
@[simp] theorem State.setLout_quad (i : Nat) (x : LaneOut) (j : Nat) : (s.setLout i x).quad j = s.quad j := rfl
@[simp] theorem State.setLout_bring (i : Nat) (x : LaneOut) : (s.setLout i x).bring = s.bring := rfl
@[simp] theorem State.setLout_lustre (i : Nat) (x : LaneOut) : (s.setLout i x).lustre = s.lustre := rfl
@[simp] theorem State.setLout_port (i : Nat) (x : LaneOut) (j : Nat) : (s.setLout i x).port j = s.port j := rfl
@[simp] theorem State.setLout_evtb (i : Nat) (x : LaneOut) (j : Nat) : (s.setLout i x).evtb j = s.evtb j := rfl
@[simp] theorem State.setLout_route (i : Nat) (x : LaneOut) (j : Nat) : (s.setLout i x).route j = s.route j := rfl
@[simp] theorem State.setLout_swq (i : Nat) (x : LaneOut) : (s.setLout i x).swq = s.swq := rfl
@[simp] theorem State.setLout_timer (i : Nat) (x : LaneOut) (j : Nat) : (s.setLout i x).timer j = s.timer j := rfl
@[simp] theorem State.setLout_journal (i : Nat) (x : LaneOut) : (s.setLout i x).journal = s.journal := rfl
@[simp] theorem State.setLout_sec (i : Nat) (x : LaneOut) : (s.setLout i x).sec = s.sec := rfl
@[simp] theorem State.setLout_rflc (i : Nat) (x : LaneOut) (j : Nat) : (s.setLout i x).rflc j = s.rflc j := rfl
@[simp] theorem State.setLout_bursts (i : Nat) (x : LaneOut) : (s.setLout i x).bursts = s.bursts := rfl
@[simp] theorem State.setLout_cal (i : Nat) (x : LaneOut) : (s.setLout i x).cal = s.cal := rfl
@[simp] theorem State.setLout_casPort (i : Nat) (x : LaneOut) (j : Nat) : (s.setLout i x).casPort j = s.casPort j := rfl
@[simp] theorem State.setLout_cas (i : Nat) (x : LaneOut) : (s.setLout i x).cas = s.cas := rfl
@[simp] theorem State.setLout_lags (i : Nat) (x : LaneOut) : (s.setLout i x).lags = s.lags := rfl

/-! ### setGrp -/

@[simp] theorem State.setGrp_same (i : Nat) (x : Grp) : (s.setGrp i x).grp i = x := Sparse.get_set_same _ _ _ _
theorem State.setGrp_ne (i : Nat) (x : Grp) {j : Nat} (h : j ≠ i) : (s.setGrp i x).grp j = s.grp j := Sparse.get_set_ne _ _ _ h
@[simp] theorem State.setGrp_epoch (i : Nat) (x : Grp) : (s.setGrp i x).epoch = s.epoch := rfl
@[simp] theorem State.setGrp_tb (i : Nat) (x : Grp) : (s.setGrp i x).tb = s.tb := rfl
@[simp] theorem State.setGrp_mem (i : Nat) (x : Grp) : (s.setGrp i x).mem = s.mem := rfl
@[simp] theorem State.setGrp_pending (i : Nat) (x : Grp) : (s.setGrp i x).pending = s.pending := rfl
@[simp] theorem State.setGrp_rd (i : Nat) (x : Grp) (f : Fld) (j : Nat) : (s.setGrp i x).rd f j = s.rd f j := rfl
@[simp] theorem State.setGrp_rdA (i : Nat) (x : Grp) (f : Fld) (j : Nat) : (s.setGrp i x).rdA f j = s.rdA f j := rfl
@[simp] theorem State.setGrp_dirty (i : Nat) (x : Grp) : (s.setGrp i x).dirty = s.dirty := rfl
@[simp] theorem State.setGrp_pages (i : Nat) (x : Grp) (j : Nat) : (s.setGrp i x).pages j = s.pages j := rfl
@[simp] theorem State.setGrp_latch (i : Nat) (x : Grp) (j : Nat) : (s.setGrp i x).latch j = s.latch j := rfl
@[simp] theorem State.setGrp_tbu (i : Nat) (x : Grp) : (s.setGrp i x).tbu = s.tbu := rfl
@[simp] theorem State.setGrp_hostp (i : Nat) (x : Grp) : (s.setGrp i x).hostp = s.hostp := rfl
@[simp] theorem State.setGrp_recs (i : Nat) (x : Grp) : (s.setGrp i x).recs = s.recs := rfl
@[simp] theorem State.setGrp_prodq (i : Nat) (x : Grp) : (s.setGrp i x).prodq = s.prodq := rfl
@[simp] theorem State.setGrp_out (i : Nat) (x : Grp) : (s.setGrp i x).out = s.out := rfl
@[simp] theorem State.setGrp_freeCtr (i : Nat) (x : Grp) : (s.setGrp i x).freeCtr = s.freeCtr := rfl
@[simp] theorem State.setGrp_dom (i : Nat) (x : Grp) (j : Nat) : (s.setGrp i x).dom j = s.dom j := rfl
@[simp] theorem State.setGrp_dir (i : Nat) (x : Grp) (j : Nat) : (s.setGrp i x).dir j = s.dir j := rfl
@[simp] theorem State.setGrp_store (i : Nat) (x : Grp) (j : Nat) : (s.setGrp i x).store j = s.store j := rfl
@[simp] theorem State.setGrp_win (i : Nat) (x : Grp) (j : Nat) : (s.setGrp i x).win j = s.win j := rfl
@[simp] theorem State.setGrp_tab (i : Nat) (x : Grp) (j : Nat) : (s.setGrp i x).tab j = s.tab j := rfl
@[simp] theorem State.setGrp_apg (i : Nat) (x : Grp) (j : Nat) : (s.setGrp i x).apg j = s.apg j := rfl
@[simp] theorem State.setGrp_eng (i : Nat) (x : Grp) (j : Nat) : (s.setGrp i x).eng j = s.eng j := rfl
@[simp] theorem State.setGrp_lout (i : Nat) (x : Grp) (j : Nat) : (s.setGrp i x).lout j = s.lout j := rfl
@[simp] theorem State.setGrp_ballClaim (i : Nat) (x : Grp) (j : Nat) : (s.setGrp i x).ballClaim j = s.ballClaim j := rfl
@[simp] theorem State.setGrp_ballOut (i : Nat) (x : Grp) (j : Nat) : (s.setGrp i x).ballOut j = s.ballOut j := rfl
@[simp] theorem State.setGrp_ballTb (i : Nat) (x : Grp) (j : Nat) : (s.setGrp i x).ballTb j = s.ballTb j := rfl
@[simp] theorem State.setGrp_arrivals (i : Nat) (x : Grp) : (s.setGrp i x).arrivals = s.arrivals := rfl
@[simp] theorem State.setGrp_drv (i : Nat) (x : Grp) (j : Nat) : (s.setGrp i x).drv j = s.drv j := rfl
@[simp] theorem State.setGrp_node (i : Nat) (x : Grp) (j : Nat) : (s.setGrp i x).node j = s.node j := rfl
@[simp] theorem State.setGrp_loupe (i : Nat) (x : Grp) : (s.setGrp i x).loupe = s.loupe := rfl
@[simp] theorem State.setGrp_crown (i : Nat) (x : Grp) (j : Nat) : (s.setGrp i x).crown j = s.crown j := rfl
@[simp] theorem State.setGrp_bank (i : Nat) (x : Grp) (j : Nat) : (s.setGrp i x).bank j = s.bank j := rfl
@[simp] theorem State.setGrp_sense (i : Nat) (x : Grp) (j : Nat) : (s.setGrp i x).sense j = s.sense j := rfl
@[simp] theorem State.setGrp_pin (i : Nat) (x : Grp) (j : Nat) : (s.setGrp i x).pin j = s.pin j := rfl
@[simp] theorem State.setGrp_lphy (i : Nat) (x : Grp) (j : Nat) : (s.setGrp i x).lphy j = s.lphy j := rfl
@[simp] theorem State.setGrp_cmpl (i : Nat) (x : Grp) (j : Nat) : (s.setGrp i x).cmpl j = s.cmpl j := rfl
@[simp] theorem State.setGrp_cmp (i : Nat) (x : Grp) (j : Nat) : (s.setGrp i x).cmp j = s.cmp j := rfl
@[simp] theorem State.setGrp_isl (i : Nat) (x : Grp) (j : Nat) : (s.setGrp i x).isl j = s.isl j := rfl
@[simp] theorem State.setGrp_rail (i : Nat) (x : Grp) (j : Nat) : (s.setGrp i x).rail j = s.rail j := rfl
@[simp] theorem State.setGrp_stop (i : Nat) (x : Grp) (j : Nat) : (s.setGrp i x).stop j = s.stop j := rfl
@[simp] theorem State.setGrp_totals (i : Nat) (x : Grp) (j : Nat) : (s.setGrp i x).totals j = s.totals j := rfl
@[simp] theorem State.setGrp_sbank (i : Nat) (x : Grp) (j : Nat) : (s.setGrp i x).sbank j = s.sbank j := rfl
@[simp] theorem State.setGrp_tpll (i : Nat) (x : Grp) : (s.setGrp i x).tpll = s.tpll := rfl
@[simp] theorem State.setGrp_quad (i : Nat) (x : Grp) (j : Nat) : (s.setGrp i x).quad j = s.quad j := rfl
@[simp] theorem State.setGrp_bring (i : Nat) (x : Grp) : (s.setGrp i x).bring = s.bring := rfl
@[simp] theorem State.setGrp_lustre (i : Nat) (x : Grp) : (s.setGrp i x).lustre = s.lustre := rfl
@[simp] theorem State.setGrp_port (i : Nat) (x : Grp) (j : Nat) : (s.setGrp i x).port j = s.port j := rfl
@[simp] theorem State.setGrp_evtb (i : Nat) (x : Grp) (j : Nat) : (s.setGrp i x).evtb j = s.evtb j := rfl
@[simp] theorem State.setGrp_route (i : Nat) (x : Grp) (j : Nat) : (s.setGrp i x).route j = s.route j := rfl
@[simp] theorem State.setGrp_swq (i : Nat) (x : Grp) : (s.setGrp i x).swq = s.swq := rfl
@[simp] theorem State.setGrp_timer (i : Nat) (x : Grp) (j : Nat) : (s.setGrp i x).timer j = s.timer j := rfl
@[simp] theorem State.setGrp_journal (i : Nat) (x : Grp) : (s.setGrp i x).journal = s.journal := rfl
@[simp] theorem State.setGrp_sec (i : Nat) (x : Grp) : (s.setGrp i x).sec = s.sec := rfl
@[simp] theorem State.setGrp_rflc (i : Nat) (x : Grp) (j : Nat) : (s.setGrp i x).rflc j = s.rflc j := rfl
@[simp] theorem State.setGrp_bursts (i : Nat) (x : Grp) : (s.setGrp i x).bursts = s.bursts := rfl
@[simp] theorem State.setGrp_cal (i : Nat) (x : Grp) : (s.setGrp i x).cal = s.cal := rfl
@[simp] theorem State.setGrp_casPort (i : Nat) (x : Grp) (j : Nat) : (s.setGrp i x).casPort j = s.casPort j := rfl
@[simp] theorem State.setGrp_cas (i : Nat) (x : Grp) : (s.setGrp i x).cas = s.cas := rfl
@[simp] theorem State.setGrp_lags (i : Nat) (x : Grp) : (s.setGrp i x).lags = s.lags := rfl

/-! ### setBallClaim -/

@[simp] theorem State.setBallClaim_same (i : Nat) (x : Nat) : (s.setBallClaim i x).ballClaim i = x := Sparse.get_set_same _ _ _ _
theorem State.setBallClaim_ne (i : Nat) (x : Nat) {j : Nat} (h : j ≠ i) : (s.setBallClaim i x).ballClaim j = s.ballClaim j := Sparse.get_set_ne _ _ _ h
@[simp] theorem State.setBallClaim_epoch (i : Nat) (x : Nat) : (s.setBallClaim i x).epoch = s.epoch := rfl
@[simp] theorem State.setBallClaim_tb (i : Nat) (x : Nat) : (s.setBallClaim i x).tb = s.tb := rfl
@[simp] theorem State.setBallClaim_mem (i : Nat) (x : Nat) : (s.setBallClaim i x).mem = s.mem := rfl
@[simp] theorem State.setBallClaim_pending (i : Nat) (x : Nat) : (s.setBallClaim i x).pending = s.pending := rfl
@[simp] theorem State.setBallClaim_rd (i : Nat) (x : Nat) (f : Fld) (j : Nat) : (s.setBallClaim i x).rd f j = s.rd f j := rfl
@[simp] theorem State.setBallClaim_rdA (i : Nat) (x : Nat) (f : Fld) (j : Nat) : (s.setBallClaim i x).rdA f j = s.rdA f j := rfl
@[simp] theorem State.setBallClaim_dirty (i : Nat) (x : Nat) : (s.setBallClaim i x).dirty = s.dirty := rfl
@[simp] theorem State.setBallClaim_pages (i : Nat) (x : Nat) (j : Nat) : (s.setBallClaim i x).pages j = s.pages j := rfl
@[simp] theorem State.setBallClaim_latch (i : Nat) (x : Nat) (j : Nat) : (s.setBallClaim i x).latch j = s.latch j := rfl
@[simp] theorem State.setBallClaim_tbu (i : Nat) (x : Nat) : (s.setBallClaim i x).tbu = s.tbu := rfl
@[simp] theorem State.setBallClaim_hostp (i : Nat) (x : Nat) : (s.setBallClaim i x).hostp = s.hostp := rfl
@[simp] theorem State.setBallClaim_recs (i : Nat) (x : Nat) : (s.setBallClaim i x).recs = s.recs := rfl
@[simp] theorem State.setBallClaim_prodq (i : Nat) (x : Nat) : (s.setBallClaim i x).prodq = s.prodq := rfl
@[simp] theorem State.setBallClaim_out (i : Nat) (x : Nat) : (s.setBallClaim i x).out = s.out := rfl
@[simp] theorem State.setBallClaim_freeCtr (i : Nat) (x : Nat) : (s.setBallClaim i x).freeCtr = s.freeCtr := rfl
@[simp] theorem State.setBallClaim_dom (i : Nat) (x : Nat) (j : Nat) : (s.setBallClaim i x).dom j = s.dom j := rfl
@[simp] theorem State.setBallClaim_dir (i : Nat) (x : Nat) (j : Nat) : (s.setBallClaim i x).dir j = s.dir j := rfl
@[simp] theorem State.setBallClaim_store (i : Nat) (x : Nat) (j : Nat) : (s.setBallClaim i x).store j = s.store j := rfl
@[simp] theorem State.setBallClaim_win (i : Nat) (x : Nat) (j : Nat) : (s.setBallClaim i x).win j = s.win j := rfl
@[simp] theorem State.setBallClaim_tab (i : Nat) (x : Nat) (j : Nat) : (s.setBallClaim i x).tab j = s.tab j := rfl
@[simp] theorem State.setBallClaim_apg (i : Nat) (x : Nat) (j : Nat) : (s.setBallClaim i x).apg j = s.apg j := rfl
@[simp] theorem State.setBallClaim_eng (i : Nat) (x : Nat) (j : Nat) : (s.setBallClaim i x).eng j = s.eng j := rfl
@[simp] theorem State.setBallClaim_lout (i : Nat) (x : Nat) (j : Nat) : (s.setBallClaim i x).lout j = s.lout j := rfl
@[simp] theorem State.setBallClaim_grp (i : Nat) (x : Nat) (j : Nat) : (s.setBallClaim i x).grp j = s.grp j := rfl
@[simp] theorem State.setBallClaim_ballOut (i : Nat) (x : Nat) (j : Nat) : (s.setBallClaim i x).ballOut j = s.ballOut j := rfl
@[simp] theorem State.setBallClaim_ballTb (i : Nat) (x : Nat) (j : Nat) : (s.setBallClaim i x).ballTb j = s.ballTb j := rfl
@[simp] theorem State.setBallClaim_arrivals (i : Nat) (x : Nat) : (s.setBallClaim i x).arrivals = s.arrivals := rfl
@[simp] theorem State.setBallClaim_drv (i : Nat) (x : Nat) (j : Nat) : (s.setBallClaim i x).drv j = s.drv j := rfl
@[simp] theorem State.setBallClaim_node (i : Nat) (x : Nat) (j : Nat) : (s.setBallClaim i x).node j = s.node j := rfl
@[simp] theorem State.setBallClaim_loupe (i : Nat) (x : Nat) : (s.setBallClaim i x).loupe = s.loupe := rfl
@[simp] theorem State.setBallClaim_crown (i : Nat) (x : Nat) (j : Nat) : (s.setBallClaim i x).crown j = s.crown j := rfl
@[simp] theorem State.setBallClaim_bank (i : Nat) (x : Nat) (j : Nat) : (s.setBallClaim i x).bank j = s.bank j := rfl
@[simp] theorem State.setBallClaim_sense (i : Nat) (x : Nat) (j : Nat) : (s.setBallClaim i x).sense j = s.sense j := rfl
@[simp] theorem State.setBallClaim_pin (i : Nat) (x : Nat) (j : Nat) : (s.setBallClaim i x).pin j = s.pin j := rfl
@[simp] theorem State.setBallClaim_lphy (i : Nat) (x : Nat) (j : Nat) : (s.setBallClaim i x).lphy j = s.lphy j := rfl
@[simp] theorem State.setBallClaim_cmpl (i : Nat) (x : Nat) (j : Nat) : (s.setBallClaim i x).cmpl j = s.cmpl j := rfl
@[simp] theorem State.setBallClaim_cmp (i : Nat) (x : Nat) (j : Nat) : (s.setBallClaim i x).cmp j = s.cmp j := rfl
@[simp] theorem State.setBallClaim_isl (i : Nat) (x : Nat) (j : Nat) : (s.setBallClaim i x).isl j = s.isl j := rfl
@[simp] theorem State.setBallClaim_rail (i : Nat) (x : Nat) (j : Nat) : (s.setBallClaim i x).rail j = s.rail j := rfl
@[simp] theorem State.setBallClaim_stop (i : Nat) (x : Nat) (j : Nat) : (s.setBallClaim i x).stop j = s.stop j := rfl
@[simp] theorem State.setBallClaim_totals (i : Nat) (x : Nat) (j : Nat) : (s.setBallClaim i x).totals j = s.totals j := rfl
@[simp] theorem State.setBallClaim_sbank (i : Nat) (x : Nat) (j : Nat) : (s.setBallClaim i x).sbank j = s.sbank j := rfl
@[simp] theorem State.setBallClaim_tpll (i : Nat) (x : Nat) : (s.setBallClaim i x).tpll = s.tpll := rfl
@[simp] theorem State.setBallClaim_quad (i : Nat) (x : Nat) (j : Nat) : (s.setBallClaim i x).quad j = s.quad j := rfl
@[simp] theorem State.setBallClaim_bring (i : Nat) (x : Nat) : (s.setBallClaim i x).bring = s.bring := rfl
@[simp] theorem State.setBallClaim_lustre (i : Nat) (x : Nat) : (s.setBallClaim i x).lustre = s.lustre := rfl
@[simp] theorem State.setBallClaim_port (i : Nat) (x : Nat) (j : Nat) : (s.setBallClaim i x).port j = s.port j := rfl
@[simp] theorem State.setBallClaim_evtb (i : Nat) (x : Nat) (j : Nat) : (s.setBallClaim i x).evtb j = s.evtb j := rfl
@[simp] theorem State.setBallClaim_route (i : Nat) (x : Nat) (j : Nat) : (s.setBallClaim i x).route j = s.route j := rfl
@[simp] theorem State.setBallClaim_swq (i : Nat) (x : Nat) : (s.setBallClaim i x).swq = s.swq := rfl
@[simp] theorem State.setBallClaim_timer (i : Nat) (x : Nat) (j : Nat) : (s.setBallClaim i x).timer j = s.timer j := rfl
@[simp] theorem State.setBallClaim_journal (i : Nat) (x : Nat) : (s.setBallClaim i x).journal = s.journal := rfl
@[simp] theorem State.setBallClaim_sec (i : Nat) (x : Nat) : (s.setBallClaim i x).sec = s.sec := rfl
@[simp] theorem State.setBallClaim_rflc (i : Nat) (x : Nat) (j : Nat) : (s.setBallClaim i x).rflc j = s.rflc j := rfl
@[simp] theorem State.setBallClaim_bursts (i : Nat) (x : Nat) : (s.setBallClaim i x).bursts = s.bursts := rfl
@[simp] theorem State.setBallClaim_cal (i : Nat) (x : Nat) : (s.setBallClaim i x).cal = s.cal := rfl
@[simp] theorem State.setBallClaim_casPort (i : Nat) (x : Nat) (j : Nat) : (s.setBallClaim i x).casPort j = s.casPort j := rfl
@[simp] theorem State.setBallClaim_cas (i : Nat) (x : Nat) : (s.setBallClaim i x).cas = s.cas := rfl
@[simp] theorem State.setBallClaim_lags (i : Nat) (x : Nat) : (s.setBallClaim i x).lags = s.lags := rfl

/-! ### setBallOut -/

@[simp] theorem State.setBallOut_same (i : Nat) (x : Nat) : (s.setBallOut i x).ballOut i = x := Sparse.get_set_same _ _ _ _
theorem State.setBallOut_ne (i : Nat) (x : Nat) {j : Nat} (h : j ≠ i) : (s.setBallOut i x).ballOut j = s.ballOut j := Sparse.get_set_ne _ _ _ h
@[simp] theorem State.setBallOut_epoch (i : Nat) (x : Nat) : (s.setBallOut i x).epoch = s.epoch := rfl
@[simp] theorem State.setBallOut_tb (i : Nat) (x : Nat) : (s.setBallOut i x).tb = s.tb := rfl
@[simp] theorem State.setBallOut_mem (i : Nat) (x : Nat) : (s.setBallOut i x).mem = s.mem := rfl
@[simp] theorem State.setBallOut_pending (i : Nat) (x : Nat) : (s.setBallOut i x).pending = s.pending := rfl
@[simp] theorem State.setBallOut_rd (i : Nat) (x : Nat) (f : Fld) (j : Nat) : (s.setBallOut i x).rd f j = s.rd f j := rfl
@[simp] theorem State.setBallOut_rdA (i : Nat) (x : Nat) (f : Fld) (j : Nat) : (s.setBallOut i x).rdA f j = s.rdA f j := rfl
@[simp] theorem State.setBallOut_dirty (i : Nat) (x : Nat) : (s.setBallOut i x).dirty = s.dirty := rfl
@[simp] theorem State.setBallOut_pages (i : Nat) (x : Nat) (j : Nat) : (s.setBallOut i x).pages j = s.pages j := rfl
@[simp] theorem State.setBallOut_latch (i : Nat) (x : Nat) (j : Nat) : (s.setBallOut i x).latch j = s.latch j := rfl
@[simp] theorem State.setBallOut_tbu (i : Nat) (x : Nat) : (s.setBallOut i x).tbu = s.tbu := rfl
@[simp] theorem State.setBallOut_hostp (i : Nat) (x : Nat) : (s.setBallOut i x).hostp = s.hostp := rfl
@[simp] theorem State.setBallOut_recs (i : Nat) (x : Nat) : (s.setBallOut i x).recs = s.recs := rfl
@[simp] theorem State.setBallOut_prodq (i : Nat) (x : Nat) : (s.setBallOut i x).prodq = s.prodq := rfl
@[simp] theorem State.setBallOut_out (i : Nat) (x : Nat) : (s.setBallOut i x).out = s.out := rfl
@[simp] theorem State.setBallOut_freeCtr (i : Nat) (x : Nat) : (s.setBallOut i x).freeCtr = s.freeCtr := rfl
@[simp] theorem State.setBallOut_dom (i : Nat) (x : Nat) (j : Nat) : (s.setBallOut i x).dom j = s.dom j := rfl
@[simp] theorem State.setBallOut_dir (i : Nat) (x : Nat) (j : Nat) : (s.setBallOut i x).dir j = s.dir j := rfl
@[simp] theorem State.setBallOut_store (i : Nat) (x : Nat) (j : Nat) : (s.setBallOut i x).store j = s.store j := rfl
@[simp] theorem State.setBallOut_win (i : Nat) (x : Nat) (j : Nat) : (s.setBallOut i x).win j = s.win j := rfl
@[simp] theorem State.setBallOut_tab (i : Nat) (x : Nat) (j : Nat) : (s.setBallOut i x).tab j = s.tab j := rfl
@[simp] theorem State.setBallOut_apg (i : Nat) (x : Nat) (j : Nat) : (s.setBallOut i x).apg j = s.apg j := rfl
@[simp] theorem State.setBallOut_eng (i : Nat) (x : Nat) (j : Nat) : (s.setBallOut i x).eng j = s.eng j := rfl
@[simp] theorem State.setBallOut_lout (i : Nat) (x : Nat) (j : Nat) : (s.setBallOut i x).lout j = s.lout j := rfl
@[simp] theorem State.setBallOut_grp (i : Nat) (x : Nat) (j : Nat) : (s.setBallOut i x).grp j = s.grp j := rfl
@[simp] theorem State.setBallOut_ballClaim (i : Nat) (x : Nat) (j : Nat) : (s.setBallOut i x).ballClaim j = s.ballClaim j := rfl
@[simp] theorem State.setBallOut_ballTb (i : Nat) (x : Nat) (j : Nat) : (s.setBallOut i x).ballTb j = s.ballTb j := rfl
@[simp] theorem State.setBallOut_arrivals (i : Nat) (x : Nat) : (s.setBallOut i x).arrivals = s.arrivals := rfl
@[simp] theorem State.setBallOut_drv (i : Nat) (x : Nat) (j : Nat) : (s.setBallOut i x).drv j = s.drv j := rfl
@[simp] theorem State.setBallOut_node (i : Nat) (x : Nat) (j : Nat) : (s.setBallOut i x).node j = s.node j := rfl
@[simp] theorem State.setBallOut_loupe (i : Nat) (x : Nat) : (s.setBallOut i x).loupe = s.loupe := rfl
@[simp] theorem State.setBallOut_crown (i : Nat) (x : Nat) (j : Nat) : (s.setBallOut i x).crown j = s.crown j := rfl
@[simp] theorem State.setBallOut_bank (i : Nat) (x : Nat) (j : Nat) : (s.setBallOut i x).bank j = s.bank j := rfl
@[simp] theorem State.setBallOut_sense (i : Nat) (x : Nat) (j : Nat) : (s.setBallOut i x).sense j = s.sense j := rfl
@[simp] theorem State.setBallOut_pin (i : Nat) (x : Nat) (j : Nat) : (s.setBallOut i x).pin j = s.pin j := rfl
@[simp] theorem State.setBallOut_lphy (i : Nat) (x : Nat) (j : Nat) : (s.setBallOut i x).lphy j = s.lphy j := rfl
@[simp] theorem State.setBallOut_cmpl (i : Nat) (x : Nat) (j : Nat) : (s.setBallOut i x).cmpl j = s.cmpl j := rfl
@[simp] theorem State.setBallOut_cmp (i : Nat) (x : Nat) (j : Nat) : (s.setBallOut i x).cmp j = s.cmp j := rfl
@[simp] theorem State.setBallOut_isl (i : Nat) (x : Nat) (j : Nat) : (s.setBallOut i x).isl j = s.isl j := rfl
@[simp] theorem State.setBallOut_rail (i : Nat) (x : Nat) (j : Nat) : (s.setBallOut i x).rail j = s.rail j := rfl
@[simp] theorem State.setBallOut_stop (i : Nat) (x : Nat) (j : Nat) : (s.setBallOut i x).stop j = s.stop j := rfl
@[simp] theorem State.setBallOut_totals (i : Nat) (x : Nat) (j : Nat) : (s.setBallOut i x).totals j = s.totals j := rfl
@[simp] theorem State.setBallOut_sbank (i : Nat) (x : Nat) (j : Nat) : (s.setBallOut i x).sbank j = s.sbank j := rfl
@[simp] theorem State.setBallOut_tpll (i : Nat) (x : Nat) : (s.setBallOut i x).tpll = s.tpll := rfl
@[simp] theorem State.setBallOut_quad (i : Nat) (x : Nat) (j : Nat) : (s.setBallOut i x).quad j = s.quad j := rfl
@[simp] theorem State.setBallOut_bring (i : Nat) (x : Nat) : (s.setBallOut i x).bring = s.bring := rfl
@[simp] theorem State.setBallOut_lustre (i : Nat) (x : Nat) : (s.setBallOut i x).lustre = s.lustre := rfl
@[simp] theorem State.setBallOut_port (i : Nat) (x : Nat) (j : Nat) : (s.setBallOut i x).port j = s.port j := rfl
@[simp] theorem State.setBallOut_evtb (i : Nat) (x : Nat) (j : Nat) : (s.setBallOut i x).evtb j = s.evtb j := rfl
@[simp] theorem State.setBallOut_route (i : Nat) (x : Nat) (j : Nat) : (s.setBallOut i x).route j = s.route j := rfl
@[simp] theorem State.setBallOut_swq (i : Nat) (x : Nat) : (s.setBallOut i x).swq = s.swq := rfl
@[simp] theorem State.setBallOut_timer (i : Nat) (x : Nat) (j : Nat) : (s.setBallOut i x).timer j = s.timer j := rfl
@[simp] theorem State.setBallOut_journal (i : Nat) (x : Nat) : (s.setBallOut i x).journal = s.journal := rfl
@[simp] theorem State.setBallOut_sec (i : Nat) (x : Nat) : (s.setBallOut i x).sec = s.sec := rfl
@[simp] theorem State.setBallOut_rflc (i : Nat) (x : Nat) (j : Nat) : (s.setBallOut i x).rflc j = s.rflc j := rfl
@[simp] theorem State.setBallOut_bursts (i : Nat) (x : Nat) : (s.setBallOut i x).bursts = s.bursts := rfl
@[simp] theorem State.setBallOut_cal (i : Nat) (x : Nat) : (s.setBallOut i x).cal = s.cal := rfl
@[simp] theorem State.setBallOut_casPort (i : Nat) (x : Nat) (j : Nat) : (s.setBallOut i x).casPort j = s.casPort j := rfl
@[simp] theorem State.setBallOut_cas (i : Nat) (x : Nat) : (s.setBallOut i x).cas = s.cas := rfl
@[simp] theorem State.setBallOut_lags (i : Nat) (x : Nat) : (s.setBallOut i x).lags = s.lags := rfl

/-! ### setBallTb -/

@[simp] theorem State.setBallTb_same (i : Nat) (x : Nat) : (s.setBallTb i x).ballTb i = x := Sparse.get_set_same _ _ _ _
theorem State.setBallTb_ne (i : Nat) (x : Nat) {j : Nat} (h : j ≠ i) : (s.setBallTb i x).ballTb j = s.ballTb j := Sparse.get_set_ne _ _ _ h
@[simp] theorem State.setBallTb_epoch (i : Nat) (x : Nat) : (s.setBallTb i x).epoch = s.epoch := rfl
@[simp] theorem State.setBallTb_tb (i : Nat) (x : Nat) : (s.setBallTb i x).tb = s.tb := rfl
@[simp] theorem State.setBallTb_mem (i : Nat) (x : Nat) : (s.setBallTb i x).mem = s.mem := rfl
@[simp] theorem State.setBallTb_pending (i : Nat) (x : Nat) : (s.setBallTb i x).pending = s.pending := rfl
@[simp] theorem State.setBallTb_rd (i : Nat) (x : Nat) (f : Fld) (j : Nat) : (s.setBallTb i x).rd f j = s.rd f j := rfl
@[simp] theorem State.setBallTb_rdA (i : Nat) (x : Nat) (f : Fld) (j : Nat) : (s.setBallTb i x).rdA f j = s.rdA f j := rfl
@[simp] theorem State.setBallTb_dirty (i : Nat) (x : Nat) : (s.setBallTb i x).dirty = s.dirty := rfl
@[simp] theorem State.setBallTb_pages (i : Nat) (x : Nat) (j : Nat) : (s.setBallTb i x).pages j = s.pages j := rfl
@[simp] theorem State.setBallTb_latch (i : Nat) (x : Nat) (j : Nat) : (s.setBallTb i x).latch j = s.latch j := rfl
@[simp] theorem State.setBallTb_tbu (i : Nat) (x : Nat) : (s.setBallTb i x).tbu = s.tbu := rfl
@[simp] theorem State.setBallTb_hostp (i : Nat) (x : Nat) : (s.setBallTb i x).hostp = s.hostp := rfl
@[simp] theorem State.setBallTb_recs (i : Nat) (x : Nat) : (s.setBallTb i x).recs = s.recs := rfl
@[simp] theorem State.setBallTb_prodq (i : Nat) (x : Nat) : (s.setBallTb i x).prodq = s.prodq := rfl
@[simp] theorem State.setBallTb_out (i : Nat) (x : Nat) : (s.setBallTb i x).out = s.out := rfl
@[simp] theorem State.setBallTb_freeCtr (i : Nat) (x : Nat) : (s.setBallTb i x).freeCtr = s.freeCtr := rfl
@[simp] theorem State.setBallTb_dom (i : Nat) (x : Nat) (j : Nat) : (s.setBallTb i x).dom j = s.dom j := rfl
@[simp] theorem State.setBallTb_dir (i : Nat) (x : Nat) (j : Nat) : (s.setBallTb i x).dir j = s.dir j := rfl
@[simp] theorem State.setBallTb_store (i : Nat) (x : Nat) (j : Nat) : (s.setBallTb i x).store j = s.store j := rfl
@[simp] theorem State.setBallTb_win (i : Nat) (x : Nat) (j : Nat) : (s.setBallTb i x).win j = s.win j := rfl
@[simp] theorem State.setBallTb_tab (i : Nat) (x : Nat) (j : Nat) : (s.setBallTb i x).tab j = s.tab j := rfl
@[simp] theorem State.setBallTb_apg (i : Nat) (x : Nat) (j : Nat) : (s.setBallTb i x).apg j = s.apg j := rfl
@[simp] theorem State.setBallTb_eng (i : Nat) (x : Nat) (j : Nat) : (s.setBallTb i x).eng j = s.eng j := rfl
@[simp] theorem State.setBallTb_lout (i : Nat) (x : Nat) (j : Nat) : (s.setBallTb i x).lout j = s.lout j := rfl
@[simp] theorem State.setBallTb_grp (i : Nat) (x : Nat) (j : Nat) : (s.setBallTb i x).grp j = s.grp j := rfl
@[simp] theorem State.setBallTb_ballClaim (i : Nat) (x : Nat) (j : Nat) : (s.setBallTb i x).ballClaim j = s.ballClaim j := rfl
@[simp] theorem State.setBallTb_ballOut (i : Nat) (x : Nat) (j : Nat) : (s.setBallTb i x).ballOut j = s.ballOut j := rfl
@[simp] theorem State.setBallTb_arrivals (i : Nat) (x : Nat) : (s.setBallTb i x).arrivals = s.arrivals := rfl
@[simp] theorem State.setBallTb_drv (i : Nat) (x : Nat) (j : Nat) : (s.setBallTb i x).drv j = s.drv j := rfl
@[simp] theorem State.setBallTb_node (i : Nat) (x : Nat) (j : Nat) : (s.setBallTb i x).node j = s.node j := rfl
@[simp] theorem State.setBallTb_loupe (i : Nat) (x : Nat) : (s.setBallTb i x).loupe = s.loupe := rfl
@[simp] theorem State.setBallTb_crown (i : Nat) (x : Nat) (j : Nat) : (s.setBallTb i x).crown j = s.crown j := rfl
@[simp] theorem State.setBallTb_bank (i : Nat) (x : Nat) (j : Nat) : (s.setBallTb i x).bank j = s.bank j := rfl
@[simp] theorem State.setBallTb_sense (i : Nat) (x : Nat) (j : Nat) : (s.setBallTb i x).sense j = s.sense j := rfl
@[simp] theorem State.setBallTb_pin (i : Nat) (x : Nat) (j : Nat) : (s.setBallTb i x).pin j = s.pin j := rfl
@[simp] theorem State.setBallTb_lphy (i : Nat) (x : Nat) (j : Nat) : (s.setBallTb i x).lphy j = s.lphy j := rfl
@[simp] theorem State.setBallTb_cmpl (i : Nat) (x : Nat) (j : Nat) : (s.setBallTb i x).cmpl j = s.cmpl j := rfl
@[simp] theorem State.setBallTb_cmp (i : Nat) (x : Nat) (j : Nat) : (s.setBallTb i x).cmp j = s.cmp j := rfl
@[simp] theorem State.setBallTb_isl (i : Nat) (x : Nat) (j : Nat) : (s.setBallTb i x).isl j = s.isl j := rfl
@[simp] theorem State.setBallTb_rail (i : Nat) (x : Nat) (j : Nat) : (s.setBallTb i x).rail j = s.rail j := rfl
@[simp] theorem State.setBallTb_stop (i : Nat) (x : Nat) (j : Nat) : (s.setBallTb i x).stop j = s.stop j := rfl
@[simp] theorem State.setBallTb_totals (i : Nat) (x : Nat) (j : Nat) : (s.setBallTb i x).totals j = s.totals j := rfl
@[simp] theorem State.setBallTb_sbank (i : Nat) (x : Nat) (j : Nat) : (s.setBallTb i x).sbank j = s.sbank j := rfl
@[simp] theorem State.setBallTb_tpll (i : Nat) (x : Nat) : (s.setBallTb i x).tpll = s.tpll := rfl
@[simp] theorem State.setBallTb_quad (i : Nat) (x : Nat) (j : Nat) : (s.setBallTb i x).quad j = s.quad j := rfl
@[simp] theorem State.setBallTb_bring (i : Nat) (x : Nat) : (s.setBallTb i x).bring = s.bring := rfl
@[simp] theorem State.setBallTb_lustre (i : Nat) (x : Nat) : (s.setBallTb i x).lustre = s.lustre := rfl
@[simp] theorem State.setBallTb_port (i : Nat) (x : Nat) (j : Nat) : (s.setBallTb i x).port j = s.port j := rfl
@[simp] theorem State.setBallTb_evtb (i : Nat) (x : Nat) (j : Nat) : (s.setBallTb i x).evtb j = s.evtb j := rfl
@[simp] theorem State.setBallTb_route (i : Nat) (x : Nat) (j : Nat) : (s.setBallTb i x).route j = s.route j := rfl
@[simp] theorem State.setBallTb_swq (i : Nat) (x : Nat) : (s.setBallTb i x).swq = s.swq := rfl
@[simp] theorem State.setBallTb_timer (i : Nat) (x : Nat) (j : Nat) : (s.setBallTb i x).timer j = s.timer j := rfl
@[simp] theorem State.setBallTb_journal (i : Nat) (x : Nat) : (s.setBallTb i x).journal = s.journal := rfl
@[simp] theorem State.setBallTb_sec (i : Nat) (x : Nat) : (s.setBallTb i x).sec = s.sec := rfl
@[simp] theorem State.setBallTb_rflc (i : Nat) (x : Nat) (j : Nat) : (s.setBallTb i x).rflc j = s.rflc j := rfl
@[simp] theorem State.setBallTb_bursts (i : Nat) (x : Nat) : (s.setBallTb i x).bursts = s.bursts := rfl
@[simp] theorem State.setBallTb_cal (i : Nat) (x : Nat) : (s.setBallTb i x).cal = s.cal := rfl
@[simp] theorem State.setBallTb_casPort (i : Nat) (x : Nat) (j : Nat) : (s.setBallTb i x).casPort j = s.casPort j := rfl
@[simp] theorem State.setBallTb_cas (i : Nat) (x : Nat) : (s.setBallTb i x).cas = s.cas := rfl
@[simp] theorem State.setBallTb_lags (i : Nat) (x : Nat) : (s.setBallTb i x).lags = s.lags := rfl

/-! ### setArrivals -/

@[simp] theorem State.setArrivals_same (x : List Arrival) : (s.setArrivals x).arrivals = x := rfl
@[simp] theorem State.setArrivals_epoch (x : List Arrival) : (s.setArrivals x).epoch = s.epoch := rfl
@[simp] theorem State.setArrivals_tb (x : List Arrival) : (s.setArrivals x).tb = s.tb := rfl
@[simp] theorem State.setArrivals_mem (x : List Arrival) : (s.setArrivals x).mem = s.mem := rfl
@[simp] theorem State.setArrivals_pending (x : List Arrival) : (s.setArrivals x).pending = s.pending := rfl
@[simp] theorem State.setArrivals_rd (x : List Arrival) (f : Fld) (j : Nat) : (s.setArrivals x).rd f j = s.rd f j := rfl
@[simp] theorem State.setArrivals_rdA (x : List Arrival) (f : Fld) (j : Nat) : (s.setArrivals x).rdA f j = s.rdA f j := rfl
@[simp] theorem State.setArrivals_dirty (x : List Arrival) : (s.setArrivals x).dirty = s.dirty := rfl
@[simp] theorem State.setArrivals_pages (x : List Arrival) (j : Nat) : (s.setArrivals x).pages j = s.pages j := rfl
@[simp] theorem State.setArrivals_latch (x : List Arrival) (j : Nat) : (s.setArrivals x).latch j = s.latch j := rfl
@[simp] theorem State.setArrivals_tbu (x : List Arrival) : (s.setArrivals x).tbu = s.tbu := rfl
@[simp] theorem State.setArrivals_hostp (x : List Arrival) : (s.setArrivals x).hostp = s.hostp := rfl
@[simp] theorem State.setArrivals_recs (x : List Arrival) : (s.setArrivals x).recs = s.recs := rfl
@[simp] theorem State.setArrivals_prodq (x : List Arrival) : (s.setArrivals x).prodq = s.prodq := rfl
@[simp] theorem State.setArrivals_out (x : List Arrival) : (s.setArrivals x).out = s.out := rfl
@[simp] theorem State.setArrivals_freeCtr (x : List Arrival) : (s.setArrivals x).freeCtr = s.freeCtr := rfl
@[simp] theorem State.setArrivals_dom (x : List Arrival) (j : Nat) : (s.setArrivals x).dom j = s.dom j := rfl
@[simp] theorem State.setArrivals_dir (x : List Arrival) (j : Nat) : (s.setArrivals x).dir j = s.dir j := rfl
@[simp] theorem State.setArrivals_store (x : List Arrival) (j : Nat) : (s.setArrivals x).store j = s.store j := rfl
@[simp] theorem State.setArrivals_win (x : List Arrival) (j : Nat) : (s.setArrivals x).win j = s.win j := rfl
@[simp] theorem State.setArrivals_tab (x : List Arrival) (j : Nat) : (s.setArrivals x).tab j = s.tab j := rfl
@[simp] theorem State.setArrivals_apg (x : List Arrival) (j : Nat) : (s.setArrivals x).apg j = s.apg j := rfl
@[simp] theorem State.setArrivals_eng (x : List Arrival) (j : Nat) : (s.setArrivals x).eng j = s.eng j := rfl
@[simp] theorem State.setArrivals_lout (x : List Arrival) (j : Nat) : (s.setArrivals x).lout j = s.lout j := rfl
@[simp] theorem State.setArrivals_grp (x : List Arrival) (j : Nat) : (s.setArrivals x).grp j = s.grp j := rfl
@[simp] theorem State.setArrivals_ballClaim (x : List Arrival) (j : Nat) : (s.setArrivals x).ballClaim j = s.ballClaim j := rfl
@[simp] theorem State.setArrivals_ballOut (x : List Arrival) (j : Nat) : (s.setArrivals x).ballOut j = s.ballOut j := rfl
@[simp] theorem State.setArrivals_ballTb (x : List Arrival) (j : Nat) : (s.setArrivals x).ballTb j = s.ballTb j := rfl
@[simp] theorem State.setArrivals_drv (x : List Arrival) (j : Nat) : (s.setArrivals x).drv j = s.drv j := rfl
@[simp] theorem State.setArrivals_node (x : List Arrival) (j : Nat) : (s.setArrivals x).node j = s.node j := rfl
@[simp] theorem State.setArrivals_loupe (x : List Arrival) : (s.setArrivals x).loupe = s.loupe := rfl
@[simp] theorem State.setArrivals_crown (x : List Arrival) (j : Nat) : (s.setArrivals x).crown j = s.crown j := rfl
@[simp] theorem State.setArrivals_bank (x : List Arrival) (j : Nat) : (s.setArrivals x).bank j = s.bank j := rfl
@[simp] theorem State.setArrivals_sense (x : List Arrival) (j : Nat) : (s.setArrivals x).sense j = s.sense j := rfl
@[simp] theorem State.setArrivals_pin (x : List Arrival) (j : Nat) : (s.setArrivals x).pin j = s.pin j := rfl
@[simp] theorem State.setArrivals_lphy (x : List Arrival) (j : Nat) : (s.setArrivals x).lphy j = s.lphy j := rfl
@[simp] theorem State.setArrivals_cmpl (x : List Arrival) (j : Nat) : (s.setArrivals x).cmpl j = s.cmpl j := rfl
@[simp] theorem State.setArrivals_cmp (x : List Arrival) (j : Nat) : (s.setArrivals x).cmp j = s.cmp j := rfl
@[simp] theorem State.setArrivals_isl (x : List Arrival) (j : Nat) : (s.setArrivals x).isl j = s.isl j := rfl
@[simp] theorem State.setArrivals_rail (x : List Arrival) (j : Nat) : (s.setArrivals x).rail j = s.rail j := rfl
@[simp] theorem State.setArrivals_stop (x : List Arrival) (j : Nat) : (s.setArrivals x).stop j = s.stop j := rfl
@[simp] theorem State.setArrivals_totals (x : List Arrival) (j : Nat) : (s.setArrivals x).totals j = s.totals j := rfl
@[simp] theorem State.setArrivals_sbank (x : List Arrival) (j : Nat) : (s.setArrivals x).sbank j = s.sbank j := rfl
@[simp] theorem State.setArrivals_tpll (x : List Arrival) : (s.setArrivals x).tpll = s.tpll := rfl
@[simp] theorem State.setArrivals_quad (x : List Arrival) (j : Nat) : (s.setArrivals x).quad j = s.quad j := rfl
@[simp] theorem State.setArrivals_bring (x : List Arrival) : (s.setArrivals x).bring = s.bring := rfl
@[simp] theorem State.setArrivals_lustre (x : List Arrival) : (s.setArrivals x).lustre = s.lustre := rfl
@[simp] theorem State.setArrivals_port (x : List Arrival) (j : Nat) : (s.setArrivals x).port j = s.port j := rfl
@[simp] theorem State.setArrivals_evtb (x : List Arrival) (j : Nat) : (s.setArrivals x).evtb j = s.evtb j := rfl
@[simp] theorem State.setArrivals_route (x : List Arrival) (j : Nat) : (s.setArrivals x).route j = s.route j := rfl
@[simp] theorem State.setArrivals_swq (x : List Arrival) : (s.setArrivals x).swq = s.swq := rfl
@[simp] theorem State.setArrivals_timer (x : List Arrival) (j : Nat) : (s.setArrivals x).timer j = s.timer j := rfl
@[simp] theorem State.setArrivals_journal (x : List Arrival) : (s.setArrivals x).journal = s.journal := rfl
@[simp] theorem State.setArrivals_sec (x : List Arrival) : (s.setArrivals x).sec = s.sec := rfl
@[simp] theorem State.setArrivals_rflc (x : List Arrival) (j : Nat) : (s.setArrivals x).rflc j = s.rflc j := rfl
@[simp] theorem State.setArrivals_bursts (x : List Arrival) : (s.setArrivals x).bursts = s.bursts := rfl
@[simp] theorem State.setArrivals_cal (x : List Arrival) : (s.setArrivals x).cal = s.cal := rfl
@[simp] theorem State.setArrivals_casPort (x : List Arrival) (j : Nat) : (s.setArrivals x).casPort j = s.casPort j := rfl
@[simp] theorem State.setArrivals_cas (x : List Arrival) : (s.setArrivals x).cas = s.cas := rfl
@[simp] theorem State.setArrivals_lags (x : List Arrival) : (s.setArrivals x).lags = s.lags := rfl

/-! ### setDrv -/

@[simp] theorem State.setDrv_same (i : Nat) (x : Drv) : (s.setDrv i x).drv i = x := Sparse.get_set_same _ _ _ _
theorem State.setDrv_ne (i : Nat) (x : Drv) {j : Nat} (h : j ≠ i) : (s.setDrv i x).drv j = s.drv j := Sparse.get_set_ne _ _ _ h
@[simp] theorem State.setDrv_epoch (i : Nat) (x : Drv) : (s.setDrv i x).epoch = s.epoch := rfl
@[simp] theorem State.setDrv_tb (i : Nat) (x : Drv) : (s.setDrv i x).tb = s.tb := rfl
@[simp] theorem State.setDrv_mem (i : Nat) (x : Drv) : (s.setDrv i x).mem = s.mem := rfl
@[simp] theorem State.setDrv_pending (i : Nat) (x : Drv) : (s.setDrv i x).pending = s.pending := rfl
@[simp] theorem State.setDrv_rd (i : Nat) (x : Drv) (f : Fld) (j : Nat) : (s.setDrv i x).rd f j = s.rd f j := rfl
@[simp] theorem State.setDrv_rdA (i : Nat) (x : Drv) (f : Fld) (j : Nat) : (s.setDrv i x).rdA f j = s.rdA f j := rfl
@[simp] theorem State.setDrv_dirty (i : Nat) (x : Drv) : (s.setDrv i x).dirty = s.dirty := rfl
@[simp] theorem State.setDrv_pages (i : Nat) (x : Drv) (j : Nat) : (s.setDrv i x).pages j = s.pages j := rfl
@[simp] theorem State.setDrv_latch (i : Nat) (x : Drv) (j : Nat) : (s.setDrv i x).latch j = s.latch j := rfl
@[simp] theorem State.setDrv_tbu (i : Nat) (x : Drv) : (s.setDrv i x).tbu = s.tbu := rfl
@[simp] theorem State.setDrv_hostp (i : Nat) (x : Drv) : (s.setDrv i x).hostp = s.hostp := rfl
@[simp] theorem State.setDrv_recs (i : Nat) (x : Drv) : (s.setDrv i x).recs = s.recs := rfl
@[simp] theorem State.setDrv_prodq (i : Nat) (x : Drv) : (s.setDrv i x).prodq = s.prodq := rfl
@[simp] theorem State.setDrv_out (i : Nat) (x : Drv) : (s.setDrv i x).out = s.out := rfl
@[simp] theorem State.setDrv_freeCtr (i : Nat) (x : Drv) : (s.setDrv i x).freeCtr = s.freeCtr := rfl
@[simp] theorem State.setDrv_dom (i : Nat) (x : Drv) (j : Nat) : (s.setDrv i x).dom j = s.dom j := rfl
@[simp] theorem State.setDrv_dir (i : Nat) (x : Drv) (j : Nat) : (s.setDrv i x).dir j = s.dir j := rfl
@[simp] theorem State.setDrv_store (i : Nat) (x : Drv) (j : Nat) : (s.setDrv i x).store j = s.store j := rfl
@[simp] theorem State.setDrv_win (i : Nat) (x : Drv) (j : Nat) : (s.setDrv i x).win j = s.win j := rfl
@[simp] theorem State.setDrv_tab (i : Nat) (x : Drv) (j : Nat) : (s.setDrv i x).tab j = s.tab j := rfl
@[simp] theorem State.setDrv_apg (i : Nat) (x : Drv) (j : Nat) : (s.setDrv i x).apg j = s.apg j := rfl
@[simp] theorem State.setDrv_eng (i : Nat) (x : Drv) (j : Nat) : (s.setDrv i x).eng j = s.eng j := rfl
@[simp] theorem State.setDrv_lout (i : Nat) (x : Drv) (j : Nat) : (s.setDrv i x).lout j = s.lout j := rfl
@[simp] theorem State.setDrv_grp (i : Nat) (x : Drv) (j : Nat) : (s.setDrv i x).grp j = s.grp j := rfl
@[simp] theorem State.setDrv_ballClaim (i : Nat) (x : Drv) (j : Nat) : (s.setDrv i x).ballClaim j = s.ballClaim j := rfl
@[simp] theorem State.setDrv_ballOut (i : Nat) (x : Drv) (j : Nat) : (s.setDrv i x).ballOut j = s.ballOut j := rfl
@[simp] theorem State.setDrv_ballTb (i : Nat) (x : Drv) (j : Nat) : (s.setDrv i x).ballTb j = s.ballTb j := rfl
@[simp] theorem State.setDrv_arrivals (i : Nat) (x : Drv) : (s.setDrv i x).arrivals = s.arrivals := rfl
@[simp] theorem State.setDrv_node (i : Nat) (x : Drv) (j : Nat) : (s.setDrv i x).node j = s.node j := rfl
@[simp] theorem State.setDrv_loupe (i : Nat) (x : Drv) : (s.setDrv i x).loupe = s.loupe := rfl
@[simp] theorem State.setDrv_crown (i : Nat) (x : Drv) (j : Nat) : (s.setDrv i x).crown j = s.crown j := rfl
@[simp] theorem State.setDrv_bank (i : Nat) (x : Drv) (j : Nat) : (s.setDrv i x).bank j = s.bank j := rfl
@[simp] theorem State.setDrv_sense (i : Nat) (x : Drv) (j : Nat) : (s.setDrv i x).sense j = s.sense j := rfl
@[simp] theorem State.setDrv_pin (i : Nat) (x : Drv) (j : Nat) : (s.setDrv i x).pin j = s.pin j := rfl
@[simp] theorem State.setDrv_lphy (i : Nat) (x : Drv) (j : Nat) : (s.setDrv i x).lphy j = s.lphy j := rfl
@[simp] theorem State.setDrv_cmpl (i : Nat) (x : Drv) (j : Nat) : (s.setDrv i x).cmpl j = s.cmpl j := rfl
@[simp] theorem State.setDrv_cmp (i : Nat) (x : Drv) (j : Nat) : (s.setDrv i x).cmp j = s.cmp j := rfl
@[simp] theorem State.setDrv_isl (i : Nat) (x : Drv) (j : Nat) : (s.setDrv i x).isl j = s.isl j := rfl
@[simp] theorem State.setDrv_rail (i : Nat) (x : Drv) (j : Nat) : (s.setDrv i x).rail j = s.rail j := rfl
@[simp] theorem State.setDrv_stop (i : Nat) (x : Drv) (j : Nat) : (s.setDrv i x).stop j = s.stop j := rfl
@[simp] theorem State.setDrv_totals (i : Nat) (x : Drv) (j : Nat) : (s.setDrv i x).totals j = s.totals j := rfl
@[simp] theorem State.setDrv_sbank (i : Nat) (x : Drv) (j : Nat) : (s.setDrv i x).sbank j = s.sbank j := rfl
@[simp] theorem State.setDrv_tpll (i : Nat) (x : Drv) : (s.setDrv i x).tpll = s.tpll := rfl
@[simp] theorem State.setDrv_quad (i : Nat) (x : Drv) (j : Nat) : (s.setDrv i x).quad j = s.quad j := rfl
@[simp] theorem State.setDrv_bring (i : Nat) (x : Drv) : (s.setDrv i x).bring = s.bring := rfl
@[simp] theorem State.setDrv_lustre (i : Nat) (x : Drv) : (s.setDrv i x).lustre = s.lustre := rfl
@[simp] theorem State.setDrv_port (i : Nat) (x : Drv) (j : Nat) : (s.setDrv i x).port j = s.port j := rfl
@[simp] theorem State.setDrv_evtb (i : Nat) (x : Drv) (j : Nat) : (s.setDrv i x).evtb j = s.evtb j := rfl
@[simp] theorem State.setDrv_route (i : Nat) (x : Drv) (j : Nat) : (s.setDrv i x).route j = s.route j := rfl
@[simp] theorem State.setDrv_swq (i : Nat) (x : Drv) : (s.setDrv i x).swq = s.swq := rfl
@[simp] theorem State.setDrv_timer (i : Nat) (x : Drv) (j : Nat) : (s.setDrv i x).timer j = s.timer j := rfl
@[simp] theorem State.setDrv_journal (i : Nat) (x : Drv) : (s.setDrv i x).journal = s.journal := rfl
@[simp] theorem State.setDrv_sec (i : Nat) (x : Drv) : (s.setDrv i x).sec = s.sec := rfl
@[simp] theorem State.setDrv_rflc (i : Nat) (x : Drv) (j : Nat) : (s.setDrv i x).rflc j = s.rflc j := rfl
@[simp] theorem State.setDrv_bursts (i : Nat) (x : Drv) : (s.setDrv i x).bursts = s.bursts := rfl
@[simp] theorem State.setDrv_cal (i : Nat) (x : Drv) : (s.setDrv i x).cal = s.cal := rfl
@[simp] theorem State.setDrv_casPort (i : Nat) (x : Drv) (j : Nat) : (s.setDrv i x).casPort j = s.casPort j := rfl
@[simp] theorem State.setDrv_cas (i : Nat) (x : Drv) : (s.setDrv i x).cas = s.cas := rfl
@[simp] theorem State.setDrv_lags (i : Nat) (x : Drv) : (s.setDrv i x).lags = s.lags := rfl

/-! ### setNode -/

@[simp] theorem State.setNode_same (i : Nat) (x : Node) : (s.setNode i x).node i = x := Sparse.get_set_same _ _ _ _
theorem State.setNode_ne (i : Nat) (x : Node) {j : Nat} (h : j ≠ i) : (s.setNode i x).node j = s.node j := Sparse.get_set_ne _ _ _ h
@[simp] theorem State.setNode_epoch (i : Nat) (x : Node) : (s.setNode i x).epoch = s.epoch := rfl
@[simp] theorem State.setNode_tb (i : Nat) (x : Node) : (s.setNode i x).tb = s.tb := rfl
@[simp] theorem State.setNode_mem (i : Nat) (x : Node) : (s.setNode i x).mem = s.mem := rfl
@[simp] theorem State.setNode_pending (i : Nat) (x : Node) : (s.setNode i x).pending = s.pending := rfl
@[simp] theorem State.setNode_rd (i : Nat) (x : Node) (f : Fld) (j : Nat) : (s.setNode i x).rd f j = s.rd f j := rfl
@[simp] theorem State.setNode_rdA (i : Nat) (x : Node) (f : Fld) (j : Nat) : (s.setNode i x).rdA f j = s.rdA f j := rfl
@[simp] theorem State.setNode_dirty (i : Nat) (x : Node) : (s.setNode i x).dirty = s.dirty := rfl
@[simp] theorem State.setNode_pages (i : Nat) (x : Node) (j : Nat) : (s.setNode i x).pages j = s.pages j := rfl
@[simp] theorem State.setNode_latch (i : Nat) (x : Node) (j : Nat) : (s.setNode i x).latch j = s.latch j := rfl
@[simp] theorem State.setNode_tbu (i : Nat) (x : Node) : (s.setNode i x).tbu = s.tbu := rfl
@[simp] theorem State.setNode_hostp (i : Nat) (x : Node) : (s.setNode i x).hostp = s.hostp := rfl
@[simp] theorem State.setNode_recs (i : Nat) (x : Node) : (s.setNode i x).recs = s.recs := rfl
@[simp] theorem State.setNode_prodq (i : Nat) (x : Node) : (s.setNode i x).prodq = s.prodq := rfl
@[simp] theorem State.setNode_out (i : Nat) (x : Node) : (s.setNode i x).out = s.out := rfl
@[simp] theorem State.setNode_freeCtr (i : Nat) (x : Node) : (s.setNode i x).freeCtr = s.freeCtr := rfl
@[simp] theorem State.setNode_dom (i : Nat) (x : Node) (j : Nat) : (s.setNode i x).dom j = s.dom j := rfl
@[simp] theorem State.setNode_dir (i : Nat) (x : Node) (j : Nat) : (s.setNode i x).dir j = s.dir j := rfl
@[simp] theorem State.setNode_store (i : Nat) (x : Node) (j : Nat) : (s.setNode i x).store j = s.store j := rfl
@[simp] theorem State.setNode_win (i : Nat) (x : Node) (j : Nat) : (s.setNode i x).win j = s.win j := rfl
@[simp] theorem State.setNode_tab (i : Nat) (x : Node) (j : Nat) : (s.setNode i x).tab j = s.tab j := rfl
@[simp] theorem State.setNode_apg (i : Nat) (x : Node) (j : Nat) : (s.setNode i x).apg j = s.apg j := rfl
@[simp] theorem State.setNode_eng (i : Nat) (x : Node) (j : Nat) : (s.setNode i x).eng j = s.eng j := rfl
@[simp] theorem State.setNode_lout (i : Nat) (x : Node) (j : Nat) : (s.setNode i x).lout j = s.lout j := rfl
@[simp] theorem State.setNode_grp (i : Nat) (x : Node) (j : Nat) : (s.setNode i x).grp j = s.grp j := rfl
@[simp] theorem State.setNode_ballClaim (i : Nat) (x : Node) (j : Nat) : (s.setNode i x).ballClaim j = s.ballClaim j := rfl
@[simp] theorem State.setNode_ballOut (i : Nat) (x : Node) (j : Nat) : (s.setNode i x).ballOut j = s.ballOut j := rfl
@[simp] theorem State.setNode_ballTb (i : Nat) (x : Node) (j : Nat) : (s.setNode i x).ballTb j = s.ballTb j := rfl
@[simp] theorem State.setNode_arrivals (i : Nat) (x : Node) : (s.setNode i x).arrivals = s.arrivals := rfl
@[simp] theorem State.setNode_drv (i : Nat) (x : Node) (j : Nat) : (s.setNode i x).drv j = s.drv j := rfl
@[simp] theorem State.setNode_loupe (i : Nat) (x : Node) : (s.setNode i x).loupe = s.loupe := rfl
@[simp] theorem State.setNode_crown (i : Nat) (x : Node) (j : Nat) : (s.setNode i x).crown j = s.crown j := rfl
@[simp] theorem State.setNode_bank (i : Nat) (x : Node) (j : Nat) : (s.setNode i x).bank j = s.bank j := rfl
@[simp] theorem State.setNode_sense (i : Nat) (x : Node) (j : Nat) : (s.setNode i x).sense j = s.sense j := rfl
@[simp] theorem State.setNode_pin (i : Nat) (x : Node) (j : Nat) : (s.setNode i x).pin j = s.pin j := rfl
@[simp] theorem State.setNode_lphy (i : Nat) (x : Node) (j : Nat) : (s.setNode i x).lphy j = s.lphy j := rfl
@[simp] theorem State.setNode_cmpl (i : Nat) (x : Node) (j : Nat) : (s.setNode i x).cmpl j = s.cmpl j := rfl
@[simp] theorem State.setNode_cmp (i : Nat) (x : Node) (j : Nat) : (s.setNode i x).cmp j = s.cmp j := rfl
@[simp] theorem State.setNode_isl (i : Nat) (x : Node) (j : Nat) : (s.setNode i x).isl j = s.isl j := rfl
@[simp] theorem State.setNode_rail (i : Nat) (x : Node) (j : Nat) : (s.setNode i x).rail j = s.rail j := rfl
@[simp] theorem State.setNode_stop (i : Nat) (x : Node) (j : Nat) : (s.setNode i x).stop j = s.stop j := rfl
@[simp] theorem State.setNode_totals (i : Nat) (x : Node) (j : Nat) : (s.setNode i x).totals j = s.totals j := rfl
@[simp] theorem State.setNode_sbank (i : Nat) (x : Node) (j : Nat) : (s.setNode i x).sbank j = s.sbank j := rfl
@[simp] theorem State.setNode_tpll (i : Nat) (x : Node) : (s.setNode i x).tpll = s.tpll := rfl
@[simp] theorem State.setNode_quad (i : Nat) (x : Node) (j : Nat) : (s.setNode i x).quad j = s.quad j := rfl
@[simp] theorem State.setNode_bring (i : Nat) (x : Node) : (s.setNode i x).bring = s.bring := rfl
@[simp] theorem State.setNode_lustre (i : Nat) (x : Node) : (s.setNode i x).lustre = s.lustre := rfl
@[simp] theorem State.setNode_port (i : Nat) (x : Node) (j : Nat) : (s.setNode i x).port j = s.port j := rfl
@[simp] theorem State.setNode_evtb (i : Nat) (x : Node) (j : Nat) : (s.setNode i x).evtb j = s.evtb j := rfl
@[simp] theorem State.setNode_route (i : Nat) (x : Node) (j : Nat) : (s.setNode i x).route j = s.route j := rfl
@[simp] theorem State.setNode_swq (i : Nat) (x : Node) : (s.setNode i x).swq = s.swq := rfl
@[simp] theorem State.setNode_timer (i : Nat) (x : Node) (j : Nat) : (s.setNode i x).timer j = s.timer j := rfl
@[simp] theorem State.setNode_journal (i : Nat) (x : Node) : (s.setNode i x).journal = s.journal := rfl
@[simp] theorem State.setNode_sec (i : Nat) (x : Node) : (s.setNode i x).sec = s.sec := rfl
@[simp] theorem State.setNode_rflc (i : Nat) (x : Node) (j : Nat) : (s.setNode i x).rflc j = s.rflc j := rfl
@[simp] theorem State.setNode_bursts (i : Nat) (x : Node) : (s.setNode i x).bursts = s.bursts := rfl
@[simp] theorem State.setNode_cal (i : Nat) (x : Node) : (s.setNode i x).cal = s.cal := rfl
@[simp] theorem State.setNode_casPort (i : Nat) (x : Node) (j : Nat) : (s.setNode i x).casPort j = s.casPort j := rfl
@[simp] theorem State.setNode_cas (i : Nat) (x : Node) : (s.setNode i x).cas = s.cas := rfl
@[simp] theorem State.setNode_lags (i : Nat) (x : Node) : (s.setNode i x).lags = s.lags := rfl

/-! ### setLoupe -/

@[simp] theorem State.setLoupe_same (x : Loupe) : (s.setLoupe x).loupe = x := rfl
@[simp] theorem State.setLoupe_epoch (x : Loupe) : (s.setLoupe x).epoch = s.epoch := rfl
@[simp] theorem State.setLoupe_tb (x : Loupe) : (s.setLoupe x).tb = s.tb := rfl
@[simp] theorem State.setLoupe_mem (x : Loupe) : (s.setLoupe x).mem = s.mem := rfl
@[simp] theorem State.setLoupe_pending (x : Loupe) : (s.setLoupe x).pending = s.pending := rfl
@[simp] theorem State.setLoupe_rd (x : Loupe) (f : Fld) (j : Nat) : (s.setLoupe x).rd f j = s.rd f j := rfl
@[simp] theorem State.setLoupe_rdA (x : Loupe) (f : Fld) (j : Nat) : (s.setLoupe x).rdA f j = s.rdA f j := rfl
@[simp] theorem State.setLoupe_dirty (x : Loupe) : (s.setLoupe x).dirty = s.dirty := rfl
@[simp] theorem State.setLoupe_pages (x : Loupe) (j : Nat) : (s.setLoupe x).pages j = s.pages j := rfl
@[simp] theorem State.setLoupe_latch (x : Loupe) (j : Nat) : (s.setLoupe x).latch j = s.latch j := rfl
@[simp] theorem State.setLoupe_tbu (x : Loupe) : (s.setLoupe x).tbu = s.tbu := rfl
@[simp] theorem State.setLoupe_hostp (x : Loupe) : (s.setLoupe x).hostp = s.hostp := rfl
@[simp] theorem State.setLoupe_recs (x : Loupe) : (s.setLoupe x).recs = s.recs := rfl
@[simp] theorem State.setLoupe_prodq (x : Loupe) : (s.setLoupe x).prodq = s.prodq := rfl
@[simp] theorem State.setLoupe_out (x : Loupe) : (s.setLoupe x).out = s.out := rfl
@[simp] theorem State.setLoupe_freeCtr (x : Loupe) : (s.setLoupe x).freeCtr = s.freeCtr := rfl
@[simp] theorem State.setLoupe_dom (x : Loupe) (j : Nat) : (s.setLoupe x).dom j = s.dom j := rfl
@[simp] theorem State.setLoupe_dir (x : Loupe) (j : Nat) : (s.setLoupe x).dir j = s.dir j := rfl
@[simp] theorem State.setLoupe_store (x : Loupe) (j : Nat) : (s.setLoupe x).store j = s.store j := rfl
@[simp] theorem State.setLoupe_win (x : Loupe) (j : Nat) : (s.setLoupe x).win j = s.win j := rfl
@[simp] theorem State.setLoupe_tab (x : Loupe) (j : Nat) : (s.setLoupe x).tab j = s.tab j := rfl
@[simp] theorem State.setLoupe_apg (x : Loupe) (j : Nat) : (s.setLoupe x).apg j = s.apg j := rfl
@[simp] theorem State.setLoupe_eng (x : Loupe) (j : Nat) : (s.setLoupe x).eng j = s.eng j := rfl
@[simp] theorem State.setLoupe_lout (x : Loupe) (j : Nat) : (s.setLoupe x).lout j = s.lout j := rfl
@[simp] theorem State.setLoupe_grp (x : Loupe) (j : Nat) : (s.setLoupe x).grp j = s.grp j := rfl
@[simp] theorem State.setLoupe_ballClaim (x : Loupe) (j : Nat) : (s.setLoupe x).ballClaim j = s.ballClaim j := rfl
@[simp] theorem State.setLoupe_ballOut (x : Loupe) (j : Nat) : (s.setLoupe x).ballOut j = s.ballOut j := rfl
@[simp] theorem State.setLoupe_ballTb (x : Loupe) (j : Nat) : (s.setLoupe x).ballTb j = s.ballTb j := rfl
@[simp] theorem State.setLoupe_arrivals (x : Loupe) : (s.setLoupe x).arrivals = s.arrivals := rfl
@[simp] theorem State.setLoupe_drv (x : Loupe) (j : Nat) : (s.setLoupe x).drv j = s.drv j := rfl
@[simp] theorem State.setLoupe_node (x : Loupe) (j : Nat) : (s.setLoupe x).node j = s.node j := rfl
@[simp] theorem State.setLoupe_crown (x : Loupe) (j : Nat) : (s.setLoupe x).crown j = s.crown j := rfl
@[simp] theorem State.setLoupe_bank (x : Loupe) (j : Nat) : (s.setLoupe x).bank j = s.bank j := rfl
@[simp] theorem State.setLoupe_sense (x : Loupe) (j : Nat) : (s.setLoupe x).sense j = s.sense j := rfl
@[simp] theorem State.setLoupe_pin (x : Loupe) (j : Nat) : (s.setLoupe x).pin j = s.pin j := rfl
@[simp] theorem State.setLoupe_lphy (x : Loupe) (j : Nat) : (s.setLoupe x).lphy j = s.lphy j := rfl
@[simp] theorem State.setLoupe_cmpl (x : Loupe) (j : Nat) : (s.setLoupe x).cmpl j = s.cmpl j := rfl
@[simp] theorem State.setLoupe_cmp (x : Loupe) (j : Nat) : (s.setLoupe x).cmp j = s.cmp j := rfl
@[simp] theorem State.setLoupe_isl (x : Loupe) (j : Nat) : (s.setLoupe x).isl j = s.isl j := rfl
@[simp] theorem State.setLoupe_rail (x : Loupe) (j : Nat) : (s.setLoupe x).rail j = s.rail j := rfl
@[simp] theorem State.setLoupe_stop (x : Loupe) (j : Nat) : (s.setLoupe x).stop j = s.stop j := rfl
@[simp] theorem State.setLoupe_totals (x : Loupe) (j : Nat) : (s.setLoupe x).totals j = s.totals j := rfl
@[simp] theorem State.setLoupe_sbank (x : Loupe) (j : Nat) : (s.setLoupe x).sbank j = s.sbank j := rfl
@[simp] theorem State.setLoupe_tpll (x : Loupe) : (s.setLoupe x).tpll = s.tpll := rfl
@[simp] theorem State.setLoupe_quad (x : Loupe) (j : Nat) : (s.setLoupe x).quad j = s.quad j := rfl
@[simp] theorem State.setLoupe_bring (x : Loupe) : (s.setLoupe x).bring = s.bring := rfl
@[simp] theorem State.setLoupe_lustre (x : Loupe) : (s.setLoupe x).lustre = s.lustre := rfl
@[simp] theorem State.setLoupe_port (x : Loupe) (j : Nat) : (s.setLoupe x).port j = s.port j := rfl
@[simp] theorem State.setLoupe_evtb (x : Loupe) (j : Nat) : (s.setLoupe x).evtb j = s.evtb j := rfl
@[simp] theorem State.setLoupe_route (x : Loupe) (j : Nat) : (s.setLoupe x).route j = s.route j := rfl
@[simp] theorem State.setLoupe_swq (x : Loupe) : (s.setLoupe x).swq = s.swq := rfl
@[simp] theorem State.setLoupe_timer (x : Loupe) (j : Nat) : (s.setLoupe x).timer j = s.timer j := rfl
@[simp] theorem State.setLoupe_journal (x : Loupe) : (s.setLoupe x).journal = s.journal := rfl
@[simp] theorem State.setLoupe_sec (x : Loupe) : (s.setLoupe x).sec = s.sec := rfl
@[simp] theorem State.setLoupe_rflc (x : Loupe) (j : Nat) : (s.setLoupe x).rflc j = s.rflc j := rfl
@[simp] theorem State.setLoupe_bursts (x : Loupe) : (s.setLoupe x).bursts = s.bursts := rfl
@[simp] theorem State.setLoupe_cal (x : Loupe) : (s.setLoupe x).cal = s.cal := rfl
@[simp] theorem State.setLoupe_casPort (x : Loupe) (j : Nat) : (s.setLoupe x).casPort j = s.casPort j := rfl
@[simp] theorem State.setLoupe_cas (x : Loupe) : (s.setLoupe x).cas = s.cas := rfl
@[simp] theorem State.setLoupe_lags (x : Loupe) : (s.setLoupe x).lags = s.lags := rfl

/-! ### setCrown -/

@[simp] theorem State.setCrown_same (i : Nat) (x : Crown) : (s.setCrown i x).crown i = x := Sparse.get_set_same _ _ _ _
theorem State.setCrown_ne (i : Nat) (x : Crown) {j : Nat} (h : j ≠ i) : (s.setCrown i x).crown j = s.crown j := Sparse.get_set_ne _ _ _ h
@[simp] theorem State.setCrown_epoch (i : Nat) (x : Crown) : (s.setCrown i x).epoch = s.epoch := rfl
@[simp] theorem State.setCrown_tb (i : Nat) (x : Crown) : (s.setCrown i x).tb = s.tb := rfl
@[simp] theorem State.setCrown_mem (i : Nat) (x : Crown) : (s.setCrown i x).mem = s.mem := rfl
@[simp] theorem State.setCrown_pending (i : Nat) (x : Crown) : (s.setCrown i x).pending = s.pending := rfl
@[simp] theorem State.setCrown_rd (i : Nat) (x : Crown) (f : Fld) (j : Nat) : (s.setCrown i x).rd f j = s.rd f j := rfl
@[simp] theorem State.setCrown_rdA (i : Nat) (x : Crown) (f : Fld) (j : Nat) : (s.setCrown i x).rdA f j = s.rdA f j := rfl
@[simp] theorem State.setCrown_dirty (i : Nat) (x : Crown) : (s.setCrown i x).dirty = s.dirty := rfl
@[simp] theorem State.setCrown_pages (i : Nat) (x : Crown) (j : Nat) : (s.setCrown i x).pages j = s.pages j := rfl
@[simp] theorem State.setCrown_latch (i : Nat) (x : Crown) (j : Nat) : (s.setCrown i x).latch j = s.latch j := rfl
@[simp] theorem State.setCrown_tbu (i : Nat) (x : Crown) : (s.setCrown i x).tbu = s.tbu := rfl
@[simp] theorem State.setCrown_hostp (i : Nat) (x : Crown) : (s.setCrown i x).hostp = s.hostp := rfl
@[simp] theorem State.setCrown_recs (i : Nat) (x : Crown) : (s.setCrown i x).recs = s.recs := rfl
@[simp] theorem State.setCrown_prodq (i : Nat) (x : Crown) : (s.setCrown i x).prodq = s.prodq := rfl
@[simp] theorem State.setCrown_out (i : Nat) (x : Crown) : (s.setCrown i x).out = s.out := rfl
@[simp] theorem State.setCrown_freeCtr (i : Nat) (x : Crown) : (s.setCrown i x).freeCtr = s.freeCtr := rfl
@[simp] theorem State.setCrown_dom (i : Nat) (x : Crown) (j : Nat) : (s.setCrown i x).dom j = s.dom j := rfl
@[simp] theorem State.setCrown_dir (i : Nat) (x : Crown) (j : Nat) : (s.setCrown i x).dir j = s.dir j := rfl
@[simp] theorem State.setCrown_store (i : Nat) (x : Crown) (j : Nat) : (s.setCrown i x).store j = s.store j := rfl
@[simp] theorem State.setCrown_win (i : Nat) (x : Crown) (j : Nat) : (s.setCrown i x).win j = s.win j := rfl
@[simp] theorem State.setCrown_tab (i : Nat) (x : Crown) (j : Nat) : (s.setCrown i x).tab j = s.tab j := rfl
@[simp] theorem State.setCrown_apg (i : Nat) (x : Crown) (j : Nat) : (s.setCrown i x).apg j = s.apg j := rfl
@[simp] theorem State.setCrown_eng (i : Nat) (x : Crown) (j : Nat) : (s.setCrown i x).eng j = s.eng j := rfl
@[simp] theorem State.setCrown_lout (i : Nat) (x : Crown) (j : Nat) : (s.setCrown i x).lout j = s.lout j := rfl
@[simp] theorem State.setCrown_grp (i : Nat) (x : Crown) (j : Nat) : (s.setCrown i x).grp j = s.grp j := rfl
@[simp] theorem State.setCrown_ballClaim (i : Nat) (x : Crown) (j : Nat) : (s.setCrown i x).ballClaim j = s.ballClaim j := rfl
@[simp] theorem State.setCrown_ballOut (i : Nat) (x : Crown) (j : Nat) : (s.setCrown i x).ballOut j = s.ballOut j := rfl
@[simp] theorem State.setCrown_ballTb (i : Nat) (x : Crown) (j : Nat) : (s.setCrown i x).ballTb j = s.ballTb j := rfl
@[simp] theorem State.setCrown_arrivals (i : Nat) (x : Crown) : (s.setCrown i x).arrivals = s.arrivals := rfl
@[simp] theorem State.setCrown_drv (i : Nat) (x : Crown) (j : Nat) : (s.setCrown i x).drv j = s.drv j := rfl
@[simp] theorem State.setCrown_node (i : Nat) (x : Crown) (j : Nat) : (s.setCrown i x).node j = s.node j := rfl
@[simp] theorem State.setCrown_loupe (i : Nat) (x : Crown) : (s.setCrown i x).loupe = s.loupe := rfl
@[simp] theorem State.setCrown_bank (i : Nat) (x : Crown) (j : Nat) : (s.setCrown i x).bank j = s.bank j := rfl
@[simp] theorem State.setCrown_sense (i : Nat) (x : Crown) (j : Nat) : (s.setCrown i x).sense j = s.sense j := rfl
@[simp] theorem State.setCrown_pin (i : Nat) (x : Crown) (j : Nat) : (s.setCrown i x).pin j = s.pin j := rfl
@[simp] theorem State.setCrown_lphy (i : Nat) (x : Crown) (j : Nat) : (s.setCrown i x).lphy j = s.lphy j := rfl
@[simp] theorem State.setCrown_cmpl (i : Nat) (x : Crown) (j : Nat) : (s.setCrown i x).cmpl j = s.cmpl j := rfl
@[simp] theorem State.setCrown_cmp (i : Nat) (x : Crown) (j : Nat) : (s.setCrown i x).cmp j = s.cmp j := rfl
@[simp] theorem State.setCrown_isl (i : Nat) (x : Crown) (j : Nat) : (s.setCrown i x).isl j = s.isl j := rfl
@[simp] theorem State.setCrown_rail (i : Nat) (x : Crown) (j : Nat) : (s.setCrown i x).rail j = s.rail j := rfl
@[simp] theorem State.setCrown_stop (i : Nat) (x : Crown) (j : Nat) : (s.setCrown i x).stop j = s.stop j := rfl
@[simp] theorem State.setCrown_totals (i : Nat) (x : Crown) (j : Nat) : (s.setCrown i x).totals j = s.totals j := rfl
@[simp] theorem State.setCrown_sbank (i : Nat) (x : Crown) (j : Nat) : (s.setCrown i x).sbank j = s.sbank j := rfl
@[simp] theorem State.setCrown_tpll (i : Nat) (x : Crown) : (s.setCrown i x).tpll = s.tpll := rfl
@[simp] theorem State.setCrown_quad (i : Nat) (x : Crown) (j : Nat) : (s.setCrown i x).quad j = s.quad j := rfl
@[simp] theorem State.setCrown_bring (i : Nat) (x : Crown) : (s.setCrown i x).bring = s.bring := rfl
@[simp] theorem State.setCrown_lustre (i : Nat) (x : Crown) : (s.setCrown i x).lustre = s.lustre := rfl
@[simp] theorem State.setCrown_port (i : Nat) (x : Crown) (j : Nat) : (s.setCrown i x).port j = s.port j := rfl
@[simp] theorem State.setCrown_evtb (i : Nat) (x : Crown) (j : Nat) : (s.setCrown i x).evtb j = s.evtb j := rfl
@[simp] theorem State.setCrown_route (i : Nat) (x : Crown) (j : Nat) : (s.setCrown i x).route j = s.route j := rfl
@[simp] theorem State.setCrown_swq (i : Nat) (x : Crown) : (s.setCrown i x).swq = s.swq := rfl
@[simp] theorem State.setCrown_timer (i : Nat) (x : Crown) (j : Nat) : (s.setCrown i x).timer j = s.timer j := rfl
@[simp] theorem State.setCrown_journal (i : Nat) (x : Crown) : (s.setCrown i x).journal = s.journal := rfl
@[simp] theorem State.setCrown_sec (i : Nat) (x : Crown) : (s.setCrown i x).sec = s.sec := rfl
@[simp] theorem State.setCrown_rflc (i : Nat) (x : Crown) (j : Nat) : (s.setCrown i x).rflc j = s.rflc j := rfl
@[simp] theorem State.setCrown_bursts (i : Nat) (x : Crown) : (s.setCrown i x).bursts = s.bursts := rfl
@[simp] theorem State.setCrown_cal (i : Nat) (x : Crown) : (s.setCrown i x).cal = s.cal := rfl
@[simp] theorem State.setCrown_casPort (i : Nat) (x : Crown) (j : Nat) : (s.setCrown i x).casPort j = s.casPort j := rfl
@[simp] theorem State.setCrown_cas (i : Nat) (x : Crown) : (s.setCrown i x).cas = s.cas := rfl
@[simp] theorem State.setCrown_lags (i : Nat) (x : Crown) : (s.setCrown i x).lags = s.lags := rfl

/-! ### setBank -/

@[simp] theorem State.setBank_same (i : Nat) (x : Bank) : (s.setBank i x).bank i = x := Sparse.get_set_same _ _ _ _
theorem State.setBank_ne (i : Nat) (x : Bank) {j : Nat} (h : j ≠ i) : (s.setBank i x).bank j = s.bank j := Sparse.get_set_ne _ _ _ h
@[simp] theorem State.setBank_epoch (i : Nat) (x : Bank) : (s.setBank i x).epoch = s.epoch := rfl
@[simp] theorem State.setBank_tb (i : Nat) (x : Bank) : (s.setBank i x).tb = s.tb := rfl
@[simp] theorem State.setBank_mem (i : Nat) (x : Bank) : (s.setBank i x).mem = s.mem := rfl
@[simp] theorem State.setBank_pending (i : Nat) (x : Bank) : (s.setBank i x).pending = s.pending := rfl
@[simp] theorem State.setBank_rd (i : Nat) (x : Bank) (f : Fld) (j : Nat) : (s.setBank i x).rd f j = s.rd f j := rfl
@[simp] theorem State.setBank_rdA (i : Nat) (x : Bank) (f : Fld) (j : Nat) : (s.setBank i x).rdA f j = s.rdA f j := rfl
@[simp] theorem State.setBank_dirty (i : Nat) (x : Bank) : (s.setBank i x).dirty = s.dirty := rfl
@[simp] theorem State.setBank_pages (i : Nat) (x : Bank) (j : Nat) : (s.setBank i x).pages j = s.pages j := rfl
@[simp] theorem State.setBank_latch (i : Nat) (x : Bank) (j : Nat) : (s.setBank i x).latch j = s.latch j := rfl
@[simp] theorem State.setBank_tbu (i : Nat) (x : Bank) : (s.setBank i x).tbu = s.tbu := rfl
@[simp] theorem State.setBank_hostp (i : Nat) (x : Bank) : (s.setBank i x).hostp = s.hostp := rfl
@[simp] theorem State.setBank_recs (i : Nat) (x : Bank) : (s.setBank i x).recs = s.recs := rfl
@[simp] theorem State.setBank_prodq (i : Nat) (x : Bank) : (s.setBank i x).prodq = s.prodq := rfl
@[simp] theorem State.setBank_out (i : Nat) (x : Bank) : (s.setBank i x).out = s.out := rfl
@[simp] theorem State.setBank_freeCtr (i : Nat) (x : Bank) : (s.setBank i x).freeCtr = s.freeCtr := rfl
@[simp] theorem State.setBank_dom (i : Nat) (x : Bank) (j : Nat) : (s.setBank i x).dom j = s.dom j := rfl
@[simp] theorem State.setBank_dir (i : Nat) (x : Bank) (j : Nat) : (s.setBank i x).dir j = s.dir j := rfl
@[simp] theorem State.setBank_store (i : Nat) (x : Bank) (j : Nat) : (s.setBank i x).store j = s.store j := rfl
@[simp] theorem State.setBank_win (i : Nat) (x : Bank) (j : Nat) : (s.setBank i x).win j = s.win j := rfl
@[simp] theorem State.setBank_tab (i : Nat) (x : Bank) (j : Nat) : (s.setBank i x).tab j = s.tab j := rfl
@[simp] theorem State.setBank_apg (i : Nat) (x : Bank) (j : Nat) : (s.setBank i x).apg j = s.apg j := rfl
@[simp] theorem State.setBank_eng (i : Nat) (x : Bank) (j : Nat) : (s.setBank i x).eng j = s.eng j := rfl
@[simp] theorem State.setBank_lout (i : Nat) (x : Bank) (j : Nat) : (s.setBank i x).lout j = s.lout j := rfl
@[simp] theorem State.setBank_grp (i : Nat) (x : Bank) (j : Nat) : (s.setBank i x).grp j = s.grp j := rfl
@[simp] theorem State.setBank_ballClaim (i : Nat) (x : Bank) (j : Nat) : (s.setBank i x).ballClaim j = s.ballClaim j := rfl
@[simp] theorem State.setBank_ballOut (i : Nat) (x : Bank) (j : Nat) : (s.setBank i x).ballOut j = s.ballOut j := rfl
@[simp] theorem State.setBank_ballTb (i : Nat) (x : Bank) (j : Nat) : (s.setBank i x).ballTb j = s.ballTb j := rfl
@[simp] theorem State.setBank_arrivals (i : Nat) (x : Bank) : (s.setBank i x).arrivals = s.arrivals := rfl
@[simp] theorem State.setBank_drv (i : Nat) (x : Bank) (j : Nat) : (s.setBank i x).drv j = s.drv j := rfl
@[simp] theorem State.setBank_node (i : Nat) (x : Bank) (j : Nat) : (s.setBank i x).node j = s.node j := rfl
@[simp] theorem State.setBank_loupe (i : Nat) (x : Bank) : (s.setBank i x).loupe = s.loupe := rfl
@[simp] theorem State.setBank_crown (i : Nat) (x : Bank) (j : Nat) : (s.setBank i x).crown j = s.crown j := rfl
@[simp] theorem State.setBank_sense (i : Nat) (x : Bank) (j : Nat) : (s.setBank i x).sense j = s.sense j := rfl
@[simp] theorem State.setBank_pin (i : Nat) (x : Bank) (j : Nat) : (s.setBank i x).pin j = s.pin j := rfl
@[simp] theorem State.setBank_lphy (i : Nat) (x : Bank) (j : Nat) : (s.setBank i x).lphy j = s.lphy j := rfl
@[simp] theorem State.setBank_cmpl (i : Nat) (x : Bank) (j : Nat) : (s.setBank i x).cmpl j = s.cmpl j := rfl
@[simp] theorem State.setBank_cmp (i : Nat) (x : Bank) (j : Nat) : (s.setBank i x).cmp j = s.cmp j := rfl
@[simp] theorem State.setBank_isl (i : Nat) (x : Bank) (j : Nat) : (s.setBank i x).isl j = s.isl j := rfl
@[simp] theorem State.setBank_rail (i : Nat) (x : Bank) (j : Nat) : (s.setBank i x).rail j = s.rail j := rfl
@[simp] theorem State.setBank_stop (i : Nat) (x : Bank) (j : Nat) : (s.setBank i x).stop j = s.stop j := rfl
@[simp] theorem State.setBank_totals (i : Nat) (x : Bank) (j : Nat) : (s.setBank i x).totals j = s.totals j := rfl
@[simp] theorem State.setBank_sbank (i : Nat) (x : Bank) (j : Nat) : (s.setBank i x).sbank j = s.sbank j := rfl
@[simp] theorem State.setBank_tpll (i : Nat) (x : Bank) : (s.setBank i x).tpll = s.tpll := rfl
@[simp] theorem State.setBank_quad (i : Nat) (x : Bank) (j : Nat) : (s.setBank i x).quad j = s.quad j := rfl
@[simp] theorem State.setBank_bring (i : Nat) (x : Bank) : (s.setBank i x).bring = s.bring := rfl
@[simp] theorem State.setBank_lustre (i : Nat) (x : Bank) : (s.setBank i x).lustre = s.lustre := rfl
@[simp] theorem State.setBank_port (i : Nat) (x : Bank) (j : Nat) : (s.setBank i x).port j = s.port j := rfl
@[simp] theorem State.setBank_evtb (i : Nat) (x : Bank) (j : Nat) : (s.setBank i x).evtb j = s.evtb j := rfl
@[simp] theorem State.setBank_route (i : Nat) (x : Bank) (j : Nat) : (s.setBank i x).route j = s.route j := rfl
@[simp] theorem State.setBank_swq (i : Nat) (x : Bank) : (s.setBank i x).swq = s.swq := rfl
@[simp] theorem State.setBank_timer (i : Nat) (x : Bank) (j : Nat) : (s.setBank i x).timer j = s.timer j := rfl
@[simp] theorem State.setBank_journal (i : Nat) (x : Bank) : (s.setBank i x).journal = s.journal := rfl
@[simp] theorem State.setBank_sec (i : Nat) (x : Bank) : (s.setBank i x).sec = s.sec := rfl
@[simp] theorem State.setBank_rflc (i : Nat) (x : Bank) (j : Nat) : (s.setBank i x).rflc j = s.rflc j := rfl
@[simp] theorem State.setBank_bursts (i : Nat) (x : Bank) : (s.setBank i x).bursts = s.bursts := rfl
@[simp] theorem State.setBank_cal (i : Nat) (x : Bank) : (s.setBank i x).cal = s.cal := rfl
@[simp] theorem State.setBank_casPort (i : Nat) (x : Bank) (j : Nat) : (s.setBank i x).casPort j = s.casPort j := rfl
@[simp] theorem State.setBank_cas (i : Nat) (x : Bank) : (s.setBank i x).cas = s.cas := rfl
@[simp] theorem State.setBank_lags (i : Nat) (x : Bank) : (s.setBank i x).lags = s.lags := rfl

/-! ### setSense -/

@[simp] theorem State.setSense_same (i : Nat) (x : Sense) : (s.setSense i x).sense i = x := Sparse.get_set_same _ _ _ _
theorem State.setSense_ne (i : Nat) (x : Sense) {j : Nat} (h : j ≠ i) : (s.setSense i x).sense j = s.sense j := Sparse.get_set_ne _ _ _ h
@[simp] theorem State.setSense_epoch (i : Nat) (x : Sense) : (s.setSense i x).epoch = s.epoch := rfl
@[simp] theorem State.setSense_tb (i : Nat) (x : Sense) : (s.setSense i x).tb = s.tb := rfl
@[simp] theorem State.setSense_mem (i : Nat) (x : Sense) : (s.setSense i x).mem = s.mem := rfl
@[simp] theorem State.setSense_pending (i : Nat) (x : Sense) : (s.setSense i x).pending = s.pending := rfl
@[simp] theorem State.setSense_rd (i : Nat) (x : Sense) (f : Fld) (j : Nat) : (s.setSense i x).rd f j = s.rd f j := rfl
@[simp] theorem State.setSense_rdA (i : Nat) (x : Sense) (f : Fld) (j : Nat) : (s.setSense i x).rdA f j = s.rdA f j := rfl
@[simp] theorem State.setSense_dirty (i : Nat) (x : Sense) : (s.setSense i x).dirty = s.dirty := rfl
@[simp] theorem State.setSense_pages (i : Nat) (x : Sense) (j : Nat) : (s.setSense i x).pages j = s.pages j := rfl
@[simp] theorem State.setSense_latch (i : Nat) (x : Sense) (j : Nat) : (s.setSense i x).latch j = s.latch j := rfl
@[simp] theorem State.setSense_tbu (i : Nat) (x : Sense) : (s.setSense i x).tbu = s.tbu := rfl
@[simp] theorem State.setSense_hostp (i : Nat) (x : Sense) : (s.setSense i x).hostp = s.hostp := rfl
@[simp] theorem State.setSense_recs (i : Nat) (x : Sense) : (s.setSense i x).recs = s.recs := rfl
@[simp] theorem State.setSense_prodq (i : Nat) (x : Sense) : (s.setSense i x).prodq = s.prodq := rfl
@[simp] theorem State.setSense_out (i : Nat) (x : Sense) : (s.setSense i x).out = s.out := rfl
@[simp] theorem State.setSense_freeCtr (i : Nat) (x : Sense) : (s.setSense i x).freeCtr = s.freeCtr := rfl
@[simp] theorem State.setSense_dom (i : Nat) (x : Sense) (j : Nat) : (s.setSense i x).dom j = s.dom j := rfl
@[simp] theorem State.setSense_dir (i : Nat) (x : Sense) (j : Nat) : (s.setSense i x).dir j = s.dir j := rfl
@[simp] theorem State.setSense_store (i : Nat) (x : Sense) (j : Nat) : (s.setSense i x).store j = s.store j := rfl
@[simp] theorem State.setSense_win (i : Nat) (x : Sense) (j : Nat) : (s.setSense i x).win j = s.win j := rfl
@[simp] theorem State.setSense_tab (i : Nat) (x : Sense) (j : Nat) : (s.setSense i x).tab j = s.tab j := rfl
@[simp] theorem State.setSense_apg (i : Nat) (x : Sense) (j : Nat) : (s.setSense i x).apg j = s.apg j := rfl
@[simp] theorem State.setSense_eng (i : Nat) (x : Sense) (j : Nat) : (s.setSense i x).eng j = s.eng j := rfl
@[simp] theorem State.setSense_lout (i : Nat) (x : Sense) (j : Nat) : (s.setSense i x).lout j = s.lout j := rfl
@[simp] theorem State.setSense_grp (i : Nat) (x : Sense) (j : Nat) : (s.setSense i x).grp j = s.grp j := rfl
@[simp] theorem State.setSense_ballClaim (i : Nat) (x : Sense) (j : Nat) : (s.setSense i x).ballClaim j = s.ballClaim j := rfl
@[simp] theorem State.setSense_ballOut (i : Nat) (x : Sense) (j : Nat) : (s.setSense i x).ballOut j = s.ballOut j := rfl
@[simp] theorem State.setSense_ballTb (i : Nat) (x : Sense) (j : Nat) : (s.setSense i x).ballTb j = s.ballTb j := rfl
@[simp] theorem State.setSense_arrivals (i : Nat) (x : Sense) : (s.setSense i x).arrivals = s.arrivals := rfl
@[simp] theorem State.setSense_drv (i : Nat) (x : Sense) (j : Nat) : (s.setSense i x).drv j = s.drv j := rfl
@[simp] theorem State.setSense_node (i : Nat) (x : Sense) (j : Nat) : (s.setSense i x).node j = s.node j := rfl
@[simp] theorem State.setSense_loupe (i : Nat) (x : Sense) : (s.setSense i x).loupe = s.loupe := rfl
@[simp] theorem State.setSense_crown (i : Nat) (x : Sense) (j : Nat) : (s.setSense i x).crown j = s.crown j := rfl
@[simp] theorem State.setSense_bank (i : Nat) (x : Sense) (j : Nat) : (s.setSense i x).bank j = s.bank j := rfl
@[simp] theorem State.setSense_pin (i : Nat) (x : Sense) (j : Nat) : (s.setSense i x).pin j = s.pin j := rfl
@[simp] theorem State.setSense_lphy (i : Nat) (x : Sense) (j : Nat) : (s.setSense i x).lphy j = s.lphy j := rfl
@[simp] theorem State.setSense_cmpl (i : Nat) (x : Sense) (j : Nat) : (s.setSense i x).cmpl j = s.cmpl j := rfl
@[simp] theorem State.setSense_cmp (i : Nat) (x : Sense) (j : Nat) : (s.setSense i x).cmp j = s.cmp j := rfl
@[simp] theorem State.setSense_isl (i : Nat) (x : Sense) (j : Nat) : (s.setSense i x).isl j = s.isl j := rfl
@[simp] theorem State.setSense_rail (i : Nat) (x : Sense) (j : Nat) : (s.setSense i x).rail j = s.rail j := rfl
@[simp] theorem State.setSense_stop (i : Nat) (x : Sense) (j : Nat) : (s.setSense i x).stop j = s.stop j := rfl
@[simp] theorem State.setSense_totals (i : Nat) (x : Sense) (j : Nat) : (s.setSense i x).totals j = s.totals j := rfl
@[simp] theorem State.setSense_sbank (i : Nat) (x : Sense) (j : Nat) : (s.setSense i x).sbank j = s.sbank j := rfl
@[simp] theorem State.setSense_tpll (i : Nat) (x : Sense) : (s.setSense i x).tpll = s.tpll := rfl
@[simp] theorem State.setSense_quad (i : Nat) (x : Sense) (j : Nat) : (s.setSense i x).quad j = s.quad j := rfl
@[simp] theorem State.setSense_bring (i : Nat) (x : Sense) : (s.setSense i x).bring = s.bring := rfl
@[simp] theorem State.setSense_lustre (i : Nat) (x : Sense) : (s.setSense i x).lustre = s.lustre := rfl
@[simp] theorem State.setSense_port (i : Nat) (x : Sense) (j : Nat) : (s.setSense i x).port j = s.port j := rfl
@[simp] theorem State.setSense_evtb (i : Nat) (x : Sense) (j : Nat) : (s.setSense i x).evtb j = s.evtb j := rfl
@[simp] theorem State.setSense_route (i : Nat) (x : Sense) (j : Nat) : (s.setSense i x).route j = s.route j := rfl
@[simp] theorem State.setSense_swq (i : Nat) (x : Sense) : (s.setSense i x).swq = s.swq := rfl
@[simp] theorem State.setSense_timer (i : Nat) (x : Sense) (j : Nat) : (s.setSense i x).timer j = s.timer j := rfl
@[simp] theorem State.setSense_journal (i : Nat) (x : Sense) : (s.setSense i x).journal = s.journal := rfl
@[simp] theorem State.setSense_sec (i : Nat) (x : Sense) : (s.setSense i x).sec = s.sec := rfl
@[simp] theorem State.setSense_rflc (i : Nat) (x : Sense) (j : Nat) : (s.setSense i x).rflc j = s.rflc j := rfl
@[simp] theorem State.setSense_bursts (i : Nat) (x : Sense) : (s.setSense i x).bursts = s.bursts := rfl
@[simp] theorem State.setSense_cal (i : Nat) (x : Sense) : (s.setSense i x).cal = s.cal := rfl
@[simp] theorem State.setSense_casPort (i : Nat) (x : Sense) (j : Nat) : (s.setSense i x).casPort j = s.casPort j := rfl
@[simp] theorem State.setSense_cas (i : Nat) (x : Sense) : (s.setSense i x).cas = s.cas := rfl
@[simp] theorem State.setSense_lags (i : Nat) (x : Sense) : (s.setSense i x).lags = s.lags := rfl

/-! ### setPin -/

@[simp] theorem State.setPin_same (i : Nat) (x : Nat) : (s.setPin i x).pin i = x := Sparse.get_set_same _ _ _ _
theorem State.setPin_ne (i : Nat) (x : Nat) {j : Nat} (h : j ≠ i) : (s.setPin i x).pin j = s.pin j := Sparse.get_set_ne _ _ _ h
@[simp] theorem State.setPin_epoch (i : Nat) (x : Nat) : (s.setPin i x).epoch = s.epoch := rfl
@[simp] theorem State.setPin_tb (i : Nat) (x : Nat) : (s.setPin i x).tb = s.tb := rfl
@[simp] theorem State.setPin_mem (i : Nat) (x : Nat) : (s.setPin i x).mem = s.mem := rfl
@[simp] theorem State.setPin_pending (i : Nat) (x : Nat) : (s.setPin i x).pending = s.pending := rfl
@[simp] theorem State.setPin_rd (i : Nat) (x : Nat) (f : Fld) (j : Nat) : (s.setPin i x).rd f j = s.rd f j := rfl
@[simp] theorem State.setPin_rdA (i : Nat) (x : Nat) (f : Fld) (j : Nat) : (s.setPin i x).rdA f j = s.rdA f j := rfl
@[simp] theorem State.setPin_dirty (i : Nat) (x : Nat) : (s.setPin i x).dirty = s.dirty := rfl
@[simp] theorem State.setPin_pages (i : Nat) (x : Nat) (j : Nat) : (s.setPin i x).pages j = s.pages j := rfl
@[simp] theorem State.setPin_latch (i : Nat) (x : Nat) (j : Nat) : (s.setPin i x).latch j = s.latch j := rfl
@[simp] theorem State.setPin_tbu (i : Nat) (x : Nat) : (s.setPin i x).tbu = s.tbu := rfl
@[simp] theorem State.setPin_hostp (i : Nat) (x : Nat) : (s.setPin i x).hostp = s.hostp := rfl
@[simp] theorem State.setPin_recs (i : Nat) (x : Nat) : (s.setPin i x).recs = s.recs := rfl
@[simp] theorem State.setPin_prodq (i : Nat) (x : Nat) : (s.setPin i x).prodq = s.prodq := rfl
@[simp] theorem State.setPin_out (i : Nat) (x : Nat) : (s.setPin i x).out = s.out := rfl
@[simp] theorem State.setPin_freeCtr (i : Nat) (x : Nat) : (s.setPin i x).freeCtr = s.freeCtr := rfl
@[simp] theorem State.setPin_dom (i : Nat) (x : Nat) (j : Nat) : (s.setPin i x).dom j = s.dom j := rfl
@[simp] theorem State.setPin_dir (i : Nat) (x : Nat) (j : Nat) : (s.setPin i x).dir j = s.dir j := rfl
@[simp] theorem State.setPin_store (i : Nat) (x : Nat) (j : Nat) : (s.setPin i x).store j = s.store j := rfl
@[simp] theorem State.setPin_win (i : Nat) (x : Nat) (j : Nat) : (s.setPin i x).win j = s.win j := rfl
@[simp] theorem State.setPin_tab (i : Nat) (x : Nat) (j : Nat) : (s.setPin i x).tab j = s.tab j := rfl
@[simp] theorem State.setPin_apg (i : Nat) (x : Nat) (j : Nat) : (s.setPin i x).apg j = s.apg j := rfl
@[simp] theorem State.setPin_eng (i : Nat) (x : Nat) (j : Nat) : (s.setPin i x).eng j = s.eng j := rfl
@[simp] theorem State.setPin_lout (i : Nat) (x : Nat) (j : Nat) : (s.setPin i x).lout j = s.lout j := rfl
@[simp] theorem State.setPin_grp (i : Nat) (x : Nat) (j : Nat) : (s.setPin i x).grp j = s.grp j := rfl
@[simp] theorem State.setPin_ballClaim (i : Nat) (x : Nat) (j : Nat) : (s.setPin i x).ballClaim j = s.ballClaim j := rfl
@[simp] theorem State.setPin_ballOut (i : Nat) (x : Nat) (j : Nat) : (s.setPin i x).ballOut j = s.ballOut j := rfl
@[simp] theorem State.setPin_ballTb (i : Nat) (x : Nat) (j : Nat) : (s.setPin i x).ballTb j = s.ballTb j := rfl
@[simp] theorem State.setPin_arrivals (i : Nat) (x : Nat) : (s.setPin i x).arrivals = s.arrivals := rfl
@[simp] theorem State.setPin_drv (i : Nat) (x : Nat) (j : Nat) : (s.setPin i x).drv j = s.drv j := rfl
@[simp] theorem State.setPin_node (i : Nat) (x : Nat) (j : Nat) : (s.setPin i x).node j = s.node j := rfl
@[simp] theorem State.setPin_loupe (i : Nat) (x : Nat) : (s.setPin i x).loupe = s.loupe := rfl
@[simp] theorem State.setPin_crown (i : Nat) (x : Nat) (j : Nat) : (s.setPin i x).crown j = s.crown j := rfl
@[simp] theorem State.setPin_bank (i : Nat) (x : Nat) (j : Nat) : (s.setPin i x).bank j = s.bank j := rfl
@[simp] theorem State.setPin_sense (i : Nat) (x : Nat) (j : Nat) : (s.setPin i x).sense j = s.sense j := rfl
@[simp] theorem State.setPin_lphy (i : Nat) (x : Nat) (j : Nat) : (s.setPin i x).lphy j = s.lphy j := rfl
@[simp] theorem State.setPin_cmpl (i : Nat) (x : Nat) (j : Nat) : (s.setPin i x).cmpl j = s.cmpl j := rfl
@[simp] theorem State.setPin_cmp (i : Nat) (x : Nat) (j : Nat) : (s.setPin i x).cmp j = s.cmp j := rfl
@[simp] theorem State.setPin_isl (i : Nat) (x : Nat) (j : Nat) : (s.setPin i x).isl j = s.isl j := rfl
@[simp] theorem State.setPin_rail (i : Nat) (x : Nat) (j : Nat) : (s.setPin i x).rail j = s.rail j := rfl
@[simp] theorem State.setPin_stop (i : Nat) (x : Nat) (j : Nat) : (s.setPin i x).stop j = s.stop j := rfl
@[simp] theorem State.setPin_totals (i : Nat) (x : Nat) (j : Nat) : (s.setPin i x).totals j = s.totals j := rfl
@[simp] theorem State.setPin_sbank (i : Nat) (x : Nat) (j : Nat) : (s.setPin i x).sbank j = s.sbank j := rfl
@[simp] theorem State.setPin_tpll (i : Nat) (x : Nat) : (s.setPin i x).tpll = s.tpll := rfl
@[simp] theorem State.setPin_quad (i : Nat) (x : Nat) (j : Nat) : (s.setPin i x).quad j = s.quad j := rfl
@[simp] theorem State.setPin_bring (i : Nat) (x : Nat) : (s.setPin i x).bring = s.bring := rfl
@[simp] theorem State.setPin_lustre (i : Nat) (x : Nat) : (s.setPin i x).lustre = s.lustre := rfl
@[simp] theorem State.setPin_port (i : Nat) (x : Nat) (j : Nat) : (s.setPin i x).port j = s.port j := rfl
@[simp] theorem State.setPin_evtb (i : Nat) (x : Nat) (j : Nat) : (s.setPin i x).evtb j = s.evtb j := rfl
@[simp] theorem State.setPin_route (i : Nat) (x : Nat) (j : Nat) : (s.setPin i x).route j = s.route j := rfl
@[simp] theorem State.setPin_swq (i : Nat) (x : Nat) : (s.setPin i x).swq = s.swq := rfl
@[simp] theorem State.setPin_timer (i : Nat) (x : Nat) (j : Nat) : (s.setPin i x).timer j = s.timer j := rfl
@[simp] theorem State.setPin_journal (i : Nat) (x : Nat) : (s.setPin i x).journal = s.journal := rfl
@[simp] theorem State.setPin_sec (i : Nat) (x : Nat) : (s.setPin i x).sec = s.sec := rfl
@[simp] theorem State.setPin_rflc (i : Nat) (x : Nat) (j : Nat) : (s.setPin i x).rflc j = s.rflc j := rfl
@[simp] theorem State.setPin_bursts (i : Nat) (x : Nat) : (s.setPin i x).bursts = s.bursts := rfl
@[simp] theorem State.setPin_cal (i : Nat) (x : Nat) : (s.setPin i x).cal = s.cal := rfl
@[simp] theorem State.setPin_casPort (i : Nat) (x : Nat) (j : Nat) : (s.setPin i x).casPort j = s.casPort j := rfl
@[simp] theorem State.setPin_cas (i : Nat) (x : Nat) : (s.setPin i x).cas = s.cas := rfl
@[simp] theorem State.setPin_lags (i : Nat) (x : Nat) : (s.setPin i x).lags = s.lags := rfl

/-! ### setLphy -/

@[simp] theorem State.setLphy_same (i : Nat) (x : LanePhy) : (s.setLphy i x).lphy i = x := Sparse.get_set_same _ _ _ _
theorem State.setLphy_ne (i : Nat) (x : LanePhy) {j : Nat} (h : j ≠ i) : (s.setLphy i x).lphy j = s.lphy j := Sparse.get_set_ne _ _ _ h
@[simp] theorem State.setLphy_epoch (i : Nat) (x : LanePhy) : (s.setLphy i x).epoch = s.epoch := rfl
@[simp] theorem State.setLphy_tb (i : Nat) (x : LanePhy) : (s.setLphy i x).tb = s.tb := rfl
@[simp] theorem State.setLphy_mem (i : Nat) (x : LanePhy) : (s.setLphy i x).mem = s.mem := rfl
@[simp] theorem State.setLphy_pending (i : Nat) (x : LanePhy) : (s.setLphy i x).pending = s.pending := rfl
@[simp] theorem State.setLphy_rd (i : Nat) (x : LanePhy) (f : Fld) (j : Nat) : (s.setLphy i x).rd f j = s.rd f j := rfl
@[simp] theorem State.setLphy_rdA (i : Nat) (x : LanePhy) (f : Fld) (j : Nat) : (s.setLphy i x).rdA f j = s.rdA f j := rfl
@[simp] theorem State.setLphy_dirty (i : Nat) (x : LanePhy) : (s.setLphy i x).dirty = s.dirty := rfl
@[simp] theorem State.setLphy_pages (i : Nat) (x : LanePhy) (j : Nat) : (s.setLphy i x).pages j = s.pages j := rfl
@[simp] theorem State.setLphy_latch (i : Nat) (x : LanePhy) (j : Nat) : (s.setLphy i x).latch j = s.latch j := rfl
@[simp] theorem State.setLphy_tbu (i : Nat) (x : LanePhy) : (s.setLphy i x).tbu = s.tbu := rfl
@[simp] theorem State.setLphy_hostp (i : Nat) (x : LanePhy) : (s.setLphy i x).hostp = s.hostp := rfl
@[simp] theorem State.setLphy_recs (i : Nat) (x : LanePhy) : (s.setLphy i x).recs = s.recs := rfl
@[simp] theorem State.setLphy_prodq (i : Nat) (x : LanePhy) : (s.setLphy i x).prodq = s.prodq := rfl
@[simp] theorem State.setLphy_out (i : Nat) (x : LanePhy) : (s.setLphy i x).out = s.out := rfl
@[simp] theorem State.setLphy_freeCtr (i : Nat) (x : LanePhy) : (s.setLphy i x).freeCtr = s.freeCtr := rfl
@[simp] theorem State.setLphy_dom (i : Nat) (x : LanePhy) (j : Nat) : (s.setLphy i x).dom j = s.dom j := rfl
@[simp] theorem State.setLphy_dir (i : Nat) (x : LanePhy) (j : Nat) : (s.setLphy i x).dir j = s.dir j := rfl
@[simp] theorem State.setLphy_store (i : Nat) (x : LanePhy) (j : Nat) : (s.setLphy i x).store j = s.store j := rfl
@[simp] theorem State.setLphy_win (i : Nat) (x : LanePhy) (j : Nat) : (s.setLphy i x).win j = s.win j := rfl
@[simp] theorem State.setLphy_tab (i : Nat) (x : LanePhy) (j : Nat) : (s.setLphy i x).tab j = s.tab j := rfl
@[simp] theorem State.setLphy_apg (i : Nat) (x : LanePhy) (j : Nat) : (s.setLphy i x).apg j = s.apg j := rfl
@[simp] theorem State.setLphy_eng (i : Nat) (x : LanePhy) (j : Nat) : (s.setLphy i x).eng j = s.eng j := rfl
@[simp] theorem State.setLphy_lout (i : Nat) (x : LanePhy) (j : Nat) : (s.setLphy i x).lout j = s.lout j := rfl
@[simp] theorem State.setLphy_grp (i : Nat) (x : LanePhy) (j : Nat) : (s.setLphy i x).grp j = s.grp j := rfl
@[simp] theorem State.setLphy_ballClaim (i : Nat) (x : LanePhy) (j : Nat) : (s.setLphy i x).ballClaim j = s.ballClaim j := rfl
@[simp] theorem State.setLphy_ballOut (i : Nat) (x : LanePhy) (j : Nat) : (s.setLphy i x).ballOut j = s.ballOut j := rfl
@[simp] theorem State.setLphy_ballTb (i : Nat) (x : LanePhy) (j : Nat) : (s.setLphy i x).ballTb j = s.ballTb j := rfl
@[simp] theorem State.setLphy_arrivals (i : Nat) (x : LanePhy) : (s.setLphy i x).arrivals = s.arrivals := rfl
@[simp] theorem State.setLphy_drv (i : Nat) (x : LanePhy) (j : Nat) : (s.setLphy i x).drv j = s.drv j := rfl
@[simp] theorem State.setLphy_node (i : Nat) (x : LanePhy) (j : Nat) : (s.setLphy i x).node j = s.node j := rfl
@[simp] theorem State.setLphy_loupe (i : Nat) (x : LanePhy) : (s.setLphy i x).loupe = s.loupe := rfl
@[simp] theorem State.setLphy_crown (i : Nat) (x : LanePhy) (j : Nat) : (s.setLphy i x).crown j = s.crown j := rfl
@[simp] theorem State.setLphy_bank (i : Nat) (x : LanePhy) (j : Nat) : (s.setLphy i x).bank j = s.bank j := rfl
@[simp] theorem State.setLphy_sense (i : Nat) (x : LanePhy) (j : Nat) : (s.setLphy i x).sense j = s.sense j := rfl
@[simp] theorem State.setLphy_pin (i : Nat) (x : LanePhy) (j : Nat) : (s.setLphy i x).pin j = s.pin j := rfl
@[simp] theorem State.setLphy_cmpl (i : Nat) (x : LanePhy) (j : Nat) : (s.setLphy i x).cmpl j = s.cmpl j := rfl
@[simp] theorem State.setLphy_cmp (i : Nat) (x : LanePhy) (j : Nat) : (s.setLphy i x).cmp j = s.cmp j := rfl
@[simp] theorem State.setLphy_isl (i : Nat) (x : LanePhy) (j : Nat) : (s.setLphy i x).isl j = s.isl j := rfl
@[simp] theorem State.setLphy_rail (i : Nat) (x : LanePhy) (j : Nat) : (s.setLphy i x).rail j = s.rail j := rfl
@[simp] theorem State.setLphy_stop (i : Nat) (x : LanePhy) (j : Nat) : (s.setLphy i x).stop j = s.stop j := rfl
@[simp] theorem State.setLphy_totals (i : Nat) (x : LanePhy) (j : Nat) : (s.setLphy i x).totals j = s.totals j := rfl
@[simp] theorem State.setLphy_sbank (i : Nat) (x : LanePhy) (j : Nat) : (s.setLphy i x).sbank j = s.sbank j := rfl
@[simp] theorem State.setLphy_tpll (i : Nat) (x : LanePhy) : (s.setLphy i x).tpll = s.tpll := rfl
@[simp] theorem State.setLphy_quad (i : Nat) (x : LanePhy) (j : Nat) : (s.setLphy i x).quad j = s.quad j := rfl
@[simp] theorem State.setLphy_bring (i : Nat) (x : LanePhy) : (s.setLphy i x).bring = s.bring := rfl
@[simp] theorem State.setLphy_lustre (i : Nat) (x : LanePhy) : (s.setLphy i x).lustre = s.lustre := rfl
@[simp] theorem State.setLphy_port (i : Nat) (x : LanePhy) (j : Nat) : (s.setLphy i x).port j = s.port j := rfl
@[simp] theorem State.setLphy_evtb (i : Nat) (x : LanePhy) (j : Nat) : (s.setLphy i x).evtb j = s.evtb j := rfl
@[simp] theorem State.setLphy_route (i : Nat) (x : LanePhy) (j : Nat) : (s.setLphy i x).route j = s.route j := rfl
@[simp] theorem State.setLphy_swq (i : Nat) (x : LanePhy) : (s.setLphy i x).swq = s.swq := rfl
@[simp] theorem State.setLphy_timer (i : Nat) (x : LanePhy) (j : Nat) : (s.setLphy i x).timer j = s.timer j := rfl
@[simp] theorem State.setLphy_journal (i : Nat) (x : LanePhy) : (s.setLphy i x).journal = s.journal := rfl
@[simp] theorem State.setLphy_sec (i : Nat) (x : LanePhy) : (s.setLphy i x).sec = s.sec := rfl
@[simp] theorem State.setLphy_rflc (i : Nat) (x : LanePhy) (j : Nat) : (s.setLphy i x).rflc j = s.rflc j := rfl
@[simp] theorem State.setLphy_bursts (i : Nat) (x : LanePhy) : (s.setLphy i x).bursts = s.bursts := rfl
@[simp] theorem State.setLphy_cal (i : Nat) (x : LanePhy) : (s.setLphy i x).cal = s.cal := rfl
@[simp] theorem State.setLphy_casPort (i : Nat) (x : LanePhy) (j : Nat) : (s.setLphy i x).casPort j = s.casPort j := rfl
@[simp] theorem State.setLphy_cas (i : Nat) (x : LanePhy) : (s.setLphy i x).cas = s.cas := rfl
@[simp] theorem State.setLphy_lags (i : Nat) (x : LanePhy) : (s.setLphy i x).lags = s.lags := rfl

/-! ### setCmpl -/

@[simp] theorem State.setCmpl_same (i : Nat) (x : CmpLane) : (s.setCmpl i x).cmpl i = x := Sparse.get_set_same _ _ _ _
theorem State.setCmpl_ne (i : Nat) (x : CmpLane) {j : Nat} (h : j ≠ i) : (s.setCmpl i x).cmpl j = s.cmpl j := Sparse.get_set_ne _ _ _ h
@[simp] theorem State.setCmpl_epoch (i : Nat) (x : CmpLane) : (s.setCmpl i x).epoch = s.epoch := rfl
@[simp] theorem State.setCmpl_tb (i : Nat) (x : CmpLane) : (s.setCmpl i x).tb = s.tb := rfl
@[simp] theorem State.setCmpl_mem (i : Nat) (x : CmpLane) : (s.setCmpl i x).mem = s.mem := rfl
@[simp] theorem State.setCmpl_pending (i : Nat) (x : CmpLane) : (s.setCmpl i x).pending = s.pending := rfl
@[simp] theorem State.setCmpl_rd (i : Nat) (x : CmpLane) (f : Fld) (j : Nat) : (s.setCmpl i x).rd f j = s.rd f j := rfl
@[simp] theorem State.setCmpl_rdA (i : Nat) (x : CmpLane) (f : Fld) (j : Nat) : (s.setCmpl i x).rdA f j = s.rdA f j := rfl
@[simp] theorem State.setCmpl_dirty (i : Nat) (x : CmpLane) : (s.setCmpl i x).dirty = s.dirty := rfl
@[simp] theorem State.setCmpl_pages (i : Nat) (x : CmpLane) (j : Nat) : (s.setCmpl i x).pages j = s.pages j := rfl
@[simp] theorem State.setCmpl_latch (i : Nat) (x : CmpLane) (j : Nat) : (s.setCmpl i x).latch j = s.latch j := rfl
@[simp] theorem State.setCmpl_tbu (i : Nat) (x : CmpLane) : (s.setCmpl i x).tbu = s.tbu := rfl
@[simp] theorem State.setCmpl_hostp (i : Nat) (x : CmpLane) : (s.setCmpl i x).hostp = s.hostp := rfl
@[simp] theorem State.setCmpl_recs (i : Nat) (x : CmpLane) : (s.setCmpl i x).recs = s.recs := rfl
@[simp] theorem State.setCmpl_prodq (i : Nat) (x : CmpLane) : (s.setCmpl i x).prodq = s.prodq := rfl
@[simp] theorem State.setCmpl_out (i : Nat) (x : CmpLane) : (s.setCmpl i x).out = s.out := rfl
@[simp] theorem State.setCmpl_freeCtr (i : Nat) (x : CmpLane) : (s.setCmpl i x).freeCtr = s.freeCtr := rfl
@[simp] theorem State.setCmpl_dom (i : Nat) (x : CmpLane) (j : Nat) : (s.setCmpl i x).dom j = s.dom j := rfl
@[simp] theorem State.setCmpl_dir (i : Nat) (x : CmpLane) (j : Nat) : (s.setCmpl i x).dir j = s.dir j := rfl
@[simp] theorem State.setCmpl_store (i : Nat) (x : CmpLane) (j : Nat) : (s.setCmpl i x).store j = s.store j := rfl
@[simp] theorem State.setCmpl_win (i : Nat) (x : CmpLane) (j : Nat) : (s.setCmpl i x).win j = s.win j := rfl
@[simp] theorem State.setCmpl_tab (i : Nat) (x : CmpLane) (j : Nat) : (s.setCmpl i x).tab j = s.tab j := rfl
@[simp] theorem State.setCmpl_apg (i : Nat) (x : CmpLane) (j : Nat) : (s.setCmpl i x).apg j = s.apg j := rfl
@[simp] theorem State.setCmpl_eng (i : Nat) (x : CmpLane) (j : Nat) : (s.setCmpl i x).eng j = s.eng j := rfl
@[simp] theorem State.setCmpl_lout (i : Nat) (x : CmpLane) (j : Nat) : (s.setCmpl i x).lout j = s.lout j := rfl
@[simp] theorem State.setCmpl_grp (i : Nat) (x : CmpLane) (j : Nat) : (s.setCmpl i x).grp j = s.grp j := rfl
@[simp] theorem State.setCmpl_ballClaim (i : Nat) (x : CmpLane) (j : Nat) : (s.setCmpl i x).ballClaim j = s.ballClaim j := rfl
@[simp] theorem State.setCmpl_ballOut (i : Nat) (x : CmpLane) (j : Nat) : (s.setCmpl i x).ballOut j = s.ballOut j := rfl
@[simp] theorem State.setCmpl_ballTb (i : Nat) (x : CmpLane) (j : Nat) : (s.setCmpl i x).ballTb j = s.ballTb j := rfl
@[simp] theorem State.setCmpl_arrivals (i : Nat) (x : CmpLane) : (s.setCmpl i x).arrivals = s.arrivals := rfl
@[simp] theorem State.setCmpl_drv (i : Nat) (x : CmpLane) (j : Nat) : (s.setCmpl i x).drv j = s.drv j := rfl
@[simp] theorem State.setCmpl_node (i : Nat) (x : CmpLane) (j : Nat) : (s.setCmpl i x).node j = s.node j := rfl
@[simp] theorem State.setCmpl_loupe (i : Nat) (x : CmpLane) : (s.setCmpl i x).loupe = s.loupe := rfl
@[simp] theorem State.setCmpl_crown (i : Nat) (x : CmpLane) (j : Nat) : (s.setCmpl i x).crown j = s.crown j := rfl
@[simp] theorem State.setCmpl_bank (i : Nat) (x : CmpLane) (j : Nat) : (s.setCmpl i x).bank j = s.bank j := rfl
@[simp] theorem State.setCmpl_sense (i : Nat) (x : CmpLane) (j : Nat) : (s.setCmpl i x).sense j = s.sense j := rfl
@[simp] theorem State.setCmpl_pin (i : Nat) (x : CmpLane) (j : Nat) : (s.setCmpl i x).pin j = s.pin j := rfl
@[simp] theorem State.setCmpl_lphy (i : Nat) (x : CmpLane) (j : Nat) : (s.setCmpl i x).lphy j = s.lphy j := rfl
@[simp] theorem State.setCmpl_cmp (i : Nat) (x : CmpLane) (j : Nat) : (s.setCmpl i x).cmp j = s.cmp j := rfl
@[simp] theorem State.setCmpl_isl (i : Nat) (x : CmpLane) (j : Nat) : (s.setCmpl i x).isl j = s.isl j := rfl
@[simp] theorem State.setCmpl_rail (i : Nat) (x : CmpLane) (j : Nat) : (s.setCmpl i x).rail j = s.rail j := rfl
@[simp] theorem State.setCmpl_stop (i : Nat) (x : CmpLane) (j : Nat) : (s.setCmpl i x).stop j = s.stop j := rfl
@[simp] theorem State.setCmpl_totals (i : Nat) (x : CmpLane) (j : Nat) : (s.setCmpl i x).totals j = s.totals j := rfl
@[simp] theorem State.setCmpl_sbank (i : Nat) (x : CmpLane) (j : Nat) : (s.setCmpl i x).sbank j = s.sbank j := rfl
@[simp] theorem State.setCmpl_tpll (i : Nat) (x : CmpLane) : (s.setCmpl i x).tpll = s.tpll := rfl
@[simp] theorem State.setCmpl_quad (i : Nat) (x : CmpLane) (j : Nat) : (s.setCmpl i x).quad j = s.quad j := rfl
@[simp] theorem State.setCmpl_bring (i : Nat) (x : CmpLane) : (s.setCmpl i x).bring = s.bring := rfl
@[simp] theorem State.setCmpl_lustre (i : Nat) (x : CmpLane) : (s.setCmpl i x).lustre = s.lustre := rfl
@[simp] theorem State.setCmpl_port (i : Nat) (x : CmpLane) (j : Nat) : (s.setCmpl i x).port j = s.port j := rfl
@[simp] theorem State.setCmpl_evtb (i : Nat) (x : CmpLane) (j : Nat) : (s.setCmpl i x).evtb j = s.evtb j := rfl
@[simp] theorem State.setCmpl_route (i : Nat) (x : CmpLane) (j : Nat) : (s.setCmpl i x).route j = s.route j := rfl
@[simp] theorem State.setCmpl_swq (i : Nat) (x : CmpLane) : (s.setCmpl i x).swq = s.swq := rfl
@[simp] theorem State.setCmpl_timer (i : Nat) (x : CmpLane) (j : Nat) : (s.setCmpl i x).timer j = s.timer j := rfl
@[simp] theorem State.setCmpl_journal (i : Nat) (x : CmpLane) : (s.setCmpl i x).journal = s.journal := rfl
@[simp] theorem State.setCmpl_sec (i : Nat) (x : CmpLane) : (s.setCmpl i x).sec = s.sec := rfl
@[simp] theorem State.setCmpl_rflc (i : Nat) (x : CmpLane) (j : Nat) : (s.setCmpl i x).rflc j = s.rflc j := rfl
@[simp] theorem State.setCmpl_bursts (i : Nat) (x : CmpLane) : (s.setCmpl i x).bursts = s.bursts := rfl
@[simp] theorem State.setCmpl_cal (i : Nat) (x : CmpLane) : (s.setCmpl i x).cal = s.cal := rfl
@[simp] theorem State.setCmpl_casPort (i : Nat) (x : CmpLane) (j : Nat) : (s.setCmpl i x).casPort j = s.casPort j := rfl
@[simp] theorem State.setCmpl_cas (i : Nat) (x : CmpLane) : (s.setCmpl i x).cas = s.cas := rfl
@[simp] theorem State.setCmpl_lags (i : Nat) (x : CmpLane) : (s.setCmpl i x).lags = s.lags := rfl

/-! ### setCmp -/

@[simp] theorem State.setCmp_same (i : Nat) (x : Cmp) : (s.setCmp i x).cmp i = x := Sparse.get_set_same _ _ _ _
theorem State.setCmp_ne (i : Nat) (x : Cmp) {j : Nat} (h : j ≠ i) : (s.setCmp i x).cmp j = s.cmp j := Sparse.get_set_ne _ _ _ h
@[simp] theorem State.setCmp_epoch (i : Nat) (x : Cmp) : (s.setCmp i x).epoch = s.epoch := rfl
@[simp] theorem State.setCmp_tb (i : Nat) (x : Cmp) : (s.setCmp i x).tb = s.tb := rfl
@[simp] theorem State.setCmp_mem (i : Nat) (x : Cmp) : (s.setCmp i x).mem = s.mem := rfl
@[simp] theorem State.setCmp_pending (i : Nat) (x : Cmp) : (s.setCmp i x).pending = s.pending := rfl
@[simp] theorem State.setCmp_rd (i : Nat) (x : Cmp) (f : Fld) (j : Nat) : (s.setCmp i x).rd f j = s.rd f j := rfl
@[simp] theorem State.setCmp_rdA (i : Nat) (x : Cmp) (f : Fld) (j : Nat) : (s.setCmp i x).rdA f j = s.rdA f j := rfl
@[simp] theorem State.setCmp_dirty (i : Nat) (x : Cmp) : (s.setCmp i x).dirty = s.dirty := rfl
@[simp] theorem State.setCmp_pages (i : Nat) (x : Cmp) (j : Nat) : (s.setCmp i x).pages j = s.pages j := rfl
@[simp] theorem State.setCmp_latch (i : Nat) (x : Cmp) (j : Nat) : (s.setCmp i x).latch j = s.latch j := rfl
@[simp] theorem State.setCmp_tbu (i : Nat) (x : Cmp) : (s.setCmp i x).tbu = s.tbu := rfl
@[simp] theorem State.setCmp_hostp (i : Nat) (x : Cmp) : (s.setCmp i x).hostp = s.hostp := rfl
@[simp] theorem State.setCmp_recs (i : Nat) (x : Cmp) : (s.setCmp i x).recs = s.recs := rfl
@[simp] theorem State.setCmp_prodq (i : Nat) (x : Cmp) : (s.setCmp i x).prodq = s.prodq := rfl
@[simp] theorem State.setCmp_out (i : Nat) (x : Cmp) : (s.setCmp i x).out = s.out := rfl
@[simp] theorem State.setCmp_freeCtr (i : Nat) (x : Cmp) : (s.setCmp i x).freeCtr = s.freeCtr := rfl
@[simp] theorem State.setCmp_dom (i : Nat) (x : Cmp) (j : Nat) : (s.setCmp i x).dom j = s.dom j := rfl
@[simp] theorem State.setCmp_dir (i : Nat) (x : Cmp) (j : Nat) : (s.setCmp i x).dir j = s.dir j := rfl
@[simp] theorem State.setCmp_store (i : Nat) (x : Cmp) (j : Nat) : (s.setCmp i x).store j = s.store j := rfl
@[simp] theorem State.setCmp_win (i : Nat) (x : Cmp) (j : Nat) : (s.setCmp i x).win j = s.win j := rfl
@[simp] theorem State.setCmp_tab (i : Nat) (x : Cmp) (j : Nat) : (s.setCmp i x).tab j = s.tab j := rfl
@[simp] theorem State.setCmp_apg (i : Nat) (x : Cmp) (j : Nat) : (s.setCmp i x).apg j = s.apg j := rfl
@[simp] theorem State.setCmp_eng (i : Nat) (x : Cmp) (j : Nat) : (s.setCmp i x).eng j = s.eng j := rfl
@[simp] theorem State.setCmp_lout (i : Nat) (x : Cmp) (j : Nat) : (s.setCmp i x).lout j = s.lout j := rfl
@[simp] theorem State.setCmp_grp (i : Nat) (x : Cmp) (j : Nat) : (s.setCmp i x).grp j = s.grp j := rfl
@[simp] theorem State.setCmp_ballClaim (i : Nat) (x : Cmp) (j : Nat) : (s.setCmp i x).ballClaim j = s.ballClaim j := rfl
@[simp] theorem State.setCmp_ballOut (i : Nat) (x : Cmp) (j : Nat) : (s.setCmp i x).ballOut j = s.ballOut j := rfl
@[simp] theorem State.setCmp_ballTb (i : Nat) (x : Cmp) (j : Nat) : (s.setCmp i x).ballTb j = s.ballTb j := rfl
@[simp] theorem State.setCmp_arrivals (i : Nat) (x : Cmp) : (s.setCmp i x).arrivals = s.arrivals := rfl
@[simp] theorem State.setCmp_drv (i : Nat) (x : Cmp) (j : Nat) : (s.setCmp i x).drv j = s.drv j := rfl
@[simp] theorem State.setCmp_node (i : Nat) (x : Cmp) (j : Nat) : (s.setCmp i x).node j = s.node j := rfl
@[simp] theorem State.setCmp_loupe (i : Nat) (x : Cmp) : (s.setCmp i x).loupe = s.loupe := rfl
@[simp] theorem State.setCmp_crown (i : Nat) (x : Cmp) (j : Nat) : (s.setCmp i x).crown j = s.crown j := rfl
@[simp] theorem State.setCmp_bank (i : Nat) (x : Cmp) (j : Nat) : (s.setCmp i x).bank j = s.bank j := rfl
@[simp] theorem State.setCmp_sense (i : Nat) (x : Cmp) (j : Nat) : (s.setCmp i x).sense j = s.sense j := rfl
@[simp] theorem State.setCmp_pin (i : Nat) (x : Cmp) (j : Nat) : (s.setCmp i x).pin j = s.pin j := rfl
@[simp] theorem State.setCmp_lphy (i : Nat) (x : Cmp) (j : Nat) : (s.setCmp i x).lphy j = s.lphy j := rfl
@[simp] theorem State.setCmp_cmpl (i : Nat) (x : Cmp) (j : Nat) : (s.setCmp i x).cmpl j = s.cmpl j := rfl
@[simp] theorem State.setCmp_isl (i : Nat) (x : Cmp) (j : Nat) : (s.setCmp i x).isl j = s.isl j := rfl
@[simp] theorem State.setCmp_rail (i : Nat) (x : Cmp) (j : Nat) : (s.setCmp i x).rail j = s.rail j := rfl
@[simp] theorem State.setCmp_stop (i : Nat) (x : Cmp) (j : Nat) : (s.setCmp i x).stop j = s.stop j := rfl
@[simp] theorem State.setCmp_totals (i : Nat) (x : Cmp) (j : Nat) : (s.setCmp i x).totals j = s.totals j := rfl
@[simp] theorem State.setCmp_sbank (i : Nat) (x : Cmp) (j : Nat) : (s.setCmp i x).sbank j = s.sbank j := rfl
@[simp] theorem State.setCmp_tpll (i : Nat) (x : Cmp) : (s.setCmp i x).tpll = s.tpll := rfl
@[simp] theorem State.setCmp_quad (i : Nat) (x : Cmp) (j : Nat) : (s.setCmp i x).quad j = s.quad j := rfl
@[simp] theorem State.setCmp_bring (i : Nat) (x : Cmp) : (s.setCmp i x).bring = s.bring := rfl
@[simp] theorem State.setCmp_lustre (i : Nat) (x : Cmp) : (s.setCmp i x).lustre = s.lustre := rfl
@[simp] theorem State.setCmp_port (i : Nat) (x : Cmp) (j : Nat) : (s.setCmp i x).port j = s.port j := rfl
@[simp] theorem State.setCmp_evtb (i : Nat) (x : Cmp) (j : Nat) : (s.setCmp i x).evtb j = s.evtb j := rfl
@[simp] theorem State.setCmp_route (i : Nat) (x : Cmp) (j : Nat) : (s.setCmp i x).route j = s.route j := rfl
@[simp] theorem State.setCmp_swq (i : Nat) (x : Cmp) : (s.setCmp i x).swq = s.swq := rfl
@[simp] theorem State.setCmp_timer (i : Nat) (x : Cmp) (j : Nat) : (s.setCmp i x).timer j = s.timer j := rfl
@[simp] theorem State.setCmp_journal (i : Nat) (x : Cmp) : (s.setCmp i x).journal = s.journal := rfl
@[simp] theorem State.setCmp_sec (i : Nat) (x : Cmp) : (s.setCmp i x).sec = s.sec := rfl
@[simp] theorem State.setCmp_rflc (i : Nat) (x : Cmp) (j : Nat) : (s.setCmp i x).rflc j = s.rflc j := rfl
@[simp] theorem State.setCmp_bursts (i : Nat) (x : Cmp) : (s.setCmp i x).bursts = s.bursts := rfl
@[simp] theorem State.setCmp_cal (i : Nat) (x : Cmp) : (s.setCmp i x).cal = s.cal := rfl
@[simp] theorem State.setCmp_casPort (i : Nat) (x : Cmp) (j : Nat) : (s.setCmp i x).casPort j = s.casPort j := rfl
@[simp] theorem State.setCmp_cas (i : Nat) (x : Cmp) : (s.setCmp i x).cas = s.cas := rfl
@[simp] theorem State.setCmp_lags (i : Nat) (x : Cmp) : (s.setCmp i x).lags = s.lags := rfl

/-! ### setIsl -/

@[simp] theorem State.setIsl_same (i : Nat) (x : Isl) : (s.setIsl i x).isl i = x := Sparse.get_set_same _ _ _ _
theorem State.setIsl_ne (i : Nat) (x : Isl) {j : Nat} (h : j ≠ i) : (s.setIsl i x).isl j = s.isl j := Sparse.get_set_ne _ _ _ h
@[simp] theorem State.setIsl_epoch (i : Nat) (x : Isl) : (s.setIsl i x).epoch = s.epoch := rfl
@[simp] theorem State.setIsl_tb (i : Nat) (x : Isl) : (s.setIsl i x).tb = s.tb := rfl
@[simp] theorem State.setIsl_mem (i : Nat) (x : Isl) : (s.setIsl i x).mem = s.mem := rfl
@[simp] theorem State.setIsl_pending (i : Nat) (x : Isl) : (s.setIsl i x).pending = s.pending := rfl
@[simp] theorem State.setIsl_rd (i : Nat) (x : Isl) (f : Fld) (j : Nat) : (s.setIsl i x).rd f j = s.rd f j := rfl
@[simp] theorem State.setIsl_rdA (i : Nat) (x : Isl) (f : Fld) (j : Nat) : (s.setIsl i x).rdA f j = s.rdA f j := rfl
@[simp] theorem State.setIsl_dirty (i : Nat) (x : Isl) : (s.setIsl i x).dirty = s.dirty := rfl
@[simp] theorem State.setIsl_pages (i : Nat) (x : Isl) (j : Nat) : (s.setIsl i x).pages j = s.pages j := rfl
@[simp] theorem State.setIsl_latch (i : Nat) (x : Isl) (j : Nat) : (s.setIsl i x).latch j = s.latch j := rfl
@[simp] theorem State.setIsl_tbu (i : Nat) (x : Isl) : (s.setIsl i x).tbu = s.tbu := rfl
@[simp] theorem State.setIsl_hostp (i : Nat) (x : Isl) : (s.setIsl i x).hostp = s.hostp := rfl
@[simp] theorem State.setIsl_recs (i : Nat) (x : Isl) : (s.setIsl i x).recs = s.recs := rfl
@[simp] theorem State.setIsl_prodq (i : Nat) (x : Isl) : (s.setIsl i x).prodq = s.prodq := rfl
@[simp] theorem State.setIsl_out (i : Nat) (x : Isl) : (s.setIsl i x).out = s.out := rfl
@[simp] theorem State.setIsl_freeCtr (i : Nat) (x : Isl) : (s.setIsl i x).freeCtr = s.freeCtr := rfl
@[simp] theorem State.setIsl_dom (i : Nat) (x : Isl) (j : Nat) : (s.setIsl i x).dom j = s.dom j := rfl
@[simp] theorem State.setIsl_dir (i : Nat) (x : Isl) (j : Nat) : (s.setIsl i x).dir j = s.dir j := rfl
@[simp] theorem State.setIsl_store (i : Nat) (x : Isl) (j : Nat) : (s.setIsl i x).store j = s.store j := rfl
@[simp] theorem State.setIsl_win (i : Nat) (x : Isl) (j : Nat) : (s.setIsl i x).win j = s.win j := rfl
@[simp] theorem State.setIsl_tab (i : Nat) (x : Isl) (j : Nat) : (s.setIsl i x).tab j = s.tab j := rfl
@[simp] theorem State.setIsl_apg (i : Nat) (x : Isl) (j : Nat) : (s.setIsl i x).apg j = s.apg j := rfl
@[simp] theorem State.setIsl_eng (i : Nat) (x : Isl) (j : Nat) : (s.setIsl i x).eng j = s.eng j := rfl
@[simp] theorem State.setIsl_lout (i : Nat) (x : Isl) (j : Nat) : (s.setIsl i x).lout j = s.lout j := rfl
@[simp] theorem State.setIsl_grp (i : Nat) (x : Isl) (j : Nat) : (s.setIsl i x).grp j = s.grp j := rfl
@[simp] theorem State.setIsl_ballClaim (i : Nat) (x : Isl) (j : Nat) : (s.setIsl i x).ballClaim j = s.ballClaim j := rfl
@[simp] theorem State.setIsl_ballOut (i : Nat) (x : Isl) (j : Nat) : (s.setIsl i x).ballOut j = s.ballOut j := rfl
@[simp] theorem State.setIsl_ballTb (i : Nat) (x : Isl) (j : Nat) : (s.setIsl i x).ballTb j = s.ballTb j := rfl
@[simp] theorem State.setIsl_arrivals (i : Nat) (x : Isl) : (s.setIsl i x).arrivals = s.arrivals := rfl
@[simp] theorem State.setIsl_drv (i : Nat) (x : Isl) (j : Nat) : (s.setIsl i x).drv j = s.drv j := rfl
@[simp] theorem State.setIsl_node (i : Nat) (x : Isl) (j : Nat) : (s.setIsl i x).node j = s.node j := rfl
@[simp] theorem State.setIsl_loupe (i : Nat) (x : Isl) : (s.setIsl i x).loupe = s.loupe := rfl
@[simp] theorem State.setIsl_crown (i : Nat) (x : Isl) (j : Nat) : (s.setIsl i x).crown j = s.crown j := rfl
@[simp] theorem State.setIsl_bank (i : Nat) (x : Isl) (j : Nat) : (s.setIsl i x).bank j = s.bank j := rfl
@[simp] theorem State.setIsl_sense (i : Nat) (x : Isl) (j : Nat) : (s.setIsl i x).sense j = s.sense j := rfl
@[simp] theorem State.setIsl_pin (i : Nat) (x : Isl) (j : Nat) : (s.setIsl i x).pin j = s.pin j := rfl
@[simp] theorem State.setIsl_lphy (i : Nat) (x : Isl) (j : Nat) : (s.setIsl i x).lphy j = s.lphy j := rfl
@[simp] theorem State.setIsl_cmpl (i : Nat) (x : Isl) (j : Nat) : (s.setIsl i x).cmpl j = s.cmpl j := rfl
@[simp] theorem State.setIsl_cmp (i : Nat) (x : Isl) (j : Nat) : (s.setIsl i x).cmp j = s.cmp j := rfl
@[simp] theorem State.setIsl_rail (i : Nat) (x : Isl) (j : Nat) : (s.setIsl i x).rail j = s.rail j := rfl
@[simp] theorem State.setIsl_stop (i : Nat) (x : Isl) (j : Nat) : (s.setIsl i x).stop j = s.stop j := rfl
@[simp] theorem State.setIsl_totals (i : Nat) (x : Isl) (j : Nat) : (s.setIsl i x).totals j = s.totals j := rfl
@[simp] theorem State.setIsl_sbank (i : Nat) (x : Isl) (j : Nat) : (s.setIsl i x).sbank j = s.sbank j := rfl
@[simp] theorem State.setIsl_tpll (i : Nat) (x : Isl) : (s.setIsl i x).tpll = s.tpll := rfl
@[simp] theorem State.setIsl_quad (i : Nat) (x : Isl) (j : Nat) : (s.setIsl i x).quad j = s.quad j := rfl
@[simp] theorem State.setIsl_bring (i : Nat) (x : Isl) : (s.setIsl i x).bring = s.bring := rfl
@[simp] theorem State.setIsl_lustre (i : Nat) (x : Isl) : (s.setIsl i x).lustre = s.lustre := rfl
@[simp] theorem State.setIsl_port (i : Nat) (x : Isl) (j : Nat) : (s.setIsl i x).port j = s.port j := rfl
@[simp] theorem State.setIsl_evtb (i : Nat) (x : Isl) (j : Nat) : (s.setIsl i x).evtb j = s.evtb j := rfl
@[simp] theorem State.setIsl_route (i : Nat) (x : Isl) (j : Nat) : (s.setIsl i x).route j = s.route j := rfl
@[simp] theorem State.setIsl_swq (i : Nat) (x : Isl) : (s.setIsl i x).swq = s.swq := rfl
@[simp] theorem State.setIsl_timer (i : Nat) (x : Isl) (j : Nat) : (s.setIsl i x).timer j = s.timer j := rfl
@[simp] theorem State.setIsl_journal (i : Nat) (x : Isl) : (s.setIsl i x).journal = s.journal := rfl
@[simp] theorem State.setIsl_sec (i : Nat) (x : Isl) : (s.setIsl i x).sec = s.sec := rfl
@[simp] theorem State.setIsl_rflc (i : Nat) (x : Isl) (j : Nat) : (s.setIsl i x).rflc j = s.rflc j := rfl
@[simp] theorem State.setIsl_bursts (i : Nat) (x : Isl) : (s.setIsl i x).bursts = s.bursts := rfl
@[simp] theorem State.setIsl_cal (i : Nat) (x : Isl) : (s.setIsl i x).cal = s.cal := rfl
@[simp] theorem State.setIsl_casPort (i : Nat) (x : Isl) (j : Nat) : (s.setIsl i x).casPort j = s.casPort j := rfl
@[simp] theorem State.setIsl_cas (i : Nat) (x : Isl) : (s.setIsl i x).cas = s.cas := rfl
@[simp] theorem State.setIsl_lags (i : Nat) (x : Isl) : (s.setIsl i x).lags = s.lags := rfl

/-! ### setRail -/

@[simp] theorem State.setRail_same (i : Nat) (x : Rail) : (s.setRail i x).rail i = x := Sparse.get_set_same _ _ _ _
theorem State.setRail_ne (i : Nat) (x : Rail) {j : Nat} (h : j ≠ i) : (s.setRail i x).rail j = s.rail j := Sparse.get_set_ne _ _ _ h
@[simp] theorem State.setRail_epoch (i : Nat) (x : Rail) : (s.setRail i x).epoch = s.epoch := rfl
@[simp] theorem State.setRail_tb (i : Nat) (x : Rail) : (s.setRail i x).tb = s.tb := rfl
@[simp] theorem State.setRail_mem (i : Nat) (x : Rail) : (s.setRail i x).mem = s.mem := rfl
@[simp] theorem State.setRail_pending (i : Nat) (x : Rail) : (s.setRail i x).pending = s.pending := rfl
@[simp] theorem State.setRail_rd (i : Nat) (x : Rail) (f : Fld) (j : Nat) : (s.setRail i x).rd f j = s.rd f j := rfl
@[simp] theorem State.setRail_rdA (i : Nat) (x : Rail) (f : Fld) (j : Nat) : (s.setRail i x).rdA f j = s.rdA f j := rfl
@[simp] theorem State.setRail_dirty (i : Nat) (x : Rail) : (s.setRail i x).dirty = s.dirty := rfl
@[simp] theorem State.setRail_pages (i : Nat) (x : Rail) (j : Nat) : (s.setRail i x).pages j = s.pages j := rfl
@[simp] theorem State.setRail_latch (i : Nat) (x : Rail) (j : Nat) : (s.setRail i x).latch j = s.latch j := rfl
@[simp] theorem State.setRail_tbu (i : Nat) (x : Rail) : (s.setRail i x).tbu = s.tbu := rfl
@[simp] theorem State.setRail_hostp (i : Nat) (x : Rail) : (s.setRail i x).hostp = s.hostp := rfl
@[simp] theorem State.setRail_recs (i : Nat) (x : Rail) : (s.setRail i x).recs = s.recs := rfl
@[simp] theorem State.setRail_prodq (i : Nat) (x : Rail) : (s.setRail i x).prodq = s.prodq := rfl
@[simp] theorem State.setRail_out (i : Nat) (x : Rail) : (s.setRail i x).out = s.out := rfl
@[simp] theorem State.setRail_freeCtr (i : Nat) (x : Rail) : (s.setRail i x).freeCtr = s.freeCtr := rfl
@[simp] theorem State.setRail_dom (i : Nat) (x : Rail) (j : Nat) : (s.setRail i x).dom j = s.dom j := rfl
@[simp] theorem State.setRail_dir (i : Nat) (x : Rail) (j : Nat) : (s.setRail i x).dir j = s.dir j := rfl
@[simp] theorem State.setRail_store (i : Nat) (x : Rail) (j : Nat) : (s.setRail i x).store j = s.store j := rfl
@[simp] theorem State.setRail_win (i : Nat) (x : Rail) (j : Nat) : (s.setRail i x).win j = s.win j := rfl
@[simp] theorem State.setRail_tab (i : Nat) (x : Rail) (j : Nat) : (s.setRail i x).tab j = s.tab j := rfl
@[simp] theorem State.setRail_apg (i : Nat) (x : Rail) (j : Nat) : (s.setRail i x).apg j = s.apg j := rfl
@[simp] theorem State.setRail_eng (i : Nat) (x : Rail) (j : Nat) : (s.setRail i x).eng j = s.eng j := rfl
@[simp] theorem State.setRail_lout (i : Nat) (x : Rail) (j : Nat) : (s.setRail i x).lout j = s.lout j := rfl
@[simp] theorem State.setRail_grp (i : Nat) (x : Rail) (j : Nat) : (s.setRail i x).grp j = s.grp j := rfl
@[simp] theorem State.setRail_ballClaim (i : Nat) (x : Rail) (j : Nat) : (s.setRail i x).ballClaim j = s.ballClaim j := rfl
@[simp] theorem State.setRail_ballOut (i : Nat) (x : Rail) (j : Nat) : (s.setRail i x).ballOut j = s.ballOut j := rfl
@[simp] theorem State.setRail_ballTb (i : Nat) (x : Rail) (j : Nat) : (s.setRail i x).ballTb j = s.ballTb j := rfl
@[simp] theorem State.setRail_arrivals (i : Nat) (x : Rail) : (s.setRail i x).arrivals = s.arrivals := rfl
@[simp] theorem State.setRail_drv (i : Nat) (x : Rail) (j : Nat) : (s.setRail i x).drv j = s.drv j := rfl
@[simp] theorem State.setRail_node (i : Nat) (x : Rail) (j : Nat) : (s.setRail i x).node j = s.node j := rfl
@[simp] theorem State.setRail_loupe (i : Nat) (x : Rail) : (s.setRail i x).loupe = s.loupe := rfl
@[simp] theorem State.setRail_crown (i : Nat) (x : Rail) (j : Nat) : (s.setRail i x).crown j = s.crown j := rfl
@[simp] theorem State.setRail_bank (i : Nat) (x : Rail) (j : Nat) : (s.setRail i x).bank j = s.bank j := rfl
@[simp] theorem State.setRail_sense (i : Nat) (x : Rail) (j : Nat) : (s.setRail i x).sense j = s.sense j := rfl
@[simp] theorem State.setRail_pin (i : Nat) (x : Rail) (j : Nat) : (s.setRail i x).pin j = s.pin j := rfl
@[simp] theorem State.setRail_lphy (i : Nat) (x : Rail) (j : Nat) : (s.setRail i x).lphy j = s.lphy j := rfl
@[simp] theorem State.setRail_cmpl (i : Nat) (x : Rail) (j : Nat) : (s.setRail i x).cmpl j = s.cmpl j := rfl
@[simp] theorem State.setRail_cmp (i : Nat) (x : Rail) (j : Nat) : (s.setRail i x).cmp j = s.cmp j := rfl
@[simp] theorem State.setRail_isl (i : Nat) (x : Rail) (j : Nat) : (s.setRail i x).isl j = s.isl j := rfl
@[simp] theorem State.setRail_stop (i : Nat) (x : Rail) (j : Nat) : (s.setRail i x).stop j = s.stop j := rfl
@[simp] theorem State.setRail_totals (i : Nat) (x : Rail) (j : Nat) : (s.setRail i x).totals j = s.totals j := rfl
@[simp] theorem State.setRail_sbank (i : Nat) (x : Rail) (j : Nat) : (s.setRail i x).sbank j = s.sbank j := rfl
@[simp] theorem State.setRail_tpll (i : Nat) (x : Rail) : (s.setRail i x).tpll = s.tpll := rfl
@[simp] theorem State.setRail_quad (i : Nat) (x : Rail) (j : Nat) : (s.setRail i x).quad j = s.quad j := rfl
@[simp] theorem State.setRail_bring (i : Nat) (x : Rail) : (s.setRail i x).bring = s.bring := rfl
@[simp] theorem State.setRail_lustre (i : Nat) (x : Rail) : (s.setRail i x).lustre = s.lustre := rfl
@[simp] theorem State.setRail_port (i : Nat) (x : Rail) (j : Nat) : (s.setRail i x).port j = s.port j := rfl
@[simp] theorem State.setRail_evtb (i : Nat) (x : Rail) (j : Nat) : (s.setRail i x).evtb j = s.evtb j := rfl
@[simp] theorem State.setRail_route (i : Nat) (x : Rail) (j : Nat) : (s.setRail i x).route j = s.route j := rfl
@[simp] theorem State.setRail_swq (i : Nat) (x : Rail) : (s.setRail i x).swq = s.swq := rfl
@[simp] theorem State.setRail_timer (i : Nat) (x : Rail) (j : Nat) : (s.setRail i x).timer j = s.timer j := rfl
@[simp] theorem State.setRail_journal (i : Nat) (x : Rail) : (s.setRail i x).journal = s.journal := rfl
@[simp] theorem State.setRail_sec (i : Nat) (x : Rail) : (s.setRail i x).sec = s.sec := rfl
@[simp] theorem State.setRail_rflc (i : Nat) (x : Rail) (j : Nat) : (s.setRail i x).rflc j = s.rflc j := rfl
@[simp] theorem State.setRail_bursts (i : Nat) (x : Rail) : (s.setRail i x).bursts = s.bursts := rfl
@[simp] theorem State.setRail_cal (i : Nat) (x : Rail) : (s.setRail i x).cal = s.cal := rfl
@[simp] theorem State.setRail_casPort (i : Nat) (x : Rail) (j : Nat) : (s.setRail i x).casPort j = s.casPort j := rfl
@[simp] theorem State.setRail_cas (i : Nat) (x : Rail) : (s.setRail i x).cas = s.cas := rfl
@[simp] theorem State.setRail_lags (i : Nat) (x : Rail) : (s.setRail i x).lags = s.lags := rfl

/-! ### setStop -/

@[simp] theorem State.setStop_same (i : Nat) (x : Stop) : (s.setStop i x).stop i = x := Sparse.get_set_same _ _ _ _
theorem State.setStop_ne (i : Nat) (x : Stop) {j : Nat} (h : j ≠ i) : (s.setStop i x).stop j = s.stop j := Sparse.get_set_ne _ _ _ h
@[simp] theorem State.setStop_epoch (i : Nat) (x : Stop) : (s.setStop i x).epoch = s.epoch := rfl
@[simp] theorem State.setStop_tb (i : Nat) (x : Stop) : (s.setStop i x).tb = s.tb := rfl
@[simp] theorem State.setStop_mem (i : Nat) (x : Stop) : (s.setStop i x).mem = s.mem := rfl
@[simp] theorem State.setStop_pending (i : Nat) (x : Stop) : (s.setStop i x).pending = s.pending := rfl
@[simp] theorem State.setStop_rd (i : Nat) (x : Stop) (f : Fld) (j : Nat) : (s.setStop i x).rd f j = s.rd f j := rfl
@[simp] theorem State.setStop_rdA (i : Nat) (x : Stop) (f : Fld) (j : Nat) : (s.setStop i x).rdA f j = s.rdA f j := rfl
@[simp] theorem State.setStop_dirty (i : Nat) (x : Stop) : (s.setStop i x).dirty = s.dirty := rfl
@[simp] theorem State.setStop_pages (i : Nat) (x : Stop) (j : Nat) : (s.setStop i x).pages j = s.pages j := rfl
@[simp] theorem State.setStop_latch (i : Nat) (x : Stop) (j : Nat) : (s.setStop i x).latch j = s.latch j := rfl
@[simp] theorem State.setStop_tbu (i : Nat) (x : Stop) : (s.setStop i x).tbu = s.tbu := rfl
@[simp] theorem State.setStop_hostp (i : Nat) (x : Stop) : (s.setStop i x).hostp = s.hostp := rfl
@[simp] theorem State.setStop_recs (i : Nat) (x : Stop) : (s.setStop i x).recs = s.recs := rfl
@[simp] theorem State.setStop_prodq (i : Nat) (x : Stop) : (s.setStop i x).prodq = s.prodq := rfl
@[simp] theorem State.setStop_out (i : Nat) (x : Stop) : (s.setStop i x).out = s.out := rfl
@[simp] theorem State.setStop_freeCtr (i : Nat) (x : Stop) : (s.setStop i x).freeCtr = s.freeCtr := rfl
@[simp] theorem State.setStop_dom (i : Nat) (x : Stop) (j : Nat) : (s.setStop i x).dom j = s.dom j := rfl
@[simp] theorem State.setStop_dir (i : Nat) (x : Stop) (j : Nat) : (s.setStop i x).dir j = s.dir j := rfl
@[simp] theorem State.setStop_store (i : Nat) (x : Stop) (j : Nat) : (s.setStop i x).store j = s.store j := rfl
@[simp] theorem State.setStop_win (i : Nat) (x : Stop) (j : Nat) : (s.setStop i x).win j = s.win j := rfl
@[simp] theorem State.setStop_tab (i : Nat) (x : Stop) (j : Nat) : (s.setStop i x).tab j = s.tab j := rfl
@[simp] theorem State.setStop_apg (i : Nat) (x : Stop) (j : Nat) : (s.setStop i x).apg j = s.apg j := rfl
@[simp] theorem State.setStop_eng (i : Nat) (x : Stop) (j : Nat) : (s.setStop i x).eng j = s.eng j := rfl
@[simp] theorem State.setStop_lout (i : Nat) (x : Stop) (j : Nat) : (s.setStop i x).lout j = s.lout j := rfl
@[simp] theorem State.setStop_grp (i : Nat) (x : Stop) (j : Nat) : (s.setStop i x).grp j = s.grp j := rfl
@[simp] theorem State.setStop_ballClaim (i : Nat) (x : Stop) (j : Nat) : (s.setStop i x).ballClaim j = s.ballClaim j := rfl
@[simp] theorem State.setStop_ballOut (i : Nat) (x : Stop) (j : Nat) : (s.setStop i x).ballOut j = s.ballOut j := rfl
@[simp] theorem State.setStop_ballTb (i : Nat) (x : Stop) (j : Nat) : (s.setStop i x).ballTb j = s.ballTb j := rfl
@[simp] theorem State.setStop_arrivals (i : Nat) (x : Stop) : (s.setStop i x).arrivals = s.arrivals := rfl
@[simp] theorem State.setStop_drv (i : Nat) (x : Stop) (j : Nat) : (s.setStop i x).drv j = s.drv j := rfl
@[simp] theorem State.setStop_node (i : Nat) (x : Stop) (j : Nat) : (s.setStop i x).node j = s.node j := rfl
@[simp] theorem State.setStop_loupe (i : Nat) (x : Stop) : (s.setStop i x).loupe = s.loupe := rfl
@[simp] theorem State.setStop_crown (i : Nat) (x : Stop) (j : Nat) : (s.setStop i x).crown j = s.crown j := rfl
@[simp] theorem State.setStop_bank (i : Nat) (x : Stop) (j : Nat) : (s.setStop i x).bank j = s.bank j := rfl
@[simp] theorem State.setStop_sense (i : Nat) (x : Stop) (j : Nat) : (s.setStop i x).sense j = s.sense j := rfl
@[simp] theorem State.setStop_pin (i : Nat) (x : Stop) (j : Nat) : (s.setStop i x).pin j = s.pin j := rfl
@[simp] theorem State.setStop_lphy (i : Nat) (x : Stop) (j : Nat) : (s.setStop i x).lphy j = s.lphy j := rfl
@[simp] theorem State.setStop_cmpl (i : Nat) (x : Stop) (j : Nat) : (s.setStop i x).cmpl j = s.cmpl j := rfl
@[simp] theorem State.setStop_cmp (i : Nat) (x : Stop) (j : Nat) : (s.setStop i x).cmp j = s.cmp j := rfl
@[simp] theorem State.setStop_isl (i : Nat) (x : Stop) (j : Nat) : (s.setStop i x).isl j = s.isl j := rfl
@[simp] theorem State.setStop_rail (i : Nat) (x : Stop) (j : Nat) : (s.setStop i x).rail j = s.rail j := rfl
@[simp] theorem State.setStop_totals (i : Nat) (x : Stop) (j : Nat) : (s.setStop i x).totals j = s.totals j := rfl
@[simp] theorem State.setStop_sbank (i : Nat) (x : Stop) (j : Nat) : (s.setStop i x).sbank j = s.sbank j := rfl
@[simp] theorem State.setStop_tpll (i : Nat) (x : Stop) : (s.setStop i x).tpll = s.tpll := rfl
@[simp] theorem State.setStop_quad (i : Nat) (x : Stop) (j : Nat) : (s.setStop i x).quad j = s.quad j := rfl
@[simp] theorem State.setStop_bring (i : Nat) (x : Stop) : (s.setStop i x).bring = s.bring := rfl
@[simp] theorem State.setStop_lustre (i : Nat) (x : Stop) : (s.setStop i x).lustre = s.lustre := rfl
@[simp] theorem State.setStop_port (i : Nat) (x : Stop) (j : Nat) : (s.setStop i x).port j = s.port j := rfl
@[simp] theorem State.setStop_evtb (i : Nat) (x : Stop) (j : Nat) : (s.setStop i x).evtb j = s.evtb j := rfl
@[simp] theorem State.setStop_route (i : Nat) (x : Stop) (j : Nat) : (s.setStop i x).route j = s.route j := rfl
@[simp] theorem State.setStop_swq (i : Nat) (x : Stop) : (s.setStop i x).swq = s.swq := rfl
@[simp] theorem State.setStop_timer (i : Nat) (x : Stop) (j : Nat) : (s.setStop i x).timer j = s.timer j := rfl
@[simp] theorem State.setStop_journal (i : Nat) (x : Stop) : (s.setStop i x).journal = s.journal := rfl
@[simp] theorem State.setStop_sec (i : Nat) (x : Stop) : (s.setStop i x).sec = s.sec := rfl
@[simp] theorem State.setStop_rflc (i : Nat) (x : Stop) (j : Nat) : (s.setStop i x).rflc j = s.rflc j := rfl
@[simp] theorem State.setStop_bursts (i : Nat) (x : Stop) : (s.setStop i x).bursts = s.bursts := rfl
@[simp] theorem State.setStop_cal (i : Nat) (x : Stop) : (s.setStop i x).cal = s.cal := rfl
@[simp] theorem State.setStop_casPort (i : Nat) (x : Stop) (j : Nat) : (s.setStop i x).casPort j = s.casPort j := rfl
@[simp] theorem State.setStop_cas (i : Nat) (x : Stop) : (s.setStop i x).cas = s.cas := rfl
@[simp] theorem State.setStop_lags (i : Nat) (x : Stop) : (s.setStop i x).lags = s.lags := rfl

/-! ### setTotals -/

@[simp] theorem State.setTotals_same (i : Nat) (x : Nat) : (s.setTotals i x).totals i = x := Sparse.get_set_same _ _ _ _
theorem State.setTotals_ne (i : Nat) (x : Nat) {j : Nat} (h : j ≠ i) : (s.setTotals i x).totals j = s.totals j := Sparse.get_set_ne _ _ _ h
@[simp] theorem State.setTotals_epoch (i : Nat) (x : Nat) : (s.setTotals i x).epoch = s.epoch := rfl
@[simp] theorem State.setTotals_tb (i : Nat) (x : Nat) : (s.setTotals i x).tb = s.tb := rfl
@[simp] theorem State.setTotals_mem (i : Nat) (x : Nat) : (s.setTotals i x).mem = s.mem := rfl
@[simp] theorem State.setTotals_pending (i : Nat) (x : Nat) : (s.setTotals i x).pending = s.pending := rfl
@[simp] theorem State.setTotals_rd (i : Nat) (x : Nat) (f : Fld) (j : Nat) : (s.setTotals i x).rd f j = s.rd f j := rfl
@[simp] theorem State.setTotals_rdA (i : Nat) (x : Nat) (f : Fld) (j : Nat) : (s.setTotals i x).rdA f j = s.rdA f j := rfl
@[simp] theorem State.setTotals_dirty (i : Nat) (x : Nat) : (s.setTotals i x).dirty = s.dirty := rfl
@[simp] theorem State.setTotals_pages (i : Nat) (x : Nat) (j : Nat) : (s.setTotals i x).pages j = s.pages j := rfl
@[simp] theorem State.setTotals_latch (i : Nat) (x : Nat) (j : Nat) : (s.setTotals i x).latch j = s.latch j := rfl
@[simp] theorem State.setTotals_tbu (i : Nat) (x : Nat) : (s.setTotals i x).tbu = s.tbu := rfl
@[simp] theorem State.setTotals_hostp (i : Nat) (x : Nat) : (s.setTotals i x).hostp = s.hostp := rfl
@[simp] theorem State.setTotals_recs (i : Nat) (x : Nat) : (s.setTotals i x).recs = s.recs := rfl
@[simp] theorem State.setTotals_prodq (i : Nat) (x : Nat) : (s.setTotals i x).prodq = s.prodq := rfl
@[simp] theorem State.setTotals_out (i : Nat) (x : Nat) : (s.setTotals i x).out = s.out := rfl
@[simp] theorem State.setTotals_freeCtr (i : Nat) (x : Nat) : (s.setTotals i x).freeCtr = s.freeCtr := rfl
@[simp] theorem State.setTotals_dom (i : Nat) (x : Nat) (j : Nat) : (s.setTotals i x).dom j = s.dom j := rfl
@[simp] theorem State.setTotals_dir (i : Nat) (x : Nat) (j : Nat) : (s.setTotals i x).dir j = s.dir j := rfl
@[simp] theorem State.setTotals_store (i : Nat) (x : Nat) (j : Nat) : (s.setTotals i x).store j = s.store j := rfl
@[simp] theorem State.setTotals_win (i : Nat) (x : Nat) (j : Nat) : (s.setTotals i x).win j = s.win j := rfl
@[simp] theorem State.setTotals_tab (i : Nat) (x : Nat) (j : Nat) : (s.setTotals i x).tab j = s.tab j := rfl
@[simp] theorem State.setTotals_apg (i : Nat) (x : Nat) (j : Nat) : (s.setTotals i x).apg j = s.apg j := rfl
@[simp] theorem State.setTotals_eng (i : Nat) (x : Nat) (j : Nat) : (s.setTotals i x).eng j = s.eng j := rfl
@[simp] theorem State.setTotals_lout (i : Nat) (x : Nat) (j : Nat) : (s.setTotals i x).lout j = s.lout j := rfl
@[simp] theorem State.setTotals_grp (i : Nat) (x : Nat) (j : Nat) : (s.setTotals i x).grp j = s.grp j := rfl
@[simp] theorem State.setTotals_ballClaim (i : Nat) (x : Nat) (j : Nat) : (s.setTotals i x).ballClaim j = s.ballClaim j := rfl
@[simp] theorem State.setTotals_ballOut (i : Nat) (x : Nat) (j : Nat) : (s.setTotals i x).ballOut j = s.ballOut j := rfl
@[simp] theorem State.setTotals_ballTb (i : Nat) (x : Nat) (j : Nat) : (s.setTotals i x).ballTb j = s.ballTb j := rfl
@[simp] theorem State.setTotals_arrivals (i : Nat) (x : Nat) : (s.setTotals i x).arrivals = s.arrivals := rfl
@[simp] theorem State.setTotals_drv (i : Nat) (x : Nat) (j : Nat) : (s.setTotals i x).drv j = s.drv j := rfl
@[simp] theorem State.setTotals_node (i : Nat) (x : Nat) (j : Nat) : (s.setTotals i x).node j = s.node j := rfl
@[simp] theorem State.setTotals_loupe (i : Nat) (x : Nat) : (s.setTotals i x).loupe = s.loupe := rfl
@[simp] theorem State.setTotals_crown (i : Nat) (x : Nat) (j : Nat) : (s.setTotals i x).crown j = s.crown j := rfl
@[simp] theorem State.setTotals_bank (i : Nat) (x : Nat) (j : Nat) : (s.setTotals i x).bank j = s.bank j := rfl
@[simp] theorem State.setTotals_sense (i : Nat) (x : Nat) (j : Nat) : (s.setTotals i x).sense j = s.sense j := rfl
@[simp] theorem State.setTotals_pin (i : Nat) (x : Nat) (j : Nat) : (s.setTotals i x).pin j = s.pin j := rfl
@[simp] theorem State.setTotals_lphy (i : Nat) (x : Nat) (j : Nat) : (s.setTotals i x).lphy j = s.lphy j := rfl
@[simp] theorem State.setTotals_cmpl (i : Nat) (x : Nat) (j : Nat) : (s.setTotals i x).cmpl j = s.cmpl j := rfl
@[simp] theorem State.setTotals_cmp (i : Nat) (x : Nat) (j : Nat) : (s.setTotals i x).cmp j = s.cmp j := rfl
@[simp] theorem State.setTotals_isl (i : Nat) (x : Nat) (j : Nat) : (s.setTotals i x).isl j = s.isl j := rfl
@[simp] theorem State.setTotals_rail (i : Nat) (x : Nat) (j : Nat) : (s.setTotals i x).rail j = s.rail j := rfl
@[simp] theorem State.setTotals_stop (i : Nat) (x : Nat) (j : Nat) : (s.setTotals i x).stop j = s.stop j := rfl
@[simp] theorem State.setTotals_sbank (i : Nat) (x : Nat) (j : Nat) : (s.setTotals i x).sbank j = s.sbank j := rfl
@[simp] theorem State.setTotals_tpll (i : Nat) (x : Nat) : (s.setTotals i x).tpll = s.tpll := rfl
@[simp] theorem State.setTotals_quad (i : Nat) (x : Nat) (j : Nat) : (s.setTotals i x).quad j = s.quad j := rfl
@[simp] theorem State.setTotals_bring (i : Nat) (x : Nat) : (s.setTotals i x).bring = s.bring := rfl
@[simp] theorem State.setTotals_lustre (i : Nat) (x : Nat) : (s.setTotals i x).lustre = s.lustre := rfl
@[simp] theorem State.setTotals_port (i : Nat) (x : Nat) (j : Nat) : (s.setTotals i x).port j = s.port j := rfl
@[simp] theorem State.setTotals_evtb (i : Nat) (x : Nat) (j : Nat) : (s.setTotals i x).evtb j = s.evtb j := rfl
@[simp] theorem State.setTotals_route (i : Nat) (x : Nat) (j : Nat) : (s.setTotals i x).route j = s.route j := rfl
@[simp] theorem State.setTotals_swq (i : Nat) (x : Nat) : (s.setTotals i x).swq = s.swq := rfl
@[simp] theorem State.setTotals_timer (i : Nat) (x : Nat) (j : Nat) : (s.setTotals i x).timer j = s.timer j := rfl
@[simp] theorem State.setTotals_journal (i : Nat) (x : Nat) : (s.setTotals i x).journal = s.journal := rfl
@[simp] theorem State.setTotals_sec (i : Nat) (x : Nat) : (s.setTotals i x).sec = s.sec := rfl
@[simp] theorem State.setTotals_rflc (i : Nat) (x : Nat) (j : Nat) : (s.setTotals i x).rflc j = s.rflc j := rfl
@[simp] theorem State.setTotals_bursts (i : Nat) (x : Nat) : (s.setTotals i x).bursts = s.bursts := rfl
@[simp] theorem State.setTotals_cal (i : Nat) (x : Nat) : (s.setTotals i x).cal = s.cal := rfl
@[simp] theorem State.setTotals_casPort (i : Nat) (x : Nat) (j : Nat) : (s.setTotals i x).casPort j = s.casPort j := rfl
@[simp] theorem State.setTotals_cas (i : Nat) (x : Nat) : (s.setTotals i x).cas = s.cas := rfl
@[simp] theorem State.setTotals_lags (i : Nat) (x : Nat) : (s.setTotals i x).lags = s.lags := rfl

/-! ### setSbank -/

@[simp] theorem State.setSbank_same (i : Nat) (x : StoreBank) : (s.setSbank i x).sbank i = x := Sparse.get_set_same _ _ _ _
theorem State.setSbank_ne (i : Nat) (x : StoreBank) {j : Nat} (h : j ≠ i) : (s.setSbank i x).sbank j = s.sbank j := Sparse.get_set_ne _ _ _ h
@[simp] theorem State.setSbank_epoch (i : Nat) (x : StoreBank) : (s.setSbank i x).epoch = s.epoch := rfl
@[simp] theorem State.setSbank_tb (i : Nat) (x : StoreBank) : (s.setSbank i x).tb = s.tb := rfl
@[simp] theorem State.setSbank_mem (i : Nat) (x : StoreBank) : (s.setSbank i x).mem = s.mem := rfl
@[simp] theorem State.setSbank_pending (i : Nat) (x : StoreBank) : (s.setSbank i x).pending = s.pending := rfl
@[simp] theorem State.setSbank_rd (i : Nat) (x : StoreBank) (f : Fld) (j : Nat) : (s.setSbank i x).rd f j = s.rd f j := rfl
@[simp] theorem State.setSbank_rdA (i : Nat) (x : StoreBank) (f : Fld) (j : Nat) : (s.setSbank i x).rdA f j = s.rdA f j := rfl
@[simp] theorem State.setSbank_dirty (i : Nat) (x : StoreBank) : (s.setSbank i x).dirty = s.dirty := rfl
@[simp] theorem State.setSbank_pages (i : Nat) (x : StoreBank) (j : Nat) : (s.setSbank i x).pages j = s.pages j := rfl
@[simp] theorem State.setSbank_latch (i : Nat) (x : StoreBank) (j : Nat) : (s.setSbank i x).latch j = s.latch j := rfl
@[simp] theorem State.setSbank_tbu (i : Nat) (x : StoreBank) : (s.setSbank i x).tbu = s.tbu := rfl
@[simp] theorem State.setSbank_hostp (i : Nat) (x : StoreBank) : (s.setSbank i x).hostp = s.hostp := rfl
@[simp] theorem State.setSbank_recs (i : Nat) (x : StoreBank) : (s.setSbank i x).recs = s.recs := rfl
@[simp] theorem State.setSbank_prodq (i : Nat) (x : StoreBank) : (s.setSbank i x).prodq = s.prodq := rfl
@[simp] theorem State.setSbank_out (i : Nat) (x : StoreBank) : (s.setSbank i x).out = s.out := rfl
@[simp] theorem State.setSbank_freeCtr (i : Nat) (x : StoreBank) : (s.setSbank i x).freeCtr = s.freeCtr := rfl
@[simp] theorem State.setSbank_dom (i : Nat) (x : StoreBank) (j : Nat) : (s.setSbank i x).dom j = s.dom j := rfl
@[simp] theorem State.setSbank_dir (i : Nat) (x : StoreBank) (j : Nat) : (s.setSbank i x).dir j = s.dir j := rfl
@[simp] theorem State.setSbank_store (i : Nat) (x : StoreBank) (j : Nat) : (s.setSbank i x).store j = s.store j := rfl
@[simp] theorem State.setSbank_win (i : Nat) (x : StoreBank) (j : Nat) : (s.setSbank i x).win j = s.win j := rfl
@[simp] theorem State.setSbank_tab (i : Nat) (x : StoreBank) (j : Nat) : (s.setSbank i x).tab j = s.tab j := rfl
@[simp] theorem State.setSbank_apg (i : Nat) (x : StoreBank) (j : Nat) : (s.setSbank i x).apg j = s.apg j := rfl
@[simp] theorem State.setSbank_eng (i : Nat) (x : StoreBank) (j : Nat) : (s.setSbank i x).eng j = s.eng j := rfl
@[simp] theorem State.setSbank_lout (i : Nat) (x : StoreBank) (j : Nat) : (s.setSbank i x).lout j = s.lout j := rfl
@[simp] theorem State.setSbank_grp (i : Nat) (x : StoreBank) (j : Nat) : (s.setSbank i x).grp j = s.grp j := rfl
@[simp] theorem State.setSbank_ballClaim (i : Nat) (x : StoreBank) (j : Nat) : (s.setSbank i x).ballClaim j = s.ballClaim j := rfl
@[simp] theorem State.setSbank_ballOut (i : Nat) (x : StoreBank) (j : Nat) : (s.setSbank i x).ballOut j = s.ballOut j := rfl
@[simp] theorem State.setSbank_ballTb (i : Nat) (x : StoreBank) (j : Nat) : (s.setSbank i x).ballTb j = s.ballTb j := rfl
@[simp] theorem State.setSbank_arrivals (i : Nat) (x : StoreBank) : (s.setSbank i x).arrivals = s.arrivals := rfl
@[simp] theorem State.setSbank_drv (i : Nat) (x : StoreBank) (j : Nat) : (s.setSbank i x).drv j = s.drv j := rfl
@[simp] theorem State.setSbank_node (i : Nat) (x : StoreBank) (j : Nat) : (s.setSbank i x).node j = s.node j := rfl
@[simp] theorem State.setSbank_loupe (i : Nat) (x : StoreBank) : (s.setSbank i x).loupe = s.loupe := rfl
@[simp] theorem State.setSbank_crown (i : Nat) (x : StoreBank) (j : Nat) : (s.setSbank i x).crown j = s.crown j := rfl
@[simp] theorem State.setSbank_bank (i : Nat) (x : StoreBank) (j : Nat) : (s.setSbank i x).bank j = s.bank j := rfl
@[simp] theorem State.setSbank_sense (i : Nat) (x : StoreBank) (j : Nat) : (s.setSbank i x).sense j = s.sense j := rfl
@[simp] theorem State.setSbank_pin (i : Nat) (x : StoreBank) (j : Nat) : (s.setSbank i x).pin j = s.pin j := rfl
@[simp] theorem State.setSbank_lphy (i : Nat) (x : StoreBank) (j : Nat) : (s.setSbank i x).lphy j = s.lphy j := rfl
@[simp] theorem State.setSbank_cmpl (i : Nat) (x : StoreBank) (j : Nat) : (s.setSbank i x).cmpl j = s.cmpl j := rfl
@[simp] theorem State.setSbank_cmp (i : Nat) (x : StoreBank) (j : Nat) : (s.setSbank i x).cmp j = s.cmp j := rfl
@[simp] theorem State.setSbank_isl (i : Nat) (x : StoreBank) (j : Nat) : (s.setSbank i x).isl j = s.isl j := rfl
@[simp] theorem State.setSbank_rail (i : Nat) (x : StoreBank) (j : Nat) : (s.setSbank i x).rail j = s.rail j := rfl
@[simp] theorem State.setSbank_stop (i : Nat) (x : StoreBank) (j : Nat) : (s.setSbank i x).stop j = s.stop j := rfl
@[simp] theorem State.setSbank_totals (i : Nat) (x : StoreBank) (j : Nat) : (s.setSbank i x).totals j = s.totals j := rfl
@[simp] theorem State.setSbank_tpll (i : Nat) (x : StoreBank) : (s.setSbank i x).tpll = s.tpll := rfl
@[simp] theorem State.setSbank_quad (i : Nat) (x : StoreBank) (j : Nat) : (s.setSbank i x).quad j = s.quad j := rfl
@[simp] theorem State.setSbank_bring (i : Nat) (x : StoreBank) : (s.setSbank i x).bring = s.bring := rfl
@[simp] theorem State.setSbank_lustre (i : Nat) (x : StoreBank) : (s.setSbank i x).lustre = s.lustre := rfl
@[simp] theorem State.setSbank_port (i : Nat) (x : StoreBank) (j : Nat) : (s.setSbank i x).port j = s.port j := rfl
@[simp] theorem State.setSbank_evtb (i : Nat) (x : StoreBank) (j : Nat) : (s.setSbank i x).evtb j = s.evtb j := rfl
@[simp] theorem State.setSbank_route (i : Nat) (x : StoreBank) (j : Nat) : (s.setSbank i x).route j = s.route j := rfl
@[simp] theorem State.setSbank_swq (i : Nat) (x : StoreBank) : (s.setSbank i x).swq = s.swq := rfl
@[simp] theorem State.setSbank_timer (i : Nat) (x : StoreBank) (j : Nat) : (s.setSbank i x).timer j = s.timer j := rfl
@[simp] theorem State.setSbank_journal (i : Nat) (x : StoreBank) : (s.setSbank i x).journal = s.journal := rfl
@[simp] theorem State.setSbank_sec (i : Nat) (x : StoreBank) : (s.setSbank i x).sec = s.sec := rfl
@[simp] theorem State.setSbank_rflc (i : Nat) (x : StoreBank) (j : Nat) : (s.setSbank i x).rflc j = s.rflc j := rfl
@[simp] theorem State.setSbank_bursts (i : Nat) (x : StoreBank) : (s.setSbank i x).bursts = s.bursts := rfl
@[simp] theorem State.setSbank_cal (i : Nat) (x : StoreBank) : (s.setSbank i x).cal = s.cal := rfl
@[simp] theorem State.setSbank_casPort (i : Nat) (x : StoreBank) (j : Nat) : (s.setSbank i x).casPort j = s.casPort j := rfl
@[simp] theorem State.setSbank_cas (i : Nat) (x : StoreBank) : (s.setSbank i x).cas = s.cas := rfl
@[simp] theorem State.setSbank_lags (i : Nat) (x : StoreBank) : (s.setSbank i x).lags = s.lags := rfl

/-! ### setTpll -/

@[simp] theorem State.setTpll_same (x : Tpll) : (s.setTpll x).tpll = x := rfl
@[simp] theorem State.setTpll_epoch (x : Tpll) : (s.setTpll x).epoch = s.epoch := rfl
@[simp] theorem State.setTpll_tb (x : Tpll) : (s.setTpll x).tb = s.tb := rfl
@[simp] theorem State.setTpll_mem (x : Tpll) : (s.setTpll x).mem = s.mem := rfl
@[simp] theorem State.setTpll_pending (x : Tpll) : (s.setTpll x).pending = s.pending := rfl
@[simp] theorem State.setTpll_rd (x : Tpll) (f : Fld) (j : Nat) : (s.setTpll x).rd f j = s.rd f j := rfl
@[simp] theorem State.setTpll_rdA (x : Tpll) (f : Fld) (j : Nat) : (s.setTpll x).rdA f j = s.rdA f j := rfl
@[simp] theorem State.setTpll_dirty (x : Tpll) : (s.setTpll x).dirty = s.dirty := rfl
@[simp] theorem State.setTpll_pages (x : Tpll) (j : Nat) : (s.setTpll x).pages j = s.pages j := rfl
@[simp] theorem State.setTpll_latch (x : Tpll) (j : Nat) : (s.setTpll x).latch j = s.latch j := rfl
@[simp] theorem State.setTpll_tbu (x : Tpll) : (s.setTpll x).tbu = s.tbu := rfl
@[simp] theorem State.setTpll_hostp (x : Tpll) : (s.setTpll x).hostp = s.hostp := rfl
@[simp] theorem State.setTpll_recs (x : Tpll) : (s.setTpll x).recs = s.recs := rfl
@[simp] theorem State.setTpll_prodq (x : Tpll) : (s.setTpll x).prodq = s.prodq := rfl
@[simp] theorem State.setTpll_out (x : Tpll) : (s.setTpll x).out = s.out := rfl
@[simp] theorem State.setTpll_freeCtr (x : Tpll) : (s.setTpll x).freeCtr = s.freeCtr := rfl
@[simp] theorem State.setTpll_dom (x : Tpll) (j : Nat) : (s.setTpll x).dom j = s.dom j := rfl
@[simp] theorem State.setTpll_dir (x : Tpll) (j : Nat) : (s.setTpll x).dir j = s.dir j := rfl
@[simp] theorem State.setTpll_store (x : Tpll) (j : Nat) : (s.setTpll x).store j = s.store j := rfl
@[simp] theorem State.setTpll_win (x : Tpll) (j : Nat) : (s.setTpll x).win j = s.win j := rfl
@[simp] theorem State.setTpll_tab (x : Tpll) (j : Nat) : (s.setTpll x).tab j = s.tab j := rfl
@[simp] theorem State.setTpll_apg (x : Tpll) (j : Nat) : (s.setTpll x).apg j = s.apg j := rfl
@[simp] theorem State.setTpll_eng (x : Tpll) (j : Nat) : (s.setTpll x).eng j = s.eng j := rfl
@[simp] theorem State.setTpll_lout (x : Tpll) (j : Nat) : (s.setTpll x).lout j = s.lout j := rfl
@[simp] theorem State.setTpll_grp (x : Tpll) (j : Nat) : (s.setTpll x).grp j = s.grp j := rfl
@[simp] theorem State.setTpll_ballClaim (x : Tpll) (j : Nat) : (s.setTpll x).ballClaim j = s.ballClaim j := rfl
@[simp] theorem State.setTpll_ballOut (x : Tpll) (j : Nat) : (s.setTpll x).ballOut j = s.ballOut j := rfl
@[simp] theorem State.setTpll_ballTb (x : Tpll) (j : Nat) : (s.setTpll x).ballTb j = s.ballTb j := rfl
@[simp] theorem State.setTpll_arrivals (x : Tpll) : (s.setTpll x).arrivals = s.arrivals := rfl
@[simp] theorem State.setTpll_drv (x : Tpll) (j : Nat) : (s.setTpll x).drv j = s.drv j := rfl
@[simp] theorem State.setTpll_node (x : Tpll) (j : Nat) : (s.setTpll x).node j = s.node j := rfl
@[simp] theorem State.setTpll_loupe (x : Tpll) : (s.setTpll x).loupe = s.loupe := rfl
@[simp] theorem State.setTpll_crown (x : Tpll) (j : Nat) : (s.setTpll x).crown j = s.crown j := rfl
@[simp] theorem State.setTpll_bank (x : Tpll) (j : Nat) : (s.setTpll x).bank j = s.bank j := rfl
@[simp] theorem State.setTpll_sense (x : Tpll) (j : Nat) : (s.setTpll x).sense j = s.sense j := rfl
@[simp] theorem State.setTpll_pin (x : Tpll) (j : Nat) : (s.setTpll x).pin j = s.pin j := rfl
@[simp] theorem State.setTpll_lphy (x : Tpll) (j : Nat) : (s.setTpll x).lphy j = s.lphy j := rfl
@[simp] theorem State.setTpll_cmpl (x : Tpll) (j : Nat) : (s.setTpll x).cmpl j = s.cmpl j := rfl
@[simp] theorem State.setTpll_cmp (x : Tpll) (j : Nat) : (s.setTpll x).cmp j = s.cmp j := rfl
@[simp] theorem State.setTpll_isl (x : Tpll) (j : Nat) : (s.setTpll x).isl j = s.isl j := rfl
@[simp] theorem State.setTpll_rail (x : Tpll) (j : Nat) : (s.setTpll x).rail j = s.rail j := rfl
@[simp] theorem State.setTpll_stop (x : Tpll) (j : Nat) : (s.setTpll x).stop j = s.stop j := rfl
@[simp] theorem State.setTpll_totals (x : Tpll) (j : Nat) : (s.setTpll x).totals j = s.totals j := rfl
@[simp] theorem State.setTpll_sbank (x : Tpll) (j : Nat) : (s.setTpll x).sbank j = s.sbank j := rfl
@[simp] theorem State.setTpll_quad (x : Tpll) (j : Nat) : (s.setTpll x).quad j = s.quad j := rfl
@[simp] theorem State.setTpll_bring (x : Tpll) : (s.setTpll x).bring = s.bring := rfl
@[simp] theorem State.setTpll_lustre (x : Tpll) : (s.setTpll x).lustre = s.lustre := rfl
@[simp] theorem State.setTpll_port (x : Tpll) (j : Nat) : (s.setTpll x).port j = s.port j := rfl
@[simp] theorem State.setTpll_evtb (x : Tpll) (j : Nat) : (s.setTpll x).evtb j = s.evtb j := rfl
@[simp] theorem State.setTpll_route (x : Tpll) (j : Nat) : (s.setTpll x).route j = s.route j := rfl
@[simp] theorem State.setTpll_swq (x : Tpll) : (s.setTpll x).swq = s.swq := rfl
@[simp] theorem State.setTpll_timer (x : Tpll) (j : Nat) : (s.setTpll x).timer j = s.timer j := rfl
@[simp] theorem State.setTpll_journal (x : Tpll) : (s.setTpll x).journal = s.journal := rfl
@[simp] theorem State.setTpll_sec (x : Tpll) : (s.setTpll x).sec = s.sec := rfl
@[simp] theorem State.setTpll_rflc (x : Tpll) (j : Nat) : (s.setTpll x).rflc j = s.rflc j := rfl
@[simp] theorem State.setTpll_bursts (x : Tpll) : (s.setTpll x).bursts = s.bursts := rfl
@[simp] theorem State.setTpll_cal (x : Tpll) : (s.setTpll x).cal = s.cal := rfl
@[simp] theorem State.setTpll_casPort (x : Tpll) (j : Nat) : (s.setTpll x).casPort j = s.casPort j := rfl
@[simp] theorem State.setTpll_cas (x : Tpll) : (s.setTpll x).cas = s.cas := rfl
@[simp] theorem State.setTpll_lags (x : Tpll) : (s.setTpll x).lags = s.lags := rfl

/-! ### setQuad -/

@[simp] theorem State.setQuad_same (i : Nat) (x : Quad) : (s.setQuad i x).quad i = x := Sparse.get_set_same _ _ _ _
theorem State.setQuad_ne (i : Nat) (x : Quad) {j : Nat} (h : j ≠ i) : (s.setQuad i x).quad j = s.quad j := Sparse.get_set_ne _ _ _ h
@[simp] theorem State.setQuad_epoch (i : Nat) (x : Quad) : (s.setQuad i x).epoch = s.epoch := rfl
@[simp] theorem State.setQuad_tb (i : Nat) (x : Quad) : (s.setQuad i x).tb = s.tb := rfl
@[simp] theorem State.setQuad_mem (i : Nat) (x : Quad) : (s.setQuad i x).mem = s.mem := rfl
@[simp] theorem State.setQuad_pending (i : Nat) (x : Quad) : (s.setQuad i x).pending = s.pending := rfl
@[simp] theorem State.setQuad_rd (i : Nat) (x : Quad) (f : Fld) (j : Nat) : (s.setQuad i x).rd f j = s.rd f j := rfl
@[simp] theorem State.setQuad_rdA (i : Nat) (x : Quad) (f : Fld) (j : Nat) : (s.setQuad i x).rdA f j = s.rdA f j := rfl
@[simp] theorem State.setQuad_dirty (i : Nat) (x : Quad) : (s.setQuad i x).dirty = s.dirty := rfl
@[simp] theorem State.setQuad_pages (i : Nat) (x : Quad) (j : Nat) : (s.setQuad i x).pages j = s.pages j := rfl
@[simp] theorem State.setQuad_latch (i : Nat) (x : Quad) (j : Nat) : (s.setQuad i x).latch j = s.latch j := rfl
@[simp] theorem State.setQuad_tbu (i : Nat) (x : Quad) : (s.setQuad i x).tbu = s.tbu := rfl
@[simp] theorem State.setQuad_hostp (i : Nat) (x : Quad) : (s.setQuad i x).hostp = s.hostp := rfl
@[simp] theorem State.setQuad_recs (i : Nat) (x : Quad) : (s.setQuad i x).recs = s.recs := rfl
@[simp] theorem State.setQuad_prodq (i : Nat) (x : Quad) : (s.setQuad i x).prodq = s.prodq := rfl
@[simp] theorem State.setQuad_out (i : Nat) (x : Quad) : (s.setQuad i x).out = s.out := rfl
@[simp] theorem State.setQuad_freeCtr (i : Nat) (x : Quad) : (s.setQuad i x).freeCtr = s.freeCtr := rfl
@[simp] theorem State.setQuad_dom (i : Nat) (x : Quad) (j : Nat) : (s.setQuad i x).dom j = s.dom j := rfl
@[simp] theorem State.setQuad_dir (i : Nat) (x : Quad) (j : Nat) : (s.setQuad i x).dir j = s.dir j := rfl
@[simp] theorem State.setQuad_store (i : Nat) (x : Quad) (j : Nat) : (s.setQuad i x).store j = s.store j := rfl
@[simp] theorem State.setQuad_win (i : Nat) (x : Quad) (j : Nat) : (s.setQuad i x).win j = s.win j := rfl
@[simp] theorem State.setQuad_tab (i : Nat) (x : Quad) (j : Nat) : (s.setQuad i x).tab j = s.tab j := rfl
@[simp] theorem State.setQuad_apg (i : Nat) (x : Quad) (j : Nat) : (s.setQuad i x).apg j = s.apg j := rfl
@[simp] theorem State.setQuad_eng (i : Nat) (x : Quad) (j : Nat) : (s.setQuad i x).eng j = s.eng j := rfl
@[simp] theorem State.setQuad_lout (i : Nat) (x : Quad) (j : Nat) : (s.setQuad i x).lout j = s.lout j := rfl
@[simp] theorem State.setQuad_grp (i : Nat) (x : Quad) (j : Nat) : (s.setQuad i x).grp j = s.grp j := rfl
@[simp] theorem State.setQuad_ballClaim (i : Nat) (x : Quad) (j : Nat) : (s.setQuad i x).ballClaim j = s.ballClaim j := rfl
@[simp] theorem State.setQuad_ballOut (i : Nat) (x : Quad) (j : Nat) : (s.setQuad i x).ballOut j = s.ballOut j := rfl
@[simp] theorem State.setQuad_ballTb (i : Nat) (x : Quad) (j : Nat) : (s.setQuad i x).ballTb j = s.ballTb j := rfl
@[simp] theorem State.setQuad_arrivals (i : Nat) (x : Quad) : (s.setQuad i x).arrivals = s.arrivals := rfl
@[simp] theorem State.setQuad_drv (i : Nat) (x : Quad) (j : Nat) : (s.setQuad i x).drv j = s.drv j := rfl
@[simp] theorem State.setQuad_node (i : Nat) (x : Quad) (j : Nat) : (s.setQuad i x).node j = s.node j := rfl
@[simp] theorem State.setQuad_loupe (i : Nat) (x : Quad) : (s.setQuad i x).loupe = s.loupe := rfl
@[simp] theorem State.setQuad_crown (i : Nat) (x : Quad) (j : Nat) : (s.setQuad i x).crown j = s.crown j := rfl
@[simp] theorem State.setQuad_bank (i : Nat) (x : Quad) (j : Nat) : (s.setQuad i x).bank j = s.bank j := rfl
@[simp] theorem State.setQuad_sense (i : Nat) (x : Quad) (j : Nat) : (s.setQuad i x).sense j = s.sense j := rfl
@[simp] theorem State.setQuad_pin (i : Nat) (x : Quad) (j : Nat) : (s.setQuad i x).pin j = s.pin j := rfl
@[simp] theorem State.setQuad_lphy (i : Nat) (x : Quad) (j : Nat) : (s.setQuad i x).lphy j = s.lphy j := rfl
@[simp] theorem State.setQuad_cmpl (i : Nat) (x : Quad) (j : Nat) : (s.setQuad i x).cmpl j = s.cmpl j := rfl
@[simp] theorem State.setQuad_cmp (i : Nat) (x : Quad) (j : Nat) : (s.setQuad i x).cmp j = s.cmp j := rfl
@[simp] theorem State.setQuad_isl (i : Nat) (x : Quad) (j : Nat) : (s.setQuad i x).isl j = s.isl j := rfl
@[simp] theorem State.setQuad_rail (i : Nat) (x : Quad) (j : Nat) : (s.setQuad i x).rail j = s.rail j := rfl
@[simp] theorem State.setQuad_stop (i : Nat) (x : Quad) (j : Nat) : (s.setQuad i x).stop j = s.stop j := rfl
@[simp] theorem State.setQuad_totals (i : Nat) (x : Quad) (j : Nat) : (s.setQuad i x).totals j = s.totals j := rfl
@[simp] theorem State.setQuad_sbank (i : Nat) (x : Quad) (j : Nat) : (s.setQuad i x).sbank j = s.sbank j := rfl
@[simp] theorem State.setQuad_tpll (i : Nat) (x : Quad) : (s.setQuad i x).tpll = s.tpll := rfl
@[simp] theorem State.setQuad_bring (i : Nat) (x : Quad) : (s.setQuad i x).bring = s.bring := rfl
@[simp] theorem State.setQuad_lustre (i : Nat) (x : Quad) : (s.setQuad i x).lustre = s.lustre := rfl
@[simp] theorem State.setQuad_port (i : Nat) (x : Quad) (j : Nat) : (s.setQuad i x).port j = s.port j := rfl
@[simp] theorem State.setQuad_evtb (i : Nat) (x : Quad) (j : Nat) : (s.setQuad i x).evtb j = s.evtb j := rfl
@[simp] theorem State.setQuad_route (i : Nat) (x : Quad) (j : Nat) : (s.setQuad i x).route j = s.route j := rfl
@[simp] theorem State.setQuad_swq (i : Nat) (x : Quad) : (s.setQuad i x).swq = s.swq := rfl
@[simp] theorem State.setQuad_timer (i : Nat) (x : Quad) (j : Nat) : (s.setQuad i x).timer j = s.timer j := rfl
@[simp] theorem State.setQuad_journal (i : Nat) (x : Quad) : (s.setQuad i x).journal = s.journal := rfl
@[simp] theorem State.setQuad_sec (i : Nat) (x : Quad) : (s.setQuad i x).sec = s.sec := rfl
@[simp] theorem State.setQuad_rflc (i : Nat) (x : Quad) (j : Nat) : (s.setQuad i x).rflc j = s.rflc j := rfl
@[simp] theorem State.setQuad_bursts (i : Nat) (x : Quad) : (s.setQuad i x).bursts = s.bursts := rfl
@[simp] theorem State.setQuad_cal (i : Nat) (x : Quad) : (s.setQuad i x).cal = s.cal := rfl
@[simp] theorem State.setQuad_casPort (i : Nat) (x : Quad) (j : Nat) : (s.setQuad i x).casPort j = s.casPort j := rfl
@[simp] theorem State.setQuad_cas (i : Nat) (x : Quad) : (s.setQuad i x).cas = s.cas := rfl
@[simp] theorem State.setQuad_lags (i : Nat) (x : Quad) : (s.setQuad i x).lags = s.lags := rfl

/-! ### setBring -/

@[simp] theorem State.setBring_same (x : Bring) : (s.setBring x).bring = x := rfl
@[simp] theorem State.setBring_epoch (x : Bring) : (s.setBring x).epoch = s.epoch := rfl
@[simp] theorem State.setBring_tb (x : Bring) : (s.setBring x).tb = s.tb := rfl
@[simp] theorem State.setBring_mem (x : Bring) : (s.setBring x).mem = s.mem := rfl
@[simp] theorem State.setBring_pending (x : Bring) : (s.setBring x).pending = s.pending := rfl
@[simp] theorem State.setBring_rd (x : Bring) (f : Fld) (j : Nat) : (s.setBring x).rd f j = s.rd f j := rfl
@[simp] theorem State.setBring_rdA (x : Bring) (f : Fld) (j : Nat) : (s.setBring x).rdA f j = s.rdA f j := rfl
@[simp] theorem State.setBring_dirty (x : Bring) : (s.setBring x).dirty = s.dirty := rfl
@[simp] theorem State.setBring_pages (x : Bring) (j : Nat) : (s.setBring x).pages j = s.pages j := rfl
@[simp] theorem State.setBring_latch (x : Bring) (j : Nat) : (s.setBring x).latch j = s.latch j := rfl
@[simp] theorem State.setBring_tbu (x : Bring) : (s.setBring x).tbu = s.tbu := rfl
@[simp] theorem State.setBring_hostp (x : Bring) : (s.setBring x).hostp = s.hostp := rfl
@[simp] theorem State.setBring_recs (x : Bring) : (s.setBring x).recs = s.recs := rfl
@[simp] theorem State.setBring_prodq (x : Bring) : (s.setBring x).prodq = s.prodq := rfl
@[simp] theorem State.setBring_out (x : Bring) : (s.setBring x).out = s.out := rfl
@[simp] theorem State.setBring_freeCtr (x : Bring) : (s.setBring x).freeCtr = s.freeCtr := rfl
@[simp] theorem State.setBring_dom (x : Bring) (j : Nat) : (s.setBring x).dom j = s.dom j := rfl
@[simp] theorem State.setBring_dir (x : Bring) (j : Nat) : (s.setBring x).dir j = s.dir j := rfl
@[simp] theorem State.setBring_store (x : Bring) (j : Nat) : (s.setBring x).store j = s.store j := rfl
@[simp] theorem State.setBring_win (x : Bring) (j : Nat) : (s.setBring x).win j = s.win j := rfl
@[simp] theorem State.setBring_tab (x : Bring) (j : Nat) : (s.setBring x).tab j = s.tab j := rfl
@[simp] theorem State.setBring_apg (x : Bring) (j : Nat) : (s.setBring x).apg j = s.apg j := rfl
@[simp] theorem State.setBring_eng (x : Bring) (j : Nat) : (s.setBring x).eng j = s.eng j := rfl
@[simp] theorem State.setBring_lout (x : Bring) (j : Nat) : (s.setBring x).lout j = s.lout j := rfl
@[simp] theorem State.setBring_grp (x : Bring) (j : Nat) : (s.setBring x).grp j = s.grp j := rfl
@[simp] theorem State.setBring_ballClaim (x : Bring) (j : Nat) : (s.setBring x).ballClaim j = s.ballClaim j := rfl
@[simp] theorem State.setBring_ballOut (x : Bring) (j : Nat) : (s.setBring x).ballOut j = s.ballOut j := rfl
@[simp] theorem State.setBring_ballTb (x : Bring) (j : Nat) : (s.setBring x).ballTb j = s.ballTb j := rfl
@[simp] theorem State.setBring_arrivals (x : Bring) : (s.setBring x).arrivals = s.arrivals := rfl
@[simp] theorem State.setBring_drv (x : Bring) (j : Nat) : (s.setBring x).drv j = s.drv j := rfl
@[simp] theorem State.setBring_node (x : Bring) (j : Nat) : (s.setBring x).node j = s.node j := rfl
@[simp] theorem State.setBring_loupe (x : Bring) : (s.setBring x).loupe = s.loupe := rfl
@[simp] theorem State.setBring_crown (x : Bring) (j : Nat) : (s.setBring x).crown j = s.crown j := rfl
@[simp] theorem State.setBring_bank (x : Bring) (j : Nat) : (s.setBring x).bank j = s.bank j := rfl
@[simp] theorem State.setBring_sense (x : Bring) (j : Nat) : (s.setBring x).sense j = s.sense j := rfl
@[simp] theorem State.setBring_pin (x : Bring) (j : Nat) : (s.setBring x).pin j = s.pin j := rfl
@[simp] theorem State.setBring_lphy (x : Bring) (j : Nat) : (s.setBring x).lphy j = s.lphy j := rfl
@[simp] theorem State.setBring_cmpl (x : Bring) (j : Nat) : (s.setBring x).cmpl j = s.cmpl j := rfl
@[simp] theorem State.setBring_cmp (x : Bring) (j : Nat) : (s.setBring x).cmp j = s.cmp j := rfl
@[simp] theorem State.setBring_isl (x : Bring) (j : Nat) : (s.setBring x).isl j = s.isl j := rfl
@[simp] theorem State.setBring_rail (x : Bring) (j : Nat) : (s.setBring x).rail j = s.rail j := rfl
@[simp] theorem State.setBring_stop (x : Bring) (j : Nat) : (s.setBring x).stop j = s.stop j := rfl
@[simp] theorem State.setBring_totals (x : Bring) (j : Nat) : (s.setBring x).totals j = s.totals j := rfl
@[simp] theorem State.setBring_sbank (x : Bring) (j : Nat) : (s.setBring x).sbank j = s.sbank j := rfl
@[simp] theorem State.setBring_tpll (x : Bring) : (s.setBring x).tpll = s.tpll := rfl
@[simp] theorem State.setBring_quad (x : Bring) (j : Nat) : (s.setBring x).quad j = s.quad j := rfl
@[simp] theorem State.setBring_lustre (x : Bring) : (s.setBring x).lustre = s.lustre := rfl
@[simp] theorem State.setBring_port (x : Bring) (j : Nat) : (s.setBring x).port j = s.port j := rfl
@[simp] theorem State.setBring_evtb (x : Bring) (j : Nat) : (s.setBring x).evtb j = s.evtb j := rfl
@[simp] theorem State.setBring_route (x : Bring) (j : Nat) : (s.setBring x).route j = s.route j := rfl
@[simp] theorem State.setBring_swq (x : Bring) : (s.setBring x).swq = s.swq := rfl
@[simp] theorem State.setBring_timer (x : Bring) (j : Nat) : (s.setBring x).timer j = s.timer j := rfl
@[simp] theorem State.setBring_journal (x : Bring) : (s.setBring x).journal = s.journal := rfl
@[simp] theorem State.setBring_sec (x : Bring) : (s.setBring x).sec = s.sec := rfl
@[simp] theorem State.setBring_rflc (x : Bring) (j : Nat) : (s.setBring x).rflc j = s.rflc j := rfl
@[simp] theorem State.setBring_bursts (x : Bring) : (s.setBring x).bursts = s.bursts := rfl
@[simp] theorem State.setBring_cal (x : Bring) : (s.setBring x).cal = s.cal := rfl
@[simp] theorem State.setBring_casPort (x : Bring) (j : Nat) : (s.setBring x).casPort j = s.casPort j := rfl
@[simp] theorem State.setBring_cas (x : Bring) : (s.setBring x).cas = s.cas := rfl
@[simp] theorem State.setBring_lags (x : Bring) : (s.setBring x).lags = s.lags := rfl

/-! ### setLustre -/

@[simp] theorem State.setLustre_same (x : Lustre) : (s.setLustre x).lustre = x := rfl
@[simp] theorem State.setLustre_epoch (x : Lustre) : (s.setLustre x).epoch = s.epoch := rfl
@[simp] theorem State.setLustre_tb (x : Lustre) : (s.setLustre x).tb = s.tb := rfl
@[simp] theorem State.setLustre_mem (x : Lustre) : (s.setLustre x).mem = s.mem := rfl
@[simp] theorem State.setLustre_pending (x : Lustre) : (s.setLustre x).pending = s.pending := rfl
@[simp] theorem State.setLustre_rd (x : Lustre) (f : Fld) (j : Nat) : (s.setLustre x).rd f j = s.rd f j := rfl
@[simp] theorem State.setLustre_rdA (x : Lustre) (f : Fld) (j : Nat) : (s.setLustre x).rdA f j = s.rdA f j := rfl
@[simp] theorem State.setLustre_dirty (x : Lustre) : (s.setLustre x).dirty = s.dirty := rfl
@[simp] theorem State.setLustre_pages (x : Lustre) (j : Nat) : (s.setLustre x).pages j = s.pages j := rfl
@[simp] theorem State.setLustre_latch (x : Lustre) (j : Nat) : (s.setLustre x).latch j = s.latch j := rfl
@[simp] theorem State.setLustre_tbu (x : Lustre) : (s.setLustre x).tbu = s.tbu := rfl
@[simp] theorem State.setLustre_hostp (x : Lustre) : (s.setLustre x).hostp = s.hostp := rfl
@[simp] theorem State.setLustre_recs (x : Lustre) : (s.setLustre x).recs = s.recs := rfl
@[simp] theorem State.setLustre_prodq (x : Lustre) : (s.setLustre x).prodq = s.prodq := rfl
@[simp] theorem State.setLustre_out (x : Lustre) : (s.setLustre x).out = s.out := rfl
@[simp] theorem State.setLustre_freeCtr (x : Lustre) : (s.setLustre x).freeCtr = s.freeCtr := rfl
@[simp] theorem State.setLustre_dom (x : Lustre) (j : Nat) : (s.setLustre x).dom j = s.dom j := rfl
@[simp] theorem State.setLustre_dir (x : Lustre) (j : Nat) : (s.setLustre x).dir j = s.dir j := rfl
@[simp] theorem State.setLustre_store (x : Lustre) (j : Nat) : (s.setLustre x).store j = s.store j := rfl
@[simp] theorem State.setLustre_win (x : Lustre) (j : Nat) : (s.setLustre x).win j = s.win j := rfl
@[simp] theorem State.setLustre_tab (x : Lustre) (j : Nat) : (s.setLustre x).tab j = s.tab j := rfl
@[simp] theorem State.setLustre_apg (x : Lustre) (j : Nat) : (s.setLustre x).apg j = s.apg j := rfl
@[simp] theorem State.setLustre_eng (x : Lustre) (j : Nat) : (s.setLustre x).eng j = s.eng j := rfl
@[simp] theorem State.setLustre_lout (x : Lustre) (j : Nat) : (s.setLustre x).lout j = s.lout j := rfl
@[simp] theorem State.setLustre_grp (x : Lustre) (j : Nat) : (s.setLustre x).grp j = s.grp j := rfl
@[simp] theorem State.setLustre_ballClaim (x : Lustre) (j : Nat) : (s.setLustre x).ballClaim j = s.ballClaim j := rfl
@[simp] theorem State.setLustre_ballOut (x : Lustre) (j : Nat) : (s.setLustre x).ballOut j = s.ballOut j := rfl
@[simp] theorem State.setLustre_ballTb (x : Lustre) (j : Nat) : (s.setLustre x).ballTb j = s.ballTb j := rfl
@[simp] theorem State.setLustre_arrivals (x : Lustre) : (s.setLustre x).arrivals = s.arrivals := rfl
@[simp] theorem State.setLustre_drv (x : Lustre) (j : Nat) : (s.setLustre x).drv j = s.drv j := rfl
@[simp] theorem State.setLustre_node (x : Lustre) (j : Nat) : (s.setLustre x).node j = s.node j := rfl
@[simp] theorem State.setLustre_loupe (x : Lustre) : (s.setLustre x).loupe = s.loupe := rfl
@[simp] theorem State.setLustre_crown (x : Lustre) (j : Nat) : (s.setLustre x).crown j = s.crown j := rfl
@[simp] theorem State.setLustre_bank (x : Lustre) (j : Nat) : (s.setLustre x).bank j = s.bank j := rfl
@[simp] theorem State.setLustre_sense (x : Lustre) (j : Nat) : (s.setLustre x).sense j = s.sense j := rfl
@[simp] theorem State.setLustre_pin (x : Lustre) (j : Nat) : (s.setLustre x).pin j = s.pin j := rfl
@[simp] theorem State.setLustre_lphy (x : Lustre) (j : Nat) : (s.setLustre x).lphy j = s.lphy j := rfl
@[simp] theorem State.setLustre_cmpl (x : Lustre) (j : Nat) : (s.setLustre x).cmpl j = s.cmpl j := rfl
@[simp] theorem State.setLustre_cmp (x : Lustre) (j : Nat) : (s.setLustre x).cmp j = s.cmp j := rfl
@[simp] theorem State.setLustre_isl (x : Lustre) (j : Nat) : (s.setLustre x).isl j = s.isl j := rfl
@[simp] theorem State.setLustre_rail (x : Lustre) (j : Nat) : (s.setLustre x).rail j = s.rail j := rfl
@[simp] theorem State.setLustre_stop (x : Lustre) (j : Nat) : (s.setLustre x).stop j = s.stop j := rfl
@[simp] theorem State.setLustre_totals (x : Lustre) (j : Nat) : (s.setLustre x).totals j = s.totals j := rfl
@[simp] theorem State.setLustre_sbank (x : Lustre) (j : Nat) : (s.setLustre x).sbank j = s.sbank j := rfl
@[simp] theorem State.setLustre_tpll (x : Lustre) : (s.setLustre x).tpll = s.tpll := rfl
@[simp] theorem State.setLustre_quad (x : Lustre) (j : Nat) : (s.setLustre x).quad j = s.quad j := rfl
@[simp] theorem State.setLustre_bring (x : Lustre) : (s.setLustre x).bring = s.bring := rfl
@[simp] theorem State.setLustre_port (x : Lustre) (j : Nat) : (s.setLustre x).port j = s.port j := rfl
@[simp] theorem State.setLustre_evtb (x : Lustre) (j : Nat) : (s.setLustre x).evtb j = s.evtb j := rfl
@[simp] theorem State.setLustre_route (x : Lustre) (j : Nat) : (s.setLustre x).route j = s.route j := rfl
@[simp] theorem State.setLustre_swq (x : Lustre) : (s.setLustre x).swq = s.swq := rfl
@[simp] theorem State.setLustre_timer (x : Lustre) (j : Nat) : (s.setLustre x).timer j = s.timer j := rfl
@[simp] theorem State.setLustre_journal (x : Lustre) : (s.setLustre x).journal = s.journal := rfl
@[simp] theorem State.setLustre_sec (x : Lustre) : (s.setLustre x).sec = s.sec := rfl
@[simp] theorem State.setLustre_rflc (x : Lustre) (j : Nat) : (s.setLustre x).rflc j = s.rflc j := rfl
@[simp] theorem State.setLustre_bursts (x : Lustre) : (s.setLustre x).bursts = s.bursts := rfl
@[simp] theorem State.setLustre_cal (x : Lustre) : (s.setLustre x).cal = s.cal := rfl
@[simp] theorem State.setLustre_casPort (x : Lustre) (j : Nat) : (s.setLustre x).casPort j = s.casPort j := rfl
@[simp] theorem State.setLustre_cas (x : Lustre) : (s.setLustre x).cas = s.cas := rfl
@[simp] theorem State.setLustre_lags (x : Lustre) : (s.setLustre x).lags = s.lags := rfl

/-! ### setPort -/

@[simp] theorem State.setPort_same (i : Nat) (x : Port) : (s.setPort i x).port i = x := Sparse.get_set_same _ _ _ _
theorem State.setPort_ne (i : Nat) (x : Port) {j : Nat} (h : j ≠ i) : (s.setPort i x).port j = s.port j := Sparse.get_set_ne _ _ _ h
@[simp] theorem State.setPort_epoch (i : Nat) (x : Port) : (s.setPort i x).epoch = s.epoch := rfl
@[simp] theorem State.setPort_tb (i : Nat) (x : Port) : (s.setPort i x).tb = s.tb := rfl
@[simp] theorem State.setPort_mem (i : Nat) (x : Port) : (s.setPort i x).mem = s.mem := rfl
@[simp] theorem State.setPort_pending (i : Nat) (x : Port) : (s.setPort i x).pending = s.pending := rfl
@[simp] theorem State.setPort_rd (i : Nat) (x : Port) (f : Fld) (j : Nat) : (s.setPort i x).rd f j = s.rd f j := rfl
@[simp] theorem State.setPort_rdA (i : Nat) (x : Port) (f : Fld) (j : Nat) : (s.setPort i x).rdA f j = s.rdA f j := rfl
@[simp] theorem State.setPort_dirty (i : Nat) (x : Port) : (s.setPort i x).dirty = s.dirty := rfl
@[simp] theorem State.setPort_pages (i : Nat) (x : Port) (j : Nat) : (s.setPort i x).pages j = s.pages j := rfl
@[simp] theorem State.setPort_latch (i : Nat) (x : Port) (j : Nat) : (s.setPort i x).latch j = s.latch j := rfl
@[simp] theorem State.setPort_tbu (i : Nat) (x : Port) : (s.setPort i x).tbu = s.tbu := rfl
@[simp] theorem State.setPort_hostp (i : Nat) (x : Port) : (s.setPort i x).hostp = s.hostp := rfl
@[simp] theorem State.setPort_recs (i : Nat) (x : Port) : (s.setPort i x).recs = s.recs := rfl
@[simp] theorem State.setPort_prodq (i : Nat) (x : Port) : (s.setPort i x).prodq = s.prodq := rfl
@[simp] theorem State.setPort_out (i : Nat) (x : Port) : (s.setPort i x).out = s.out := rfl
@[simp] theorem State.setPort_freeCtr (i : Nat) (x : Port) : (s.setPort i x).freeCtr = s.freeCtr := rfl
@[simp] theorem State.setPort_dom (i : Nat) (x : Port) (j : Nat) : (s.setPort i x).dom j = s.dom j := rfl
@[simp] theorem State.setPort_dir (i : Nat) (x : Port) (j : Nat) : (s.setPort i x).dir j = s.dir j := rfl
@[simp] theorem State.setPort_store (i : Nat) (x : Port) (j : Nat) : (s.setPort i x).store j = s.store j := rfl
@[simp] theorem State.setPort_win (i : Nat) (x : Port) (j : Nat) : (s.setPort i x).win j = s.win j := rfl
@[simp] theorem State.setPort_tab (i : Nat) (x : Port) (j : Nat) : (s.setPort i x).tab j = s.tab j := rfl
@[simp] theorem State.setPort_apg (i : Nat) (x : Port) (j : Nat) : (s.setPort i x).apg j = s.apg j := rfl
@[simp] theorem State.setPort_eng (i : Nat) (x : Port) (j : Nat) : (s.setPort i x).eng j = s.eng j := rfl
@[simp] theorem State.setPort_lout (i : Nat) (x : Port) (j : Nat) : (s.setPort i x).lout j = s.lout j := rfl
@[simp] theorem State.setPort_grp (i : Nat) (x : Port) (j : Nat) : (s.setPort i x).grp j = s.grp j := rfl
@[simp] theorem State.setPort_ballClaim (i : Nat) (x : Port) (j : Nat) : (s.setPort i x).ballClaim j = s.ballClaim j := rfl
@[simp] theorem State.setPort_ballOut (i : Nat) (x : Port) (j : Nat) : (s.setPort i x).ballOut j = s.ballOut j := rfl
@[simp] theorem State.setPort_ballTb (i : Nat) (x : Port) (j : Nat) : (s.setPort i x).ballTb j = s.ballTb j := rfl
@[simp] theorem State.setPort_arrivals (i : Nat) (x : Port) : (s.setPort i x).arrivals = s.arrivals := rfl
@[simp] theorem State.setPort_drv (i : Nat) (x : Port) (j : Nat) : (s.setPort i x).drv j = s.drv j := rfl
@[simp] theorem State.setPort_node (i : Nat) (x : Port) (j : Nat) : (s.setPort i x).node j = s.node j := rfl
@[simp] theorem State.setPort_loupe (i : Nat) (x : Port) : (s.setPort i x).loupe = s.loupe := rfl
@[simp] theorem State.setPort_crown (i : Nat) (x : Port) (j : Nat) : (s.setPort i x).crown j = s.crown j := rfl
@[simp] theorem State.setPort_bank (i : Nat) (x : Port) (j : Nat) : (s.setPort i x).bank j = s.bank j := rfl
@[simp] theorem State.setPort_sense (i : Nat) (x : Port) (j : Nat) : (s.setPort i x).sense j = s.sense j := rfl
@[simp] theorem State.setPort_pin (i : Nat) (x : Port) (j : Nat) : (s.setPort i x).pin j = s.pin j := rfl
@[simp] theorem State.setPort_lphy (i : Nat) (x : Port) (j : Nat) : (s.setPort i x).lphy j = s.lphy j := rfl
@[simp] theorem State.setPort_cmpl (i : Nat) (x : Port) (j : Nat) : (s.setPort i x).cmpl j = s.cmpl j := rfl
@[simp] theorem State.setPort_cmp (i : Nat) (x : Port) (j : Nat) : (s.setPort i x).cmp j = s.cmp j := rfl
@[simp] theorem State.setPort_isl (i : Nat) (x : Port) (j : Nat) : (s.setPort i x).isl j = s.isl j := rfl
@[simp] theorem State.setPort_rail (i : Nat) (x : Port) (j : Nat) : (s.setPort i x).rail j = s.rail j := rfl
@[simp] theorem State.setPort_stop (i : Nat) (x : Port) (j : Nat) : (s.setPort i x).stop j = s.stop j := rfl
@[simp] theorem State.setPort_totals (i : Nat) (x : Port) (j : Nat) : (s.setPort i x).totals j = s.totals j := rfl
@[simp] theorem State.setPort_sbank (i : Nat) (x : Port) (j : Nat) : (s.setPort i x).sbank j = s.sbank j := rfl
@[simp] theorem State.setPort_tpll (i : Nat) (x : Port) : (s.setPort i x).tpll = s.tpll := rfl
@[simp] theorem State.setPort_quad (i : Nat) (x : Port) (j : Nat) : (s.setPort i x).quad j = s.quad j := rfl
@[simp] theorem State.setPort_bring (i : Nat) (x : Port) : (s.setPort i x).bring = s.bring := rfl
@[simp] theorem State.setPort_lustre (i : Nat) (x : Port) : (s.setPort i x).lustre = s.lustre := rfl
@[simp] theorem State.setPort_evtb (i : Nat) (x : Port) (j : Nat) : (s.setPort i x).evtb j = s.evtb j := rfl
@[simp] theorem State.setPort_route (i : Nat) (x : Port) (j : Nat) : (s.setPort i x).route j = s.route j := rfl
@[simp] theorem State.setPort_swq (i : Nat) (x : Port) : (s.setPort i x).swq = s.swq := rfl
@[simp] theorem State.setPort_timer (i : Nat) (x : Port) (j : Nat) : (s.setPort i x).timer j = s.timer j := rfl
@[simp] theorem State.setPort_journal (i : Nat) (x : Port) : (s.setPort i x).journal = s.journal := rfl
@[simp] theorem State.setPort_sec (i : Nat) (x : Port) : (s.setPort i x).sec = s.sec := rfl
@[simp] theorem State.setPort_rflc (i : Nat) (x : Port) (j : Nat) : (s.setPort i x).rflc j = s.rflc j := rfl
@[simp] theorem State.setPort_bursts (i : Nat) (x : Port) : (s.setPort i x).bursts = s.bursts := rfl
@[simp] theorem State.setPort_cal (i : Nat) (x : Port) : (s.setPort i x).cal = s.cal := rfl
@[simp] theorem State.setPort_casPort (i : Nat) (x : Port) (j : Nat) : (s.setPort i x).casPort j = s.casPort j := rfl
@[simp] theorem State.setPort_cas (i : Nat) (x : Port) : (s.setPort i x).cas = s.cas := rfl
@[simp] theorem State.setPort_lags (i : Nat) (x : Port) : (s.setPort i x).lags = s.lags := rfl

/-! ### setEvtb -/

@[simp] theorem State.setEvtb_same (i : Nat) (x : EvtBall) : (s.setEvtb i x).evtb i = x := Sparse.get_set_same _ _ _ _
theorem State.setEvtb_ne (i : Nat) (x : EvtBall) {j : Nat} (h : j ≠ i) : (s.setEvtb i x).evtb j = s.evtb j := Sparse.get_set_ne _ _ _ h
@[simp] theorem State.setEvtb_epoch (i : Nat) (x : EvtBall) : (s.setEvtb i x).epoch = s.epoch := rfl
@[simp] theorem State.setEvtb_tb (i : Nat) (x : EvtBall) : (s.setEvtb i x).tb = s.tb := rfl
@[simp] theorem State.setEvtb_mem (i : Nat) (x : EvtBall) : (s.setEvtb i x).mem = s.mem := rfl
@[simp] theorem State.setEvtb_pending (i : Nat) (x : EvtBall) : (s.setEvtb i x).pending = s.pending := rfl
@[simp] theorem State.setEvtb_rd (i : Nat) (x : EvtBall) (f : Fld) (j : Nat) : (s.setEvtb i x).rd f j = s.rd f j := rfl
@[simp] theorem State.setEvtb_rdA (i : Nat) (x : EvtBall) (f : Fld) (j : Nat) : (s.setEvtb i x).rdA f j = s.rdA f j := rfl
@[simp] theorem State.setEvtb_dirty (i : Nat) (x : EvtBall) : (s.setEvtb i x).dirty = s.dirty := rfl
@[simp] theorem State.setEvtb_pages (i : Nat) (x : EvtBall) (j : Nat) : (s.setEvtb i x).pages j = s.pages j := rfl
@[simp] theorem State.setEvtb_latch (i : Nat) (x : EvtBall) (j : Nat) : (s.setEvtb i x).latch j = s.latch j := rfl
@[simp] theorem State.setEvtb_tbu (i : Nat) (x : EvtBall) : (s.setEvtb i x).tbu = s.tbu := rfl
@[simp] theorem State.setEvtb_hostp (i : Nat) (x : EvtBall) : (s.setEvtb i x).hostp = s.hostp := rfl
@[simp] theorem State.setEvtb_recs (i : Nat) (x : EvtBall) : (s.setEvtb i x).recs = s.recs := rfl
@[simp] theorem State.setEvtb_prodq (i : Nat) (x : EvtBall) : (s.setEvtb i x).prodq = s.prodq := rfl
@[simp] theorem State.setEvtb_out (i : Nat) (x : EvtBall) : (s.setEvtb i x).out = s.out := rfl
@[simp] theorem State.setEvtb_freeCtr (i : Nat) (x : EvtBall) : (s.setEvtb i x).freeCtr = s.freeCtr := rfl
@[simp] theorem State.setEvtb_dom (i : Nat) (x : EvtBall) (j : Nat) : (s.setEvtb i x).dom j = s.dom j := rfl
@[simp] theorem State.setEvtb_dir (i : Nat) (x : EvtBall) (j : Nat) : (s.setEvtb i x).dir j = s.dir j := rfl
@[simp] theorem State.setEvtb_store (i : Nat) (x : EvtBall) (j : Nat) : (s.setEvtb i x).store j = s.store j := rfl
@[simp] theorem State.setEvtb_win (i : Nat) (x : EvtBall) (j : Nat) : (s.setEvtb i x).win j = s.win j := rfl
@[simp] theorem State.setEvtb_tab (i : Nat) (x : EvtBall) (j : Nat) : (s.setEvtb i x).tab j = s.tab j := rfl
@[simp] theorem State.setEvtb_apg (i : Nat) (x : EvtBall) (j : Nat) : (s.setEvtb i x).apg j = s.apg j := rfl
@[simp] theorem State.setEvtb_eng (i : Nat) (x : EvtBall) (j : Nat) : (s.setEvtb i x).eng j = s.eng j := rfl
@[simp] theorem State.setEvtb_lout (i : Nat) (x : EvtBall) (j : Nat) : (s.setEvtb i x).lout j = s.lout j := rfl
@[simp] theorem State.setEvtb_grp (i : Nat) (x : EvtBall) (j : Nat) : (s.setEvtb i x).grp j = s.grp j := rfl
@[simp] theorem State.setEvtb_ballClaim (i : Nat) (x : EvtBall) (j : Nat) : (s.setEvtb i x).ballClaim j = s.ballClaim j := rfl
@[simp] theorem State.setEvtb_ballOut (i : Nat) (x : EvtBall) (j : Nat) : (s.setEvtb i x).ballOut j = s.ballOut j := rfl
@[simp] theorem State.setEvtb_ballTb (i : Nat) (x : EvtBall) (j : Nat) : (s.setEvtb i x).ballTb j = s.ballTb j := rfl
@[simp] theorem State.setEvtb_arrivals (i : Nat) (x : EvtBall) : (s.setEvtb i x).arrivals = s.arrivals := rfl
@[simp] theorem State.setEvtb_drv (i : Nat) (x : EvtBall) (j : Nat) : (s.setEvtb i x).drv j = s.drv j := rfl
@[simp] theorem State.setEvtb_node (i : Nat) (x : EvtBall) (j : Nat) : (s.setEvtb i x).node j = s.node j := rfl
@[simp] theorem State.setEvtb_loupe (i : Nat) (x : EvtBall) : (s.setEvtb i x).loupe = s.loupe := rfl
@[simp] theorem State.setEvtb_crown (i : Nat) (x : EvtBall) (j : Nat) : (s.setEvtb i x).crown j = s.crown j := rfl
@[simp] theorem State.setEvtb_bank (i : Nat) (x : EvtBall) (j : Nat) : (s.setEvtb i x).bank j = s.bank j := rfl
@[simp] theorem State.setEvtb_sense (i : Nat) (x : EvtBall) (j : Nat) : (s.setEvtb i x).sense j = s.sense j := rfl
@[simp] theorem State.setEvtb_pin (i : Nat) (x : EvtBall) (j : Nat) : (s.setEvtb i x).pin j = s.pin j := rfl
@[simp] theorem State.setEvtb_lphy (i : Nat) (x : EvtBall) (j : Nat) : (s.setEvtb i x).lphy j = s.lphy j := rfl
@[simp] theorem State.setEvtb_cmpl (i : Nat) (x : EvtBall) (j : Nat) : (s.setEvtb i x).cmpl j = s.cmpl j := rfl
@[simp] theorem State.setEvtb_cmp (i : Nat) (x : EvtBall) (j : Nat) : (s.setEvtb i x).cmp j = s.cmp j := rfl
@[simp] theorem State.setEvtb_isl (i : Nat) (x : EvtBall) (j : Nat) : (s.setEvtb i x).isl j = s.isl j := rfl
@[simp] theorem State.setEvtb_rail (i : Nat) (x : EvtBall) (j : Nat) : (s.setEvtb i x).rail j = s.rail j := rfl
@[simp] theorem State.setEvtb_stop (i : Nat) (x : EvtBall) (j : Nat) : (s.setEvtb i x).stop j = s.stop j := rfl
@[simp] theorem State.setEvtb_totals (i : Nat) (x : EvtBall) (j : Nat) : (s.setEvtb i x).totals j = s.totals j := rfl
@[simp] theorem State.setEvtb_sbank (i : Nat) (x : EvtBall) (j : Nat) : (s.setEvtb i x).sbank j = s.sbank j := rfl
@[simp] theorem State.setEvtb_tpll (i : Nat) (x : EvtBall) : (s.setEvtb i x).tpll = s.tpll := rfl
@[simp] theorem State.setEvtb_quad (i : Nat) (x : EvtBall) (j : Nat) : (s.setEvtb i x).quad j = s.quad j := rfl
@[simp] theorem State.setEvtb_bring (i : Nat) (x : EvtBall) : (s.setEvtb i x).bring = s.bring := rfl
@[simp] theorem State.setEvtb_lustre (i : Nat) (x : EvtBall) : (s.setEvtb i x).lustre = s.lustre := rfl
@[simp] theorem State.setEvtb_port (i : Nat) (x : EvtBall) (j : Nat) : (s.setEvtb i x).port j = s.port j := rfl
@[simp] theorem State.setEvtb_route (i : Nat) (x : EvtBall) (j : Nat) : (s.setEvtb i x).route j = s.route j := rfl
@[simp] theorem State.setEvtb_swq (i : Nat) (x : EvtBall) : (s.setEvtb i x).swq = s.swq := rfl
@[simp] theorem State.setEvtb_timer (i : Nat) (x : EvtBall) (j : Nat) : (s.setEvtb i x).timer j = s.timer j := rfl
@[simp] theorem State.setEvtb_journal (i : Nat) (x : EvtBall) : (s.setEvtb i x).journal = s.journal := rfl
@[simp] theorem State.setEvtb_sec (i : Nat) (x : EvtBall) : (s.setEvtb i x).sec = s.sec := rfl
@[simp] theorem State.setEvtb_rflc (i : Nat) (x : EvtBall) (j : Nat) : (s.setEvtb i x).rflc j = s.rflc j := rfl
@[simp] theorem State.setEvtb_bursts (i : Nat) (x : EvtBall) : (s.setEvtb i x).bursts = s.bursts := rfl
@[simp] theorem State.setEvtb_cal (i : Nat) (x : EvtBall) : (s.setEvtb i x).cal = s.cal := rfl
@[simp] theorem State.setEvtb_casPort (i : Nat) (x : EvtBall) (j : Nat) : (s.setEvtb i x).casPort j = s.casPort j := rfl
@[simp] theorem State.setEvtb_cas (i : Nat) (x : EvtBall) : (s.setEvtb i x).cas = s.cas := rfl
@[simp] theorem State.setEvtb_lags (i : Nat) (x : EvtBall) : (s.setEvtb i x).lags = s.lags := rfl

/-! ### setRoute -/

@[simp] theorem State.setRoute_same (i : Nat) (x : Nat) : (s.setRoute i x).route i = x := Sparse.get_set_same _ _ _ _
theorem State.setRoute_ne (i : Nat) (x : Nat) {j : Nat} (h : j ≠ i) : (s.setRoute i x).route j = s.route j := Sparse.get_set_ne _ _ _ h
@[simp] theorem State.setRoute_epoch (i : Nat) (x : Nat) : (s.setRoute i x).epoch = s.epoch := rfl
@[simp] theorem State.setRoute_tb (i : Nat) (x : Nat) : (s.setRoute i x).tb = s.tb := rfl
@[simp] theorem State.setRoute_mem (i : Nat) (x : Nat) : (s.setRoute i x).mem = s.mem := rfl
@[simp] theorem State.setRoute_pending (i : Nat) (x : Nat) : (s.setRoute i x).pending = s.pending := rfl
@[simp] theorem State.setRoute_rd (i : Nat) (x : Nat) (f : Fld) (j : Nat) : (s.setRoute i x).rd f j = s.rd f j := rfl
@[simp] theorem State.setRoute_rdA (i : Nat) (x : Nat) (f : Fld) (j : Nat) : (s.setRoute i x).rdA f j = s.rdA f j := rfl
@[simp] theorem State.setRoute_dirty (i : Nat) (x : Nat) : (s.setRoute i x).dirty = s.dirty := rfl
@[simp] theorem State.setRoute_pages (i : Nat) (x : Nat) (j : Nat) : (s.setRoute i x).pages j = s.pages j := rfl
@[simp] theorem State.setRoute_latch (i : Nat) (x : Nat) (j : Nat) : (s.setRoute i x).latch j = s.latch j := rfl
@[simp] theorem State.setRoute_tbu (i : Nat) (x : Nat) : (s.setRoute i x).tbu = s.tbu := rfl
@[simp] theorem State.setRoute_hostp (i : Nat) (x : Nat) : (s.setRoute i x).hostp = s.hostp := rfl
@[simp] theorem State.setRoute_recs (i : Nat) (x : Nat) : (s.setRoute i x).recs = s.recs := rfl
@[simp] theorem State.setRoute_prodq (i : Nat) (x : Nat) : (s.setRoute i x).prodq = s.prodq := rfl
@[simp] theorem State.setRoute_out (i : Nat) (x : Nat) : (s.setRoute i x).out = s.out := rfl
@[simp] theorem State.setRoute_freeCtr (i : Nat) (x : Nat) : (s.setRoute i x).freeCtr = s.freeCtr := rfl
@[simp] theorem State.setRoute_dom (i : Nat) (x : Nat) (j : Nat) : (s.setRoute i x).dom j = s.dom j := rfl
@[simp] theorem State.setRoute_dir (i : Nat) (x : Nat) (j : Nat) : (s.setRoute i x).dir j = s.dir j := rfl
@[simp] theorem State.setRoute_store (i : Nat) (x : Nat) (j : Nat) : (s.setRoute i x).store j = s.store j := rfl
@[simp] theorem State.setRoute_win (i : Nat) (x : Nat) (j : Nat) : (s.setRoute i x).win j = s.win j := rfl
@[simp] theorem State.setRoute_tab (i : Nat) (x : Nat) (j : Nat) : (s.setRoute i x).tab j = s.tab j := rfl
@[simp] theorem State.setRoute_apg (i : Nat) (x : Nat) (j : Nat) : (s.setRoute i x).apg j = s.apg j := rfl
@[simp] theorem State.setRoute_eng (i : Nat) (x : Nat) (j : Nat) : (s.setRoute i x).eng j = s.eng j := rfl
@[simp] theorem State.setRoute_lout (i : Nat) (x : Nat) (j : Nat) : (s.setRoute i x).lout j = s.lout j := rfl
@[simp] theorem State.setRoute_grp (i : Nat) (x : Nat) (j : Nat) : (s.setRoute i x).grp j = s.grp j := rfl
@[simp] theorem State.setRoute_ballClaim (i : Nat) (x : Nat) (j : Nat) : (s.setRoute i x).ballClaim j = s.ballClaim j := rfl
@[simp] theorem State.setRoute_ballOut (i : Nat) (x : Nat) (j : Nat) : (s.setRoute i x).ballOut j = s.ballOut j := rfl
@[simp] theorem State.setRoute_ballTb (i : Nat) (x : Nat) (j : Nat) : (s.setRoute i x).ballTb j = s.ballTb j := rfl
@[simp] theorem State.setRoute_arrivals (i : Nat) (x : Nat) : (s.setRoute i x).arrivals = s.arrivals := rfl
@[simp] theorem State.setRoute_drv (i : Nat) (x : Nat) (j : Nat) : (s.setRoute i x).drv j = s.drv j := rfl
@[simp] theorem State.setRoute_node (i : Nat) (x : Nat) (j : Nat) : (s.setRoute i x).node j = s.node j := rfl
@[simp] theorem State.setRoute_loupe (i : Nat) (x : Nat) : (s.setRoute i x).loupe = s.loupe := rfl
@[simp] theorem State.setRoute_crown (i : Nat) (x : Nat) (j : Nat) : (s.setRoute i x).crown j = s.crown j := rfl
@[simp] theorem State.setRoute_bank (i : Nat) (x : Nat) (j : Nat) : (s.setRoute i x).bank j = s.bank j := rfl
@[simp] theorem State.setRoute_sense (i : Nat) (x : Nat) (j : Nat) : (s.setRoute i x).sense j = s.sense j := rfl
@[simp] theorem State.setRoute_pin (i : Nat) (x : Nat) (j : Nat) : (s.setRoute i x).pin j = s.pin j := rfl
@[simp] theorem State.setRoute_lphy (i : Nat) (x : Nat) (j : Nat) : (s.setRoute i x).lphy j = s.lphy j := rfl
@[simp] theorem State.setRoute_cmpl (i : Nat) (x : Nat) (j : Nat) : (s.setRoute i x).cmpl j = s.cmpl j := rfl
@[simp] theorem State.setRoute_cmp (i : Nat) (x : Nat) (j : Nat) : (s.setRoute i x).cmp j = s.cmp j := rfl
@[simp] theorem State.setRoute_isl (i : Nat) (x : Nat) (j : Nat) : (s.setRoute i x).isl j = s.isl j := rfl
@[simp] theorem State.setRoute_rail (i : Nat) (x : Nat) (j : Nat) : (s.setRoute i x).rail j = s.rail j := rfl
@[simp] theorem State.setRoute_stop (i : Nat) (x : Nat) (j : Nat) : (s.setRoute i x).stop j = s.stop j := rfl
@[simp] theorem State.setRoute_totals (i : Nat) (x : Nat) (j : Nat) : (s.setRoute i x).totals j = s.totals j := rfl
@[simp] theorem State.setRoute_sbank (i : Nat) (x : Nat) (j : Nat) : (s.setRoute i x).sbank j = s.sbank j := rfl
@[simp] theorem State.setRoute_tpll (i : Nat) (x : Nat) : (s.setRoute i x).tpll = s.tpll := rfl
@[simp] theorem State.setRoute_quad (i : Nat) (x : Nat) (j : Nat) : (s.setRoute i x).quad j = s.quad j := rfl
@[simp] theorem State.setRoute_bring (i : Nat) (x : Nat) : (s.setRoute i x).bring = s.bring := rfl
@[simp] theorem State.setRoute_lustre (i : Nat) (x : Nat) : (s.setRoute i x).lustre = s.lustre := rfl
@[simp] theorem State.setRoute_port (i : Nat) (x : Nat) (j : Nat) : (s.setRoute i x).port j = s.port j := rfl
@[simp] theorem State.setRoute_evtb (i : Nat) (x : Nat) (j : Nat) : (s.setRoute i x).evtb j = s.evtb j := rfl
@[simp] theorem State.setRoute_swq (i : Nat) (x : Nat) : (s.setRoute i x).swq = s.swq := rfl
@[simp] theorem State.setRoute_timer (i : Nat) (x : Nat) (j : Nat) : (s.setRoute i x).timer j = s.timer j := rfl
@[simp] theorem State.setRoute_journal (i : Nat) (x : Nat) : (s.setRoute i x).journal = s.journal := rfl
@[simp] theorem State.setRoute_sec (i : Nat) (x : Nat) : (s.setRoute i x).sec = s.sec := rfl
@[simp] theorem State.setRoute_rflc (i : Nat) (x : Nat) (j : Nat) : (s.setRoute i x).rflc j = s.rflc j := rfl
@[simp] theorem State.setRoute_bursts (i : Nat) (x : Nat) : (s.setRoute i x).bursts = s.bursts := rfl
@[simp] theorem State.setRoute_cal (i : Nat) (x : Nat) : (s.setRoute i x).cal = s.cal := rfl
@[simp] theorem State.setRoute_casPort (i : Nat) (x : Nat) (j : Nat) : (s.setRoute i x).casPort j = s.casPort j := rfl
@[simp] theorem State.setRoute_cas (i : Nat) (x : Nat) : (s.setRoute i x).cas = s.cas := rfl
@[simp] theorem State.setRoute_lags (i : Nat) (x : Nat) : (s.setRoute i x).lags = s.lags := rfl

/-! ### setSwq -/

@[simp] theorem State.setSwq_same (x : List Arrival) : (s.setSwq x).swq = x := rfl
@[simp] theorem State.setSwq_epoch (x : List Arrival) : (s.setSwq x).epoch = s.epoch := rfl
@[simp] theorem State.setSwq_tb (x : List Arrival) : (s.setSwq x).tb = s.tb := rfl
@[simp] theorem State.setSwq_mem (x : List Arrival) : (s.setSwq x).mem = s.mem := rfl
@[simp] theorem State.setSwq_pending (x : List Arrival) : (s.setSwq x).pending = s.pending := rfl
@[simp] theorem State.setSwq_rd (x : List Arrival) (f : Fld) (j : Nat) : (s.setSwq x).rd f j = s.rd f j := rfl
@[simp] theorem State.setSwq_rdA (x : List Arrival) (f : Fld) (j : Nat) : (s.setSwq x).rdA f j = s.rdA f j := rfl
@[simp] theorem State.setSwq_dirty (x : List Arrival) : (s.setSwq x).dirty = s.dirty := rfl
@[simp] theorem State.setSwq_pages (x : List Arrival) (j : Nat) : (s.setSwq x).pages j = s.pages j := rfl
@[simp] theorem State.setSwq_latch (x : List Arrival) (j : Nat) : (s.setSwq x).latch j = s.latch j := rfl
@[simp] theorem State.setSwq_tbu (x : List Arrival) : (s.setSwq x).tbu = s.tbu := rfl
@[simp] theorem State.setSwq_hostp (x : List Arrival) : (s.setSwq x).hostp = s.hostp := rfl
@[simp] theorem State.setSwq_recs (x : List Arrival) : (s.setSwq x).recs = s.recs := rfl
@[simp] theorem State.setSwq_prodq (x : List Arrival) : (s.setSwq x).prodq = s.prodq := rfl
@[simp] theorem State.setSwq_out (x : List Arrival) : (s.setSwq x).out = s.out := rfl
@[simp] theorem State.setSwq_freeCtr (x : List Arrival) : (s.setSwq x).freeCtr = s.freeCtr := rfl
@[simp] theorem State.setSwq_dom (x : List Arrival) (j : Nat) : (s.setSwq x).dom j = s.dom j := rfl
@[simp] theorem State.setSwq_dir (x : List Arrival) (j : Nat) : (s.setSwq x).dir j = s.dir j := rfl
@[simp] theorem State.setSwq_store (x : List Arrival) (j : Nat) : (s.setSwq x).store j = s.store j := rfl
@[simp] theorem State.setSwq_win (x : List Arrival) (j : Nat) : (s.setSwq x).win j = s.win j := rfl
@[simp] theorem State.setSwq_tab (x : List Arrival) (j : Nat) : (s.setSwq x).tab j = s.tab j := rfl
@[simp] theorem State.setSwq_apg (x : List Arrival) (j : Nat) : (s.setSwq x).apg j = s.apg j := rfl
@[simp] theorem State.setSwq_eng (x : List Arrival) (j : Nat) : (s.setSwq x).eng j = s.eng j := rfl
@[simp] theorem State.setSwq_lout (x : List Arrival) (j : Nat) : (s.setSwq x).lout j = s.lout j := rfl
@[simp] theorem State.setSwq_grp (x : List Arrival) (j : Nat) : (s.setSwq x).grp j = s.grp j := rfl
@[simp] theorem State.setSwq_ballClaim (x : List Arrival) (j : Nat) : (s.setSwq x).ballClaim j = s.ballClaim j := rfl
@[simp] theorem State.setSwq_ballOut (x : List Arrival) (j : Nat) : (s.setSwq x).ballOut j = s.ballOut j := rfl
@[simp] theorem State.setSwq_ballTb (x : List Arrival) (j : Nat) : (s.setSwq x).ballTb j = s.ballTb j := rfl
@[simp] theorem State.setSwq_arrivals (x : List Arrival) : (s.setSwq x).arrivals = s.arrivals := rfl
@[simp] theorem State.setSwq_drv (x : List Arrival) (j : Nat) : (s.setSwq x).drv j = s.drv j := rfl
@[simp] theorem State.setSwq_node (x : List Arrival) (j : Nat) : (s.setSwq x).node j = s.node j := rfl
@[simp] theorem State.setSwq_loupe (x : List Arrival) : (s.setSwq x).loupe = s.loupe := rfl
@[simp] theorem State.setSwq_crown (x : List Arrival) (j : Nat) : (s.setSwq x).crown j = s.crown j := rfl
@[simp] theorem State.setSwq_bank (x : List Arrival) (j : Nat) : (s.setSwq x).bank j = s.bank j := rfl
@[simp] theorem State.setSwq_sense (x : List Arrival) (j : Nat) : (s.setSwq x).sense j = s.sense j := rfl
@[simp] theorem State.setSwq_pin (x : List Arrival) (j : Nat) : (s.setSwq x).pin j = s.pin j := rfl
@[simp] theorem State.setSwq_lphy (x : List Arrival) (j : Nat) : (s.setSwq x).lphy j = s.lphy j := rfl
@[simp] theorem State.setSwq_cmpl (x : List Arrival) (j : Nat) : (s.setSwq x).cmpl j = s.cmpl j := rfl
@[simp] theorem State.setSwq_cmp (x : List Arrival) (j : Nat) : (s.setSwq x).cmp j = s.cmp j := rfl
@[simp] theorem State.setSwq_isl (x : List Arrival) (j : Nat) : (s.setSwq x).isl j = s.isl j := rfl
@[simp] theorem State.setSwq_rail (x : List Arrival) (j : Nat) : (s.setSwq x).rail j = s.rail j := rfl
@[simp] theorem State.setSwq_stop (x : List Arrival) (j : Nat) : (s.setSwq x).stop j = s.stop j := rfl
@[simp] theorem State.setSwq_totals (x : List Arrival) (j : Nat) : (s.setSwq x).totals j = s.totals j := rfl
@[simp] theorem State.setSwq_sbank (x : List Arrival) (j : Nat) : (s.setSwq x).sbank j = s.sbank j := rfl
@[simp] theorem State.setSwq_tpll (x : List Arrival) : (s.setSwq x).tpll = s.tpll := rfl
@[simp] theorem State.setSwq_quad (x : List Arrival) (j : Nat) : (s.setSwq x).quad j = s.quad j := rfl
@[simp] theorem State.setSwq_bring (x : List Arrival) : (s.setSwq x).bring = s.bring := rfl
@[simp] theorem State.setSwq_lustre (x : List Arrival) : (s.setSwq x).lustre = s.lustre := rfl
@[simp] theorem State.setSwq_port (x : List Arrival) (j : Nat) : (s.setSwq x).port j = s.port j := rfl
@[simp] theorem State.setSwq_evtb (x : List Arrival) (j : Nat) : (s.setSwq x).evtb j = s.evtb j := rfl
@[simp] theorem State.setSwq_route (x : List Arrival) (j : Nat) : (s.setSwq x).route j = s.route j := rfl
@[simp] theorem State.setSwq_timer (x : List Arrival) (j : Nat) : (s.setSwq x).timer j = s.timer j := rfl
@[simp] theorem State.setSwq_journal (x : List Arrival) : (s.setSwq x).journal = s.journal := rfl
@[simp] theorem State.setSwq_sec (x : List Arrival) : (s.setSwq x).sec = s.sec := rfl
@[simp] theorem State.setSwq_rflc (x : List Arrival) (j : Nat) : (s.setSwq x).rflc j = s.rflc j := rfl
@[simp] theorem State.setSwq_bursts (x : List Arrival) : (s.setSwq x).bursts = s.bursts := rfl
@[simp] theorem State.setSwq_cal (x : List Arrival) : (s.setSwq x).cal = s.cal := rfl
@[simp] theorem State.setSwq_casPort (x : List Arrival) (j : Nat) : (s.setSwq x).casPort j = s.casPort j := rfl
@[simp] theorem State.setSwq_cas (x : List Arrival) : (s.setSwq x).cas = s.cas := rfl
@[simp] theorem State.setSwq_lags (x : List Arrival) : (s.setSwq x).lags = s.lags := rfl

/-! ### setTimer -/

@[simp] theorem State.setTimer_same (i : Nat) (x : Nat) : (s.setTimer i x).timer i = x := Sparse.get_set_same _ _ _ _
theorem State.setTimer_ne (i : Nat) (x : Nat) {j : Nat} (h : j ≠ i) : (s.setTimer i x).timer j = s.timer j := Sparse.get_set_ne _ _ _ h
@[simp] theorem State.setTimer_epoch (i : Nat) (x : Nat) : (s.setTimer i x).epoch = s.epoch := rfl
@[simp] theorem State.setTimer_tb (i : Nat) (x : Nat) : (s.setTimer i x).tb = s.tb := rfl
@[simp] theorem State.setTimer_mem (i : Nat) (x : Nat) : (s.setTimer i x).mem = s.mem := rfl
@[simp] theorem State.setTimer_pending (i : Nat) (x : Nat) : (s.setTimer i x).pending = s.pending := rfl
@[simp] theorem State.setTimer_rd (i : Nat) (x : Nat) (f : Fld) (j : Nat) : (s.setTimer i x).rd f j = s.rd f j := rfl
@[simp] theorem State.setTimer_rdA (i : Nat) (x : Nat) (f : Fld) (j : Nat) : (s.setTimer i x).rdA f j = s.rdA f j := rfl
@[simp] theorem State.setTimer_dirty (i : Nat) (x : Nat) : (s.setTimer i x).dirty = s.dirty := rfl
@[simp] theorem State.setTimer_pages (i : Nat) (x : Nat) (j : Nat) : (s.setTimer i x).pages j = s.pages j := rfl
@[simp] theorem State.setTimer_latch (i : Nat) (x : Nat) (j : Nat) : (s.setTimer i x).latch j = s.latch j := rfl
@[simp] theorem State.setTimer_tbu (i : Nat) (x : Nat) : (s.setTimer i x).tbu = s.tbu := rfl
@[simp] theorem State.setTimer_hostp (i : Nat) (x : Nat) : (s.setTimer i x).hostp = s.hostp := rfl
@[simp] theorem State.setTimer_recs (i : Nat) (x : Nat) : (s.setTimer i x).recs = s.recs := rfl
@[simp] theorem State.setTimer_prodq (i : Nat) (x : Nat) : (s.setTimer i x).prodq = s.prodq := rfl
@[simp] theorem State.setTimer_out (i : Nat) (x : Nat) : (s.setTimer i x).out = s.out := rfl
@[simp] theorem State.setTimer_freeCtr (i : Nat) (x : Nat) : (s.setTimer i x).freeCtr = s.freeCtr := rfl
@[simp] theorem State.setTimer_dom (i : Nat) (x : Nat) (j : Nat) : (s.setTimer i x).dom j = s.dom j := rfl
@[simp] theorem State.setTimer_dir (i : Nat) (x : Nat) (j : Nat) : (s.setTimer i x).dir j = s.dir j := rfl
@[simp] theorem State.setTimer_store (i : Nat) (x : Nat) (j : Nat) : (s.setTimer i x).store j = s.store j := rfl
@[simp] theorem State.setTimer_win (i : Nat) (x : Nat) (j : Nat) : (s.setTimer i x).win j = s.win j := rfl
@[simp] theorem State.setTimer_tab (i : Nat) (x : Nat) (j : Nat) : (s.setTimer i x).tab j = s.tab j := rfl
@[simp] theorem State.setTimer_apg (i : Nat) (x : Nat) (j : Nat) : (s.setTimer i x).apg j = s.apg j := rfl
@[simp] theorem State.setTimer_eng (i : Nat) (x : Nat) (j : Nat) : (s.setTimer i x).eng j = s.eng j := rfl
@[simp] theorem State.setTimer_lout (i : Nat) (x : Nat) (j : Nat) : (s.setTimer i x).lout j = s.lout j := rfl
@[simp] theorem State.setTimer_grp (i : Nat) (x : Nat) (j : Nat) : (s.setTimer i x).grp j = s.grp j := rfl
@[simp] theorem State.setTimer_ballClaim (i : Nat) (x : Nat) (j : Nat) : (s.setTimer i x).ballClaim j = s.ballClaim j := rfl
@[simp] theorem State.setTimer_ballOut (i : Nat) (x : Nat) (j : Nat) : (s.setTimer i x).ballOut j = s.ballOut j := rfl
@[simp] theorem State.setTimer_ballTb (i : Nat) (x : Nat) (j : Nat) : (s.setTimer i x).ballTb j = s.ballTb j := rfl
@[simp] theorem State.setTimer_arrivals (i : Nat) (x : Nat) : (s.setTimer i x).arrivals = s.arrivals := rfl
@[simp] theorem State.setTimer_drv (i : Nat) (x : Nat) (j : Nat) : (s.setTimer i x).drv j = s.drv j := rfl
@[simp] theorem State.setTimer_node (i : Nat) (x : Nat) (j : Nat) : (s.setTimer i x).node j = s.node j := rfl
@[simp] theorem State.setTimer_loupe (i : Nat) (x : Nat) : (s.setTimer i x).loupe = s.loupe := rfl
@[simp] theorem State.setTimer_crown (i : Nat) (x : Nat) (j : Nat) : (s.setTimer i x).crown j = s.crown j := rfl
@[simp] theorem State.setTimer_bank (i : Nat) (x : Nat) (j : Nat) : (s.setTimer i x).bank j = s.bank j := rfl
@[simp] theorem State.setTimer_sense (i : Nat) (x : Nat) (j : Nat) : (s.setTimer i x).sense j = s.sense j := rfl
@[simp] theorem State.setTimer_pin (i : Nat) (x : Nat) (j : Nat) : (s.setTimer i x).pin j = s.pin j := rfl
@[simp] theorem State.setTimer_lphy (i : Nat) (x : Nat) (j : Nat) : (s.setTimer i x).lphy j = s.lphy j := rfl
@[simp] theorem State.setTimer_cmpl (i : Nat) (x : Nat) (j : Nat) : (s.setTimer i x).cmpl j = s.cmpl j := rfl
@[simp] theorem State.setTimer_cmp (i : Nat) (x : Nat) (j : Nat) : (s.setTimer i x).cmp j = s.cmp j := rfl
@[simp] theorem State.setTimer_isl (i : Nat) (x : Nat) (j : Nat) : (s.setTimer i x).isl j = s.isl j := rfl
@[simp] theorem State.setTimer_rail (i : Nat) (x : Nat) (j : Nat) : (s.setTimer i x).rail j = s.rail j := rfl
@[simp] theorem State.setTimer_stop (i : Nat) (x : Nat) (j : Nat) : (s.setTimer i x).stop j = s.stop j := rfl
@[simp] theorem State.setTimer_totals (i : Nat) (x : Nat) (j : Nat) : (s.setTimer i x).totals j = s.totals j := rfl
@[simp] theorem State.setTimer_sbank (i : Nat) (x : Nat) (j : Nat) : (s.setTimer i x).sbank j = s.sbank j := rfl
@[simp] theorem State.setTimer_tpll (i : Nat) (x : Nat) : (s.setTimer i x).tpll = s.tpll := rfl
@[simp] theorem State.setTimer_quad (i : Nat) (x : Nat) (j : Nat) : (s.setTimer i x).quad j = s.quad j := rfl
@[simp] theorem State.setTimer_bring (i : Nat) (x : Nat) : (s.setTimer i x).bring = s.bring := rfl
@[simp] theorem State.setTimer_lustre (i : Nat) (x : Nat) : (s.setTimer i x).lustre = s.lustre := rfl
@[simp] theorem State.setTimer_port (i : Nat) (x : Nat) (j : Nat) : (s.setTimer i x).port j = s.port j := rfl
@[simp] theorem State.setTimer_evtb (i : Nat) (x : Nat) (j : Nat) : (s.setTimer i x).evtb j = s.evtb j := rfl
@[simp] theorem State.setTimer_route (i : Nat) (x : Nat) (j : Nat) : (s.setTimer i x).route j = s.route j := rfl
@[simp] theorem State.setTimer_swq (i : Nat) (x : Nat) : (s.setTimer i x).swq = s.swq := rfl
@[simp] theorem State.setTimer_journal (i : Nat) (x : Nat) : (s.setTimer i x).journal = s.journal := rfl
@[simp] theorem State.setTimer_sec (i : Nat) (x : Nat) : (s.setTimer i x).sec = s.sec := rfl
@[simp] theorem State.setTimer_rflc (i : Nat) (x : Nat) (j : Nat) : (s.setTimer i x).rflc j = s.rflc j := rfl
@[simp] theorem State.setTimer_bursts (i : Nat) (x : Nat) : (s.setTimer i x).bursts = s.bursts := rfl
@[simp] theorem State.setTimer_cal (i : Nat) (x : Nat) : (s.setTimer i x).cal = s.cal := rfl
@[simp] theorem State.setTimer_casPort (i : Nat) (x : Nat) (j : Nat) : (s.setTimer i x).casPort j = s.casPort j := rfl
@[simp] theorem State.setTimer_cas (i : Nat) (x : Nat) : (s.setTimer i x).cas = s.cas := rfl
@[simp] theorem State.setTimer_lags (i : Nat) (x : Nat) : (s.setTimer i x).lags = s.lags := rfl

/-! ### setJournal -/

@[simp] theorem State.setJournal_same (x : Jrn) : (s.setJournal x).journal = x := rfl
@[simp] theorem State.setJournal_epoch (x : Jrn) : (s.setJournal x).epoch = s.epoch := rfl
@[simp] theorem State.setJournal_tb (x : Jrn) : (s.setJournal x).tb = s.tb := rfl
@[simp] theorem State.setJournal_mem (x : Jrn) : (s.setJournal x).mem = s.mem := rfl
@[simp] theorem State.setJournal_pending (x : Jrn) : (s.setJournal x).pending = s.pending := rfl
@[simp] theorem State.setJournal_rd (x : Jrn) (f : Fld) (j : Nat) : (s.setJournal x).rd f j = s.rd f j := rfl
@[simp] theorem State.setJournal_rdA (x : Jrn) (f : Fld) (j : Nat) : (s.setJournal x).rdA f j = s.rdA f j := rfl
@[simp] theorem State.setJournal_dirty (x : Jrn) : (s.setJournal x).dirty = s.dirty := rfl
@[simp] theorem State.setJournal_pages (x : Jrn) (j : Nat) : (s.setJournal x).pages j = s.pages j := rfl
@[simp] theorem State.setJournal_latch (x : Jrn) (j : Nat) : (s.setJournal x).latch j = s.latch j := rfl
@[simp] theorem State.setJournal_tbu (x : Jrn) : (s.setJournal x).tbu = s.tbu := rfl
@[simp] theorem State.setJournal_hostp (x : Jrn) : (s.setJournal x).hostp = s.hostp := rfl
@[simp] theorem State.setJournal_recs (x : Jrn) : (s.setJournal x).recs = s.recs := rfl
@[simp] theorem State.setJournal_prodq (x : Jrn) : (s.setJournal x).prodq = s.prodq := rfl
@[simp] theorem State.setJournal_out (x : Jrn) : (s.setJournal x).out = s.out := rfl
@[simp] theorem State.setJournal_freeCtr (x : Jrn) : (s.setJournal x).freeCtr = s.freeCtr := rfl
@[simp] theorem State.setJournal_dom (x : Jrn) (j : Nat) : (s.setJournal x).dom j = s.dom j := rfl
@[simp] theorem State.setJournal_dir (x : Jrn) (j : Nat) : (s.setJournal x).dir j = s.dir j := rfl
@[simp] theorem State.setJournal_store (x : Jrn) (j : Nat) : (s.setJournal x).store j = s.store j := rfl
@[simp] theorem State.setJournal_win (x : Jrn) (j : Nat) : (s.setJournal x).win j = s.win j := rfl
@[simp] theorem State.setJournal_tab (x : Jrn) (j : Nat) : (s.setJournal x).tab j = s.tab j := rfl
@[simp] theorem State.setJournal_apg (x : Jrn) (j : Nat) : (s.setJournal x).apg j = s.apg j := rfl
@[simp] theorem State.setJournal_eng (x : Jrn) (j : Nat) : (s.setJournal x).eng j = s.eng j := rfl
@[simp] theorem State.setJournal_lout (x : Jrn) (j : Nat) : (s.setJournal x).lout j = s.lout j := rfl
@[simp] theorem State.setJournal_grp (x : Jrn) (j : Nat) : (s.setJournal x).grp j = s.grp j := rfl
@[simp] theorem State.setJournal_ballClaim (x : Jrn) (j : Nat) : (s.setJournal x).ballClaim j = s.ballClaim j := rfl
@[simp] theorem State.setJournal_ballOut (x : Jrn) (j : Nat) : (s.setJournal x).ballOut j = s.ballOut j := rfl
@[simp] theorem State.setJournal_ballTb (x : Jrn) (j : Nat) : (s.setJournal x).ballTb j = s.ballTb j := rfl
@[simp] theorem State.setJournal_arrivals (x : Jrn) : (s.setJournal x).arrivals = s.arrivals := rfl
@[simp] theorem State.setJournal_drv (x : Jrn) (j : Nat) : (s.setJournal x).drv j = s.drv j := rfl
@[simp] theorem State.setJournal_node (x : Jrn) (j : Nat) : (s.setJournal x).node j = s.node j := rfl
@[simp] theorem State.setJournal_loupe (x : Jrn) : (s.setJournal x).loupe = s.loupe := rfl
@[simp] theorem State.setJournal_crown (x : Jrn) (j : Nat) : (s.setJournal x).crown j = s.crown j := rfl
@[simp] theorem State.setJournal_bank (x : Jrn) (j : Nat) : (s.setJournal x).bank j = s.bank j := rfl
@[simp] theorem State.setJournal_sense (x : Jrn) (j : Nat) : (s.setJournal x).sense j = s.sense j := rfl
@[simp] theorem State.setJournal_pin (x : Jrn) (j : Nat) : (s.setJournal x).pin j = s.pin j := rfl
@[simp] theorem State.setJournal_lphy (x : Jrn) (j : Nat) : (s.setJournal x).lphy j = s.lphy j := rfl
@[simp] theorem State.setJournal_cmpl (x : Jrn) (j : Nat) : (s.setJournal x).cmpl j = s.cmpl j := rfl
@[simp] theorem State.setJournal_cmp (x : Jrn) (j : Nat) : (s.setJournal x).cmp j = s.cmp j := rfl
@[simp] theorem State.setJournal_isl (x : Jrn) (j : Nat) : (s.setJournal x).isl j = s.isl j := rfl
@[simp] theorem State.setJournal_rail (x : Jrn) (j : Nat) : (s.setJournal x).rail j = s.rail j := rfl
@[simp] theorem State.setJournal_stop (x : Jrn) (j : Nat) : (s.setJournal x).stop j = s.stop j := rfl
@[simp] theorem State.setJournal_totals (x : Jrn) (j : Nat) : (s.setJournal x).totals j = s.totals j := rfl
@[simp] theorem State.setJournal_sbank (x : Jrn) (j : Nat) : (s.setJournal x).sbank j = s.sbank j := rfl
@[simp] theorem State.setJournal_tpll (x : Jrn) : (s.setJournal x).tpll = s.tpll := rfl
@[simp] theorem State.setJournal_quad (x : Jrn) (j : Nat) : (s.setJournal x).quad j = s.quad j := rfl
@[simp] theorem State.setJournal_bring (x : Jrn) : (s.setJournal x).bring = s.bring := rfl
@[simp] theorem State.setJournal_lustre (x : Jrn) : (s.setJournal x).lustre = s.lustre := rfl
@[simp] theorem State.setJournal_port (x : Jrn) (j : Nat) : (s.setJournal x).port j = s.port j := rfl
@[simp] theorem State.setJournal_evtb (x : Jrn) (j : Nat) : (s.setJournal x).evtb j = s.evtb j := rfl
@[simp] theorem State.setJournal_route (x : Jrn) (j : Nat) : (s.setJournal x).route j = s.route j := rfl
@[simp] theorem State.setJournal_swq (x : Jrn) : (s.setJournal x).swq = s.swq := rfl
@[simp] theorem State.setJournal_timer (x : Jrn) (j : Nat) : (s.setJournal x).timer j = s.timer j := rfl
@[simp] theorem State.setJournal_sec (x : Jrn) : (s.setJournal x).sec = s.sec := rfl
@[simp] theorem State.setJournal_rflc (x : Jrn) (j : Nat) : (s.setJournal x).rflc j = s.rflc j := rfl
@[simp] theorem State.setJournal_bursts (x : Jrn) : (s.setJournal x).bursts = s.bursts := rfl
@[simp] theorem State.setJournal_cal (x : Jrn) : (s.setJournal x).cal = s.cal := rfl
@[simp] theorem State.setJournal_casPort (x : Jrn) (j : Nat) : (s.setJournal x).casPort j = s.casPort j := rfl
@[simp] theorem State.setJournal_cas (x : Jrn) : (s.setJournal x).cas = s.cas := rfl
@[simp] theorem State.setJournal_lags (x : Jrn) : (s.setJournal x).lags = s.lags := rfl

/-! ### setSec -/

@[simp] theorem State.setSec_same (x : Sec) : (s.setSec x).sec = x := rfl
@[simp] theorem State.setSec_epoch (x : Sec) : (s.setSec x).epoch = s.epoch := rfl
@[simp] theorem State.setSec_tb (x : Sec) : (s.setSec x).tb = s.tb := rfl
@[simp] theorem State.setSec_mem (x : Sec) : (s.setSec x).mem = s.mem := rfl
@[simp] theorem State.setSec_pending (x : Sec) : (s.setSec x).pending = s.pending := rfl
@[simp] theorem State.setSec_rd (x : Sec) (f : Fld) (j : Nat) : (s.setSec x).rd f j = s.rd f j := rfl
@[simp] theorem State.setSec_rdA (x : Sec) (f : Fld) (j : Nat) : (s.setSec x).rdA f j = s.rdA f j := rfl
@[simp] theorem State.setSec_dirty (x : Sec) : (s.setSec x).dirty = s.dirty := rfl
@[simp] theorem State.setSec_pages (x : Sec) (j : Nat) : (s.setSec x).pages j = s.pages j := rfl
@[simp] theorem State.setSec_latch (x : Sec) (j : Nat) : (s.setSec x).latch j = s.latch j := rfl
@[simp] theorem State.setSec_tbu (x : Sec) : (s.setSec x).tbu = s.tbu := rfl
@[simp] theorem State.setSec_hostp (x : Sec) : (s.setSec x).hostp = s.hostp := rfl
@[simp] theorem State.setSec_recs (x : Sec) : (s.setSec x).recs = s.recs := rfl
@[simp] theorem State.setSec_prodq (x : Sec) : (s.setSec x).prodq = s.prodq := rfl
@[simp] theorem State.setSec_out (x : Sec) : (s.setSec x).out = s.out := rfl
@[simp] theorem State.setSec_freeCtr (x : Sec) : (s.setSec x).freeCtr = s.freeCtr := rfl
@[simp] theorem State.setSec_dom (x : Sec) (j : Nat) : (s.setSec x).dom j = s.dom j := rfl
@[simp] theorem State.setSec_dir (x : Sec) (j : Nat) : (s.setSec x).dir j = s.dir j := rfl
@[simp] theorem State.setSec_store (x : Sec) (j : Nat) : (s.setSec x).store j = s.store j := rfl
@[simp] theorem State.setSec_win (x : Sec) (j : Nat) : (s.setSec x).win j = s.win j := rfl
@[simp] theorem State.setSec_tab (x : Sec) (j : Nat) : (s.setSec x).tab j = s.tab j := rfl
@[simp] theorem State.setSec_apg (x : Sec) (j : Nat) : (s.setSec x).apg j = s.apg j := rfl
@[simp] theorem State.setSec_eng (x : Sec) (j : Nat) : (s.setSec x).eng j = s.eng j := rfl
@[simp] theorem State.setSec_lout (x : Sec) (j : Nat) : (s.setSec x).lout j = s.lout j := rfl
@[simp] theorem State.setSec_grp (x : Sec) (j : Nat) : (s.setSec x).grp j = s.grp j := rfl
@[simp] theorem State.setSec_ballClaim (x : Sec) (j : Nat) : (s.setSec x).ballClaim j = s.ballClaim j := rfl
@[simp] theorem State.setSec_ballOut (x : Sec) (j : Nat) : (s.setSec x).ballOut j = s.ballOut j := rfl
@[simp] theorem State.setSec_ballTb (x : Sec) (j : Nat) : (s.setSec x).ballTb j = s.ballTb j := rfl
@[simp] theorem State.setSec_arrivals (x : Sec) : (s.setSec x).arrivals = s.arrivals := rfl
@[simp] theorem State.setSec_drv (x : Sec) (j : Nat) : (s.setSec x).drv j = s.drv j := rfl
@[simp] theorem State.setSec_node (x : Sec) (j : Nat) : (s.setSec x).node j = s.node j := rfl
@[simp] theorem State.setSec_loupe (x : Sec) : (s.setSec x).loupe = s.loupe := rfl
@[simp] theorem State.setSec_crown (x : Sec) (j : Nat) : (s.setSec x).crown j = s.crown j := rfl
@[simp] theorem State.setSec_bank (x : Sec) (j : Nat) : (s.setSec x).bank j = s.bank j := rfl
@[simp] theorem State.setSec_sense (x : Sec) (j : Nat) : (s.setSec x).sense j = s.sense j := rfl
@[simp] theorem State.setSec_pin (x : Sec) (j : Nat) : (s.setSec x).pin j = s.pin j := rfl
@[simp] theorem State.setSec_lphy (x : Sec) (j : Nat) : (s.setSec x).lphy j = s.lphy j := rfl
@[simp] theorem State.setSec_cmpl (x : Sec) (j : Nat) : (s.setSec x).cmpl j = s.cmpl j := rfl
@[simp] theorem State.setSec_cmp (x : Sec) (j : Nat) : (s.setSec x).cmp j = s.cmp j := rfl
@[simp] theorem State.setSec_isl (x : Sec) (j : Nat) : (s.setSec x).isl j = s.isl j := rfl
@[simp] theorem State.setSec_rail (x : Sec) (j : Nat) : (s.setSec x).rail j = s.rail j := rfl
@[simp] theorem State.setSec_stop (x : Sec) (j : Nat) : (s.setSec x).stop j = s.stop j := rfl
@[simp] theorem State.setSec_totals (x : Sec) (j : Nat) : (s.setSec x).totals j = s.totals j := rfl
@[simp] theorem State.setSec_sbank (x : Sec) (j : Nat) : (s.setSec x).sbank j = s.sbank j := rfl
@[simp] theorem State.setSec_tpll (x : Sec) : (s.setSec x).tpll = s.tpll := rfl
@[simp] theorem State.setSec_quad (x : Sec) (j : Nat) : (s.setSec x).quad j = s.quad j := rfl
@[simp] theorem State.setSec_bring (x : Sec) : (s.setSec x).bring = s.bring := rfl
@[simp] theorem State.setSec_lustre (x : Sec) : (s.setSec x).lustre = s.lustre := rfl
@[simp] theorem State.setSec_port (x : Sec) (j : Nat) : (s.setSec x).port j = s.port j := rfl
@[simp] theorem State.setSec_evtb (x : Sec) (j : Nat) : (s.setSec x).evtb j = s.evtb j := rfl
@[simp] theorem State.setSec_route (x : Sec) (j : Nat) : (s.setSec x).route j = s.route j := rfl
@[simp] theorem State.setSec_swq (x : Sec) : (s.setSec x).swq = s.swq := rfl
@[simp] theorem State.setSec_timer (x : Sec) (j : Nat) : (s.setSec x).timer j = s.timer j := rfl
@[simp] theorem State.setSec_journal (x : Sec) : (s.setSec x).journal = s.journal := rfl
@[simp] theorem State.setSec_rflc (x : Sec) (j : Nat) : (s.setSec x).rflc j = s.rflc j := rfl
@[simp] theorem State.setSec_bursts (x : Sec) : (s.setSec x).bursts = s.bursts := rfl
@[simp] theorem State.setSec_cal (x : Sec) : (s.setSec x).cal = s.cal := rfl
@[simp] theorem State.setSec_casPort (x : Sec) (j : Nat) : (s.setSec x).casPort j = s.casPort j := rfl
@[simp] theorem State.setSec_cas (x : Sec) : (s.setSec x).cas = s.cas := rfl
@[simp] theorem State.setSec_lags (x : Sec) : (s.setSec x).lags = s.lags := rfl

/-! ### setRflc -/

@[simp] theorem State.setRflc_same (i : Nat) (x : Rfl) : (s.setRflc i x).rflc i = x := Sparse.get_set_same _ _ _ _
theorem State.setRflc_ne (i : Nat) (x : Rfl) {j : Nat} (h : j ≠ i) : (s.setRflc i x).rflc j = s.rflc j := Sparse.get_set_ne _ _ _ h
@[simp] theorem State.setRflc_epoch (i : Nat) (x : Rfl) : (s.setRflc i x).epoch = s.epoch := rfl
@[simp] theorem State.setRflc_tb (i : Nat) (x : Rfl) : (s.setRflc i x).tb = s.tb := rfl
@[simp] theorem State.setRflc_mem (i : Nat) (x : Rfl) : (s.setRflc i x).mem = s.mem := rfl
@[simp] theorem State.setRflc_pending (i : Nat) (x : Rfl) : (s.setRflc i x).pending = s.pending := rfl
@[simp] theorem State.setRflc_rd (i : Nat) (x : Rfl) (f : Fld) (j : Nat) : (s.setRflc i x).rd f j = s.rd f j := rfl
@[simp] theorem State.setRflc_rdA (i : Nat) (x : Rfl) (f : Fld) (j : Nat) : (s.setRflc i x).rdA f j = s.rdA f j := rfl
@[simp] theorem State.setRflc_dirty (i : Nat) (x : Rfl) : (s.setRflc i x).dirty = s.dirty := rfl
@[simp] theorem State.setRflc_pages (i : Nat) (x : Rfl) (j : Nat) : (s.setRflc i x).pages j = s.pages j := rfl
@[simp] theorem State.setRflc_latch (i : Nat) (x : Rfl) (j : Nat) : (s.setRflc i x).latch j = s.latch j := rfl
@[simp] theorem State.setRflc_tbu (i : Nat) (x : Rfl) : (s.setRflc i x).tbu = s.tbu := rfl
@[simp] theorem State.setRflc_hostp (i : Nat) (x : Rfl) : (s.setRflc i x).hostp = s.hostp := rfl
@[simp] theorem State.setRflc_recs (i : Nat) (x : Rfl) : (s.setRflc i x).recs = s.recs := rfl
@[simp] theorem State.setRflc_prodq (i : Nat) (x : Rfl) : (s.setRflc i x).prodq = s.prodq := rfl
@[simp] theorem State.setRflc_out (i : Nat) (x : Rfl) : (s.setRflc i x).out = s.out := rfl
@[simp] theorem State.setRflc_freeCtr (i : Nat) (x : Rfl) : (s.setRflc i x).freeCtr = s.freeCtr := rfl
@[simp] theorem State.setRflc_dom (i : Nat) (x : Rfl) (j : Nat) : (s.setRflc i x).dom j = s.dom j := rfl
@[simp] theorem State.setRflc_dir (i : Nat) (x : Rfl) (j : Nat) : (s.setRflc i x).dir j = s.dir j := rfl
@[simp] theorem State.setRflc_store (i : Nat) (x : Rfl) (j : Nat) : (s.setRflc i x).store j = s.store j := rfl
@[simp] theorem State.setRflc_win (i : Nat) (x : Rfl) (j : Nat) : (s.setRflc i x).win j = s.win j := rfl
@[simp] theorem State.setRflc_tab (i : Nat) (x : Rfl) (j : Nat) : (s.setRflc i x).tab j = s.tab j := rfl
@[simp] theorem State.setRflc_apg (i : Nat) (x : Rfl) (j : Nat) : (s.setRflc i x).apg j = s.apg j := rfl
@[simp] theorem State.setRflc_eng (i : Nat) (x : Rfl) (j : Nat) : (s.setRflc i x).eng j = s.eng j := rfl
@[simp] theorem State.setRflc_lout (i : Nat) (x : Rfl) (j : Nat) : (s.setRflc i x).lout j = s.lout j := rfl
@[simp] theorem State.setRflc_grp (i : Nat) (x : Rfl) (j : Nat) : (s.setRflc i x).grp j = s.grp j := rfl
@[simp] theorem State.setRflc_ballClaim (i : Nat) (x : Rfl) (j : Nat) : (s.setRflc i x).ballClaim j = s.ballClaim j := rfl
@[simp] theorem State.setRflc_ballOut (i : Nat) (x : Rfl) (j : Nat) : (s.setRflc i x).ballOut j = s.ballOut j := rfl
@[simp] theorem State.setRflc_ballTb (i : Nat) (x : Rfl) (j : Nat) : (s.setRflc i x).ballTb j = s.ballTb j := rfl
@[simp] theorem State.setRflc_arrivals (i : Nat) (x : Rfl) : (s.setRflc i x).arrivals = s.arrivals := rfl
@[simp] theorem State.setRflc_drv (i : Nat) (x : Rfl) (j : Nat) : (s.setRflc i x).drv j = s.drv j := rfl
@[simp] theorem State.setRflc_node (i : Nat) (x : Rfl) (j : Nat) : (s.setRflc i x).node j = s.node j := rfl
@[simp] theorem State.setRflc_loupe (i : Nat) (x : Rfl) : (s.setRflc i x).loupe = s.loupe := rfl
@[simp] theorem State.setRflc_crown (i : Nat) (x : Rfl) (j : Nat) : (s.setRflc i x).crown j = s.crown j := rfl
@[simp] theorem State.setRflc_bank (i : Nat) (x : Rfl) (j : Nat) : (s.setRflc i x).bank j = s.bank j := rfl
@[simp] theorem State.setRflc_sense (i : Nat) (x : Rfl) (j : Nat) : (s.setRflc i x).sense j = s.sense j := rfl
@[simp] theorem State.setRflc_pin (i : Nat) (x : Rfl) (j : Nat) : (s.setRflc i x).pin j = s.pin j := rfl
@[simp] theorem State.setRflc_lphy (i : Nat) (x : Rfl) (j : Nat) : (s.setRflc i x).lphy j = s.lphy j := rfl
@[simp] theorem State.setRflc_cmpl (i : Nat) (x : Rfl) (j : Nat) : (s.setRflc i x).cmpl j = s.cmpl j := rfl
@[simp] theorem State.setRflc_cmp (i : Nat) (x : Rfl) (j : Nat) : (s.setRflc i x).cmp j = s.cmp j := rfl
@[simp] theorem State.setRflc_isl (i : Nat) (x : Rfl) (j : Nat) : (s.setRflc i x).isl j = s.isl j := rfl
@[simp] theorem State.setRflc_rail (i : Nat) (x : Rfl) (j : Nat) : (s.setRflc i x).rail j = s.rail j := rfl
@[simp] theorem State.setRflc_stop (i : Nat) (x : Rfl) (j : Nat) : (s.setRflc i x).stop j = s.stop j := rfl
@[simp] theorem State.setRflc_totals (i : Nat) (x : Rfl) (j : Nat) : (s.setRflc i x).totals j = s.totals j := rfl
@[simp] theorem State.setRflc_sbank (i : Nat) (x : Rfl) (j : Nat) : (s.setRflc i x).sbank j = s.sbank j := rfl
@[simp] theorem State.setRflc_tpll (i : Nat) (x : Rfl) : (s.setRflc i x).tpll = s.tpll := rfl
@[simp] theorem State.setRflc_quad (i : Nat) (x : Rfl) (j : Nat) : (s.setRflc i x).quad j = s.quad j := rfl
@[simp] theorem State.setRflc_bring (i : Nat) (x : Rfl) : (s.setRflc i x).bring = s.bring := rfl
@[simp] theorem State.setRflc_lustre (i : Nat) (x : Rfl) : (s.setRflc i x).lustre = s.lustre := rfl
@[simp] theorem State.setRflc_port (i : Nat) (x : Rfl) (j : Nat) : (s.setRflc i x).port j = s.port j := rfl
@[simp] theorem State.setRflc_evtb (i : Nat) (x : Rfl) (j : Nat) : (s.setRflc i x).evtb j = s.evtb j := rfl
@[simp] theorem State.setRflc_route (i : Nat) (x : Rfl) (j : Nat) : (s.setRflc i x).route j = s.route j := rfl
@[simp] theorem State.setRflc_swq (i : Nat) (x : Rfl) : (s.setRflc i x).swq = s.swq := rfl
@[simp] theorem State.setRflc_timer (i : Nat) (x : Rfl) (j : Nat) : (s.setRflc i x).timer j = s.timer j := rfl
@[simp] theorem State.setRflc_journal (i : Nat) (x : Rfl) : (s.setRflc i x).journal = s.journal := rfl
@[simp] theorem State.setRflc_sec (i : Nat) (x : Rfl) : (s.setRflc i x).sec = s.sec := rfl
@[simp] theorem State.setRflc_bursts (i : Nat) (x : Rfl) : (s.setRflc i x).bursts = s.bursts := rfl
@[simp] theorem State.setRflc_cal (i : Nat) (x : Rfl) : (s.setRflc i x).cal = s.cal := rfl
@[simp] theorem State.setRflc_casPort (i : Nat) (x : Rfl) (j : Nat) : (s.setRflc i x).casPort j = s.casPort j := rfl
@[simp] theorem State.setRflc_cas (i : Nat) (x : Rfl) : (s.setRflc i x).cas = s.cas := rfl
@[simp] theorem State.setRflc_lags (i : Nat) (x : Rfl) : (s.setRflc i x).lags = s.lags := rfl

/-! ### setBursts -/

@[simp] theorem State.setBursts_same (x : Bursts) : (s.setBursts x).bursts = x := rfl
@[simp] theorem State.setBursts_epoch (x : Bursts) : (s.setBursts x).epoch = s.epoch := rfl
@[simp] theorem State.setBursts_tb (x : Bursts) : (s.setBursts x).tb = s.tb := rfl
@[simp] theorem State.setBursts_mem (x : Bursts) : (s.setBursts x).mem = s.mem := rfl
@[simp] theorem State.setBursts_pending (x : Bursts) : (s.setBursts x).pending = s.pending := rfl
@[simp] theorem State.setBursts_rd (x : Bursts) (f : Fld) (j : Nat) : (s.setBursts x).rd f j = s.rd f j := rfl
@[simp] theorem State.setBursts_rdA (x : Bursts) (f : Fld) (j : Nat) : (s.setBursts x).rdA f j = s.rdA f j := rfl
@[simp] theorem State.setBursts_dirty (x : Bursts) : (s.setBursts x).dirty = s.dirty := rfl
@[simp] theorem State.setBursts_pages (x : Bursts) (j : Nat) : (s.setBursts x).pages j = s.pages j := rfl
@[simp] theorem State.setBursts_latch (x : Bursts) (j : Nat) : (s.setBursts x).latch j = s.latch j := rfl
@[simp] theorem State.setBursts_tbu (x : Bursts) : (s.setBursts x).tbu = s.tbu := rfl
@[simp] theorem State.setBursts_hostp (x : Bursts) : (s.setBursts x).hostp = s.hostp := rfl
@[simp] theorem State.setBursts_recs (x : Bursts) : (s.setBursts x).recs = s.recs := rfl
@[simp] theorem State.setBursts_prodq (x : Bursts) : (s.setBursts x).prodq = s.prodq := rfl
@[simp] theorem State.setBursts_out (x : Bursts) : (s.setBursts x).out = s.out := rfl
@[simp] theorem State.setBursts_freeCtr (x : Bursts) : (s.setBursts x).freeCtr = s.freeCtr := rfl
@[simp] theorem State.setBursts_dom (x : Bursts) (j : Nat) : (s.setBursts x).dom j = s.dom j := rfl
@[simp] theorem State.setBursts_dir (x : Bursts) (j : Nat) : (s.setBursts x).dir j = s.dir j := rfl
@[simp] theorem State.setBursts_store (x : Bursts) (j : Nat) : (s.setBursts x).store j = s.store j := rfl
@[simp] theorem State.setBursts_win (x : Bursts) (j : Nat) : (s.setBursts x).win j = s.win j := rfl
@[simp] theorem State.setBursts_tab (x : Bursts) (j : Nat) : (s.setBursts x).tab j = s.tab j := rfl
@[simp] theorem State.setBursts_apg (x : Bursts) (j : Nat) : (s.setBursts x).apg j = s.apg j := rfl
@[simp] theorem State.setBursts_eng (x : Bursts) (j : Nat) : (s.setBursts x).eng j = s.eng j := rfl
@[simp] theorem State.setBursts_lout (x : Bursts) (j : Nat) : (s.setBursts x).lout j = s.lout j := rfl
@[simp] theorem State.setBursts_grp (x : Bursts) (j : Nat) : (s.setBursts x).grp j = s.grp j := rfl
@[simp] theorem State.setBursts_ballClaim (x : Bursts) (j : Nat) : (s.setBursts x).ballClaim j = s.ballClaim j := rfl
@[simp] theorem State.setBursts_ballOut (x : Bursts) (j : Nat) : (s.setBursts x).ballOut j = s.ballOut j := rfl
@[simp] theorem State.setBursts_ballTb (x : Bursts) (j : Nat) : (s.setBursts x).ballTb j = s.ballTb j := rfl
@[simp] theorem State.setBursts_arrivals (x : Bursts) : (s.setBursts x).arrivals = s.arrivals := rfl
@[simp] theorem State.setBursts_drv (x : Bursts) (j : Nat) : (s.setBursts x).drv j = s.drv j := rfl
@[simp] theorem State.setBursts_node (x : Bursts) (j : Nat) : (s.setBursts x).node j = s.node j := rfl
@[simp] theorem State.setBursts_loupe (x : Bursts) : (s.setBursts x).loupe = s.loupe := rfl
@[simp] theorem State.setBursts_crown (x : Bursts) (j : Nat) : (s.setBursts x).crown j = s.crown j := rfl
@[simp] theorem State.setBursts_bank (x : Bursts) (j : Nat) : (s.setBursts x).bank j = s.bank j := rfl
@[simp] theorem State.setBursts_sense (x : Bursts) (j : Nat) : (s.setBursts x).sense j = s.sense j := rfl
@[simp] theorem State.setBursts_pin (x : Bursts) (j : Nat) : (s.setBursts x).pin j = s.pin j := rfl
@[simp] theorem State.setBursts_lphy (x : Bursts) (j : Nat) : (s.setBursts x).lphy j = s.lphy j := rfl
@[simp] theorem State.setBursts_cmpl (x : Bursts) (j : Nat) : (s.setBursts x).cmpl j = s.cmpl j := rfl
@[simp] theorem State.setBursts_cmp (x : Bursts) (j : Nat) : (s.setBursts x).cmp j = s.cmp j := rfl
@[simp] theorem State.setBursts_isl (x : Bursts) (j : Nat) : (s.setBursts x).isl j = s.isl j := rfl
@[simp] theorem State.setBursts_rail (x : Bursts) (j : Nat) : (s.setBursts x).rail j = s.rail j := rfl
@[simp] theorem State.setBursts_stop (x : Bursts) (j : Nat) : (s.setBursts x).stop j = s.stop j := rfl
@[simp] theorem State.setBursts_totals (x : Bursts) (j : Nat) : (s.setBursts x).totals j = s.totals j := rfl
@[simp] theorem State.setBursts_sbank (x : Bursts) (j : Nat) : (s.setBursts x).sbank j = s.sbank j := rfl
@[simp] theorem State.setBursts_tpll (x : Bursts) : (s.setBursts x).tpll = s.tpll := rfl
@[simp] theorem State.setBursts_quad (x : Bursts) (j : Nat) : (s.setBursts x).quad j = s.quad j := rfl
@[simp] theorem State.setBursts_bring (x : Bursts) : (s.setBursts x).bring = s.bring := rfl
@[simp] theorem State.setBursts_lustre (x : Bursts) : (s.setBursts x).lustre = s.lustre := rfl
@[simp] theorem State.setBursts_port (x : Bursts) (j : Nat) : (s.setBursts x).port j = s.port j := rfl
@[simp] theorem State.setBursts_evtb (x : Bursts) (j : Nat) : (s.setBursts x).evtb j = s.evtb j := rfl
@[simp] theorem State.setBursts_route (x : Bursts) (j : Nat) : (s.setBursts x).route j = s.route j := rfl
@[simp] theorem State.setBursts_swq (x : Bursts) : (s.setBursts x).swq = s.swq := rfl
@[simp] theorem State.setBursts_timer (x : Bursts) (j : Nat) : (s.setBursts x).timer j = s.timer j := rfl
@[simp] theorem State.setBursts_journal (x : Bursts) : (s.setBursts x).journal = s.journal := rfl
@[simp] theorem State.setBursts_sec (x : Bursts) : (s.setBursts x).sec = s.sec := rfl
@[simp] theorem State.setBursts_rflc (x : Bursts) (j : Nat) : (s.setBursts x).rflc j = s.rflc j := rfl
@[simp] theorem State.setBursts_cal (x : Bursts) : (s.setBursts x).cal = s.cal := rfl
@[simp] theorem State.setBursts_casPort (x : Bursts) (j : Nat) : (s.setBursts x).casPort j = s.casPort j := rfl
@[simp] theorem State.setBursts_cas (x : Bursts) : (s.setBursts x).cas = s.cas := rfl
@[simp] theorem State.setBursts_lags (x : Bursts) : (s.setBursts x).lags = s.lags := rfl

/-! ### setCal -/

@[simp] theorem State.setCal_same (x : Cal) : (s.setCal x).cal = x := rfl
@[simp] theorem State.setCal_epoch (x : Cal) : (s.setCal x).epoch = s.epoch := rfl
@[simp] theorem State.setCal_tb (x : Cal) : (s.setCal x).tb = s.tb := rfl
@[simp] theorem State.setCal_mem (x : Cal) : (s.setCal x).mem = s.mem := rfl
@[simp] theorem State.setCal_pending (x : Cal) : (s.setCal x).pending = s.pending := rfl
@[simp] theorem State.setCal_rd (x : Cal) (f : Fld) (j : Nat) : (s.setCal x).rd f j = s.rd f j := rfl
@[simp] theorem State.setCal_rdA (x : Cal) (f : Fld) (j : Nat) : (s.setCal x).rdA f j = s.rdA f j := rfl
@[simp] theorem State.setCal_dirty (x : Cal) : (s.setCal x).dirty = s.dirty := rfl
@[simp] theorem State.setCal_pages (x : Cal) (j : Nat) : (s.setCal x).pages j = s.pages j := rfl
@[simp] theorem State.setCal_latch (x : Cal) (j : Nat) : (s.setCal x).latch j = s.latch j := rfl
@[simp] theorem State.setCal_tbu (x : Cal) : (s.setCal x).tbu = s.tbu := rfl
@[simp] theorem State.setCal_hostp (x : Cal) : (s.setCal x).hostp = s.hostp := rfl
@[simp] theorem State.setCal_recs (x : Cal) : (s.setCal x).recs = s.recs := rfl
@[simp] theorem State.setCal_prodq (x : Cal) : (s.setCal x).prodq = s.prodq := rfl
@[simp] theorem State.setCal_out (x : Cal) : (s.setCal x).out = s.out := rfl
@[simp] theorem State.setCal_freeCtr (x : Cal) : (s.setCal x).freeCtr = s.freeCtr := rfl
@[simp] theorem State.setCal_dom (x : Cal) (j : Nat) : (s.setCal x).dom j = s.dom j := rfl
@[simp] theorem State.setCal_dir (x : Cal) (j : Nat) : (s.setCal x).dir j = s.dir j := rfl
@[simp] theorem State.setCal_store (x : Cal) (j : Nat) : (s.setCal x).store j = s.store j := rfl
@[simp] theorem State.setCal_win (x : Cal) (j : Nat) : (s.setCal x).win j = s.win j := rfl
@[simp] theorem State.setCal_tab (x : Cal) (j : Nat) : (s.setCal x).tab j = s.tab j := rfl
@[simp] theorem State.setCal_apg (x : Cal) (j : Nat) : (s.setCal x).apg j = s.apg j := rfl
@[simp] theorem State.setCal_eng (x : Cal) (j : Nat) : (s.setCal x).eng j = s.eng j := rfl
@[simp] theorem State.setCal_lout (x : Cal) (j : Nat) : (s.setCal x).lout j = s.lout j := rfl
@[simp] theorem State.setCal_grp (x : Cal) (j : Nat) : (s.setCal x).grp j = s.grp j := rfl
@[simp] theorem State.setCal_ballClaim (x : Cal) (j : Nat) : (s.setCal x).ballClaim j = s.ballClaim j := rfl
@[simp] theorem State.setCal_ballOut (x : Cal) (j : Nat) : (s.setCal x).ballOut j = s.ballOut j := rfl
@[simp] theorem State.setCal_ballTb (x : Cal) (j : Nat) : (s.setCal x).ballTb j = s.ballTb j := rfl
@[simp] theorem State.setCal_arrivals (x : Cal) : (s.setCal x).arrivals = s.arrivals := rfl
@[simp] theorem State.setCal_drv (x : Cal) (j : Nat) : (s.setCal x).drv j = s.drv j := rfl
@[simp] theorem State.setCal_node (x : Cal) (j : Nat) : (s.setCal x).node j = s.node j := rfl
@[simp] theorem State.setCal_loupe (x : Cal) : (s.setCal x).loupe = s.loupe := rfl
@[simp] theorem State.setCal_crown (x : Cal) (j : Nat) : (s.setCal x).crown j = s.crown j := rfl
@[simp] theorem State.setCal_bank (x : Cal) (j : Nat) : (s.setCal x).bank j = s.bank j := rfl
@[simp] theorem State.setCal_sense (x : Cal) (j : Nat) : (s.setCal x).sense j = s.sense j := rfl
@[simp] theorem State.setCal_pin (x : Cal) (j : Nat) : (s.setCal x).pin j = s.pin j := rfl
@[simp] theorem State.setCal_lphy (x : Cal) (j : Nat) : (s.setCal x).lphy j = s.lphy j := rfl
@[simp] theorem State.setCal_cmpl (x : Cal) (j : Nat) : (s.setCal x).cmpl j = s.cmpl j := rfl
@[simp] theorem State.setCal_cmp (x : Cal) (j : Nat) : (s.setCal x).cmp j = s.cmp j := rfl
@[simp] theorem State.setCal_isl (x : Cal) (j : Nat) : (s.setCal x).isl j = s.isl j := rfl
@[simp] theorem State.setCal_rail (x : Cal) (j : Nat) : (s.setCal x).rail j = s.rail j := rfl
@[simp] theorem State.setCal_stop (x : Cal) (j : Nat) : (s.setCal x).stop j = s.stop j := rfl
@[simp] theorem State.setCal_totals (x : Cal) (j : Nat) : (s.setCal x).totals j = s.totals j := rfl
@[simp] theorem State.setCal_sbank (x : Cal) (j : Nat) : (s.setCal x).sbank j = s.sbank j := rfl
@[simp] theorem State.setCal_tpll (x : Cal) : (s.setCal x).tpll = s.tpll := rfl
@[simp] theorem State.setCal_quad (x : Cal) (j : Nat) : (s.setCal x).quad j = s.quad j := rfl
@[simp] theorem State.setCal_bring (x : Cal) : (s.setCal x).bring = s.bring := rfl
@[simp] theorem State.setCal_lustre (x : Cal) : (s.setCal x).lustre = s.lustre := rfl
@[simp] theorem State.setCal_port (x : Cal) (j : Nat) : (s.setCal x).port j = s.port j := rfl
@[simp] theorem State.setCal_evtb (x : Cal) (j : Nat) : (s.setCal x).evtb j = s.evtb j := rfl
@[simp] theorem State.setCal_route (x : Cal) (j : Nat) : (s.setCal x).route j = s.route j := rfl
@[simp] theorem State.setCal_swq (x : Cal) : (s.setCal x).swq = s.swq := rfl
@[simp] theorem State.setCal_timer (x : Cal) (j : Nat) : (s.setCal x).timer j = s.timer j := rfl
@[simp] theorem State.setCal_journal (x : Cal) : (s.setCal x).journal = s.journal := rfl
@[simp] theorem State.setCal_sec (x : Cal) : (s.setCal x).sec = s.sec := rfl
@[simp] theorem State.setCal_rflc (x : Cal) (j : Nat) : (s.setCal x).rflc j = s.rflc j := rfl
@[simp] theorem State.setCal_bursts (x : Cal) : (s.setCal x).bursts = s.bursts := rfl
@[simp] theorem State.setCal_casPort (x : Cal) (j : Nat) : (s.setCal x).casPort j = s.casPort j := rfl
@[simp] theorem State.setCal_cas (x : Cal) : (s.setCal x).cas = s.cas := rfl
@[simp] theorem State.setCal_lags (x : Cal) : (s.setCal x).lags = s.lags := rfl

/-! ### setCasPort -/

@[simp] theorem State.setCasPort_same (i : Nat) (x : CasPort) : (s.setCasPort i x).casPort i = x := Sparse.get_set_same _ _ _ _
theorem State.setCasPort_ne (i : Nat) (x : CasPort) {j : Nat} (h : j ≠ i) : (s.setCasPort i x).casPort j = s.casPort j := Sparse.get_set_ne _ _ _ h
@[simp] theorem State.setCasPort_epoch (i : Nat) (x : CasPort) : (s.setCasPort i x).epoch = s.epoch := rfl
@[simp] theorem State.setCasPort_tb (i : Nat) (x : CasPort) : (s.setCasPort i x).tb = s.tb := rfl
@[simp] theorem State.setCasPort_mem (i : Nat) (x : CasPort) : (s.setCasPort i x).mem = s.mem := rfl
@[simp] theorem State.setCasPort_pending (i : Nat) (x : CasPort) : (s.setCasPort i x).pending = s.pending := rfl
@[simp] theorem State.setCasPort_rd (i : Nat) (x : CasPort) (f : Fld) (j : Nat) : (s.setCasPort i x).rd f j = s.rd f j := rfl
@[simp] theorem State.setCasPort_rdA (i : Nat) (x : CasPort) (f : Fld) (j : Nat) : (s.setCasPort i x).rdA f j = s.rdA f j := rfl
@[simp] theorem State.setCasPort_dirty (i : Nat) (x : CasPort) : (s.setCasPort i x).dirty = s.dirty := rfl
@[simp] theorem State.setCasPort_pages (i : Nat) (x : CasPort) (j : Nat) : (s.setCasPort i x).pages j = s.pages j := rfl
@[simp] theorem State.setCasPort_latch (i : Nat) (x : CasPort) (j : Nat) : (s.setCasPort i x).latch j = s.latch j := rfl
@[simp] theorem State.setCasPort_tbu (i : Nat) (x : CasPort) : (s.setCasPort i x).tbu = s.tbu := rfl
@[simp] theorem State.setCasPort_hostp (i : Nat) (x : CasPort) : (s.setCasPort i x).hostp = s.hostp := rfl
@[simp] theorem State.setCasPort_recs (i : Nat) (x : CasPort) : (s.setCasPort i x).recs = s.recs := rfl
@[simp] theorem State.setCasPort_prodq (i : Nat) (x : CasPort) : (s.setCasPort i x).prodq = s.prodq := rfl
@[simp] theorem State.setCasPort_out (i : Nat) (x : CasPort) : (s.setCasPort i x).out = s.out := rfl
@[simp] theorem State.setCasPort_freeCtr (i : Nat) (x : CasPort) : (s.setCasPort i x).freeCtr = s.freeCtr := rfl
@[simp] theorem State.setCasPort_dom (i : Nat) (x : CasPort) (j : Nat) : (s.setCasPort i x).dom j = s.dom j := rfl
@[simp] theorem State.setCasPort_dir (i : Nat) (x : CasPort) (j : Nat) : (s.setCasPort i x).dir j = s.dir j := rfl
@[simp] theorem State.setCasPort_store (i : Nat) (x : CasPort) (j : Nat) : (s.setCasPort i x).store j = s.store j := rfl
@[simp] theorem State.setCasPort_win (i : Nat) (x : CasPort) (j : Nat) : (s.setCasPort i x).win j = s.win j := rfl
@[simp] theorem State.setCasPort_tab (i : Nat) (x : CasPort) (j : Nat) : (s.setCasPort i x).tab j = s.tab j := rfl
@[simp] theorem State.setCasPort_apg (i : Nat) (x : CasPort) (j : Nat) : (s.setCasPort i x).apg j = s.apg j := rfl
@[simp] theorem State.setCasPort_eng (i : Nat) (x : CasPort) (j : Nat) : (s.setCasPort i x).eng j = s.eng j := rfl
@[simp] theorem State.setCasPort_lout (i : Nat) (x : CasPort) (j : Nat) : (s.setCasPort i x).lout j = s.lout j := rfl
@[simp] theorem State.setCasPort_grp (i : Nat) (x : CasPort) (j : Nat) : (s.setCasPort i x).grp j = s.grp j := rfl
@[simp] theorem State.setCasPort_ballClaim (i : Nat) (x : CasPort) (j : Nat) : (s.setCasPort i x).ballClaim j = s.ballClaim j := rfl
@[simp] theorem State.setCasPort_ballOut (i : Nat) (x : CasPort) (j : Nat) : (s.setCasPort i x).ballOut j = s.ballOut j := rfl
@[simp] theorem State.setCasPort_ballTb (i : Nat) (x : CasPort) (j : Nat) : (s.setCasPort i x).ballTb j = s.ballTb j := rfl
@[simp] theorem State.setCasPort_arrivals (i : Nat) (x : CasPort) : (s.setCasPort i x).arrivals = s.arrivals := rfl
@[simp] theorem State.setCasPort_drv (i : Nat) (x : CasPort) (j : Nat) : (s.setCasPort i x).drv j = s.drv j := rfl
@[simp] theorem State.setCasPort_node (i : Nat) (x : CasPort) (j : Nat) : (s.setCasPort i x).node j = s.node j := rfl
@[simp] theorem State.setCasPort_loupe (i : Nat) (x : CasPort) : (s.setCasPort i x).loupe = s.loupe := rfl
@[simp] theorem State.setCasPort_crown (i : Nat) (x : CasPort) (j : Nat) : (s.setCasPort i x).crown j = s.crown j := rfl
@[simp] theorem State.setCasPort_bank (i : Nat) (x : CasPort) (j : Nat) : (s.setCasPort i x).bank j = s.bank j := rfl
@[simp] theorem State.setCasPort_sense (i : Nat) (x : CasPort) (j : Nat) : (s.setCasPort i x).sense j = s.sense j := rfl
@[simp] theorem State.setCasPort_pin (i : Nat) (x : CasPort) (j : Nat) : (s.setCasPort i x).pin j = s.pin j := rfl
@[simp] theorem State.setCasPort_lphy (i : Nat) (x : CasPort) (j : Nat) : (s.setCasPort i x).lphy j = s.lphy j := rfl
@[simp] theorem State.setCasPort_cmpl (i : Nat) (x : CasPort) (j : Nat) : (s.setCasPort i x).cmpl j = s.cmpl j := rfl
@[simp] theorem State.setCasPort_cmp (i : Nat) (x : CasPort) (j : Nat) : (s.setCasPort i x).cmp j = s.cmp j := rfl
@[simp] theorem State.setCasPort_isl (i : Nat) (x : CasPort) (j : Nat) : (s.setCasPort i x).isl j = s.isl j := rfl
@[simp] theorem State.setCasPort_rail (i : Nat) (x : CasPort) (j : Nat) : (s.setCasPort i x).rail j = s.rail j := rfl
@[simp] theorem State.setCasPort_stop (i : Nat) (x : CasPort) (j : Nat) : (s.setCasPort i x).stop j = s.stop j := rfl
@[simp] theorem State.setCasPort_totals (i : Nat) (x : CasPort) (j : Nat) : (s.setCasPort i x).totals j = s.totals j := rfl
@[simp] theorem State.setCasPort_sbank (i : Nat) (x : CasPort) (j : Nat) : (s.setCasPort i x).sbank j = s.sbank j := rfl
@[simp] theorem State.setCasPort_tpll (i : Nat) (x : CasPort) : (s.setCasPort i x).tpll = s.tpll := rfl
@[simp] theorem State.setCasPort_quad (i : Nat) (x : CasPort) (j : Nat) : (s.setCasPort i x).quad j = s.quad j := rfl
@[simp] theorem State.setCasPort_bring (i : Nat) (x : CasPort) : (s.setCasPort i x).bring = s.bring := rfl
@[simp] theorem State.setCasPort_lustre (i : Nat) (x : CasPort) : (s.setCasPort i x).lustre = s.lustre := rfl
@[simp] theorem State.setCasPort_port (i : Nat) (x : CasPort) (j : Nat) : (s.setCasPort i x).port j = s.port j := rfl
@[simp] theorem State.setCasPort_evtb (i : Nat) (x : CasPort) (j : Nat) : (s.setCasPort i x).evtb j = s.evtb j := rfl
@[simp] theorem State.setCasPort_route (i : Nat) (x : CasPort) (j : Nat) : (s.setCasPort i x).route j = s.route j := rfl
@[simp] theorem State.setCasPort_swq (i : Nat) (x : CasPort) : (s.setCasPort i x).swq = s.swq := rfl
@[simp] theorem State.setCasPort_timer (i : Nat) (x : CasPort) (j : Nat) : (s.setCasPort i x).timer j = s.timer j := rfl
@[simp] theorem State.setCasPort_journal (i : Nat) (x : CasPort) : (s.setCasPort i x).journal = s.journal := rfl
@[simp] theorem State.setCasPort_sec (i : Nat) (x : CasPort) : (s.setCasPort i x).sec = s.sec := rfl
@[simp] theorem State.setCasPort_rflc (i : Nat) (x : CasPort) (j : Nat) : (s.setCasPort i x).rflc j = s.rflc j := rfl
@[simp] theorem State.setCasPort_bursts (i : Nat) (x : CasPort) : (s.setCasPort i x).bursts = s.bursts := rfl
@[simp] theorem State.setCasPort_cal (i : Nat) (x : CasPort) : (s.setCasPort i x).cal = s.cal := rfl
@[simp] theorem State.setCasPort_cas (i : Nat) (x : CasPort) : (s.setCasPort i x).cas = s.cas := rfl
@[simp] theorem State.setCasPort_lags (i : Nat) (x : CasPort) : (s.setCasPort i x).lags = s.lags := rfl

/-! ### setCas -/

@[simp] theorem State.setCas_same (x : Cas) : (s.setCas x).cas = x := rfl
@[simp] theorem State.setCas_epoch (x : Cas) : (s.setCas x).epoch = s.epoch := rfl
@[simp] theorem State.setCas_tb (x : Cas) : (s.setCas x).tb = s.tb := rfl
@[simp] theorem State.setCas_mem (x : Cas) : (s.setCas x).mem = s.mem := rfl
@[simp] theorem State.setCas_pending (x : Cas) : (s.setCas x).pending = s.pending := rfl
@[simp] theorem State.setCas_rd (x : Cas) (f : Fld) (j : Nat) : (s.setCas x).rd f j = s.rd f j := rfl
@[simp] theorem State.setCas_rdA (x : Cas) (f : Fld) (j : Nat) : (s.setCas x).rdA f j = s.rdA f j := rfl
@[simp] theorem State.setCas_dirty (x : Cas) : (s.setCas x).dirty = s.dirty := rfl
@[simp] theorem State.setCas_pages (x : Cas) (j : Nat) : (s.setCas x).pages j = s.pages j := rfl
@[simp] theorem State.setCas_latch (x : Cas) (j : Nat) : (s.setCas x).latch j = s.latch j := rfl
@[simp] theorem State.setCas_tbu (x : Cas) : (s.setCas x).tbu = s.tbu := rfl
@[simp] theorem State.setCas_hostp (x : Cas) : (s.setCas x).hostp = s.hostp := rfl
@[simp] theorem State.setCas_recs (x : Cas) : (s.setCas x).recs = s.recs := rfl
@[simp] theorem State.setCas_prodq (x : Cas) : (s.setCas x).prodq = s.prodq := rfl
@[simp] theorem State.setCas_out (x : Cas) : (s.setCas x).out = s.out := rfl
@[simp] theorem State.setCas_freeCtr (x : Cas) : (s.setCas x).freeCtr = s.freeCtr := rfl
@[simp] theorem State.setCas_dom (x : Cas) (j : Nat) : (s.setCas x).dom j = s.dom j := rfl
@[simp] theorem State.setCas_dir (x : Cas) (j : Nat) : (s.setCas x).dir j = s.dir j := rfl
@[simp] theorem State.setCas_store (x : Cas) (j : Nat) : (s.setCas x).store j = s.store j := rfl
@[simp] theorem State.setCas_win (x : Cas) (j : Nat) : (s.setCas x).win j = s.win j := rfl
@[simp] theorem State.setCas_tab (x : Cas) (j : Nat) : (s.setCas x).tab j = s.tab j := rfl
@[simp] theorem State.setCas_apg (x : Cas) (j : Nat) : (s.setCas x).apg j = s.apg j := rfl
@[simp] theorem State.setCas_eng (x : Cas) (j : Nat) : (s.setCas x).eng j = s.eng j := rfl
@[simp] theorem State.setCas_lout (x : Cas) (j : Nat) : (s.setCas x).lout j = s.lout j := rfl
@[simp] theorem State.setCas_grp (x : Cas) (j : Nat) : (s.setCas x).grp j = s.grp j := rfl
@[simp] theorem State.setCas_ballClaim (x : Cas) (j : Nat) : (s.setCas x).ballClaim j = s.ballClaim j := rfl
@[simp] theorem State.setCas_ballOut (x : Cas) (j : Nat) : (s.setCas x).ballOut j = s.ballOut j := rfl
@[simp] theorem State.setCas_ballTb (x : Cas) (j : Nat) : (s.setCas x).ballTb j = s.ballTb j := rfl
@[simp] theorem State.setCas_arrivals (x : Cas) : (s.setCas x).arrivals = s.arrivals := rfl
@[simp] theorem State.setCas_drv (x : Cas) (j : Nat) : (s.setCas x).drv j = s.drv j := rfl
@[simp] theorem State.setCas_node (x : Cas) (j : Nat) : (s.setCas x).node j = s.node j := rfl
@[simp] theorem State.setCas_loupe (x : Cas) : (s.setCas x).loupe = s.loupe := rfl
@[simp] theorem State.setCas_crown (x : Cas) (j : Nat) : (s.setCas x).crown j = s.crown j := rfl
@[simp] theorem State.setCas_bank (x : Cas) (j : Nat) : (s.setCas x).bank j = s.bank j := rfl
@[simp] theorem State.setCas_sense (x : Cas) (j : Nat) : (s.setCas x).sense j = s.sense j := rfl
@[simp] theorem State.setCas_pin (x : Cas) (j : Nat) : (s.setCas x).pin j = s.pin j := rfl
@[simp] theorem State.setCas_lphy (x : Cas) (j : Nat) : (s.setCas x).lphy j = s.lphy j := rfl
@[simp] theorem State.setCas_cmpl (x : Cas) (j : Nat) : (s.setCas x).cmpl j = s.cmpl j := rfl
@[simp] theorem State.setCas_cmp (x : Cas) (j : Nat) : (s.setCas x).cmp j = s.cmp j := rfl
@[simp] theorem State.setCas_isl (x : Cas) (j : Nat) : (s.setCas x).isl j = s.isl j := rfl
@[simp] theorem State.setCas_rail (x : Cas) (j : Nat) : (s.setCas x).rail j = s.rail j := rfl
@[simp] theorem State.setCas_stop (x : Cas) (j : Nat) : (s.setCas x).stop j = s.stop j := rfl
@[simp] theorem State.setCas_totals (x : Cas) (j : Nat) : (s.setCas x).totals j = s.totals j := rfl
@[simp] theorem State.setCas_sbank (x : Cas) (j : Nat) : (s.setCas x).sbank j = s.sbank j := rfl
@[simp] theorem State.setCas_tpll (x : Cas) : (s.setCas x).tpll = s.tpll := rfl
@[simp] theorem State.setCas_quad (x : Cas) (j : Nat) : (s.setCas x).quad j = s.quad j := rfl
@[simp] theorem State.setCas_bring (x : Cas) : (s.setCas x).bring = s.bring := rfl
@[simp] theorem State.setCas_lustre (x : Cas) : (s.setCas x).lustre = s.lustre := rfl
@[simp] theorem State.setCas_port (x : Cas) (j : Nat) : (s.setCas x).port j = s.port j := rfl
@[simp] theorem State.setCas_evtb (x : Cas) (j : Nat) : (s.setCas x).evtb j = s.evtb j := rfl
@[simp] theorem State.setCas_route (x : Cas) (j : Nat) : (s.setCas x).route j = s.route j := rfl
@[simp] theorem State.setCas_swq (x : Cas) : (s.setCas x).swq = s.swq := rfl
@[simp] theorem State.setCas_timer (x : Cas) (j : Nat) : (s.setCas x).timer j = s.timer j := rfl
@[simp] theorem State.setCas_journal (x : Cas) : (s.setCas x).journal = s.journal := rfl
@[simp] theorem State.setCas_sec (x : Cas) : (s.setCas x).sec = s.sec := rfl
@[simp] theorem State.setCas_rflc (x : Cas) (j : Nat) : (s.setCas x).rflc j = s.rflc j := rfl
@[simp] theorem State.setCas_bursts (x : Cas) : (s.setCas x).bursts = s.bursts := rfl
@[simp] theorem State.setCas_cal (x : Cas) : (s.setCas x).cal = s.cal := rfl
@[simp] theorem State.setCas_casPort (x : Cas) (j : Nat) : (s.setCas x).casPort j = s.casPort j := rfl
@[simp] theorem State.setCas_lags (x : Cas) : (s.setCas x).lags = s.lags := rfl

/-! ### setLags -/

@[simp] theorem State.setLags_same (x : List (Nat × Nat × Nat)) : (s.setLags x).lags = x := rfl
@[simp] theorem State.setLags_epoch (x : List (Nat × Nat × Nat)) : (s.setLags x).epoch = s.epoch := rfl
@[simp] theorem State.setLags_tb (x : List (Nat × Nat × Nat)) : (s.setLags x).tb = s.tb := rfl
@[simp] theorem State.setLags_mem (x : List (Nat × Nat × Nat)) : (s.setLags x).mem = s.mem := rfl
@[simp] theorem State.setLags_pending (x : List (Nat × Nat × Nat)) : (s.setLags x).pending = s.pending := rfl
@[simp] theorem State.setLags_rd (x : List (Nat × Nat × Nat)) (f : Fld) (j : Nat) : (s.setLags x).rd f j = s.rd f j := rfl
@[simp] theorem State.setLags_rdA (x : List (Nat × Nat × Nat)) (f : Fld) (j : Nat) : (s.setLags x).rdA f j = s.rdA f j := rfl
@[simp] theorem State.setLags_dirty (x : List (Nat × Nat × Nat)) : (s.setLags x).dirty = s.dirty := rfl
@[simp] theorem State.setLags_pages (x : List (Nat × Nat × Nat)) (j : Nat) : (s.setLags x).pages j = s.pages j := rfl
@[simp] theorem State.setLags_latch (x : List (Nat × Nat × Nat)) (j : Nat) : (s.setLags x).latch j = s.latch j := rfl
@[simp] theorem State.setLags_tbu (x : List (Nat × Nat × Nat)) : (s.setLags x).tbu = s.tbu := rfl
@[simp] theorem State.setLags_hostp (x : List (Nat × Nat × Nat)) : (s.setLags x).hostp = s.hostp := rfl
@[simp] theorem State.setLags_recs (x : List (Nat × Nat × Nat)) : (s.setLags x).recs = s.recs := rfl
@[simp] theorem State.setLags_prodq (x : List (Nat × Nat × Nat)) : (s.setLags x).prodq = s.prodq := rfl
@[simp] theorem State.setLags_out (x : List (Nat × Nat × Nat)) : (s.setLags x).out = s.out := rfl
@[simp] theorem State.setLags_freeCtr (x : List (Nat × Nat × Nat)) : (s.setLags x).freeCtr = s.freeCtr := rfl
@[simp] theorem State.setLags_dom (x : List (Nat × Nat × Nat)) (j : Nat) : (s.setLags x).dom j = s.dom j := rfl
@[simp] theorem State.setLags_dir (x : List (Nat × Nat × Nat)) (j : Nat) : (s.setLags x).dir j = s.dir j := rfl
@[simp] theorem State.setLags_store (x : List (Nat × Nat × Nat)) (j : Nat) : (s.setLags x).store j = s.store j := rfl
@[simp] theorem State.setLags_win (x : List (Nat × Nat × Nat)) (j : Nat) : (s.setLags x).win j = s.win j := rfl
@[simp] theorem State.setLags_tab (x : List (Nat × Nat × Nat)) (j : Nat) : (s.setLags x).tab j = s.tab j := rfl
@[simp] theorem State.setLags_apg (x : List (Nat × Nat × Nat)) (j : Nat) : (s.setLags x).apg j = s.apg j := rfl
@[simp] theorem State.setLags_eng (x : List (Nat × Nat × Nat)) (j : Nat) : (s.setLags x).eng j = s.eng j := rfl
@[simp] theorem State.setLags_lout (x : List (Nat × Nat × Nat)) (j : Nat) : (s.setLags x).lout j = s.lout j := rfl
@[simp] theorem State.setLags_grp (x : List (Nat × Nat × Nat)) (j : Nat) : (s.setLags x).grp j = s.grp j := rfl
@[simp] theorem State.setLags_ballClaim (x : List (Nat × Nat × Nat)) (j : Nat) : (s.setLags x).ballClaim j = s.ballClaim j := rfl
@[simp] theorem State.setLags_ballOut (x : List (Nat × Nat × Nat)) (j : Nat) : (s.setLags x).ballOut j = s.ballOut j := rfl
@[simp] theorem State.setLags_ballTb (x : List (Nat × Nat × Nat)) (j : Nat) : (s.setLags x).ballTb j = s.ballTb j := rfl
@[simp] theorem State.setLags_arrivals (x : List (Nat × Nat × Nat)) : (s.setLags x).arrivals = s.arrivals := rfl
@[simp] theorem State.setLags_drv (x : List (Nat × Nat × Nat)) (j : Nat) : (s.setLags x).drv j = s.drv j := rfl
@[simp] theorem State.setLags_node (x : List (Nat × Nat × Nat)) (j : Nat) : (s.setLags x).node j = s.node j := rfl
@[simp] theorem State.setLags_loupe (x : List (Nat × Nat × Nat)) : (s.setLags x).loupe = s.loupe := rfl
@[simp] theorem State.setLags_crown (x : List (Nat × Nat × Nat)) (j : Nat) : (s.setLags x).crown j = s.crown j := rfl
@[simp] theorem State.setLags_bank (x : List (Nat × Nat × Nat)) (j : Nat) : (s.setLags x).bank j = s.bank j := rfl
@[simp] theorem State.setLags_sense (x : List (Nat × Nat × Nat)) (j : Nat) : (s.setLags x).sense j = s.sense j := rfl
@[simp] theorem State.setLags_pin (x : List (Nat × Nat × Nat)) (j : Nat) : (s.setLags x).pin j = s.pin j := rfl
@[simp] theorem State.setLags_lphy (x : List (Nat × Nat × Nat)) (j : Nat) : (s.setLags x).lphy j = s.lphy j := rfl
@[simp] theorem State.setLags_cmpl (x : List (Nat × Nat × Nat)) (j : Nat) : (s.setLags x).cmpl j = s.cmpl j := rfl
@[simp] theorem State.setLags_cmp (x : List (Nat × Nat × Nat)) (j : Nat) : (s.setLags x).cmp j = s.cmp j := rfl
@[simp] theorem State.setLags_isl (x : List (Nat × Nat × Nat)) (j : Nat) : (s.setLags x).isl j = s.isl j := rfl
@[simp] theorem State.setLags_rail (x : List (Nat × Nat × Nat)) (j : Nat) : (s.setLags x).rail j = s.rail j := rfl
@[simp] theorem State.setLags_stop (x : List (Nat × Nat × Nat)) (j : Nat) : (s.setLags x).stop j = s.stop j := rfl
@[simp] theorem State.setLags_totals (x : List (Nat × Nat × Nat)) (j : Nat) : (s.setLags x).totals j = s.totals j := rfl
@[simp] theorem State.setLags_sbank (x : List (Nat × Nat × Nat)) (j : Nat) : (s.setLags x).sbank j = s.sbank j := rfl
@[simp] theorem State.setLags_tpll (x : List (Nat × Nat × Nat)) : (s.setLags x).tpll = s.tpll := rfl
@[simp] theorem State.setLags_quad (x : List (Nat × Nat × Nat)) (j : Nat) : (s.setLags x).quad j = s.quad j := rfl
@[simp] theorem State.setLags_bring (x : List (Nat × Nat × Nat)) : (s.setLags x).bring = s.bring := rfl
@[simp] theorem State.setLags_lustre (x : List (Nat × Nat × Nat)) : (s.setLags x).lustre = s.lustre := rfl
@[simp] theorem State.setLags_port (x : List (Nat × Nat × Nat)) (j : Nat) : (s.setLags x).port j = s.port j := rfl
@[simp] theorem State.setLags_evtb (x : List (Nat × Nat × Nat)) (j : Nat) : (s.setLags x).evtb j = s.evtb j := rfl
@[simp] theorem State.setLags_route (x : List (Nat × Nat × Nat)) (j : Nat) : (s.setLags x).route j = s.route j := rfl
@[simp] theorem State.setLags_swq (x : List (Nat × Nat × Nat)) : (s.setLags x).swq = s.swq := rfl
@[simp] theorem State.setLags_timer (x : List (Nat × Nat × Nat)) (j : Nat) : (s.setLags x).timer j = s.timer j := rfl
@[simp] theorem State.setLags_journal (x : List (Nat × Nat × Nat)) : (s.setLags x).journal = s.journal := rfl
@[simp] theorem State.setLags_sec (x : List (Nat × Nat × Nat)) : (s.setLags x).sec = s.sec := rfl
@[simp] theorem State.setLags_rflc (x : List (Nat × Nat × Nat)) (j : Nat) : (s.setLags x).rflc j = s.rflc j := rfl
@[simp] theorem State.setLags_bursts (x : List (Nat × Nat × Nat)) : (s.setLags x).bursts = s.bursts := rfl
@[simp] theorem State.setLags_cal (x : List (Nat × Nat × Nat)) : (s.setLags x).cal = s.cal := rfl
@[simp] theorem State.setLags_casPort (x : List (Nat × Nat × Nat)) (j : Nat) : (s.setLags x).casPort j = s.casPort j := rfl
@[simp] theorem State.setLags_cas (x : List (Nat × Nat × Nat)) : (s.setLags x).cas = s.cas := rfl

/-! ### wr -/

@[simp] theorem State.wr_same (f : Fld) (i v : Nat) : (s.wr f i v).rd f i = v % 2 ^ f.w := Sparse.get_put_same _ _ _ _
theorem State.wr_ne (f : Fld) (i v : Nat) (g : Fld) {j : Nat} (h : g.key j ≠ f.key i) : (s.wr f i v).rd g j = s.rd g j := Sparse.get_put_ne _ _ _ _ h
@[simp] theorem State.wr_rdA (f : Fld) (i v : Nat) (g : Fld) (j : Nat) : (s.wr f i v).rdA g j = s.rdA g j := rfl
@[simp] theorem State.wr_epoch (f : Fld) (i v : Nat) : (s.wr f i v).epoch = s.epoch := rfl
@[simp] theorem State.wr_tb (f : Fld) (i v : Nat) : (s.wr f i v).tb = s.tb := rfl
@[simp] theorem State.wr_mem (f : Fld) (i v : Nat) : (s.wr f i v).mem = s.mem := rfl
@[simp] theorem State.wr_pending (f : Fld) (i v : Nat) : (s.wr f i v).pending = s.pending := rfl
@[simp] theorem State.wr_dirty (f : Fld) (i v : Nat) : (s.wr f i v).dirty = s.dirty := rfl
@[simp] theorem State.wr_pages (f : Fld) (i v : Nat) (j : Nat) : (s.wr f i v).pages j = s.pages j := rfl
@[simp] theorem State.wr_latch (f : Fld) (i v : Nat) (j : Nat) : (s.wr f i v).latch j = s.latch j := rfl
@[simp] theorem State.wr_tbu (f : Fld) (i v : Nat) : (s.wr f i v).tbu = s.tbu := rfl
@[simp] theorem State.wr_hostp (f : Fld) (i v : Nat) : (s.wr f i v).hostp = s.hostp := rfl
@[simp] theorem State.wr_recs (f : Fld) (i v : Nat) : (s.wr f i v).recs = s.recs := rfl
@[simp] theorem State.wr_prodq (f : Fld) (i v : Nat) : (s.wr f i v).prodq = s.prodq := rfl
@[simp] theorem State.wr_out (f : Fld) (i v : Nat) : (s.wr f i v).out = s.out := rfl
@[simp] theorem State.wr_freeCtr (f : Fld) (i v : Nat) : (s.wr f i v).freeCtr = s.freeCtr := rfl
@[simp] theorem State.wr_dom (f : Fld) (i v : Nat) (j : Nat) : (s.wr f i v).dom j = s.dom j := rfl
@[simp] theorem State.wr_dir (f : Fld) (i v : Nat) (j : Nat) : (s.wr f i v).dir j = s.dir j := rfl
@[simp] theorem State.wr_store (f : Fld) (i v : Nat) (j : Nat) : (s.wr f i v).store j = s.store j := rfl
@[simp] theorem State.wr_win (f : Fld) (i v : Nat) (j : Nat) : (s.wr f i v).win j = s.win j := rfl
@[simp] theorem State.wr_tab (f : Fld) (i v : Nat) (j : Nat) : (s.wr f i v).tab j = s.tab j := rfl
@[simp] theorem State.wr_apg (f : Fld) (i v : Nat) (j : Nat) : (s.wr f i v).apg j = s.apg j := rfl
@[simp] theorem State.wr_eng (f : Fld) (i v : Nat) (j : Nat) : (s.wr f i v).eng j = s.eng j := rfl
@[simp] theorem State.wr_lout (f : Fld) (i v : Nat) (j : Nat) : (s.wr f i v).lout j = s.lout j := rfl
@[simp] theorem State.wr_grp (f : Fld) (i v : Nat) (j : Nat) : (s.wr f i v).grp j = s.grp j := rfl
@[simp] theorem State.wr_ballClaim (f : Fld) (i v : Nat) (j : Nat) : (s.wr f i v).ballClaim j = s.ballClaim j := rfl
@[simp] theorem State.wr_ballOut (f : Fld) (i v : Nat) (j : Nat) : (s.wr f i v).ballOut j = s.ballOut j := rfl
@[simp] theorem State.wr_ballTb (f : Fld) (i v : Nat) (j : Nat) : (s.wr f i v).ballTb j = s.ballTb j := rfl
@[simp] theorem State.wr_arrivals (f : Fld) (i v : Nat) : (s.wr f i v).arrivals = s.arrivals := rfl
@[simp] theorem State.wr_drv (f : Fld) (i v : Nat) (j : Nat) : (s.wr f i v).drv j = s.drv j := rfl
@[simp] theorem State.wr_node (f : Fld) (i v : Nat) (j : Nat) : (s.wr f i v).node j = s.node j := rfl
@[simp] theorem State.wr_loupe (f : Fld) (i v : Nat) : (s.wr f i v).loupe = s.loupe := rfl
@[simp] theorem State.wr_crown (f : Fld) (i v : Nat) (j : Nat) : (s.wr f i v).crown j = s.crown j := rfl
@[simp] theorem State.wr_bank (f : Fld) (i v : Nat) (j : Nat) : (s.wr f i v).bank j = s.bank j := rfl
@[simp] theorem State.wr_sense (f : Fld) (i v : Nat) (j : Nat) : (s.wr f i v).sense j = s.sense j := rfl
@[simp] theorem State.wr_pin (f : Fld) (i v : Nat) (j : Nat) : (s.wr f i v).pin j = s.pin j := rfl
@[simp] theorem State.wr_lphy (f : Fld) (i v : Nat) (j : Nat) : (s.wr f i v).lphy j = s.lphy j := rfl
@[simp] theorem State.wr_cmpl (f : Fld) (i v : Nat) (j : Nat) : (s.wr f i v).cmpl j = s.cmpl j := rfl
@[simp] theorem State.wr_cmp (f : Fld) (i v : Nat) (j : Nat) : (s.wr f i v).cmp j = s.cmp j := rfl
@[simp] theorem State.wr_isl (f : Fld) (i v : Nat) (j : Nat) : (s.wr f i v).isl j = s.isl j := rfl
@[simp] theorem State.wr_rail (f : Fld) (i v : Nat) (j : Nat) : (s.wr f i v).rail j = s.rail j := rfl
@[simp] theorem State.wr_stop (f : Fld) (i v : Nat) (j : Nat) : (s.wr f i v).stop j = s.stop j := rfl
@[simp] theorem State.wr_totals (f : Fld) (i v : Nat) (j : Nat) : (s.wr f i v).totals j = s.totals j := rfl
@[simp] theorem State.wr_sbank (f : Fld) (i v : Nat) (j : Nat) : (s.wr f i v).sbank j = s.sbank j := rfl
@[simp] theorem State.wr_tpll (f : Fld) (i v : Nat) : (s.wr f i v).tpll = s.tpll := rfl
@[simp] theorem State.wr_quad (f : Fld) (i v : Nat) (j : Nat) : (s.wr f i v).quad j = s.quad j := rfl
@[simp] theorem State.wr_bring (f : Fld) (i v : Nat) : (s.wr f i v).bring = s.bring := rfl
@[simp] theorem State.wr_lustre (f : Fld) (i v : Nat) : (s.wr f i v).lustre = s.lustre := rfl
@[simp] theorem State.wr_port (f : Fld) (i v : Nat) (j : Nat) : (s.wr f i v).port j = s.port j := rfl
@[simp] theorem State.wr_evtb (f : Fld) (i v : Nat) (j : Nat) : (s.wr f i v).evtb j = s.evtb j := rfl
@[simp] theorem State.wr_route (f : Fld) (i v : Nat) (j : Nat) : (s.wr f i v).route j = s.route j := rfl
@[simp] theorem State.wr_swq (f : Fld) (i v : Nat) : (s.wr f i v).swq = s.swq := rfl
@[simp] theorem State.wr_timer (f : Fld) (i v : Nat) (j : Nat) : (s.wr f i v).timer j = s.timer j := rfl
@[simp] theorem State.wr_journal (f : Fld) (i v : Nat) : (s.wr f i v).journal = s.journal := rfl
@[simp] theorem State.wr_sec (f : Fld) (i v : Nat) : (s.wr f i v).sec = s.sec := rfl
@[simp] theorem State.wr_rflc (f : Fld) (i v : Nat) (j : Nat) : (s.wr f i v).rflc j = s.rflc j := rfl
@[simp] theorem State.wr_bursts (f : Fld) (i v : Nat) : (s.wr f i v).bursts = s.bursts := rfl
@[simp] theorem State.wr_cal (f : Fld) (i v : Nat) : (s.wr f i v).cal = s.cal := rfl
@[simp] theorem State.wr_casPort (f : Fld) (i v : Nat) (j : Nat) : (s.wr f i v).casPort j = s.casPort j := rfl
@[simp] theorem State.wr_cas (f : Fld) (i v : Nat) : (s.wr f i v).cas = s.cas := rfl
@[simp] theorem State.wr_lags (f : Fld) (i v : Nat) : (s.wr f i v).lags = s.lags := rfl

/-! ### wrA -/

@[simp] theorem State.wrA_same (f : Fld) (i v : Nat) : (s.wrA f i v).rdA f i = v % 2 ^ f.w := Sparse.get_put_same _ _ _ _
theorem State.wrA_ne (f : Fld) (i v : Nat) (g : Fld) {j : Nat} (h : g.key j ≠ f.key i) : (s.wrA f i v).rdA g j = s.rdA g j := Sparse.get_put_ne _ _ _ _ h
@[simp] theorem State.wrA_rd (f : Fld) (i v : Nat) (g : Fld) (j : Nat) : (s.wrA f i v).rd g j = s.rd g j := rfl
@[simp] theorem State.wrA_epoch (f : Fld) (i v : Nat) : (s.wrA f i v).epoch = s.epoch := rfl
@[simp] theorem State.wrA_tb (f : Fld) (i v : Nat) : (s.wrA f i v).tb = s.tb := rfl
@[simp] theorem State.wrA_mem (f : Fld) (i v : Nat) : (s.wrA f i v).mem = s.mem := rfl
@[simp] theorem State.wrA_pending (f : Fld) (i v : Nat) : (s.wrA f i v).pending = s.pending := rfl
@[simp] theorem State.wrA_dirty (f : Fld) (i v : Nat) : (s.wrA f i v).dirty = s.dirty := rfl
@[simp] theorem State.wrA_pages (f : Fld) (i v : Nat) (j : Nat) : (s.wrA f i v).pages j = s.pages j := rfl
@[simp] theorem State.wrA_latch (f : Fld) (i v : Nat) (j : Nat) : (s.wrA f i v).latch j = s.latch j := rfl
@[simp] theorem State.wrA_tbu (f : Fld) (i v : Nat) : (s.wrA f i v).tbu = s.tbu := rfl
@[simp] theorem State.wrA_hostp (f : Fld) (i v : Nat) : (s.wrA f i v).hostp = s.hostp := rfl
@[simp] theorem State.wrA_recs (f : Fld) (i v : Nat) : (s.wrA f i v).recs = s.recs := rfl
@[simp] theorem State.wrA_prodq (f : Fld) (i v : Nat) : (s.wrA f i v).prodq = s.prodq := rfl
@[simp] theorem State.wrA_out (f : Fld) (i v : Nat) : (s.wrA f i v).out = s.out := rfl
@[simp] theorem State.wrA_freeCtr (f : Fld) (i v : Nat) : (s.wrA f i v).freeCtr = s.freeCtr := rfl
@[simp] theorem State.wrA_dom (f : Fld) (i v : Nat) (j : Nat) : (s.wrA f i v).dom j = s.dom j := rfl
@[simp] theorem State.wrA_dir (f : Fld) (i v : Nat) (j : Nat) : (s.wrA f i v).dir j = s.dir j := rfl
@[simp] theorem State.wrA_store (f : Fld) (i v : Nat) (j : Nat) : (s.wrA f i v).store j = s.store j := rfl
@[simp] theorem State.wrA_win (f : Fld) (i v : Nat) (j : Nat) : (s.wrA f i v).win j = s.win j := rfl
@[simp] theorem State.wrA_tab (f : Fld) (i v : Nat) (j : Nat) : (s.wrA f i v).tab j = s.tab j := rfl
@[simp] theorem State.wrA_apg (f : Fld) (i v : Nat) (j : Nat) : (s.wrA f i v).apg j = s.apg j := rfl
@[simp] theorem State.wrA_eng (f : Fld) (i v : Nat) (j : Nat) : (s.wrA f i v).eng j = s.eng j := rfl
@[simp] theorem State.wrA_lout (f : Fld) (i v : Nat) (j : Nat) : (s.wrA f i v).lout j = s.lout j := rfl
@[simp] theorem State.wrA_grp (f : Fld) (i v : Nat) (j : Nat) : (s.wrA f i v).grp j = s.grp j := rfl
@[simp] theorem State.wrA_ballClaim (f : Fld) (i v : Nat) (j : Nat) : (s.wrA f i v).ballClaim j = s.ballClaim j := rfl
@[simp] theorem State.wrA_ballOut (f : Fld) (i v : Nat) (j : Nat) : (s.wrA f i v).ballOut j = s.ballOut j := rfl
@[simp] theorem State.wrA_ballTb (f : Fld) (i v : Nat) (j : Nat) : (s.wrA f i v).ballTb j = s.ballTb j := rfl
@[simp] theorem State.wrA_arrivals (f : Fld) (i v : Nat) : (s.wrA f i v).arrivals = s.arrivals := rfl
@[simp] theorem State.wrA_drv (f : Fld) (i v : Nat) (j : Nat) : (s.wrA f i v).drv j = s.drv j := rfl
@[simp] theorem State.wrA_node (f : Fld) (i v : Nat) (j : Nat) : (s.wrA f i v).node j = s.node j := rfl
@[simp] theorem State.wrA_loupe (f : Fld) (i v : Nat) : (s.wrA f i v).loupe = s.loupe := rfl
@[simp] theorem State.wrA_crown (f : Fld) (i v : Nat) (j : Nat) : (s.wrA f i v).crown j = s.crown j := rfl
@[simp] theorem State.wrA_bank (f : Fld) (i v : Nat) (j : Nat) : (s.wrA f i v).bank j = s.bank j := rfl
@[simp] theorem State.wrA_sense (f : Fld) (i v : Nat) (j : Nat) : (s.wrA f i v).sense j = s.sense j := rfl
@[simp] theorem State.wrA_pin (f : Fld) (i v : Nat) (j : Nat) : (s.wrA f i v).pin j = s.pin j := rfl
@[simp] theorem State.wrA_lphy (f : Fld) (i v : Nat) (j : Nat) : (s.wrA f i v).lphy j = s.lphy j := rfl
@[simp] theorem State.wrA_cmpl (f : Fld) (i v : Nat) (j : Nat) : (s.wrA f i v).cmpl j = s.cmpl j := rfl
@[simp] theorem State.wrA_cmp (f : Fld) (i v : Nat) (j : Nat) : (s.wrA f i v).cmp j = s.cmp j := rfl
@[simp] theorem State.wrA_isl (f : Fld) (i v : Nat) (j : Nat) : (s.wrA f i v).isl j = s.isl j := rfl
@[simp] theorem State.wrA_rail (f : Fld) (i v : Nat) (j : Nat) : (s.wrA f i v).rail j = s.rail j := rfl
@[simp] theorem State.wrA_stop (f : Fld) (i v : Nat) (j : Nat) : (s.wrA f i v).stop j = s.stop j := rfl
@[simp] theorem State.wrA_totals (f : Fld) (i v : Nat) (j : Nat) : (s.wrA f i v).totals j = s.totals j := rfl
@[simp] theorem State.wrA_sbank (f : Fld) (i v : Nat) (j : Nat) : (s.wrA f i v).sbank j = s.sbank j := rfl
@[simp] theorem State.wrA_tpll (f : Fld) (i v : Nat) : (s.wrA f i v).tpll = s.tpll := rfl
@[simp] theorem State.wrA_quad (f : Fld) (i v : Nat) (j : Nat) : (s.wrA f i v).quad j = s.quad j := rfl
@[simp] theorem State.wrA_bring (f : Fld) (i v : Nat) : (s.wrA f i v).bring = s.bring := rfl
@[simp] theorem State.wrA_lustre (f : Fld) (i v : Nat) : (s.wrA f i v).lustre = s.lustre := rfl
@[simp] theorem State.wrA_port (f : Fld) (i v : Nat) (j : Nat) : (s.wrA f i v).port j = s.port j := rfl
@[simp] theorem State.wrA_evtb (f : Fld) (i v : Nat) (j : Nat) : (s.wrA f i v).evtb j = s.evtb j := rfl
@[simp] theorem State.wrA_route (f : Fld) (i v : Nat) (j : Nat) : (s.wrA f i v).route j = s.route j := rfl
@[simp] theorem State.wrA_swq (f : Fld) (i v : Nat) : (s.wrA f i v).swq = s.swq := rfl
@[simp] theorem State.wrA_timer (f : Fld) (i v : Nat) (j : Nat) : (s.wrA f i v).timer j = s.timer j := rfl
@[simp] theorem State.wrA_journal (f : Fld) (i v : Nat) : (s.wrA f i v).journal = s.journal := rfl
@[simp] theorem State.wrA_sec (f : Fld) (i v : Nat) : (s.wrA f i v).sec = s.sec := rfl
@[simp] theorem State.wrA_rflc (f : Fld) (i v : Nat) (j : Nat) : (s.wrA f i v).rflc j = s.rflc j := rfl
@[simp] theorem State.wrA_bursts (f : Fld) (i v : Nat) : (s.wrA f i v).bursts = s.bursts := rfl
@[simp] theorem State.wrA_cal (f : Fld) (i v : Nat) : (s.wrA f i v).cal = s.cal := rfl
@[simp] theorem State.wrA_casPort (f : Fld) (i v : Nat) (j : Nat) : (s.wrA f i v).casPort j = s.casPort j := rfl
@[simp] theorem State.wrA_cas (f : Fld) (i v : Nat) : (s.wrA f i v).cas = s.cas := rfl
@[simp] theorem State.wrA_lags (f : Fld) (i v : Nat) : (s.wrA f i v).lags = s.lags := rfl

end Sys2Proof.Machine
end

