-- ==== Sys2Proof/Laws/Ops.lean ====
section
/-!
SUPPORT. Laws/Ops.lean: what the shared operations of Machine/Ops.lean do: register fields, interrupt events, records, refusals and
the acceptance of a register write.
-/

namespace Sys2Proof.Machine

/-! ### Fields -/

/-- Fields of different registers or places have different keys. -/
theorem Fld.key_ne_of_id {f g : Fld} (h : f.id ≠ g.id) (i j : Nat) : f.key i ≠ g.key j := by
  unfold Fld.key; omega

/-- Instances of one field have different keys. -/
theorem Fld.key_ne_of_inst (f : Fld) {i j : Nat} (hi : i < 65536) (hj : j < 65536) (h : i ≠ j) : f.key i ≠ f.key j := by
  unfold Fld.key; omega

theorem State.wr_rd_ne (s : State) (f g : Fld) (i j v : Nat) (h : g.id ≠ f.id) : (s.wr f i v).rd g j = s.rd g j :=
  State.wr_ne s f i v g (Fld.key_ne_of_id h j i)

theorem State.wrA_rdA_ne (s : State) (f g : Fld) (i j v : Nat) (h : g.id ≠ f.id) : (s.wrA f i v).rdA g j = s.rdA g j :=
  State.wrA_ne s f i v g (Fld.key_ne_of_id h j i)

theorem State.wr_rd_inst (s : State) (f : Fld) (i j v : Nat) (hi : i < 65536) (hj : j < 65536) (h : j ≠ i) :
    (s.wr f i v).rd f j = s.rd f j :=
  State.wr_ne s f i v f (Fld.key_ne_of_inst f hj hi h)

theorem State.on_iff (s : State) (f : Fld) (i : Nat) : s.on f i = true ↔ s.rd f i = 1 := by simp [State.on]

theorem State.inc_eq (s : State) (f : Fld) (i : Nat) : s.inc f i = s.wr f i (min f.max (s.rd f i + 1)) := rfl
theorem State.incW_eq (s : State) (f : Fld) (i : Nat) : s.incW f i = s.wr f i (s.rd f i + 1) := rfl

/-- A saturating count takes the next number, or stays at its largest. -/
theorem State.inc_same (s : State) (f : Fld) (i : Nat) : (s.inc f i).rd f i = min f.max (s.rd f i + 1) := by
  rw [State.inc_eq, State.wr_same]
  refine Nat.mod_eq_of_lt ?_
  have : f.max < 2 ^ f.w := by have := Nat.two_pow_pos f.w; unfold Fld.max; omega
  omega

/-! ### Records, events, outputs, free values -/

theorem State.jrnAt_eq (s : State) (st : Stamp) (cls index code : Nat) (xs : List Item) :
    ∃ r, s.jrnAt st cls index code xs = s.setRecs (s.recs ++ [r]) ∧ r.stamp = st.t ∧ r.cls = cls ∧ r.index = index ∧ r.code = code ∧
      r.data = packItems xs := ⟨_, rfl, rfl, rfl, rfl, rfl, rfl⟩

/-! ### Interrupts (R62, R63) -/

theorem pbaEdges_spec (s t : State) (vs : List Nat) : ∃ h, pbaEdges s t vs = t.setHostp h := by
  suffices H : ∀ (vs : List Nat) (u : State), (∃ h, u = t.setHostp h) → ∃ h, vs.foldl (fun u v =>
      if !s.vecPending v && t.vecPending v then u.setPba v else u) u = t.setHostp h from H vs t ⟨t.hostp, rfl⟩
  intro vs
  induction vs with
  | nil => intro u hu; exact hu
  | cons v r ih =>
    intro u ⟨h, e⟩
    refine ih _ ?_
    subst e
    dsimp only
    split
    · exact ⟨_, rfl⟩
    · exact ⟨h, rfl⟩

/-- Raising sets the bits and changes nothing else but the host port's message bits. -/
theorem State.raiseBits_spec (s : State) (p m : Nat) :
    ∃ h, s.raiseBits p m = (s.wr IRQ_STAT.BITS p (s.rd IRQ_STAT.BITS p ||| m)).setHostp h := pbaEdges_spec _ _ _

@[simp] theorem State.raiseBits_same (s : State) (p m : Nat) :
    (s.raiseBits p m).rd IRQ_STAT.BITS p = (s.rd IRQ_STAT.BITS p ||| m) % 2 ^ 32 := by
  obtain ⟨h, e⟩ := State.raiseBits_spec s p m
  rw [e, State.setHostp_rd, State.wr_same]; rfl

@[simp] theorem State.raise_same (s : State) (p b : Nat) :
    (s.raise p b).rd IRQ_STAT.BITS p = (s.rd IRQ_STAT.BITS p ||| 2 ^ b) % 2 ^ 32 := State.raiseBits_same s p (2 ^ b)

theorem State.raiseBits_rd_ne (s : State) (p m : Nat) (g : Fld) (j : Nat) (h : g.id ≠ IRQ_STAT.BITS.id) :
    (s.raiseBits p m).rd g j = s.rd g j := by
  obtain ⟨x, e⟩ := State.raiseBits_spec s p m
  rw [e, State.setHostp_rd, State.wr_rd_ne _ _ _ _ _ _ h]

theorem State.raise_rd_ne (s : State) (p b : Nat) (g : Fld) (j : Nat) (h : g.id ≠ IRQ_STAT.BITS.id) :
    (s.raise p b).rd g j = s.rd g j := State.raiseBits_rd_ne s p (2 ^ b) g j h

@[simp] theorem State.raise_rdA (s : State) (p b : Nat) (g : Fld) (j : Nat) : (s.raise p b).rdA g j = s.rdA g j := by
  obtain ⟨x, e⟩ := State.raiseBits_spec s p (2 ^ b)
  unfold State.raise
  rw [e, State.setHostp_rdA, State.wr_rdA]

/-! ### Register writes (R47, R61, R562) -/

/-- A write that reaches a ready page and meets no cause of refusal acts. -/
theorem State.write_ok {s : State} {w : Wr} {p off : Nat} {codes : List Nat} {k : State → State} (ha : Accepted s w p)
    (hc : codes = []) : s.write w p off codes k = k (s.collide w.req (p * 4096 + off)) := by
  obtain ⟨h1, h2, h3⟩ := ha
  subst hc
  simp [State.write, h1, h2, h3, State.orRefuse, worst, List.min?]

/-- A write to a page that is not ready is dropped. -/
theorem State.write_dropped {s : State} {w : Wr} {p off : Nat} {codes : List Nat} {k : State → State}
    (h1 : s.reaches w.req = true) (h2 : s.ready p = false) : s.write w p off codes k = s.drop 0 w.req (p * 4096 + off) := by
  simp [State.write, h1, h2]

/-- A write that meets a cause of refusal is refused once, with the cause of highest rank. -/
theorem State.write_refused {s : State} {w : Wr} {p off : Nat} {codes : List Nat} {k : State → State} {c : Nat}
    (h1 : s.reaches w.req = true) (h2 : s.ready p = true) (h3 : worst (accessCodes w p ++ codes) = some c) :
    s.write w p off codes k = (s.collide w.req (p * 4096 + off)).refuse p c := by
  simp [State.write, h1, h2, State.orRefuse, h3]

/-- A host write in D3hot has no effect. -/
theorem State.write_unreached {s : State} {w : Wr} {p off : Nat} {codes : List Nat} {k : State → State}
    (h1 : s.reaches w.req = false) : s.write w p off codes k = s := by
  simp [State.write, h1]

/-- The arrival of a write changes the host port's list of this cycle's writes, and counts one collision or none (R67). -/
theorem State.collide_spec (s : State) (q : Req) (a : Nat) :
    ∃ h, s.collide q a = s.setHostp h ∨ s.collide q a = (s.setHostp h).inc HOST_STAT.COLLIDE_COUNT 0 := by
  let x : Cycle := if s.hostp.wrote.tb = s.tb then s.hostp.wrote else { tb := s.tb }
  refine ⟨{ s.hostp with wrote := x.add q a }, ?_⟩
  by_cases m : x.meets q a
  · exact .inr (if_pos m)
  · exact .inl (if_neg m)

theorem State.collide_rd_ne (s : State) (q : Req) (a : Nat) (g : Fld) (j : Nat) (h : g.id ≠ HOST_STAT.COLLIDE_COUNT.id) :
    (s.collide q a).rd g j = s.rd g j := by
  obtain ⟨x, e | e⟩ := State.collide_spec s q a <;> rw [e]
  · rfl
  · rw [State.inc_eq, State.wr_rd_ne _ _ _ _ _ _ h]; rfl

@[simp] theorem State.collide_rdA (s : State) (q : Req) (a : Nat) (g : Fld) (j : Nat) : (s.collide q a).rdA g j = s.rdA g j := by
  obtain ⟨x, e | e⟩ := State.collide_spec s q a <;> rw [e] <;> rfl

/-! ### The wrappers of the meanings -/

/-- A command whose meaning changes registers and units only completes. -/
theorem gives_chipOnly {c : Instr} {s u : State} {P : State → Prop} (h : exec c s = chipOnly s u)
    (hp : P { s with chip := u.chip }) : Gives c s P := ⟨_, h, hp⟩

/-- A command whose meaning may change the memories too completes. -/
theorem gives_chipMem {c : Instr} {s u : State} {P : State → Prop} (h : exec c s = chipMem s u)
    (hp : P { s with chip := u.chip, mem := u.mem }) : Gives c s P := ⟨_, h, hp⟩

/-! ### Reading a state that has taken over another's registers and units -/

@[simp] theorem State.chip_rd (s u : State) (f : Fld) (j : Nat) : ({ s with chip := u.chip } : State).rd f j = u.rd f j := rfl
@[simp] theorem State.chip_rdA (s u : State) (f : Fld) (j : Nat) : ({ s with chip := u.chip } : State).rdA f j = u.rdA f j := rfl
@[simp] theorem State.chipMem_rd (s u : State) (f : Fld) (j : Nat) : ({ s with chip := u.chip, mem := u.mem } : State).rd f j = u.rd f j := rfl
@[simp] theorem State.chip_dirty (s u : State) : ({ s with chip := u.chip } : State).dirty = u.dirty := rfl
@[simp] theorem State.chipMem_dirty (s u : State) : ({ s with chip := u.chip, mem := u.mem } : State).dirty = u.dirty := rfl
@[simp] theorem State.chip_pages (s u : State) (j : Nat) : ({ s with chip := u.chip } : State).pages j = u.pages j := rfl
@[simp] theorem State.chipMem_pages (s u : State) (j : Nat) : ({ s with chip := u.chip, mem := u.mem } : State).pages j = u.pages j := rfl
@[simp] theorem State.chip_latch (s u : State) (j : Nat) : ({ s with chip := u.chip } : State).latch j = u.latch j := rfl
@[simp] theorem State.chipMem_latch (s u : State) (j : Nat) : ({ s with chip := u.chip, mem := u.mem } : State).latch j = u.latch j := rfl
@[simp] theorem State.chip_tbu (s u : State) : ({ s with chip := u.chip } : State).tbu = u.tbu := rfl
@[simp] theorem State.chipMem_tbu (s u : State) : ({ s with chip := u.chip, mem := u.mem } : State).tbu = u.tbu := rfl
@[simp] theorem State.chip_hostp (s u : State) : ({ s with chip := u.chip } : State).hostp = u.hostp := rfl
@[simp] theorem State.chipMem_hostp (s u : State) : ({ s with chip := u.chip, mem := u.mem } : State).hostp = u.hostp := rfl
@[simp] theorem State.chip_recs (s u : State) : ({ s with chip := u.chip } : State).recs = u.recs := rfl
@[simp] theorem State.chipMem_recs (s u : State) : ({ s with chip := u.chip, mem := u.mem } : State).recs = u.recs := rfl
@[simp] theorem State.chip_prodq (s u : State) : ({ s with chip := u.chip } : State).prodq = u.prodq := rfl
@[simp] theorem State.chipMem_prodq (s u : State) : ({ s with chip := u.chip, mem := u.mem } : State).prodq = u.prodq := rfl
@[simp] theorem State.chip_out (s u : State) : ({ s with chip := u.chip } : State).out = u.out := rfl
@[simp] theorem State.chipMem_out (s u : State) : ({ s with chip := u.chip, mem := u.mem } : State).out = u.out := rfl
@[simp] theorem State.chip_freeCtr (s u : State) : ({ s with chip := u.chip } : State).freeCtr = u.freeCtr := rfl
@[simp] theorem State.chipMem_freeCtr (s u : State) : ({ s with chip := u.chip, mem := u.mem } : State).freeCtr = u.freeCtr := rfl
@[simp] theorem State.chip_dom (s u : State) (j : Nat) : ({ s with chip := u.chip } : State).dom j = u.dom j := rfl
@[simp] theorem State.chipMem_dom (s u : State) (j : Nat) : ({ s with chip := u.chip, mem := u.mem } : State).dom j = u.dom j := rfl
@[simp] theorem State.chip_dir (s u : State) (j : Nat) : ({ s with chip := u.chip } : State).dir j = u.dir j := rfl
@[simp] theorem State.chipMem_dir (s u : State) (j : Nat) : ({ s with chip := u.chip, mem := u.mem } : State).dir j = u.dir j := rfl
@[simp] theorem State.chip_store (s u : State) (j : Nat) : ({ s with chip := u.chip } : State).store j = u.store j := rfl
@[simp] theorem State.chipMem_store (s u : State) (j : Nat) : ({ s with chip := u.chip, mem := u.mem } : State).store j = u.store j := rfl
@[simp] theorem State.chip_win (s u : State) (j : Nat) : ({ s with chip := u.chip } : State).win j = u.win j := rfl
@[simp] theorem State.chipMem_win (s u : State) (j : Nat) : ({ s with chip := u.chip, mem := u.mem } : State).win j = u.win j := rfl
@[simp] theorem State.chip_tab (s u : State) (j : Nat) : ({ s with chip := u.chip } : State).tab j = u.tab j := rfl
@[simp] theorem State.chipMem_tab (s u : State) (j : Nat) : ({ s with chip := u.chip, mem := u.mem } : State).tab j = u.tab j := rfl
@[simp] theorem State.chip_apg (s u : State) (j : Nat) : ({ s with chip := u.chip } : State).apg j = u.apg j := rfl
@[simp] theorem State.chipMem_apg (s u : State) (j : Nat) : ({ s with chip := u.chip, mem := u.mem } : State).apg j = u.apg j := rfl
@[simp] theorem State.chip_eng (s u : State) (j : Nat) : ({ s with chip := u.chip } : State).eng j = u.eng j := rfl
@[simp] theorem State.chipMem_eng (s u : State) (j : Nat) : ({ s with chip := u.chip, mem := u.mem } : State).eng j = u.eng j := rfl
@[simp] theorem State.chip_lout (s u : State) (j : Nat) : ({ s with chip := u.chip } : State).lout j = u.lout j := rfl
@[simp] theorem State.chipMem_lout (s u : State) (j : Nat) : ({ s with chip := u.chip, mem := u.mem } : State).lout j = u.lout j := rfl
@[simp] theorem State.chip_grp (s u : State) (j : Nat) : ({ s with chip := u.chip } : State).grp j = u.grp j := rfl
@[simp] theorem State.chipMem_grp (s u : State) (j : Nat) : ({ s with chip := u.chip, mem := u.mem } : State).grp j = u.grp j := rfl
@[simp] theorem State.chip_ballClaim (s u : State) (j : Nat) : ({ s with chip := u.chip } : State).ballClaim j = u.ballClaim j := rfl
@[simp] theorem State.chipMem_ballClaim (s u : State) (j : Nat) : ({ s with chip := u.chip, mem := u.mem } : State).ballClaim j = u.ballClaim j := rfl
@[simp] theorem State.chip_ballOut (s u : State) (j : Nat) : ({ s with chip := u.chip } : State).ballOut j = u.ballOut j := rfl
@[simp] theorem State.chipMem_ballOut (s u : State) (j : Nat) : ({ s with chip := u.chip, mem := u.mem } : State).ballOut j = u.ballOut j := rfl
@[simp] theorem State.chip_ballTb (s u : State) (j : Nat) : ({ s with chip := u.chip } : State).ballTb j = u.ballTb j := rfl
@[simp] theorem State.chipMem_ballTb (s u : State) (j : Nat) : ({ s with chip := u.chip, mem := u.mem } : State).ballTb j = u.ballTb j := rfl
@[simp] theorem State.chip_arrivals (s u : State) : ({ s with chip := u.chip } : State).arrivals = u.arrivals := rfl
@[simp] theorem State.chipMem_arrivals (s u : State) : ({ s with chip := u.chip, mem := u.mem } : State).arrivals = u.arrivals := rfl
@[simp] theorem State.chip_drv (s u : State) (j : Nat) : ({ s with chip := u.chip } : State).drv j = u.drv j := rfl
@[simp] theorem State.chipMem_drv (s u : State) (j : Nat) : ({ s with chip := u.chip, mem := u.mem } : State).drv j = u.drv j := rfl
@[simp] theorem State.chip_node (s u : State) (j : Nat) : ({ s with chip := u.chip } : State).node j = u.node j := rfl
@[simp] theorem State.chipMem_node (s u : State) (j : Nat) : ({ s with chip := u.chip, mem := u.mem } : State).node j = u.node j := rfl
@[simp] theorem State.chip_loupe (s u : State) : ({ s with chip := u.chip } : State).loupe = u.loupe := rfl
@[simp] theorem State.chipMem_loupe (s u : State) : ({ s with chip := u.chip, mem := u.mem } : State).loupe = u.loupe := rfl
@[simp] theorem State.chip_crown (s u : State) (j : Nat) : ({ s with chip := u.chip } : State).crown j = u.crown j := rfl
@[simp] theorem State.chipMem_crown (s u : State) (j : Nat) : ({ s with chip := u.chip, mem := u.mem } : State).crown j = u.crown j := rfl
@[simp] theorem State.chip_bank (s u : State) (j : Nat) : ({ s with chip := u.chip } : State).bank j = u.bank j := rfl
@[simp] theorem State.chipMem_bank (s u : State) (j : Nat) : ({ s with chip := u.chip, mem := u.mem } : State).bank j = u.bank j := rfl
@[simp] theorem State.chip_sense (s u : State) (j : Nat) : ({ s with chip := u.chip } : State).sense j = u.sense j := rfl
@[simp] theorem State.chipMem_sense (s u : State) (j : Nat) : ({ s with chip := u.chip, mem := u.mem } : State).sense j = u.sense j := rfl
@[simp] theorem State.chip_pin (s u : State) (j : Nat) : ({ s with chip := u.chip } : State).pin j = u.pin j := rfl
@[simp] theorem State.chipMem_pin (s u : State) (j : Nat) : ({ s with chip := u.chip, mem := u.mem } : State).pin j = u.pin j := rfl
@[simp] theorem State.chip_lphy (s u : State) (j : Nat) : ({ s with chip := u.chip } : State).lphy j = u.lphy j := rfl
@[simp] theorem State.chipMem_lphy (s u : State) (j : Nat) : ({ s with chip := u.chip, mem := u.mem } : State).lphy j = u.lphy j := rfl
@[simp] theorem State.chip_cmpl (s u : State) (j : Nat) : ({ s with chip := u.chip } : State).cmpl j = u.cmpl j := rfl
@[simp] theorem State.chipMem_cmpl (s u : State) (j : Nat) : ({ s with chip := u.chip, mem := u.mem } : State).cmpl j = u.cmpl j := rfl
@[simp] theorem State.chip_cmp (s u : State) (j : Nat) : ({ s with chip := u.chip } : State).cmp j = u.cmp j := rfl
@[simp] theorem State.chipMem_cmp (s u : State) (j : Nat) : ({ s with chip := u.chip, mem := u.mem } : State).cmp j = u.cmp j := rfl
@[simp] theorem State.chip_isl (s u : State) (j : Nat) : ({ s with chip := u.chip } : State).isl j = u.isl j := rfl
@[simp] theorem State.chipMem_isl (s u : State) (j : Nat) : ({ s with chip := u.chip, mem := u.mem } : State).isl j = u.isl j := rfl
@[simp] theorem State.chip_rail (s u : State) (j : Nat) : ({ s with chip := u.chip } : State).rail j = u.rail j := rfl
@[simp] theorem State.chipMem_rail (s u : State) (j : Nat) : ({ s with chip := u.chip, mem := u.mem } : State).rail j = u.rail j := rfl
@[simp] theorem State.chip_stop (s u : State) (j : Nat) : ({ s with chip := u.chip } : State).stop j = u.stop j := rfl
@[simp] theorem State.chipMem_stop (s u : State) (j : Nat) : ({ s with chip := u.chip, mem := u.mem } : State).stop j = u.stop j := rfl
@[simp] theorem State.chip_totals (s u : State) (j : Nat) : ({ s with chip := u.chip } : State).totals j = u.totals j := rfl
@[simp] theorem State.chipMem_totals (s u : State) (j : Nat) : ({ s with chip := u.chip, mem := u.mem } : State).totals j = u.totals j := rfl
@[simp] theorem State.chip_sbank (s u : State) (j : Nat) : ({ s with chip := u.chip } : State).sbank j = u.sbank j := rfl
@[simp] theorem State.chipMem_sbank (s u : State) (j : Nat) : ({ s with chip := u.chip, mem := u.mem } : State).sbank j = u.sbank j := rfl
@[simp] theorem State.chip_tpll (s u : State) : ({ s with chip := u.chip } : State).tpll = u.tpll := rfl
@[simp] theorem State.chipMem_tpll (s u : State) : ({ s with chip := u.chip, mem := u.mem } : State).tpll = u.tpll := rfl
@[simp] theorem State.chip_quad (s u : State) (j : Nat) : ({ s with chip := u.chip } : State).quad j = u.quad j := rfl
@[simp] theorem State.chipMem_quad (s u : State) (j : Nat) : ({ s with chip := u.chip, mem := u.mem } : State).quad j = u.quad j := rfl
@[simp] theorem State.chip_bring (s u : State) : ({ s with chip := u.chip } : State).bring = u.bring := rfl
@[simp] theorem State.chipMem_bring (s u : State) : ({ s with chip := u.chip, mem := u.mem } : State).bring = u.bring := rfl
@[simp] theorem State.chip_lustre (s u : State) : ({ s with chip := u.chip } : State).lustre = u.lustre := rfl
@[simp] theorem State.chipMem_lustre (s u : State) : ({ s with chip := u.chip, mem := u.mem } : State).lustre = u.lustre := rfl
@[simp] theorem State.chip_port (s u : State) (j : Nat) : ({ s with chip := u.chip } : State).port j = u.port j := rfl
@[simp] theorem State.chipMem_port (s u : State) (j : Nat) : ({ s with chip := u.chip, mem := u.mem } : State).port j = u.port j := rfl
@[simp] theorem State.chip_evtb (s u : State) (j : Nat) : ({ s with chip := u.chip } : State).evtb j = u.evtb j := rfl
@[simp] theorem State.chipMem_evtb (s u : State) (j : Nat) : ({ s with chip := u.chip, mem := u.mem } : State).evtb j = u.evtb j := rfl
@[simp] theorem State.chip_route (s u : State) (j : Nat) : ({ s with chip := u.chip } : State).route j = u.route j := rfl
@[simp] theorem State.chipMem_route (s u : State) (j : Nat) : ({ s with chip := u.chip, mem := u.mem } : State).route j = u.route j := rfl
@[simp] theorem State.chip_swq (s u : State) : ({ s with chip := u.chip } : State).swq = u.swq := rfl
@[simp] theorem State.chipMem_swq (s u : State) : ({ s with chip := u.chip, mem := u.mem } : State).swq = u.swq := rfl
@[simp] theorem State.chip_timer (s u : State) (j : Nat) : ({ s with chip := u.chip } : State).timer j = u.timer j := rfl
@[simp] theorem State.chipMem_timer (s u : State) (j : Nat) : ({ s with chip := u.chip, mem := u.mem } : State).timer j = u.timer j := rfl
@[simp] theorem State.chip_journal (s u : State) : ({ s with chip := u.chip } : State).journal = u.journal := rfl
@[simp] theorem State.chipMem_journal (s u : State) : ({ s with chip := u.chip, mem := u.mem } : State).journal = u.journal := rfl
@[simp] theorem State.chip_sec (s u : State) : ({ s with chip := u.chip } : State).sec = u.sec := rfl
@[simp] theorem State.chipMem_sec (s u : State) : ({ s with chip := u.chip, mem := u.mem } : State).sec = u.sec := rfl
@[simp] theorem State.chip_rflc (s u : State) (j : Nat) : ({ s with chip := u.chip } : State).rflc j = u.rflc j := rfl
@[simp] theorem State.chipMem_rflc (s u : State) (j : Nat) : ({ s with chip := u.chip, mem := u.mem } : State).rflc j = u.rflc j := rfl
@[simp] theorem State.chip_bursts (s u : State) : ({ s with chip := u.chip } : State).bursts = u.bursts := rfl
@[simp] theorem State.chipMem_bursts (s u : State) : ({ s with chip := u.chip, mem := u.mem } : State).bursts = u.bursts := rfl
@[simp] theorem State.chip_cal (s u : State) : ({ s with chip := u.chip } : State).cal = u.cal := rfl
@[simp] theorem State.chipMem_cal (s u : State) : ({ s with chip := u.chip, mem := u.mem } : State).cal = u.cal := rfl
@[simp] theorem State.chip_casPort (s u : State) (j : Nat) : ({ s with chip := u.chip } : State).casPort j = u.casPort j := rfl
@[simp] theorem State.chipMem_casPort (s u : State) (j : Nat) : ({ s with chip := u.chip, mem := u.mem } : State).casPort j = u.casPort j := rfl
@[simp] theorem State.chip_cas (s u : State) : ({ s with chip := u.chip } : State).cas = u.cas := rfl
@[simp] theorem State.chipMem_cas (s u : State) : ({ s with chip := u.chip, mem := u.mem } : State).cas = u.cas := rfl
@[simp] theorem State.chip_lags (s u : State) : ({ s with chip := u.chip } : State).lags = u.lags := rfl
@[simp] theorem State.chipMem_lags (s u : State) : ({ s with chip := u.chip, mem := u.mem } : State).lags = u.lags := rfl

/-! ### What an interrupt event leaves alone -/

@[simp] theorem State.raiseBits_dirty (s : State) (p m : Nat) : (s.raiseBits p m).dirty = s.dirty := by
  obtain ⟨h, e⟩ := State.raiseBits_spec s p m; rw [e]; rfl
@[simp] theorem State.raise_dirty (s : State) (p b : Nat) : (s.raise p b).dirty = s.dirty := State.raiseBits_dirty s p (2 ^ b)
@[simp] theorem State.raiseBits_pages (s : State) (p m : Nat) (j : Nat) : (s.raiseBits p m).pages j = s.pages j := by
  obtain ⟨h, e⟩ := State.raiseBits_spec s p m; rw [e]; rfl
@[simp] theorem State.raise_pages (s : State) (p b : Nat) (j : Nat) : (s.raise p b).pages j = s.pages j := State.raiseBits_pages s p (2 ^ b) j
@[simp] theorem State.raiseBits_latch (s : State) (p m : Nat) (j : Nat) : (s.raiseBits p m).latch j = s.latch j := by
  obtain ⟨h, e⟩ := State.raiseBits_spec s p m; rw [e]; rfl
@[simp] theorem State.raise_latch (s : State) (p b : Nat) (j : Nat) : (s.raise p b).latch j = s.latch j := State.raiseBits_latch s p (2 ^ b) j
@[simp] theorem State.raiseBits_tbu (s : State) (p m : Nat) : (s.raiseBits p m).tbu = s.tbu := by
  obtain ⟨h, e⟩ := State.raiseBits_spec s p m; rw [e]; rfl
@[simp] theorem State.raise_tbu (s : State) (p b : Nat) : (s.raise p b).tbu = s.tbu := State.raiseBits_tbu s p (2 ^ b)
@[simp] theorem State.raiseBits_recs (s : State) (p m : Nat) : (s.raiseBits p m).recs = s.recs := by
  obtain ⟨h, e⟩ := State.raiseBits_spec s p m; rw [e]; rfl
@[simp] theorem State.raise_recs (s : State) (p b : Nat) : (s.raise p b).recs = s.recs := State.raiseBits_recs s p (2 ^ b)
@[simp] theorem State.raiseBits_prodq (s : State) (p m : Nat) : (s.raiseBits p m).prodq = s.prodq := by
  obtain ⟨h, e⟩ := State.raiseBits_spec s p m; rw [e]; rfl
@[simp] theorem State.raise_prodq (s : State) (p b : Nat) : (s.raise p b).prodq = s.prodq := State.raiseBits_prodq s p (2 ^ b)
@[simp] theorem State.raiseBits_out (s : State) (p m : Nat) : (s.raiseBits p m).out = s.out := by
  obtain ⟨h, e⟩ := State.raiseBits_spec s p m; rw [e]; rfl
@[simp] theorem State.raise_out (s : State) (p b : Nat) : (s.raise p b).out = s.out := State.raiseBits_out s p (2 ^ b)
@[simp] theorem State.raiseBits_freeCtr (s : State) (p m : Nat) : (s.raiseBits p m).freeCtr = s.freeCtr := by
  obtain ⟨h, e⟩ := State.raiseBits_spec s p m; rw [e]; rfl
@[simp] theorem State.raise_freeCtr (s : State) (p b : Nat) : (s.raise p b).freeCtr = s.freeCtr := State.raiseBits_freeCtr s p (2 ^ b)
@[simp] theorem State.raiseBits_dom (s : State) (p m : Nat) (j : Nat) : (s.raiseBits p m).dom j = s.dom j := by
  obtain ⟨h, e⟩ := State.raiseBits_spec s p m; rw [e]; rfl
@[simp] theorem State.raise_dom (s : State) (p b : Nat) (j : Nat) : (s.raise p b).dom j = s.dom j := State.raiseBits_dom s p (2 ^ b) j
@[simp] theorem State.raiseBits_dir (s : State) (p m : Nat) (j : Nat) : (s.raiseBits p m).dir j = s.dir j := by
  obtain ⟨h, e⟩ := State.raiseBits_spec s p m; rw [e]; rfl
@[simp] theorem State.raise_dir (s : State) (p b : Nat) (j : Nat) : (s.raise p b).dir j = s.dir j := State.raiseBits_dir s p (2 ^ b) j
@[simp] theorem State.raiseBits_store (s : State) (p m : Nat) (j : Nat) : (s.raiseBits p m).store j = s.store j := by
  obtain ⟨h, e⟩ := State.raiseBits_spec s p m; rw [e]; rfl
@[simp] theorem State.raise_store (s : State) (p b : Nat) (j : Nat) : (s.raise p b).store j = s.store j := State.raiseBits_store s p (2 ^ b) j
@[simp] theorem State.raiseBits_win (s : State) (p m : Nat) (j : Nat) : (s.raiseBits p m).win j = s.win j := by
  obtain ⟨h, e⟩ := State.raiseBits_spec s p m; rw [e]; rfl
@[simp] theorem State.raise_win (s : State) (p b : Nat) (j : Nat) : (s.raise p b).win j = s.win j := State.raiseBits_win s p (2 ^ b) j
@[simp] theorem State.raiseBits_tab (s : State) (p m : Nat) (j : Nat) : (s.raiseBits p m).tab j = s.tab j := by
  obtain ⟨h, e⟩ := State.raiseBits_spec s p m; rw [e]; rfl
@[simp] theorem State.raise_tab (s : State) (p b : Nat) (j : Nat) : (s.raise p b).tab j = s.tab j := State.raiseBits_tab s p (2 ^ b) j
@[simp] theorem State.raiseBits_apg (s : State) (p m : Nat) (j : Nat) : (s.raiseBits p m).apg j = s.apg j := by
  obtain ⟨h, e⟩ := State.raiseBits_spec s p m; rw [e]; rfl
@[simp] theorem State.raise_apg (s : State) (p b : Nat) (j : Nat) : (s.raise p b).apg j = s.apg j := State.raiseBits_apg s p (2 ^ b) j
@[simp] theorem State.raiseBits_eng (s : State) (p m : Nat) (j : Nat) : (s.raiseBits p m).eng j = s.eng j := by
  obtain ⟨h, e⟩ := State.raiseBits_spec s p m; rw [e]; rfl
@[simp] theorem State.raise_eng (s : State) (p b : Nat) (j : Nat) : (s.raise p b).eng j = s.eng j := State.raiseBits_eng s p (2 ^ b) j
@[simp] theorem State.raiseBits_lout (s : State) (p m : Nat) (j : Nat) : (s.raiseBits p m).lout j = s.lout j := by
  obtain ⟨h, e⟩ := State.raiseBits_spec s p m; rw [e]; rfl
@[simp] theorem State.raise_lout (s : State) (p b : Nat) (j : Nat) : (s.raise p b).lout j = s.lout j := State.raiseBits_lout s p (2 ^ b) j
@[simp] theorem State.raiseBits_grp (s : State) (p m : Nat) (j : Nat) : (s.raiseBits p m).grp j = s.grp j := by
  obtain ⟨h, e⟩ := State.raiseBits_spec s p m; rw [e]; rfl
@[simp] theorem State.raise_grp (s : State) (p b : Nat) (j : Nat) : (s.raise p b).grp j = s.grp j := State.raiseBits_grp s p (2 ^ b) j
@[simp] theorem State.raiseBits_ballClaim (s : State) (p m : Nat) (j : Nat) : (s.raiseBits p m).ballClaim j = s.ballClaim j := by
  obtain ⟨h, e⟩ := State.raiseBits_spec s p m; rw [e]; rfl
@[simp] theorem State.raise_ballClaim (s : State) (p b : Nat) (j : Nat) : (s.raise p b).ballClaim j = s.ballClaim j := State.raiseBits_ballClaim s p (2 ^ b) j
@[simp] theorem State.raiseBits_ballOut (s : State) (p m : Nat) (j : Nat) : (s.raiseBits p m).ballOut j = s.ballOut j := by
  obtain ⟨h, e⟩ := State.raiseBits_spec s p m; rw [e]; rfl
@[simp] theorem State.raise_ballOut (s : State) (p b : Nat) (j : Nat) : (s.raise p b).ballOut j = s.ballOut j := State.raiseBits_ballOut s p (2 ^ b) j
@[simp] theorem State.raiseBits_ballTb (s : State) (p m : Nat) (j : Nat) : (s.raiseBits p m).ballTb j = s.ballTb j := by
  obtain ⟨h, e⟩ := State.raiseBits_spec s p m; rw [e]; rfl
@[simp] theorem State.raise_ballTb (s : State) (p b : Nat) (j : Nat) : (s.raise p b).ballTb j = s.ballTb j := State.raiseBits_ballTb s p (2 ^ b) j
@[simp] theorem State.raiseBits_arrivals (s : State) (p m : Nat) : (s.raiseBits p m).arrivals = s.arrivals := by
  obtain ⟨h, e⟩ := State.raiseBits_spec s p m; rw [e]; rfl
@[simp] theorem State.raise_arrivals (s : State) (p b : Nat) : (s.raise p b).arrivals = s.arrivals := State.raiseBits_arrivals s p (2 ^ b)
@[simp] theorem State.raiseBits_drv (s : State) (p m : Nat) (j : Nat) : (s.raiseBits p m).drv j = s.drv j := by
  obtain ⟨h, e⟩ := State.raiseBits_spec s p m; rw [e]; rfl
@[simp] theorem State.raise_drv (s : State) (p b : Nat) (j : Nat) : (s.raise p b).drv j = s.drv j := State.raiseBits_drv s p (2 ^ b) j
@[simp] theorem State.raiseBits_node (s : State) (p m : Nat) (j : Nat) : (s.raiseBits p m).node j = s.node j := by
  obtain ⟨h, e⟩ := State.raiseBits_spec s p m; rw [e]; rfl
@[simp] theorem State.raise_node (s : State) (p b : Nat) (j : Nat) : (s.raise p b).node j = s.node j := State.raiseBits_node s p (2 ^ b) j
@[simp] theorem State.raiseBits_loupe (s : State) (p m : Nat) : (s.raiseBits p m).loupe = s.loupe := by
  obtain ⟨h, e⟩ := State.raiseBits_spec s p m; rw [e]; rfl
@[simp] theorem State.raise_loupe (s : State) (p b : Nat) : (s.raise p b).loupe = s.loupe := State.raiseBits_loupe s p (2 ^ b)
@[simp] theorem State.raiseBits_crown (s : State) (p m : Nat) (j : Nat) : (s.raiseBits p m).crown j = s.crown j := by
  obtain ⟨h, e⟩ := State.raiseBits_spec s p m; rw [e]; rfl
@[simp] theorem State.raise_crown (s : State) (p b : Nat) (j : Nat) : (s.raise p b).crown j = s.crown j := State.raiseBits_crown s p (2 ^ b) j
@[simp] theorem State.raiseBits_bank (s : State) (p m : Nat) (j : Nat) : (s.raiseBits p m).bank j = s.bank j := by
  obtain ⟨h, e⟩ := State.raiseBits_spec s p m; rw [e]; rfl
@[simp] theorem State.raise_bank (s : State) (p b : Nat) (j : Nat) : (s.raise p b).bank j = s.bank j := State.raiseBits_bank s p (2 ^ b) j
@[simp] theorem State.raiseBits_sense (s : State) (p m : Nat) (j : Nat) : (s.raiseBits p m).sense j = s.sense j := by
  obtain ⟨h, e⟩ := State.raiseBits_spec s p m; rw [e]; rfl
@[simp] theorem State.raise_sense (s : State) (p b : Nat) (j : Nat) : (s.raise p b).sense j = s.sense j := State.raiseBits_sense s p (2 ^ b) j
@[simp] theorem State.raiseBits_pin (s : State) (p m : Nat) (j : Nat) : (s.raiseBits p m).pin j = s.pin j := by
  obtain ⟨h, e⟩ := State.raiseBits_spec s p m; rw [e]; rfl
@[simp] theorem State.raise_pin (s : State) (p b : Nat) (j : Nat) : (s.raise p b).pin j = s.pin j := State.raiseBits_pin s p (2 ^ b) j
@[simp] theorem State.raiseBits_lphy (s : State) (p m : Nat) (j : Nat) : (s.raiseBits p m).lphy j = s.lphy j := by
  obtain ⟨h, e⟩ := State.raiseBits_spec s p m; rw [e]; rfl
@[simp] theorem State.raise_lphy (s : State) (p b : Nat) (j : Nat) : (s.raise p b).lphy j = s.lphy j := State.raiseBits_lphy s p (2 ^ b) j
@[simp] theorem State.raiseBits_cmpl (s : State) (p m : Nat) (j : Nat) : (s.raiseBits p m).cmpl j = s.cmpl j := by
  obtain ⟨h, e⟩ := State.raiseBits_spec s p m; rw [e]; rfl
@[simp] theorem State.raise_cmpl (s : State) (p b : Nat) (j : Nat) : (s.raise p b).cmpl j = s.cmpl j := State.raiseBits_cmpl s p (2 ^ b) j
@[simp] theorem State.raiseBits_cmp (s : State) (p m : Nat) (j : Nat) : (s.raiseBits p m).cmp j = s.cmp j := by
  obtain ⟨h, e⟩ := State.raiseBits_spec s p m; rw [e]; rfl
@[simp] theorem State.raise_cmp (s : State) (p b : Nat) (j : Nat) : (s.raise p b).cmp j = s.cmp j := State.raiseBits_cmp s p (2 ^ b) j
@[simp] theorem State.raiseBits_isl (s : State) (p m : Nat) (j : Nat) : (s.raiseBits p m).isl j = s.isl j := by
  obtain ⟨h, e⟩ := State.raiseBits_spec s p m; rw [e]; rfl
@[simp] theorem State.raise_isl (s : State) (p b : Nat) (j : Nat) : (s.raise p b).isl j = s.isl j := State.raiseBits_isl s p (2 ^ b) j
@[simp] theorem State.raiseBits_rail (s : State) (p m : Nat) (j : Nat) : (s.raiseBits p m).rail j = s.rail j := by
  obtain ⟨h, e⟩ := State.raiseBits_spec s p m; rw [e]; rfl
@[simp] theorem State.raise_rail (s : State) (p b : Nat) (j : Nat) : (s.raise p b).rail j = s.rail j := State.raiseBits_rail s p (2 ^ b) j
@[simp] theorem State.raiseBits_stop (s : State) (p m : Nat) (j : Nat) : (s.raiseBits p m).stop j = s.stop j := by
  obtain ⟨h, e⟩ := State.raiseBits_spec s p m; rw [e]; rfl
@[simp] theorem State.raise_stop (s : State) (p b : Nat) (j : Nat) : (s.raise p b).stop j = s.stop j := State.raiseBits_stop s p (2 ^ b) j
@[simp] theorem State.raiseBits_totals (s : State) (p m : Nat) (j : Nat) : (s.raiseBits p m).totals j = s.totals j := by
  obtain ⟨h, e⟩ := State.raiseBits_spec s p m; rw [e]; rfl
@[simp] theorem State.raise_totals (s : State) (p b : Nat) (j : Nat) : (s.raise p b).totals j = s.totals j := State.raiseBits_totals s p (2 ^ b) j
@[simp] theorem State.raiseBits_sbank (s : State) (p m : Nat) (j : Nat) : (s.raiseBits p m).sbank j = s.sbank j := by
  obtain ⟨h, e⟩ := State.raiseBits_spec s p m; rw [e]; rfl
@[simp] theorem State.raise_sbank (s : State) (p b : Nat) (j : Nat) : (s.raise p b).sbank j = s.sbank j := State.raiseBits_sbank s p (2 ^ b) j
@[simp] theorem State.raiseBits_tpll (s : State) (p m : Nat) : (s.raiseBits p m).tpll = s.tpll := by
  obtain ⟨h, e⟩ := State.raiseBits_spec s p m; rw [e]; rfl
@[simp] theorem State.raise_tpll (s : State) (p b : Nat) : (s.raise p b).tpll = s.tpll := State.raiseBits_tpll s p (2 ^ b)
@[simp] theorem State.raiseBits_quad (s : State) (p m : Nat) (j : Nat) : (s.raiseBits p m).quad j = s.quad j := by
  obtain ⟨h, e⟩ := State.raiseBits_spec s p m; rw [e]; rfl
@[simp] theorem State.raise_quad (s : State) (p b : Nat) (j : Nat) : (s.raise p b).quad j = s.quad j := State.raiseBits_quad s p (2 ^ b) j
@[simp] theorem State.raiseBits_bring (s : State) (p m : Nat) : (s.raiseBits p m).bring = s.bring := by
  obtain ⟨h, e⟩ := State.raiseBits_spec s p m; rw [e]; rfl
@[simp] theorem State.raise_bring (s : State) (p b : Nat) : (s.raise p b).bring = s.bring := State.raiseBits_bring s p (2 ^ b)
@[simp] theorem State.raiseBits_lustre (s : State) (p m : Nat) : (s.raiseBits p m).lustre = s.lustre := by
  obtain ⟨h, e⟩ := State.raiseBits_spec s p m; rw [e]; rfl
@[simp] theorem State.raise_lustre (s : State) (p b : Nat) : (s.raise p b).lustre = s.lustre := State.raiseBits_lustre s p (2 ^ b)
@[simp] theorem State.raiseBits_port (s : State) (p m : Nat) (j : Nat) : (s.raiseBits p m).port j = s.port j := by
  obtain ⟨h, e⟩ := State.raiseBits_spec s p m; rw [e]; rfl
@[simp] theorem State.raise_port (s : State) (p b : Nat) (j : Nat) : (s.raise p b).port j = s.port j := State.raiseBits_port s p (2 ^ b) j
@[simp] theorem State.raiseBits_evtb (s : State) (p m : Nat) (j : Nat) : (s.raiseBits p m).evtb j = s.evtb j := by
  obtain ⟨h, e⟩ := State.raiseBits_spec s p m; rw [e]; rfl
@[simp] theorem State.raise_evtb (s : State) (p b : Nat) (j : Nat) : (s.raise p b).evtb j = s.evtb j := State.raiseBits_evtb s p (2 ^ b) j
@[simp] theorem State.raiseBits_route (s : State) (p m : Nat) (j : Nat) : (s.raiseBits p m).route j = s.route j := by
  obtain ⟨h, e⟩ := State.raiseBits_spec s p m; rw [e]; rfl
@[simp] theorem State.raise_route (s : State) (p b : Nat) (j : Nat) : (s.raise p b).route j = s.route j := State.raiseBits_route s p (2 ^ b) j
@[simp] theorem State.raiseBits_swq (s : State) (p m : Nat) : (s.raiseBits p m).swq = s.swq := by
  obtain ⟨h, e⟩ := State.raiseBits_spec s p m; rw [e]; rfl
@[simp] theorem State.raise_swq (s : State) (p b : Nat) : (s.raise p b).swq = s.swq := State.raiseBits_swq s p (2 ^ b)
@[simp] theorem State.raiseBits_timer (s : State) (p m : Nat) (j : Nat) : (s.raiseBits p m).timer j = s.timer j := by
  obtain ⟨h, e⟩ := State.raiseBits_spec s p m; rw [e]; rfl
@[simp] theorem State.raise_timer (s : State) (p b : Nat) (j : Nat) : (s.raise p b).timer j = s.timer j := State.raiseBits_timer s p (2 ^ b) j
@[simp] theorem State.raiseBits_journal (s : State) (p m : Nat) : (s.raiseBits p m).journal = s.journal := by
  obtain ⟨h, e⟩ := State.raiseBits_spec s p m; rw [e]; rfl
@[simp] theorem State.raise_journal (s : State) (p b : Nat) : (s.raise p b).journal = s.journal := State.raiseBits_journal s p (2 ^ b)
@[simp] theorem State.raiseBits_sec (s : State) (p m : Nat) : (s.raiseBits p m).sec = s.sec := by
  obtain ⟨h, e⟩ := State.raiseBits_spec s p m; rw [e]; rfl
@[simp] theorem State.raise_sec (s : State) (p b : Nat) : (s.raise p b).sec = s.sec := State.raiseBits_sec s p (2 ^ b)
@[simp] theorem State.raiseBits_rflc (s : State) (p m : Nat) (j : Nat) : (s.raiseBits p m).rflc j = s.rflc j := by
  obtain ⟨h, e⟩ := State.raiseBits_spec s p m; rw [e]; rfl
@[simp] theorem State.raise_rflc (s : State) (p b : Nat) (j : Nat) : (s.raise p b).rflc j = s.rflc j := State.raiseBits_rflc s p (2 ^ b) j
@[simp] theorem State.raiseBits_bursts (s : State) (p m : Nat) : (s.raiseBits p m).bursts = s.bursts := by
  obtain ⟨h, e⟩ := State.raiseBits_spec s p m; rw [e]; rfl
@[simp] theorem State.raise_bursts (s : State) (p b : Nat) : (s.raise p b).bursts = s.bursts := State.raiseBits_bursts s p (2 ^ b)
@[simp] theorem State.raiseBits_cal (s : State) (p m : Nat) : (s.raiseBits p m).cal = s.cal := by
  obtain ⟨h, e⟩ := State.raiseBits_spec s p m; rw [e]; rfl
@[simp] theorem State.raise_cal (s : State) (p b : Nat) : (s.raise p b).cal = s.cal := State.raiseBits_cal s p (2 ^ b)
@[simp] theorem State.raiseBits_casPort (s : State) (p m : Nat) (j : Nat) : (s.raiseBits p m).casPort j = s.casPort j := by
  obtain ⟨h, e⟩ := State.raiseBits_spec s p m; rw [e]; rfl
@[simp] theorem State.raise_casPort (s : State) (p b : Nat) (j : Nat) : (s.raise p b).casPort j = s.casPort j := State.raiseBits_casPort s p (2 ^ b) j
@[simp] theorem State.raiseBits_cas (s : State) (p m : Nat) : (s.raiseBits p m).cas = s.cas := by
  obtain ⟨h, e⟩ := State.raiseBits_spec s p m; rw [e]; rfl
@[simp] theorem State.raise_cas (s : State) (p b : Nat) : (s.raise p b).cas = s.cas := State.raiseBits_cas s p (2 ^ b)
@[simp] theorem State.raiseBits_lags (s : State) (p m : Nat) : (s.raiseBits p m).lags = s.lags := by
  obtain ⟨h, e⟩ := State.raiseBits_spec s p m; rw [e]; rfl
@[simp] theorem State.raise_lags (s : State) (p b : Nat) : (s.raise p b).lags = s.lags := State.raiseBits_lags s p (2 ^ b)
@[simp] theorem State.raiseBits_epoch (s : State) (p m : Nat) : (s.raiseBits p m).epoch = s.epoch := by
  obtain ⟨h, e⟩ := State.raiseBits_spec s p m; rw [e]; rfl
@[simp] theorem State.raise_epoch (s : State) (p b : Nat) : (s.raise p b).epoch = s.epoch := State.raiseBits_epoch s p (2 ^ b)
@[simp] theorem State.raiseBits_tb (s : State) (p m : Nat) : (s.raiseBits p m).tb = s.tb := by
  obtain ⟨h, e⟩ := State.raiseBits_spec s p m; rw [e]; rfl
@[simp] theorem State.raise_tb (s : State) (p b : Nat) : (s.raise p b).tb = s.tb := State.raiseBits_tb s p (2 ^ b)
@[simp] theorem State.raiseBits_mem (s : State) (p m : Nat) : (s.raiseBits p m).mem = s.mem := by
  obtain ⟨h, e⟩ := State.raiseBits_spec s p m; rw [e]; rfl
@[simp] theorem State.raise_mem (s : State) (p b : Nat) : (s.raise p b).mem = s.mem := State.raiseBits_mem s p (2 ^ b)
@[simp] theorem State.raiseBits_pending (s : State) (p m : Nat) : (s.raiseBits p m).pending = s.pending := by
  obtain ⟨h, e⟩ := State.raiseBits_spec s p m; rw [e]; rfl
@[simp] theorem State.raise_pending (s : State) (p b : Nat) : (s.raise p b).pending = s.pending := State.raiseBits_pending s p (2 ^ b)

/-! ### What a write's arrival leaves alone -/

@[simp] theorem State.collide_dirty (s : State) (q : Req) (a : Nat) : (s.collide q a).dirty = s.dirty := by
  obtain ⟨x, e | e⟩ := State.collide_spec s q a <;> rw [e] <;> rfl
@[simp] theorem State.collide_pages (s : State) (q : Req) (a : Nat) (j : Nat) : (s.collide q a).pages j = s.pages j := by
  obtain ⟨x, e | e⟩ := State.collide_spec s q a <;> rw [e] <;> rfl
@[simp] theorem State.collide_latch (s : State) (q : Req) (a : Nat) (j : Nat) : (s.collide q a).latch j = s.latch j := by
  obtain ⟨x, e | e⟩ := State.collide_spec s q a <;> rw [e] <;> rfl
@[simp] theorem State.collide_tbu (s : State) (q : Req) (a : Nat) : (s.collide q a).tbu = s.tbu := by
  obtain ⟨x, e | e⟩ := State.collide_spec s q a <;> rw [e] <;> rfl
@[simp] theorem State.collide_recs (s : State) (q : Req) (a : Nat) : (s.collide q a).recs = s.recs := by
  obtain ⟨x, e | e⟩ := State.collide_spec s q a <;> rw [e] <;> rfl
@[simp] theorem State.collide_prodq (s : State) (q : Req) (a : Nat) : (s.collide q a).prodq = s.prodq := by
  obtain ⟨x, e | e⟩ := State.collide_spec s q a <;> rw [e] <;> rfl
@[simp] theorem State.collide_out (s : State) (q : Req) (a : Nat) : (s.collide q a).out = s.out := by
  obtain ⟨x, e | e⟩ := State.collide_spec s q a <;> rw [e] <;> rfl
@[simp] theorem State.collide_freeCtr (s : State) (q : Req) (a : Nat) : (s.collide q a).freeCtr = s.freeCtr := by
  obtain ⟨x, e | e⟩ := State.collide_spec s q a <;> rw [e] <;> rfl
@[simp] theorem State.collide_dom (s : State) (q : Req) (a : Nat) (j : Nat) : (s.collide q a).dom j = s.dom j := by
  obtain ⟨x, e | e⟩ := State.collide_spec s q a <;> rw [e] <;> rfl
@[simp] theorem State.collide_dir (s : State) (q : Req) (a : Nat) (j : Nat) : (s.collide q a).dir j = s.dir j := by
  obtain ⟨x, e | e⟩ := State.collide_spec s q a <;> rw [e] <;> rfl
@[simp] theorem State.collide_store (s : State) (q : Req) (a : Nat) (j : Nat) : (s.collide q a).store j = s.store j := by
  obtain ⟨x, e | e⟩ := State.collide_spec s q a <;> rw [e] <;> rfl
@[simp] theorem State.collide_win (s : State) (q : Req) (a : Nat) (j : Nat) : (s.collide q a).win j = s.win j := by
  obtain ⟨x, e | e⟩ := State.collide_spec s q a <;> rw [e] <;> rfl
@[simp] theorem State.collide_tab (s : State) (q : Req) (a : Nat) (j : Nat) : (s.collide q a).tab j = s.tab j := by
  obtain ⟨x, e | e⟩ := State.collide_spec s q a <;> rw [e] <;> rfl
@[simp] theorem State.collide_apg (s : State) (q : Req) (a : Nat) (j : Nat) : (s.collide q a).apg j = s.apg j := by
  obtain ⟨x, e | e⟩ := State.collide_spec s q a <;> rw [e] <;> rfl
@[simp] theorem State.collide_eng (s : State) (q : Req) (a : Nat) (j : Nat) : (s.collide q a).eng j = s.eng j := by
  obtain ⟨x, e | e⟩ := State.collide_spec s q a <;> rw [e] <;> rfl
@[simp] theorem State.collide_lout (s : State) (q : Req) (a : Nat) (j : Nat) : (s.collide q a).lout j = s.lout j := by
  obtain ⟨x, e | e⟩ := State.collide_spec s q a <;> rw [e] <;> rfl
@[simp] theorem State.collide_grp (s : State) (q : Req) (a : Nat) (j : Nat) : (s.collide q a).grp j = s.grp j := by
  obtain ⟨x, e | e⟩ := State.collide_spec s q a <;> rw [e] <;> rfl
@[simp] theorem State.collide_ballClaim (s : State) (q : Req) (a : Nat) (j : Nat) : (s.collide q a).ballClaim j = s.ballClaim j := by
  obtain ⟨x, e | e⟩ := State.collide_spec s q a <;> rw [e] <;> rfl
@[simp] theorem State.collide_ballOut (s : State) (q : Req) (a : Nat) (j : Nat) : (s.collide q a).ballOut j = s.ballOut j := by
  obtain ⟨x, e | e⟩ := State.collide_spec s q a <;> rw [e] <;> rfl
@[simp] theorem State.collide_ballTb (s : State) (q : Req) (a : Nat) (j : Nat) : (s.collide q a).ballTb j = s.ballTb j := by
  obtain ⟨x, e | e⟩ := State.collide_spec s q a <;> rw [e] <;> rfl
@[simp] theorem State.collide_arrivals (s : State) (q : Req) (a : Nat) : (s.collide q a).arrivals = s.arrivals := by
  obtain ⟨x, e | e⟩ := State.collide_spec s q a <;> rw [e] <;> rfl
@[simp] theorem State.collide_drv (s : State) (q : Req) (a : Nat) (j : Nat) : (s.collide q a).drv j = s.drv j := by
  obtain ⟨x, e | e⟩ := State.collide_spec s q a <;> rw [e] <;> rfl
@[simp] theorem State.collide_node (s : State) (q : Req) (a : Nat) (j : Nat) : (s.collide q a).node j = s.node j := by
  obtain ⟨x, e | e⟩ := State.collide_spec s q a <;> rw [e] <;> rfl
@[simp] theorem State.collide_loupe (s : State) (q : Req) (a : Nat) : (s.collide q a).loupe = s.loupe := by
  obtain ⟨x, e | e⟩ := State.collide_spec s q a <;> rw [e] <;> rfl
@[simp] theorem State.collide_crown (s : State) (q : Req) (a : Nat) (j : Nat) : (s.collide q a).crown j = s.crown j := by
  obtain ⟨x, e | e⟩ := State.collide_spec s q a <;> rw [e] <;> rfl
@[simp] theorem State.collide_bank (s : State) (q : Req) (a : Nat) (j : Nat) : (s.collide q a).bank j = s.bank j := by
  obtain ⟨x, e | e⟩ := State.collide_spec s q a <;> rw [e] <;> rfl
@[simp] theorem State.collide_sense (s : State) (q : Req) (a : Nat) (j : Nat) : (s.collide q a).sense j = s.sense j := by
  obtain ⟨x, e | e⟩ := State.collide_spec s q a <;> rw [e] <;> rfl
@[simp] theorem State.collide_pin (s : State) (q : Req) (a : Nat) (j : Nat) : (s.collide q a).pin j = s.pin j := by
  obtain ⟨x, e | e⟩ := State.collide_spec s q a <;> rw [e] <;> rfl
@[simp] theorem State.collide_lphy (s : State) (q : Req) (a : Nat) (j : Nat) : (s.collide q a).lphy j = s.lphy j := by
  obtain ⟨x, e | e⟩ := State.collide_spec s q a <;> rw [e] <;> rfl
@[simp] theorem State.collide_cmpl (s : State) (q : Req) (a : Nat) (j : Nat) : (s.collide q a).cmpl j = s.cmpl j := by
  obtain ⟨x, e | e⟩ := State.collide_spec s q a <;> rw [e] <;> rfl
@[simp] theorem State.collide_cmp (s : State) (q : Req) (a : Nat) (j : Nat) : (s.collide q a).cmp j = s.cmp j := by
  obtain ⟨x, e | e⟩ := State.collide_spec s q a <;> rw [e] <;> rfl
@[simp] theorem State.collide_isl (s : State) (q : Req) (a : Nat) (j : Nat) : (s.collide q a).isl j = s.isl j := by
  obtain ⟨x, e | e⟩ := State.collide_spec s q a <;> rw [e] <;> rfl
@[simp] theorem State.collide_rail (s : State) (q : Req) (a : Nat) (j : Nat) : (s.collide q a).rail j = s.rail j := by
  obtain ⟨x, e | e⟩ := State.collide_spec s q a <;> rw [e] <;> rfl
@[simp] theorem State.collide_stop (s : State) (q : Req) (a : Nat) (j : Nat) : (s.collide q a).stop j = s.stop j := by
  obtain ⟨x, e | e⟩ := State.collide_spec s q a <;> rw [e] <;> rfl
@[simp] theorem State.collide_totals (s : State) (q : Req) (a : Nat) (j : Nat) : (s.collide q a).totals j = s.totals j := by
  obtain ⟨x, e | e⟩ := State.collide_spec s q a <;> rw [e] <;> rfl
@[simp] theorem State.collide_sbank (s : State) (q : Req) (a : Nat) (j : Nat) : (s.collide q a).sbank j = s.sbank j := by
  obtain ⟨x, e | e⟩ := State.collide_spec s q a <;> rw [e] <;> rfl
@[simp] theorem State.collide_tpll (s : State) (q : Req) (a : Nat) : (s.collide q a).tpll = s.tpll := by
  obtain ⟨x, e | e⟩ := State.collide_spec s q a <;> rw [e] <;> rfl
@[simp] theorem State.collide_quad (s : State) (q : Req) (a : Nat) (j : Nat) : (s.collide q a).quad j = s.quad j := by
  obtain ⟨x, e | e⟩ := State.collide_spec s q a <;> rw [e] <;> rfl
@[simp] theorem State.collide_bring (s : State) (q : Req) (a : Nat) : (s.collide q a).bring = s.bring := by
  obtain ⟨x, e | e⟩ := State.collide_spec s q a <;> rw [e] <;> rfl
@[simp] theorem State.collide_lustre (s : State) (q : Req) (a : Nat) : (s.collide q a).lustre = s.lustre := by
  obtain ⟨x, e | e⟩ := State.collide_spec s q a <;> rw [e] <;> rfl
@[simp] theorem State.collide_port (s : State) (q : Req) (a : Nat) (j : Nat) : (s.collide q a).port j = s.port j := by
  obtain ⟨x, e | e⟩ := State.collide_spec s q a <;> rw [e] <;> rfl
@[simp] theorem State.collide_evtb (s : State) (q : Req) (a : Nat) (j : Nat) : (s.collide q a).evtb j = s.evtb j := by
  obtain ⟨x, e | e⟩ := State.collide_spec s q a <;> rw [e] <;> rfl
@[simp] theorem State.collide_route (s : State) (q : Req) (a : Nat) (j : Nat) : (s.collide q a).route j = s.route j := by
  obtain ⟨x, e | e⟩ := State.collide_spec s q a <;> rw [e] <;> rfl
@[simp] theorem State.collide_swq (s : State) (q : Req) (a : Nat) : (s.collide q a).swq = s.swq := by
  obtain ⟨x, e | e⟩ := State.collide_spec s q a <;> rw [e] <;> rfl
@[simp] theorem State.collide_timer (s : State) (q : Req) (a : Nat) (j : Nat) : (s.collide q a).timer j = s.timer j := by
  obtain ⟨x, e | e⟩ := State.collide_spec s q a <;> rw [e] <;> rfl
@[simp] theorem State.collide_journal (s : State) (q : Req) (a : Nat) : (s.collide q a).journal = s.journal := by
  obtain ⟨x, e | e⟩ := State.collide_spec s q a <;> rw [e] <;> rfl
@[simp] theorem State.collide_sec (s : State) (q : Req) (a : Nat) : (s.collide q a).sec = s.sec := by
  obtain ⟨x, e | e⟩ := State.collide_spec s q a <;> rw [e] <;> rfl
@[simp] theorem State.collide_rflc (s : State) (q : Req) (a : Nat) (j : Nat) : (s.collide q a).rflc j = s.rflc j := by
  obtain ⟨x, e | e⟩ := State.collide_spec s q a <;> rw [e] <;> rfl
@[simp] theorem State.collide_bursts (s : State) (q : Req) (a : Nat) : (s.collide q a).bursts = s.bursts := by
  obtain ⟨x, e | e⟩ := State.collide_spec s q a <;> rw [e] <;> rfl
@[simp] theorem State.collide_cal (s : State) (q : Req) (a : Nat) : (s.collide q a).cal = s.cal := by
  obtain ⟨x, e | e⟩ := State.collide_spec s q a <;> rw [e] <;> rfl
@[simp] theorem State.collide_casPort (s : State) (q : Req) (a : Nat) (j : Nat) : (s.collide q a).casPort j = s.casPort j := by
  obtain ⟨x, e | e⟩ := State.collide_spec s q a <;> rw [e] <;> rfl
@[simp] theorem State.collide_cas (s : State) (q : Req) (a : Nat) : (s.collide q a).cas = s.cas := by
  obtain ⟨x, e | e⟩ := State.collide_spec s q a <;> rw [e] <;> rfl
@[simp] theorem State.collide_lags (s : State) (q : Req) (a : Nat) : (s.collide q a).lags = s.lags := by
  obtain ⟨x, e | e⟩ := State.collide_spec s q a <;> rw [e] <;> rfl
@[simp] theorem State.collide_epoch (s : State) (q : Req) (a : Nat) : (s.collide q a).epoch = s.epoch := by
  obtain ⟨x, e | e⟩ := State.collide_spec s q a <;> rw [e] <;> rfl
@[simp] theorem State.collide_tb (s : State) (q : Req) (a : Nat) : (s.collide q a).tb = s.tb := by
  obtain ⟨x, e | e⟩ := State.collide_spec s q a <;> rw [e] <;> rfl
@[simp] theorem State.collide_mem (s : State) (q : Req) (a : Nat) : (s.collide q a).mem = s.mem := by
  obtain ⟨x, e | e⟩ := State.collide_spec s q a <;> rw [e] <;> rfl
@[simp] theorem State.collide_pending (s : State) (q : Req) (a : Nat) : (s.collide q a).pending = s.pending := by
  obtain ⟨x, e | e⟩ := State.collide_spec s q a <;> rw [e] <;> rfl

end Sys2Proof.Machine
end

