-- ==== Sys2Proof/Tests/Slice0.lean ====
section
/-!
SUPPORT. Tests/Slice0.lean: tests of the model on fixed values, and witnesses that the hypotheses of every clause of every
statement can be met together.
-/

namespace Sys2Proof.Tests

open Sys2Proof.Machine

-- One theorem after another: each task would take a stack of its own.
set_option Elab.async false

/-- A state for witnesses: after reset, with DEV_STATE reading READY. -/
def rdy : State := State.reset.wr DEV_STATE.STATE 0 6

/-- A write of the host with all byte enables. -/
def hw (v : Word) : Wr := { req := .host, be := 0xF, val := v }

/-- A write over the cascade tunnel with all byte enables. -/
def tw (v : Word) : Wr := { req := .tunnel, be := 0xF, val := v }

/-- A state for witnesses whose UP port is in SERVICE with its neighbour named. -/
def upSvc : State := (rdy.wr CAS_STAT.UP_STATE 0 2).modCasPort 0 fun c => { c with named := true }

/-- A state for witnesses whose DOWN port is in SERVICE with its neighbour named. -/
def dnSvc : State := (rdy.wr CAS_STAT.DN_STATE 0 2).modCasPort 1 fun c => { c with named := true }

/-- A state for witnesses with every island's loop locked. -/
def allLocked : State :=
  ((List.range 32).foldl (fun s i => s.wr FCT_CLK_STAT.FLL_LOCK i 1) rdy).wr AF_CLK_STAT.FLL_LOCK 0 1

/-- A state for witnesses in SAFE with the TPLL locked and every sensor cold. -/
def inSafe : State := ((rdy.wr DEV_STATE.STATE 0 8).wr TPLL_STAT.STATE 0 1).wr TB_STAT.EPOCH_STATE 0 1

/-- A state for witnesses, 1 ms after the release, whose boot slot 0 holds an empty script. -/
def bootable : State :=
  let a := State.reset.flashProg 0 (leBytes 4 0x01010000 ++ leBytes 4 7 ++ leBytes 4 0)
  let b := (a.flashProg 0xF8 (leBytes 4 (crc32c (a.flashBytes 0 0xF8)))).flashProg 0xFC (leBytes 4 0x3C5AA5C3)
  { b with tb := 500000 }

/-- A state for witnesses whose channel 3 is RUNNING a descriptor of 64 bytes with the given CTL, source and destination selectors. -/
def running3 (ctl src dst : Nat) : State :=
  let a := fun (s : State) (n v : Nat) => s.wr RFL_ACT.ACT (96 + n) v
  let b := fun (s : State) (o : Nat) => a (a (a s o 64) (o + 1) 0x10001) (o + 2) 1
  ((b (b (a (a rdy 0 ctl) 6 (src * 65536 + dst)) 7) 13).wr RFL_STAT.STATE 3 3).modRflc 3 fun x => { x with active := true }

/-! ### Ill-formed commands -/

theorem test_wf_register_write_misaligned : (Instr.registerWrite ⟨.host, 0xF, 0⟩ 0x1001).wellFormed = false := by decide
theorem test_wf_register_write_aligned : (Instr.registerWrite ⟨.host, 0xF, 0⟩ 0x1004).wellFormed = true := by decide
theorem test_wf_window_write_misaligned : (Instr.windowBWrite ⟨.host, 0xF, 0⟩ 0x02000002).wellFormed = false := by decide
theorem test_wf_window_read_misaligned : (Instr.windowBRead .host 0x02000003 .clean).wellFormed = false := by decide
theorem test_wf_tunnel_misaligned : (Instr.tunnelAccessExec 1 false true 0x1001 0 .clean).wellFormed = false := by decide
theorem test_wf_census_short_control : (Instr.girdleCensus [1] (List.replicate 34 0)).wellFormed = false := by decide
theorem test_wf_census_short_bulk : (Instr.girdleCensus (List.replicate 34 0) [1]).wellFormed = false := by decide
theorem test_wf_plan_short_ages : (Instr.lusPlanComplete [] (List.replicate 34 0)).wellFormed = false := by decide
theorem test_wf_plan_short_delays : (Instr.lusPlanComplete (List.replicate 34 0) []).wellFormed = false := by decide
theorem test_wf_time_outside_tick : (Instr.casTimeReceive 0 1 1 true 2000).wellFormed = false := by decide

/-! ### The spec's own examples -/

/-- Controls and pages, worked example: the page of E203 is 0x1C7. -/
theorem test_page_of_e203 : pgEng 203 = 0x1C7 := by decide

/-- The example of R29: the window [4,000,100, 4,000,116). -/
theorem test_window_before : (⟨4000099, 7, false⟩ : Stamp).inside 4000100 4000116 = false := by decide
theorem test_window_opens : (⟨4000100, 0, false⟩ : Stamp).inside 4000100 4000116 = true := by decide
theorem test_window_last : (⟨4000115, 7, false⟩ : Stamp).inside 4000100 4000116 = true := by decide
theorem test_window_closed : (⟨4000116, 0, false⟩ : Stamp).inside 4000100 4000116 = false := by decide

/-- The example of R112: with 13 BULK streams a stop with 12 gains 177.2 slots, in units of 1/256. -/
theorem test_census_quantum : nth (({ n := [0, 0, 12] } : Stop).quanta [0, 0, 13]).deficit 2 = 45371 := by decide

/-- The example of R478: S of an alignment accepted at 10,000,000,123. -/
theorem test_alignment_tick : ceilTo 65536 (10000000123 + 2000000) = 10002038784 := by decide

/-- The example of the calibration chapter: slots with GEN 41 and 42 give the store slot 0 and GEN 43. -/
theorem test_store_target :
    (((rdy.wr CAL_SLOT_STAT.VALID 0 3).wr CAL_SLOT_GEN.GEN 0 41).wr CAL_SLOT_GEN.GEN 1 42).storeTarget = (0, 43) := by decide +kernel

/-! ### Single steps -/

/-- R11: the epoch is a 64-bit count. -/
theorem test_epoch_wraps :
    (match exec .epochTick { (rdy.wr TB_STAT.EPOCH_STATE 0 1) with epoch := 2 ^ 64 - 1 } with
    | .next t => t.epoch
    | _ => 1) = 0 := by decide +kernel

/-- The command at the front runs, and the rest waits. -/
theorem test_step_takes_the_front :
    (match step { rdy with pending := [.epochTick, .ppsMissing] } with
    | .next t => (t.tb, t.pending)
    | _ => (0, [])) = (1, [.ppsMissing]) := by decide +kernel

/-- R38, R562: H below 96 is refused with VALUE_RANGE. -/
theorem test_h_below_96_refused :
    (match execHLocalWrite (hw 95) rdy with
    | .next t => (t.h, t.rd ERR_CODE.LAST pgTb)
    | _ => (0, 0)) = (96, 1) := by decide +kernel

/-- R48: a dword written through window B lies in the memory little-endian. -/
theorem test_window_b_little_endian :
    (match execWindowBWrite (hw 0x12345678) 0x02000000 rdy with
    | .next t => t.mem.winB
    | _ => []) = [(0x02000000, 0x78), (0x02000001, 0x56), (0x02000002, 0x34), (0x02000003, 0x12)] := by decide +kernel


/-! ### Witnesses: a state and operands that meet the hypotheses of a statement's clause -/

theorem wit_EpochAndPpsCommands_1_1 : ∃ (s : State),
    (s.bring.epochNext = false) ∧ (s.rd TB_STAT.EPOCH_STATE 0 ≠ 0 ∨ s.cas.counting = true) ∧ (s.bring.afBack.all (fun e => decide ((s.epoch + 1) % 2 ^ 64 < e)) = true) :=
  ⟨State.reset.wr TB_STAT.EPOCH_STATE 0 1, by decide⟩

theorem wit_EpochAndPpsCommands_1_2 : ∃ (s : State),
    (s.bring.epochNext = false) ∧ (s.rd TB_STAT.EPOCH_STATE 0 ≠ 0 ∨ s.cas.counting = true) ∧ (s.bring.afBack.all (fun e => decide ((s.epoch + 1) % 2 ^ 64 < e)) = true) :=
  ⟨(State.reset.wr TB_STAT.EPOCH_STATE 0 1).modBring fun b => { b with afBack := some 2 }, by decide⟩

theorem wit_EpochAndPpsCommands_2 : ∃ (e : Nat) (s : State),
    (s.bring.epochNext = false) ∧ (s.bring.afBack = some e) ∧ (e ≤ (if s.counting then (s.epoch + 1) % 2 ^ 64 else s.epoch)) :=
  ⟨2, { ((State.reset.wr TB_STAT.EPOCH_STATE 0 1).wr AF_STAT.FALLBACK 0 1).modBring fun b => { b with afBack := some 2 } with epoch := 1 }, by decide⟩

theorem wit_EpochAndPpsCommands_3 : ∃ (s : State),
    (s.bring.epochNext = false) ∧ (s.rd TB_STAT.EPOCH_STATE 0 = 0) ∧ (s.cas.counting = false) ∧ (s.bring.afBack.all (fun e => decide (s.epoch < e)) = true) :=
  ⟨State.reset, by decide⟩

theorem wit_EpochAndPpsCommands_4 : ∃ (s : State),
    (s.bring.epochNext = true) ∧ (s.rd TB_STAT.EPOCH_STATE 0 = 0) :=
  ⟨State.reset.modBring fun b => { b with epochNext := true }, by decide⟩

theorem wit_EpochAndPpsCommands_5 : ∃ (req : Req) (s : State),
    (s.reaches req = true) ∧ (s.ready pgTb = true) :=
  ⟨.tunnel, rdy, by decide⟩

theorem wit_EpochAndPpsCommands_6 : ∃ (falling : Bool) (s : State),
    (s.on TB_CTRL.PPS_EN 0 = true) ∧ (s.on TB_CTRL.PPS_EDGE 0 = falling) :=
  ⟨false, State.reset.wr TB_CTRL.PPS_EN 0 1, by decide⟩

theorem wit_EpochAndPpsCommands_7 : ∃ (s : State),
    (s.on TB_CTRL.PPS_EN 0 = true) ∧ (s.tbu.missed = false) ∧ (s.tbu.watchFrom + 750000000 ≤ s.tb) :=
  ⟨{ State.reset.wr TB_CTRL.PPS_EN 0 1 with tb := 750000000 }, by decide⟩

theorem wit_EpochAndPpsCommands_8 : ∃ (w : Wr) (s : State),
    (Accepted s w pgTb) ∧ (bit w.val.toNat 0 = false ∨ s.rd TPLL_STAT.STATE 0 = 1) ∧ (s.on TB_CTRL.PPS_EN 0 = false) :=
  ⟨hw 0x4, rdy, by decide⟩

theorem wit_EpochAndPpsCommands_9 : ∃ (req : Req) (s : State),
    (s.reaches req = true) ∧ (s.ready pgTb = true) :=
  ⟨.host, rdy, by decide⟩

theorem wit_TbPageWrites_1 : ∃ (w : Wr) (s : State),
    (Accepted s w pgTb) ∧ (bit w.val.toNat 0 = false ∨ s.rd TPLL_STAT.STATE 0 = 1) :=
  ⟨hw 0, rdy, by decide⟩

theorem wit_TbPageWrites_2 : ∃ (w : Wr) (s : State),
    (Accepted s w pgTb) ∧ (s.rd TPLL_STAT.STATE 0 = 1) :=
  ⟨hw 0, (rdy.wr TPLL_STAT.STATE 0 1).wr TB_STAT.EPOCH_STATE 0 2, by decide⟩

theorem wit_TbPageWrites_3 : ∃ (w : Wr) (s : State),
    (Accepted s w pgTb) ∧ (s.rd TPLL_STAT.STATE 0 ≠ 1) :=
  ⟨hw 0, rdy, by decide⟩

theorem wit_TbPageWrites_4_1 : ∃ (w : Wr) (s : State),
    (Accepted s w pgTb) ∧ (96 ≤ bits w.val.toNat 0 12) ∧ (s.anyEngBusy = false) :=
  ⟨hw 96, rdy, by decide +kernel⟩

theorem wit_TbPageWrites_4_2 : ∃ (w : Wr) (s : State),
    (Accepted s w pgTb) ∧ (96 ≤ bits w.val.toNat 0 12) ∧ (s.anyEngBusy = false) :=
  ⟨hw 0xFFF, rdy, by decide +kernel⟩

theorem wit_TbPageWrites_5_1 : ∃ (w : Wr) (s : State),
    (Accepted s w pgTb) ∧ (bits w.val.toNat 0 12 < 96 ∨ s.anyEngBusy = true) :=
  ⟨hw 95, rdy, by decide⟩

theorem wit_TbPageWrites_5_2 : ∃ (w : Wr) (s : State),
    (Accepted s w pgTb) ∧ (bits w.val.toNat 0 12 < 96 ∨ s.anyEngBusy = true) :=
  ⟨hw 200, rdy.wr ENG_STAT.STATE 511 3, by decide +kernel⟩

theorem wit_HostPortEvents_1 : ∃ (s : State),
    (s.hostp.perst = false) ∧ (s.on HOST_LINK.DL_UP 0 = true) :=
  ⟨(rdy.wr HOST_LINK.DL_UP 0 1).modHostp fun h => { h with perst := false, msixEn := true }, by decide⟩

theorem wit_HostPortEvents_2 : ∃ (s : State),
    (s.hostp.perst = false) ∧ (s.on HOST_LINK.DL_UP 0 = false) :=
  ⟨rdy.modHostp fun h => { h with perst := false, d3hot := true }, by decide⟩

theorem wit_HostPortEvents_4 : ∃ (s : State),
    (s.hostp.perst = false) :=
  ⟨(rdy.wr DEV_INT_CTRL.INTN_EN 0 1).modHostp fun h => { h with perst := false, d3hot := true }, by decide⟩

theorem wit_HostPortEvents_5 : ∃ (s : State),
    (s.hostp.perst = false) ∧ (s.hostp.d3hot = false) :=
  ⟨rdy.modHostp fun h => { h with perst := false }, by decide⟩

theorem wit_HostPortEvents_6 : ∃ (s : State),
    (s.hostp.d3hot = true) :=
  ⟨(rdy.wr IRQ_EN.BITS 0 1).modHostp fun h => { h with d3hot := true }, by decide⟩

theorem wit_HostPortEvents_7 : ∃ (s : State),
    (s.on HOST_LINK.DL_UP 0 = true) :=
  ⟨rdy.wr HOST_LINK.DL_UP 0 1, by decide⟩

theorem wit_HostPortEvents_8 : ∃ (width : Fin 16) (speed : Fin 16) (s : State),
    (s.endpointOn = true) ∧ (s.on HOST_LINK.DL_UP 0 = false) ∧ (linkMode width.val speed.val = true) :=
  ⟨8, 5, (rdy.wr DEV_STRAP.STRAPS 0 8).modHostp fun h => { h with perst := false }, by decide⟩

theorem wit_InterruptAndPageWrites_1 : ∃ (p : Fin 1024) (w : Wr) (s : State),
    (Accepted s w p.val) :=
  ⟨1, hw 0xFFFFFFFF, rdy, by decide⟩

theorem wit_InterruptAndPageWrites_2 : ∃ (w : Wr) (s : State),
    (Accepted s w pgDev) :=
  ⟨hw 0, (rdy.wr IRQ_EN.BITS 0 1).wr IRQ_STAT.BITS 0 1, by decide⟩

theorem wit_InterruptAndPageWrites_3 : ∃ (s : State),
    (s.hostp.perst = false) :=
  ⟨((rdy.wr IRQ_EN.BITS 0 1).wr IRQ_STAT.BITS 0 1).modHostp fun h => { h with perst := false }, by decide⟩

theorem wit_InterruptAndPageWrites_4 : ∃ (v : Fin 256) (s : State),
    (s.msixReady v.val = true) :=
  ⟨255, (rdy.wr HOST_LINK.DL_UP 0 1).setHostp { msixEn := true, busMaster := true, vecMask := 0, pba := BitVec.allOnes 256 }, by decide⟩

theorem wit_InterruptAndPageWrites_5_1 : ∃ (p : Fin 1024) (w : Wr) (s : State),
    (Accepted s w p.val) :=
  ⟨766, hw 0x5AFE0000, { rdy with tb := 7 }, by decide⟩

theorem wit_InterruptAndPageWrites_5_2 : ∃ (p : Fin 1024) (w : Wr) (s : State),
    (Accepted s w p.val) :=
  ⟨1, hw 0x5AFF0000, rdy.wr LOCK.OPEN 1 1, by decide⟩

theorem wit_InterruptAndPageWrites_6 : ∃ (p : Fin 1024) (s : State),
    (s.on LOCK.OPEN p.val = true) ∧ ((s.pages p.val).openedAt + 50000000 ≤ s.tb) :=
  ⟨1, { rdy.wr LOCK.OPEN 1 1 with tb := 50000000 }, by decide⟩

theorem wit_InterruptAndPageWrites_7 : ∃ (p : Fin 1024) (w : Wr) (s : State),
    (Accepted s w p.val) :=
  ⟨6, hw 0, rdy.wr ERR_COUNT.COUNT 6 9, by decide⟩

theorem wit_InterruptAndPageWrites_8 : ∃ (w : Wr) (s : State),
    (Accepted s w pgHost) :=
  ⟨hw 0, rdy.wr HOST_DROP.COUNT 0 9, by decide⟩

theorem wit_RegisterWriteFields_1_1 : ∃ (p : Nat) (w : Wr) (addr : BitVec 22) (s : State),
    (addr.toNat / 4 * 4 = p * 4096 + 0x14) ∧ (Accepted s w p) :=
  ⟨1, tw 0xFFFFFFFF, 0x1014, rdy, by decide⟩

theorem wit_RegisterWriteFields_1_2 : ∃ (p : Nat) (w : Wr) (addr : BitVec 22) (s : State),
    (addr.toNat / 4 * 4 = p * 4096 + 0x14) ∧ (Accepted s w p) :=
  ⟨0x2FE, hw 0xFFFFFFFF, 0x2FE017, rdy, by decide⟩

theorem wit_RegisterWriteFields_2 : ∃ (p : Nat) (w : Wr) (addr : BitVec 22) (s : State),
    (addr.toNat / 4 * 4 = p * 4096 + 0x10) ∧ (Accepted s w p) :=
  ⟨1, hw 5, 0x1010, rdy.wr IRQ_STAT.BITS 1 15, by decide⟩

theorem wit_RegisterWriteFields_3 : ∃ (c : Fin 64) (w : Wr) (addr : BitVec 22) (s : State),
    (addr.toNat / 4 * 4 = pgSns c.val * 4096 + 0x150 + 0x80 * (c.val % 8)) ∧ (Accepted s w (pgSns c.val)) ∧ (s.on LOCK.OPEN (pgSns c.val) = true) :=
  ⟨63, hw 0xFFFFFF, 0x914D0, rdy.wr LOCK.OPEN 0x91 1, by decide⟩

theorem wit_RegisterWriteFields_4 : ∃ (c : Fin 64) (w : Wr) (addr : BitVec 22) (s : State),
    (addr.toNat / 4 * 4 = pgSns c.val * 4096 + 0x150 + 0x80 * (c.val % 8)) ∧ (Accepted s w (pgSns c.val)) ∧ (s.on LOCK.OPEN (pgSns c.val) = false) :=
  ⟨0, hw 1, 0x8A150, rdy, by decide⟩

theorem wit_RegisterWriteFields_5 : ∃ (e : Fin 512) (w : Wr) (addr : BitVec 22) (s : State),
    (addr.toNat / 4 * 4 = pgEng e.val * 4096 + 0x044 + 0x400 * (e.val % 2)) ∧ (Accepted s w (pgEng e.val)) ∧ (s.shadowLocked (pgEng e.val) = false) :=
  ⟨511, hw 0x12345678, 0x2F9444, rdy, by decide⟩

theorem wit_RegisterWriteFields_6 : ∃ (e : Fin 512) (w : Wr) (addr : BitVec 22) (s : State),
    (addr.toNat / 4 * 4 = pgEng e.val * 4096 + 0x044 + 0x400 * (e.val % 2)) ∧ (Accepted s w (pgEng e.val)) ∧ (s.shadowLocked (pgEng e.val) = true) :=
  ⟨0, hw 0x12345678, 0x102044, rdy.setPages 0x102 { pending := true, waits := [(.eng 0, 9, 9, 0)] }, by decide⟩

theorem wit_RegisterWriteFields_7 : ∃ (p : Nat) (w : Wr) (addr : BitVec 22) (s : State),
    (addr.toNat / 4 * 4 = p * 4096 + 0x10) ∧ (s.reaches w.req = true) ∧ (s.ready p = false) :=
  ⟨0x3FF, tw 1, 0x3FF010, rdy, by decide⟩

theorem wit_RegisterWriteFields_8 : ∃ (p : Nat) (w : Wr) (addr : BitVec 22) (s : State),
    (addr.toNat / 4 * 4 = p * 4096 + 0x10) ∧ (s.reaches w.req = false) :=
  ⟨1, hw 1, 0x1010, rdy.modHostp fun h => { h with d3hot := true }, by decide⟩

theorem wit_WindowBAccesses_1_1 : ∃ (w : Wr) (addr : BitVec 30) (f : Nat) (o : Nat) (s : State),
    (addr.toNat / 4 * 4 = facetBase f + o) ∧ (o < 0x02000000) ∧ (offMapped o = true) ∧ (s.reaches w.req = true) ∧ (s.dev ≠ 1 ∧ s.domOn f = true ∧ s.facetBusy f = false) ∧ (o < 0x00A00000 → s.granuleHeld f (granuleAt o) = false) :=
  ⟨hw 0x12345678, 0, 0, 0, rdy, by decide⟩

theorem wit_WindowBAccesses_1_2 : ∃ (w : Wr) (addr : BitVec 30) (f : Nat) (o : Nat) (s : State),
    (addr.toNat / 4 * 4 = facetBase f + o) ∧ (o < 0x02000000) ∧ (offMapped o = true) ∧ (s.reaches w.req = true) ∧ (s.dev ≠ 1 ∧ s.domOn f = true ∧ s.facetBusy f = false) ∧ (o < 0x00A00000 → s.granuleHeld f (granuleAt o) = false) :=
  ⟨{ hw 0x12345678 with be := 0xC }, 0x3E9FFFFC, 31, 0x009FFFFC, rdy, by decide⟩

theorem wit_WindowBAccesses_1_3 : ∃ (w : Wr) (addr : BitVec 30) (f : Nat) (o : Nat) (s : State),
    (addr.toNat / 4 * 4 = facetBase f + o) ∧ (o < 0x02000000) ∧ (offMapped o = true) ∧ (s.reaches w.req = true) ∧ (s.dev ≠ 1 ∧ s.domOn f = true ∧ s.facetBusy f = false) ∧ (o < 0x00A00000 → s.granuleHeld f (granuleAt o) = false) :=
  ⟨{ tw 0xFFFFFFFF with be := 9 }, 0x3F0FFFFF, 31, 0x010FFFFC, rdy, by decide⟩

theorem wit_WindowBAccesses_2_1 : ∃ (w : Wr) (addr : BitVec 30) (f : Nat) (o : Nat) (s : State),
    (addr.toNat / 4 * 4 = facetBase f + o) ∧ (o < 0x02000000) ∧ (s.reaches w.req = true) ∧ (offMapped o = false ∨ s.domOn f = false ∨ s.facetBusy f = true ∨ (o < 0x00A00000 ∧ s.granuleHeld f (granuleAt o) = true)) :=
  ⟨hw 1, 0x00A00000, 0, 0x00A00000, rdy, by decide⟩

theorem wit_WindowBAccesses_2_2 : ∃ (w : Wr) (addr : BitVec 30) (f : Nat) (o : Nat) (s : State),
    (addr.toNat / 4 * 4 = facetBase f + o) ∧ (o < 0x02000000) ∧ (s.reaches w.req = true) ∧ (offMapped o = false ∨ s.domOn f = false ∨ s.facetBusy f = true ∨ (o < 0x00A00000 ∧ s.granuleHeld f (granuleAt o) = true)) :=
  ⟨hw 1, 0x02000000, 1, 0, rdy.wr ENG_STAT.STATE 31 3, by decide⟩

theorem wit_WindowBAccesses_3 : ∃ (req : Req) (addr : BitVec 30) (f : Nat) (o : Nat) (s : State),
    (addr.toNat / 4 * 4 = facetBase f + o) ∧ (o < 0x02000000) ∧ (offMapped o = true) ∧ (s.reaches req = true) ∧ (s.dev ≠ 1 ∧ s.domOn f = true) :=
  ⟨.host, 0x01000010, 0, 0x01000010, rdy.setMemB 0x01000011 7, by decide⟩

theorem wit_WindowBAccesses_4 : ∃ (target : Fin 16) (s : State),
    (s.portUsed false = true) ∧ (s.on CAS_STAT.ADDR_VALID 0 = true) ∧ (s.ownAddr = target.val) :=
  ⟨3, (upSvc.wr CAS_STAT.ADDR 0 3).wr CAS_STAT.ADDR_VALID 0 1, by decide⟩

theorem wit_WindowBAccesses_5 : ∃ (target : Fin 16) (s : State),
    (s.portUsed false = true) ∧ (s.on CAS_STAT.ADDR_VALID 0 = false ∨ s.ownAddr ≠ target.val) :=
  ⟨5, upSvc, by decide⟩

theorem wit_CommitAndHandOver_1_1 : ∃ (p : Fin 1024) (w : Wr) (s : State),
    (Accepted s w p.val) ∧ (bits w.val.toNat 4 2 ≠ 3) ∧ (s.armPageCodes p.val (bits w.val.toNat 4 2) = []) ∧ (s.armRivals (s.dirtyOwners p.val) = []) :=
  ⟨0x102, hw 0, rdy.wrShadow ENG_WIN.BASE 1 16, by decide⟩

theorem wit_CommitAndHandOver_1_2 : ∃ (p : Fin 1024) (w : Wr) (s : State),
    (Accepted s w p.val) ∧ (bits w.val.toNat 4 2 ≠ 3) ∧ (s.armPageCodes p.val (bits w.val.toNat 4 2) = []) ∧ (s.armRivals (s.dirtyOwners p.val) = []) :=
  ⟨0x102, hw 0x10, rdy.wrShadow ENG_MARK_LO.SLOT0 1 0x8200, by decide⟩

theorem wit_CommitAndHandOver_2 : ∃ (p : Fin 1024) (w : Wr) (k : Nat) (s : State),
    (Accepted s w p.val) ∧ (bits w.val.toNat 4 2 ≠ 3) ∧ (s.armPageCodes p.val (bits w.val.toNat 4 2) = []) ∧ (s.armRivals (s.dirtyOwners p.val) = [k]) ∧ (k < 512 ∧ pgEng k ≠ p.val ∧ (s.pages (pgEng k)).waits ≠ []) :=
  ⟨0x102, hw 0, 3, (((rdy.wrShadow ENG_MARK_LO.SLOT0 1 0x8200).setBallClaim 2 13).setBallTb 2 1).setPages 0x103 { pending := true, waits := [(.eng 3, 96, 30, 0)] }, by decide⟩

theorem wit_CommitAndHandOver_3 : ∃ (p : Fin 1024) (w : Wr) (c : Nat) (s : State),
    (Accepted s w p.val) ∧ (bits w.val.toNat 4 2 ≠ 3) ∧ (worst (s.armPageCodes p.val (bits w.val.toNat 4 2)) = some c) :=
  ⟨0x102, hw 0, 3, rdy.wrShadow ENG_WIN.BASE 1 0xFFFF, by decide⟩

theorem wit_CommitAndHandOver_4 : ∃ (p : Fin 1024) (n : Nat) (d : Nat) (snap : Nat) (code : Nat) (o : Owner) (s : State),
    ((s.pages p.val).waits[n]? = some (o, d, snap, code)) ∧ (snap ≤ s.epoch ∨ s.counting = false) ∧ (worst ((if s.pruneLags.ownerCode o = code then [] else s.pruneLags.ownerChecks o) ++ s.pruneLags.ownerRefuses o) = none) :=
  ⟨0x102, 0, 96, 30, 0, .eng 1, { (rdy.wrShadow ENG_WIN.BASE 1 16).setPages 0x102 { pending := true, waits := [(.eng 1, 96, 30, 0)] } with epoch := 30 }, by decide⟩

theorem wit_CommitAndHandOver_5 : ∃ (p : Fin 1024) (n : Nat) (d : Nat) (snap : Nat) (code : Nat) (c : Nat) (o : Owner) (s : State),
    ((s.pages p.val).waits[n]? = some (o, d, snap, code)) ∧ (snap ≤ s.epoch ∨ s.counting = false) ∧ (worst ((if s.pruneLags.ownerCode o = code then [] else s.pruneLags.ownerChecks o) ++ s.pruneLags.ownerRefuses o) = some c) ∧ ((s.pages p.val).failed = none) :=
  ⟨0x81, 0, 96, 30, 4, 2, .drv 0, { ((rdy.wrShadow DRV_SRC_A.KIND 0 1).wr DRV_STAT.STATE 0 2).setPages 0x81 { pending := true, waits := [(.drv 0, 96, 30, 4)] } with epoch := 30 }, by decide⟩

theorem wit_CommitAndHandOver_6 : ∃ (p : Fin 1024) (n : Nat) (d : Nat) (snap : Nat) (code : Nat) (c : Nat) (c0 : Nat) (first : Bool) (o : Owner) (s : State),
    ((s.pages p.val).waits[n]? = some (o, d, snap, code)) ∧ (snap ≤ s.epoch ∨ s.counting = false) ∧ (worst ((if s.pruneLags.ownerCode o = code then [] else s.pruneLags.ownerChecks o) ++ s.pruneLags.ownerRefuses o) = some c) ∧ ((s.pages p.val).failed = some (c0, first)) :=
  ⟨0x81, 0, 96, 30, 4, 2, 7, true, .drv 0, { ((rdy.wrShadow DRV_SRC_A.KIND 0 1).wr DRV_STAT.STATE 0 2).setPages 0x81 { pending := true, waits := [(.drv 0, 96, 30, 4)], failed := some (7, true) } with epoch := 30 }, by decide⟩

theorem wit_CommitAndHandOver_7 : ∃ (p : Fin 1024) (n : Nat) (d : Nat) (snap : Nat) (code : Nat) (o : Owner) (s : State),
    ((s.pages p.val).waits[n]? = some (o, d, snap, code)) ∧ (s.epoch < snap ∧ s.counting = true) :=
  ⟨0x102, 0, 96, 30, 0, .eng 1, (rdy.wr TB_STAT.EPOCH_STATE 0 1).setPages 0x102 { pending := true, waits := [(.eng 1, 96, 30, 0)] }, by decide⟩

theorem wit_TpllStates_1 : ∃ (ofs : Int) (s : State),
    (s.tpll.started = true) ∧ (s.tpllState = 0) ∧ (ofs.natAbs ≤ 100000) ∧ (s.on TPLL_STAT.REF_OK 0 = false) ∧ (s.rd TPLL_QUAL.QUAL_MS 0 ≤ min 1000 (s.tpll.gates + 1)) :=
  ⟨-100000, rdy.modTpll fun p => { p with started := true, gates := 9 }, by decide⟩

theorem wit_TpllStates_2 : ∃ (ofs : Int) (s : State),
    (s.tpll.started = true) ∧ (ofs.natAbs ≤ 100000) ∧ (s.on TPLL_STAT.REF_OK 0 = false) ∧ (min 1000 (s.tpll.gates + 1) < s.rd TPLL_QUAL.QUAL_MS 0) :=
  ⟨7, rdy.modTpll fun p => { p with started := true, gates := 8 }, by decide⟩

theorem wit_TpllStates_3 : ∃ (ofs : Int) (s : State),
    (s.tpll.started = true) ∧ (s.tpllState = 1 ∨ s.tpllState = 3) ∧ (100000 < ofs.natAbs) :=
  ⟨100001, (rdy.wr TPLL_STAT.STATE 0 1).modTpll fun p => { p with started := true }, by decide⟩

theorem wit_TpllStates_4 : ∃ (ofs : Int) (s : State),
    (s.tpll.started = true) ∧ (s.tpllState = 0 ∨ s.tpllState = 2 ∨ s.tpllState = 4) ∧ (100000 < ofs.natAbs) :=
  ⟨100001, rdy.modTpll fun p => { p with started := true, gates := 9, qualAt := some 3 }, by decide⟩

theorem wit_TpllStates_5 : ∃ (ofs : Int) (s : State),
    (s.tpll.started = true) ∧ (s.tpllState = 1) ∧ (ofs.natAbs ≤ 100000) ∧ (s.on TPLL_STAT.REF_OK 0 = true) ∧ (s.tpll.means = [] ∨ (ofs - roundDiv (s.tpll.means.take 100).sum (max 1 (s.tpll.means.take 100).length)).natAbs ≤ 10000) :=
  ⟨10007, ((rdy.wr TPLL_STAT.STATE 0 1).wr TPLL_STAT.REF_OK 0 1).modTpll fun p => { p with started := true, means := [7] }, by decide⟩

theorem wit_TpllStates_6 : ∃ (ofs : Int) (s : State),
    (s.tpll.started = true) ∧ (s.tpllState = 1) ∧ (ofs.natAbs ≤ 100000) ∧ (s.on TPLL_STAT.REF_OK 0 = true) ∧ (s.tpll.means ≠ [] ∧ 10000 < (ofs - roundDiv (s.tpll.means.take 100).sum (max 1 (s.tpll.means.take 100).length)).natAbs) :=
  ⟨10008, ((rdy.wr TPLL_STAT.STATE 0 1).wr TPLL_STAT.REF_OK 0 1).modTpll fun p => { p with started := true, means := [7] }, by decide⟩

theorem wit_TpllStates_7 : ∃ (ofs : Int) (phase : Int) (s : State),
    (s.tpll.started = true) ∧ (s.tpllState = 2) ∧ (s.tpll.follow = false) ∧ (ofs.natAbs ≤ 100000) ∧ (s.on TPLL_STAT.REF_OK 0 = false) ∧ (s.rd TPLL_QUAL.QUAL_MS 0 ≤ min 1000 (s.tpll.gates + 1)) ∧ (1000 ≤ (s.reduceJ phase).natAbs) :=
  ⟨0, 4000, (rdy.wr TPLL_STAT.STATE 0 2).modTpll fun p => { p with started := true, gates := 9 }, by decide⟩

theorem wit_TpllStates_8 : ∃ (ofs : Int) (phase : Int) (s : State),
    (s.tpll.started = true) ∧ (s.tpllState = 2) ∧ (s.tpll.follow = false) ∧ (ofs.natAbs ≤ 100000) ∧ (s.on TPLL_STAT.REF_OK 0 = false) ∧ (s.rd TPLL_QUAL.QUAL_MS 0 ≤ min 1000 (s.tpll.gates + 1)) ∧ ((s.reduceJ phase).natAbs < 1000) ∧ (s.dev ≠ 4 ∧ s.dev ≠ 9) :=
  ⟨0, 999, (rdy.wr TPLL_STAT.STATE 0 2).modTpll fun p => { p with started := true, gates := 9 }, by decide⟩

theorem wit_TpllStates_9 : ∃ (s : State),
    (s.tpll.started = true) ∧ (s.tpllState = 1 ∨ s.tpllState = 3) :=
  ⟨(rdy.wr TPLL_STAT.STATE 0 3).modTpll fun p => { p with started := true }, by decide⟩

theorem wit_TpllStates_10 : ∃ (s : State),
    (s.tpll.started = true) ∧ (s.tpllState = 0 ∨ s.tpllState = 2 ∨ s.tpllState = 4) :=
  ⟨rdy.modTpll fun p => { p with started := true, gates := 7 }, by decide⟩

theorem wit_TpllStates_11_1 : ∃ (q : Nat) (s : State),
    (s.tpll.qualAt = some q) ∧ (s.tpllState = 0) ∧ (s.on TPLL_STAT.REF_OK 0 = true) ∧ (q + 500000 ≤ s.tb ∧ s.tb < q + 25000000) :=
  ⟨0, { (rdy.wr TPLL_STAT.REF_OK 0 1).modTpll (fun p => { p with qualAt := some 0 }) with tb := 500000 }, by decide⟩

theorem wit_TpllStates_11_2 : ∃ (q : Nat) (s : State),
    (s.tpll.qualAt = some q) ∧ (s.tpllState = 0) ∧ (s.on TPLL_STAT.REF_OK 0 = true) ∧ (q + 500000 ≤ s.tb ∧ s.tb < q + 25000000) :=
  ⟨0, { ((rdy.wr TPLL_STAT.REF_OK 0 1).modTpll (fun p => { p with qualAt := some 0 })).wr DEV_STATE.STATE 0 4 with tb := 500000 }, by decide⟩

theorem wit_TpllStates_12 : ∃ (q : Nat) (s : State),
    (s.tpll.qualAt = some q) ∧ (s.tpllState = 0) ∧ (q + 25000000 ≤ s.tb) :=
  ⟨0, { rdy.modTpll (fun p => { p with qualAt := some 0 }) with tb := 25000000 }, by decide⟩

theorem wit_TpllStates_13 : ∃ (s : State),
    (s.tpllState = 1 ∨ s.tpllState = 3) :=
  ⟨rdy.wr TPLL_STAT.STATE 0 1, by decide⟩

theorem wit_TpllStates_14 : ∃ (s : State),
    (s.tpllState = 2) ∧ (s.tpll.since = s.tb) :=
  ⟨rdy.wr TPLL_STAT.STATE 0 2, by decide⟩

theorem wit_TpllStates_15 : ∃ (s : State),
    (s.tpll.started = true) ∧ (s.tpllState ≠ 4) :=
  ⟨rdy.modTpll fun p => { p with started := true }, by decide⟩

theorem wit_TpllStates_16 : ∃ (s : State),
    (s.tpllState = 1 ∨ s.tpllState = 2 ∨ s.tpllState = 3) :=
  ⟨rdy.wr TPLL_STAT.STATE 0 2, by decide⟩

theorem wit_TpllStates_19 : ∃ (s : State),
    (s.tpll.started = true) ∧ (s.rd TPLL_STAT.FINE_MARGIN 0 = 0) :=
  ⟨rdy.modTpll fun p => { p with started := true }, by decide⟩

theorem wit_TpllStates_20 : ∃ (s : State),
    (s.fallback = false) ∧ (s.domOn 32 = true) :=
  ⟨rdy.wr DRV_STAT.STATE 9 2, by decide⟩

theorem wit_TpllStates_21 : ∃ (s : State),
    (s.fallback = true) :=
  ⟨rdy.wr AF_STAT.FALLBACK 0 1, by decide⟩

theorem wit_TpllSlewHoldoverSweep_1 : ∃ (s : State),
    (s.tpllState = 3) ∧ (s.tpll.snap = none) ∧ (s.residual.natAbs ≤ 5000000) :=
  ⟨rdy.wr TPLL_STAT.STATE 0 3, by decide⟩

theorem wit_TpllSlewHoldoverSweep_2 : ∃ (next : Nat) (s : State),
    (s.tpll.snap = some (next, true)) ∧ (next ≤ s.tb) ∧ (6250000 ≤ s.tpll.res.natAbs) :=
  ⟨3, { rdy.modTpll (fun p => { p with snap := some (3, true), res := -6250000 }) with tb := 3 }, by decide⟩

theorem wit_TpllSlewHoldoverSweep_3 : ∃ (next : Nat) (s : State),
    (s.tpll.snap = some (next, false)) ∧ (next ≤ s.tb) ∧ (6250000 ≤ s.tpll.res.natAbs) :=
  ⟨3, { rdy.modTpll (fun p => { p with snap := some (3, false), res := 6250000 }) with tb := 3 }, by decide⟩

theorem wit_TpllSlewHoldoverSweep_4 : ∃ (next : Nat) (s : State),
    (s.tpll.snap = some (next, true)) ∧ (next ≤ s.tb) ∧ (s.tpll.res.natAbs < 6250000) ∧ (s.dev ≠ 4 ∧ s.dev ≠ 9) :=
  ⟨3, { (rdy.wr TPLL_STAT.STATE 0 3).modTpll (fun p => { p with snap := some (3, true), res := -6249999 }) with tb := 3 }, by decide⟩

theorem wit_TpllSlewHoldoverSweep_5 : ∃ (s : State),
    (s.tpllState = 2) ∧ (s.tpll.follow = false) ∧ (s.rd TPLL_CTRL.HOLD_SRC 0 = 0 ∨ s.tpll.auxGone = true) ∧ (s.tpll.corrAt + 5000000 ≤ s.tb) :=
  ⟨{ rdy.wr TPLL_STAT.STATE 0 2 with tb := 5000000 }, by decide⟩

theorem wit_TpllSlewHoldoverSweep_6 : ∃ (s : State),
    (s.tpllState = 2) ∧ (s.rd TPLL_CTRL.HOLD_SRC 0 = 1) ∧ (s.tpll.auxGone = false) :=
  ⟨(rdy.wr TPLL_STAT.STATE 0 2).wr TPLL_CTRL.HOLD_SRC 0 1, by decide⟩

theorem wit_TpllSlewHoldoverSweep_7 : ∃ (b : Nat) (w : Wr) (s : State),
    (Accepted s w pgTpll) ∧ (s.tpllState = 4) ∧ (bit w.val.toNat 2 = false) ∧ (bit w.val.toNat 3 = false) ∧ (bits w.val.toNat 8 4 ≤ 4) ∧ (bits w.val.toNat 4 2 ≤ 1) ∧ (s.tpllBand = some b) :=
  ⟨5, hw 0x110, (rdy.wr TPLL_STAT.STATE 0 4).setTabEntry tabTpll 0 5 0x80000001, by decide⟩

theorem wit_TpllSlewHoldoverSweep_8 : ∃ (w : Wr) (s : State),
    (Accepted s w pgTpll) ∧ (s.tpllState ≠ 4) ∧ (bit w.val.toNat 2 = false) ∧ (bit w.val.toNat 3 = false) ∧ (bits w.val.toNat 8 4 ≤ 4) ∧ (bits w.val.toNat 4 2 ≤ 1) :=
  ⟨hw 0, rdy.wr TPLL_STAT.STATE 0 1, by decide⟩

theorem wit_TpllSlewHoldoverSweep_9 : ∃ (w : Wr) (s : State),
    (Accepted s w pgTpll) ∧ (s.tpllState = 3) ∧ (s.anyEngBusy = false ∧ s.anyDrvBusy = false) ∧ (bit w.val.toNat 1 = false) ∧ (bit w.val.toNat 3 = false) ∧ (bits w.val.toNat 8 4 ≤ 4) ∧ (bits w.val.toNat 4 2 ≤ 1) :=
  ⟨hw 0, rdy.wr TPLL_STAT.STATE 0 3, by decide +kernel⟩

theorem wit_TpllSlewHoldoverSweep_10 : ∃ (w : Wr) (s : State),
    (Accepted s w pgTpll) ∧ (s.tpllState ≠ 3) ∧ (s.anyEngBusy = false ∧ s.anyDrvBusy = false) ∧ (bit w.val.toNat 1 = false) ∧ (bit w.val.toNat 3 = false) ∧ (bits w.val.toNat 8 4 ≤ 4) ∧ (bits w.val.toNat 4 2 ≤ 1) :=
  ⟨hw 0, rdy.wr TPLL_STAT.STATE 0 1, by decide +kernel⟩

theorem wit_TpllSlewHoldoverSweep_11 : ∃ (w : Wr) (s : State),
    (Accepted s w pgTpll) ∧ (s.on TB_STAT.TB_RUN 0 = false ∨ s.tpllState = 4) ∧ (bit w.val.toNat 1 = false) ∧ (bit w.val.toNat 2 = false) ∧ (bits w.val.toNat 8 4 ≤ 4) ∧ (bits w.val.toNat 4 2 ≤ 1) :=
  ⟨hw 0, (rdy.wr TPLL_STAT.STATE 0 4).wr TB_STAT.TB_RUN 0 1, by decide⟩

theorem wit_TpllSlewHoldoverSweep_12 : ∃ (w : Wr) (s : State),
    (Accepted s w pgTpll) ∧ (s.on TB_STAT.TB_RUN 0 = true ∧ s.tpllState ≠ 4) ∧ (bit w.val.toNat 1 = false) ∧ (bit w.val.toNat 2 = false) ∧ (bits w.val.toNat 8 4 ≤ 4) ∧ (bits w.val.toNat 4 2 ≤ 1) :=
  ⟨hw 0, rdy.wr TB_STAT.TB_RUN 0 1, by decide⟩

theorem wit_TpllSlewHoldoverSweep_13_1 : ∃ (b : Nat) (b0 : Nat) (s : State),
    (s.tpll.sweep = some (b, b0)) ∧ (b0 + 50000 ≤ s.tb) :=
  ⟨62, 0, { rdy.modTpll (fun p => { p with sweep := some (62, 0) }) with tb := 50000 }, by decide⟩

theorem wit_TpllSlewHoldoverSweep_13_2 : ∃ (b : Nat) (b0 : Nat) (s : State),
    (s.tpll.sweep = some (b, b0)) ∧ (b0 + 50000 ≤ s.tb) :=
  ⟨63, 1, { rdy.modTpll (fun p => { p with sweep := some (63, 1) }) with tb := 50001 }, by decide⟩

theorem wit_BandTablesAndQuads_1 : ∃ (w : Wr) (s : State),
    (Accepted s w pgTpll) :=
  ⟨hw 0xFFFFFFFF, rdy.wr TPLL_BAND_CTL.ACTIVE_BANK 0 1, by decide⟩

theorem wit_BandTablesAndQuads_2 : ∃ (w : Wr) (s : State),
    (Accepted s w pgTpll) ∧ (s.shadowLocked pgTpll = false) :=
  ⟨hw 0x10000, rdy, by decide⟩

theorem wit_BandTablesAndQuads_3 : ∃ (w : Wr) (s : State),
    (Accepted s w pgTpll) ∧ (s.shadowLocked pgTpll = true) :=
  ⟨hw 0, rdy.setPages (pgTpll) { pending := true, waits := [(.tpll, 9, 9, 0)] }, by decide⟩

theorem wit_BandTablesAndQuads_4 : ∃ (s : State),
    (s.epoch % 16 = 0) ∧ (s.rdX TPLL_BAND_CTL.REQ_BANK 0 ≠ s.rd TPLL_BAND_CTL.ACTIVE_BANK 0) ∧ (s.on TPLL_BAND_CTL.BUILD_DONE 0 = true ∧ s.on TPLL_BAND_CTL.CHECK_OK 0 = true) ∧ (s.tpll.started = false ∨ s.tpll.since ≠ s.tb ∨ s.tpllState ≠ 0) :=
  ⟨((rdy.wrA TPLL_BAND_CTL.REQ_BANK 0 1).wr TPLL_BAND_CTL.BUILD_DONE 0 1).wr TPLL_BAND_CTL.CHECK_OK 0 1, by decide⟩

theorem wit_BandTablesAndQuads_5 : ∃ (s : State),
    (s.epoch % 16 = 0) ∧ (s.rdX TPLL_BAND_CTL.REQ_BANK 0 ≠ s.rd TPLL_BAND_CTL.ACTIVE_BANK 0) ∧ (s.on TPLL_BAND_CTL.BUILD_DONE 0 = true ∧ s.on TPLL_BAND_CTL.CHECK_OK 0 = true) ∧ (s.tpll.started = true ∧ s.tpll.since = s.tb ∧ s.tpllState = 0) :=
  ⟨(((rdy.wrA TPLL_BAND_CTL.REQ_BANK 0 1).wr TPLL_BAND_CTL.BUILD_DONE 0 1).wr TPLL_BAND_CTL.CHECK_OK 0 1).modTpll fun p => { p with started := true }, by decide⟩

theorem wit_BandTablesAndQuads_6 : ∃ (s : State),
    (s.epoch % 16 ≠ 0 ∨ s.rdX TPLL_BAND_CTL.REQ_BANK 0 = s.rd TPLL_BAND_CTL.ACTIVE_BANK 0 ∨ ((s.tab tabTpll).told = true ∧ (s.on TPLL_BAND_CTL.BUILD_DONE 0 = false ∨ s.on TPLL_BAND_CTL.CHECK_OK 0 = false))) :=
  ⟨rdy, by decide⟩

theorem wit_BandTablesAndQuads_7 : ∃ (s : State),
    (s.epoch % 16 = 0) ∧ (s.rdX TPLL_BAND_CTL.REQ_BANK 0 ≠ s.rd TPLL_BAND_CTL.ACTIVE_BANK 0) ∧ (s.on TPLL_BAND_CTL.BUILD_DONE 0 = false ∨ s.on TPLL_BAND_CTL.CHECK_OK 0 = false) ∧ ((s.tab tabTpll).told = false) :=
  ⟨rdy.wrA TPLL_BAND_CTL.REQ_BANK 0 1, by decide⟩

theorem wit_BandTablesAndQuads_8 : ∃ (q : Fin 64) (w : Wr) (s : State),
    (Accepted s w (pgQpll q.val)) :=
  ⟨63, hw 0xFFFFFFFF, rdy.wr QPLL_BAND_CTL.ACTIVE_BANK 63 1, by decide⟩

theorem wit_BandTablesAndQuads_9 : ∃ (q : Fin 64) (w : Wr) (s : State),
    (Accepted s w (pgQpll q.val)) ∧ (s.shadowLocked (pgQpll q.val) = false) :=
  ⟨63, hw 0x10000, rdy, by decide⟩

theorem wit_BandTablesAndQuads_10 : ∃ (q : Fin 64) (w : Wr) (s : State),
    (Accepted s w (pgQpll q.val)) ∧ (s.shadowLocked (pgQpll q.val) = true) :=
  ⟨63, hw 0, rdy.setPages (pgQpll 63) { pending := true, waits := [(.tpll, 9, 9, 0)] }, by decide⟩

theorem wit_BandTablesAndQuads_11 : ∃ (q : Fin 64) (s : State),
    (s.epoch % 16 = 0) ∧ (s.rdX QPLL_BAND_CTL.REQ_BANK q.val ≠ s.rd QPLL_BAND_CTL.ACTIVE_BANK q.val) ∧ (s.on QPLL_BAND_CTL.BUILD_DONE q.val = true ∧ s.on QPLL_BAND_CTL.CHECK_OK q.val = true) ∧ ((s.quad q.val).since ≠ s.tb ∨ (s.quadState q.val ≠ 1 ∧ s.quadState q.val ≠ 3)) :=
  ⟨63, ((rdy.wrA QPLL_BAND_CTL.REQ_BANK 63 1).wr QPLL_BAND_CTL.BUILD_DONE 63 1).wr QPLL_BAND_CTL.CHECK_OK 63 1, by decide⟩

theorem wit_BandTablesAndQuads_12 : ∃ (q : Fin 64) (s : State),
    (s.epoch % 16 = 0) ∧ (s.rdX QPLL_BAND_CTL.REQ_BANK q.val ≠ s.rd QPLL_BAND_CTL.ACTIVE_BANK q.val) ∧ (s.on QPLL_BAND_CTL.BUILD_DONE q.val = true ∧ s.on QPLL_BAND_CTL.CHECK_OK q.val = true) ∧ ((s.quad q.val).since = s.tb ∧ s.quadState q.val = 1 ∧ 4 ≤ s.dev) :=
  ⟨63, (((rdy.wrA QPLL_BAND_CTL.REQ_BANK 63 1).wr QPLL_BAND_CTL.BUILD_DONE 63 1).wr QPLL_BAND_CTL.CHECK_OK 63 1).wr QPLL_STAT.STATE 63 1, by decide⟩

theorem wit_BandTablesAndQuads_13 : ∃ (q : Fin 64) (s : State),
    (s.epoch % 16 ≠ 0 ∨ s.rdX QPLL_BAND_CTL.REQ_BANK q.val = s.rd QPLL_BAND_CTL.ACTIVE_BANK q.val ∨ ((s.tab (tabQuad q.val)).told = true ∧ (s.on QPLL_BAND_CTL.BUILD_DONE q.val = false ∨ s.on QPLL_BAND_CTL.CHECK_OK q.val = false))) :=
  ⟨63, rdy, by decide⟩

theorem wit_BandTablesAndQuads_14 : ∃ (q : Fin 64) (s : State),
    (s.epoch % 16 = 0) ∧ (s.rdX QPLL_BAND_CTL.REQ_BANK q.val ≠ s.rd QPLL_BAND_CTL.ACTIVE_BANK q.val) ∧ (s.on QPLL_BAND_CTL.BUILD_DONE q.val = false ∨ s.on QPLL_BAND_CTL.CHECK_OK q.val = false) ∧ ((s.tab (tabQuad q.val)).told = false) :=
  ⟨63, rdy.wrA QPLL_BAND_CTL.REQ_BANK 63 1, by decide⟩

theorem wit_BandTablesAndQuads_15 : ∃ (q : Fin 64) (w : Wr) (s : State),
    (Accepted s w (pgQpll q.val)) ∧ (s.quadState q.val = 0) ∧ (s.domOn (34 + q.val) = true) ∧ ((s.quad q.val).hold = false) ∧ (bit w.val.toNat 0 = true ∧ bit w.val.toNat 2 = false) ∧ (4 ≤ s.dev) :=
  ⟨63, hw 1, rdy, by decide⟩

theorem wit_BandTablesAndQuads_16 : ∃ (q : Fin 64) (w : Wr) (s : State),
    (Accepted s w (pgQpll q.val)) ∧ (s.quadState q.val = 1 ∨ s.quadState q.val = 3 ∨ s.quadState q.val = 4) ∧ (bit w.val.toNat 0 = false) ∧ (bit w.val.toNat 2 = false ∨ s.quadState q.val = 4) :=
  ⟨0, hw 4, rdy.wr QPLL_STAT.STATE 0 4, by decide⟩

theorem wit_BandTablesAndQuads_17 : ∃ (q : Fin 64) (w : Wr) (s : State),
    (Accepted s w (pgQpll q.val)) ∧ (s.quadState q.val = 2) ∧ (bit w.val.toNat 0 = false) :=
  ⟨0, hw 0, rdy.wr QPLL_STAT.STATE 0 2, by decide⟩

theorem wit_BandTablesAndQuads_18 : ∃ (q : Fin 64) (s : State),
    (s.quadState q.val = 1 ∨ s.quadState q.val = 3) ∧ (s.on TB_STAT.TB_RUN 0 = true) :=
  ⟨1, (rdy.wr QPLL_STAT.STATE 1 1).wr TB_STAT.TB_RUN 0 1, by decide⟩

theorem wit_BandTablesAndQuads_19 : ∃ (q : Fin 64) (s : State),
    (1 ≤ s.quadState q.val ∧ s.quadState q.val ≤ 3) ∧ (s.rd QPLL_STAT.VT_WARN q.val = 0) :=
  ⟨5, rdy.wr QPLL_STAT.STATE 5 2, by decide⟩

theorem wit_BandTablesAndQuads_20 : ∃ (q : Fin 64) (s : State),
    (s.quadState q.val = 2) :=
  ⟨0, rdy.wr QPLL_STAT.STATE 0 2, by decide⟩

theorem wit_BandTablesAndQuads_21 : ∃ (q : Fin 64) (w : Wr) (s : State),
    (Accepted s w (pgQpll q.val)) ∧ (s.quadState q.val = 0 ∨ s.quadState q.val = 1 ∨ s.quadState q.val = 3) :=
  ⟨3, hw 1, rdy.wr QPLL_STAT.STATE 3 1, by decide⟩

theorem wit_BandTablesAndQuads_22 : ∃ (q : Fin 64) (w : Wr) (s : State),
    (Accepted s w (pgQpll q.val)) ∧ (bit w.val.toNat 0 = true) ∧ (s.domOn (34 + q.val) = true ∧ (s.quad q.val).hold = false) ∧ (s.quadState q.val = 4) :=
  ⟨3, hw 1, rdy.wr QPLL_STAT.STATE 3 4, by decide⟩

theorem wit_BandTablesAndQuads_23_1 : ∃ (q : Fin 64) (s : State),
    (s.quadState q.val = 3) ∧ ((s.quad q.val).tryAt + 4000 ≤ s.tb) :=
  ⟨0, { (rdy.wr QPLL_STAT.STATE 0 3).modQuad 0 (fun x => { x with bands := [4, 5] }) with tb := 4000 }, by decide⟩

theorem wit_BandTablesAndQuads_23_2 : ∃ (q : Fin 64) (s : State),
    (s.quadState q.val = 3) ∧ ((s.quad q.val).tryAt + 4000 ≤ s.tb) :=
  ⟨0, { (rdy.wr QPLL_STAT.STATE 0 3).modQuad 0 (fun x => { x with bands := [4, 5], k := 1 }) with tb := 4000 }, by decide⟩

theorem wit_IslandClocksAndPoints_1_1 : ∃ (k : IslClock) (s : State),
    (s.domOn k.isl.val = true) ∧ (5 ≤ s.dev) ∧ (withinF (s.isl k.isl.val).freq k.mhz.val = true) :=
  ⟨⟨32, 980⟩, rdy, by decide⟩

theorem wit_IslandClocksAndPoints_1_2 : ∃ (k : IslClock) (s : State),
    (s.domOn k.isl.val = true) ∧ (5 ≤ s.dev) ∧ (withinF (s.isl k.isl.val).freq k.mhz.val = true) :=
  ⟨⟨0, 1020⟩, rdy.wr FCT_CLK_STAT.FLL_LOCK 0 1, by decide⟩

theorem wit_IslandClocksAndPoints_2 : ∃ (k : IslClock) (s : State),
    (s.domOn k.isl.val = true) ∧ (5 ≤ s.dev) ∧ (withinF (s.isl k.isl.val).freq k.mhz.val = false) :=
  ⟨⟨31, 979⟩, rdy.wr FCT_CLK_STAT.FLL_LOCK 31 1, by decide⟩

theorem wit_IslandClocksAndPoints_3_1 : ∃ (k : IslClock) (s : State),
    (s.domOn k.isl.val = true) ∧ (6 ≤ s.dev) ∧ (withinF (s.isl k.isl.val).freq k.mhz.val = false) ∧ ((s.isl k.isl.val).spent = false ∨ (s.isl k.isl.val).back.any (fun t => decide (t + 500000 ≤ s.tb)) = true) :=
  ⟨⟨31, 1021⟩, rdy.wr FCT_CLK_STAT.FLL_LOCK 31 1, by decide⟩

theorem wit_IslandClocksAndPoints_3_2 : ∃ (k : IslClock) (s : State),
    (s.domOn k.isl.val = true) ∧ (6 ≤ s.dev) ∧ (withinF (s.isl k.isl.val).freq k.mhz.val = false) ∧ ((s.isl k.isl.val).spent = false ∨ (s.isl k.isl.val).back.any (fun t => decide (t + 500000 ≤ s.tb)) = true) :=
  ⟨⟨32, 0⟩, { rdy.modIsl 32 (fun x => { x with spent := true, back := some 0 }) with tb := 500000 }, by decide⟩

theorem wit_IslandClocksAndPoints_4_1 : ∃ (k : IslClock) (s : State),
    (s.domOn k.isl.val = true) ∧ (5 ≤ s.dev) ∧ (withinF (s.isl k.isl.val).freq k.mhz.val = false) ∧ (s.dev < 6 ∨ ((s.isl k.isl.val).spent = true ∧ (s.isl k.isl.val).back.all (fun t => decide (s.tb < t + 500000)) = true)) :=
  ⟨⟨32, 700⟩, (State.reset.wr DEV_STATE.STATE 0 5).wr AF_CLK_STAT.FLL_LOCK 0 1, by decide⟩

theorem wit_IslandClocksAndPoints_4_2 : ∃ (k : IslClock) (s : State),
    (s.domOn k.isl.val = true) ∧ (5 ≤ s.dev) ∧ (withinF (s.isl k.isl.val).freq k.mhz.val = false) ∧ (s.dev < 6 ∨ ((s.isl k.isl.val).spent = true ∧ (s.isl k.isl.val).back.all (fun t => decide (s.tb < t + 500000)) = true)) :=
  ⟨⟨3, 700⟩, rdy.modIsl 3 fun x => { x with spent := true, back := some 0 }, by decide⟩

theorem wit_IslandClocksAndPoints_5 : ∃ (i : Fin 33) (f : Nat) (v : Nat) (s : State),
    ((s.isl i.val).target = some (f, v)) ∧ (s.domOn i.val = true) ∧ ((s.isl i.val).phase = 0) ∧ (s.bezelSafe i.val = true) ∧ (v ≤ (s.isl i.val).volt) ∧ (v ≤ (s.pointOf i.val).2 ∨ s.voltOk i.val v = true) ∧ ((s.isl i.val).freq ≠ f) :=
  ⟨0, 900, 750, rdy.modIsl 0 fun x => { x with target := some (900, 750) }, by decide⟩

theorem wit_IslandClocksAndPoints_6 : ∃ (i : Fin 33) (f : Nat) (v : Nat) (s : State),
    ((s.isl i.val).target = some (f, v)) ∧ (s.domOn i.val = true) ∧ ((s.isl i.val).phase = 0) ∧ (s.bezelSafe i.val = true) ∧ ((s.isl i.val).volt < v) ∧ ((s.pointOf i.val).2 < v ∧ s.voltOk i.val v = false) :=
  ⟨32, 1200, 850, rdy.modIsl 32 fun x => { x with target := some (1200, 850) }, by decide +kernel⟩

theorem wit_IslandClocksAndPoints_7 : ∃ (i : Fin 33) (f : Nat) (v : Nat) (s : State),
    ((s.isl i.val).target = some (f, v)) ∧ (s.domOn i.val = true) ∧ ((s.isl i.val).phase = 0) ∧ (s.bezelSafe i.val = true) ∧ ((s.isl i.val).volt < v) ∧ (v ≤ (s.pointOf i.val).2 ∨ s.voltOk i.val v = true) ∧ ((s.isl i.val).freq ≠ f) :=
  ⟨3, 1200, 820, (rdy.wr FCT_VMEAS.VMEAS 3 815).modIsl 3 fun x => { x with target := some (1200, 820) }, by decide⟩

theorem wit_IslandClocksAndPoints_8 : ∃ (i : Fin 33) (f : Nat) (v : Nat) (s : State),
    ((s.isl i.val).target = some (f, v)) ∧ (s.domOn i.val = true) ∧ ((s.isl i.val).phase = 0) ∧ (s.bezelSafe i.val = true) ∧ (v ≤ (s.pointOf i.val).2 ∨ s.voltOk i.val v = true) ∧ ((s.isl i.val).freq = f) ∧ (f < 2 ^ 11 ∧ v < 2 ^ 10) :=
  ⟨5, 1000, 700, rdy.modIsl 5 fun x => { x with target := some (1000, 700) }, by decide⟩

theorem wit_IslandClocksAndPoints_9 : ∃ (i : Fin 33) (s : State),
    (s.domOn i.val = false ∨ s.bezelSafe i.val = false ∨ (s.isl i.val).phase ≠ 0 ∨ (s.isl i.val).target = none) :=
  ⟨5, rdy, by decide⟩

theorem wit_IslandClocksAndPoints_10 : ∃ (i : Fin 33) (vm : Fin 1024) (f : Nat) (v : Nat) (s : State),
    (s.domOn i.val = true) ∧ ((s.isl i.val).phase = 1) ∧ ((s.isl i.val).volt ≤ vm.val + 5) ∧ ((s.isl i.val).target = some (f, v)) ∧ (v ≤ vm.val + 5) ∧ ((s.isl i.val).freq ≠ f) :=
  ⟨4, 795, 1100, 800, rdy.modIsl 4 fun x => { x with phase := 1, target := some (1100, 800) }, by decide⟩

theorem wit_IslandClocksAndPoints_11 : ∃ (i : Fin 33) (vm : Fin 1024) (f : Nat) (v : Nat) (s : State),
    (s.domOn i.val = true) ∧ ((s.isl i.val).phase = 1) ∧ ((s.isl i.val).volt ≤ vm.val + 5) ∧ ((s.isl i.val).target = some (f, v)) ∧ (v ≤ vm.val + 5) ∧ ((s.isl i.val).freq = f) ∧ (f < 2 ^ 11 ∧ v < 2 ^ 10) :=
  ⟨4, 795, 1000, 800, rdy.modIsl 4 fun x => { x with phase := 1, target := some (1000, 800) }, by decide⟩

theorem wit_IslandClocksAndPoints_12_1 : ∃ (i : Fin 33) (vm : Fin 1024) (s : State),
    (s.domOn i.val = true) ∧ ((s.isl i.val).phase ≠ 1 ∨ (s.isl i.val).target.all (fun p => decide (vm.val + 5 < p.2)) = true) :=
  ⟨4, 794, rdy, by decide⟩

theorem wit_IslandClocksAndPoints_12_2 : ∃ (i : Fin 33) (vm : Fin 1024) (s : State),
    (s.domOn i.val = true) ∧ ((s.isl i.val).phase ≠ 1 ∨ (s.isl i.val).target.all (fun p => decide (vm.val + 5 < p.2)) = true) :=
  ⟨4, 795, rdy, by decide⟩

theorem wit_IslandClocksAndPoints_13 : ∃ (i : Fin 33) (f : Nat) (v : Nat) (s : State),
    ((s.isl i.val).target = some (f, v)) ∧ (s.domOn i.val = true) ∧ ((s.isl i.val).phase = 2) ∧ ((s.isl i.val).at' + 500 ≤ s.tb) ∧ ((s.isl i.val).freq + 10 < f) :=
  ⟨0, 1100, 800, { rdy.modIsl 0 (fun x => { x with phase := 2, target := some (1100, 800) }) with tb := 500 }, by decide⟩

theorem wit_IslandClocksAndPoints_14 : ∃ (i : Fin 33) (f : Nat) (v : Nat) (s : State),
    ((s.isl i.val).target = some (f, v)) ∧ (s.domOn i.val = true) ∧ ((s.isl i.val).phase = 2) ∧ ((s.isl i.val).at' + 500 ≤ s.tb) ∧ (f + 10 < (s.isl i.val).freq) :=
  ⟨32, 800, 800, { rdy.modIsl 32 (fun x => { x with phase := 2, target := some (800, 800) }) with tb := 500 }, by decide⟩

theorem wit_IslandClocksAndPoints_15 : ∃ (i : Fin 33) (f : Nat) (v : Nat) (s : State),
    ((s.isl i.val).target = some (f, v)) ∧ (s.domOn i.val = true) ∧ ((s.isl i.val).phase = 2) ∧ ((s.isl i.val).at' + 500 ≤ s.tb) ∧ ((s.isl i.val).freq ≤ f + 10 ∧ f ≤ (s.isl i.val).freq + 10) ∧ (f < 2 ^ 11 ∧ v < 2 ^ 10) :=
  ⟨7, 1010, 800, { rdy.modIsl 7 (fun x => { x with phase := 2, target := some (1010, 800) }) with tb := 500 }, by decide⟩

theorem wit_IslandClocksAndPoints_16 : ∃ (i : Fin 33) (s : State),
    (s.domOn i.val = false ∨ (s.isl i.val).phase ≠ 2 ∨ s.tb < (s.isl i.val).at' + 500 ∨ (s.isl i.val).target = none) :=
  ⟨7, rdy, by decide⟩

theorem wit_IslandClocksAndPoints_17_1 : ∃ (i : Fin 33) (s : State),
    ((s.isl i.val).target ≠ none) ∧ ((s.isl i.val).told = false) ∧ (((s.isl i.val).phase = 0 ∧ (s.isl i.val).reqAt + 500000 ≤ s.tb) ∨ ((s.isl i.val).phase = 1 ∧ (s.isl i.val).at' + 100000 ≤ s.tb)) :=
  ⟨1, { rdy.modIsl 1 (fun x => { x with target := some (900, 800) }) with tb := 500000 }, by decide⟩

theorem wit_IslandClocksAndPoints_17_2 : ∃ (i : Fin 33) (s : State),
    ((s.isl i.val).target ≠ none) ∧ ((s.isl i.val).told = false) ∧ (((s.isl i.val).phase = 0 ∧ (s.isl i.val).reqAt + 500000 ≤ s.tb) ∨ ((s.isl i.val).phase = 1 ∧ (s.isl i.val).at' + 100000 ≤ s.tb)) :=
  ⟨2, { rdy.modIsl 2 (fun x => { x with phase := 1, target := some (900, 850) }) with tb := 100000 }, by decide⟩

theorem wit_IslandClocksAndPoints_18 : ∃ (i : Fin 33) (s : State),
    ((s.isl i.val).told = true) :=
  ⟨1, rdy.modIsl 1 fun x => { x with told := true }, by decide⟩

theorem wit_IslandClocksAndPoints_19 : ∃ (i : Fin 33) (w : Wr) (s : State),
    (Accepted s w (pgIsl i.val)) ∧ (s.on LOCK.OPEN (pgIsl i.val) = true) ∧ (pointBad w.val.toNat = false) ∧ (bit w.val.toNat 31 = true) ∧ (s.islBusy i.val = false) ∧ ((s.isl i.val).target = none ∧ (s.isl i.val).phase = 0) ∧ (s.pointOf i.val ≠ (bits w.val.toNat 16 11, bits w.val.toNat 0 10)) :=
  ⟨32, hw 0x85140352, rdy.wr LOCK.OPEN 0x80 1, by decide⟩

theorem wit_IslandClocksAndPoints_20 : ∃ (i : Fin 33) (w : Wr) (s : State),
    (Accepted s w (pgIsl i.val)) ∧ (s.on LOCK.OPEN (pgIsl i.val) = true) ∧ (pointBad w.val.toNat = false) ∧ (bit w.val.toNat 31 = true) ∧ (s.islBusy i.val = false) ∧ ((s.isl i.val).target ≠ none ∧ (s.isl i.val).phase = 0) :=
  ⟨32, hw 0x85140352, (rdy.wr LOCK.OPEN 0x80 1).modIsl 32 fun x => { x with target := some (900, 700) }, by decide⟩

theorem wit_IslandClocksAndPoints_21 : ∃ (i : Fin 33) (w : Wr) (s : State),
    (Accepted s w (pgIsl i.val)) ∧ (s.on LOCK.OPEN (pgIsl i.val) = true) ∧ (pointBad w.val.toNat = false) ∧ (bit w.val.toNat 31 = true) ∧ (s.islBusy i.val = false) ∧ ((s.isl i.val).phase ≠ 0) :=
  ⟨32, hw 0x85140352, (rdy.wr LOCK.OPEN 0x80 1).modIsl 32 fun x => { x with target := some (900, 700), phase := 2 }, by decide⟩

theorem wit_IslandClocksAndPoints_22 : ∃ (i : Fin 33) (w : Wr) (s : State),
    (Accepted s w (pgIsl i.val)) ∧ (s.on LOCK.OPEN (pgIsl i.val) = true) ∧ (pointBad w.val.toNat = false) ∧ (bit w.val.toNat 31 = true) ∧ (s.islBusy i.val = false) ∧ ((s.isl i.val).target = none) ∧ (s.pointOf i.val = (bits w.val.toNat 16 11, bits w.val.toNat 0 10)) :=
  ⟨32, hw 0x83E80320, rdy.wr LOCK.OPEN 0x80 1, by decide⟩

theorem wit_IslandClocksAndPoints_23 : ∃ (i : Fin 33) (w : Wr) (s : State),
    (Accepted s w (pgIsl i.val)) ∧ (s.on LOCK.OPEN (pgIsl i.val) = true) ∧ (pointBad w.val.toNat = false) ∧ (bit w.val.toNat 31 = false) ∧ (s.rdI FCT_OVR.OVR_EN AF_OVR.OVR_EN i.val = 1) ∧ ((s.isl i.val).target = none ∧ (s.isl i.val).phase = 0) ∧ (s.pointOf i.val ≠ s.planPoint i.val) :=
  ⟨0, hw 0x04B00352, ((rdy.wr LOCK.OPEN (pgFct 0) 1).wr FCT_OVR.OVR_EN 0 1).wr FCT_POINT.F_MHZ 0 1200, by decide⟩

theorem wit_IslandClocksAndPoints_24 : ∃ (i : Fin 33) (w : Wr) (s : State),
    (Accepted s w (pgIsl i.val)) ∧ (s.on LOCK.OPEN (pgIsl i.val) = false) :=
  ⟨0, hw 0x83E80320, rdy, by decide⟩

theorem wit_IslandClocksAndPoints_25 : ∃ (i : Fin 33) (w : Wr) (s : State),
    (Accepted s w (pgIsl i.val)) ∧ (s.on LOCK.OPEN (pgIsl i.val) = true) ∧ (pointBad w.val.toNat = true) :=
  ⟨32, hw 0x85150352, rdy.wr LOCK.OPEN 0x80 1, by decide⟩

theorem wit_IslandClocksAndPoints_26 : ∃ (i : Fin 33) (w : Wr) (s : State),
    (Accepted s w (pgIsl i.val)) ∧ (s.on LOCK.OPEN (pgIsl i.val) = true) ∧ (pointBad w.val.toNat = false) ∧ (bit w.val.toNat 31 = true) ∧ (s.islBusy i.val = true) :=
  ⟨32, hw 0x85140352, (rdy.wr LOCK.OPEN 0x80 1).wr DRV_STAT.STATE 63 2, by decide⟩

theorem wit_IslandClocksAndPoints_27 : ∃ (rail : Fin 10) (t0 : Nat) (s : State),
    ((s.rail rail.val).wait = some t0) :=
  ⟨9, 5, rdy.modRail 9 fun r => { r with wait := some 5 }, by decide⟩

theorem wit_IslandClocksAndPoints_28 : ∃ (rail : Fin 10) (t0 : Nat) (s : State),
    ((s.rail rail.val).wait = some t0) ∧ (t0 + 10000 ≤ s.tb) :=
  ⟨0, 5, { rdy.modRail 0 (fun r => { r with wait := some 5 }) with tb := 10005 }, by decide⟩

theorem wit_IslandClocksAndPoints_29 : ∃ (rail : Fin 10) (acked : Bool) (s : State),
    ((s.rail rail.val).wait.all (fun t0 => decide (acked = false ∧ s.tb < t0 + 10000)) = true) :=
  ⟨0, false, rdy, by decide⟩

theorem wit_GirdleAndStoreSlots_4_1 : ∃ (n : Fin 34) (c : Fin 3) (k : Nat) (m : Nat) (dir : Bool) (spare : Bool) (s : State),
    (nth (s.stop n.val).slots (dirIx c.val dir) < slotsOf c.val) ∧ (s.slotClass n.val c.val dir spare = some k) ∧ (rotate (nth (s.stop n.val).last k) (s.streamsDir n.val k dir) = some m) ∧ (k ≠ 1 ∨ m ≠ 16) :=
  ⟨3, 1, 1, 2, true, false, (rdy.wr ENG_STAT.STATE 34 3 |>.wrA ENG_CFG.KIND 34 1).setStop 3 { deficit := [0, 0, 0, 0, 300, 0] }, by decide⟩

theorem wit_GirdleAndStoreSlots_4_2 : ∃ (n : Fin 34) (c : Fin 3) (k : Nat) (m : Nat) (dir : Bool) (spare : Bool) (s : State),
    (nth (s.stop n.val).slots (dirIx c.val dir) < slotsOf c.val) ∧ (s.slotClass n.val c.val dir spare = some k) ∧ (rotate (nth (s.stop n.val).last k) (s.streamsDir n.val k dir) = some m) ∧ (k ≠ 1 ∨ m ≠ 16) :=
  ⟨0, 2, 0, 0, false, true, rdy.modStop 0 fun x => { x with n := [1, 0, 0] }, by decide⟩

theorem wit_GirdleAndStoreSlots_5 : ∃ (n : Fin 34) (c : Fin 3) (f : Nat) (dir : Bool) (spare : Bool) (s : State),
    (nth (s.stop n.val).slots (dirIx c.val dir) < slotsOf c.val) ∧ (s.slotClass n.val c.val dir spare = some 1) ∧ (rotate (nth (s.stop n.val).last 1) (s.streamsDir n.val 1 dir) = some 16) ∧ (stopFacet n.val = some f) :=
  ⟨1, 1, 0, false, true, rdy.modCmp 0 fun x => { x with queue := [[1]] }, by decide⟩

theorem wit_GirdleAndStoreSlots_6 : ∃ (n : Fin 34) (c : Fin 3) (dir : Bool) (spare : Bool) (s : State),
    (nth (s.stop n.val).slots (dirIx c.val dir) < slotsOf c.val) ∧ (s.slotClass n.val c.val dir spare = none) :=
  ⟨1, 1, false, false, rdy.modCmp 0 fun x => { x with queue := [[1]] }, by decide⟩

theorem wit_GirdleAndStoreSlots_7 : ∃ (n : Fin 34) (c : Fin 3) (dir : Bool) (s : State),
    (slotsOf c.val ≤ nth (s.stop n.val).slots (dirIx c.val dir)) :=
  ⟨1, 0, false, rdy.modStop 1 fun x => { x with slots := [16, 0, 0, 0, 0, 0] }, by decide⟩

theorem wit_GirdleAndStoreSlots_8 : ∃ (f : Fin 32) (bank : Fin 4) (ports : BitVec 16) (refill : Bool) (k : Nat) (s : State),
    ((s.sbank (4 * f.val + bank.val)).second = false) ∧ ((refill = false ∧ ((s.linesAsked f.val).filter fun l => storeBankOf l.1 == bank.val) = []) ∨ (s.sbank (4 * f.val + bank.val)).refill < 3) ∧ (rotate (s.sbank (4 * f.val + bank.val)).last ((List.range 16).filter fun k => bit ports.toNat k && s.engBusy (16 * f.val + k)) = some k) :=
  ⟨31, 3, 0x8001, true, 15, rdy.wr ENG_STAT.STATE 511 3, by decide⟩

theorem wit_GirdleAndStoreSlots_9 : ∃ (f : Fin 32) (bank : Fin 4) (ports : BitVec 16) (refill : Bool) (s : State),
    ((s.sbank (4 * f.val + bank.val)).second = false) ∧ (refill = true ∨ ((s.linesAsked f.val).filter fun l => storeBankOf l.1 == bank.val) ≠ []) ∧ (3 ≤ (s.sbank (4 * f.val + bank.val)).refill) ∧ (((List.range 16).filter fun k => bit ports.toNat k && s.engBusy (16 * f.val + k)) ≠ []) :=
  ⟨0, 0, 0x0001, true, (rdy.wr ENG_STAT.STATE 0 3).modSbank 0 fun x => { x with refill := 3 }, by decide⟩

theorem wit_GirdleAndStoreSlots_10 : ∃ (f : Fin 32) (bank : Fin 4) (ports : BitVec 16) (refill : Bool) (s : State),
    ((s.sbank (4 * f.val + bank.val)).second = false) ∧ (refill = true ∨ ((s.linesAsked f.val).filter fun l => storeBankOf l.1 == bank.val) ≠ []) ∧ (((List.range 16).filter fun k => bit ports.toNat k && s.engBusy (16 * f.val + k)) = []) :=
  ⟨0, 0, 0x0001, true, rdy, by decide⟩

theorem wit_GirdleAndStoreSlots_11 : ∃ (f : Fin 32) (bank : Fin 4) (s : State),
    ((s.sbank (4 * f.val + bank.val)).second = true) :=
  ⟨0, 2, rdy.modSbank 2 fun x => { x with second := true }, by decide⟩

theorem wit_GirdleAndStoreSlots_12 : ∃ (f : Fin 32) (bank : Fin 4) (ports : BitVec 16) (refill : Bool) (s : State),
    ((s.sbank (4 * f.val + bank.val)).second = false) ∧ (refill = false ∧ ((s.linesAsked f.val).filter fun l => storeBankOf l.1 == bank.val) = [] ∧ ((List.range 16).filter fun k => bit ports.toNat k && s.engBusy (16 * f.val + k)) = []) :=
  ⟨0, 2, 0, false, rdy, by decide⟩

theorem wit_GirdleAndStoreSlots_13 : ∃ (f : Fin 32) (w : Wr) (s : State),
    (Accepted s w (pgFct f.val)) :=
  ⟨31, hw 0, rdy.wr FCT_BEZEL_STAT.LOW_COUNT 255 4, by decide⟩

theorem wit_PowerRequests_1 : ∃ (w : Wr) (s : State),
    (Accepted s w pgPwr) ∧ (bits w.val.toNat 0 7 ≤ 97) ∧ (s.on PWR_STAT.BUSY 0 = false) ∧ (bits w.val.toNat 28 2 ≠ 0) ∧ ((s.dom (bits w.val.toNat 0 7)).st = 0) ∧ (s.pwrRefused (bits w.val.toNat 0 7) false = false ∧ s.pwrDepend (bits w.val.toNat 0 7) (bits w.val.toNat 28 2) = false) ∧ (bit w.val.toNat 30 = false) :=
  ⟨hw 0x30000005, rdy, by decide⟩

theorem wit_PowerRequests_2 : ∃ (w : Wr) (s : State),
    (Accepted s w pgPwr) ∧ (bits w.val.toNat 0 7 ≤ 97) ∧ (s.on PWR_STAT.BUSY 0 = false) ∧ (bits w.val.toNat 28 2 ≠ 0) ∧ ((s.dom (bits w.val.toNat 0 7)).st = 0) ∧ (s.pwrRefused (bits w.val.toNat 0 7) (bit w.val.toNat 30) = true) :=
  ⟨hw 0x20000000, rdy.wr ENG_STAT.STATE 15 2, by decide⟩

theorem wit_PowerRequests_3 : ∃ (w : Wr) (s : State),
    (Accepted s w pgPwr) ∧ (bits w.val.toNat 0 7 ≤ 97) ∧ (s.on PWR_STAT.BUSY 0 = false) ∧ (bits w.val.toNat 28 2 = 0) ∧ ((s.dom (bits w.val.toNat 0 7)).st ≠ 0) ∧ (s.pwrDepend (bits w.val.toNat 0 7) 0 = false) :=
  ⟨hw 0x61, rdy.setDom 97 { st := 3 }, by decide⟩

theorem wit_PowerRequests_4 : ∃ (w : Wr) (s : State),
    (Accepted s w pgPwr) ∧ (bits w.val.toNat 0 7 ≤ 97) ∧ (s.on PWR_STAT.BUSY 0 = false) ∧ (bits w.val.toNat 28 2 = (s.dom (bits w.val.toNat 0 7)).st ∧ (s.dom (bits w.val.toNat 0 7)).restoreFrom = none) ∧ ((s.dom (bits w.val.toNat 0 7)).deferredAt = none) ∧ (s.pwrDepend (bits w.val.toNat 0 7) (bits w.val.toNat 28 2) = false) :=
  ⟨hw 0, rdy, by decide⟩

theorem wit_PowerRequests_5 : ∃ (w : Wr) (s : State),
    (Accepted s w pgPwr) ∧ (bits w.val.toNat 0 7 ≤ 97) ∧ (s.on PWR_STAT.BUSY 0 = false) ∧ (bits w.val.toNat 28 2 ≠ 0) ∧ ((s.dom (bits w.val.toNat 0 7)).st = 0) ∧ (s.pwrRefused (bits w.val.toNat 0 7) true = false ∧ s.pwrDepend (bits w.val.toNat 0 7) (bits w.val.toNat 28 2) = false) ∧ (bit w.val.toNat 30 = true) :=
  ⟨hw 0x70000005, rdy, by decide⟩

theorem wit_PowerRequests_6 : ∃ (w : Wr) (s : State),
    (Accepted s w pgPwr) ∧ (bits w.val.toNat 0 7 ≤ 97) ∧ (s.on PWR_STAT.BUSY 0 = false) ∧ (bits w.val.toNat 28 2 ≠ 0 ∧ (s.dom (bits w.val.toNat 0 7)).st ≠ 0) ∧ (bits w.val.toNat 28 2 ≠ (s.dom (bits w.val.toNat 0 7)).st ∨ (s.dom (bits w.val.toNat 0 7)).restoreFrom ≠ none) ∧ (s.pwrDepend (bits w.val.toNat 0 7) (bits w.val.toNat 28 2) = false) :=
  ⟨hw 0x30000061, rdy.setDom 97 { st := 2 }, by decide⟩

theorem wit_PowerRequests_7 : ∃ (w : Wr) (s : State),
    (Accepted s w pgPwr) ∧ (bits w.val.toNat 0 7 ≤ 97) ∧ (s.on PWR_STAT.BUSY 0 = false) ∧ (bits w.val.toNat 28 2 = (s.dom (bits w.val.toNat 0 7)).st ∧ (s.dom (bits w.val.toNat 0 7)).restoreFrom = none) ∧ ((s.dom (bits w.val.toNat 0 7)).deferredAt ≠ none) ∧ (s.pwrDepend (bits w.val.toNat 0 7) (bits w.val.toNat 28 2) = false) :=
  ⟨hw 5, rdy.setDom 5 { deferredAt := some 3 }, by decide⟩

theorem wit_PowerRequests_8 : ∃ (w : Wr) (s : State),
    (Accepted s w pgPwr) ∧ (97 < bits w.val.toNat 0 7) :=
  ⟨hw 98, rdy, by decide⟩

theorem wit_PowerRequests_9 : ∃ (w : Wr) (s : State),
    (Accepted s w pgPwr) ∧ (bits w.val.toNat 0 7 ≤ 97) ∧ (s.on PWR_STAT.BUSY 0 = true) :=
  ⟨hw 5, rdy.wr PWR_STAT.BUSY 0 1, by decide⟩

theorem wit_PowerRequests_10 : ∃ (w : Wr) (s : State),
    (Accepted s w pgPwr) ∧ (bits w.val.toNat 0 7 ≤ 97) ∧ (s.on PWR_STAT.BUSY 0 = false) ∧ ((s.dom (bits w.val.toNat 0 7)).st ≠ 0 ∨ bits w.val.toNat 28 2 = 0 ∨ s.pwrRefused (bits w.val.toNat 0 7) (bit w.val.toNat 30) = false) ∧ (s.pwrDepend (bits w.val.toNat 0 7) (bits w.val.toNat 28 2) = true) :=
  ⟨hw 0x30000020, rdy, by decide⟩

theorem wit_PowerRequests_11 : ∃ (d : Fin 98) (s : State),
    ((s.dom d.val).quiesceFrom.all (fun q => decide (q + 2000 < s.tb)) = true) :=
  ⟨5, rdy, by decide⟩

theorem wit_PowerRequests_12 : ∃ (d : Fin 98) (s : State),
    ((s.dom d.val).quiesceFrom.all (fun q => decide (s.tb < q + 2000)) = true) :=
  ⟨5, rdy, by decide⟩

theorem wit_PowerRequests_13 : ∃ (d : Fin 98) (s : State),
    ((s.dom d.val).deferredAt.all (fun q => decide (s.tb < q + 50000)) = true ∨ (s.dom d.val).quiesceFrom ≠ none ∨ s.on PWR_STAT.BUSY 0 = true) :=
  ⟨5, rdy, by decide⟩

theorem wit_PowerRequests_14 : ∃ (d : Fin 98) (s : State),
    ((s.dom d.val).restoreFrom.all (fun q => decide (s.tb < q + restoreTime (s.dom d.val).st)) = true) :=
  ⟨5, rdy, by decide⟩

theorem wit_PowerRequests_15 : ∃ (d : Fin 98) (q : Nat) (s : State),
    ((s.dom d.val).quiesceFrom = some q) ∧ (s.tb ≤ q + 2000) :=
  ⟨5, 3, { rdy.setDom 5 { quiesceFrom := some 3, target := 3 } with tb := 2003 }, by decide⟩

theorem wit_PowerRequests_16 : ∃ (d : Fin 98) (q : Nat) (s : State),
    ((s.dom d.val).quiesceFrom = some q) ∧ (q + 2000 ≤ s.tb) :=
  ⟨97, 0, { rdy.setDom 97 { quiesceFrom := some 0, target := 2 } with tb := 2000 }, by decide⟩

theorem wit_PowerRequests_17 : ∃ (d : Fin 98) (q : Nat) (s : State),
    ((s.dom d.val).deferredAt = some q) ∧ (q + 50000 ≤ s.tb) ∧ ((s.dom d.val).quiesceFrom = none) ∧ (s.on PWR_STAT.BUSY 0 = false) ∧ (s.pwrRefused d.val false = true ∨ s.pwrDepend d.val (s.dom d.val).target = true) :=
  ⟨0, 1, { (rdy.setDom 0 { deferredAt := some 1, target := 3 }).wr ENG_STAT.STATE 0 3 with tb := 50001 }, by decide⟩

theorem wit_PowerRequests_18 : ∃ (d : Fin 98) (q : Nat) (s : State),
    ((s.dom d.val).deferredAt = some q) ∧ (q + 50000 ≤ s.tb) ∧ ((s.dom d.val).quiesceFrom = none) ∧ (s.on PWR_STAT.BUSY 0 = false) ∧ (s.pwrRefused d.val false = false ∧ s.pwrDepend d.val (s.dom d.val).target = false) :=
  ⟨0, 1, { (rdy.setDom 0 { deferredAt := some 1, target := 3 }) with tb := 50001 }, by decide⟩

theorem wit_PowerRequests_19 : ∃ (d : Fin 98) (q : Nat) (s : State),
    ((s.dom d.val).restoreFrom = some q) ∧ (q + restoreTime (s.dom d.val).st ≤ s.tb) ∧ (d.val = 32 ∨ d.val = 33) :=
  ⟨33, 1, { rdy.setDom 33 { st := 3, restoreFrom := some 1 } with tb := 250001 }, by decide⟩

theorem wit_PowerRequests_20 : ∃ (d : Fin 98) (q : Nat) (s : State),
    ((s.dom d.val).restoreFrom = some q) ∧ (q + restoreTime (s.dom d.val).st ≤ s.tb) ∧ (d.val < 32) :=
  ⟨0, 1, { rdy.setDom 0 { st := 1, restoreFrom := some 1 } with tb := 501 }, by decide⟩

theorem wit_PowerRequests_21 : ∃ (d : Fin 98) (q : Nat) (s : State),
    ((s.dom d.val).restoreFrom = some q) ∧ (q + restoreTime (s.dom d.val).st ≤ s.tb) ∧ (34 ≤ d.val) :=
  ⟨97, 1, { rdy.setDom 97 { st := 2, restoreFrom := some 1 } with tb := 25001 }, by decide⟩

theorem wit_ResetStrapsAndBoot_3 : ∃ (s : State),
    (s.bring.held = true) :=
  ⟨rdy.modBring fun b => { b with held := true, released := none }, by decide⟩

theorem wit_ResetStrapsAndBoot_4_1 : ∃ (hostSel : Bool) (flashOk : Bool) (mode : Fin 4) (q : Nat) (s : State),
    (s.bring.released = some q) ∧ (s.dev = 1) ∧ (q + 500000 ≤ s.tb) ∧ (hostSel = true ∨ s.on HOST_LINK.DL_UP 0 = false) ∧ (mode.val ≠ 0 ∨ flashOk = false ∨ s.bootSlot = none) :=
  ⟨true, false, 2, 0, { State.reset with tb := 500000 }, by decide⟩

theorem wit_ResetStrapsAndBoot_4_2 : ∃ (hostSel : Bool) (flashOk : Bool) (mode : Fin 4) (q : Nat) (s : State),
    (s.bring.released = some q) ∧ (s.dev = 1) ∧ (q + 500000 ≤ s.tb) ∧ (hostSel = true ∨ s.on HOST_LINK.DL_UP 0 = false) ∧ (mode.val ≠ 0 ∨ flashOk = false ∨ s.bootSlot = none) :=
  ⟨false, true, 0, 0, { State.reset with tb := 500000 }, by decide⟩

theorem wit_ResetStrapsAndBoot_5 : ∃ (hostSel : Bool) (flashOk : Bool) (mode : Fin 4) (k : Nat) (q : Nat) (s : State),
    (s.bring.released = some q) ∧ (s.dev = 1) ∧ (q + 500000 ≤ s.tb) ∧ (hostSel = true ∨ s.on HOST_LINK.DL_UP 0 = false) ∧ (mode.val = 0 ∧ flashOk = true ∧ s.bootSlot = some k) :=
  ⟨true, true, 0, 0, 0, bootable, by decide +kernel⟩

theorem wit_ResetStrapsAndBoot_6 : ∃ (r : Nat × Nat × Nat) (s : State),
    (s.dev = 2) ∧ (s.bring.script[s.bring.index]? = some r) ∧ (bootReserved r = true) :=
  ⟨(0, 0, 0), (rdy.wr DEV_STATE.STATE 0 2).modBring fun b => { b with script := [(0, 0, 0)] }, by decide⟩

theorem wit_ResetStrapsAndBoot_7 : ∃ (r : Nat × Nat × Nat) (s : State),
    (s.dev = 2) ∧ (s.bring.script[s.bring.index]? = some r) ∧ (bootReserved r = false) ∧ (bootOp r = 15) ∧ (s.bring.whole = true) :=
  ⟨(0xF0000000, 0, 0), (rdy.wr DEV_STATE.STATE 0 2).modBring fun b => { b with script := [(0xF0000000, 0, 0)] }, by decide⟩

theorem wit_ResetStrapsAndBoot_8 : ∃ (r : Nat × Nat × Nat) (s : State),
    (s.dev = 2) ∧ (s.bring.script[s.bring.index]? = some r) ∧ (bootReserved r = false) ∧ (bootOp r = 4) ∧ (s.bring.busy = none) :=
  ⟨(0x40000000, 1000000, 0), (rdy.wr DEV_STATE.STATE 0 2).modBring fun b => { b with script := [(0x40000000, 1000000, 0)] }, by decide⟩

theorem wit_ResetStrapsAndBoot_9 : ∃ (r : Nat × Nat × Nat) (s : State),
    (s.dev = 2) ∧ (s.bring.script[s.bring.index]? = some r) ∧ (bootReserved r = false) ∧ (bootOp r = 1) ∧ ((s.bootWrite (bits r.1 0 22) r.2.1).1 = true) :=
  ⟨(0x10001050, 200, 0), (rdy.wr DEV_STATE.STATE 0 2).modBring fun b => { b with script := [(0x10001050, 200, 0)] }, by decide +kernel⟩

theorem wit_ResetStrapsAndBoot_10 : ∃ (testN : Bool) (s : State),
    (testN = false ∨ s.dev ≠ 1 ∨ s.bring.released.all (fun q => decide (s.tb < q + 500000)) = true) :=
  ⟨false, { State.reset with tb := 500000 }, by decide⟩

theorem wit_ResetStrapsAndBoot_11 : ∃ (r : Nat × Nat × Nat) (s : State),
    (s.dev = 2) ∧ (s.bring.script[s.bring.index]? = some r) ∧ (bootOp r = 2) ∧ (((s.bootRead (bits r.1 0 22)).2.bootWrite (bits r.1 0 22) ((s.bootRead (bits r.1 0 22)).1 &&& (0xFFFFFFFF ^^^ r.2.2) ||| r.2.1 &&& r.2.2)).1 = true) :=
  ⟨(0x20001050, 0xFFF, 0xF), (rdy.wr DEV_STATE.STATE 0 2).modBring fun b => { b with script := [(0x20001050, 0xFFF, 0xF)] }, by decide +kernel⟩

theorem wit_ResetStrapsAndBoot_12 : ∃ (r : Nat × Nat × Nat) (s : State),
    (s.dev = 2) ∧ (s.bring.script[s.bring.index]? = some r) ∧ (bootReserved r = false) ∧ (bootOp r = 1) ∧ ((s.bootWrite (bits r.1 0 22) r.2.1).1 = false) :=
  ⟨(0x10001050, 3, 0), (rdy.wr DEV_STATE.STATE 0 2).modBring fun b => { b with script := [(0x10001050, 3, 0)] }, by decide +kernel⟩

theorem wit_ResetStrapsAndBoot_13 : ∃ (r : Nat × Nat × Nat) (s : State),
    (s.dev = 2) ∧ (s.bring.script[s.bring.index]? = some r) ∧ (bootReserved r = false) ∧ (bootOp r = 3) :=
  ⟨(0x30401044, 1, 1), (rdy.wr DEV_STATE.STATE 0 2).modBring fun b => { b with script := [(0x30401044, 1, 1)] }, by decide⟩

theorem wit_ResetStrapsAndBoot_14 : ∃ (r : Nat × Nat × Nat) (s : State),
    (s.dev = 2) ∧ (s.bring.script[s.bring.index]? = some r) ∧ (bootOp r = 14) :=
  ⟨(0xE0000000, 0, 0), (rdy.wr DEV_STATE.STATE 0 2).modBring fun b => { b with script := [(0xE0000000, 0, 0)] }, by decide⟩

theorem wit_ResetStrapsAndBoot_15 : ∃ (r : Nat × Nat × Nat) (s : State),
    (s.dev = 2) ∧ (s.bring.script[s.bring.index]? = some r) ∧ (bootOp r = 15) ∧ (s.bring.whole = false) :=
  ⟨(0xF0000000, 0, 0), (rdy.wr DEV_STATE.STATE 0 2).modBring fun b => { b with script := [(0xF0000000, 0, 0)], whole := false }, by decide⟩

theorem wit_ResetStrapsAndBoot_16 : ∃ (s : State),
    (s.dev = 2) ∧ (s.bring.script[s.bring.index]? = none) :=
  ⟨(rdy.wr DEV_STATE.STATE 0 2), by decide⟩

theorem wit_ResetStrapsAndBoot_17 : ∃ (s : State),
    (s.bootDue 3 = true) :=
  ⟨(rdy.wr DEV_STATE.STATE 0 2).modBring fun b => { b with script := [(0x30000000, 1, 1)], busy := some 0 }, by decide⟩

theorem wit_ResetStrapsAndBoot_18 : ∃ (s : State),
    (s.bootDue 4 = true) :=
  ⟨(rdy.wr DEV_STATE.STATE 0 2).modBring fun b => { b with script := [(0x40000000, 1, 0)], busy := some 0 }, by decide⟩

theorem wit_CalcheckTrainingSafe_1 : ∃ (s : State),
    (s.dev = 3) ∧ (s.on CAL_STAT.FLASH_OK 0 = false) :=
  ⟨rdy.wr DEV_STATE.STATE 0 3, by decide⟩

theorem wit_CalcheckTrainingSafe_2 : ∃ (s : State),
    (s.dev = 3) ∧ (s.on CAL_STAT.FLASH_OK 0 = true) :=
  ⟨(rdy.wr DEV_STATE.STATE 0 3).wr CAL_STAT.FLASH_OK 0 1, by decide⟩

theorem wit_CalcheckTrainingSafe_3 : ∃ (q : Nat) (s : State),
    (s.dev = 5) ∧ (s.bring.released = some q) ∧ (s.unsettledIsl = []) ∧ (s.unsettledQuads = []) :=
  ⟨0, allLocked.wr DEV_STATE.STATE 0 5, by decide⟩

theorem wit_CalcheckTrainingSafe_4 : ∃ (s : State),
    (s.dev = 9 ∧ s.bring.stage = 5) ∧ (s.unsettledIsl = []) ∧ (s.unsettledQuads = []) :=
  ⟨(allLocked.wr DEV_STATE.STATE 0 9).modBring fun b => { b with stage := 5 }, by decide⟩

theorem wit_CalcheckTrainingSafe_5 : ∃ (q : Nat) (s : State),
    (s.dev = 5) ∧ (s.bring.released = some q) ∧ (s.bring.trainFrom + 2500000 ≤ s.tb) :=
  ⟨0, { rdy.wr DEV_STATE.STATE 0 5 with tb := 2500000 }, by decide⟩

theorem wit_CalcheckTrainingSafe_6 : ∃ (s : State),
    (s.dev = 9 ∧ s.bring.stage = 5) ∧ (s.bring.trainFrom + 2500000 ≤ s.tb) :=
  ⟨{ (rdy.wr DEV_STATE.STATE 0 9).modBring (fun b => { b with stage := 5 }) with tb := 2500000 }, by decide⟩

theorem wit_CalcheckTrainingSafe_7 : ∃ (s : State),
    (s.inTraining = false ∨ s.unsettledIsl ≠ [] ∨ s.unsettledQuads ≠ []) :=
  ⟨rdy, by decide⟩

theorem wit_CalcheckTrainingSafe_8 : ∃ (s : State),
    (s.inTraining = false ∨ s.tb < s.bring.trainFrom + 2500000) :=
  ⟨rdy, by decide⟩

theorem wit_CalcheckTrainingSafe_9 : ∃ (s : State),
    (s.dev ≠ 4 ∨ s.bring.told = true) :=
  ⟨rdy, by decide⟩

theorem wit_CalcheckTrainingSafe_10 : ∃ (q : Nat) (s : State),
    (s.bring.released = some q) ∧ (s.dev = 4) ∧ (q + 40000000 ≤ s.tb) ∧ (s.bring.told = false) :=
  ⟨0, { rdy.wr DEV_STATE.STATE 0 4 with tb := 40000000 }, by decide⟩

theorem wit_CalcheckTrainingSafe_11 : ∃ (w : Wr) (s : State),
    (Accepted s w pgDev) ∧ (bit w.val.toNat 1 = false) ∧ (4 ≤ s.dev ∧ s.dev ≠ 8) :=
  ⟨hw 0, rdy, by decide⟩

theorem wit_CalcheckTrainingSafe_12 : ∃ (w : Wr) (s : State),
    (Accepted s w pgDev) ∧ (bit w.val.toNat 1 = false) ∧ (s.dev = 8) :=
  ⟨hw 0, rdy.wr DEV_STATE.STATE 0 8, by decide⟩

theorem wit_CalcheckTrainingSafe_13 : ∃ (w : Wr) (s : State),
    (Accepted s w pgDev) ∧ (bit w.val.toNat 1 = false) ∧ (s.dev < 4) :=
  ⟨hw 0, rdy.wr DEV_STATE.STATE 0 3, by decide⟩

theorem wit_CalcheckTrainingSafe_14 : ∃ (q : Nat) (s : State),
    (s.loupe.hot = some q) ∧ (q + 5000000 ≤ s.tb) ∧ (s.dev = 8) :=
  ⟨0, { (rdy.wr DEV_STATE.STATE 0 8).setLoupe { hot := some 0 } with tb := 5000000 }, by decide⟩

theorem wit_CalcheckTrainingSafe_15 : ∃ (s : State),
    (s.loupe.hot.all (fun q => decide (s.tb < q + 5000000)) = true ∨ s.dev < 4) :=
  ⟨rdy, by decide⟩

theorem wit_CalcheckTrainingSafe_16 : ∃ (q : Nat) (s : State),
    (s.loupe.hot = some q) ∧ (q + 5000000 ≤ s.tb) ∧ (4 ≤ s.dev ∧ s.dev ≠ 8) :=
  ⟨0, { rdy.setLoupe { hot := some 0 } with tb := 5000000 }, by decide⟩

theorem wit_CalcheckTrainingSafe_17 : ∃ (w : Wr) (s : State),
    (Accepted s w pgDev) ∧ (bit w.val.toNat 0 = false) ∧ (s.safeExitOk = true) ∧ (s.rd DEV_STATE.PREV 0 = 9) :=
  ⟨hw 0, inSafe.wr DEV_STATE.PREV 0 9, by decide +kernel⟩

theorem wit_CalcheckTrainingSafe_18 : ∃ (w : Wr) (s : State),
    (Accepted s w pgDev) ∧ (bit w.val.toNat 0 = false) ∧ (s.safeExitOk = true) ∧ (s.rd DEV_STATE.PREV 0 ≠ 6 ∧ s.rd DEV_STATE.PREV 0 ≠ 7 ∧ s.rd DEV_STATE.PREV 0 ≠ 9) :=
  ⟨hw 0, inSafe.wr DEV_STATE.PREV 0 5, by decide +kernel⟩

theorem wit_CalcheckTrainingSafe_19 : ∃ (w : Wr) (s : State),
    (Accepted s w pgDev) ∧ (bit w.val.toNat 0 = false) ∧ (s.safeExitOk = true) ∧ (s.rd DEV_STATE.PREV 0 = 6 ∨ s.rd DEV_STATE.PREV 0 = 7) :=
  ⟨hw 0, inSafe.wr DEV_STATE.PREV 0 7, by decide +kernel⟩

theorem wit_CalcheckTrainingSafe_20 : ∃ (w : Wr) (s : State),
    (Accepted s w pgDev) ∧ (bit w.val.toNat 0 = false) ∧ (s.safeExitOk = false) :=
  ⟨hw 0, rdy, by decide⟩

theorem wit_EngineCommands_1 : ∃ (e : Fin 512) (w : Wr) (s : State),
    (Accepted s w (pgEng e.val)) ∧ (bit w.val.toNat 2 = false ∧ bit w.val.toNat 3 = false ∧ bit w.val.toNat 4 = false ∧ bit w.val.toNat 5 = false ∧ bit w.val.toNat 8 = false) ∧ (s.engState e.val = 0 ∨ s.engState e.val = 5 ∨ s.engState e.val = 6) ∧ (s.on ENG_VERIFY.BUSY e.val = false) :=
  ⟨511, hw 0, rdy, by decide⟩

theorem wit_EngineCommands_2 : ∃ (e : Fin 512) (s : State),
    (s.on ENG_VERIFY.BUSY e.val = true) :=
  ⟨0, (rdy.wr ENG_VERIFY.BUSY 0 1).wrA ENG_WIN.SIZE_M1 0 0, by decide⟩

theorem wit_EngineCommands_3_1 : ∃ (e : Fin 512) (w : Wr) (s : State),
    (Accepted s w (pgEng e.val)) ∧ (bit w.val.toNat 0 = false ∧ bit w.val.toNat 3 = false ∧ bit w.val.toNat 4 = false ∧ bit w.val.toNat 5 = false ∧ bit w.val.toNat 8 = false) ∧ (s.armCodes e.val = []) :=
  ⟨37, hw 0, (rdy.wr TB_STAT.EPOCH_STATE 0 1).wr ENG_STAT.PROG_OK 37 1, by decide⟩

theorem wit_EngineCommands_3_2 : ∃ (e : Fin 512) (w : Wr) (s : State),
    (Accepted s w (pgEng e.val)) ∧ (bit w.val.toNat 0 = false ∧ bit w.val.toNat 3 = false ∧ bit w.val.toNat 4 = false ∧ bit w.val.toNat 5 = false ∧ bit w.val.toNat 8 = false) ∧ (s.armCodes e.val = []) :=
  ⟨37, hw 0, (((rdy.wr TB_STAT.EPOCH_STATE 0 1).wr ENG_STAT.PROG_OK 37 1).wrA ENG_START.SRC 37 1).wrA ENG_START_AT_LO.START_AT 37 90000, by decide⟩

theorem wit_EngineCommands_4 : ∃ (e : Fin 512) (c : Nat) (w : Wr) (s : State),
    (Accepted s w (pgEng e.val)) ∧ (bit w.val.toNat 0 = false ∧ bit w.val.toNat 3 = false ∧ bit w.val.toNat 4 = false ∧ bit w.val.toNat 5 = false ∧ bit w.val.toNat 8 = false) ∧ (worst (s.armCodes e.val) = some c) :=
  ⟨37, 5, hw 0, rdy.wr TB_STAT.EPOCH_STATE 0 1, by decide⟩

theorem wit_EngineCommands_5 : ∃ (e : Fin 512) (w : Wr) (s : State),
    (Accepted s w (pgEng e.val)) ∧ (bit w.val.toNat 0 = false ∧ bit w.val.toNat 2 = false ∧ bit w.val.toNat 4 = false ∧ bit w.val.toNat 5 = false ∧ bit w.val.toNat 8 = false) ∧ (s.engState e.val = 1 ∧ s.rdA ENG_START.SRC e.val = 0) ∧ ((s.eng e.val).startA = none) :=
  ⟨1, hw 0, { rdy.wr ENG_STAT.STATE 1 1 with epoch := 1001 }, by decide⟩

theorem wit_EngineCommands_6 : ∃ (e : Fin 512) (a : Nat) (w : Wr) (s : State),
    (Accepted s w (pgEng e.val)) ∧ (bit w.val.toNat 0 = false ∧ bit w.val.toNat 2 = false ∧ bit w.val.toNat 4 = false ∧ bit w.val.toNat 5 = false ∧ bit w.val.toNat 8 = false) ∧ (s.engState e.val = 1 ∧ s.rdA ENG_START.SRC e.val = 0) ∧ ((s.eng e.val).startA = some a) :=
  ⟨1, 3, hw 0, (rdy.wr ENG_STAT.STATE 1 1).modEng 1 fun g => { g with startA := some 3 }, by decide⟩

theorem wit_EngineCommands_7 : ∃ (e : Fin 512) (w : Wr) (s : State),
    (Accepted s w (pgEng e.val)) ∧ (bit w.val.toNat 0 = false ∧ bit w.val.toNat 2 = false ∧ bit w.val.toNat 3 = false ∧ bit w.val.toNat 4 = false ∧ bit w.val.toNat 8 = false) ∧ (bits w.val.toNat 6 2 ≤ 1) ∧ (s.engState e.val = 1) :=
  ⟨1, hw 0x40, rdy.wr ENG_STAT.STATE 1 1, by decide⟩

theorem wit_EngineCommands_8 : ∃ (e : Fin 512) (w : Wr) (s : State),
    (Accepted s w (pgEng e.val)) ∧ (bit w.val.toNat 0 = false ∧ bit w.val.toNat 2 = false ∧ bit w.val.toNat 3 = false ∧ bit w.val.toNat 4 = false ∧ bit w.val.toNat 8 = false) ∧ (bits w.val.toNat 6 2 = 1) ∧ (s.engState e.val = 2 ∨ s.engState e.val = 3) :=
  ⟨1, hw 0x40, rdy.wr ENG_STAT.STATE 1 3, by decide⟩

theorem wit_EngineCommands_9_1 : ∃ (e : Fin 512) (w : Wr) (s : State),
    (Accepted s w (pgEng e.val)) ∧ (bit w.val.toNat 0 = false ∧ bit w.val.toNat 2 = false ∧ bit w.val.toNat 3 = false ∧ bit w.val.toNat 4 = false ∧ bit w.val.toNat 8 = false) ∧ (bits w.val.toNat 6 2 = 0) ∧ (s.engState e.val = 2 ∨ s.engState e.val = 3) :=
  ⟨1, hw 0, rdy.wr ENG_STAT.STATE 1 2, by decide⟩

theorem wit_EngineCommands_9_2 : ∃ (e : Fin 512) (w : Wr) (s : State),
    (Accepted s w (pgEng e.val)) ∧ (bit w.val.toNat 0 = false ∧ bit w.val.toNat 2 = false ∧ bit w.val.toNat 3 = false ∧ bit w.val.toNat 4 = false ∧ bit w.val.toNat 8 = false) ∧ (bits w.val.toNat 6 2 = 0) ∧ (s.engState e.val = 2 ∨ s.engState e.val = 3) :=
  ⟨1, hw 0, (rdy.wr ENG_STAT.STATE 1 2).modEng 1 fun g => { g with stopD := some (16, 1) }, by decide⟩

theorem wit_EngineCommands_10 : ∃ (e : Fin 512) (w : Wr) (s : State),
    (Accepted s w (pgEng e.val)) ∧ (bit w.val.toNat 0 = false ∧ bit w.val.toNat 2 = false ∧ bit w.val.toNat 3 = false ∧ bit w.val.toNat 5 = false ∧ bit w.val.toNat 8 = false) ∧ (s.engState e.val = 1 ∨ s.engState e.val = 5 ∨ s.engState e.val = 6) :=
  ⟨1, hw 0, (rdy.wr ENG_STAT.STATE 1 5).setBallClaim 7 6, by decide⟩

theorem wit_EngineCommands_11 : ∃ (e : Fin 512) (w : Wr) (s : State),
    (Accepted s w (pgEng e.val)) ∧ (bit w.val.toNat 0 = false ∧ bit w.val.toNat 2 = false ∧ bit w.val.toNat 3 = false ∧ bit w.val.toNat 4 = false ∧ bit w.val.toNat 5 = false) ∧ (s.rdA ENG_CFG.MODE e.val = 1) ∧ (s.engState e.val = 2 ∨ s.engState e.val = 3) ∧ ((s.eng e.val).gate = none ∧ (s.eng e.val).gateTo.all (fun d => decide (d ≤ s.epoch)) = true) :=
  ⟨2, hw 0, (rdy.wr ENG_STAT.STATE 2 2).wrA ENG_CFG.MODE 2 1, by decide⟩

theorem wit_EngineCommands_12 : ∃ (e : Fin 512) (d : Nat) (w : Wr) (s : State),
    (Accepted s w (pgEng e.val)) ∧ (bit w.val.toNat 0 = false ∧ bit w.val.toNat 2 = false ∧ bit w.val.toNat 3 = false ∧ bit w.val.toNat 4 = false ∧ bit w.val.toNat 5 = false) ∧ (s.rdA ENG_CFG.MODE e.val = 1) ∧ (s.engState e.val = 2 ∨ s.engState e.val = 3) ∧ ((s.eng e.val).gate = none ∧ (s.eng e.val).gateTo = some d ∧ s.epoch < d) :=
  ⟨2, 64, hw 0, ((rdy.wr ENG_STAT.STATE 2 3).wrA ENG_CFG.MODE 2 1).modEng 2 fun g => { g with gateTo := some 64 }, by decide⟩

theorem wit_EngineCommands_13 : ∃ (e : Fin 512) (w : Wr) (s : State),
    (Accepted s w (pgEng e.val)) ∧ (bit w.val.toNat 0 = false ∧ bit w.val.toNat 2 = false ∧ bit w.val.toNat 3 = false ∧ bit w.val.toNat 4 = false ∧ bit w.val.toNat 5 = false) ∧ (s.rdA ENG_CFG.MODE e.val = 0) ∧ (s.engState e.val ≠ 1) :=
  ⟨2, hw 0, rdy, by decide⟩

theorem wit_EngineCommands_14 : ∃ (e : Fin 512) (w : Wr) (s : State),
    (Accepted s w (pgEng e.val)) ∧ (bit w.val.toNat 0 = false ∧ bit w.val.toNat 2 = false ∧ bit w.val.toNat 3 = false ∧ bit w.val.toNat 4 = false ∧ bit w.val.toNat 5 = false) ∧ (s.engState e.val = 1 ∧ s.rdA ENG_START.SRC e.val = 2) ∧ ((s.eng e.val).startD = none) :=
  ⟨2, hw 0, { (rdy.wr ENG_STAT.STATE 2 1).wrA ENG_START.SRC 2 2 with epoch := 33 }, by decide⟩

theorem wit_EngineCommands_15 : ∃ (e : Fin 512) (s : State),
    (s.arrivals.filter (fun a => a.cls == 2 && a.index == e.val) ≠ []) ∧ (s.engState e.val = 0 ∨ 4 ≤ s.engState e.val) :=
  ⟨2, rdy.setArrivals [{ cls := 2, index := 2, ev := { prod := 9, st := {} } }, { cls := 2, index := 2, ev := { prod := 9, st := {} } }], by decide⟩

theorem wit_EngineCommands_16 : ∃ (e : Fin 512) (a : Arrival) (s : State),
    (s.arrivals.filter (fun a => a.cls == 2 && a.index == e.val) = [a]) ∧ (s.rdA ENG_CFG.MODE e.val = 1) ∧ (s.engState e.val = 2 ∨ s.engState e.val = 3) ∧ ((s.eng e.val).gate = none ∧ (s.eng e.val).gateTo.all (fun d => decide (d ≤ s.epoch)) = true) :=
  ⟨2, { cls := 2, index := 2, ev := { prod := 9, st := {} } }, ((rdy.wr ENG_STAT.STATE 2 3).wrA ENG_CFG.MODE 2 1).setArrivals [{ cls := 2, index := 2, ev := { prod := 9, st := {} } }], by decide⟩

theorem wit_EngineCommands_17 : ∃ (e : Fin 512) (w : Wr) (s : State),
    (Accepted s w (pgEng e.val)) ∧ (bit w.val.toNat 2 = false ∧ bit w.val.toNat 3 = false ∧ bit w.val.toNat 4 = false ∧ bit w.val.toNat 5 = false ∧ bit w.val.toNat 8 = false) ∧ (s.engState e.val ≠ 0 ∧ s.engState e.val ≠ 5 ∧ s.engState e.val ≠ 6) ∧ (s.on ENG_VERIFY.BUSY e.val = false) :=
  ⟨3, hw 0, rdy.wr ENG_STAT.STATE 3 3, by decide⟩

theorem wit_EngineCommands_18 : ∃ (e : Fin 512) (w : Wr) (s : State),
    (Accepted s w (pgEng e.val)) ∧ (bit w.val.toNat 2 = false ∧ bit w.val.toNat 3 = false ∧ bit w.val.toNat 4 = false ∧ bit w.val.toNat 5 = false ∧ bit w.val.toNat 8 = false) ∧ (s.engState e.val = 0 ∨ s.engState e.val = 5 ∨ s.engState e.val = 6) ∧ (s.on ENG_VERIFY.BUSY e.val = true) :=
  ⟨3, hw 0, rdy.wr ENG_VERIFY.BUSY 3 1, by decide⟩

theorem wit_EngineCommands_19 : ∃ (e : Fin 512) (w : Wr) (s : State),
    (Accepted s w (pgEng e.val)) ∧ (bit w.val.toNat 0 = false ∧ bit w.val.toNat 2 = false ∧ bit w.val.toNat 4 = false ∧ bit w.val.toNat 5 = false ∧ bit w.val.toNat 8 = false) ∧ (s.engState e.val ≠ 1 ∨ s.rdA ENG_START.SRC e.val ≠ 0) :=
  ⟨3, hw 0, rdy, by decide⟩

theorem wit_EngineCommands_20 : ∃ (e : Fin 512) (w : Wr) (s : State),
    (Accepted s w (pgEng e.val)) ∧ (bit w.val.toNat 0 = false ∧ bit w.val.toNat 2 = false ∧ bit w.val.toNat 3 = false ∧ bit w.val.toNat 5 = false ∧ bit w.val.toNat 8 = false) ∧ (s.engState e.val ≠ 1 ∧ s.engState e.val ≠ 5 ∧ s.engState e.val ≠ 6) :=
  ⟨3, hw 0, rdy.wr ENG_STAT.STATE 3 3, by decide⟩

theorem wit_EngineCommands_21 : ∃ (e : Fin 512) (w : Wr) (s : State),
    (Accepted s w (pgEng e.val)) ∧ (bit w.val.toNat 0 = false ∧ bit w.val.toNat 2 = false ∧ bit w.val.toNat 3 = false ∧ bit w.val.toNat 4 = false ∧ bit w.val.toNat 8 = false) ∧ (bits w.val.toNat 6 2 ≤ 1) ∧ (s.engState e.val ≠ 1 ∧ s.engState e.val ≠ 2 ∧ s.engState e.val ≠ 3) :=
  ⟨3, hw 0, rdy.wr ENG_STAT.STATE 3 4, by decide⟩

theorem wit_EngineCommands_22 : ∃ (e : Fin 512) (w : Wr) (s : State),
    (Accepted s w (pgEng e.val)) ∧ (bit w.val.toNat 0 = true ∧ bit w.val.toNat 2 = false ∧ bit w.val.toNat 3 = false ∧ bit w.val.toNat 4 = false ∧ bit w.val.toNat 5 = false) ∧ ((s.engState e.val = 0 ∨ s.engState e.val = 5 ∨ s.engState e.val = 6) ∧ s.on ENG_VERIFY.BUSY e.val = false) :=
  ⟨3, hw 1, rdy, by decide⟩

theorem wit_EngineRun_1 : ∃ (e : Fin 512) (p : Pos) (s : State),
    (s.engState e.val = 1) ∧ ((s.eng e.val).startD = some s.epoch) ∧ ((s.eng e.val).staged = true) ∧ ((s.eng e.val).presented s.epoch = some p) :=
  ⟨3, { step := 4 }, (rdy.wr ENG_STAT.STATE 3 1).modEng 3 fun g => { g with startD := some 0, staged := true, line := [{ step := 4 }] }, by decide⟩

theorem wit_EngineRun_2 : ∃ (e : Fin 512) (s : State),
    (s.engState e.val ≠ 1 ∨ (s.eng e.val).startD ≠ some s.epoch ∨ (s.eng e.val).staged = false) :=
  ⟨3, rdy, by decide⟩

theorem wit_EngineRun_3 : ∃ (e : Fin 512) (old : Pos) (p : Pos) (s : State),
    (s.engState e.val = 2 ∨ s.engState e.val = 3) ∧ ((s.eng e.val).line.head? = some old) ∧ ((s.eng e.val).presented s.epoch = some p) ∧ (p.start = s.epoch ∧ p ≠ old) :=
  ⟨3, { step := 4 }, { step := 5, start := 32, lcnt := [3, 2, 0, 0] }, { (rdy.wr ENG_STAT.STATE 3 3).modEng 3 (fun g => { g with line := [{ step := 4 }, { step := 5, start := 32, lcnt := [3, 2, 0, 0] }] }) with epoch := 32 }, by decide⟩

theorem wit_EngineRun_4_1 : ∃ (e : Fin 512) (word : Ecc) (data : Ecc) (ln : Fin 4) (s : State),
    (s.engState e.val = 1) ∧ ((s.eng e.val).staged = false) ∧ ((s.fetchItem e.val ((s.eng e.val).line.head?.getD (s.entryPos e.val s.epoch 0).1) word data ln.val).1 = none ∧ (s.entryPos e.val s.epoch 0).2 = none) ∧ ((s.eng e.val).startD.all (fun d => decide (s.epoch + 76 ≤ d)) = true) :=
  ⟨0, .clean, .corrected, 3, (rdy.wr ENG_STAT.STATE 0 1).setBytesB (0x01000000 + 12) [0, 0, 0, 0x40], by decide⟩

theorem wit_EngineRun_4_2 : ∃ (e : Fin 512) (word : Ecc) (data : Ecc) (ln : Fin 4) (s : State),
    (s.engState e.val = 1) ∧ ((s.eng e.val).staged = false) ∧ ((s.fetchItem e.val ((s.eng e.val).line.head?.getD (s.entryPos e.val s.epoch 0).1) word data ln.val).1 = none ∧ (s.entryPos e.val s.epoch 0).2 = none) ∧ ((s.eng e.val).startD.all (fun d => decide (s.epoch + 76 ≤ d)) = true) :=
  ⟨0, .clean, .corrected, 3, ((rdy.wr ENG_STAT.STATE 0 1).setBytesB (0x01000000 + 12) [0, 0, 0, 0x40]).modEng 0 fun g => { g with startD := some 76, line := [{ start := 76 }] }, by decide⟩

theorem wit_EngineRun_5 : ∃ (e : Fin 512) (d : Nat) (word : Ecc) (data : Ecc) (ln : Fin 4) (s : State),
    (s.engState e.val = 1) ∧ ((s.eng e.val).staged = false) ∧ ((s.fetchItem e.val ((s.eng e.val).line.head?.getD (s.entryPos e.val s.epoch 0).1) word data ln.val).1 = none ∧ (s.entryPos e.val s.epoch 0).2 = none) ∧ ((s.eng e.val).startD = some d ∧ d < s.epoch + 66) :=
  ⟨0, 16, .clean, .clean, 3, ((rdy.wr ENG_STAT.STATE 0 1).setBytesB (0x01000000 + 12) [0, 0, 0, 0x40]).modEng 0 fun g => { g with startD := some 16, line := [{ start := 16 }] }, by decide⟩

theorem wit_EngineRun_6 : ∃ (e : Fin 512) (c : Nat) (word : Ecc) (data : Ecc) (ln : Fin 4) (s : State),
    (s.engState e.val = 1) ∧ ((s.eng e.val).staged = false ∧ (s.eng e.val).fault = none) ∧ ((s.fetchItem e.val ((s.eng e.val).line.head?.getD (s.entryPos e.val s.epoch 0).1) word data ln.val).1 = some c) :=
  ⟨3, 2, .uncorrectable, .clean, 0, rdy.wr ENG_STAT.STATE 3 1, by decide⟩

theorem wit_EngineRun_7 : ∃ (e : Fin 512) (c : Nat) (word : Ecc) (data : Ecc) (ln : Fin 4) (s : State),
    (s.engState e.val = 1) ∧ ((s.eng e.val).staged = false ∧ (s.eng e.val).fault = none) ∧ ((s.fetchItem e.val ((s.eng e.val).line.head?.getD (s.entryPos e.val s.epoch 0).1) word data ln.val).1 = none ∧ (s.entryPos e.val s.epoch 0).2 = some c) :=
  ⟨0, 1, .clean, .clean, 0, (rdy.wr ENG_STAT.STATE 0 1).setBytesB (0x01000000 + 8) [0x80, 0, 0, 0, 0, 0, 0, 0x40], by decide⟩

theorem wit_EngineRun_8 : ∃ (e : Fin 512) (p : Pos) (s : State),
    (1 ≤ s.engState e.val ∧ s.engState e.val ≤ 3) ∧ ((s.eng e.val).startD ≠ none ∧ (s.eng e.val).staged = true) ∧ (s.bezelRoom e.val (s.eng e.val).next = true) ∧ ((s.eng e.val).endsBy (s.eng e.val).next = false) ∧ (s.writePos e.val (s.eng e.val).next = some p) ∧ ((s.streamNeed e.val p (s.eng e.val).next).all (fun z => s.allPresent (engFacet e.val) z.1 z.2.1 z.2.2) = true) ∧ (s.epoch + 66 ≤ (s.eng e.val).next) :=
  ⟨0, { lrS := [1] }, (((rdy.wr ENG_STAT.STATE 0 3).setBytesB (0x01000000 + 9) [255, 0, 0, 0, 0, 0, 0x40]).modEng 0 fun g => { g with startD := some 0, staged := true, next := 66, line := [{ lrS := [1] }] }).wrA LANE_SRC.A_EN 2 1, by decide⟩

theorem wit_EngineRun_9 : ∃ (e : Fin 512) (p : Pos) (s : State),
    (1 ≤ s.engState e.val ∧ s.engState e.val ≤ 3) ∧ ((s.eng e.val).startD ≠ none ∧ (s.eng e.val).staged = true) ∧ (s.bezelRoom e.val (s.eng e.val).next = true) ∧ ((s.eng e.val).endsBy (s.eng e.val).next = false) ∧ (s.writePos e.val (s.eng e.val).next = some p) ∧ ((s.streamNeed e.val p (s.eng e.val).next).all (fun z => s.allPresent (engFacet e.val) z.1 z.2.1 z.2.2) = true) ∧ ((s.eng e.val).next < s.epoch + 66) :=
  ⟨0, { lrS := [1] }, (((rdy.wr ENG_STAT.STATE 0 3).setBytesB (0x01000000 + 9) [255, 0, 0, 0, 0, 0, 0x40]).modEng 0 fun g => { g with startD := some 0, staged := true, next := 65, line := [{ lrS := [1] }] }).wrA LANE_SRC.A_EN 2 1, by decide⟩

theorem wit_EngineRun_10 : ∃ (e : Fin 512) (s : State),
    (s.bezelRoom e.val (s.eng e.val).next = false ∨ (s.eng e.val).endsBy (s.eng e.val).next = true ∨ s.writePos e.val (s.eng e.val).next = none) :=
  ⟨0, (rdy.wr ENG_STAT.STATE 0 3).modEng 0 fun g => { g with startD := some 0, staged := true, next := 267, line := [{}] }, by decide⟩

theorem wit_EngineRun_12 : ∃ (e : Fin 512) (d : Nat) (c : Nat) (s : State),
    ((s.eng e.val).stopD = some (d, c)) ∧ (s.engState e.val = 2 ∨ s.engState e.val = 3) ∧ (d ≤ s.epoch + 66) :=
  ⟨3, 66, 2, (rdy.wr ENG_STAT.STATE 3 3).modEng 3 fun g => { g with stopD := some (66, 2), q := [{ tick := 65 }, { tick := 66 }] }, by decide⟩

theorem wit_EngineRun_13 : ∃ (e : Fin 512) (s : State),
    ((s.eng e.val).stopD.all (fun z => decide (s.epoch + 66 < z.1)) = true) :=
  ⟨3, (rdy.wr ENG_STAT.STATE 3 3).modEng 3 fun g => { g with stopD := some (67, 2) }, by decide⟩

theorem wit_EngineRun_14_1 : ∃ (e : Fin 512) (d : Nat) (c : Nat) (s : State),
    ((s.eng e.val).stopD = some (d, c)) ∧ (s.engState e.val = 4 ∧ (s.eng e.val).cut = none) ∧ (d ≤ s.epoch) :=
  ⟨3, 64, 4, { (rdy.wr ENG_STAT.STATE 3 4).modEng 3 (fun g => { g with stopD := some (64, 4) }) with epoch := 64 }, by decide⟩

theorem wit_EngineRun_14_2 : ∃ (e : Fin 512) (d : Nat) (c : Nat) (s : State),
    ((s.eng e.val).stopD = some (d, c)) ∧ (s.engState e.val = 4 ∧ (s.eng e.val).cut = none) ∧ (d ≤ s.epoch) :=
  ⟨3, 64, 1, { (rdy.wr ENG_STAT.STATE 3 4).modEng 3 (fun g => { g with stopD := some (64, 1) }) with epoch := 64 }, by decide⟩

theorem wit_EngineRun_15 : ∃ (e : Fin 512) (s : State),
    (s.engState e.val ≠ 4 ∨ (s.eng e.val).stopD.all (fun z => decide (s.epoch < z.1)) = true) :=
  ⟨3, (rdy.wr ENG_STAT.STATE 3 4).modEng 3 fun g => { g with stopD := some (1, 2) }, by decide⟩

theorem wit_EngineRun_16 : ∃ (e : Fin 512) (s : State),
    (s.engBusy e.val = false ∨ (s.eng e.val).fault.all (fun z => decide (s.epoch + 66 < z.1)) = true) :=
  ⟨3, (rdy.wr ENG_STAT.STATE 3 3).modEng 3 fun g => { g with fault := some (67, 2, 7) }, by decide⟩

theorem wit_EngineRun_17 : ∃ (e : Fin 512) (d : Nat) (c : Nat) (j : Nat) (s : State),
    ((s.eng e.val).fault = some (d, c, j)) ∧ (s.engBusy e.val = true) ∧ (d ≤ s.epoch + 66) :=
  ⟨3, 66, 2, 7, (rdy.wr ENG_STAT.STATE 3 3).modEng 3 fun g => { g with fault := some (66, 2, 7), q := [{ tick := 65 }, { tick := 66 }] }, by decide⟩

theorem wit_BranchesAndRedirects_1 : ∃ (e : Fin 512) (n : Fin 4) (s : State),
    (s.rdX ENG_BIN_CFG.FIRE_EN (4 * e.val + n.val) = 1) ∧ (s.arrivals.filter (fun a => a.cls == 1 && a.index == 4 * e.val + n.val) ≠ []) ∧ (s.engState e.val = 0 ∨ s.engState e.val = 5 ∨ s.engState e.val = 6) :=
  ⟨511, 3, (rdy.wrA ENG_BIN_CFG.FIRE_EN 2047 1).setArrivals [{ cls := 1, index := 2047, ev := { prod := 9, st := {} } }], by decide⟩

theorem wit_BranchesAndRedirects_2 : ∃ (e : Fin 512) (n : Fin 4) (p : Pend) (s : State),
    (s.rdX ENG_BIN_CFG.FIRE_EN (4 * e.val + n.val) = 1) ∧ (mergePends ((s.arrivals.filter (fun a => a.cls == 1 && a.index == 4 * e.val + n.val)).map fun a => s.pendOf a.ev (s.engDPFrom e.val) 76) = some p) ∧ (1 ≤ s.engState e.val ∧ s.engState e.val ≤ 4) ∧ ((s.eng e.val).ins.length = 4) ∧ ((s.eng e.val).input n.val = none) :=
  ⟨511, 3, { due := 96, stamp := 0 }, ((rdy.wrA ENG_BIN_CFG.FIRE_EN 2047 1).wr ENG_STAT.STATE 511 3).setArrivals [{ cls := 1, index := 2047, ev := { prod := 9, st := {} } }], by decide⟩

theorem wit_BranchesAndRedirects_3 : ∃ (e : Fin 512) (n : Fin 4) (p : Pend) (q : Pend) (s : State),
    (s.rdX ENG_BIN_CFG.FIRE_EN (4 * e.val + n.val) = 1) ∧ (mergePends ((s.arrivals.filter (fun a => a.cls == 1 && a.index == 4 * e.val + n.val)).map fun a => s.pendOf a.ev (s.engDPFrom e.val) 76) = some p) ∧ (1 ≤ s.engState e.val ∧ s.engState e.val ≤ 4) ∧ ((s.eng e.val).ins.length = 4) ∧ ((s.eng e.val).input n.val = some q) :=
  ⟨511, 3, { due := 96, stamp := 0 }, { due := 900, stamp := 400 }, (((rdy.wrA ENG_BIN_CFG.FIRE_EN 2047 1).wr ENG_STAT.STATE 511 3).setArrivals [{ cls := 1, index := 2047, ev := { prod := 9, st := {} } }]).modEng 511 fun g => { g with ins := [none, none, none, some { due := 900, stamp := 400 }] }, by decide⟩

theorem wit_BranchesAndRedirects_4 : ∃ (e : Fin 512) (n : Fin 4) (s : State),
    (s.rdX ENG_BIN_CFG.FIRE_EN (4 * e.val + n.val) ≠ 1) :=
  ⟨511, 3, rdy.wrA ENG_BIN_CFG.FIRE_EN 2047 0, by decide⟩

theorem wit_BranchesAndRedirects_5_1 : ∃ (e : Fin 512) (p : Pos) (r : Redir) (s : State),
    (s.engDP e.val (s.epoch + 76) = true) ∧ ((s.eng e.val).endsBy (s.epoch + 76) = false) ∧ ((s.eng e.val).line.getLast? = some p) ∧ (p.start < s.epoch + 76 ∧ (s.engState e.val = 2 ∨ s.engState e.val = 3)) ∧ ((s.eng e.val).stopFrom = none) ∧ (p.kind = .gateWait ∨ stBrAtEnd (s.engStep e.val p.step) = false ∨ s.iterEnd e.val p (s.epoch + 76) = true ∨ s.endsAt e.val p ((s.eng e.val).dueInputs (s.epoch + 76)) (s.epoch + 76) = true) ∧ (s.redirReady (s.eng e.val) (s.epoch + 76) = some r) :=
  ⟨0, {}, { target := 5, mode := 0, a := 0, staged := some 1 }, { (rdy.wr ENG_STAT.STATE 0 3).modEng 0 (fun g => { g with carried := true, startD := some 4, line := [{}], redir := some { target := 5, mode := 0, a := 0, staged := some 1 } }) with epoch := 1000 * 16 + 4 }, by decide⟩

theorem wit_BranchesAndRedirects_5_2 : ∃ (e : Fin 512) (p : Pos) (r : Redir) (s : State),
    (s.engDP e.val (s.epoch + 76) = true) ∧ ((s.eng e.val).endsBy (s.epoch + 76) = false) ∧ ((s.eng e.val).line.getLast? = some p) ∧ (p.start < s.epoch + 76 ∧ (s.engState e.val = 2 ∨ s.engState e.val = 3)) ∧ ((s.eng e.val).stopFrom = none) ∧ (p.kind = .gateWait ∨ stBrAtEnd (s.engStep e.val p.step) = false ∨ s.iterEnd e.val p (s.epoch + 76) = true ∨ s.endsAt e.val p ((s.eng e.val).dueInputs (s.epoch + 76)) (s.epoch + 76) = true) ∧ (s.redirReady (s.eng e.val) (s.epoch + 76) = some r) :=
  ⟨0, { kind := .gateWait }, { target := 5, mode := 0, a := 0, staged := some 1 }, { (rdy.wr ENG_STAT.STATE 0 2).modEng 0 (fun g => { g with carried := true, startD := some 4, line := [{ kind := .gateWait }], redir := some { target := 5, mode := 0, a := 0, staged := some 1 } }) with epoch := 1000 * 16 + 4 }, by decide⟩

theorem wit_BranchesAndRedirects_6 : ∃ (e : Fin 512) (p : Pos) (k : Nat) (en : Nat) (s : State),
    (s.engDP e.val (s.epoch + 76) = true) ∧ ((s.eng e.val).endsBy (s.epoch + 76) = false) ∧ ((s.eng e.val).line.getLast? = some p) ∧ (p.start < s.epoch + 76 ∧ p.kind ≠ .gateWait ∧ s.engState e.val = 3) ∧ ((s.eng e.val).stopFrom = none) ∧ ((s.eng e.val).restageEnd ≤ s.epoch + 76) ∧ (stBrAtEnd (s.engStep e.val p.step) = false ∨ s.iterEnd e.val p (s.epoch + 76) = true ∨ s.endsAt e.val p ((s.eng e.val).dueInputs (s.epoch + 76)) (s.epoch + 76) = true) ∧ (s.redirReady (s.eng e.val) (s.epoch + 76) = none) ∧ (s.candidate e.val p ((s.eng e.val).dueInputs (s.epoch + 76)) (s.epoch + 76) = some (k, en)) :=
  ⟨0, {}, 0, 0x8000050000000000, { ((rdy.wr ENG_STAT.STATE 0 3).setBytesB 0x01000000 [0, 0, 0, 0, 0, 1, 0, 0, 0, 0, 0, 0, 0, 0, 0, 0x40] |>.setBytesB 0x01010000 [0, 0, 0, 0, 0, 5, 0, 0x80]).modEng 0 (fun g => { g with carried := true, startD := some 4, line := [{}], ins := [some { due := 0, stamp := 0 }, none, none, none] }) with epoch := 1000 * 16 + 4 }, by decide⟩

theorem wit_BranchesAndRedirects_7 : ∃ (e : Fin 512) (p : Pos) (a : Nat) (k : Nat) (en : Nat) (s : State),
    (s.engDP e.val (s.epoch + 76) = true) ∧ ((s.eng e.val).endsBy (s.epoch + 76) = false) ∧ ((s.eng e.val).line.getLast? = some p) ∧ (p.start < s.epoch + 76 ∧ p.kind = .play) ∧ ((s.eng e.val).restageEnd ≤ s.epoch + 76) ∧ (stBrAtEnd (s.engStep e.val p.step) = false ∧ s.engState e.val = 3) ∧ ((s.eng e.val).stopFrom = some a ∧ a + s.h ≤ s.epoch + 76 ∧ (s.eng e.val).stopD = none) ∧ (s.endsAt e.val p ((s.eng e.val).dueInputs (s.epoch + 76)) (s.epoch + 76) = false) ∧ (s.redirReady (s.eng e.val) (s.epoch + 76) = none) ∧ (s.candidate e.val p ((s.eng e.val).dueInputs (s.epoch + 76)) (s.epoch + 76) = some (k, en)) :=
  ⟨0, {}, 15000, 0, 0x8000050000000000, { ((rdy.wr ENG_STAT.STATE 0 3).setBytesB 0x01000000 [0, 0, 0, 0, 0, 1, 0, 0, 0, 0, 0, 0, 0, 0, 0, 0x40] |>.setBytesB 0x01010000 [0, 0, 0, 0, 0, 5, 0, 0x80]).modEng 0 (fun g => { g with carried := true, startD := some 4, line := [{}], stopFrom := some 15000, ins := [some { due := 0, stamp := 0 }, none, none, none] }) with epoch := 1000 * 16 + 4 }, by decide⟩

theorem wit_BranchesAndRedirects_8 : ∃ (e : Fin 512) (p : Pos) (a : Nat) (s : State),
    (s.engDP e.val (s.epoch + 76) = true) ∧ ((s.eng e.val).endsBy (s.epoch + 76) = false) ∧ ((s.eng e.val).line.getLast? = some p) ∧ (p.start < s.epoch + 76 ∧ p.kind ≠ .gateWait) ∧ (s.engState e.val = 2 ∨ s.engState e.val = 3) ∧ ((s.eng e.val).stopFrom = some a ∧ a + s.h ≤ s.epoch + 76 ∧ (s.eng e.val).stopD = none) ∧ (s.endsAt e.val p ((s.eng e.val).dueInputs (s.epoch + 76)) (s.epoch + 76) = true) :=
  ⟨0, { org := 16064 }, 15000, { ((rdy.wr ENG_STAT.STATE 0 3).setBytesB 0x01000000 [0, 0, 0, 0, 0, 1, 0, 0, 0, 1, 0, 0, 0, 0, 0, 0x40]).modEng 0 (fun g => { g with carried := true, startD := some 4, line := [{ org := 16064 }], stopFrom := some 15000 }) with epoch := 1000 * 16 + 4 }, by decide⟩

theorem wit_BranchesAndRedirects_9 : ∃ (e : Fin 512) (p : Pos) (j : Nat) (s : State),
    (s.engDP e.val (s.epoch + 76) = true) ∧ ((s.eng e.val).endsBy (s.epoch + 76) = false) ∧ ((s.eng e.val).line.getLast? = some p) ∧ (p.start < s.epoch + 76 ∧ p.kind = .play ∧ stOp (s.engStep e.val p.step) ≠ 6) ∧ (s.engState e.val = 2 ∨ s.engState e.val = 3) ∧ ((s.eng e.val).stopFrom = none ∧ (s.eng e.val).stopD = none ∧ (s.eng e.val).redir = none) ∧ (s.candidate e.val p ((s.eng e.val).dueInputs (s.epoch + 76)) (s.epoch + 76) = none) ∧ (s.posEnd e.val p = s.epoch + 76) ∧ ((s.naturalExit e.val p).fault = none ∧ (s.naturalExit e.val p).step = j ∧ stOp (s.engStep e.val j) = 7) :=
  ⟨0, { org := 16064 }, 1, { ((rdy.wr ENG_STAT.STATE 0 3).setBytesB 0x01000000 [0, 0, 0, 0, 0, 0, 1, 0, 0, 1, 0, 0, 0, 0, 0, 0x40] |>.setBytesB 0x01000010 [0, 0, 0, 0, 0, 0, 0, 0, 0, 0, 0, 0, 0, 0, 0, 0x70]).modEng 0 (fun g => { g with carried := true, startD := some 4, line := [{ org := 16064 }], q := [{ tick := 16079 }, { tick := 16080 }] }) with epoch := 1000 * 16 + 4 }, by decide⟩

theorem wit_BranchesAndRedirects_10 : ∃ (e : Fin 512) (s : State),
    (s.engState e.val ≠ 2 ∧ s.engState e.val ≠ 3) ∧ (s.engState e.val ≠ 1 ∨ (s.eng e.val).startD ≠ some (s.epoch + 76)) :=
  ⟨0, rdy.wr ENG_STAT.STATE 0 1, by decide⟩

theorem wit_BranchesAndRedirects_11 : ∃ (e : Fin 512) (s : State),
    (s.engDP e.val (s.epoch + 76) = false ∧ s.engState e.val ≠ 1) :=
  ⟨0, { rdy.modEng 0 (fun g => { g with startD := some 4 }) with epoch := 5 }, by decide⟩

theorem wit_BranchesAndRedirects_12 : ∃ (e : Fin 512) (w : Wr) (s : State),
    (Accepted s w (pgEng e.val)) ∧ (bit w.val.toNat 30 = false ∧ bits w.val.toNat 16 2 ≠ 3) ∧ (bits w.val.toNat 0 16 ≤ s.rdA ENG_WIN.SIZE_M1 e.val) ∧ (s.engState e.val = 2 ∨ s.engState e.val = 3) ∧ (s.on ENG_REDIR_STAT.PENDING e.val = false) :=
  ⟨9, hw 0x20FFF, rdy.wr ENG_STAT.STATE 9 3, by decide⟩

theorem wit_BranchesAndRedirects_13 : ∃ (e : Fin 512) (w : Wr) (s : State),
    (Accepted s w (pgEng e.val)) ∧ (bit w.val.toNat 30 = true ∨ bits w.val.toNat 16 2 = 3) ∧ (bits w.val.toNat 0 16 ≤ s.rdA ENG_WIN.SIZE_M1 e.val) ∧ (s.engState e.val = 2 ∨ s.engState e.val = 3) ∧ (s.on ENG_REDIR_STAT.PENDING e.val = false) :=
  ⟨9, hw 0x40000000, rdy.wr ENG_STAT.STATE 9 3, by decide⟩

theorem wit_BranchesAndRedirects_14 : ∃ (e : Fin 512) (w : Wr) (s : State),
    (Accepted s w (pgEng e.val)) ∧ (bit w.val.toNat 30 = false ∧ bits w.val.toNat 16 2 ≠ 3) ∧ (s.rdA ENG_WIN.SIZE_M1 e.val < bits w.val.toNat 0 16) ∧ (s.engState e.val = 2 ∨ s.engState e.val = 3) ∧ (s.on ENG_REDIR_STAT.PENDING e.val = false) :=
  ⟨9, hw 0x10, (rdy.wr ENG_STAT.STATE 9 3).wrA ENG_WIN.SIZE_M1 9 15, by decide⟩

theorem wit_BranchesAndRedirects_15 : ∃ (e : Fin 512) (w : Wr) (s : State),
    (Accepted s w (pgEng e.val)) ∧ (bit w.val.toNat 30 = false ∧ bits w.val.toNat 16 2 ≠ 3) ∧ (bits w.val.toNat 0 16 ≤ s.rdA ENG_WIN.SIZE_M1 e.val) ∧ ((s.engState e.val ≠ 2 ∧ s.engState e.val ≠ 3) ∨ s.on ENG_REDIR_STAT.PENDING e.val = true) :=
  ⟨9, hw 0x0, rdy, by decide⟩

theorem wit_BranchesAndRedirects_16 : ∃ (e : Fin 512) (w : Wr) (s : State),
    (Accepted s w (pgEng e.val)) ∧ (bit w.val.toNat 31 = false) :=
  ⟨9, hw 0, rdy.modEng 9 fun g => { g with redir := some { target := 1, mode := 0, a := 0 } }, by decide⟩

theorem wit_BranchesAndRedirects_17 : ∃ (e : Fin 512) (p : Pos) (r : Redir) (s : State),
    ((s.eng e.val).redir = some r ∧ r.staged = none) ∧ ((s.eng e.val).fault = none) ∧ ((s.eng e.val).presented s.epoch = some p) ∧ ((s.redirFetch e.val p r (fun _ => true) .clean .clean 0).1 = none) :=
  ⟨0, { lrT := [0] }, { target := 1, mode := 0, a := 0 }, (rdy.setBytesB (0x01000000 + 12) [0, 0, 0, 0x40] |>.setBytesB (0x01000010 + 12) [0, 0, 0, 0x70]).modEng 0 fun g => { g with line := [{ lrT := [0] }], redir := some { target := 1, mode := 0, a := 0 } }, by decide⟩

theorem wit_BranchesAndRedirects_18 : ∃ (e : Fin 512) (p : Pos) (r : Redir) (c : Nat) (j : Nat) (s : State),
    ((s.eng e.val).redir = some r ∧ r.staged = none) ∧ ((s.eng e.val).fault = none) ∧ ((s.eng e.val).presented s.epoch = some p) ∧ ((s.redirFetch e.val p r (fun _ => true) .clean .clean 0).1 = some (c, j)) :=
  ⟨0, { lrT := [0] }, { target := 1, mode := 0, a := 0 }, 4, 1, (rdy.setBytesB (0x01000000 + 12) [0, 0, 0, 0x40] ).modEng 0 fun g => { g with line := [{ lrT := [0] }], redir := some { target := 1, mode := 0, a := 0 } }, by decide⟩

theorem wit_BranchesAndRedirects_19 : ∃ (e : Fin 512) (s : State),
    ((s.eng e.val).redir.all (fun r => r.staged.isSome) = true ∨ (s.eng e.val).fault ≠ none ∨ (s.eng e.val).presented s.epoch = none) :=
  ⟨0, rdy, by decide⟩

theorem wit_BranchesAndRedirects_20 : ∃ (e : Fin 512) (w : Wr) (s : State),
    (Accepted s w (pgEng e.val)) :=
  ⟨9, hw 0, rdy.wr ENG_BIN_CNT.TAKEN 36 5, by decide⟩

theorem wit_BranchesAndRedirects_21 : ∃ (l : Fin 256) (s : State),
    (s.laneState l.val ≠ 2) ∧ (s.carries l.val s.epoch = true) ∧ (s.epoch % s.laneWord l.val = 0) :=
  ⟨7, rdy.wr LANE_STAT.STATE 7 5, by decide +kernel⟩

theorem wit_FireNetwork_1 : ∃ (ev : Event) (r : List Event) (s : State),
    (s.prodq = ev :: r) ∧ (prodPort ev.prod = 0 ∨ (s.port (prodPort ev.prod)).send.length < 32) :=
  ⟨{ prod := 0x3010, st := {} }, [{ prod := 2, st := {} }], rdy.setProdq [{ prod := 0x3010, st := {} }, { prod := 2, st := {} }], by decide⟩

theorem wit_FireNetwork_2 : ∃ (ev : Event) (r : List Event) (s : State),
    (s.prodq = ev :: r) ∧ (prodPort ev.prod ≠ 0 ∧ 32 ≤ (s.port (prodPort ev.prod)).send.length) ∧ ((s.port (prodPort ev.prod)).dropping = false) :=
  ⟨{ prod := 0x3010, st := {} }, [], (rdy.setProdq [{ prod := 0x3010, st := {} }]).modPort (prodPort 0x3010) fun q => { q with send := List.replicate 32 { prod := 0, st := {} } }, by decide⟩

theorem wit_FireNetwork_3 : ∃ (ev : Event) (r : List Event) (s : State),
    (s.prodq = ev :: r) ∧ (prodPort ev.prod ≠ 0 ∧ 32 ≤ (s.port (prodPort ev.prod)).send.length) ∧ ((s.port (prodPort ev.prod)).dropping = true) :=
  ⟨{ prod := 0x3010, st := {} }, [], (rdy.setProdq [{ prod := 0x3010, st := {} }]).modPort (prodPort 0x3010) fun q => { q with send := List.replicate 32 { prod := 0, st := {} }, dropping := true }, by decide⟩

theorem wit_FireNetwork_4 : ∃ (s : State),
    (s.prodq = []) :=
  ⟨rdy, by decide⟩

theorem wit_FireNetwork_5 : ∃ (p : Fin 34) (ev : Event) (r : List Event) (c : Nat) (s : State),
    (s.swq = []) ∧ ((s.port p.val).send = ev :: r) ∧ (ev.gen ≤ s.rd FIRE_GCTRL.GEN_LIMIT 0) ∧ (s.routesOf ev.prod = [c]) ∧ (s.on FIRE_CH.EN c = true ∧ s.rd FIRE_CH.CLASS c ≠ 0 ∧ (s.dom (consDomain (s.rd FIRE_CH.CLASS c) (s.rd FIRE_CH.INDEX c))).st = 0) ∧ ((s.port (consPort (s.rd FIRE_CH.CLASS c) (s.rd FIRE_CH.INDEX c))).held = [] ∧ (s.port (consPort (s.rd FIRE_CH.CLASS c) (s.rd FIRE_CH.INDEX c))).recv.length < 32) :=
  ⟨3, { prod := 0x3010, st := {}, gen := 3 }, [], 9, ((((rdy.wr FIRE_CH.EN 9 1).wr FIRE_CH.CLASS 9 1).wr FIRE_CH.INDEX 9 70).setRoute (2 * 0x3010) 0x80000009).modPort 3 fun q => { q with send := [{ prod := 0x3010, st := {}, gen := 3 }] }, by decide⟩

theorem wit_FireNetwork_6 : ∃ (p : Fin 34) (ev : Event) (r : List Event) (c : Nat) (s : State),
    (s.swq = []) ∧ ((s.port p.val).send = ev :: r) ∧ (ev.gen ≤ s.rd FIRE_GCTRL.GEN_LIMIT 0) ∧ (s.routesOf ev.prod = [c]) ∧ (s.on FIRE_CH.EN c = true ∧ s.rd FIRE_CH.CLASS c ≠ 0 ∧ (s.dom (consDomain (s.rd FIRE_CH.CLASS c) (s.rd FIRE_CH.INDEX c))).st = 0) ∧ ((s.port (consPort (s.rd FIRE_CH.CLASS c) (s.rd FIRE_CH.INDEX c))).held ≠ [] ∨ 32 ≤ (s.port (consPort (s.rd FIRE_CH.CLASS c) (s.rd FIRE_CH.INDEX c))).recv.length) :=
  ⟨3, { prod := 0x3010, st := {}, gen := 3 }, [], 9, (((((rdy.wr FIRE_CH.EN 9 1).wr FIRE_CH.CLASS 9 1).wr FIRE_CH.INDEX 9 70).setRoute (2 * 0x3010) 0x80000009).modPort 3 fun q => { q with send := [{ prod := 0x3010, st := {}, gen := 3 }] }) |>.modPort (consPort 1 70) fun q => { q with held := [{ cls := 1, index := 70, chan := 9, ev := { prod := 7, st := {} } }] }, by decide⟩

theorem wit_FireNetwork_7 : ∃ (p : Fin 34) (ev : Event) (r : List Event) (s : State),
    (s.swq = []) ∧ ((s.port p.val).send = ev :: r) ∧ (s.rd FIRE_GCTRL.GEN_LIMIT 0 < ev.gen) :=
  ⟨3, { prod := 0x3010, st := {}, gen := 4 }, [], rdy.modPort 3 fun q => { q with send := [{ prod := 0x3010, st := {}, gen := 4 }] }, by decide⟩

theorem wit_FireNetwork_8 : ∃ (p : Fin 34) (ev : Event) (r : List Event) (s : State),
    (s.swq = []) ∧ ((s.port p.val).send = ev :: r) ∧ (ev.gen ≤ s.rd FIRE_GCTRL.GEN_LIMIT 0) ∧ (s.routesOf ev.prod = []) :=
  ⟨0, { prod := 5, st := {} }, [], rdy.modPort 0 fun q => { q with send := [{ prod := 5, st := {} }] }, by decide⟩

theorem wit_FireNetwork_9 : ∃ (a : Arrival) (b : Arrival) (s : State),
    (s.swq = [a, b] ∧ a.chan = b.chan) ∧ (s.on FIRE_CH.EN a.chan = true ∧ s.rd FIRE_CH.CLASS a.chan ≠ 0 ∧ (s.dom (consDomain (s.rd FIRE_CH.CLASS a.chan) (s.rd FIRE_CH.INDEX a.chan))).st = 0) ∧ ((s.port (consPort (s.rd FIRE_CH.CLASS a.chan) (s.rd FIRE_CH.INDEX a.chan))).held = [] ∧ (s.port (consPort (s.rd FIRE_CH.CLASS a.chan) (s.rd FIRE_CH.INDEX a.chan))).recv.length < 32) :=
  ⟨{ cls := 0, index := 0, chan := 9, ev := { prod := 0xFFFF, st := {} } }, { cls := 0, index := 0, chan := 9, ev := { prod := 0xFFFF, st := { t := 4 } } }, (((rdy.wr FIRE_CH.EN 9 1).wr FIRE_CH.CLASS 9 1).wr FIRE_CH.INDEX 9 70).setSwq [{ cls := 0, index := 0, chan := 9, ev := { prod := 0xFFFF, st := {} } }, { cls := 0, index := 0, chan := 9, ev := { prod := 0xFFFF, st := { t := 4 } } }], by decide⟩

theorem wit_FireNetwork_10 : ∃ (a : Arrival) (s : State),
    (s.swq = [a]) ∧ (s.on FIRE_CH.EN a.chan = false ∨ s.rd FIRE_CH.CLASS a.chan = 0 ∨ (s.dom (consDomain (s.rd FIRE_CH.CLASS a.chan) (s.rd FIRE_CH.INDEX a.chan))).st ≠ 0) :=
  ⟨{ cls := 0, index := 0, chan := 9, ev := { prod := 0xFFFF, st := {} } }, rdy.setSwq [{ cls := 0, index := 0, chan := 9, ev := { prod := 0xFFFF, st := {} } }], by decide⟩

theorem wit_FireNetwork_11_1 : ∃ (p : Fin 34) (a : Arrival) (ev : Event) (r : List Arrival) (s : State),
    ((s.port p.val).recv = a :: r ∧ (s.port p.val).held = []) ∧ (ev = { a.ev with st := if prodPort a.ev.prod = p.val then a.ev.st else a.ev.st.rebuilt s.epoch }) ∧ (a.cls ≠ 7 ∧ a.cls ≠ 8) :=
  ⟨2, { cls := 1, index := 70, chan := 9, ev := { prod := 0x3010, st := { t := 40 } } }, { prod := 0x3010, st := { t := 40 } }, [], rdy.modPort 2 fun q => { q with recv := [{ cls := 1, index := 70, chan := 9, ev := { prod := 0x3010, st := { t := 40 } } }] }, by decide⟩

theorem wit_FireNetwork_11_2 : ∃ (p : Fin 34) (a : Arrival) (ev : Event) (r : List Arrival) (s : State),
    ((s.port p.val).recv = a :: r ∧ (s.port p.val).held = []) ∧ (ev = { a.ev with st := if prodPort a.ev.prod = p.val then a.ev.st else a.ev.st.rebuilt s.epoch }) ∧ (a.cls ≠ 7 ∧ a.cls ≠ 8) :=
  ⟨2, { cls := 1, index := 70, chan := 9, ev := { prod := 7, st := { t := 40 } } }, { prod := 7, st := { t := 65576 } }, [], { (rdy.modPort 2 fun q => { q with recv := [{ cls := 1, index := 70, chan := 9, ev := { prod := 7, st := { t := 40 } } }] }) with epoch := 65600 }, by decide⟩

theorem wit_FireNetwork_12 : ∃ (p : Fin 34) (a : Arrival) (b : Arrival) (r : List Arrival) (k : List Arrival) (s : State),
    ((s.port p.val).recv = a :: r ∧ (s.port p.val).held = b :: k) ∧ (r.length < 32) :=
  ⟨2, { cls := 1, index := 70, chan := 9, ev := { prod := 7, st := {} } }, { cls := 1, index := 71, chan := 8, ev := { prod := 7, st := {} } }, [], [], rdy.modPort 2 fun q => { q with recv := [{ cls := 1, index := 70, chan := 9, ev := { prod := 7, st := {} } }], held := [{ cls := 1, index := 71, chan := 8, ev := { prod := 7, st := {} } }] }, by decide⟩

theorem wit_FireNetwork_13 : ∃ (p : Fin 34) (s : State),
    ((s.port p.val).recv = []) :=
  ⟨2, rdy, by decide⟩

theorem wit_FireNetwork_14 : ∃ (p : Fin 34) (a : Arrival) (ev : Event) (r : List Arrival) (s : State),
    ((s.port p.val).recv = a :: r ∧ (s.port p.val).held = []) ∧ (ev = { a.ev with st := if prodPort a.ev.prod = p.val then a.ev.st else a.ev.st.rebuilt s.epoch }) ∧ (a.cls = 7) :=
  ⟨0, { cls := 7, index := 70, chan := 9, ev := { prod := 7, st := { t := 3, sub := 2 } } }, { prod := 7, st := { t := 3, sub := 2 } }, [], rdy.modPort 0 fun q => { q with recv := [{ cls := 7, index := 70, chan := 9, ev := { prod := 7, st := { t := 3, sub := 2 } } }] }, by decide⟩

theorem wit_FireNetwork_15 : ∃ (p : Fin 34) (a : Arrival) (ev : Event) (r : List Arrival) (s : State),
    ((s.port p.val).recv = a :: r ∧ (s.port p.val).held = []) ∧ (ev = { a.ev with st := if prodPort a.ev.prod = p.val then a.ev.st else a.ev.st.rebuilt s.epoch }) ∧ (a.cls = 8 ∧ s.on FIRE_OUT_CFG.EN a.index = true) ∧ (s.epoch + 66 ≤ s.due ev ∧ s.epoch ≤ ev.st.t + 0xFFF) :=
  ⟨0, { cls := 8, index := 5, chan := 9, ev := { prod := 7, st := { t := 3 } } }, { prod := 7, st := { t := 3 } }, [], (rdy.wr FIRE_OUT_CFG.EN 5 1).modPort 0 fun q => { q with recv := [{ cls := 8, index := 5, chan := 9, ev := { prod := 7, st := { t := 3 } } }] }, by decide⟩

theorem wit_FireNetwork_16 : ∃ (p : Fin 34) (a : Arrival) (ev : Event) (r : List Arrival) (s : State),
    ((s.port p.val).recv = a :: r ∧ (s.port p.val).held = []) ∧ (ev = { a.ev with st := if prodPort a.ev.prod = p.val then a.ev.st else a.ev.st.rebuilt s.epoch }) ∧ (a.cls = 8 ∧ s.on FIRE_OUT_CFG.EN a.index = true) ∧ (s.due ev - 66 < s.epoch) :=
  ⟨0, { cls := 8, index := 5, chan := 9, ev := { prod := 7, st := { t := 3 } } }, { prod := 7, st := { t := 3 } }, [], { ((rdy.wr FIRE_OUT_CFG.EN 5 1).modPort 0 fun q => { q with recv := [{ cls := 8, index := 5, chan := 9, ev := { prod := 7, st := { t := 3 } } }] }) with epoch := 6000 }, by decide⟩

theorem wit_FireNetwork_17 : ∃ (p : Fin 34) (a : Arrival) (r : List Arrival) (s : State),
    ((s.port p.val).recv = a :: r ∧ (s.port p.val).held = []) ∧ (a.cls = 8 ∧ s.on FIRE_OUT_CFG.EN a.index = false) :=
  ⟨0, { cls := 8, index := 5, chan := 9, ev := { prod := 7, st := { t := 3 } } }, [], rdy.modPort 0 fun q => { q with recv := [{ cls := 8, index := 5, chan := 9, ev := { prod := 7, st := { t := 3 } } }] }, by decide⟩

theorem wit_FireNetwork_18 : ∃ (w : Wr) (s : State),
    (Accepted s w pgFire) :=
  ⟨hw 1023, rdy, by decide⟩

theorem wit_FireNetwork_19 : ∃ (w : Wr) (s : State),
    (Accepted s w pgFire) ∧ (bits w.val.toNat 0 10 + bits w.val.toNat 12 3 ≤ 1023) :=
  ⟨hw 0xFFFF83FF, rdy, by decide⟩

theorem wit_FireNetwork_20 : ∃ (w : Wr) (s : State),
    (Accepted s w pgFire) ∧ (1023 < bits w.val.toNat 0 10 + bits w.val.toNat 12 3) :=
  ⟨hw 0x13FF, rdy, by decide⟩

theorem wit_FireNetwork_21_1 : ∃ (c : Fin 1024) (w : Wr) (s : State),
    (Accepted s w (0x010 + c.val / 128)) ∧ (bits w.val.toNat 0 12 < consRange (bits w.val.toNat 16 4)) :=
  ⟨1023, hw 0x800107FF, rdy, by decide⟩

theorem wit_FireNetwork_21_2 : ∃ (c : Fin 1024) (w : Wr) (s : State),
    (Accepted s w (0x010 + c.val / 128)) ∧ (bits w.val.toNat 0 12 < consRange (bits w.val.toNat 16 4)) :=
  ⟨0, hw 0x0009003F, rdy, by decide⟩

theorem wit_FireNetwork_22 : ∃ (c : Fin 1024) (w : Wr) (s : State),
    (Accepted s w (0x010 + c.val / 128)) ∧ (consRange (bits w.val.toNat 16 4) ≤ bits w.val.toNat 0 12) :=
  ⟨0, hw 0x800A0000, rdy, by decide⟩

theorem wit_FireNetwork_23 : ∃ (s : State),
    (s.on FIRE_ROUTE_STAT.CHECK_BUSY 0 = true) ∧ ((List.range 1024).find? s.onCycle = none) :=
  ⟨rdy.wr FIRE_ROUTE_STAT.CHECK_BUSY 0 1, by decide +kernel⟩

theorem wit_FireNetwork_24 : ∃ (c : Nat) (s : State),
    (s.on FIRE_ROUTE_STAT.CHECK_BUSY 0 = true) ∧ ((List.range 1024).find? s.onCycle = some c) :=
  ⟨3, (((((rdy.wr FIRE_ROUTE_STAT.CHECK_BUSY 0 1).wr FIRE_CH.EN 3 1).wr FIRE_CH.CLASS 3 2).wr FIRE_CH.INDEX 3 7).setRoute (2 * prodId 3 7) 0x80000003), by decide +kernel⟩

theorem wit_FireNetwork_25 : ∃ (s : State),
    (s.on FIRE_ROUTE_STAT.CHECK_BUSY 0 = false) :=
  ⟨rdy, by decide⟩

theorem wit_FireNetwork_26 : ∃ (w : Wr) (s : State),
    (Accepted s w pgFire) :=
  ⟨hw 0, rdy.wr FIRE_PORT_STAT.DROP 33 4, by decide⟩

theorem wit_FireSourcesAndBalls_1 : ∃ (n : Fin 16) (falling : Bool) (s : State),
    (s.on FIRE_IN_CFG.EN n.val = true) ∧ (s.rd FIRE_IN_CFG.EDGE n.val = 2 ∨ s.rd FIRE_IN_CFG.EDGE n.val = flag falling) ∧ ((s.evtb n.val).last = none) :=
  ⟨15, true, (rdy.wr FIRE_IN_CFG.EN 15 1).wr FIRE_IN_CFG.EDGE 15 2, by decide⟩

theorem wit_FireSourcesAndBalls_2 : ∃ (n : Fin 16) (falling : Bool) (sub : Fin 8) (x : Nat) (s : State),
    (s.on FIRE_IN_CFG.EN n.val = true) ∧ (s.rd FIRE_IN_CFG.EDGE n.val = 2 ∨ s.rd FIRE_IN_CFG.EDGE n.val = flag falling) ∧ ((s.evtb n.val).last = some x) ∧ (8 * s.epoch + sub.val < x + 32) :=
  ⟨0, false, 7, 0, (((rdy.wr FIRE_IN_CFG.EN 0 1).modEvtb 0 fun b => { b with last := some 0 }) |> fun s => { s with epoch := 3 }), by decide⟩

theorem wit_FireSourcesAndBalls_3 : ∃ (n : Fin 16) (falling : Bool) (sub : Fin 8) (x : Nat) (s : State),
    (s.on FIRE_IN_CFG.EN n.val = true) ∧ (s.rd FIRE_IN_CFG.EDGE n.val = 2 ∨ s.rd FIRE_IN_CFG.EDGE n.val = flag falling) ∧ ((s.evtb n.val).last = some x) ∧ (x + 32 ≤ 8 * s.epoch + sub.val) :=
  ⟨0, false, 0, 0, (((rdy.wr FIRE_IN_CFG.EN 0 1).modEvtb 0 fun b => { b with last := some 0 }) |> fun s => { s with epoch := 4 }), by decide⟩

theorem wit_FireSourcesAndBalls_4 : ∃ (n : Fin 16) (falling : Bool) (s : State),
    (s.on FIRE_IN_CFG.EN n.val = false ∨ (s.rd FIRE_IN_CFG.EDGE n.val ≠ 2 ∧ s.rd FIRE_IN_CFG.EDGE n.val ≠ flag falling)) :=
  ⟨0, false, rdy, by decide⟩

theorem wit_FireSourcesAndBalls_5 : ∃ (i : Fin 32) (w : Wr) (s : State),
    (Accepted s w pgFire) ∧ (s.on TIMER_CTRL.EN i.val = false) ∧ (s.epoch < s.rd64 TIMER_START_LO.START TIMER_START_HI.START i.val) :=
  ⟨31, hw 1, rdy.wr TIMER_START_HI.START 31 1, by decide⟩

theorem wit_FireSourcesAndBalls_6 : ∃ (i : Fin 32) (w : Wr) (s : State),
    (Accepted s w pgFire) ∧ (s.on TIMER_CTRL.EN i.val = false) ∧ (s.rd64 TIMER_START_LO.START TIMER_START_HI.START i.val ≤ s.epoch) :=
  ⟨0, hw 1, rdy, by decide⟩

theorem wit_FireSourcesAndBalls_7 : ∃ (i : Fin 32) (w : Wr) (s : State),
    (Accepted s w pgFire) ∧ (s.epoch < s.timer i.val ∨ s.on TIMER_CTRL.EN i.val = false) :=
  ⟨0, hw 0, (rdy.wr TIMER_CTRL.EN 0 1).setTimer 0 5, by decide⟩

theorem wit_FireSourcesAndBalls_8 : ∃ (i : Fin 32) (w : Wr) (s : State),
    (Accepted s w pgFire) ∧ (s.on TIMER_CTRL.EN i.val = true) :=
  ⟨0, hw 1, rdy.wr TIMER_CTRL.EN 0 1, by decide⟩

theorem wit_FireSourcesAndBalls_9 : ∃ (i : Fin 32) (w : Wr) (s : State),
    (Accepted s w pgFire) ∧ (s.on TIMER_CTRL.EN i.val = true ∧ s.timer i.val ≤ s.epoch) :=
  ⟨0, hw 0, rdy.wr TIMER_CTRL.EN 0 1, by decide⟩

theorem wit_FireSourcesAndBalls_10 : ∃ (i : Fin 32) (s : State),
    (s.on TIMER_CTRL.EN i.val = true ∧ s.timer i.val ≤ s.epoch) :=
  ⟨7, (rdy.wr TIMER_CTRL.EN 7 1).wr TIMER_COUNT.COUNT 7 1, by decide⟩

theorem wit_FireSourcesAndBalls_11 : ∃ (i : Fin 32) (s : State),
    (s.epoch < s.timer i.val ∨ s.on TIMER_CTRL.EN i.val = false) :=
  ⟨7, (rdy.wr TIMER_CTRL.EN 7 1).setTimer 7 1, by decide⟩

theorem wit_FireSourcesAndBalls_12 : ∃ (k : Fin 64) (w : Wr) (s : State),
    (Accepted s w pgFire) ∧ (s.on SCHED_CTRL.ARM k.val = false) ∧ (s.epoch < s.rd64 SCHED_AT_LO.AT SCHED_AT_HI.AT k.val) :=
  ⟨63, hw 3, (rdy.wr SCHED_AT_LO.AT 63 1).wr SCHED_CTRL.FIRED 63 1, by decide⟩

theorem wit_FireSourcesAndBalls_13 : ∃ (k : Fin 64) (w : Wr) (s : State),
    (Accepted s w pgFire) ∧ (s.on SCHED_CTRL.ARM k.val = false) ∧ (s.rd64 SCHED_AT_LO.AT SCHED_AT_HI.AT k.val ≤ s.epoch) :=
  ⟨63, hw 3, rdy, by decide⟩

theorem wit_FireSourcesAndBalls_14 : ∃ (k : Fin 64) (w : Wr) (s : State),
    (Accepted s w pgFire) ∧ (s.epoch < s.rd64 SCHED_AT_LO.AT SCHED_AT_HI.AT k.val ∨ s.on SCHED_CTRL.ARM k.val = false) :=
  ⟨0, hw 0, (rdy.wr SCHED_AT_LO.AT 0 1).wr SCHED_CTRL.ARM 0 1, by decide⟩

theorem wit_FireSourcesAndBalls_15 : ∃ (k : Fin 64) (w : Wr) (s : State),
    (Accepted s w pgFire) ∧ (s.on SCHED_CTRL.ARM k.val = true ∧ s.rd64 SCHED_AT_LO.AT SCHED_AT_HI.AT k.val ≤ s.epoch) :=
  ⟨0, hw 2, rdy.wr SCHED_CTRL.ARM 0 1, by decide⟩

theorem wit_FireSourcesAndBalls_16 : ∃ (k : Fin 64) (w : Wr) (s : State),
    (Accepted s w pgFire) ∧ (s.on SCHED_CTRL.ARM k.val = true) :=
  ⟨0, hw 3, (rdy.wr SCHED_CTRL.ARM 0 1).wr SCHED_CTRL.FIRED 0 1, by decide⟩

theorem wit_FireSourcesAndBalls_17 : ∃ (k : Fin 64) (s : State),
    (s.on SCHED_CTRL.ARM k.val = true ∧ s.rd64 SCHED_AT_LO.AT SCHED_AT_HI.AT k.val ≤ s.epoch) :=
  ⟨0, rdy.wr SCHED_CTRL.ARM 0 1, by decide⟩

theorem wit_FireSourcesAndBalls_18 : ∃ (k : Fin 64) (s : State),
    (s.epoch < s.rd64 SCHED_AT_LO.AT SCHED_AT_HI.AT k.val ∨ s.on SCHED_CTRL.ARM k.val = false) :=
  ⟨0, (rdy.wr SCHED_CTRL.ARM 0 1).wr SCHED_AT_LO.AT 0 1, by decide⟩

theorem wit_FireSourcesAndBalls_19 : ∃ (w : Wr) (s : State),
    (Accepted s w pgFire) ∧ (bits w.val.toNat 16 2 ≤ 1 ∧ bits w.val.toNat 0 8 ≠ 0) :=
  ⟨hw 0x80010101, rdy, by decide⟩

theorem wit_FireSourcesAndBalls_20 : ∃ (w : Wr) (s : State),
    (Accepted s w pgFire) ∧ (1 < bits w.val.toNat 16 2 ∨ bits w.val.toNat 0 8 = 0) :=
  ⟨hw 0x80020101, rdy, by decide⟩

theorem wit_FireSourcesAndBalls_21 : ∃ (n : Fin 16) (s : State),
    ((s.evtb n.val).dues.any (· ≤ s.epoch) = false) :=
  ⟨3, rdy.modEvtb 3 fun b => { b with dues := [5] }, by decide⟩

theorem wit_FireSourcesAndBalls_22 : ∃ (n : Fin 16) (s : State),
    ((s.evtb n.val).dues.any (· ≤ s.epoch) = true) ∧ (s.on FIRE_OUT_CFG.EN n.val = false) :=
  ⟨3, rdy.modEvtb 3 fun b => { b with dues := [0, 5] }, by decide⟩

theorem wit_FireSourcesAndBalls_23 : ∃ (n : Fin 16) (s : State),
    ((s.evtb n.val).stop.all (fun x => decide (s.epoch < x)) = true) :=
  ⟨3, rdy.modEvtb 3 fun b => { b with stop := some 1 }, by decide⟩

theorem wit_FireSourcesAndBalls_24 : ∃ (n : Fin 16) (s : State),
    ((s.evtb n.val).dues.any (· ≤ s.epoch) = true) ∧ (s.on FIRE_OUT_CFG.EN n.val = true ∧ s.rd FIRE_OUT_CFG.MODE n.val = 0) :=
  ⟨3, (rdy.wr FIRE_OUT_CFG.EN 3 1).modEvtb 3 fun b => { b with dues := [0, 5] }, by decide⟩

theorem wit_FireSourcesAndBalls_25 : ∃ (n : Fin 16) (s : State),
    ((s.evtb n.val).dues.any (· ≤ s.epoch) = true) ∧ (s.on FIRE_OUT_CFG.EN n.val = true ∧ s.rd FIRE_OUT_CFG.MODE n.val ≠ 0) :=
  ⟨3, ((rdy.wr FIRE_OUT_CFG.EN 3 1).wr FIRE_OUT_CFG.MODE 3 1).modEvtb 3 fun b => { b with dues := [0, 5] }, by decide⟩

theorem wit_FireSourcesAndBalls_26 : ∃ (n : Fin 16) (x : Nat) (s : State),
    ((s.evtb n.val).stop = some x ∧ x ≤ s.epoch) :=
  ⟨3, 0, (rdy.modEvtb 3 fun b => { b with stop := some 0 }).setPin 19 1, by decide⟩

theorem wit_FireSourcesAndBalls_27 : ∃ (k : Fin 64) (a : Arrival) (s : State),
    (s.arrivals.filter (fun a => a.cls == 9 && a.index == k.val) = [a]) ∧ (s.farPort false = false ∧ s.farPort true = false) :=
  ⟨63, { cls := 9, index := 63, ev := { prod := 1, st := {}, gen := 15 } }, rdy.setArrivals [{ cls := 9, index := 63, ev := { prod := 1, st := {}, gen := 15 } }], by decide⟩

theorem wit_FireSourcesAndBalls_28 : ∃ (down : Bool) (stamp : Word) (x : Nat) (s : State),
    (s.portUsed down = true) ∧ (s.farPort (!down) = false) ∧ (s.fullStamp stamp.toNat = some x) :=
  ⟨false, 0xFFFFFFFF, 0xFFFFFFFF, { upSvc with epoch := 0x100000004 }, by decide⟩

theorem wit_FireSourcesAndBalls_29 : ∃ (down : Bool) (s : State),
    (s.portUsed down = false) :=
  ⟨true, upSvc, by decide⟩

theorem wit_PatternGenerators_1_1 : ∃ (a : Fin 128) (w : Wr) (s : State),
    (Accepted s w (pgApg a.val)) ∧ (bits w.val.toNat 16 1 = 0 ∨ bits w.val.toNat 0 7 ≤ 63) :=
  ⟨127, hw 0x7F, rdy, by decide⟩

theorem wit_PatternGenerators_1_2 : ∃ (a : Fin 128) (w : Wr) (s : State),
    (Accepted s w (pgApg a.val)) ∧ (bits w.val.toNat 16 1 = 0 ∨ bits w.val.toNat 0 7 ≤ 63) :=
  ⟨127, hw 0x1003F, rdy.modApg 127 fun u => { u with user := [(63, 5)] }, by decide⟩

theorem wit_PatternGenerators_2 : ∃ (a : Fin 128) (w : Wr) (s : State),
    (Accepted s w (pgApg a.val)) ∧ (bits w.val.toNat 16 1 = 1 ∧ 63 < bits w.val.toNat 0 7) :=
  ⟨127, hw 0x10040, rdy, by decide⟩

theorem wit_PatternGenerators_3 : ∃ (a : Fin 128) (w : Wr) (s : State),
    (Accepted s w (pgApg a.val)) ∧ (s.engBusy (s.apgOwner a.val) = false) ∧ (s.on APG_IDX.TAB a.val = false) ∧ (elemBad (s.rd APG_DATA0.D a.val) w.val.toNat = true) :=
  ⟨5, hw 0, rdy.wr APG_DATA0.D 5 0xC0000000, by decide⟩

theorem wit_PatternGenerators_4_1 : ∃ (a : Fin 128) (w : Wr) (s : State),
    (Accepted s w (pgApg a.val)) ∧ (s.engBusy (s.apgOwner a.val) = false) ∧ (s.on APG_IDX.TAB a.val = false) ∧ (elemBad (s.rd APG_DATA0.D a.val) w.val.toNat = false) :=
  ⟨5, hw 0, (rdy.wr APG_DATA0.D 5 0x80000003).wr APG_IDX.INDEX 5 127, by decide⟩

theorem wit_PatternGenerators_4_2 : ∃ (a : Fin 128) (w : Wr) (s : State),
    (Accepted s w (pgApg a.val)) ∧ (s.engBusy (s.apgOwner a.val) = false) ∧ (s.on APG_IDX.TAB a.val = false) ∧ (elemBad (s.rd APG_DATA0.D a.val) w.val.toNat = false) :=
  ⟨5, hw 0x10, rdy.wr APG_DATA0.D 5 0x01000000, by decide⟩

theorem wit_PatternGenerators_5 : ∃ (a : Fin 128) (w : Wr) (s : State),
    (Accepted s w (pgApg a.val)) ∧ (s.engBusy (s.apgOwner a.val) = false) ∧ (s.on APG_IDX.TAB a.val = true) :=
  ⟨5, hw 0, ((rdy.wr APG_IDX.TAB 5 1).wr APG_DATA0.D 5 0x18001).wr APG_IDX.INDEX 5 63, by decide⟩

theorem wit_PatternGenerators_6 : ∃ (a : Fin 128) (w : Wr) (s : State),
    (Accepted s w (pgApg a.val)) ∧ (s.engBusy (s.apgOwner a.val) = true) ∧ (s.on APG_IDX.TAB a.val = true ∨ elemBad (s.rd APG_DATA0.D a.val) w.val.toNat = false) :=
  ⟨5, hw 0, (rdy.wr APG_IDX.TAB 5 1).wr ENG_STAT.STATE 16 3, by decide⟩

theorem wit_PatternGenerators_7 : ∃ (a : Fin 128) (x : Arrival) (s : State),
    (s.arrivals.filter (fun x => x.cls == 3 && x.index == a.val) = [x]) ∧ ((s.apg a.val).adv = none) ∧ (s.epoch ≤ (s.engDPFrom (s.apgOwner a.val)) (s.due x.ev) - 76) :=
  ⟨127, { cls := 3, index := 127, ev := { prod := 9, st := { t := 2 }, gen := 1 } }, rdy.setArrivals [{ cls := 3, index := 127, ev := { prod := 9, st := { t := 2 }, gen := 1 } }], by decide⟩

theorem wit_PatternGenerators_8 : ∃ (a : Fin 128) (x : Arrival) (q : Pend) (s : State),
    (s.arrivals.filter (fun x => x.cls == 3 && x.index == a.val) = [x]) ∧ ((s.apg a.val).adv = some q) ∧ (s.epoch ≤ (s.engDPFrom (s.apgOwner a.val)) (s.due x.ev) - 76) :=
  ⟨127, { cls := 3, index := 127, ev := { prod := 9, st := { t := 2 }, gen := 1 } }, { due := 3, stamp := 1 }, (rdy.setArrivals [{ cls := 3, index := 127, ev := { prod := 9, st := { t := 2 }, gen := 1 } }]).modApg 127 fun u => { u with adv := some { due := 3, stamp := 1 } }, by decide⟩

theorem wit_PatternGenerators_9 : ∃ (a : Fin 128) (x : Arrival) (s : State),
    (s.arrivals.filter (fun x => x.cls == 3 && x.index == a.val) = [x]) ∧ ((s.engDPFrom (s.apgOwner a.val)) (s.due x.ev) - 76 < s.epoch) ∧ ((s.engDPFrom (s.apgOwner a.val)) (s.epoch + 76) ≠ 0) :=
  ⟨127, { cls := 3, index := 127, ev := { prod := 9, st := { t := 2 }, gen := 1 } }, { rdy.setArrivals [{ cls := 3, index := 127, ev := { prod := 9, st := { t := 2 }, gen := 1 } }] with epoch := 5000 }, by decide⟩

theorem wit_DirectoryScrubberWindows_1 : ∃ (f : Fin 32) (w : Wr) (s : State),
    (Accepted s w (pgSeg f.val)) ∧ (s.on SEG_DIR_STAT.BUSY f.val = false) :=
  ⟨31, hw 0, rdy.wr SEG_DIR_IDX.INDEX 31 8191, by decide⟩

theorem wit_DirectoryScrubberWindows_2 : ∃ (f : Fin 32) (w : Wr) (s : State),
    (Accepted s w (pgSeg f.val)) ∧ (s.on SEG_DIR_STAT.BUSY f.val = false) ∧ ((s.dirRegs f.val).bad = false) ∧ (s.segInUse f.val (s.rd SEG_DIR_IDX.INDEX f.val) = false) ∧ ((s.dirRegs f.val).resident = false ∨ s.meetsWindow f.val (s.dirRegs f.val).base (s.dirRegs f.val).length 32 = false) :=
  ⟨0, hw 0, (((rdy.modEng 5 fun g => { g with used := [0] }).wr ENG_STAT.PROG_OK 5 1).wr SEG_DIR_W1.W 0 0xC0000002).wr SEG_DIR_W2.W 0 0x10, by decide⟩

theorem wit_DirectoryScrubberWindows_3 : ∃ (f : Fin 32) (w : Wr) (s : State),
    (Accepted s w (pgSeg f.val)) ∧ (s.on SEG_DIR_STAT.BUSY f.val = false) ∧ ((s.dirRegs f.val).bad = true) :=
  ⟨0, hw 0, rdy, by decide⟩

theorem wit_DirectoryScrubberWindows_4 : ∃ (f : Fin 32) (w : Wr) (s : State),
    (Accepted s w (pgSeg f.val)) ∧ (s.on SEG_DIR_STAT.BUSY f.val = false) ∧ ((s.dirEnt f.val (s.rd SEG_DIR_IDX.INDEX f.val)).resident = true) ∧ (s.segInUse f.val (s.rd SEG_DIR_IDX.INDEX f.val) = false) :=
  ⟨0, hw 0, rdy.setDirEnt 0 0 { w1 := 0x80000001 }, by decide⟩

theorem wit_DirectoryScrubberWindows_5 : ∃ (f : Fin 32) (w : Wr) (s : State),
    (Accepted s w (pgSeg f.val)) ∧ (s.on SEG_DIR_STAT.BUSY f.val = false) ∧ (s.segInUse f.val (s.rd SEG_DIR_IDX.INDEX f.val) = false) :=
  ⟨0, hw 0, ((rdy.modEng 5 fun g => { g with used := [0] }).wr ENG_STAT.PROG_OK 5 1).setDirEnt 0 0 { w1 := 0xC0000001 }, by decide⟩

theorem wit_DirectoryScrubberWindows_6 : ∃ (f : Fin 32) (w : Wr) (s : State),
    (Accepted s w (pgSeg f.val)) ∧ (s.on SEG_DIR_STAT.BUSY f.val = false) ∧ (s.segInUse f.val (s.rd SEG_DIR_IDX.INDEX f.val) = true) :=
  ⟨0, hw 0, ((rdy.modEng 5 fun g => { g with used := [0] }).wr ENG_STAT.PROG_OK 5 1).wr ENG_STAT.STATE 5 3, by decide⟩

theorem wit_DirectoryScrubberWindows_7 : ∃ (f : Fin 32) (w : Wr) (s : State),
    (Accepted s w (pgSeg f.val)) ∧ (s.on SEG_DIR_STAT.BUSY f.val = true) :=
  ⟨0, hw 0, rdy.wr SEG_DIR_STAT.BUSY 0 1, by decide⟩

theorem wit_DirectoryScrubberWindows_8 : ∃ (f : Fin 32) (w : Wr) (s : State),
    (Accepted s w (pgSeg f.val)) ∧ (s.on SEG_DIR_STAT.BUSY f.val = false) ∧ ((s.dirEnt f.val (s.rd SEG_DIR_IDX.INDEX f.val)).resident = false) ∧ (s.segInUse f.val (s.rd SEG_DIR_IDX.INDEX f.val) = false) :=
  ⟨0, hw 0, rdy, by decide⟩

theorem wit_DirectoryScrubberWindows_9 : ∃ (f : Fin 32) (w : Wr) (s : State),
    (Accepted s w (pgSeg f.val)) ∧ (s.on SEG_DIR_STAT.BUSY f.val = false) ∧ ((s.dirEnt f.val (s.rd SEG_DIR_IDX.INDEX f.val)).resident = true) ∧ (s.segInUse f.val (s.rd SEG_DIR_IDX.INDEX f.val) = true) :=
  ⟨0, hw 0, ((rdy.modEng 5 fun g => { g with used := [0] }).wr ENG_STAT.STATE 5 3).setDirEnt 0 0 { w1 := 0x80000001 }, by decide⟩

theorem wit_DirectoryScrubberWindows_10 : ∃ (f : Fin 32) (k : Nat) (n : Nat) (s : State),
    ((s.store f.val).cmd = some (k, n) ∧ k ≠ 1 ∧ k ≠ 3) :=
  ⟨3, 2, 7, rdy.modStore 3 fun x => { x with cmd := some (2, 7), closer := some 5 }, by decide⟩

theorem wit_DirectoryScrubberWindows_11 : ∃ (f : Fin 32) (n : Nat) (s : State),
    ((s.store f.val).cmd = some (1, n)) ∧ ((s.store f.val).closer = none) :=
  ⟨3, 7, (rdy.setDirEnt 3 7 { w0 := 5, w1 := 0x80000001, w2 := 9 }).modStore 3 fun x => { x with cmd := some (1, 7) }, by decide⟩

theorem wit_DirectoryScrubberWindows_12_1 : ∃ (f : Fin 32) (errs : List (Nat × Ecc)) (n : Nat) (s : State),
    ((s.store f.val).cmd = some (3, n)) ∧ ((s.store f.val).closer = none) ∧ ((s.linesEcc f.val (2 * (s.dirEnt f.val n).base) (2 * ((s.dirEnt f.val n).base + (s.dirEnt f.val n).length)) errs).any (fun x => x.2 == .uncorrectable) = false) :=
  ⟨3, [], 7, (rdy.setDirEnt 3 7 { w0 := 5, w1 := 0x80000001, w2 := 9 }).modStore 3 fun x => { x with cmd := some (3, 7) }, by decide⟩

theorem wit_DirectoryScrubberWindows_12_2 : ∃ (f : Fin 32) (errs : List (Nat × Ecc)) (n : Nat) (s : State),
    ((s.store f.val).cmd = some (3, n)) ∧ ((s.store f.val).closer = none) ∧ ((s.linesEcc f.val (2 * (s.dirEnt f.val n).base) (2 * ((s.dirEnt f.val n).base + (s.dirEnt f.val n).length)) errs).any (fun x => x.2 == .uncorrectable) = false) :=
  ⟨3, [(19, .corrected)], 7, (rdy.setDirEnt 3 7 { w0 := 5, w1 := 0x80000001, w2 := 9 }).modStore 3 fun x => { x with cmd := some (3, 7) }, by decide⟩

theorem wit_DirectoryScrubberWindows_13_1 : ∃ (f : Fin 32) (errs : List (Nat × Ecc)) (n : Nat) (s : State),
    ((s.store f.val).cmd = some (3, n)) ∧ ((s.store f.val).closer = none) ∧ ((s.linesEcc f.val (2 * (s.dirEnt f.val n).base) (2 * ((s.dirEnt f.val n).base + (s.dirEnt f.val n).length)) errs).any (fun x => x.2 == .uncorrectable) = true) :=
  ⟨3, [(19, .uncorrectable)], 7, (rdy.setDirEnt 3 7 { w0 := 5, w1 := 0x80000001, w2 := 9 }).modStore 3 fun x => { x with cmd := some (3, 7) }, by decide⟩

theorem wit_DirectoryScrubberWindows_13_2 : ∃ (f : Fin 32) (errs : List (Nat × Ecc)) (n : Nat) (s : State),
    ((s.store f.val).cmd = some (3, n)) ∧ ((s.store f.val).closer = none) ∧ ((s.linesEcc f.val (2 * (s.dirEnt f.val n).base) (2 * ((s.dirEnt f.val n).base + (s.dirEnt f.val n).length)) errs).any (fun x => x.2 == .uncorrectable) = true) :=
  ⟨3, [], 7, (rdy.setDirEnt 3 7 { w0 := 5, w1 := 0x80000001, w2 := 9 }).modStore 3 fun x => { x with cmd := some (3, 7), errs := [(18, true)] }, by decide⟩

theorem wit_DirectoryScrubberWindows_14 : ∃ (f : Fin 32) (s : State),
    ((s.store f.val).cmd = none) :=
  ⟨3, rdy, by decide⟩

theorem wit_DirectoryScrubberWindows_15 : ∃ (f : Fin 32) (ecc : Ecc) (s : State),
    (s.on SEG_SCRUB.EN f.val = true ∧ s.domOn f.val = true) ∧ (s.lineEcc f.val (s.store f.val).scrub ecc = .clean) :=
  ⟨1, .clean, (rdy.wr SEG_SCRUB.EN 1 1).modStore 1 fun x => { x with scrub := 262143 }, by decide⟩

theorem wit_DirectoryScrubberWindows_16_1 : ∃ (f : Fin 32) (ecc : Ecc) (s : State),
    (s.on SEG_SCRUB.EN f.val = true ∧ s.domOn f.val = true) ∧ (s.lineEcc f.val (s.store f.val).scrub ecc = .corrected) :=
  ⟨1, .clean, (rdy.wr SEG_SCRUB.EN 1 1).modStore 1 fun x => { x with scrub := 5, errs := [(7, false), (5, false)] }, by decide⟩

theorem wit_DirectoryScrubberWindows_16_2 : ∃ (f : Fin 32) (ecc : Ecc) (s : State),
    (s.on SEG_SCRUB.EN f.val = true ∧ s.domOn f.val = true) ∧ (s.lineEcc f.val (s.store f.val).scrub ecc = .corrected) :=
  ⟨1, .corrected, rdy.wr SEG_SCRUB.EN 1 1, by decide⟩

theorem wit_DirectoryScrubberWindows_17 : ∃ (f : Fin 32) (ecc : Ecc) (s : State),
    (s.on SEG_SCRUB.EN f.val = true ∧ s.domOn f.val = true) ∧ (s.lineEcc f.val (s.store f.val).scrub ecc = .corrected) :=
  ⟨1, .corrected, rdy.wr SEG_SCRUB.EN 1 1, by decide⟩

theorem wit_DirectoryScrubberWindows_18 : ∃ (f : Fin 32) (ecc : Ecc) (s : State),
    (s.on SEG_SCRUB.EN f.val = true ∧ s.domOn f.val = true) ∧ (s.lineEcc f.val (s.store f.val).scrub ecc = .uncorrectable) :=
  ⟨1, .uncorrectable, rdy.wr SEG_SCRUB.EN 1 1, by decide⟩

theorem wit_DirectoryScrubberWindows_19 : ∃ (f : Fin 32) (s : State),
    (s.on SEG_SCRUB.EN f.val = false ∨ s.domOn f.val = false) :=
  ⟨1, rdy.wr SEG_SCRUB.EN 1 0, by decide⟩

theorem wit_DirectoryScrubberWindows_20 : ∃ (f : Fin 32) (k : Fin 32) (w : Wr) (s : State),
    (Accepted s w (pgSeg f.val)) ∧ (s.on WIN_CFG.EN (winId f.val k.val) = false) ∧ (s.marksBad (winId f.val k.val) = false) ∧ ((bits w.val.toNat 0 17) + (s.rd WIN_SIZE.SIZE (winId f.val k.val)) ≤ 131072) ∧ (s.meetsWindow f.val (bits w.val.toNat 0 17) (s.rd WIN_SIZE.SIZE (winId f.val k.val)) k.val = false ∧ s.meetsEntry f.val (bits w.val.toNat 0 17) (s.rd WIN_SIZE.SIZE (winId f.val k.val)) = false) :=
  ⟨1, 1, hw 0x0501FFC0, ((rdy.wr WIN_SIZE.SIZE 33 64).wr WIN_MARKS.HIGH_MARK 33 32).wr WIN_RESUME.RESUME_MARK 33 1, by decide⟩

theorem wit_DirectoryScrubberWindows_21_1 : ∃ (f : Fin 32) (k : Fin 32) (w : Wr) (s : State),
    (Accepted s w (pgSeg f.val)) ∧ (s.on WIN_CFG.EN (winId f.val k.val) = false) ∧ (s.marksBad (winId f.val k.val) = true ∨ 131072 < (bits w.val.toNat 0 17) + (s.rd WIN_SIZE.SIZE (winId f.val k.val))) :=
  ⟨0, 0, hw 0, rdy.wr WIN_MARKS.LOW_MARK 0 16, by decide⟩

theorem wit_DirectoryScrubberWindows_21_2 : ∃ (f : Fin 32) (k : Fin 32) (w : Wr) (s : State),
    (Accepted s w (pgSeg f.val)) ∧ (s.on WIN_CFG.EN (winId f.val k.val) = false) ∧ (s.marksBad (winId f.val k.val) = true ∨ 131072 < (bits w.val.toNat 0 17) + (s.rd WIN_SIZE.SIZE (winId f.val k.val))) :=
  ⟨1, 1, hw 0x0501FFC1, ((rdy.wr WIN_SIZE.SIZE 33 64).wr WIN_MARKS.HIGH_MARK 33 32).wr WIN_RESUME.RESUME_MARK 33 1, by decide⟩

theorem wit_DirectoryScrubberWindows_22 : ∃ (f : Fin 32) (k : Fin 32) (w : Wr) (s : State),
    (Accepted s w (pgSeg f.val)) ∧ (s.on WIN_CFG.EN (winId f.val k.val) = true) ∧ (bits w.val.toNat 24 4 = s.rd WIN_CFG.OWNER (winId f.val k.val) ∧ (bits w.val.toNat 0 17) = s.rd WIN_CFG.BASE (winId f.val k.val)) ∧ (s.engBusy (s.winOwner f.val k.val) = false) :=
  ⟨1, 1, hw 0, rdy.wr WIN_CFG.EN 33 1, by decide⟩

theorem wit_DirectoryScrubberWindows_23 : ∃ (f : Fin 32) (k : Fin 32) (w : Wr) (s : State),
    (Accepted s w (pgSeg f.val)) ∧ (s.on WIN_CFG.EN (winId f.val k.val) = true) ∧ (s.engBusy (s.winOwner f.val k.val) = true) :=
  ⟨1, 1, hw 0, (rdy.wr WIN_CFG.EN 33 1).wr ENG_STAT.STATE 16 3, by decide⟩

theorem wit_DirectoryScrubberWindows_24 : ∃ (f : Fin 32) (k : Fin 32) (s : State),
    ((s.win (winId f.val k.val)).initFrom.isSome = true) :=
  ⟨1, 1, (rdy.wr WIN_SIZE.SIZE 33 2).modWin 33 fun u => { u with initFrom := some 4 }, by decide⟩

theorem wit_DirectoryScrubberWindows_25 : ∃ (f : Fin 32) (k : Fin 32) (s : State),
    ((s.win (winId f.val k.val)).initFrom = none) :=
  ⟨1, 1, rdy, by decide⟩

theorem wit_DirectoryScrubberWindows_26 : ∃ (f : Fin 32) (w : Wr) (s : State),
    (Accepted s w (pgSeg f.val)) :=
  ⟨31, hw 0, rdy.wr SEG_SHIFT.SHIFT 511 5, by decide⟩

theorem wit_DoubleBankedTables_1_1 : ∃ (b : Fin 392) (w : Wr) (s : State),
    (Accepted s w (tabPage b.val)) ∧ (s.shadowLocked (tabPage b.val) = false) ∧ (bit w.val.toNat 2 = false) ∧ (s.tabOpen b.val = true) :=
  ⟨3, hw 1, rdy, by decide⟩

theorem wit_DoubleBankedTables_1_2 : ∃ (b : Fin 392) (w : Wr) (s : State),
    (Accepted s w (tabPage b.val)) ∧ (s.shadowLocked (tabPage b.val) = false) ∧ (bit w.val.toNat 2 = false) ∧ (s.tabOpen b.val = true) :=
  ⟨200, hw 1, rdy, by decide⟩

theorem wit_DoubleBankedTables_1_3 : ∃ (b : Fin 392) (w : Wr) (s : State),
    (Accepted s w (tabPage b.val)) ∧ (s.shadowLocked (tabPage b.val) = false) ∧ (bit w.val.toNat 2 = false) ∧ (s.tabOpen b.val = true) :=
  ⟨391, hw 1, rdy, by decide⟩

theorem wit_DoubleBankedTables_2 : ∃ (b : Fin 392) (w : Wr) (s : State),
    (Accepted s w (tabPage b.val)) ∧ (s.shadowLocked (tabPage b.val) = false) ∧ (bit w.val.toNat 2 = false) ∧ (s.tabOpen b.val = false) :=
  ⟨3, hw 1, rdy.wr APG_BANK.BANK_STATE 3 2, by decide⟩

theorem wit_DoubleBankedTables_3_1 : ∃ (b : Fin 392) (w : Wr) (s : State),
    (Accepted s w (tabPage b.val)) ∧ (s.shadowLocked (tabPage b.val) = false) ∧ (bit w.val.toNat 1 = false) :=
  ⟨3, hw 1, rdy, by decide⟩

theorem wit_DoubleBankedTables_3_2 : ∃ (b : Fin 392) (w : Wr) (s : State),
    (Accepted s w (tabPage b.val)) ∧ (s.shadowLocked (tabPage b.val) = false) ∧ (bit w.val.toNat 1 = false) :=
  ⟨200, hw 1, rdy, by decide⟩

theorem wit_DoubleBankedTables_3_3 : ∃ (b : Fin 392) (w : Wr) (s : State),
    (Accepted s w (tabPage b.val)) ∧ (s.shadowLocked (tabPage b.val) = false) ∧ (bit w.val.toNat 1 = false) :=
  ⟨391, hw 1, rdy, by decide⟩

theorem wit_DoubleBankedTables_4 : ∃ (b : Fin 392) (s : State),
    (s.rd (tabRegs b.val).state (tabRegs b.val).i = 1) :=
  ⟨200, rdy.wr LANE_COMP_CTL.BANK_STATE 72 1, by decide⟩

theorem wit_DoubleBankedTables_5 : ∃ (b : Fin 392) (s : State),
    (s.rd (tabRegs b.val).state (tabRegs b.val).i ≠ 1) :=
  ⟨200, rdy, by decide⟩

theorem wit_DoubleBankedTables_6 : ∃ (b : Fin 392) (a : Nat) (s : State),
    ((s.tab b.val).reopenAt = some a ∧ a ≤ s.epoch) :=
  ⟨385, 0, (rdy.wr PT_BANK.BANK_STATE 1 2).modTab 385 fun x => { x with reopenAt := some 0, okSince := some 0 }, by decide⟩

theorem wit_DoubleBankedTables_7 : ∃ (b : Fin 392) (s : State),
    ((s.tab b.val).reopenAt.all (fun a => decide (s.epoch < a)) = true) :=
  ⟨385, rdy.modTab 385 fun x => { x with reopenAt := some 1 }, by decide⟩

theorem wit_DoubleBankedTables_8_1 : ∃ (b : Fin 392) (lead : Nat) (o : Nat) (g : Nat) (s : State),
    (s.tabGrid b.val = (lead, o, g)) ∧ ((s.tab b.val).reqs.all (fun r => decide (s.epoch < r.1)) = true) ∧ ((s.tab b.val).commitFrom.all (fun d => decide (s.epoch < d)) = true ∨ ((s.tab b.val).told = true ∧ (s.tab b.val).closedAt (s.epoch - lead) = false)) :=
  ⟨384, 1024, 0, 16, rdy.modTab 384 fun x => { x with reqs := [(1040, 3)] }, by decide⟩

theorem wit_DoubleBankedTables_8_2 : ∃ (b : Fin 392) (lead : Nat) (o : Nat) (g : Nat) (s : State),
    (s.tabGrid b.val = (lead, o, g)) ∧ ((s.tab b.val).reqs.all (fun r => decide (s.epoch < r.1)) = true) ∧ ((s.tab b.val).commitFrom.all (fun d => decide (s.epoch < d)) = true ∨ ((s.tab b.val).told = true ∧ (s.tab b.val).closedAt (s.epoch - lead) = false)) :=
  ⟨130, 1024, 0, 16, { (rdy.modTab 130 fun x => { x with commitFrom := some 5, told := true }) with epoch := 2048 }, by decide⟩

theorem wit_DoubleBankedTables_9 : ∃ (b : Fin 392) (lead : Nat) (o : Nat) (g : Nat) (d : Nat) (s : State),
    (s.tabGrid b.val = (lead, o, g)) ∧ ((s.tab b.val).reqs = [] ∧ (s.tab b.val).commitFrom = some d ∧ d ≤ s.epoch) ∧ (o ≤ s.epoch ∧ (s.epoch - o) % max 1 g = 0) ∧ ((s.tab b.val).closedAt (s.epoch - lead) = true) :=
  ⟨130, 1024, 0, 16, 5, { (rdy.modTab 130 fun x => { x with okSince := some 0, commitFrom := some 5 }) with epoch := 2048 }, by decide⟩

theorem wit_DoubleBankedTables_10_1 : ∃ (b : Fin 392) (lead : Nat) (o : Nat) (g : Nat) (d : Nat) (e : Nat) (s : State),
    (s.tabGrid b.val = (lead, o, g)) ∧ ((s.tab b.val).reqs = [(d, e)] ∧ d ≤ s.epoch ∧ (s.tab b.val).commitFrom = none) ∧ ((s.tab b.val).closedAt (d - lead) = true) :=
  ⟨384, 1024, 0, 16, 1040, 3, { (rdy.modTab 384 fun x => { x with okSince := some 16, reqs := [(1040, 3)] }) with epoch := 1041 }, by decide⟩

theorem wit_DoubleBankedTables_10_2 : ∃ (b : Fin 392) (lead : Nat) (o : Nat) (g : Nat) (d : Nat) (e : Nat) (s : State),
    (s.tabGrid b.val = (lead, o, g)) ∧ ((s.tab b.val).reqs = [(d, e)] ∧ d ≤ s.epoch ∧ (s.tab b.val).commitFrom = none) ∧ ((s.tab b.val).closedAt (d - lead) = true) :=
  ⟨4, 1024, 0, 16, 1040, 3, { (rdy.modTab 4 fun x => { x with okSince := some 16, reqs := [(1040, 3)] }) with epoch := 1041 }, by decide⟩

theorem wit_DoubleBankedTables_11 : ∃ (b : Fin 392) (lead : Nat) (o : Nat) (g : Nat) (d : Nat) (e : Nat) (s : State),
    (s.tabGrid b.val = (lead, o, g)) ∧ ((s.tab b.val).reqs = [(d, e)] ∧ d ≤ s.epoch ∧ (s.tab b.val).commitFrom = none) ∧ ((s.tab b.val).closedAt (d - lead) = false) :=
  ⟨384, 1024, 0, 16, 1040, 3, { (rdy.modTab 384 fun x => { x with okSince := some 17, reqs := [(1040, 3)] }) with epoch := 1041 }, by decide⟩

theorem wit_DoubleBankedTables_12 : ∃ (b : Fin 392) (lead : Nat) (o : Nat) (g : Nat) (d : Nat) (s : State),
    (s.tabGrid b.val = (lead, o, g)) ∧ ((s.tab b.val).reqs = [] ∧ (s.tab b.val).commitFrom = some d ∧ d ≤ s.epoch) ∧ (o ≤ s.epoch ∧ (s.epoch - o) % max 1 g = 0) ∧ ((s.tab b.val).closedAt (s.epoch - lead) = false ∧ (s.tab b.val).told = false) :=
  ⟨130, 1024, 0, 16, 5, { (rdy.modTab 130 fun x => { x with commitFrom := some 5 }) with epoch := 2048 }, by decide⟩

theorem wit_RefillRegisters_1_1 : ∃ (c : Fin 64) (w : Wr) (s : State),
    (Accepted s w (pgRfl c.val)) ∧ (s.rflOwned c.val = false) ∧ (s.rd RFL_STAT.STATE c.val = 0) :=
  ⟨3, hw 1, rdy.wr RFL_RING_TAIL.TAIL 3 1, by decide⟩

theorem wit_RefillRegisters_1_2 : ∃ (c : Fin 64) (w : Wr) (s : State),
    (Accepted s w (pgRfl c.val)) ∧ (s.rflOwned c.val = false) ∧ (s.rd RFL_STAT.STATE c.val = 0) :=
  ⟨63, hw 0x100, rdy, by decide⟩

theorem wit_RefillRegisters_2_1 : ∃ (c : Fin 64) (w : Wr) (s : State),
    (Accepted s w (pgRfl c.val)) ∧ (s.rflOwned c.val = false) ∧ (s.rd RFL_STAT.STATE c.val = 1 ∨ s.rd RFL_STAT.STATE c.val = 4) :=
  ⟨3, hw 1, (rdy.wr RFL_RING_TAIL.TAIL 3 1).wr RFL_STAT.STATE 3 1, by decide⟩

theorem wit_RefillRegisters_2_2 : ∃ (c : Fin 64) (w : Wr) (s : State),
    (Accepted s w (pgRfl c.val)) ∧ (s.rflOwned c.val = false) ∧ (s.rd RFL_STAT.STATE c.val = 1 ∨ s.rd RFL_STAT.STATE c.val = 4) :=
  ⟨3, hw 1, (rdy.wr RFL_RING_TAIL.TAIL 3 1).wr RFL_STAT.STATE 3 4, by decide⟩

theorem wit_RefillRegisters_3 : ∃ (c : Fin 64) (w : Wr) (s : State),
    (Accepted s w (pgRfl c.val)) ∧ (s.rflOwned c.val = false) ∧ (s.rd RFL_STAT.STATE c.val = 0) :=
  ⟨3, hw 0x131, rdy, by decide⟩

theorem wit_RefillRegisters_4 : ∃ (c : Fin 64) (w : Wr) (s : State),
    (Accepted s w (pgRfl c.val)) ∧ (s.rflOwned c.val = false) ∧ (s.rd RFL_STAT.STATE c.val = 1 ∨ s.rd RFL_STAT.STATE c.val = 4) :=
  ⟨3, hw 1, (rdy.wr RFL_STAT.STATE 3 4).modRflc 3 fun x => { x with fetch := true }, by decide⟩

theorem wit_RefillRegisters_5 : ∃ (c : Fin 64) (w : Wr) (s : State),
    (Accepted s w (pgRfl c.val)) ∧ (s.rflBusy c.val = true) :=
  ⟨3, hw 1, rdy.wr RFL_STAT.STATE 3 2, by decide⟩

theorem wit_RefillRegisters_6 : ∃ (c : Fin 64) (w : Wr) (s : State),
    (Accepted s w (pgRfl c.val)) ∧ (s.rflBusy c.val = true) :=
  ⟨3, hw 1, rdy.wr RFL_STAT.STATE 3 2, by decide⟩

theorem wit_RefillRegisters_7 : ∃ (c : Fin 64) (w : Wr) (s : State),
    (Accepted s w (pgRfl c.val)) ∧ (s.rflOwned c.val = false) ∧ (bits (w.val ||| 0x4).toNat 0 7 = 0x4) ∧ (s.on RFL_STAT.SHADOW_FULL c.val = false ∧ s.on RFL_CFG.MODE c.val = false ∧ s.on RFL_CFG.EN c.val = true) :=
  ⟨3, hw 0, rdy.wr RFL_CFG.EN 3 1, by decide⟩

theorem wit_RefillRegisters_8 : ∃ (c : Fin 64) (w : Wr) (s : State),
    (Accepted s w (pgRfl c.val)) ∧ (s.rflOwned c.val = false) ∧ (bits (w.val ||| 0x4).toNat 0 7 = 0x4) ∧ (s.on RFL_STAT.SHADOW_FULL c.val = true) :=
  ⟨3, hw 0, rdy.wr RFL_STAT.SHADOW_FULL 3 1, by decide⟩

theorem wit_RefillRegisters_9 : ∃ (c : Fin 64) (w : Wr) (s : State),
    (Accepted s w (pgRfl c.val)) ∧ (s.rflOwned c.val = false) ∧ (bits (w.val ||| 0x4).toNat 0 7 = 0x4) ∧ (s.on RFL_STAT.SHADOW_FULL c.val = false ∧ s.on RFL_CFG.MODE c.val = true) :=
  ⟨3, hw 0, rdy.wr RFL_CFG.MODE 3 1, by decide⟩

theorem wit_RefillRegisters_10 : ∃ (c : Fin 64) (w : Wr) (s : State),
    (Accepted s w (pgRfl c.val)) ∧ (s.rflOwned c.val = false) ∧ (bits (w.val ||| 0x4).toNat 0 7 = 0x4) ∧ (s.on RFL_STAT.SHADOW_FULL c.val = false ∧ s.on RFL_CFG.MODE c.val = false ∧ s.on RFL_CFG.EN c.val = false) :=
  ⟨3, hw 0, rdy, by decide⟩

theorem wit_RefillRegisters_11 : ∃ (c : Fin 64) (w : Wr) (s : State),
    (Accepted s w (pgRfl c.val)) ∧ (s.rflOwned c.val = false) ∧ (bits (w.val ||| 0x8).toNat 0 7 = 0x8) ∧ (s.on RFL_CFG.MODE c.val = false) :=
  ⟨3, hw 0, rdy, by decide⟩

theorem wit_RefillRegisters_12 : ∃ (c : Fin 64) (w : Wr) (s : State),
    (Accepted s w (pgRfl c.val)) ∧ (s.rflOwned c.val = false) ∧ (bits (w.val ||| 0x8).toNat 0 7 = 0x8) ∧ (s.on RFL_CFG.MODE c.val = true) :=
  ⟨3, hw 0, rdy.wr RFL_CFG.MODE 3 1, by decide⟩

theorem wit_RefillRegisters_13 : ∃ (c : Fin 64) (w : Wr) (s : State),
    (Accepted s w (pgRfl c.val)) ∧ (s.rflOwned c.val = false) ∧ (bits (w.val ||| 0x10).toNat 0 7 = 0x10) ∧ ((s.rflc c.val).trig = none) :=
  ⟨3, hw 0, rdy, by decide⟩

theorem wit_RefillRegisters_14_1 : ∃ (c : Fin 64) (w : Wr) (d : Nat) (g : Option Nat) (s : State),
    (Accepted s w (pgRfl c.val)) ∧ (s.rflOwned c.val = false) ∧ (bits (w.val ||| 0x10).toNat 0 7 = 0x10) ∧ ((s.rflc c.val).trig = some (d, g)) :=
  ⟨3, hw 0, 4, some 2, rdy.modRflc 3 fun x => { x with trig := some (4, some 2) }, by decide⟩

theorem wit_RefillRegisters_14_2 : ∃ (c : Fin 64) (w : Wr) (d : Nat) (g : Option Nat) (s : State),
    (Accepted s w (pgRfl c.val)) ∧ (s.rflOwned c.val = false) ∧ (bits (w.val ||| 0x10).toNat 0 7 = 0x10) ∧ ((s.rflc c.val).trig = some (d, g)) :=
  ⟨3, hw 0, 90000, none, rdy.modRflc 3 fun x => { x with trig := some (90000, none) }, by decide⟩

theorem wit_RefillRegisters_15 : ∃ (c : Fin 64) (w : Wr) (s : State),
    (Accepted s w (pgRfl c.val)) ∧ (s.rflOwned c.val = false) ∧ (bits (w.val ||| 0x20).toNat 0 7 = 0x20) :=
  ⟨3, hw 0, rdy.modRflc 3 fun x => { x with trig := some (4, none) }, by decide⟩

theorem wit_RefillRegisters_16 : ∃ (c : Fin 64) (w : Wr) (s : State),
    (Accepted s w (pgRfl c.val)) ∧ (s.rflOwned c.val = false) ∧ (bits (w.val ||| 0x40).toNat 0 7 = 0x40) :=
  ⟨3, hw 0, rdy.wr RFL_CNT.DONE_COUNT 3 1, by decide⟩

theorem wit_RefillRegisters_17 : ∃ (c : Fin 64) (w : Wr) (s : State),
    (Accepted s w (pgRfl c.val)) ∧ (s.rflOwned c.val = false) ∧ (1 < ((List.range 7).filter (bit (bits (w.val ||| 0x40).toNat 0 7))).length) :=
  ⟨3, hw 0x20, rdy, by decide⟩

theorem wit_RefillRegisters_18_1 : ∃ (c : Fin 64) (w : Wr) (s : State),
    (Accepted s w (pgRfl c.val)) ∧ (s.rflOwned c.val = false) ∧ (bits (w.val ||| 0x2).toNat 0 7 = 0x2) ∧ (s.rd RFL_STAT.STATE c.val = 4) ∧ (s.on HOST_LINK.DL_UP 0 = true) ∧ ((s.rflc c.val).held = none) :=
  ⟨3, hw 0, ((rdy.wr RFL_STAT.STATE 3 4).wr HOST_LINK.DL_UP 0 1).wr RFL_CFG.MODE 3 1 |>.wr RFL_RING_TAIL.TAIL 3 1, by decide⟩

theorem wit_RefillRegisters_18_2 : ∃ (c : Fin 64) (w : Wr) (s : State),
    (Accepted s w (pgRfl c.val)) ∧ (s.rflOwned c.val = false) ∧ (bits (w.val ||| 0x2).toNat 0 7 = 0x2) ∧ (s.rd RFL_STAT.STATE c.val = 4) ∧ (s.on HOST_LINK.DL_UP 0 = true) ∧ ((s.rflc c.val).held = none) :=
  ⟨3, hw 0, (rdy.wr RFL_STAT.STATE 3 4).wr HOST_LINK.DL_UP 0 1, by decide⟩

theorem wit_RefillRegisters_19 : ∃ (c : Fin 64) (w : Wr) (a : Nat) (d0 : Nat) (d1 : Nat) (d2 : Nat) (d3 : Nat) (d4 : Nat) (d5 : Nat) (s : State),
    (Accepted s w (pgRfl c.val)) ∧ (s.rflOwned c.val = false) ∧ (bits (w.val ||| 0x2).toNat 0 7 = 0x2) ∧ (s.rd RFL_STAT.STATE c.val = 4) ∧ (s.on HOST_LINK.DL_UP 0 = true) ∧ ((s.rflc c.val).held = some (a, [d0, d1, d2, d3, d4, d5])) :=
  ⟨3, hw 0, 0x1000, 1, 2, 3, 4, 5, 6, ((rdy.wr RFL_STAT.STATE 3 4).wr HOST_LINK.DL_UP 0 1).modRflc 3 fun x => { x with held := some (0x1000, [1, 2, 3, 4, 5, 6]) }, by decide⟩

theorem wit_RefillRegisters_20 : ∃ (c : Fin 64) (w : Wr) (s : State),
    (Accepted s w (pgRfl c.val)) ∧ (s.rflOwned c.val = false) ∧ (bits (w.val ||| 0x2).toNat 0 7 = 0x2) ∧ (s.rd RFL_STAT.STATE c.val ≠ 4 ∨ s.on HOST_LINK.DL_UP 0 = false) :=
  ⟨3, hw 0, rdy, by decide⟩

theorem wit_RefillRegisters_21_1 : ∃ (c : Fin 64) (w : Wr) (s : State),
    (Accepted s w (pgRfl c.val)) ∧ (s.rflOwned c.val = false) ∧ (bits (w.val ||| 0x1).toNat 0 7 = 0x1) ∧ (s.rflBusy c.val = true ∧ (s.rflc c.val).active = true) :=
  ⟨3, hw 0, running3 5 0 0x2000, by decide⟩

theorem wit_RefillRegisters_21_2 : ∃ (c : Fin 64) (w : Wr) (s : State),
    (Accepted s w (pgRfl c.val)) ∧ (s.rflOwned c.val = false) ∧ (bits (w.val ||| 0x1).toNat 0 7 = 0x1) ∧ (s.rflBusy c.val = true ∧ (s.rflc c.val).active = true) :=
  ⟨3, hw 0, (running3 5 0 0x2000).modRflc 3 fun x => { x with stage := some [1, 2] }, by decide⟩

theorem wit_RefillRegisters_22 : ∃ (c : Fin 64) (w : Wr) (s : State),
    (Accepted s w (pgRfl c.val)) ∧ (s.rflOwned c.val = false) ∧ (bits (w.val ||| 0x1).toNat 0 7 = 0x1) ∧ (s.rflBusy c.val = false) :=
  ⟨3, hw 0, rdy, by decide⟩

theorem wit_RefillRegisters_23 : ∃ (c : Fin 64) (a : Arrival) (s : State),
    (s.arrivals.filter (fun a => a.cls == 6 && a.index == c.val) = [a]) ∧ ((s.rflc c.val).trig = none) :=
  ⟨63, { cls := 6, index := 63, ev := { prod := 1, st := {}, gen := 2 } }, rdy.setArrivals [{ cls := 6, index := 63, ev := { prod := 1, st := {}, gen := 2 } }], by decide⟩

theorem wit_RefillRegisters_24 : ∃ (c : Fin 64) (a : Arrival) (b : Arrival) (s : State),
    (s.arrivals.filter (fun a => a.cls == 6 && a.index == c.val) = [a, b]) ∧ ((s.rflc c.val).trig = none) :=
  ⟨63, { cls := 6, index := 63, ev := { prod := 1, st := { t := 9 }, gen := 2 } }, { cls := 6, index := 63, ev := { prod := 2, st := { t := 4 }, gen := 1 } }, rdy.setArrivals [{ cls := 6, index := 63, ev := { prod := 1, st := { t := 9 }, gen := 2 } }, { cls := 6, index := 63, ev := { prod := 2, st := { t := 4 }, gen := 1 } }], by decide⟩

theorem wit_RefillRegisters_25 : ∃ (c : Fin 64) (a : Arrival) (d : Nat) (g : Nat) (s : State),
    (s.arrivals.filter (fun a => a.cls == 6 && a.index == c.val) = [a]) ∧ ((s.rflc c.val).trig = some (d, some g)) :=
  ⟨63, { cls := 6, index := 63, ev := { prod := 1, st := { t := 9 }, gen := 2 } }, 7, 3, (rdy.setArrivals [{ cls := 6, index := 63, ev := { prod := 1, st := { t := 9 }, gen := 2 } }]).modRflc 63 fun x => { x with trig := some (7, some 3) }, by decide⟩

theorem wit_RefillRegisters_26 : ∃ (c : Fin 64) (w : Wr) (s : State),
    (Accepted s w (pgRfl c.val)) ∧ (bits w.val.toNat 0 16 < 2 ^ s.rd RFL_RING_SIZE.LOG2 c.val) ∧ (s.on RFL_CFG.MODE c.val = false) :=
  ⟨3, hw 1, rdy, by decide⟩

theorem wit_RefillRegisters_27 : ∃ (c : Fin 64) (w : Wr) (s : State),
    (Accepted s w (pgRfl c.val)) ∧ (bits w.val.toNat 0 16 < 2 ^ s.rd RFL_RING_SIZE.LOG2 c.val) ∧ (s.on RFL_CFG.MODE c.val = true) :=
  ⟨3, hw 1, (rdy.wr RFL_CFG.MODE 3 1).wr RFL_STAT.STATE 3 1, by decide⟩

theorem wit_RefillRegisters_28 : ∃ (c : Fin 64) (w : Wr) (s : State),
    (Accepted s w (pgRfl c.val)) ∧ (2 ^ s.rd RFL_RING_SIZE.LOG2 c.val ≤ bits w.val.toNat 0 16) :=
  ⟨3, hw 2, rdy, by decide⟩

theorem wit_RefillRegisters_29 : ∃ (c : Fin 64) (ds : List Word) (d0 : Word) (s : State),
    ((s.rflc c.val).fetch = true ∧ (s.rflc c.val).lateFetch = 0) ∧ (ds.length = 32 ∧ ds[0]? = some d0 ∧ bit d0.toNat 31 = true) :=
  ⟨3, 0x80000000#32 :: List.replicate 31 7#32, 0x80000000, rdy.modRflc 3 fun x => { x with fetch := true }, by decide⟩

theorem wit_RefillRegisters_30 : ∃ (c : Fin 64) (ds : List Word) (d0 : Word) (s : State),
    ((s.rflc c.val).fetch = true ∧ (s.rflc c.val).lateFetch = 0) ∧ (ds[0]? = some d0 ∧ bit d0.toNat 31 = false) :=
  ⟨3, List.replicate 32 7#32, 7, rdy.modRflc 3 fun x => { x with fetch := true }, by decide⟩

theorem wit_RefillRegisters_31 : ∃ (c : Fin 64) (s : State),
    ((s.rflc c.val).fetch = true ∧ (s.rflc c.val).lateFetch = 0) ∧ ((s.rflc c.val).active = false) :=
  ⟨3, rdy.modRflc 3 fun x => { x with fetch := true }, by decide⟩

theorem wit_RefillRegisters_32 : ∃ (c : Fin 64) (s : State),
    ((s.rflc c.val).fetch = true ∧ (s.rflc c.val).lateFetch = 0) ∧ ((s.rflc c.val).active = false) :=
  ⟨3, rdy.modRflc 3 fun x => { x with fetch := true }, by decide⟩

theorem wit_RefillRegisters_33 : ∃ (c : Fin 64) (s : State),
    ((s.rflc c.val).lateFetch ≠ 0) :=
  ⟨3, rdy.modRflc 3 fun x => { x with fetch := true, lateFetch := 1 }, by decide⟩

theorem wit_RefillRegisters_34 : ∃ (c : Fin 64) (s : State),
    ((s.rflc c.val).lateFetch = 0 ∧ (s.rflc c.val).fetch = false) :=
  ⟨3, rdy, by decide⟩

theorem wit_RefillRegisters_35 : ∃ (c : Fin 64) (s : State),
    ((s.rflc c.val).lateFetch ≠ 0) :=
  ⟨3, rdy.modRflc 3 fun x => { x with fetch := true, lateFetch := 1 }, by decide⟩

theorem wit_RefillRegisters_36 : ∃ (c : Fin 64) (s : State),
    ((s.rflc c.val).lateFetch = 0 ∧ (s.rflc c.val).fetch = false) :=
  ⟨3, rdy, by decide⟩

theorem wit_RefillDescriptors_1_1 : ∃ (c : Fin 64) (s : State),
    (s.on RFL_STAT.SHADOW_FULL c.val = true ∧ (s.rflc c.val).active = false) ∧ (s.rd RFL_STAT.STATE c.val ≠ 0 ∧ s.rd RFL_STAT.STATE c.val ≠ 4) :=
  ⟨3, (rdy.wr RFL_STAT.SHADOW_FULL 3 1).wr RFL_STAT.STATE 3 1, by decide⟩

theorem wit_RefillDescriptors_1_2 : ∃ (c : Fin 64) (s : State),
    (s.on RFL_STAT.SHADOW_FULL c.val = true ∧ (s.rflc c.val).active = false) ∧ (s.rd RFL_STAT.STATE c.val ≠ 0 ∧ s.rd RFL_STAT.STATE c.val ≠ 4) :=
  ⟨3, (List.range 32).foldl (fun t n => t.wr RFL_SH.SH (96 + n) ((running3 5 0 0x2000).rd RFL_ACT.ACT (96 + n))) ((rdy.wr RFL_STAT.SHADOW_FULL 3 1).wr RFL_STAT.STATE 3 1), by decide⟩

theorem wit_RefillDescriptors_2 : ∃ (c : Fin 64) (r : RflRead) (rest : List RflRead) (bs : List Byte) (s : State),
    ((s.rflc c.val).active = true ∧ (s.rflc c.val).stale = [] ∧ (s.rflc c.val).reads = r :: rest) ∧ (s.ctl c.val 23 = false) ∧ ((s.rflSide c.val true).space ≠ 3 ∨ s.on WIN_CFG.EN (winId (s.rflSide c.val true).facet (s.rflSide c.val true).win) = true) ∧ (r.host = true ∧ bs.length = r.n) :=
  ⟨3, { k := 0, n := 2, host := true }, [], [1, 2], (running3 5 0 0x2000).modRflc 3 fun x => { x with reads := [{ k := 0, n := 2, host := true }], asked := 2 }, by decide⟩

theorem wit_RefillDescriptors_3 : ∃ (c : Fin 64) (r : RflRead) (rest : List RflRead) (s : State),
    ((s.rflc c.val).active = true ∧ (s.rflc c.val).stale = [] ∧ (s.rflc c.val).reads = r :: rest) ∧ ((s.rflc c.val).stage = none) ∧ (r.host = true) :=
  ⟨3, { k := 0, n := 2, host := true }, [], (running3 5 0 0x2000).modRflc 3 fun x => { x with reads := [{ k := 0, n := 2, host := true }], asked := 2 }, by decide⟩

theorem wit_RefillDescriptors_4 : ∃ (c : Fin 64) (r : RflRead) (rest : List RflRead) (errs : List (Nat × Ecc)) (s : State),
    ((s.rflc c.val).active = true ∧ (s.rflc c.val).stale = [] ∧ (s.rflc c.val).reads = r :: rest) ∧ (s.ctl c.val 23 = false) ∧ ((s.rflSide c.val true).space ≠ 3 ∨ s.on WIN_CFG.EN (winId (s.rflSide c.val true).facet (s.rflSide c.val true).win) = true) ∧ ((s.rflSide c.val false).space = 1 ∨ (s.rflSide c.val false).space = 2 ∨ (s.rflSide c.val false).space = 4) ∧ (r.host = false ∧ (s.readEcc r errs).1 = false) :=
  ⟨3, { k := 0, n := 2, lines := some (0, 0, 0) }, [], [(0, .corrected)], ((running3 5 0x1000 0x2000).setBytesB 0 [7, 8]).modRflc 3 fun x => { x with reads := [{ k := 0, n := 2, lines := some (0, 0, 0) }], asked := 2 }, by decide⟩

theorem wit_RefillDescriptors_5 : ∃ (c : Fin 64) (r : RflRead) (rest : List RflRead) (errs : List (Nat × Ecc)) (s : State),
    ((s.rflc c.val).active = true ∧ (s.rflc c.val).stale = [] ∧ (s.rflc c.val).reads = r :: rest) ∧ ((s.rflc c.val).stage = none) ∧ (r.host = false ∧ (s.readEcc r errs).1 = true) :=
  ⟨3, { k := 0, n := 2, lines := some (0, 0, 0) }, [], [(0, .uncorrectable)], (running3 5 0x1000 0x2000).modRflc 3 fun x => { x with reads := [{ k := 0, n := 2, lines := some (0, 0, 0) }], asked := 2 }, by decide⟩

theorem wit_RefillDescriptors_6 : ∃ (c : Fin 64) (r : RflRead) (rest : List RflRead) (s : State),
    ((s.rflc c.val).stale = r :: rest) :=
  ⟨3, { k := 0, n := 2, host := true }, [], rdy.modRflc 3 fun x => { x with stale := [{ k := 0, n := 2, host := true }] }, by decide⟩

theorem wit_RefillDescriptors_7 : ∃ (c : Fin 64) (s : State),
    ((s.rflc c.val).stale = [] ∧ (s.rflc c.val).reads = []) :=
  ⟨3, rdy, by decide⟩

theorem wit_RefillDescriptors_8 : ∃ (c : Fin 64) (r : RflRead) (rest : List RflRead) (s : State),
    ((s.rflc c.val).active = true ∧ (s.rflc c.val).stale = [] ∧ (s.rflc c.val).reads = r :: rest) ∧ ((s.rflc c.val).stage = none) ∧ (r.host = true) :=
  ⟨3, { k := 0, n := 2, host := true }, [], (running3 5 0 0x2000).modRflc 3 fun x => { x with reads := [{ k := 0, n := 2, host := true }], asked := 2 }, by decide⟩

theorem wit_RefillDescriptors_9 : ∃ (c : Fin 64) (r : RflRead) (rest : List RflRead) (s : State),
    ((s.rflc c.val).stale = [] ∧ (s.rflc c.val).reads = r :: rest ∧ r.host = false) :=
  ⟨3, { k := 0, n := 2, lines := some (0, 0, 0) }, [], (running3 5 0x1000 0x2000).modRflc 3 fun x => { x with reads := [{ k := 0, n := 2, lines := some (0, 0, 0) }], asked := 2 }, by decide⟩

theorem wit_RefillDescriptors_10 : ∃ (c : Fin 64) (x : State) (s : State),
    ((List.range 64).foldl (fun t k => t.rflSettle k) s = x) ∧ ((List.range 64).filter x.rflCandidate = [c.val]) ∧ (x.ctl c.val 23 = false ∧ (x.rflSide c.val true).space ≠ 3) ∧ (∀ p : Fin 4, (x.bursts.guard[p.val]?).getD 0 < 13) ∧ (x.rd RFL_CFG.PRIO c.val < 4) :=
  ⟨3, (List.range 64).foldl (fun t k => t.rflSettle k) ((running3 5 0 0x2000).modRflc 3 fun x => { x with asked := 64, buf := List.replicate 64 7 }), ((running3 5 0 0x2000).modRflc 3 fun x => { x with asked := 64, buf := List.replicate 64 7 }), by decide +kernel⟩

theorem wit_RefillDescriptors_11 : ∃ (x : State) (s : State),
    ((List.range 64).foldl (fun t k => t.rflSettle k) s = x) ∧ ((List.range 64).filter x.rflCandidate = []) :=
  ⟨rdy, rdy, by decide +kernel⟩

theorem wit_RefillDescriptors_12 : ∃ (c : Fin 64) (bs : List Nat) (s : State),
    ((s.rflc c.val).active = true) ∧ ((s.rflc c.val).stage = some bs) ∧ (s.ctl c.val 23 = false) ∧ ((s.rflSide c.val true).space = 2 ∧ s.blocked (s.rflSide c.val true) ((s.rflSide c.val true).at' (s.rflc c.val).written) bs = false) :=
  ⟨3, [1, 2, 3, 4], (running3 5 0 0x2000).modRflc 3 (fun x => { x with stage := some [1, 2, 3, 4], asked := 64 }), by decide⟩

theorem wit_RefillDescriptors_13 : ∃ (c : Fin 64) (bs : List Nat) (s : State),
    ((s.rflc c.val).active = true) ∧ ((s.rflc c.val).stage = some bs) ∧ (s.ctl c.val 23 = false) ∧ ((s.rflSide c.val true).space = 1 ∧ (s.rflSide c.val true).fmt = 0 ∧ ((s.rflSide c.val true).at' (s.rflc c.val).written) + bs.length ≤ 0x800000 ∧ s.blocked (s.rflSide c.val true) ((s.rflSide c.val true).at' (s.rflc c.val).written) bs = false) :=
  ⟨3, [1, 2, 3, 4], (running3 5 0 0x1080).modRflc 3 (fun x => { x with stage := some [1, 2, 3, 4], asked := 64 }), by decide⟩

theorem wit_RefillDescriptors_14 : ∃ (c : Fin 64) (bs : List Nat) (s : State),
    ((s.rflc c.val).active = true) ∧ ((s.rflc c.val).stage = some bs) ∧ (s.ctl c.val 23 = false) ∧ ((s.rflSide c.val true).space = 0) :=
  ⟨3, [1, 2, 3, 4], (running3 5 0x2000 0).modRflc 3 (fun x => { x with stage := some [1, 2, 3, 4], asked := 64 }), by decide⟩

theorem wit_RefillDescriptors_15 : ∃ (c : Fin 64) (bs : List Nat) (s : State),
    ((s.rflc c.val).active = true) ∧ ((s.rflc c.val).stage = some bs) ∧ (s.ctl c.val 23 = false) ∧ ((s.rflSide c.val true).space = 3 ∧ (s.rflSide c.val true).fmt = 0 ∧ (s.rflc c.val).part = [] ∧ bs.length = 64) ∧ (s.on WIN_CFG.EN (winId (s.rflSide c.val true).facet (s.rflSide c.val true).win) = true ∧ s.winRoom (s.rflSide c.val true).facet (s.rflSide c.val true).win (s.win (winId (s.rflSide c.val true).facet (s.rflSide c.val true).win)).wp = true ∧ s.winSlot (s.rflSide c.val true).facet (s.rflSide c.val true).win (s.win (winId (s.rflSide c.val true).facet (s.rflSide c.val true).win)).wp < 131072) :=
  ⟨3, List.replicate 64 9, ((running3 5 0 0x3000).modRflc 3 (fun x => { x with stage := some (List.replicate 64 9), asked := 64 })).wr WIN_CFG.EN 0 1, by decide⟩

theorem wit_RefillDescriptors_16 : ∃ (c : Fin 64) (bs : List Nat) (s : State),
    ((s.rflc c.val).active = true) ∧ ((s.rflc c.val).stage = some bs) ∧ ((s.rflSide c.val true).space = 3 ∧ s.on WIN_CFG.EN (winId (s.rflSide c.val true).facet (s.rflSide c.val true).win) = false) :=
  ⟨3, [1], (running3 5 0 0x3000).modRflc 3 fun x => { x with stage := some [1] }, by decide⟩

theorem wit_RefillDescriptors_17 : ∃ (c : Fin 64) (bs : List Nat) (s : State),
    ((s.rflc c.val).active = true) ∧ ((s.rflc c.val).stage = some bs) ∧ ((s.rflSide c.val true).space ≠ 0 ∧ (s.rflSide c.val true).space ≠ 3 ∧ s.blocked (s.rflSide c.val true) ((s.rflSide c.val true).at' (s.rflc c.val).written) bs = true) :=
  ⟨3, [1, 2, 3, 4], ((running3 5 0 0x2000).modRflc 3 (fun x => { x with stage := some [1, 2, 3, 4], asked := 64 })).wr ENG_STAT.STATE 0 3, by decide⟩

theorem wit_RefillDescriptors_18 : ∃ (c : Fin 64) (err : Bool) (s : State),
    (s.rflWritten c.val = true ∧ (s.ctl c.val 28 = true ∨ s.ctl c.val 22 = true) ∧ (s.rflc c.val).barrier = false) ∧ (s.rflOwned c.val = false) ∧ (s.ctl c.val 23 = false) ∧ ((s.rflSide c.val true).space ≠ 3) ∧ (err = false ∨ (s.rflSide c.val true).space ≠ 0) :=
  ⟨3, true, (running3 0x10000005 0 0x2000).modRflc 3 fun x => { x with asked := 64, written := 64 }, by decide⟩

theorem wit_RefillDescriptors_19 : ∃ (c : Fin 64) (s : State),
    (s.rflWritten c.val = true ∧ (s.ctl c.val 28 = true ∨ s.ctl c.val 22 = true) ∧ (s.rflc c.val).barrier = false) ∧ (s.rflOwned c.val = false) ∧ (s.ctl c.val 23 = false) ∧ ((s.rflSide c.val true).space = 1 ∧ s.ctl c.val 22 = true ∧ s.ctl c.val 25 = false ∧ (s.ctl c.val 29 = false ∨ (s.rflc c.val).go = true)) ∧ ((s.rflc c.val).asked = s.rflToRead c.val ∧ (s.rflc c.val).reads = [] ∧ (s.rflc c.val).closing = false) ∧ (s.on SEG_DIR_STAT.BUSY (s.rflSide c.val true).facet = false ∧ (s.dirEnt (s.rflSide c.val true).facet (bits (s.actD c.val 25) 0 13)).resident = true ∧ s.segInUse (s.rflSide c.val true).facet (bits (s.actD c.val 25) 0 13) = false) :=
  ⟨3, ((running3 0x00400005 0 0x1000).modRflc 3 fun x => { x with asked := 64, written := 64 }).setDirEnt 0 0 { w1 := 0x80000001 }, by decide⟩

theorem wit_RefillDescriptors_20 : ∃ (c : Fin 64) (s : State),
    (s.rflWritten c.val = true ∧ (s.ctl c.val 28 = true ∨ s.ctl c.val 22 = true) ∧ (s.rflc c.val).barrier = false) ∧ ((s.rflSide c.val true).space = 0) :=
  ⟨3, (running3 0x10000005 0x2000 0).modRflc 3 fun x => { x with asked := 64, written := 64 }, by decide⟩

theorem wit_RefillDescriptors_21_1 : ∃ (c : Fin 64) (s : State),
    (s.rflDone c.val = true) ∧ (s.rflOwned c.val = false) :=
  ⟨3, (running3 0x0C000005 0 0x2000).modRflc 3 fun x => { x with asked := 64, written := 64 }, by decide⟩

theorem wit_RefillDescriptors_21_2 : ∃ (c : Fin 64) (s : State),
    (s.rflDone c.val = true) ∧ (s.rflOwned c.val = false) :=
  ⟨3, ((running3 0x0C000005 0 0x2000).wr RFL_CFG.MODE 3 1).modRflc 3 fun x => { x with asked := 64, written := 64 }, by decide⟩

theorem wit_RefillDescriptors_22 : ∃ (c : Fin 64) (s : State),
    (s.rflWritten c.val = false ∨ (s.ctl c.val 28 = false ∧ s.ctl c.val 22 = false) ∨ (s.rflc c.val).barrier = true) :=
  ⟨3, rdy, by decide⟩

theorem wit_RefillDescriptors_23 : ∃ (c : Fin 64) (s : State),
    (s.rflDone c.val = false ∧ (s.rflc c.val).wb = true ∧ (s.rflc c.val).active = false) ∧ (s.rd RFL_STAT.STATE c.val ≠ 0 ∧ s.rd RFL_STAT.STATE c.val ≠ 4) :=
  ⟨3, (rdy.wr RFL_STAT.STATE 3 1).modRflc 3 fun x => { x with wb := true }, by decide⟩

theorem wit_RefillDescriptors_24 : ∃ (c : Fin 64) (wbFail : Bool) (s : State),
    (s.rflDone c.val = false ∧ (wbFail = false ∨ (s.rflc c.val).wb = false)) :=
  ⟨3, false, rdy, by decide⟩

theorem wit_RefillDescriptors_25 : ∃ (c : Fin 64) (s : State),
    ((s.rflc c.val).active = false ∨ (s.rflc c.val).stage = none) :=
  ⟨3, rdy, by decide⟩

theorem wit_RefillDescriptors_26 : ∃ (c : Fin 64) (s : State),
    (s.on RFL_STAT.SHADOW_FULL c.val = false ∨ (s.rflc c.val).active = true ∨ s.rd RFL_STAT.STATE c.val = 0 ∨ s.rd RFL_STAT.STATE c.val = 4) :=
  ⟨3, rdy, by decide⟩

theorem wit_LaneCommands_1 : ∃ (l : Fin 256) (w : Wr) (s : State),
    (Accepted s w (pgLane l.val)) ∧ (bits w.val.toNat 2 3 = 0) ∧ (bit w.val.toNat 1 = false) ∧ (5 ≤ s.dev ∧ s.domOn (laneFacet l.val) = true ∧ s.domOn (34 + quadOf l.val) = true ∧ (s.lphy l.val).calHold = false ∧ s.quadLocked l.val = true) ∧ (s.laneState l.val = 0) ∧ ((s.lphy l.val).fromQuad = false ∨ s.on LANE_STAT.EQ_VALID l.val = false) :=
  ⟨7, hw 0x20, (rdy.wr QPLL_STAT.STATE 1 2), by decide⟩

theorem wit_LaneCommands_2 : ∃ (l : Fin 256) (w : Wr) (s : State),
    (Accepted s w (pgLane l.val)) ∧ (bits w.val.toNat 2 3 = 0) ∧ (bit w.val.toNat 1 = false) ∧ (5 ≤ s.dev ∧ s.domOn (laneFacet l.val) = true ∧ s.domOn (34 + quadOf l.val) = true ∧ (s.lphy l.val).calHold = false ∧ s.quadLocked l.val = true) ∧ (s.laneState l.val = 0) ∧ ((s.lphy l.val).fromQuad = true ∧ s.on LANE_STAT.EQ_VALID l.val = true) :=
  ⟨7, hw 0, ((rdy.wr QPLL_STAT.STATE 1 2).wr LANE_STAT.EQ_VALID 7 1).modLphy 7 fun p => { p with fromQuad := true, stored := some { cpost := 9 } }, by decide⟩

theorem wit_LaneCommands_3 : ∃ (l : Fin 256) (w : Wr) (s : State),
    (Accepted s w (pgLane l.val)) ∧ (bits w.val.toNat 2 3 = 0) ∧ (bit w.val.toNat 1 = false) ∧ (s.laneState l.val ≠ 0 ∨ s.quadLocked l.val = false) :=
  ⟨7, hw 0, rdy, by decide⟩

theorem wit_LaneCommands_4 : ∃ (l : Fin 256) (w : Wr) (s : State),
    (Accepted s w (pgLane l.val)) ∧ (bits w.val.toNat 2 3 = 0) ∧ (bit w.val.toNat 1 = false) ∧ (s.laneState l.val ≠ 0 ∧ s.laneState l.val ≠ 5) :=
  ⟨7, hw 1, ((rdy.wr LANE_STAT.STATE 7 3)), by decide⟩

theorem wit_LaneCommands_5 : ∃ (l : Fin 256) (w : Wr) (s : State),
    (Accepted s w (pgLane l.val)) ∧ (bits w.val.toNat 2 3 = 0) ∧ (bit w.val.toNat 1 = false) ∧ (s.laneState l.val = 5) :=
  ⟨7, hw 1, ((rdy.wr LANE_STAT.STATE 7 5)), by decide⟩

theorem wit_LaneCommands_6 : ∃ (l : Fin 256) (w : Wr) (s : State),
    (Accepted s w (pgLane l.val)) ∧ (bits w.val.toNat 2 3 = 0) ∧ (bit w.val.toNat 1 = false) ∧ (s.laneState l.val = 0) :=
  ⟨7, hw 1, rdy, by decide⟩

theorem wit_LaneCommands_7 : ∃ (l : Fin 256) (w : Wr) (s : State),
    (Accepted s w (pgLane l.val)) ∧ (bit w.val.toNat 0 = true ∧ bits w.val.toNat 1 3 = 0) ∧ (s.on LANE_STAT.ADMIT_WAIT l.val = true) :=
  ⟨7, hw 1, ((rdy.wr LANE_STAT.STATE 7 4).wr LANE_STAT.ADMIT_WAIT 7 1), by decide⟩

theorem wit_LaneCommands_8 : ∃ (l : Fin 256) (w : Wr) (s : State),
    (Accepted s w (pgLane l.val)) ∧ (bit w.val.toNat 0 = true ∧ bits w.val.toNat 1 3 = 0) ∧ (s.on LANE_STAT.ADMIT_WAIT l.val = false) :=
  ⟨7, hw 1, ((rdy.wr LANE_STAT.STATE 7 4)), by decide⟩

theorem wit_LaneCommands_9 : ∃ (l : Fin 256) (w : Wr) (s : State),
    (Accepted s w (pgLane l.val)) ∧ (bits w.val.toNat 1 2 ≠ 0) :=
  ⟨7, hw 3, ((rdy.wr LANE_STAT.STATE 7 5).wr LANE_STAT.ADMIT_WAIT 7 1), by decide⟩

theorem wit_LaneCommands_10 : ∃ (l : Fin 256) (w : Wr) (s : State),
    (Accepted s w (pgLane l.val)) ∧ (bit w.val.toNat 0 = true ∧ bits w.val.toNat 1 2 = 0 ∧ bit w.val.toNat 4 = false) ∧ (s.laneState l.val = 5) ∧ ((s.lphy l.val).leave = none) :=
  ⟨7, hw 1, ((rdy.wr LANE_STAT.STATE 7 5)), by decide⟩

theorem wit_LaneCommands_11 : ∃ (l : Fin 256) (w : Wr) (s : State),
    (Accepted s w (pgLane l.val)) ∧ (bit w.val.toNat 0 = true ∧ bits w.val.toNat 1 2 = 0 ∧ bit w.val.toNat 4 = false) ∧ (s.laneState l.val ≠ 5) :=
  ⟨7, hw 1, ((rdy.wr LANE_STAT.STATE 7 4)), by decide⟩

theorem wit_LaneCommands_12 : ∃ (l : Fin 256) (w : Wr) (s : State),
    (Accepted s w (pgLane l.val)) ∧ (bits w.val.toNat 1 2 ≠ 0) :=
  ⟨7, hw 3, ((rdy.wr LANE_STAT.STATE 7 5)), by decide⟩

theorem wit_LaneCommands_13 : ∃ (l : Fin 256) (w : Wr) (b : Nat) (st : Nat) (cse : Nat) (s : State),
    (Accepted s w (pgLane l.val)) ∧ (bit w.val.toNat 0 = true ∧ bits w.val.toNat 1 2 = 0 ∧ bit w.val.toNat 4 = false) ∧ (s.laneState l.val = 5 ∧ (s.lphy l.val).leave = some (b, st, cse)) ∧ ((s.lphy l.val).leaveAt ≠ s.tb ∨ leaveRow st cse ≤ leaveRow 6 6) :=
  ⟨7, hw 1, 8, 1, 3, ((rdy.wr LANE_STAT.STATE 7 5).modLphy 7 fun p => { p with leave := some (8, 1, 3) }), by decide⟩

theorem wit_LaneCommands_14 : ∃ (l : Fin 256) (w : Wr) (s : State),
    (Accepted s w (pgLane l.val)) ∧ (bit w.val.toNat 0 = true ∧ bit w.val.toNat 1 = false ∧ bits w.val.toNat 3 2 = 0) ∧ (s.laneState l.val = 5) ∧ ((s.lphy l.val).leave = none) :=
  ⟨7, hw 1, ((rdy.wr LANE_STAT.STATE 7 5)), by decide⟩

theorem wit_LaneCommands_15 : ∃ (l : Fin 256) (w : Wr) (s : State),
    (Accepted s w (pgLane l.val)) ∧ (bit w.val.toNat 0 = true ∧ bit w.val.toNat 1 = false ∧ bits w.val.toNat 3 2 = 0) ∧ (2 ≤ s.laneState l.val ∧ s.laneState l.val ≠ 5) :=
  ⟨7, hw 1, ((rdy.wr LANE_STAT.STATE 7 4)), by decide⟩

theorem wit_LaneCommands_16 : ∃ (l : Fin 256) (w : Wr) (s : State),
    (Accepted s w (pgLane l.val)) ∧ (bit w.val.toNat 0 = true ∧ bit w.val.toNat 1 = false ∧ bits w.val.toNat 3 2 = 0) ∧ (s.laneState l.val ≤ 1) :=
  ⟨7, hw 1, ((rdy.wr LANE_STAT.STATE 7 1)), by decide⟩

theorem wit_LaneCommands_17 : ∃ (l : Fin 256) (w : Wr) (s : State),
    (Accepted s w (pgLane l.val)) ∧ (bits w.val.toNat 3 2 ≠ 0) :=
  ⟨7, hw 9, ((rdy.wr LANE_STAT.STATE 7 5)), by decide⟩

theorem wit_LaneCommands_18 : ∃ (l : Fin 256) (w : Wr) (b : Nat) (st : Nat) (cse : Nat) (s : State),
    (Accepted s w (pgLane l.val)) ∧ (bit w.val.toNat 0 = true ∧ bit w.val.toNat 1 = false ∧ bits w.val.toNat 3 2 = 0) ∧ (s.laneState l.val = 5 ∧ (s.lphy l.val).leave = some (b, st, cse)) ∧ ((s.lphy l.val).leaveAt ≠ s.tb ∨ leaveRow st cse ≤ leaveRow 1 6) :=
  ⟨7, hw 1, 8, 1, 3, ((rdy.wr LANE_STAT.STATE 7 5).modLphy 7 fun p => { p with leave := some (8, 1, 3) }), by decide⟩

theorem wit_LaneCommands_19 : ∃ (l : Fin 256) (w : Wr) (b : Nat) (st : Nat) (cse : Nat) (s : State),
    (Accepted s w (pgLane l.val)) ∧ (bit w.val.toNat 0 = true ∧ bit w.val.toNat 1 = false ∧ bits w.val.toNat 3 2 = 0) ∧ (s.laneState l.val = 5 ∧ (s.lphy l.val).leave = some (b, st, cse)) ∧ ((s.lphy l.val).leaveAt = s.tb ∧ leaveRow 1 6 < leaveRow st cse) :=
  ⟨7, hw 1, 8, 6, 5, ((rdy.wr LANE_STAT.STATE 7 5).modLphy 7 fun p => { p with leave := some (8, 6, 5) }), by decide⟩

theorem wit_LaneCommands_20 : ∃ (l : Fin 256) (w : Wr) (s : State),
    (Accepted s w (pgLane l.val)) ∧ (bit w.val.toNat 0 = true ∧ bits w.val.toNat 2 3 = 0) ∧ (s.laneState l.val ≠ 0) :=
  ⟨7, hw 1, ((rdy.wr LANE_STAT.STATE 7 4)), by decide⟩

theorem wit_LaneCommands_21 : ∃ (l : Fin 256) (w : Wr) (s : State),
    (Accepted s w (pgLane l.val)) ∧ (bits w.val.toNat 2 3 ≠ 0) :=
  ⟨7, hw 17, ((rdy.wr LANE_STAT.STATE 7 5).wr LANE_STAT.ADMIT_WAIT 7 1), by decide⟩

theorem wit_LaneCommands_22 : ∃ (l : Fin 256) (w : Wr) (s : State),
    (Accepted s w (pgLane l.val)) ∧ (bit w.val.toNat 0 = false ∧ bits w.val.toNat 2 3 = 0) ∧ (s.laneState l.val = 0) :=
  ⟨7, hw 0, rdy, by decide⟩

theorem wit_LaneCommands_23 : ∃ (l : Fin 256) (s : State),
    (s.laneState l.val = 1) ∧ ((s.lphy l.val).detFrom = none ∧ (s.lphy l.val).confirm = false ∧ (s.lphy l.val).attempt + 5000 * s.rd LANE_RXDET.PERIOD l.val ≤ s.tb) :=
  ⟨7, { ((rdy.wr LANE_STAT.STATE 7 1)) with tb := 500000 }, by decide⟩

theorem wit_LaneCommands_24 : ∃ (l : Fin 256) (s : State),
    (s.laneState l.val = 1) ∧ ((s.lphy l.val).detFrom = none ∧ (s.lphy l.val).confirm = true ∧ (s.lphy l.val).attempt + 5000 ≤ s.tb) :=
  ⟨7, { (((rdy.wr LANE_STAT.STATE 7 1)).modLphy 7 fun p => { p with confirm := true }) with tb := 5000 }, by decide⟩

theorem wit_LaneCommands_25 : ∃ (l : Fin 256) (s : State),
    (s.laneState l.val ≠ 1) :=
  ⟨7, rdy, by decide⟩

theorem wit_LaneCommands_26 : ∃ (l : Fin 256) (s : State),
    (s.laneState l.val = 1) ∧ ((s.lphy l.val).detFrom ≠ none ∨ s.tb < (s.lphy l.val).attempt + (if (s.lphy l.val).confirm = true then 5000 else 5000 * s.rd LANE_RXDET.PERIOD l.val)) :=
  ⟨7, { ((rdy.wr LANE_STAT.STATE 7 1)).modLphy 7 (fun p => { p with confirm := true }) with tb := 4999 }, by decide⟩

theorem wit_LaneCommands_27_1 : ∃ (l : Fin 256) (term : Bool) (d : Nat) (s : State),
    (s.laneState l.val = 1) ∧ ((s.lphy l.val).detFrom = some d ∧ d + 2500 ≤ s.tb) ∧ ((term && (s.lphy l.val).confirm) = false) :=
  ⟨7, true, 0, { (((rdy.wr LANE_STAT.STATE 7 1)).modLphy 7 fun p => { p with detFrom := some 0, confirm := false }) with tb := 2500 }, by decide⟩

theorem wit_LaneCommands_27_2 : ∃ (l : Fin 256) (term : Bool) (d : Nat) (s : State),
    (s.laneState l.val = 1) ∧ ((s.lphy l.val).detFrom = some d ∧ d + 2500 ≤ s.tb) ∧ ((term && (s.lphy l.val).confirm) = false) :=
  ⟨7, false, 0, { (((rdy.wr LANE_STAT.STATE 7 1)).modLphy 7 fun p => { p with detFrom := some 0, confirm := true }) with tb := 2500 }, by decide⟩

theorem wit_LaneCommands_28 : ∃ (l : Fin 256) (term : Bool) (d : Nat) (s : State),
    (s.laneState l.val = 1) ∧ ((s.lphy l.val).detFrom = some d ∧ d + 2500 ≤ s.tb) ∧ (term = true ∧ (s.lphy l.val).confirm = true) :=
  ⟨7, true, 0, { (((rdy.wr LANE_STAT.STATE 7 1)).modLphy 7 fun p => { p with detFrom := some 0, confirm := true }) with tb := 2500 }, by decide⟩

theorem wit_LaneCommands_29 : ∃ (l : Fin 256) (s : State),
    (s.laneState l.val ≠ 1 ∨ (s.lphy l.val).detFrom.all (fun d => decide (s.tb < d + 2500)) = true) :=
  ⟨7, { (((rdy.wr LANE_STAT.STATE 7 1)).modLphy 7 fun p => { p with detFrom := some 0 }) with tb := 2499 }, by decide⟩

theorem wit_LaneCommands_30 : ∃ (l : Fin 256) (s : State),
    (2 ≤ s.laneState l.val ∧ s.laneState l.val ≠ 5) :=
  ⟨7, ((rdy.wr LANE_STAT.STATE 7 3)), by decide⟩

theorem wit_LaneCommands_31 : ∃ (l : Fin 256) (s : State),
    (s.laneState l.val = 5) ∧ ((s.lphy l.val).leave = none) :=
  ⟨7, ((rdy.wr LANE_STAT.STATE 7 5)), by decide⟩

theorem wit_LaneCommands_32 : ∃ (l : Fin 256) (s : State),
    (s.laneState l.val < 2) :=
  ⟨7, rdy.wr LANE_STAT.STATE 7 1, by decide⟩

theorem wit_LaneCommands_33 : ∃ (l : Fin 256) (s : State),
    (s.laneState l.val = 2) ∧ ((s.lphy l.val).toTrain.all (fun x => decide (s.tb < x)) = true ∧ (s.lphy l.val).since + 1000000 ≤ s.tb) :=
  ⟨7, { ((rdy.wr LANE_STAT.STATE 7 2)) with tb := 1000000 }, by decide⟩

theorem wit_LaneCommands_34 : ∃ (l : Fin 256) (s : State),
    (s.laneState l.val = 3) ∧ ((s.lphy l.val).since + 4000000 ≤ s.tb) :=
  ⟨7, { ((rdy.wr LANE_STAT.STATE 7 3)) with tb := 4000000 }, by decide⟩

theorem wit_LaneCommands_35 : ∃ (l : Fin 256) (s : State),
    (s.laneState l.val = 4) ∧ ((s.lphy l.val).since + 500000 ≤ s.tb) ∧ ((s.lphy l.val).entry = none ∧ s.on LANE_STAT.ADMIT_WAIT l.val = false) :=
  ⟨7, { ((rdy.wr LANE_STAT.STATE 7 4)) with tb := 500000 }, by decide⟩

theorem wit_LaneCommands_36 : ∃ (l : Fin 256) (s : State),
    (s.laneState l.val = 6) ∧ ((s.lphy l.val).since + 50000 ≤ s.tb) ∧ ((s.lphy l.val).entry = none ∧ s.on LANE_STAT.ADMIT_WAIT l.val = false) :=
  ⟨7, { ((rdy.wr LANE_STAT.STATE 7 6)) with tb := 50000 }, by decide⟩

theorem wit_LaneCommands_37 : ∃ (l : Fin 256) (s : State),
    (s.laneState l.val = 3) ∧ (s.tb < (s.lphy l.val).since + 4000000) :=
  ⟨7, { ((rdy.wr LANE_STAT.STATE 7 3)) with tb := 3999999 }, by decide⟩

theorem wit_LaneCommands_38 : ∃ (l : Fin 256) (x : Nat) (s : State),
    (s.laneState l.val = 2) ∧ ((s.lphy l.val).toTrain = some x ∧ x ≤ s.tb) :=
  ⟨7, 100, { ((rdy.wr LANE_STAT.STATE 7 2)).modLphy 7 (fun p => { p with toTrain := some 100, sel := 3 }) with tb := 100 }, by decide⟩

theorem wit_LaneCommands_39 : ∃ (l : Fin 256) (s : State),
    ((s.laneState l.val = 2 ∧ (s.lphy l.val).toTrain.all (fun x => decide (s.tb < x)) = true ∧ s.tb < (s.lphy l.val).since + 1000000) ∨ (s.laneState l.val = 4 ∧ (s.tb < (s.lphy l.val).since + 500000 ∨ (s.lphy l.val).entry ≠ none ∨ s.on LANE_STAT.ADMIT_WAIT l.val = true)) ∨ (s.laneState l.val = 6 ∧ (s.tb < (s.lphy l.val).since + 50000 ∨ (s.lphy l.val).entry ≠ none ∨ s.on LANE_STAT.ADMIT_WAIT l.val = true)) ∨ s.laneState l.val = 0 ∨ s.laneState l.val = 1 ∨ s.laneState l.val = 5) :=
  ⟨7, { ((rdy.wr LANE_STAT.STATE 7 4).modLphy 7 fun p => { p with entry := some 8 }) with tb := 500000 }, by decide⟩

theorem wit_LaneCommands_40 : ∃ (l : Fin 256) (b : Nat) (k : Nat) (s : State),
    ((s.lphy l.val).leave = some (b, 1, k) ∧ b ≤ s.epoch) ∧ (s.laneState l.val = 5) :=
  ⟨7, 8, 3, { (((rdy.wr LANE_STAT.STATE 7 5)).modLphy 7 fun p => { p with leave := some (8, 1, 3) }) with epoch := 8 }, by decide⟩

theorem wit_LaneCommands_41 : ∃ (l : Fin 256) (b : Nat) (k : Nat) (s : State),
    ((s.lphy l.val).leave = some (b, 6, k) ∧ b ≤ s.epoch) ∧ (s.laneState l.val = 5) :=
  ⟨7, 8, 3, { (((rdy.wr LANE_STAT.STATE 7 5)).modLphy 7 fun p => { p with leave := some (8, 6, 3) }) with epoch := 8 }, by decide⟩

theorem wit_LaneCommands_42 : ∃ (l : Fin 256) (b : Nat) (k : Nat) (d : Nat) (s : State),
    ((s.lphy l.val).leave = some (b, k, d) ∧ s.epoch < b) :=
  ⟨7, 8, 1, 3, (((rdy.wr LANE_STAT.STATE 7 5)).modLphy 7 fun p => { p with leave := some (8, 1, 3) }), by decide⟩

theorem wit_LaneCommands_43 : ∃ (l : Fin 256) (s : State),
    ((s.lphy l.val).leave = none ∨ s.laneState l.val ≠ 5) :=
  ⟨7, (rdy.wr LANE_STAT.STATE 7 5), by decide⟩

theorem wit_LaneCommands_44 : ∃ (l : Fin 256) (s : State),
    (s.laneState l.val = 5 ∧ (s.lphy l.val).ivFrom + 500000 ≤ s.tb) :=
  ⟨7, { ((rdy.wr LANE_STAT.STATE 7 5)) with tb := 500000 }, by decide⟩

theorem wit_LaneCommands_45 : ∃ (l : Fin 256) (s : State),
    (s.laneState l.val ≠ 5 ∨ s.tb < (s.lphy l.val).ivFrom + 500000) :=
  ⟨7, { ((rdy.wr LANE_STAT.STATE 7 5)) with tb := 499999 }, by decide⟩

theorem wit_LaneCommands_46 : ∃ (l : Fin 256) (s : State),
    (s.laneState l.val = 5 ∧ s.rd LANE_ERR_LIM.LIMIT l.val ≠ 0 ∧ s.rd LANE_ERR_LIM.LIMIT l.val ≤ (s.lphy l.val).ivErr) ∧ ((s.lphy l.val).leave = none) :=
  ⟨7, ((rdy.wr LANE_STAT.STATE 7 5).modLphy 7 fun p => { p with ivErr := 16 }), by decide⟩

theorem wit_LaneCommands_47 : ∃ (l : Fin 256) (s : State),
    ((s.lphy l.val).ivErr < s.rd LANE_ERR_LIM.LIMIT l.val) :=
  ⟨7, ((rdy.wr LANE_STAT.STATE 7 5)), by decide⟩

theorem wit_LaneCommands_48 : ∃ (l : Fin 256) (s : State),
    (s.laneState l.val ≠ 5 ∨ s.rd LANE_ERR_LIM.LIMIT l.val = 0 ∨ ((s.lphy l.val).leave ≠ none ∧ (s.lphy l.val).leaveAt ≠ s.tb)) :=
  ⟨7, ((rdy.wr LANE_STAT.STATE 7 4).modLphy 7 fun p => { p with ivErr := 16 }), by decide⟩

theorem wit_LaneLink_1 : ∃ (l : Fin 256) (hdr : BitVec 4) (s : State),
    (s.laneState l.val ≠ 2 ∨ (s.lphy l.val).toTrain.all (fun x => decide (s.tb < x)) = true) ∧ (headerBad (s.rxHeader l.val hdr.toNat) = true) ∧ (2 ≤ s.laneState l.val ∧ (s.on LANE_STAT.BLOCK_LOCK l.val = false ∨ ((true :: (s.lphy l.val).bad).take 64).countP (· == true) < 16)) :=
  ⟨7, 0, ((rdy.wr LANE_STAT.STATE 7 5)), by decide⟩

theorem wit_LaneLink_2 : ∃ (l : Fin 256) (hdr : BitVec 4) (s : State),
    (headerBad (s.rxHeader l.val hdr.toNat) = true) ∧ (s.laneState l.val = 5 ∧ s.on LANE_STAT.BLOCK_LOCK l.val = true ∧ 16 ≤ ((true :: (s.lphy l.val).bad).take 64).countP (· == true)) ∧ ((s.lphy l.val).leave = none) :=
  ⟨7, 0, ((rdy.wr LANE_STAT.STATE 7 5).wr LANE_STAT.BLOCK_LOCK 7 1 |>.modLphy 7 fun p => { p with bad := List.replicate 15 true }), by decide⟩

theorem wit_LaneLink_3 : ∃ (l : Fin 256) (hdr : BitVec 4) (s : State),
    (s.laneState l.val ≠ 2 ∨ (s.lphy l.val).toTrain.all (fun x => decide (s.tb < x)) = true) ∧ (headerBad (s.rxHeader l.val hdr.toNat) = false) ∧ ((s.rxHeader l.val hdr.toNat) ≠ 8 ∧ 2 ≤ s.laneState l.val ∧ s.laneState l.val ≠ 5 ∧ s.on LANE_STAT.BLOCK_LOCK l.val = false ∧ 63 ≤ (s.lphy l.val).okRun) :=
  ⟨7, 4, ((rdy.wr LANE_STAT.STATE 7 3).modLphy 7 fun p => { p with okRun := 63 }), by decide⟩

theorem wit_LaneLink_4 : ∃ (l : Fin 256) (hdr : BitVec 4) (s : State),
    (headerBad (s.rxHeader l.val hdr.toNat) = false) ∧ (s.on LANE_STAT.BLOCK_LOCK l.val = true ∧ ((false :: (s.lphy l.val).bad).take 64).countP (· == true) < 16) ∧ (s.laneState l.val = 5 ∧ (s.rxHeader l.val hdr.toNat) % 4 = 1) :=
  ⟨7, 5, ((rdy.wr LANE_STAT.STATE 7 5).wr LANE_STAT.BLOCK_LOCK 7 1), by decide⟩

theorem wit_LaneLink_5 : ∃ (l : Fin 256) (hdr : BitVec 4) (s : State),
    (headerBad (s.rxHeader l.val hdr.toNat) = false) ∧ (s.on LANE_STAT.BLOCK_LOCK l.val = true ∧ ((false :: (s.lphy l.val).bad).take 64).countP (· == true) < 16) ∧ (s.laneState l.val = 5 ∧ (s.rxHeader l.val hdr.toNat) % 4 = 2 ∧ (s.rxHeader l.val hdr.toNat) ≠ 8) :=
  ⟨7, 6, ((rdy.wr LANE_STAT.STATE 7 5).wr LANE_STAT.BLOCK_LOCK 7 1), by decide⟩

theorem wit_LaneLink_6 : ∃ (l : Fin 256) (hdr : BitVec 4) (s : State),
    (headerBad (s.rxHeader l.val hdr.toNat) = false) ∧ (s.on LANE_STAT.BLOCK_LOCK l.val = true ∧ ((false :: (s.lphy l.val).bad).take 64).countP (· == true) < 16) ∧ (s.laneState l.val = 5 ∧ (s.rxHeader l.val hdr.toNat) ≠ 8 ∧ (s.rxHeader l.val hdr.toNat) % 4 ≠ 1 ∧ (s.rxHeader l.val hdr.toNat) % 4 ≠ 2) :=
  ⟨7, 7, ((rdy.wr LANE_STAT.STATE 7 5).wr LANE_STAT.BLOCK_LOCK 7 1), by decide⟩

theorem wit_LaneLink_7 : ∃ (l : Fin 256) (hdr : BitVec 4) (payload : BitVec 128) (s : State),
    (s.laneState l.val ≠ 2 ∨ (s.lphy l.val).toTrain.all (fun x => decide (s.tb < x)) = true) ∧ ((s.rxHeader l.val hdr.toNat) = 8) ∧ (s.on LANE_STAT.BLOCK_LOCK l.val = true ∧ ((false :: (s.lphy l.val).bad).take 64).countP (· == true) < 16) ∧ (s.laneState l.val ≠ 5 ∧ 2 ≤ s.laneState l.val ∧ pbyte (s.descramble l.val (s.rxHeader l.val hdr.toNat) (s.rxPayload l.val payload.toNat)).1 0 = 0x0F ∧ 1 ≤ pbyte (s.descramble l.val (s.rxHeader l.val hdr.toNat) (s.rxPayload l.val payload.toNat)).1 1 ∧ pbyte (s.descramble l.val (s.rxHeader l.val hdr.toNat) (s.rxPayload l.val payload.toNat)).1 1 ≤ 3) :=
  ⟨7, 8, (BitVec.ofNat 128 (527 ^^^ (lfsrRun 128 lfsrSeed).1)), ((rdy.wr LANE_STAT.STATE 7 3).wr LANE_STAT.BLOCK_LOCK 7 1), by decide +kernel⟩

theorem wit_LaneLink_8_1 : ∃ (l : Fin 256) (hdr : BitVec 4) (payload : BitVec 128) (s : State),
    (s.laneState l.val ≠ 2 ∨ (s.lphy l.val).toTrain.all (fun x => decide (s.tb < x)) = true) ∧ ((s.rxHeader l.val hdr.toNat) = 8) ∧ (s.on LANE_STAT.BLOCK_LOCK l.val = true ∧ ((false :: (s.lphy l.val).bad).take 64).countP (· == true) < 16) ∧ ((pbyte (s.descramble l.val (s.rxHeader l.val hdr.toNat) (s.rxPayload l.val payload.toNat)).1 0 = 0x0F ∧ (s.laneState l.val = 5 ∨ pbyte (s.descramble l.val (s.rxHeader l.val hdr.toNat) (s.rxPayload l.val payload.toNat)).1 1 = 0 ∨ 3 < pbyte (s.descramble l.val (s.rxHeader l.val hdr.toNat) (s.rxPayload l.val payload.toNat)).1 1)) ∨ (4 ≤ pbyte (s.descramble l.val (s.rxHeader l.val hdr.toNat) (s.rxPayload l.val payload.toNat)).1 0 ∧ pbyte (s.descramble l.val (s.rxHeader l.val hdr.toNat) (s.rxPayload l.val payload.toNat)).1 0 ≠ 0x0F ∧ pbyte (s.descramble l.val (s.rxHeader l.val hdr.toNat) (s.rxPayload l.val payload.toNat)).1 0 ≠ 5 ∧ pbyte (s.descramble l.val (s.rxHeader l.val hdr.toNat) (s.rxPayload l.val payload.toNat)).1 0 ≠ 8) ∨ pbyte (s.descramble l.val (s.rxHeader l.val hdr.toNat) (s.rxPayload l.val payload.toNat)).1 0 = 0 ∨ pbyte (s.descramble l.val (s.rxHeader l.val hdr.toNat) (s.rxPayload l.val payload.toNat)).1 0 = 3) ∧ (2 ≤ s.laneState l.val) :=
  ⟨7, 8, (BitVec.ofNat 128 (15 ^^^ (lfsrRun 128 lfsrSeed).1)), ((rdy.wr LANE_STAT.STATE 7 3).wr LANE_STAT.BLOCK_LOCK 7 1), by decide +kernel⟩

theorem wit_LaneLink_8_2 : ∃ (l : Fin 256) (hdr : BitVec 4) (payload : BitVec 128) (s : State),
    (s.laneState l.val ≠ 2 ∨ (s.lphy l.val).toTrain.all (fun x => decide (s.tb < x)) = true) ∧ ((s.rxHeader l.val hdr.toNat) = 8) ∧ (s.on LANE_STAT.BLOCK_LOCK l.val = true ∧ ((false :: (s.lphy l.val).bad).take 64).countP (· == true) < 16) ∧ ((pbyte (s.descramble l.val (s.rxHeader l.val hdr.toNat) (s.rxPayload l.val payload.toNat)).1 0 = 0x0F ∧ (s.laneState l.val = 5 ∨ pbyte (s.descramble l.val (s.rxHeader l.val hdr.toNat) (s.rxPayload l.val payload.toNat)).1 1 = 0 ∨ 3 < pbyte (s.descramble l.val (s.rxHeader l.val hdr.toNat) (s.rxPayload l.val payload.toNat)).1 1)) ∨ (4 ≤ pbyte (s.descramble l.val (s.rxHeader l.val hdr.toNat) (s.rxPayload l.val payload.toNat)).1 0 ∧ pbyte (s.descramble l.val (s.rxHeader l.val hdr.toNat) (s.rxPayload l.val payload.toNat)).1 0 ≠ 0x0F ∧ pbyte (s.descramble l.val (s.rxHeader l.val hdr.toNat) (s.rxPayload l.val payload.toNat)).1 0 ≠ 5 ∧ pbyte (s.descramble l.val (s.rxHeader l.val hdr.toNat) (s.rxPayload l.val payload.toNat)).1 0 ≠ 8) ∨ pbyte (s.descramble l.val (s.rxHeader l.val hdr.toNat) (s.rxPayload l.val payload.toNat)).1 0 = 0 ∨ pbyte (s.descramble l.val (s.rxHeader l.val hdr.toNat) (s.rxPayload l.val payload.toNat)).1 0 = 3) ∧ (2 ≤ s.laneState l.val) :=
  ⟨7, 8, (BitVec.ofNat 128 (6 ^^^ (lfsrRun 128 lfsrSeed).1)), ((rdy.wr LANE_STAT.STATE 7 4).wr LANE_STAT.BLOCK_LOCK 7 1), by decide +kernel⟩

theorem wit_LaneLink_9 : ∃ (l : Fin 256) (hdr : BitVec 4) (payload : BitVec 128) (s : State),
    ((s.lphy l.val).toTrain = none) ∧ ((s.rxHeader l.val hdr.toNat) = 8) ∧ (s.on LANE_STAT.BLOCK_LOCK l.val = true ∧ ((false :: (s.lphy l.val).bad).take 64).countP (· == true) < 16) ∧ (s.laneState l.val = 2 ∧ pbyte (s.descramble l.val (s.rxHeader l.val hdr.toNat) (s.rxPayload l.val payload.toNat)).1 0 = 1 ∧ (pbyte (s.descramble l.val (s.rxHeader l.val hdr.toNat) (s.rxPayload l.val payload.toNat)).1 1) ≤ 7 ∧ (pbyte (s.descramble l.val (s.rxHeader l.val hdr.toNat) (s.rxPayload l.val payload.toNat)).1 2 ≤ 3 ∨ pbyte (s.descramble l.val (s.rxHeader l.val hdr.toNat) (s.rxPayload l.val payload.toNat)).1 2 = 0xFF)) ∧ ((s.lphy l.val).sel = 0 ∧ (s.lphy l.val).vers = 3 ∧ commonVersion (s.lphy l.val).offer (pbyte (s.descramble l.val (s.rxHeader l.val hdr.toNat) (s.rxPayload l.val payload.toNat)).1 1) ≠ 0xFF) :=
  ⟨7, 8, (BitVec.ofNat 128 (1793 ^^^ (lfsrRun 128 lfsrSeed).1)), ((rdy.wr LANE_STAT.STATE 7 2).wr LANE_STAT.BLOCK_LOCK 7 1 |>.modLphy 7 fun p => { p with offer := 7, vers := 3 }), by decide +kernel⟩

theorem wit_LaneLink_10 : ∃ (l : Fin 256) (hdr : BitVec 4) (payload : BitVec 128) (s : State),
    ((s.lphy l.val).toTrain = none) ∧ ((s.rxHeader l.val hdr.toNat) = 8) ∧ (s.on LANE_STAT.BLOCK_LOCK l.val = true ∧ ((false :: (s.lphy l.val).bad).take 64).countP (· == true) < 16) ∧ (s.laneState l.val = 2 ∧ pbyte (s.descramble l.val (s.rxHeader l.val hdr.toNat) (s.rxPayload l.val payload.toNat)).1 0 = 1 ∧ (pbyte (s.descramble l.val (s.rxHeader l.val hdr.toNat) (s.rxPayload l.val payload.toNat)).1 1) ≤ 7 ∧ (pbyte (s.descramble l.val (s.rxHeader l.val hdr.toNat) (s.rxPayload l.val payload.toNat)).1 2 ≤ 3 ∨ pbyte (s.descramble l.val (s.rxHeader l.val hdr.toNat) (s.rxPayload l.val payload.toNat)).1 2 = 0xFF)) ∧ ((s.lphy l.val).sel = 0 ∧ (s.lphy l.val).vers = 3 ∧ commonVersion (s.lphy l.val).offer (pbyte (s.descramble l.val (s.rxHeader l.val hdr.toNat) (s.rxPayload l.val payload.toNat)).1 1) = 0xFF) :=
  ⟨7, 8, (BitVec.ofNat 128 (257 ^^^ (lfsrRun 128 lfsrSeed).1)), ((rdy.wr LANE_STAT.STATE 7 2).wr LANE_STAT.BLOCK_LOCK 7 1 |>.modLphy 7 fun p => { p with offer := 4, vers := 3 }), by decide +kernel⟩

theorem wit_LaneLink_11 : ∃ (l : Fin 256) (hdr : BitVec 4) (payload : BitVec 128) (s : State),
    ((s.lphy l.val).toTrain = none) ∧ ((s.rxHeader l.val hdr.toNat) = 8) ∧ (s.on LANE_STAT.BLOCK_LOCK l.val = true ∧ ((false :: (s.lphy l.val).bad).take 64).countP (· == true) < 16) ∧ (s.laneState l.val = 2 ∧ pbyte (s.descramble l.val (s.rxHeader l.val hdr.toNat) (s.rxPayload l.val payload.toNat)).1 0 = 1 ∧ (pbyte (s.descramble l.val (s.rxHeader l.val hdr.toNat) (s.rxPayload l.val payload.toNat)).1 1) ≤ 7 ∧ (pbyte (s.descramble l.val (s.rxHeader l.val hdr.toNat) (s.rxPayload l.val payload.toNat)).1 2 ≤ 3 ∨ pbyte (s.descramble l.val (s.rxHeader l.val hdr.toNat) (s.rxPayload l.val payload.toNat)).1 2 = 0xFF)) ∧ ((s.lphy l.val).sel = 0 ∧ (s.lphy l.val).vers < 3) :=
  ⟨7, 8, (BitVec.ofNat 128 (1793 ^^^ (lfsrRun 128 lfsrSeed).1)), ((rdy.wr LANE_STAT.STATE 7 2).wr LANE_STAT.BLOCK_LOCK 7 1 |>.modLphy 7 fun p => { p with offer := 4, vers := 2 }), by decide +kernel⟩

theorem wit_LaneLink_12 : ∃ (l : Fin 256) (hdr : BitVec 4) (payload : BitVec 128) (s : State),
    ((s.lphy l.val).toTrain = none) ∧ ((s.rxHeader l.val hdr.toNat) = 8) ∧ (s.on LANE_STAT.BLOCK_LOCK l.val = true ∧ ((false :: (s.lphy l.val).bad).take 64).countP (· == true) < 16) ∧ (s.laneState l.val = 2 ∧ pbyte (s.descramble l.val (s.rxHeader l.val hdr.toNat) (s.rxPayload l.val payload.toNat)).1 0 = 1 ∧ (pbyte (s.descramble l.val (s.rxHeader l.val hdr.toNat) (s.rxPayload l.val payload.toNat)).1 1) ≤ 7 ∧ (pbyte (s.descramble l.val (s.rxHeader l.val hdr.toNat) (s.rxPayload l.val payload.toNat)).1 2 ≤ 3 ∨ pbyte (s.descramble l.val (s.rxHeader l.val hdr.toNat) (s.rxPayload l.val payload.toNat)).1 2 = 0xFF)) ∧ ((s.lphy l.val).sel ≠ 0 ∧ (s.lphy l.val).agree = 7 ∧ pbyte (s.descramble l.val (s.rxHeader l.val hdr.toNat) (s.rxPayload l.val payload.toNat)).1 2 = (s.lphy l.val).sel) :=
  ⟨7, 8, (BitVec.ofNat 128 (198401 ^^^ (lfsrRun 128 lfsrSeed).1)), ((rdy.wr LANE_STAT.STATE 7 2).wr LANE_STAT.BLOCK_LOCK 7 1 |>.modLphy 7 fun p => { p with offer := 4, sel := 3, agree := 7 }), by decide +kernel⟩

theorem wit_LaneLink_13 : ∃ (l : Fin 256) (hdr : BitVec 4) (payload : BitVec 128) (s : State),
    ((s.lphy l.val).toTrain = none) ∧ ((s.rxHeader l.val hdr.toNat) = 8) ∧ (s.on LANE_STAT.BLOCK_LOCK l.val = true ∧ ((false :: (s.lphy l.val).bad).take 64).countP (· == true) < 16) ∧ (s.laneState l.val = 2 ∧ pbyte (s.descramble l.val (s.rxHeader l.val hdr.toNat) (s.rxPayload l.val payload.toNat)).1 0 = 1 ∧ (pbyte (s.descramble l.val (s.rxHeader l.val hdr.toNat) (s.rxPayload l.val payload.toNat)).1 1) ≤ 7 ∧ (pbyte (s.descramble l.val (s.rxHeader l.val hdr.toNat) (s.rxPayload l.val payload.toNat)).1 2 ≤ 3 ∨ pbyte (s.descramble l.val (s.rxHeader l.val hdr.toNat) (s.rxPayload l.val payload.toNat)).1 2 = 0xFF)) ∧ ((s.lphy l.val).sel ≠ 0 ∧ pbyte (s.descramble l.val (s.rxHeader l.val hdr.toNat) (s.rxPayload l.val payload.toNat)).1 2 ≠ (s.lphy l.val).sel) :=
  ⟨7, 8, (BitVec.ofNat 128 (132865 ^^^ (lfsrRun 128 lfsrSeed).1)), ((rdy.wr LANE_STAT.STATE 7 2).wr LANE_STAT.BLOCK_LOCK 7 1 |>.modLphy 7 fun p => { p with offer := 4, sel := 3, agree := 7 }), by decide +kernel⟩

theorem wit_LaneLink_14 : ∃ (l : Fin 256) (hdr : BitVec 4) (payload : BitVec 128) (s : State),
    ((s.rxHeader l.val hdr.toNat) = 8) ∧ (s.on LANE_STAT.BLOCK_LOCK l.val = true ∧ ((false :: (s.lphy l.val).bad).take 64).countP (· == true) < 16) ∧ ((s.laneState l.val = 3 ∨ s.laneState l.val = 6) ∧ pbyte (s.descramble l.val (s.rxHeader l.val hdr.toNat) (s.rxPayload l.val payload.toNat)).1 0 = 2 ∧ bits (pbyte (s.descramble l.val (s.rxHeader l.val hdr.toNat) (s.rxPayload l.val payload.toNat)).1 1) 0 2 ≠ 3 ∧ bits (pbyte (s.descramble l.val (s.rxHeader l.val hdr.toNat) (s.rxPayload l.val payload.toNat)).1 1) 2 2 ≠ 3 ∧ pbyte (s.descramble l.val (s.rxHeader l.val hdr.toNat) (s.rxPayload l.val payload.toNat)).1 2 ≠ (s.lphy l.val).ack) :=
  ⟨7, 8, (BitVec.ofNat 128 (69890 ^^^ (lfsrRun 128 lfsrSeed).1)), ((rdy.wr LANE_STAT.STATE 7 3).wr LANE_STAT.BLOCK_LOCK 7 1), by decide +kernel⟩

theorem wit_LaneLink_15 : ∃ (l : Fin 256) (hdr : BitVec 4) (payload : BitVec 128) (s : State),
    ((s.rxHeader l.val hdr.toNat) = 8) ∧ (s.on LANE_STAT.BLOCK_LOCK l.val = true ∧ ((false :: (s.lphy l.val).bad).take 64).countP (· == true) < 16) ∧ ((s.laneState l.val = 3 ∨ s.laneState l.val = 6) ∧ pbyte (s.descramble l.val (s.rxHeader l.val hdr.toNat) (s.rxPayload l.val payload.toNat)).1 0 = 2 ∧ bits (pbyte (s.descramble l.val (s.rxHeader l.val hdr.toNat) (s.rxPayload l.val payload.toNat)).1 1) 0 2 ≠ 3 ∧ bits (pbyte (s.descramble l.val (s.rxHeader l.val hdr.toNat) (s.rxPayload l.val payload.toNat)).1 1) 2 2 ≠ 3 ∧ pbyte (s.descramble l.val (s.rxHeader l.val hdr.toNat) (s.rxPayload l.val payload.toNat)).1 2 = (s.lphy l.val).ack) :=
  ⟨7, 8, (BitVec.ofNat 128 (4098 ^^^ (lfsrRun 128 lfsrSeed).1)), ((rdy.wr LANE_STAT.STATE 7 6).wr LANE_STAT.BLOCK_LOCK 7 1), by decide +kernel⟩

theorem wit_LaneLink_16 : ∃ (l : Fin 256) (hdr : BitVec 4) (payload : BitVec 128) (s : State),
    ((s.rxHeader l.val hdr.toNat) = 8) ∧ (s.on LANE_STAT.BLOCK_LOCK l.val = true ∧ ((false :: (s.lphy l.val).bad).take 64).countP (· == true) < 16) ∧ (s.laneState l.val = 6 ∧ pbyte (s.descramble l.val (s.rxHeader l.val hdr.toNat) (s.rxPayload l.val payload.toNat)).1 0 = 8) :=
  ⟨7, 8, (BitVec.ofNat 128 (4104 ^^^ (lfsrRun 128 lfsrSeed).1)), ((rdy.wr LANE_STAT.STATE 7 6).wr LANE_STAT.BLOCK_LOCK 7 1), by decide +kernel⟩

theorem wit_LaneLink_17 : ∃ (l : Fin 256) (pre : Fin 3) (post : Fin 3) (seq : Nat) (s : State),
    (s.laneState l.val = 3 ∧ s.epoch % (s.lphy l.val).rate = 0) ∧ ((s.lphy l.val).req = some (pre.val, post.val, seq) ∧ (pre.val = 0 ∨ post.val = 0) ∧ (pre.val = 1 → s.rd LANE_EQ_TX.CPRE l.val < 7) ∧ (pre.val = 2 → 0 < s.rd LANE_EQ_TX.CPRE l.val) ∧ (post.val = 1 → s.rd LANE_EQ_TX.CPOST l.val < 15) ∧ (post.val = 2 → 0 < s.rd LANE_EQ_TX.CPOST l.val)) :=
  ⟨7, 1, 0, 5, ((rdy.wr LANE_STAT.STATE 7 3).modLphy 7 fun p => { p with rate := 4, req := some (1, 0, 5) }), by decide⟩

theorem wit_LaneLink_18 : ∃ (l : Fin 256) (pre : Fin 3) (post : Fin 3) (seq : Nat) (s : State),
    (s.laneState l.val = 3 ∧ s.epoch % (s.lphy l.val).rate = 0) ∧ ((s.lphy l.val).req = some (pre.val, post.val, seq) ∧ ((pre.val ≠ 0 ∧ post.val ≠ 0) ∨ (pre.val = 1 ∧ 7 ≤ s.rd LANE_EQ_TX.CPRE l.val) ∨ (pre.val = 2 ∧ s.rd LANE_EQ_TX.CPRE l.val = 0) ∨ (post.val = 1 ∧ 15 ≤ s.rd LANE_EQ_TX.CPOST l.val) ∨ (post.val = 2 ∧ s.rd LANE_EQ_TX.CPOST l.val = 0))) :=
  ⟨7, 2, 0, 5, ((rdy.wr LANE_STAT.STATE 7 3).modLphy 7 fun p => { p with rate := 4, req := some (2, 0, 5) }), by decide⟩

theorem wit_LaneLink_19 : ∃ (l : Fin 256) (b : List Nat) (rest : List (List Nat)) (s : State),
    ((s.laneState l.val = 1 ∨ s.laneState l.val = 3 ∨ s.laneState l.val = 6) ∧ s.epoch % (s.lphy l.val).rate = 0 ∧ (s.lphy l.val).req = none ∧ (s.lphy l.val).entry = none) ∧ ((s.lphy l.val).tx = b :: rest) :=
  ⟨7, [0x0F, 1], [[0x0F, 1]], ((rdy.wr LANE_STAT.STATE 7 1).modLphy 7 fun p => { p with rate := 4, tx := [[0x0F, 1], [0x0F, 1]] }), by decide⟩

theorem wit_LaneLink_20 : ∃ (l : Fin 256) (b : List Nat) (s : State),
    (2 < s.laneState l.val ∧ s.laneState l.val ≠ 5 ∧ s.epoch % (s.lphy l.val).rate = 0 ∧ (s.lphy l.val).req = none ∧ (s.lphy l.val).entry = none) ∧ ((s.lphy l.val).tx = [] ∧ s.fillBlock l.val = some b) :=
  ⟨7, [0x06], ((rdy.wr LANE_STAT.STATE 7 4).modLphy 7 fun p => { p with rate := 4 }), by decide +kernel⟩

theorem wit_LaneLink_21 : ∃ (l : Fin 256) (d : Nat) (s : State),
    ((s.laneState l.val = 4 ∨ s.laneState l.val = 6) ∧ s.epoch % (s.lphy l.val).rate = 0 ∧ (s.lphy l.val).req = none) ∧ ((s.lphy l.val).entry = some d ∧ d = s.epoch + (s.lphy l.val).rate) :=
  ⟨7, 4, ((rdy.wr LANE_STAT.STATE 7 4).modLphy 7 fun p => { p with rate := 4, entry := some 4 }), by decide⟩

theorem wit_LaneLink_22 : ∃ (l : Fin 256) (hdr : BitVec 4) (payload : BitVec 128) (s : State),
    ((s.rxHeader l.val hdr.toNat) = 8) ∧ (s.on LANE_STAT.BLOCK_LOCK l.val = true ∧ ((false :: (s.lphy l.val).bad).take 64).countP (· == true) < 16) ∧ (s.laneState l.val = 4 ∧ pbyte (s.descramble l.val (s.rxHeader l.val hdr.toNat) (s.rxPayload l.val payload.toNat)).1 0 = 5 ∧ (s.lphy l.val).agreed = false ∧ capsBad (s.descramble l.val (s.rxHeader l.val hdr.toNat) (s.rxPayload l.val payload.toNat)).1 = false) :=
  ⟨7, 8, (BitVec.ofNat 128 (0x050000001122330705 ^^^ (lfsrRun 128 lfsrSeed).1)), ((rdy.wr LANE_STAT.STATE 7 4).wr LANE_STAT.BLOCK_LOCK 7 1), by decide +kernel⟩

theorem wit_LaneLink_23 : ∃ (l : Fin 256) (hdr : BitVec 4) (payload : BitVec 128) (s : State),
    ((s.rxHeader l.val hdr.toNat) = 8) ∧ (s.on LANE_STAT.BLOCK_LOCK l.val = true ∧ ((false :: (s.lphy l.val).bad).take 64).countP (· == true) < 16) ∧ (s.laneState l.val = 4 ∧ pbyte (s.descramble l.val (s.rxHeader l.val hdr.toNat) (s.rxPayload l.val payload.toNat)).1 0 = 5 ∧ capsBad (s.descramble l.val (s.rxHeader l.val hdr.toNat) (s.rxPayload l.val payload.toNat)).1 = true) :=
  ⟨7, 8, (BitVec.ofNat 128 (2053 ^^^ (lfsrRun 128 lfsrSeed).1)), ((rdy.wr LANE_STAT.STATE 7 4).wr LANE_STAT.BLOCK_LOCK 7 1), by decide +kernel⟩

theorem wit_LaneLink_24 : ∃ (l : Fin 256) (hdr : BitVec 4) (payload : BitVec 128) (s : State),
    ((s.rxHeader l.val hdr.toNat) = 8) ∧ (s.on LANE_STAT.BLOCK_LOCK l.val = true ∧ ((false :: (s.lphy l.val).bad).take 64).countP (· == true) < 16) ∧ (s.laneState l.val = 4 ∧ pbyte (s.descramble l.val (s.rxHeader l.val hdr.toNat) (s.rxPayload l.val payload.toNat)).1 0 = 5 ∧ (s.lphy l.val).agreed = true ∧ capsBad (s.descramble l.val (s.rxHeader l.val hdr.toNat) (s.rxPayload l.val payload.toNat)).1 = false ∧ (s.lphy l.val).tx = [] ∧ (s.lphy l.val).entry = none ∧ s.on LANE_STAT.ADMIT_WAIT l.val = false) ∧ (s.rdA LANE_CFG.ATTACH l.val = 0) :=
  ⟨7, 8, (BitVec.ofNat 128 (1797 ^^^ (lfsrRun 128 lfsrSeed).1)), (((rdy.wr LANE_STAT.STATE 7 4).wr LANE_STAT.BLOCK_LOCK 7 1).modLphy 7 fun p => { p with agreed := true, rate := 4 }), by decide +kernel⟩

theorem wit_LaneLink_25 : ∃ (l : Fin 256) (hdr : BitVec 4) (payload : BitVec 128) (s : State),
    ((s.rxHeader l.val hdr.toNat) = 8) ∧ (s.on LANE_STAT.BLOCK_LOCK l.val = true ∧ ((false :: (s.lphy l.val).bad).take 64).countP (· == true) < 16) ∧ (s.laneState l.val = 4 ∧ pbyte (s.descramble l.val (s.rxHeader l.val hdr.toNat) (s.rxPayload l.val payload.toNat)).1 0 = 5 ∧ (s.lphy l.val).agreed = true ∧ capsBad (s.descramble l.val (s.rxHeader l.val hdr.toNat) (s.rxPayload l.val payload.toNat)).1 = false ∧ (s.lphy l.val).tx = [] ∧ (s.lphy l.val).entry = none ∧ s.on LANE_STAT.ADMIT_WAIT l.val = false) ∧ (s.rdA LANE_CFG.ATTACH l.val ≠ 0) :=
  ⟨7, 8, (BitVec.ofNat 128 (1797 ^^^ (lfsrRun 128 lfsrSeed).1)), (((rdy.wr LANE_STAT.STATE 7 4).wr LANE_STAT.BLOCK_LOCK 7 1).modLphy 7 fun p => { p with agreed := true, rate := 4 }).wrA LANE_CFG.ATTACH 7 1, by decide +kernel⟩

theorem wit_LaneLink_26 : ∃ (l : Fin 256) (s : State),
    (s.laneState l.val < 2) :=
  ⟨7, ((rdy.wr LANE_STAT.STATE 7 1)), by decide⟩

theorem wit_LaneLink_27 : ∃ (l : Fin 4) (hdr : BitVec 4) (s : State),
    (s.portState (decide (2 ≤ l.val)) = 2) ∧ ((((headerBad hdr.toNat) :: (if l.val % 2 = 0 then (s.casPort (portNo (decide (2 ≤ l.val)))).hdrs0 else (s.casPort (portNo (decide (2 ≤ l.val)))).hdrs1)).take 64 |>.filter id).length < 16) :=
  ⟨3, 0, dnSvc, by decide⟩

theorem wit_LaneLink_28 : ∃ (l : Fin 256) (s : State),
    ((s.lphy l.val).rdy = true ∧ s.on LANE_STAT.BLOCK_LOCK l.val = true) ∧ (s.laneState l.val = 3 ∧ s.eyeHeld l.val 50000 = true) :=
  ⟨7, { (((rdy.wr LANE_STAT.STATE 7 3).wr LANE_EYE.HEIGHT 7 1023 |>.wr LANE_EYE.WIDTH 7 255).wr LANE_STAT.BLOCK_LOCK 7 1 |>.modLphy 7 fun p => { p with rdy := true, eyeFrom := some 0, probe := 65533 }) with tb := 50000 }, by decide⟩

theorem wit_LaneLink_29 : ∃ (l : Fin 256) (s : State),
    ((s.lphy l.val).rdy = true ∧ s.on LANE_STAT.BLOCK_LOCK l.val = true) ∧ (s.laneState l.val = 6 ∧ s.eyeHeld l.val 500 = true ∧ (s.lphy l.val).asked = [] ∧ (s.lphy l.val).entry = none) :=
  ⟨7, { (((rdy.wr LANE_STAT.STATE 7 6).wr LANE_EYE.HEIGHT 7 1023 |>.wr LANE_EYE.WIDTH 7 255).wr LANE_STAT.BLOCK_LOCK 7 1 |>.modLphy 7 fun p => { p with rdy := true, eyeFrom := some 0, probe := 65533 }) with tb := 500 }, by decide⟩

theorem wit_LaneLink_30 : ∃ (l : Fin 256) (s : State),
    ((s.lphy l.val).rdy = false ∨ s.on LANE_STAT.BLOCK_LOCK l.val = false ∨ (s.laneState l.val ≠ 3 ∧ s.laneState l.val ≠ 6) ∨ (s.laneState l.val = 3 ∧ s.eyeHeld l.val 50000 = false) ∨ (s.laneState l.val = 6 ∧ (s.eyeHeld l.val 500 = false ∨ (s.lphy l.val).asked ≠ [] ∨ (s.lphy l.val).entry ≠ none))) :=
  ⟨7, { ((rdy.wr LANE_STAT.STATE 7 3).wr LANE_STAT.BLOCK_LOCK 7 1 |>.modLphy 7 fun p => { p with rdy := true, eyeFrom := some 0 }) with tb := 49999 }, by decide⟩

theorem wit_LaneLink_31 : ∃ (l : Fin 256) (id : BitVec 16) (rtt : BitVec 32) (s : State),
    ((s.lphy l.val).asked.contains id.toNat = true ∧ (s.lphy l.val).entry = none) ∧ (s.laneState l.val = 4 ∧ ((s.lphy l.val).rtts ++ [rtt.toNat]).length < 8) :=
  ⟨7, 5, 640, ((rdy.wr LANE_STAT.STATE 7 4).modLphy 7 fun p => { p with asked := [5, 6] }), by decide⟩

theorem wit_LaneLink_32 : ∃ (l : Fin 256) (id : BitVec 16) (rtt : BitVec 32) (s : State),
    ((s.lphy l.val).asked.contains id.toNat = true ∧ (s.lphy l.val).entry = none) ∧ (s.laneState l.val = 4 ∧ 8 ≤ ((s.lphy l.val).rtts ++ [rtt.toNat]).length ∧ ((s.lphy l.val).rtts ++ [rtt.toNat]).foldl max 0 - ((s.lphy l.val).rtts ++ [rtt.toNat]).foldl min rtt.toNat ≤ 64) :=
  ⟨7, 5, 640, ((rdy.wr LANE_STAT.STATE 7 4).modLphy 7 fun p => { p with asked := [5], rtts := List.replicate 7 640 }), by decide⟩

theorem wit_LaneLink_33 : ∃ (l : Fin 256) (id : BitVec 16) (rtt : BitVec 32) (s : State),
    ((s.lphy l.val).asked.contains id.toNat = true ∧ (s.lphy l.val).entry = none) ∧ (s.laneState l.val = 4 ∧ 8 ≤ ((s.lphy l.val).rtts ++ [rtt.toNat]).length ∧ 64 < ((s.lphy l.val).rtts ++ [rtt.toNat]).foldl max 0 - ((s.lphy l.val).rtts ++ [rtt.toNat]).foldl min rtt.toNat ∧ (s.lphy l.val).round < 2) :=
  ⟨7, 5, 740, ((rdy.wr LANE_STAT.STATE 7 4).modLphy 7 fun p => { p with asked := [5], rtts := List.replicate 7 640 }), by decide⟩

theorem wit_LaneLink_34 : ∃ (l : Fin 256) (id : BitVec 16) (rtt : BitVec 32) (s : State),
    ((s.lphy l.val).asked.contains id.toNat = true ∧ (s.lphy l.val).entry = none) ∧ (s.laneState l.val = 4 ∧ 8 ≤ ((s.lphy l.val).rtts ++ [rtt.toNat]).length ∧ 64 < ((s.lphy l.val).rtts ++ [rtt.toNat]).foldl max 0 - ((s.lphy l.val).rtts ++ [rtt.toNat]).foldl min rtt.toNat ∧ 2 ≤ (s.lphy l.val).round) :=
  ⟨7, 5, 740, ((rdy.wr LANE_STAT.STATE 7 4).modLphy 7 fun p => { p with asked := [5], rtts := List.replicate 7 640, round := 2 }), by decide⟩

theorem wit_LaneLink_35 : ∃ (l : Fin 256) (id : BitVec 16) (rtt : BitVec 32) (s : State),
    ((s.lphy l.val).asked.contains id.toNat = true ∧ (s.lphy l.val).entry = none) ∧ (s.laneState l.val = 6 ∧ ((rttScaled rtt.toNat : Int) - 2112 * s.rd LANE_RTT.RTT l.val).natAbs ≤ 61 * 2112) :=
  ⟨7, 5, 66, ((rdy.wr LANE_STAT.STATE 7 6).modLphy 7 (fun p => { p with asked := [5] }) |>.wr LANE_RTT.RTT 7 100), by decide⟩

theorem wit_LaneLink_36 : ∃ (l : Fin 256) (id : BitVec 16) (rtt : BitVec 32) (s : State),
    ((s.lphy l.val).asked.contains id.toNat = true ∧ (s.lphy l.val).entry = none) ∧ (s.laneState l.val = 6 ∧ 61 * 2112 < ((rttScaled rtt.toNat : Int) - 2112 * s.rd LANE_RTT.RTT l.val).natAbs) :=
  ⟨7, 5, 660, ((rdy.wr LANE_STAT.STATE 7 6).modLphy 7 (fun p => { p with asked := [5] }) |>.wr LANE_RTT.RTT 7 100), by decide⟩

theorem wit_LaneLink_37 : ∃ (l : Fin 256) (id : BitVec 16) (s : State),
    ((s.lphy l.val).asked.contains id.toNat = false ∨ (s.lphy l.val).entry ≠ none) :=
  ⟨7, 5, ((rdy.wr LANE_STAT.STATE 7 6).modLphy 7 (fun p => { p with asked := [6] })), by decide⟩

theorem wit_LaneLink_38 : ∃ (l : Fin 256) (d : Nat) (s : State),
    ((s.lphy l.val).entry = some d ∧ d ≤ s.epoch) ∧ (s.laneState l.val = 4 ∨ s.laneState l.val = 6) :=
  ⟨7, 64, { ((rdy.wr LANE_STAT.STATE 7 4).modLphy 7 fun p => { p with entry := some 64 }) with epoch := 64 }, by decide⟩

theorem wit_LaneLink_39 : ∃ (l : Fin 256) (d : Nat) (s : State),
    ((s.lphy l.val).entry = some d ∧ s.epoch < d) :=
  ⟨7, 64, ((rdy.wr LANE_STAT.STATE 7 4).modLphy 7 fun p => { p with entry := some 64 }), by decide⟩

theorem wit_LaneLink_40 : ∃ (l : Fin 256) (s : State),
    ((s.lphy l.val).entry = none ∨ (s.laneState l.val ≠ 4 ∧ s.laneState l.val ≠ 6)) :=
  ⟨7, rdy.wr LANE_STAT.STATE 7 4, by decide⟩

theorem wit_LaneEqualisation_1_1 : ∃ (l : Fin 256) (tap : Fin 9) (move : EqMove) (u : State) (s : State),
    (s.eqMoved l.val tap.val move.up = some u) ∧ (s.laneState l.val = 3) :=
  ⟨7, 0, ⟨true, 500⟩, ((rdy.wr LANE_STAT.STATE 7 3)).wr LANE_EQ_RX.CTLE 7 1, ((rdy.wr LANE_STAT.STATE 7 3)), by decide⟩

theorem wit_LaneEqualisation_1_2 : ∃ (l : Fin 256) (tap : Fin 9) (move : EqMove) (u : State) (s : State),
    (s.eqMoved l.val tap.val move.up = some u) ∧ (s.laneState l.val = 3) :=
  ⟨7, 1, ⟨false, 500⟩, ((rdy.wr LANE_STAT.STATE 7 3)).wr LANE_EQ_RX.DFE1 7 255, ((rdy.wr LANE_STAT.STATE 7 3)), by decide⟩

theorem wit_LaneEqualisation_2 : ∃ (l : Fin 256) (s : State),
    (s.laneState l.val = 3 ∧ s.rd LANE_EQ_RX.CTLE l.val < 15) :=
  ⟨7, ((rdy.wr LANE_STAT.STATE 7 3)), by decide⟩

theorem wit_LaneEqualisation_3 : ∃ (l : Fin 256) (tap : Fin 9) (move : EqMove) (s : State),
    (s.eqMoved l.val tap.val move.up = none) :=
  ⟨7, 0, ⟨true, 500⟩, ((rdy.wr LANE_STAT.STATE 7 3).wr LANE_EQ_RX.CTLE 7 15), by decide⟩

theorem wit_LaneEqualisation_4 : ∃ (l : Fin 256) (tap : Fin 9) (move : EqMove) (u : State) (s : State),
    (s.eqMoved l.val tap.val move.up = some u) ∧ (4 ≤ s.laneState l.val ∧ s.eqFree l.val tap.val move.up = true ∧ (tap.val = 0 → s.rd LANE_EYE.HEIGHT l.val < move.height.toNat)) :=
  ⟨7, 0, ⟨true, 500⟩, ((rdy.wr LANE_STAT.STATE 7 5)).wr LANE_EQ_RX.CTLE 7 1, ((rdy.wr LANE_STAT.STATE 7 5)), by decide⟩

theorem wit_LaneEqualisation_5_1 : ∃ (l : Fin 256) (tap : Fin 9) (move : EqMove) (s : State),
    (s.laneState l.val ≠ 3 ∧ (s.laneState l.val < 4 ∨ s.eqFree l.val tap.val move.up = false ∨ (tap.val = 0 ∧ move.height.toNat ≤ s.rd LANE_EYE.HEIGHT l.val))) :=
  ⟨7, 0, ⟨true, 500⟩, ((rdy.wr LANE_STAT.STATE 7 5).wr LANE_CTRL.EQ_FREEZE 7 1), by decide⟩

theorem wit_LaneEqualisation_5_2 : ∃ (l : Fin 256) (tap : Fin 9) (move : EqMove) (s : State),
    (s.laneState l.val ≠ 3 ∧ (s.laneState l.val < 4 ∨ s.eqFree l.val tap.val move.up = false ∨ (tap.val = 0 ∧ move.height.toNat ≤ s.rd LANE_EYE.HEIGHT l.val))) :=
  ⟨7, 0, ⟨true, 500⟩, ((rdy.wr LANE_STAT.STATE 7 5).wr LANE_EYE.HEIGHT 7 500), by decide⟩

theorem wit_LaneEqualisation_6 : ∃ (l : Fin 256) (height : BitVec 10) (q : EqStep) (r : List EqStep) (s : State),
    ((s.lphy l.val).steps = q :: r ∧ q.t + 5000 ≤ s.tb ∧ 4 ≤ s.laneState l.val) ∧ (9 * q.height ≤ 10 * height.toNat) :=
  ⟨7, 90, { tap := 0, up := true, t := 0, height := 100 }, [], { ((rdy.wr LANE_STAT.STATE 7 5).modLphy 7 (fun p => { p with steps := [{ tap := 0, up := true, t := 0, height := 100 }] }) |>.wr LANE_EQ_RX.CTLE 7 5) with tb := 5000 }, by decide⟩

theorem wit_LaneEqualisation_7 : ∃ (l : Fin 256) (height : BitVec 10) (q : EqStep) (r : List EqStep) (s : State),
    ((s.lphy l.val).steps = q :: r ∧ q.t + 5000 ≤ s.tb ∧ 4 ≤ s.laneState l.val) ∧ (10 * height.toNat < 9 * q.height) ∧ (q.tap = 0 ∧ q.up = true ∧ 0 < s.rd LANE_EQ_RX.CTLE l.val ∧ s.rd LANE_EQ_RX.CTLE l.val < 16) :=
  ⟨7, 89, { tap := 0, up := true, t := 0, height := 100 }, [], { ((rdy.wr LANE_STAT.STATE 7 5).modLphy 7 (fun p => { p with steps := [{ tap := 0, up := true, t := 0, height := 100 }] }) |>.wr LANE_EQ_RX.CTLE 7 5) with tb := 5000 }, by decide⟩

theorem wit_LaneEqualisation_8 : ∃ (l : Fin 256) (height : BitVec 10) (q : EqStep) (r : List EqStep) (s : State),
    ((s.lphy l.val).steps = q :: r ∧ q.t + 5000 ≤ s.tb ∧ 4 ≤ s.laneState l.val) ∧ (10 * height.toNat < 9 * q.height) ∧ ((s.eqMoved l.val q.tap (!q.up)).isSome = true) :=
  ⟨7, 89, { tap := 1, up := true, t := 0, height := 100 }, [], { ((rdy.wr LANE_STAT.STATE 7 5).modLphy 7 (fun p => { p with steps := [{ tap := 1, up := true, t := 0, height := 100 }] }) |>.wr LANE_EQ_RX.DFE1 7 5) with tb := 5000 }, by decide⟩

theorem wit_LaneEqualisation_9 : ∃ (l : Fin 256) (s : State),
    (s.laneState l.val < 4 ∨ (s.lphy l.val).steps.head?.all (fun q => decide (s.tb < q.t + 5000)) = true) :=
  ⟨7, rdy.wr LANE_STAT.STATE 7 5, by decide⟩

theorem wit_LaneEqualisation_10 : ∃ (l : Fin 256) (s : State),
    (3 ≤ s.laneState l.val) ∧ ((s.lphy l.val).eyeAt = none ∨ (s.lphy l.val).eyeAt.getD 0 + 50000 ≤ s.tb) :=
  ⟨7, ((rdy.wr LANE_STAT.STATE 7 3)), by decide⟩

theorem wit_LaneEqualisation_11 : ∃ (l : Fin 256) (s : State),
    (s.laneState l.val < 3) :=
  ⟨7, ((rdy.wr LANE_STAT.STATE 7 2)), by decide⟩

theorem wit_LaneEqualisation_12 : ∃ (l : Fin 256) (s : State),
    ((s.lphy l.val).eyeAt.any (fun x => decide (s.tb < x + 50000)) = true) :=
  ⟨7, ((rdy.wr LANE_STAT.STATE 7 3).modLphy 7 fun p => { p with eyeAt := some 0 }), by decide⟩

theorem wit_LaneEqualisation_13 : ∃ (l : Fin 256) (s : State),
    (s.laneState l.val = 5) ∧ ((s.lphy l.val).storedAt = none ∨ (s.lphy l.val).storedAt.getD 0 + 500000000 ≤ s.tb) :=
  ⟨7, ((rdy.wr LANE_STAT.STATE 7 5)), by decide⟩

theorem wit_LaneEqualisation_14 : ∃ (l : Fin 256) (s : State),
    (s.laneState l.val ≠ 5) :=
  ⟨7, ((rdy.wr LANE_STAT.STATE 7 6)), by decide⟩

theorem wit_LaneEqualisation_15 : ∃ (l : Fin 256) (s : State),
    ((s.lphy l.val).storedAt.any (fun x => decide (s.tb < x + 500000000)) = true) :=
  ⟨7, ((rdy.wr LANE_STAT.STATE 7 5).modLphy 7 fun p => { p with storedAt := some 0 }), by decide⟩

theorem wit_CompareBlock_1 : ∃ (l : Fin 256) (x : Stamp) (p : List Nat) (s : State),
    ((s.cmpl l.val).recs = [(x, p)] ∧ ∀ k : Fin 8, k.val ≠ l.val % 8 → (s.cmpl (8 * laneFacet l.val + k.val)).recs = []) ∧ (s.laneState l.val = 5 ∧ recordAllowed (s.rd LANE_STAT.VER l.val) (nth p 0) = false) :=
  ⟨7, { t := 4 }, [9], ((((rdy.wr LANE_STAT.STATE 7 5).wr LANE_STAT.VER 7 3 |>.wr CMP_LCFG.EN 7 1)).modCmpl 7 fun c => { c with recs := [({ t := 4 }, [9])] }), by decide⟩

theorem wit_CompareBlock_2 : ∃ (l : Fin 256) (x : Stamp) (p : List Nat) (s : State),
    ((s.cmpl l.val).recs = [(x, p)] ∧ ∀ k : Fin 8, k.val ≠ l.val % 8 → (s.cmpl (8 * laneFacet l.val + k.val)).recs = []) ∧ (s.laneState l.val ≠ 5) :=
  ⟨7, { t := 4 }, [4], ((((rdy.wr LANE_STAT.STATE 7 5).wr LANE_STAT.VER 7 3 |>.wr CMP_LCFG.EN 7 1)).modCmpl 7 fun c => { c with recs := [({ t := 4 }, [4])] }).wr LANE_STAT.STATE 7 6, by decide⟩

theorem wit_CompareBlock_3 : ∃ (l : Fin 256) (x : Stamp) (p : List Nat) (s : State),
    ((s.cmpl l.val).recs = [(x, p)] ∧ ∀ k : Fin 8, k.val ≠ l.val % 8 → (s.cmpl (8 * laneFacet l.val + k.val)).recs = []) ∧ (recordAllowed (s.rd LANE_STAT.VER l.val) (nth p 0) = true ∧ nth p 0 = 4 ∧ s.accepts l.val x = true ∧ s.on CMP_RING_CFG.EN (laneFacet l.val) = false) :=
  ⟨7, { t := 4 }, [4, 1, 0, 0, 5, 0, 6, 0, 7], ((((rdy.wr LANE_STAT.STATE 7 5).wr LANE_STAT.VER 7 3 |>.wr CMP_LCFG.EN 7 1)).modCmpl 7 fun c => { c with recs := [({ t := 4 }, [4, 1, 0, 0, 5, 0, 6, 0, 7])] }), by decide⟩

theorem wit_CompareBlock_4 : ∃ (l : Fin 256) (x : Stamp) (p : List Nat) (s : State),
    ((s.cmpl l.val).recs = [(x, p)] ∧ ∀ k : Fin 8, k.val ≠ l.val % 8 → (s.cmpl (8 * laneFacet l.val + k.val)).recs = []) ∧ (s.laneState l.val = 5 ∧ recordAllowed (s.rd LANE_STAT.VER l.val) 4 = true ∧ nth p 0 = 4 ∧ s.accepts l.val x = false) :=
  ⟨7, { t := 4 }, [4], ((((rdy.wr LANE_STAT.STATE 7 5).wr LANE_STAT.VER 7 3 |>.wr CMP_LCFG.EN 7 0)).modCmpl 7 fun c => { c with recs := [({ t := 4 }, [4])] }), by decide⟩

theorem wit_CompareBlock_5_1 : ∃ (l : Fin 256) (x : Stamp) (p : List Nat) (s : State),
    ((s.cmpl l.val).recs = [(x, p)] ∧ ∀ k : Fin 8, k.val ≠ l.val % 8 → (s.cmpl (8 * laneFacet l.val + k.val)).recs = []) ∧ (s.laneState l.val = 5 ∧ recordAllowed (s.rd LANE_STAT.VER l.val) (nth p 0) = true ∧ (nth p 0 = 1 ∨ nth p 0 = 2) ∧ ((if s.rd LANE_STAT.VER l.val = 2 then tagGranule x.t 8 (nth p 2) else tagGranule x.t 16 (nth p 2 + 256 * nth p 3)) = none ∨ s.qualifier l.val (if s.rd LANE_STAT.VER l.val = 2 then tagGranule x.t 8 (nth p 2) else tagGranule x.t 16 (nth p 2 + 256 * nth p 3)) = none)) :=
  ⟨7, { t := 4 }, [1, 0, 1, 0, 3, 0], ((((rdy.wr LANE_STAT.STATE 7 5).wr LANE_STAT.VER 7 3 |>.wr CMP_LCFG.EN 7 0)).modCmpl 7 fun c => { c with recs := [({ t := 4 }, [1, 0, 1, 0, 3, 0])] }), by decide⟩

theorem wit_CompareBlock_5_2 : ∃ (l : Fin 256) (x : Stamp) (p : List Nat) (s : State),
    ((s.cmpl l.val).recs = [(x, p)] ∧ ∀ k : Fin 8, k.val ≠ l.val % 8 → (s.cmpl (8 * laneFacet l.val + k.val)).recs = []) ∧ (s.laneState l.val = 5 ∧ recordAllowed (s.rd LANE_STAT.VER l.val) (nth p 0) = true ∧ (nth p 0 = 1 ∨ nth p 0 = 2) ∧ ((if s.rd LANE_STAT.VER l.val = 2 then tagGranule x.t 8 (nth p 2) else tagGranule x.t 16 (nth p 2 + 256 * nth p 3)) = none ∨ s.qualifier l.val (if s.rd LANE_STAT.VER l.val = 2 then tagGranule x.t 8 (nth p 2) else tagGranule x.t 16 (nth p 2 + 256 * nth p 3)) = none)) :=
  ⟨7, { t := 4 }, [1, 0, 1, 3], ((((rdy.wr LANE_STAT.STATE 7 5).wr LANE_STAT.VER 7 2 |>.wr CMP_LCFG.EN 7 1)).modCmpl 7 fun c => { c with recs := [({ t := 4 }, [1, 0, 1, 3])] }), by decide⟩

theorem wit_CompareBlock_6 : ∃ (l : Fin 256) (x : Stamp) (p : List Nat) (d : Nat) (q : Nat) (s : State),
    ((s.cmpl l.val).recs = [(x, p)] ∧ ∀ k : Fin 8, k.val ≠ l.val % 8 → (s.cmpl (8 * laneFacet l.val + k.val)).recs = []) ∧ (s.laneState l.val = 5 ∧ recordAllowed (s.rd LANE_STAT.VER l.val) (nth p 0) = true ∧ nth p 0 ≠ 4 ∧ s.accepts l.val x = false) ∧ ((if s.rd LANE_STAT.VER l.val = 2 then tagGranule x.t 8 (nth p 2) else tagGranule x.t 16 (nth p 2 + 256 * nth p 3)) = some d ∧ s.qualifier l.val (some d) = some q) :=
  ⟨7, { t := 40 }, [1, 0, 0, 0, 3, 0], 0, 2, (((((rdy.wr LANE_STAT.STATE 7 5).wr LANE_STAT.VER 7 3 |>.wr CMP_LCFG.EN 7 0)).modCmpl 7 fun c => { c with recs := [({ t := 40 }, [1, 0, 0, 0, 3, 0])] }).modLphy 7 fun p => { p with qhist := [(0, 2)] }), by decide⟩

theorem wit_CompareBlock_7_1 : ∃ (l : Fin 256) (x : Stamp) (p : List Nat) (d : Nat) (q : Nat) (s : State),
    ((s.cmpl l.val).recs = [(x, p)] ∧ ∀ k : Fin 8, k.val ≠ l.val % 8 → (s.cmpl (8 * laneFacet l.val + k.val)).recs = []) ∧ (s.laneState l.val = 5 ∧ recordAllowed (s.rd LANE_STAT.VER l.val) (nth p 0) = true ∧ nth p 0 = 1 ∧ s.accepts l.val x = true ∧ s.on CMP_RING_CFG.EN (laneFacet l.val) = false) ∧ ((if s.rd LANE_STAT.VER l.val = 2 then tagGranule x.t 8 (nth p 2) else tagGranule x.t 16 (nth p 2 + 256 * nth p 3)) = some d ∧ s.qualifier l.val (some d) = some q) ∧ (∀ k : Fin 64, s.rdX ENG_BIN_CFG.CMP_EN (64 * laneFacet l.val + k.val) ≠ 1) ∧ ((nth p 4 + 256 * nth p 5) &&& q ≠ 0) :=
  ⟨7, { t := 40 }, [1, 0, 0, 0, 3, 0], 0, 2, (((((rdy.wr LANE_STAT.STATE 7 5).wr LANE_STAT.VER 7 3 |>.wr CMP_LCFG.EN 7 1)).modCmpl 7 fun c => { c with recs := [({ t := 40 }, [1, 0, 0, 0, 3, 0])] }).modLphy 7 fun p => { p with qhist := [(0, 2)] }), by decide⟩

theorem wit_CompareBlock_7_2 : ∃ (l : Fin 256) (x : Stamp) (p : List Nat) (d : Nat) (q : Nat) (s : State),
    ((s.cmpl l.val).recs = [(x, p)] ∧ ∀ k : Fin 8, k.val ≠ l.val % 8 → (s.cmpl (8 * laneFacet l.val + k.val)).recs = []) ∧ (s.laneState l.val = 5 ∧ recordAllowed (s.rd LANE_STAT.VER l.val) (nth p 0) = true ∧ nth p 0 = 1 ∧ s.accepts l.val x = true ∧ s.on CMP_RING_CFG.EN (laneFacet l.val) = false) ∧ ((if s.rd LANE_STAT.VER l.val = 2 then tagGranule x.t 8 (nth p 2) else tagGranule x.t 16 (nth p 2 + 256 * nth p 3)) = some d ∧ s.qualifier l.val (some d) = some q) ∧ (∀ k : Fin 64, s.rdX ENG_BIN_CFG.CMP_EN (64 * laneFacet l.val + k.val) ≠ 1) ∧ ((nth p 4 + 256 * nth p 5) &&& q ≠ 0) :=
  ⟨7, { t := 40 }, [1, 0, 0, 7, 3, 0], 0, 2, (((((rdy.wr LANE_STAT.STATE 7 5).wr LANE_STAT.VER 7 2 |>.wr CMP_LCFG.EN 7 1)).modCmpl 7 fun c => { c with recs := [({ t := 40 }, [1, 0, 0, 7, 3, 0])] }).modLphy 7 fun p => { p with qhist := [(0, 2)] }), by decide⟩

theorem wit_CompareBlock_8 : ∃ (l : Fin 256) (x : Stamp) (p : List Nat) (d : Nat) (q : Nat) (s : State),
    ((s.cmpl l.val).recs = [(x, p)] ∧ ∀ k : Fin 8, k.val ≠ l.val % 8 → (s.cmpl (8 * laneFacet l.val + k.val)).recs = []) ∧ (s.laneState l.val = 5 ∧ recordAllowed (s.rd LANE_STAT.VER l.val) (nth p 0) = true ∧ nth p 0 = 1 ∧ s.accepts l.val x = true ∧ s.on CMP_RING_CFG.EN (laneFacet l.val) = false) ∧ ((if s.rd LANE_STAT.VER l.val = 2 then tagGranule x.t 8 (nth p 2) else tagGranule x.t 16 (nth p 2 + 256 * nth p 3)) = some d ∧ s.qualifier l.val (some d) = some q) ∧ (∀ k : Fin 64, s.rdX ENG_BIN_CFG.CMP_EN (64 * laneFacet l.val + k.val) ≠ 1) ∧ ((nth p 4 + 256 * nth p 5) &&& q = 0) :=
  ⟨7, { t := 40 }, [1, 0, 0, 0, 3, 0], 0, 4, (((((rdy.wr LANE_STAT.STATE 7 5).wr LANE_STAT.VER 7 3 |>.wr CMP_LCFG.EN 7 1)).modCmpl 7 fun c => { c with recs := [({ t := 40 }, [1, 0, 0, 0, 3, 0])] }).modLphy 7 fun p => { p with qhist := [(0, 4)] }), by decide⟩

theorem wit_CompareBlock_9 : ∃ (l : Fin 256) (x : Stamp) (p : List Nat) (d : Nat) (q : Nat) (s : State),
    ((s.cmpl l.val).recs = [(x, p)] ∧ ∀ k : Fin 8, k.val ≠ l.val % 8 → (s.cmpl (8 * laneFacet l.val + k.val)).recs = []) ∧ (s.laneState l.val = 5 ∧ recordAllowed (s.rd LANE_STAT.VER l.val) (nth p 0) = true ∧ nth p 0 = 2 ∧ s.accepts l.val x = true ∧ s.on CMP_RING_CFG.EN (laneFacet l.val) = false) ∧ ((if s.rd LANE_STAT.VER l.val = 2 then tagGranule x.t 8 (nth p 2) else tagGranule x.t 16 (nth p 2 + 256 * nth p 3)) = some d ∧ s.qualifier l.val (some d) = some q) ∧ (∀ k : Fin 64, s.rdX ENG_BIN_CFG.CMP_EN (64 * laneFacet l.val + k.val) ≠ 1) ∧ (bit q (nth p 1 % 16) = true ∧ (nth p 12 + 256 * nth p 13 ≠ 0 ∨ nth p 14 + 256 * nth p 15 ≠ 0)) :=
  ⟨7, { t := 40 }, [2, 1, 0, 0, 0, 0, 0, 0, 0, 0, 0, 0, 4, 0, 0, 0], 0, 2, (((((rdy.wr LANE_STAT.STATE 7 5).wr LANE_STAT.VER 7 3 |>.wr CMP_LCFG.EN 7 1)).modCmpl 7 fun c => { c with recs := [({ t := 40 }, [2, 1, 0, 0, 0, 0, 0, 0, 0, 0, 0, 0, 4, 0, 0, 0])] }).modLphy 7 fun p => { p with qhist := [(0, 2)] }), by decide⟩

theorem wit_CompareBlock_10 : ∃ (l : Fin 256) (x : Stamp) (p : List Nat) (d : Nat) (q : Nat) (s : State),
    ((s.cmpl l.val).recs = [(x, p)] ∧ ∀ k : Fin 8, k.val ≠ l.val % 8 → (s.cmpl (8 * laneFacet l.val + k.val)).recs = []) ∧ (s.laneState l.val = 5 ∧ recordAllowed (s.rd LANE_STAT.VER l.val) (nth p 0) = true ∧ nth p 0 = 2 ∧ s.accepts l.val x = true ∧ s.on CMP_RING_CFG.EN (laneFacet l.val) = false) ∧ ((if s.rd LANE_STAT.VER l.val = 2 then tagGranule x.t 8 (nth p 2) else tagGranule x.t 16 (nth p 2 + 256 * nth p 3)) = some d ∧ s.qualifier l.val (some d) = some q) ∧ (∀ k : Fin 64, s.rdX ENG_BIN_CFG.CMP_EN (64 * laneFacet l.val + k.val) ≠ 1) ∧ (bit q (nth p 1 % 16) = false ∨ ¬ (nth p 12 + 256 * nth p 13 ≠ 0 ∨ nth p 14 + 256 * nth p 15 ≠ 0)) :=
  ⟨7, { t := 40 }, [2, 1, 0, 0, 0, 0, 0, 0, 0, 0, 0, 0, 4, 0, 0, 0], 0, 4, (((((rdy.wr LANE_STAT.STATE 7 5).wr LANE_STAT.VER 7 3 |>.wr CMP_LCFG.EN 7 1)).modCmpl 7 fun c => { c with recs := [({ t := 40 }, [2, 1, 0, 0, 0, 0, 0, 0, 0, 0, 0, 0, 4, 0, 0, 0])] }).modLphy 7 fun p => { p with qhist := [(0, 4)] }), by decide⟩

theorem wit_CompareBlock_11 : ∃ (l : Fin 256) (x : Stamp) (p : List Nat) (d : Nat) (q : Nat) (s : State),
    ((s.cmpl l.val).recs = [(x, p)] ∧ ∀ k : Fin 8, k.val ≠ l.val % 8 → (s.cmpl (8 * laneFacet l.val + k.val)).recs = []) ∧ (s.laneState l.val = 5 ∧ recordAllowed (s.rd LANE_STAT.VER l.val) (nth p 0) = true ∧ nth p 0 = 1 ∧ s.accepts l.val x = true ∧ s.on CMP_RING_CFG.EN (laneFacet l.val) = true ∧ bit (s.rd CMP_RING_CFG.TYPES (laneFacet l.val)) 0 = true ∧ (s.cmp (laneFacet l.val)).queue.length < 64) ∧ ((if s.rd LANE_STAT.VER l.val = 2 then tagGranule x.t 8 (nth p 2) else tagGranule x.t 16 (nth p 2 + 256 * nth p 3)) = some d ∧ s.qualifier l.val (some d) = some q) ∧ (∀ k : Fin 64, s.rdX ENG_BIN_CFG.CMP_EN (64 * laneFacet l.val + k.val) ≠ 1) ∧ ((nth p 4 + 256 * nth p 5) &&& q = 0) :=
  ⟨7, { t := 40 }, [1, 0, 0, 0, 3, 0], 0, 4, (((((rdy.wr LANE_STAT.STATE 7 5).wr LANE_STAT.VER 7 3 |>.wr CMP_LCFG.EN 7 1)).modCmpl 7 fun c => { c with recs := [({ t := 40 }, [1, 0, 0, 0, 3, 0])] }).modLphy 7 fun p => { p with qhist := [(0, 4)] }).wr CMP_RING_CFG.EN 0 1 |>.wr CMP_RING_CFG.TYPES 0 1, by decide⟩

theorem wit_CompareBlock_12 : ∃ (l : Fin 256) (x : Stamp) (p : List Nat) (a : Nat) (n : Nat) (d : Nat) (q : Nat) (s : State),
    ((s.cmpl l.val).recs = [(x, p)] ∧ ∀ k : Fin 8, k.val ≠ l.val % 8 → (s.cmpl (8 * laneFacet l.val + k.val)).recs = []) ∧ (s.laneState l.val = 5 ∧ recordAllowed (s.rd LANE_STAT.VER l.val) (nth p 0) = true ∧ nth p 0 = 3 ∧ s.accepts l.val x = true ∧ s.on CMP_RING_CFG.EN (laneFacet l.val) = false) ∧ ((if s.rd LANE_STAT.VER l.val = 2 then tagGranule x.t 8 (nth p 2) else tagGranule x.t 16 (nth p 2 + 256 * nth p 3)) = some d ∧ s.qualifier l.val (some d) = some q) ∧ ((s.cmpl l.val).cap = some (a, n) ∧ s.on CMP_CAP_CTL.ACTIVE l.val = true ∧ 0 < n ∧ d + 16 = a + 16 * n ∧ 16 ≤ nth p 1 % 16 + bits (nth p 1) 4 2) :=
  ⟨7, { t := 40 }, [3, 0x3D, 0, 0], 0, 1, 0, 4, (((((rdy.wr LANE_STAT.STATE 7 5).wr LANE_STAT.VER 7 3 |>.wr CMP_LCFG.EN 7 1)).modCmpl 7 fun c => { c with recs := [({ t := 40 }, [3, 0x3D, 0, 0])] }).modLphy 7 fun p => { p with qhist := [(0, 4)] }).wr CMP_CAP_CTL.ACTIVE 7 1 |>.modCmpl 7 fun c => { c with cap := some (0, 1) }, by decide⟩

theorem wit_CompareBlock_13 : ∃ (l : Fin 256) (x : Stamp) (p : List Nat) (d : Nat) (q : Nat) (s : State),
    ((s.cmpl l.val).recs = [(x, p)] ∧ ∀ k : Fin 8, k.val ≠ l.val % 8 → (s.cmpl (8 * laneFacet l.val + k.val)).recs = []) ∧ (s.laneState l.val = 5 ∧ recordAllowed (s.rd LANE_STAT.VER l.val) (nth p 0) = true ∧ nth p 0 = 3 ∧ s.accepts l.val x = true ∧ s.on CMP_RING_CFG.EN (laneFacet l.val) = false) ∧ ((if s.rd LANE_STAT.VER l.val = 2 then tagGranule x.t 8 (nth p 2) else tagGranule x.t 16 (nth p 2 + 256 * nth p 3)) = some d ∧ s.qualifier l.val (some d) = some q) ∧ ((s.cmpl l.val).cap.all (fun c => decide (d + 16 ≠ c.1 + 16 * c.2 ∨ nth p 1 % 16 + bits (nth p 1) 4 2 < 16)) = true) :=
  ⟨7, { t := 40 }, [3, 0x2D, 0, 0], 0, 4, (((((rdy.wr LANE_STAT.STATE 7 5).wr LANE_STAT.VER 7 3 |>.wr CMP_LCFG.EN 7 1)).modCmpl 7 fun c => { c with recs := [({ t := 40 }, [3, 0x2D, 0, 0])] }).modLphy 7 fun p => { p with qhist := [(0, 4)] }).modCmpl 7 fun c => { c with cap := some (0, 1) }, by decide⟩

theorem wit_CompareBlock_14 : ∃ (l : Fin 256) (x : Stamp) (p : List Nat) (d : Nat) (q : Nat) (e : Nat) (n : Nat) (s : State),
    ((s.cmpl l.val).recs = [(x, p)] ∧ ∀ k : Fin 8, k.val ≠ l.val % 8 → (s.cmpl (8 * laneFacet l.val + k.val)).recs = []) ∧ (s.laneState l.val = 5 ∧ recordAllowed (s.rd LANE_STAT.VER l.val) (nth p 0) = true ∧ nth p 0 = 1 ∧ s.accepts l.val x = true ∧ s.on CMP_RING_CFG.EN (laneFacet l.val) = false) ∧ ((if s.rd LANE_STAT.VER l.val = 2 then tagGranule x.t 8 (nth p 2) else tagGranule x.t 16 (nth p 2 + 256 * nth p 3)) = some d ∧ s.qualifier l.val (some d) = some q) ∧ ((nth p 4 + 256 * nth p 5) &&& q ≠ 0) ∧ (∀ k : Fin 64, s.rdX ENG_BIN_CFG.CMP_EN (64 * laneFacet l.val + k.val) = (if 64 * laneFacet l.val + k.val = 4 * e + n then 1 else 0)) ∧ (e / 16 = laneFacet l.val ∧ n < 4 ∧ s.engDrive e = false ∧ bit (s.rdX ENG_BIN_CFG.LANE_MASK (4 * e + n)) (l.val % 8) = true ∧ s.rdX ENG_BIN_CFG.CMP_KIND (4 * e + n) = 0) ∧ ((s.eng e).input n = none ∧ s.engState e = 3) :=
  ⟨7, { t := 40 }, [1, 0, 0, 0, 3, 0], 0, 2, 0, 1, (((((rdy.wr LANE_STAT.STATE 7 5).wr LANE_STAT.VER 7 3 |>.wr CMP_LCFG.EN 7 1)).modCmpl 7 fun c => { c with recs := [({ t := 40 }, [1, 0, 0, 0, 3, 0])] }).modLphy 7 fun p => { p with qhist := [(0, 2)] }).wrA ENG_BIN_CFG.CMP_EN 1 1 |>.wrA ENG_BIN_CFG.LANE_MASK 1 0x80 |>.wr ENG_STAT.STATE 0 3, by decide⟩

theorem wit_CompareBlock_15 : ∃ (f : Fin 32) (s : State),
    (∀ k : Fin 8, (s.cmpl (8 * f.val + k.val)).recs = []) :=
  ⟨3, rdy, by decide⟩

theorem wit_CompareBlock_16 : ∃ (l : Fin 256) (w : Wr) (s : State),
    (Accepted s w (pgCmp (laneFacet l.val))) ∧ (s.on CMP_CAP_CTL.ACTIVE l.val = false ∧ s.laneState l.val = 5 ∧ s.rd LANE_STAT.VER l.val = 3) ∧ (s.rd64 CMP_CAP_AT_LO.TICK CMP_CAP_AT_HI.TICK l.val % 16 = 0 ∧ s.epoch + 1536 ≤ s.rd64 CMP_CAP_AT_LO.TICK CMP_CAP_AT_HI.TICK l.val) ∧ (bits w.val.toNat 0 16 ≠ 0 ∧ bits w.val.toNat 0 16 ≤ bits (s.rd LANE_PARTNER_CAP.CAP l.val) 16 8) :=
  ⟨7, hw 4, ((rdy.wr LANE_STAT.STATE 7 5).wr LANE_STAT.VER 7 3 |>.wr LANE_PARTNER_CAP.CAP 7 0x40000 |>.wr CMP_CAP_AT_LO.TICK 7 1536), by decide⟩

theorem wit_CompareBlock_17 : ∃ (l : Fin 256) (w : Wr) (s : State),
    (Accepted s w (pgCmp (laneFacet l.val))) ∧ (s.rd64 CMP_CAP_AT_LO.TICK CMP_CAP_AT_HI.TICK l.val % 16 ≠ 0) :=
  ⟨7, hw 4, ((rdy.wr LANE_STAT.STATE 7 5).wr LANE_STAT.VER 7 3 |>.wr LANE_PARTNER_CAP.CAP 7 0x40000 |>.wr CMP_CAP_AT_LO.TICK 7 1536).wr CMP_CAP_AT_LO.TICK 7 1537, by decide⟩

theorem wit_CompareBlock_18 : ∃ (l : Fin 256) (w : Wr) (s : State),
    (Accepted s w (pgCmp (laneFacet l.val))) ∧ (s.on CMP_CAP_CTL.ACTIVE l.val = false ∧ s.laneState l.val = 5 ∧ s.rd LANE_STAT.VER l.val = 3) ∧ (s.rd64 CMP_CAP_AT_LO.TICK CMP_CAP_AT_HI.TICK l.val % 16 = 0 ∧ s.rd64 CMP_CAP_AT_LO.TICK CMP_CAP_AT_HI.TICK l.val < s.epoch + 1536 ∧ bits (s.rd LANE_PARTNER_CAP.CAP l.val) 16 8 ≠ 0) :=
  ⟨7, hw 4, ((rdy.wr LANE_STAT.STATE 7 5).wr LANE_STAT.VER 7 3 |>.wr LANE_PARTNER_CAP.CAP 7 0x40000 |>.wr CMP_CAP_AT_LO.TICK 7 1536).wr CMP_CAP_AT_LO.TICK 7 1520, by decide⟩

theorem wit_CompareBlock_19 : ∃ (l : Fin 256) (w : Wr) (s : State),
    (Accepted s w (pgCmp (laneFacet l.val))) ∧ (s.rd64 CMP_CAP_AT_LO.TICK CMP_CAP_AT_HI.TICK l.val % 16 = 0 ∧ (s.on CMP_CAP_CTL.ACTIVE l.val = true ∨ s.laneState l.val ≠ 5 ∨ s.rd LANE_STAT.VER l.val ≠ 3 ∨ bits (s.rd LANE_PARTNER_CAP.CAP l.val) 16 8 = 0)) :=
  ⟨7, hw 4, ((rdy.wr LANE_STAT.STATE 7 5).wr LANE_STAT.VER 7 2 |>.wr LANE_PARTNER_CAP.CAP 7 0x40000 |>.wr CMP_CAP_AT_LO.TICK 7 1536), by decide⟩

theorem wit_CompareBlock_20 : ∃ (l : Fin 256) (w : Wr) (s : State),
    (Accepted s w (pgCmp (laneFacet l.val))) ∧ (s.rd64 CMP_CAP_AT_LO.TICK CMP_CAP_AT_HI.TICK l.val % 16 = 0 ∧ s.epoch + 1536 ≤ s.rd64 CMP_CAP_AT_LO.TICK CMP_CAP_AT_HI.TICK l.val ∧ s.on CMP_CAP_CTL.ACTIVE l.val = false ∧ s.laneState l.val = 5 ∧ s.rd LANE_STAT.VER l.val = 3 ∧ bits (s.rd LANE_PARTNER_CAP.CAP l.val) 16 8 ≠ 0) ∧ (bits w.val.toNat 0 16 = 0 ∨ bits (s.rd LANE_PARTNER_CAP.CAP l.val) 16 8 < bits w.val.toNat 0 16) :=
  ⟨7, hw 5, ((rdy.wr LANE_STAT.STATE 7 5).wr LANE_STAT.VER 7 3 |>.wr LANE_PARTNER_CAP.CAP 7 0x40000 |>.wr CMP_CAP_AT_LO.TICK 7 1536), by decide⟩

theorem wit_CompareBlock_21 : ∃ (l : Fin 256) (a : Nat) (n : Nat) (s : State),
    ((s.cmpl l.val).cap = some (a, n) ∧ a + 16 * n + 500000 ≤ s.epoch ∧ s.on CMP_CAP_CTL.ACTIVE l.val = true) :=
  ⟨7, 0, 4, { (rdy.wr CMP_CAP_CTL.ACTIVE 7 1).modCmpl 7 (fun c => { c with cap := some (0, 4) }) with epoch := 500064 }, by decide⟩

theorem wit_CompareBlock_22 : ∃ (l : Fin 256) (a : Nat) (n : Nat) (s : State),
    ((s.cmpl l.val).cap = some (a, n) ∧ s.epoch < a + 16 * n + 500000) :=
  ⟨7, 0, 4, rdy.modCmpl 7 fun c => { c with cap := some (0, 4) }, by decide⟩

theorem wit_CompareBlock_23 : ∃ (l : Fin 256) (s : State),
    ((s.cmpl l.val).cap = none ∨ s.on CMP_CAP_CTL.ACTIVE l.val = false) :=
  ⟨7, rdy, by decide⟩

theorem wit_CompareBlock_24 : ∃ (f : Fin 32) (w : Wr) (s : State),
    (Accepted s w (pgCmp f.val)) :=
  ⟨31, hw 0, rdy.wr CMP_CNT_FAIL.SUM_FAIL 255 4, by decide⟩

theorem wit_DriveCommands_2_1 : ∃ (d : Fin 64) (w : Wr) (s : State),
    (Accepted s w (pgDrv d.val)) ∧ (bits (w.val ||| 0x1).toNat 0 4 = 0x1) ∧ (s.startCodes d.val = []) :=
  ⟨9, hw 0, ((rdy.wr TB_STAT.EPOCH_STATE 0 1).wr DRV_STAT.STATE 9 1), by decide⟩

theorem wit_DriveCommands_2_2 : ∃ (d : Fin 64) (w : Wr) (s : State),
    (Accepted s w (pgDrv d.val)) ∧ (bits (w.val ||| 0x1).toNat 0 4 = 0x1) ∧ (s.startCodes d.val = []) :=
  ⟨9, hw 0, (((rdy.wr TB_STAT.EPOCH_STATE 0 1).wr DRV_STAT.STATE 9 1).modGrp 1 fun x => { x with fixed := true, o := 7 }), by decide⟩

theorem wit_DriveCommands_3 : ∃ (d : Fin 64) (w : Wr) (k : Nat) (s : State),
    (Accepted s w (pgDrv d.val)) ∧ (bits (w.val ||| 0x1).toNat 0 4 = 0x1) ∧ (worst (s.startCodes d.val) = some k) :=
  ⟨9, hw 0, 3, rdy, by decide⟩

theorem wit_DriveCommands_4 : ∃ (d : Fin 64) (w : Wr) (s : State),
    (Accepted s w (pgDrv d.val)) ∧ (bits (w.val ||| 0x1).toNat 0 4 ≠ 0x1) :=
  ⟨9, hw 2, rdy, by decide⟩

theorem wit_DriveCommands_5 : ∃ (d : Fin 64) (w : Wr) (s : State),
    (Accepted s w (pgDrv d.val)) ∧ (bits (w.val ||| 0x2).toNat 0 4 = 0x2) ∧ ((s.drv d.val).entry = none) ∧ (s.drvState d.val = 2) :=
  ⟨9, hw 0, (rdy.wr DRV_STAT.STATE 9 2), by decide⟩

theorem wit_DriveCommands_6 : ∃ (d : Fin 64) (w : Wr) (s : State),
    (Accepted s w (pgDrv d.val)) ∧ (bits (w.val ||| 0x2).toNat 0 4 = 0x2) ∧ ((s.drv d.val).entry = none) ∧ (s.drvState d.val ≠ 2) :=
  ⟨9, hw 0, (rdy.wr DRV_STAT.STATE 9 3), by decide⟩

theorem wit_DriveCommands_7 : ∃ (d : Fin 64) (w : Wr) (e : Nat) (s : State),
    (Accepted s w (pgDrv d.val)) ∧ (bits (w.val ||| 0x2).toNat 0 4 = 0x2) ∧ ((s.drv d.val).entry = some e ∧ s.drvGran d.val (s.epoch + s.h) ≤ e) :=
  ⟨9, hw 0, 99999, (rdy.wr DRV_STAT.START_PEND 9 1).modDrv 9 fun x => { x with entry := some 99999 }, by decide⟩

theorem wit_DriveCommands_8 : ∃ (d : Fin 64) (w : Wr) (e : Nat) (s : State),
    (Accepted s w (pgDrv d.val)) ∧ (bits (w.val ||| 0x2).toNat 0 4 = 0x2) ∧ ((s.drv d.val).entry = some e ∧ e < s.drvGran d.val (s.epoch + s.h)) :=
  ⟨9, hw 0, 5, rdy.modDrv 9 fun x => { x with entry := some 5 }, by decide⟩

theorem wit_DriveCommands_9 : ∃ (d : Fin 64) (w : Wr) (s : State),
    (Accepted s w (pgDrv d.val)) ∧ (bits (w.val ||| 0x2).toNat 0 4 ≠ 0x2) :=
  ⟨9, hw 4, rdy, by decide⟩

theorem wit_DriveCommands_10 : ∃ (d : Fin 64) (w : Wr) (s : State),
    (Accepted s w (pgDrv d.val)) ∧ (bits (w.val ||| 0x4).toNat 0 4 = 0x4) ∧ (s.drvState d.val = 4 ∧ s.clrN = false) :=
  ⟨9, hw 0, (rdy.wr DRV_STAT.STATE 9 4), by decide⟩

theorem wit_DriveCommands_11 : ∃ (d : Fin 64) (w : Wr) (s : State),
    (Accepted s w (pgDrv d.val)) ∧ (bits (w.val ||| 0x4).toNat 0 4 = 0x4) ∧ (s.drvState d.val ≠ 4) :=
  ⟨9, hw 0, (rdy.wr DRV_STAT.STATE 9 3), by decide⟩

theorem wit_DriveCommands_12 : ∃ (d : Fin 64) (w : Wr) (s : State),
    (Accepted s w (pgDrv d.val)) ∧ (bits (w.val ||| 0x4).toNat 0 4 ≠ 0x4) :=
  ⟨9, hw 8, rdy, by decide⟩

theorem wit_DriveCommands_13 : ∃ (d : Fin 64) (w : Wr) (s : State),
    (Accepted s w (pgDrv d.val)) ∧ (bits (w.val ||| 0x4).toNat 0 4 = 0x4) ∧ (s.drvState d.val = 4 ∧ s.clrN = true) :=
  ⟨9, hw 0, ((rdy.wr DRV_STAT.STATE 9 4).wr LOUPE_CLR_STAT.CLR_N_ASSERTED 0 1), by decide⟩

theorem wit_DriveCommands_14 : ∃ (d : Fin 64) (w : Wr) (s : State),
    (Accepted s w (pgDrv d.val)) ∧ (bits (w.val ||| 0x8).toNat 0 4 = 0x8) :=
  ⟨9, hw 0, rdy.wr DRV_CNT.SAT 9 4, by decide⟩

theorem wit_DriveCommands_15 : ∃ (d : Fin 64) (w : Wr) (s : State),
    (Accepted s w (pgDrv d.val)) ∧ (bits (w.val ||| 0x8).toNat 0 4 ≠ 0x8) :=
  ⟨9, hw 1, rdy, by decide⟩

theorem wit_DriveCommands_16 : ∃ (d : Fin 64) (p : Pend) (s : State),
    (mergePends ((s.arrivals.filter (fun a => a.cls == 4 && a.index == d.val)).map fun a => s.pendOf a.ev (s.drvGran d.val) 66) = some p) ∧ (((s.drv d.val).entry = none ∧ s.drvState d.val = 2) ∨ (s.drv d.val).entry.any (fun e => decide (e < s.drvGran d.val (max p.due p.notBefore))) = true) :=
  ⟨9, (((rdy.wr DRV_STAT.STATE 9 2).setArrivals [{ cls := 4, index := 9, ev := { prod := 1, st := {} } }]).pendOf { prod := 1, st := {} } (((rdy.wr DRV_STAT.STATE 9 2).setArrivals [{ cls := 4, index := 9, ev := { prod := 1, st := {} } }]).drvGran 9) 66), (rdy.wr DRV_STAT.STATE 9 2).setArrivals [{ cls := 4, index := 9, ev := { prod := 1, st := {} } }], by decide⟩

theorem wit_DriveCommands_17 : ∃ (d : Fin 64) (p : Pend) (s : State),
    (mergePends ((s.arrivals.filter (fun a => a.cls == 4 && a.index == d.val)).map fun a => s.pendOf a.ev (s.drvGran d.val) 66) = some p) ∧ ((s.drv d.val).entry = none ∧ s.drvState d.val ≠ 2) :=
  ⟨9, (((rdy.wr DRV_STAT.STATE 9 2).setArrivals [{ cls := 4, index := 9, ev := { prod := 1, st := {} } }]).pendOf { prod := 1, st := {} } (((rdy.wr DRV_STAT.STATE 9 2).setArrivals [{ cls := 4, index := 9, ev := { prod := 1, st := {} } }]).drvGran 9) 66), (rdy.wr DRV_STAT.STATE 9 3).setArrivals [{ cls := 4, index := 9, ev := { prod := 1, st := {} } }], by decide +kernel⟩

theorem wit_DriveCommands_18 : ∃ (d : Fin 64) (p : Pend) (s : State),
    (mergePends ((s.arrivals.filter (fun a => a.cls == 4 && a.index == d.val)).map fun a => s.pendOf a.ev (s.drvGran d.val) 66) = some p) ∧ ((s.drv d.val).entry.any (fun e => decide (s.drvGran d.val (max p.due p.notBefore) ≤ e)) = true) :=
  ⟨9, (((rdy.wr DRV_STAT.STATE 9 2).setArrivals [{ cls := 4, index := 9, ev := { prod := 1, st := {} } }]).pendOf { prod := 1, st := {} } (((rdy.wr DRV_STAT.STATE 9 2).setArrivals [{ cls := 4, index := 9, ev := { prod := 1, st := {} } }]).drvGran 9) 66), ((rdy.wr DRV_STAT.STATE 9 1).modDrv 9 fun x => { x with entry := some 99999 }).setArrivals [{ cls := 4, index := 9, ev := { prod := 1, st := {} } }], by decide +kernel⟩

theorem wit_DriveCommands_19 : ∃ (d : Fin 64) (s : State),
    (s.arrivals.filter (fun a => a.cls == 4 && a.index == d.val) = []) :=
  ⟨9, rdy.wr DRV_STAT.STATE 9 2, by decide⟩

theorem wit_DriveCommands_20 : ∃ (d : Fin 64) (e : Nat) (s : State),
    ((s.drv d.val).entry = some e ∧ e ≤ s.epoch) ∧ (s.drvState d.val = 1) :=
  ⟨9, 16, { ((rdy.wr DRV_STAT.STATE 9 1).modDrv 9 fun x => { x with entry := some 16 }) with epoch := 16 }, by decide⟩

theorem wit_DriveCommands_21 : ∃ (d : Fin 64) (e : Nat) (s : State),
    ((s.drv d.val).entry = some e ∧ s.epoch < e) :=
  ⟨9, 16, (rdy.wr DRV_STAT.STATE 9 1).modDrv 9 fun x => { x with entry := some 16 }, by decide⟩

theorem wit_DriveCommands_22 : ∃ (d : Fin 64) (s : State),
    ((s.drv d.val).entry = none ∨ s.drvState d.val ≠ 1) :=
  ⟨9, rdy.wr DRV_STAT.STATE 9 1, by decide⟩

theorem wit_DriveCommands_23 : ∃ (d : Fin 64) (t0 : Nat) (k : Nat) (s : State),
    (s.drvState d.val = 2 ∧ dueStop (s.drv d.val).stops (s.drvNow d.val) = some (t0, k)) :=
  ⟨9, 16, 2, { ((rdy.wr DRV_STAT.STATE 9 2).modDrv 9 fun x => { x with stops := [(16, 5), (16, 2)] }) with epoch := 16 }, by decide⟩

theorem wit_DriveCommands_24 : ∃ (d : Fin 64) (s : State),
    (dueStop (s.drv d.val).stops (s.drvNow d.val) = none) :=
  ⟨9, ((rdy.wr DRV_STAT.STATE 9 2).modDrv 9 fun x => { x with stops := [(16, 5), (16, 2)] }), by decide⟩

theorem wit_DriveCommands_25 : ∃ (d : Fin 64) (s : State),
    (s.drvState d.val ≠ 2) :=
  ⟨9, ((rdy.wr DRV_STAT.STATE 9 3).modDrv 9 fun x => { x with stops := [(0, 5)] }), by decide⟩

theorem wit_DriveCommands_26 : ∃ (d : Fin 64) (x : Nat) (t0 : Nat) (p : Nat) (s : State),
    (s.sampleTick d.val = some x ∧ (s.drv d.val).ramp = some (t0, p) ∧ s.drvState d.val = 3 ∧ t0 + p ≤ x) :=
  ⟨9, 32, 0, 20, { (((rdy.wr DRV_STAT.STATE 9 3).wr DRV_STAT.STOP_CAUSE 9 2).modDrv 9 fun x => { x with ramp := some (0, 20) }) with epoch := 32 }, by decide⟩

theorem wit_DriveCommands_27 : ∃ (d : Fin 64) (t0 : Nat) (p : Nat) (s : State),
    ((s.drv d.val).ramp = some (t0, p) ∧ (s.drvState d.val ≠ 3 ∨ s.epoch < t0 + p ∧ s.fallback = false)) :=
  ⟨9, 0, 33, { ((rdy.wr DRV_STAT.STATE 9 3).modDrv 9 fun x => { x with ramp := some (0, 33) }) with epoch := 32 }, by decide⟩

theorem wit_DriveCommands_28 : ∃ (d : Fin 64) (s : State),
    (s.sampleTick d.val = none ∨ (s.drv d.val).ramp = none ∨ s.drvState d.val ≠ 3) :=
  ⟨9, { (rdy.wr DRV_STAT.STATE 9 3) with epoch := 33 }, by decide⟩

theorem wit_DriveSamplesAndTones_1 : ∃ (d : Fin 64) (x : Nat) (s : State),
    (s.sampleTick d.val = some x) ∧ (s.drvBusy d.val = false) :=
  ⟨9, 32, { (rdy.wr DRV_STAT.STATE 9 1) with epoch := 32 }, by decide⟩

theorem wit_DriveSamplesAndTones_2_1 : ∃ (d : Fin 64) (x : Nat) (s : State),
    (s.sampleTick d.val = some x ∧ (s.drv d.val).entry = none) ∧ (s.drvBusy d.val = true ∧ dueStop (s.drv d.val).stops x = none ∧ x < ((s.drv d.val).ramp.getD (x, 1)).1 + ((s.drv d.val).ramp.getD (x, 1)).2) ∧ (∀ i : Fin 2, s.srcFeeds d.val i.val x = true → (s.srcTicks d.val i.val).contains x = true) :=
  ⟨9, 32, { (rdy.wr DRV_STAT.STATE 9 2) with epoch := 32 }, by decide⟩

theorem wit_DriveSamplesAndTones_2_2 : ∃ (d : Fin 64) (x : Nat) (s : State),
    (s.sampleTick d.val = some x ∧ (s.drv d.val).entry = none) ∧ (s.drvBusy d.val = true ∧ dueStop (s.drv d.val).stops x = none ∧ x < ((s.drv d.val).ramp.getD (x, 1)).1 + ((s.drv d.val).ramp.getD (x, 1)).2) ∧ (∀ i : Fin 2, s.srcFeeds d.val i.val x = true → (s.srcTicks d.val i.val).contains x = true) :=
  ⟨9, 32, { ((rdy.wr DRV_STAT.STATE 9 2).wrA DRV_SRC_A.KIND 9 2) with epoch := 32 }, by decide⟩

theorem wit_DriveSamplesAndTones_3 : ∃ (d : Fin 64) (x : Nat) (t0 : Nat) (k : Nat) (s : State),
    (s.sampleTick d.val = some x ∧ (s.drv d.val).entry = none ∧ s.drvState d.val = 2) ∧ (dueStop (s.drv d.val).stops x = some (t0, k) ∧ x < t0 + s.rampT d.val) ∧ (∀ i : Fin 2, s.srcFeeds d.val i.val x = true → (s.srcTicks d.val i.val).contains x = true) :=
  ⟨9, 32, 32, 2, { ((rdy.wr DRV_STAT.STATE 9 2).wrA DRV_RAMP.RAMP_US 9 4).modDrv 9 (fun x => { x with stops := [(32, 5), (32, 2)] }) with epoch := 32 }, by decide⟩

theorem wit_DriveSamplesAndTones_4_1 : ∃ (d : Fin 64) (s : State),
    (s.sampleTick d.val = none ∧ s.drvBusy d.val = true ∧ (s.drv d.val).entry = none) ∧ (s.gridOn (grpOf d.val) = true ∧ s.fallback = false ∧ (s.grp (grpOf d.val)).o ≤ s.epoch + 66 ∧ (s.epoch + 66 - (s.grp (grpOf d.val)).o) % max 1 (s.grpPer (grpOf d.val)) = 0) ∧ (∃ i : Fin 2, s.srcFeeds d.val i.val (s.epoch + 66) = true ∧ (s.srcTicks d.val i.val).contains (s.epoch + 66) = false) ∧ ((s.drv d.val).under = none) :=
  ⟨9, { ((((rdy.wr DRV_STAT.STATE 9 2).wrA DRV_SRC_A.KIND 9 3).wr CROWN_STAT.STATE 0 1).wr DRV_GRP_STAT.GRID_VALID 1 1) with epoch := 184 }, by decide +kernel⟩

theorem wit_DriveSamplesAndTones_4_2 : ∃ (d : Fin 64) (s : State),
    (s.sampleTick d.val = none ∧ s.drvBusy d.val = true ∧ (s.drv d.val).entry = none) ∧ (s.gridOn (grpOf d.val) = true ∧ s.fallback = false ∧ (s.grp (grpOf d.val)).o ≤ s.epoch + 66 ∧ (s.epoch + 66 - (s.grp (grpOf d.val)).o) % max 1 (s.grpPer (grpOf d.val)) = 0) ∧ (∃ i : Fin 2, s.srcFeeds d.val i.val (s.epoch + 66) = true ∧ (s.srcTicks d.val i.val).contains (s.epoch + 66) = false) ∧ ((s.drv d.val).under = none) :=
  ⟨9, { ((((rdy.wr DRV_STAT.STATE 9 3).wrA DRV_SRC_A.KIND 9 3).wr CROWN_STAT.STATE 0 1).wr DRV_GRP_STAT.GRID_VALID 1 1) with epoch := 184 }, by decide +kernel⟩

theorem wit_DriveSamplesAndTones_5 : ∃ (d : Fin 64) (s : State),
    (s.sampleTick d.val = none ∧ s.drvBusy d.val = false) :=
  ⟨9, { (rdy.wr DRV_STAT.STATE 9 1) with epoch := 33 }, by decide⟩

theorem wit_DriveSamplesAndTones_6 : ∃ (w : Wr) (s : State),
    (Accepted s w pgAf) :=
  ⟨hw 1023, rdy.setAf (0x200000 + 32 * 1023) [1, 2, 3, 4], by decide⟩

theorem wit_DriveSamplesAndTones_7 : ∃ (w : Wr) (s : State),
    (Accepted s w pgAf) ∧ (tsetBad ((List.range 7).map (fun n => s.rd TSET_D.D n) ++ [w.val.toNat]) = false ∧ s.tsetInUse (s.rd TSET_IDX.INDEX 0) = false) :=
  ⟨hw 0x1234, (rdy.wr TSET_IDX.INDEX 0 1023).modEng 5 fun g => { g with tsets := [1023] }, by decide +kernel⟩

theorem wit_DriveSamplesAndTones_8 : ∃ (w : Wr) (s : State),
    (Accepted s w pgAf) ∧ (tsetBad ((List.range 7).map (fun n => s.rd TSET_D.D n) ++ [w.val.toNat]) = true) :=
  ⟨hw 0x10000, rdy, by decide⟩

theorem wit_DriveSamplesAndTones_9 : ∃ (w : Wr) (s : State),
    (Accepted s w pgAf) ∧ (tsetBad ((List.range 7).map (fun n => s.rd TSET_D.D n) ++ [w.val.toNat]) = false ∧ s.tsetInUse (s.rd TSET_IDX.INDEX 0) = true) :=
  ⟨hw 0, (rdy.modEng 5 fun g => { g with tsets := [0] }).wr ENG_STAT.STATE 5 3, by decide +kernel⟩

theorem wit_DacOutputs_1 : ∃ (d : Fin 64) (w : Wr) (s : State),
    (Accepted s w (pgDrv d.val)) ∧ (bits (w.val ||| 0x1).toNat 0 4 = 0x1) ∧ (s.drvState d.val = 0 ∧ s.clrN = false) ∧ ((s.drv d.val).seq = none) :=
  ⟨9, hw 0, rdy, by decide⟩

theorem wit_DacOutputs_2 : ∃ (d : Fin 64) (w : Wr) (s : State),
    (Accepted s w (pgDrv d.val)) ∧ (bits (w.val ||| 0x1).toNat 0 4 = 0x1) ∧ (s.drvState d.val = 0 ∧ s.clrN = true) :=
  ⟨9, hw 0, rdy.wr LOUPE_CLR_STAT.CLR_N_ASSERTED 0 1, by decide⟩

theorem wit_DacOutputs_3 : ∃ (d : Fin 64) (w : Wr) (s : State),
    (Accepted s w (pgDrv d.val)) ∧ (s.drvState d.val ≠ 0) :=
  ⟨9, hw 0, (rdy.wr DRV_STAT.STATE 9 1), by decide⟩

theorem wit_DacOutputs_4 : ∃ (d : Fin 64) (w : Wr) (s : State),
    (Accepted s w (pgDrv d.val)) ∧ (bits (w.val ||| 0x1).toNat 0 4 = 0x1) ∧ (s.drvState d.val = 0 ∧ s.clrN = false ∧ (s.drv d.val).seq ≠ none) :=
  ⟨9, hw 0, rdy.modDrv 9 fun c => { c with seq := some { kind := 1, phase := 1, ends := 0, range := 0 } }, by decide⟩

theorem wit_DacOutputs_5 : ∃ (d : Fin 64) (w : Wr) (s : State),
    (Accepted s w (pgDrv d.val)) ∧ (bit w.val.toNat 3 = true ∧ bits w.val.toNat 1 2 = 0) ∧ (s.drvState d.val = 0 ∧ s.clrN = false ∧ (s.drv d.val).seq = none) :=
  ⟨9, hw 8, rdy, by decide⟩

theorem wit_DacOutputs_6 : ∃ (d : Fin 64) (q : Seq) (s : State),
    (s.seqDue d.val 1 = some q ∧ q.phase = 1 ∧ s.on LOUPE_STAT.VDDA_HV_OK 0 = true) :=
  ⟨9, { kind := 1, phase := 1, ends := 0, range := 0 }, (rdy.wr LOUPE_STAT.VDDA_HV_OK 0 1).modDrv 9 fun c => { c with seq := some { kind := 1, phase := 1, ends := 0, range := 0 } }, by decide⟩

theorem wit_DacOutputs_7 : ∃ (d : Fin 64) (q : Seq) (s : State),
    (s.seqDue d.val 1 = some q ∧ q.phase = 1 ∧ s.on LOUPE_STAT.VDDA_HV_OK 0 = false) :=
  ⟨9, { kind := 1, phase := 1, ends := 0, range := 0 }, rdy.modDrv 9 fun c => { c with seq := some { kind := 1, phase := 1, ends := 0, range := 0 } }, by decide⟩

theorem wit_DacOutputs_8 : ∃ (d : Fin 64) (q : Seq) (s : State),
    (s.seqDue d.val 1 = some q ∧ q.phase = 2 ∧ s.drvC d.val = 0) :=
  ⟨9, { kind := 1, phase := 2, ends := 0, range := 0 }, rdy.modDrv 9 fun c => { c with seq := some { kind := 1, phase := 2, ends := 0, range := 0 } }, by decide⟩

theorem wit_DacOutputs_9 : ∃ (d : Fin 64) (q : Seq) (s : State),
    (s.seqDue d.val 1 = some q ∧ q.phase = 2 ∧ s.drvC d.val ≠ 0 ∧ s.clrN = false) :=
  ⟨9, { kind := 1, phase := 2, ends := 0, range := 0 }, ((rdy.wrA DAC_CFG.CLEAR_CODE 9 5)).modDrv 9 fun c => { c with seq := some { kind := 1, phase := 2, ends := 0, range := 0 } }, by decide⟩

theorem wit_DacOutputs_10 : ∃ (d : Fin 64) (q : Seq) (s : State),
    (s.seqDue d.val 1 = some q ∧ q.phase = 3) :=
  ⟨9, { kind := 1, phase := 3, ends := 0, range := 0 }, rdy.modDrv 9 fun c => { c with seq := some { kind := 1, phase := 3, ends := 0, range := 0 } }, by decide⟩

theorem wit_DacOutputs_11 : ∃ (d : Fin 64) (s : State),
    (s.seqDue d.val 1 = none) :=
  ⟨9, rdy, by decide⟩

theorem wit_DacOutputs_12 : ∃ (d : Fin 64) (q : Seq) (s : State),
    (s.seqDue d.val 1 = some q ∧ q.phase = 2 ∧ s.drvC d.val ≠ 0 ∧ s.clrN = true) :=
  ⟨9, { kind := 1, phase := 2, ends := 0, range := 0 }, ((rdy.wrA DAC_CFG.CLEAR_CODE 9 5).wr LOUPE_CLR_STAT.CLR_N_ASSERTED 0 1).modDrv 9 fun c => { c with seq := some { kind := 1, phase := 2, ends := 0, range := 0 } }, by decide⟩

theorem wit_DacOutputs_13 : ∃ (d : Fin 64) (w : Wr) (s : State),
    (Accepted s w (pgDrv d.val)) ∧ (bits (w.val ||| 0x2).toNat 0 4 = 0x2) ∧ (s.drvState d.val = 4 ∨ s.drvState d.val = 1 ∧ (s.drv d.val).entry = none) ∧ ((s.drv d.val).seq = none) ∧ (s.drvC d.val = 0 ∧ s.idleY d.val s.epoch = 0) :=
  ⟨9, hw 0, (rdy.wr DRV_STAT.STATE 9 4), by decide⟩

theorem wit_DacOutputs_14 : ∃ (d : Fin 64) (w : Wr) (s : State),
    (Accepted s w (pgDrv d.val)) ∧ (bits (w.val ||| 0x2).toNat 0 4 = 0x2) ∧ (s.drvState d.val = 4 ∨ s.drvState d.val = 1 ∧ (s.drv d.val).entry = none) ∧ ((s.drv d.val).seq = none) ∧ (s.drvC d.val ≠ 0 ∨ s.idleY d.val s.epoch ≠ 0) :=
  ⟨9, hw 0, (rdy.wr DRV_STAT.STATE 9 1).wrA DAC_CFG.CLEAR_CODE 9 5, by decide⟩

theorem wit_DacOutputs_15 : ∃ (d : Fin 64) (w : Wr) (s : State),
    (Accepted s w (pgDrv d.val)) ∧ (bits (w.val ||| 0x2).toNat 0 4 = 0x2) ∧ (¬ (s.drvState d.val = 4 ∨ s.drvState d.val = 1 ∧ (s.drv d.val).entry = none)) :=
  ⟨9, hw 0, (rdy.wr DRV_STAT.STATE 9 2), by decide⟩

theorem wit_DacOutputs_16 : ∃ (d : Fin 64) (w : Wr) (s : State),
    (Accepted s w (pgDrv d.val)) ∧ (bits (w.val ||| 0x2).toNat 0 4 = 0x2) ∧ (s.drvState d.val = 4 ∨ s.drvState d.val = 1 ∧ (s.drv d.val).entry = none) ∧ ((s.drv d.val).seq ≠ none) :=
  ⟨9, hw 0, (rdy.wr DRV_STAT.STATE 9 4).modDrv 9 fun c => { c with seq := some { kind := 1, phase := 1, ends := 0, range := 0 } }, by decide⟩

theorem wit_DacOutputs_17 : ∃ (d : Fin 64) (w : Wr) (s : State),
    (Accepted s w (pgDrv d.val)) ∧ (bit w.val.toNat 3 = true ∧ bit w.val.toNat 0 = false ∧ bit w.val.toNat 2 = false) ∧ (s.drvState d.val = 4 ∨ s.drvState d.val = 1 ∧ (s.drv d.val).entry = none) ∧ ((s.drv d.val).seq = none) :=
  ⟨9, hw 8, (rdy.wr DRV_STAT.STATE 9 4), by decide⟩

theorem wit_DacOutputs_18 : ∃ (d : Fin 64) (q : Seq) (s : State),
    (s.seqDue d.val 2 = some q ∧ q.phase = 1) :=
  ⟨9, { kind := 2, phase := 1, ends := 0, range := 0 }, rdy.modDrv 9 fun c => { c with seq := some { kind := 2, phase := 1, ends := 0, range := 0 } }, by decide⟩

theorem wit_DacOutputs_19 : ∃ (d : Fin 64) (q : Seq) (s : State),
    (s.seqDue d.val 2 = some q ∧ q.phase = 2) :=
  ⟨9, { kind := 2, phase := 2, ends := 0, range := 0 }, (rdy.wr DRV_STAT.STATE 9 1).modDrv 9 fun c => { c with seq := some { kind := 2, phase := 2, ends := 0, range := 0 } }, by decide⟩

theorem wit_DacOutputs_20 : ∃ (d : Fin 64) (s : State),
    (s.seqDue d.val 2 = none) :=
  ⟨9, rdy, by decide⟩

theorem wit_DacOutputs_21 : ∃ (d : Fin 64) (w : Wr) (s : State),
    (Accepted s w (pgDrv d.val)) ∧ (bits (w.val ||| 0x4).toNat 0 4 = 0x4) ∧ (s.drvState d.val = 1 ∧ (s.drv d.val).entry = none ∧ s.clrN = false ∧ s.rdA DAC_CFG.CLEAR_CODE d.val = 0x80000) ∧ ((s.drv d.val).seq = none) ∧ (s.rd DAC_STAT.RANGE d.val ≠ (bits w.val.toNat 8 1)) :=
  ⟨9, hw 0x100, (rdy.wr DRV_STAT.STATE 9 1), by decide⟩

theorem wit_DacOutputs_22 : ∃ (d : Fin 64) (w : Wr) (s : State),
    (Accepted s w (pgDrv d.val)) ∧ (bits (w.val ||| 0x4).toNat 0 4 = 0x4) ∧ (s.drvState d.val = 1 ∧ (s.drv d.val).entry = none ∧ s.clrN = false ∧ s.rdA DAC_CFG.CLEAR_CODE d.val = 0x80000) ∧ ((s.drv d.val).seq = none) ∧ (s.rd DAC_STAT.RANGE d.val = (bits w.val.toNat 8 1)) :=
  ⟨9, hw 0, (rdy.wr DRV_STAT.STATE 9 1), by decide⟩

theorem wit_DacOutputs_23 : ∃ (d : Fin 64) (w : Wr) (s : State),
    (Accepted s w (pgDrv d.val)) ∧ (bits (w.val ||| 0x4).toNat 0 4 = 0x4) ∧ (s.drvState d.val ≠ 1 ∨ (s.drv d.val).entry ≠ none) :=
  ⟨9, hw 0, (rdy.wr DRV_STAT.STATE 9 2), by decide⟩

theorem wit_DacOutputs_24 : ∃ (d : Fin 64) (w : Wr) (s : State),
    (Accepted s w (pgDrv d.val)) ∧ (bits (w.val ||| 0x4).toNat 0 4 = 0x4) ∧ (s.drvState d.val = 1 ∧ (s.drv d.val).entry = none ∧ s.clrN = true) :=
  ⟨9, hw 0, (rdy.wr DRV_STAT.STATE 9 1).wr LOUPE_CLR_STAT.CLR_N_ASSERTED 0 1, by decide⟩

theorem wit_DacOutputs_25 : ∃ (d : Fin 64) (w : Wr) (s : State),
    (Accepted s w (pgDrv d.val)) ∧ (bits (w.val ||| 0x4).toNat 0 4 = 0x4) ∧ (s.drvState d.val = 1 ∧ (s.drv d.val).entry = none ∧ s.clrN = false ∧ s.rdA DAC_CFG.CLEAR_CODE d.val ≠ 0x80000) :=
  ⟨9, hw 0, (rdy.wr DRV_STAT.STATE 9 1).wrA DAC_CFG.CLEAR_CODE 9 5, by decide⟩

theorem wit_DacOutputs_26 : ∃ (d : Fin 64) (w : Wr) (s : State),
    (Accepted s w (pgDrv d.val)) ∧ (bits (w.val ||| 0x4).toNat 0 4 = 0x4) ∧ (s.drvState d.val = 1 ∧ (s.drv d.val).entry = none ∧ s.clrN = false ∧ s.rdA DAC_CFG.CLEAR_CODE d.val = 0x80000 ∧ (s.drv d.val).seq ≠ none) :=
  ⟨9, hw 0, (rdy.wr DRV_STAT.STATE 9 1).modDrv 9 fun c => { c with seq := some { kind := 1, phase := 1, ends := 0, range := 0 } }, by decide⟩

theorem wit_DacOutputs_27 : ∃ (d : Fin 64) (w : Wr) (s : State),
    (Accepted s w (pgDrv d.val)) ∧ (bit w.val.toNat 3 = true ∧ bits w.val.toNat 0 2 = 0) ∧ (s.drvState d.val = 1 ∧ (s.drv d.val).entry = none ∧ s.clrN = false ∧ s.rdA DAC_CFG.CLEAR_CODE d.val = 0x80000 ∧ (s.drv d.val).seq = none) :=
  ⟨9, hw 8, (rdy.wr DRV_STAT.STATE 9 1), by decide⟩

theorem wit_DacOutputs_28 : ∃ (d : Fin 64) (q : Seq) (s : State),
    (s.seqDue d.val 3 = some q ∧ q.phase = 1) :=
  ⟨9, { kind := 3, phase := 1, ends := 0, range := 1 }, (rdy.wr DRV_STAT.STATE 9 1).modDrv 9 fun c => { c with seq := some { kind := 3, phase := 1, ends := 0, range := 1 } }, by decide⟩

theorem wit_DacOutputs_29 : ∃ (d : Fin 64) (q : Seq) (s : State),
    (s.seqDue d.val 3 = some q ∧ q.phase = 2) :=
  ⟨9, { kind := 3, phase := 2, ends := 0, range := 1 }, (rdy.wr DRV_STAT.STATE 9 1).modDrv 9 fun c => { c with seq := some { kind := 3, phase := 2, ends := 0, range := 1 } }, by decide⟩

theorem wit_DacOutputs_30 : ∃ (d : Fin 64) (q : Seq) (s : State),
    (s.seqDue d.val 3 = some q ∧ q.phase = 3) :=
  ⟨9, { kind := 3, phase := 3, ends := 0, range := 1 }, (rdy.wr DRV_STAT.STATE 9 1).modDrv 9 fun c => { c with seq := some { kind := 3, phase := 3, ends := 0, range := 1 } }, by decide⟩

theorem wit_DacOutputs_31 : ∃ (d : Fin 64) (s : State),
    (s.seqDue d.val 3 = none) :=
  ⟨9, rdy, by decide⟩

theorem wit_DacOutputs_32 : ∃ (d : Fin 64) (w : Wr) (s : State),
    (Accepted s w (pgDrv d.val)) ∧ (bits (w.val ||| 0x8).toNat 0 4 = 0x8) ∧ ((s.drv d.val).seq = none) :=
  ⟨9, hw 0, rdy, by decide⟩

theorem wit_DacOutputs_33 : ∃ (d : Fin 64) (w : Wr) (s : State),
    (Accepted s w (pgDrv d.val)) ∧ (bits (w.val ||| 0x8).toNat 0 4 = 0x8) ∧ ((s.drv d.val).seq ≠ none) :=
  ⟨9, hw 0, rdy.modDrv 9 fun c => { c with seq := some { kind := 1, phase := 1, ends := 0, range := 0 } }, by decide⟩

theorem wit_DacOutputs_34 : ∃ (g : Fin 8) (s : State),
    ((s.grp g.val).sw.any (fun t => decide (t ≤ s.epoch)) = true) :=
  ⟨1, (((rdy.wr DRV_STAT.STATE 9 2).wrA DAC_CFG.LDSRC 9 2).modDrv 9 fun c => { c with din := (7, 0) }).modGrp 1 fun x => { x with sw := [0, 4] }, by decide⟩

theorem wit_DacOutputs_35 : ∃ (g : Fin 8) (s : State),
    ((s.grp g.val).sw.any (fun t => decide (t ≤ s.epoch)) = false) :=
  ⟨1, rdy.modGrp 1 fun x => { x with sw := [4] }, by decide⟩

theorem wit_DacOutputs_36_1 : ∃ (g : Fin 8) (sub : Fin 8) (s : State),
    ((s.grp g.val).edge = none ∨ (s.grp g.val).edge.getD 0 + 32 ≤ 8 * s.epoch + sub.val) :=
  ⟨1, 7, rdy, by decide⟩

theorem wit_DacOutputs_36_2 : ∃ (g : Fin 8) (sub : Fin 8) (s : State),
    ((s.grp g.val).edge = none ∨ (s.grp g.val).edge.getD 0 + 32 ≤ 8 * s.epoch + sub.val) :=
  ⟨1, 0, { (rdy.modGrp 1 fun x => { x with edge := some 0 }) with epoch := 4 }, by decide⟩

theorem wit_DacOutputs_37 : ∃ (g : Fin 8) (sub : Fin 8) (p : Nat) (s : State),
    ((s.grp g.val).edge = some p ∧ p ≤ 8 * s.epoch + sub.val ∧ 8 * s.epoch + sub.val < p + 32) :=
  ⟨1, 7, 0, { (rdy.modGrp 1 fun x => { x with edge := some 0 }) with epoch := 3 }, by decide⟩

theorem wit_DacOutputs_38 : ∃ (g : Fin 8) (e : Nat) (r : List Nat) (s : State),
    ((s.grp g.val).ldac.filter (fun t => decide (t + 8 ≤ s.epoch)) = e :: r) :=
  ⟨1, 4, [], { (((rdy.wr DRV_STAT.STATE 9 2).wrA DAC_CFG.LDSRC 9 1).modDrv 9 fun c => { c with din := (7, 8), din0 := (6, 4) }).modGrp 1 (fun x => { x with ldac := [4] }) with epoch := 12 }, by decide⟩

theorem wit_DacOutputs_39 : ∃ (g : Fin 8) (s : State),
    ((s.grp g.val).ldac.filter (fun t => decide (t + 8 ≤ s.epoch)) = []) :=
  ⟨1, { rdy.modGrp 1 (fun x => { x with ldac := [4] }) with epoch := 11 }, by decide⟩

theorem wit_DacOutputs_40 : ∃ (d : Fin 64) (s : State),
    (s.cfgLdsrc d.val ≠ 0 ∧ (s.drv d.val).missing = false ∧ (s.drv d.val).loadAt + 2 * s.grpPer (grpOf d.val) ≤ s.epoch) :=
  ⟨9, { (rdy.wr DRV_STAT.STATE 9 2).wrA DAC_CFG.LDSRC 9 1 with epoch := 500 }, by decide⟩

theorem wit_DacOutputs_41 : ∃ (d : Fin 64) (s : State),
    (s.cfgLdsrc d.val = 0 ∨ (s.drv d.val).missing = true ∨ s.epoch < (s.drv d.val).loadAt + 2 * s.grpPer (grpOf d.val)) :=
  ⟨9, rdy, by decide⟩

theorem wit_DacOutputs_42 : ∃ (d : Fin 64) (h : Nat) (s : State),
    ((s.drv d.val).holdTo = some h ∧ h ≤ s.epoch) :=
  ⟨9, 0, rdy.modDrv 9 fun c => { c with holdTo := some 0, m0 := 5 }, by decide⟩

theorem wit_DacOutputs_43 : ∃ (d : Fin 64) (h : Nat) (s : State),
    ((s.drv d.val).holdTo = some h ∧ s.epoch < h) :=
  ⟨9, 4, rdy.modDrv 9 fun c => { c with holdTo := some 4 }, by decide⟩

theorem wit_DacOutputs_44 : ∃ (d : Fin 64) (s : State),
    ((s.drv d.val).holdTo = none) :=
  ⟨9, rdy, by decide⟩

theorem wit_DacOutputs_45 : ∃ (s : State),
    (s.clrN = false) :=
  ⟨(rdy.wr DRV_STAT.STATE 9 2).wrA DAC_CFG.CLEAR_CODE 9 5, by decide⟩

theorem wit_DacOutputs_46 : ∃ (s : State),
    (s.clrN = true) :=
  ⟨rdy.wr LOUPE_CLR_STAT.CLR_N_ASSERTED 0 1, by decide⟩

theorem wit_LoupeAndTrims_1 : ∃ (d : Nat) (s : State),
    (s.on LOUPE_CTRL.EN 0 = true ∧ s.epoch % 125 = 0 ∧ s.epoch / 125 % 128 = 2 * d ∧ (d = 0 → s.cal.later.all (fun x => x.1 != 4) = true)) ∧ (s.on LOUPE_CH_CFG.EN d = false ∨ s.drvState d = 0 ∨ (s.drv d).seq.isSome = true ∨ s.tb < (s.drv d).seqEnd + 1000) :=
  ⟨9, { rdy with epoch := 125 * 18, tb := 5000 }, by decide⟩

theorem wit_LoupeAndTrims_2 : ∃ (reading : BitVec 16) (d : Nat) (s : State),
    (s.on LOUPE_CTRL.EN 0 = true ∧ s.epoch % 125 = 0 ∧ s.epoch / 125 % 128 = 2 * d ∧ (d = 0 → s.cal.later.all (fun x => x.1 != 4) = true)) ∧ (s.on LOUPE_CH_CFG.EN d = true ∧ (s.drvState d = 2 ∨ s.drvState d = 3) ∧ (s.drv d).seq = none ∧ (s.drv d).seqEnd + 1000 ≤ s.tb) ∧ ((signed 16 reading.toNat - roundDiv (s.loupeModel d s.epoch) 65536).natAbs ≤ s.rd LOUPE_CH_CFG.TOL d) :=
  ⟨5, 9, { (rdy.wr DRV_STAT.STATE 9 2) with epoch := 125 * 18, tb := 5000 }, by decide⟩

theorem wit_LoupeAndTrims_3 : ∃ (reading : BitVec 16) (d : Nat) (s : State),
    (s.on LOUPE_CTRL.EN 0 = true ∧ s.epoch % 125 = 0 ∧ s.epoch / 125 % 128 = 2 * d ∧ (d = 0 → s.cal.later.all (fun x => x.1 != 4) = true)) ∧ (s.on LOUPE_CH_CFG.EN d = true ∧ (s.drvState d = 2 ∨ s.drvState d = 3) ∧ (s.drv d).seq = none ∧ (s.drv d).seqEnd + 1000 ≤ s.tb) ∧ (s.rd LOUPE_CH_CFG.TOL d < (signed 16 reading.toNat - roundDiv (s.loupeModel d s.epoch) 65536).natAbs) ∧ ((s.node d).run + 1 < s.rd LOUPE_CH_CFG.MISS_N d ∨ (s.node d).told = true) :=
  ⟨5000, 9, { (rdy.wr DRV_STAT.STATE 9 2) with epoch := 125 * 18, tb := 5000 }, by decide⟩

theorem wit_LoupeAndTrims_4 : ∃ (reading : BitVec 16) (d : Nat) (s : State),
    (s.on LOUPE_CTRL.EN 0 = true ∧ s.epoch % 125 = 0 ∧ s.epoch / 125 % 128 = 2 * d ∧ (d = 0 → s.cal.later.all (fun x => x.1 != 4) = true)) ∧ (s.on LOUPE_CH_CFG.EN d = true ∧ (s.drvState d = 2 ∨ s.drvState d = 3) ∧ (s.drv d).seq = none ∧ (s.drv d).seqEnd + 1000 ≤ s.tb) ∧ (s.rd LOUPE_CH_CFG.TOL d < (signed 16 reading.toNat - roundDiv (s.loupeModel d s.epoch) 65536).natAbs) ∧ (s.rd LOUPE_CH_CFG.MISS_N d ≤ (s.node d).run + 1 ∧ (s.node d).told = false ∧ s.on LOUPE_CH_CFG.ACTION d = false) :=
  ⟨5000, 9, { (rdy.wr DRV_STAT.STATE 9 2).setNode 9 { run := 2 } with epoch := 125 * 18, tb := 5000 }, by decide⟩

theorem wit_LoupeAndTrims_5 : ∃ (reading : BitVec 16) (n : Nat) (s : State),
    (s.on LOUPE_CTRL.EN 0 = true ∧ s.epoch % 125 = 0 ∧ s.epoch / 125 % 2 = 1 ∧ s.epoch / 125 % 128 ≠ 127) ∧ (s.calHolds 4 0 = false ∧ s.nextNode s.loupe.node = some n ∧ (n < 89 ∨ 96 < n)) ∧ (signed 16 (s.rd LOUPE_NODE_LIM.LO (n - 64)) ≤ signed 16 reading.toNat ∧ signed 16 reading.toNat < signed 16 (s.rd LOUPE_NODE_LIM.HI (n - 64))) :=
  ⟨5, 66, { rdy.wr LOUPE_NODE_CFG.EN 2 1 with epoch := 125 }, by decide⟩

theorem wit_LoupeAndTrims_6 : ∃ (reading : BitVec 16) (d : Nat) (s : State),
    (s.on LOUPE_CTRL.EN 0 = true ∧ s.epoch % 125 = 0 ∧ s.epoch / 125 % 128 = 2 * d ∧ (d = 0 → s.cal.later.all (fun x => x.1 != 4) = true)) ∧ (s.on LOUPE_CH_CFG.EN d = true ∧ (s.drvState d = 2 ∨ s.drvState d = 3) ∧ (s.drv d).seq = none ∧ (s.drv d).seqEnd + 1000 ≤ s.tb) ∧ (s.rd LOUPE_CH_CFG.TOL d < (signed 16 reading.toNat - roundDiv (s.loupeModel d s.epoch) 65536).natAbs) ∧ (s.rd LOUPE_CH_CFG.MISS_N d ≤ (s.node d).run + 1 ∧ (s.node d).told = false ∧ s.on LOUPE_CH_CFG.ACTION d = true ∧ s.drvState d = 2 ∧ (s.drv d).entry = none) :=
  ⟨5000, 9, { ((rdy.wr DRV_STAT.STATE 9 2).wr LOUPE_CH_CFG.ACTION 9 1).setNode 9 { run := 2 } with epoch := 125 * 18, tb := 5000 }, by decide⟩

theorem wit_LoupeAndTrims_7 : ∃ (reading : BitVec 16) (d : Nat) (s : State),
    (s.on LOUPE_CTRL.EN 0 = true ∧ s.epoch % 125 = 0 ∧ s.epoch / 125 % 128 = 2 * d ∧ (d = 0 → s.cal.later.all (fun x => x.1 != 4) = true)) ∧ (s.on LOUPE_CH_CFG.EN d = true ∧ (s.drvState d = 1 ∨ s.drvState d = 4) ∧ (s.drv d).seq = none ∧ (s.drv d).seqEnd + 1000 ≤ s.tb) ∧ ((signed 16 reading.toNat - roundDiv (s.loupeModel d s.epoch) 65536).natAbs ≤ s.rd LOUPE_CH_CFG.TOL d) :=
  ⟨5, 9, { (rdy.wr DRV_STAT.STATE 9 1) with epoch := 125 * 18, tb := 5000 }, by decide⟩

theorem wit_LoupeAndTrims_8 : ∃ (reading : BitVec 16) (n : Nat) (s : State),
    (s.on LOUPE_CTRL.EN 0 = true ∧ s.epoch % 125 = 0 ∧ s.epoch / 125 % 2 = 1 ∧ s.epoch / 125 % 128 ≠ 127) ∧ (s.calHolds 4 0 = false ∧ s.nextNode s.loupe.node = some n ∧ (n < 89 ∨ 96 < n)) ∧ ((signed 16 reading.toNat < signed 16 (s.rd LOUPE_NODE_LIM.LO (n - 64)) ∨ signed 16 (s.rd LOUPE_NODE_LIM.HI (n - 64)) ≤ signed 16 reading.toNat) ∧ s.rd LOUPE_NODE_CFG.MISS_N (n - 64) ≤ (s.node n).run + 1 ∧ (s.node n).told = false ∧ s.on LOUPE_NODE_CFG.ACTION (n - 64) = false) :=
  ⟨5, 66, { ((rdy.wr LOUPE_NODE_CFG.EN 2 1).wr LOUPE_NODE_LIM.LO 2 9).wr LOUPE_NODE_CFG.MISS_N 2 1 with epoch := 125 }, by decide⟩

theorem wit_LoupeAndTrims_9 : ∃ (reading : BitVec 16) (n : Nat) (s : State),
    (s.on LOUPE_CTRL.EN 0 = true ∧ s.epoch % 125 = 0 ∧ s.epoch / 125 % 2 = 1 ∧ s.epoch / 125 % 128 ≠ 127) ∧ (s.calHolds 4 0 = false ∧ s.nextNode s.loupe.node = some n ∧ (n < 89 ∨ 96 < n)) ∧ ((signed 16 reading.toNat < signed 16 (s.rd LOUPE_NODE_LIM.LO (n - 64)) ∨ signed 16 (s.rd LOUPE_NODE_LIM.HI (n - 64)) ≤ signed 16 reading.toNat) ∧ ((s.node n).run + 1 < s.rd LOUPE_NODE_CFG.MISS_N (n - 64) ∨ (s.node n).told = true)) :=
  ⟨5, 66, { ((rdy.wr LOUPE_NODE_CFG.EN 2 1).wr LOUPE_NODE_LIM.LO 2 9).wr LOUPE_NODE_CFG.MISS_N 2 3 with epoch := 125 }, by decide⟩

theorem wit_LoupeAndTrims_10 : ∃ (n : Nat) (s : State),
    (s.on LOUPE_CTRL.EN 0 = true ∧ s.epoch % 125 = 0 ∧ s.epoch / 125 % 2 = 1) ∧ (s.calHolds 4 0 = false ∧ s.nextNode s.loupe.node = some n ∧ 89 ≤ n ∧ n ≤ 96) :=
  ⟨90, { rdy.wr LOUPE_NODE_CFG.EN 26 1 with epoch := 125 }, by decide⟩

theorem wit_LoupeAndTrims_11 : ∃ (s : State),
    (s.on LOUPE_CTRL.EN 0 = true ∧ s.epoch % 125 = 0 ∧ s.epoch / 125 % 2 = 1) ∧ (s.calHolds 4 0 = true ∨ s.nextNode s.loupe.node = none) :=
  ⟨{ rdy with epoch := 125 * 127 }, by decide⟩

theorem wit_LoupeAndTrims_12 : ∃ (ds : List Nat) (r : List (Nat × Nat × List Nat)) (s : State),
    (s.on LOUPE_CTRL.EN 0 = true ∧ s.epoch % 16000 = 0 ∧ s.cal.later = (4, 0, ds) :: r) ∧ (s.on LOUPE_CH_CFG.EN 0 = false) :=
  ⟨[7], [], { rdy.wr LOUPE_CH_CFG.EN 0 0 with epoch := 0 }.modCal fun c => { c with later := [(4, 0, [7])] }, by decide⟩

theorem wit_LoupeAndTrims_13 : ∃ (s : State),
    (s.on LOUPE_CTRL.EN 0 = false ∨ s.epoch % 125 ≠ 0) :=
  ⟨{ rdy with epoch := 1 }, by decide⟩

theorem wit_LoupeAndTrims_14 : ∃ (d : Fin 64) (w : Wr) (s : State),
    (Accepted s w (pgDrv d.val)) ∧ (s.on LOCK.OPEN (pgDrv d.val) = true ∧ (s.rd DAC_TRIM_IDX.ITEM d.val) ≤ 1025) :=
  ⟨9, hw 0x12345, (rdy.wr LOCK.OPEN (pgDrv 9) 1).wr DAC_TRIM_IDX.ITEM 9 1025, by decide⟩

theorem wit_LoupeAndTrims_15 : ∃ (d : Fin 64) (w : Wr) (s : State),
    (Accepted s w (pgDrv d.val)) ∧ (s.on LOCK.OPEN (pgDrv d.val) = false) :=
  ⟨9, hw 0, rdy, by decide⟩

theorem wit_LoupeAndTrims_16 : ∃ (d : Fin 64) (w : Wr) (s : State),
    (Accepted s w (pgDrv d.val)) ∧ (s.on LOCK.OPEN (pgDrv d.val) = true ∧ 1025 < s.rd DAC_TRIM_IDX.ITEM d.val) :=
  ⟨9, hw 0, (rdy.wr LOCK.OPEN (pgDrv 9) 1).wr DAC_TRIM_IDX.ITEM 9 1026, by decide⟩

theorem wit_LoupeAndTrims_17 : ∃ (w : Wr) (s : State),
    (Accepted s w pgLoupe) :=
  ⟨hw 0x80000000, rdy.wr LOUPE_STAT.FRAMES 0 4, by decide⟩

theorem wit_SenseBanksAndSamples_1 : ∃ (b : Fin 8) (w : Wr) (s : State),
    (Accepted s w (0x08A + b.val)) ∧ (1954 ≤ bits w.val.toNat 0 20) ∧ (s.on SNS_BANK_CFG.EN b.val = false ∧ bit w.val.toNat 30 = false) :=
  ⟨3, hw 0x020007A2, rdy, by decide⟩

theorem wit_SenseBanksAndSamples_2 : ∃ (b : Fin 8) (w : Wr) (s : State),
    (Accepted s w (0x08A + b.val)) ∧ (1954 ≤ bits w.val.toNat 0 20) ∧ (s.on SNS_BANK_CFG.EN b.val = false ∧ bit w.val.toNat 30 = true) :=
  ⟨3, hw 0x420007A2, (rdy.wr DRV_GRP_STAT.GRID_VALID 2 1).wr DRV_GRP_CFG.PERIOD 2 2000, by decide⟩

theorem wit_SenseBanksAndSamples_3 : ∃ (b : Fin 8) (w : Wr) (s : State),
    (Accepted s w (0x08A + b.val)) ∧ (bits w.val.toNat 0 20 < 1954) :=
  ⟨3, hw 1953, rdy, by decide⟩

theorem wit_SenseBanksAndSamples_4 : ∃ (b : Fin 8) (w : Wr) (s : State),
    (Accepted s w (0x08A + b.val)) ∧ (1954 ≤ bits w.val.toNat 0 20) ∧ (s.on SNS_BANK_CFG.EN b.val = true) :=
  ⟨3, hw 1954, rdy.wr SNS_BANK_CFG.EN 3 1, by decide⟩

theorem wit_SenseBanksAndSamples_5 : ∃ (c : Fin 64) (o : Nat) (n : Nat) (s : State),
    (s.bankGrid (bankOf c.val) = some (o, n) ∧ s.on SNS_CFG.EN c.val = true ∧ o ≤ s.epoch ∧ ((s.epoch - o) % max 1 n = 0 ∨ s.fallback = true)) ∧ ((List.range 8).any (fun k => s.crownBusy k) = false) ∧ (s.rd SNS_LIM_CFG.LIM_EN c.val = 0) ∧ (s.calHolds 3 c.val = false ∧ s.cal.later.all (fun x => !((x.1 == 2 || x.1 == 3) && x.2.1 == c.val)) = true) ∧ (s.on SNS_CFG.CAP_EN c.val = false) :=
  ⟨25, 0, 1954, (((rdy.wr SNS_BANK_CFG.EN 3 1).wr SNS_BANK_STAT.GRID_VALID 3 1).wr SNS_CFG.EN 25 1), by decide⟩

theorem wit_SenseBanksAndSamples_6 : ∃ (c : Fin 64) (o : Nat) (n : Nat) (s : State),
    (s.bankGrid (bankOf c.val) = some (o, n) ∧ s.on SNS_CFG.EN c.val = true ∧ o ≤ s.epoch ∧ ((s.epoch - o) % max 1 n = 0 ∨ s.fallback = true)) ∧ ((List.range 8).any (fun k => s.crownBusy k) = false) ∧ (s.rd SNS_LIM_CFG.LIM_EN c.val = 0) ∧ (s.calHolds 3 c.val = true ∧ s.on SNS_CFG.CAP_EN c.val = false) :=
  ⟨25, 0, 1954, (((rdy.wr SNS_BANK_CFG.EN 3 1).wr SNS_BANK_STAT.GRID_VALID 3 1).wr SNS_CFG.EN 25 1).modCal fun c => { c with run := some { item := 3, unit := 25, sub := 0, apply := false, since := 0, from' := 0 } }, by decide⟩

theorem wit_SenseBanksAndSamples_7 : ∃ (c : Fin 64) (o : Nat) (n : Nat) (s : State),
    (s.bankGrid (bankOf c.val) = some (o, n) ∧ s.on SNS_CFG.EN c.val = true ∧ o ≤ s.epoch ∧ ((s.epoch - o) % max 1 n = 0 ∨ s.fallback = true)) ∧ ((List.range 8).any (fun k => s.crownBusy k) = false) ∧ (s.rd SNS_LIM_CFG.LIM_EN c.val = 0) ∧ (s.calHolds 3 c.val = false ∧ s.cal.later.all (fun x => !((x.1 == 2 || x.1 == 3) && x.2.1 == c.val)) = true) ∧ (s.on SNS_CFG.CAP_EN c.val = true ∧ s.rd64 SNS_CAP_OPEN_LO.TICK SNS_CAP_OPEN_HI.TICK c.val ≤ s.epoch ∧ s.epoch < s.rd64 SNS_CAP_CLOSE_LO.TICK SNS_CAP_CLOSE_HI.TICK c.val) ∧ (s.rd SNS_CFG.CAP_MODE c.val = 1 ∨ ((if (s.sense c.val).cap0 then 0 else s.rd SNS_CAP_WP.WP c.val) + 2 ^ 32 - s.rd SNS_CAP_RP.RP c.val) % 2 ^ 32 < 32768) :=
  ⟨25, 0, 1954, (((rdy.wr SNS_BANK_CFG.EN 3 1).wr SNS_BANK_STAT.GRID_VALID 3 1).wr SNS_CFG.EN 25 1).wr SNS_CFG.CAP_EN 25 1, by decide⟩

theorem wit_SenseBanksAndSamples_8 : ∃ (c : Fin 64) (s : State),
    ((s.bankGrid (bankOf c.val)).all (fun g => decide (s.epoch < g.1) || ((s.epoch - g.1) % max 1 g.2 != 0 && !s.fallback)) = true) :=
  ⟨25, rdy, by decide⟩

theorem wit_SenseBanksAndSamples_9 : ∃ (c : Fin 64) (o : Nat) (n : Nat) (s : State),
    (s.bankGrid (bankOf c.val) = some (o, n) ∧ s.on SNS_CFG.EN c.val = false ∧ o ≤ s.epoch ∧ ((s.epoch - o) % max 1 n = 0 ∨ s.fallback = true)) :=
  ⟨25, 0, 1954, { ((rdy.wr SNS_BANK_CFG.EN 3 1).wr SNS_BANK_STAT.GRID_VALID 3 1).setBank 3 { first := some 0 } with epoch := 1954 * 63 }, by decide⟩

theorem wit_SenseBanksAndSamples_10 : ∃ (c : Fin 64) (raw : BitVec 24) (o : Nat) (n : Nat) (s : State),
    (s.bankGrid (bankOf c.val) = some (o, n) ∧ s.on SNS_CFG.EN c.val = true ∧ o ≤ s.epoch ∧ ((s.epoch - o) % max 1 n = 0 ∨ s.fallback = true)) ∧ ((List.range 8).any (fun k => s.crownBusy k) = false) ∧ (s.calHolds 3 c.val = false ∧ s.cal.later.all (fun x => !((x.1 == 2 || x.1 == 3) && x.2.1 == c.val)) = true) ∧ (s.on SNS_CFG.CAP_EN c.val = false ∧ s.rd SNS_LIM_CFG.LIM_EN c.val = 1 ∧ s.on SNS_BANK_STAT.SETTLED (bankOf c.val) = true ∧ bit (s.rd SNS_LIM_CFG.ACTION c.val) 0 = false) ∧ (s.rd SNS_PEAK.PEAK_THR c.val ≤ (sat24 (roundDiv ((raw.toInt - signed 24 (s.rd SNS_TRIM_OFS.OFS c.val)) * signed 24 (s.rd SNS_TRIM_GAIN.GAIN c.val)) (2 ^ 22))).natAbs ∧ (s.sense c.val).crossed = [] ∧ 7 * s.rd SNS_PEAK.PEAK_THR c.val ≤ 8 * (sat24 (roundDiv ((raw.toInt - signed 24 (s.rd SNS_TRIM_OFS.OFS c.val)) * signed 24 (s.rd SNS_TRIM_GAIN.GAIN c.val)) (2 ^ 22))).natAbs) :=
  ⟨25, 0x123456, 0, 1954, (((((rdy.wr SNS_BANK_CFG.EN 3 1).wr SNS_BANK_STAT.GRID_VALID 3 1).wr SNS_CFG.EN 25 1).wr SNS_BANK_STAT.SETTLED 3 1).wr SNS_LIM_CFG.LIM_EN 25 1).wr SNS_PEAK.PEAK_THR 25 0x123456, by decide⟩

theorem wit_SenseBanksAndSamples_11 : ∃ (c : Fin 64) (o : Nat) (n : Nat) (s : State),
    (s.bankGrid (bankOf c.val) = some (o, n) ∧ s.on SNS_CFG.EN c.val = true ∧ o ≤ s.epoch ∧ ((s.epoch - o) % max 1 n = 0 ∨ s.fallback = true)) ∧ ((List.range 8).any (fun k => s.crownBusy k) = false) ∧ (s.rd SNS_LIM_CFG.LIM_EN c.val = 0) ∧ (s.calHolds 3 c.val = false ∧ s.cal.later.all (fun x => !((x.1 == 2 || x.1 == 3) && x.2.1 == c.val)) = true) ∧ (s.on SNS_CFG.CAP_EN c.val = true ∧ s.rd64 SNS_CAP_OPEN_LO.TICK SNS_CAP_OPEN_HI.TICK c.val ≤ s.epoch ∧ s.epoch < s.rd64 SNS_CAP_CLOSE_LO.TICK SNS_CAP_CLOSE_HI.TICK c.val) ∧ (s.rd SNS_CFG.CAP_MODE c.val = 0 ∧ (s.sense c.val).cap0 = false ∧ 32768 ≤ (s.rd SNS_CAP_WP.WP c.val + 2 ^ 32 - s.rd SNS_CAP_RP.RP c.val) % 2 ^ 32) :=
  ⟨25, 0, 1954, (((((rdy.wr SNS_BANK_CFG.EN 3 1).wr SNS_BANK_STAT.GRID_VALID 3 1).wr SNS_CFG.EN 25 1).wr SNS_CFG.CAP_EN 25 1).wr SNS_CAP_WP.WP 25 32768).modSense 25 fun u => { u with cap0 := false }, by decide⟩

theorem wit_SenseBanksAndSamples_12 : ∃ (c : Fin 64) (o : Nat) (n : Nat) (a : Nat) (b : Nat) (s : State),
    (s.bankGrid (bankOf c.val) = some (o, n) ∧ s.on SNS_CFG.EN c.val = true ∧ o ≤ s.epoch ∧ ((s.epoch - o) % max 1 n = 0 ∨ s.fallback = true)) ∧ ((List.range 8).any (fun k => s.crownBusy k) = false) ∧ (s.rd SNS_LIM_CFG.LIM_EN c.val = 0) ∧ (s.calHolds 3 c.val = false ∧ s.on SNS_CFG.CAP_EN c.val = false) ∧ (s.cal.later.find? (fun x => x.1 == 2 && x.2.1 == c.val) = some (2, c.val, [a]) ∧ s.cal.later.find? (fun x => x.1 == 3 && x.2.1 == c.val) = some (3, c.val, [b])) :=
  ⟨25, 0, 1954, 7, 9, (((rdy.wr SNS_BANK_CFG.EN 3 1).wr SNS_BANK_STAT.GRID_VALID 3 1).wr SNS_CFG.EN 25 1).modCal fun c => { c with later := [(2, 25, [7]), (3, 25, [9])] }, by decide⟩

theorem wit_SenseBanksAndSamples_13 : ∃ (c : Fin 64) (o : Nat) (n : Nat) (i : Nat) (k : Fin 8) (s : State),
    (s.bankGrid (bankOf c.val) = some (o, n) ∧ s.on SNS_CFG.EN c.val = true ∧ o ≤ s.epoch ∧ ((s.epoch - o) % max 1 n = 0 ∨ s.fallback = true)) ∧ ((∀ j : Fin 8, s.crownBusy j.val = decide (j = k)) ∧ s.crownSine k.val = false ∧ (s.crownCPs k.val).filter (fun p => p.2 == c.val) = [(i, c.val)]) ∧ (s.rd SNS_LIM_CFG.LIM_EN c.val = 0) ∧ (s.calHolds 3 c.val = false ∧ s.cal.later.all (fun x => !((x.1 == 2 || x.1 == 3) && x.2.1 == c.val)) = true ∧ s.on SNS_CFG.CAP_EN c.val = false) :=
  ⟨25, 0, 1954, 0, 2, ((((((rdy.wr SNS_BANK_CFG.EN 3 1).wr SNS_BANK_STAT.GRID_VALID 3 1).wr SNS_CFG.EN 25 1).wr CROWN_STAT.STATE 2 1).wrA CROWN_SIZE.NC 2 1).wrA CROWN_CP.EN 128 1).wrA CROWN_CP.SENSE 128 25, by decide⟩

theorem wit_SenseBanksAndSamples_14 : ∃ (c : Fin 64) (raw : BitVec 24) (o : Nat) (n : Nat) (d : Nat) (s : State),
    (s.bankGrid (bankOf c.val) = some (o, n) ∧ s.on SNS_CFG.EN c.val = true ∧ o ≤ s.epoch ∧ ((s.epoch - o) % max 1 n = 0 ∨ s.fallback = true)) ∧ ((List.range 8).any (fun k => s.crownBusy k) = false) ∧ (s.calHolds 3 c.val = false ∧ s.cal.later.all (fun x => !((x.1 == 2 || x.1 == 3) && x.2.1 == c.val)) = true) ∧ (s.on SNS_CFG.CAP_EN c.val = false ∧ s.rd SNS_LIM_CFG.LIM_EN c.val = 1 ∧ s.on SNS_BANK_STAT.SETTLED (bankOf c.val) = true ∧ bit (s.rd SNS_LIM_CFG.ACTION c.val) 0 = true ∧ s.crownChans (s.rd SNS_CFG.LIM_GROUP c.val) = [d] ∧ s.drvState d = 2 ∧ (s.drv d).entry = none) ∧ (s.rd SNS_PEAK.PEAK_THR c.val ≤ (sat24 (roundDiv ((raw.toInt - signed 24 (s.rd SNS_TRIM_OFS.OFS c.val)) * signed 24 (s.rd SNS_TRIM_GAIN.GAIN c.val)) (2 ^ 22))).natAbs ∧ (s.sense c.val).crossed = [] ∧ 7 * s.rd SNS_PEAK.PEAK_THR c.val ≤ 8 * (sat24 (roundDiv ((raw.toInt - signed 24 (s.rd SNS_TRIM_OFS.OFS c.val)) * signed 24 (s.rd SNS_TRIM_GAIN.GAIN c.val)) (2 ^ 22))).natAbs) :=
  ⟨25, 0x123456, 0, 1954, 9, ((((((((((rdy.wr SNS_BANK_CFG.EN 3 1).wr SNS_BANK_STAT.GRID_VALID 3 1).wr SNS_CFG.EN 25 1).wr SNS_BANK_STAT.SETTLED 3 1).wr SNS_LIM_CFG.LIM_EN 25 1).wr SNS_PEAK.PEAK_THR 25 0x123456).wr SNS_LIM_CFG.ACTION 25 1).wrA CROWN_CFG.MODE 0 1).wrA CROWN_SDRV.EN 0 1).wrA CROWN_SDRV.CHAN 0 9).wr DRV_STAT.STATE 9 2, by decide⟩

theorem wit_SenseBanksAndSamples_15 : ∃ (c : Fin 64) (raw : BitVec 24) (o : Nat) (n : Nat) (s : State),
    (s.bankGrid (bankOf c.val) = some (o, n) ∧ s.on SNS_CFG.EN c.val = true ∧ o ≤ s.epoch ∧ ((s.epoch - o) % max 1 n = 0 ∨ s.fallback = true)) ∧ ((List.range 8).any (fun k => s.crownBusy k) = false) ∧ (s.calHolds 3 c.val = false ∧ s.cal.later.all (fun x => !((x.1 == 2 || x.1 == 3) && x.2.1 == c.val)) = true) ∧ (s.on SNS_CFG.CAP_EN c.val = false ∧ s.rd SNS_LIM_CFG.LIM_EN c.val = 1 ∧ s.on SNS_BANK_STAT.SETTLED (bankOf c.val) = true) ∧ ((sat24 (roundDiv ((raw.toInt - signed 24 (s.rd SNS_TRIM_OFS.OFS c.val)) * signed 24 (s.rd SNS_TRIM_GAIN.GAIN c.val)) (2 ^ 22))).natAbs < s.rd SNS_PEAK.PEAK_THR c.val ∨ (s.sense c.val).crossed.contains 0 = true) :=
  ⟨25, 0x10, 0, 1954, ((((((rdy.wr SNS_BANK_CFG.EN 3 1).wr SNS_BANK_STAT.GRID_VALID 3 1).wr SNS_CFG.EN 25 1).wr SNS_BANK_STAT.SETTLED 3 1).wr SNS_LIM_CFG.LIM_EN 25 1).wr SNS_PEAK.PEAK_THR 25 0x123456).modSense 25 fun u => { u with crossed := [0, 3] }, by decide⟩

theorem wit_CrownGroups_2 : ∃ (k : Fin 8) (w : Wr) (s : State),
    (Accepted s w (pgCrown k.val)) ∧ (bits (w.val ||| 0x1).toNat 0 4 = 0x1) ∧ (s.crownStartCodes k.val = []) :=
  ⟨2, hw 0, ((((rdy.wr TB_STAT.EPOCH_STATE 0 1).wrA CROWN_CFG.MODE 2 1).wrA CROWN_SDRV.EN 128 1).wrA CROWN_SDRV.CHAN 128 9).wr DRV_STAT.STATE 9 2, by decide⟩

theorem wit_CrownGroups_3 : ∃ (k : Fin 8) (w : Wr) (x : Nat) (s : State),
    (Accepted s w (pgCrown k.val)) ∧ (bits (w.val ||| 0x1).toNat 0 4 = 0x1) ∧ (worst (s.crownStartCodes k.val) = some x) :=
  ⟨2, hw 0, 3, rdy, by decide⟩

theorem wit_CrownGroups_4 : ∃ (k : Fin 8) (w : Wr) (s : State),
    (Accepted s w (pgCrown k.val)) ∧ (bits (w.val ||| 0x1).toNat 0 4 ≠ 0x1) :=
  ⟨2, hw 2, rdy, by decide⟩

theorem wit_CrownGroups_5 : ∃ (k : Fin 8) (w : Wr) (s : State),
    (Accepted s w (pgCrown k.val)) ∧ (bits (w.val ||| 0x2).toNat 0 4 = 0x2) ∧ (((s.crown k.val).start = none ∧ (s.crownState k.val = 1 ∨ s.crownState k.val = 2) ∨ (s.crown k.val).start.any (fun x => decide (x < s.crownDP k.val (s.epoch + s.h))) = true) ∧ (s.crown k.val).stop = none) :=
  ⟨2, hw 0, (rdy.wr CROWN_STAT.STATE 2 1), by decide⟩

theorem wit_CrownGroups_6 : ∃ (k : Fin 8) (w : Wr) (a : Nat) (b : Nat) (s : State),
    (Accepted s w (pgCrown k.val)) ∧ (bits (w.val ||| 0x2).toNat 0 4 = 0x2) ∧ ((s.crown k.val).start = none ∧ (s.crownState k.val = 1 ∨ s.crownState k.val = 2) ∧ (s.crown k.val).stop = some (a, b) ∧ a ≤ s.crownDP k.val (s.epoch + s.h)) :=
  ⟨2, hw 0, 3, 2, (rdy.wr CROWN_STAT.STATE 2 2).modCrown 2 fun c => { c with stop := some (3, 2) }, by decide⟩

theorem wit_CrownGroups_7 : ∃ (k : Fin 8) (w : Wr) (s : State),
    (Accepted s w (pgCrown k.val)) ∧ (bits (w.val ||| 0x2).toNat 0 4 = 0x2) ∧ (s.crownState k.val ≠ 1 ∧ s.crownState k.val ≠ 2 ∧ (s.crown k.val).start = none) :=
  ⟨2, hw 0, (rdy.wr CROWN_STAT.STATE 2 3), by decide⟩

theorem wit_CrownGroups_8 : ∃ (k : Fin 8) (w : Wr) (s : State),
    (Accepted s w (pgCrown k.val)) ∧ (bits (w.val ||| 0x2).toNat 0 4 ≠ 0x2) :=
  ⟨2, hw 4, rdy, by decide⟩

theorem wit_CrownGroups_9 : ∃ (k : Fin 8) (w : Wr) (a : Nat) (b : Nat) (s : State),
    (Accepted s w (pgCrown k.val)) ∧ (bits (w.val ||| 0x2).toNat 0 4 = 0x2) ∧ ((s.crown k.val).start = none ∧ (s.crownState k.val = 1 ∨ s.crownState k.val = 2) ∧ (s.crown k.val).stop = some (a, b) ∧ s.crownDP k.val (s.epoch + s.h) < a) :=
  ⟨2, hw 0, 99999, 2, (rdy.wr CROWN_STAT.STATE 2 2).modCrown 2 fun c => { c with stop := some (99999, 2) }, by decide⟩

theorem wit_CrownGroups_10 : ∃ (k : Fin 8) (w : Wr) (x : Nat) (s : State),
    (Accepted s w (pgCrown k.val)) ∧ (bits (w.val ||| 0x2).toNat 0 4 = 0x2) ∧ ((s.crown k.val).start = some x ∧ s.crownDP k.val (s.epoch + s.h) ≤ x) :=
  ⟨2, hw 0, 99999, rdy.modCrown 2 fun c => { c with start := some 99999 }, by decide⟩

theorem wit_CrownGroups_11 : ∃ (k : Fin 8) (w : Wr) (s : State),
    (Accepted s w (pgCrown k.val)) ∧ (bits (w.val ||| 0x4).toNat 0 4 = 0x4) ∧ (s.crownState k.val = 1) :=
  ⟨2, hw 0, (rdy.wr CROWN_STAT.STATE 2 1), by decide⟩

theorem wit_CrownGroups_12 : ∃ (k : Fin 8) (w : Wr) (s : State),
    (Accepted s w (pgCrown k.val)) ∧ (bits (w.val ||| 0x4).toNat 0 4 = 0x4) ∧ (s.crownState k.val ≠ 1) :=
  ⟨2, hw 0, rdy, by decide⟩

theorem wit_CrownGroups_13 : ∃ (k : Fin 8) (w : Wr) (s : State),
    (Accepted s w (pgCrown k.val)) ∧ (bits (w.val ||| 0x4).toNat 0 4 ≠ 0x4) :=
  ⟨2, hw 8, rdy, by decide⟩

theorem wit_CrownGroups_14 : ∃ (k : Fin 8) (w : Wr) (s : State),
    (Accepted s w (pgCrown k.val)) ∧ (bits (w.val ||| 0x8).toNat 0 4 = 0x8) ∧ (s.crownState k.val = 2 ∧ (s.crownChans k.val).any (fun d => s.drvState d != 2) = false) :=
  ⟨2, hw 0, (rdy.wr CROWN_STAT.STATE 2 2), by decide⟩

theorem wit_CrownGroups_15 : ∃ (k : Fin 8) (w : Wr) (s : State),
    (Accepted s w (pgCrown k.val)) ∧ (bits (w.val ||| 0x8).toNat 0 4 = 0x8) ∧ (s.crownState k.val ≠ 2 ∨ (s.crownChans k.val).any (fun d => s.drvState d != 2) = true) :=
  ⟨2, hw 0, rdy, by decide⟩

theorem wit_CrownGroups_16 : ∃ (k : Fin 8) (w : Wr) (s : State),
    (Accepted s w (pgCrown k.val)) ∧ (bits (w.val ||| 0x8).toNat 0 4 ≠ 0x8) :=
  ⟨2, hw 1, rdy, by decide⟩

theorem wit_CrownGroups_17 : ∃ (k : Fin 8) (p : Pend) (s : State),
    (mergePends ((s.arrivals.filter (fun a => a.cls == 5 && a.index == 2 * k.val + 1)).map fun a => s.pendOf a.ev (s.crownDP k.val) 66) = some p) ∧ (((s.crown k.val).start = none ∧ (s.crownState k.val = 1 ∨ s.crownState k.val = 2)) ∨ (s.crown k.val).start.any (fun x => decide (x < s.crownDP k.val (max p.due p.notBefore))) = true) :=
  ⟨2, ((rdy).pendOf { prod := 1, st := {} } ((rdy).crownDP 2) 66), (rdy.wr CROWN_STAT.STATE 2 1).setArrivals [{ cls := 5, index := 5, ev := { prod := 1, st := {} } }], by decide +kernel⟩

theorem wit_CrownGroups_18 : ∃ (k : Fin 8) (p : Pend) (x : Nat) (s : State),
    (mergePends ((s.arrivals.filter (fun a => a.cls == 5 && a.index == 2 * k.val + 1)).map fun a => s.pendOf a.ev (s.crownDP k.val) 66) = some p) ∧ ((s.crown k.val).start = some x ∧ s.crownDP k.val (max p.due p.notBefore) ≤ x) :=
  ⟨2, ((rdy).pendOf { prod := 1, st := {} } ((rdy).crownDP 2) 66), 99999, (rdy.setArrivals [{ cls := 5, index := 5, ev := { prod := 1, st := {} } }]).modCrown 2 fun c => { c with start := some 99999 }, by decide⟩

theorem wit_CrownGroups_19 : ∃ (k : Fin 8) (p : Pend) (s : State),
    (mergePends ((s.arrivals.filter (fun a => a.cls == 5 && a.index == 2 * k.val + 1)).map fun a => s.pendOf a.ev (s.crownDP k.val) 66) = some p) ∧ ((s.crown k.val).start = none ∧ s.crownState k.val ≠ 1 ∧ s.crownState k.val ≠ 2) :=
  ⟨2, ((rdy).pendOf { prod := 1, st := {} } ((rdy).crownDP 2) 66), rdy.setArrivals [{ cls := 5, index := 5, ev := { prod := 1, st := {} } }], by decide⟩

theorem wit_CrownGroups_20 : ∃ (k : Fin 8) (p : Pend) (s : State),
    (mergePends ((s.arrivals.filter (fun a => a.cls == 5 && a.index == 2 * k.val + 0)).map fun a => s.pendOf a.ev (s.crownDP k.val) 66) = some p) ∧ (s.crownStartCodes k.val = []) :=
  ⟨2, ((rdy).pendOf { prod := 1, st := {} } ((rdy).crownDP 2) 66), (((((rdy.wr TB_STAT.EPOCH_STATE 0 1).wrA CROWN_CFG.MODE 2 1).wrA CROWN_SDRV.EN 128 1).wrA CROWN_SDRV.CHAN 128 9).wr DRV_STAT.STATE 9 2).setArrivals [{ cls := 5, index := 4, ev := { prod := 1, st := {} } }], by decide +kernel⟩

theorem wit_CrownGroups_21 : ∃ (k : Fin 8) (p : Pend) (x : Nat) (s : State),
    (mergePends ((s.arrivals.filter (fun a => a.cls == 5 && a.index == 2 * k.val + 0)).map fun a => s.pendOf a.ev (s.crownDP k.val) 66) = some p) ∧ (worst (s.crownStartCodes k.val) = some x) :=
  ⟨2, ((rdy).pendOf { prod := 1, st := {} } ((rdy).crownDP 2) 66), 3, rdy.setArrivals [{ cls := 5, index := 4, ev := { prod := 1, st := {} } }], by decide⟩

theorem wit_CrownGroups_22 : ∃ (k : Fin 8) (stop : Bool) (s : State),
    (s.arrivals.filter (fun a => a.cls == 5 && a.index == 2 * k.val + flag stop) = []) :=
  ⟨2, true, rdy, by decide⟩

theorem wit_CrownGroups_23 : ∃ (k : Fin 8) (x : Nat) (s : State),
    ((s.crown k.val).start = some x ∧ x ≤ s.epoch ∧ (s.crownChans k.val).any (fun d => s.drvState d != 2) = false) :=
  ⟨2, 0, rdy.modCrown 2 fun c => { c with start := some 0 }, by decide⟩

theorem wit_CrownGroups_24 : ∃ (k : Fin 8) (x : Nat) (s : State),
    ((s.crown k.val).start = some x ∧ s.epoch < x) :=
  ⟨2, 1, rdy.modCrown 2 fun c => { c with start := some 1 }, by decide⟩

theorem wit_CrownGroups_25 : ∃ (k : Fin 8) (x : Nat) (s : State),
    ((s.crown k.val).start = some x ∧ x ≤ s.epoch ∧ (s.crownChans k.val).any (fun d => s.drvState d != 2) = true ∧ (s.crownChans k.val).any s.drvBusy = true) :=
  ⟨2, 0, (((rdy.wrA CROWN_CFG.MODE 2 1).wrA CROWN_SDRV.EN 128 1).wrA CROWN_SDRV.CHAN 128 9 |>.wr DRV_STAT.STATE 9 3).modCrown 2 fun c => { c with start := some 0 }, by decide⟩

theorem wit_CrownGroups_26 : ∃ (k : Fin 8) (x : Nat) (s : State),
    ((s.crown k.val).start = some x ∧ x ≤ s.epoch ∧ (s.crownChans k.val).any (fun d => s.drvState d != 2) = true ∧ (s.crownChans k.val).any s.drvBusy = false) :=
  ⟨2, 0, (((rdy.wrA CROWN_CFG.MODE 2 1).wrA CROWN_SDRV.EN 128 1).wrA CROWN_SDRV.CHAN 128 9).modCrown 2 fun c => { c with start := some 0 }, by decide⟩

theorem wit_CrownGroups_27 : ∃ (k : Fin 8) (s : State),
    ((s.crown k.val).start = none) :=
  ⟨2, rdy, by decide⟩

theorem wit_CrownGroups_28 : ∃ (k : Fin 8) (x : Nat) (y : Nat) (s : State),
    ((s.crown k.val).stop = some (x, y) ∧ x ≤ s.epoch ∧ (s.crownState k.val = 1 ∨ s.crownState k.val = 2)) :=
  ⟨2, 0, 1, (rdy.wr CROWN_STAT.STATE 2 1).modCrown 2 fun c => { c with stop := some (0, 1) }, by decide⟩

theorem wit_CrownGroups_29 : ∃ (k : Fin 8) (x : Nat) (y : Nat) (s : State),
    ((s.crown k.val).stop = some (x, y) ∧ s.epoch < x) :=
  ⟨2, 1, 1, (rdy.wr CROWN_STAT.STATE 2 1).modCrown 2 fun c => { c with stop := some (1, 1) }, by decide⟩

theorem wit_CrownGroups_30 : ∃ (k : Fin 8) (s : State),
    ((s.crown k.val).stop = none ∨ (s.crownState k.val ≠ 1 ∧ s.crownState k.val ≠ 2)) :=
  ⟨2, rdy.modCrown 2 fun c => { c with stop := some (0, 1) }, by decide⟩

theorem wit_CrownGroups_31 : ∃ (k : Fin 8) (x : Nat) (y : Nat) (s : State),
    ((s.crown k.val).taper = some (x, y) ∧ s.crownState k.val = 3 ∧ x + y ≤ s.epoch) :=
  ⟨2, 0, 0, (rdy.wr CROWN_STAT.STATE 2 3).modCrown 2 fun c => { c with taper := some (0, 0) }, by decide⟩

theorem wit_CrownGroups_32 : ∃ (k : Fin 8) (s : State),
    (s.crownState k.val = 2 ∧ (s.crownChans k.val).any s.drvBusy = false) :=
  ⟨2, (rdy.wr CROWN_STAT.STATE 2 2), by decide⟩

theorem wit_CrownGroups_33 : ∃ (k : Fin 8) (s : State),
    (s.crownState k.val = 0 ∨ s.crownState k.val = 4 ∨ (s.crownState k.val = 1 ∧ (s.crownChans k.val).any (fun d => s.drvState d != 2) = false) ∨ ((s.crownState k.val = 2 ∨ s.crownState k.val = 3 ∧ (s.crown k.val).taper.all (fun q => decide (s.epoch < q.1 + q.2)) = true) ∧ (s.crownChans k.val).any s.drvBusy = true)) :=
  ⟨2, rdy, by decide⟩

theorem wit_CrownGroups_34_1 : ∃ (k : Fin 8) (s : State),
    (s.crownActive k.val = true ∧ s.crownSine k.val = false ∧ (s.crown k.val).next ≤ s.epoch + 10 + 64 * (max 1 (s.crownN k.val))) ∧ (s.rd CROWN_STAT.PHASE k.val ≠ 2 ∨ (List.range (s.crownND k.val)).all (fun j => sat24 (s.crownRaw k.val j (s.crown k.val).next) == s.crownRaw k.val j (s.crown k.val).next) = true) :=
  ⟨2, (rdy.wr CROWN_STAT.STATE 2 1).modCrown 2 fun c => { c with next := 66 }, by decide⟩

theorem wit_CrownGroups_34_2 : ∃ (k : Fin 8) (s : State),
    (s.crownActive k.val = true ∧ s.crownSine k.val = false ∧ (s.crown k.val).next ≤ s.epoch + 10 + 64 * (max 1 (s.crownN k.val))) ∧ (s.rd CROWN_STAT.PHASE k.val ≠ 2 ∨ (List.range (s.crownND k.val)).all (fun j => sat24 (s.crownRaw k.val j (s.crown k.val).next) == s.crownRaw k.val j (s.crown k.val).next) = true) :=
  ⟨2, (rdy.wr CROWN_STAT.STATE 2 1).modCrown 2 fun c => { c with next := 65 }, by decide⟩

theorem wit_CrownGroups_35 : ∃ (k : Fin 8) (s : State),
    (s.crownActive k.val = false ∨ (s.crownSine k.val = false ∧ s.epoch + 10 + 64 * (max 1 (s.crownN k.val)) < (s.crown k.val).next) ∨ (s.crownSine k.val = true ∧ (s.crownBusy k.val = false ∨ s.epoch < (s.crown k.val).ts ∨ (s.epoch - (s.crown k.val).ts) % (max 1 (s.crownN k.val)) ≠ 0))) :=
  ⟨2, (rdy.wr CROWN_STAT.STATE 2 1).modCrown 2 fun c => { c with next := 99999 }, by decide⟩

theorem wit_CrownGroups_36 : ∃ (k : Fin 8) (s : State),
    (s.crownBusy k.val = true ∧ s.crownSine k.val = true ∧ (s.crown k.val).ts ≤ s.epoch ∧ (s.epoch - (s.crown k.val).ts) % (max 1 (s.crownN k.val)) = 0) ∧ (∀ i j : Fin 64, i ≠ j → s.crownSdrv k.val i.val = none ∨ s.crownSdrv k.val i.val ≠ s.crownSdrv k.val j.val) :=
  ⟨2, ((((((rdy.wr TB_STAT.EPOCH_STATE 0 1).wrA CROWN_CFG.MODE 2 1).wrA CROWN_SDRV.EN 128 1).wrA CROWN_SDRV.CHAN 128 9).wr DRV_STAT.STATE 9 2).wr CROWN_STAT.STATE 2 1), by decide⟩

theorem wit_CrownGroups_37_1 : ∃ (k : Fin 8) (s : State),
    (s.crownBusy k.val = true ∧ (s.crown k.val).ts + ((s.crown k.val).m + 1) * s.crownF k.val ≤ s.epoch) :=
  ⟨2, { ((((((rdy.wr TB_STAT.EPOCH_STATE 0 1).wrA CROWN_CFG.MODE 2 1).wrA CROWN_SDRV.EN 128 1).wrA CROWN_SDRV.CHAN 128 9).wr DRV_STAT.STATE 9 2).wr CROWN_STAT.STATE 2 2).modCrown 2 (fun c => { c with resume := true }) with epoch := 4000 }, by decide⟩

theorem wit_CrownGroups_37_2 : ∃ (k : Fin 8) (s : State),
    (s.crownBusy k.val = true ∧ (s.crown k.val).ts + ((s.crown k.val).m + 1) * s.crownF k.val ≤ s.epoch) :=
  ⟨2, { (rdy.wr CROWN_STAT.STATE 2 1) with epoch := 128000 }, by decide⟩

theorem wit_CrownGroups_37_3 : ∃ (k : Fin 8) (s : State),
    (s.crownBusy k.val = true ∧ (s.crown k.val).ts + ((s.crown k.val).m + 1) * s.crownF k.val ≤ s.epoch) :=
  ⟨2, { (rdy.wr CROWN_STAT.STATE 2 2).wrA CROWN_RD.RD_EN 2 1 with epoch := 128000 }, by decide +kernel⟩

theorem wit_CrownGroups_38 : ∃ (k : Fin 8) (set : CSet) (s : State),
    (s.crownBusy k.val = true ∧ s.crownSine k.val = false ∧ (s.crown k.val).ts + ((s.crown k.val).m + 1) * s.crownF k.val ≤ s.epoch) ∧ ((s.crown k.val).swaps.find? (fun p => p.m == (s.crown k.val).m + 1) = some { m := (s.crown k.val).m + 1, set := set, ok := true }) :=
  ⟨2, {}, { (rdy.wr CROWN_STAT.STATE 2 2).modCrown 2 (fun c => { c with swaps := [{ m := 1, set := {}, ok := true }] }) with epoch := 128000 }, by decide⟩

theorem wit_CrownGroups_39 : ∃ (k : Fin 8) (set : CSet) (s : State),
    (s.crownBusy k.val = true ∧ s.crownSine k.val = false ∧ (s.crown k.val).ts + ((s.crown k.val).m + 1) * s.crownF k.val ≤ s.epoch) ∧ ((s.crown k.val).swaps.find? (fun p => p.m == (s.crown k.val).m + 1) = some { m := (s.crown k.val).m + 1, set := set, ok := false }) :=
  ⟨2, {}, { (rdy.wr CROWN_STAT.STATE 2 2).modCrown 2 (fun c => { c with swaps := [{ m := 1, set := {}, ok := false }] }) with epoch := 128000 }, by decide⟩

theorem wit_CrownGroups_40 : ∃ (k : Fin 8) (s : State),
    (s.crownBusy k.val = false ∨ s.epoch < (s.crown k.val).ts + ((s.crown k.val).m + 1) * s.crownF k.val) :=
  ⟨2, (rdy.wr CROWN_STAT.STATE 2 4), by decide⟩

theorem wit_CalibrationRuns_1_1 : ∃ (w : Wr) (m : BitVec 32) (s : State),
    (Accepted s w pgCal) ∧ (s.rd CAL_STAT.CAL_STATE 0 ≠ 0 ∧ s.on CAL_STAT.BUSY 0 = false ∧ calKnown (s.rd CAL_RUN.ITEM 0) (s.rd CAL_RUN.UNIT 0) (s.rd CAL_RUN.SUB 0) = true) ∧ (s.calOk s.calNew false = true) ∧ (s.rd CAL_RUN.ITEM 0 = 3 ∨ (s.rd CAL_RUN.ITEM 0 = 2 ∧ m.toNat < 50000) ∨ s.rd CAL_RUN.ITEM 0 = 4 ∨ s.rd CAL_RUN.ITEM 0 = 6 ∨ (s.rd CAL_RUN.ITEM 0 = 8 ∧ s.rd CAL_RUN.SUB 0 = 1)) :=
  ⟨hw 0, 5, ((((rdy.wr CAL_STAT.CAL_STATE 0 1).wr SNS_CFG.EN 25 1).wr SNS_BANK_CFG.EN 3 1).wr SNS_BANK_STAT.SETTLED 3 1).wr CAL_RUN.ITEM 0 3 |>.wr CAL_RUN.UNIT 0 25 |>.wr CAL_RUN.SUB 0 0 |>.wr CAL_RUN.APPLY 0 0, by decide +kernel⟩

theorem wit_CalibrationRuns_1_2 : ∃ (w : Wr) (m : BitVec 32) (s : State),
    (Accepted s w pgCal) ∧ (s.rd CAL_STAT.CAL_STATE 0 ≠ 0 ∧ s.on CAL_STAT.BUSY 0 = false ∧ calKnown (s.rd CAL_RUN.ITEM 0) (s.rd CAL_RUN.UNIT 0) (s.rd CAL_RUN.SUB 0) = true) ∧ (s.calOk s.calNew false = true) ∧ (s.rd CAL_RUN.ITEM 0 = 3 ∨ (s.rd CAL_RUN.ITEM 0 = 2 ∧ m.toNat < 50000) ∨ s.rd CAL_RUN.ITEM 0 = 4 ∨ s.rd CAL_RUN.ITEM 0 = 6 ∨ (s.rd CAL_RUN.ITEM 0 = 8 ∧ s.rd CAL_RUN.SUB 0 = 1)) :=
  ⟨hw 0, 49999, ((((rdy.wr CAL_STAT.CAL_STATE 0 1).wr SNS_CFG.EN 25 1).wr SNS_BANK_CFG.EN 3 1).wr SNS_BANK_STAT.SETTLED 3 1).wr CAL_RUN.ITEM 0 2 |>.wr CAL_RUN.UNIT 0 25 |>.wr CAL_RUN.SUB 0 0 |>.wr CAL_RUN.APPLY 0 0, by decide +kernel⟩

theorem wit_CalibrationRuns_1_3 : ∃ (w : Wr) (m : BitVec 32) (s : State),
    (Accepted s w pgCal) ∧ (s.rd CAL_STAT.CAL_STATE 0 ≠ 0 ∧ s.on CAL_STAT.BUSY 0 = false ∧ calKnown (s.rd CAL_RUN.ITEM 0) (s.rd CAL_RUN.UNIT 0) (s.rd CAL_RUN.SUB 0) = true) ∧ (s.calOk s.calNew false = true) ∧ (s.rd CAL_RUN.ITEM 0 = 3 ∨ (s.rd CAL_RUN.ITEM 0 = 2 ∧ m.toNat < 50000) ∨ s.rd CAL_RUN.ITEM 0 = 4 ∨ s.rd CAL_RUN.ITEM 0 = 6 ∨ (s.rd CAL_RUN.ITEM 0 = 8 ∧ s.rd CAL_RUN.SUB 0 = 1)) :=
  ⟨hw 0, 5, ((rdy.wr CAL_STAT.CAL_STATE 0 1).wr LOUPE_CTRL.EN 0 1).wr CAL_RUN.ITEM 0 4 |>.wr CAL_RUN.UNIT 0 0 |>.wr CAL_RUN.SUB 0 0 |>.wr CAL_RUN.APPLY 0 0, by decide +kernel⟩

theorem wit_CalibrationRuns_1_4 : ∃ (w : Wr) (m : BitVec 32) (s : State),
    (Accepted s w pgCal) ∧ (s.rd CAL_STAT.CAL_STATE 0 ≠ 0 ∧ s.on CAL_STAT.BUSY 0 = false ∧ calKnown (s.rd CAL_RUN.ITEM 0) (s.rd CAL_RUN.UNIT 0) (s.rd CAL_RUN.SUB 0) = true) ∧ (s.calOk s.calNew false = true) ∧ (s.rd CAL_RUN.ITEM 0 = 3 ∨ (s.rd CAL_RUN.ITEM 0 = 2 ∧ m.toNat < 50000) ∨ s.rd CAL_RUN.ITEM 0 = 4 ∨ s.rd CAL_RUN.ITEM 0 = 6 ∨ (s.rd CAL_RUN.ITEM 0 = 8 ∧ s.rd CAL_RUN.SUB 0 = 1)) :=
  ⟨hw 0, 5, ((rdy.wr CAL_STAT.CAL_STATE 0 1).wr TPLL_STAT.STATE 0 1).wr CAL_RUN.ITEM 0 6 |>.wr CAL_RUN.UNIT 0 0 |>.wr CAL_RUN.SUB 0 0 |>.wr CAL_RUN.APPLY 0 0, by decide +kernel⟩

theorem wit_CalibrationRuns_1_5 : ∃ (w : Wr) (m : BitVec 32) (s : State),
    (Accepted s w pgCal) ∧ (s.rd CAL_STAT.CAL_STATE 0 ≠ 0 ∧ s.on CAL_STAT.BUSY 0 = false ∧ calKnown (s.rd CAL_RUN.ITEM 0) (s.rd CAL_RUN.UNIT 0) (s.rd CAL_RUN.SUB 0) = true) ∧ (s.calOk s.calNew false = true) ∧ (s.rd CAL_RUN.ITEM 0 = 3 ∨ (s.rd CAL_RUN.ITEM 0 = 2 ∧ m.toNat < 50000) ∨ s.rd CAL_RUN.ITEM 0 = 4 ∨ s.rd CAL_RUN.ITEM 0 = 6 ∨ (s.rd CAL_RUN.ITEM 0 = 8 ∧ s.rd CAL_RUN.SUB 0 = 1)) :=
  ⟨hw 0, 5, (((rdy.wr CAL_STAT.CAL_STATE 0 1).wr LANE_STAT.STATE 3 5).wr LANE_STAT.EQ_VALID 3 1).wr CAL_RUN.ITEM 0 8 |>.wr CAL_RUN.UNIT 0 3 |>.wr CAL_RUN.SUB 0 1 |>.wr CAL_RUN.APPLY 0 0, by decide +kernel⟩

theorem wit_CalibrationRuns_2 : ∃ (w : Wr) (m : BitVec 32) (s : State),
    (Accepted s w pgCal) ∧ (s.rd CAL_STAT.CAL_STATE 0 ≠ 0 ∧ s.on CAL_STAT.BUSY 0 = false ∧ calKnown (s.rd CAL_RUN.ITEM 0) (s.rd CAL_RUN.UNIT 0) (s.rd CAL_RUN.SUB 0) = true) ∧ (s.calOk s.calNew false = true) ∧ (s.rd CAL_RUN.ITEM 0 = 2 ∧ 50000 ≤ m.toNat) :=
  ⟨hw 0, 50000, ((((rdy.wr CAL_STAT.CAL_STATE 0 1).wr SNS_CFG.EN 25 1).wr SNS_BANK_CFG.EN 3 1).wr SNS_BANK_STAT.SETTLED 3 1).wr CAL_RUN.ITEM 0 2 |>.wr CAL_RUN.UNIT 0 25 |>.wr CAL_RUN.SUB 0 0 |>.wr CAL_RUN.APPLY 0 0, by decide +kernel⟩

theorem wit_CalibrationRuns_3 : ∃ (w : Wr) (s : State),
    (Accepted s w pgCal) ∧ (s.rd CAL_STAT.CAL_STATE 0 ≠ 0 ∧ s.on CAL_STAT.BUSY 0 = false ∧ calKnown (s.rd CAL_RUN.ITEM 0) (s.rd CAL_RUN.UNIT 0) (s.rd CAL_RUN.SUB 0) = true) ∧ (s.calOk s.calNew false = true) ∧ (s.rd CAL_RUN.ITEM 0 = 5) :=
  ⟨hw 0, ((rdy.wr CAL_STAT.CAL_STATE 0 1).wr TPLL_STAT.STATE 0 4).wr CAL_RUN.ITEM 0 5 |>.wr CAL_RUN.UNIT 0 0 |>.wr CAL_RUN.SUB 0 0 |>.wr CAL_RUN.APPLY 0 0, by decide +kernel⟩

theorem wit_CalibrationRuns_4 : ∃ (w : Wr) (s : State),
    (Accepted s w pgCal) ∧ (s.rd CAL_STAT.CAL_STATE 0 ≠ 0 ∧ s.on CAL_STAT.BUSY 0 = false ∧ calKnown (s.rd CAL_RUN.ITEM 0) (s.rd CAL_RUN.UNIT 0) (s.rd CAL_RUN.SUB 0) = true) ∧ (s.calOk s.calNew false = true) ∧ (s.rd CAL_RUN.ITEM 0 = 7) :=
  ⟨hw 0, ((rdy.wr CAL_STAT.CAL_STATE 0 1).wr TPLL_STAT.STATE 0 1).wr CAL_RUN.ITEM 0 7 |>.wr CAL_RUN.UNIT 0 5 |>.wr CAL_RUN.SUB 0 0 |>.wr CAL_RUN.APPLY 0 0, by decide +kernel⟩

theorem wit_CalibrationRuns_5 : ∃ (w : Wr) (s : State),
    (Accepted s w pgCal) ∧ (s.rd CAL_STAT.CAL_STATE 0 ≠ 0 ∧ s.on CAL_STAT.BUSY 0 = false ∧ calKnown (s.rd CAL_RUN.ITEM 0) (s.rd CAL_RUN.UNIT 0) (s.rd CAL_RUN.SUB 0) = true) ∧ (s.calOk s.calNew false = true) ∧ (s.rd CAL_RUN.ITEM 0 = 8 ∧ s.rd CAL_RUN.SUB 0 = 0) :=
  ⟨hw 0, ((rdy.wr CAL_STAT.CAL_STATE 0 1).wr QPLL_STAT.STATE 0 2).wr CAL_RUN.ITEM 0 8 |>.wr CAL_RUN.UNIT 0 3 |>.wr CAL_RUN.SUB 0 0 |>.wr CAL_RUN.APPLY 0 0, by decide +kernel⟩

theorem wit_CalibrationRuns_6 : ∃ (w : Wr) (s : State),
    (Accepted s w pgCal) ∧ (s.rd CAL_STAT.CAL_STATE 0 ≠ 0 ∧ s.on CAL_STAT.BUSY 0 = false ∧ calKnown (s.rd CAL_RUN.ITEM 0) (s.rd CAL_RUN.UNIT 0) (s.rd CAL_RUN.SUB 0) = true) ∧ (s.calOk s.calNew false = true) ∧ (s.rd CAL_RUN.ITEM 0 = 9) :=
  ⟨hw 0, (((rdy.wr CAL_STAT.CAL_STATE 0 1).wr CAS_CFG.DN_EN 0 1 |>.wr CAS_CFG.UP_EN 0 0).wr CAS_STAT.DN_STATE 0 2).wr CAL_RUN.ITEM 0 9 |>.wr CAL_RUN.UNIT 0 1 |>.wr CAL_RUN.SUB 0 0 |>.wr CAL_RUN.APPLY 0 0, by decide +kernel⟩

theorem wit_CalibrationRuns_7 : ∃ (w : Wr) (m : BitVec 32) (s : State),
    (Accepted s w pgCal) ∧ (s.rd CAL_STAT.CAL_STATE 0 ≠ 0 ∧ s.on CAL_STAT.BUSY 0 = false ∧ calKnown (s.rd CAL_RUN.ITEM 0) (s.rd CAL_RUN.UNIT 0) (s.rd CAL_RUN.SUB 0) = true) ∧ (s.calOk s.calNew false = true) ∧ (s.rd CAL_RUN.ITEM 0 = 1 ∧ s.drvState (s.rd CAL_RUN.UNIT 0) ≠ 1) ∧ (m.toNat ≤ 200000) :=
  ⟨hw 0, 200000, (rdy.wr CAL_STAT.CAL_STATE 0 1).wr CAL_RUN.ITEM 0 1 |>.wr CAL_RUN.UNIT 0 25 |>.wr CAL_RUN.SUB 0 0 |>.wr CAL_RUN.APPLY 0 0, by decide +kernel⟩

theorem wit_CalibrationRuns_8 : ∃ (w : Wr) (m : BitVec 32) (s : State),
    (Accepted s w pgCal) ∧ (s.rd CAL_STAT.CAL_STATE 0 ≠ 0 ∧ s.on CAL_STAT.BUSY 0 = false ∧ calKnown (s.rd CAL_RUN.ITEM 0) (s.rd CAL_RUN.UNIT 0) (s.rd CAL_RUN.SUB 0) = true) ∧ (s.calOk s.calNew false = true) ∧ (s.rd CAL_RUN.ITEM 0 = 1 ∧ s.drvState (s.rd CAL_RUN.UNIT 0) = 1) ∧ (m.toNat ≤ 200000) :=
  ⟨hw 0, 200000, ((rdy.wr CAL_STAT.CAL_STATE 0 1).wr DRV_STAT.STATE 25 1 |>.wrA DAC_CFG.CLEAR_CODE 25 0x80000).wr CAL_RUN.ITEM 0 1 |>.wr CAL_RUN.UNIT 0 25 |>.wr CAL_RUN.SUB 0 0 |>.wr CAL_RUN.APPLY 0 0, by decide +kernel⟩

theorem wit_CalibrationRuns_9 : ∃ (w : Wr) (m : BitVec 32) (s : State),
    (Accepted s w pgCal) ∧ (s.rd CAL_STAT.CAL_STATE 0 ≠ 0 ∧ s.on CAL_STAT.BUSY 0 = false ∧ calKnown (s.rd CAL_RUN.ITEM 0) (s.rd CAL_RUN.UNIT 0) (s.rd CAL_RUN.SUB 0) = true) ∧ (s.calOk s.calNew false = true) ∧ (s.rd CAL_RUN.ITEM 0 = 1 ∧ s.drvState (s.rd CAL_RUN.UNIT 0) = 1) ∧ (200000 < m.toNat) :=
  ⟨hw 0, 200001, ((rdy.wr CAL_STAT.CAL_STATE 0 1).wr DRV_STAT.STATE 25 1 |>.wrA DAC_CFG.CLEAR_CODE 25 0x80000).wr CAL_RUN.ITEM 0 1 |>.wr CAL_RUN.UNIT 0 25 |>.wr CAL_RUN.SUB 0 0 |>.wr CAL_RUN.APPLY 0 0, by decide +kernel⟩

theorem wit_CalibrationRuns_10 : ∃ (w : Wr) (s : State),
    (Accepted s w pgCal) ∧ (s.rd CAL_STAT.CAL_STATE 0 = 0 ∧ s.on CAL_STAT.BUSY 0 = false ∧ calKnown (s.rd CAL_RUN.ITEM 0) (s.rd CAL_RUN.UNIT 0) (s.rd CAL_RUN.SUB 0) = true) :=
  ⟨hw 0, (rdy).wr CAL_RUN.ITEM 0 3 |>.wr CAL_RUN.UNIT 0 25 |>.wr CAL_RUN.SUB 0 0 |>.wr CAL_RUN.APPLY 0 0, by decide +kernel⟩

theorem wit_CalibrationRuns_11_1 : ∃ (w : Wr) (s : State),
    (Accepted s w pgCal) ∧ (s.rd CAL_STAT.CAL_STATE 0 ≠ 0 ∧ s.on CAL_STAT.BUSY 0 = false ∧ calKnown (s.rd CAL_RUN.ITEM 0) (s.rd CAL_RUN.UNIT 0) (s.rd CAL_RUN.SUB 0) = true) ∧ (s.calOk s.calNew false = false) :=
  ⟨hw 0, ((((((rdy.wr CAL_STAT.CAL_STATE 0 1)).wr CAL_RUN.ITEM 0 3).wr CAL_RUN.UNIT 0 25).wr CAL_RUN.SUB 0 0).wr CAL_RUN.APPLY 0 0), by decide +kernel⟩

theorem wit_CalibrationRuns_11_2 : ∃ (w : Wr) (s : State),
    (Accepted s w pgCal) ∧ (s.rd CAL_STAT.CAL_STATE 0 ≠ 0 ∧ s.on CAL_STAT.BUSY 0 = false ∧ calKnown (s.rd CAL_RUN.ITEM 0) (s.rd CAL_RUN.UNIT 0) (s.rd CAL_RUN.SUB 0) = true) ∧ (s.calOk s.calNew false = false) :=
  ⟨hw 0, ((((((rdy.wr CAL_STAT.CAL_STATE 0 1)).wr CAL_RUN.ITEM 0 1).wr CAL_RUN.UNIT 0 25).wr CAL_RUN.SUB 0 0).wr CAL_RUN.APPLY 0 0).wr DRV_STAT.STATE 25 2, by decide +kernel⟩

theorem wit_CalibrationRuns_12_1 : ∃ (w : Wr) (s : State),
    (Accepted s w pgCal) ∧ (calKnown (s.rd CAL_RUN.ITEM 0) (s.rd CAL_RUN.UNIT 0) (s.rd CAL_RUN.SUB 0) = false) :=
  ⟨hw 0, ((((((rdy.wr CAL_STAT.CAL_STATE 0 1)).wr CAL_RUN.ITEM 0 3).wr CAL_RUN.UNIT 0 64).wr CAL_RUN.SUB 0 0).wr CAL_RUN.APPLY 0 0), by decide +kernel⟩

theorem wit_CalibrationRuns_12_2 : ∃ (w : Wr) (s : State),
    (Accepted s w pgCal) ∧ (calKnown (s.rd CAL_RUN.ITEM 0) (s.rd CAL_RUN.UNIT 0) (s.rd CAL_RUN.SUB 0) = false) :=
  ⟨hw 0, ((((((rdy.wr CAL_STAT.CAL_STATE 0 1)).wr CAL_RUN.ITEM 0 10).wr CAL_RUN.UNIT 0 0).wr CAL_RUN.SUB 0 0).wr CAL_RUN.APPLY 0 0), by decide⟩

theorem wit_CalibrationRuns_13 : ∃ (w : Wr) (s : State),
    (Accepted s w pgCal) ∧ (s.on CAL_STAT.BUSY 0 = true ∧ calKnown (s.rd CAL_RUN.ITEM 0) (s.rd CAL_RUN.UNIT 0) (s.rd CAL_RUN.SUB 0) = true) :=
  ⟨hw 0, ((((((rdy.wr CAL_STAT.CAL_STATE 0 1)).wr CAL_RUN.ITEM 0 9).wr CAL_RUN.UNIT 0 1).wr CAL_RUN.SUB 0 0).wr CAL_RUN.APPLY 0 0).wr CAL_STAT.BUSY 0 1, by decide +kernel⟩

theorem wit_CalibrationRuns_14 : ∃ (w : Wr) (m : BitVec 32) (s : State),
    (Accepted s w pgCal) ∧ (s.rd CAL_STAT.CAL_STATE 0 ≠ 0 ∧ s.on CAL_STAT.BUSY 0 = false ∧ calKnown (s.rd CAL_RUN.ITEM 0) (s.rd CAL_RUN.UNIT 0) (s.rd CAL_RUN.SUB 0) = true) ∧ (s.rd CAL_RUN.ITEM 0 = 1 ∧ s.calOk s.calNew false = true ∧ s.drvState (s.rd CAL_RUN.UNIT 0) ≠ 1) ∧ (200000 < m.toNat) :=
  ⟨hw 0, 200001, ((((((rdy.wr CAL_STAT.CAL_STATE 0 1)).wr CAL_RUN.ITEM 0 1).wr CAL_RUN.UNIT 0 25).wr CAL_RUN.SUB 0 0).wr CAL_RUN.APPLY 0 0), by decide +kernel⟩

theorem wit_CalibrationRuns_15_1 : ∃ (l : List Int) (v : List Int) (r : CalRun) (s : State),
    (s.cal.run = some r) ∧ (r.item ≠ 6 ∧ r.item ≠ 9 ∧ s.calOk r true = true ∧ s.calResult r l = some v) ∧ (r.phase = 1) :=
  ⟨[7], [7], { item := 3, unit := 25, sub := 0, apply := false, phase := 1, since := 0, from' := 0, first := [] }, ((((rdy.wr SNS_CFG.EN 25 1).wr SNS_BANK_CFG.EN 3 1).wr SNS_BANK_STAT.SETTLED 3 1)).modCal fun c => { c with run := some ({ item := 3, unit := 25, sub := 0, apply := false, phase := 1, since := 0, from' := 0, first := [] }) }, by decide⟩

theorem wit_CalibrationRuns_15_2 : ∃ (l : List Int) (v : List Int) (r : CalRun) (s : State),
    (s.cal.run = some r) ∧ (r.item ≠ 6 ∧ r.item ≠ 9 ∧ s.calOk r true = true ∧ s.calResult r l = some v) ∧ (r.phase = 1) :=
  ⟨[], [4, -1, 2, 3], { item := 8, unit := 3, sub := 1, apply := false, phase := 1, since := 0, from' := 0, first := [] }, (((rdy.wr LANE_STAT.STATE 3 5).wr LANE_STAT.EQ_VALID 3 1).modLphy 3 fun p => { p with stored := some { ctle := 4, dfe := [255, 2, 3] }, storedAt := some 1 }).modCal fun c => { c with run := some ({ item := 8, unit := 3, sub := 1, apply := false, phase := 1, since := 0, from' := 0, first := [] }) }, by decide⟩

theorem wit_CalibrationRuns_16 : ∃ (v : List Int) (r : CalRun) (s : State),
    (s.cal.run = some r) ∧ (r.item = 9 ∧ s.calOk r true = true ∧ s.cas.echoes = 256 ∧ v = [roundDiv s.cas.sum 512]) ∧ (r.phase = 1) :=
  ⟨[3], { item := 9, unit := 1, sub := 0, apply := false, phase := 1, since := 0, from' := 0, first := [] }, (((rdy.wr CAS_CFG.DN_EN 0 1 |>.wr CAS_CFG.UP_EN 0 0).wr CAS_STAT.DN_STATE 0 2).modCas fun c => { c with echoes := 256, sum := 1537 }).modCal fun c => { c with run := some ({ item := 9, unit := 1, sub := 0, apply := false, phase := 1, since := 0, from' := 0, first := [] }) }, by decide⟩

theorem wit_CalibrationRuns_17_1 : ∃ (l : List Int) (r : CalRun) (s : State),
    (s.cal.run = some r) ∧ (r.item ≠ 6 ∧ r.phase ≠ 3 ∧ s.calOk r true = true) ∧ (s.calResult r l = none) :=
  ⟨[7, 8], { item := 3, unit := 25, sub := 0, apply := false, phase := 1, since := 0, from' := 0, first := [] }, ((((rdy.wr SNS_CFG.EN 25 1).wr SNS_BANK_CFG.EN 3 1).wr SNS_BANK_STAT.SETTLED 3 1)).modCal fun c => { c with run := some ({ item := 3, unit := 25, sub := 0, apply := false, phase := 1, since := 0, from' := 0, first := [] }) }, by decide⟩

theorem wit_CalibrationRuns_17_2 : ∃ (l : List Int) (r : CalRun) (s : State),
    (s.cal.run = some r) ∧ (r.item ≠ 6 ∧ r.phase ≠ 3 ∧ s.calOk r true = true) ∧ (s.calResult r l = none) :=
  ⟨[7], { item := 9, unit := 1, sub := 0, apply := false, phase := 1, since := 0, from' := 0, first := [] }, (((rdy.wr CAS_CFG.DN_EN 0 1 |>.wr CAS_CFG.UP_EN 0 0).wr CAS_STAT.DN_STATE 0 2).modCas fun c => { c with echoes := 255 }).modCal fun c => { c with run := some ({ item := 9, unit := 1, sub := 0, apply := false, phase := 1, since := 0, from' := 0, first := [] }) }, by decide⟩

theorem wit_CalibrationRuns_18_1 : ∃ (l : List Int) (r : CalRun) (s : State),
    (s.cal.run = some r) ∧ (r.item = 3 ∧ l.length = 1 ∧ s.calOk r true = true) ∧ (r.phase = 2 ∧ r.first.length = 1) ∧ ((l.headD 0 - r.first.headD 0).natAbs ≤ 83 ∧ (r.first.headD 0 - l.headD 0).natAbs ≤ 83) :=
  ⟨[7], { item := 3, unit := 25, sub := 0, apply := false, phase := 2, since := 0, from' := 0, first := [-76] }, (((((rdy.wr SNS_CFG.EN 25 1).wr SNS_BANK_CFG.EN 3 1).wr SNS_BANK_STAT.SETTLED 3 1)).modCal fun c => { c with run := some ({ item := 3, unit := 25, sub := 0, apply := false, phase := 2, since := 0, from' := 0, first := [-76] }) }), by decide⟩

theorem wit_CalibrationRuns_18_2 : ∃ (l : List Int) (r : CalRun) (s : State),
    (s.cal.run = some r) ∧ (r.item = 3 ∧ l.length = 1 ∧ s.calOk r true = true) ∧ (r.phase = 2 ∧ r.first.length = 1) ∧ ((l.headD 0 - r.first.headD 0).natAbs ≤ 83 ∧ (r.first.headD 0 - l.headD 0).natAbs ≤ 83) :=
  ⟨[7], { item := 3, unit := 25, sub := 0, apply := true, phase := 2, since := 0, from' := 0, first := [-76] }, ((((rdy.wr SNS_CFG.EN 25 1).wr SNS_BANK_CFG.EN 3 1).wr SNS_BANK_STAT.SETTLED 3 1)).modCal fun c => { c with run := some ({ item := 3, unit := 25, sub := 0, apply := true, phase := 2, since := 0, from' := 0, first := [-76] }) }, by decide⟩

theorem wit_CalibrationRuns_19 : ∃ (l : List Int) (v : List Int) (r : CalRun) (s : State),
    (s.cal.run = some r) ∧ (r.item ≠ 6 ∧ r.phase = 2 ∧ s.calOk r true = true ∧ s.calResult r l = some v) ∧ ((calWorst r.first v (calAgree r.item r.sub r.first.length)).2.2 = true ∧ (r.item = 1 ∧ r.wasIdle = true) = false) :=
  ⟨[-1, 2], [-1, 2], { item := 8, unit := 3, sub := 0, apply := true, phase := 2, since := 0, from' := 0, first := [1, 2] }, (rdy.wr QPLL_STAT.STATE 0 2).modCal fun c => { c with run := some ({ item := 8, unit := 3, sub := 0, apply := true, phase := 2, since := 0, from' := 0, first := [1, 2] }) }, by decide⟩

theorem wit_CalibrationRuns_20 : ∃ (l : List Int) (v : List Int) (r : CalRun) (s : State),
    (s.cal.run = some r) ∧ (r.item = 1 ∧ r.wasIdle = true ∧ r.phase = 2 ∧ s.calOk r true = true ∧ s.calResult r l = some v) ∧ ((calWorst r.first v (calAgree r.item r.sub r.first.length)).2.2 = true) :=
  ⟨List.replicate 1026 5, List.replicate 1026 5, { item := 1, unit := 25, sub := 0, apply := true, phase := 2, since := 0, from' := 0, first := List.replicate 1026 6, wasIdle := true }, (rdy).modCal fun c => { c with run := some ({ item := 1, unit := 25, sub := 0, apply := true, phase := 2, since := 0, from' := 0, first := List.replicate 1026 6, wasIdle := true }) }, by decide +kernel⟩

theorem wit_CalibrationRuns_21_1 : ∃ (l : List Int) (r : CalRun) (s : State),
    (s.cal.run = some r) ∧ (r.item = 3 ∧ l.length = 1 ∧ s.calOk r true = true) ∧ (r.phase = 2 ∧ r.first.length = 1) ∧ (83 < (r.first.headD 0 - l.headD 0).natAbs) :=
  ⟨[7], { item := 3, unit := 25, sub := 0, apply := false, phase := 2, since := 0, from' := 0, first := [91] }, (((((rdy.wr SNS_CFG.EN 25 1).wr SNS_BANK_CFG.EN 3 1).wr SNS_BANK_STAT.SETTLED 3 1)).modCal fun c => { c with run := some ({ item := 3, unit := 25, sub := 0, apply := false, phase := 2, since := 0, from' := 0, first := [91] }) }), by decide⟩

theorem wit_CalibrationRuns_21_2 : ∃ (l : List Int) (r : CalRun) (s : State),
    (s.cal.run = some r) ∧ (r.item = 3 ∧ l.length = 1 ∧ s.calOk r true = true) ∧ (r.phase = 2 ∧ r.first.length = 1) ∧ (83 < (r.first.headD 0 - l.headD 0).natAbs) :=
  ⟨[7], { item := 3, unit := 25, sub := 0, apply := true, phase := 2, since := 0, from' := 0, first := [91] }, (((((rdy.wr SNS_CFG.EN 25 1).wr SNS_BANK_CFG.EN 3 1).wr SNS_BANK_STAT.SETTLED 3 1)).modCal fun c => { c with run := some ({ item := 3, unit := 25, sub := 0, apply := true, phase := 2, since := 0, from' := 0, first := [91] }) }), by decide⟩

theorem wit_CalibrationRuns_22 : ∃ (l : List Int) (v : List Int) (r : CalRun) (s : State),
    (s.cal.run = some r) ∧ (r.item ≠ 6 ∧ r.phase = 2 ∧ s.calOk r true = true ∧ s.calResult r l = some v) ∧ ((calWorst r.first v (calAgree r.item r.sub r.first.length)).2.2 = false) :=
  ⟨[-1, 3], [-1, 3], { item := 8, unit := 3, sub := 0, apply := true, phase := 2, since := 0, from' := 0, first := [2, 2] }, (rdy.wr QPLL_STAT.STATE 0 2).modCal fun c => { c with run := some ({ item := 8, unit := 3, sub := 0, apply := true, phase := 2, since := 0, from' := 0, first := [2, 2] }) }, by decide⟩

theorem wit_CalibrationRuns_23 : ∃ (r : CalRun) (s : State),
    (s.cal.run = some r) ∧ ((r.item = 2 ∨ r.item = 3 ∨ r.item = 4 ∨ (r.item = 8 ∧ r.sub ≠ 0)) ∧ r.phase ≠ 3 ∧ s.calOk r true = false) :=
  ⟨{ item := 3, unit := 25, sub := 0, apply := false, phase := 1, since := 0, from' := 0, first := [] }, ((rdy).modCal fun c => { c with run := some ({ item := 3, unit := 25, sub := 0, apply := false, phase := 1, since := 0, from' := 0, first := [] }) }), by decide⟩

theorem wit_CalibrationRuns_24 : ∃ (r : CalRun) (s : State),
    (s.cal.run = some r) ∧ (r.item ≠ 6 ∧ r.phase ≠ 3 ∧ s.calOk r true = false) :=
  ⟨{ item := 7, unit := 5, sub := 0, apply := false, phase := 1, since := 0, from' := 0, first := [] }, (rdy).modCal fun c => { c with run := some ({ item := 7, unit := 5, sub := 0, apply := false, phase := 1, since := 0, from' := 0, first := [] }) }, by decide⟩

theorem wit_CalibrationRuns_25_1 : ∃ (r : CalRun) (s : State),
    (s.cal.run = some r) ∧ (r.phase = 3) :=
  ⟨{ item := 1, unit := 25, sub := 0, apply := true, phase := 3, since := 0, from' := 0, first := [], wasIdle := true }, (rdy).modCal fun c => { c with run := some ({ item := 1, unit := 25, sub := 0, apply := true, phase := 3, since := 0, from' := 0, first := [], wasIdle := true }) }, by decide⟩

theorem wit_CalibrationRuns_25_2 : ∃ (r : CalRun) (s : State),
    (s.cal.run = some r) ∧ (r.phase = 3) :=
  ⟨{ item := 1, unit := 25, sub := 0, apply := true, phase := 3, since := 0, from' := 0, first := [], wasIdle := true }, (rdy.seqPhase 25 1 1 5 0).modCal fun c => { c with run := some ({ item := 1, unit := 25, sub := 0, apply := true, phase := 3, since := 0, from' := 0, first := [], wasIdle := true }) }, by decide⟩

theorem wit_CalibrationRuns_26_1 : ∃ (r : CalRun) (s : State),
    (s.cal.run = some r) ∧ (r.item = 6 ∧ r.phase ≠ 3) :=
  ⟨{ item := 6, unit := 0, sub := 0, apply := false, phase := 1, since := 0, from' := 0, first := [] }, (rdy).modCal fun c => { c with run := some ({ item := 6, unit := 0, sub := 0, apply := false, phase := 1, since := 0, from' := 0, first := [] }) }, by decide⟩

theorem wit_CalibrationRuns_26_2 : ∃ (r : CalRun) (s : State),
    (s.cal.run = some r) ∧ (r.item = 6 ∧ r.phase ≠ 3) :=
  ⟨{ item := 6, unit := 0, sub := 0, apply := false, phase := 1, since := 0, from' := 0, first := [] }, { ((rdy).modCal fun c => { c with run := some ({ item := 6, unit := 0, sub := 0, apply := false, phase := 1, since := 0, from' := 0, first := [] }) }) with tb := 43200000000000 }, by decide⟩

theorem wit_CalibrationRuns_27 : ∃ (s : State),
    (s.cal.run = none) :=
  ⟨rdy, by decide⟩

theorem wit_CalibrationRuns_28 : ∃ (s : State),
    (s.cal.run = none) :=
  ⟨rdy, by decide⟩

theorem wit_CalibrationRuns_29 : ∃ (r : CalRun) (s : State),
    (s.cal.run = some r) ∧ (r.item = 6 ∧ r.from' + 5000000000 ≤ s.tb) ∧ (s.tpllState = 1) :=
  ⟨{ item := 6, unit := 0, sub := 0, apply := false, since := 0, from' := 0, recs := [] }, { (((rdy.wr TPLL_STAT.STATE 0 1).modCal fun c => { c with run := some ({ item := 6, unit := 0, sub := 0, apply := false, since := 0, from' := 0, recs := [] }) })) with tb := 5000000000 }, by decide⟩

theorem wit_CalibrationRuns_30 : ∃ (r : CalRun) (s : State),
    (s.cal.run = some r) ∧ (r.item = 6 ∧ r.from' + 5000000000 ≤ s.tb) ∧ (s.tpllState ≠ 1) :=
  ⟨{ item := 6, unit := 0, sub := 0, apply := false, since := 0, from' := 0, recs := [] }, { (((rdy).modCal fun c => { c with run := some ({ item := 6, unit := 0, sub := 0, apply := false, since := 0, from' := 0, recs := [] }) })) with tb := 5000000000 }, by decide⟩

theorem wit_CalibrationRuns_31 : ∃ (r : CalRun) (s : State),
    (s.cal.run = some r) ∧ (r.item ≠ 6 ∨ s.tb < r.from' + 5000000000) :=
  ⟨{ item := 6, unit := 0, sub := 0, apply := false, since := 0, from' := 1, recs := [] }, { (((rdy).modCal fun c => { c with run := some ({ item := 6, unit := 0, sub := 0, apply := false, since := 0, from' := 1, recs := [] }) })) with tb := 5000000000 }, by decide⟩

theorem wit_CalibrationRuns_32 : ∃ (w : Wr) (r : CalRun) (s : State),
    (Accepted s w pgCal) ∧ (s.cal.run = some r) ∧ ((r.item = 2 ∨ r.item = 3 ∨ r.item = 4 ∨ r.item = 6 ∨ (r.item = 8 ∧ r.sub ≠ 0)) ∧ r.phase ≠ 3) :=
  ⟨hw 0, { item := 3, unit := 25, sub := 0, apply := false, phase := 1, since := 0, from' := 0, first := [] }, (((((rdy.wr SNS_CFG.EN 25 1).wr SNS_BANK_CFG.EN 3 1).wr SNS_BANK_STAT.SETTLED 3 1)).modCal fun c => { c with run := some ({ item := 3, unit := 25, sub := 0, apply := false, phase := 1, since := 0, from' := 0, first := [] }) }), by decide⟩

theorem wit_CalibrationRuns_33 : ∃ (w : Wr) (r : CalRun) (s : State),
    (Accepted s w pgCal) ∧ (s.cal.run = some r) ∧ (r.item = 5 ∧ r.phase ≠ 3) :=
  ⟨hw 0, { item := 5, unit := 25, sub := 0, apply := false, phase := 1, since := 0, from' := 0, first := [] }, (((((rdy.wr SNS_CFG.EN 25 1).wr SNS_BANK_CFG.EN 3 1).wr SNS_BANK_STAT.SETTLED 3 1)).modCal fun c => { c with run := some ({ item := 5, unit := 25, sub := 0, apply := false, phase := 1, since := 0, from' := 0, first := [] }) }), by decide⟩

theorem wit_CalibrationRuns_34_1 : ∃ (w : Wr) (r : CalRun) (s : State),
    (Accepted s w pgCal) ∧ (s.cal.run = some r) :=
  ⟨hw 0, { item := 7, unit := 5, sub := 0, apply := false, phase := 1, since := 0, from' := 0, first := [] }, (rdy.modQuad 5 fun x => { x with hold := true }).modCal fun c => { c with run := some ({ item := 7, unit := 5, sub := 0, apply := false, phase := 1, since := 0, from' := 0, first := [] }) }, by decide⟩

theorem wit_CalibrationRuns_34_2 : ∃ (w : Wr) (r : CalRun) (s : State),
    (Accepted s w pgCal) ∧ (s.cal.run = some r) :=
  ⟨hw 0, { item := 1, unit := 25, sub := 0, apply := true, phase := 3, since := 0, from' := 0, first := [], wasIdle := true }, (rdy.seqPhase 25 1 1 5 0).modCal fun c => { c with run := some ({ item := 1, unit := 25, sub := 0, apply := true, phase := 3, since := 0, from' := 0, first := [], wasIdle := true }) }, by decide⟩

theorem wit_CalibrationRuns_35 : ∃ (w : Wr) (s : State),
    (Accepted s w pgCal) ∧ (s.cal.run = none) :=
  ⟨hw 0, rdy, by decide⟩

theorem wit_CalibrationStoreAndFlash_1 : ∃ (w : Wr) (s : State),
    (Accepted s w pgCal) ∧ (s.rd CAL_STAT.CAL_STATE 0 ≠ 0 ∧ s.on CAL_STAT.FLASH_OK 0 = true ∧ s.on CAL_STAT.STORING 0 = false ∧ s.storeTarget.2 < 0xFFFFFFFF) ∧ (s.cal.fl.isSome = true) :=
  ⟨hw 0, ((rdy.wr CAL_STAT.CAL_STATE 0 1).wr CAL_STAT.FLASH_OK 0 1).modCal fun c => { c with fl := some (1, 0) }, by decide⟩

theorem wit_CalibrationStoreAndFlash_2 : ∃ (w : Wr) (s : State),
    (Accepted s w pgCal) ∧ (s.rd CAL_STAT.CAL_STATE 0 ≠ 0 ∧ s.on CAL_STAT.FLASH_OK 0 = true ∧ s.on CAL_STAT.STORING 0 = false ∧ s.storeTarget.2 < 0xFFFFFFFF) ∧ (s.cal.fl = none ∧ s.cal.low = false) :=
  ⟨hw 0, ((rdy.wr CAL_STAT.CAL_STATE 0 1).wr CAL_STAT.FLASH_OK 0 1), by decide⟩

theorem wit_CalibrationStoreAndFlash_3 : ∃ (w : Wr) (s : State),
    (Accepted s w pgCal) ∧ (s.on CAL_STAT.STORING 0 = true ∧ s.storeTarget.2 < 0xFFFFFFFF) :=
  ⟨hw 0, ((rdy.wr CAL_STAT.CAL_STATE 0 1).wr CAL_STAT.FLASH_OK 0 1).wr CAL_STAT.STORING 0 1, by decide⟩

theorem wit_CalibrationStoreAndFlash_4 : ∃ (w : Wr) (s : State),
    (Accepted s w pgCal) ∧ (s.rd CAL_STAT.CAL_STATE 0 = 0 ∨ s.on CAL_STAT.FLASH_OK 0 = false) ∧ (s.on CAL_STAT.STORING 0 = false ∧ s.storeTarget.2 < 0xFFFFFFFF) :=
  ⟨hw 0, (rdy.wr CAL_STAT.CAL_STATE 0 1), by decide⟩

theorem wit_CalibrationStoreAndFlash_5 : ∃ (w : Wr) (s : State),
    (Accepted s w pgCal) ∧ (s.on CAL_STAT.STORING 0 = false ∧ s.on CAL_FL_STAT.BUSY 0 = false) :=
  ⟨hw 0, rdy.wr CAL_FL_ADDR.ADDR 0 0x200004, by decide⟩

theorem wit_CalibrationStoreAndFlash_6 : ∃ (w : Wr) (s : State),
    (Accepted s w pgCal) ∧ (s.on CAL_STAT.STORING 0 = false ∧ s.on CAL_FL_STAT.BUSY 0 = false) ∧ (s.on LOCK.OPEN pgCal = true ∧ s.cal.low = false) ∧ ((s.rd CAL_FL_ADDR.ADDR 0) + 256 ≤ 0x200000 ∨ 0x600000 ≤ (s.rd CAL_FL_ADDR.ADDR 0)) ∧ ((s.rd CAL_FL_ADDR.ADDR 0) % 256 = 0) :=
  ⟨hw 0, ((rdy.wr LOCK.OPEN pgCal 1).wr CAL_FL_ADDR.ADDR 0 0x600100), by decide⟩

theorem wit_CalibrationStoreAndFlash_7 : ∃ (w : Wr) (s : State),
    (Accepted s w pgCal) ∧ (s.on CAL_STAT.STORING 0 = false ∧ s.on CAL_FL_STAT.BUSY 0 = false) ∧ (s.on LOCK.OPEN pgCal = true ∧ s.cal.low = true ∧ s.cal.store = none) ∧ ((s.rd CAL_FL_ADDR.ADDR 0) + 256 ≤ 0x200000 ∨ 0x600000 ≤ (s.rd CAL_FL_ADDR.ADDR 0)) ∧ ((s.rd CAL_FL_ADDR.ADDR 0) % 256 = 0) :=
  ⟨hw 0, ((rdy.wr LOCK.OPEN pgCal 1).wr CAL_FL_ADDR.ADDR 0 0x600100).modCal fun c => { c with low := true }, by decide⟩

theorem wit_CalibrationStoreAndFlash_8 : ∃ (w : Wr) (s : State),
    (Accepted s w pgCal) ∧ (s.on LOCK.OPEN pgCal = false) :=
  ⟨hw 0, rdy, by decide⟩

theorem wit_CalibrationStoreAndFlash_9_1 : ∃ (w : Wr) (s : State),
    (Accepted s w pgCal) ∧ (s.on CAL_STAT.STORING 0 = false ∧ s.on CAL_FL_STAT.BUSY 0 = false) ∧ (s.on LOCK.OPEN pgCal = true) ∧ ((s.rd CAL_FL_ADDR.ADDR 0) < 0x600000 ∧ 0x200000 < (s.rd CAL_FL_ADDR.ADDR 0) + 256) ∧ ((s.rd CAL_FL_ADDR.ADDR 0) % 256 = 0) :=
  ⟨hw 0, ((rdy.wr LOCK.OPEN pgCal 1).wr CAL_FL_ADDR.ADDR 0 0x200000), by decide⟩

theorem wit_CalibrationStoreAndFlash_9_2 : ∃ (w : Wr) (s : State),
    (Accepted s w pgCal) ∧ (s.on CAL_STAT.STORING 0 = false ∧ s.on CAL_FL_STAT.BUSY 0 = false) ∧ (s.on LOCK.OPEN pgCal = true) ∧ ((s.rd CAL_FL_ADDR.ADDR 0) < 0x600000 ∧ 0x200000 < (s.rd CAL_FL_ADDR.ADDR 0) + 256) ∧ ((s.rd CAL_FL_ADDR.ADDR 0) % 256 = 0) :=
  ⟨hw 0, ((rdy.wr LOCK.OPEN pgCal 1).wr CAL_FL_ADDR.ADDR 0 0x5FFF00), by decide⟩

theorem wit_CalibrationStoreAndFlash_10 : ∃ (w : Wr) (s : State),
    (Accepted s w pgCal) ∧ (s.on LOCK.OPEN pgCal = true ∧ (s.on CAL_STAT.STORING 0 = true ∨ s.on CAL_FL_STAT.BUSY 0 = true)) ∧ ((s.rd CAL_FL_ADDR.ADDR 0) % 256 = 0) :=
  ⟨hw 0, ((rdy.wr LOCK.OPEN pgCal 1).wr CAL_FL_ADDR.ADDR 0 0x600100).wr CAL_FL_STAT.BUSY 0 1, by decide⟩

theorem wit_CalibrationStoreAndFlash_11 : ∃ (w : Wr) (s : State),
    (Accepted s w pgCal) ∧ (s.on CAL_STAT.STORING 0 = false ∧ s.on CAL_FL_STAT.BUSY 0 = false) ∧ (s.on LOCK.OPEN pgCal = true ∧ s.cal.low = false) ∧ (((s.rd CAL_FL_ADDR.ADDR 0) / 4096 * 4096) + 4096 ≤ 0x200000 ∨ 0x600000 ≤ ((s.rd CAL_FL_ADDR.ADDR 0) / 4096 * 4096)) :=
  ⟨hw 0, ((rdy.wr LOCK.OPEN pgCal 1).wr CAL_FL_ADDR.ADDR 0 0x600100), by decide⟩

theorem wit_CalibrationStoreAndFlash_12 : ∃ (w : Wr) (s : State),
    (Accepted s w pgCal) ∧ (s.on CAL_STAT.STORING 0 = false ∧ s.on CAL_FL_STAT.BUSY 0 = false) ∧ (s.on LOCK.OPEN pgCal = true ∧ s.cal.low = true ∧ s.cal.store = none) ∧ (((s.rd CAL_FL_ADDR.ADDR 0) / 4096 * 4096) + 4096 ≤ 0x200000 ∨ 0x600000 ≤ ((s.rd CAL_FL_ADDR.ADDR 0) / 4096 * 4096)) :=
  ⟨hw 0, ((rdy.wr LOCK.OPEN pgCal 1).wr CAL_FL_ADDR.ADDR 0 0x600100).modCal fun c => { c with low := true }, by decide⟩

theorem wit_CalibrationStoreAndFlash_13 : ∃ (w : Wr) (s : State),
    (Accepted s w pgCal) ∧ (s.on LOCK.OPEN pgCal = false) :=
  ⟨hw 0, rdy, by decide⟩

theorem wit_CalibrationStoreAndFlash_14_1 : ∃ (w : Wr) (s : State),
    (Accepted s w pgCal) ∧ (s.on CAL_STAT.STORING 0 = false ∧ s.on CAL_FL_STAT.BUSY 0 = false) ∧ (s.on LOCK.OPEN pgCal = true) ∧ (((s.rd CAL_FL_ADDR.ADDR 0) / 4096 * 4096) < 0x600000 ∧ 0x200000 < ((s.rd CAL_FL_ADDR.ADDR 0) / 4096 * 4096) + 4096) :=
  ⟨hw 0, ((rdy.wr LOCK.OPEN pgCal 1).wr CAL_FL_ADDR.ADDR 0 0x200000), by decide⟩

theorem wit_CalibrationStoreAndFlash_14_2 : ∃ (w : Wr) (s : State),
    (Accepted s w pgCal) ∧ (s.on CAL_STAT.STORING 0 = false ∧ s.on CAL_FL_STAT.BUSY 0 = false) ∧ (s.on LOCK.OPEN pgCal = true) ∧ (((s.rd CAL_FL_ADDR.ADDR 0) / 4096 * 4096) < 0x600000 ∧ 0x200000 < ((s.rd CAL_FL_ADDR.ADDR 0) / 4096 * 4096) + 4096) :=
  ⟨hw 0, ((rdy.wr LOCK.OPEN pgCal 1).wr CAL_FL_ADDR.ADDR 0 0x5FFF00), by decide⟩

theorem wit_CalibrationStoreAndFlash_15 : ∃ (w : Wr) (s : State),
    (Accepted s w pgCal) ∧ (s.on LOCK.OPEN pgCal = true ∧ (s.on CAL_STAT.STORING 0 = true ∨ s.on CAL_FL_STAT.BUSY 0 = true)) :=
  ⟨hw 0, ((rdy.wr LOCK.OPEN pgCal 1).wr CAL_FL_ADDR.ADDR 0 0x600100).wr CAL_FL_STAT.BUSY 0 1, by decide⟩

theorem wit_CalibrationStoreAndFlash_16 : ∃ (w : Wr) (s : State),
    (Accepted s w pgCal) ∧ (s.on CAL_STAT.STORING 0 = false ∧ s.on CAL_FL_STAT.BUSY 0 = false) ∧ (s.on LOCK.OPEN pgCal = true ∧ s.cal.low = false) ∧ (((s.rd CAL_FL_ADDR.ADDR 0) / 65536 * 65536) + 65536 ≤ 0x200000 ∨ 0x600000 ≤ ((s.rd CAL_FL_ADDR.ADDR 0) / 65536 * 65536)) :=
  ⟨hw 0, ((rdy.wr LOCK.OPEN pgCal 1).wr CAL_FL_ADDR.ADDR 0 0x600100), by decide⟩

theorem wit_CalibrationStoreAndFlash_17 : ∃ (w : Wr) (s : State),
    (Accepted s w pgCal) ∧ (s.on CAL_STAT.STORING 0 = false ∧ s.on CAL_FL_STAT.BUSY 0 = false) ∧ (s.on LOCK.OPEN pgCal = true ∧ s.cal.low = true ∧ s.cal.store = none) ∧ (((s.rd CAL_FL_ADDR.ADDR 0) / 65536 * 65536) + 65536 ≤ 0x200000 ∨ 0x600000 ≤ ((s.rd CAL_FL_ADDR.ADDR 0) / 65536 * 65536)) :=
  ⟨hw 0, ((rdy.wr LOCK.OPEN pgCal 1).wr CAL_FL_ADDR.ADDR 0 0x600100).modCal fun c => { c with low := true }, by decide⟩

theorem wit_CalibrationStoreAndFlash_18 : ∃ (w : Wr) (s : State),
    (Accepted s w pgCal) ∧ (s.on LOCK.OPEN pgCal = false) :=
  ⟨hw 0, rdy, by decide⟩

theorem wit_CalibrationStoreAndFlash_19_1 : ∃ (w : Wr) (s : State),
    (Accepted s w pgCal) ∧ (s.on CAL_STAT.STORING 0 = false ∧ s.on CAL_FL_STAT.BUSY 0 = false) ∧ (s.on LOCK.OPEN pgCal = true) ∧ (((s.rd CAL_FL_ADDR.ADDR 0) / 65536 * 65536) < 0x600000 ∧ 0x200000 < ((s.rd CAL_FL_ADDR.ADDR 0) / 65536 * 65536) + 65536) :=
  ⟨hw 0, ((rdy.wr LOCK.OPEN pgCal 1).wr CAL_FL_ADDR.ADDR 0 0x200000), by decide⟩

theorem wit_CalibrationStoreAndFlash_19_2 : ∃ (w : Wr) (s : State),
    (Accepted s w pgCal) ∧ (s.on CAL_STAT.STORING 0 = false ∧ s.on CAL_FL_STAT.BUSY 0 = false) ∧ (s.on LOCK.OPEN pgCal = true) ∧ (((s.rd CAL_FL_ADDR.ADDR 0) / 65536 * 65536) < 0x600000 ∧ 0x200000 < ((s.rd CAL_FL_ADDR.ADDR 0) / 65536 * 65536) + 65536) :=
  ⟨hw 0, ((rdy.wr LOCK.OPEN pgCal 1).wr CAL_FL_ADDR.ADDR 0 0x5FFF00), by decide⟩

theorem wit_CalibrationStoreAndFlash_20 : ∃ (w : Wr) (s : State),
    (Accepted s w pgCal) ∧ (s.on LOCK.OPEN pgCal = true ∧ (s.on CAL_STAT.STORING 0 = true ∨ s.on CAL_FL_STAT.BUSY 0 = true)) :=
  ⟨hw 0, ((rdy.wr LOCK.OPEN pgCal 1).wr CAL_FL_ADDR.ADDR 0 0x600100).wr CAL_FL_STAT.BUSY 0 1, by decide⟩

theorem wit_CalibrationStoreAndFlash_21 : ∃ (w : Wr) (s : State),
    (Accepted s w pgCal) ∧ (s.on LOCK.OPEN pgCal = true) ∧ ((s.rd CAL_FL_ADDR.ADDR 0) % 256 ≠ 0) :=
  ⟨hw 0, ((rdy.wr LOCK.OPEN pgCal 1).wr CAL_FL_ADDR.ADDR 0 0x600101), by decide⟩

theorem wit_CalibrationStoreAndFlash_22 : ∃ (a : Nat) (s : State),
    (s.cal.fl = some (1, a)) ∧ (s.cal.store = none) :=
  ⟨0x600100, ((rdy.flashProg 0x600104 [1,2,3,4,5]).modCal fun c => { c with fl := some (1, 0x600100) }), by decide⟩

theorem wit_CalibrationStoreAndFlash_23 : ∃ (a : Nat) (s : State),
    (s.cal.fl = some (2, a)) ∧ (s.cal.store = none) :=
  ⟨0x600100, ((rdy.wr CAL_FL_BUF.DATA 1 0x1234).modCal fun c => { c with fl := some (2, 0x600100) }), by decide⟩

theorem wit_CalibrationStoreAndFlash_24 : ∃ (k : Nat) (a : Nat) (s : State),
    (s.cal.fl = some (k, a) ∧ (k = 3 ∨ k = 4)) ∧ (s.cal.store = none) :=
  ⟨3, 0x600100, ((rdy.flashProg 0x600104 [1,2,3,4,5]).modCal fun c => { c with fl := some (3, 0x600100) }), by decide⟩

theorem wit_CalibrationStoreAndFlash_25 : ∃ (k : Nat) (a : Nat) (s : State),
    (s.cal.fl = some (k, a)) ∧ (s.cal.store = none) :=
  ⟨3, 0x600100, ((rdy.flashProg 0x600104 [1,2,3,4,5]).modCal fun c => { c with fl := some (3, 0x600100) }), by decide⟩

theorem wit_CalibrationStoreAndFlash_26 : ∃ (s : State),
    (s.cal.fl = none ∧ s.cal.store = none) :=
  ⟨rdy, by decide⟩

theorem wit_CalibrationStoreAndFlash_27 : ∃ (x : CalStore) (s : State),
    (s.cal.fl = none ∧ s.cal.store = some x ∧ x.issued = true) :=
  ⟨{ slot := 1, gen := 5, payload := [1, 2, 3, 4], k := 0, issued := true }, rdy.modCal fun c => { c with store := some { slot := 1, gen := 5, payload := [1, 2, 3, 4], k := 0, issued := true } }, by decide⟩

theorem wit_CalibrationStoreAndFlash_28 : ∃ (x : CalStore) (b : Nat) (s : State),
    (s.cal.fl = none ∧ s.cal.store = some x ∧ x.issued = true ∧ s.cal.low = false) ∧ (x.k < x.erases ∧ b = calSlotBase x.slot + 65536 * x.k) :=
  ⟨{ slot := 1, gen := 5, payload := [1, 2, 3, 4], k := 0, issued := true }, 0x400000, (rdy.flashProg 0x400004 [1,2]).modCal fun c => { c with store := some { slot := 1, gen := 5, payload := [1, 2, 3, 4], k := 0, issued := true } }, by decide⟩

theorem wit_CalibrationStoreAndFlash_29 : ∃ (x : CalStore) (s : State),
    (s.cal.fl = none ∧ s.cal.store = some x ∧ x.issued = true) ∧ (x.k = x.erases + x.pages + 3) :=
  ⟨{ slot := 1, gen := 5, payload := [1, 2, 3, 4], k := 5, issued := true }, rdy.modCal fun c => { c with store := some { slot := 1, gen := 5, payload := [1, 2, 3, 4], k := 5, issued := true } }, by decide⟩

theorem wit_CalibrationStoreAndFlash_30 : ∃ (s : State),
    (s.cal.low = false) :=
  ⟨rdy, by decide⟩

theorem wit_CalibrationStoreAndFlash_31 : ∃ (s : State),
    (s.cal.low = true) :=
  ⟨rdy.modCal fun c => { c with low := true }, by decide⟩

theorem wit_CalibrationStoreAndFlash_33 : ∃ (w : Wr) (s : State),
    (Accepted s w pgCal) ∧ (0xFFFFFFFF ≤ s.storeTarget.2) :=
  ⟨hw 0, (((rdy.wr CAL_STAT.CAL_STATE 0 1).wr CAL_STAT.FLASH_OK 0 1).wr CAL_SLOT_STAT.VALID 0 1).wr CAL_SLOT_GEN.GEN 0 0xFFFFFFFE, by decide⟩

theorem wit_CalibrationStoreAndFlash_34 : ∃ (w : Wr) (s : State),
    (Accepted s w pgCal) ∧ (s.rd CAL_STAT.CAL_STATE 0 ≠ 0 ∧ s.on CAL_STAT.FLASH_OK 0 = true ∧ s.on CAL_STAT.STORING 0 = false ∧ s.storeTarget.2 < 0xFFFFFFFF) ∧ (s.cal.fl = none ∧ s.cal.low = true) :=
  ⟨hw 0, ((rdy.wr CAL_STAT.CAL_STATE 0 1).wr CAL_STAT.FLASH_OK 0 1).modCal fun c => { c with low := true }, by decide⟩

theorem wit_CalibrationStoreAndFlash_35 : ∃ (w : Wr) (s : State),
    (Accepted s w pgCal) ∧ (s.on CAL_STAT.STORING 0 = true ∨ s.on CAL_FL_STAT.BUSY 0 = true) :=
  ⟨hw 0, rdy.wr CAL_FL_STAT.BUSY 0 1, by decide⟩

theorem wit_CalibrationStoreAndFlash_36 : ∃ (x : CalStore) (s : State),
    (s.cal.fl = none ∧ s.cal.store = some x ∧ x.issued = false) :=
  ⟨{ slot := 1, gen := 5, payload := [] }, rdy.modCal fun c => { c with store := some { slot := 1, gen := 5, payload := [] } }, by decide⟩

theorem wit_CalibrationStoreAndFlash_37 : ∃ (k : Nat) (a : Nat) (x : CalStore) (o : Nat × Nat × List Nat) (s : State),
    (s.cal.fl = some (k, a)) ∧ (s.cal.store = some x ∧ x.issued = false ∧ x.op = some o ∧ (o.1 = 3 ∨ s.cal.low = false)) :=
  ⟨1, 0, { slot := 1, gen := 5, payload := [] }, (4, 0x400000, []), rdy.modCal fun c => { c with fl := some (1, 0), store := some { slot := 1, gen := 5, payload := [] } }, by decide⟩

theorem wit_CalibrationStoreAndFlash_38 : ∃ (a : Nat) (x : CalStore) (o : Nat × Nat × List Nat) (s : State),
    (s.cal.fl = some (1, a)) ∧ (s.cal.store = some x ∧ x.issued = false ∧ x.op = some o ∧ (o.1 = 3 ∨ s.cal.low = false)) :=
  ⟨0, { slot := 1, gen := 5, payload := [] }, (4, 0x400000, []), rdy.modCal fun c => { c with fl := some (1, 0), store := some { slot := 1, gen := 5, payload := [] } }, by decide⟩

theorem wit_CalibrationStoreAndFlash_39 : ∃ (x : CalStore) (a : Nat) (bs : List Nat) (s : State),
    (s.cal.fl = none ∧ s.cal.store = some x ∧ x.issued = true ∧ s.cal.low = false) ∧ (x.op = some (2, a, bs) ∧ x.k < x.erases + x.pages + 3) :=
  ⟨{ slot := 1, gen := 5, payload := [1, 2, 3, 4], k := 2, issued := true }, 0x400100, [1, 2, 3, 4], (rdy.flashProg 0x400102 [5]).modCal fun c => { c with store := some { slot := 1, gen := 5, payload := [1, 2, 3, 4], k := 2, issued := true } }, by decide⟩

theorem wit_CalibrationStoreAndFlash_40 : ∃ (x : CalStore) (a : Nat) (bs : List Nat) (s : State),
    (s.cal.fl = none ∧ s.cal.store = some x ∧ x.issued = true ∧ s.cal.low = true) ∧ (x.op = some (2, a, bs) ∧ x.k < x.erases + x.pages + 1) :=
  ⟨{ slot := 1, gen := 5, payload := [1, 2, 3, 4], k := 2, issued := true }, 0x400100, [1, 2, 3, 4], rdy.modCal fun c => { c with low := true, store := some { slot := 1, gen := 5, payload := [1, 2, 3, 4], k := 2, issued := true } }, by decide⟩

theorem wit_CalibrationStoreAndFlash_41_1 : ∃ (x : CalStore) (a : Nat) (s : State),
    (s.cal.fl = none ∧ s.cal.store = some x ∧ x.issued = true ∧ s.cal.low = false) ∧ (x.op = some (3, a, [])) :=
  ⟨{ slot := 1, gen := 5, payload := [], k := 3, issued := true }, 0x400000, (let x : CalStore := { slot := 1, gen := 5, payload := [], k := 3, issued := true }; (rdy.flashProg 0x400000 (x.header ++ leBytes 4 x.check)).modCal fun c => { c with store := some x }), by decide⟩

theorem wit_CalibrationStoreAndFlash_41_2 : ∃ (x : CalStore) (a : Nat) (s : State),
    (s.cal.fl = none ∧ s.cal.store = some x ∧ x.issued = true ∧ s.cal.low = false) ∧ (x.op = some (3, a, [])) :=
  ⟨{ slot := 1, gen := 5, payload := [], k := 3, issued := true }, 0x400000, rdy.modCal fun c => { c with store := some { slot := 1, gen := 5, payload := [], k := 3, issued := true } }, by decide⟩

theorem wit_MarginPlans_1 : ∃ (s : State),
    (s.on LUS_CTRL.EN 0 = true ∧ s.planDue ≤ s.epoch ∧ s.on LUS_STAT.BUSY 0 = false) :=
  ⟨{ ((rdy.wr LUS_CTRL.EN 0 1).modLustre fun x => { x with next := some 5 }) with epoch := 5 }, by decide⟩

theorem wit_MarginPlans_2 : ∃ (s : State),
    (s.on LUS_CTRL.EN 0 = true ∧ s.planDue ≤ s.epoch ∧ s.on LUS_STAT.BUSY 0 = true) :=
  ⟨{ (((rdy.wr LUS_CTRL.EN 0 1).wr LUS_STAT.BUSY 0 1).modLustre fun x => { x with next := some 5 }) with epoch := 5 }, by decide⟩

theorem wit_MarginPlans_3 : ∃ (s : State),
    (s.on LUS_CTRL.EN 0 = false ∨ s.epoch < s.planDue) :=
  ⟨rdy, by decide⟩

theorem wit_MarginPlans_4_1 : ∃ (w : Wr) (s : State),
    (Accepted s w pgLus) ∧ (1 ≤ bits w.val.toNat 0 11 ∧ bits w.val.toNat 0 11 ≤ 1440 ∧ s.on LUS_STAT.BUSY 0 = false) :=
  ⟨hw 0x800005A0, rdy, by decide⟩

theorem wit_MarginPlans_4_2 : ∃ (w : Wr) (s : State),
    (Accepted s w pgLus) ∧ (1 ≤ bits w.val.toNat 0 11 ∧ bits w.val.toNat 0 11 ≤ 1440 ∧ s.on LUS_STAT.BUSY 0 = false) :=
  ⟨hw 1, rdy, by decide⟩

theorem wit_MarginPlans_5_1 : ∃ (w : Wr) (s : State),
    (Accepted s w pgLus) ∧ (bits w.val.toNat 0 11 < 1 ∨ 1440 < bits w.val.toNat 0 11) :=
  ⟨hw 0, rdy, by decide⟩

theorem wit_MarginPlans_5_2 : ∃ (w : Wr) (s : State),
    (Accepted s w pgLus) ∧ (bits w.val.toNat 0 11 < 1 ∨ 1440 < bits w.val.toNat 0 11) :=
  ⟨hw 1441, rdy, by decide⟩

theorem wit_MarginPlans_6 : ∃ (w : Wr) (s : State),
    (Accepted s w pgLus) ∧ (1 ≤ bits w.val.toNat 0 11 ∧ bits w.val.toNat 0 11 ≤ 1440 ∧ s.on LUS_STAT.BUSY 0 = true) :=
  ⟨hw 1, rdy.wr LUS_STAT.BUSY 0 1, by decide⟩

theorem wit_MarginPlans_7 : ∃ (x : Nat) (s : State),
    (s.lustre.start = some x) :=
  ⟨7, rdy.modLustre fun x => { x with start := some 7 }, by decide⟩

theorem wit_MarginPlans_8 : ∃ (s : State),
    (s.lustre.start = none) :=
  ⟨rdy, by decide⟩

theorem wit_CascadePorts_1_1 : ∃ (d : Bool) (s : State),
    (s.portState d = 0 ∧ (s.portEnabled d && s.on CAS_STAT.ADDR_VALID 0 && s.casPll) = true ∧ (s.casPort (portNo d)).notBefore ≤ s.tb) :=
  ⟨true, (((rdy.wr TB_STAT.TB_RUN 0 1).wr CAS_STAT.ADDR_VALID 0 1).wr CAS_CFG.DN_EN 0 1), by decide⟩

theorem wit_CascadePorts_1_2 : ∃ (d : Bool) (s : State),
    (s.portState d = 0 ∧ (s.portEnabled d && s.on CAS_STAT.ADDR_VALID 0 && s.casPll) = true ∧ (s.casPort (portNo d)).notBefore ≤ s.tb) :=
  ⟨false, (((rdy.wr TB_STAT.TB_RUN 0 1).wr CAS_STAT.ADDR_VALID 0 1).wr CAS_CFG.DN_EN 0 1), by decide⟩

theorem wit_CascadePorts_2 : ∃ (d : Bool) (s : State),
    (s.portState d ≠ 0 ∨ (s.portEnabled d && s.on CAS_STAT.ADDR_VALID 0 && s.casPll) = false ∨ s.tb < (s.casPort (portNo d)).notBefore) :=
  ⟨true, rdy, by decide⟩

theorem wit_CascadePorts_3_1 : ∃ (d : Bool) (s : State),
    (s.portState d = 1 ∧ (d = true ∨ s.tpllState ≠ 2 ∨ s.master = true)) :=
  ⟨true, (((((rdy.wr TB_STAT.TB_RUN 0 1).wr CAS_STAT.ADDR_VALID 0 1).wr CAS_CFG.DN_EN 0 1)).wr CAS_STAT.DN_STATE 0 1), by decide⟩

theorem wit_CascadePorts_3_2 : ∃ (d : Bool) (s : State),
    (s.portState d = 1 ∧ (d = true ∨ s.tpllState ≠ 2 ∨ s.master = true)) :=
  ⟨false, (((((rdy.wr TB_STAT.TB_RUN 0 1).wr CAS_STAT.ADDR_VALID 0 1).wr CAS_CFG.DN_EN 0 1)).wr CAS_STAT.UP_STATE 0 1), by decide⟩

theorem wit_CascadePorts_4 : ∃ (s : State),
    (s.portState false = 1 ∧ s.tpllState = 2 ∧ s.master = false) :=
  ⟨((((rdy.wr TB_STAT.TB_RUN 0 1).wr CAS_STAT.ADDR_VALID 0 1).wr CAS_CFG.DN_EN 0 1).wr CAS_STAT.UP_STATE 0 1).wr TPLL_STAT.STATE 0 2, by decide⟩

theorem wit_CascadePorts_5 : ∃ (d : Bool) (s : State),
    (s.portState d ≠ 1) :=
  ⟨true, rdy, by decide⟩

theorem wit_CascadePorts_6 : ∃ (d : Bool) (s : State),
    (s.portState d = 1 ∧ (s.casPort (portNo d)).since + 5000000 ≤ s.tb) :=
  ⟨true, { ((((((rdy.wr TB_STAT.TB_RUN 0 1).wr CAS_STAT.ADDR_VALID 0 1).wr CAS_CFG.DN_EN 0 1)).wr CAS_STAT.DN_STATE 0 1)) with tb := 5000000 }, by decide⟩

theorem wit_CascadePorts_7 : ∃ (d : Bool) (s : State),
    (s.portState d ≠ 1 ∨ s.tb < (s.casPort (portNo d)).since + 5000000) :=
  ⟨true, (((((rdy.wr TB_STAT.TB_RUN 0 1).wr CAS_STAT.ADDR_VALID 0 1).wr CAS_CFG.DN_EN 0 1)).wr CAS_STAT.DN_STATE 0 1), by decide⟩

theorem wit_CascadePorts_8 : ∃ (d : Bool) (s : State),
    (s.portState d = 1) :=
  ⟨false, (((((rdy.wr TB_STAT.TB_RUN 0 1).wr CAS_STAT.ADDR_VALID 0 1).wr CAS_CFG.DN_EN 0 1)).wr CAS_STAT.UP_STATE 0 1), by decide⟩

theorem wit_CascadePorts_9_1 : ∃ (d : Bool) (s : State),
    (s.portState d = 2) :=
  ⟨false, (((((rdy.wr TB_STAT.TB_RUN 0 1).wr CAS_STAT.ADDR_VALID 0 1).wr CAS_CFG.DN_EN 0 1).wr CAS_STAT.UP_STATE 0 2).modCasPort 0 fun c => { c with queue := [(1, []), (3, [])] }).wr CAS_STAT.ALIGNED 0 1, by decide⟩

theorem wit_CascadePorts_9_2 : ∃ (d : Bool) (s : State),
    (s.portState d = 2) :=
  ⟨true, ((((rdy.wr TB_STAT.TB_RUN 0 1).wr CAS_STAT.ADDR_VALID 0 1).wr CAS_CFG.DN_EN 0 1).wr CAS_STAT.DN_STATE 0 2).modCal fun c => { c with run := some { item := 9, unit := 1, sub := 0, apply := false, since := 0, from' := 0 } }, by decide⟩

theorem wit_CascadePorts_10 : ∃ (d : Bool) (s : State),
    (s.portState d = 0) :=
  ⟨false, rdy, by decide⟩

theorem wit_CascadePorts_11 : ∃ (s : State),
    (s.portState true = 2) ∧ (s.cal.run = none ∧ (s.casPort 1).queue.filter (fun m => m.1 == 1) = []) ∧ (s.master = false) :=
  ⟨(((((((rdy.wr TB_STAT.TB_RUN 0 1).wr CAS_STAT.ADDR_VALID 0 1).wr CAS_CFG.DN_EN 0 1)).wr CAS_STAT.DN_STATE 0 2)).wr CAS_STAT.ADDR 0 1), by decide⟩

theorem wit_CascadePorts_12 : ∃ (s : State),
    (s.portState true = 2) ∧ (s.cal.run = none ∧ (s.casPort 1).queue.filter (fun m => m.1 == 1) = []) ∧ (s.master = true) :=
  ⟨(((((((rdy.wr TB_STAT.TB_RUN 0 1).wr CAS_STAT.ADDR_VALID 0 1).wr CAS_CFG.DN_EN 0 1)).wr CAS_STAT.DN_STATE 0 2)).wr CAS_STAT.MASTER 0 1), by decide⟩

theorem wit_CascadePorts_13 : ∃ (s : State),
    (s.portState false = 2) ∧ (s.cal.run = none ∧ (s.casPort 0).queue.filter (fun m => m.1 == 1) = []) ∧ (s.on CAS_STAT.ALIGNED 0 = false ∧ s.tpll.follow = false) :=
  ⟨(((((((rdy.wr TB_STAT.TB_RUN 0 1).wr CAS_STAT.ADDR_VALID 0 1).wr CAS_CFG.DN_EN 0 1)).wr CAS_STAT.UP_STATE 0 2)).wr CAS_STAT.ADDR 0 1), by decide⟩

theorem wit_CascadePorts_14 : ∃ (w : Wr) (s : State),
    (Accepted s w pgCas) ∧ (bits (w.val ||| 4).toNat 0 4 = 4) ∧ (s.portState false = 2) ∧ (s.cal.run = none ∧ (s.casPort 0).queue.filter (fun m => m.1 == 1) = []) ∧ (s.on CAS_STAT.ALIGNED 0 = false ∧ s.tpll.follow = false) :=
  ⟨hw 0, (((((((rdy.wr TB_STAT.TB_RUN 0 1).wr CAS_STAT.ADDR_VALID 0 1).wr CAS_CFG.DN_EN 0 1)).wr CAS_STAT.UP_STATE 0 2)).wr CAS_STAT.ADDR 0 1), by decide⟩

theorem wit_CascadePorts_15 : ∃ (w : Wr) (s : State),
    (Accepted s w pgCas) ∧ (bits (w.val ||| 8).toNat 0 4 = 8) ∧ (s.portState true = 2) ∧ (s.cal.run = none ∧ (s.casPort 1).queue.filter (fun m => m.1 == 1) = []) ∧ (s.master = false) :=
  ⟨hw 0, (((((((rdy.wr TB_STAT.TB_RUN 0 1).wr CAS_STAT.ADDR_VALID 0 1).wr CAS_CFG.DN_EN 0 1)).wr CAS_STAT.DN_STATE 0 2)).wr CAS_STAT.ADDR 0 1), by decide⟩

theorem wit_CascadePorts_16 : ∃ (w : Wr) (s : State),
    (Accepted s w pgCas) ∧ (bits (w.val ||| 8).toNat 0 4 = 8) ∧ (s.portState true = 2) ∧ (s.cal.run = none ∧ (s.casPort 1).queue.filter (fun m => m.1 == 1) = []) ∧ (s.master = true) :=
  ⟨hw 0, (((((((rdy.wr TB_STAT.TB_RUN 0 1).wr CAS_STAT.ADDR_VALID 0 1).wr CAS_CFG.DN_EN 0 1)).wr CAS_STAT.DN_STATE 0 2)).wr CAS_STAT.MASTER 0 1), by decide⟩

theorem wit_CascadePorts_17_1 : ∃ (w : Wr) (s : State),
    (Accepted s w pgCas) ∧ (bit w.val.toNat 0 = false) :=
  ⟨hw 0, ((((rdy.wr TB_STAT.TB_RUN 0 1).wr CAS_STAT.ADDR_VALID 0 1).wr CAS_CFG.DN_EN 0 1).wr CAS_STAT.UP_STATE 0 2), by decide⟩

theorem wit_CascadePorts_17_2 : ∃ (w : Wr) (s : State),
    (Accepted s w pgCas) ∧ (bit w.val.toNat 0 = false) :=
  ⟨hw 8, (((((rdy.wr TB_STAT.TB_RUN 0 1).wr CAS_STAT.ADDR_VALID 0 1).wr CAS_CFG.DN_EN 0 1).wr CAS_STAT.DN_STATE 0 2).wr CAS_STAT.UP_STATE 0 2), by decide⟩

theorem wit_CascadePorts_18_1 : ∃ (w : Wr) (s : State),
    (Accepted s w pgCas) ∧ (bit w.val.toNat 0 = false) :=
  ⟨hw 0, ((((rdy.wr TB_STAT.TB_RUN 0 1).wr CAS_STAT.ADDR_VALID 0 1).wr CAS_CFG.DN_EN 0 1).wr CAS_STAT.DN_STATE 0 2), by decide⟩

theorem wit_CascadePorts_18_2 : ∃ (w : Wr) (s : State),
    (Accepted s w pgCas) ∧ (bit w.val.toNat 0 = false) :=
  ⟨hw 4, (((((rdy.wr TB_STAT.TB_RUN 0 1).wr CAS_STAT.ADDR_VALID 0 1).wr CAS_CFG.DN_EN 0 1).wr CAS_STAT.DN_STATE 0 2).wr CAS_STAT.UP_STATE 0 2), by decide⟩

theorem wit_CascadePorts_23 : ∃ (l : Fin 260) (s : State),
    (256 ≤ l.val ∧ s.portState (decide (258 ≤ l.val)) ≠ 2) :=
  ⟨257, rdy, by decide⟩

theorem wit_CascadePorts_24_1 : ∃ (l : Fin 260) (hdr : BitVec 4) (s : State),
    (256 ≤ l.val ∧ s.portState (decide (258 ≤ l.val)) = 2 ∧ (((headerBad hdr.toNat :: (if l.val % 2 = 0 then (s.casPort (portNo (decide (258 ≤ l.val)))).hdrs0 else (s.casPort (portNo (decide (258 ≤ l.val)))).hdrs1)).take 64).filter id).length < 16) :=
  ⟨258, 3, ((((rdy.wr TB_STAT.TB_RUN 0 1).wr CAS_STAT.ADDR_VALID 0 1).wr CAS_CFG.DN_EN 0 1).wr CAS_STAT.DN_STATE 0 2), by decide⟩

theorem wit_CascadePorts_24_2 : ∃ (l : Fin 260) (hdr : BitVec 4) (s : State),
    (256 ≤ l.val ∧ s.portState (decide (258 ≤ l.val)) = 2 ∧ (((headerBad hdr.toNat :: (if l.val % 2 = 0 then (s.casPort (portNo (decide (258 ≤ l.val)))).hdrs0 else (s.casPort (portNo (decide (258 ≤ l.val)))).hdrs1)).take 64).filter id).length < 16) :=
  ⟨257, 5, ((((rdy.wr TB_STAT.TB_RUN 0 1).wr CAS_STAT.ADDR_VALID 0 1).wr CAS_CFG.DN_EN 0 1).wr CAS_STAT.UP_STATE 0 2), by decide⟩

theorem wit_CascadePorts_25 : ∃ (l : Fin 260) (hdr : BitVec 4) (s : State),
    (256 ≤ l.val ∧ s.portState (decide (258 ≤ l.val)) = 2 ∧ 16 ≤ (((headerBad hdr.toNat :: (if l.val % 2 = 0 then (s.casPort (portNo (decide (258 ≤ l.val)))).hdrs0 else (s.casPort (portNo (decide (258 ≤ l.val)))).hdrs1)).take 64).filter id).length) :=
  ⟨258, 3, ((((rdy.wr TB_STAT.TB_RUN 0 1).wr CAS_STAT.ADDR_VALID 0 1).wr CAS_CFG.DN_EN 0 1).wr CAS_STAT.DN_STATE 0 2).modCasPort 1 fun c => { c with hdrs0 := List.replicate 15 true ++ List.replicate 48 false }, by decide⟩

theorem wit_CascadePorts_26 : ∃ (w : Wr) (s : State),
    (Accepted s w pgCas) ∧ (bits (w.val ||| 4).toNat 0 4 = 4 ∧ s.portState false ≠ 2) :=
  ⟨hw 0, (((((rdy.wr TB_STAT.TB_RUN 0 1).wr CAS_STAT.ADDR_VALID 0 1).wr CAS_CFG.DN_EN 0 1)).wr CAS_STAT.UP_STATE 0 1), by decide⟩

theorem wit_CascadePorts_27 : ∃ (w : Wr) (s : State),
    (Accepted s w pgCas) ∧ (bits (w.val ||| 8).toNat 0 4 = 8 ∧ s.portState true ≠ 2) :=
  ⟨hw 0, (((((rdy.wr TB_STAT.TB_RUN 0 1).wr CAS_STAT.ADDR_VALID 0 1).wr CAS_CFG.DN_EN 0 1)).wr CAS_STAT.UP_STATE 0 1), by decide⟩

theorem wit_CascadePorts_28 : ∃ (d : Bool) (i : Nat) (xs : List Nat) (s : State),
    (s.portState d = 2 ∧ (s.casJrn d && decide (15 ≤ (s.casPort (portNo d)).noJrn)) = false) ∧ (casFirst (s.casPort (portNo d)).queue 1 = some i ∧ (s.casPort (portNo d)).queue[i]? = some (1, xs)) :=
  ⟨true, 2, [7], ((((((rdy.wr TB_STAT.TB_RUN 0 1).wr CAS_STAT.ADDR_VALID 0 1).wr CAS_CFG.DN_EN 0 1)).wr CAS_STAT.DN_STATE 0 2).modCasPort 1 fun c => { c with queue := [(6, []), (3, []), (1, [7]), (1, [])], named := true }), by decide⟩

theorem wit_CascadePorts_29_1 : ∃ (d : Bool) (i : Nat) (k : Nat) (xs : List Nat) (s : State),
    (s.portState d = 2 ∧ (s.casJrn d && decide (15 ≤ (s.casPort (portNo d)).noJrn)) = false) ∧ (casFirst (s.casPort (portNo d)).queue 1 = none ∧ casFirst (s.casPort (portNo d)).queue 2 = some i ∧ (s.casPort (portNo d)).queue[i]? = some (k, xs) ∧ casClass k = 2) :=
  ⟨true, 1, 3, [7], ((((((rdy.wr TB_STAT.TB_RUN 0 1).wr CAS_STAT.ADDR_VALID 0 1).wr CAS_CFG.DN_EN 0 1)).wr CAS_STAT.DN_STATE 0 2).modCasPort 1 fun c => { c with queue := [(6, []), (3, [7])], named := true }), by decide⟩

theorem wit_CascadePorts_29_2 : ∃ (d : Bool) (i : Nat) (k : Nat) (xs : List Nat) (s : State),
    (s.portState d = 2 ∧ (s.casJrn d && decide (15 ≤ (s.casPort (portNo d)).noJrn)) = false) ∧ (casFirst (s.casPort (portNo d)).queue 1 = none ∧ casFirst (s.casPort (portNo d)).queue 2 = some i ∧ (s.casPort (portNo d)).queue[i]? = some (k, xs) ∧ casClass k = 2) :=
  ⟨true, 1, 2, [7, 8], ((((((rdy.wr TB_STAT.TB_RUN 0 1).wr CAS_STAT.ADDR_VALID 0 1).wr CAS_CFG.DN_EN 0 1)).wr CAS_STAT.DN_STATE 0 2).modCasPort 1 fun c => { c with queue := [(6, []), (2, [7, 8])], named := true }), by decide⟩

theorem wit_CascadePorts_30 : ∃ (d : Bool) (i : Nat) (k : Nat) (xs : List Nat) (s : State),
    (s.portState d = 2 ∧ (s.casJrn d && decide (15 ≤ (s.casPort (portNo d)).noJrn)) = false) ∧ (casFirst (s.casPort (portNo d)).queue 1 = none ∧ casFirst (s.casPort (portNo d)).queue 2 = none ∧ casFirst (s.casPort (portNo d)).queue 3 = some i ∧ (s.casPort (portNo d)).queue[i]? = some (k, xs) ∧ casClass k = 3) :=
  ⟨true, 0, 6, [7], ((((((rdy.wr TB_STAT.TB_RUN 0 1).wr CAS_STAT.ADDR_VALID 0 1).wr CAS_CFG.DN_EN 0 1)).wr CAS_STAT.DN_STATE 0 2).modCasPort 1 fun c => { c with queue := [(6, [7])], named := true }), by decide⟩

theorem wit_CascadePorts_31 : ∃ (x : List Nat) (r : List (List Nat)) (s : State),
    (s.portState false = 2 ∧ s.journal.up = x :: r ∧ (15 ≤ (s.casPort 0).noJrn ∨ (s.casPort 0).queue = [])) ∧ ((s.casPort 0).half = false) :=
  ⟨[1,2,3,4,5,6,7,8], [], (((((rdy.wr TB_STAT.TB_RUN 0 1).wr CAS_STAT.ADDR_VALID 0 1).wr CAS_CFG.DN_EN 0 1)).wr CAS_STAT.UP_STATE 0 2).modJournal fun j => { j with up := [[1,2,3,4,5,6,7,8]] }, by decide⟩

theorem wit_CascadePorts_32 : ∃ (x : List Nat) (r : List (List Nat)) (s : State),
    (s.portState false = 2 ∧ s.journal.up = x :: r ∧ (15 ≤ (s.casPort 0).noJrn ∨ (s.casPort 0).queue = [])) ∧ ((s.casPort 0).half = true ∧ (s.journal.lost = 0 ∨ 1022 * 126 < r.length)) :=
  ⟨[1,2,3,4,5,6,7,8], [], ((((((rdy.wr TB_STAT.TB_RUN 0 1).wr CAS_STAT.ADDR_VALID 0 1).wr CAS_CFG.DN_EN 0 1)).wr CAS_STAT.UP_STATE 0 2).modCasPort 0 fun c => { c with half := true, noJrn := 15, queue := [(1, [])] }).modJournal fun j => { j with up := [[1,2,3,4,5,6,7,8]] }, by decide⟩

theorem wit_CascadePorts_33 : ∃ (x : List Nat) (r : List (List Nat)) (s : State),
    (s.portState false = 2 ∧ s.journal.up = x :: r ∧ (15 ≤ (s.casPort 0).noJrn ∨ (s.casPort 0).queue = [])) ∧ ((s.casPort 0).half = true ∧ 0 < s.journal.lost ∧ r.length ≤ 1022 * 126) :=
  ⟨[1,2,3,4,5,6,7,8], [], (((((rdy.wr TB_STAT.TB_RUN 0 1).wr CAS_STAT.ADDR_VALID 0 1).wr CAS_CFG.DN_EN 0 1).wr CAS_STAT.UP_STATE 0 2).modCasPort 0 fun c => { c with half := true }).modJournal fun j => { j with up := [[1,2,3,4,5,6,7,8]], lost := 2 }, by decide⟩

theorem wit_CascadePorts_34 : ∃ (d : Bool) (s : State),
    ((s.casPort (portNo d)).queue = [] ∧ s.casJrn d = false) :=
  ⟨true, ((((rdy.wr TB_STAT.TB_RUN 0 1).wr CAS_STAT.ADDR_VALID 0 1).wr CAS_CFG.DN_EN 0 1).wr CAS_STAT.DN_STATE 0 2), by decide⟩

theorem wit_CascadePorts_35 : ∃ (d : Bool) (s : State),
    (s.portState d ≠ 2) :=
  ⟨true, rdy, by decide⟩

theorem wit_CascadePorts_36 : ∃ (s : State),
    (s.on CAS_STAT.ADDR_VALID 0 = true ∧ s.cas.frameAt + 50000 ≤ s.tb) :=
  ⟨{ ((((rdy.wr TB_STAT.TB_RUN 0 1).wr CAS_STAT.ADDR_VALID 0 1).wr CAS_CFG.DN_EN 0 1)) with tb := 50000 }, by decide⟩

theorem wit_CascadePorts_37 : ∃ (s : State),
    (s.on CAS_STAT.ADDR_VALID 0 = false ∨ s.tb < s.cas.frameAt + 50000) :=
  ⟨{ ((((rdy.wr TB_STAT.TB_RUN 0 1).wr CAS_STAT.ADDR_VALID 0 1).wr CAS_CFG.DN_EN 0 1)) with tb := 49999 }, by decide⟩

theorem wit_CascadePorts_38 : ∃ (s : State),
    (s.master = true) :=
  ⟨(((((rdy.wr TB_STAT.TB_RUN 0 1).wr CAS_STAT.ADDR_VALID 0 1).wr CAS_CFG.DN_EN 0 1)).wr CAS_STAT.MASTER 0 1), by decide⟩

theorem wit_CascadePorts_39 : ∃ (s : State),
    (s.master = true) :=
  ⟨(((rdy.wr TB_STAT.TB_RUN 0 1).wr CAS_STAT.ADDR_VALID 0 1).wr CAS_CFG.DN_EN 0 1).wr CAS_STAT.MASTER 0 1, by decide⟩

theorem wit_CascadePorts_40 : ∃ (n : Fin 32) (s : State),
    (s.master = false) ∧ (s.cas.frame ≠ some n.val) :=
  ⟨3, ((((rdy.wr TB_STAT.TB_RUN 0 1).wr CAS_STAT.ADDR_VALID 0 1).wr CAS_CFG.DN_EN 0 1).modCas fun c => { c with frame := some 2 }), by decide⟩

theorem wit_CascadePorts_41 : ∃ (s : State),
    (s.master = false) :=
  ⟨((((rdy.wr TB_STAT.TB_RUN 0 1).wr CAS_STAT.ADDR_VALID 0 1).wr CAS_CFG.DN_EN 0 1).modCas fun c => { c with frame := some 2 }), by decide⟩

theorem wit_CascadePorts_42_1 : ∃ (n : Fin 32) (s : State),
    (s.master = false) ∧ (s.cas.frame = some n.val) ∧ (1 ≤ n.val ∧ n.val ≤ 15 ∧ s.on CAS_STAT.ADDR_VALID 0 = false) :=
  ⟨15, (rdy.modCas fun c => { c with frame := some 15 }), by decide⟩

theorem wit_CascadePorts_42_2 : ∃ (n : Fin 32) (s : State),
    (s.master = false) ∧ (s.cas.frame = some n.val) ∧ (1 ≤ n.val ∧ n.val ≤ 15 ∧ s.on CAS_STAT.ADDR_VALID 0 = false) :=
  ⟨1, (rdy.modCas fun c => { c with frame := some 1 }), by decide⟩

theorem wit_CascadePorts_43 : ∃ (n : Fin 32) (s : State),
    (s.master = false) ∧ (s.cas.frame = some n.val) ∧ (s.ownAddr = n.val ∧ 1 ≤ n.val ∧ s.on CAS_STAT.ADDR_VALID 0 = true) :=
  ⟨3, ((((((rdy.wr TB_STAT.TB_RUN 0 1).wr CAS_STAT.ADDR_VALID 0 1).wr CAS_CFG.DN_EN 0 1)).wr CAS_STAT.ADDR 0 3).modCas fun c => { c with frame := some 3 }), by decide⟩

theorem wit_CascadePorts_44 : ∃ (n : Fin 32) (s : State),
    (s.master = false) ∧ (s.cas.frame = some n.val) ∧ (s.ownAddr ≠ n.val ∧ 1 ≤ n.val ∧ n.val ≤ 15 ∧ s.on CAS_STAT.ADDR_VALID 0 = true ∧ s.on CAS_STAT.ALIGNED 0 = false) :=
  ⟨3, ((((((rdy.wr TB_STAT.TB_RUN 0 1).wr CAS_STAT.ADDR_VALID 0 1).wr CAS_CFG.DN_EN 0 1)).wr CAS_STAT.ADDR 0 2).modCas fun c => { c with frame := some 3 }), by decide⟩

theorem wit_CascadePorts_45 : ∃ (n : Fin 32) (s : State),
    (s.master = false) ∧ (s.cas.frame = some n.val) ∧ (s.ownAddr ≠ n.val ∧ 1 ≤ n.val ∧ n.val ≤ 15 ∧ s.on CAS_STAT.ADDR_VALID 0 = true) :=
  ⟨3, (((((rdy.wr TB_STAT.TB_RUN 0 1).wr CAS_STAT.ADDR_VALID 0 1).wr CAS_CFG.DN_EN 0 1).wr CAS_STAT.ADDR 0 2).wr CAS_STAT.ALIGNED 0 1).modCas fun c => { c with frame := some 3 }, by decide⟩

theorem wit_CascadePorts_46 : ∃ (n : Fin 32) (s : State),
    (s.master = false) ∧ (s.cas.frame = some n.val) ∧ (n.val = 16 ∧ s.on CAS_STAT.ALIGNED 0 = false ∧ s.cal.run = none ∧ s.tpll.follow = false) :=
  ⟨16, ((((((((((rdy.wr TB_STAT.TB_RUN 0 1).wr CAS_STAT.ADDR_VALID 0 1).wr CAS_CFG.DN_EN 0 1)).wr CAS_STAT.ADDR 0 15)).wr CAS_STAT.UP_STATE 0 2)).wr CAS_STAT.DN_STATE 0 2).modCas fun c => { c with frame := some 16 }), by decide⟩

theorem wit_CascadePorts_47 : ∃ (n : Fin 32) (s : State),
    (s.master = false) ∧ (s.cas.frame = some n.val) ∧ (n.val = 16) :=
  ⟨16, ((((((((rdy.wr TB_STAT.TB_RUN 0 1).wr CAS_STAT.ADDR_VALID 0 1).wr CAS_CFG.DN_EN 0 1).wr CAS_STAT.DN_STATE 0 2).wr CAS_STAT.UP_STATE 0 2).wr CAS_STAT.ADDR 0 3).wr CAS_STAT.ALIGNED 0 1).modCas fun c => { c with frame := some 16 }), by decide⟩

theorem wit_CascadePorts_49 : ∃ (n : Fin 32) (s : State),
    (s.master = false) ∧ (s.cas.frame = some n.val) ∧ (n.val = 0 ∨ 16 < n.val) :=
  ⟨17, (rdy.modCas fun c => { c with frame := some 17 }), by decide⟩

theorem wit_EpochAlignment_1 : ∃ (s : State),
    (s.timeDue = true) ∧ (s.master = true ∧ s.portState true = 2) :=
  ⟨(((((((rdy.wr TB_STAT.TB_RUN 0 1).wr CAS_STAT.ADDR_VALID 0 1).wr CAS_CFG.DN_EN 0 1)).wr CAS_STAT.DN_STATE 0 2)).wr CAS_STAT.MASTER 0 1).modCas fun c => { c with heard := 6 }, by decide⟩

theorem wit_EpochAlignment_2 : ∃ (s : State),
    (s.timeDue = true) ∧ (s.master = false ∧ s.portState true ≠ 2 ∧ s.portState false = 2) :=
  ⟨((((((((rdy.wr TB_STAT.TB_RUN 0 1).wr CAS_STAT.ADDR_VALID 0 1).wr CAS_CFG.DN_EN 0 1)).wr CAS_STAT.UP_STATE 0 2)).wr CAS_STAT.ADDR 0 2).modCasPort 0 fun c => { c with named := true }), by decide⟩

theorem wit_EpochAlignment_3_1 : ∃ (s : State),
    (s.timeDue = true) :=
  ⟨(((((rdy.wr TB_STAT.TB_RUN 0 1).wr CAS_STAT.ADDR_VALID 0 1).wr CAS_CFG.DN_EN 0 1).wr CAS_STAT.DN_STATE 0 2).wr CAS_STAT.UP_STATE 0 2), by decide⟩

theorem wit_EpochAlignment_3_2 : ∃ (s : State),
    (s.timeDue = true) :=
  ⟨(((rdy.wr TB_STAT.TB_RUN 0 1).wr CAS_STAT.ADDR_VALID 0 1).wr CAS_CFG.DN_EN 0 1).wr CAS_STAT.MASTER 0 1, by decide⟩

theorem wit_EpochAlignment_4 : ∃ (s : State),
    (s.timeDue = false) :=
  ⟨{ rdy with epoch := 1 }, by decide⟩

theorem wit_EpochAlignment_5 : ∃ (p : Fin 5) (s : State),
    (s.portState false = 2 ∧ (s.casPort 0).named = true ∧ s.master = false) ∧ (p.val ≠ 2 ∧ p.val ≠ 3) ∧ (s.on CAS_STAT.ALIGNED 0 = false ∧ s.cas.target = none) :=
  ⟨1, ((((((((rdy.wr TB_STAT.TB_RUN 0 1).wr CAS_STAT.ADDR_VALID 0 1).wr CAS_CFG.DN_EN 0 1)).wr CAS_STAT.UP_STATE 0 2)).wr CAS_STAT.ADDR 0 2).modCasPort 0 fun c => { c with named := true }), by decide⟩

theorem wit_EpochAlignment_6 : ∃ (x : BitVec 64) (e : Fin 3) (p : Fin 5) (fr : Int) (s : State),
    (s.portState false = 2 ∧ (s.casPort 0).named = true ∧ s.master = false) ∧ (p.val ≠ 2 ∧ p.val ≠ 3) ∧ (s.on CAS_STAT.ALIGNED 0 = true ∧ s.cas.target = none) ∧ (e.val ≠ 2 ∧ (s.thetaOf x.toNat fr).natAbs ≤ s.rd CAS_CFG.ALIGN_TOL 0) :=
  ⟨0, 1, 1, -100, (((((((((rdy.wr TB_STAT.TB_RUN 0 1).wr CAS_STAT.ADDR_VALID 0 1).wr CAS_CFG.DN_EN 0 1)).wr CAS_STAT.UP_STATE 0 2)).wr CAS_STAT.ADDR 0 2).modCasPort 0 fun c => { c with named := true }).wr CAS_STAT.ALIGNED 0 1).modCas fun c => { c with exceeded := 7 }, by decide⟩

theorem wit_EpochAlignment_7 : ∃ (x : BitVec 64) (e : Fin 3) (p : Fin 5) (fr : Int) (s : State),
    (s.portState false = 2 ∧ (s.casPort 0).named = true ∧ s.master = false) ∧ (p.val ≠ 2 ∧ p.val ≠ 3) ∧ (s.on CAS_STAT.ALIGNED 0 = true ∧ s.cas.target = none) ∧ (e.val ≠ 2 ∧ s.rd CAS_CFG.ALIGN_TOL 0 < (s.thetaOf x.toNat fr).natAbs ∧ s.cas.exceeded < 7) :=
  ⟨0, 1, 1, -101, (((((((((rdy.wr TB_STAT.TB_RUN 0 1).wr CAS_STAT.ADDR_VALID 0 1).wr CAS_CFG.DN_EN 0 1)).wr CAS_STAT.UP_STATE 0 2)).wr CAS_STAT.ADDR 0 2).modCasPort 0 fun c => { c with named := true }).wr CAS_STAT.ALIGNED 0 1).modCas fun c => { c with exceeded := 6 }, by decide⟩

theorem wit_EpochAlignment_8_1 : ∃ (x : BitVec 64) (e : Fin 3) (p : Fin 5) (fr : Int) (s : State),
    (s.portState false = 2 ∧ (s.casPort 0).named = true ∧ s.master = false) ∧ (p.val ≠ 2 ∧ p.val ≠ 3) ∧ (s.on CAS_STAT.ALIGNED 0 = true ∧ s.cas.target = none) ∧ (e.val = 2 ∨ (s.rd CAS_CFG.ALIGN_TOL 0 < (s.thetaOf x.toNat fr).natAbs ∧ 7 ≤ s.cas.exceeded)) :=
  ⟨0, 1, 1, -101, (((((((((rdy.wr TB_STAT.TB_RUN 0 1).wr CAS_STAT.ADDR_VALID 0 1).wr CAS_CFG.DN_EN 0 1)).wr CAS_STAT.UP_STATE 0 2)).wr CAS_STAT.ADDR 0 2).modCasPort 0 fun c => { c with named := true }).wr CAS_STAT.ALIGNED 0 1).modCas fun c => { c with exceeded := 7 }, by decide⟩

theorem wit_EpochAlignment_8_2 : ∃ (x : BitVec 64) (e : Fin 3) (p : Fin 5) (fr : Int) (s : State),
    (s.portState false = 2 ∧ (s.casPort 0).named = true ∧ s.master = false) ∧ (p.val ≠ 2 ∧ p.val ≠ 3) ∧ (s.on CAS_STAT.ALIGNED 0 = true ∧ s.cas.target = none) ∧ (e.val = 2 ∨ (s.rd CAS_CFG.ALIGN_TOL 0 < (s.thetaOf x.toNat fr).natAbs ∧ 7 ≤ s.cas.exceeded)) :=
  ⟨0, 2, 1, 0, (((((((((rdy.wr TB_STAT.TB_RUN 0 1).wr CAS_STAT.ADDR_VALID 0 1).wr CAS_CFG.DN_EN 0 1)).wr CAS_STAT.UP_STATE 0 2)).wr CAS_STAT.ADDR 0 2).modCasPort 0 fun c => { c with named := true }).wr CAS_STAT.ALIGNED 0 1).modCas fun c => { c with exceeded := 0 }, by decide⟩

theorem wit_EpochAlignment_9 : ∃ (x : BitVec 64) (p : Fin 5) (al : Bool) (fr : Int) (a : CasAlign) (s : State),
    (s.portState false = 2 ∧ (s.casPort 0).named = true ∧ s.master = false) ∧ (p.val ≠ 2 ∧ p.val ≠ 3) ∧ (s.on CAS_STAT.ALIGNED 0 = false ∧ s.cas.target = some a) ∧ (a.phase = 1 ∧ a.sAt < x.toNat ∧ al = true ∧ a.slew = false ∧ (s.thetaOf x.toNat fr).natAbs ≤ 1000) :=
  ⟨1, 1, true, 2900, { sAt := 0, slew := false, phase := 1, since := 0 }, (((((((((rdy.wr TB_STAT.TB_RUN 0 1).wr CAS_STAT.ADDR_VALID 0 1).wr CAS_CFG.DN_EN 0 1)).wr CAS_STAT.UP_STATE 0 2)).wr CAS_STAT.ADDR 0 2).modCasPort 0 fun c => { c with named := true }).modCas fun c => { c with target := some { sAt := 0, slew := false, phase := 1, since := 0 } }), by decide⟩

theorem wit_EpochAlignment_10 : ∃ (x : BitVec 64) (p : Fin 5) (al : Bool) (fr : Int) (a : CasAlign) (s : State),
    (s.portState false = 2 ∧ (s.casPort 0).named = true ∧ s.master = false) ∧ (p.val ≠ 2 ∧ p.val ≠ 3) ∧ (s.on CAS_STAT.ALIGNED 0 = false ∧ s.cas.target = some a) ∧ (a.phase = 1 ∧ a.sAt < x.toNat ∧ al = true ∧ a.slew = false ∧ 1000 < (s.thetaOf x.toNat fr).natAbs) :=
  ⟨1, 1, true, 3001, { sAt := 0, slew := false, phase := 1, since := 0 }, (((((((((rdy.wr TB_STAT.TB_RUN 0 1).wr CAS_STAT.ADDR_VALID 0 1).wr CAS_CFG.DN_EN 0 1)).wr CAS_STAT.UP_STATE 0 2)).wr CAS_STAT.ADDR 0 2).modCasPort 0 fun c => { c with named := true }).modCas fun c => { c with target := some { sAt := 0, slew := false, phase := 1, since := 0 } }), by decide⟩

theorem wit_EpochAlignment_11_1 : ∃ (x : BitVec 64) (p : Fin 5) (fr : Int) (a : CasAlign) (s : State),
    (s.portState false = 2 ∧ (s.casPort 0).named = true ∧ s.master = false) ∧ (p.val ≠ 2 ∧ p.val ≠ 3) ∧ (s.on CAS_STAT.ALIGNED 0 = false ∧ s.cas.target = some a) ∧ (2 ≤ a.phase ∧ (s.thetaOf x.toNat fr).natAbs ≤ 5) :=
  ⟨1, 1, 2005, { sAt := 0, slew := false, phase := 3, since := 0 }, (((((((((rdy.wr TB_STAT.TB_RUN 0 1).wr CAS_STAT.ADDR_VALID 0 1).wr CAS_CFG.DN_EN 0 1)).wr CAS_STAT.UP_STATE 0 2)).wr CAS_STAT.ADDR 0 2).modCasPort 0 fun c => { c with named := true }).modCas fun c => { c with target := some { sAt := 0, slew := false, phase := 3, since := 0 } }), by decide⟩

theorem wit_EpochAlignment_11_2 : ∃ (x : BitVec 64) (p : Fin 5) (fr : Int) (a : CasAlign) (s : State),
    (s.portState false = 2 ∧ (s.casPort 0).named = true ∧ s.master = false) ∧ (p.val ≠ 2 ∧ p.val ≠ 3) ∧ (s.on CAS_STAT.ALIGNED 0 = false ∧ s.cas.target = some a) ∧ (2 ≤ a.phase ∧ (s.thetaOf x.toNat fr).natAbs ≤ 5) :=
  ⟨1, 1, 1995, { sAt := 0, slew := false, phase := 2, since := 0 }, (((((((((rdy.wr TB_STAT.TB_RUN 0 1).wr CAS_STAT.ADDR_VALID 0 1).wr CAS_CFG.DN_EN 0 1)).wr CAS_STAT.UP_STATE 0 2)).wr CAS_STAT.ADDR 0 2).modCasPort 0 fun c => { c with named := true }).modCas fun c => { c with target := some { sAt := 0, slew := false, phase := 2, since := 0 } }), by decide⟩

theorem wit_EpochAlignment_12_1 : ∃ (x : BitVec 64) (p : Fin 5) (al : Bool) (fr : Int) (a : CasAlign) (s : State),
    (s.portState false = 2 ∧ (s.casPort 0).named = true ∧ s.master = false) ∧ (p.val ≠ 2 ∧ p.val ≠ 3) ∧ (s.on CAS_STAT.ALIGNED 0 = false ∧ s.cas.target = some a) ∧ (a.phase = 0 ∨ (2 ≤ a.phase ∧ 5 < (s.thetaOf x.toNat fr).natAbs) ∨ (a.phase = 1 ∧ (x.toNat ≤ a.sAt ∨ al = false))) :=
  ⟨1, 1, true, 2006, { sAt := 0, slew := false, phase := 2, since := 0 }, (((((((((rdy.wr TB_STAT.TB_RUN 0 1).wr CAS_STAT.ADDR_VALID 0 1).wr CAS_CFG.DN_EN 0 1)).wr CAS_STAT.UP_STATE 0 2)).wr CAS_STAT.ADDR 0 2).modCasPort 0 fun c => { c with named := true }).modCas fun c => { c with target := some { sAt := 0, slew := false, phase := 2, since := 0 } }), by decide⟩

theorem wit_EpochAlignment_12_2 : ∃ (x : BitVec 64) (p : Fin 5) (al : Bool) (fr : Int) (a : CasAlign) (s : State),
    (s.portState false = 2 ∧ (s.casPort 0).named = true ∧ s.master = false) ∧ (p.val ≠ 2 ∧ p.val ≠ 3) ∧ (s.on CAS_STAT.ALIGNED 0 = false ∧ s.cas.target = some a) ∧ (a.phase = 0 ∨ (2 ≤ a.phase ∧ 5 < (s.thetaOf x.toNat fr).natAbs) ∨ (a.phase = 1 ∧ (x.toNat ≤ a.sAt ∨ al = false))) :=
  ⟨0, 1, true, 0, { sAt := 0, slew := false, phase := 1, since := 0 }, (((((((((rdy.wr TB_STAT.TB_RUN 0 1).wr CAS_STAT.ADDR_VALID 0 1).wr CAS_CFG.DN_EN 0 1)).wr CAS_STAT.UP_STATE 0 2)).wr CAS_STAT.ADDR 0 2).modCasPort 0 fun c => { c with named := true }).modCas fun c => { c with target := some { sAt := 0, slew := false, phase := 1, since := 0 } }), by decide⟩

theorem wit_EpochAlignment_13_1 : ∃ (s : State),
    (s.portUsed false = true ∧ s.master = false) :=
  ⟨((((((rdy.wr TB_STAT.TB_RUN 0 1).wr CAS_STAT.ADDR_VALID 0 1).wr CAS_CFG.DN_EN 0 1).wr CAS_STAT.UP_STATE 0 2).wr CAS_STAT.ADDR 0 2).modCasPort 0 fun c => { c with named := true }).wr TPLL_STAT.STATE 0 1, by decide⟩

theorem wit_EpochAlignment_13_2 : ∃ (s : State),
    (s.portUsed false = true ∧ s.master = false) :=
  ⟨(((((((rdy.wr TB_STAT.TB_RUN 0 1).wr CAS_STAT.ADDR_VALID 0 1).wr CAS_CFG.DN_EN 0 1).wr CAS_STAT.UP_STATE 0 2).wr CAS_STAT.ADDR 0 2).modCasPort 0 fun c => { c with named := true }).wr CAS_STAT.ALIGNED 0 1).modCas fun c => { c with target := some { sAt := 0, slew := true, phase := 1, since := 0 } }, by decide⟩

theorem wit_EpochAlignment_17 : ∃ (s : State),
    (s.portUsed false = false ∨ s.master = true) :=
  ⟨rdy, by decide⟩

theorem wit_EpochAlignment_18 : ∃ (d : Bool) (a : Fin 16) (s : State),
    (d = false ∧ s.portState false = 2 ∧ a.val + 1 = s.ownAddr) :=
  ⟨false, 1, (((((((rdy.wr TB_STAT.TB_RUN 0 1).wr CAS_STAT.ADDR_VALID 0 1).wr CAS_CFG.DN_EN 0 1)).wr CAS_STAT.UP_STATE 0 2)).wr CAS_STAT.ADDR 0 2), by decide⟩

theorem wit_EpochAlignment_19 : ∃ (d : Bool) (a : Fin 16) (s : State),
    (d = true ∧ s.portState true = 2 ∧ (s.casPort 1).named = false ∧ a.val ≠ s.ownAddr + 1 ∧ s.master = false) ∧ (s.cal.run = none ∧ (s.casPort 1).queue.filter (fun m => m.1 == 1) = []) :=
  ⟨true, 4, (((((((rdy.wr TB_STAT.TB_RUN 0 1).wr CAS_STAT.ADDR_VALID 0 1).wr CAS_CFG.DN_EN 0 1)).wr CAS_STAT.DN_STATE 0 2)).wr CAS_STAT.ADDR 0 2), by decide⟩

theorem wit_EpochAlignment_20 : ∃ (d : Bool) (a : Fin 16) (s : State),
    (d = true ∧ s.portState true = 2 ∧ (s.casPort 1).named = true ∧ a.val ≠ s.ownAddr + 1 ∧ s.master = false ∧ s.portState false = 2) :=
  ⟨true, 5, (((((((((rdy.wr TB_STAT.TB_RUN 0 1).wr CAS_STAT.ADDR_VALID 0 1).wr CAS_CFG.DN_EN 0 1)).wr CAS_STAT.DN_STATE 0 2)).wr CAS_STAT.UP_STATE 0 2)).wr CAS_STAT.ADDR 0 2).modCasPort 1 fun c => { c with named := true }, by decide⟩

theorem wit_EpochAlignment_21 : ∃ (d : Bool) (a : Fin 16) (s : State),
    (d = true ∧ s.portState true = 2 ∧ (s.casPort 1).named = true ∧ s.master = true ∧ s.ownAddr = 0 ∧ 2 ≤ a.val) ∧ (s.cas.align = none) :=
  ⟨true, 5, ((((((((rdy.wr TB_STAT.TB_RUN 0 1).wr CAS_STAT.ADDR_VALID 0 1).wr CAS_CFG.DN_EN 0 1)).wr CAS_STAT.DN_STATE 0 2)).wr CAS_STAT.MASTER 0 1).modCasPort 1 fun c => { c with named := true }), by decide⟩

theorem wit_EpochAlignment_22 : ∃ (d : Bool) (a : Fin 16) (res : Fin 4) (S : Nat) (m : Nat) (dn : Nat) (b : Bool) (s : State),
    (d = true ∧ s.portState true = 2 ∧ (s.casPort 1).named = true ∧ s.master = true ∧ s.ownAddr = 0 ∧ 2 ≤ a.val) ∧ (s.cas.align = some (S, m, dn, b) ∧ s.on CAS_STAT.ALIGN_BUSY 0 = true ∧ bit m a.val = true ∧ bit dn a.val = false ∧ res.val ≠ 0) :=
  ⟨true, 5, 1, 7, 36, 4, true, (((((((((rdy.wr TB_STAT.TB_RUN 0 1).wr CAS_STAT.ADDR_VALID 0 1).wr CAS_CFG.DN_EN 0 1)).wr CAS_STAT.DN_STATE 0 2)).wr CAS_STAT.MASTER 0 1).modCasPort 1 fun c => { c with named := true }).wr CAS_STAT.ALIGN_BUSY 0 1).modCas fun c => { c with align := some (7, 36, 4, true) }, by decide⟩

theorem wit_EpochAlignment_23 : ∃ (a : Fin 16) (s : State),
    (s.portState false = 2 ∧ (s.casPort 0).named = true ∧ a.val + 1 ≠ s.ownAddr ∧ a.val ≠ s.ownAddr - 1) :=
  ⟨5, (((((rdy.wr TB_STAT.TB_RUN 0 1).wr CAS_STAT.ADDR_VALID 0 1).wr CAS_CFG.DN_EN 0 1).wr CAS_STAT.UP_STATE 0 2).wr CAS_STAT.ADDR 0 2).modCasPort 0 fun c => { c with named := true }, by decide⟩

theorem wit_EpochAlignment_24_1 : ∃ (d : Bool) (a : Fin 16) (s : State),
    (s.portState d = 2 ∧ (s.casPort (portNo d)).named = false ∧ (if d = true then a.val ≠ s.ownAddr + 1 else a.val + 1 ≠ s.ownAddr)) :=
  ⟨false, 4, ((((rdy.wr TB_STAT.TB_RUN 0 1).wr CAS_STAT.ADDR_VALID 0 1).wr CAS_CFG.DN_EN 0 1).wr CAS_STAT.UP_STATE 0 2).wr CAS_STAT.ADDR 0 2, by decide⟩

theorem wit_EpochAlignment_24_2 : ∃ (d : Bool) (a : Fin 16) (s : State),
    (s.portState d = 2 ∧ (s.casPort (portNo d)).named = false ∧ (if d = true then a.val ≠ s.ownAddr + 1 else a.val + 1 ≠ s.ownAddr)) :=
  ⟨true, 4, ((((rdy.wr TB_STAT.TB_RUN 0 1).wr CAS_STAT.ADDR_VALID 0 1).wr CAS_CFG.DN_EN 0 1).wr CAS_STAT.DN_STATE 0 2).wr CAS_STAT.MASTER 0 1, by decide⟩

theorem wit_EpochAlignment_25 : ∃ (a : Fin 16) (s : State),
    (s.portState true = 2 ∧ a.val = s.ownAddr + 1 ∧ s.master = false) :=
  ⟨3, (((((rdy.wr TB_STAT.TB_RUN 0 1).wr CAS_STAT.ADDR_VALID 0 1).wr CAS_CFG.DN_EN 0 1).wr CAS_STAT.DN_STATE 0 2).wr CAS_STAT.UP_STATE 0 2).wr CAS_STAT.ADDR 0 2, by decide⟩

theorem wit_EpochAlignment_26 : ∃ (a : Fin 16) (s : State),
    (s.portState true = 2 ∧ s.master = true ∧ s.ownAddr = 0 ∧ (a.val = 1 ∨ ((s.casPort 1).named = true ∧ 2 ≤ a.val))) :=
  ⟨1, ((((rdy.wr TB_STAT.TB_RUN 0 1).wr CAS_STAT.ADDR_VALID 0 1).wr CAS_CFG.DN_EN 0 1).wr CAS_STAT.DN_STATE 0 2).wr CAS_STAT.MASTER 0 1, by decide⟩

theorem wit_EpochAlignment_27 : ∃ (a : Fin 16) (s : State),
    (s.portState true = 2 ∧ (s.casPort 1).named = true ∧ ((s.master = true ∧ a.val = 0) ∨ (s.master = false ∧ a.val ≠ s.ownAddr + 1 ∧ s.portState false ≠ 2))) :=
  ⟨0, ((((((rdy.wr TB_STAT.TB_RUN 0 1).wr CAS_STAT.ADDR_VALID 0 1).wr CAS_CFG.DN_EN 0 1).wr CAS_STAT.DN_STATE 0 2).wr CAS_STAT.MASTER 0 1).modCasPort 1 fun c => { c with named := true }), by decide⟩

theorem wit_EpochAlignment_29 : ∃ (d : Bool) (s : State),
    (s.portState d ≠ 2) :=
  ⟨true, rdy, by decide⟩

theorem wit_EpochAlignment_30 : ∃ (w : Wr) (s : State),
    (Accepted s w pgCas) ∧ (bits (w.val ||| 1).toNat 0 4 = 1) ∧ (s.master = true) ∧ (s.on CAS_STAT.ALIGN_BUSY 0 = false ∧ s.tpllState = 1 ∧ s.rd TB_STAT.EPOCH_STATE 0 = 1 ∧ s.cal.run.all (fun r => r.item != 9) = true) ∧ (s.rd CAS_MASK.MASK 0 ≠ 0 ∧ s.portState true = 2) :=
  ⟨hw 0, (((((((((rdy.wr TB_STAT.TB_RUN 0 1).wr CAS_STAT.ADDR_VALID 0 1).wr CAS_CFG.DN_EN 0 1)).wr CAS_STAT.DN_STATE 0 2)).wr CAS_STAT.MASTER 0 1).wr TPLL_STAT.STATE 0 1).wr TB_STAT.EPOCH_STATE 0 1).wr CAS_MASK.MASK 0 9, by decide⟩

theorem wit_EpochAlignment_31 : ∃ (w : Wr) (s : State),
    (Accepted s w pgCas) ∧ (bits (w.val ||| 1).toNat 0 4 = 1) ∧ (s.master = true) ∧ (s.on CAS_STAT.ALIGN_BUSY 0 = false ∧ s.tpllState = 1 ∧ s.rd TB_STAT.EPOCH_STATE 0 = 1 ∧ s.cal.run.all (fun r => r.item != 9) = true) ∧ (s.rd CAS_MASK.MASK 0 ≠ 0 ∧ s.portState true ≠ 2) :=
  ⟨hw 0, ((((((rdy.wr TB_STAT.TB_RUN 0 1).wr CAS_STAT.ADDR_VALID 0 1).wr CAS_CFG.DN_EN 0 1).wr CAS_STAT.MASTER 0 1).wr TPLL_STAT.STATE 0 1).wr TB_STAT.EPOCH_STATE 0 1).wr CAS_MASK.MASK 0 9, by decide⟩

theorem wit_EpochAlignment_32 : ∃ (w : Wr) (s : State),
    (Accepted s w pgCas) ∧ (s.master = true) ∧ (s.on CAS_STAT.ALIGN_BUSY 0 = false ∧ s.tpllState = 1 ∧ s.rd TB_STAT.EPOCH_STATE 0 = 1 ∧ s.cal.run.all (fun r => r.item != 9) = true) :=
  ⟨hw 8, (((((((rdy.wr TB_STAT.TB_RUN 0 1).wr CAS_STAT.ADDR_VALID 0 1).wr CAS_CFG.DN_EN 0 1).wr CAS_STAT.DN_STATE 0 2).wr CAS_STAT.MASTER 0 1).wr TPLL_STAT.STATE 0 1).wr TB_STAT.EPOCH_STATE 0 1).wr CAS_MASK.MASK 0 9, by decide⟩

theorem wit_EpochAlignment_33 : ∃ (w : Wr) (s : State),
    (Accepted s w pgCas) ∧ (bits (w.val ||| 1).toNat 0 4 = 1) ∧ (s.master = true) ∧ (s.on CAS_STAT.ALIGN_BUSY 0 = false ∧ s.tpllState = 1 ∧ s.rd TB_STAT.EPOCH_STATE 0 = 1 ∧ s.cal.run.all (fun r => r.item != 9) = true) ∧ (s.rd CAS_MASK.MASK 0 = 0) :=
  ⟨hw 0, (((((((((rdy.wr TB_STAT.TB_RUN 0 1).wr CAS_STAT.ADDR_VALID 0 1).wr CAS_CFG.DN_EN 0 1)).wr CAS_STAT.DN_STATE 0 2)).wr CAS_STAT.MASTER 0 1).wr TPLL_STAT.STATE 0 1).wr TB_STAT.EPOCH_STATE 0 1), by decide⟩

theorem wit_EpochAlignment_34 : ∃ (w : Wr) (s : State),
    (Accepted s w pgCas) ∧ (s.master = false) :=
  ⟨hw 0, rdy, by decide⟩

theorem wit_EpochAlignment_35_1 : ∃ (w : Wr) (s : State),
    (Accepted s w pgCas) ∧ (s.master = true ∧ (s.on CAS_STAT.ALIGN_BUSY 0 = true ∨ s.tpllState ≠ 1 ∨ s.rd TB_STAT.EPOCH_STATE 0 ≠ 1 ∨ s.cal.run.any (fun r => r.item == 9) = true)) :=
  ⟨hw 0, (((((rdy.wr TB_STAT.TB_RUN 0 1).wr CAS_STAT.ADDR_VALID 0 1).wr CAS_CFG.DN_EN 0 1)).wr CAS_STAT.MASTER 0 1), by decide⟩

theorem wit_EpochAlignment_35_2 : ∃ (w : Wr) (s : State),
    (Accepted s w pgCas) ∧ (s.master = true ∧ (s.on CAS_STAT.ALIGN_BUSY 0 = true ∨ s.tpllState ≠ 1 ∨ s.rd TB_STAT.EPOCH_STATE 0 ≠ 1 ∨ s.cal.run.any (fun r => r.item == 9) = true)) :=
  ⟨hw 0, ((((((rdy.wr TB_STAT.TB_RUN 0 1).wr CAS_STAT.ADDR_VALID 0 1).wr CAS_CFG.DN_EN 0 1).wr CAS_STAT.MASTER 0 1).wr TPLL_STAT.STATE 0 1).wr TB_STAT.EPOCH_STATE 0 1).modCal fun c => { c with run := some { item := 9, unit := 1, sub := 0, apply := false, since := 0, from' := 0 } }, by decide⟩

theorem wit_EpochAlignment_36 : ∃ (n : Fin 16) (s : State),
    (s.portState false = 2 ∧ (s.casPort 0).named = true ∧ s.master = false) ∧ (n.val = s.ownAddr ∧ s.on CAS_SKEW_UP.VALID 0 = true) ∧ (s.rd TB_STAT.EPOCH_STATE 0 = 0 ∨ s.cas.theta = none) ∧ (s.alignBusy = false) :=
  ⟨2, (((((((((rdy.wr TB_STAT.TB_RUN 0 1).wr CAS_STAT.ADDR_VALID 0 1).wr CAS_CFG.DN_EN 0 1)).wr CAS_STAT.UP_STATE 0 2)).wr CAS_STAT.ADDR 0 2).modCasPort 0 fun c => { c with named := true }).wr CAS_SKEW_UP.VALID 0 1), by decide +kernel⟩

theorem wit_EpochAlignment_37 : ∃ (n : Fin 16) (s : State),
    (s.portState false = 2 ∧ (s.casPort 0).named = true ∧ s.master = false) ∧ (n.val = s.ownAddr ∧ s.on CAS_SKEW_UP.VALID 0 = true) ∧ (s.rd TB_STAT.EPOCH_STATE 0 = 0 ∨ s.cas.theta = none) ∧ (s.alignBusy = true) :=
  ⟨2, (((((((((rdy.wr TB_STAT.TB_RUN 0 1).wr CAS_STAT.ADDR_VALID 0 1).wr CAS_CFG.DN_EN 0 1)).wr CAS_STAT.UP_STATE 0 2)).wr CAS_STAT.ADDR 0 2).modCasPort 0 fun c => { c with named := true }).wr CAS_SKEW_UP.VALID 0 1).wr ENG_STAT.STATE 7 3, by decide +kernel⟩

theorem wit_EpochAlignment_38 : ∃ (n : Fin 16) (y : Int) (s : State),
    (s.portState false = 2 ∧ (s.casPort 0).named = true ∧ s.master = false) ∧ (n.val = s.ownAddr ∧ s.on CAS_SKEW_UP.VALID 0 = true) ∧ (s.rd TB_STAT.EPOCH_STATE 0 ≠ 0 ∧ s.cas.theta = some y ∧ y.natAbs ≤ 1000) :=
  ⟨2, -1000, ((((((((((rdy.wr TB_STAT.TB_RUN 0 1).wr CAS_STAT.ADDR_VALID 0 1).wr CAS_CFG.DN_EN 0 1)).wr CAS_STAT.UP_STATE 0 2)).wr CAS_STAT.ADDR 0 2).modCasPort 0 fun c => { c with named := true }).wr CAS_SKEW_UP.VALID 0 1).wr TB_STAT.EPOCH_STATE 0 2).modCas fun c => { c with theta := some (-1000) }, by decide⟩

theorem wit_EpochAlignment_39 : ∃ (n : Fin 16) (s : State),
    (s.portState false = 2 ∧ (s.casPort 0).named = true ∧ s.master = false) ∧ (n.val ≠ s.ownAddr ∧ s.portState true = 2) :=
  ⟨5, ((((((((((rdy.wr TB_STAT.TB_RUN 0 1).wr CAS_STAT.ADDR_VALID 0 1).wr CAS_CFG.DN_EN 0 1)).wr CAS_STAT.DN_STATE 0 2)).wr CAS_STAT.UP_STATE 0 2)).wr CAS_STAT.ADDR 0 2).modCasPort 0 fun c => { c with named := true }), by decide⟩

theorem wit_EpochAlignment_40 : ∃ (n : Fin 16) (s : State),
    (s.portUsed false = true ∧ s.master = false) ∧ (n.val = s.ownAddr) :=
  ⟨2, ((((((rdy.wr TB_STAT.TB_RUN 0 1).wr CAS_STAT.ADDR_VALID 0 1).wr CAS_CFG.DN_EN 0 1).wr CAS_STAT.UP_STATE 0 2).wr CAS_STAT.ADDR 0 2).modCasPort 0 fun c => { c with named := true }).wr TB_STAT.EPOCH_STATE 0 1 |>.modCas fun c => { c with theta := some 1001 }, by decide⟩

theorem wit_EpochAlignment_42 : ∃ (n : Fin 16) (s : State),
    (n.val ≠ s.ownAddr ∧ s.portState true ≠ 2) :=
  ⟨5, (((((rdy.wr TB_STAT.TB_RUN 0 1).wr CAS_STAT.ADDR_VALID 0 1).wr CAS_CFG.DN_EN 0 1).wr CAS_STAT.UP_STATE 0 2).wr CAS_STAT.ADDR 0 2).modCasPort 0 fun c => { c with named := true }, by decide⟩

theorem wit_EpochAlignment_43 : ∃ (s : State),
    (s.portUsed false = false ∨ s.master = true) :=
  ⟨rdy, by decide⟩

theorem wit_EpochAlignment_44 : ∃ (S : Nat) (m : Nat) (dn : Nat) (s : State),
    (s.master = true ∧ s.cas.align = some (S, m, dn, false) ∧ S ≤ s.epoch) :=
  ⟨0, 2, 0, (((((rdy.wr TB_STAT.TB_RUN 0 1).wr CAS_STAT.ADDR_VALID 0 1).wr CAS_CFG.DN_EN 0 1)).wr CAS_STAT.MASTER 0 1).modCas fun c => { c with align := some (0, 2, 0, false) }, by decide⟩

theorem wit_EpochAlignment_45_1 : ∃ (s : State),
    (s.master = false ∨ s.cas.align.all (fun a => a.2.2.2 || decide (s.epoch < a.1)) = true) :=
  ⟨rdy, by decide⟩

theorem wit_EpochAlignment_45_2 : ∃ (s : State),
    (s.master = false ∨ s.cas.align.all (fun a => a.2.2.2 || decide (s.epoch < a.1)) = true) :=
  ⟨((((rdy.wr TB_STAT.TB_RUN 0 1).wr CAS_STAT.ADDR_VALID 0 1).wr CAS_CFG.DN_EN 0 1).wr CAS_STAT.MASTER 0 1).modCas fun c => { c with align := some (1, 2, 0, false) }, by decide⟩

theorem wit_EpochAlignment_45_3 : ∃ (s : State),
    (s.master = false ∨ s.cas.align.all (fun a => a.2.2.2 || decide (s.epoch < a.1)) = true) :=
  ⟨((((rdy.wr TB_STAT.TB_RUN 0 1).wr CAS_STAT.ADDR_VALID 0 1).wr CAS_CFG.DN_EN 0 1).wr CAS_STAT.MASTER 0 1).modCas fun c => { c with align := some (0, 2, 0, true) }, by decide⟩

theorem wit_EpochAlignment_46 : ∃ (s : State),
    (s.master = false ∧ s.cas.target = none ∧ s.cal.run.all (fun r => r.item != 9) = true) :=
  ⟨(((rdy.wr TB_STAT.TB_RUN 0 1).wr CAS_STAT.ADDR_VALID 0 1).wr CAS_CFG.DN_EN 0 1), by decide⟩

theorem wit_EpochAlignment_47 : ∃ (s : State),
    (s.master = true ∧ s.cal.run.all (fun r => r.item != 9) = true) :=
  ⟨(((((rdy.wr TB_STAT.TB_RUN 0 1).wr CAS_STAT.ADDR_VALID 0 1).wr CAS_CFG.DN_EN 0 1)).wr CAS_STAT.MASTER 0 1), by decide⟩

theorem wit_EpochAlignment_48 : ∃ (r : CalRun) (s : State),
    (s.cal.run = some r ∧ r.item = 9 ∧ s.master = true) :=
  ⟨{ item := 9, unit := 1, sub := 0, apply := false, since := 0, from' := 0 }, ((((rdy.wr TB_STAT.TB_RUN 0 1).wr CAS_STAT.ADDR_VALID 0 1).wr CAS_CFG.DN_EN 0 1).wr CAS_STAT.MASTER 0 1).modCal fun c => { c with run := some { item := 9, unit := 1, sub := 0, apply := false, since := 0, from' := 0 } }, by decide⟩

theorem wit_EpochAlignment_49 : ∃ (r : CalRun) (s : State),
    (s.cal.run = some r ∧ r.item = 9 ∧ s.master = false ∧ s.cas.target = none) :=
  ⟨{ item := 9, unit := 1, sub := 0, apply := false, since := 0, from' := 0 }, (((rdy.wr TB_STAT.TB_RUN 0 1).wr CAS_STAT.ADDR_VALID 0 1).wr CAS_CFG.DN_EN 0 1).modCal fun c => { c with run := some { item := 9, unit := 1, sub := 0, apply := false, since := 0, from' := 0 } }, by decide⟩

theorem wit_EpochAlignment_50 : ∃ (a : CasAlign) (s : State),
    (s.master = false ∧ s.cal.run.all (fun r => r.item != 9) = true ∧ s.cas.target = some a ∧ a.phase = 0) ∧ (s.tb ≤ a.since + 2500000 ∧ s.alignBusy = false) :=
  ⟨{ sAt := 65536, slew := false, phase := 0, since := 0 }, (((((rdy.wr TB_STAT.TB_RUN 0 1).wr CAS_STAT.ADDR_VALID 0 1).wr CAS_CFG.DN_EN 0 1).wr CAS_SYNC_DLY.SYNC_DLY 0 9).modCas fun c => { c with target := some { sAt := 65536, slew := false, phase := 0, since := 0 } }), by decide +kernel⟩

theorem wit_EpochAlignment_51 : ∃ (a : CasAlign) (s : State),
    (s.master = false ∧ s.cal.run.all (fun r => r.item != 9) = true ∧ s.cas.target = some a ∧ a.phase = 0) ∧ (s.tb ≤ a.since + 2500000 ∧ s.alignBusy = false) :=
  ⟨{ sAt := 65536, slew := false, phase := 0, since := 0 }, (((((rdy.wr TB_STAT.TB_RUN 0 1).wr CAS_STAT.ADDR_VALID 0 1).wr CAS_CFG.DN_EN 0 1).wr LANE_STAT.STATE 3 5).wr CAS_SYNC_DLY.SYNC_DLY 0 9).modCas fun c => { c with target := some { sAt := 65536, slew := false, phase := 0, since := 0 } }, by decide +kernel⟩

theorem wit_EpochAlignment_55 : ∃ (a : CasAlign) (s : State),
    (s.master = false ∧ s.cal.run.all (fun r => r.item != 9) = true ∧ s.cas.target = some a ∧ a.phase = 0) ∧ (s.tb ≤ a.since + 2500000 ∧ s.alignBusy = true) :=
  ⟨{ sAt := 65536, slew := false, phase := 0, since := 0 }, (((((rdy.wr TB_STAT.TB_RUN 0 1).wr CAS_STAT.ADDR_VALID 0 1).wr CAS_CFG.DN_EN 0 1).wr ENG_STAT.STATE 7 3).modCas fun c => { c with target := some { sAt := 65536, slew := false, phase := 0, since := 0 } }), by decide +kernel⟩

theorem wit_EpochAlignment_56 : ∃ (a : CasAlign) (s : State),
    (s.master = false ∧ s.cal.run.all (fun r => r.item != 9) = true ∧ s.cas.target = some a) ∧ (a.phase ≠ 0 ∨ a.since + 2500000 < s.tb) :=
  ⟨{ sAt := 65536, slew := false, phase := 0, since := 0 }, { ((((((rdy.wr TB_STAT.TB_RUN 0 1).wr CAS_STAT.ADDR_VALID 0 1).wr CAS_CFG.DN_EN 0 1)).modCas fun c => { c with target := some { sAt := 65536, slew := false, phase := 0, since := 0 } })) with tb := 2500001 }, by decide⟩

theorem wit_EpochAlignment_57 : ∃ (a : CasAlign) (s : State),
    (s.cas.target = some a ∧ a.phase = 0 ∧ a.since + 2500000 < s.tb) :=
  ⟨{ sAt := 65536, slew := false, phase := 0, since := 0 }, { ((((((rdy.wr TB_STAT.TB_RUN 0 1).wr CAS_STAT.ADDR_VALID 0 1).wr CAS_CFG.DN_EN 0 1)).modCas fun c => { c with target := some { sAt := 65536, slew := false, phase := 0, since := 0 } })) with tb := 2500001 }, by decide⟩

theorem wit_EpochAlignment_58 : ∃ (s : State),
    (s.cas.target.all (fun a => a.phase != 0 || decide (s.tb ≤ a.since + 2500000)) = true) :=
  ⟨{ ((((((rdy.wr TB_STAT.TB_RUN 0 1).wr CAS_STAT.ADDR_VALID 0 1).wr CAS_CFG.DN_EN 0 1)).modCas fun c => { c with target := some { sAt := 65536, slew := false, phase := 0, since := 0 } })) with tb := 2500000 }, by decide⟩

theorem wit_EpochAlignment_59_1 : ∃ (a : CasAlign) (s : State),
    (s.cas.target = some a ∧ a.phase = 2 ∧ a.stepAt + 16 ≤ s.tb) :=
  ⟨{ sAt := 0, slew := false, phase := 2, since := 0, rest := -15 }, { (((((rdy.wr TB_STAT.TB_RUN 0 1).wr CAS_STAT.ADDR_VALID 0 1).wr CAS_CFG.DN_EN 0 1).modCas fun c => { c with target := some { sAt := 0, slew := false, phase := 2, since := 0, rest := -15 } })) with tb := 16 }, by decide⟩

theorem wit_EpochAlignment_59_2 : ∃ (a : CasAlign) (s : State),
    (s.cas.target = some a ∧ a.phase = 2 ∧ a.stepAt + 16 ≤ s.tb) :=
  ⟨{ sAt := 0, slew := false, phase := 2, since := 0, rest := 700 }, { (((((rdy.wr TB_STAT.TB_RUN 0 1).wr CAS_STAT.ADDR_VALID 0 1).wr CAS_CFG.DN_EN 0 1).modCas fun c => { c with target := some { sAt := 0, slew := false, phase := 2, since := 0, rest := 700 } })) with tb := 16 }, by decide⟩

theorem wit_EpochAlignment_60 : ∃ (s : State),
    (s.cas.target.all (fun a => a.phase != 2 || decide (s.tb < a.stepAt + 16)) = true) :=
  ⟨{ (((((rdy.wr TB_STAT.TB_RUN 0 1).wr CAS_STAT.ADDR_VALID 0 1).wr CAS_CFG.DN_EN 0 1).modCas fun c => { c with target := some { sAt := 0, slew := false, phase := 2, since := 0, rest := 700 } })) with tb := 15 }, by decide⟩

theorem wit_EpochAlignment_61 : ∃ (S : Nat) (m : Nat) (dn : Nat) (b : Bool) (s : State),
    (s.cas.align = some (S, m, dn, b) ∧ s.on CAS_STAT.ALIGN_BUSY 0 = true ∧ S + 25000000 ≤ s.epoch) :=
  ⟨0, 6, 2, true, { ((((((rdy.wr TB_STAT.TB_RUN 0 1).wr CAS_STAT.ADDR_VALID 0 1).wr CAS_CFG.DN_EN 0 1)).wr CAS_STAT.MASTER 0 1).wr CAS_STAT.ALIGN_BUSY 0 1).modCas (fun c => { c with align := some (0, 6, 2, true) }) with epoch := 25000000 }, by decide⟩

theorem wit_EpochAlignment_62 : ∃ (s : State),
    (s.on CAS_STAT.ALIGN_BUSY 0 = false ∨ s.cas.align.all (fun a => decide (s.epoch < a.1 + 25000000)) = true) :=
  ⟨rdy, by decide⟩

theorem wit_EpochAlignment_63 : ∃ (x : Nat) (s : State),
    (s.cas.outAt = some x ∧ x + s.rd CAS_CFG.HOLD_S 0 * 500000000 ≤ s.tb) ∧ (s.on CAS_STAT.ALIGNED 0 = false) :=
  ⟨0, { (((((rdy.wr TB_STAT.TB_RUN 0 1).wr CAS_STAT.ADDR_VALID 0 1).wr CAS_CFG.DN_EN 0 1).modCas fun c => { c with outAt := some 0 })) with tb := 30000000000 }, by decide⟩

theorem wit_EpochAlignment_64 : ∃ (x : Nat) (s : State),
    (s.cas.outAt = some x ∧ x + s.rd CAS_CFG.HOLD_S 0 * 500000000 ≤ s.tb) ∧ (s.on CAS_STAT.ALIGNED 0 = true) :=
  ⟨0, { ((((((rdy.wr TB_STAT.TB_RUN 0 1).wr CAS_STAT.ADDR_VALID 0 1).wr CAS_CFG.DN_EN 0 1).modCas fun c => { c with outAt := some 0 }).wr CAS_STAT.ALIGNED 0 1).wr TB_STAT.EPOCH_STATE 0 1) with tb := 30000000000 }, by decide⟩

theorem wit_EpochAlignment_65 : ∃ (s : State),
    (s.cas.outAt.all (fun x => decide (s.tb < x + s.rd CAS_CFG.HOLD_S 0 * 500000000)) = true) :=
  ⟨{ (((((rdy.wr TB_STAT.TB_RUN 0 1).wr CAS_STAT.ADDR_VALID 0 1).wr CAS_CFG.DN_EN 0 1).modCas fun c => { c with outAt := some 0 })) with tb := 29999999999 }, by decide⟩

theorem wit_CascadeTransport_1 : ∃ (w : Wr) (s : State),
    (Accepted s w pgCas) ∧ (s.master = true ∧ s.on CAS_TUN_STAT.BUSY 0 = false ∧ bits (w.val ||| 0x80000000).toNat 16 4 ≠ 0 ∧ (bit (w.val ||| 0x80000000).toNat 24 = true ∨ s.rd CAS_TUN_ADDR.ADDR 0 < 2 ^ 22)) ∧ (s.portUsed true = true) :=
  ⟨hw 0x00050100, ((((((((rdy.wr TB_STAT.TB_RUN 0 1).wr CAS_STAT.ADDR_VALID 0 1).wr CAS_CFG.DN_EN 0 1)).wr CAS_STAT.DN_STATE 0 2)).wr CAS_STAT.MASTER 0 1).modCasPort 1 fun c => { c with named := true }), by decide⟩

theorem wit_CascadeTransport_2 : ∃ (w : Wr) (s : State),
    (Accepted s w pgCas) ∧ (s.master = true ∧ s.on CAS_TUN_STAT.BUSY 0 = false ∧ bits (w.val ||| 0x80000000).toNat 16 4 ≠ 0 ∧ (bit (w.val ||| 0x80000000).toNat 24 = true ∨ s.rd CAS_TUN_ADDR.ADDR 0 < 2 ^ 22)) ∧ (s.portUsed true = false) :=
  ⟨hw 0x01050100, (((((rdy.wr TB_STAT.TB_RUN 0 1).wr CAS_STAT.ADDR_VALID 0 1).wr CAS_CFG.DN_EN 0 1)).wr CAS_STAT.MASTER 0 1).wr CAS_TUN_ADDR.ADDR 0 0x3FFFFFFF, by decide⟩

theorem wit_CascadeTransport_3_1 : ∃ (w : Wr) (s : State),
    (Accepted s w pgCas) ∧ (bits (w.val ||| 0x80000000).toNat 16 4 = 0 ∨ (bit (w.val ||| 0x80000000).toNat 24 = false ∧ 2 ^ 22 ≤ s.rd CAS_TUN_ADDR.ADDR 0)) :=
  ⟨hw 0x00050100, rdy.wr CAS_TUN_ADDR.ADDR 0 0x400000, by decide⟩

theorem wit_CascadeTransport_3_2 : ∃ (w : Wr) (s : State),
    (Accepted s w pgCas) ∧ (bits (w.val ||| 0x80000000).toNat 16 4 = 0 ∨ (bit (w.val ||| 0x80000000).toNat 24 = false ∧ 2 ^ 22 ≤ s.rd CAS_TUN_ADDR.ADDR 0)) :=
  ⟨hw 0, rdy, by decide⟩

theorem wit_CascadeTransport_4 : ∃ (w : Wr) (s : State),
    (Accepted s w pgCas) ∧ (bits (w.val ||| 0x80000000).toNat 16 4 ≠ 0 ∧ (bit (w.val ||| 0x80000000).toNat 24 = true ∨ s.rd CAS_TUN_ADDR.ADDR 0 < 2 ^ 22)) ∧ (s.master = false) :=
  ⟨hw 0x00050100, rdy, by decide⟩

theorem wit_CascadeTransport_5 : ∃ (w : Wr) (s : State),
    (Accepted s w pgCas) ∧ (bits (w.val ||| 0x80000000).toNat 16 4 ≠ 0 ∧ (bit (w.val ||| 0x80000000).toNat 24 = true ∨ s.rd CAS_TUN_ADDR.ADDR 0 < 2 ^ 22)) ∧ (s.master = true ∧ s.on CAS_TUN_STAT.BUSY 0 = true) :=
  ⟨hw 0x00050100, (((((rdy.wr TB_STAT.TB_RUN 0 1).wr CAS_STAT.ADDR_VALID 0 1).wr CAS_CFG.DN_EN 0 1)).wr CAS_STAT.MASTER 0 1).wr CAS_TUN_STAT.BUSY 0 1, by decide⟩

theorem wit_CascadeTransport_6 : ∃ (r : Fin 4) (s : State),
    (s.portUsed true = true ∧ s.master = true ∧ s.cas.tunAt.isSome = true) ∧ (r.val = 1 ∧ s.on CAS_TUN_CTL.WRITE 0 = false) :=
  ⟨1, (((((((((rdy.wr TB_STAT.TB_RUN 0 1).wr CAS_STAT.ADDR_VALID 0 1).wr CAS_CFG.DN_EN 0 1)).wr CAS_STAT.DN_STATE 0 2)).wr CAS_STAT.MASTER 0 1).modCasPort 1 fun c => { c with named := true }).modCas fun c => { c with tunAt := some 0 }), by decide⟩

theorem wit_CascadeTransport_7_1 : ∃ (r : Fin 4) (s : State),
    (s.portUsed true = true ∧ s.master = true ∧ s.cas.tunAt.isSome = true) ∧ ((r.val = 1 ∧ s.on CAS_TUN_CTL.WRITE 0 = true) ∨ 2 ≤ r.val) :=
  ⟨2, (((((((((rdy.wr TB_STAT.TB_RUN 0 1).wr CAS_STAT.ADDR_VALID 0 1).wr CAS_CFG.DN_EN 0 1)).wr CAS_STAT.DN_STATE 0 2)).wr CAS_STAT.MASTER 0 1).modCasPort 1 fun c => { c with named := true }).modCas fun c => { c with tunAt := some 0 }), by decide⟩

theorem wit_CascadeTransport_7_2 : ∃ (r : Fin 4) (s : State),
    (s.portUsed true = true ∧ s.master = true ∧ s.cas.tunAt.isSome = true) ∧ ((r.val = 1 ∧ s.on CAS_TUN_CTL.WRITE 0 = true) ∨ 2 ≤ r.val) :=
  ⟨1, (((((((((rdy.wr TB_STAT.TB_RUN 0 1).wr CAS_STAT.ADDR_VALID 0 1).wr CAS_CFG.DN_EN 0 1)).wr CAS_STAT.DN_STATE 0 2)).wr CAS_STAT.MASTER 0 1).modCasPort 1 fun c => { c with named := true }).modCas fun c => { c with tunAt := some 0 }).wr CAS_TUN_CTL.WRITE 0 1, by decide⟩

theorem wit_CascadeTransport_8 : ∃ (s : State),
    (s.portUsed true = true ∧ s.master = false ∧ s.portState false = 2) :=
  ⟨(((((((((rdy.wr TB_STAT.TB_RUN 0 1).wr CAS_STAT.ADDR_VALID 0 1).wr CAS_CFG.DN_EN 0 1)).wr CAS_STAT.DN_STATE 0 2)).wr CAS_STAT.UP_STATE 0 2)).wr CAS_STAT.ADDR 0 2).modCasPort 1 fun c => { c with named := true }, by decide⟩

theorem wit_CascadeTransport_9 : ∃ (r : Fin 4) (s : State),
    (s.portUsed true = false ∨ (s.master = true ∧ (s.cas.tunAt = none ∨ r.val = 0)) ∨ (s.master = false ∧ s.portState false ≠ 2)) :=
  ⟨1, ((((((((rdy.wr TB_STAT.TB_RUN 0 1).wr CAS_STAT.ADDR_VALID 0 1).wr CAS_CFG.DN_EN 0 1)).wr CAS_STAT.DN_STATE 0 2)).wr CAS_STAT.MASTER 0 1).modCasPort 1 fun c => { c with named := true }), by decide⟩

theorem wit_CascadeTransport_10 : ∃ (x : Nat) (s : State),
    (s.cas.tunAt = some x ∧ x + 50000 ≤ s.tb) :=
  ⟨0, { ((((((((((rdy.wr TB_STAT.TB_RUN 0 1).wr CAS_STAT.ADDR_VALID 0 1).wr CAS_CFG.DN_EN 0 1)).wr CAS_STAT.DN_STATE 0 2)).wr CAS_STAT.MASTER 0 1).modCasPort 1 fun c => { c with named := true }).modCas fun c => { c with tunAt := some 0 })) with tb := 50000 }, by decide⟩

theorem wit_CascadeTransport_11 : ∃ (s : State),
    (s.cas.tunAt.all (fun x => decide (s.tb < x + 50000)) = true) :=
  ⟨{ ((((((((((rdy.wr TB_STAT.TB_RUN 0 1).wr CAS_STAT.ADDR_VALID 0 1).wr CAS_CFG.DN_EN 0 1)).wr CAS_STAT.DN_STATE 0 2)).wr CAS_STAT.MASTER 0 1).modCasPort 1 fun c => { c with named := true }).modCas fun c => { c with tunAt := some 0 })) with tb := 49999 }, by decide⟩

theorem wit_CascadeTransport_12 : ∃ (s : State),
    (s.portUsed true = true ∧ s.master = true) :=
  ⟨((((((((rdy.wr TB_STAT.TB_RUN 0 1).wr CAS_STAT.ADDR_VALID 0 1).wr CAS_CFG.DN_EN 0 1)).wr CAS_STAT.DN_STATE 0 2)).wr CAS_STAT.MASTER 0 1).modCasPort 1 fun c => { c with named := true }), by decide⟩

theorem wit_CascadeTransport_13 : ∃ (b : BitVec 256) (s : State),
    (s.portUsed true = true ∧ s.master = false ∧ s.jrnUpRoom (recOf ((List.range 8).map fun i => b.toNat / 2 ^ (32 * i) % 2 ^ 32)).cls = true) :=
  ⟨0x123456789ABCDEF0123456789, (((((((((rdy.wr TB_STAT.TB_RUN 0 1).wr CAS_STAT.ADDR_VALID 0 1).wr CAS_CFG.DN_EN 0 1)).wr CAS_STAT.DN_STATE 0 2)).wr CAS_STAT.UP_STATE 0 2)).wr CAS_STAT.ADDR 0 2).modCasPort 1 fun c => { c with named := true }, by decide⟩

theorem wit_CascadeTransport_14 : ∃ (b : BitVec 256) (s : State),
    (s.portUsed true = true ∧ s.master = false ∧ s.jrnUpRoom (recOf ((List.range 8).map fun i => b.toNat / 2 ^ (32 * i) % 2 ^ 32)).cls = false) :=
  ⟨0x123456789ABCDEF0123456789, (((((rdy.wr TB_STAT.TB_RUN 0 1).wr CAS_STAT.ADDR_VALID 0 1).wr CAS_CFG.DN_EN 0 1).wr CAS_STAT.DN_STATE 0 2).modCasPort 1 fun c => { c with named := true }).modJournal fun j => { j with lost := 1 }, by decide⟩

theorem wit_CascadeTransport_16 : ∃ (s : State),
    (s.portUsed true = false) :=
  ⟨rdy, by decide⟩

theorem wit_CascadeTransport_17 : ∃ (d : Bool) (s : State),
    (s.portUsed d = true) :=
  ⟨false, ((((((((rdy.wr TB_STAT.TB_RUN 0 1).wr CAS_STAT.ADDR_VALID 0 1).wr CAS_CFG.DN_EN 0 1)).wr CAS_STAT.UP_STATE 0 2)).wr CAS_STAT.ADDR 0 2).modCasPort 0 fun c => { c with named := true }), by decide⟩

theorem wit_CascadeTransport_18 : ∃ (d : Bool) (s : State),
    (s.portUsed d = false) :=
  ⟨false, rdy, by decide⟩

theorem wit_CascadeTransport_19 : ∃ (d : Bool) (s : State),
    (s.portUsed d = true ∧ s.skewOn d = true ∧ s.cas.echoes < 256) :=
  ⟨false, (((((((((rdy.wr TB_STAT.TB_RUN 0 1).wr CAS_STAT.ADDR_VALID 0 1).wr CAS_CFG.DN_EN 0 1)).wr CAS_STAT.UP_STATE 0 2)).wr CAS_STAT.ADDR 0 2).modCasPort 0 fun c => { c with named := true }).modCal fun c => { c with run := some { item := 9, unit := 0, sub := 0, apply := false, since := 0, from' := 0 } }), by decide⟩

theorem wit_CascadeTransport_20 : ∃ (d : Bool) (s : State),
    (s.portUsed d = false ∨ 256 ≤ s.cas.echoes ∨ (s.skewOn d = false ∧ (s.cas.measuring && !d) = false)) :=
  ⟨false, ((((((((rdy.wr TB_STAT.TB_RUN 0 1).wr CAS_STAT.ADDR_VALID 0 1).wr CAS_CFG.DN_EN 0 1)).wr CAS_STAT.UP_STATE 0 2)).wr CAS_STAT.ADDR 0 2).modCasPort 0 fun c => { c with named := true }), by decide⟩

theorem wit_CascadeTransport_21 : ∃ (s : State),
    (s.portUsed false = true ∧ s.skewOn false = false ∧ s.cas.measuring = true ∧ s.cas.echoes < 255) :=
  ⟨((((((rdy.wr TB_STAT.TB_RUN 0 1).wr CAS_STAT.ADDR_VALID 0 1).wr CAS_CFG.DN_EN 0 1).wr CAS_STAT.UP_STATE 0 2).wr CAS_STAT.ADDR 0 2).modCasPort 0 fun c => { c with named := true }).modCas fun c => { c with measuring := true, echoes := 254 }, by decide⟩

theorem wit_CascadeTransport_22 : ∃ (s : State),
    (s.portUsed false = true ∧ s.skewOn false = false ∧ s.cas.measuring = true ∧ s.cas.echoes = 255) :=
  ⟨((((((((rdy.wr TB_STAT.TB_RUN 0 1).wr CAS_STAT.ADDR_VALID 0 1).wr CAS_CFG.DN_EN 0 1)).wr CAS_STAT.UP_STATE 0 2)).wr CAS_STAT.ADDR 0 2).modCasPort 0 fun c => { c with named := true }).modCas fun c => { c with measuring := true, echoes := 255 }, by decide⟩

theorem wit_CascadeTransport_23 : ∃ (w : Wr) (s : State),
    (Accepted s w pgCas) :=
  ⟨hw 0, ((rdy.wr CAS_FF.FF_TX 0 3).wr CAS_CLR.STRAY 0 4), by decide⟩

theorem wit_JournalRecords_1 : ∃ (x : Rec) (r : List Rec) (s : State),
    (s.recs = x :: r ∧ s.on JRN_CFG.EN 0 = true) ∧ (x.forwarded = false ∧ s.jrnPasses x = false) :=
  ⟨{ stamp := 7, sub := 0, unc := false, origin := 0, cls := 1, index := 0, code := 0x0101, data := [] }, [], (((rdy.wr JRN_CFG.EN 0 1).wr JRN_CLASS_EN.CLASS_EN 0 0xA1).setRecs [{ stamp := 7, sub := 0, unc := false, origin := 0, cls := 1, index := 0, code := 0x0101, data := [] }]), by decide⟩

theorem wit_JournalRecords_2 : ∃ (x : Rec) (r : List Rec) (s : State),
    (s.recs = x :: r ∧ s.on JRN_CFG.EN 0 = true) ∧ (x.forwarded = false ∧ s.jrnPasses x = true) ∧ (s.jrnRoom x.cls = true ∧ s.jrnFwd = false ∧ s.journal.fill.length ≠ 125) :=
  ⟨{ stamp := 7, sub := 0, unc := false, origin := 0, cls := 1, index := 0, code := 0x0101, data := [] }, [], (((rdy.wr JRN_CFG.EN 0 1)).setRecs [{ stamp := 7, sub := 0, unc := false, origin := 0, cls := 1, index := 0, code := 0x0101, data := [] }]), by decide⟩

theorem wit_JournalRecords_3 : ∃ (x : Rec) (r : List Rec) (s : State),
    (s.recs = x :: r ∧ s.on JRN_CFG.EN 0 = true) ∧ (x.forwarded = false ∧ s.jrnPasses x = true) ∧ (s.jrnRoom x.cls = true ∧ s.jrnFwd = false ∧ s.journal.fill.length = 125) :=
  ⟨{ stamp := 7, sub := 0, unc := false, origin := 0, cls := 1, index := 0, code := 0x0101, data := [] }, [], (((((rdy.wr JRN_CFG.EN 0 1)).setRecs [{ stamp := 7, sub := 0, unc := false, origin := 0, cls := 1, index := 0, code := 0x0101, data := [] }])).modJournal fun j => { j with fill := List.replicate 125 [] }), by decide +kernel⟩

theorem wit_JournalRecords_4 : ∃ (x : Rec) (r : List Rec) (s : State),
    (s.recs = x :: r ∧ s.on JRN_CFG.EN 0 = true) ∧ (x.forwarded = false ∧ s.jrnPasses x = true) ∧ (s.jrnRoom x.cls = true ∧ s.jrnFwd = true) :=
  ⟨{ stamp := 7, sub := 0, unc := false, origin := 0, cls := 1, index := 0, code := 0x0101, data := [] }, [], (((rdy.wr JRN_CFG.EN 0 1).wr JRN_CFG.FWD 0 1).setRecs [{ stamp := 7, sub := 0, unc := false, origin := 0, cls := 1, index := 0, code := 0x0101, data := [] }]), by decide⟩

theorem wit_JournalRecords_5_1 : ∃ (x : Rec) (r : List Rec) (s : State),
    (s.recs = x :: r ∧ s.on JRN_CFG.EN 0 = true) ∧ (x.forwarded = false ∧ s.jrnPasses x = true) ∧ (s.jrnRoom x.cls = false) :=
  ⟨{ stamp := 7, sub := 0, unc := false, origin := 0, cls := 1, index := 0, code := 0x0101, data := [] }, [], (((((rdy.wr JRN_CFG.EN 0 1)).setRecs [{ stamp := 7, sub := 0, unc := false, origin := 0, cls := 1, index := 0, code := 0x0101, data := [] }])).modJournal fun j => { j with blocks := List.replicate 1023 {} }), by decide +kernel⟩

theorem wit_JournalRecords_5_2 : ∃ (x : Rec) (r : List Rec) (s : State),
    (s.recs = x :: r ∧ s.on JRN_CFG.EN 0 = true) ∧ (x.forwarded = false ∧ s.jrnPasses x = true) ∧ (s.jrnRoom x.cls = false) :=
  ⟨{ stamp := 7, sub := 0, unc := false, origin := 0, cls := 0, index := 0, code := 0x0101, data := [] }, [], (((((rdy.wr JRN_CFG.EN 0 1)).setRecs [{ stamp := 7, sub := 0, unc := false, origin := 0, cls := 0, index := 0, code := 0x0101, data := [] }])).modJournal fun j => { j with blocks := List.replicate 1024 {} }), by decide +kernel⟩

theorem wit_JournalRecords_6 : ∃ (x : Rec) (r : List Rec) (s : State),
    (s.recs = x :: r ∧ s.on JRN_CFG.EN 0 = true) ∧ (x.forwarded = true ∧ s.jrnRoom x.cls = true ∧ s.jrnFwd = false ∧ s.journal.fill.length ≠ 125) :=
  ⟨{ stamp := 7, sub := 0, unc := false, origin := 3, cls := 1, index := 0, code := 0x0101, data := [], forwarded := true }, [], (rdy.wr JRN_CFG.EN 0 1).setRecs [{ stamp := 7, sub := 0, unc := false, origin := 3, cls := 1, index := 0, code := 0x0101, data := [], forwarded := true }], by decide⟩

theorem wit_JournalRecords_7 : ∃ (x : Rec) (r : List Rec) (s : State),
    (s.recs = x :: r ∧ s.on JRN_CFG.EN 0 = true ∧ (x.forwarded = true ∨ s.jrnPasses x = true)) :=
  ⟨{ stamp := 7, sub := 0, unc := false, origin := 3, cls := 1, index := 0, code := 0x0101, data := [], forwarded := true }, [], ((rdy.wr JRN_CFG.EN 0 1).setRecs [{ stamp := 7, sub := 0, unc := false, origin := 3, cls := 1, index := 0, code := 0x0101, data := [], forwarded := true }]).modJournal fun j => { j with fill := List.replicate 125 [] }, by decide⟩

theorem wit_JournalRecords_10_1 : ∃ (s : State),
    (s.recs = [] ∨ s.on JRN_CFG.EN 0 = false) :=
  ⟨rdy.setRecs [{ stamp := 7, sub := 0, unc := false, origin := 0, cls := 1, index := 0, code := 0x0101, data := [] }], by decide⟩

theorem wit_JournalRecords_10_2 : ∃ (s : State),
    (s.recs = [] ∨ s.on JRN_CFG.EN 0 = false) :=
  ⟨(rdy.wr JRN_CFG.EN 0 1), by decide⟩

theorem wit_JournalRecords_11 : ∃ (w : Wr) (s : State),
    (Accepted s w pgJrn) ∧ (bits (w.val ||| 2).toNat 0 2 = 2 ∧ s.jrnFwd = false ∧ s.journal.fill ≠ []) :=
  ⟨hw 0, (((rdy.wr JRN_CFG.EN 0 1)).modJournal fun j => { j with fill := [[1]], bseq := 2 ^ 64 - 1 }), by decide⟩

theorem wit_JournalRecords_12 : ∃ (w : Wr) (s : State),
    (Accepted s w pgJrn) ∧ (bits (w.val ||| 2).toNat 0 2 = 2 ∧ (s.jrnFwd = true ∨ s.journal.fill = [])) :=
  ⟨hw 0, (rdy.wr JRN_CFG.EN 0 1), by decide⟩

theorem wit_JournalRecords_13 : ∃ (w : Wr) (s : State),
    (Accepted s w pgJrn) ∧ (bits (w.val ||| 1).toNat 0 2 = 1) :=
  ⟨hw 0, rdy.wr JRN_LOST.LOST 0 9, by decide⟩

theorem wit_JournalRecords_14 : ∃ (w : Wr) (s : State),
    (Accepted s w pgJrn) ∧ (bit w.val.toNat 0 = true ∨ bit w.val.toNat 1 = true) :=
  ⟨hw 1, (rdy.modJournal fun j => { j with fill := [[1]] }).wr JRN_LOST.LOST 0 9, by decide⟩

theorem wit_JournalRecords_15 : ∃ (w : Wr) (s : State),
    (Accepted s w pgJrn) ∧ (bit w.val.toNat 1 = true) :=
  ⟨hw 2, (rdy.modJournal fun j => { j with fill := [[1]] }).wr JRN_LOST.LOST 0 9, by decide⟩

theorem wit_JournalRecords_16 : ∃ (s : State),
    (s.journal.fill ≠ [] ∧ s.journal.since + 500000 * s.rd JRN_CFG.SEAL_MS 0 ≤ s.tb) :=
  ⟨{ (((rdy.wr JRN_CFG.EN 0 1)).modJournal fun j => { j with fill := [[1]], bseq := 2 ^ 64 - 1 }) with tb := 500000000 }, by decide⟩

theorem wit_JournalRecords_17 : ∃ (s : State),
    (s.journal.fill = [] ∨ s.tb < s.journal.since + 500000 * s.rd JRN_CFG.SEAL_MS 0) :=
  ⟨{ (((rdy.wr JRN_CFG.EN 0 1)).modJournal fun j => { j with fill := [[1]], bseq := 2 ^ 64 - 1 }) with tb := 499999999 }, by decide⟩

theorem wit_JournalRecords_18 : ∃ (b : Blk) (l : List Blk) (k : Nat) (s : State),
    (s.journal.sealing = b :: l ∧ s.sec.jrn = some k ∧ s.on JRN_CFG.RING_EN 0 = false) :=
  ⟨{ recs := [[1]], bseq := 3 }, [], 77, (((rdy.wr JRN_CFG.EN 0 1)).modJournal fun j => { j with sealing := [{ recs := [[1]], bseq := 3 }] }).modSec fun x => { x with jrn := some 77 }, by decide⟩

theorem wit_JournalRecords_19 : ∃ (b : Blk) (l : List Blk) (s : State),
    (s.journal.sealing = b :: l ∧ s.sec.jrn = none ∧ s.on JRN_CFG.RING_EN 0 = false) :=
  ⟨{ recs := [[1]], bseq := 3 }, [], (((rdy.wr JRN_CFG.EN 0 1)).modJournal fun j => { j with sealing := [{ recs := [[1]], bseq := 3 }] }), by decide⟩

theorem wit_JournalRecords_20 : ∃ (s : State),
    (s.journal.sealing = [] ∧ s.on JRN_CFG.RING_EN 0 = false) :=
  ⟨rdy, by decide⟩

theorem wit_JournalRecords_21 : ∃ (s : State),
    (s.on JRN_CFG.RING_EN 0 = true) :=
  ⟨((rdy.modJournal fun j => { j with sealing := [{ bseq := 3 }] }).wr JRN_CFG.RING_EN 0 1).wr RFL_STAT.STATE 63 1, by decide⟩

theorem wit_JournalRecords_24 : ∃ (b : Blk) (l : List Blk) (s : State),
    (s.journal.sealing = [] ∧ s.journal.blocks = b :: l ∧ s.on JRN_CFG.RING_EN 0 = true ∧ s.rd RFL_STAT.STATE 63 = 1 ∧ s.on RFL_STAT.SHADOW_FULL 63 = false) ∧ ((s.rflc 63).active = false ∧ s.jrnInRing < 2 ^ s.rd JRN_RING_SIZE.LOG2 0) :=
  ⟨{ bseq := 3 }, [], ((((rdy.wr JRN_CFG.EN 0 1)).modJournal fun j => { j with blocks := [{ bseq := 3 }] }).wr JRN_CFG.RING_EN 0 1).wr RFL_STAT.STATE 63 1, by decide⟩

theorem wit_JournalRecords_25 : ∃ (w : Wr) (s : State),
    (Accepted s w pgJrn) ∧ (1 ≤ bits (w.val ||| 0x80000000).toNat 0 16 ∧ bits (w.val ||| 0x80000000).toNat 0 16 ≤ 60000) ∧ (bit (w.val ||| 0x80000000).toNat 29 = false ∧ (bit (w.val ||| 0x80000000).toNat 30 = false ∨ s.on JRN_CFG.RING_EN 0 = true) ∧ s.journal.started = false ∧ s.journal.fill = [] ∧ s.jrnUsed < 1024) :=
  ⟨hw 1000, rdy, by decide⟩

theorem wit_JournalRecords_26 : ∃ (w : Wr) (s : State),
    (Accepted s w pgJrn) ∧ (1 ≤ bits (w.val ||| 0x80000000).toNat 0 16 ∧ bits (w.val ||| 0x80000000).toNat 0 16 ≤ 60000) ∧ ((bit (w.val ||| 0x80000000).toNat 29 && bit (w.val ||| 0x80000000).toNat 30) = false ∧ (bit (w.val ||| 0x80000000).toNat 30 = false ∨ s.on JRN_CFG.RING_EN 0 = true) ∧ s.journal.started = true) :=
  ⟨hw 60000, ((rdy).modJournal fun j => { j with started := true }), by decide⟩

theorem wit_JournalRecords_27 : ∃ (w : Wr) (s : State),
    (Accepted s w pgJrn) ∧ (1 ≤ bits (w.val ||| 0x80000000).toNat 0 16 ∧ bits (w.val ||| 0x80000000).toNat 0 16 ≤ 60000) ∧ (bit (w.val ||| 0x80000000).toNat 29 = false ∧ bit (w.val ||| 0x80000000).toNat 30 = true ∧ s.on JRN_CFG.RING_EN 0 = false ∧ s.journal.started = true ∧ s.journal.blocks = []) :=
  ⟨hw 0x400003E8, ((rdy).modJournal fun j => { j with started := true }), by decide⟩

theorem wit_JournalRecords_28_1 : ∃ (w : Wr) (s : State),
    (Accepted s w pgJrn) ∧ (1 ≤ bits (w.val ||| 0x80000000).toNat 0 16 ∧ bits (w.val ||| 0x80000000).toNat 0 16 ≤ 60000 ∧ (bit (w.val ||| 0x80000000).toNat 29 && bit (w.val ||| 0x80000000).toNat 30) = false) :=
  ⟨hw 0x200003E8, rdy, by decide⟩

theorem wit_JournalRecords_28_2 : ∃ (w : Wr) (s : State),
    (Accepted s w pgJrn) ∧ (1 ≤ bits (w.val ||| 0x80000000).toNat 0 16 ∧ bits (w.val ||| 0x80000000).toNat 0 16 ≤ 60000 ∧ (bit (w.val ||| 0x80000000).toNat 29 && bit (w.val ||| 0x80000000).toNat 30) = false) :=
  ⟨hw 0x400003E8, rdy, by decide⟩

theorem wit_JournalRecords_31_1 : ∃ (w : Wr) (s : State),
    (Accepted s w pgJrn) ∧ (bits (w.val ||| 0x80000000).toNat 0 16 = 0 ∨ 60000 < bits (w.val ||| 0x80000000).toNat 0 16 ∨ (bit (w.val ||| 0x80000000).toNat 29 && bit (w.val ||| 0x80000000).toNat 30) = true) :=
  ⟨hw 0, rdy, by decide⟩

theorem wit_JournalRecords_31_2 : ∃ (w : Wr) (s : State),
    (Accepted s w pgJrn) ∧ (bits (w.val ||| 0x80000000).toNat 0 16 = 0 ∨ 60000 < bits (w.val ||| 0x80000000).toNat 0 16 ∨ (bit (w.val ||| 0x80000000).toNat 29 && bit (w.val ||| 0x80000000).toNat 30) = true) :=
  ⟨hw 60001, rdy, by decide⟩

theorem wit_JournalRecords_31_3 : ∃ (w : Wr) (s : State),
    (Accepted s w pgJrn) ∧ (bits (w.val ||| 0x80000000).toNat 0 16 = 0 ∨ 60000 < bits (w.val ||| 0x80000000).toNat 0 16 ∨ (bit (w.val ||| 0x80000000).toNat 29 && bit (w.val ||| 0x80000000).toNat 30) = true) :=
  ⟨hw 0x600003E8, rdy, by decide⟩

theorem wit_KeyVaultAndDebug_1_1 : ∃ (w : Wr) (s : State),
    (Accepted s w pgSec) ∧ (s.on SEC_STAT.REVOKED 0 = false ∧ s.on SEC_STAT.RK_BLOCKED 0 = false) :=
  ⟨hw 0x100, rdy, by decide⟩

theorem wit_KeyVaultAndDebug_1_2 : ∃ (w : Wr) (s : State),
    (Accepted s w pgSec) ∧ (s.on SEC_STAT.REVOKED 0 = false ∧ s.on SEC_STAT.RK_BLOCKED 0 = false) :=
  ⟨hw 0, rdy, by decide⟩

theorem wit_KeyVaultAndDebug_2 : ∃ (w : Wr) (s : State),
    (Accepted s w pgSec) ∧ (s.on SEC_STAT.REVOKED 0 = false ∧ s.on SEC_STAT.RK_BLOCKED 0 = false) ∧ (s.on LOCK.OPEN pgSec = true) :=
  ⟨hw 0x100, (rdy.wr LOCK.OPEN pgSec 1), by decide⟩

theorem wit_KeyVaultAndDebug_3 : ∃ (w : Wr) (s : State),
    (Accepted s w pgSec) ∧ (s.on SEC_STAT.REVOKED 0 = true) :=
  ⟨hw 0, (rdy.wr LOCK.OPEN pgSec 1).wr SEC_STAT.REVOKED 0 1, by decide⟩

theorem wit_KeyVaultAndDebug_4 : ∃ (w : Wr) (s : State),
    (Accepted s w pgSec) ∧ (s.on SEC_STAT.REVOKED 0 = false ∧ s.on SEC_STAT.RK_BLOCKED 0 = true) :=
  ⟨hw 0, (rdy.wr LOCK.OPEN pgSec 1).wr SEC_STAT.RK_BLOCKED 0 1, by decide⟩

theorem wit_KeyVaultAndDebug_5 : ∃ (w : Wr) (s : State),
    (Accepted s w pgSec) ∧ (s.on LOCK.OPEN pgSec = true) ∧ (s.on SEC_STAT.REVOKED 0 = true) :=
  ⟨hw 0, (rdy.wr LOCK.OPEN pgSec 1).wr SEC_STAT.REVOKED 0 1, by decide⟩

theorem wit_KeyVaultAndDebug_6 : ∃ (w : Wr) (s : State),
    (Accepted s w pgSec) ∧ (s.on LOCK.OPEN pgSec = true) ∧ (s.on SEC_STAT.REVOKED 0 = false ∧ s.on SEC_STAT.RK_BLOCKED 0 = true) :=
  ⟨hw 0, (rdy.wr LOCK.OPEN pgSec 1).wr SEC_STAT.RK_BLOCKED 0 1, by decide⟩

theorem wit_KeyVaultAndDebug_7 : ∃ (w : Wr) (s : State),
    (Accepted s w pgSec) ∧ (s.on LOCK.OPEN pgSec = false) :=
  ⟨hw 0, rdy, by decide⟩

theorem wit_KeyVaultAndDebug_8 : ∃ (w : Wr) (s : State),
    (Accepted s w pgSec) ∧ (s.on JRN_CFG.RING_EN 0 = false ∧ (List.range 64).any (fun c => (s.rflc c).active && s.ctl c 23 && (s.on RFL_STAT.GCM_HELD c || (s.rflc c).asked != 0)) = false) ∧ (s.journal.fill = [] ∧ s.journal.sealing = []) :=
  ⟨hw 0, (((rdy).modSec fun x => { x with jrn := some 7, lib := some 8 }).wr SEC_STAT.JRN_PRESENT 0 1), by decide⟩

theorem wit_KeyVaultAndDebug_9 : ∃ (w : Wr) (k : Nat) (s : State),
    (Accepted s w pgSec) ∧ (s.on JRN_CFG.RING_EN 0 = false ∧ (List.range 64).any (fun c => (s.rflc c).active && s.ctl c 23 && (s.on RFL_STAT.GCM_HELD c || (s.rflc c).asked != 0)) = false) ∧ (s.journal.fill ≠ [] ∧ s.journal.sealing = [] ∧ s.jrnFwd = false ∧ s.sec.jrn = some k) :=
  ⟨hw 0, 7, (((rdy).modSec fun x => { x with jrn := some 7, lib := some 8 }).wr SEC_STAT.JRN_PRESENT 0 1).modJournal fun j => { j with fill := [[1]] }, by decide⟩

theorem wit_KeyVaultAndDebug_10 : ∃ (w : Wr) (s : State),
    (Accepted s w pgSec) ∧ (s.on LOCK.OPEN pgSec = true) ∧ (s.dbgCodes = []) ∧ (s.on JRN_CFG.RING_EN 0 = false ∧ (List.range 64).any (fun c => (s.rflc c).active && s.ctl c 23 && (s.on RFL_STAT.GCM_HELD c || (s.rflc c).asked != 0)) = false) ∧ (s.on JRN_CFG.EN 0 = false ∧ s.journal.fill = [] ∧ s.journal.sealing = []) :=
  ⟨hw 0, ((((rdy.wr LOCK.OPEN pgSec 1)).modSec fun x => { x with jrn := some 7, lib := some 8 }).wr SEC_STAT.JRN_PRESENT 0 1), by decide +kernel⟩

theorem wit_KeyVaultAndDebug_11 : ∃ (w : Wr) (s : State),
    (Accepted s w pgSec) ∧ (s.on LOCK.OPEN pgSec = true) ∧ (s.dbgCodes = []) ∧ (s.on JRN_CFG.RING_EN 0 = false ∧ (List.range 64).any (fun c => (s.rflc c).active && s.ctl c 23 && (s.on RFL_STAT.GCM_HELD c || (s.rflc c).asked != 0)) = false) ∧ (s.on JRN_CFG.EN 0 = false ∧ s.journal.fill = [] ∧ s.journal.sealing = []) :=
  ⟨hw 0, ((((rdy.wr LOCK.OPEN pgSec 1)).modSec fun x => { x with jrn := some 7, lib := some 8 }).wr SEC_STAT.JRN_PRESENT 0 1), by decide +kernel⟩

theorem wit_KeyVaultAndDebug_12 : ∃ (w : Wr) (s : State),
    (Accepted s w pgSec) :=
  ⟨hw 0, ((rdy.modSec fun x => { x with jrn := some 7 }).wr JRN_CFG.RING_EN 0 1).modJournal fun j => { j with fill := [[1]] }, by decide⟩

theorem wit_KeyVaultAndDebug_14 : ∃ (w : Wr) (s : State),
    (Accepted s w pgSec) ∧ (s.on LOCK.OPEN pgSec = true) ∧ (s.dbgCodes = []) :=
  ⟨hw 0, (rdy.wr LOCK.OPEN pgSec 1).wr JRN_CFG.EN 0 1, by decide +kernel⟩

theorem wit_KeyVaultAndDebug_16 : ∃ (w : Wr) (s : State),
    (Accepted s w pgSec) ∧ (s.on LOCK.OPEN pgSec = false) :=
  ⟨hw 0, rdy, by decide⟩

theorem wit_KeyVaultAndDebug_17 : ∃ (w : Wr) (s : State),
    (Accepted s w pgSec) ∧ (s.on LOCK.OPEN pgSec = true) ∧ (s.anyEngBusy = true ∨ s.anyDrvBusy = true) :=
  ⟨hw 0, (rdy.wr LOCK.OPEN pgSec 1).wr ENG_STAT.STATE 7 1, by decide +kernel⟩

theorem wit_KeyVaultAndDebug_18 : ∃ (w : Wr) (s : State),
    (Accepted s w pgSec) ∧ (s.on LOCK.OPEN pgSec = true) ∧ (s.anyEngBusy = false ∧ s.anyDrvBusy = false ∧ s.dev ≠ 4 ∧ s.dev ≠ 5 ∧ s.dev ≠ 6 ∧ s.dev ≠ 8) :=
  ⟨hw 0, (rdy.wr LOCK.OPEN pgSec 1).wr DEV_STATE.STATE 0 9, by decide +kernel⟩

theorem wit_KeyVaultAndDebug_19 : ∃ (w : Wr) (s : State),
    (Accepted s w pgSec) ∧ (s.on LOCK.OPEN pgSec = false) :=
  ⟨hw 0, rdy, by decide⟩

theorem wit_KeyVaultAndDebug_20 : ∃ (w : Wr) (s : State),
    (Accepted s w pgSec) ∧ (s.on LOCK.OPEN pgSec = true) ∧ (s.anyEngBusy = true ∨ s.anyDrvBusy = true) :=
  ⟨hw 0, (rdy.wr LOCK.OPEN pgSec 1).wr ENG_STAT.STATE 7 1, by decide +kernel⟩

theorem wit_KeyVaultAndDebug_21 : ∃ (w : Wr) (s : State),
    (Accepted s w pgSec) ∧ (s.on LOCK.OPEN pgSec = true) ∧ (s.anyEngBusy = false ∧ s.anyDrvBusy = false ∧ s.dev ≠ 4 ∧ s.dev ≠ 5 ∧ s.dev ≠ 6 ∧ s.dev ≠ 8 ∧ (s.sec.first = none ∨ s.confirms s.secConfirm = true)) :=
  ⟨hw 0, (rdy.wr LOCK.OPEN pgSec 1).wr DEV_STATE.STATE 0 9, by decide +kernel⟩

theorem wit_KeyVaultAndDebug_22 : ∃ (w : Wr) (s : State),
    (Accepted s w pgSec) ∧ (s.on LOCK.OPEN pgSec = true) ∧ (s.dbgCodes = []) ∧ (s.sec.first = none) :=
  ⟨hw 0, (rdy.wr LOCK.OPEN pgSec 1), by decide +kernel⟩

theorem wit_KeyVaultAndDebug_23_1 : ∃ (w : Wr) (x : Nat) (s : State),
    (Accepted s w pgSec) ∧ (s.on LOCK.OPEN pgSec = true) ∧ (s.dbgCodes = []) ∧ (s.sec.first = some x ∧ (s.tb < x + 500000000 ∨ x + 5000000000 < s.tb)) :=
  ⟨hw 0, 1, { (((rdy.wr LOCK.OPEN pgSec 1)).modSec fun x => { x with first := some 1 }) with tb := 500000000 }, by decide +kernel⟩

theorem wit_KeyVaultAndDebug_23_2 : ∃ (w : Wr) (x : Nat) (s : State),
    (Accepted s w pgSec) ∧ (s.on LOCK.OPEN pgSec = true) ∧ (s.dbgCodes = []) ∧ (s.sec.first = some x ∧ (s.tb < x + 500000000 ∨ x + 5000000000 < s.tb)) :=
  ⟨hw 0, 1, { (((rdy.wr LOCK.OPEN pgSec 1)).modSec fun x => { x with first := some 1 }) with tb := 5000000002 }, by decide +kernel⟩

theorem wit_KeyVaultAndDebug_24 : ∃ (w : Wr) (x : Nat) (s : State),
    (Accepted s w pgSec) ∧ (s.on LOCK.OPEN pgSec = true) ∧ (s.dbgCodes = []) ∧ (s.sec.first = some x ∧ x + 500000000 ≤ s.tb ∧ s.tb ≤ x + 5000000000) :=
  ⟨hw 0, 1, { (((rdy.wr LOCK.OPEN pgSec 1)).modSec fun x => { x with first := some 1 }) with tb := 500000001 }, by decide +kernel⟩

theorem wit_KeyVaultAndDebug_25 : ∃ (s : State),
    (s.dbgCodes = []) ∧ (s.on JRN_CFG.RING_EN 0 = false ∧ (List.range 64).any (fun c => (s.rflc c).active && s.ctl c 23 && (s.on RFL_STAT.GCM_HELD c || (s.rflc c).asked != 0)) = false) ∧ (s.on JRN_CFG.EN 0 = false ∧ s.journal.fill = [] ∧ s.journal.sealing = []) :=
  ⟨(((rdy).modSec fun x => { x with jrn := some 7, lib := some 8 }).wr SEC_STAT.JRN_PRESENT 0 1), by decide +kernel⟩

theorem wit_KeyVaultAndDebug_26 : ∃ (s : State),
    (s.dbgCodes = []) ∧ (s.on JRN_CFG.RING_EN 0 = false ∧ (List.range 64).any (fun c => (s.rflc c).active && s.ctl c 23 && (s.on RFL_STAT.GCM_HELD c || (s.rflc c).asked != 0)) = false) ∧ (s.on JRN_CFG.EN 0 = false ∧ s.journal.fill = [] ∧ s.journal.sealing = []) :=
  ⟨(((rdy).modSec fun x => { x with jrn := some 7, lib := some 8 }).wr SEC_STAT.JRN_PRESENT 0 1), by decide +kernel⟩

theorem wit_KeyVaultAndDebug_27 : ∃ (s : State),
    (s.dbgCodes = []) :=
  ⟨rdy.wr JRN_CFG.EN 0 1, by decide +kernel⟩

theorem wit_KeyVaultAndDebug_28 : ∃ (s : State),
    (s.dbgCodes = []) ∧ (s.sec.first = none) :=
  ⟨rdy, by decide +kernel⟩

theorem wit_KeyVaultAndDebug_29_1 : ∃ (p : Bool) (k : Nat) (s : State),
    (worst s.dbgCodes = some k) ∧ (p = false ∨ s.sec.first = none) :=
  ⟨false, 4, rdy.wr ENG_STAT.STATE 7 1, by decide +kernel⟩

theorem wit_KeyVaultAndDebug_29_2 : ∃ (p : Bool) (k : Nat) (s : State),
    (worst s.dbgCodes = some k) ∧ (p = false ∨ s.sec.first = none) :=
  ⟨true, 7, rdy.wr DEV_STATE.STATE 0 9, by decide +kernel⟩

theorem wit_KeyVaultAndDebug_30 : ∃ (n : Nat) (s : State),
    (s.dbgCodes = []) ∧ (s.sec.first = some n ∧ n + 500000000 ≤ s.tb ∧ s.tb ≤ n + 5000000000) :=
  ⟨1, { ((rdy).modSec fun x => { x with first := some 1 }) with tb := 500000001 }, by decide +kernel⟩

theorem wit_KeyVaultAndDebug_31_1 : ∃ (n : Nat) (k : Nat) (s : State),
    (s.sec.first = some n ∧ (s.tb < n + 500000000 ∨ n + 5000000000 < s.tb)) ∧ (worst (s.dbgCodes ++ [5]) = some k) :=
  ⟨1, 5, rdy.modSec fun x => { x with first := some 1 }, by decide +kernel⟩

theorem wit_KeyVaultAndDebug_31_2 : ∃ (n : Nat) (k : Nat) (s : State),
    (s.sec.first = some n ∧ (s.tb < n + 500000000 ∨ n + 5000000000 < s.tb)) ∧ (worst (s.dbgCodes ++ [5]) = some k) :=
  ⟨1, 4, (rdy.wr ENG_STAT.STATE 7 1).modSec fun x => { x with first := some 1 }, by decide +kernel⟩

theorem wit_KeyVaultAndDebug_32 : ∃ (x : Nat) (s : State),
    (s.sec.first = some x ∧ x + 5000000000 < s.tb) :=
  ⟨1, { (((rdy.wr LOCK.OPEN pgSec 1)).modSec fun x => { x with first := some 1 }) with tb := 5000000002 }, by decide⟩

theorem wit_KeyVaultAndDebug_33 : ∃ (x : Nat) (s : State),
    (s.sec.first = some x ∧ s.tb ≤ x + 5000000000) :=
  ⟨1, { (((rdy.wr LOCK.OPEN pgSec 1)).modSec fun x => { x with first := some 1 }) with tb := 5000000001 }, by decide⟩

theorem wit_KeyVaultAndDebug_34 : ∃ (s : State),
    (s.sec.first = none) :=
  ⟨rdy, by decide⟩

theorem wit_RecordsPassTheWindowAndTheClasses_1_1 : ∃ (x : Rec) (r : List Rec) (s : State),
    (s.recs = x :: r ∧ s.on JRN_CFG.EN 0 = true ∧ x.forwarded = false) ∧ ((x.cls = 0 ∨ x.cls = 5 ∨ x.cls = 7 ∨ ((s.rd JRN_CLASS_EN.CLASS_EN 0).testBit x.cls = true ∧ (s.rd JRN_CFG.WIN_EN 0 = 1 → (s.rd JRN_WIN_OPEN.TICK 0 + 2 ^ 32 * s.rd JRN_WIN_OPEN.TICK 1) * 8 ≤ x.stamp * 8 + x.sub ∧ x.stamp * 8 + x.sub < (s.rd JRN_WIN_CLOSE.TICK 0 + 2 ^ 32 * s.rd JRN_WIN_CLOSE.TICK 1) * 8)))) :=
  ⟨{ stamp := 7, sub := 7, unc := false, origin := 0, cls := 1, index := 0, code := 0x0101, data := [] }, [], (((((rdy.wr JRN_CFG.EN 0 1).wr JRN_CFG.WIN_EN 0 1).wr JRN_WIN_OPEN.TICK 0 6).wr JRN_WIN_CLOSE.TICK 0 8).wr JRN_WIN_CLOSE.TICK 1 0).setRecs [{ stamp := 7, sub := 7, unc := false, origin := 0, cls := 1, index := 0, code := 0x0101, data := [] }], by decide⟩

theorem wit_RecordsPassTheWindowAndTheClasses_1_2 : ∃ (x : Rec) (r : List Rec) (s : State),
    (s.recs = x :: r ∧ s.on JRN_CFG.EN 0 = true ∧ x.forwarded = false) ∧ ((x.cls = 0 ∨ x.cls = 5 ∨ x.cls = 7 ∨ ((s.rd JRN_CLASS_EN.CLASS_EN 0).testBit x.cls = true ∧ (s.rd JRN_CFG.WIN_EN 0 = 1 → (s.rd JRN_WIN_OPEN.TICK 0 + 2 ^ 32 * s.rd JRN_WIN_OPEN.TICK 1) * 8 ≤ x.stamp * 8 + x.sub ∧ x.stamp * 8 + x.sub < (s.rd JRN_WIN_CLOSE.TICK 0 + 2 ^ 32 * s.rd JRN_WIN_CLOSE.TICK 1) * 8)))) :=
  ⟨{ stamp := 7, sub := 0, unc := false, origin := 0, cls := 5, index := 0, code := 0x0101, data := [] }, [], ((((((rdy.wr JRN_CFG.EN 0 1).wr JRN_CFG.WIN_EN 0 1).wr JRN_WIN_OPEN.TICK 0 6).wr JRN_WIN_CLOSE.TICK 0 8).wr JRN_WIN_CLOSE.TICK 1 0).setRecs [{ stamp := 7, sub := 0, unc := false, origin := 0, cls := 5, index := 0, code := 0x0101, data := [] }]).wr JRN_WIN_OPEN.TICK 0 8, by decide⟩

theorem wit_RecordsPassTheWindowAndTheClasses_2_1 : ∃ (x : Rec) (r : List Rec) (s : State),
    (s.recs = x :: r ∧ s.on JRN_CFG.EN 0 = true ∧ x.forwarded = false) ∧ (¬ (x.cls = 0 ∨ x.cls = 5 ∨ x.cls = 7 ∨ ((s.rd JRN_CLASS_EN.CLASS_EN 0).testBit x.cls = true ∧ (s.rd JRN_CFG.WIN_EN 0 = 1 → (s.rd JRN_WIN_OPEN.TICK 0 + 2 ^ 32 * s.rd JRN_WIN_OPEN.TICK 1) * 8 ≤ x.stamp * 8 + x.sub ∧ x.stamp * 8 + x.sub < (s.rd JRN_WIN_CLOSE.TICK 0 + 2 ^ 32 * s.rd JRN_WIN_CLOSE.TICK 1) * 8)))) :=
  ⟨{ stamp := 7, sub := 7, unc := false, origin := 0, cls := 1, index := 0, code := 0x0101, data := [] }, [], ((((((rdy.wr JRN_CFG.EN 0 1).wr JRN_CFG.WIN_EN 0 1).wr JRN_WIN_OPEN.TICK 0 6).wr JRN_WIN_CLOSE.TICK 0 8).wr JRN_WIN_CLOSE.TICK 1 0).setRecs [{ stamp := 7, sub := 7, unc := false, origin := 0, cls := 1, index := 0, code := 0x0101, data := [] }]).wr JRN_WIN_OPEN.TICK 0 8, by decide⟩

theorem wit_RecordsPassTheWindowAndTheClasses_2_2 : ∃ (x : Rec) (r : List Rec) (s : State),
    (s.recs = x :: r ∧ s.on JRN_CFG.EN 0 = true ∧ x.forwarded = false) ∧ (¬ (x.cls = 0 ∨ x.cls = 5 ∨ x.cls = 7 ∨ ((s.rd JRN_CLASS_EN.CLASS_EN 0).testBit x.cls = true ∧ (s.rd JRN_CFG.WIN_EN 0 = 1 → (s.rd JRN_WIN_OPEN.TICK 0 + 2 ^ 32 * s.rd JRN_WIN_OPEN.TICK 1) * 8 ≤ x.stamp * 8 + x.sub ∧ x.stamp * 8 + x.sub < (s.rd JRN_WIN_CLOSE.TICK 0 + 2 ^ 32 * s.rd JRN_WIN_CLOSE.TICK 1) * 8)))) :=
  ⟨{ stamp := 7, sub := 7, unc := false, origin := 0, cls := 2, index := 0, code := 0x0101, data := [] }, [], ((((((rdy.wr JRN_CFG.EN 0 1).wr JRN_CFG.WIN_EN 0 1).wr JRN_WIN_OPEN.TICK 0 6).wr JRN_WIN_CLOSE.TICK 0 8).wr JRN_WIN_CLOSE.TICK 1 0).setRecs [{ stamp := 7, sub := 7, unc := false, origin := 0, cls := 2, index := 0, code := 0x0101, data := [] }]).wr JRN_CLASS_EN.CLASS_EN 0 0xA1, by decide⟩

theorem wit_PermanentOpenNeedsTwoRequests_1 : ∃ (w : Wr) (s : State),
    (Accepted s w pgSec) ∧ (s.on LOCK.OPEN pgSec = true ∧ s.dbgCodes = []) ∧ (s.sec.first = none) :=
  ⟨hw 0, (rdy.wr LOCK.OPEN pgSec 1), by decide +kernel⟩

theorem wit_PermanentOpenNeedsTwoRequests_2 : ∃ (w : Wr) (x : Nat) (s : State),
    (Accepted s w pgSec) ∧ (s.on LOCK.OPEN pgSec = true ∧ s.dbgCodes = []) ∧ (s.sec.first = some x) :=
  ⟨hw 0, 1, { (((rdy.wr LOCK.OPEN pgSec 1)).modSec fun x => { x with first := some 1 }) with tb := 500000001 }, by decide +kernel⟩

theorem wit_RelockIsRefusedByState_1 : ∃ (q : Fin 64) (w : Wr) (s : State),
    (Accepted s w (pgQpll q.val)) ∧ ((s.quadState q.val = 0 ∨ s.quadState q.val = 1 ∨ s.quadState q.val = 3)) :=
  ⟨5, hw 0, rdy, by decide⟩

theorem wit_RelockIsRefusedByState_2_1 : ∃ (q : Fin 64) (w : Wr) (s : State),
    (Accepted s w (pgQpll q.val)) ∧ (¬ (s.quadState q.val = 0 ∨ s.quadState q.val = 1 ∨ s.quadState q.val = 3)) :=
  ⟨5, hw 1, rdy.wr QPLL_STAT.STATE 5 2, by decide⟩

theorem wit_RelockIsRefusedByState_2_2 : ∃ (q : Fin 64) (w : Wr) (s : State),
    (Accepted s w (pgQpll q.val)) ∧ (¬ (s.quadState q.val = 0 ∨ s.quadState q.val = 1 ∨ s.quadState q.val = 3)) :=
  ⟨5, hw 0, rdy.wr QPLL_STAT.STATE 5 4, by decide⟩

end Sys2Proof.Tests
end

section
/-!
PROOFS. Register writes of window A: what the write of one register may change (R42, R47, R61, R67), which fields lie at an
address (R43, R50), and what a plain write does with them under the access codes (R8, R54, R55, R58, R563).
-/

namespace Sys2Proof.Machine

/-! ### What a register write may change -/

/-- `t` differs from `s` in the fields of `fs` and the host port only: `Frame` without the journal records. -/
structure RegFrame (s t : State) (fs : List (Fld × Nat)) : Prop where
  kept : FieldsKept s t fs
  rest : t = { s with chip := { s.chip with regs := t.chip.regs, hostp := t.chip.hostp } }

namespace RegFrame

variable {s t : State} {fs : List (Fld × Nat)}

theorem refl (s : State) (fs : List (Fld × Nat)) : RegFrame s s fs := ⟨⟨fun _ _ _ => rfl, fun _ _ => rfl⟩, rfl⟩

theorem wr (h : RegFrame s t fs) {f : Fld} {i : Nat} (hm : (f, i) ∈ fs) (v : Nat) : RegFrame s (t.wr f i v) fs where
  kept := ⟨fun g j hg => (State.wr_ne t f i v g (hg (f, i) hm)).trans (h.kept.1 g j hg), h.kept.2⟩
  rest := congrArg (fun x => x.wr f i v) h.rest

theorem inc (h : RegFrame s t fs) {f : Fld} {i : Nat} (hm : (f, i) ∈ fs) : RegFrame s (t.inc f i) fs := h.wr hm _

theorem setHostp (h : RegFrame s t fs) (x : HostPort) : RegFrame s (t.setHostp x) fs where
  kept := h.kept
  rest := congrArg (fun u => u.setHostp x) h.rest

theorem pbaEdges (h : RegFrame s t fs) (u : State) (vs : List Nat) : RegFrame s (pbaEdges u t vs) fs := by
  obtain ⟨x, e⟩ := pbaEdges_spec u t vs
  exact e ▸ h.setHostp x

theorem raise (h : RegFrame s t fs) {p : Nat} (hm : (IRQ_STAT.BITS, p) ∈ fs) (b : Nat) : RegFrame s (t.raise p b) fs :=
  (h.wr hm _).pbaEdges _ _

theorem refuse (h : RegFrame s t fs) {p : Nat} (hl : (ERR_CODE.LAST, p) ∈ fs) (hf : (ERR_CODE.FIRST, p) ∈ fs)
    (hc : (ERR_COUNT.COUNT, p) ∈ fs) (c : Nat) : RegFrame s (t.refuse p c) fs := ((h.wr hl _).wr hf _).inc hc

theorem collide (h : RegFrame s t fs) (hm : (HOST_STAT.COLLIDE_COUNT, 0) ∈ fs) (q : Req) (a : Nat) :
    RegFrame s (t.collide q a) fs := by
  obtain ⟨x, e | e⟩ := State.collide_spec t q a
  · exact e ▸ h.setHostp x
  · exact e ▸ (h.setHostp x).inc hm

/-- Taking over the registers and units of `t` is taking over all of `t`. -/
theorem chip_eq (h : RegFrame s t fs) : { s with chip := t.chip } = t := by rw [h.rest]

end RegFrame

/-! ### What a write's arrival leaves alone, refusals and drops -/

theorem State.collide_on_ne (s : State) (q : Req) (a : Nat) (g : Fld) (j : Nat) (h : g.id ≠ HOST_STAT.COLLIDE_COUNT.id) :
    (s.collide q a).on g j = s.on g j := by simp only [State.on, State.collide_rd_ne s q a g j h]

/-- The shadow lock does not depend on what a write's arrival changes (R58, R67). -/
@[simp] theorem State.collide_shadowLocked (s : State) (q : Req) (a p : Nat) :
    (s.collide q a).shadowLocked p = s.shadowLocked p := by
  simp [State.shadowLocked, State.counting, State.collide_rd_ne s q a TB_STAT.EPOCH_STATE 0 (by decide)]

@[simp] theorem pbaEdges_rd (s t : State) (vs : List Nat) (f : Fld) (j : Nat) : (pbaEdges s t vs).rd f j = t.rd f j := by
  obtain ⟨h, e⟩ := pbaEdges_spec s t vs
  rw [e, State.setHostp_rd]

/-- A refusal is taken once (R61). -/
theorem State.refuse_refused (s : State) (p : Nat) {c : Nat} (hc : c < 2 ^ 16) : Refused s (s.refuse p c) p c := by
  unfold State.refuse
  refine ⟨?_, ?_, ?_⟩
  · rw [State.inc_eq, State.wr_rd_ne _ _ _ _ _ _ (by decide), State.wr_rd_ne _ _ _ _ _ _ (by decide), State.wr_same]
    exact Nat.mod_eq_of_lt hc
  · rw [State.inc_eq, State.wr_rd_ne _ _ _ _ _ _ (by decide), State.wr_same]
    show (if _ then _ else _) % 2 ^ 16 = _
    split
    · exact Nat.mod_eq_of_lt hc
    · rfl
  · rw [State.inc_same, State.wr_rd_ne _ _ _ _ _ _ (by decide), State.wr_rd_ne _ _ _ _ _ _ (by decide)]
    rfl

theorem State.collide_refuse_refused (s : State) (q : Req) (a p : Nat) {c : Nat} (hc : c < 2 ^ 16) :
    Refused s ((s.collide q a).refuse p c) p c := by
  have h := (s.collide q a).refuse_refused p hc
  simpa only [Refused, State.collide_rd_ne s q a ERR_CODE.FIRST p (by decide),
    State.collide_rd_ne s q a ERR_COUNT.COUNT p (by decide)] using h

section Drop

variable (s : State) (win : Nat) (q : Req) (a : Nat)

/-- A dropped write is counted (R68). -/
theorem State.drop_count : (s.drop win q a).rd HOST_DROP.COUNT 0 = min 0xFFFF (s.rd HOST_DROP.COUNT 0 + 1) := by
  unfold State.drop
  rw [State.raise_rd_ne _ _ _ _ _ (by decide), State.wr_rd_ne _ _ _ _ _ _ (by decide),
    State.wr_rd_ne _ _ _ _ _ _ (by decide), State.wr_rd_ne _ _ _ _ _ _ (by decide), State.inc_same]
  rfl

theorem State.drop_win : (s.drop win q a).rd HOST_DROP_ADDR.WIN 0 = win % 2 := by
  unfold State.drop
  rw [State.raise_rd_ne _ _ _ _ _ (by decide), State.wr_rd_ne _ _ _ _ _ _ (by decide),
    State.wr_rd_ne _ _ _ _ _ _ (by decide), State.wr_same]
  rfl

theorem State.drop_tun : (s.drop win q a).rd HOST_DROP_ADDR.TUN 0 = flag (decide (q = .tunnel)) := by
  unfold State.drop
  rw [State.raise_rd_ne _ _ _ _ _ (by decide), State.wr_rd_ne _ _ _ _ _ _ (by decide), State.wr_same]
  cases q <;> rfl

theorem State.drop_addr : (s.drop win q a).rd HOST_DROP_ADDR.ADDR 0 = a % 2 ^ 30 := by
  unfold State.drop
  rw [State.raise_rd_ne _ _ _ _ _ (by decide), State.wr_same]
  rfl

/-- A dropped write raises WRITE_DROPPED (R47). -/
theorem State.drop_raised : Raised (s.drop win q a) pgHost 1 := by
  unfold State.drop Raised
  rw [State.raise_same, Nat.testBit_mod_two_pow, Nat.testBit_or, Nat.testBit_two_pow_self]
  simp

theorem State.drop_frame : RegFrame s (s.drop win q a) [(HOST_DROP.COUNT, 0), (HOST_DROP_ADDR.WIN, 0), (HOST_DROP_ADDR.TUN, 0),
    (HOST_DROP_ADDR.ADDR, 0), (IRQ_STAT.BITS, pgHost)] :=
  (((((RegFrame.refl s _).inc (by simp)).wr (by simp) _).wr (by simp) _).wr (by simp) _).raise (by simp) 1

end Drop

/-! ### A shadowed field -/

@[simp] theorem State.wrShadow_same (s : State) (f : Fld) (i v : Nat) : (s.wrShadow f i v).rd f i = v % 2 ^ f.w :=
  State.wr_same s f i v

theorem State.wrShadow_rd_ne (s : State) (f g : Fld) (i j v : Nat) (h : g.id ≠ f.id) :
    (s.wrShadow f i v).rd g j = s.rd g j := State.wr_rd_ne s f g i j v h

/-- A written shadowed field is dirty (R54). -/
@[simp] theorem State.wrShadow_isDirty_same (s : State) (f : Fld) (i v : Nat) : (s.wrShadow f i v).isDirty f i = true := by
  simp only [State.wrShadow, State.isDirty, State.setDirty_same]
  split <;> simp_all

/-- A shadowed field's write leaves dirty what was dirty. -/
theorem State.wrShadow_isDirty_mono (s : State) (f g : Fld) (i j v : Nat) (h : s.isDirty g j = true) :
    (s.wrShadow f i v).isDirty g j = true := by
  simp only [State.wrShadow, State.isDirty, State.setDirty_same] at h ⊢
  split <;> simp_all

theorem FieldsKept.wrShadow {s t : State} {fs : List (Fld × Nat)} (h : FieldsKept s t fs) {f : Fld} {i : Nat}
    (hm : (f, i) ∈ fs) (v : Nat) : FieldsKept s (t.wrShadow f i v) fs :=
  ⟨fun g j hg => (State.wr_ne t f i v g (hg (f, i) hm)).trans (h.1 g j hg), h.2⟩

/-! ### Where a register lies -/

theorem Gives.mono {c : Instr} {s : State} {P Q : State → Prop} (h : Gives c s P) (hpq : ∀ t, P t → Q t) : Gives c s Q :=
  let ⟨t, he, hp⟩ := h
  ⟨t, he, hpq t hp⟩

/-- A command's byte address names the register at offset `off` of page `p` (R43). -/
theorem gives_registerWrite {w : Wr} {addr : BitVec 22} {s : State} {p off : Nat} {P : State → Prop}
    (ha : addr.toNat / 4 * 4 = p * 4096 + off) (ho : off < 4096) (hm : memReg p off = false)
    (hp : P { s with chip := (s.regAt w p off).chip }) : Gives (.registerWrite w addr) s P := by
  have h1 : addr.toNat / 4096 = p := by omega
  have h2 : addr.toNat % 4096 / 4 * 4 = off := by omega
  refine ⟨_, rfl, ?_⟩
  simpa [State.regWrite, h1, h2, hm] using hp

/-- Where the write of the register stays within a frame, what holds of the state it leaves holds after the command. -/
theorem gives_registerWrite_of_frame {w : Wr} {addr : BitVec 22} {s t : State} {p off : Nat} {P : State → Prop}
    {fs : List (Fld × Nat)} (ha : addr.toNat / 4 * 4 = p * 4096 + off) (ho : off < 4096) (hm : memReg p off = false)
    (ht : s.regAt w p off = t) (hf : RegFrame s t fs) (hp : P t) : Gives (.registerWrite w addr) s P :=
  gives_registerWrite ha ho hm (by rw [ht, hf.chip_eq]; exact hp)

/-- No register of a page's header can change a memory. -/
theorem memReg_head (p : Nat) {off : Nat} (h : off < 0x40) : memReg p off = false := by
  have h1 : off ≠ 0x40 := by omega
  have h2 : off ≠ 0x44 := by omega
  have h3 : off ≠ 0x84 := by omega
  have h4 : ¬ 0x40 ≤ off := by omega
  simp [memReg, h1, h2, h3, h4]

theorem pageMap_sns {c : Nat} (h : c < 64) : pageMap (pgSns c) = (0x23, c / 8, 1, 4096) := by
  have h1 : 0x08A ≤ pgSns c ∧ pgSns c ≤ 0x091 := by unfold pgSns; omega
  have h2 : pgSns c - 0x08A = c / 8 := by unfold pgSns; omega
  unfold pageMap
  simp (disch := omega) only [h2, if_pos h1, if_neg]

theorem unitAt_sns {c : Nat} (h : c < 64) {off : Nat} : unitAt (pgSns c) off = (c / 8, off) := by
  simp [unitAt, pageMap_sns h]

theorem pageMap_eng {e : Nat} (h : e < 512) : pageMap (pgEng e) = (0x32, 2 * (e / 2), 2, 0x400) := by
  have hp : 0x100 ≤ pgEng e ∧ pgEng e ≤ 0x2FF := by unfold pgEng; omega
  have hf : (pgEng e - 0x100) / 16 = e / 16 := by unfold pgEng; omega
  have hk : (pgEng e - 0x100) % 16 = 2 + e % 16 / 2 := by unfold pgEng; omega
  have hu : 16 * (e / 16) + 2 * (2 + e % 16 / 2 - 2) = 2 * (e / 2) := by omega
  unfold pageMap
  simp (disch := omega) only [hf, hk, hu, if_pos, if_neg]

/-- Engine `e` is the first or the second of its page (R43). -/
theorem unitAt_eng {e o : Nat} (h : e < 512) (ho : o < 0x400) : unitAt (pgEng e) (o + 0x400 * (e % 2)) = (e, o) := by
  have hj : min ((o + 0x400 * (e % 2)) / 0x400) (2 - 1) = e % 2 := by omega
  simp only [unitAt, pageMap_eng h, hj, Prod.mk.injEq]
  omega

/-- The fields at an offset of a unit's block are those of the block that unit 0 has there. -/
theorem fieldsAt_unit {p off b u o : Nat} (hoff : 0x40 ≤ off) (hb : (pageMap p).1 = b) (hu : unitAt p off = (u, o)) :
    fieldsAt p off = ((fieldsOf b).filter fun f => (f.inst 0 o).isSome).map fun f => (f, u * f.cnt + (o - f.off) / f.step) := by
  have hlt : ¬ off < 0x40 := by omega
  simp only [fieldsAt, if_neg hlt, hb, hu]
  induction fieldsOf b with
  | nil => rfl
  | cons f fs ih =>
    rw [List.filterMap_cons, ih, List.filter_cons]
    by_cases hi : f.off ≤ o ∧ (o - f.off) % f.step = 0 ∧ (o - f.off) / f.step < f.cnt
    · simp [Fld.inst, if_pos hi]
    · simp [Fld.inst, if_neg hi]

theorem fieldsAt_irqStat (p : Nat) : fieldsAt p 0x10 = [(IRQ_STAT.BITS, p)] := rfl

/-- The sense channels' gain trims, 0x80 bytes apart (R438). -/
theorem fieldsAt_trimGain {c : Nat} (h : c < 64) :
    fieldsAt (pgSns c) (0x150 + 0x80 * (c % 8)) = [(SNS_TRIM_GAIN.GAIN, c)] := by
  have hfs : ∀ k : Fin 8, ((fieldsOf 0x23).filter fun f => (f.inst 0 (0x150 + 0x80 * k.val)).isSome) = [SNS_TRIM_GAIN.GAIN] := by
    decide
  have hi : c / 8 * 8 + (0x150 + 0x80 * (c % 8) - 0x150) / 0x80 = c := by omega
  rw [fieldsAt_unit (by omega) (congrArg Prod.fst (pageMap_sns h)) (unitAt_sns h), hfs ⟨c % 8, by omega⟩]
  simpa [SNS_TRIM_GAIN.GAIN] using hi

/-- The engines' program windows (R148). -/
theorem fieldsAt_engWin {e : Nat} (h : e < 512) :
    fieldsAt (pgEng e) (0x044 + 0x400 * (e % 2)) = [(ENG_WIN.SIZE_M1, e), (ENG_WIN.BASE, e)] := by
  have hfs : ((fieldsOf 0x32).filter fun f => (f.inst 0 0x044).isSome) = [ENG_WIN.SIZE_M1, ENG_WIN.BASE] := by decide
  rw [fieldsAt_unit (by omega) (congrArg Prod.fst (pageMap_eng h)) (unitAt_eng h (by omega)), hfs]
  simp [ENG_WIN.SIZE_M1, ENG_WIN.BASE]

/-! ### The register's meaning at its address -/

theorem regAt_irqEn (s : State) (w : Wr) (p : Nat) : s.regAt w p 0x14 =
    pbaEdges s (s.write w p 0x14 [] fun t => t.wr IRQ_EN.BITS p (w.val.toNat &&& irqMask p))
      [s.rd DEV_MSIX_MAP.VEC (pageGroup p)] := rfl

theorem regAt_irqStat (s : State) (w : Wr) (p : Nat) : s.regAt w p 0x10 = s.plainReg w p 0x10 [] := rfl

theorem regAt_trimGain (s : State) (w : Wr) {c : Nat} (h : c < 64) :
    s.regAt w (pgSns c) (0x150 + 0x80 * (c % 8)) = s.plainReg w (pgSns c) (0x150 + 0x80 * (c % 8)) [] := by
  have ho : (0x150 + 0x80 * (c % 8) - 0x100) % 0x80 = 0x50 := by omega
  simp (disch := omega) only [State.regAt, State.writeUnit, State.writeSns, pageMap_sns h, unitAt_sns h, if_neg, ho]

theorem regAt_engWin (s : State) (w : Wr) {e : Nat} (h : e < 512) :
    s.regAt w (pgEng e) (0x044 + 0x400 * (e % 2)) = s.plainReg w (pgEng e) (0x044 + 0x400 * (e % 2)) [] := by
  simp (disch := omega) only [State.regAt, State.writeUnit, State.writeEng, pageMap_eng h, unitAt_eng h, if_neg]

theorem memReg_trimGain {c : Nat} (h : c < 64) : memReg (pgSns c) (0x150 + 0x80 * (c % 8)) = false := by
  have h1 : pgSns c ≠ pgPwr ∧ pgSns c ≠ pgSec ∧ pgSns c ≠ pgAf := by simp only [pgSns, pgPwr, pgSec, pgAf]; omega
  simp [memReg, pageMap_sns h, h1]

theorem memReg_engWin {e : Nat} (h : e < 512) : memReg (pgEng e) (0x044 + 0x400 * (e % 2)) = false := by
  have h1 : pgEng e ≠ pgPwr ∧ pgEng e ≠ pgSec ∧ pgEng e ≠ pgAf := by simp only [pgEng, pgPwr, pgSec, pgAf]; omega
  simp [memReg, pageMap_eng h, h1]

/-! ### A plain write under the access codes (R563) -/

section PlainWrite

variable {s : State} {p : Nat} {fs : List (Fld × Nat)} {v : Nat}

theorem State.wrField_w1c (s : State) {f : Fld} (h : f.acc = .w1c) (i v : Nat) :
    s.wrField f i v = s.wr f i (s.rd f i &&& (f.max ^^^ (v % 2 ^ f.w))) := by simp [State.wrField, h]

theorem any_acc_eq_false {a : Acc} (h : ∀ x ∈ fs, x.1.acc ≠ a) : fs.any (fun x => x.1.acc = a) = false :=
  List.any_eq_false.2 fun x hx => by simp [h x hx]

theorem any_acc_eq_true {a : Acc} (hne : fs ≠ []) (h : ∀ x ∈ fs, x.1.acc = a) : fs.any (fun x => x.1.acc = a) = true :=
  let ⟨x, hx⟩ := List.exists_mem_of_ne_nil fs hne
  List.any_eq_true.2 ⟨x, hx, by simp [h x hx]⟩

/-- Where neither the lock nor a shadow lock bars a field, each takes its part of the word. -/
theorem State.plainWrite_open (hl : s.on LOCK.OPEN p = true ∨ ∀ x ∈ fs, x.1.acc ≠ .rwl)
    (hr : s.shadowLocked p = false ∨ ∀ x ∈ fs, x.1.acc ≠ .rws) :
    s.plainWrite p fs v [] = fs.foldl (fun t x => t.wrField x.1 x.2 (x.1.ofWord v)) s := by
  have h1 : (fs.any (fun x => x.1.acc = .rwl) && !s.on LOCK.OPEN p) = false := by
    rcases hl with h | h
    · simp [h]
    · rw [any_acc_eq_false h, Bool.false_and]
  have h2 : (fs.any (fun x => x.1.acc = .rws) && s.shadowLocked p) = false := by
    rcases hr with h | h
    · simp [h]
    · rw [any_acc_eq_false h, Bool.false_and]
  have h3 : fs.filter (fun x => !(decide (x.1.acc = .rwl) && false) && !(decide (x.1.acc = .rws) && false)) = fs :=
    List.filter_eq_self.2 fun _ _ => by simp only [Bool.and_false, Bool.not_false, Bool.and_self]
  have h4 : worst [] = none := rfl
  simp only [State.plainWrite, h1, h2, h3, h4, Bool.false_eq_true, if_false]

/-- A register of locked fields is refused while the lock is closed (R55). -/
theorem State.plainWrite_locked (hne : fs ≠ []) (ha : ∀ x ∈ fs, x.1.acc = .rwl) (hl : s.on LOCK.OPEN p = false) :
    s.plainWrite p fs v [] = s.refuse p 0x0101 := by
  have h1 : fs.any (fun x => x.1.acc = .rws) = false := any_acc_eq_false fun x hx => by simp [ha x hx]
  have h2 : fs.filter (fun x => !decide (x.1.acc = .rwl)) = [] := List.filter_eq_nil_iff.2 fun x hx => by simp [ha x hx]
  simp [State.plainWrite, worst, any_acc_eq_true hne ha, h1, h2, hl]

/-- A register of shadowed fields is rejected during a shadow lock, and the rejection counted (R58). -/
theorem State.plainWrite_rejected (hne : fs ≠ []) (ha : ∀ x ∈ fs, x.1.acc = .rws) (hr : s.shadowLocked p = true) :
    s.plainWrite p fs v [] = (s.wr SHADOW_STAT.REJECT p 1).inc SHADOW_STAT.REJ_COUNT p := by
  have h1 : fs.any (fun x => x.1.acc = .rwl) = false := any_acc_eq_false fun x hx => by simp [ha x hx]
  have h2 : fs.filter (fun x => !decide (x.1.acc = .rws)) = [] := List.filter_eq_nil_iff.2 fun x hx => by simp [ha x hx]
  simp [State.plainWrite, worst, any_acc_eq_true hne ha, h1, h2, hr]

end PlainWrite

theorem State.plainReg_ok {s : State} {w : Wr} {p off : Nat} (codes : List Nat) (ha : Accepted s w p) :
    s.plainReg w p off codes = (s.collide w.req (p * 4096 + off)).plainWrite p (fieldsAt p off) w.val.toNat codes :=
  State.write_ok ha rfl

/-! ### The access codes, one command each -/

section Commands

variable {w : Wr} {addr : BitVec 22} {s : State} {p : Nat}

/-- An RW field takes its implemented bits. -/
theorem registerWrite_irqEn (ha : addr.toNat / 4 * 4 = p * 4096 + 0x14) (hw : Accepted s w p) :
    Gives (.registerWrite w addr) s fun t =>
      t.rd IRQ_EN.BITS p = w.val.toNat &&& irqMask p ∧ RegFrame s t [(IRQ_EN.BITS, p), (HOST_STAT.COLLIDE_COUNT, 0)] := by
  have hf : RegFrame s (s.regAt w p 0x14) [(IRQ_EN.BITS, p), (HOST_STAT.COLLIDE_COUNT, 0)] := by
    rw [regAt_irqEn, State.write_ok hw rfl]
    exact (((RegFrame.refl s _).collide (by simp) _ _).wr (by simp) _).pbaEdges _ _
  refine gives_registerWrite_of_frame ha (by omega) (memReg_head p (by omega)) rfl hf ⟨?_, hf⟩
  rw [regAt_irqEn, State.write_ok hw rfl, pbaEdges_rd, State.wr_same]
  exact Nat.mod_eq_of_lt (Nat.lt_of_le_of_lt Nat.and_le_left w.val.isLt)

/-- A W1C field loses the bits written 1. -/
theorem registerWrite_irqStat (ha : addr.toNat / 4 * 4 = p * 4096 + 0x10) (hw : Accepted s w p) :
    Gives (.registerWrite w addr) s fun t =>
      t.rd IRQ_STAT.BITS p = s.rd IRQ_STAT.BITS p &&& (0xFFFFFFFF ^^^ w.val.toNat) ∧
      RegFrame s t [(IRQ_STAT.BITS, p), (HOST_STAT.COLLIDE_COUNT, 0)] := by
  have ht : s.regAt w p 0x10 = (s.collide w.req (p * 4096 + 0x10)).wr IRQ_STAT.BITS p
      (s.rd IRQ_STAT.BITS p &&& (0xFFFFFFFF ^^^ w.val.toNat)) := by
    have hv : IRQ_STAT.BITS.ofWord w.val.toNat % 2 ^ IRQ_STAT.BITS.w = w.val.toNat := by
      simp [Fld.ofWord, bits, IRQ_STAT.BITS, Nat.mod_eq_of_lt w.val.isLt]
    have hm : IRQ_STAT.BITS.max = 0xFFFFFFFF := rfl
    rw [regAt_irqStat, State.plainReg_ok [] hw, fieldsAt_irqStat,
      State.plainWrite_open (.inr (by simp [IRQ_STAT.BITS])) (.inr (by simp [IRQ_STAT.BITS])), List.foldl_cons, List.foldl_nil,
      State.wrField_w1c _ rfl, State.collide_rd_ne _ _ _ IRQ_STAT.BITS p (by decide), hv, hm]
  have hf := ((RegFrame.refl s [(IRQ_STAT.BITS, p), (HOST_STAT.COLLIDE_COUNT, 0)]).collide (by simp) w.req (p * 4096 + 0x10)).wr
    (f := IRQ_STAT.BITS) (i := p) (by simp) (s.rd IRQ_STAT.BITS p &&& (0xFFFFFFFF ^^^ w.val.toNat))
  refine gives_registerWrite_of_frame ha (by omega) (memReg_head p (by omega)) ht hf ⟨?_, hf⟩
  rw [State.wr_same]
  refine Nat.mod_eq_of_lt (Nat.lt_of_le_of_lt Nat.and_le_right ?_)
  exact Nat.xor_lt_two_pow (by decide) w.val.isLt

/-- A header write to a page that is not ready is dropped (R47). -/
theorem registerWrite_irqStat_dropped (ha : addr.toNat / 4 * 4 = p * 4096 + 0x10) (hq : s.reaches w.req = true)
    (hr : s.ready p = false) : Gives (.registerWrite w addr) s fun t => t = s.drop 0 w.req (p * 4096 + 0x10) := by
  have ht : s.regAt w p 0x10 = s.drop 0 w.req (p * 4096 + 0x10) := State.write_dropped hq hr
  exact gives_registerWrite_of_frame ha (by omega) (memReg_head p (by omega)) ht (s.drop_frame 0 _ _) rfl

/-- A host write in D3hot has no effect (R42). -/
theorem registerWrite_irqStat_unreached (ha : addr.toNat / 4 * 4 = p * 4096 + 0x10) (hq : s.reaches w.req = false) :
    Gives (.registerWrite w addr) s fun t => t = s :=
  gives_registerWrite_of_frame ha (by omega) (memReg_head p (by omega)) (State.write_unreached hq) (RegFrame.refl s []) rfl

/-- An RWL field takes its value while the lock is open (R55). -/
theorem registerWrite_trimGain_open {c : Nat} (hc : c < 64)
    (ha : addr.toNat / 4 * 4 = pgSns c * 4096 + (0x150 + 0x80 * (c % 8))) (hw : Accepted s w (pgSns c))
    (hl : s.on LOCK.OPEN (pgSns c) = true) :
    Gives (.registerWrite w addr) s fun t =>
      t.rd SNS_TRIM_GAIN.GAIN c = bits w.val.toNat 0 24 ∧
      RegFrame s t [(SNS_TRIM_GAIN.GAIN, c), (HOST_STAT.COLLIDE_COUNT, 0)] := by
  have ht : s.regAt w (pgSns c) (0x150 + 0x80 * (c % 8)) =
      (s.collide w.req (pgSns c * 4096 + (0x150 + 0x80 * (c % 8)))).wr SNS_TRIM_GAIN.GAIN c (bits w.val.toNat 0 24) := by
    rw [regAt_trimGain s w hc, State.plainReg_ok [] hw, fieldsAt_trimGain hc,
      State.plainWrite_open (.inl (by rw [State.collide_on_ne _ _ _ _ _ (by decide), hl])) (.inr (by simp [SNS_TRIM_GAIN.GAIN]))]
    rfl
  have hf := ((RegFrame.refl s [(SNS_TRIM_GAIN.GAIN, c), (HOST_STAT.COLLIDE_COUNT, 0)]).collide (by simp) w.req
    (pgSns c * 4096 + (0x150 + 0x80 * (c % 8)))).wr (f := SNS_TRIM_GAIN.GAIN) (i := c) (by simp) (bits w.val.toNat 0 24)
  refine gives_registerWrite_of_frame ha (by omega) (memReg_trimGain hc) ht hf ⟨?_, hf⟩
  rw [State.wr_same]
  exact Nat.mod_mod _ _

/-- An RWL field's write is refused while the lock is closed (R55). -/
theorem registerWrite_trimGain_locked {c : Nat} (hc : c < 64)
    (ha : addr.toNat / 4 * 4 = pgSns c * 4096 + (0x150 + 0x80 * (c % 8))) (hw : Accepted s w (pgSns c))
    (hl : s.on LOCK.OPEN (pgSns c) = false) :
    Gives (.registerWrite w addr) s fun t =>
      Refused s t (pgSns c) 0x0101 ∧
      RegFrame s t [(ERR_CODE.LAST, pgSns c), (ERR_CODE.FIRST, pgSns c), (ERR_COUNT.COUNT, pgSns c),
        (HOST_STAT.COLLIDE_COUNT, 0)] := by
  have ht : s.regAt w (pgSns c) (0x150 + 0x80 * (c % 8)) =
      (s.collide w.req (pgSns c * 4096 + (0x150 + 0x80 * (c % 8)))).refuse (pgSns c) 0x0101 := by
    rw [regAt_trimGain s w hc, State.plainReg_ok [] hw, fieldsAt_trimGain hc]
    exact State.plainWrite_locked (by simp) (by simp [SNS_TRIM_GAIN.GAIN])
      (by rw [State.collide_on_ne _ _ _ _ _ (by decide), hl])
  have hf := ((RegFrame.refl s [(ERR_CODE.LAST, pgSns c), (ERR_CODE.FIRST, pgSns c), (ERR_COUNT.COUNT, pgSns c),
    (HOST_STAT.COLLIDE_COUNT, 0)]).collide (by simp) w.req (pgSns c * 4096 + (0x150 + 0x80 * (c % 8)))).refuse
      (p := pgSns c) (by simp) (by simp) (by simp) 0x0101
  exact gives_registerWrite_of_frame ha (by omega) (memReg_trimGain hc) ht hf
    ⟨State.collide_refuse_refused _ _ _ _ (by decide), hf⟩

/-- RWS fields take their values into the shadow copies alone and become dirty (R54). -/
theorem registerWrite_engWin_open {e : Nat} (he : e < 512)
    (ha : addr.toNat / 4 * 4 = pgEng e * 4096 + (0x044 + 0x400 * (e % 2))) (hw : Accepted s w (pgEng e))
    (hs : s.shadowLocked (pgEng e) = false) :
    Gives (.registerWrite w addr) s fun t =>
      (t.rd ENG_WIN.BASE e = bits w.val.toNat 0 16 ∧ t.rd ENG_WIN.SIZE_M1 e = bits w.val.toNat 16 16) ∧
      (t.isDirty ENG_WIN.BASE e = true ∧ t.isDirty ENG_WIN.SIZE_M1 e = true) ∧
      FieldsKept s t [(ENG_WIN.BASE, e), (ENG_WIN.SIZE_M1, e), (HOST_STAT.COLLIDE_COUNT, 0)] ∧
      t = { s with chip := { s.chip with regs := t.chip.regs, hostp := t.chip.hostp, dirty := t.chip.dirty } } := by
  have ht : s.regAt w (pgEng e) (0x044 + 0x400 * (e % 2)) =
      ((s.collide w.req (pgEng e * 4096 + (0x044 + 0x400 * (e % 2)))).wrShadow ENG_WIN.SIZE_M1 e
        (bits w.val.toNat 16 16)).wrShadow ENG_WIN.BASE e (bits w.val.toNat 0 16) := by
    rw [regAt_engWin s w he, State.plainReg_ok [] hw, fieldsAt_engWin he,
      State.plainWrite_open (.inr (by simp [ENG_WIN.SIZE_M1, ENG_WIN.BASE])) (.inl (by rw [State.collide_shadowLocked, hs]))]
    rfl
  have hf := (RegFrame.refl s [(ENG_WIN.BASE, e), (ENG_WIN.SIZE_M1, e), (HOST_STAT.COLLIDE_COUNT, 0)]).collide (by simp) w.req
    (pgEng e * 4096 + (0x044 + 0x400 * (e % 2)))
  refine gives_registerWrite ha (by omega) (memReg_engWin he) ?_
  rw [ht]
  refine ⟨⟨?_, ?_⟩, ⟨?_, ?_⟩, ?_, ?_⟩
  · exact (State.wrShadow_same _ _ _ _).trans (Nat.mod_mod _ _)
  · exact (State.wrShadow_rd_ne _ _ _ _ _ _ (by decide)).trans ((State.wrShadow_same _ _ _ _).trans (Nat.mod_mod _ _))
  · exact State.wrShadow_isDirty_same _ _ _ _
  · exact State.wrShadow_isDirty_mono _ _ _ _ _ _ (State.wrShadow_isDirty_same _ _ _ _)
  · exact (hf.kept.wrShadow (f := ENG_WIN.SIZE_M1) (by simp) _).wrShadow (f := ENG_WIN.BASE) (by simp) _
  · rw [hf.rest]; rfl

/-- RWS fields are rejected during a shadow lock (R58). -/
theorem registerWrite_engWin_rejected {e : Nat} (he : e < 512)
    (ha : addr.toNat / 4 * 4 = pgEng e * 4096 + (0x044 + 0x400 * (e % 2))) (hw : Accepted s w (pgEng e))
    (hs : s.shadowLocked (pgEng e) = true) :
    Gives (.registerWrite w addr) s fun t =>
      t.rd SHADOW_STAT.REJECT (pgEng e) = 1 ∧
      t.rd SHADOW_STAT.REJ_COUNT (pgEng e) = min 0xFFFF (s.rd SHADOW_STAT.REJ_COUNT (pgEng e) + 1) ∧
      RegFrame s t [(SHADOW_STAT.REJECT, pgEng e), (SHADOW_STAT.REJ_COUNT, pgEng e), (HOST_STAT.COLLIDE_COUNT, 0)] := by
  have ht : s.regAt w (pgEng e) (0x044 + 0x400 * (e % 2)) =
      ((s.collide w.req (pgEng e * 4096 + (0x044 + 0x400 * (e % 2)))).wr SHADOW_STAT.REJECT (pgEng e) 1).inc
        SHADOW_STAT.REJ_COUNT (pgEng e) := by
    rw [regAt_engWin s w he, State.plainReg_ok [] hw, fieldsAt_engWin he]
    exact State.plainWrite_rejected (by simp) (by simp [ENG_WIN.SIZE_M1, ENG_WIN.BASE]) (by rw [State.collide_shadowLocked, hs])
  have hf := (((RegFrame.refl s [(SHADOW_STAT.REJECT, pgEng e), (SHADOW_STAT.REJ_COUNT, pgEng e),
    (HOST_STAT.COLLIDE_COUNT, 0)]).collide (by simp) w.req (pgEng e * 4096 + (0x044 + 0x400 * (e % 2)))).wr
      (f := SHADOW_STAT.REJECT) (i := pgEng e) (by simp) 1).inc (f := SHADOW_STAT.REJ_COUNT) (i := pgEng e) (by simp)
  refine gives_registerWrite_of_frame ha (by omega) (memReg_engWin he) ht hf ⟨?_, ?_, hf⟩
  · rw [State.inc_eq, State.wr_rd_ne _ _ _ _ _ _ (by decide), State.wr_same]; rfl
  · rw [State.inc_same, State.wr_rd_ne _ _ _ _ _ _ (by decide), State.collide_rd_ne _ _ _ _ _ (by decide)]; rfl

end Commands

/-- Settles O6: one lemma for each access code, at the page and the address that the clause names. -/
theorem registerWriteFields : Obligations.RegisterWriteFields := by
  refine ⟨?rw, ?w1c, ?rwlOpen, ?rwlClosed, ?rws, ?rwsLocked, ?dropped, ?d3hot⟩
  case rw =>
    intro p w addr s ha hw
    exact (registerWrite_irqEn ha hw).mono fun _ ⟨hv, hf⟩ => ⟨hv, hf.kept, hf.rest⟩
  case w1c =>
    intro p w addr s ha hw
    exact (registerWrite_irqStat ha hw).mono fun _ ⟨hv, hf⟩ => ⟨hv, hf.kept, hf.rest⟩
  case rwlOpen =>
    intro c w addr s ha hw hl
    exact (registerWrite_trimGain_open c.isLt (ha.trans (Nat.add_assoc ..)) hw hl).mono
      fun _ ⟨hv, hf⟩ => ⟨hv, hf.kept, hf.rest⟩
  case rwlClosed =>
    intro c w addr s ha hw hl
    exact (registerWrite_trimGain_locked c.isLt (ha.trans (Nat.add_assoc ..)) hw hl).mono
      fun _ ⟨hv, hf⟩ => ⟨hv, hf.kept, hf.rest⟩
  case rws =>
    intro e w addr s ha hw hs
    exact registerWrite_engWin_open e.isLt (ha.trans (Nat.add_assoc ..)) hw hs
  case rwsLocked =>
    intro e w addr s ha hw hs
    exact (registerWrite_engWin_rejected e.isLt (ha.trans (Nat.add_assoc ..)) hw hs).mono
      fun _ ⟨h1, h2, hf⟩ => ⟨h1, h2, hf.kept, hf.rest⟩
  case dropped =>
    intro p w addr s ha hq hr
    refine (registerWrite_irqStat_dropped ha hq hr).mono fun t ht => ?_
    subst ht
    have hf := s.drop_frame 0 w.req (p * 4096 + 0x10)
    have haddr : p * 4096 + 0x10 < 2 ^ 30 := by have := addr.isLt; omega
    exact ⟨State.drop_count .., ⟨State.drop_win .., State.drop_tun .., (State.drop_addr ..).trans (Nat.mod_eq_of_lt haddr)⟩,
      State.drop_raised .., hf.kept, hf.rest⟩
  case d3hot =>
    intro p w addr s ha hq
    exact registerWrite_irqStat_unreached ha hq

end Sys2Proof.Machine
end

section
/-!
PROOFS. The operating points of the islands (R108, R109): a move keeps its target until it is complete, and a write of the point in
force to an island without a target requests nothing.
-/

namespace Sys2Proof.Machine

section Islands

variable (s : State) (i : Nat)

@[simp] theorem State.wrI_isl (f a : Fld) (v j : Nat) : (s.wrI f a i v).isl j = s.isl j := rfl

/-- A rail that follows its islands leaves their points as they are (R542). -/
@[simp] theorem State.settleRail_isl (g j : Nat) : (s.settleRail g).isl j = s.isl j := by
  unfold State.settleRail
  dsimp only
  split <;> rfl

theorem State.setVolt_isl_same (v : Nat) : (s.setVolt i v).isl i = { s.isl i with volt := v } := by simp [State.setVolt]

/-- The voltage step of a move keeps its target (R108). -/
theorem State.moveVolt_target (v : Nat) : ((s.moveVolt i v).isl i).target = (s.isl i).target := by
  unfold State.moveVolt
  simp only [State.modIsl_eq, State.setIsl_same]
  split
  · rw [State.wrI_isl, State.setVolt_isl_same]
  · rfl

/-- A move that is complete leaves the island idle (R108). -/
theorem State.pointDone_phase (f v : Nat) : ((s.pointDone i f v).isl i).phase = 0 := by
  unfold State.pointDone State.jrn State.jrnAt
  simp [State.setVolt_isl_same]

/-- The frequency steps leave an island with a target where it was, or complete its move. -/
theorem State.moveFreq_target_or_phase : ((s.moveFreq i).isl i).target = (s.isl i).target ∨ ((s.moveFreq i).isl i).phase = 0 := by
  unfold State.moveFreq
  split
  · split
    · exact .inr (s.pointDone_phase i _ _)
    · exact .inl rfl
  · exact .inl rfl

/-- A move that goes on keeps its target: an island under way is never left without one (R108). -/
theorem State.move_target_of_phase (v : Nat) (h : (((s.moveVolt i v).moveFreq i).isl i).phase ≠ 0) :
    (((s.moveVolt i v).moveFreq i).isl i).target = (s.isl i).target :=
  (((s.moveVolt i v).moveFreq_target_or_phase i).resolve_right h).trans (s.moveVolt_target i v)

end Islands

/-- Refutes O12: the clause on an override that meets a move in progress (phase not 0) leaves out that the island has a target. The AF
in phase 2 without a target, written with its point in force, 1000 MHz and 800 mV, meets the clause's hypotheses; the write
requests nothing and leaves the AF in phase 2 without a target, where the clause has the written point as the target of a move. -/
theorem not_islandClocksAndPoints : ¬ Obligations.IslandClocksAndPoints := by
  unfold Obligations.IslandClocksAndPoints
  intro ⟨_, _, _, _, _, _, _, _, _, _, _, _, _, _, _, _, _, _, _, _, hMoving, _⟩
  let w : Wr := { req := .host, be := 0xF, val := 0x83E80320 }
  have ⟨s, ha, hl, hb, hphase, hwrite⟩ : ∃ s : State, Accepted s w pgAf ∧ s.on LOCK.OPEN pgAf = true ∧ s.islBusy 32 = false ∧
      (s.isl 32).phase = 2 ∧ (s.writeOvr 32 w).isl 32 = { phase := 2, target := none } :=
    ⟨((State.reset.wr DEV_STATE.STATE 0 6).wr LOCK.OPEN pgAf 1).modIsl 32 fun x => { x with phase := 2 }, by decide⟩
  have hmoving : (s.isl 32).phase ≠ 0 := by rw [hphase]; decide
  obtain ⟨t, ht, u, -, -, -, -, hu, -, -, -, htu⟩ := hMoving 32 w s ha hl (by decide) (by decide) hb hmoving
  have hkept : t.isl 32 = { phase := 2, target := none } := by rw [← hwrite, ← Host.Outcome.next.inj ht]; rfl
  have hmove : t.isl 32 = ((u.moveVolt 32 (bits w.val.toNat 0 10)).moveFreq 32).isl 32 := congrArg (·.isl 32) htu
  have htarget := u.move_target_of_phase 32 (bits w.val.toNat 0 10) (by rw [← hmove, hkept]; decide)
  rw [← hmove, hkept] at htarget
  exact Option.some_ne_none _ (htarget.trans (congrArg Isl.target hu)).symm

end Sys2Proof.Machine
end

section
/-!
PROOFS. The Girdle and the segment stores' banks (R110 to R114, R275): the direction of a flit, which stop takes a slot, what the
census, a slot and a bank's cycle leave, and the clearing of the Bezel statistics.
-/

namespace Sys2Proof.Machine

/-! ### Frames -/

/-- Fields at different places have different keys. -/
theorem Fld.key_ne_of_place (f g : Fld) {i j : Nat} (hi : i < 65536) (hj : j < 65536) (h : i ≠ j) : f.key i ≠ g.key j := by
  unfold Fld.key
  omega

theorem State.wr_rd_place (s : State) (f g : Fld) {i j : Nat} (v : Nat) (hi : i < 65536) (hj : j < 65536) (h : j ≠ i) :
    (s.wr f i v).rd g j = s.rd g j := State.wr_ne s f i v g (Fld.key_ne_of_place g f hj hi h)

theorem FieldsKept.refl (s : State) (fs : List (Fld × Nat)) : FieldsKept s s fs := ⟨fun _ _ _ => rfl, fun _ _ => rfl⟩

theorem FieldsKept.wr {s t : State} {fs : List (Fld × Nat)} (h : FieldsKept s t fs) {f : Fld} {i : Nat} (hm : (f, i) ∈ fs)
    (v : Nat) : FieldsKept s (t.wr f i v) fs :=
  ⟨fun g j hg => (State.wr_ne t f i v g (hg (f, i) hm)).trans (h.1 g j hg), h.2⟩

/-- What a fold over units leaves of something that only the step of unit `n` changes: what that one step makes of it. -/
theorem foldl_reads_one {β : Type} (r : State → β) (step : State → Nat → State) {n : Nat} (l : List Nat) :
    ∀ t : State, l.Nodup → n ∈ l → (∀ t, ∀ m ∈ l, m ≠ n → r (step t m) = r t) →
      ∃ u, r u = r t ∧ r (l.foldl step t) = r (step u n) := by
  induction l with
  | nil => intro t _ hn; simp at hn
  | cons m l ih =>
    intro t hl hn keep
    obtain ⟨hm, hl⟩ := List.nodup_cons.1 hl
    by_cases h : m = n
    · subst h
      exact ⟨t, rfl, List.foldlRecOn (motive := fun u => r u = r (step t m)) l step rfl fun u hu k hk =>
        (keep u k (.tail _ hk) (ne_of_mem_of_not_mem hk hm)).trans hu⟩
    · obtain ⟨u, hu, hr⟩ := ih (step t m) hl ((List.mem_cons.1 hn).resolve_left (Ne.symm h)) fun t k hk => keep t k (.tail _ hk)
      exact ⟨u, hu.trans (keep t m (.head _) h), hr⟩

/-! ### Directions and classes (R110 to R112) -/

theorem girdleUp_iff_fewer_hops (a b : Fin 34) :
    girdleUp a.val b.val = decide ((b.val + 34 - a.val) % 34 ≤ (a.val + 34 - b.val) % 34) := by
  unfold girdleUp
  rw [decide_eq_decide]
  omega

section SlotClass

variable {s : State} {n c : Nat} {dir spare : Bool}

theorem State.slotClass_own (hn : n < 34) (h : s.takesSlot n c dir spare = true) : s.slotClass n c dir spare = some c := by
  have hany : ((List.range 34).any fun m => s.takesSlot m c dir spare) = true :=
    List.any_eq_true.2 ⟨n, List.mem_range.2 hn, h⟩
  simp [State.slotClass, hany, h]

theorem State.slotClass_left_to_another (h : ∃ m, m < 34 ∧ s.takesSlot m c dir spare = true)
    (hn : s.takesSlot n c dir spare = false) : s.slotClass n c dir spare = none := by
  obtain ⟨m, hm, ht⟩ := h
  have hany : ((List.range 34).any fun m => s.takesSlot m c dir spare) = true :=
    List.any_eq_true.2 ⟨m, List.mem_range.2 hm, ht⟩
  simp [State.slotClass, hany, hn]

/-- A slot that no stop takes as one of its class serves the first of CONTROL, STREAM and BULK that waits (R111). -/
theorem State.slotClass_reused (h : ∀ m, m < 34 → s.takesSlot m c dir spare = false) {k : Nat}
    (hk : s.slotClass n c dir spare = some k) :
    k < 3 ∧ s.takesSlot n k dir spare = true ∧ ∀ j, j < k → s.takesSlot n j dir spare = false := by
  have hany : ((List.range 34).any fun m => s.takesSlot m c dir spare) = false :=
    List.any_eq_false.2 fun m hm => by simp [h m (List.mem_range.1 hm)]
  have hf : (List.range 3).find? (fun k => s.takesSlot n k dir spare) = some k := by
    rw [State.slotClass, hany, if_neg Bool.false_ne_true] at hk
    exact hk
  obtain ⟨ht, hmem, hlt⟩ := List.find?_range_eq_some.1 hf
  exact ⟨List.mem_range.1 hmem, ht, fun j hj => by simpa using hlt j hj⟩

end SlotClass

/-! ### The census (R112, R114) -/

section Census

variable (ctl bulk : List Nat) (s t : State)

/-- The counts of active streams that stop `n` gives a census that begins in `s`. -/
def State.censusCounts (n : Nat) : List Nat :=
  [min 63 (nth ctl n), min 63 (s.streams n).length, min 63 ((s.bulkAt n).length + nth bulk n)]

/-- A census that begins in `s` visits stop `n`. -/
def State.censusVisit (n : Nat) : State :=
  (t.modStop n fun x => { x.quanta ((List.range 3).map s.totals) with n := s.censusCounts ctl bulk n, winB := nth bulk n }).showGirdle
    n (s.censusCounts ctl bulk n) ((List.range 3).map s.totals)

/-- The state after a census: every stop visited, then the totals of its counts taken. -/
def State.census : State :=
  (List.range 3).foldl (fun t c => t.setTotals c (((List.range 34).map fun n => nth (s.censusCounts ctl bulk n) c).sum))
    ((List.range 34).foldl (s.censusVisit ctl bulk) s)

theorem exec_girdleCensus : exec (.girdleCensus ctl bulk) s = chipOnly s (s.census ctl bulk) := rfl

/-- What a census changes: fields of the FCT pages, the stops and the totals. -/
structure CensusFrame (s t : State) (fs : List (Fld × Nat)) : Prop where
  kept : FieldsKept s t fs
  rest : t = { s with chip := { s.chip with regs := t.chip.regs, stop := t.chip.stop, totals := t.chip.totals } }

namespace CensusFrame

variable {s t : State} {fs : List (Fld × Nat)}

theorem refl (s : State) (fs : List (Fld × Nat)) : CensusFrame s s fs := ⟨.refl s fs, rfl⟩

theorem wr (h : CensusFrame s t fs) {f : Fld} {i : Nat} (hm : (f, i) ∈ fs) (v : Nat) : CensusFrame s (t.wr f i v) fs :=
  ⟨h.kept.wr hm v, congrArg (fun x => x.wr f i v) h.rest⟩

theorem setStop (h : CensusFrame s t fs) (n : Nat) (x : Stop) : CensusFrame s (t.setStop n x) fs :=
  ⟨h.kept, by rw [h.rest]; rfl⟩

theorem setTotals (h : CensusFrame s t fs) (c v : Nat) : CensusFrame s (t.setTotals c v) fs :=
  ⟨h.kept, by rw [h.rest]; rfl⟩

theorem chip_eq (h : CensusFrame s t fs) : { s with chip := t.chip } = t := by rw [h.rest]

end CensusFrame

theorem stopFacet_islandOf {f : Nat} (h : f < 32) : stopFacet (islandOf f) = some f := by
  unfold islandOf
  split <;> simp [stopFacet] <;> omega

theorem stopFacet_eq_some {n f : Nat} (hn : n < 34) (h : stopFacet n = some f) : f < 32 ∧ n = islandOf f := by
  unfold stopFacet at h
  unfold islandOf
  split at h
  · simp at h
  · split at h <;> obtain rfl := Option.some.inj h <;> split <;> omega

/-- The fields of the FCT page of Facet `f` that show a census. -/
def girdleFields (f : Nat) : List (Fld × Nat) :=
  [(FCT_GIRDLE_N.CONTROL, f), (FCT_GIRDLE_N.STREAM, f), (FCT_GIRDLE_N.BULK, f), (FCT_GIRDLE_TOT.CONTROL, f),
    (FCT_GIRDLE_TOT.STREAM, f), (FCT_GIRDLE_TOT.BULK, f)]

/-- The stop of a Facet shows its counts and the totals (R114). -/
theorem State.showGirdle_facet {f : Nat} (hf : f < 32) (a b : List Nat) :
    t.showGirdle (islandOf f) a b =
      (((((t.wr FCT_GIRDLE_N.CONTROL f (nth a 0)).wr FCT_GIRDLE_N.STREAM f (nth a 1)).wr FCT_GIRDLE_N.BULK f (nth a 2)).wr
        FCT_GIRDLE_TOT.CONTROL f (nth b 0)).wr FCT_GIRDLE_TOT.STREAM f (nth b 1)).wr FCT_GIRDLE_TOT.BULK f (nth b 2) := by
  rw [State.showGirdle, stopFacet_islandOf hf]

theorem State.showGirdle_stop (n m : Nat) (a b : List Nat) : (t.showGirdle n a b).stop m = t.stop m := by
  unfold State.showGirdle
  split <;> rfl

theorem State.showGirdle_rd {f : Nat} (hf : f < 32) (a b : List Nat) :
    ((t.showGirdle (islandOf f) a b).rd FCT_GIRDLE_TOT.CONTROL f = nth b 0 % 2 ^ 8 ∧
      (t.showGirdle (islandOf f) a b).rd FCT_GIRDLE_TOT.STREAM f = nth b 1 % 2 ^ 8 ∧
      (t.showGirdle (islandOf f) a b).rd FCT_GIRDLE_TOT.BULK f = nth b 2 % 2 ^ 8) ∧
    (t.showGirdle (islandOf f) a b).rd FCT_GIRDLE_N.CONTROL f = nth a 0 % 2 ^ 8 ∧
      (t.showGirdle (islandOf f) a b).rd FCT_GIRDLE_N.STREAM f = nth a 1 % 2 ^ 8 ∧
      (t.showGirdle (islandOf f) a b).rd FCT_GIRDLE_N.BULK f = nth a 2 % 2 ^ 8 := by
  rw [State.showGirdle_facet t hf]
  refine ⟨⟨?_, ?_, ?_⟩, ?_, ?_, ?_⟩ <;> simp (disch := decide) only [State.wr_rd_ne, State.wr_same] <;> rfl

/-- A stop shows nothing on the page of another stop's Facet. -/
theorem State.showGirdle_rd_other {n f : Nat} (hn : n < 34) (hf : f < 32) (h : n ≠ islandOf f) (a b : List Nat) (g : Fld) :
    (t.showGirdle n a b).rd g f = t.rd g f := by
  cases hs : stopFacet n with
  | none => rw [State.showGirdle, hs]
  | some k =>
    obtain ⟨hk, rfl⟩ := stopFacet_eq_some hn hs
    have hkf : f ≠ k := fun e => h (e ▸ rfl)
    rw [State.showGirdle_facet t hk]
    simp only [State.wr_rd_place _ _ g _ (show k < 65536 by omega) (show f < 65536 by omega) hkf]

theorem CensusFrame.showGirdle {s t : State} {fs : List (Fld × Nat)} (h : CensusFrame s t fs) {n : Nat} (hn : n < 34)
    (hfs : ∀ f < 32, girdleFields f ⊆ fs) (a b : List Nat) : CensusFrame s (t.showGirdle n a b) fs := by
  cases hs : stopFacet n with
  | none => rwa [State.showGirdle, hs]
  | some f =>
    obtain ⟨hf, rfl⟩ := stopFacet_eq_some hn hs
    have hm {x : Fld × Nat} (hx : x ∈ girdleFields f) : x ∈ fs := hfs f hf hx
    rw [State.showGirdle_facet t hf]
    exact (((((h.wr (hm (by simp [girdleFields])) _).wr (hm (by simp [girdleFields])) _).wr (hm (by simp [girdleFields])) _).wr
      (hm (by simp [girdleFields])) _).wr (hm (by simp [girdleFields])) _).wr (hm (by simp [girdleFields])) _

theorem State.census_frame :
    CensusFrame s (s.census ctl bulk) ((List.range 32).flatMap girdleFields) := by
  have hfs : ∀ f < 32, girdleFields f ⊆ (List.range 32).flatMap girdleFields := fun f hf _ hx =>
    List.mem_flatMap.2 ⟨f, List.mem_range.2 hf, hx⟩
  have hvisits : CensusFrame s ((List.range 34).foldl (s.censusVisit ctl bulk) s) ((List.range 32).flatMap girdleFields) :=
    List.foldlRecOn (motive := fun t => CensusFrame s t _) _ _ (.refl s _) fun _ h n hn =>
      (h.setStop n _).showGirdle (List.mem_range.1 hn) hfs _ _
  exact List.foldlRecOn (motive := fun t => CensusFrame s t _) _ _ hvisits fun _ h c _ => h.setTotals c _

/-- What the totals do not show, a census leaves as the visits of the stops left it. -/
theorem State.census_eq_visits {β : Type} (r : State → β) (h : ∀ t c v, r (State.setTotals t c v) = r t) :
    r (s.census ctl bulk) = r ((List.range 34).foldl (s.censusVisit ctl bulk) s) := by
  unfold State.census
  exact List.foldlRecOn (motive := fun t => r t = r ((List.range 34).foldl (s.censusVisit ctl bulk) s)) _ _ rfl
    fun _ ht c _ => (h _ c _).trans ht

/-- A census gives each stop its quanta and collects its counts. -/
theorem State.census_stop {n : Nat} (hn : n < 34) :
    (s.census ctl bulk).stop n = { (s.stop n).quanta ((List.range 3).map s.totals) with
      n := s.censusCounts ctl bulk n, winB := nth bulk n } := by
  obtain ⟨u, hu, hr⟩ := foldl_reads_one (·.stop n) (s.censusVisit ctl bulk) (List.range 34) s List.nodup_range
    (List.mem_range.2 hn) fun t m _ hm => by
      dsimp only [State.censusVisit]
      rw [State.showGirdle_stop, State.modStop_eq, State.setStop_ne _ _ _ (Ne.symm hm)]
  refine (State.census_eq_visits ctl bulk s (·.stop n) fun _ _ _ => rfl).trans (hr.trans ?_)
  dsimp only [State.censusVisit] at hu ⊢
  rw [State.showGirdle_stop, State.modStop_eq, State.setStop_same, hu]

/-- A Facet shows what the visit of its stop shows. -/
theorem State.census_rd {f : Nat} (hf : f < 32) : ∃ u : State, ∀ g : Fld, (s.census ctl bulk).rd g f =
    (u.showGirdle (islandOf f) (s.censusCounts ctl bulk (islandOf f)) ((List.range 3).map s.totals)).rd g f := by
  have hn : islandOf f < 34 := by unfold islandOf; split <;> omega
  obtain ⟨u, -, hr⟩ := foldl_reads_one (fun t g => t.rd g f) (s.censusVisit ctl bulk) (List.range 34) s List.nodup_range
    (List.mem_range.2 hn) fun t m hm hmn => funext fun g =>
      State.showGirdle_rd_other _ (List.mem_range.1 hm) hf hmn _ _ g
  exact ⟨_, fun g => (State.census_eq_visits ctl bulk s (·.rd g f) fun _ _ _ => rfl).trans (congrFun hr g)⟩

theorem State.census_totals (c : Fin 3) :
    (s.census ctl bulk).totals c.val = ((List.range 34).map fun n => nth (s.censusCounts ctl bulk n) c.val).sum := by
  obtain ⟨u, -, hr⟩ := foldl_reads_one (·.totals c.val)
    (fun t c => t.setTotals c (((List.range 34).map fun n => nth (s.censusCounts ctl bulk n) c).sum)) (List.range 3)
    ((List.range 34).foldl (s.censusVisit ctl bulk) s) List.nodup_range (List.mem_range.2 c.isLt)
    fun t m _ hm => State.setTotals_ne _ _ _ (Ne.symm hm)
  exact hr.trans (State.setTotals_same _ _ _)

end Census

/-! ### A slot (R110 to R112) -/

section Slot

variable {n : Fin 34} {c : Fin 3} {dir spare : Bool} {s : State}

/-- The stop after a slot of class `c` has come by. -/
def Stop.offered (x : Stop) (c : Nat) (dir : Bool) : Stop :=
  { x with slots := x.slots.set (dirIx c dir) (nth x.slots (dirIx c dir) + 1) }

/-- The stop after it has put a flit of stream `m` of class `k` into the slot. -/
def Stop.served (x : Stop) (k m : Nat) (dir spare : Bool) : Stop :=
  { x with
    deficit := if spare then x.deficit else x.deficit.set (dirIx k dir) (nth x.deficit (dirIx k dir) - 256)
    last := x.last.set k m }

/-- A class whose slots of the period have all come by is offered no more (R111). -/
theorem exec_girdleFlitInsert_full (h : slotsOf c.val ≤ nth (s.stop n.val).slots (dirIx c.val dir)) :
    exec (.girdleFlitInsert n c dir spare) s = chipOnly s s := by
  simp only [exec, execGirdleFlitInsert, if_neg (Nat.not_lt.2 h)]

variable (h : nth (s.stop n.val).slots (dirIx c.val dir) < slotsOf c.val)

include h

theorem exec_girdleFlitInsert_passed (hk : s.slotClass n.val c.val dir spare = none) :
    exec (.girdleFlitInsert n c dir spare) s = chipOnly s (s.setStop n.val ((s.stop n.val).offered c.val dir)) := by
  simp only [exec, execGirdleFlitInsert, if_pos h, hk, Stop.offered]

theorem exec_girdleFlitInsert_flit {k m : Nat} (hk : s.slotClass n.val c.val dir spare = some k)
    (hm : rotate (nth (s.stop n.val).last k) (s.streamsDir n.val k dir) = some m) (hkm : k ≠ 1 ∨ m ≠ 16) :
    exec (.girdleFlitInsert n c dir spare) s =
      chipOnly s (s.setStop n.val (((s.stop n.val).offered c.val dir).served k m dir spare)) := by
  have hsp : ¬ (k = 1 ∧ m = 16) := by omega
  simp only [exec, execGirdleFlitInsert, if_pos h, hk, hm, if_neg hsp, Stop.offered, Stop.served]
  cases stopFacet n.val <;> rfl

theorem exec_girdleFlitInsert_spill {f : Nat} (hk : s.slotClass n.val c.val dir spare = some 1)
    (hm : rotate (nth (s.stop n.val).last 1) (s.streamsDir n.val 1 dir) = some 16) (hf : stopFacet n.val = some f) :
    exec (.girdleFlitInsert n c dir spare) s =
      chipOnly s ((s.setStop n.val (((s.stop n.val).offered c.val dir).served 1 16 dir spare)).spillUnit f) := by
  simp only [exec, execGirdleFlitInsert, if_pos h, hk, hm, hf, Stop.offered, Stop.served, and_self, if_true]

end Slot

/-- A command that replaces one stop changes nothing else. -/
theorem gives_setStop {i : Instr} {s : State} {n : Nat} {x : Stop} (h : exec i s = chipOnly s (s.setStop n x)) :
    Gives i s fun t => t.stop n = x ∧ Others s.stop t.stop n ∧ t = { s with chip := { s.chip with stop := t.chip.stop } } :=
  gives_chipOnly h ⟨State.setStop_same s n x, fun _ hj => State.setStop_ne s n x hj, rfl⟩

/-! ### A bank's cycle (R113) -/

section Bank

variable {f : Fin 32} {bank : Fin 4} {ports : BitVec 16} {refill part : Bool} {s : State}

/-- The ports of the busy engines that ask for a line. -/
abbrev State.bankPorts (s : State) (f : Nat) (ports : BitVec 16) : List Nat :=
  (List.range 16).filter fun k => bit ports.toNat k && s.engBusy (16 * f + k)

/-- The lines of the bank that bursts are about to write. -/
abbrev State.bankLines (s : State) (f bank : Nat) : List (Nat × Bool) :=
  (s.linesAsked f).filter fun l => storeBankOf l.1 == bank

/-- The ports' waits after a cycle that left the ports `ask` waiting. -/
abbrev StoreBank.waited (x : StoreBank) (ask : List Nat) : List (Nat × Nat) := ask.map fun j => (j, Sparse.get 0 x.waits j + 1)

/-- The refill write's wait after a cycle that did not grant it. -/
abbrev StoreBank.refillWaited (x : StoreBank) (asks : Bool) : Nat := if asks then x.refill + 1 else 0

/-- The slot goes to the refill write, which takes a second cycle where it covers part of a line. -/
abbrev State.grantRefill (s : State) (f bank : Nat) (ports : BitVec 16) (refill part : Bool) : State :=
  s.setSbank (4 * f + bank)
    { s.sbank (4 * f + bank) with
      second := if refill then part else (s.bankLines f bank).any (·.2)
      waits := (s.sbank (4 * f + bank)).waited (s.bankPorts f ports)
      refill := 0 }

/-- The ports that wait where the slot goes to none of them: all that ask. -/
theorem filter_none_ne (ask : List Nat) : (ask.filter fun k => (none : Option Nat) != some k) = ask :=
  List.filter_eq_self.2 fun _ _ => rfl

theorem exec_storeBankGrant_second (h2 : (s.sbank (4 * f.val + bank.val)).second = true) :
    exec (.storeBankGrant f bank ports refill part) s = chipOnly s (s.setSbank (4 * f.val + bank.val)
      { s.sbank (4 * f.val + bank.val) with
        second := false
        waits := (s.sbank (4 * f.val + bank.val)).waited (s.bankPorts f.val ports)
        refill := (s.sbank (4 * f.val + bank.val)).refillWaited (refill || s.bankLines f.val bank.val != []) }) := by
  simp only [exec, execStoreBankGrant, h2, if_true, filter_none_ne]

variable (h2 : (s.sbank (4 * f.val + bank.val)).second = false)

include h2

/-- A refill write that no port contends with, or that has waited three cycles, takes the slot. -/
theorem exec_storeBankGrant_refill (hr : refill = true ∨ s.bankLines f.val bank.val ≠ [])
    (hw : 3 ≤ (s.sbank (4 * f.val + bank.val)).refill ∨ s.bankPorts f.val ports = []) :
    exec (.storeBankGrant f bank ports refill part) s =
      chipOnly s (if s.bankPorts f.val ports == [] then s.grantRefill f.val bank.val ports refill part
        else (s.grantRefill f.val bank.val ports refill part).inc FCT_STORE_ARB.REFILL_FORCED f.val) := by
  have ha : (refill || s.bankLines f.val bank.val != []) = true := by simpa using hr
  have hg : (decide (3 ≤ (s.sbank (4 * f.val + bank.val)).refill) || s.bankPorts f.val ports == []) = true := by simpa using hw
  simp only [exec, execStoreBankGrant, h2, ha, hg, Bool.true_and, if_true, filter_none_ne, Bool.false_eq_true, if_false]

/-- A port is served in turn while no refill write is forced. -/
theorem exec_storeBankGrant_port {k : Nat}
    (hr : (refill = false ∧ s.bankLines f.val bank.val = []) ∨ (s.sbank (4 * f.val + bank.val)).refill < 3)
    (hk : rotate (s.sbank (4 * f.val + bank.val)).last (s.bankPorts f.val ports) = some k) :
    exec (.storeBankGrant f bank ports refill part) s = chipOnly s ((s.setSbank (4 * f.val + bank.val)
      { s.sbank (4 * f.val + bank.val) with
        last := k
        waits := (s.sbank (4 * f.val + bank.val)).waited ((s.bankPorts f.val ports).filter fun j => some k != some j)
        refill := (s.sbank (4 * f.val + bank.val)).refillWaited (refill || s.bankLines f.val bank.val != []) }).wr
      FCT_STORE_ARB.ENG_WAIT_MAX f.val (max (s.rd FCT_STORE_ARB.ENG_WAIT_MAX f.val)
        (min 255 (Sparse.get 0 (s.sbank (4 * f.val + bank.val)).waits k)))) := by
  have hne : (s.bankPorts f.val ports == []) = false := by
    rw [beq_eq_false_iff_ne]
    intro e
    simp [e, rotate] at hk
  have hg : ((refill || s.bankLines f.val bank.val != []) &&
      (decide (3 ≤ (s.sbank (4 * f.val + bank.val)).refill) || s.bankPorts f.val ports == [])) = false := by
    rw [hne]
    rcases hr with ⟨hr, hl⟩ | hr
    · simp [hr, hl]
    · simp [hr]
  simp only [exec, execStoreBankGrant, h2, hg, hk, Bool.false_eq_true, if_false]

theorem exec_storeBankGrant_idle (hr : refill = false) (hl : s.bankLines f.val bank.val = [])
    (hp : s.bankPorts f.val ports = []) :
    exec (.storeBankGrant f bank ports refill part) s =
      chipOnly s (s.setSbank (4 * f.val + bank.val) { s.sbank (4 * f.val + bank.val) with waits := [], refill := 0 }) := by
  simp [exec, execStoreBankGrant, h2, hr, hl, hp, rotate]

end Bank

/-- A command that replaces one bank changes nothing else. -/
theorem gives_setSbank {i : Instr} {s : State} {b : Nat} {x : StoreBank} (h : exec i s = chipOnly s (s.setSbank b x)) :
    Gives i s fun t => t.sbank b = x ∧ Others s.sbank t.sbank b ∧ t = { s with chip := { s.chip with sbank := t.chip.sbank } } :=
  gives_chipOnly h ⟨State.setSbank_same s b x, fun _ hj => State.setSbank_ne s b x hj, rfl⟩

/-- A command that replaces one bank and writes one field changes nothing else. -/
theorem gives_setSbank_wr {i : Instr} {s : State} {b : Nat} {x : StoreBank} {g : Fld} {j v : Nat}
    (h : exec i s = chipOnly s ((s.setSbank b x).wr g j v)) :
    Gives i s fun t => t.sbank b = x ∧ t.rd g j = v % 2 ^ g.w ∧ Others s.sbank t.sbank b ∧ FieldsKept s t [(g, j)] ∧
      t = { s with chip := { s.chip with regs := t.chip.regs, sbank := t.chip.sbank } } :=
  gives_chipOnly h ⟨State.setSbank_same s b x, State.wr_same _ g j v, fun _ hj => State.setSbank_ne s b x hj,
    (FieldsKept.refl s _).wr (.head _) v, rfl⟩

/-! ### The Bezel statistics (R114) -/

section BezelClr

variable (f : Nat) (s t : State)

/-- The Bezel statistics of lane `k` of Facet `f` cleared. -/
def State.clearBezel (k : Nat) : State :=
  ((t.wr FCT_BEZEL_STAT.UNDERRUN_COUNT (8 * f + k) 0).wr FCT_BEZEL_STAT.LOW_COUNT (8 * f + k) 0).wr
    FCT_BEZEL_STAT.MIN_FILL (8 * f + k) 0x3FF

/-- The Bezel statistics and FCT_STORE_ARB of Facet `f` cleared. -/
def State.clearStats : State :=
  (((List.range 8).foldl (State.clearBezel f) t).wr FCT_STORE_ARB.REFILL_FORCED f 0).wr FCT_STORE_ARB.ENG_WAIT_MAX f 0

theorem bit_orBits_one (w : Wr) : bit (orBits w 0x1).val.toNat 0 = true := by
  simp [orBits, bit, bits, Nat.or_mod_two_eq_one]

theorem exec_fctBezelClr {f : Fin 32} {w : Wr} (ha : Accepted s w (pgFct f.val)) :
    exec (.fctBezelClr f w) s = chipOnly s ((s.collide w.req (pgFct f.val * 4096 + 0x054)).clearStats f.val) := by
  have ha' : Accepted s (orBits w 0x1) (pgFct f.val) := ha
  simp only [exec, execFctBezelClr, State.writeBezelClr, State.write_ok ha' rfl, bit_orBits_one, if_true]
  rfl

/-- The statistics fields of Facet `f`, and the count that the arrival of the write may advance (R67). -/
def statFields : List (Fld × Nat) :=
  [(FCT_STORE_ARB.REFILL_FORCED, f), (FCT_STORE_ARB.ENG_WAIT_MAX, f), (HOST_STAT.COLLIDE_COUNT, 0)] ++
    (List.range 8).flatMap fun k => [(FCT_BEZEL_STAT.UNDERRUN_COUNT, 8 * f + k), (FCT_BEZEL_STAT.LOW_COUNT, 8 * f + k),
      (FCT_BEZEL_STAT.MIN_FILL, 8 * f + k)]

theorem mem_statFields_lane {k : Nat} (hk : k < 8) {x : Fld × Nat} (hx : x ∈ [(FCT_BEZEL_STAT.UNDERRUN_COUNT, 8 * f + k),
    (FCT_BEZEL_STAT.LOW_COUNT, 8 * f + k), (FCT_BEZEL_STAT.MIN_FILL, 8 * f + k)]) : x ∈ statFields f :=
  List.mem_append_right _ (List.mem_flatMap.2 ⟨k, List.mem_range.2 hk, hx⟩)

theorem RegFrame.clearBezel {s t : State} {f k : Nat} (h : RegFrame s t (statFields f)) (hk : k < 8) :
    RegFrame s (t.clearBezel f k) (statFields f) :=
  ((h.wr (mem_statFields_lane f hk (by simp)) _).wr (mem_statFields_lane f hk (by simp)) _).wr
    (mem_statFields_lane f hk (by simp)) _

theorem RegFrame.clearStats {s t : State} {f : Nat} (h : RegFrame s t (statFields f)) :
    RegFrame s (t.clearStats f) (statFields f) := by
  have hlanes : RegFrame s ((List.range 8).foldl (State.clearBezel f) t) (statFields f) :=
    List.foldlRecOn (motive := fun t => RegFrame s t (statFields f)) _ _ h fun _ h k hk => h.clearBezel (List.mem_range.1 hk)
  exact (hlanes.wr (by simp [statFields]) _).wr (by simp [statFields]) _

theorem State.clearStats_storeArb :
    (t.clearStats f).rd FCT_STORE_ARB.REFILL_FORCED f = 0 ∧ (t.clearStats f).rd FCT_STORE_ARB.ENG_WAIT_MAX f = 0 := by
  unfold State.clearStats
  constructor <;> simp (disch := decide) only [State.wr_rd_ne, State.wr_same] <;> rfl

/-- What a lane's statistics read once they are cleared is what the lane's own clearing leaves. -/
theorem State.clearStats_lane (hf : f < 32) {k : Nat} (hk : k < 8) :
    (t.clearStats f).rd FCT_BEZEL_STAT.UNDERRUN_COUNT (8 * f + k) = 0 ∧
      (t.clearStats f).rd FCT_BEZEL_STAT.LOW_COUNT (8 * f + k) = 0 ∧
      (t.clearStats f).rd FCT_BEZEL_STAT.MIN_FILL (8 * f + k) = 0x3FF := by
  obtain ⟨u, -, hr⟩ := foldl_reads_one (fun t g => t.rd g (8 * f + k)) (State.clearBezel f) (List.range 8) t List.nodup_range
    (List.mem_range.2 hk) fun t m hm hmk => funext fun g => by
      have := List.mem_range.1 hm
      have hne : 8 * f + k ≠ 8 * f + m := by omega
      simp only [State.clearBezel, State.wr_rd_place _ _ g _ (show 8 * f + m < 65536 by omega)
        (show 8 * f + k < 65536 by omega) hne]
  have hlane (g : Fld) := congrFun hr g
  dsimp only [State.clearBezel] at hlane
  unfold State.clearStats
  refine ⟨?_, ?_, ?_⟩ <;> simp (disch := decide) only [State.wr_rd_ne, hlane, State.wr_same] <;> rfl

end BezelClr

/-- Settles O13: the classes of a slot, then one equation of the command for each way it can go. -/
theorem girdleAndStoreSlots : Obligations.GirdleAndStoreSlots := by
  unfold Obligations.GirdleAndStoreSlots
  refine ⟨girdleUp_iff_fewer_hops, ?slotClass, ?census, ?flit, ?spill, ?passed, ?full, ?port, ?forced, ?refill, ?second, ?idle,
    ?clear⟩
  case slotClass =>
    intro s n c dir spare hn
    exact ⟨State.slotClass_own hn, State.slotClass_left_to_another, fun h _ hk => State.slotClass_reused h hk⟩
  case census =>
    intro ctl bulk s
    have hf := s.census_frame ctl bulk
    refine gives_chipOnly (exec_girdleCensus ctl bulk s) ?_
    rw [hf.chip_eq]
    refine ⟨fun n => s.census_stop ctl bulk n.isLt, s.census_totals ctl bulk, fun f => ?_, fun f => ?_, hf.kept, hf.rest⟩
    · obtain ⟨u, hu⟩ := s.census_rd ctl bulk f.isLt
      simp only [hu]
      exact (u.showGirdle_rd f.isLt _ _).1
    · obtain ⟨u, hu⟩ := s.census_rd ctl bulk f.isLt
      have hcut (x : Nat) : min 63 x % 2 ^ 8 = min 63 x := Nat.mod_eq_of_lt (by omega)
      have hshown := (u.showGirdle_rd f.isLt (s.censusCounts ctl bulk (islandOf f)) ((List.range 3).map s.totals)).2
      simpa only [hu, State.censusCounts, nth, List.getElem?_cons_zero, List.getElem?_cons_succ, Option.getD_some, hcut] using hshown
  case flit =>
    intro n c k m dir spare s hs hk hm hkm
    exact gives_setStop (exec_girdleFlitInsert_flit hs hk hm hkm)
  case spill =>
    intro n c f dir spare s hs hk hm hf
    exact gives_chipOnly (exec_girdleFlitInsert_spill hs hk hm hf)
      ⟨_, State.setStop_same _ _ _, fun _ hj => State.setStop_ne _ _ _ hj, rfl, rfl⟩
  case passed =>
    intro n c dir spare s hs hk
    exact gives_setStop (exec_girdleFlitInsert_passed hs hk)
  case full =>
    intro n c dir spare s hs
    exact gives_chipOnly (exec_girdleFlitInsert_full hs) rfl
  case port =>
    intro f bank ports refill part k s h2 hr hk
    exact gives_setSbank_wr (exec_storeBankGrant_port h2 hr hk)
  case forced =>
    intro f bank ports refill part s h2 hr hw hp
    have he := exec_storeBankGrant_refill (part := part) (ports := ports) h2 hr (.inl hw)
    rw [if_neg (by simpa using hp), State.inc_eq] at he
    refine (gives_setSbank_wr he).mono fun t ⟨hx, hc, ho, hk, ht⟩ => ⟨hx, hc.trans ?_, ho, hk, ht⟩
    exact Nat.mod_eq_of_lt (Nat.lt_of_le_of_lt (Nat.min_le_left _ _) (by decide))
  case refill =>
    intro f bank ports refill part s h2 hr hp
    have he := exec_storeBankGrant_refill (part := part) (ports := ports) h2 hr (.inr hp)
    rw [if_pos (by simpa using hp)] at he
    refine (gives_setSbank he).mono fun t ⟨hx, ho, ht⟩ => ⟨hx.trans ?_, ho, ht⟩
    simp [hp]
  case second =>
    intro f bank ports refill part s h2
    exact gives_setSbank (exec_storeBankGrant_second h2)
  case idle =>
    intro f bank ports refill part s h2 ⟨hr, hl, hp⟩
    exact gives_setSbank (exec_storeBankGrant_idle h2 hr hl hp)
  case clear =>
    intro f w s ha
    have hf := ((RegFrame.refl s (statFields f)).collide (by simp [statFields]) w.req (pgFct f * 4096 + 0x054)).clearStats
    refine gives_chipOnly (exec_fctBezelClr s ha) ?_
    rw [hf.chip_eq]
    exact ⟨fun k => State.clearStats_lane _ _ f.isLt k.isLt, (State.clearStats_storeArb _ _).1, (State.clearStats_storeArb _ _).2,
      hf.kept, hf.rest⟩

end Sys2Proof.Machine
end
